-- ==== Sys2Proof/Word.lean ====
section
/-! DEFINITION. The words of the AX836: bytes, 32-bit register words, 36-bit words (R8, R39), 64-bit module times (R26), and
the plainest arithmetic on them. -/

namespace Sys2Proof

abbrev Byte := BitVec 8
abbrev Word := BitVec 32
abbrev Word36 := BitVec 36
abbrev Time := BitVec 64

/-- A saturating increment of a counter of `w` bits. -/
def satInc (w n : Nat) : Nat := min (n + 1) (2 ^ w - 1)

/-- A saturating addition of `d` to a counter of `w` bits. -/
def satAdd (w n d : Nat) : Nat := min (n + d) (2 ^ w - 1)

/-- `n` held within `lo` and `hi`. -/
def clampInt (lo hi n : Int) : Int := max lo (min hi n)

/-- Bit `i` of a number. -/
def bitAt (n i : Nat) : Bool := n.testBit i

/-- Bits [lo + w - 1 : lo] of a number. -/
def bitsOf (n lo w : Nat) : Nat := (n >>> lo) % 2 ^ w

/-- The signed value of the low `w` bits of a number. -/
def signedOf (w n : Nat) : Int :=
  let m := n % 2 ^ w
  if m < 2 ^ (w - 1) then (m : Int) else (m : Int) - (2 : Int) ^ w

/-- The `w`-bit two's complement code of an integer. -/
def codeOf (w : Nat) (i : Int) : Nat := (i % (2 : Int) ^ w).toNat

/-- A Bool as a one-bit field value. -/
def bit (b : Bool) : Nat := if b then 1 else 0

/-- `n` with bit `i` set. -/
def setBit (n i : Nat) : Nat := n ||| 2 ^ i

/-- `n` with bit `i` cleared. -/
def clearBit (n i : Nat) : Nat := if n.testBit i then n - 2 ^ i else n

/-- The numbers below `k` whose bit is set in `n`, rising. -/
def bitsSet (k n : Nat) : List Nat := (List.range k).filter fun i => n.testBit i

end Sys2Proof
end

