-- ==== Sys2Proof/Syntax.lean ====
section
/-! DEFINITION. The commands of the block: one constructor per row of spec/opcode_table.json, with what the row's step takes
from its surroundings as operands (an index, the value written, a frame, a measured quantity). -/

namespace Sys2Proof

/-- Who issued an access: a core pair, the host, or the debug module (R31, R40: latches are private to the requester). -/
inductive Requester where
  | pair (n : Fin 12) | host | debug
  deriving DecidableEq, Repr, Inhabited

/-- The permit codes of R123; an LV leg reads `safeOn` as SAFE_HS, and `safeLs` is invalid at a satellite. -/
inductive Permit where
  | safeOff | permit | safeOn | safeLs
  deriving DecidableEq, Repr, Inhabited

/-- What an engine meets in the words an instruction reads, its own program word included (R187): nothing, a corrected single-bit
error, an uncorrectable error in its private memory or in table RAM. -/
inductive Ecc where
  | clean | corrected | lostPrivate | lostTable
  deriving DecidableEq, Repr, Inhabited

/-- A word to read, and the outcome of its error correction (R187). -/
structure WordRead where
  addr : Word
  ecc : Ecc := .clean
  deriving DecidableEq, Repr, Inhabited

/-- The slot event of a feedback interface, and how many ticks ago it fired (R178, R181). -/
structure SlotEvent where
  n : Fin 8
  ago : Fin 33 := 0
  deriving DecidableEq, Repr, Inhabited

/-- The counters of a core that are read as transactions (R32, R346). -/
inductive Counter where
  | time | timeh | cycle | cycleh | mcycle | mcycleh
  deriving DecidableEq, Repr, Inhabited

/-- The asynchronous values of a pair: the pending-interrupt bits of mip, sip and uip, and CSR 0xFC0 (R350). -/
inductive AsyncSrc where
  | pending | lkstat
  deriving DecidableEq, Repr, Inhabited

/-- Kind of a core transaction (R344). -/
inductive TxKind where
  | read | write | atomic
  /-- A read of one of the core's counters (R32, R346). -/
  | counter (c : Counter)
  deriving DecidableEq, Repr, Inhabited

/-- A transaction as one copy of a pair issues it (R344): `attr` is the value of lane 2, which carries the kind, the size in bytes, the
byte enables, the class and the ordering bits. -/
structure CopyItem where
  kind : TxKind := .read
  addr : Word := 0
  data : Word := 0
  size : Nat := 4
  attr : Word := 0
  deriving DecidableEq, Repr, Inhabited

/-- A transaction of one copy, and the outcome of the error correction of a word it reads (R187, R344). -/
structure CopyAccess where
  item : CopyItem
  ecc : Ecc := .clean
  deriving DecidableEq, Repr, Inhabited

/-- What a copy knows when a notice reaches it (R349): its retire count, and whether it waits in WFI. -/
structure CopyCount where
  retired : Nat
  wfi : Bool := false
  deriving DecidableEq, Repr, Inhabited

/-- A read of an asynchronous value (R350), with the sample of one copy. -/
structure AsyncSample where
  src : AsyncSrc
  value : Word
  deriving DecidableEq, Repr, Inhabited

/-- A debug action (R354, R509): a register, CSR or trigger write of a core, a single step, a run of the program buffer, or a
system-bus access of the module itself. -/
inductive DebugAct where
  | coreWrite (reg : Nat) (value : Word) | step | programBuffer | busWrite (addr data : Word) | busRead (addr : Word)
  deriving DecidableEq, Repr, Inhabited

/-- A scan of the boundary register (R504): the levels its cells capture, and the bits that stand in it at Update-DR. -/
structure BoundaryScan where
  pins : BitVec 612
  shifted : BitVec 612
  deriving DecidableEq, Repr, Inhabited

/-- A load of the TAP's instruction register (R500, R501), and a scan of the data register that follows it. -/
structure TapLoad where
  code : BitVec 5
  scan : Option BoundaryScan := none
  deriving DecidableEq, Repr, Inhabited

/-- What a port sees when it goes down (R435, R444): the code violations, and whether a fragment from it was being forwarded. -/
structure PortLoss where
  violations : Nat
  cut : Bool := false
  deriving DecidableEq, Repr, Inhabited

/-- A CAN frame (R466, R473): identifier, format, DLC and data. -/
structure CanFrame where
  id : Nat := 0
  ide : Bool := false
  rtr : Bool := false
  fdf : Bool := false
  brs : Bool := false
  esi : Bool := false
  dlc : Nat := 0
  data : List Byte := []
  deriving DecidableEq, Repr, Inhabited

/-- The errors of CAN_STAT.LEC (R481). -/
inductive CanError where
  | stuff | form | ack | bit1 | bit0 | crc
  deriving DecidableEq, Repr, Inhabited

/-- How a transmit attempt ends without success (R476, R477): lost arbitration, or an error; `quiet` says of an acknowledgement error
that the passive error flag met no dominant bit. -/
inductive CanAttempt where
  | lost | error (e : CanError) (quiet : Bool)
  deriving DecidableEq, Repr, Inhabited


/-- How a satellite's self-test ends (R508). -/
inductive SstResult where
  | pass | failed (item : Fin 5) | silent
  deriving DecidableEq, Repr, Inhabited


/-- What the running step of a start finds in the module (R56-R61). -/
structure StepReport where
  /-- Step 2: an island with a clock fault. -/
  clock : Option (Fin 42) := none
  /-- Step 3: an uncorrectable error in the boot ROM; in the memories of a bank (R382); VCORE out of range at 60 ms (R522). -/
  rom : Bool := false
  banks : BitVec 36 := 0
  /-- Step 3 of a warm start: correctable errors that the scrub finds in the memories of engines: engine and number (R58). -/
  ecc : List (Fin 32 × Nat) := []
  vcoreBad : Bool := false
  /-- Step 4: lane j of pair n failed its injection test, at bit 5n + j (R353). -/
  lanes : BitVec 60 := 0
  /-- Step 5: the Saggar item that failed, 1-6 (R329). -/
  item : Option (Fin 7) := none
  /-- After step 6 of a cold start on the PMBus path: what VOUT_MODE reads; none: the address does not answer (R370). -/
  vmode : Option (BitVec 8) := some 0x17
  /-- Step 7, by link (0-47 satellites, 48-59 LV legs): no ALIVE within 20 µs; barrier check outside its limits; a read-back that differs;
  identities other than the one held, and mean calibration round trips in taps (R114, R115). -/
  silent : BitVec 60 := 0
  isoFail : BitVec 60 := 0
  /-- LV legs whose permit line does not echo all four codes (R114). -/
  echoFail : BitVec 60 := 0
  readBack : BitVec 60 := 0
  idents : List (Nat × Nat) := []
  trips : List (Nat × Nat) := []
  /-- Step 9: the log region cannot be read. -/
  logBad : Bool := false
  deriving DecidableEq, Repr, Inhabited


/-- The commands. Each is one row of the opcode table; the comments name the chapter of spec/. -/
inductive Instr where
  -- 01 Module and die architecture
  | registerWrite (r : Requester) (size : Fin 3) (addr data : Word)
  | droopStretch (island : Fin 42) (cap : Bool)
  | avsRequestChange (island : Fin 42) (req : Byte)
  | clockMonitorWindowEnd (bad : BitVec 42)
  | mtimeLoRead (r : Requester)
  | mtimeHiRead (r : Requester)
  | wordLowHalfWrite (r : Requester) (addr data : Word)
  | wordHighHalfWrite (r : Requester) (addr data : Word)
  | wordLowHalfRead (r : Requester) (x : WordRead)
  | wordHighHalfRead (r : Requester) (x : WordRead)
  | host64bitWordWrite (addr : Word) (data : BitVec 64)
  | host64bitWordRead (x : WordRead)
  -- 02 Operating modes, cold start and warm start
  | powerOn
  | sysResetAssert
  | sysResetRelease
  | perstAssert
  | startStepEnd (rep : StepReport)
  | startLimitExpiry
  | fabricStepTimeout
  | modeChangeComplete
  -- 03 Time base, PWM groups, dead time and trips
  | legGroupWrite (r : Requester) (leg : Fin 36) (data : Word)
  | groupStart (r : Requester) (g : Fin 12)
  | groupStop (r : Requester) (g : Fin 12)
  | groupCommit (r : Requester) (g : Fin 12)
  | commitSetArrival (e : Fin 32)
  | reloadInstant (g : Fin 12) (mid : Bool)
  | triggerFire (g : Fin 12) (k : Fin 4)
  | edgeCommandDeparture (leg : Fin 36) (n : Nat) (second : Bool)
  | legForceWrite (r : Requester) (leg : Fin 36) (data : Word)
  | tripSourceChange (src : Fin 108) (level : Bool)
  | tripFilterSettled (src : Fin 108)
  | tripClearRequest (r : Requester) (g : Fin 12)
  -- 04 Gate satellites and LV leg drivers
  | timeFrame (l : Fin 60) (f : BitVec 40)
  | edgeFrame (n : Fin 48) (f : BitVec 40)
  | transitionFrame (k : Fin 12) (f : BitVec 40)
  | cutFrame (l : Fin 60) (f : BitVec 40)
  | dtsetFrame (k : Fin 12) (f : BitVec 40)
  | cfgWrFrame (l : Fin 60) (f : BitVec 40)
  | cfgRdFrame (l : Fin 60) (f : BitVec 40)
  | clearFrame (l : Fin 60) (f : BitVec 40)
  | calFrame (l : Fin 60) (f : BitVec 40)
  | resumeFrame (l : Fin 60) (f : BitVec 40)
  | identReqFrame (l : Fin 60) (f : BitVec 40)
  | aliveFrame (l : Fin 60) (f : BitVec 40)
  | treportFrame (l : Fin 60) (f : BitVec 40)
  | faultFrame (l : Fin 60) (f : BitVec 40)
  | cfgDataFrame (l : Fin 60) (f : BitVec 40)
  | measFrame (l : Fin 60) (f : BitVec 40)
  | xrefuseFrame (l : Fin 60) (f : BitVec 40)
  | calEchoFrame (l : Fin 60) (f : BitVec 40) (roundTrip : Nat)
  | identFrame (l : Fin 60) (f : BitVec 40)
  | downLinkIdle (l : Fin 60)
  | upLinkIdle (l : Fin 60)
  | downLinkSilent (l : Fin 60)
  | upLinkSilent (l : Fin 60)
  | linkCalibration (l : Fin 60) (roundTrip : Nat)
  | gsCfgWrite (r : Requester) (n : Fin 48) (data : Word)
  | gsClear (r : Requester) (n : Fin 48)
  | ldClear (r : Requester) (k : Fin 12)
  | clearAnswerTimeout (l : Fin 60)
  | vposUv (n : Fin 48)
  | vnegRange (n : Fin 48)
  | vposBelowReset (n : Fin 48)
  | vposArmed (n : Fin 48)
  | blankingEnd (l : Fin 60) (hs : Bool)
  | baselineSample (n : Fin 48) (mv : Nat)
  | desatValid (n : Fin 48) (mv : Nat)
  | shortCircuitTrip (n : Fin 48) (mv : Nat)
  | softOffTimer (n : Fin 48)
  | vdsValid (k : Fin 12) (hs : Bool) (mv : Nat)
  | drvUv (k : Fin 12)
  | permitCodeTaken (l : Fin 60) (code : Permit)
  | permitLoss (l : Fin 60)
  | crossLinkState (n : Fin 48) (partnerOn hold : Bool)
  | crossLinkSilent (n : Fin 48)
  | edgePlacement (l : Fin 60)
  | partnerOffTurnOn (l : Fin 60)
  | transitionMeasured (l : Fin 60) (hs : Bool) (taps : Nat)
  | satelliteMeasurement (l : Fin 60) (ntc : BitVec 12) (die : BitVec 12)
  | measurementStale (l : Fin 60) (die : Bool)
  -- 05 Converters, modulator inputs and sample slots
  | adcEnable (r : Requester) (n : Fin 32) (data : Word)
  | adcDisable (r : Requester) (n : Fin 32) (data : Word)
  | adcSwStart (r : Requester) (n : Fin 32)
  | adcTriggerEvent (n : Fin 32)
  | adcSwUrgent (r : Requester) (n : Fin 32)
  | adcUrgentEvent (n : Fin 32)
  | conversionEnd (n : Fin 32) (microvolts : Nat)
  | comparatorWatchExpiry (n : Fin 32)
  | modulatorOutput (k : Fin 24) (rising falling : BitVec 256)
  | modStuck (k : Fin 24)
  | mirrorRecordRead (r : Requester) (addr : Word)
  -- 06 Position and speed feedback
  | fbEnable (r : Requester) (n : Fin 8) (data : Word)
  | fbDisable (r : Requester) (n : Fin 8) (data : Word)
  | quadratureEdge (n : Fin 8) (a b : Bool)
  | hallStateChange (n : Fin 8) (h : BitVec 3)
  | indexPulse (n : Fin 8)
  | fbArm (r : Requester) (n : Fin 8)
  | fbSet (r : Requester) (n : Fin 8) (data : Word)
  | ssiFrameStart (n : Fin 8) (datHigh : Bool)
  | ssiFrameEnd (n : Fin 8) (bits : BitVec 48) (checkLow : Bool)
  | resolverRequest (n : Fin 8)
  | resolverUpdate (n : Fin 8)
  | eventLatch (n : Fin 8)
  | pinLatch (n : Fin 8) (rising : Bool)
  | standstillTimeout (n : Fin 8)
  | feedbackSlotWrite (x : SlotEvent)
  | fbCntRead (r : Requester) (n : Fin 8)
  | emulatorEdge (m : Fin 4)
  -- 07 Loop engines
  | engineArm (r : Requester) (e : Fin 32)
  | engineDisarm (r : Requester) (e : Fin 32)
  | engineStop (r : Requester) (e : Fin 32)
  | engineSwap (r : Requester) (e : Fin 32)
  | checkEnd (e : Fin 32)
  | engineTrigger (e : Fin 32) (event : Fin 104) (others : BitVec 104) (fired : Time)
  | budgetOverrun (e : Fin 32)
  | leNop (e : Fin 32) (ecc : Ecc)
  | leLd (e : Fin 32) (ecc : Ecc)
  | leLds (e : Fin 32) (ecc : Ecc)
  | leLdc (e : Fin 32) (ecc : Ecc)
  | leLdt (e : Fin 32) (ecc : Ecc)
  | leLdi (e : Fin 32) (ecc : Ecc)
  | leSt (e : Fin 32) (ecc : Ecc)
  | leSts (e : Fin 32) (ecc : Ecc)
  | leMov (e : Fin 32) (ecc : Ecc)
  | leLda (e : Fin 32) (ecc : Ecc)
  | leLdp (e : Fin 32) (ecc : Ecc)
  | leAddp (e : Fin 32) (ecc : Ecc)
  | leAdd (e : Fin 32) (ecc : Ecc)
  | leSub (e : Fin 32) (ecc : Ecc)
  | leNeg (e : Fin 32) (ecc : Ecc)
  | leAbs (e : Fin 32) (ecc : Ecc)
  | leAddw (e : Fin 32) (ecc : Ecc)
  | leMul (e : Fin 32) (ecc : Ecc)
  | leMulc (e : Fin 32) (ecc : Ecc)
  | leMulw (e : Fin 32) (ecc : Ecc)
  | leDiv (e : Fin 32) (ecc : Ecc)
  | leAsh (e : Fin 32) (ecc : Ecc)
  | leMin (e : Fin 32) (ecc : Ecc)
  | leMax (e : Fin 32) (ecc : Ecc)
  | leClamp (e : Fin 32) (ecc : Ecc)
  | leVlim (e : Fin 32) (ecc : Ecc)
  | leMac (e : Fin 32) (ecc : Ecc)
  | leMacc (e : Fin 32) (ecc : Ecc)
  | leMsu (e : Fin 32) (ecc : Ecc)
  | leMsuc (e : Fin 32) (ecc : Ecc)
  | leClra (e : Fin 32) (ecc : Ecc)
  | leLdam (e : Fin 32) (ecc : Ecc)
  | leAdda (e : Fin 32) (ecc : Ecc)
  | leNorm (e : Fin 32) (ecc : Ecc)
  | leStage (e : Fin 32) (ecc : Ecc)
  | leCmp (e : Fin 32) (ecc : Ecc)
  | leSel (e : Fin 32) (ecc : Ecc)
  | leSkip (e : Fin 32) (ecc : Ecc)
  | leLoop (e : Fin 32) (ecc : Ecc)
  | leEnd (e : Fin 32) (ecc : Ecc)
  | leEvt (e : Fin 32) (ecc : Ecc)
  | leSincos (e : Fin 32) (ecc : Ecc)
  | lePolar (e : Fin 32) (ecc : Ecc)
  | leClarke (e : Fin 32) (ecc : Ecc)
  | lePark (e : Fin 32) (ecc : Ecc)
  | leIpark (e : Fin 32) (ecc : Ecc)
  | leSvm (e : Fin 32) (ecc : Ecc)
  | leTbl (e : Fin 32) (ecc : Ecc)
  | leCommit (e : Fin 32) (ecc : Ecc)
  -- 08 Traction drive and DC-link protection
  | tractionSlotEnable (r : Requester) (m : Fin 4) (data : Word)
  | dcLinkResult (j : Fin 2)
  | dcLinkWatchExpiry (j : Fin 2)
  | chopperCheck (j : Fin 2)
  | chopperClearWrite (r : Requester) (j : Fin 2)
  | speedWordTimer
  | speedWordTimeout (g : Fin 12)
  | torqueSetpointCommit (r : Requester) (m : Fin 4) (data : Word)
  | speedSetpointCommit (r : Requester) (m : Fin 4) (data : Word)
  | torqueLimitCommit (r : Requester) (m : Fin 4) (gen : Bool) (data : Word)
  | setpointTimeout (m : Fin 4)
  | tractionOutputRead (m : Fin 4)
  | zeroTorqueTimeout (m : Fin 4)
  -- 09 Actuator motors
  | actuatorEnable (r : Requester) (m : Fin 4) (data : Word)
  | actuatorDisable (r : Requester) (m : Fin 4) (data : Word)
  | actuatorSample (m : Fin 4)
  | commutation (m : Fin 4)
  | actRun (r : Requester) (m : Fin 4)
  | actStop (r : Requester) (m : Fin 4)
  | actFloat (r : Requester) (m : Fin 4)
  | actClr (r : Requester) (m : Fin 4)
  | alignEnd (m : Fin 4)
  | forcedStep (m : Fin 4)
  | rampTimeout (m : Fin 4)
  | retryWaitEnd (m : Fin 4)
  | speedLoopTick (m : Fin 4)
  | listenTimeout (m : Fin 4)
  | belowRestart (m : Fin 4)
  | coastTimeout (m : Fin 4)
  | actEventPop (r : Requester) (m : Fin 4)
  -- 10 Auxiliary converters
  | converterEnable (r : Requester) (m : Fin 4) (data : Word)
  | converterDisable (r : Requester) (m : Fin 4) (data : Word)
  | cnvStart (r : Requester) (m : Fin 4)
  | cnvStop (r : Requester) (m : Fin 4)
  | cnvClr (r : Requester) (m : Fin 4)
  | softStartRampStep (m : Fin 4)
  | startCheck (m : Fin 4)
  | outputVoltageResult (m : Fin 4)
  | currentLimitEvaluation (unit : Fin 5)
  | hiccupEnd (m : Fin 4)
  | tryReset (m : Fin 4)
  | releaseHeldTimeout (m : Fin 4)
  | phaseShed (m : Fin 4)
  | converterOutputRead (m : Fin 4)
  -- 11 Charging, power path and reverse power
  | chargerEnable (r : Requester) (data : Word)
  | pilotEdge (rise : Bool)
  | pilotSteady
  | pilotResult
  | proximityResult
  | plugDebounce (plugged : Bool)
  | mainsReport
  | mainsZeroCrossTimeout
  | mainsQualified
  | qualifyTimeout
  | busReady
  | pulseEnd
  | restEnd (ocv early : Nat)
  | impedanceWindowEnd (millivolts milliamps : Int)
  | chargerOutputRead (unit : Fin 3)
  | chargeTermination
  | safetyTimerEvaluation
  | handoverComplete
  | sessionResume
  | waitTimeout
  | exportReady
  | exportSetpointWrite (r : Requester) (data : Word)
  | exportSetpointTimeout
  | boostReady
  -- 12 The Saggar and the safety functions
  | safetyInputFiltered (n : Fin 16) (high : Bool)
  | discrepancyTimeout (p : Fin 8)
  | ov3Comparator (j : Fin 2) (on : Bool)
  | saggarTableWrite (r : Requester) (g : Fin 12) (asc : Bool) (data : Word) (bad : BitVec 36)
  | safeOutputRequest (r : Requester) (data : Word)
  | safeOutputTest (n : Fin 8)
  | testPulseEnd (pass : Bool)
  | safeOutputOverload (n : Fin 8)
  | safeOutputOpen (n : Fin 8)
  | contactorDelayExpiry
  | parkSpeedConfirmed
  | heartbeatWrite (r : Requester) (data : Word)
  | heartbeatTimeout
  | safetyCoreDemand (r : Requester) (data : Word)
  | releaseFirstKey (r : Requester) (groups : BitVec 12) (dev : Bool)
  | releaseSecondKey (r : Requester) (groups : BitVec 12) (dev : Bool)
  | releaseWindowExpiry
  | fjopFrameArrival (c : Fin 32) (frame : List Byte)
  | fjopReceiveTimeout (c : Fin 32)
  | fjopReset (r : Requester) (c : Fin 32)
  | fjopSend (r : Requester) (c : Fin 32)
  | fjopSendTimeout (c : Fin 32)
  -- 13 Lock-step core pairs
  | copyTransaction (n : Fin 12) (checker : Bool) (x : CopyAccess) (icnt : Word)
  | retireSignature (n : Fin 12) (checker : Bool) (crc : Word) (icnt : Word)
  | comparatorTimeout (n : Fin 12) (icnt : Word)
  | interruptNotice (n : Fin 12) (id : Nat) (main chk : CopyCount)
  | agreementReport (n : Fin 12) (main chk : Nat)
  | asyncValueRead (n : Fin 12) (main : AsyncSample) (chk : Word)
  | valueResample (n : Fin 12) (main chk : Word) (icnt : Word)
  | localParityError (n : Fin 12) (icnt : Word)
  | debugHaltRequest (n : Fin 12) (main chk : CopyCount)
  | debugAction (n : Fin 12) (act : DebugAct) (replay : Bool)
  | debugResume (n : Fin 12)
  -- 14 Feeds, core voltage and power states
  | feedMeasurement (va vb : BitVec 12) (chainLow : Bool)
  | switchOverCheck (low : Bool)
  | pwrFeedDrill (r : Requester)
  | feedDrillEnd
  | dipStart (vsup : BitVec 12)
  | dipEnd (lowest : BitVec 12)
  | storeWritesResume
  | powerLossSequence
  | supplyRestoredStart
  | island41PowerLoss
  | holdOkChange (ok : Bool)
  | pmbusAcknowledge
  | pmbusAckTimeout
  | pmbusAlert (statusWord : BitVec 16)
  | vidSettled
  | clockDividerWrite (r : Requester) (clu : Bool) (data : Word)
  | railLost
  | powerStateRequest (r : Requester) (data : Word) (wake : Bool)
  | participantAnswer (p : Fin 27)
  | pairAnswer (n : Fin 12) (data : Word)
  | pairAnswerTimeout (n : Fin 12)
  | delayTimeout (p : Fin 27)
  | wakePinEdge (w : Fin 4) (rise : Bool)
  | canActivityWake (n : Fin 8)
  | wakeTimerExpiry
  | railWakeTimeout
  | railRetry
  | retentionRailDrop (b : Fin 36)
  | retentionBankClear (r : Requester) (high : Bool) (data : Word)
  | bankZeroed (b : Fin 36)
  | domainPowerUp (d : Fin 66)
  -- 15 Thermal zones and throttling
  | thermalEvaluation (td : BitVec 192)
  | zonePendingEnd
  | graceEnd (z : Fin 16)
  | derateStep (z : Fin 16)
  | thmAckWrite (r : Requester) (data : Word)
  -- 16 Host rings, commands and the firing log
  | sqTailDoorbell (ring : Fin 32) (value : BitVec 16)
  | cqHeadDoorbell (ring : Fin 32) (value : BitVec 16)
  | tlmHeadDoorbell (value : BitVec 16)
  | evtHeadDoorbell (value : BitVec 16)
  | descriptorFetch (ring : Fin 32) (desc : BitVec 256)
  | acceptanceCommitted (ring : Fin 32)
  | commandStart (ring : Fin 32)
  | notBeforeReached (ring : Fin 32)
  | notAfterExpiry (ring : Fin 32)
  | commandCompletion
  | irqGapExpiry (k : Fin 34)
  | dmaError (k : Fin 34) (reason : Byte)
  | busMasterDisable
  | ringResetWrite (r : Requester) (ring : Fin 32)
  | hostStartCold (r : Requester)
  | hostStartWarm (r : Requester)
  | telemetryRead (item : Fin 256) (torn : Bool)
  | jnlWindowSelect (r : Requester) (index : Word)
  | nop (ring : Fin 32) (seq : Word)
  | abort (ring : Fin 32) (seq : Word)
  | setMode (ring : Fin 32) (seq : Word)
  | start (ring : Fin 32) (seq : Word)
  | setPower (ring : Fin 32) (seq : Word)
  | feedDrill (ring : Fin 32) (seq : Word)
  | throttleAck (ring : Fin 32) (seq : Word)
  | jnlMark (ring : Fin 32) (seq : Word)
  | regWrite (ring : Fin 32) (seq : Word)
  | regRead (ring : Fin 32) (seq : Word)
  | wordWrite (ring : Fin 32) (seq : Word)
  | torqueSp (ring : Fin 32) (seq : Word)
  | speedSp (ring : Fin 32) (seq : Word)
  | torqueLim (ring : Fin 32) (seq : Word)
  | actSpeedSp (ring : Fin 32) (seq : Word)
  | voutSp (ring : Fin 32) (seq : Word)
  | chargeSp (ring : Fin 32) (seq : Word)
  | exportSp (ring : Fin 32) (seq : Word)
  | accessorySp (ring : Fin 32) (seq : Word)
  | groupRun (ring : Fin 32) (seq : Word)
  | tripClear (ring : Fin 32) (seq : Word)
  | engineCmd (ring : Fin 32) (seq : Word)
  | satClear (ring : Fin 32) (seq : Word)
  | chopClear (ring : Fin 32) (seq : Word)
  | actCmd (ring : Fin 32) (seq : Word)
  | cnvCmd (ring : Fin 32) (seq : Word)
  | fjopFrame (ring : Fin 32) (seq : Word) (data : Option (List Byte))
  | canSend (ring : Fin 32) (seq : Word) (data : Option (List Byte)) (idle : Bool)
  | fabSend (ring : Fin 32) (seq : Word) (data : Option (List Byte))
  | telemCfg (ring : Fin 32) (seq : Word)
  | jnlRead (ring : Fin 32) (seq : Word)
  | imageWrite (ring : Fin 32) (seq : Word) (data back : Option (List Byte))
  | imageActivate (ring : Fin 32) (seq : Word)
  | satSelftest (ring : Fin 32) (seq : Word)
  -- 17 The Amipen ring fabric
  | portSignalDetected (p : Fin 4)
  | portUp (p : Fin 4) (crossed : Bool) (delay : BitVec 12) (neighbour : Option (BitVec 10)) (fixed : Bool) (eq0 eq1 margin : BitVec 8)
  | trainingTimeout (p : Fin 4)
  | portDown (p : Fin 4) (x : PortLoss)
  | fragmentReceived (p : Fin 4) (bytes : List Byte) (bad : Bool)
  | dataFrame
  | fjopFabricFrame
  | fabricTimeFrame (p : Fin 4) (estimate : Time) (hops : BitVec 5)
  | discFrame (p : Fin 4) (ring next : Fin 32) (west : Bool) (anchor : Nat)
  | rosterFrame (p : Fin 4) (ring : Fin 32) (stations : BitVec 32) (provisional : Bool)
  | announceFrame (p : Fin 4) (src : BitVec 10) (id : Nat) (hops : Nat) (east west : Bool)
  | statusFrame (p : Fin 4) (src : BitVec 10) (east west : Bool)
  | discoveryTimeout (pair : Fin 2)
  | rosterTimer (pair : Fin 2)
  | timeFrameTimer
  | ringTimeTimeout (pair : Fin 2)
  | statusFrameTimer
  | admissionRelease (pair : Fin 2)
  | fabTxqTail (r : Requester) (c : Fin 3) (data : Word)
  | fabricTxComplete (c : Fin 3) (waited : Word)
  | fabRxqAck (r : Requester) (c : Fin 3) (data : Word)
  | fabWakeCommand (r : Requester)
  | fabricWakeBurst (p : Fin 4)
  -- 18 CAN FD controllers
  | canModeWrite (r : Requester) (n : Fin 8) (data : Word) (busy : Bool)
  | busIntegrationEnd (n : Fin 8)
  | canFrameReceived (n : Fin 8) (f : CanFrame)
  | filterWalkEnd (n : Fin 8)
  | canBusOff (n : Fin 8)
  | canRecover (r : Requester) (n : Fin 8)
  | busOffRecoveryEnd (n : Fin 8)
  | filterCommit (r : Requester) (n : Fin 8)
  | canTxRequest (r : Requester) (n : Fin 8) (half : Fin 2) (data : Word) (idle : Bool)
  | canTxAbort (r : Requester) (n : Fin 8) (half : Fin 2) (data : Word)
  | canAttemptEnd (n : Fin 8) (how : CanAttempt)
  | canTxCompletion (n : Fin 8)
  | canRxqAck (r : Requester) (n : Fin 8) (q : Fin 4) (data : Word)
  | safetyBufferWrite (c : Fin 32) (idle : Bool)
  | canReceiveError (n : Fin 8) (e : CanError) (heavy : Bool)
  | canProtocolException (n : Fin 8)
  -- 20 Production test, field test and debug
  | tapReset (trst : Bool)
  | instructionLoad (x : TapLoad)
  | authCapture (due : Bool)
  | authUpdate (key signature : BitVec 512)
  | authCheckEnd
  | relock (r : Requester) (data : Word)
  | atbSelect (r : Requester) (data : Word)
  | selftestGo (r : Requester) (data : Word)
  | satelliteSelftestResult (n : Fin 48) (res : SstResult)
  | traceWriteTimeout
  -- Rows the table lists last, of chapters 12, 04, 02 and 16
  | discrepancyHoldEnd (p : Fin 8)
  | leavingReset (n : Fin 48)
  | vposUvCleared (n : Fin 48)
  | vnegRangeCleared (n : Fin 48)
  | drvUvCleared (k : Fin 12)
  | perstRelease
  | busMasterEnable
  | pcieLinkUp (speed width : Fin 4)
  deriving DecidableEq, Repr

end Sys2Proof
end

