-- ==== Sys2Proof/Machine/Fixed.lean ====
section
/-! DEFINITION. Fixed-point sine and cosine of an angle given as a fraction of a turn, and integer square roots, for the rules
that state a trigonometric result (R174, R202). All values are scaled by 2^64. -/

namespace Sys2Proof.Machine

/-- 2^64, the scale. -/
def one64 : Int := 2 ^ 64

/-- 2π, scaled. -/
def twoPi64 : Int := 115904311329233965478

/-- The Taylor sum a, −a·y²/(k(k+1)), …: `n` terms, from the term `t` and the factor index `k`. -/
def taylor (y2 : Int) : Nat → Int → Int → Int
  | 0, _, _ => 0
  | n + 1, k, t => t + taylor y2 n (k + 2) (-(t * y2 / one64) / (k * (k + 1)))

/-- Sine and cosine of an angle of `y` radians, |y| at most π/4, scaled. -/
def smallSin (y : Int) : Int := taylor (y * y / one64) 14 2 y
def smallCos (y : Int) : Int := taylor (y * y / one64) 14 1 one64

/-- Sine and cosine of `x / 2^w` of a turn: the octant is taken off first, so that the rest lies within an eighth of a turn of
a multiple of a quarter. -/
def sinCosTurn (w : Nat) (x : Int) : Int × Int :=
  let full : Int := 2 ^ w
  let a := x % full
  let q := (a * 8 + full) / (2 * full)
  let rest := a - q * full / 4
  let y := rest * twoPi64 / full
  let s := smallSin y
  let c := smallCos y
  match (q % 4).toNat with
  | 0 => (s, c)
  | 1 => (c, -s)
  | 2 => (-s, -c)
  | _ => (-c, s)

/-- The largest r with r² at most n, found bit by bit from bit `k` down. -/
def sqrtBits (n : Nat) : Nat → Nat → Nat
  | 0, r => r
  | k + 1, r => let r' := r + 2 ^ k; sqrtBits n k (if r' * r' ≤ n then r' else r)

/-- Integer square root of a number below 2^(2·bits). -/
def isqrt (bits n : Nat) : Nat := sqrtBits n bits 0

/-- The nearest integer to n / d for a positive d, halves away from zero. -/
def nearest (n d : Int) : Int := if 0 ≤ n then (2 * n + d) / (2 * d) else -((2 * (-n) + d) / (2 * d))

/-- n / d where the spec states no rounding: the integer itself where the division is exact, else one of the two next to it, as
`f` chooses (log 4). -/
def eitherWay (n d : Int) (f : Nat) : Int := if n % d = 0 then n / d else n / d + ((f % 2 : Nat) : Int)

end Sys2Proof.Machine
end

