-- ==== Sys2Proof/Config.lean ====
section
/-! DEFINITION. What an AX836 fixes and the spec leaves open: constants without a body, so that nothing can be proved of their
values. -/

namespace Sys2Proof.Config

/-- The free values (log 3): the value taken by the `n`-th use. -/
opaque freeValue : Nat → Nat

/-- Bytes of the boot ROM (R35). -/
opaque bootRom : Nat → BitVec 8

/-- Factory asymmetry of a link in taps, held in its satellite or driver (R114). -/
opaque linkAsym : Nat → Int

/-- Exponent, as its 8-bit code, of the slot that the charging block writes at an address of an engine's data memory (R306 names
none). -/
opaque chgExponent : Nat → Nat

/-- The 46-bit identity of the satellite or driver of a link (R114). -/
opaque identity : Nat → Nat

/-- The identity of the device, which fabric conflicts compare (R434, R441). -/
opaque deviceId : Nat

/-- SHA-256 of FIPS 180-4, which the spec names and does not restate (R486, R502). -/
opaque sha256 : List (BitVec 8) → List (BitVec 8)

/-- The ECDSA P-256 check of FIPS 186-4: key, signature, digest (R486, R502). -/
opaque ecdsaHolds : List (BitVec 8) → List (BitVec 8) → List (BitVec 8) → Bool

/-- The die revision, IDCODE [31:28] (R500, R535). -/
opaque dieRevision : Nat

/-- The place of a land's cell in the boundary register: of a variant, by land and role (the BSDL file, R504). -/
opaque boundaryCell : Nat → Nat → Nat → Nat

/-- What the boundary register asks of the analogue module of a land: of a variant, by its bits and the land (IEEE 1149.4 and the BSDL
file, R504, R505). -/
opaque boundaryModule : Nat → BitVec 612 → Nat → Nat

/-- The first table RAM word of the TABLE run at the bank image of a program (R488 does not say where it stands). -/
opaque bankImage : Nat → Nat

end Sys2Proof.Config
end

