-- ==== Sys2Proof/Machine/RegMap.lean ====
section
/-! DEFINITION. The register map: every field of every register table of spec/01 to spec/20 (R25, R31, R66-R68,
R103-R106, R134-R136, R160-R162, R182-R183, R214-R215, R239-R241, R263-R264, R284-R285, R308, R337-R341,
R357-R358, R386, R398, R428-R431, R462-R464, R481-R482, R498, R512) with its address, its bits, its access and
its two reset columns. -/

namespace Sys2Proof.Machine

/-- The access codes of R9. -/
inductive Access where
  | rw | ro | w1c | wo | rwl
  deriving DecidableEq, Repr

/-- The peripheral blocks of R37. -/
inductive Blk where
  | pwm | gs | ld | adc | mod | fb | le | trc | act | cnv | chg | saf | lks | pwr | thm | host | jnl | fab | can | img | tst
  deriving DecidableEq, Repr

/-- What a warm start does to a field (R11): keeps it, clears it to its start value, or reloads it from the image. -/
inductive Warm where
  | kept | zero | image
  deriving DecidableEq, Repr

/-- One register field: the byte address of its register, its lowest bit, its width, and the value it holds after a cold start
where the table states a number (0 where the table names a source such as the image: the start writes that source).
-/
structure Fld where
  addr : Nat
  lo : Nat
  width : Nat
  cold : Nat
  deriving DecidableEq, Repr

/-- The key of a field in the register file: 32 bit places per register address. -/
def Fld.key (f : Fld) : Nat := f.addr * 32 + f.lo

/-- One row of a register table: a field of an array of registers. `dims` lists count and stride, outermost first. -/
structure Row where
  blk : Blk
  addr : Nat
  dims : List (Nat × Nat)
  lo : Nat
  width : Nat
  acc : Access
  cold : Nat
  warm : Warm
  coldKept : Bool
  deriving DecidableEq, Repr

def PWR_ISL_STAT_CLK_FAULT (i : Nat) : Fld := ⟨0x60068400 + 0x4 * i, 31, 1, 0⟩
def PWR_ISL_STAT_CAP_EXCEEDED (i : Nat) : Fld := ⟨0x60068400 + 0x4 * i, 30, 1, 0⟩
def PWR_ISL_STAT_AVS_REQ (i : Nat) : Fld := ⟨0x60068400 + 0x4 * i, 16, 8, if i = 32 ∨ i = 33 ∨ i = 41 then 0 else 0x28⟩
def PWR_ISL_STAT_STRETCH_CNT (i : Nat) : Fld := ⟨0x60068400 + 0x4 * i, 0, 16, 0⟩
def PWM_MTIME_LO : Fld := ⟨0x60007F00, 0, 32, 0⟩
def PWM_MTIME_HI : Fld := ⟨0x60007F04, 0, 32, 0⟩
def PWM_EPOCH : Fld := ⟨0x60007F08, 0, 32, 0⟩
def PWR_MODE_CHANGING : Fld := ⟨0x60068000, 31, 1, 0⟩
def PWR_MODE_TARGET : Fld := ⟨0x60068000, 28, 3, 0⟩
def PWR_MODE_SAFE_CAUSE : Fld := ⟨0x60068000, 16, 8, 0⟩
def PWR_MODE : Fld := ⟨0x60068000, 0, 3, 0⟩
def PWR_START_STAT_KIND : Fld := ⟨0x60068004, 31, 1, 1⟩
def PWR_START_STAT_CAUSE : Fld := ⟨0x60068004, 27, 4, 0⟩
def PWR_START_STAT_STEP : Fld := ⟨0x60068004, 23, 4, 0⟩
def PWR_START_STAT_FAIL_STEP : Fld := ⟨0x60068004, 19, 4, 0⟩
def PWR_START_STAT_FABRIC_PENDING : Fld := ⟨0x60068004, 13, 1, 0⟩
def PWR_START_STAT_LEG_FAILED : Fld := ⟨0x60068004, 12, 1, 0⟩
def PWR_START_STAT_IMAGE_WARN : Fld := ⟨0x60068004, 11, 1, 0⟩
def PWR_START_STAT_PREV_MODE : Fld := ⟨0x60068004, 8, 3, 0⟩
def PWR_START_STAT_FAIL_UNIT : Fld := ⟨0x60068004, 0, 6, 0⟩
def PWR_START_CNT_WARM_FAIL : Fld := ⟨0x60068008, 30, 2, 0⟩
def PWR_START_CNT_COLD_FAIL : Fld := ⟨0x60068008, 28, 2, 0⟩
def PWR_START_CNT_START_TOTAL : Fld := ⟨0x60068008, 0, 16, 0⟩
def PWM_GRP_CTRL_MODE (i : Nat) : Fld := ⟨0x60000000 + 0x100 * i, 0, 2, 0⟩
def PWM_GRP_CTRL_UPD (i : Nat) : Fld := ⟨0x60000000 + 0x100 * i, 2, 2, 0⟩
def PWM_GRP_CTRL_OWNER (i : Nat) : Fld := ⟨0x60000000 + 0x100 * i, 4, 4, 0⟩
def PWM_GRP_PERIOD_SH_PERIOD (i : Nat) : Fld := ⟨0x60000004 + 0x100 * i, 0, 24, 0⟩
def PWM_GRP_PERIOD_ACT_PERIOD (i : Nat) : Fld := ⟨0x60000008 + 0x100 * i, 0, 24, 0⟩
def PWM_GRP_T0_LO (i : Nat) : Fld := ⟨0x6000000C + 0x100 * i, 0, 32, 0⟩
def PWM_GRP_T0_HI (i : Nat) : Fld := ⟨0x60000010 + 0x100 * i, 0, 32, 0⟩
def PWM_GRP_RUN_CMD (i : Nat) : Fld := ⟨0x60000014 + 0x100 * i, 0, 2, 0⟩
def PWM_GRP_COMMIT (i : Nat) : Fld := ⟨0x60000018 + 0x100 * i, 0, 1, 0⟩
def PWM_GRP_STAT_STATE (i : Nat) : Fld := ⟨0x6000001C + 0x100 * i, 0, 2, 0⟩
def PWM_GRP_STAT_VALID_SET (i : Nat) : Fld := ⟨0x6000001C + 0x100 * i, 2, 1, 0⟩
def PWM_GRP_STAT_TRIP_NOW (i : Nat) : Fld := ⟨0x6000001C + 0x100 * i, 3, 1, 0⟩
def PWM_GRP_STAT_TRG_IDLE (i : Nat) : Fld := ⟨0x6000001C + 0x100 * i, 4, 1, 0⟩
def PWM_GRP_STAT_CMP_CLAMP (i : Nat) : Fld := ⟨0x6000001C + 0x100 * i, 5, 1, 0⟩
def PWM_GRP_STAT_CLR_RESULT (i : Nat) : Fld := ⟨0x6000001C + 0x100 * i, 6, 2, 0⟩
def PWM_GRP_STAT_FREE (i : Nat) : Fld := ⟨0x6000001C + 0x100 * i, 8, 1, 0⟩
def PWM_GRP_STAT_HELD (i : Nat) : Fld := ⟨0x6000001C + 0x100 * i, 9, 1, 0⟩
def PWM_GRP_CNT_LATE_CNT (i : Nat) : Fld := ⟨0x60000020 + 0x100 * i, 0, 16, 0⟩
def PWM_GRP_CNT_SUPERSEDED_CNT (i : Nat) : Fld := ⟨0x60000020 + 0x100 * i, 16, 8, 0⟩
def PWM_GRP_CNT_SHORT_CNT (i : Nat) : Fld := ⟨0x60000020 + 0x100 * i, 24, 8, 0⟩
def PWM_GRP_TRIP_TRIP_EVT (i : Nat) : Fld := ⟨0x60000024 + 0x100 * i, 31, 1, 0⟩
def PWM_GRP_TRIP_FIRST_SRC (i : Nat) : Fld := ⟨0x60000024 + 0x100 * i, 24, 7, 0⟩
def PWM_GRP_TRIP_FIRST_TIME (i : Nat) : Fld := ⟨0x60000024 + 0x100 * i, 0, 24, 0⟩
def PWM_GRP_TRIPCLR_CLR (i : Nat) : Fld := ⟨0x60000028 + 0x100 * i, 0, 1, 0⟩
def PWM_GRP_TMASK_P_PINS (i : Nat) : Fld := ⟨0x6000002C + 0x100 * i, 0, 16, 0⟩
def PWM_GRP_TMASK_P_LEGFLT (i : Nat) : Fld := ⟨0x6000002C + 0x100 * i, 16, 1, 0⟩
def PWM_GRP_TMASK_C_CMPS (i : Nat) : Fld := ⟨0x60000030 + 0x100 * i, 0, 32, 0⟩
def PWM_GRP_CUT_LO_LEGS (i : Nat) : Fld := ⟨0x60000034 + 0x100 * i, 0, 32, 0⟩
def PWM_GRP_CUT_HI_LEGS (i : Nat) : Fld := ⟨0x60000038 + 0x100 * i, 0, 4, 0⟩
def PWM_GRP_TRG_TIME (i j : Nat) : Fld := ⟨0x60000040 + 0x100 * i + 0x4 * j, 0, 24, 0⟩
def PWM_GRP_TRG_EN (i j : Nat) : Fld := ⟨0x60000040 + 0x100 * i + 0x4 * j, 31, 1, 0⟩
def PWM_GRP_SYNC_OFS (i : Nat) : Fld := ⟨0x60000050 + 0x100 * i, 0, 24, 0⟩
def PWM_GRP_SYNC_MASTER (i : Nat) : Fld := ⟨0x60000050 + 0x100 * i, 24, 4, 0⟩
def PWM_GRP_SYNC_EN (i : Nat) : Fld := ⟨0x60000050 + 0x100 * i, 31, 1, 0⟩
def PWM_LEG_CFG_GROUP (i : Nat) : Fld := ⟨0x60001000 + 0x40 * i, 0, 4, 15⟩
def PWM_LEG_CFG_DTMODE (i : Nat) : Fld := ⟨0x60001000 + 0x40 * i, 4, 1, 0⟩
def PWM_LEG_CFG_TYPE (i : Nat) : Fld := ⟨0x60001000 + 0x40 * i, 5, 1, 0⟩
def PWM_LEG_CFG_FITTED (i : Nat) : Fld := ⟨0x60001000 + 0x40 * i, 6, 1, 0⟩
def PWM_LEG_CMP_SH_C (i : Nat) : Fld := ⟨0x60001004 + 0x40 * i, 0, 29, 0⟩
def PWM_LEG_PH_SH_PHI (i : Nat) : Fld := ⟨0x60001008 + 0x40 * i, 0, 29, 0⟩
def PWM_LEG_CMP_ACT_C (i : Nat) : Fld := ⟨0x6000100C + 0x40 * i, 0, 29, 0⟩
def PWM_LEG_DTCFG_DT_INIT (i : Nat) : Fld := ⟨0x60001010 + 0x40 * i, 0, 17, 0⟩
def PWM_LEG_DTLIM_DT_MAX (i : Nat) : Fld := ⟨0x60001014 + 0x40 * i, 0, 17, 0⟩
def PWM_LEG_DTLIM_GUARD (i : Nat) : Fld := ⟨0x60001014 + 0x40 * i, 17, 10, 0⟩
def PWM_LEG_DTLH_ACT_DT (i : Nat) : Fld := ⟨0x60001018 + 0x40 * i, 0, 17, 0⟩
def PWM_LEG_DTLH_ACT_HOLDING (i : Nat) : Fld := ⟨0x60001018 + 0x40 * i, 31, 1, 0⟩
def PWM_LEG_DTHL_ACT_DT (i : Nat) : Fld := ⟨0x6000101C + 0x40 * i, 0, 17, 0⟩
def PWM_LEG_DTHL_ACT_HOLDING (i : Nat) : Fld := ⟨0x6000101C + 0x40 * i, 31, 1, 0⟩
def PWM_LEG_FORCE_HS (i : Nat) : Fld := ⟨0x60001020 + 0x40 * i, 0, 2, 0⟩
def PWM_LEG_FORCE_LS (i : Nat) : Fld := ⟨0x60001020 + 0x40 * i, 2, 2, 0⟩
def PWM_LEG_STAT_XLINK_REFUSE (i : Nat) : Fld := ⟨0x60001024 + 0x40 * i, 0, 1, 0⟩
def PWM_LEG_STAT_FORCE_REJ (i : Nat) : Fld := ⟨0x60001024 + 0x40 * i, 1, 1, 0⟩
def PWM_LEG_STAT_CMP_CLAMP (i : Nat) : Fld := ⟨0x60001024 + 0x40 * i, 2, 1, 0⟩
def PWM_LEG_STAT_FORCE_REJ_CNT (i : Nat) : Fld := ⟨0x60001024 + 0x40 * i, 8, 8, 0⟩
def PWM_LEG_STAT_XLINK_CNT (i : Nat) : Fld := ⟨0x60001024 + 0x40 * i, 16, 16, 0⟩
def PWM_TRIP_FILT_FILT (i : Nat) : Fld := ⟨0x60002000 + 0x4 * i, 31, 1, 0⟩
def PWM_TRIP_FILT_RAW (i : Nat) : Fld := ⟨0x60002000 + 0x4 * i, 30, 1, 0⟩
def PWM_TRIP_FILT_POL (i : Nat) : Fld := ⟨0x60002000 + 0x4 * i, 12, 1, 0⟩
def PWM_TRIP_FILT_FILT_LEN (i : Nat) : Fld := ⟨0x60002000 + 0x4 * i, 0, 12, 0⟩
def PWM_DT_FLOOR_HV_FLOOR : Fld := ⟨0x60003000, 0, 12, 16⟩
def PWM_DT_FLOOR_LV_FLOOR : Fld := ⟨0x60003000, 16, 12, 8⟩
def PWM_MINPULSE_M : Fld := ⟨0x60003004, 0, 12, 80⟩
def PWM_LOCK : Fld := ⟨0x60003008, 0, 1, 0⟩
def PWM_ERR_LAST_ERR : Fld := ⟨0x6000300C, 0, 8, 0⟩
def PWM_ERR_ERR_CNT : Fld := ⟨0x6000300C, 8, 24, 0⟩
def GS_CFG_DSAT_TH (i : Nat) : Fld := ⟨0x60008000 + 0x80 * i, 0, 6, 0⟩
def GS_CFG_DSAT_BLANK (i : Nat) : Fld := ⟨0x60008000 + 0x80 * i, 6, 7, 0⟩
def GS_CFG_TRACK (i : Nat) : Fld := ⟨0x60008000 + 0x80 * i, 13, 1, 0⟩
def GS_CFG_TRACK_MARGIN (i : Nat) : Fld := ⟨0x60008000 + 0x80 * i, 14, 6, 0⟩
def GS_CFG_SC_TH (i : Nat) : Fld := ⟨0x60008000 + 0x80 * i, 20, 4, 0⟩
def GS_CFG_SC_EN (i : Nat) : Fld := ⟨0x60008000 + 0x80 * i, 24, 1, 0⟩
def GS_CFG_DSAT_EN (i : Nat) : Fld := ⟨0x60008000 + 0x80 * i, 25, 1, 0⟩
def GS_ORPHAN_POLICY (i : Nat) : Fld := ⟨0x60008004 + 0x80 * i, 0, 1, 0⟩
def GS_ORPHAN_VALID (i : Nat) : Fld := ⟨0x60008004 + 0x80 * i, 1, 1, 0⟩
def GS_ORPHAN_DEMOTED (i : Nat) : Fld := ⟨0x60008004 + 0x80 * i, 2, 1, 0⟩
def GS_STAT_STATE (i : Nat) : Fld := ⟨0x60008008 + 0x80 * i, 0, 3, 0⟩
def GS_STAT_FAULT (i : Nat) : Fld := ⟨0x60008008 + 0x80 * i, 3, 1, 0⟩
def GS_STAT_CAUSE (i : Nat) : Fld := ⟨0x60008008 + 0x80 * i, 4, 4, 0⟩
def GS_STAT_CLR_RESULT (i : Nat) : Fld := ⟨0x60008008 + 0x80 * i, 8, 2, 0⟩
def GS_STAT_DOWN_OK (i : Nat) : Fld := ⟨0x60008008 + 0x80 * i, 10, 1, 0⟩
def GS_STAT_UP_OK (i : Nat) : Fld := ⟨0x60008008 + 0x80 * i, 11, 1, 0⟩
def GS_STAT_XLINK_OK (i : Nat) : Fld := ⟨0x60008008 + 0x80 * i, 12, 1, 0⟩
def GS_STAT_ISO_FAIL (i : Nat) : Fld := ⟨0x60008008 + 0x80 * i, 13, 1, 0⟩
def GS_STAT_CAL_JUMP (i : Nat) : Fld := ⟨0x60008008 + 0x80 * i, 14, 1, 0⟩
def GS_STAT_SLIP (i : Nat) : Fld := ⟨0x60008008 + 0x80 * i, 15, 1, 0⟩
def GS_STAT_FAILED (i : Nat) : Fld := ⟨0x60008008 + 0x80 * i, 16, 1, 0⟩
def GS_FAULT_TLO_T_LO (i : Nat) : Fld := ⟨0x6000800C + 0x80 * i, 0, 32, 0⟩
def GS_FAULT_THI_T_HI (i : Nat) : Fld := ⟨0x60008010 + 0x80 * i, 0, 32, 0⟩
def GS_CLEAR_CLR (i : Nat) : Fld := ⟨0x60008014 + 0x80 * i, 0, 1, 0⟩
def GS_TRANS_T_MEAS (i : Nat) : Fld := ⟨0x60008018 + 0x80 * i, 0, 17, 0⟩
def GS_TRANS_INCOMPLETE (i : Nat) : Fld := ⟨0x60008018 + 0x80 * i, 17, 1, 0⟩
def GS_NTC_VALUE (i : Nat) : Fld := ⟨0x6000801C + 0x80 * i, 0, 12, 0⟩
def GS_NTC_BROKEN (i : Nat) : Fld := ⟨0x6000801C + 0x80 * i, 12, 1, 0⟩
def GS_NTC_STALE (i : Nat) : Fld := ⟨0x6000801C + 0x80 * i, 13, 1, 1⟩
def GS_DIE_TEMP (i : Nat) : Fld := ⟨0x60008020 + 0x80 * i, 0, 12, 0⟩
def GS_DIE_STALE (i : Nat) : Fld := ⟨0x60008020 + 0x80 * i, 13, 1, 1⟩
def GS_MEAS_TIME_T (i : Nat) : Fld := ⟨0x60008024 + 0x80 * i, 0, 32, 0⟩
def GS_BASE_BASELINE (i : Nat) : Fld := ⟨0x60008028 + 0x80 * i, 0, 7, 0⟩
def GS_BASE_BASE_VALID (i : Nat) : Fld := ⟨0x60008028 + 0x80 * i, 7, 1, 0⟩
def GS_CAL_LINK_DLY (i : Nat) : Fld := ⟨0x6000802C + 0x80 * i, 0, 16, 0⟩
def GS_ID_LO_ID (i : Nat) : Fld := ⟨0x60008030 + 0x80 * i, 0, 32, 0⟩
def GS_ID_HI_ID (i : Nat) : Fld := ⟨0x60008034 + 0x80 * i, 0, 14, 0⟩
def GS_CNT_CRC_ERR (i : Nat) : Fld := ⟨0x60008038 + 0x80 * i, 0, 16, 0⟩
def GS_CNT_FAULT_CNT (i : Nat) : Fld := ⟨0x60008038 + 0x80 * i, 16, 8, 0⟩
def GS_CNT_EDGE_LATE (i : Nat) : Fld := ⟨0x60008038 + 0x80 * i, 24, 8, 0⟩
def LD_CFG_VDS_HS (i : Nat) : Fld := ⟨0x60010000 + 0x40 * i, 0, 5, 0⟩
def LD_CFG_VDS_LS (i : Nat) : Fld := ⟨0x60010000 + 0x40 * i, 5, 5, 0⟩
def LD_CFG_BLANK (i : Nat) : Fld := ⟨0x60010000 + 0x40 * i, 10, 7, 0⟩
def LD_CFG_VDS_EN (i : Nat) : Fld := ⟨0x60010000 + 0x40 * i, 17, 1, 0⟩
def LD_ORPHAN_POLICY (i : Nat) : Fld := ⟨0x60010004 + 0x40 * i, 0, 2, 0⟩
def LD_ORPHAN_VALID (i : Nat) : Fld := ⟨0x60010004 + 0x40 * i, 2, 1, 0⟩
def LD_STAT_STATE (i : Nat) : Fld := ⟨0x60010008 + 0x40 * i, 0, 3, 0⟩
def LD_STAT_FAULT_HS (i : Nat) : Fld := ⟨0x60010008 + 0x40 * i, 3, 1, 0⟩
def LD_STAT_FAULT_LS (i : Nat) : Fld := ⟨0x60010008 + 0x40 * i, 4, 1, 0⟩
def LD_STAT_CAUSE (i : Nat) : Fld := ⟨0x60010008 + 0x40 * i, 5, 4, 0⟩
def LD_STAT_CLR_RESULT (i : Nat) : Fld := ⟨0x60010008 + 0x40 * i, 9, 2, 0⟩
def LD_STAT_LINK_OK (i : Nat) : Fld := ⟨0x60010008 + 0x40 * i, 11, 1, 0⟩
def LD_STAT_CAL_JUMP (i : Nat) : Fld := ⟨0x60010008 + 0x40 * i, 12, 1, 0⟩
def LD_TRANS_T_MEAS (i : Nat) : Fld := ⟨0x60010018 + 0x40 * i, 0, 17, 0⟩
def LD_TRANS_INCOMPLETE (i : Nat) : Fld := ⟨0x60010018 + 0x40 * i, 17, 1, 0⟩
def LD_TRANS_DIR (i : Nat) : Fld := ⟨0x60010018 + 0x40 * i, 18, 1, 0⟩
def LD_CAL_LINK_DLY (i : Nat) : Fld := ⟨0x6001001C + 0x40 * i, 0, 16, 0⟩
def LD_DIE_TEMP (i : Nat) : Fld := ⟨0x60010400 + 0x4 * i, 0, 12, 0⟩
def LD_DIE_STALE (i : Nat) : Fld := ⟨0x60010400 + 0x4 * i, 13, 1, 1⟩
def GS_LOCK : Fld := ⟨0x6000A000, 0, 1, 0⟩
def GS_ERR_LAST_ERR : Fld := ⟨0x6000A004, 0, 8, 0⟩
def GS_ERR_ERR_CNT : Fld := ⟨0x6000A004, 8, 24, 0⟩
def LD_LOCK : Fld := ⟨0x60010500, 0, 1, 0⟩
def LD_ERR_LAST_ERR : Fld := ⟨0x60010504, 0, 8, 0⟩
def LD_ERR_ERR_CNT : Fld := ⟨0x60010504, 8, 24, 0⟩
def ADC_CTRL_EN (i : Nat) : Fld := ⟨0x60018000 + 0x100 * i, 0, 1, 0⟩
def ADC_CTRL_TRG_MODE (i : Nat) : Fld := ⟨0x60018000 + 0x100 * i, 1, 2, 0⟩
def ADC_CTRL_TRG_EVT (i : Nat) : Fld := ⟨0x60018000 + 0x100 * i, 3, 7, 0⟩
def ADC_CTRL_SEQ_LEN (i : Nat) : Fld := ⟨0x60018000 + 0x100 * i, 10, 4, 0⟩
def ADC_CTRL_URG_EVT (i : Nat) : Fld := ⟨0x60018000 + 0x100 * i, 14, 7, 0⟩
def ADC_CTRL_URG_EVT_EN (i : Nat) : Fld := ⟨0x60018000 + 0x100 * i, 21, 1, 0⟩
def ADC_CTRL_OWNER (i : Nat) : Fld := ⟨0x60018000 + 0x100 * i, 22, 4, 0⟩
def ADC_CTRL_DONE_IE (i : Nat) : Fld := ⟨0x60018000 + 0x100 * i, 26, 1, 0⟩
def ADC_CTRL_CMP_IE (i : Nat) : Fld := ⟨0x60018000 + 0x100 * i, 27, 1, 0⟩
def ADC_CTRL_FLT_IE (i : Nat) : Fld := ⟨0x60018000 + 0x100 * i, 28, 1, 0⟩
def ADC_CTRL_OVR_IE (i : Nat) : Fld := ⟨0x60018000 + 0x100 * i, 29, 1, 0⟩
def ADC_STAT_BUSY (i : Nat) : Fld := ⟨0x60018004 + 0x100 * i, 0, 1, 0⟩
def ADC_STAT_ENTRY (i : Nat) : Fld := ⟨0x60018004 + 0x100 * i, 1, 4, 0⟩
def ADC_STAT_URG_BUSY (i : Nat) : Fld := ⟨0x60018004 + 0x100 * i, 5, 1, 0⟩
def ADC_STAT_URG_PEND (i : Nat) : Fld := ⟨0x60018004 + 0x100 * i, 6, 1, 0⟩
def ADC_STAT_REF_FAULT (i : Nat) : Fld := ⟨0x60018004 + 0x100 * i, 7, 1, 0⟩
def ADC_CNT_TRG_OVR (i : Nat) : Fld := ⟨0x60018008 + 0x100 * i, 0, 16, 0⟩
def ADC_CNT_ABORT_CNT (i : Nat) : Fld := ⟨0x60018008 + 0x100 * i, 16, 8, 0⟩
def ADC_CNT_URG_MERGED (i : Nat) : Fld := ⟨0x60018008 + 0x100 * i, 24, 8, 0⟩
def ADC_CMP_CFG_EN (i : Nat) : Fld := ⟨0x6001800C + 0x100 * i, 0, 1, 0⟩
def ADC_CMP_CFG_MODE (i : Nat) : Fld := ⟨0x6001800C + 0x100 * i, 1, 1, 0⟩
def ADC_CMP_CFG_ENTRY (i : Nat) : Fld := ⟨0x6001800C + 0x100 * i, 2, 5, 0⟩
def ADC_CMP_CFG_WATCH (i : Nat) : Fld := ⟨0x6001800C + 0x100 * i, 8, 8, 0⟩
def ADC_CMP_CFG_HYST (i : Nat) : Fld := ⟨0x6001800C + 0x100 * i, 16, 12, 0⟩
def ADC_CMP_LIM_LOW (i : Nat) : Fld := ⟨0x60018010 + 0x100 * i, 0, 12, 0⟩
def ADC_CMP_LIM_HIGH (i : Nat) : Fld := ⟨0x60018010 + 0x100 * i, 16, 12, 0⟩
def ADC_CMP_STAT_OUT (i : Nat) : Fld := ⟨0x60018014 + 0x100 * i, 0, 1, 0⟩
def ADC_CMP_STAT_WATCH_EXP (i : Nat) : Fld := ⟨0x60018014 + 0x100 * i, 1, 1, 0⟩
def ADC_CMP_STAT_EVT (i : Nat) : Fld := ⟨0x60018014 + 0x100 * i, 2, 1, 0⟩
def ADC_CMP_STAT_CNT (i : Nat) : Fld := ⟨0x60018014 + 0x100 * i, 16, 16, 0⟩
def ADC_URG_CFG_INPUT (i : Nat) : Fld := ⟨0x60018018 + 0x100 * i, 0, 3, 0⟩
def ADC_URG_CFG_STIME (i : Nat) : Fld := ⟨0x60018018 + 0x100 * i, 3, 7, 0⟩
def ADC_URG_CFG_GAIN (i : Nat) : Fld := ⟨0x60018018 + 0x100 * i, 10, 2, 0⟩
def ADC_URG_CFG_SCALE (i : Nat) : Fld := ⟨0x60018018 + 0x100 * i, 12, 8, 0⟩
def ADC_URG_CFG_ZERO (i : Nat) : Fld := ⟨0x60018018 + 0x100 * i, 20, 12, 0⟩
def ADC_URG_DST_DEN (i : Nat) : Fld := ⟨0x6001801C + 0x100 * i, 0, 1, 0⟩
def ADC_URG_DST_ENGINE (i : Nat) : Fld := ⟨0x6001801C + 0x100 * i, 1, 5, 0⟩
def ADC_URG_DST_ADDR (i : Nat) : Fld := ⟨0x6001801C + 0x100 * i, 6, 12, 0⟩
def ADC_SWREQ_START (i : Nat) : Fld := ⟨0x60018020 + 0x100 * i, 0, 1, 0⟩
def ADC_SWREQ_URG (i : Nat) : Fld := ⟨0x60018020 + 0x100 * i, 1, 1, 0⟩
def ADC_FRESH_LIMIT (i : Nat) : Fld := ⟨0x60018024 + 0x100 * i, 0, 16, 0⟩
def ADC_SEQ_INPUT (i j : Nat) : Fld := ⟨0x60018040 + 0x100 * i + 0x4 * j, 0, 3, 0⟩
def ADC_SEQ_STIME (i j : Nat) : Fld := ⟨0x60018040 + 0x100 * i + 0x4 * j, 3, 7, 0⟩
def ADC_SEQ_GAIN (i j : Nat) : Fld := ⟨0x60018040 + 0x100 * i + 0x4 * j, 10, 2, 0⟩
def ADC_SEQ_SCALE (i j : Nat) : Fld := ⟨0x60018040 + 0x100 * i + 0x4 * j, 12, 8, 0⟩
def ADC_SEQ_ZERO (i j : Nat) : Fld := ⟨0x60018040 + 0x100 * i + 0x4 * j, 20, 12, 0⟩
def ADC_DST_DEN (i j : Nat) : Fld := ⟨0x60018080 + 0x100 * i + 0x4 * j, 0, 1, 0⟩
def ADC_DST_ENGINE (i j : Nat) : Fld := ⟨0x60018080 + 0x100 * i + 0x4 * j, 1, 5, 0⟩
def ADC_DST_ADDR (i j : Nat) : Fld := ⟨0x60018080 + 0x100 * i + 0x4 * j, 6, 12, 0⟩
def RES_TLO_T_LO (b : Nat) : Fld := ⟨b + 0x8, 0, 32, 0⟩
def RES_THI_T_HI (b : Nat) : Fld := ⟨b + 0xC, 0, 32, 0⟩
def RES_FLAGS_VALID (b : Nat) : Fld := ⟨b + 0x10, 0, 1, 0⟩
def RES_FLAGS_OVR (b : Nat) : Fld := ⟨b + 0x10, 1, 1, 0⟩
def RES_FLAGS_FAULT (b : Nat) : Fld := ⟨b + 0x10, 2, 1, 0⟩
def RES_FLAGS_RETAKEN (b : Nat) : Fld := ⟨b + 0x10, 3, 1, 0⟩
def RES_FLAGS_STALE (b : Nat) : Fld := ⟨b + 0x10, 4, 1, 0⟩
def RES_FLAGS_E (b : Nat) : Fld := ⟨b + 0x10, 24, 8, 0⟩
def RES_RAW (b : Nat) : Fld := ⟨b + 0x14, 0, 25, 0⟩
def MOD_CFG_EN (i : Nat) : Fld := ⟨0x60020000 + 0x40 * i, 0, 1, 0⟩
def MOD_CFG_MCLK_SEL (i : Nat) : Fld := ⟨0x60020000 + 0x40 * i, 1, 2, 0⟩
def MOD_CFG_EDGE (i : Nat) : Fld := ⟨0x60020000 + 0x40 * i, 3, 1, 0⟩
def MOD_CFG_DM1 (i : Nat) : Fld := ⟨0x60020000 + 0x40 * i, 4, 8, 0⟩
def MOD_CFG_PHASE (i : Nat) : Fld := ⟨0x60020000 + 0x40 * i, 12, 8, 0⟩
def MOD_CFG_SCALE (i : Nat) : Fld := ⟨0x60020000 + 0x40 * i, 20, 8, 0⟩
def MOD_CFG_OWNER (i : Nat) : Fld := ⟨0x60020000 + 0x40 * i, 28, 4, 0⟩
def MOD_DST_DEN (i : Nat) : Fld := ⟨0x60020004 + 0x40 * i, 0, 1, 0⟩
def MOD_DST_ENGINE (i : Nat) : Fld := ⟨0x60020004 + 0x40 * i, 1, 5, 0⟩
def MOD_DST_ADDR (i : Nat) : Fld := ⟨0x60020004 + 0x40 * i, 6, 12, 0⟩
def MOD_STAT_STUCK (i : Nat) : Fld := ⟨0x60020008 + 0x40 * i, 0, 1, 0⟩
def MOD_STAT_SETTLING (i : Nat) : Fld := ⟨0x60020008 + 0x40 * i, 1, 1, 1⟩
def MOD_CNT_STUCK_CNT (i : Nat) : Fld := ⟨0x6002000C + 0x40 * i, 0, 16, 0⟩
def MOD_FRESH_LIMIT (i : Nat) : Fld := ⟨0x60020010 + 0x40 * i, 0, 16, 0⟩
def MOD_IRQ_OUT_IE (i : Nat) : Fld := ⟨0x60020014 + 0x40 * i, 0, 1, 0⟩
def MOD_IRQ_FLT_IE (i : Nat) : Fld := ⟨0x60020014 + 0x40 * i, 1, 1, 0⟩
def MOD_MCLK_MDIV (i : Nat) : Fld := ⟨0x60021800 + 0x4 * i, 0, 7, 0⟩
def MOD_MCLK_EN (i : Nat) : Fld := ⟨0x60021800 + 0x4 * i, 7, 1, 0⟩
def MOD_LOCK : Fld := ⟨0x60021900, 0, 1, 0⟩
def MOD_ERR_LAST_ERR : Fld := ⟨0x60021904, 0, 8, 0⟩
def MOD_ERR_ERR_CNT : Fld := ⟨0x60021904, 8, 24, 0⟩
def ADC_LOCK : Fld := ⟨0x6001E000, 0, 1, 0⟩
def ADC_ERR_LAST_ERR : Fld := ⟨0x6001E004, 0, 8, 0⟩
def ADC_ERR_ERR_CNT : Fld := ⟨0x6001E004, 8, 24, 0⟩
def FB_CFG_EN (i : Nat) : Fld := ⟨0x60028000 + 0x100 * i, 0, 1, 0⟩
def FB_CFG_MODE (i : Nat) : Fld := ⟨0x60028000 + 0x100 * i, 1, 2, 0⟩
def FB_CFG_QMODE (i : Nat) : Fld := ⟨0x60028000 + 0x100 * i, 3, 2, 0⟩
def FB_CFG_FILT (i : Nat) : Fld := ⟨0x60028000 + 0x100 * i, 5, 4, 0⟩
def FB_CFG_IDX_MODE (i : Nat) : Fld := ⟨0x60028000 + 0x100 * i, 9, 2, 0⟩
def FB_CFG_ZQ (i : Nat) : Fld := ⟨0x60028000 + 0x100 * i, 11, 3, 0⟩
def FB_CFG_OWNER (i : Nat) : Fld := ⟨0x60028000 + 0x100 * i, 14, 4, 0⟩
def FB_CFG_REV (i : Nat) : Fld := ⟨0x60028000 + 0x100 * i, 18, 1, 0⟩
def FB_CFG_IE (i : Nat) : Fld := ⟨0x60028000 + 0x100 * i, 19, 5, 0⟩
def FB_CPR (i : Nat) : Fld := ⟨0x60028004 + 0x100 * i, 0, 32, 0⟩
def FB_IDXVAL_VAL (i : Nat) : Fld := ⟨0x60028008 + 0x100 * i, 0, 32, 0⟩
def FB_ARM (i : Nat) : Fld := ⟨0x6002800C + 0x100 * i, 0, 1, 0⟩
def FB_SET_CNT (i : Nat) : Fld := ⟨0x60028010 + 0x100 * i, 0, 32, 0⟩
def FB_CNT (i : Nat) : Fld := ⟨0x60028014 + 0x100 * i, 0, 32, 0⟩
def FB_ACC (i : Nat) : Fld := ⟨0x60028018 + 0x100 * i, 0, 32, 0⟩
def FB_PTLO_T_LO (i : Nat) : Fld := ⟨0x6002801C + 0x100 * i, 0, 32, 0⟩
def FB_PTHI_T_HI (i : Nat) : Fld := ⟨0x60028020 + 0x100 * i, 0, 32, 0⟩
def FB_SPD (i : Nat) : Fld := ⟨0x60028024 + 0x100 * i, 0, 32, 0⟩
def FB_STAT_DIR (i : Nat) : Fld := ⟨0x60028028 + 0x100 * i, 0, 1, 0⟩
def FB_STAT_STILL (i : Nat) : Fld := ⟨0x60028028 + 0x100 * i, 1, 1, 1⟩
def FB_STAT_POS_VALID (i : Nat) : Fld := ⟨0x60028028 + 0x100 * i, 2, 1, 0⟩
def FB_STAT_POS_DOUBT (i : Nat) : Fld := ⟨0x60028028 + 0x100 * i, 3, 1, 0⟩
def FB_STAT_FAULT (i : Nat) : Fld := ⟨0x60028028 + 0x100 * i, 4, 1, 0⟩
def FB_STAT_STALE (i : Nat) : Fld := ⟨0x60028028 + 0x100 * i, 5, 1, 0⟩
def FB_STAT_ARMED (i : Nat) : Fld := ⟨0x60028028 + 0x100 * i, 6, 1, 0⟩
def FB_STAT_HALL_STATE (i : Nat) : Fld := ⟨0x60028028 + 0x100 * i, 7, 3, 0⟩
def FB_STAT_DIR_EVT (i : Nat) : Fld := ⟨0x60028028 + 0x100 * i, 10, 1, 0⟩
def FB_STAT_IDX_EVT (i : Nat) : Fld := ⟨0x60028028 + 0x100 * i, 11, 1, 0⟩
def FB_STAT_WRAP_EVT (i : Nat) : Fld := ⟨0x60028028 + 0x100 * i, 12, 1, 0⟩
def FB_STAT_QERR (i : Nat) : Fld := ⟨0x60028028 + 0x100 * i, 13, 1, 0⟩
def FB_STAT_HALL_ERR (i : Nat) : Fld := ⟨0x60028028 + 0x100 * i, 14, 1, 0⟩
def FB_STAT_SSI_ERR (i : Nat) : Fld := ⟨0x60028028 + 0x100 * i, 15, 1, 0⟩
def FB_STAT_LOS (i : Nat) : Fld := ⟨0x60028028 + 0x100 * i, 16, 1, 0⟩
def FB_STAT_TRACK_ERR (i : Nat) : Fld := ⟨0x60028028 + 0x100 * i, 17, 1, 0⟩
def FB_ERRCNT_QERR_CNT (i : Nat) : Fld := ⟨0x6002802C + 0x100 * i, 0, 16, 0⟩
def FB_ERRCNT_SSI_ERR_CNT (i : Nat) : Fld := ⟨0x6002802C + 0x100 * i, 16, 8, 0⟩
def FB_ERRCNT_OVR_CNT (i : Nat) : Fld := ⟨0x6002802C + 0x100 * i, 24, 8, 0⟩
def FB_SPDCFG_SPAN (i : Nat) : Fld := ⟨0x60028030 + 0x100 * i, 0, 6, 0⟩
def FB_SPDCFG_STOP_T (i : Nat) : Fld := ⟨0x60028030 + 0x100 * i, 6, 10, 0⟩
def FB_SPDCFG_SPD_E (i : Nat) : Fld := ⟨0x60028030 + 0x100 * i, 16, 8, 0⟩
def FB_FRESH_LIMIT (i : Nat) : Fld := ⟨0x60028034 + 0x100 * i, 0, 16, 0⟩
def FB_SLOT_DST (i : Nat) : Fld := ⟨0x60028038 + 0x100 * i, 0, 18, 0⟩
def FB_SLOT_SLOT_EVT (i : Nat) : Fld := ⟨0x60028038 + 0x100 * i, 18, 7, 0⟩
def FB_SLOT_SLOT_EN (i : Nat) : Fld := ⟨0x60028038 + 0x100 * i, 25, 1, 0⟩
def FB_ANGOFS_OFS (i : Nat) : Fld := ⟨0x6002803C + 0x100 * i, 0, 32, 0⟩
def FB_SSI_CDIV (i : Nat) : Fld := ⟨0x60028040 + 0x100 * i, 0, 8, 0⟩
def FB_SSI_FRAME_LEN (i : Nat) : Fld := ⟨0x60028040 + 0x100 * i, 8, 6, 0⟩
def FB_SSI_POS_BITS (i : Nat) : Fld := ⟨0x60028040 + 0x100 * i, 14, 6, 0⟩
def FB_SSI_POS_LSB (i : Nat) : Fld := ⟨0x60028040 + 0x100 * i, 20, 6, 0⟩
def FB_SSI_GRAY (i : Nat) : Fld := ⟨0x60028040 + 0x100 * i, 26, 1, 0⟩
def FB_SSI_DLY (i : Nat) : Fld := ⟨0x60028040 + 0x100 * i, 27, 5, 0⟩
def FB_SSI2_MONO (i : Nat) : Fld := ⟨0x60028044 + 0x100 * i, 0, 8, 0⟩
def FB_SSI2_SSI_EVT (i : Nat) : Fld := ⟨0x60028044 + 0x100 * i, 8, 7, 0⟩
def FB_SSI2_SSI_EVT_EN (i : Nat) : Fld := ⟨0x60028044 + 0x100 * i, 15, 1, 0⟩
def FB_SSI_RAW_LO_RAW (i : Nat) : Fld := ⟨0x60028048 + 0x100 * i, 0, 32, 0⟩
def FB_SSI_RAW_HI_RAW (i : Nat) : Fld := ⟨0x6002804C + 0x100 * i, 0, 16, 0⟩
def FB_RSL_EXC (i : Nat) : Fld := ⟨0x60028050 + 0x100 * i, 0, 2, 0⟩
def FB_RSL_SIN_ADC (i : Nat) : Fld := ⟨0x60028050 + 0x100 * i, 2, 5, 0⟩
def FB_RSL_COS_ADC (i : Nat) : Fld := ⟨0x60028050 + 0x100 * i, 7, 5, 0⟩
def FB_RSL_KP_SH (i : Nat) : Fld := ⟨0x60028050 + 0x100 * i, 12, 5, 0⟩
def FB_RSL_KI_SH (i : Nat) : Fld := ⟨0x60028050 + 0x100 * i, 17, 5, 0⟩
def FB_RSL2_PK_DLY (i : Nat) : Fld := ⟨0x60028054 + 0x100 * i, 0, 18, 0⟩
def FB_RSL2_AMP_NOM (i : Nat) : Fld := ⟨0x60028054 + 0x100 * i, 18, 12, 0⟩
def FB_LAT_CFG_LAT_EVT (i : Nat) : Fld := ⟨0x60028058 + 0x100 * i, 0, 7, 0⟩
def FB_LAT_CFG_LAT_EVT_EN (i : Nat) : Fld := ⟨0x60028058 + 0x100 * i, 7, 1, 0⟩
def FB_LAT_CFG_LAT_EDGE (i : Nat) : Fld := ⟨0x60028058 + 0x100 * i, 8, 2, 0⟩
def FB_LAT_CFG_LAT_FILT (i : Nat) : Fld := ⟨0x60028058 + 0x100 * i, 10, 4, 0⟩
def FB_L_CNT (i j : Nat) : Fld := ⟨0x60028080 + 0x100 * i + 0x14 * j, 0, 32, 0⟩
def FB_L_ACC (i j : Nat) : Fld := ⟨0x60028084 + 0x100 * i + 0x14 * j, 0, 32, 0⟩
def FB_L_TLO_T_LO (i j : Nat) : Fld := ⟨0x60028088 + 0x100 * i + 0x14 * j, 0, 32, 0⟩
def FB_L_THI_T_HI (i j : Nat) : Fld := ⟨0x6002808C + 0x100 * i + 0x14 * j, 0, 32, 0⟩
def FB_L_STAT_L_VALID (i j : Nat) : Fld := ⟨0x60028090 + 0x100 * i + 0x14 * j, 0, 1, 0⟩
def FB_L_STAT_OVWR_CNT (i j : Nat) : Fld := ⟨0x60028090 + 0x100 * i + 0x14 * j, 8, 8, 0⟩
def FB_EXC_EN (i : Nat) : Fld := ⟨0x6002D000 + 0x4 * i, 0, 1, 0⟩
def FB_EXC_PER (i : Nat) : Fld := ⟨0x6002D000 + 0x4 * i, 1, 18, 0⟩
def FB_EXC_AMP (i : Nat) : Fld := ⟨0x6002D000 + 0x4 * i, 19, 12, 0⟩
def FB_EMU_CFG_EN (i : Nat) : Fld := ⟨0x6002C000 + 0x8 * i, 0, 1, 0⟩
def FB_EMU_CFG_SRC (i : Nat) : Fld := ⟨0x6002C000 + 0x8 * i, 1, 3, 0⟩
def FB_EMU_CFG_LINES (i : Nat) : Fld := ⟨0x6002C000 + 0x8 * i, 4, 17, 0⟩
def FB_EMU_STAT_LAG (i : Nat) : Fld := ⟨0x6002C004 + 0x8 * i, 0, 1, 0⟩
def FB_EMU_STAT_RESYNC (i : Nat) : Fld := ⟨0x6002C004 + 0x8 * i, 1, 1, 0⟩
def FB_EMU_STAT_LAG_MAX (i : Nat) : Fld := ⟨0x6002C004 + 0x8 * i, 16, 16, 0⟩
def FB_LOCK : Fld := ⟨0x6002E000, 0, 1, 0⟩
def FB_ERR_LAST_ERR : Fld := ⟨0x6002E004, 0, 8, 0⟩
def FB_ERR_ERR_CNT : Fld := ⟨0x6002E004, 8, 24, 0⟩
def LE_CMD (i : Nat) : Fld := ⟨0x40014000 + 0x20000 * i, 0, 2, 0⟩
def LE_CMD_SWAP (i : Nat) : Fld := ⟨0x40014000 + 0x20000 * i, 4, 1, 0⟩
def LE_CFG_TRGA_EVT (i : Nat) : Fld := ⟨0x40014004 + 0x20000 * i, 0, 7, 0⟩
def LE_CFG_TRGA_EN (i : Nat) : Fld := ⟨0x40014004 + 0x20000 * i, 7, 1, 0⟩
def LE_CFG_TRGB_EVT (i : Nat) : Fld := ⟨0x40014004 + 0x20000 * i, 8, 7, 0⟩
def LE_CFG_TRGB_EN (i : Nat) : Fld := ⟨0x40014004 + 0x20000 * i, 15, 1, 0⟩
def LE_CFG_OWNER (i : Nat) : Fld := ⟨0x40014004 + 0x20000 * i, 16, 4, 0⟩
def LE_CFG_DONE_IE (i : Nat) : Fld := ⟨0x40014004 + 0x20000 * i, 20, 1, 0⟩
def LE_CFG_OVR_IE (i : Nat) : Fld := ⟨0x40014004 + 0x20000 * i, 21, 1, 0⟩
def LE_CFG_EVT_IE (i : Nat) : Fld := ⟨0x40014004 + 0x20000 * i, 22, 1, 0⟩
def LE_CFG_FLT_IE (i : Nat) : Fld := ⟨0x40014004 + 0x20000 * i, 23, 1, 0⟩
def LE_AGELIM_LIMIT (i : Nat) : Fld := ⟨0x40014008 + 0x20000 * i, 0, 24, 0⟩
def LE_STAT_STATE (i : Nat) : Fld := ⟨0x4001400C + 0x20000 * i, 0, 3, 0⟩
def LE_STAT_BANK (i : Nat) : Fld := ⟨0x4001400C + 0x20000 * i, 3, 1, 0⟩
def LE_STAT_SWAP_PEND (i : Nat) : Fld := ⟨0x4001400C + 0x20000 * i, 4, 1, 0⟩
def LE_STAT_SAT (i : Nat) : Fld := ⟨0x4001400C + 0x20000 * i, 5, 1, 0⟩
def LE_STAT_LIM (i : Nat) : Fld := ⟨0x4001400C + 0x20000 * i, 6, 1, 0⟩
def LE_STAT_ALIGN (i : Nat) : Fld := ⟨0x4001400C + 0x20000 * i, 7, 1, 0⟩
def LE_STAT_ESCALATED (i : Nat) : Fld := ⟨0x4001400C + 0x20000 * i, 8, 1, 0⟩
def LE_STAT_ORUN_SEQ (i : Nat) : Fld := ⟨0x4001400C + 0x20000 * i, 9, 2, 0⟩
def LE_STAT_LAST_OVR (i : Nat) : Fld := ⟨0x4001400C + 0x20000 * i, 11, 2, 0⟩
def LE_STAT_FAULT_CAUSE (i : Nat) : Fld := ⟨0x4001400C + 0x20000 * i, 13, 3, 0⟩
def LE_STAT_CHECK_CODE (i : Nat) : Fld := ⟨0x4001400C + 0x20000 * i, 16, 8, 0⟩
def LE_CHECK_ADDR (i : Nat) : Fld := ⟨0x40014010 + 0x20000 * i, 0, 12, 0⟩
def LE_WCET_A_CYCLES (i : Nat) : Fld := ⟨0x40014014 + 0x20000 * i, 0, 20, 0⟩
def LE_WCET_B_CYCLES (i : Nat) : Fld := ⟨0x40014018 + 0x20000 * i, 0, 20, 0⟩
def LE_CYC_LAST (i : Nat) : Fld := ⟨0x4001401C + 0x20000 * i, 0, 20, 0⟩
def LE_CYC_MAX (i : Nat) : Fld := ⟨0x40014020 + 0x20000 * i, 0, 20, 0⟩
def LE_TRG_TIME_T (i : Nat) : Fld := ⟨0x40014024 + 0x20000 * i, 0, 32, 0⟩
def LE_CNT_RUN_RUNS (i : Nat) : Fld := ⟨0x40014028 + 0x20000 * i, 0, 32, 0⟩
def LE_CNT_OVR_LATE_CNT (i : Nat) : Fld := ⟨0x4001402C + 0x20000 * i, 0, 16, 0⟩
def LE_CNT_OVR_BUDGET_CNT (i : Nat) : Fld := ⟨0x4001402C + 0x20000 * i, 16, 16, 0⟩
def LE_CNT_MISC_COMMIT_REJ (i : Nat) : Fld := ⟨0x40014030 + 0x20000 * i, 0, 16, 0⟩
def LE_CNT_MISC_SAT_RUNS (i : Nat) : Fld := ⟨0x40014030 + 0x20000 * i, 16, 8, 0⟩
def LE_CNT_MISC_COLLIDE (i : Nat) : Fld := ⟨0x40014030 + 0x20000 * i, 24, 8, 0⟩
def LE_CNT_ECC_CORR (i : Nat) : Fld := ⟨0x40014034 + 0x20000 * i, 0, 16, 0⟩
def LE_EVT_CODE (i : Nat) : Fld := ⟨0x40014038 + 0x20000 * i, 0, 8, 0⟩
def LE_EVT_EVT_FLAG (i : Nat) : Fld := ⟨0x40014038 + 0x20000 * i, 8, 1, 0⟩
def LE_COMMIT_STAT_LAST_REJ (i : Nat) : Fld := ⟨0x4001403C + 0x20000 * i, 0, 2, 0⟩
def LE_COMMIT_STAT_GROUP (i : Nat) : Fld := ⟨0x4001403C + 0x20000 * i, 2, 4, 0⟩
def LE_TBL_BASE (i j : Nat) : Fld := ⟨0x40014040 + 0x20000 * i + 0x4 * j, 0, 19, 0⟩
def LE_TBL_L (i j : Nat) : Fld := ⟨0x40014040 + 0x20000 * i + 0x4 * j, 19, 5, 0⟩
def LE_TBL_WRAP (i j : Nat) : Fld := ⟨0x40014040 + 0x20000 * i + 0x4 * j, 24, 1, 0⟩
def LE_TBL_VALID (i j : Nat) : Fld := ⟨0x40014040 + 0x20000 * i + 0x4 * j, 25, 1, 0⟩
def LE_G_STAT_STATE (i : Nat) : Fld := ⟨0x60030000 + 0x4 * i, 0, 3, 0⟩
def LE_G_STAT_ESCALATED (i : Nat) : Fld := ⟨0x60030000 + 0x4 * i, 3, 1, 0⟩
def LE_G_STAT_LAST_OVR (i : Nat) : Fld := ⟨0x60030000 + 0x4 * i, 4, 2, 0⟩
def LE_G_GRP_ENGINE (i : Nat) : Fld := ⟨0x60030100 + 0x4 * i, 0, 6, 63⟩
def LE_LOCK : Fld := ⟨0x60030200, 0, 1, 0⟩
def LE_ERR_LAST_ERR : Fld := ⟨0x60030204, 0, 8, 0⟩
def LE_ERR_ENGINE : Fld := ⟨0x60030204, 8, 5, 0⟩
def LE_ERR_ERR_CNT : Fld := ⟨0x60030204, 13, 19, 0⟩
def TRC_M_CFG_EN (i : Nat) : Fld := ⟨0x60038000 + 0x80 * i, 0, 1, 0⟩
def TRC_M_CFG_TYPE (i : Nat) : Fld := ⟨0x60038000 + 0x80 * i, 1, 1, 0⟩
def TRC_M_CFG_GROUP (i : Nat) : Fld := ⟨0x60038000 + 0x80 * i, 2, 4, 0⟩
def TRC_M_CFG_ENGINE (i : Nat) : Fld := ⟨0x60038000 + 0x80 * i, 6, 5, 0⟩
def TRC_M_CFG_FB (i : Nat) : Fld := ⟨0x60038000 + 0x80 * i, 11, 3, 0⟩
def TRC_M_CFG_LINK (i : Nat) : Fld := ⟨0x60038000 + 0x80 * i, 14, 1, 0⟩
def TRC_M_CFG_SPEED_MODE (i : Nat) : Fld := ⟨0x60038000 + 0x80 * i, 15, 1, 0⟩
def TRC_M_CFG_OWNER (i : Nat) : Fld := ⟨0x60038000 + 0x80 * i, 16, 4, 0⟩
def TRC_M_EXP_TRQ_E (i : Nat) : Fld := ⟨0x60038004 + 0x80 * i, 0, 8, 0⟩
def TRC_M_EXP_SPD_E (i : Nat) : Fld := ⟨0x60038004 + 0x80 * i, 8, 8, 0⟩
def TRC_M_EXP_SP_TO (i : Nat) : Fld := ⟨0x60038004 + 0x80 * i, 16, 10, 0⟩
def TRC_M_STAT_SP_STALE (i : Nat) : Fld := ⟨0x60038028 + 0x80 * i, 0, 1, 0⟩
def TRC_M_STAT_REGEN_FORBID (i : Nat) : Fld := ⟨0x60038028 + 0x80 * i, 1, 1, 0⟩
def TRC_M_STAT_ZERO_TORQUE (i : Nat) : Fld := ⟨0x60038028 + 0x80 * i, 2, 1, 0⟩
def TRC_M_STAT_ASC_HOLD (i : Nat) : Fld := ⟨0x60038028 + 0x80 * i, 3, 1, 0⟩
def TRC_M_STAT_SPD_OK (i : Nat) : Fld := ⟨0x60038028 + 0x80 * i, 4, 1, 0⟩
def TRC_M_STAT_GUARD_DEMAND (i : Nat) : Fld := ⟨0x60038028 + 0x80 * i, 5, 1, 0⟩
def TRC_M_STAT_DERATE (i : Nat) : Fld := ⟨0x60038028 + 0x80 * i, 8, 9, 256⟩
def TRC_M_SPD_RPM (i : Nat) : Fld := ⟨0x6003802C + 0x80 * i, 0, 16, 0⟩
def TRC_M_SPD_DIR (i : Nat) : Fld := ⟨0x6003802C + 0x80 * i, 16, 1, 0⟩
def TRC_M_SPDT_T (i : Nat) : Fld := ⟨0x60038030 + 0x80 * i, 0, 32, 0⟩
def TRC_M_ASC_ASC_ON (i : Nat) : Fld := ⟨0x60038034 + 0x80 * i, 0, 16, 0⟩
def TRC_M_ASC_ASC_OFF (i : Nat) : Fld := ⟨0x60038034 + 0x80 * i, 16, 16, 0⟩
def TRC_M_ASC2_SIDE (i : Nat) : Fld := ⟨0x60038038 + 0x80 * i, 0, 1, 0⟩
def TRC_M_CNT_SP_TO_CNT (i : Nat) : Fld := ⟨0x6003803C + 0x80 * i, 0, 16, 0⟩
def TRC_M_CNT_GUARD_CNT (i : Nat) : Fld := ⟨0x6003803C + 0x80 * i, 16, 16, 0⟩
def TRC_DL_CFG_EN (i : Nat) : Fld := ⟨0x60038400 + 0x40 * i, 0, 1, 0⟩
def TRC_DL_CFG_ADC (i : Nat) : Fld := ⟨0x60038400 + 0x40 * i, 1, 5, 0⟩
def TRC_DL_CFG_ENTRY (i : Nat) : Fld := ⟨0x60038400 + 0x40 * i, 6, 4, 0⟩
def TRC_DL_CFG_CHOP_EN (i : Nat) : Fld := ⟨0x60038400 + 0x40 * i, 10, 1, 0⟩
def TRC_DL_CFG_CHOP_SIDE (i : Nat) : Fld := ⟨0x60038400 + 0x40 * i, 11, 1, 0⟩
def TRC_DL_CFG_CHOP_GRP (i : Nat) : Fld := ⟨0x60038400 + 0x40 * i, 12, 4, 0⟩
def TRC_DL_CFG_CHOP_LEG (i : Nat) : Fld := ⟨0x60038400 + 0x40 * i, 16, 5, 0⟩
def TRC_DL_CFG_WATCH (i : Nat) : Fld := ⟨0x60038400 + 0x40 * i, 21, 8, 0⟩
def TRC_DL_OV1_ON (i : Nat) : Fld := ⟨0x60038404 + 0x40 * i, 0, 12, 0⟩
def TRC_DL_OV1_OFF (i : Nat) : Fld := ⟨0x60038404 + 0x40 * i, 16, 12, 0⟩
def TRC_DL_OV2_SET (i : Nat) : Fld := ⟨0x60038408 + 0x40 * i, 0, 12, 0⟩
def TRC_DL_OV2_CLR (i : Nat) : Fld := ⟨0x60038408 + 0x40 * i, 16, 12, 0⟩
def TRC_DL_OV3_SET (i : Nat) : Fld := ⟨0x6003840C + 0x40 * i, 0, 12, 0⟩
def TRC_DL_CHOP_DMIN (i : Nat) : Fld := ⟨0x60038410 + 0x40 * i, 0, 8, 0⟩
def TRC_DL_CHOP_CHK_T (i : Nat) : Fld := ⟨0x60038410 + 0x40 * i, 8, 8, 0⟩
def TRC_DL_STAT_CODE (i : Nat) : Fld := ⟨0x60038414 + 0x40 * i, 0, 12, 0⟩
def TRC_DL_STAT_OV1 (i : Nat) : Fld := ⟨0x60038414 + 0x40 * i, 12, 1, 0⟩
def TRC_DL_STAT_OV2 (i : Nat) : Fld := ⟨0x60038414 + 0x40 * i, 13, 1, 0⟩
def TRC_DL_STAT_OV3 (i : Nat) : Fld := ⟨0x60038414 + 0x40 * i, 14, 1, 0⟩
def TRC_DL_STAT_CHOP_ON (i : Nat) : Fld := ⟨0x60038414 + 0x40 * i, 15, 1, 0⟩
def TRC_DL_STAT_CHOP_AVAIL (i : Nat) : Fld := ⟨0x60038414 + 0x40 * i, 16, 1, 0⟩
def TRC_DL_STAT_CHOP_CAUSE (i : Nat) : Fld := ⟨0x60038414 + 0x40 * i, 17, 3, 0⟩
def TRC_DL_STAT_DCL_STALE (i : Nat) : Fld := ⟨0x60038414 + 0x40 * i, 20, 1, 0⟩
def TRC_DL_STAT_CLR_RESULT (i : Nat) : Fld := ⟨0x60038414 + 0x40 * i, 21, 2, 0⟩
def TRC_DL_TIME_T (i : Nat) : Fld := ⟨0x60038418 + 0x40 * i, 0, 32, 0⟩
def TRC_DL_CHOPCLR_CLR (i : Nat) : Fld := ⟨0x6003841C + 0x40 * i, 0, 1, 0⟩
def TRC_DL_CNT_OV2_CNT (i : Nat) : Fld := ⟨0x60038420 + 0x40 * i, 0, 16, 0⟩
def TRC_DL_CNT_CHOP_FLT_CNT (i : Nat) : Fld := ⟨0x60038420 + 0x40 * i, 16, 8, 0⟩
def TRC_DL_CNT_DEMAND_CNT (i : Nat) : Fld := ⟨0x60038420 + 0x40 * i, 24, 8, 0⟩
def TRC_ZT_ZT_TO : Fld := ⟨0x60038600, 0, 16, 0⟩
def TRC_LOCK : Fld := ⟨0x60038700, 0, 1, 0⟩
def TRC_ERR_LAST_ERR : Fld := ⟨0x60038704, 0, 8, 0⟩
def TRC_ERR_ERR_CNT : Fld := ⟨0x60038704, 8, 24, 0⟩
def ACT_CFG_EN (i : Nat) : Fld := ⟨0x60040000 + 0x80 * i, 0, 1, 0⟩
def ACT_CFG_GROUP (i : Nat) : Fld := ⟨0x60040000 + 0x80 * i, 1, 4, 0⟩
def ACT_CFG_ADC (i : Nat) : Fld := ⟨0x60040000 + 0x80 * i, 5, 5, 0⟩
def ACT_CFG_PP (i : Nat) : Fld := ⟨0x60040000 + 0x80 * i, 10, 6, 0⟩
def ACT_CFG_DIR (i : Nat) : Fld := ⟨0x60040000 + 0x80 * i, 16, 1, 0⟩
def ACT_CFG_OWNER (i : Nat) : Fld := ⟨0x60040000 + 0x80 * i, 17, 4, 0⟩
def ACT_CFG_IE (i : Nat) : Fld := ⟨0x60040000 + 0x80 * i, 21, 4, 0⟩
def ACT_START_ALIGN_DUTY (i : Nat) : Fld := ⟨0x60040004 + 0x80 * i, 0, 8, 0⟩
def ACT_START_ALIGN_T (i : Nat) : Fld := ⟨0x60040004 + 0x80 * i, 8, 8, 0⟩
def ACT_START_RAMP_DUTY (i : Nat) : Fld := ⟨0x60040004 + 0x80 * i, 16, 8, 0⟩
def ACT_START_RETRIES (i : Nat) : Fld := ⟨0x60040004 + 0x80 * i, 24, 4, 0⟩
def ACT_RAMP_RAMP_T (i : Nat) : Fld := ⟨0x60040008 + 0x80 * i, 0, 12, 0⟩
def ACT_RAMP_HANDOFF (i : Nat) : Fld := ⟨0x60040008 + 0x80 * i, 12, 16, 0⟩
def ACT_RAMP2_START_RPM (i : Nat) : Fld := ⟨0x6004000C + 0x80 * i, 0, 16, 0⟩
def ACT_RAMP2_RETRY_WAIT (i : Nat) : Fld := ⟨0x6004000C + 0x80 * i, 16, 10, 0⟩
def ACT_SENSE_BLANK (i : Nat) : Fld := ⟨0x60040010 + 0x80 * i, 0, 6, 0⟩
def ACT_SENSE_WIN (i : Nat) : Fld := ⟨0x60040010 + 0x80 * i, 6, 6, 0⟩
def ACT_SENSE_ADV (i : Nat) : Fld := ⟨0x60040010 + 0x80 * i, 12, 6, 0⟩
def ACT_SENSE_N_LOCK (i : Nat) : Fld := ⟨0x60040010 + 0x80 * i, 18, 4, 0⟩
def ACT_SENSE_BEMF_LOW (i : Nat) : Fld := ⟨0x60040010 + 0x80 * i, 22, 10, 0⟩
def ACT_LOOP_KP (i : Nat) : Fld := ⟨0x60040014 + 0x80 * i, 0, 16, 0⟩
def ACT_LOOP_KI (i : Nat) : Fld := ⟨0x60040014 + 0x80 * i, 16, 16, 0⟩
def ACT_LIM_DMIN (i : Nat) : Fld := ⟨0x60040018 + 0x80 * i, 0, 8, 0⟩
def ACT_LIM_DMAX (i : Nat) : Fld := ⟨0x60040018 + 0x80 * i, 8, 8, 0⟩
def ACT_LIM_CATCH_MIN (i : Nat) : Fld := ⟨0x60040018 + 0x80 * i, 16, 16, 0⟩
def ACT_RATE_ACC (i : Nat) : Fld := ⟨0x6004001C + 0x80 * i, 0, 16, 0⟩
def ACT_RATE_DEC (i : Nat) : Fld := ⟨0x6004001C + 0x80 * i, 16, 16, 0⟩
def ACT_SP_SPEED (i : Nat) : Fld := ⟨0x60040020 + 0x80 * i, 0, 16, 0⟩
def ACT_CMD (i : Nat) : Fld := ⟨0x60040024 + 0x80 * i, 0, 2, 0⟩
def ACT_CMD_CLR (i : Nat) : Fld := ⟨0x60040024 + 0x80 * i, 4, 1, 0⟩
def ACT_STAT_STATE (i : Nat) : Fld := ⟨0x60040028 + 0x80 * i, 0, 4, 0⟩
def ACT_STAT_TRY (i : Nat) : Fld := ⟨0x60040028 + 0x80 * i, 4, 4, 0⟩
def ACT_STAT_SPD_VALID (i : Nat) : Fld := ⟨0x60040028 + 0x80 * i, 8, 1, 0⟩
def ACT_STAT_FORCED (i : Nat) : Fld := ⟨0x60040028 + 0x80 * i, 9, 1, 0⟩
def ACT_STAT_STEP (i : Nat) : Fld := ⟨0x60040028 + 0x80 * i, 10, 3, 0⟩
def ACT_STAT_CAUSE (i : Nat) : Fld := ⟨0x60040028 + 0x80 * i, 13, 3, 0⟩
def ACT_STAT_CLR_RESULT (i : Nat) : Fld := ⟨0x60040028 + 0x80 * i, 16, 2, 0⟩
def ACT_SPD_RPM (i : Nat) : Fld := ⟨0x6004002C + 0x80 * i, 0, 16, 0⟩
def ACT_SPD_DUTY (i : Nat) : Fld := ⟨0x6004002C + 0x80 * i, 16, 9, 0⟩
def ACT_SPDT_T (i : Nat) : Fld := ⟨0x60040030 + 0x80 * i, 0, 32, 0⟩
def ACT_CNT_LOST_CNT (i : Nat) : Fld := ⟨0x60040034 + 0x80 * i, 0, 8, 0⟩
def ACT_CNT_CAUGHT_CNT (i : Nat) : Fld := ⟨0x60040034 + 0x80 * i, 8, 8, 0⟩
def ACT_CNT_FAIL_CNT (i : Nat) : Fld := ⟨0x60040034 + 0x80 * i, 16, 8, 0⟩
def ACT_CNT_WIN_MISS (i : Nat) : Fld := ⟨0x60040034 + 0x80 * i, 24, 8, 0⟩
def ACT_EVT_CODE (i : Nat) : Fld := ⟨0x60040038 + 0x80 * i, 0, 8, 0⟩
def ACT_EVT_ARG (i : Nat) : Fld := ⟨0x60040038 + 0x80 * i, 8, 8, 0⟩
def ACT_EVT_VALID (i : Nat) : Fld := ⟨0x60040038 + 0x80 * i, 31, 1, 0⟩
def ACT_EVT_T (i : Nat) : Fld := ⟨0x6004003C + 0x80 * i, 0, 32, 0⟩
def ACT_EVT_OVF (i : Nat) : Fld := ⟨0x60040040 + 0x80 * i, 0, 8, 0⟩
def ACT_LOCK : Fld := ⟨0x60040400, 0, 1, 0⟩
def ACT_ERR_LAST_ERR : Fld := ⟨0x60040404, 0, 8, 0⟩
def ACT_ERR_ERR_CNT : Fld := ⟨0x60040404, 8, 24, 0⟩
def CNV_C_CFG_EN (i : Nat) : Fld := ⟨0x60048000 + 0x80 * i, 0, 1, 0⟩
def CNV_C_CFG_TYPE (i : Nat) : Fld := ⟨0x60048000 + 0x80 * i, 1, 1, 0⟩
def CNV_C_CFG_GROUP (i : Nat) : Fld := ⟨0x60048000 + 0x80 * i, 2, 4, 0⟩
def CNV_C_CFG_ENGINE (i : Nat) : Fld := ⟨0x60048000 + 0x80 * i, 6, 5, 0⟩
def CNV_C_CFG_ADC (i : Nat) : Fld := ⟨0x60048000 + 0x80 * i, 11, 5, 0⟩
def CNV_C_CFG_VOUT_ENTRY (i : Nat) : Fld := ⟨0x60048000 + 0x80 * i, 16, 4, 0⟩
def CNV_C_CFG_OWNER (i : Nat) : Fld := ⟨0x60048000 + 0x80 * i, 20, 4, 0⟩
def CNV_C_CFG_CL_EN (i : Nat) : Fld := ⟨0x60048000 + 0x80 * i, 24, 1, 0⟩
def CNV_C_CFG_CL_SRC (i : Nat) : Fld := ⟨0x60048000 + 0x80 * i, 25, 6, 0⟩
def CNV_C_CFG_AUTO (i : Nat) : Fld := ⟨0x60048000 + 0x80 * i, 31, 1, 0⟩
def CNV_C_VSET_VOUT_SET (i : Nat) : Fld := ⟨0x60048004 + 0x80 * i, 0, 16, 0⟩
def CNV_C_VDIV (i : Nat) : Fld := ⟨0x60048008 + 0x80 * i, 0, 18, 0⟩
def CNV_C_RAMP (i : Nat) : Fld := ⟨0x6004800C + 0x80 * i, 0, 17, 0⟩
def CNV_C_RAMP_MARGIN (i : Nat) : Fld := ⟨0x6004800C + 0x80 * i, 17, 8, 0⟩
def CNV_C_ILIM (i : Nat) : Fld := ⟨0x60048010 + 0x80 * i, 0, 16, 0⟩
def CNV_C_ILIM_I_E (i : Nat) : Fld := ⟨0x60048010 + 0x80 * i, 16, 8, 0⟩
def CNV_C_REL_REL_SET (i : Nat) : Fld := ⟨0x60048014 + 0x80 * i, 0, 8, 0⟩
def CNV_C_REL_REL_CLR (i : Nat) : Fld := ⟨0x60048014 + 0x80 * i, 8, 8, 0⟩
def CNV_C_REL_STEP_V (i : Nat) : Fld := ⟨0x60048014 + 0x80 * i, 16, 8, 0⟩
def CNV_C_SHED_NMIN (i : Nat) : Fld := ⟨0x60048018 + 0x80 * i, 0, 3, 0⟩
def CNV_C_SHED_SHED_EN (i : Nat) : Fld := ⟨0x60048018 + 0x80 * i, 3, 1, 0⟩
def CNV_C_SHED_SHED_T (i : Nat) : Fld := ⟨0x60048018 + 0x80 * i, 4, 10, 0⟩
def CNV_C_SHTH_I_ADD (i : Nat) : Fld := ⟨0x6004801C + 0x80 * i, 0, 16, 0⟩
def CNV_C_SHTH_I_SHED (i : Nat) : Fld := ⟨0x6004801C + 0x80 * i, 16, 16, 0⟩
def CNV_C_SR_SR_ON (i : Nat) : Fld := ⟨0x60048020 + 0x80 * i, 0, 16, 0⟩
def CNV_C_SR_SR_OFF (i : Nat) : Fld := ⟨0x60048020 + 0x80 * i, 16, 16, 0⟩
def CNV_C_CMD (i : Nat) : Fld := ⟨0x60048024 + 0x80 * i, 0, 2, 0⟩
def CNV_C_CMD_CLR (i : Nat) : Fld := ⟨0x60048024 + 0x80 * i, 4, 1, 0⟩
def CNV_C_STAT_STATE (i : Nat) : Fld := ⟨0x60048028 + 0x80 * i, 0, 3, 0⟩
def CNV_C_STAT_RELEASE (i : Nat) : Fld := ⟨0x60048028 + 0x80 * i, 3, 1, 0⟩
def CNV_C_STAT_NACT (i : Nat) : Fld := ⟨0x60048028 + 0x80 * i, 4, 3, 0⟩
def CNV_C_STAT_TRY (i : Nat) : Fld := ⟨0x60048028 + 0x80 * i, 7, 2, 0⟩
def CNV_C_STAT_CAUSE (i : Nat) : Fld := ⟨0x60048028 + 0x80 * i, 9, 3, 0⟩
def CNV_C_STAT_CLR_RESULT (i : Nat) : Fld := ⟨0x60048028 + 0x80 * i, 12, 2, 0⟩
def CNV_C_STAT_SR_EN (i : Nat) : Fld := ⟨0x60048028 + 0x80 * i, 14, 1, 0⟩
def CNV_C_STAT_SHEDDING (i : Nat) : Fld := ⟨0x60048028 + 0x80 * i, 15, 1, 0⟩
def CNV_C_STAT_LAST_FAIL (i : Nat) : Fld := ⟨0x60048028 + 0x80 * i, 16, 2, 0⟩
def CNV_C_STAT_FLOAT (i : Nat) : Fld := ⟨0x60048028 + 0x80 * i, 18, 6, 63⟩
def CNV_C_VOUT_CODE (i : Nat) : Fld := ⟨0x6004802C + 0x80 * i, 0, 12, 0⟩
def CNV_C_VOUT_REF (i : Nat) : Fld := ⟨0x6004802C + 0x80 * i, 12, 12, 0⟩
def CNV_C_VT_T (i : Nat) : Fld := ⟨0x60048030 + 0x80 * i, 0, 32, 0⟩
def CNV_C_IOUT (i : Nat) : Fld := ⟨0x60048034 + 0x80 * i, 0, 16, 0⟩
def CNV_C_IOUT_LIM_RUN (i : Nat) : Fld := ⟨0x60048034 + 0x80 * i, 16, 7, 0⟩
def CNV_C_CNT_REL_CNT (i : Nat) : Fld := ⟨0x60048038 + 0x80 * i, 0, 8, 0⟩
def CNV_C_CNT_HICCUP_CNT (i : Nat) : Fld := ⟨0x60048038 + 0x80 * i, 8, 8, 0⟩
def CNV_C_CNT_SHED_CNT (i : Nat) : Fld := ⟨0x60048038 + 0x80 * i, 16, 8, 0⟩
def CNV_C_CNT_STEP_CNT (i : Nat) : Fld := ⟨0x60048038 + 0x80 * i, 24, 8, 0⟩
def CNV_LOCK : Fld := ⟨0x60048400, 0, 1, 0⟩
def CNV_ERR_LAST_ERR : Fld := ⟨0x60048404, 0, 8, 0⟩
def CNV_ERR_ERR_CNT : Fld := ⟨0x60048404, 8, 24, 0⟩
def CHG_CFG_EN : Fld := ⟨0x60050000, 0, 1, 0⟩
def CHG_CFG_PFC_GRP : Fld := ⟨0x60050000, 1, 4, 0⟩
def CHG_CFG_PFC_ENG : Fld := ⟨0x60050000, 5, 5, 0⟩
def CHG_CFG_DAB_GRP : Fld := ⟨0x60050000, 10, 4, 0⟩
def CHG_CFG_DAB_ENG : Fld := ⟨0x60050000, 14, 5, 0⟩
def CHG_CFG_BST_GRP : Fld := ⟨0x60050000, 19, 4, 0⟩
def CHG_CFG_BST_ENG : Fld := ⟨0x60050000, 23, 5, 0⟩
def CHG_CFG_OWNER : Fld := ⟨0x60050000, 28, 4, 0⟩
def CHG_SENSE_PILOT_PIN : Fld := ⟨0x60050004, 0, 4, 0⟩
def CHG_SENSE_PILOT_ADC : Fld := ⟨0x60050004, 4, 5, 0⟩
def CHG_SENSE_PP_ADC : Fld := ⟨0x60050004, 9, 5, 0⟩
def CHG_SENSE_PP_ENTRY : Fld := ⟨0x60050004, 14, 4, 0⟩
def CHG_SENSE_BST_CL_SRC : Fld := ⟨0x60050004, 18, 6, 0⟩
def CHG_SENSE_BST_CL_EN : Fld := ⟨0x60050004, 24, 1, 0⟩
def CHG_SET_I_SET : Fld := ⟨0x60050008, 0, 16, 0⟩
def CHG_SET_V_LIM : Fld := ⟨0x60050008, 16, 16, 0⟩
def CHG_LIM_GRID_I : Fld := ⟨0x6005000C, 0, 10, 0⟩
def CHG_LIM_I_TERM : Fld := ⟨0x6005000C, 10, 10, 0⟩
def CHG_LIM_I_RATE : Fld := ⟨0x6005000C, 20, 10, 0⟩
def CHG_PULSE_PULSE_EN : Fld := ⟨0x60050010, 0, 1, 0⟩
def CHG_PULSE_T_P : Fld := ⟨0x60050010, 1, 6, 0⟩
def CHG_PULSE_T_R : Fld := ⟨0x60050010, 7, 7, 0⟩
def CHG_PULSE_EDGE_DLY : Fld := ⟨0x60050010, 14, 6, 0⟩
def CHG_PULSE_TERM_T : Fld := ⟨0x60050010, 20, 8, 0⟩
def CHG_TMR_CFG_TIMER_MAX : Fld := ⟨0x60050014, 0, 11, 0⟩
def CHG_TMR_CFG_WAIT_T : Fld := ⟨0x60050014, 11, 10, 0⟩
def CHG_TMR_CFG_HO_T : Fld := ⟨0x60050014, 21, 5, 0⟩
def CHG_PFC_BUS_SET : Fld := ⟨0x60050018, 0, 14, 0⟩
def CHG_PFC_BUS_RAMP : Fld := ⟨0x60050018, 14, 7, 0⟩
def CHG_PP_LO (i : Nat) : Fld := ⟨0x60050020 + 0x4 * i, 0, 12, 0⟩
def CHG_PP_HI (i : Nat) : Fld := ⟨0x60050020 + 0x4 * i, 12, 12, 0⟩
def CHG_PP_CAP (i : Nat) : Fld := ⟨0x60050020 + 0x4 * i, 24, 6, 0⟩
def CHG_STAT_STATE : Fld := ⟨0x60050030, 0, 4, 0⟩
def CHG_STAT_RED : Fld := ⟨0x60050030, 4, 4, 0⟩
def CHG_STAT_CV : Fld := ⟨0x60050030, 8, 1, 0⟩
def CHG_STAT_PLUG : Fld := ⟨0x60050030, 9, 1, 0⟩
def CHG_STAT_PP_BAND : Fld := ⟨0x60050030, 10, 2, 0⟩
def CHG_STAT_SESSION_OPEN : Fld := ⟨0x60050030, 12, 1, 0⟩
def CHG_STAT_EXP_READY : Fld := ⟨0x60050030, 13, 1, 0⟩
def CHG_STAT_END_CAUSE : Fld := ⟨0x60050030, 14, 5, 0⟩
def CHG_STAT_CLASS : Fld := ⟨0x60050030, 19, 2, 0⟩
def CHG_PILOT_DUTY : Fld := ⟨0x60050034, 0, 10, 0⟩
def CHG_PILOT_I_PILOT : Fld := ⟨0x60050034, 10, 10, 0⟩
def CHG_PILOT_STATE : Fld := ⟨0x60050034, 20, 3, 6⟩
def CHG_PILOT_DIGITAL : Fld := ⟨0x60050034, 23, 1, 0⟩
def CHG_PILOT_STEADY : Fld := ⟨0x60050034, 24, 1, 0⟩
def CHG_PILOT_V_VHI : Fld := ⟨0x60050038, 0, 16, 0⟩
def CHG_PILOT_V_VLO : Fld := ⟨0x60050038, 16, 16, 0⟩
def CHG_SESS_ID : Fld := ⟨0x6005003C, 0, 16, 0⟩
def CHG_SESS_RESUMES : Fld := ⟨0x6005003C, 16, 8, 0⟩
def CHG_TIMER_ELAPSED : Fld := ⟨0x60050040, 0, 16, 0⟩
def CHG_TIMER_RATE : Fld := ⟨0x60050040, 16, 2, 0⟩
def CHG_BAT_I : Fld := ⟨0x60050044, 0, 16, 0⟩
def CHG_BAT_V : Fld := ⟨0x60050044, 16, 16, 0⟩
def CHG_BAT_T : Fld := ⟨0x60050048, 0, 32, 0⟩
def CHG_OCV : Fld := ⟨0x6005004C, 0, 16, 0⟩
def CHG_OCV_RLX : Fld := ⟨0x6005004C, 16, 16, 0⟩
def CHG_OCV_T : Fld := ⟨0x60050050, 0, 32, 0⟩
def CHG_Z_Z_OFF : Fld := ⟨0x60050054, 0, 15, 0⟩
def CHG_Z_OFF_VALID : Fld := ⟨0x60050054, 15, 1, 0⟩
def CHG_Z_Z_ON : Fld := ⟨0x60050054, 16, 15, 0⟩
def CHG_Z_ON_VALID : Fld := ⟨0x60050054, 31, 1, 0⟩
def CHG_Z_T : Fld := ⟨0x60050058, 0, 32, 0⟩
def CHG_GRID_VRMS : Fld := ⟨0x6005005C, 0, 10, 0⟩
def CHG_GRID_FREQ : Fld := ⟨0x6005005C, 10, 10, 0⟩
def CHG_GRID_PH : Fld := ⟨0x6005005C, 20, 2, 0⟩
def CHG_EXP_EXP_V : Fld := ⟨0x60050060, 0, 16, 0⟩
def CHG_EXP_EXP_I : Fld := ⟨0x60050060, 16, 16, 0⟩
def CHG_EXP2_SP_TO : Fld := ⟨0x60050064, 0, 10, 0⟩
def CHG_EXP2_VBAT_MIN : Fld := ⟨0x60050064, 10, 14, 0⟩
def CHG_BST_ACC_V : Fld := ⟨0x60050068, 0, 14, 0⟩
def CHG_BST_ACC_RAMP : Fld := ⟨0x60050068, 14, 7, 0⟩
def CHG_CNT_SESS_CNT : Fld := ⟨0x6005006C, 0, 8, 0⟩
def CHG_CNT_LOSS_CNT : Fld := ⟨0x6005006C, 8, 8, 0⟩
def CHG_CNT_PILOT_FLT : Fld := ⟨0x6005006C, 16, 8, 0⟩
def CHG_CNT_Z_REJ : Fld := ⟨0x6005006C, 24, 8, 0⟩
def CHG_LOCK : Fld := ⟨0x60050400, 0, 1, 0⟩
def CHG_ERR_LAST_ERR : Fld := ⟨0x60050404, 0, 8, 0⟩
def CHG_ERR_ERR_CNT : Fld := ⟨0x60050404, 8, 24, 0⟩
def SAF_STAT_DEV_LATCH : Fld := ⟨0x60058000, 0, 1, 0⟩
def SAF_STAT_HB_OK : Fld := ⟨0x60058000, 1, 1, 0⟩
def SAF_STAT_ST_PASS : Fld := ⟨0x60058000, 2, 1, 0⟩
def SAF_STAT_DEV_CAUSE : Fld := ⟨0x60058000, 8, 8, 0⟩
def SAF_STAT_CAUSE_CNT : Fld := ⟨0x60058000, 16, 8, 0⟩
def SAF_STAT_ST_ITEM : Fld := ⟨0x60058000, 24, 8, 0⟩
def SAF_DEMAND_GROUPS : Fld := ⟨0x60058004, 0, 12, 0⟩
def SAF_DEMAND_DEV : Fld := ⟨0x60058004, 12, 1, 0⟩
def SAF_DEMAND_FUNC : Fld := ⟨0x60058004, 16, 5, 0⟩
def SAF_RELEASE_GROUPS : Fld := ⟨0x60058008, 0, 12, 0⟩
def SAF_RELEASE_DEV : Fld := ⟨0x60058008, 12, 1, 0⟩
def SAF_RELEASE_KEY : Fld := ⟨0x60058008, 24, 8, 0⟩
def SAF_REL_STAT_RESULT : Fld := ⟨0x6005800C, 0, 3, 0⟩
def SAF_REL_STAT_REFUSED : Fld := ⟨0x6005800C, 8, 12, 0⟩
def SAF_HB_VALUE : Fld := ⟨0x60058010, 0, 8, 0⟩
def SAF_HB_CFG_HB_MIN : Fld := ⟨0x60058014, 0, 16, 0⟩
def SAF_HB_CFG_HB_MAX : Fld := ⟨0x60058014, 16, 16, 0⟩
def SAF_PARK_PARK_SPD : Fld := ⟨0x60058018, 0, 16, 0⟩
def SAF_PARK_CONT_DLY : Fld := ⟨0x60058018, 16, 8, 0⟩
def SAF_WVIOL_COUNT : Fld := ⟨0x6005801C, 0, 16, 0⟩
def SAF_WVIOL_LAST : Fld := ⟨0x6005801C, 16, 4, 0⟩
def SAF_LOCK : Fld := ⟨0x60058020, 0, 1, 0⟩
def SAF_ERR_LAST_ERR : Fld := ⟨0x60058024, 0, 8, 0⟩
def SAF_ERR_ERR_CNT : Fld := ⟨0x60058024, 8, 24, 0⟩
def SAF_SIN_STAT_RAW : Fld := ⟨0x60058030, 0, 16, 0⟩
def SAF_SIN_STAT_DEMAND : Fld := ⟨0x60058030, 16, 16, 0⟩
def SAF_SIN_DISC_DISC_ERR : Fld := ⟨0x60058034, 0, 8, 0⟩
def SAF_OV3_STAT_OUT : Fld := ⟨0x60058038, 0, 2, 0⟩
def SAF_SOUT_REQ_ON : Fld := ⟨0x600583F0, 0, 8, 0⟩
def SAF_GTBL_POLICY (i : Nat) : Fld := ⟨0x60058100 + 0x10 * i, 0, 2, 0⟩
def SAF_GTBL_SIDE (i : Nat) : Fld := ⟨0x60058100 + 0x10 * i, 2, 1, 0⟩
def SAF_GTBL_ORPHAN (i : Nat) : Fld := ⟨0x60058100 + 0x10 * i, 3, 1, 0⟩
def SAF_GTBL_MODES (i : Nat) : Fld := ⟨0x60058100 + 0x10 * i, 4, 5, 0⟩
def SAF_GASC_ASC_ON (i : Nat) : Fld := ⟨0x60058104 + 0x10 * i, 0, 16, 0⟩
def SAF_GASC_ASC_OFF (i : Nat) : Fld := ⟨0x60058104 + 0x10 * i, 16, 16, 0⟩
def SAF_GSTAT_STATE (i : Nat) : Fld := ⟨0x60058108 + 0x10 * i, 0, 2, 0⟩
def SAF_GSTAT_CHOICE (i : Nat) : Fld := ⟨0x60058108 + 0x10 * i, 2, 2, 1⟩
def SAF_GSTAT_FORCED (i : Nat) : Fld := ⟨0x60058108 + 0x10 * i, 4, 1, 0⟩
def SAF_GSTAT_FAULT_DEC (i : Nat) : Fld := ⟨0x60058108 + 0x10 * i, 5, 1, 0⟩
def SAF_GSTAT_SPD_OK (i : Nat) : Fld := ⟨0x60058108 + 0x10 * i, 6, 1, 0⟩
def SAF_GSTAT_CAUSE (i : Nat) : Fld := ⟨0x60058108 + 0x10 * i, 8, 8, 0⟩
def SAF_GSTAT_RPM (i : Nat) : Fld := ⟨0x60058108 + 0x10 * i, 16, 16, 0⟩
def SAF_GTIME_T (i : Nat) : Fld := ⟨0x6005810C + 0x10 * i, 0, 32, 0⟩
def SAF_SIN_CFG_FILT (i : Nat) : Fld := ⟨0x60058200 + 0x8 * i, 0, 12, 0⟩
def SAF_SIN_CFG_PAIR (i : Nat) : Fld := ⟨0x60058200 + 0x8 * i, 12, 1, 0⟩
def SAF_SIN_CFG_DISC (i : Nat) : Fld := ⟨0x60058200 + 0x8 * i, 13, 10, 0⟩
def SAF_SIN_MAP_GROUPS (i : Nat) : Fld := ⟨0x60058204 + 0x8 * i, 0, 12, 0⟩
def SAF_SIN_MAP_DEV (i : Nat) : Fld := ⟨0x60058204 + 0x8 * i, 12, 1, 0⟩
def SAF_SIN_MAP_FUNC (i : Nat) : Fld := ⟨0x60058204 + 0x8 * i, 16, 5, 0⟩
def SAF_OV3_CFG_EN (i : Nat) : Fld := ⟨0x60058280 + 0x4 * i, 0, 1, 0⟩
def SAF_OV3_CFG_TH (i : Nat) : Fld := ⟨0x60058280 + 0x4 * i, 1, 9, 0⟩
def SAF_OV3_CFG_FILT (i : Nat) : Fld := ⟨0x60058280 + 0x4 * i, 10, 5, 0⟩
def SAF_OV3_CFG_DEV (i : Nat) : Fld := ⟨0x60058280 + 0x4 * i, 15, 1, 0⟩
def SAF_OV3_CFG_GROUPS (i : Nat) : Fld := ⟨0x60058280 + 0x4 * i, 16, 12, 0⟩
def SAF_OV3_FUNC (i : Nat) : Fld := ⟨0x60058288 + 0x4 * i, 0, 5, 0⟩
def SAF_SOUT_CFG_ROLE (i : Nat) : Fld := ⟨0x60058300 + 0x10 * i, 0, 3, 0⟩
def SAF_SOUT_CFG_SAFE_OFF (i : Nat) : Fld := ⟨0x60058300 + 0x10 * i, 3, 1, 0⟩
def SAF_SOUT_CFG_TEST_EN (i : Nat) : Fld := ⟨0x60058300 + 0x10 * i, 4, 1, 0⟩
def SAF_SOUT_CFG_PW (i : Nat) : Fld := ⟨0x60058300 + 0x10 * i, 5, 7, 0⟩
def SAF_SOUT_CFG_PER (i : Nat) : Fld := ⟨0x60058300 + 0x10 * i, 12, 7, 0⟩
def SAF_SOUT_STAT_ON (i : Nat) : Fld := ⟨0x60058304 + 0x10 * i, 0, 1, 0⟩
def SAF_SOUT_STAT_FAIL_A (i : Nat) : Fld := ⟨0x60058304 + 0x10 * i, 1, 1, 0⟩
def SAF_SOUT_STAT_FAIL_B (i : Nat) : Fld := ⟨0x60058304 + 0x10 * i, 2, 1, 0⟩
def SAF_SOUT_STAT_OPEN (i : Nat) : Fld := ⟨0x60058304 + 0x10 * i, 3, 1, 0⟩
def SAF_SOUT_STAT_OVLD (i : Nat) : Fld := ⟨0x60058304 + 0x10 * i, 4, 1, 0⟩
def SAF_SOUT_STAT_HELD_OFF (i : Nat) : Fld := ⟨0x60058304 + 0x10 * i, 5, 1, 0⟩
def SAF_SOUT_STAT_TEST_CNT (i : Nat) : Fld := ⟨0x60058304 + 0x10 * i, 16, 16, 0⟩
def SAF_SOUT_TT_T (i : Nat) : Fld := ⟨0x60058308 + 0x10 * i, 0, 32, 0⟩
def SAF_FJ_CFG_EN (i : Nat) : Fld := ⟨0x60058800 + 0x20 * i, 0, 1, 0⟩
def SAF_FJ_CFG_DIR (i : Nat) : Fld := ⟨0x60058800 + 0x20 * i, 1, 1, 0⟩
def SAF_FJ_CFG_CHANNEL (i : Nat) : Fld := ⟨0x60058800 + 0x20 * i, 2, 4, 0⟩
def SAF_FJ_CFG_T_EXP (i : Nat) : Fld := ⟨0x60058800 + 0x20 * i, 6, 16, 0⟩
def SAF_FJ_CFG_MAXGAP (i : Nat) : Fld := ⟨0x60058800 + 0x20 * i, 22, 4, 0⟩
def SAF_FJ_CFG_ERR_MAX (i : Nat) : Fld := ⟨0x60058800 + 0x20 * i, 26, 4, 0⟩
def SAF_FJ_ID (i : Nat) : Fld := ⟨0x60058804 + 0x20 * i, 0, 32, 0⟩
def SAF_FJ_ADDR (i : Nat) : Fld := ⟨0x60058808 + 0x20 * i, 0, 29, 0⟩
def SAF_FJ_ADDR_IDE (i : Nat) : Fld := ⟨0x60058808 + 0x20 * i, 29, 1, 0⟩
def SAF_FJ_MAP_GROUPS (i : Nat) : Fld := ⟨0x6005880C + 0x20 * i, 0, 12, 0⟩
def SAF_FJ_MAP_DEV (i : Nat) : Fld := ⟨0x6005880C + 0x20 * i, 12, 1, 0⟩
def SAF_FJ_MAP_FUNC (i : Nat) : Fld := ⟨0x6005880C + 0x20 * i, 16, 5, 0⟩
def SAF_FJ_STAT_STATE (i : Nat) : Fld := ⟨0x60058810 + 0x20 * i, 0, 2, 0⟩
def SAF_FJ_STAT_VALID (i : Nat) : Fld := ⟨0x60058810 + 0x20 * i, 2, 1, 0⟩
def SAF_FJ_STAT_NEW (i : Nat) : Fld := ⟨0x60058810 + 0x20 * i, 3, 1, 0⟩
def SAF_FJ_STAT_FAIL (i : Nat) : Fld := ⟨0x60058810 + 0x20 * i, 4, 2, 0⟩
def SAF_FJ_STAT_SEQ (i : Nat) : Fld := ⟨0x60058810 + 0x20 * i, 16, 16, 0⟩
def SAF_FJ_CNT_CRC_ERR (i : Nat) : Fld := ⟨0x60058814 + 0x20 * i, 0, 8, 0⟩
def SAF_FJ_CNT_SEQ_ERR (i : Nat) : Fld := ⟨0x60058814 + 0x20 * i, 8, 8, 0⟩
def SAF_FJ_CNT_LOST (i : Nat) : Fld := ⟨0x60058814 + 0x20 * i, 16, 16, 0⟩
def SAF_FJ_CMD_RESET (i : Nat) : Fld := ⟨0x60058818 + 0x20 * i, 0, 1, 0⟩
def SAF_FJ_CMD_SEND (i : Nat) : Fld := ⟨0x60058818 + 0x20 * i, 1, 1, 0⟩
def SAF_FJ_TIME_T (i : Nat) : Fld := ⟨0x6005881C + 0x20 * i, 0, 32, 0⟩
def LKS_PAIR_STAT_RUN (i : Nat) : Fld := ⟨0x60060000 + 0x40 * i, 0, 1, 0⟩
def LKS_PAIR_STAT_HALTED (i : Nat) : Fld := ⟨0x60060000 + 0x40 * i, 1, 1, 0⟩
def LKS_PAIR_STAT_EXCH_OPEN (i : Nat) : Fld := ⟨0x60060000 + 0x40 * i, 2, 1, 0⟩
def LKS_PAIR_STAT_MBUF (i : Nat) : Fld := ⟨0x60060000 + 0x40 * i, 3, 4, 0⟩
def LKS_PAIR_STAT_CBUF (i : Nat) : Fld := ⟨0x60060000 + 0x40 * i, 7, 4, 0⟩
def LKS_FAULT_INFO_VALID (i : Nat) : Fld := ⟨0x60060004 + 0x40 * i, 31, 1, 0⟩
def LKS_FAULT_INFO_KIND (i : Nat) : Fld := ⟨0x60060004 + 0x40 * i, 4, 3, 0⟩
def LKS_FAULT_INFO_LANE (i : Nat) : Fld := ⟨0x60060004 + 0x40 * i, 0, 3, 0⟩
def LKS_FAULT_ADDR (i : Nat) : Fld := ⟨0x60060008 + 0x40 * i, 0, 32, 0⟩
def LKS_FAULT_MAIN_VALUE (i : Nat) : Fld := ⟨0x6006000C + 0x40 * i, 0, 32, 0⟩
def LKS_FAULT_CHK_VALUE (i : Nat) : Fld := ⟨0x60060010 + 0x40 * i, 0, 32, 0⟩
def LKS_FAULT_ICNT (i : Nat) : Fld := ⟨0x60060014 + 0x40 * i, 0, 32, 0⟩
def LKS_FAULT_TIME_T (i : Nat) : Fld := ⟨0x60060018 + 0x40 * i, 0, 32, 0⟩
def LKS_CNT_RESAMPLE_CNT (i : Nat) : Fld := ⟨0x6006001C + 0x40 * i, 0, 16, 0⟩
def LKS_CNT_IRQ_CNT (i : Nat) : Fld := ⟨0x6006001C + 0x40 * i, 16, 16, 0⟩
def LKS_INJ_PASS (i : Nat) : Fld := ⟨0x60060020 + 0x40 * i, 0, 5, 0⟩
def LKS_INJ_PAR_PASS (i : Nat) : Fld := ⟨0x60060020 + 0x40 * i, 5, 1, 0⟩
def LKS_INJ_FIRST_FAIL (i : Nat) : Fld := ⟨0x60060020 + 0x40 * i, 8, 3, 0⟩
def LKS_CFG_SIG_INT : Fld := ⟨0x60060400, 0, 8, 0⟩
def LKS_FAULT_SUM_PAIRS : Fld := ⟨0x60060404, 0, 12, 0⟩
def LKS_LOCK : Fld := ⟨0x60060408, 0, 1, 0⟩
def LKS_ERR_LAST_ERR : Fld := ⟨0x6006040C, 0, 8, 0⟩
def LKS_ERR_ERR_CNT : Fld := ⟨0x6006040C, 8, 24, 0⟩
def PWR_FEED_CFG_PREF : Fld := ⟨0x60068010, 0, 1, 0⟩
def PWR_FEED_CFG_RETURN : Fld := ⟨0x60068010, 1, 1, 0⟩
def PWR_FEED_CFG_DIP_IE : Fld := ⟨0x60068010, 2, 1, 0⟩
def PWR_FEED_CFG_SW_IE : Fld := ⟨0x60068010, 3, 1, 0⟩
def PWR_FEED_STAT_ACTIVE : Fld := ⟨0x60068014, 0, 1, 0⟩
def PWR_FEED_STAT_IN : Fld := ⟨0x60068014, 1, 2, 0⟩
def PWR_FEED_STAT_STBY : Fld := ⟨0x60068014, 3, 2, 0⟩
def PWR_FEED_STAT_DRILL : Fld := ⟨0x60068014, 5, 1, 0⟩
def PWR_FEED_STAT_HOLD_OK : Fld := ⟨0x60068014, 6, 1, 0⟩
def PWR_FEED_STAT_DIP : Fld := ⟨0x60068014, 7, 1, 0⟩
def PWR_FEED_STAT_CHAIN_FLT : Fld := ⟨0x60068014, 8, 2, 0⟩
def PWR_FEED_STAT_LAST_CAUSE : Fld := ⟨0x60068014, 10, 3, 0⟩
def PWR_FEED_V_VA : Fld := ⟨0x60068018, 0, 12, 0⟩
def PWR_FEED_V_VB : Fld := ⟨0x60068018, 16, 12, 0⟩
def PWR_FEED_PROOF_T : Fld := ⟨0x6006801C, 0, 32, 0⟩
def PWR_FEED_CMD_DRILL : Fld := ⟨0x60068020, 0, 1, 0⟩
def PWR_FEED_CNT_SW_CNT : Fld := ⟨0x60068024, 0, 8, 0⟩
def PWR_FEED_CNT_UNABLE_CNT : Fld := ⟨0x60068024, 8, 8, 0⟩
def PWR_FEED_CNT_DRILL_FAIL : Fld := ⟨0x60068024, 16, 8, 0⟩
def PWR_DIP_DIP_CNT : Fld := ⟨0x60068028, 0, 16, 0⟩
def PWR_DIP_DIP_MIN : Fld := ⟨0x60068028, 16, 12, 0⟩
def PWR_DIP_T : Fld := ⟨0x6006802C, 0, 32, 0⟩
def PWR_DIP_LEN : Fld := ⟨0x60068030, 0, 24, 0⟩
def PWR_CORE_CFG_PATH : Fld := ⟨0x60068040, 0, 1, 0⟩
def PWR_CORE_CFG_VID_EN : Fld := ⟨0x60068040, 1, 1, 0⟩
def PWR_CORE_CFG_PEC : Fld := ⟨0x60068040, 2, 1, 0⟩
def PWR_CORE_CFG_ADDR : Fld := ⟨0x60068040, 3, 7, 0⟩
def PWR_CORE_CFG_VMIN : Fld := ⟨0x60068040, 10, 8, 0⟩
def PWR_CORE_CFG_VMAX : Fld := ⟨0x60068040, 18, 8, 0⟩
def PWR_CORE_STAT_TARGET : Fld := ⟨0x60068044, 0, 8, 40⟩
def PWR_CORE_STAT_PATH_ACT : Fld := ⟨0x60068044, 8, 1, 0⟩
def PWR_CORE_STAT_PENDING : Fld := ⟨0x60068044, 9, 1, 0⟩
def PWR_CORE_STAT_AVS_CLAMP : Fld := ⟨0x60068044, 10, 1, 0⟩
def PWR_CORE_STAT_NO_ACK : Fld := ⟨0x60068044, 11, 1, 0⟩
def PWR_CORE_STAT_FELL_BACK : Fld := ⟨0x60068044, 12, 1, 0⟩
def PWR_CORE_STAT_RAIL_OK : Fld := ⟨0x60068044, 13, 1, 0⟩
def PWR_CORE_STAT_NO_RAIL : Fld := ⟨0x60068044, 14, 1, 0⟩
def PWR_CORE_STAT_LAST_STATUS : Fld := ⟨0x60068044, 16, 16, 0⟩
def PWR_CORE_CNT_CHANGES : Fld := ⟨0x60068048, 0, 16, 0⟩
def PWR_CORE_CNT_NO_ACK_CNT : Fld := ⟨0x60068048, 16, 8, 0⟩
def PWR_CORE_CNT_ALERT_CNT : Fld := ⟨0x60068048, 24, 8, 0⟩
def PWR_DIV_PAIR_DIV : Fld := ⟨0x6006804C, 0, 24, 0⟩
def PWR_DIV_CLU_DIV : Fld := ⟨0x60068050, 0, 16, 0⟩
def PWR_PS_REQ_TARGET : Fld := ⟨0x60068060, 0, 2, 0⟩
def PWR_PS_STAT_STATE : Fld := ⟨0x60068064, 0, 2, 0⟩
def PWR_PS_STAT_ENTERING : Fld := ⟨0x60068064, 2, 1, 0⟩
def PWR_PS_STAT_LAST_REFUSER : Fld := ⟨0x60068064, 3, 5, 0⟩
def PWR_PS_STAT_LAST_RESULT : Fld := ⟨0x60068064, 8, 3, 0⟩
def PWR_PS_ANS_ANSWER : Fld := ⟨0x60068068, 0, 2, 0⟩
def PWR_PS_ANS_DELAY_MAX : Fld := ⟨0x60068068, 8, 7, 0⟩
def PWR_WAKE_CFG_PIN_EN : Fld := ⟨0x60068070, 0, 4, 0⟩
def PWR_WAKE_CFG_PIN_EDGE : Fld := ⟨0x60068070, 4, 8, 0⟩
def PWR_WAKE_CFG_CAN_EN : Fld := ⟨0x60068070, 12, 8, 0⟩
def PWR_WAKE_CFG_FAB : Fld := ⟨0x60068070, 20, 1, 0⟩
def PWR_WAKE_CFG_FEED : Fld := ⟨0x60068070, 21, 1, 0⟩
def PWR_WAKE_CFG_TMR : Fld := ⟨0x60068070, 22, 1, 0⟩
def PWR_WAKE_TMR_MS : Fld := ⟨0x60068074, 0, 32, 0⟩
def PWR_WAKE_STAT_SRC : Fld := ⟨0x60068078, 0, 16, 0⟩
def PWR_WAKE_STAT_FIRST : Fld := ⟨0x60068078, 16, 5, 0⟩
def PWR_WAKE_T : Fld := ⟨0x6006807C, 0, 32, 0⟩
def PWR_RET_ELAPSED_MS : Fld := ⟨0x60068080, 0, 32, 0⟩
def PWR_RET_SAFE_LO_BANKS : Fld := ⟨0x60068090, 0, 32, 0⟩
def PWR_RET_SAFE_HI_BANKS : Fld := ⟨0x60068094, 0, 4, 0⟩
def PWR_RET_LOST_LO_BANKS : Fld := ⟨0x60068098, 0, 32, 0⟩
def PWR_RET_LOST_HI_BANKS : Fld := ⟨0x6006809C, 0, 4, 0⟩
def PWR_RET_CLR_LO_BANKS : Fld := ⟨0x600680A0, 0, 32, 0⟩
def PWR_RET_CLR_HI_BANKS : Fld := ⟨0x600680A4, 0, 4, 0⟩
def PWR_LOCK : Fld := ⟨0x600680F0, 0, 1, 0⟩
def PWR_ERR_LAST_ERR : Fld := ⟨0x600680F4, 0, 8, 0⟩
def PWR_ERR_ERR_CNT : Fld := ⟨0x600680F4, 8, 24, 0⟩
def PWR_PS_ACCT_REFUSE_CNT (i : Nat) : Fld := ⟨0x60068100 + 0x4 * i, 0, 16, 0⟩
def PWR_PS_ACCT_ABORT_CNT (i : Nat) : Fld := ⟨0x60068100 + 0x4 * i, 16, 16, 0⟩
def THM_CFG_GRACE : Fld := ⟨0x60070000, 0, 14, 0⟩
def THM_CFG_DSTEP : Fld := ⟨0x60070000, 14, 7, 0⟩
def THM_CFG_C1_IE : Fld := ⟨0x60070000, 21, 1, 0⟩
def THM_CFG_BRK_IE : Fld := ⟨0x60070000, 22, 1, 0⟩
def THM_CFG_FAST : Fld := ⟨0x60070000, 23, 1, 0⟩
def THM_ACK_ZONES : Fld := ⟨0x60070004, 0, 16, 0⟩
def THM_BROKEN_BITS (i : Nat) : Fld := ⟨0x60070010 + 0x4 * i, 0, 32, 0⟩
def THM_DERATE (i : Nat) : Fld := ⟨0x60070040 + 0x4 * i, 0, 9, 256⟩
def THM_SENS_TEMP (i : Nat) : Fld := ⟨0x60070100 + 0x4 * i, 0, 12, 0⟩
def THM_SENS_VALID (i : Nat) : Fld := ⟨0x60070100 + 0x4 * i, 12, 1, 0⟩
def THM_SENS_BROKEN (i : Nat) : Fld := ⟨0x60070100 + 0x4 * i, 13, 1, 0⟩
def THM_NTC_TEMP (i : Nat) : Fld := ⟨0x60070300 + 0x4 * i, 0, 12, 0⟩
def THM_Z_CFG_EN (i : Nat) : Fld := ⟨0x60070800 + 0x20 * i, 0, 1, 0⟩
def THM_Z_CFG_MAP (i : Nat) : Fld := ⟨0x60070800 + 0x20 * i, 1, 5, 0⟩
def THM_Z_CFG_H (i : Nat) : Fld := ⟨0x60070800 + 0x20 * i, 6, 6, 0⟩
def THM_Z_CFG_DMIN (i : Nat) : Fld := ⟨0x60070800 + 0x20 * i, 12, 9, 0⟩
def THM_Z_CONE_C1 (i : Nat) : Fld := ⟨0x60070804 + 0x20 * i, 0, 10, 0⟩
def THM_Z_CONE_C2 (i : Nat) : Fld := ⟨0x60070804 + 0x20 * i, 10, 10, 0⟩
def THM_Z_CONE_C3 (i : Nat) : Fld := ⟨0x60070804 + 0x20 * i, 20, 10, 0⟩
def THM_Z_MEMB_BITS (i j : Nat) : Fld := ⟨0x60070808 + 0x20 * i + 0x4 * j, 0, 32, 0⟩
def THM_Z_STAT_TEMP (i : Nat) : Fld := ⟨0x60070818 + 0x20 * i, 0, 12, 0⟩
def THM_Z_STAT_CONE (i : Nat) : Fld := ⟨0x60070818 + 0x20 * i, 12, 2, 0⟩
def THM_Z_STAT_LOST (i : Nat) : Fld := ⟨0x60070818 + 0x20 * i, 14, 1, 0⟩
def THM_Z_STAT_PENDING (i : Nat) : Fld := ⟨0x60070818 + 0x20 * i, 15, 1, 1⟩
def THM_Z_STAT_ACKED (i : Nat) : Fld := ⟨0x60070818 + 0x20 * i, 16, 1, 0⟩
def THM_Z_STAT_ENFORCED (i : Nat) : Fld := ⟨0x60070818 + 0x20 * i, 17, 1, 0⟩
def THM_Z_STAT_DERATE (i : Nat) : Fld := ⟨0x60070818 + 0x20 * i, 18, 9, 256⟩
def THM_Z_STAT_WARN (i : Nat) : Fld := ⟨0x60070818 + 0x20 * i, 27, 1, 0⟩
def THM_Z_TIME_T (i : Nat) : Fld := ⟨0x6007081C + 0x20 * i, 0, 32, 0⟩
def THM_LOCK : Fld := ⟨0x60070F00, 0, 1, 0⟩
def THM_ERR_LAST_ERR : Fld := ⟨0x60070F04, 0, 8, 0⟩
def THM_ERR_ERR_CNT : Fld := ⟨0x60070F04, 8, 24, 0⟩
def HOST_CFG_REG_WR : Fld := ⟨0x60078000, 0, 1, 0⟩
def HOST_STAT_LINK_UP : Fld := ⟨0x60078004, 0, 1, 0⟩
def HOST_STAT_SPEED : Fld := ⟨0x60078004, 1, 2, 0⟩
def HOST_STAT_WIDTH : Fld := ⟨0x60078004, 3, 2, 0⟩
def HOST_STAT_RINGS_LOST : Fld := ⟨0x60078004, 5, 1, 0⟩
def HOST_STAT_START_RES : Fld := ⟨0x60078004, 6, 2, 0⟩
def HOST_START_KIND : Fld := ⟨0x60078008, 0, 2, 0⟩
def HOST_LOCK : Fld := ⟨0x60078010, 0, 1, 0⟩
def HOST_ERR_LAST_ERR : Fld := ⟨0x60078014, 0, 8, 0⟩
def HOST_ERR_ERR_CNT : Fld := ⟨0x60078014, 8, 24, 0⟩
def HOST_R_CTRL_EN (i : Nat) : Fld := ⟨0x60078100 + 0x40 * i, 0, 1, 0⟩
def HOST_R_CTRL_RESET (i : Nat) : Fld := ⟨0x60078100 + 0x40 * i, 1, 1, 0⟩
def HOST_R_CTRL_CLASS (i : Nat) : Fld := ⟨0x60078100 + 0x40 * i, 2, 2, 0⟩
def HOST_R_CTRL_VECTOR (i : Nat) : Fld := ⟨0x60078100 + 0x40 * i, 4, 6, 0⟩
def HOST_R_CTRL_IRQ_EN (i : Nat) : Fld := ⟨0x60078100 + 0x40 * i, 10, 1, 0⟩
def HOST_R_CTRL_SQ_SIZE (i : Nat) : Fld := ⟨0x60078100 + 0x40 * i, 11, 4, 0⟩
def HOST_R_CTRL_CQ_SIZE (i : Nat) : Fld := ⟨0x60078100 + 0x40 * i, 15, 4, 0⟩
def HOST_R_CTRL_SEQ_ANY (i : Nat) : Fld := ⟨0x60078100 + 0x40 * i, 19, 1, 0⟩
def HOST_R_CTRL_IRQ_GAP (i : Nat) : Fld := ⟨0x60078100 + 0x40 * i, 20, 12, 0⟩
def HOST_R_SQB_BASE (i j : Nat) : Fld := ⟨0x60078104 + 0x40 * i + 0x4 * j, 0, 32, 0⟩
def HOST_R_CQB_BASE (i j : Nat) : Fld := ⟨0x6007810C + 0x40 * i + 0x4 * j, 0, 32, 0⟩
def HOST_R_SQH_HEAD (i : Nat) : Fld := ⟨0x60078114 + 0x40 * i, 0, 16, 0⟩
def HOST_R_CQT_TAIL (i : Nat) : Fld := ⟨0x60078118 + 0x40 * i, 0, 16, 0⟩
def HOST_R_CQT_PHASE (i : Nat) : Fld := ⟨0x60078118 + 0x40 * i, 16, 1, 1⟩
def HOST_R_NEXTSEQ_SEQ (i : Nat) : Fld := ⟨0x6007811C + 0x40 * i, 0, 32, 0⟩
def HOST_R_STAT_OPEN (i : Nat) : Fld := ⟨0x60078120 + 0x40 * i, 0, 5, 0⟩
def HOST_R_STAT_DMA_ERR (i : Nat) : Fld := ⟨0x60078120 + 0x40 * i, 5, 1, 0⟩
def HOST_R_STAT_WAITING (i : Nat) : Fld := ⟨0x60078120 + 0x40 * i, 6, 1, 0⟩
def HOST_R_CNT_SEQ_ERR (i : Nat) : Fld := ⟨0x60078124 + 0x40 * i, 0, 16, 0⟩
def HOST_R_CNT_EXPIRED (i : Nat) : Fld := ⟨0x60078124 + 0x40 * i, 16, 16, 0⟩
def HOST_T_CTRL_EN (i : Nat) : Fld := ⟨0x60078900 + 0x40 * i, 0, 1, 0⟩
def HOST_T_CTRL_VECTOR (i : Nat) : Fld := ⟨0x60078900 + 0x40 * i, 1, 6, 0⟩
def HOST_T_CTRL_SIZE (i : Nat) : Fld := ⟨0x60078900 + 0x40 * i, 7, 4, 0⟩
def HOST_T_CTRL_IRQ_GAP (i : Nat) : Fld := ⟨0x60078900 + 0x40 * i, 20, 12, 0⟩
def HOST_T_B_BASE (i j : Nat) : Fld := ⟨0x60078904 + 0x40 * i + 0x4 * j, 0, 32, 0⟩
def HOST_T_TAIL (i : Nat) : Fld := ⟨0x6007890C + 0x40 * i, 0, 16, 0⟩
def HOST_T_DROP (i : Nat) : Fld := ⟨0x60078910 + 0x40 * i, 0, 16, 0⟩
def HOST_T_DROP_TORN (i : Nat) : Fld := ⟨0x60078910 + 0x40 * i, 16, 16, 0⟩
def HOST_TLM_CFG_EN (i : Nat) : Fld := ⟨0x60079000 + 0x10 * i, 0, 1, 0⟩
def HOST_TLM_CFG_KIND (i : Nat) : Fld := ⟨0x60079000 + 0x10 * i, 1, 2, 0⟩
def HOST_TLM_CFG_PERIOD (i : Nat) : Fld := ⟨0x60079000 + 0x10 * i, 3, 16, 0⟩
def HOST_TLM_FRESH (i : Nat) : Fld := ⟨0x60079004 + 0x10 * i, 0, 16, 0⟩
def HOST_TLM_ADDR (i : Nat) : Fld := ⟨0x60079008 + 0x10 * i, 0, 32, 0⟩
def HOST_TLM_TADDR (i : Nat) : Fld := ⟨0x6007900C + 0x10 * i, 0, 32, 0⟩
def JNL_HEAD_INDEX : Fld := ⟨0x60080000, 0, 32, 0⟩
def JNL_STAT_EMPTY : Fld := ⟨0x60080004, 0, 1, 0⟩
def JNL_STAT_SCAN_DONE : Fld := ⟨0x60080004, 1, 1, 0⟩
def JNL_STAT_DEFERRED : Fld := ⟨0x60080004, 2, 1, 0⟩
def JNL_STAT_ERA : Fld := ⟨0x60080004, 3, 5, 0⟩
def JNL_STAT_BAD_CNT : Fld := ⟨0x60080004, 8, 8, 0⟩
def JNL_STAT_OPEN : Fld := ⟨0x60080004, 16, 16, 0⟩
def JNL_OLDEST_INDEX : Fld := ⟨0x60080008, 0, 32, 0⟩
def JNL_WIN_IDX_INDEX : Fld := ⟨0x60080010, 0, 32, 0⟩
def JNL_WIN_STAT_VALID : Fld := ⟨0x60080014, 0, 1, 0⟩
def JNL_WIN_STAT_GONE : Fld := ⟨0x60080014, 1, 1, 0⟩
def JNL_WIN_STAT_FUTURE : Fld := ⟨0x60080014, 2, 1, 0⟩
def JNL_WIN_BYTES (i : Nat) : Fld := ⟨0x60080020 + 0x4 * i, 0, 32, 0⟩
def JNL_CNT_COALESCED : Fld := ⟨0x60080040, 0, 16, 0⟩
def JNL_CNT_DEFER_CNT : Fld := ⟨0x60080040, 16, 16, 0⟩
def FAB_CFG_EN_P : Fld := ⟨0x60088000, 0, 1, 0⟩
def FAB_CFG_EN_Q : Fld := ⟨0x60088000, 1, 1, 0⟩
def FAB_CFG_FIXED_P : Fld := ⟨0x60088000, 2, 1, 0⟩
def FAB_CFG_FIXED_Q : Fld := ⟨0x60088000, 3, 1, 0⟩
def FAB_CFG_ANCHOR_Q : Fld := ⟨0x60088000, 4, 1, 0⟩
def FAB_CFG_STRAP : Fld := ⟨0x60088000, 5, 1, 0⟩
def FAB_CFG_RING_P : Fld := ⟨0x60088000, 6, 5, 0⟩
def FAB_CFG_RING_Q : Fld := ⟨0x60088000, 11, 5, 0⟩
def FAB_CFG_STN_P : Fld := ⟨0x60088000, 16, 5, 0⟩
def FAB_CFG_STN_Q : Fld := ⟨0x60088000, 21, 5, 0⟩
def FAB_CFG2_EXPECT_P : Fld := ⟨0x60088004, 0, 6, 0⟩
def FAB_CFG2_EXPECT_Q : Fld := ⟨0x60088004, 6, 6, 0⟩
def FAB_CFG2_IE : Fld := ⟨0x60088004, 12, 5, 0⟩
def FAB_CMD_WAKE : Fld := ⟨0x60088008, 0, 1, 0⟩
def FAB_ST_ADDR (i : Nat) : Fld := ⟨0x60088010 + 0x4 * i, 0, 10, 0⟩
def FAB_ST_ADDR_VALID (i : Nat) : Fld := ⟨0x60088010 + 0x4 * i, 10, 1, 0⟩
def FAB_ST_PROVISIONAL (i : Nat) : Fld := ⟨0x60088010 + 0x4 * i, 11, 1, 0⟩
def FAB_ST_ANCHOR (i : Nat) : Fld := ⟨0x60088010 + 0x4 * i, 12, 1, 0⟩
def FAB_ST_RING_CLOSED (i : Nat) : Fld := ⟨0x60088010 + 0x4 * i, 13, 1, 0⟩
def FAB_ST_NSTN (i : Nat) : Fld := ⟨0x60088010 + 0x4 * i, 14, 6, 0⟩
def FAB_ST_LINK_FAULTS (i : Nat) : Fld := ⟨0x60088010 + 0x4 * i, 20, 2, 0⟩
def FAB_ST_ADDR_CONFLICT (i : Nat) : Fld := ⟨0x60088010 + 0x4 * i, 22, 1, 0⟩
def FAB_ST_ANCHOR_CONFLICT (i : Nat) : Fld := ⟨0x60088010 + 0x4 * i, 23, 1, 0⟩
def FAB_ST_DISC (i : Nat) : Fld := ⟨0x60088010 + 0x4 * i, 24, 2, 0⟩
def FAB_ST_TIME_VALID (i : Nat) : Fld := ⟨0x60088010 + 0x4 * i, 26, 1, 0⟩
def FAB_ST_TIME_HOPS (i : Nat) : Fld := ⟨0x60088010 + 0x4 * i, 27, 5, 0⟩
def FAB_TOFS_OFS (i j : Nat) : Fld := ⟨0x60088018 + 0x8 * i + 0x4 * j, 0, 32, 0⟩
def FAB_TRATE_P : Fld := ⟨0x60088028, 0, 16, 0⟩
def FAB_TRATE_Q : Fld := ⟨0x60088028, 16, 16, 0⟩
def FAB_CNT0_DUP_CNT : Fld := ⟨0x60088030, 0, 16, 0⟩
def FAB_CNT0_OLD_CNT : Fld := ⟨0x60088030, 16, 16, 0⟩
def FAB_CNT1_HOP_DROP : Fld := ⟨0x60088034, 0, 8, 0⟩
def FAB_CNT1_CROSS_DROP : Fld := ⟨0x60088034, 8, 8, 0⟩
def FAB_CNT1_ADM_HELD : Fld := ⟨0x60088034, 16, 8, 0⟩
def FAB_CNT1_FJ_NOCONN : Fld := ⟨0x60088034, 24, 8, 0⟩
def FAB_CNT2_STRIP_CNT : Fld := ⟨0x60088038, 0, 16, 0⟩
def FAB_CNT2_RX_DROP : Fld := ⟨0x60088038, 16, 8, 0⟩
def FAB_CNT2_TXQ_FLUSH : Fld := ⟨0x60088038, 24, 8, 0⟩
def FAB_TXWAIT_TXWAIT_MAX : Fld := ⟨0x6008803C, 0, 32, 0⟩
def FAB_RT_VIA (i : Nat) : Fld := ⟨0x60088100 + 0x4 * i, 0, 2, 0⟩
def FAB_LOCK : Fld := ⟨0x60088400, 0, 1, 0⟩
def FAB_ERR_LAST_ERR : Fld := ⟨0x60088404, 0, 8, 0⟩
def FAB_ERR_ERR_CNT : Fld := ⟨0x60088404, 8, 24, 0⟩
def FAB_PORT_STAT_UP (i : Nat) : Fld := ⟨0x60088200 + 0x20 * i, 0, 1, 0⟩
def FAB_PORT_STAT_TRAINING (i : Nat) : Fld := ⟨0x60088200 + 0x20 * i, 1, 1, 0⟩
def FAB_PORT_STAT_CROSSED (i : Nat) : Fld := ⟨0x60088200 + 0x20 * i, 2, 1, 0⟩
def FAB_PORT_STAT_BYPASS (i : Nat) : Fld := ⟨0x60088200 + 0x20 * i, 4, 4, 15⟩
def FAB_PORT_STAT_LINK_DLY (i : Nat) : Fld := ⟨0x60088200 + 0x20 * i, 8, 12, 0⟩
def FAB_PORT_STAT_RETRAIN_CNT (i : Nat) : Fld := ⟨0x60088200 + 0x20 * i, 24, 8, 0⟩
def FAB_PORT_ERR_CODE_ERR (i : Nat) : Fld := ⟨0x60088204 + 0x20 * i, 0, 16, 0⟩
def FAB_PORT_ERR_HDR_CRC (i : Nat) : Fld := ⟨0x60088204 + 0x20 * i, 16, 8, 0⟩
def FAB_PORT_ERR_PAY_CRC (i : Nat) : Fld := ⟨0x60088204 + 0x20 * i, 24, 8, 0⟩
def FAB_PORT_EQ_EQ0 (i : Nat) : Fld := ⟨0x60088208 + 0x20 * i, 0, 8, 0⟩
def FAB_PORT_EQ_EQ1 (i : Nat) : Fld := ⟨0x60088208 + 0x20 * i, 8, 8, 0⟩
def FAB_PORT_EQ_MARGIN (i : Nat) : Fld := ⟨0x60088208 + 0x20 * i, 16, 8, 0⟩
def FAB_PORT_NB_NB_ADDR (i : Nat) : Fld := ⟨0x6008820C + 0x20 * i, 0, 10, 0⟩
def FAB_PORT_NB_NB_VALID (i : Nat) : Fld := ⟨0x6008820C + 0x20 * i, 10, 1, 0⟩
def FAB_TXQ_BASE (i : Nat) : Fld := ⟨0x60088300 + 0x20 * i, 0, 32, 0⟩
def FAB_TXQ_CTRL_EN (i : Nat) : Fld := ⟨0x60088304 + 0x20 * i, 0, 1, 0⟩
def FAB_TXQ_CTRL_SIZE (i : Nat) : Fld := ⟨0x60088304 + 0x20 * i, 1, 4, 0⟩
def FAB_TXQ_TAIL (i : Nat) : Fld := ⟨0x60088308 + 0x20 * i, 0, 10, 0⟩
def FAB_TXQ_HEAD (i : Nat) : Fld := ⟨0x6008830C + 0x20 * i, 0, 10, 0⟩
def FAB_RXQ_BASE (i : Nat) : Fld := ⟨0x60088310 + 0x20 * i, 0, 32, 0⟩
def FAB_RXQ_CTRL_EN (i : Nat) : Fld := ⟨0x60088314 + 0x20 * i, 0, 1, 0⟩
def FAB_RXQ_CTRL_SIZE (i : Nat) : Fld := ⟨0x60088314 + 0x20 * i, 1, 4, 0⟩
def FAB_RXQ_HEAD (i : Nat) : Fld := ⟨0x60088318 + 0x20 * i, 0, 8, 0⟩
def FAB_RXQ_ACK (i : Nat) : Fld := ⟨0x6008831C + 0x20 * i, 0, 8, 0⟩
def CAN_CTRL_MODE (i : Nat) : Fld := ⟨0x60090000 + 0x400 * i, 0, 2, 0⟩
def CAN_CTRL_FDOE (i : Nat) : Fld := ⟨0x60090000 + 0x400 * i, 2, 1, 0⟩
def CAN_CTRL_BRSE (i : Nat) : Fld := ⟨0x60090000 + 0x400 * i, 3, 1, 0⟩
def CAN_CTRL_PXE (i : Nat) : Fld := ⟨0x60090000 + 0x400 * i, 4, 1, 0⟩
def CAN_CTRL_AUTO_RECOVER (i : Nat) : Fld := ⟨0x60090000 + 0x400 * i, 5, 1, 0⟩
def CAN_CTRL_ACK_LIMIT (i : Nat) : Fld := ⟨0x60090000 + 0x400 * i, 8, 8, 0⟩
def CAN_NBT_BRP (i : Nat) : Fld := ⟨0x60090004 + 0x400 * i, 0, 5, 0⟩
def CAN_NBT_TSEG1 (i : Nat) : Fld := ⟨0x60090004 + 0x400 * i, 5, 8, 0⟩
def CAN_NBT_TSEG2 (i : Nat) : Fld := ⟨0x60090004 + 0x400 * i, 13, 7, 0⟩
def CAN_NBT_SJW (i : Nat) : Fld := ⟨0x60090004 + 0x400 * i, 20, 7, 0⟩
def CAN_DBT_BRP (i : Nat) : Fld := ⟨0x60090008 + 0x400 * i, 0, 5, 0⟩
def CAN_DBT_TSEG1 (i : Nat) : Fld := ⟨0x60090008 + 0x400 * i, 5, 5, 0⟩
def CAN_DBT_TSEG2 (i : Nat) : Fld := ⟨0x60090008 + 0x400 * i, 10, 4, 0⟩
def CAN_DBT_SJW (i : Nat) : Fld := ⟨0x60090008 + 0x400 * i, 14, 4, 0⟩
def CAN_DBT_TDC_EN (i : Nat) : Fld := ⟨0x60090008 + 0x400 * i, 18, 1, 0⟩
def CAN_DBT_TDCO (i : Nat) : Fld := ⟨0x60090008 + 0x400 * i, 19, 7, 0⟩
def CAN_STAT_ERR (i : Nat) : Fld := ⟨0x6009000C + 0x400 * i, 0, 2, 0⟩
def CAN_STAT_SYNC (i : Nat) : Fld := ⟨0x6009000C + 0x400 * i, 2, 1, 0⟩
def CAN_STAT_LEC (i : Nat) : Fld := ⟨0x6009000C + 0x400 * i, 3, 3, 0⟩
def CAN_STAT_RECOVERING (i : Nat) : Fld := ⟨0x6009000C + 0x400 * i, 6, 1, 0⟩
def CAN_STAT_TEC (i : Nat) : Fld := ⟨0x6009000C + 0x400 * i, 8, 8, 0⟩
def CAN_STAT_REC (i : Nat) : Fld := ⟨0x6009000C + 0x400 * i, 16, 7, 0⟩
def CAN_STAT_RP (i : Nat) : Fld := ⟨0x6009000C + 0x400 * i, 23, 1, 0⟩
def CAN_CNT_BOFF_CNT (i : Nat) : Fld := ⟨0x60090010 + 0x400 * i, 0, 8, 0⟩
def CAN_CNT_PXE_CNT (i : Nat) : Fld := ⟨0x60090010 + 0x400 * i, 8, 8, 0⟩
def CAN_CNT_RX_LOST (i : Nat) : Fld := ⟨0x60090010 + 0x400 * i, 16, 8, 0⟩
def CAN_CNT_FLT_ERR (i : Nat) : Fld := ⟨0x60090010 + 0x400 * i, 24, 8, 0⟩
def CAN_CMD_RECOVER (i : Nat) : Fld := ⟨0x60090014 + 0x400 * i, 0, 1, 0⟩
def CAN_IE (i : Nat) : Fld := ⟨0x60090018 + 0x400 * i, 0, 10, 0⟩
def CAN_IRQ_RXQ (i : Nat) : Fld := ⟨0x6009001C + 0x400 * i, 0, 4, 0⟩
def CAN_IRQ_TX_DONE (i : Nat) : Fld := ⟨0x6009001C + 0x400 * i, 4, 1, 0⟩
def CAN_IRQ_ERR_CHG (i : Nat) : Fld := ⟨0x6009001C + 0x400 * i, 5, 1, 0⟩
def CAN_IRQ_BOFF (i : Nat) : Fld := ⟨0x6009001C + 0x400 * i, 6, 1, 0⟩
def CAN_IRQ_RX_OVF (i : Nat) : Fld := ⟨0x6009001C + 0x400 * i, 7, 1, 0⟩
def CAN_IRQ_PXE (i : Nat) : Fld := ⟨0x6009001C + 0x400 * i, 8, 1, 0⟩
def CAN_IRQ_LOST (i : Nat) : Fld := ⟨0x6009001C + 0x400 * i, 9, 1, 0⟩
def CAN_FLT_STD_BASE (i : Nat) : Fld := ⟨0x60090020 + 0x400 * i, 0, 32, 0⟩
def CAN_FLT_EXT_BASE (i : Nat) : Fld := ⟨0x60090024 + 0x400 * i, 0, 32, 0⟩
def CAN_FLT_CNT_STD_CNT (i : Nat) : Fld := ⟨0x60090028 + 0x400 * i, 0, 13, 0⟩
def CAN_FLT_CNT_EXT_CNT (i : Nat) : Fld := ⟨0x60090028 + 0x400 * i, 16, 13, 0⟩
def CAN_FLT_POL_NM_STD (i : Nat) : Fld := ⟨0x6009002C + 0x400 * i, 0, 3, 0⟩
def CAN_FLT_POL_NM_EXT (i : Nat) : Fld := ⟨0x6009002C + 0x400 * i, 3, 3, 0⟩
def CAN_FLT_POL_REJ_RTR_STD (i : Nat) : Fld := ⟨0x6009002C + 0x400 * i, 6, 1, 0⟩
def CAN_FLT_POL_REJ_RTR_EXT (i : Nat) : Fld := ⟨0x6009002C + 0x400 * i, 7, 1, 0⟩
def CAN_FLT_CMD_COMMIT (i : Nat) : Fld := ⟨0x60090030 + 0x400 * i, 0, 1, 0⟩
def CAN_TXB_BASE (i : Nat) : Fld := ⟨0x60090034 + 0x400 * i, 0, 32, 0⟩
def CAN_TX_REQ (i j : Nat) : Fld := ⟨0x60090038 + 0x400 * i + 0x4 * j, 0, 32, 0⟩
def CAN_TX_ABT (i j : Nat) : Fld := ⟨0x60090040 + 0x400 * i + 0x4 * j, 0, 32, 0⟩
def CAN_TX_DONE (i j : Nat) : Fld := ⟨0x60090048 + 0x400 * i + 0x4 * j, 0, 32, 0⟩
def CAN_RXQ_BASE (i j : Nat) : Fld := ⟨0x60090080 + 0x400 * i + 0x10 * j, 0, 32, 0⟩
def CAN_RXQ_CTRL_EN (i j : Nat) : Fld := ⟨0x60090084 + 0x400 * i + 0x10 * j, 0, 1, 0⟩
def CAN_RXQ_CTRL_SIZE (i j : Nat) : Fld := ⟨0x60090084 + 0x400 * i + 0x10 * j, 1, 4, 0⟩
def CAN_RXQ_CTRL_OVF_CNT (i j : Nat) : Fld := ⟨0x60090084 + 0x400 * i + 0x10 * j, 16, 16, 0⟩
def CAN_RXQ_HEAD (i j : Nat) : Fld := ⟨0x60090088 + 0x400 * i + 0x10 * j, 0, 10, 0⟩
def CAN_RXQ_ACK (i j : Nat) : Fld := ⟨0x6009008C + 0x400 * i + 0x10 * j, 0, 10, 0⟩
def CAN_TX_ST_STATUS (i j : Nat) : Fld := ⟨0x60090100 + 0x400 * i + 0x4 * j, 0, 16, 0⟩
def CAN_TX_ST_ACK_TRIES (i j : Nat) : Fld := ⟨0x60090100 + 0x400 * i + 0x4 * j, 16, 8, 0⟩
def CAN_TX_ST_STATE (i j : Nat) : Fld := ⟨0x60090100 + 0x400 * i + 0x4 * j, 24, 2, 0⟩
def CAN_TX_ST_ABT_RES (i j : Nat) : Fld := ⟨0x60090100 + 0x400 * i + 0x4 * j, 26, 2, 0⟩
def CAN_LOCK : Fld := ⟨0x60092000, 0, 1, 0⟩
def CAN_ERR_LAST_ERR : Fld := ⟨0x60092004, 0, 8, 0⟩
def CAN_ERR_CONTROLLER : Fld := ⟨0x60092004, 8, 3, 0⟩
def CAN_ERR_ERR_CNT : Fld := ⟨0x60092004, 11, 21, 0⟩
def IMG_STAT_SRC : Fld := ⟨0x60098000, 0, 2, 0⟩
def IMG_STAT_ACTIVE : Fld := ⟨0x60098000, 2, 1, 0⟩
def IMG_STAT_FELL_BACK : Fld := ⟨0x60098000, 3, 1, 0⟩
def IMG_STAT_BUSY : Fld := ⟨0x60098000, 4, 1, 0⟩
def IMG_STAT_CHK_BQ : Fld := ⟨0x60098000, 8, 4, 0⟩
def IMG_STAT_CHK_A : Fld := ⟨0x60098000, 12, 4, 0⟩
def IMG_STAT_CHK_B : Fld := ⟨0x60098000, 16, 4, 0⟩
def IMG_STAT_LISTED : Fld := ⟨0x60098000, 20, 12, 0⟩
def IMG_GEN : Fld := ⟨0x60098004, 0, 32, 0⟩
def IMG_GEN_ACT_GEN : Fld := ⟨0x60098008, 0, 32, 0⟩
def IMG_FLOOR_FLOOR_GEN : Fld := ⟨0x6009800C, 0, 32, 0⟩
def IMG_BQ_VER : Fld := ⟨0x60098010, 0, 32, 0⟩
def IMG_START_IDX_INDEX : Fld := ⟨0x60098014, 0, 32, 0⟩
def IMG_LOCK : Fld := ⟨0x60098020, 0, 1, 0⟩
def IMG_ERR_LAST_ERR : Fld := ⟨0x60098024, 0, 8, 0⟩
def IMG_ERR_ERR_CNT : Fld := ⟨0x60098024, 8, 24, 0⟩
def TST_STAT_POLICY : Fld := ⟨0x600A0000, 0, 2, 0⟩
def TST_STAT_UNLOCKED : Fld := ⟨0x600A0000, 2, 1, 0⟩
def TST_STAT_DBG_ACTIVE : Fld := ⟨0x600A0000, 3, 1, 0⟩
def TST_STAT_REFUSED : Fld := ⟨0x600A0000, 4, 1, 0⟩
def TST_STAT_AUTH_FAIL : Fld := ⟨0x600A0000, 8, 8, 0⟩
def TST_CFG_DBG_RUN : Fld := ⟨0x600A0004, 0, 1, 0⟩
def TST_CMD_RELOCK : Fld := ⟨0x600A0008, 0, 1, 0⟩
def TST_ATB_SEL_SRC1 : Fld := ⟨0x600A0010, 0, 8, 0⟩
def TST_ATB_SEL_SRC2 : Fld := ⟨0x600A0010, 8, 8, 0⟩
def TST_ATB_SEL_EXT1 : Fld := ⟨0x600A0010, 16, 1, 0⟩
def TST_ATB_SEL_EXT2 : Fld := ⟨0x600A0010, 17, 1, 0⟩
def TST_SST_MASK_LO_MASK : Fld := ⟨0x600A0020, 0, 32, 0⟩
def TST_SST_MASK_HI_MASK : Fld := ⟨0x600A0024, 0, 16, 0⟩
def TST_SST_CMD_GO : Fld := ⟨0x600A0028, 0, 1, 0⟩
def TST_SST_STAT_BUSY : Fld := ⟨0x600A002C, 0, 1, 0⟩
def TST_SST_STAT_NOT_PASSED : Fld := ⟨0x600A002C, 8, 8, 0⟩
def TST_SST_RES (i : Nat) : Fld := ⟨0x600A0040 + 0x4 * i, 0, 32, 0⟩
def TST_TRC_BASE : Fld := ⟨0x600A0080, 0, 32, 0⟩
def TST_TRC_CFG_EN : Fld := ⟨0x600A0084, 0, 1, 0⟩
def TST_TRC_CFG_SIZE : Fld := ⟨0x600A0084, 1, 5, 0⟩
def TST_TRC_CFG_STOP_FULL : Fld := ⟨0x600A0084, 6, 1, 0⟩
def TST_TRC_CFG_SRC : Fld := ⟨0x600A0084, 8, 8, 0⟩
def TST_TRC_CFG_PAIR : Fld := ⟨0x600A0084, 16, 4, 0⟩
def TST_TRC_WPTR : Fld := ⟨0x600A0088, 0, 20, 0⟩
def TST_TRC_WPTR_WRAPPED : Fld := ⟨0x600A0088, 31, 1, 0⟩
def TST_TRC_CNT_DROP : Fld := ⟨0x600A008C, 0, 32, 0⟩
def TST_LOCK : Fld := ⟨0x600A00F0, 0, 1, 0⟩
def TST_ERR_LAST_ERR : Fld := ⟨0x600A00F4, 0, 8, 0⟩
def TST_ERR_ERR_CNT : Fld := ⟨0x600A00F4, 8, 24, 0⟩
def LD_FAULT_TLO_T_LO (i : Nat) : Fld := ⟨0x6001000C + 0x40 * i, 0, 32, 0⟩
def LD_FAULT_THI_T_HI (i : Nat) : Fld := ⟨0x60010010 + 0x40 * i, 0, 32, 0⟩
def LD_CLEAR_CLR (i : Nat) : Fld := ⟨0x60010014 + 0x40 * i, 0, 1, 0⟩

/-- Rows of the PWR block. -/
def rowsPwr0 : List Row := [
  ⟨.pwr, 0x60068400, [(42, 0x4)], 31, 1, .w1c, 0, .kept, false⟩,
  ⟨.pwr, 0x60068400, [(42, 0x4)], 30, 1, .w1c, 0, .kept, false⟩,
  ⟨.pwr, 0x60068400, [(32, 0x4)], 16, 8, .ro, 40, .kept, false⟩,
  ⟨.pwr, 0x60068480, [(2, 0x4)], 16, 8, .ro, 0, .kept, false⟩,
  ⟨.pwr, 0x60068488, [(7, 0x4)], 16, 8, .ro, 40, .kept, false⟩,
  ⟨.pwr, 0x600684A4, [(1, 0x4)], 16, 8, .ro, 0, .kept, false⟩,
  ⟨.pwr, 0x60068400, [(42, 0x4)], 0, 16, .ro, 0, .kept, false⟩,
  ⟨.pwr, 0x60068000, [], 31, 1, .ro, 0, .zero, false⟩,
  ⟨.pwr, 0x60068000, [], 28, 3, .ro, 0, .zero, false⟩,
  ⟨.pwr, 0x60068000, [], 16, 8, .ro, 0, .kept, false⟩,
  ⟨.pwr, 0x60068000, [], 0, 3, .ro, 0, .zero, false⟩,
  ⟨.pwr, 0x60068004, [], 31, 1, .ro, 1, .zero, false⟩,
  ⟨.pwr, 0x60068004, [], 27, 4, .ro, 0, .kept, false⟩,
  ⟨.pwr, 0x60068004, [], 23, 4, .ro, 0, .kept, false⟩,
  ⟨.pwr, 0x60068004, [], 19, 4, .ro, 0, .kept, true⟩,
  ⟨.pwr, 0x60068004, [], 13, 1, .ro, 0, .zero, false⟩,
  ⟨.pwr, 0x60068004, [], 12, 1, .ro, 0, .zero, false⟩,
  ⟨.pwr, 0x60068004, [], 11, 1, .ro, 0, .zero, false⟩,
  ⟨.pwr, 0x60068004, [], 8, 3, .ro, 0, .kept, false⟩,
  ⟨.pwr, 0x60068004, [], 0, 6, .ro, 0, .kept, true⟩,
  ⟨.pwr, 0x60068008, [], 30, 2, .ro, 0, .kept, true⟩,
  ⟨.pwr, 0x60068008, [], 28, 2, .ro, 0, .kept, true⟩,
  ⟨.pwr, 0x60068008, [], 0, 16, .ro, 0, .kept, true⟩,
  ⟨.pwr, 0x60068010, [], 0, 1, .rwl, 0, .kept, false⟩,
  ⟨.pwr, 0x60068010, [], 1, 1, .rwl, 0, .kept, false⟩,
  ⟨.pwr, 0x60068010, [], 2, 1, .rw, 0, .kept, false⟩,
  ⟨.pwr, 0x60068010, [], 3, 1, .rw, 0, .kept, false⟩,
  ⟨.pwr, 0x60068014, [], 0, 1, .ro, 0, .kept, true⟩,
  ⟨.pwr, 0x60068014, [], 1, 2, .ro, 0, .kept, true⟩,
  ⟨.pwr, 0x60068014, [], 3, 2, .ro, 0, .kept, true⟩,
  ⟨.pwr, 0x60068014, [], 5, 1, .ro, 0, .zero, false⟩,
  ⟨.pwr, 0x60068014, [], 6, 1, .ro, 0, .kept, true⟩,
  ⟨.pwr, 0x60068014, [], 7, 1, .ro, 0, .kept, true⟩,
  ⟨.pwr, 0x60068014, [], 8, 2, .w1c, 0, .kept, true⟩,
  ⟨.pwr, 0x60068014, [], 10, 3, .ro, 0, .kept, true⟩,
  ⟨.pwr, 0x60068018, [], 0, 12, .ro, 0, .kept, true⟩,
  ⟨.pwr, 0x60068018, [], 16, 12, .ro, 0, .kept, true⟩,
  ⟨.pwr, 0x6006801C, [], 0, 32, .ro, 0, .kept, false⟩,
  ⟨.pwr, 0x60068020, [], 0, 1, .wo, 0, .zero, false⟩,
  ⟨.pwr, 0x60068024, [], 0, 8, .ro, 0, .kept, true⟩]

/-- Rows of the PWR block. -/
def rowsPwr1 : List Row := [
  ⟨.pwr, 0x60068024, [], 8, 8, .ro, 0, .kept, true⟩,
  ⟨.pwr, 0x60068024, [], 16, 8, .ro, 0, .kept, true⟩,
  ⟨.pwr, 0x60068028, [], 0, 16, .ro, 0, .kept, true⟩,
  ⟨.pwr, 0x60068028, [], 16, 12, .ro, 0, .kept, true⟩,
  ⟨.pwr, 0x6006802C, [], 0, 32, .ro, 0, .kept, false⟩,
  ⟨.pwr, 0x60068030, [], 0, 24, .ro, 0, .kept, true⟩,
  ⟨.pwr, 0x60068040, [], 0, 1, .rwl, 0, .kept, false⟩,
  ⟨.pwr, 0x60068040, [], 1, 1, .rwl, 0, .kept, false⟩,
  ⟨.pwr, 0x60068040, [], 2, 1, .rwl, 0, .kept, false⟩,
  ⟨.pwr, 0x60068040, [], 3, 7, .rwl, 0, .kept, false⟩,
  ⟨.pwr, 0x60068040, [], 10, 8, .rwl, 0, .kept, false⟩,
  ⟨.pwr, 0x60068040, [], 18, 8, .rwl, 0, .kept, false⟩,
  ⟨.pwr, 0x60068044, [], 0, 8, .ro, 40, .kept, false⟩,
  ⟨.pwr, 0x60068044, [], 8, 1, .ro, 0, .kept, false⟩,
  ⟨.pwr, 0x60068044, [], 9, 1, .ro, 0, .zero, false⟩,
  ⟨.pwr, 0x60068044, [], 10, 1, .w1c, 0, .kept, false⟩,
  ⟨.pwr, 0x60068044, [], 11, 1, .w1c, 0, .kept, false⟩,
  ⟨.pwr, 0x60068044, [], 12, 1, .ro, 0, .kept, false⟩,
  ⟨.pwr, 0x60068044, [], 13, 1, .ro, 0, .kept, true⟩,
  ⟨.pwr, 0x60068044, [], 14, 1, .ro, 0, .zero, false⟩,
  ⟨.pwr, 0x60068044, [], 16, 16, .ro, 0, .kept, false⟩,
  ⟨.pwr, 0x60068048, [], 0, 16, .ro, 0, .kept, false⟩,
  ⟨.pwr, 0x60068048, [], 16, 8, .ro, 0, .kept, false⟩,
  ⟨.pwr, 0x60068048, [], 24, 8, .ro, 0, .kept, false⟩,
  ⟨.pwr, 0x6006804C, [], 0, 24, .rw, 0, .kept, false⟩,
  ⟨.pwr, 0x60068050, [], 0, 16, .rw, 0, .kept, false⟩,
  ⟨.pwr, 0x60068060, [], 0, 2, .wo, 0, .zero, false⟩,
  ⟨.pwr, 0x60068064, [], 0, 2, .ro, 0, .zero, false⟩,
  ⟨.pwr, 0x60068064, [], 2, 1, .ro, 0, .zero, false⟩,
  ⟨.pwr, 0x60068064, [], 3, 5, .ro, 0, .kept, true⟩,
  ⟨.pwr, 0x60068064, [], 8, 3, .ro, 0, .kept, true⟩,
  ⟨.pwr, 0x60068068, [], 0, 2, .wo, 0, .zero, false⟩,
  ⟨.pwr, 0x60068068, [], 8, 7, .wo, 0, .zero, false⟩,
  ⟨.pwr, 0x60068070, [], 0, 4, .rwl, 0, .kept, false⟩,
  ⟨.pwr, 0x60068070, [], 4, 8, .rwl, 0, .kept, false⟩,
  ⟨.pwr, 0x60068070, [], 12, 8, .rwl, 0, .kept, false⟩,
  ⟨.pwr, 0x60068070, [], 20, 1, .rwl, 0, .kept, false⟩,
  ⟨.pwr, 0x60068070, [], 21, 1, .rwl, 0, .kept, false⟩,
  ⟨.pwr, 0x60068070, [], 22, 1, .rwl, 0, .kept, false⟩,
  ⟨.pwr, 0x60068074, [], 0, 32, .rw, 0, .kept, false⟩]

/-- Rows of the PWR block. -/
def rowsPwr2 : List Row := [
  ⟨.pwr, 0x60068078, [], 0, 16, .w1c, 0, .kept, false⟩,
  ⟨.pwr, 0x60068078, [], 16, 5, .ro, 0, .kept, false⟩,
  ⟨.pwr, 0x6006807C, [], 0, 32, .ro, 0, .kept, false⟩,
  ⟨.pwr, 0x60068080, [], 0, 32, .ro, 0, .kept, false⟩,
  ⟨.pwr, 0x60068090, [], 0, 32, .rwl, 0, .kept, false⟩,
  ⟨.pwr, 0x60068094, [], 0, 4, .rwl, 0, .kept, false⟩,
  ⟨.pwr, 0x60068098, [], 0, 32, .ro, 0, .kept, false⟩,
  ⟨.pwr, 0x6006809C, [], 0, 4, .ro, 0, .kept, false⟩,
  ⟨.pwr, 0x600680A0, [], 0, 32, .wo, 0, .zero, false⟩,
  ⟨.pwr, 0x600680A4, [], 0, 4, .wo, 0, .zero, false⟩,
  ⟨.pwr, 0x600680F0, [], 0, 1, .rwl, 0, .kept, false⟩,
  ⟨.pwr, 0x600680F4, [], 0, 8, .ro, 0, .zero, false⟩,
  ⟨.pwr, 0x600680F4, [], 8, 24, .ro, 0, .zero, false⟩,
  ⟨.pwr, 0x60068100, [(32, 0x4)], 0, 16, .ro, 0, .kept, true⟩,
  ⟨.pwr, 0x60068100, [(32, 0x4)], 16, 16, .ro, 0, .kept, true⟩]

/-- Rows of the PWM block. -/
def rowsPwm0 : List Row := [
  ⟨.pwm, 0x60007F00, [], 0, 32, .ro, 0, .kept, false⟩,
  ⟨.pwm, 0x60007F04, [], 0, 32, .ro, 0, .kept, false⟩,
  ⟨.pwm, 0x60007F08, [], 0, 32, .ro, 0, .kept, false⟩,
  ⟨.pwm, 0x60000000, [(12, 0x100)], 0, 2, .rw, 0, .image, false⟩,
  ⟨.pwm, 0x60000000, [(12, 0x100)], 2, 2, .rw, 0, .image, false⟩,
  ⟨.pwm, 0x60000000, [(12, 0x100)], 4, 4, .rw, 0, .image, false⟩,
  ⟨.pwm, 0x60000004, [(12, 0x100)], 0, 24, .rw, 0, .image, false⟩,
  ⟨.pwm, 0x60000008, [(12, 0x100)], 0, 24, .ro, 0, .zero, false⟩,
  ⟨.pwm, 0x6000000C, [(12, 0x100)], 0, 32, .rw, 0, .zero, false⟩,
  ⟨.pwm, 0x60000010, [(12, 0x100)], 0, 32, .rw, 0, .zero, false⟩,
  ⟨.pwm, 0x60000014, [(12, 0x100)], 0, 2, .wo, 0, .zero, false⟩,
  ⟨.pwm, 0x60000018, [(12, 0x100)], 0, 1, .wo, 0, .zero, false⟩,
  ⟨.pwm, 0x6000001C, [(12, 0x100)], 0, 2, .ro, 0, .zero, false⟩,
  ⟨.pwm, 0x6000001C, [(12, 0x100)], 2, 1, .ro, 0, .zero, false⟩,
  ⟨.pwm, 0x6000001C, [(12, 0x100)], 3, 1, .ro, 0, .zero, false⟩,
  ⟨.pwm, 0x6000001C, [(12, 0x100)], 4, 1, .ro, 0, .zero, false⟩,
  ⟨.pwm, 0x6000001C, [(12, 0x100)], 5, 1, .w1c, 0, .zero, false⟩,
  ⟨.pwm, 0x6000001C, [(12, 0x100)], 6, 2, .ro, 0, .zero, false⟩,
  ⟨.pwm, 0x6000001C, [(12, 0x100)], 8, 1, .ro, 0, .zero, false⟩,
  ⟨.pwm, 0x6000001C, [(12, 0x100)], 9, 1, .ro, 0, .zero, false⟩,
  ⟨.pwm, 0x60000020, [(12, 0x100)], 0, 16, .ro, 0, .zero, false⟩,
  ⟨.pwm, 0x60000020, [(12, 0x100)], 16, 8, .ro, 0, .zero, false⟩,
  ⟨.pwm, 0x60000020, [(12, 0x100)], 24, 8, .ro, 0, .zero, false⟩,
  ⟨.pwm, 0x60000024, [(12, 0x100)], 31, 1, .ro, 0, .zero, false⟩,
  ⟨.pwm, 0x60000024, [(12, 0x100)], 24, 7, .ro, 0, .zero, false⟩,
  ⟨.pwm, 0x60000024, [(12, 0x100)], 0, 24, .ro, 0, .zero, false⟩,
  ⟨.pwm, 0x60000028, [(12, 0x100)], 0, 1, .wo, 0, .zero, false⟩,
  ⟨.pwm, 0x6000002C, [(12, 0x100)], 0, 16, .rwl, 0, .kept, false⟩,
  ⟨.pwm, 0x6000002C, [(12, 0x100)], 16, 1, .rwl, 0, .kept, false⟩,
  ⟨.pwm, 0x60000030, [(12, 0x100)], 0, 32, .rwl, 0, .kept, false⟩,
  ⟨.pwm, 0x60000034, [(12, 0x100)], 0, 32, .rwl, 0, .kept, false⟩,
  ⟨.pwm, 0x60000038, [(12, 0x100)], 0, 4, .rwl, 0, .kept, false⟩,
  ⟨.pwm, 0x60000040, [(12, 0x100), (4, 0x4)], 0, 24, .rw, 0, .image, false⟩,
  ⟨.pwm, 0x60000040, [(12, 0x100), (4, 0x4)], 31, 1, .rw, 0, .image, false⟩,
  ⟨.pwm, 0x60000050, [(12, 0x100)], 0, 24, .rw, 0, .image, false⟩,
  ⟨.pwm, 0x60000050, [(12, 0x100)], 24, 4, .rw, 0, .image, false⟩,
  ⟨.pwm, 0x60000050, [(12, 0x100)], 31, 1, .rw, 0, .image, false⟩,
  ⟨.pwm, 0x60001000, [(36, 0x40)], 0, 4, .rw, 15, .image, false⟩,
  ⟨.pwm, 0x60001000, [(36, 0x40)], 4, 1, .rwl, 0, .kept, false⟩,
  ⟨.pwm, 0x60001000, [(36, 0x40)], 5, 1, .ro, 0, .kept, false⟩]

/-- Rows of the PWM block. -/
def rowsPwm1 : List Row := [
  ⟨.pwm, 0x60001000, [(36, 0x40)], 6, 1, .ro, 0, .kept, false⟩,
  ⟨.pwm, 0x60001004, [(36, 0x40)], 0, 29, .rw, 0, .zero, false⟩,
  ⟨.pwm, 0x60001008, [(36, 0x40)], 0, 29, .rw, 0, .zero, false⟩,
  ⟨.pwm, 0x6000100C, [(36, 0x40)], 0, 29, .ro, 0, .zero, false⟩,
  ⟨.pwm, 0x60001010, [(36, 0x40)], 0, 17, .rwl, 0, .kept, false⟩,
  ⟨.pwm, 0x60001014, [(36, 0x40)], 0, 17, .rwl, 0, .kept, false⟩,
  ⟨.pwm, 0x60001014, [(36, 0x40)], 17, 10, .rwl, 0, .kept, false⟩,
  ⟨.pwm, 0x60001018, [(36, 0x40)], 0, 17, .ro, 0, .kept, false⟩,
  ⟨.pwm, 0x60001018, [(36, 0x40)], 31, 1, .ro, 0, .zero, false⟩,
  ⟨.pwm, 0x6000101C, [(36, 0x40)], 0, 17, .ro, 0, .kept, false⟩,
  ⟨.pwm, 0x6000101C, [(36, 0x40)], 31, 1, .ro, 0, .zero, false⟩,
  ⟨.pwm, 0x60001020, [(36, 0x40)], 0, 2, .rw, 0, .zero, false⟩,
  ⟨.pwm, 0x60001020, [(36, 0x40)], 2, 2, .rw, 0, .zero, false⟩,
  ⟨.pwm, 0x60001024, [(36, 0x40)], 0, 1, .w1c, 0, .kept, false⟩,
  ⟨.pwm, 0x60001024, [(36, 0x40)], 1, 1, .w1c, 0, .kept, false⟩,
  ⟨.pwm, 0x60001024, [(36, 0x40)], 2, 1, .w1c, 0, .kept, false⟩,
  ⟨.pwm, 0x60001024, [(36, 0x40)], 8, 8, .ro, 0, .kept, false⟩,
  ⟨.pwm, 0x60001024, [(36, 0x40)], 16, 16, .ro, 0, .kept, false⟩,
  ⟨.pwm, 0x60002000, [(108, 0x4)], 31, 1, .ro, 0, .kept, false⟩,
  ⟨.pwm, 0x60002000, [(108, 0x4)], 30, 1, .ro, 0, .kept, false⟩,
  ⟨.pwm, 0x60002000, [(108, 0x4)], 12, 1, .rwl, 0, .kept, false⟩,
  ⟨.pwm, 0x60002000, [(108, 0x4)], 0, 12, .rwl, 0, .kept, false⟩,
  ⟨.pwm, 0x60003000, [], 0, 12, .ro, 16, .kept, false⟩,
  ⟨.pwm, 0x60003000, [], 16, 12, .ro, 8, .kept, false⟩,
  ⟨.pwm, 0x60003004, [], 0, 12, .rwl, 80, .kept, false⟩,
  ⟨.pwm, 0x60003008, [], 0, 1, .rwl, 0, .kept, false⟩,
  ⟨.pwm, 0x6000300C, [], 0, 8, .ro, 0, .zero, false⟩,
  ⟨.pwm, 0x6000300C, [], 8, 24, .ro, 0, .zero, false⟩]

/-- Rows of the GS block. -/
def rowsGs0 : List Row := [
  ⟨.gs, 0x60008000, [(48, 0x80)], 0, 6, .rwl, 0, .kept, false⟩,
  ⟨.gs, 0x60008000, [(48, 0x80)], 6, 7, .rwl, 0, .kept, false⟩,
  ⟨.gs, 0x60008000, [(48, 0x80)], 13, 1, .rwl, 0, .kept, false⟩,
  ⟨.gs, 0x60008000, [(48, 0x80)], 14, 6, .rwl, 0, .kept, false⟩,
  ⟨.gs, 0x60008000, [(48, 0x80)], 20, 4, .rwl, 0, .kept, false⟩,
  ⟨.gs, 0x60008000, [(48, 0x80)], 24, 1, .rwl, 0, .kept, false⟩,
  ⟨.gs, 0x60008000, [(48, 0x80)], 25, 1, .rwl, 0, .kept, false⟩,
  ⟨.gs, 0x60008004, [(48, 0x80)], 0, 1, .ro, 0, .kept, false⟩,
  ⟨.gs, 0x60008004, [(48, 0x80)], 1, 1, .ro, 0, .kept, false⟩,
  ⟨.gs, 0x60008004, [(48, 0x80)], 2, 1, .ro, 0, .kept, false⟩,
  ⟨.gs, 0x60008008, [(48, 0x80)], 0, 3, .ro, 0, .kept, false⟩,
  ⟨.gs, 0x60008008, [(48, 0x80)], 3, 1, .ro, 0, .kept, false⟩,
  ⟨.gs, 0x60008008, [(48, 0x80)], 4, 4, .ro, 0, .kept, false⟩,
  ⟨.gs, 0x60008008, [(48, 0x80)], 8, 2, .ro, 0, .zero, false⟩,
  ⟨.gs, 0x60008008, [(48, 0x80)], 10, 1, .ro, 0, .kept, false⟩,
  ⟨.gs, 0x60008008, [(48, 0x80)], 11, 1, .ro, 0, .kept, false⟩,
  ⟨.gs, 0x60008008, [(48, 0x80)], 12, 1, .ro, 0, .kept, false⟩,
  ⟨.gs, 0x60008008, [(48, 0x80)], 13, 1, .ro, 0, .kept, false⟩,
  ⟨.gs, 0x60008008, [(48, 0x80)], 14, 1, .w1c, 0, .kept, false⟩,
  ⟨.gs, 0x60008008, [(48, 0x80)], 15, 1, .w1c, 0, .kept, false⟩,
  ⟨.gs, 0x60008008, [(48, 0x80)], 16, 1, .ro, 0, .zero, false⟩,
  ⟨.gs, 0x6000800C, [(48, 0x80)], 0, 32, .ro, 0, .kept, false⟩,
  ⟨.gs, 0x60008010, [(48, 0x80)], 0, 32, .ro, 0, .kept, false⟩,
  ⟨.gs, 0x60008014, [(48, 0x80)], 0, 1, .wo, 0, .zero, false⟩,
  ⟨.gs, 0x60008018, [(48, 0x80)], 0, 17, .ro, 0, .zero, false⟩,
  ⟨.gs, 0x60008018, [(48, 0x80)], 17, 1, .ro, 0, .zero, false⟩,
  ⟨.gs, 0x6000801C, [(48, 0x80)], 0, 12, .ro, 0, .kept, false⟩,
  ⟨.gs, 0x6000801C, [(48, 0x80)], 12, 1, .ro, 0, .kept, false⟩,
  ⟨.gs, 0x6000801C, [(48, 0x80)], 13, 1, .ro, 1, .kept, false⟩,
  ⟨.gs, 0x60008020, [(48, 0x80)], 0, 12, .ro, 0, .kept, false⟩,
  ⟨.gs, 0x60008020, [(48, 0x80)], 13, 1, .ro, 1, .kept, false⟩,
  ⟨.gs, 0x60008024, [(48, 0x80)], 0, 32, .ro, 0, .kept, false⟩,
  ⟨.gs, 0x60008028, [(48, 0x80)], 0, 7, .ro, 0, .kept, false⟩,
  ⟨.gs, 0x60008028, [(48, 0x80)], 7, 1, .ro, 0, .kept, false⟩,
  ⟨.gs, 0x6000802C, [(48, 0x80)], 0, 16, .ro, 0, .kept, false⟩,
  ⟨.gs, 0x60008030, [(48, 0x80)], 0, 32, .ro, 0, .kept, false⟩,
  ⟨.gs, 0x60008034, [(48, 0x80)], 0, 14, .ro, 0, .kept, false⟩,
  ⟨.gs, 0x60008038, [(48, 0x80)], 0, 16, .ro, 0, .kept, false⟩,
  ⟨.gs, 0x60008038, [(48, 0x80)], 16, 8, .ro, 0, .kept, false⟩,
  ⟨.gs, 0x60008038, [(48, 0x80)], 24, 8, .ro, 0, .kept, false⟩]

/-- Rows of the GS block. -/
def rowsGs1 : List Row := [
  ⟨.gs, 0x6000A000, [], 0, 1, .rwl, 0, .kept, false⟩,
  ⟨.gs, 0x6000A004, [], 0, 8, .ro, 0, .zero, false⟩,
  ⟨.gs, 0x6000A004, [], 8, 24, .ro, 0, .zero, false⟩]

/-- Rows of the LD block. -/
def rowsLd0 : List Row := [
  ⟨.ld, 0x60010000, [(12, 0x40)], 0, 5, .rwl, 0, .kept, false⟩,
  ⟨.ld, 0x60010000, [(12, 0x40)], 5, 5, .rwl, 0, .kept, false⟩,
  ⟨.ld, 0x60010000, [(12, 0x40)], 10, 7, .rwl, 0, .kept, false⟩,
  ⟨.ld, 0x60010000, [(12, 0x40)], 17, 1, .rwl, 0, .kept, false⟩,
  ⟨.ld, 0x60010004, [(12, 0x40)], 0, 2, .ro, 0, .kept, false⟩,
  ⟨.ld, 0x60010004, [(12, 0x40)], 2, 1, .ro, 0, .kept, false⟩,
  ⟨.ld, 0x60010008, [(12, 0x40)], 0, 3, .ro, 0, .kept, false⟩,
  ⟨.ld, 0x60010008, [(12, 0x40)], 3, 1, .ro, 0, .kept, false⟩,
  ⟨.ld, 0x60010008, [(12, 0x40)], 4, 1, .ro, 0, .kept, false⟩,
  ⟨.ld, 0x60010008, [(12, 0x40)], 5, 4, .ro, 0, .kept, false⟩,
  ⟨.ld, 0x60010008, [(12, 0x40)], 9, 2, .ro, 0, .zero, false⟩,
  ⟨.ld, 0x60010008, [(12, 0x40)], 11, 1, .ro, 0, .kept, false⟩,
  ⟨.ld, 0x60010008, [(12, 0x40)], 12, 1, .w1c, 0, .kept, false⟩,
  ⟨.ld, 0x60010018, [(12, 0x40)], 0, 17, .ro, 0, .zero, false⟩,
  ⟨.ld, 0x60010018, [(12, 0x40)], 17, 1, .ro, 0, .zero, false⟩,
  ⟨.ld, 0x60010018, [(12, 0x40)], 18, 1, .ro, 0, .zero, false⟩,
  ⟨.ld, 0x6001001C, [(12, 0x40)], 0, 16, .ro, 0, .kept, false⟩,
  ⟨.ld, 0x60010400, [(6, 0x4)], 0, 12, .ro, 0, .kept, false⟩,
  ⟨.ld, 0x60010400, [(6, 0x4)], 13, 1, .ro, 1, .kept, false⟩,
  ⟨.ld, 0x60010500, [], 0, 1, .rwl, 0, .kept, false⟩,
  ⟨.ld, 0x60010504, [], 0, 8, .ro, 0, .zero, false⟩,
  ⟨.ld, 0x60010504, [], 8, 24, .ro, 0, .zero, false⟩,
  ⟨.ld, 0x6001000C, [(12, 0x40)], 0, 32, .ro, 0, .kept, false⟩,
  ⟨.ld, 0x60010010, [(12, 0x40)], 0, 32, .ro, 0, .kept, false⟩,
  ⟨.ld, 0x60010014, [(12, 0x40)], 0, 1, .wo, 0, .zero, false⟩]

/-- Rows of the ADC block. -/
def rowsAdc0 : List Row := [
  ⟨.adc, 0x60018000, [(32, 0x100)], 0, 1, .rw, 0, .image, false⟩,
  ⟨.adc, 0x60018000, [(32, 0x100)], 1, 2, .rw, 0, .image, false⟩,
  ⟨.adc, 0x60018000, [(32, 0x100)], 3, 7, .rw, 0, .image, false⟩,
  ⟨.adc, 0x60018000, [(32, 0x100)], 10, 4, .rw, 0, .image, false⟩,
  ⟨.adc, 0x60018000, [(32, 0x100)], 14, 7, .rw, 0, .image, false⟩,
  ⟨.adc, 0x60018000, [(32, 0x100)], 21, 1, .rw, 0, .image, false⟩,
  ⟨.adc, 0x60018000, [(32, 0x100)], 22, 4, .rw, 0, .image, false⟩,
  ⟨.adc, 0x60018000, [(32, 0x100)], 26, 1, .rw, 0, .image, false⟩,
  ⟨.adc, 0x60018000, [(32, 0x100)], 27, 1, .rw, 0, .image, false⟩,
  ⟨.adc, 0x60018000, [(32, 0x100)], 28, 1, .rw, 0, .image, false⟩,
  ⟨.adc, 0x60018000, [(32, 0x100)], 29, 1, .rw, 0, .image, false⟩,
  ⟨.adc, 0x60018004, [(32, 0x100)], 0, 1, .ro, 0, .zero, false⟩,
  ⟨.adc, 0x60018004, [(32, 0x100)], 1, 4, .ro, 0, .zero, false⟩,
  ⟨.adc, 0x60018004, [(32, 0x100)], 5, 1, .ro, 0, .zero, false⟩,
  ⟨.adc, 0x60018004, [(32, 0x100)], 6, 1, .ro, 0, .zero, false⟩,
  ⟨.adc, 0x60018004, [(32, 0x100)], 7, 1, .ro, 0, .zero, false⟩,
  ⟨.adc, 0x60018008, [(32, 0x100)], 0, 16, .ro, 0, .zero, false⟩,
  ⟨.adc, 0x60018008, [(32, 0x100)], 16, 8, .ro, 0, .zero, false⟩,
  ⟨.adc, 0x60018008, [(32, 0x100)], 24, 8, .ro, 0, .zero, false⟩,
  ⟨.adc, 0x6001800C, [(32, 0x100)], 0, 1, .rwl, 0, .image, false⟩,
  ⟨.adc, 0x6001800C, [(32, 0x100)], 1, 1, .rwl, 0, .image, false⟩,
  ⟨.adc, 0x6001800C, [(32, 0x100)], 2, 5, .rwl, 0, .image, false⟩,
  ⟨.adc, 0x6001800C, [(32, 0x100)], 8, 8, .rwl, 0, .image, false⟩,
  ⟨.adc, 0x6001800C, [(32, 0x100)], 16, 12, .rwl, 0, .image, false⟩,
  ⟨.adc, 0x60018010, [(32, 0x100)], 0, 12, .rwl, 0, .image, false⟩,
  ⟨.adc, 0x60018010, [(32, 0x100)], 16, 12, .rwl, 0, .image, false⟩,
  ⟨.adc, 0x60018014, [(32, 0x100)], 0, 1, .ro, 0, .zero, false⟩,
  ⟨.adc, 0x60018014, [(32, 0x100)], 1, 1, .ro, 0, .zero, false⟩,
  ⟨.adc, 0x60018014, [(32, 0x100)], 2, 1, .w1c, 0, .zero, false⟩,
  ⟨.adc, 0x60018014, [(32, 0x100)], 16, 16, .ro, 0, .zero, false⟩,
  ⟨.adc, 0x60018018, [(32, 0x100)], 0, 3, .rw, 0, .image, false⟩,
  ⟨.adc, 0x60018018, [(32, 0x100)], 3, 7, .rw, 0, .image, false⟩,
  ⟨.adc, 0x60018018, [(32, 0x100)], 10, 2, .rw, 0, .image, false⟩,
  ⟨.adc, 0x60018018, [(32, 0x100)], 12, 8, .rw, 0, .image, false⟩,
  ⟨.adc, 0x60018018, [(32, 0x100)], 20, 12, .rw, 0, .image, false⟩,
  ⟨.adc, 0x6001801C, [(32, 0x100)], 0, 1, .rw, 0, .image, false⟩,
  ⟨.adc, 0x6001801C, [(32, 0x100)], 1, 5, .rw, 0, .image, false⟩,
  ⟨.adc, 0x6001801C, [(32, 0x100)], 6, 12, .rw, 0, .image, false⟩,
  ⟨.adc, 0x60018020, [(32, 0x100)], 0, 1, .wo, 0, .zero, false⟩,
  ⟨.adc, 0x60018020, [(32, 0x100)], 1, 1, .wo, 0, .zero, false⟩]

/-- Rows of the ADC block. -/
def rowsAdc1 : List Row := [
  ⟨.adc, 0x60018024, [(32, 0x100)], 0, 16, .rw, 0, .image, false⟩,
  ⟨.adc, 0x60018040, [(32, 0x100), (16, 0x4)], 0, 3, .rw, 0, .image, false⟩,
  ⟨.adc, 0x60018040, [(32, 0x100), (16, 0x4)], 3, 7, .rw, 0, .image, false⟩,
  ⟨.adc, 0x60018040, [(32, 0x100), (16, 0x4)], 10, 2, .rw, 0, .image, false⟩,
  ⟨.adc, 0x60018040, [(32, 0x100), (16, 0x4)], 12, 8, .rw, 0, .image, false⟩,
  ⟨.adc, 0x60018040, [(32, 0x100), (16, 0x4)], 20, 12, .rw, 0, .image, false⟩,
  ⟨.adc, 0x60018080, [(32, 0x100), (16, 0x4)], 0, 1, .rw, 0, .image, false⟩,
  ⟨.adc, 0x60018080, [(32, 0x100), (16, 0x4)], 1, 5, .rw, 0, .image, false⟩,
  ⟨.adc, 0x60018080, [(32, 0x100), (16, 0x4)], 6, 12, .rw, 0, .image, false⟩,
  ⟨.adc, 0x6001A008, [(32, 0x200), (16, 0x20)], 0, 32, .ro, 0, .zero, false⟩,
  ⟨.adc, 0x6001F008, [(32, 0x20)], 0, 32, .ro, 0, .zero, false⟩,
  ⟨.adc, 0x6001A00C, [(32, 0x200), (16, 0x20)], 0, 32, .ro, 0, .zero, false⟩,
  ⟨.adc, 0x6001F00C, [(32, 0x20)], 0, 32, .ro, 0, .zero, false⟩,
  ⟨.adc, 0x6001A010, [(32, 0x200), (16, 0x20)], 0, 1, .ro, 0, .zero, false⟩,
  ⟨.adc, 0x6001F010, [(32, 0x20)], 0, 1, .ro, 0, .zero, false⟩,
  ⟨.adc, 0x6001A010, [(32, 0x200), (16, 0x20)], 1, 1, .ro, 0, .zero, false⟩,
  ⟨.adc, 0x6001F010, [(32, 0x20)], 1, 1, .ro, 0, .zero, false⟩,
  ⟨.adc, 0x6001A010, [(32, 0x200), (16, 0x20)], 2, 1, .ro, 0, .zero, false⟩,
  ⟨.adc, 0x6001F010, [(32, 0x20)], 2, 1, .ro, 0, .zero, false⟩,
  ⟨.adc, 0x6001A010, [(32, 0x200), (16, 0x20)], 3, 1, .ro, 0, .zero, false⟩,
  ⟨.adc, 0x6001F010, [(32, 0x20)], 3, 1, .ro, 0, .zero, false⟩,
  ⟨.adc, 0x6001A010, [(32, 0x200), (16, 0x20)], 4, 1, .ro, 0, .zero, false⟩,
  ⟨.adc, 0x6001F010, [(32, 0x20)], 4, 1, .ro, 0, .zero, false⟩,
  ⟨.adc, 0x6001A010, [(32, 0x200), (16, 0x20)], 24, 8, .ro, 0, .zero, false⟩,
  ⟨.adc, 0x6001F010, [(32, 0x20)], 24, 8, .ro, 0, .zero, false⟩,
  ⟨.adc, 0x6001A014, [(32, 0x200), (16, 0x20)], 0, 25, .ro, 0, .zero, false⟩,
  ⟨.adc, 0x6001F014, [(32, 0x20)], 0, 25, .ro, 0, .zero, false⟩,
  ⟨.adc, 0x6001E000, [], 0, 1, .rwl, 0, .kept, false⟩,
  ⟨.adc, 0x6001E004, [], 0, 8, .ro, 0, .zero, false⟩,
  ⟨.adc, 0x6001E004, [], 8, 24, .ro, 0, .zero, false⟩]

/-- The mirror records of the modulator channels (R161). -/
def rowsMirMod : List Row := [
  ⟨.mod, 0x60021008, [(24, 0x20)], 0, 32, .ro, 0, .zero, false⟩,
  ⟨.mod, 0x6002100C, [(24, 0x20)], 0, 32, .ro, 0, .zero, false⟩,
  ⟨.mod, 0x60021010, [(24, 0x20)], 0, 1, .ro, 0, .zero, false⟩,
  ⟨.mod, 0x60021010, [(24, 0x20)], 1, 1, .ro, 0, .zero, false⟩,
  ⟨.mod, 0x60021010, [(24, 0x20)], 2, 1, .ro, 0, .zero, false⟩,
  ⟨.mod, 0x60021010, [(24, 0x20)], 3, 1, .ro, 0, .zero, false⟩,
  ⟨.mod, 0x60021010, [(24, 0x20)], 4, 1, .ro, 0, .zero, false⟩,
  ⟨.mod, 0x60021010, [(24, 0x20)], 24, 8, .ro, 0, .zero, false⟩,
  ⟨.mod, 0x60021014, [(24, 0x20)], 0, 25, .ro, 0, .zero, false⟩]

/-- Rows of the MOD block. -/
def rowsMod0 : List Row := [
  ⟨.mod, 0x60020000, [(24, 0x40)], 0, 1, .rwl, 0, .image, false⟩,
  ⟨.mod, 0x60020000, [(24, 0x40)], 1, 2, .rwl, 0, .image, false⟩,
  ⟨.mod, 0x60020000, [(24, 0x40)], 3, 1, .rwl, 0, .image, false⟩,
  ⟨.mod, 0x60020000, [(24, 0x40)], 4, 8, .rwl, 0, .image, false⟩,
  ⟨.mod, 0x60020000, [(24, 0x40)], 12, 8, .rwl, 0, .image, false⟩,
  ⟨.mod, 0x60020000, [(24, 0x40)], 20, 8, .rwl, 0, .image, false⟩,
  ⟨.mod, 0x60020000, [(24, 0x40)], 28, 4, .rwl, 0, .image, false⟩,
  ⟨.mod, 0x60020004, [(24, 0x40)], 0, 1, .rwl, 0, .image, false⟩,
  ⟨.mod, 0x60020004, [(24, 0x40)], 1, 5, .rwl, 0, .image, false⟩,
  ⟨.mod, 0x60020004, [(24, 0x40)], 6, 12, .rwl, 0, .image, false⟩,
  ⟨.mod, 0x60020008, [(24, 0x40)], 0, 1, .ro, 0, .zero, false⟩,
  ⟨.mod, 0x60020008, [(24, 0x40)], 1, 1, .ro, 1, .zero, false⟩,
  ⟨.mod, 0x6002000C, [(24, 0x40)], 0, 16, .ro, 0, .zero, false⟩,
  ⟨.mod, 0x60020010, [(24, 0x40)], 0, 16, .rw, 0, .image, false⟩,
  ⟨.mod, 0x60020014, [(24, 0x40)], 0, 1, .rw, 0, .image, false⟩,
  ⟨.mod, 0x60020014, [(24, 0x40)], 1, 1, .rw, 0, .image, false⟩,
  ⟨.mod, 0x60021800, [(4, 0x4)], 0, 7, .rwl, 0, .image, false⟩,
  ⟨.mod, 0x60021800, [(4, 0x4)], 7, 1, .rwl, 0, .image, false⟩,
  ⟨.mod, 0x60021900, [], 0, 1, .rwl, 0, .kept, false⟩,
  ⟨.mod, 0x60021904, [], 0, 8, .ro, 0, .zero, false⟩,
  ⟨.mod, 0x60021904, [], 8, 24, .ro, 0, .zero, false⟩]

/-- Rows of the FB block. -/
def rowsFb0 : List Row := [
  ⟨.fb, 0x60028000, [(8, 0x100)], 0, 1, .rw, 0, .image, false⟩,
  ⟨.fb, 0x60028000, [(8, 0x100)], 1, 2, .rwl, 0, .image, false⟩,
  ⟨.fb, 0x60028000, [(8, 0x100)], 3, 2, .rwl, 0, .image, false⟩,
  ⟨.fb, 0x60028000, [(8, 0x100)], 5, 4, .rwl, 0, .image, false⟩,
  ⟨.fb, 0x60028000, [(8, 0x100)], 9, 2, .rwl, 0, .image, false⟩,
  ⟨.fb, 0x60028000, [(8, 0x100)], 11, 3, .rwl, 0, .image, false⟩,
  ⟨.fb, 0x60028000, [(8, 0x100)], 14, 4, .rw, 0, .image, false⟩,
  ⟨.fb, 0x60028000, [(8, 0x100)], 18, 1, .rwl, 0, .image, false⟩,
  ⟨.fb, 0x60028000, [(8, 0x100)], 19, 5, .rw, 0, .image, false⟩,
  ⟨.fb, 0x60028004, [(8, 0x100)], 0, 32, .rwl, 0, .image, false⟩,
  ⟨.fb, 0x60028008, [(8, 0x100)], 0, 32, .rw, 0, .image, false⟩,
  ⟨.fb, 0x6002800C, [(8, 0x100)], 0, 1, .wo, 0, .zero, false⟩,
  ⟨.fb, 0x60028010, [(8, 0x100)], 0, 32, .wo, 0, .zero, false⟩,
  ⟨.fb, 0x60028014, [(8, 0x100)], 0, 32, .ro, 0, .zero, false⟩,
  ⟨.fb, 0x60028018, [(8, 0x100)], 0, 32, .ro, 0, .zero, false⟩,
  ⟨.fb, 0x6002801C, [(8, 0x100)], 0, 32, .ro, 0, .zero, false⟩,
  ⟨.fb, 0x60028020, [(8, 0x100)], 0, 32, .ro, 0, .zero, false⟩,
  ⟨.fb, 0x60028024, [(8, 0x100)], 0, 32, .ro, 0, .zero, false⟩,
  ⟨.fb, 0x60028028, [(8, 0x100)], 0, 1, .ro, 0, .zero, false⟩,
  ⟨.fb, 0x60028028, [(8, 0x100)], 1, 1, .ro, 1, .zero, false⟩,
  ⟨.fb, 0x60028028, [(8, 0x100)], 2, 1, .ro, 0, .zero, false⟩,
  ⟨.fb, 0x60028028, [(8, 0x100)], 3, 1, .ro, 0, .zero, false⟩,
  ⟨.fb, 0x60028028, [(8, 0x100)], 4, 1, .ro, 0, .zero, false⟩,
  ⟨.fb, 0x60028028, [(8, 0x100)], 5, 1, .ro, 0, .zero, false⟩,
  ⟨.fb, 0x60028028, [(8, 0x100)], 6, 1, .ro, 0, .zero, false⟩,
  ⟨.fb, 0x60028028, [(8, 0x100)], 7, 3, .ro, 0, .zero, false⟩,
  ⟨.fb, 0x60028028, [(8, 0x100)], 10, 1, .w1c, 0, .zero, false⟩,
  ⟨.fb, 0x60028028, [(8, 0x100)], 11, 1, .w1c, 0, .zero, false⟩,
  ⟨.fb, 0x60028028, [(8, 0x100)], 12, 1, .w1c, 0, .zero, false⟩,
  ⟨.fb, 0x60028028, [(8, 0x100)], 13, 1, .w1c, 0, .zero, false⟩,
  ⟨.fb, 0x60028028, [(8, 0x100)], 14, 1, .w1c, 0, .zero, false⟩,
  ⟨.fb, 0x60028028, [(8, 0x100)], 15, 1, .w1c, 0, .zero, false⟩,
  ⟨.fb, 0x60028028, [(8, 0x100)], 16, 1, .ro, 0, .zero, false⟩,
  ⟨.fb, 0x60028028, [(8, 0x100)], 17, 1, .ro, 0, .zero, false⟩,
  ⟨.fb, 0x6002802C, [(8, 0x100)], 0, 16, .ro, 0, .zero, false⟩,
  ⟨.fb, 0x6002802C, [(8, 0x100)], 16, 8, .ro, 0, .zero, false⟩,
  ⟨.fb, 0x6002802C, [(8, 0x100)], 24, 8, .ro, 0, .zero, false⟩,
  ⟨.fb, 0x60028030, [(8, 0x100)], 0, 6, .rwl, 0, .image, false⟩,
  ⟨.fb, 0x60028030, [(8, 0x100)], 6, 10, .rwl, 0, .image, false⟩,
  ⟨.fb, 0x60028030, [(8, 0x100)], 16, 8, .rwl, 0, .image, false⟩]

/-- Rows of the FB block. -/
def rowsFb1 : List Row := [
  ⟨.fb, 0x60028034, [(8, 0x100)], 0, 16, .rw, 0, .image, false⟩,
  ⟨.fb, 0x60028038, [(8, 0x100)], 0, 18, .rw, 0, .image, false⟩,
  ⟨.fb, 0x60028038, [(8, 0x100)], 18, 7, .rw, 0, .image, false⟩,
  ⟨.fb, 0x60028038, [(8, 0x100)], 25, 1, .rw, 0, .image, false⟩,
  ⟨.fb, 0x6002803C, [(8, 0x100)], 0, 32, .rw, 0, .image, false⟩,
  ⟨.fb, 0x60028040, [(8, 0x100)], 0, 8, .rwl, 0, .image, false⟩,
  ⟨.fb, 0x60028040, [(8, 0x100)], 8, 6, .rwl, 0, .image, false⟩,
  ⟨.fb, 0x60028040, [(8, 0x100)], 14, 6, .rwl, 0, .image, false⟩,
  ⟨.fb, 0x60028040, [(8, 0x100)], 20, 6, .rwl, 0, .image, false⟩,
  ⟨.fb, 0x60028040, [(8, 0x100)], 26, 1, .rwl, 0, .image, false⟩,
  ⟨.fb, 0x60028040, [(8, 0x100)], 27, 5, .rwl, 0, .image, false⟩,
  ⟨.fb, 0x60028044, [(8, 0x100)], 0, 8, .rwl, 0, .image, false⟩,
  ⟨.fb, 0x60028044, [(8, 0x100)], 8, 7, .rw, 0, .image, false⟩,
  ⟨.fb, 0x60028044, [(8, 0x100)], 15, 1, .rw, 0, .image, false⟩,
  ⟨.fb, 0x60028048, [(8, 0x100)], 0, 32, .ro, 0, .zero, false⟩,
  ⟨.fb, 0x6002804C, [(8, 0x100)], 0, 16, .ro, 0, .zero, false⟩,
  ⟨.fb, 0x60028050, [(8, 0x100)], 0, 2, .rwl, 0, .image, false⟩,
  ⟨.fb, 0x60028050, [(8, 0x100)], 2, 5, .rwl, 0, .image, false⟩,
  ⟨.fb, 0x60028050, [(8, 0x100)], 7, 5, .rwl, 0, .image, false⟩,
  ⟨.fb, 0x60028050, [(8, 0x100)], 12, 5, .rwl, 0, .image, false⟩,
  ⟨.fb, 0x60028050, [(8, 0x100)], 17, 5, .rwl, 0, .image, false⟩,
  ⟨.fb, 0x60028054, [(8, 0x100)], 0, 18, .rwl, 0, .image, false⟩,
  ⟨.fb, 0x60028054, [(8, 0x100)], 18, 12, .rwl, 0, .image, false⟩,
  ⟨.fb, 0x60028058, [(8, 0x100)], 0, 7, .rw, 0, .image, false⟩,
  ⟨.fb, 0x60028058, [(8, 0x100)], 7, 1, .rw, 0, .image, false⟩,
  ⟨.fb, 0x60028058, [(8, 0x100)], 8, 2, .rw, 0, .image, false⟩,
  ⟨.fb, 0x60028058, [(8, 0x100)], 10, 4, .rw, 0, .image, false⟩,
  ⟨.fb, 0x60028080, [(8, 0x100), (3, 0x14)], 0, 32, .ro, 0, .zero, false⟩,
  ⟨.fb, 0x60028084, [(8, 0x100), (3, 0x14)], 0, 32, .ro, 0, .zero, false⟩,
  ⟨.fb, 0x60028088, [(8, 0x100), (3, 0x14)], 0, 32, .ro, 0, .zero, false⟩,
  ⟨.fb, 0x6002808C, [(8, 0x100), (3, 0x14)], 0, 32, .ro, 0, .zero, false⟩,
  ⟨.fb, 0x60028090, [(8, 0x100), (3, 0x14)], 0, 1, .w1c, 0, .zero, false⟩,
  ⟨.fb, 0x60028090, [(8, 0x100), (3, 0x14)], 8, 8, .ro, 0, .zero, false⟩,
  ⟨.fb, 0x6002D000, [(4, 0x4)], 0, 1, .rwl, 0, .image, false⟩,
  ⟨.fb, 0x6002D000, [(4, 0x4)], 1, 18, .rwl, 0, .image, false⟩,
  ⟨.fb, 0x6002D000, [(4, 0x4)], 19, 12, .rwl, 0, .image, false⟩,
  ⟨.fb, 0x6002C000, [(4, 0x8)], 0, 1, .rw, 0, .image, false⟩,
  ⟨.fb, 0x6002C000, [(4, 0x8)], 1, 3, .rw, 0, .image, false⟩,
  ⟨.fb, 0x6002C000, [(4, 0x8)], 4, 17, .rw, 0, .image, false⟩,
  ⟨.fb, 0x6002C004, [(4, 0x8)], 0, 1, .ro, 0, .zero, false⟩]

/-- Rows of the FB block. -/
def rowsFb2 : List Row := [
  ⟨.fb, 0x6002C004, [(4, 0x8)], 1, 1, .w1c, 0, .zero, false⟩,
  ⟨.fb, 0x6002C004, [(4, 0x8)], 16, 16, .ro, 0, .zero, false⟩,
  ⟨.fb, 0x6002E000, [], 0, 1, .rwl, 0, .kept, false⟩,
  ⟨.fb, 0x6002E004, [], 0, 8, .ro, 0, .zero, false⟩,
  ⟨.fb, 0x6002E004, [], 8, 24, .ro, 0, .zero, false⟩]

/-- Rows of the LE block. -/
def rowsLe0 : List Row := [
  ⟨.le, 0x40014000, [(32, 0x20000)], 0, 2, .wo, 0, .zero, false⟩,
  ⟨.le, 0x40014000, [(32, 0x20000)], 4, 1, .wo, 0, .zero, false⟩,
  ⟨.le, 0x40014004, [(32, 0x20000)], 0, 7, .rwl, 0, .image, false⟩,
  ⟨.le, 0x40014004, [(32, 0x20000)], 7, 1, .rwl, 0, .image, false⟩,
  ⟨.le, 0x40014004, [(32, 0x20000)], 8, 7, .rwl, 0, .image, false⟩,
  ⟨.le, 0x40014004, [(32, 0x20000)], 15, 1, .rwl, 0, .image, false⟩,
  ⟨.le, 0x40014004, [(32, 0x20000)], 16, 4, .rwl, 0, .image, false⟩,
  ⟨.le, 0x40014004, [(32, 0x20000)], 20, 1, .rwl, 0, .image, false⟩,
  ⟨.le, 0x40014004, [(32, 0x20000)], 21, 1, .rwl, 0, .image, false⟩,
  ⟨.le, 0x40014004, [(32, 0x20000)], 22, 1, .rwl, 0, .image, false⟩,
  ⟨.le, 0x40014004, [(32, 0x20000)], 23, 1, .rwl, 0, .image, false⟩,
  ⟨.le, 0x40014008, [(32, 0x20000)], 0, 24, .rwl, 0, .image, false⟩,
  ⟨.le, 0x4001400C, [(32, 0x20000)], 0, 3, .ro, 0, .zero, false⟩,
  ⟨.le, 0x4001400C, [(32, 0x20000)], 3, 1, .ro, 0, .kept, false⟩,
  ⟨.le, 0x4001400C, [(32, 0x20000)], 4, 1, .ro, 0, .zero, false⟩,
  ⟨.le, 0x4001400C, [(32, 0x20000)], 5, 1, .w1c, 0, .zero, false⟩,
  ⟨.le, 0x4001400C, [(32, 0x20000)], 6, 1, .w1c, 0, .zero, false⟩,
  ⟨.le, 0x4001400C, [(32, 0x20000)], 7, 1, .w1c, 0, .zero, false⟩,
  ⟨.le, 0x4001400C, [(32, 0x20000)], 8, 1, .ro, 0, .zero, false⟩,
  ⟨.le, 0x4001400C, [(32, 0x20000)], 9, 2, .ro, 0, .zero, false⟩,
  ⟨.le, 0x4001400C, [(32, 0x20000)], 11, 2, .ro, 0, .zero, false⟩,
  ⟨.le, 0x4001400C, [(32, 0x20000)], 13, 3, .ro, 0, .zero, false⟩,
  ⟨.le, 0x4001400C, [(32, 0x20000)], 16, 8, .ro, 0, .zero, false⟩,
  ⟨.le, 0x40014010, [(32, 0x20000)], 0, 12, .ro, 0, .zero, false⟩,
  ⟨.le, 0x40014014, [(32, 0x20000)], 0, 20, .ro, 0, .zero, false⟩,
  ⟨.le, 0x40014018, [(32, 0x20000)], 0, 20, .ro, 0, .zero, false⟩,
  ⟨.le, 0x4001401C, [(32, 0x20000)], 0, 20, .ro, 0, .zero, false⟩,
  ⟨.le, 0x40014020, [(32, 0x20000)], 0, 20, .ro, 0, .zero, false⟩,
  ⟨.le, 0x40014024, [(32, 0x20000)], 0, 32, .ro, 0, .zero, false⟩,
  ⟨.le, 0x40014028, [(32, 0x20000)], 0, 32, .ro, 0, .zero, false⟩,
  ⟨.le, 0x4001402C, [(32, 0x20000)], 0, 16, .ro, 0, .kept, false⟩,
  ⟨.le, 0x4001402C, [(32, 0x20000)], 16, 16, .ro, 0, .kept, false⟩,
  ⟨.le, 0x40014030, [(32, 0x20000)], 0, 16, .ro, 0, .kept, false⟩,
  ⟨.le, 0x40014030, [(32, 0x20000)], 16, 8, .ro, 0, .kept, false⟩,
  ⟨.le, 0x40014030, [(32, 0x20000)], 24, 8, .ro, 0, .kept, false⟩,
  ⟨.le, 0x40014034, [(32, 0x20000)], 0, 16, .ro, 0, .kept, false⟩,
  ⟨.le, 0x40014038, [(32, 0x20000)], 0, 8, .ro, 0, .zero, false⟩,
  ⟨.le, 0x40014038, [(32, 0x20000)], 8, 1, .w1c, 0, .zero, false⟩,
  ⟨.le, 0x4001403C, [(32, 0x20000)], 0, 2, .ro, 0, .zero, false⟩,
  ⟨.le, 0x4001403C, [(32, 0x20000)], 2, 4, .ro, 0, .zero, false⟩]

/-- Rows of the LE block. -/
def rowsLe1 : List Row := [
  ⟨.le, 0x40014040, [(32, 0x20000), (8, 0x4)], 0, 19, .rw, 0, .image, false⟩,
  ⟨.le, 0x40014040, [(32, 0x20000), (8, 0x4)], 19, 5, .rw, 0, .image, false⟩,
  ⟨.le, 0x40014040, [(32, 0x20000), (8, 0x4)], 24, 1, .rw, 0, .image, false⟩,
  ⟨.le, 0x40014040, [(32, 0x20000), (8, 0x4)], 25, 1, .rw, 0, .image, false⟩,
  ⟨.le, 0x60030000, [(32, 0x4)], 0, 3, .ro, 0, .zero, false⟩,
  ⟨.le, 0x60030000, [(32, 0x4)], 3, 1, .ro, 0, .zero, false⟩,
  ⟨.le, 0x60030000, [(32, 0x4)], 4, 2, .ro, 0, .zero, false⟩,
  ⟨.le, 0x60030100, [(12, 0x4)], 0, 6, .ro, 63, .zero, false⟩,
  ⟨.le, 0x60030200, [], 0, 1, .rwl, 0, .kept, false⟩,
  ⟨.le, 0x60030204, [], 0, 8, .ro, 0, .zero, false⟩,
  ⟨.le, 0x60030204, [], 8, 5, .ro, 0, .zero, false⟩,
  ⟨.le, 0x60030204, [], 13, 19, .ro, 0, .zero, false⟩]

/-- Rows of the TRC block. -/
def rowsTrc0 : List Row := [
  ⟨.trc, 0x60038000, [(4, 0x80)], 0, 1, .rw, 0, .image, false⟩,
  ⟨.trc, 0x60038000, [(4, 0x80)], 1, 1, .rwl, 0, .image, false⟩,
  ⟨.trc, 0x60038000, [(4, 0x80)], 2, 4, .rwl, 0, .image, false⟩,
  ⟨.trc, 0x60038000, [(4, 0x80)], 6, 5, .rwl, 0, .image, false⟩,
  ⟨.trc, 0x60038000, [(4, 0x80)], 11, 3, .rwl, 0, .image, false⟩,
  ⟨.trc, 0x60038000, [(4, 0x80)], 14, 1, .rwl, 0, .image, false⟩,
  ⟨.trc, 0x60038000, [(4, 0x80)], 15, 1, .rw, 0, .image, false⟩,
  ⟨.trc, 0x60038000, [(4, 0x80)], 16, 4, .rw, 0, .image, false⟩,
  ⟨.trc, 0x60038004, [(4, 0x80)], 0, 8, .rwl, 0, .image, false⟩,
  ⟨.trc, 0x60038004, [(4, 0x80)], 8, 8, .rwl, 0, .image, false⟩,
  ⟨.trc, 0x60038004, [(4, 0x80)], 16, 10, .rw, 0, .image, false⟩,
  ⟨.trc, 0x60038028, [(4, 0x80)], 0, 1, .ro, 0, .zero, false⟩,
  ⟨.trc, 0x60038028, [(4, 0x80)], 1, 1, .ro, 0, .zero, false⟩,
  ⟨.trc, 0x60038028, [(4, 0x80)], 2, 1, .ro, 0, .zero, false⟩,
  ⟨.trc, 0x60038028, [(4, 0x80)], 3, 1, .ro, 0, .zero, false⟩,
  ⟨.trc, 0x60038028, [(4, 0x80)], 4, 1, .ro, 0, .zero, false⟩,
  ⟨.trc, 0x60038028, [(4, 0x80)], 5, 1, .w1c, 0, .zero, false⟩,
  ⟨.trc, 0x60038028, [(4, 0x80)], 8, 9, .ro, 256, .zero, false⟩,
  ⟨.trc, 0x6003802C, [(4, 0x80)], 0, 16, .ro, 0, .zero, false⟩,
  ⟨.trc, 0x6003802C, [(4, 0x80)], 16, 1, .ro, 0, .zero, false⟩,
  ⟨.trc, 0x60038030, [(4, 0x80)], 0, 32, .ro, 0, .zero, false⟩,
  ⟨.trc, 0x60038034, [(4, 0x80)], 0, 16, .ro, 0, .kept, false⟩,
  ⟨.trc, 0x60038034, [(4, 0x80)], 16, 16, .ro, 0, .kept, false⟩,
  ⟨.trc, 0x60038038, [(4, 0x80)], 0, 1, .ro, 0, .kept, false⟩,
  ⟨.trc, 0x6003803C, [(4, 0x80)], 0, 16, .ro, 0, .zero, false⟩,
  ⟨.trc, 0x6003803C, [(4, 0x80)], 16, 16, .ro, 0, .zero, false⟩,
  ⟨.trc, 0x60038400, [(2, 0x40)], 0, 1, .rw, 0, .image, false⟩,
  ⟨.trc, 0x60038400, [(2, 0x40)], 1, 5, .rwl, 0, .image, false⟩,
  ⟨.trc, 0x60038400, [(2, 0x40)], 6, 4, .rwl, 0, .image, false⟩,
  ⟨.trc, 0x60038400, [(2, 0x40)], 10, 1, .rwl, 0, .image, false⟩,
  ⟨.trc, 0x60038400, [(2, 0x40)], 11, 1, .rwl, 0, .image, false⟩,
  ⟨.trc, 0x60038400, [(2, 0x40)], 12, 4, .rwl, 0, .image, false⟩,
  ⟨.trc, 0x60038400, [(2, 0x40)], 16, 5, .rwl, 0, .image, false⟩,
  ⟨.trc, 0x60038400, [(2, 0x40)], 21, 8, .rwl, 0, .image, false⟩,
  ⟨.trc, 0x60038404, [(2, 0x40)], 0, 12, .rwl, 0, .image, false⟩,
  ⟨.trc, 0x60038404, [(2, 0x40)], 16, 12, .rwl, 0, .image, false⟩,
  ⟨.trc, 0x60038408, [(2, 0x40)], 0, 12, .rwl, 0, .image, false⟩,
  ⟨.trc, 0x60038408, [(2, 0x40)], 16, 12, .rwl, 0, .image, false⟩,
  ⟨.trc, 0x6003840C, [(2, 0x40)], 0, 12, .rwl, 0, .image, false⟩,
  ⟨.trc, 0x60038410, [(2, 0x40)], 0, 8, .rwl, 0, .image, false⟩]

/-- Rows of the TRC block. -/
def rowsTrc1 : List Row := [
  ⟨.trc, 0x60038410, [(2, 0x40)], 8, 8, .rwl, 0, .image, false⟩,
  ⟨.trc, 0x60038414, [(2, 0x40)], 0, 12, .ro, 0, .zero, false⟩,
  ⟨.trc, 0x60038414, [(2, 0x40)], 12, 1, .ro, 0, .zero, false⟩,
  ⟨.trc, 0x60038414, [(2, 0x40)], 13, 1, .ro, 0, .zero, false⟩,
  ⟨.trc, 0x60038414, [(2, 0x40)], 14, 1, .ro, 0, .zero, false⟩,
  ⟨.trc, 0x60038414, [(2, 0x40)], 15, 1, .ro, 0, .zero, false⟩,
  ⟨.trc, 0x60038414, [(2, 0x40)], 16, 1, .ro, 0, .zero, false⟩,
  ⟨.trc, 0x60038414, [(2, 0x40)], 17, 3, .ro, 0, .zero, false⟩,
  ⟨.trc, 0x60038414, [(2, 0x40)], 20, 1, .ro, 0, .zero, false⟩,
  ⟨.trc, 0x60038414, [(2, 0x40)], 21, 2, .ro, 0, .zero, false⟩,
  ⟨.trc, 0x60038418, [(2, 0x40)], 0, 32, .ro, 0, .zero, false⟩,
  ⟨.trc, 0x6003841C, [(2, 0x40)], 0, 1, .wo, 0, .zero, false⟩,
  ⟨.trc, 0x60038420, [(2, 0x40)], 0, 16, .ro, 0, .zero, false⟩,
  ⟨.trc, 0x60038420, [(2, 0x40)], 16, 8, .ro, 0, .zero, false⟩,
  ⟨.trc, 0x60038420, [(2, 0x40)], 24, 8, .ro, 0, .zero, false⟩,
  ⟨.trc, 0x60038600, [], 0, 16, .rwl, 0, .image, false⟩,
  ⟨.trc, 0x60038700, [], 0, 1, .rwl, 0, .kept, false⟩,
  ⟨.trc, 0x60038704, [], 0, 8, .ro, 0, .zero, false⟩,
  ⟨.trc, 0x60038704, [], 8, 24, .ro, 0, .zero, false⟩]

/-- Rows of the ACT block. -/
def rowsAct0 : List Row := [
  ⟨.act, 0x60040000, [(4, 0x80)], 0, 1, .rw, 0, .image, false⟩,
  ⟨.act, 0x60040000, [(4, 0x80)], 1, 4, .rwl, 0, .image, false⟩,
  ⟨.act, 0x60040000, [(4, 0x80)], 5, 5, .rwl, 0, .image, false⟩,
  ⟨.act, 0x60040000, [(4, 0x80)], 10, 6, .rwl, 0, .image, false⟩,
  ⟨.act, 0x60040000, [(4, 0x80)], 16, 1, .rw, 0, .image, false⟩,
  ⟨.act, 0x60040000, [(4, 0x80)], 17, 4, .rw, 0, .image, false⟩,
  ⟨.act, 0x60040000, [(4, 0x80)], 21, 4, .rw, 0, .image, false⟩,
  ⟨.act, 0x60040004, [(4, 0x80)], 0, 8, .rwl, 0, .image, false⟩,
  ⟨.act, 0x60040004, [(4, 0x80)], 8, 8, .rwl, 0, .image, false⟩,
  ⟨.act, 0x60040004, [(4, 0x80)], 16, 8, .rwl, 0, .image, false⟩,
  ⟨.act, 0x60040004, [(4, 0x80)], 24, 4, .rwl, 0, .image, false⟩,
  ⟨.act, 0x60040008, [(4, 0x80)], 0, 12, .rwl, 0, .image, false⟩,
  ⟨.act, 0x60040008, [(4, 0x80)], 12, 16, .rwl, 0, .image, false⟩,
  ⟨.act, 0x6004000C, [(4, 0x80)], 0, 16, .rwl, 0, .image, false⟩,
  ⟨.act, 0x6004000C, [(4, 0x80)], 16, 10, .rwl, 0, .image, false⟩,
  ⟨.act, 0x60040010, [(4, 0x80)], 0, 6, .rwl, 0, .image, false⟩,
  ⟨.act, 0x60040010, [(4, 0x80)], 6, 6, .rwl, 0, .image, false⟩,
  ⟨.act, 0x60040010, [(4, 0x80)], 12, 6, .rwl, 0, .image, false⟩,
  ⟨.act, 0x60040010, [(4, 0x80)], 18, 4, .rwl, 0, .image, false⟩,
  ⟨.act, 0x60040010, [(4, 0x80)], 22, 10, .rwl, 0, .image, false⟩,
  ⟨.act, 0x60040014, [(4, 0x80)], 0, 16, .rw, 0, .image, false⟩,
  ⟨.act, 0x60040014, [(4, 0x80)], 16, 16, .rw, 0, .image, false⟩,
  ⟨.act, 0x60040018, [(4, 0x80)], 0, 8, .rwl, 0, .image, false⟩,
  ⟨.act, 0x60040018, [(4, 0x80)], 8, 8, .rwl, 0, .image, false⟩,
  ⟨.act, 0x60040018, [(4, 0x80)], 16, 16, .rwl, 0, .image, false⟩,
  ⟨.act, 0x6004001C, [(4, 0x80)], 0, 16, .rw, 0, .image, false⟩,
  ⟨.act, 0x6004001C, [(4, 0x80)], 16, 16, .rw, 0, .image, false⟩,
  ⟨.act, 0x60040020, [(4, 0x80)], 0, 16, .rw, 0, .image, false⟩,
  ⟨.act, 0x60040024, [(4, 0x80)], 0, 2, .wo, 0, .zero, false⟩,
  ⟨.act, 0x60040024, [(4, 0x80)], 4, 1, .wo, 0, .zero, false⟩,
  ⟨.act, 0x60040028, [(4, 0x80)], 0, 4, .ro, 0, .zero, false⟩,
  ⟨.act, 0x60040028, [(4, 0x80)], 4, 4, .ro, 0, .zero, false⟩,
  ⟨.act, 0x60040028, [(4, 0x80)], 8, 1, .ro, 0, .zero, false⟩,
  ⟨.act, 0x60040028, [(4, 0x80)], 9, 1, .ro, 0, .zero, false⟩,
  ⟨.act, 0x60040028, [(4, 0x80)], 10, 3, .ro, 0, .zero, false⟩,
  ⟨.act, 0x60040028, [(4, 0x80)], 13, 3, .ro, 0, .zero, false⟩,
  ⟨.act, 0x60040028, [(4, 0x80)], 16, 2, .ro, 0, .zero, false⟩,
  ⟨.act, 0x6004002C, [(4, 0x80)], 0, 16, .ro, 0, .zero, false⟩,
  ⟨.act, 0x6004002C, [(4, 0x80)], 16, 9, .ro, 0, .zero, false⟩,
  ⟨.act, 0x60040030, [(4, 0x80)], 0, 32, .ro, 0, .zero, false⟩]

/-- Rows of the ACT block. -/
def rowsAct1 : List Row := [
  ⟨.act, 0x60040034, [(4, 0x80)], 0, 8, .ro, 0, .zero, false⟩,
  ⟨.act, 0x60040034, [(4, 0x80)], 8, 8, .ro, 0, .zero, false⟩,
  ⟨.act, 0x60040034, [(4, 0x80)], 16, 8, .ro, 0, .zero, false⟩,
  ⟨.act, 0x60040034, [(4, 0x80)], 24, 8, .ro, 0, .zero, false⟩,
  ⟨.act, 0x60040038, [(4, 0x80)], 0, 8, .ro, 0, .zero, false⟩,
  ⟨.act, 0x60040038, [(4, 0x80)], 8, 8, .ro, 0, .zero, false⟩,
  ⟨.act, 0x60040038, [(4, 0x80)], 31, 1, .ro, 0, .zero, false⟩,
  ⟨.act, 0x6004003C, [(4, 0x80)], 0, 32, .ro, 0, .zero, false⟩,
  ⟨.act, 0x60040040, [(4, 0x80)], 0, 8, .ro, 0, .zero, false⟩,
  ⟨.act, 0x60040400, [], 0, 1, .rwl, 0, .kept, false⟩,
  ⟨.act, 0x60040404, [], 0, 8, .ro, 0, .zero, false⟩,
  ⟨.act, 0x60040404, [], 8, 24, .ro, 0, .zero, false⟩]

/-- Rows of the CNV block. -/
def rowsCnv0 : List Row := [
  ⟨.cnv, 0x60048000, [(4, 0x80)], 0, 1, .rw, 0, .image, false⟩,
  ⟨.cnv, 0x60048000, [(4, 0x80)], 1, 1, .rwl, 0, .image, false⟩,
  ⟨.cnv, 0x60048000, [(4, 0x80)], 2, 4, .rwl, 0, .image, false⟩,
  ⟨.cnv, 0x60048000, [(4, 0x80)], 6, 5, .rwl, 0, .image, false⟩,
  ⟨.cnv, 0x60048000, [(4, 0x80)], 11, 5, .rwl, 0, .image, false⟩,
  ⟨.cnv, 0x60048000, [(4, 0x80)], 16, 4, .rwl, 0, .image, false⟩,
  ⟨.cnv, 0x60048000, [(4, 0x80)], 20, 4, .rw, 0, .image, false⟩,
  ⟨.cnv, 0x60048000, [(4, 0x80)], 24, 1, .rwl, 0, .image, false⟩,
  ⟨.cnv, 0x60048000, [(4, 0x80)], 25, 6, .rwl, 0, .image, false⟩,
  ⟨.cnv, 0x60048000, [(4, 0x80)], 31, 1, .rw, 0, .image, false⟩,
  ⟨.cnv, 0x60048004, [(4, 0x80)], 0, 16, .rw, 0, .image, false⟩,
  ⟨.cnv, 0x60048008, [(4, 0x80)], 0, 18, .rwl, 0, .image, false⟩,
  ⟨.cnv, 0x6004800C, [(4, 0x80)], 0, 17, .rw, 0, .image, false⟩,
  ⟨.cnv, 0x6004800C, [(4, 0x80)], 17, 8, .rw, 0, .image, false⟩,
  ⟨.cnv, 0x60048010, [(4, 0x80)], 0, 16, .rw, 0, .image, false⟩,
  ⟨.cnv, 0x60048010, [(4, 0x80)], 16, 8, .rwl, 0, .image, false⟩,
  ⟨.cnv, 0x60048014, [(4, 0x80)], 0, 8, .rwl, 0, .image, false⟩,
  ⟨.cnv, 0x60048014, [(4, 0x80)], 8, 8, .rwl, 0, .image, false⟩,
  ⟨.cnv, 0x60048014, [(4, 0x80)], 16, 8, .rwl, 0, .image, false⟩,
  ⟨.cnv, 0x60048018, [(4, 0x80)], 0, 3, .rwl, 0, .image, false⟩,
  ⟨.cnv, 0x60048018, [(4, 0x80)], 3, 1, .rw, 0, .image, false⟩,
  ⟨.cnv, 0x60048018, [(4, 0x80)], 4, 10, .rwl, 0, .image, false⟩,
  ⟨.cnv, 0x6004801C, [(4, 0x80)], 0, 16, .rwl, 0, .image, false⟩,
  ⟨.cnv, 0x6004801C, [(4, 0x80)], 16, 16, .rwl, 0, .image, false⟩,
  ⟨.cnv, 0x60048020, [(4, 0x80)], 0, 16, .rwl, 0, .image, false⟩,
  ⟨.cnv, 0x60048020, [(4, 0x80)], 16, 16, .rwl, 0, .image, false⟩,
  ⟨.cnv, 0x60048024, [(4, 0x80)], 0, 2, .wo, 0, .zero, false⟩,
  ⟨.cnv, 0x60048024, [(4, 0x80)], 4, 1, .wo, 0, .zero, false⟩,
  ⟨.cnv, 0x60048028, [(4, 0x80)], 0, 3, .ro, 0, .zero, false⟩,
  ⟨.cnv, 0x60048028, [(4, 0x80)], 3, 1, .ro, 0, .zero, false⟩,
  ⟨.cnv, 0x60048028, [(4, 0x80)], 4, 3, .ro, 0, .zero, false⟩,
  ⟨.cnv, 0x60048028, [(4, 0x80)], 7, 2, .ro, 0, .zero, false⟩,
  ⟨.cnv, 0x60048028, [(4, 0x80)], 9, 3, .ro, 0, .zero, false⟩,
  ⟨.cnv, 0x60048028, [(4, 0x80)], 12, 2, .ro, 0, .zero, false⟩,
  ⟨.cnv, 0x60048028, [(4, 0x80)], 14, 1, .ro, 0, .zero, false⟩,
  ⟨.cnv, 0x60048028, [(4, 0x80)], 15, 1, .ro, 0, .zero, false⟩,
  ⟨.cnv, 0x60048028, [(4, 0x80)], 16, 2, .ro, 0, .zero, false⟩,
  ⟨.cnv, 0x60048028, [(4, 0x80)], 18, 6, .ro, 63, .zero, false⟩,
  ⟨.cnv, 0x6004802C, [(4, 0x80)], 0, 12, .ro, 0, .zero, false⟩,
  ⟨.cnv, 0x6004802C, [(4, 0x80)], 12, 12, .ro, 0, .zero, false⟩]

/-- Rows of the CNV block. -/
def rowsCnv1 : List Row := [
  ⟨.cnv, 0x60048030, [(4, 0x80)], 0, 32, .ro, 0, .zero, false⟩,
  ⟨.cnv, 0x60048034, [(4, 0x80)], 0, 16, .ro, 0, .zero, false⟩,
  ⟨.cnv, 0x60048034, [(4, 0x80)], 16, 7, .ro, 0, .zero, false⟩,
  ⟨.cnv, 0x60048038, [(4, 0x80)], 0, 8, .ro, 0, .zero, false⟩,
  ⟨.cnv, 0x60048038, [(4, 0x80)], 8, 8, .ro, 0, .zero, false⟩,
  ⟨.cnv, 0x60048038, [(4, 0x80)], 16, 8, .ro, 0, .zero, false⟩,
  ⟨.cnv, 0x60048038, [(4, 0x80)], 24, 8, .ro, 0, .zero, false⟩,
  ⟨.cnv, 0x60048400, [], 0, 1, .rwl, 0, .kept, false⟩,
  ⟨.cnv, 0x60048404, [], 0, 8, .ro, 0, .zero, false⟩,
  ⟨.cnv, 0x60048404, [], 8, 24, .ro, 0, .zero, false⟩]

/-- Rows of the CHG block. -/
def rowsChg0 : List Row := [
  ⟨.chg, 0x60050000, [], 0, 1, .rw, 0, .image, false⟩,
  ⟨.chg, 0x60050000, [], 1, 4, .rwl, 0, .image, false⟩,
  ⟨.chg, 0x60050000, [], 5, 5, .rwl, 0, .image, false⟩,
  ⟨.chg, 0x60050000, [], 10, 4, .rwl, 0, .image, false⟩,
  ⟨.chg, 0x60050000, [], 14, 5, .rwl, 0, .image, false⟩,
  ⟨.chg, 0x60050000, [], 19, 4, .rwl, 0, .image, false⟩,
  ⟨.chg, 0x60050000, [], 23, 5, .rwl, 0, .image, false⟩,
  ⟨.chg, 0x60050000, [], 28, 4, .rw, 0, .image, false⟩,
  ⟨.chg, 0x60050004, [], 0, 4, .rwl, 0, .image, false⟩,
  ⟨.chg, 0x60050004, [], 4, 5, .rwl, 0, .image, false⟩,
  ⟨.chg, 0x60050004, [], 9, 5, .rwl, 0, .image, false⟩,
  ⟨.chg, 0x60050004, [], 14, 4, .rwl, 0, .image, false⟩,
  ⟨.chg, 0x60050004, [], 18, 6, .rwl, 0, .image, false⟩,
  ⟨.chg, 0x60050004, [], 24, 1, .rwl, 0, .image, false⟩,
  ⟨.chg, 0x60050008, [], 0, 16, .rw, 0, .image, false⟩,
  ⟨.chg, 0x60050008, [], 16, 16, .rw, 0, .image, false⟩,
  ⟨.chg, 0x6005000C, [], 0, 10, .rw, 0, .image, false⟩,
  ⟨.chg, 0x6005000C, [], 10, 10, .rw, 0, .image, false⟩,
  ⟨.chg, 0x6005000C, [], 20, 10, .rw, 0, .image, false⟩,
  ⟨.chg, 0x60050010, [], 0, 1, .rw, 0, .image, false⟩,
  ⟨.chg, 0x60050010, [], 1, 6, .rw, 0, .image, false⟩,
  ⟨.chg, 0x60050010, [], 7, 7, .rw, 0, .image, false⟩,
  ⟨.chg, 0x60050010, [], 14, 6, .rw, 0, .image, false⟩,
  ⟨.chg, 0x60050010, [], 20, 8, .rw, 0, .image, false⟩,
  ⟨.chg, 0x60050014, [], 0, 11, .rwl, 0, .image, false⟩,
  ⟨.chg, 0x60050014, [], 11, 10, .rwl, 0, .image, false⟩,
  ⟨.chg, 0x60050014, [], 21, 5, .rwl, 0, .image, false⟩,
  ⟨.chg, 0x60050018, [], 0, 14, .rwl, 0, .image, false⟩,
  ⟨.chg, 0x60050018, [], 14, 7, .rwl, 0, .image, false⟩,
  ⟨.chg, 0x60050020, [(4, 0x4)], 0, 12, .rwl, 0, .image, false⟩,
  ⟨.chg, 0x60050020, [(4, 0x4)], 12, 12, .rwl, 0, .image, false⟩,
  ⟨.chg, 0x60050020, [(4, 0x4)], 24, 6, .rwl, 0, .image, false⟩,
  ⟨.chg, 0x60050030, [], 0, 4, .ro, 0, .zero, false⟩,
  ⟨.chg, 0x60050030, [], 4, 4, .ro, 0, .zero, false⟩,
  ⟨.chg, 0x60050030, [], 8, 1, .ro, 0, .zero, false⟩,
  ⟨.chg, 0x60050030, [], 9, 1, .ro, 0, .zero, false⟩,
  ⟨.chg, 0x60050030, [], 10, 2, .ro, 0, .zero, false⟩,
  ⟨.chg, 0x60050030, [], 12, 1, .ro, 0, .zero, false⟩,
  ⟨.chg, 0x60050030, [], 13, 1, .ro, 0, .zero, false⟩,
  ⟨.chg, 0x60050030, [], 14, 5, .ro, 0, .zero, false⟩]

/-- Rows of the CHG block. -/
def rowsChg1 : List Row := [
  ⟨.chg, 0x60050030, [], 19, 2, .ro, 0, .zero, false⟩,
  ⟨.chg, 0x60050034, [], 0, 10, .ro, 0, .zero, false⟩,
  ⟨.chg, 0x60050034, [], 10, 10, .ro, 0, .zero, false⟩,
  ⟨.chg, 0x60050034, [], 20, 3, .ro, 6, .zero, false⟩,
  ⟨.chg, 0x60050034, [], 23, 1, .ro, 0, .zero, false⟩,
  ⟨.chg, 0x60050034, [], 24, 1, .ro, 0, .zero, false⟩,
  ⟨.chg, 0x60050038, [], 0, 16, .ro, 0, .zero, false⟩,
  ⟨.chg, 0x60050038, [], 16, 16, .ro, 0, .zero, false⟩,
  ⟨.chg, 0x6005003C, [], 0, 16, .ro, 0, .zero, false⟩,
  ⟨.chg, 0x6005003C, [], 16, 8, .ro, 0, .zero, false⟩,
  ⟨.chg, 0x60050040, [], 0, 16, .ro, 0, .zero, false⟩,
  ⟨.chg, 0x60050040, [], 16, 2, .ro, 0, .zero, false⟩,
  ⟨.chg, 0x60050044, [], 0, 16, .ro, 0, .zero, false⟩,
  ⟨.chg, 0x60050044, [], 16, 16, .ro, 0, .zero, false⟩,
  ⟨.chg, 0x60050048, [], 0, 32, .ro, 0, .zero, false⟩,
  ⟨.chg, 0x6005004C, [], 0, 16, .ro, 0, .zero, false⟩,
  ⟨.chg, 0x6005004C, [], 16, 16, .ro, 0, .zero, false⟩,
  ⟨.chg, 0x60050050, [], 0, 32, .ro, 0, .zero, false⟩,
  ⟨.chg, 0x60050054, [], 0, 15, .ro, 0, .zero, false⟩,
  ⟨.chg, 0x60050054, [], 15, 1, .ro, 0, .zero, false⟩,
  ⟨.chg, 0x60050054, [], 16, 15, .ro, 0, .zero, false⟩,
  ⟨.chg, 0x60050054, [], 31, 1, .ro, 0, .zero, false⟩,
  ⟨.chg, 0x60050058, [], 0, 32, .ro, 0, .zero, false⟩,
  ⟨.chg, 0x6005005C, [], 0, 10, .ro, 0, .zero, false⟩,
  ⟨.chg, 0x6005005C, [], 10, 10, .ro, 0, .zero, false⟩,
  ⟨.chg, 0x6005005C, [], 20, 2, .ro, 0, .zero, false⟩,
  ⟨.chg, 0x60050060, [], 0, 16, .rw, 0, .zero, false⟩,
  ⟨.chg, 0x60050060, [], 16, 16, .rw, 0, .zero, false⟩,
  ⟨.chg, 0x60050064, [], 0, 10, .rwl, 0, .image, false⟩,
  ⟨.chg, 0x60050064, [], 10, 14, .rwl, 0, .image, false⟩,
  ⟨.chg, 0x60050068, [], 0, 14, .rw, 0, .image, false⟩,
  ⟨.chg, 0x60050068, [], 14, 7, .rwl, 0, .image, false⟩,
  ⟨.chg, 0x6005006C, [], 0, 8, .ro, 0, .zero, false⟩,
  ⟨.chg, 0x6005006C, [], 8, 8, .ro, 0, .zero, false⟩,
  ⟨.chg, 0x6005006C, [], 16, 8, .ro, 0, .zero, false⟩,
  ⟨.chg, 0x6005006C, [], 24, 8, .ro, 0, .zero, false⟩,
  ⟨.chg, 0x60050400, [], 0, 1, .rwl, 0, .kept, false⟩,
  ⟨.chg, 0x60050404, [], 0, 8, .ro, 0, .zero, false⟩,
  ⟨.chg, 0x60050404, [], 8, 24, .ro, 0, .zero, false⟩]

/-- Rows of the SAF block. -/
def rowsSaf0 : List Row := [
  ⟨.saf, 0x60058000, [], 0, 1, .ro, 0, .kept, false⟩,
  ⟨.saf, 0x60058000, [], 1, 1, .ro, 0, .zero, false⟩,
  ⟨.saf, 0x60058000, [], 2, 1, .ro, 0, .zero, false⟩,
  ⟨.saf, 0x60058000, [], 8, 8, .ro, 0, .kept, false⟩,
  ⟨.saf, 0x60058000, [], 16, 8, .ro, 0, .kept, false⟩,
  ⟨.saf, 0x60058000, [], 24, 8, .ro, 0, .zero, false⟩,
  ⟨.saf, 0x60058004, [], 0, 12, .wo, 0, .zero, false⟩,
  ⟨.saf, 0x60058004, [], 12, 1, .wo, 0, .zero, false⟩,
  ⟨.saf, 0x60058004, [], 16, 5, .wo, 0, .zero, false⟩,
  ⟨.saf, 0x60058008, [], 0, 12, .wo, 0, .zero, false⟩,
  ⟨.saf, 0x60058008, [], 12, 1, .wo, 0, .zero, false⟩,
  ⟨.saf, 0x60058008, [], 24, 8, .wo, 0, .zero, false⟩,
  ⟨.saf, 0x6005800C, [], 0, 3, .ro, 0, .zero, false⟩,
  ⟨.saf, 0x6005800C, [], 8, 12, .ro, 0, .zero, false⟩,
  ⟨.saf, 0x60058010, [], 0, 8, .wo, 0, .zero, false⟩,
  ⟨.saf, 0x60058014, [], 0, 16, .rwl, 0, .kept, false⟩,
  ⟨.saf, 0x60058014, [], 16, 16, .rwl, 0, .kept, false⟩,
  ⟨.saf, 0x60058018, [], 0, 16, .rwl, 0, .kept, false⟩,
  ⟨.saf, 0x60058018, [], 16, 8, .rwl, 0, .kept, false⟩,
  ⟨.saf, 0x6005801C, [], 0, 16, .ro, 0, .kept, false⟩,
  ⟨.saf, 0x6005801C, [], 16, 4, .ro, 0, .kept, false⟩,
  ⟨.saf, 0x60058020, [], 0, 1, .rwl, 0, .kept, false⟩,
  ⟨.saf, 0x60058024, [], 0, 8, .ro, 0, .zero, false⟩,
  ⟨.saf, 0x60058024, [], 8, 24, .ro, 0, .zero, false⟩,
  ⟨.saf, 0x60058030, [], 0, 16, .ro, 0, .kept, false⟩,
  ⟨.saf, 0x60058030, [], 16, 16, .ro, 0, .kept, false⟩,
  ⟨.saf, 0x60058034, [], 0, 8, .w1c, 0, .kept, false⟩,
  ⟨.saf, 0x60058038, [], 0, 2, .ro, 0, .kept, false⟩,
  ⟨.saf, 0x600583F0, [], 0, 8, .rw, 0, .zero, false⟩,
  ⟨.saf, 0x60058100, [(12, 0x10)], 0, 2, .rwl, 0, .kept, false⟩,
  ⟨.saf, 0x60058100, [(12, 0x10)], 2, 1, .rwl, 0, .kept, false⟩,
  ⟨.saf, 0x60058100, [(12, 0x10)], 3, 1, .rwl, 0, .kept, false⟩,
  ⟨.saf, 0x60058100, [(12, 0x10)], 4, 5, .rwl, 0, .kept, false⟩,
  ⟨.saf, 0x60058104, [(12, 0x10)], 0, 16, .rwl, 0, .kept, false⟩,
  ⟨.saf, 0x60058104, [(12, 0x10)], 16, 16, .rwl, 0, .kept, false⟩,
  ⟨.saf, 0x60058108, [(12, 0x10)], 0, 2, .ro, 0, .kept, false⟩,
  ⟨.saf, 0x60058108, [(12, 0x10)], 2, 2, .ro, 1, .kept, false⟩,
  ⟨.saf, 0x60058108, [(12, 0x10)], 4, 1, .ro, 0, .kept, false⟩,
  ⟨.saf, 0x60058108, [(12, 0x10)], 5, 1, .ro, 0, .kept, false⟩,
  ⟨.saf, 0x60058108, [(12, 0x10)], 6, 1, .ro, 0, .kept, false⟩]

/-- Rows of the SAF block. -/
def rowsSaf1 : List Row := [
  ⟨.saf, 0x60058108, [(12, 0x10)], 8, 8, .ro, 0, .kept, false⟩,
  ⟨.saf, 0x60058108, [(12, 0x10)], 16, 16, .ro, 0, .kept, false⟩,
  ⟨.saf, 0x6005810C, [(12, 0x10)], 0, 32, .ro, 0, .kept, false⟩,
  ⟨.saf, 0x60058200, [(16, 0x8)], 0, 12, .rwl, 0, .kept, false⟩,
  ⟨.saf, 0x60058200, [(16, 0x8)], 12, 1, .rwl, 0, .kept, false⟩,
  ⟨.saf, 0x60058200, [(16, 0x8)], 13, 10, .rwl, 0, .kept, false⟩,
  ⟨.saf, 0x60058204, [(16, 0x8)], 0, 12, .rwl, 0, .kept, false⟩,
  ⟨.saf, 0x60058204, [(16, 0x8)], 12, 1, .rwl, 0, .kept, false⟩,
  ⟨.saf, 0x60058204, [(16, 0x8)], 16, 5, .rwl, 0, .kept, false⟩,
  ⟨.saf, 0x60058280, [(2, 0x4)], 0, 1, .rwl, 0, .kept, false⟩,
  ⟨.saf, 0x60058280, [(2, 0x4)], 1, 9, .rwl, 0, .kept, false⟩,
  ⟨.saf, 0x60058280, [(2, 0x4)], 10, 5, .rwl, 0, .kept, false⟩,
  ⟨.saf, 0x60058280, [(2, 0x4)], 15, 1, .rwl, 0, .kept, false⟩,
  ⟨.saf, 0x60058280, [(2, 0x4)], 16, 12, .rwl, 0, .kept, false⟩,
  ⟨.saf, 0x60058288, [(2, 0x4)], 0, 5, .rwl, 0, .kept, false⟩,
  ⟨.saf, 0x60058300, [(8, 0x10)], 0, 3, .rwl, 0, .kept, false⟩,
  ⟨.saf, 0x60058300, [(8, 0x10)], 3, 1, .rwl, 0, .kept, false⟩,
  ⟨.saf, 0x60058300, [(8, 0x10)], 4, 1, .rwl, 0, .kept, false⟩,
  ⟨.saf, 0x60058300, [(8, 0x10)], 5, 7, .rwl, 0, .kept, false⟩,
  ⟨.saf, 0x60058300, [(8, 0x10)], 12, 7, .rwl, 0, .kept, false⟩,
  ⟨.saf, 0x60058304, [(8, 0x10)], 0, 1, .ro, 0, .zero, false⟩,
  ⟨.saf, 0x60058304, [(8, 0x10)], 1, 1, .ro, 0, .kept, false⟩,
  ⟨.saf, 0x60058304, [(8, 0x10)], 2, 1, .ro, 0, .kept, false⟩,
  ⟨.saf, 0x60058304, [(8, 0x10)], 3, 1, .w1c, 0, .kept, false⟩,
  ⟨.saf, 0x60058304, [(8, 0x10)], 4, 1, .w1c, 0, .kept, false⟩,
  ⟨.saf, 0x60058304, [(8, 0x10)], 5, 1, .ro, 0, .kept, false⟩,
  ⟨.saf, 0x60058304, [(8, 0x10)], 16, 16, .ro, 0, .kept, false⟩,
  ⟨.saf, 0x60058308, [(8, 0x10)], 0, 32, .ro, 0, .kept, false⟩,
  ⟨.saf, 0x60058800, [(32, 0x20)], 0, 1, .rwl, 0, .kept, false⟩,
  ⟨.saf, 0x60058800, [(32, 0x20)], 1, 1, .rwl, 0, .kept, false⟩,
  ⟨.saf, 0x60058800, [(32, 0x20)], 2, 4, .rwl, 0, .kept, false⟩,
  ⟨.saf, 0x60058800, [(32, 0x20)], 6, 16, .rwl, 0, .kept, false⟩,
  ⟨.saf, 0x60058800, [(32, 0x20)], 22, 4, .rwl, 0, .kept, false⟩,
  ⟨.saf, 0x60058800, [(32, 0x20)], 26, 4, .rwl, 0, .kept, false⟩,
  ⟨.saf, 0x60058804, [(32, 0x20)], 0, 32, .rwl, 0, .kept, false⟩,
  ⟨.saf, 0x60058808, [(32, 0x20)], 0, 29, .rwl, 0, .kept, false⟩,
  ⟨.saf, 0x60058808, [(32, 0x20)], 29, 1, .rwl, 0, .kept, false⟩,
  ⟨.saf, 0x6005880C, [(32, 0x20)], 0, 12, .rwl, 0, .kept, false⟩,
  ⟨.saf, 0x6005880C, [(32, 0x20)], 12, 1, .rwl, 0, .kept, false⟩,
  ⟨.saf, 0x6005880C, [(32, 0x20)], 16, 5, .rwl, 0, .kept, false⟩]

/-- Rows of the SAF block. -/
def rowsSaf2 : List Row := [
  ⟨.saf, 0x60058810, [(32, 0x20)], 0, 2, .ro, 0, .zero, false⟩,
  ⟨.saf, 0x60058810, [(32, 0x20)], 2, 1, .ro, 0, .zero, false⟩,
  ⟨.saf, 0x60058810, [(32, 0x20)], 3, 1, .w1c, 0, .zero, false⟩,
  ⟨.saf, 0x60058810, [(32, 0x20)], 4, 2, .ro, 0, .kept, false⟩,
  ⟨.saf, 0x60058810, [(32, 0x20)], 16, 16, .ro, 0, .kept, false⟩,
  ⟨.saf, 0x60058814, [(32, 0x20)], 0, 8, .ro, 0, .kept, false⟩,
  ⟨.saf, 0x60058814, [(32, 0x20)], 8, 8, .ro, 0, .kept, false⟩,
  ⟨.saf, 0x60058814, [(32, 0x20)], 16, 16, .ro, 0, .kept, false⟩,
  ⟨.saf, 0x60058818, [(32, 0x20)], 0, 1, .wo, 0, .zero, false⟩,
  ⟨.saf, 0x60058818, [(32, 0x20)], 1, 1, .wo, 0, .zero, false⟩,
  ⟨.saf, 0x6005881C, [(32, 0x20)], 0, 32, .ro, 0, .kept, false⟩]

/-- Rows of the LKS block. -/
def rowsLks0 : List Row := [
  ⟨.lks, 0x60060000, [(12, 0x40)], 0, 1, .ro, 0, .zero, false⟩,
  ⟨.lks, 0x60060000, [(12, 0x40)], 1, 1, .ro, 0, .zero, false⟩,
  ⟨.lks, 0x60060000, [(12, 0x40)], 2, 1, .ro, 0, .zero, false⟩,
  ⟨.lks, 0x60060000, [(12, 0x40)], 3, 4, .ro, 0, .zero, false⟩,
  ⟨.lks, 0x60060000, [(12, 0x40)], 7, 4, .ro, 0, .zero, false⟩,
  ⟨.lks, 0x60060004, [(12, 0x40)], 31, 1, .ro, 0, .kept, false⟩,
  ⟨.lks, 0x60060004, [(12, 0x40)], 4, 3, .ro, 0, .kept, false⟩,
  ⟨.lks, 0x60060004, [(12, 0x40)], 0, 3, .ro, 0, .kept, false⟩,
  ⟨.lks, 0x60060008, [(12, 0x40)], 0, 32, .ro, 0, .kept, false⟩,
  ⟨.lks, 0x6006000C, [(12, 0x40)], 0, 32, .ro, 0, .kept, false⟩,
  ⟨.lks, 0x60060010, [(12, 0x40)], 0, 32, .ro, 0, .kept, false⟩,
  ⟨.lks, 0x60060014, [(12, 0x40)], 0, 32, .ro, 0, .kept, false⟩,
  ⟨.lks, 0x60060018, [(12, 0x40)], 0, 32, .ro, 0, .kept, false⟩,
  ⟨.lks, 0x6006001C, [(12, 0x40)], 0, 16, .ro, 0, .kept, false⟩,
  ⟨.lks, 0x6006001C, [(12, 0x40)], 16, 16, .ro, 0, .zero, false⟩,
  ⟨.lks, 0x60060020, [(12, 0x40)], 0, 5, .ro, 0, .kept, false⟩,
  ⟨.lks, 0x60060020, [(12, 0x40)], 5, 1, .ro, 0, .kept, false⟩,
  ⟨.lks, 0x60060020, [(12, 0x40)], 8, 3, .ro, 0, .kept, false⟩,
  ⟨.lks, 0x60060400, [], 0, 8, .rwl, 0, .kept, false⟩,
  ⟨.lks, 0x60060404, [], 0, 12, .ro, 0, .kept, false⟩,
  ⟨.lks, 0x60060408, [], 0, 1, .rwl, 0, .kept, false⟩,
  ⟨.lks, 0x6006040C, [], 0, 8, .ro, 0, .zero, false⟩,
  ⟨.lks, 0x6006040C, [], 8, 24, .ro, 0, .zero, false⟩]

/-- Rows of the THM block. -/
def rowsThm0 : List Row := [
  ⟨.thm, 0x60070000, [], 0, 14, .rwl, 0, .image, false⟩,
  ⟨.thm, 0x60070000, [], 14, 7, .rwl, 0, .image, false⟩,
  ⟨.thm, 0x60070000, [], 21, 1, .rw, 0, .image, false⟩,
  ⟨.thm, 0x60070000, [], 22, 1, .rw, 0, .image, false⟩,
  ⟨.thm, 0x60070000, [], 23, 1, .ro, 0, .kept, false⟩,
  ⟨.thm, 0x60070004, [], 0, 16, .wo, 0, .zero, false⟩,
  ⟨.thm, 0x60070010, [(4, 0x4)], 0, 32, .ro, 0, .zero, false⟩,
  ⟨.thm, 0x60070040, [(5, 0x4)], 0, 9, .ro, 256, .zero, false⟩,
  ⟨.thm, 0x60070100, [(118, 0x4)], 0, 12, .ro, 0, .zero, false⟩,
  ⟨.thm, 0x60070100, [(118, 0x4)], 12, 1, .ro, 0, .zero, false⟩,
  ⟨.thm, 0x60070100, [(118, 0x4)], 13, 1, .ro, 0, .zero, false⟩,
  ⟨.thm, 0x60070300, [(33, 0x4)], 0, 12, .rwl, 0, .image, false⟩,
  ⟨.thm, 0x60070800, [(16, 0x20)], 0, 1, .rwl, 0, .image, false⟩,
  ⟨.thm, 0x60070800, [(16, 0x20)], 1, 5, .rwl, 0, .image, false⟩,
  ⟨.thm, 0x60070800, [(16, 0x20)], 6, 6, .rwl, 0, .image, false⟩,
  ⟨.thm, 0x60070800, [(16, 0x20)], 12, 9, .rwl, 0, .image, false⟩,
  ⟨.thm, 0x60070804, [(16, 0x20)], 0, 10, .rwl, 0, .image, false⟩,
  ⟨.thm, 0x60070804, [(16, 0x20)], 10, 10, .rwl, 0, .image, false⟩,
  ⟨.thm, 0x60070804, [(16, 0x20)], 20, 10, .rwl, 0, .image, false⟩,
  ⟨.thm, 0x60070808, [(16, 0x20), (4, 0x4)], 0, 32, .rwl, 0, .image, false⟩,
  ⟨.thm, 0x60070818, [(16, 0x20)], 0, 12, .ro, 0, .zero, false⟩,
  ⟨.thm, 0x60070818, [(16, 0x20)], 12, 2, .ro, 0, .zero, false⟩,
  ⟨.thm, 0x60070818, [(16, 0x20)], 14, 1, .ro, 0, .zero, false⟩,
  ⟨.thm, 0x60070818, [(16, 0x20)], 15, 1, .ro, 1, .zero, false⟩,
  ⟨.thm, 0x60070818, [(16, 0x20)], 16, 1, .ro, 0, .zero, false⟩,
  ⟨.thm, 0x60070818, [(16, 0x20)], 17, 1, .ro, 0, .zero, false⟩,
  ⟨.thm, 0x60070818, [(16, 0x20)], 18, 9, .ro, 256, .zero, false⟩,
  ⟨.thm, 0x60070818, [(16, 0x20)], 27, 1, .w1c, 0, .zero, false⟩,
  ⟨.thm, 0x6007081C, [(16, 0x20)], 0, 32, .ro, 0, .zero, false⟩,
  ⟨.thm, 0x60070F00, [], 0, 1, .rwl, 0, .kept, false⟩,
  ⟨.thm, 0x60070F04, [], 0, 8, .ro, 0, .zero, false⟩,
  ⟨.thm, 0x60070F04, [], 8, 24, .ro, 0, .zero, false⟩]

/-- Rows of the HOST block. -/
def rowsHost0 : List Row := [
  ⟨.host, 0x60078000, [], 0, 1, .rwl, 0, .kept, false⟩,
  ⟨.host, 0x60078004, [], 0, 1, .ro, 0, .kept, true⟩,
  ⟨.host, 0x60078004, [], 1, 2, .ro, 0, .kept, true⟩,
  ⟨.host, 0x60078004, [], 3, 2, .ro, 0, .kept, true⟩,
  ⟨.host, 0x60078004, [], 5, 1, .w1c, 0, .kept, false⟩,
  ⟨.host, 0x60078004, [], 6, 2, .ro, 0, .kept, false⟩,
  ⟨.host, 0x60078008, [], 0, 2, .wo, 0, .zero, false⟩,
  ⟨.host, 0x60078010, [], 0, 1, .rwl, 0, .kept, false⟩,
  ⟨.host, 0x60078014, [], 0, 8, .ro, 0, .zero, false⟩,
  ⟨.host, 0x60078014, [], 8, 24, .ro, 0, .zero, false⟩,
  ⟨.host, 0x60078100, [(32, 0x40)], 0, 1, .rw, 0, .kept, false⟩,
  ⟨.host, 0x60078100, [(32, 0x40)], 1, 1, .wo, 0, .zero, false⟩,
  ⟨.host, 0x60078100, [(32, 0x40)], 2, 2, .rw, 0, .kept, false⟩,
  ⟨.host, 0x60078100, [(32, 0x40)], 4, 6, .rw, 0, .kept, false⟩,
  ⟨.host, 0x60078100, [(32, 0x40)], 10, 1, .rw, 0, .kept, false⟩,
  ⟨.host, 0x60078100, [(32, 0x40)], 11, 4, .rw, 0, .kept, false⟩,
  ⟨.host, 0x60078100, [(32, 0x40)], 15, 4, .rw, 0, .kept, false⟩,
  ⟨.host, 0x60078100, [(32, 0x40)], 19, 1, .rw, 0, .kept, false⟩,
  ⟨.host, 0x60078100, [(32, 0x40)], 20, 12, .rw, 0, .kept, false⟩,
  ⟨.host, 0x60078104, [(32, 0x40), (2, 0x4)], 0, 32, .rw, 0, .kept, false⟩,
  ⟨.host, 0x6007810C, [(32, 0x40), (2, 0x4)], 0, 32, .rw, 0, .kept, false⟩,
  ⟨.host, 0x60078114, [(32, 0x40)], 0, 16, .ro, 0, .kept, false⟩,
  ⟨.host, 0x60078118, [(32, 0x40)], 0, 16, .ro, 0, .kept, false⟩,
  ⟨.host, 0x60078118, [(32, 0x40)], 16, 1, .ro, 1, .kept, false⟩,
  ⟨.host, 0x6007811C, [(32, 0x40)], 0, 32, .rw, 0, .kept, false⟩,
  ⟨.host, 0x60078120, [(32, 0x40)], 0, 5, .ro, 0, .zero, false⟩,
  ⟨.host, 0x60078120, [(32, 0x40)], 5, 1, .w1c, 0, .kept, false⟩,
  ⟨.host, 0x60078120, [(32, 0x40)], 6, 1, .ro, 0, .zero, false⟩,
  ⟨.host, 0x60078124, [(32, 0x40)], 0, 16, .ro, 0, .kept, false⟩,
  ⟨.host, 0x60078124, [(32, 0x40)], 16, 16, .ro, 0, .kept, false⟩,
  ⟨.host, 0x60078900, [(2, 0x40)], 0, 1, .rw, 0, .kept, false⟩,
  ⟨.host, 0x60078900, [(2, 0x40)], 1, 6, .rw, 0, .kept, false⟩,
  ⟨.host, 0x60078900, [(2, 0x40)], 7, 4, .rw, 0, .kept, false⟩,
  ⟨.host, 0x60078900, [(2, 0x40)], 20, 12, .rw, 0, .kept, false⟩,
  ⟨.host, 0x60078904, [(2, 0x40), (2, 0x4)], 0, 32, .rw, 0, .kept, false⟩,
  ⟨.host, 0x6007890C, [(2, 0x40)], 0, 16, .ro, 0, .kept, false⟩,
  ⟨.host, 0x60078910, [(2, 0x40)], 0, 16, .ro, 0, .kept, false⟩,
  ⟨.host, 0x60078910, [(2, 0x40)], 16, 16, .ro, 0, .kept, false⟩,
  ⟨.host, 0x60079000, [(256, 0x10)], 0, 1, .rw, 0, .kept, false⟩,
  ⟨.host, 0x60079000, [(256, 0x10)], 1, 2, .rw, 0, .kept, false⟩]

/-- Rows of the HOST block. -/
def rowsHost1 : List Row := [
  ⟨.host, 0x60079000, [(256, 0x10)], 3, 16, .rw, 0, .kept, false⟩,
  ⟨.host, 0x60079004, [(256, 0x10)], 0, 16, .rw, 0, .kept, false⟩,
  ⟨.host, 0x60079008, [(256, 0x10)], 0, 32, .rw, 0, .kept, false⟩,
  ⟨.host, 0x6007900C, [(256, 0x10)], 0, 32, .rw, 0, .kept, false⟩]

/-- Rows of the JNL block. -/
def rowsJnl0 : List Row := [
  ⟨.jnl, 0x60080000, [], 0, 32, .ro, 0, .kept, false⟩,
  ⟨.jnl, 0x60080004, [], 0, 1, .ro, 0, .kept, false⟩,
  ⟨.jnl, 0x60080004, [], 1, 1, .ro, 0, .zero, false⟩,
  ⟨.jnl, 0x60080004, [], 2, 1, .ro, 0, .kept, true⟩,
  ⟨.jnl, 0x60080004, [], 3, 5, .ro, 0, .kept, false⟩,
  ⟨.jnl, 0x60080004, [], 8, 8, .ro, 0, .kept, false⟩,
  ⟨.jnl, 0x60080004, [], 16, 16, .ro, 0, .kept, true⟩,
  ⟨.jnl, 0x60080008, [], 0, 32, .ro, 0, .kept, false⟩,
  ⟨.jnl, 0x60080010, [], 0, 32, .rw, 0, .zero, false⟩,
  ⟨.jnl, 0x60080014, [], 0, 1, .ro, 0, .zero, false⟩,
  ⟨.jnl, 0x60080014, [], 1, 1, .ro, 0, .zero, false⟩,
  ⟨.jnl, 0x60080014, [], 2, 1, .ro, 0, .zero, false⟩,
  ⟨.jnl, 0x60080020, [(8, 0x4)], 0, 32, .ro, 0, .zero, false⟩,
  ⟨.jnl, 0x60080040, [], 0, 16, .ro, 0, .kept, false⟩,
  ⟨.jnl, 0x60080040, [], 16, 16, .ro, 0, .kept, false⟩]

/-- Rows of the FAB block. -/
def rowsFab0 : List Row := [
  ⟨.fab, 0x60088000, [], 0, 1, .rw, 0, .kept, false⟩,
  ⟨.fab, 0x60088000, [], 1, 1, .rw, 0, .kept, false⟩,
  ⟨.fab, 0x60088000, [], 2, 1, .rwl, 0, .kept, false⟩,
  ⟨.fab, 0x60088000, [], 3, 1, .rwl, 0, .kept, false⟩,
  ⟨.fab, 0x60088000, [], 4, 1, .rwl, 0, .kept, false⟩,
  ⟨.fab, 0x60088000, [], 5, 1, .ro, 0, .kept, false⟩,
  ⟨.fab, 0x60088000, [], 6, 5, .rwl, 0, .kept, false⟩,
  ⟨.fab, 0x60088000, [], 11, 5, .rwl, 0, .kept, false⟩,
  ⟨.fab, 0x60088000, [], 16, 5, .rwl, 0, .kept, false⟩,
  ⟨.fab, 0x60088000, [], 21, 5, .rwl, 0, .kept, false⟩,
  ⟨.fab, 0x60088004, [], 0, 6, .rwl, 0, .kept, false⟩,
  ⟨.fab, 0x60088004, [], 6, 6, .rwl, 0, .kept, false⟩,
  ⟨.fab, 0x60088004, [], 12, 5, .rw, 0, .kept, false⟩,
  ⟨.fab, 0x60088008, [], 0, 1, .wo, 0, .zero, false⟩,
  ⟨.fab, 0x60088010, [(2, 0x4)], 0, 10, .ro, 0, .kept, false⟩,
  ⟨.fab, 0x60088010, [(2, 0x4)], 10, 1, .ro, 0, .kept, false⟩,
  ⟨.fab, 0x60088010, [(2, 0x4)], 11, 1, .ro, 0, .kept, false⟩,
  ⟨.fab, 0x60088010, [(2, 0x4)], 12, 1, .ro, 0, .kept, false⟩,
  ⟨.fab, 0x60088010, [(2, 0x4)], 13, 1, .ro, 0, .kept, false⟩,
  ⟨.fab, 0x60088010, [(2, 0x4)], 14, 6, .ro, 0, .kept, false⟩,
  ⟨.fab, 0x60088010, [(2, 0x4)], 20, 2, .ro, 0, .kept, false⟩,
  ⟨.fab, 0x60088010, [(2, 0x4)], 22, 1, .w1c, 0, .kept, false⟩,
  ⟨.fab, 0x60088010, [(2, 0x4)], 23, 1, .w1c, 0, .kept, false⟩,
  ⟨.fab, 0x60088010, [(2, 0x4)], 24, 2, .ro, 0, .kept, false⟩,
  ⟨.fab, 0x60088010, [(2, 0x4)], 26, 1, .ro, 0, .kept, false⟩,
  ⟨.fab, 0x60088010, [(2, 0x4)], 27, 5, .ro, 0, .kept, false⟩,
  ⟨.fab, 0x60088018, [(2, 0x8), (2, 0x4)], 0, 32, .ro, 0, .kept, false⟩,
  ⟨.fab, 0x60088028, [], 0, 16, .ro, 0, .kept, false⟩,
  ⟨.fab, 0x60088028, [], 16, 16, .ro, 0, .kept, false⟩,
  ⟨.fab, 0x60088030, [], 0, 16, .ro, 0, .kept, false⟩,
  ⟨.fab, 0x60088030, [], 16, 16, .ro, 0, .kept, false⟩,
  ⟨.fab, 0x60088034, [], 0, 8, .ro, 0, .kept, false⟩,
  ⟨.fab, 0x60088034, [], 8, 8, .ro, 0, .kept, false⟩,
  ⟨.fab, 0x60088034, [], 16, 8, .ro, 0, .kept, false⟩,
  ⟨.fab, 0x60088034, [], 24, 8, .ro, 0, .kept, false⟩,
  ⟨.fab, 0x60088038, [], 0, 16, .ro, 0, .kept, false⟩,
  ⟨.fab, 0x60088038, [], 16, 8, .ro, 0, .kept, false⟩,
  ⟨.fab, 0x60088038, [], 24, 8, .ro, 0, .kept, false⟩,
  ⟨.fab, 0x6008803C, [], 0, 32, .w1c, 0, .kept, false⟩,
  ⟨.fab, 0x60088100, [(32, 0x4)], 0, 2, .rwl, 0, .kept, false⟩]

/-- Rows of the FAB block. -/
def rowsFab1 : List Row := [
  ⟨.fab, 0x60088400, [], 0, 1, .rwl, 0, .kept, false⟩,
  ⟨.fab, 0x60088404, [], 0, 8, .ro, 0, .zero, false⟩,
  ⟨.fab, 0x60088404, [], 8, 24, .ro, 0, .zero, false⟩,
  ⟨.fab, 0x60088200, [(4, 0x20)], 0, 1, .ro, 0, .kept, false⟩,
  ⟨.fab, 0x60088200, [(4, 0x20)], 1, 1, .ro, 0, .kept, false⟩,
  ⟨.fab, 0x60088200, [(4, 0x20)], 2, 1, .ro, 0, .kept, false⟩,
  ⟨.fab, 0x60088200, [(4, 0x20)], 4, 4, .ro, 15, .kept, false⟩,
  ⟨.fab, 0x60088200, [(4, 0x20)], 8, 12, .ro, 0, .kept, false⟩,
  ⟨.fab, 0x60088200, [(4, 0x20)], 24, 8, .ro, 0, .kept, false⟩,
  ⟨.fab, 0x60088204, [(4, 0x20)], 0, 16, .ro, 0, .kept, false⟩,
  ⟨.fab, 0x60088204, [(4, 0x20)], 16, 8, .ro, 0, .kept, false⟩,
  ⟨.fab, 0x60088204, [(4, 0x20)], 24, 8, .ro, 0, .kept, false⟩,
  ⟨.fab, 0x60088208, [(4, 0x20)], 0, 8, .ro, 0, .kept, false⟩,
  ⟨.fab, 0x60088208, [(4, 0x20)], 8, 8, .ro, 0, .kept, false⟩,
  ⟨.fab, 0x60088208, [(4, 0x20)], 16, 8, .ro, 0, .kept, false⟩,
  ⟨.fab, 0x6008820C, [(4, 0x20)], 0, 10, .ro, 0, .kept, false⟩,
  ⟨.fab, 0x6008820C, [(4, 0x20)], 10, 1, .ro, 0, .kept, false⟩,
  ⟨.fab, 0x60088300, [(3, 0x20)], 0, 32, .rw, 0, .kept, false⟩,
  ⟨.fab, 0x60088304, [(3, 0x20)], 0, 1, .rw, 0, .zero, false⟩,
  ⟨.fab, 0x60088304, [(3, 0x20)], 1, 4, .rw, 0, .kept, false⟩,
  ⟨.fab, 0x60088308, [(3, 0x20)], 0, 10, .wo, 0, .zero, false⟩,
  ⟨.fab, 0x6008830C, [(3, 0x20)], 0, 10, .ro, 0, .zero, false⟩,
  ⟨.fab, 0x60088310, [(3, 0x20)], 0, 32, .rw, 0, .kept, false⟩,
  ⟨.fab, 0x60088314, [(3, 0x20)], 0, 1, .rw, 0, .zero, false⟩,
  ⟨.fab, 0x60088314, [(3, 0x20)], 1, 4, .rw, 0, .kept, false⟩,
  ⟨.fab, 0x60088318, [(3, 0x20)], 0, 8, .ro, 0, .zero, false⟩,
  ⟨.fab, 0x6008831C, [(3, 0x20)], 0, 8, .wo, 0, .zero, false⟩]

/-- Rows of the CAN block. -/
def rowsCan0 : List Row := [
  ⟨.can, 0x60090000, [(8, 0x400)], 0, 2, .rw, 0, .zero, false⟩,
  ⟨.can, 0x60090000, [(8, 0x400)], 2, 1, .rwl, 0, .image, false⟩,
  ⟨.can, 0x60090000, [(8, 0x400)], 3, 1, .rwl, 0, .image, false⟩,
  ⟨.can, 0x60090000, [(8, 0x400)], 4, 1, .rwl, 0, .image, false⟩,
  ⟨.can, 0x60090000, [(8, 0x400)], 5, 1, .rwl, 0, .image, false⟩,
  ⟨.can, 0x60090000, [(8, 0x400)], 8, 8, .rwl, 0, .image, false⟩,
  ⟨.can, 0x60090004, [(8, 0x400)], 0, 5, .rwl, 0, .image, false⟩,
  ⟨.can, 0x60090004, [(8, 0x400)], 5, 8, .rwl, 0, .image, false⟩,
  ⟨.can, 0x60090004, [(8, 0x400)], 13, 7, .rwl, 0, .image, false⟩,
  ⟨.can, 0x60090004, [(8, 0x400)], 20, 7, .rwl, 0, .image, false⟩,
  ⟨.can, 0x60090008, [(8, 0x400)], 0, 5, .rwl, 0, .image, false⟩,
  ⟨.can, 0x60090008, [(8, 0x400)], 5, 5, .rwl, 0, .image, false⟩,
  ⟨.can, 0x60090008, [(8, 0x400)], 10, 4, .rwl, 0, .image, false⟩,
  ⟨.can, 0x60090008, [(8, 0x400)], 14, 4, .rwl, 0, .image, false⟩,
  ⟨.can, 0x60090008, [(8, 0x400)], 18, 1, .rwl, 0, .image, false⟩,
  ⟨.can, 0x60090008, [(8, 0x400)], 19, 7, .rwl, 0, .image, false⟩,
  ⟨.can, 0x6009000C, [(8, 0x400)], 0, 2, .ro, 0, .zero, false⟩,
  ⟨.can, 0x6009000C, [(8, 0x400)], 2, 1, .ro, 0, .zero, false⟩,
  ⟨.can, 0x6009000C, [(8, 0x400)], 3, 3, .ro, 0, .zero, false⟩,
  ⟨.can, 0x6009000C, [(8, 0x400)], 6, 1, .ro, 0, .zero, false⟩,
  ⟨.can, 0x6009000C, [(8, 0x400)], 8, 8, .ro, 0, .zero, false⟩,
  ⟨.can, 0x6009000C, [(8, 0x400)], 16, 7, .ro, 0, .zero, false⟩,
  ⟨.can, 0x6009000C, [(8, 0x400)], 23, 1, .ro, 0, .zero, false⟩,
  ⟨.can, 0x60090010, [(8, 0x400)], 0, 8, .ro, 0, .zero, false⟩,
  ⟨.can, 0x60090010, [(8, 0x400)], 8, 8, .ro, 0, .zero, false⟩,
  ⟨.can, 0x60090010, [(8, 0x400)], 16, 8, .ro, 0, .zero, false⟩,
  ⟨.can, 0x60090010, [(8, 0x400)], 24, 8, .ro, 0, .zero, false⟩,
  ⟨.can, 0x60090014, [(8, 0x400)], 0, 1, .wo, 0, .zero, false⟩,
  ⟨.can, 0x60090018, [(8, 0x400)], 0, 10, .rw, 0, .image, false⟩,
  ⟨.can, 0x6009001C, [(8, 0x400)], 0, 4, .w1c, 0, .zero, false⟩,
  ⟨.can, 0x6009001C, [(8, 0x400)], 4, 1, .w1c, 0, .zero, false⟩,
  ⟨.can, 0x6009001C, [(8, 0x400)], 5, 1, .w1c, 0, .zero, false⟩,
  ⟨.can, 0x6009001C, [(8, 0x400)], 6, 1, .w1c, 0, .zero, false⟩,
  ⟨.can, 0x6009001C, [(8, 0x400)], 7, 1, .w1c, 0, .zero, false⟩,
  ⟨.can, 0x6009001C, [(8, 0x400)], 8, 1, .w1c, 0, .zero, false⟩,
  ⟨.can, 0x6009001C, [(8, 0x400)], 9, 1, .w1c, 0, .zero, false⟩,
  ⟨.can, 0x60090020, [(8, 0x400)], 0, 32, .rw, 0, .image, false⟩,
  ⟨.can, 0x60090024, [(8, 0x400)], 0, 32, .rw, 0, .image, false⟩,
  ⟨.can, 0x60090028, [(8, 0x400)], 0, 13, .rw, 0, .image, false⟩,
  ⟨.can, 0x60090028, [(8, 0x400)], 16, 13, .rw, 0, .image, false⟩]

/-- Rows of the CAN block. -/
def rowsCan1 : List Row := [
  ⟨.can, 0x6009002C, [(8, 0x400)], 0, 3, .rwl, 0, .image, false⟩,
  ⟨.can, 0x6009002C, [(8, 0x400)], 3, 3, .rwl, 0, .image, false⟩,
  ⟨.can, 0x6009002C, [(8, 0x400)], 6, 1, .rwl, 0, .image, false⟩,
  ⟨.can, 0x6009002C, [(8, 0x400)], 7, 1, .rwl, 0, .image, false⟩,
  ⟨.can, 0x60090030, [(8, 0x400)], 0, 1, .wo, 0, .zero, false⟩,
  ⟨.can, 0x60090034, [(8, 0x400)], 0, 32, .rwl, 0, .image, false⟩,
  ⟨.can, 0x60090038, [(8, 0x400), (2, 0x4)], 0, 32, .rw, 0, .zero, false⟩,
  ⟨.can, 0x60090040, [(8, 0x400), (2, 0x4)], 0, 32, .wo, 0, .zero, false⟩,
  ⟨.can, 0x60090048, [(8, 0x400), (2, 0x4)], 0, 32, .w1c, 0, .zero, false⟩,
  ⟨.can, 0x60090080, [(8, 0x400), (4, 0x10)], 0, 32, .rwl, 0, .image, false⟩,
  ⟨.can, 0x60090084, [(8, 0x400), (4, 0x10)], 0, 1, .rw, 0, .image, false⟩,
  ⟨.can, 0x60090084, [(8, 0x400), (4, 0x10)], 1, 4, .rwl, 0, .image, false⟩,
  ⟨.can, 0x60090084, [(8, 0x400), (4, 0x10)], 16, 16, .ro, 0, .zero, false⟩,
  ⟨.can, 0x60090088, [(8, 0x400), (4, 0x10)], 0, 10, .ro, 0, .zero, false⟩,
  ⟨.can, 0x6009008C, [(8, 0x400), (4, 0x10)], 0, 10, .wo, 0, .zero, false⟩,
  ⟨.can, 0x60090100, [(8, 0x400), (64, 0x4)], 0, 16, .ro, 0, .zero, false⟩,
  ⟨.can, 0x60090100, [(8, 0x400), (64, 0x4)], 16, 8, .ro, 0, .zero, false⟩,
  ⟨.can, 0x60090100, [(8, 0x400), (64, 0x4)], 24, 2, .ro, 0, .zero, false⟩,
  ⟨.can, 0x60090100, [(8, 0x400), (64, 0x4)], 26, 2, .ro, 0, .zero, false⟩,
  ⟨.can, 0x60092000, [], 0, 1, .rwl, 0, .kept, false⟩,
  ⟨.can, 0x60092004, [], 0, 8, .ro, 0, .zero, false⟩,
  ⟨.can, 0x60092004, [], 8, 3, .ro, 0, .zero, false⟩,
  ⟨.can, 0x60092004, [], 11, 21, .ro, 0, .zero, false⟩]

/-- Rows of the IMG block. -/
def rowsImg0 : List Row := [
  ⟨.img, 0x60098000, [], 0, 2, .ro, 0, .kept, false⟩,
  ⟨.img, 0x60098000, [], 2, 1, .ro, 0, .kept, false⟩,
  ⟨.img, 0x60098000, [], 3, 1, .ro, 0, .kept, false⟩,
  ⟨.img, 0x60098000, [], 4, 1, .ro, 0, .zero, false⟩,
  ⟨.img, 0x60098000, [], 8, 4, .ro, 0, .kept, false⟩,
  ⟨.img, 0x60098000, [], 12, 4, .ro, 0, .kept, false⟩,
  ⟨.img, 0x60098000, [], 16, 4, .ro, 0, .kept, false⟩,
  ⟨.img, 0x60098000, [], 20, 12, .ro, 0, .kept, false⟩,
  ⟨.img, 0x60098004, [], 0, 32, .ro, 0, .kept, false⟩,
  ⟨.img, 0x60098008, [], 0, 32, .ro, 0, .kept, false⟩,
  ⟨.img, 0x6009800C, [], 0, 32, .ro, 0, .kept, false⟩,
  ⟨.img, 0x60098010, [], 0, 32, .ro, 0, .kept, false⟩,
  ⟨.img, 0x60098014, [], 0, 32, .ro, 0, .kept, false⟩,
  ⟨.img, 0x60098020, [], 0, 1, .rwl, 0, .kept, false⟩,
  ⟨.img, 0x60098024, [], 0, 8, .ro, 0, .zero, false⟩,
  ⟨.img, 0x60098024, [], 8, 24, .ro, 0, .zero, false⟩]

/-- Rows of the TST block. -/
def rowsTst0 : List Row := [
  ⟨.tst, 0x600A0000, [], 0, 2, .ro, 0, .kept, false⟩,
  ⟨.tst, 0x600A0000, [], 2, 1, .ro, 0, .kept, false⟩,
  ⟨.tst, 0x600A0000, [], 3, 1, .ro, 0, .kept, false⟩,
  ⟨.tst, 0x600A0000, [], 4, 1, .w1c, 0, .kept, false⟩,
  ⟨.tst, 0x600A0000, [], 8, 8, .ro, 0, .kept, true⟩,
  ⟨.tst, 0x600A0004, [], 0, 1, .rwl, 0, .kept, false⟩,
  ⟨.tst, 0x600A0008, [], 0, 1, .wo, 0, .zero, false⟩,
  ⟨.tst, 0x600A0010, [], 0, 8, .rw, 0, .zero, false⟩,
  ⟨.tst, 0x600A0010, [], 8, 8, .rw, 0, .zero, false⟩,
  ⟨.tst, 0x600A0010, [], 16, 1, .rw, 0, .zero, false⟩,
  ⟨.tst, 0x600A0010, [], 17, 1, .rw, 0, .zero, false⟩,
  ⟨.tst, 0x600A0020, [], 0, 32, .rw, 0, .zero, false⟩,
  ⟨.tst, 0x600A0024, [], 0, 16, .rw, 0, .zero, false⟩,
  ⟨.tst, 0x600A0028, [], 0, 1, .wo, 0, .zero, false⟩,
  ⟨.tst, 0x600A002C, [], 0, 1, .ro, 0, .zero, false⟩,
  ⟨.tst, 0x600A002C, [], 8, 8, .ro, 0, .zero, false⟩,
  ⟨.tst, 0x600A0040, [(6, 0x4)], 0, 32, .ro, 0, .kept, false⟩,
  ⟨.tst, 0x600A0080, [], 0, 32, .rw, 0, .kept, false⟩,
  ⟨.tst, 0x600A0084, [], 0, 1, .rw, 0, .zero, false⟩,
  ⟨.tst, 0x600A0084, [], 1, 5, .rw, 0, .kept, false⟩,
  ⟨.tst, 0x600A0084, [], 6, 1, .rw, 0, .kept, false⟩,
  ⟨.tst, 0x600A0084, [], 8, 8, .rw, 0, .kept, false⟩,
  ⟨.tst, 0x600A0084, [], 16, 4, .rw, 0, .kept, false⟩,
  ⟨.tst, 0x600A0088, [], 0, 20, .ro, 0, .kept, false⟩,
  ⟨.tst, 0x600A0088, [], 31, 1, .ro, 0, .kept, false⟩,
  ⟨.tst, 0x600A008C, [], 0, 32, .ro, 0, .kept, false⟩,
  ⟨.tst, 0x600A00F0, [], 0, 1, .rwl, 0, .kept, false⟩,
  ⟨.tst, 0x600A00F4, [], 0, 8, .ro, 0, .zero, false⟩,
  ⟨.tst, 0x600A00F4, [], 8, 24, .ro, 0, .zero, false⟩]

/-- The rows of one block. -/
def Blk.rows : Blk → List Row
  | .pwr => rowsPwr0 ++ rowsPwr1 ++ rowsPwr2
  | .pwm => rowsPwm0 ++ rowsPwm1
  | .gs => rowsGs0 ++ rowsGs1
  | .ld => rowsLd0
  | .adc => rowsAdc0 ++ rowsAdc1
  | .mod => rowsMod0 ++ rowsMirMod
  | .fb => rowsFb0 ++ rowsFb1 ++ rowsFb2
  | .le => rowsLe0 ++ rowsLe1
  | .trc => rowsTrc0 ++ rowsTrc1
  | .act => rowsAct0 ++ rowsAct1
  | .cnv => rowsCnv0 ++ rowsCnv1
  | .chg => rowsChg0 ++ rowsChg1
  | .saf => rowsSaf0 ++ rowsSaf1 ++ rowsSaf2
  | .lks => rowsLks0
  | .thm => rowsThm0
  | .host => rowsHost0 ++ rowsHost1
  | .jnl => rowsJnl0
  | .fab => rowsFab0 ++ rowsFab1
  | .can => rowsCan0 ++ rowsCan1
  | .img => rowsImg0
  | .tst => rowsTst0

end Sys2Proof.Machine
end

