-- ==== Sys2Proof/Machine/Status.lean ====
section
/-! DEFINITION. The status codes of R13 and of the chapters, and the value R425 gives each in a completion record. -/

namespace Sys2Proof.Machine

/-- A status (R13, R425). -/
inductive Status where
  | OK
  | TRIP_ASSERTED | NO_LISTENER | NOTHING_TO_ABORT | UNCERTAIN | TIMER_EXPIRED_DERATED | START_EXHAUSTED | WAKE_PENDING | LEG_ABSENT
  | MODE_TRANSITION_INVALID | MODE_BUSY | SAFE_PREEMPTED | SAFE_HELD | DC_LINK_RANGE | PLUG_PRESENT | NO_PLUG | PILOT_STATE | LEG_FAILED | START_IN_PROGRESS | FABRIC_PENDING | INTERRUPTED_COLD
  | PERIOD_RANGE | DT_RANGE | FORCE_BOTH_ON | GROUP_RUNNING | START_LATE | NO_DUTY_SET | PWM_LOCKED | GROUP_RANGE
  | GS_RANGE | FAULT_PERSISTS | SAT_SILENT | GS_LOCKED
  | ADC_RANGE | ADC_LOCKED | MOD_RANGE | MOD_BUSY | MOD_LOCKED
  | FB_RANGE | FB_BUSY | FB_LOCKED
  | LE_RANGE | LE_BUSY | LE_BANK_ACTIVE | LE_LOCKED | LE_CHECK_FAIL | LE_GROUP_OWNED | COMMIT_MISMATCH | COMMIT_NO_PERIOD | LE_ARM_CANCELLED
  | TRC_RANGE | TRC_BUSY | TRC_LOCKED | CHOP_FAULT_PERSISTS
  | ACT_RANGE | ACT_BUSY | ACT_LOCKED | ACT_GROUP_STOPPED | ACT_FAULT_PERSISTS | ACT_START_FAILED | ACT_CANCELLED
  | CNV_RANGE | CNV_BUSY | CNV_LOCKED | CNV_GROUP_STOPPED | CNV_FAULT_PERSISTS | CNV_START_FAILED | CNV_CANCELLED
  | CHG_RANGE | CHG_BUSY | CHG_LOCKED | CHG_NO_MAINS | CHG_MAINS_UNSUPPORTED | CHG_COMPLETE | TIMER_EXPIRED | PLUG_REMOVED | MAINS_LOST | PILOT_FAULT | CHG_STOPPED | CHG_SAFE_STOP | EXPORT_SP_STALE | EXPORT_BAT_LOW | BOOST_OVERLOAD
  | SAF_RANGE | SAF_LOCKED | SAF_BUSY | RELEASE_AT_SPEED | RELEASE_KEY
  | LKS_RANGE | LKS_LOCKED
  | FEED_NO_STANDBY | FEED_DRILL_FAILED | FEED_SWITCHED | PWR_BUSY | PWR_RANGE | PWR_LOCKED | PWR_NO_ACK | PS_MODE | PS_REFUSED | PS_TIMEOUT | WAKE_DURING_ENTRY
  | THM_RANGE | THM_LOCKED
  | OPCODE_UNKNOWN | RING_CLASS | HOST_RANGE | SEQ_ERROR | WINDOW_INVALID | EXPIRED | ABORTED | ABORT_NO_TARGET | ABORT_REFUSED | RING_RESET | HOST_WR_DENIED | HOST_LOCKED | HOST_DMA_ERROR | JNL_GONE
  | FAB_RANGE | FAB_BUSY | FAB_LOCKED | FAB_NO_ADDRESS | FAB_UNREACHABLE | FAB_NO_PATH | FAB_QUEUE_FULL
  | CAN_RANGE | CAN_BUSY | CAN_LOCKED | CAN_ID_RESERVED | CAN_TX_BUSY | CAN_SEND_FAILED
  | IMG_HEADER | IMG_VARIANT | IMG_RECORD | IMG_DUP_KEY | IMG_SIZE | IMG_KEY | IMG_SIGNATURE | IMG_ROLLBACK | IMG_ACTIVE | IMG_BUSY | IMG_MODE | IMG_LOCKED
  | TST_RANGE | TST_BUSY | TST_LOCKED
  deriving DecidableEq, Repr, Inhabited

/-- The 16-bit STATUS value of R425. -/
def Status.code : Status → Nat
  | .OK => 0x0000
  | .TRIP_ASSERTED => 0x0001
  | .NO_LISTENER => 0x0002
  | .NOTHING_TO_ABORT => 0x0003
  | .UNCERTAIN => 0x0004
  | .TIMER_EXPIRED_DERATED => 0x0005
  | .START_EXHAUSTED => 0x0006
  | .WAKE_PENDING => 0x0007
  | .LEG_ABSENT => 0x0008
  | .MODE_TRANSITION_INVALID => 0x0100
  | .MODE_BUSY => 0x0101
  | .SAFE_PREEMPTED => 0x0102
  | .SAFE_HELD => 0x0103
  | .DC_LINK_RANGE => 0x0104
  | .PLUG_PRESENT => 0x0105
  | .NO_PLUG => 0x0106
  | .PILOT_STATE => 0x0107
  | .LEG_FAILED => 0x0108
  | .START_IN_PROGRESS => 0x0109
  | .FABRIC_PENDING => 0x010A
  | .INTERRUPTED_COLD => 0x010B
  | .PERIOD_RANGE => 0x0200
  | .DT_RANGE => 0x0201
  | .FORCE_BOTH_ON => 0x0202
  | .GROUP_RUNNING => 0x0203
  | .START_LATE => 0x0204
  | .NO_DUTY_SET => 0x0205
  | .PWM_LOCKED => 0x0206
  | .GROUP_RANGE => 0x0207
  | .GS_RANGE => 0x0300
  | .FAULT_PERSISTS => 0x0301
  | .SAT_SILENT => 0x0302
  | .GS_LOCKED => 0x0303
  | .ADC_RANGE => 0x0400
  | .ADC_LOCKED => 0x0401
  | .MOD_RANGE => 0x0402
  | .MOD_BUSY => 0x0403
  | .MOD_LOCKED => 0x0404
  | .FB_RANGE => 0x0500
  | .FB_BUSY => 0x0501
  | .FB_LOCKED => 0x0502
  | .LE_RANGE => 0x0600
  | .LE_BUSY => 0x0601
  | .LE_BANK_ACTIVE => 0x0602
  | .LE_LOCKED => 0x0603
  | .LE_CHECK_FAIL => 0x0604
  | .LE_GROUP_OWNED => 0x0605
  | .COMMIT_MISMATCH => 0x0606
  | .COMMIT_NO_PERIOD => 0x0607
  | .LE_ARM_CANCELLED => 0x0608
  | .TRC_RANGE => 0x0700
  | .TRC_BUSY => 0x0701
  | .TRC_LOCKED => 0x0702
  | .CHOP_FAULT_PERSISTS => 0x0703
  | .ACT_RANGE => 0x0800
  | .ACT_BUSY => 0x0801
  | .ACT_LOCKED => 0x0802
  | .ACT_GROUP_STOPPED => 0x0803
  | .ACT_FAULT_PERSISTS => 0x0804
  | .ACT_START_FAILED => 0x0805
  | .ACT_CANCELLED => 0x0806
  | .CNV_RANGE => 0x0900
  | .CNV_BUSY => 0x0901
  | .CNV_LOCKED => 0x0902
  | .CNV_GROUP_STOPPED => 0x0903
  | .CNV_FAULT_PERSISTS => 0x0904
  | .CNV_START_FAILED => 0x0905
  | .CNV_CANCELLED => 0x0906
  | .CHG_RANGE => 0x0A00
  | .CHG_BUSY => 0x0A01
  | .CHG_LOCKED => 0x0A02
  | .CHG_NO_MAINS => 0x0A03
  | .CHG_MAINS_UNSUPPORTED => 0x0A04
  | .CHG_COMPLETE => 0x0A05
  | .TIMER_EXPIRED => 0x0A06
  | .PLUG_REMOVED => 0x0A07
  | .MAINS_LOST => 0x0A08
  | .PILOT_FAULT => 0x0A09
  | .CHG_STOPPED => 0x0A0A
  | .CHG_SAFE_STOP => 0x0A0B
  | .EXPORT_SP_STALE => 0x0A0C
  | .EXPORT_BAT_LOW => 0x0A0D
  | .BOOST_OVERLOAD => 0x0A0E
  | .SAF_RANGE => 0x0B00
  | .SAF_LOCKED => 0x0B01
  | .SAF_BUSY => 0x0B02
  | .RELEASE_AT_SPEED => 0x0B03
  | .RELEASE_KEY => 0x0B04
  | .LKS_RANGE => 0x0C00
  | .LKS_LOCKED => 0x0C01
  | .FEED_NO_STANDBY => 0x0D00
  | .FEED_DRILL_FAILED => 0x0D01
  | .FEED_SWITCHED => 0x0D02
  | .PWR_BUSY => 0x0D03
  | .PWR_RANGE => 0x0D04
  | .PWR_LOCKED => 0x0D05
  | .PWR_NO_ACK => 0x0D06
  | .PS_MODE => 0x0D07
  | .PS_REFUSED => 0x0D08
  | .PS_TIMEOUT => 0x0D09
  | .WAKE_DURING_ENTRY => 0x0D0A
  | .THM_RANGE => 0x0E00
  | .THM_LOCKED => 0x0E01
  | .OPCODE_UNKNOWN => 0x0F00
  | .RING_CLASS => 0x0F01
  | .HOST_RANGE => 0x0F02
  | .SEQ_ERROR => 0x0F03
  | .WINDOW_INVALID => 0x0F04
  | .EXPIRED => 0x0F05
  | .ABORTED => 0x0F06
  | .ABORT_NO_TARGET => 0x0F07
  | .ABORT_REFUSED => 0x0F08
  | .RING_RESET => 0x0F09
  | .HOST_WR_DENIED => 0x0F0A
  | .HOST_LOCKED => 0x0F0B
  | .HOST_DMA_ERROR => 0x0F0C
  | .JNL_GONE => 0x0F0D
  | .FAB_RANGE => 0x1000
  | .FAB_BUSY => 0x1001
  | .FAB_LOCKED => 0x1002
  | .FAB_NO_ADDRESS => 0x1003
  | .FAB_UNREACHABLE => 0x1004
  | .FAB_NO_PATH => 0x1005
  | .FAB_QUEUE_FULL => 0x1006
  | .CAN_RANGE => 0x1100
  | .CAN_BUSY => 0x1101
  | .CAN_LOCKED => 0x1102
  | .CAN_ID_RESERVED => 0x1103
  | .CAN_TX_BUSY => 0x1104
  | .CAN_SEND_FAILED => 0x1105
  | .IMG_HEADER => 0x1200
  | .IMG_VARIANT => 0x1201
  | .IMG_RECORD => 0x1202
  | .IMG_DUP_KEY => 0x1203
  | .IMG_SIZE => 0x1204
  | .IMG_KEY => 0x1205
  | .IMG_SIGNATURE => 0x1206
  | .IMG_ROLLBACK => 0x1207
  | .IMG_ACTIVE => 0x1208
  | .IMG_BUSY => 0x1209
  | .IMG_MODE => 0x120A
  | .IMG_LOCKED => 0x120B
  | .TST_RANGE => 0x1300
  | .TST_BUSY => 0x1301
  | .TST_LOCKED => 0x1302

end Sys2Proof.Machine
end

