-- ==== Sys2Proof/Machine/State.lean ====
section
/-! DEFINITION. The state of the AX836 as plain data: the register file, the memories, what each block holds beside its
registers, the queue of waiting commands, and the state at reset. -/

namespace Sys2Proof.Machine

/-- One byte of memory at an address. -/
abbrev Mem := List Host.Cell

/-- A sparse table: keys strictly rising, no entry equal to what an unlisted key reads as. -/
abbrev Tbl (α : Type) := List (Nat × α)

/-- A command of a ring, named by its ring and its sequence number. -/
structure CmdRef where
  ring : Nat := 0
  seq : Nat := 0
  deriving DecidableEq, Repr, Inhabited

/-- The ordering variants (R1). -/
inductive Variant where
  | ax72 | ax48 | ax24
  deriving DecidableEq, Repr, Inhabited

/-- HV legs fitted (R1); each has two satellites (R2). -/
def Variant.hvLegs : Variant → Nat
  | .ax72 => 24 | .ax48 => 16 | .ax24 => 8

/-- LV legs fitted (R1). -/
def Variant.lvLegs : Variant → Nat
  | .ax72 => 12 | .ax48 => 8 | .ax24 => 4

/-- What a started host command waits for (its completion point). -/
inductive WaitOn where
  | groupStop (g : Nat) | satClear (l : Nat)
  /-- The running mode change. -/
  | modeChange
  /-- An ARM check, a DISARM, a SWAP of an engine. -/
  | engineArm (e : Nat) | engineOff (e : Nat) | engineSwap (e : Nat)
  /-- A RUN of an actuator slot, a START of a converter slot. -/
  | actRun (m : Nat) | cnvStart (m : Nat)
  /-- An actuator slot leaves STOPPING, after a STOP. -/
  | actIdle (m : Nat)
  /-- The return of the load of a feed drill, the commit point of a power-state entry, the divider changes of a register write, the
  self-test of the satellites. -/
  | feedDrill | power | divider | selfTest
  /-- The end of an attempt of the CAN_SEND that an ABORT names (R414). -/
  | canAbort (c : CmdRef)
  deriving DecidableEq, Repr, Inhabited

/-- The result of a host command whose completion waits to be posted (R409): status, RESULT and the module time of its completion
point. -/
structure CmdResult where
  ref : CmdRef := {}
  status : Status := .OK
  result : Option Nat := none
  at_ : Nat := 0
  deriving DecidableEq, Repr, Inhabited

/-- What the block sends to its surroundings. -/
inductive Out where
  /-- The answer of a read, and a bus error (R35). -/
  | data (r : Requester) (addr value : Nat)
  | busError (r : Requester) (addr : Nat)
  /-- An edge-link frame down or up a link (R108). -/
  | down (l : Nat) (f : BitVec 40)
  | up (l : Nat) (f : BitVec 40)
  /-- The CFG_WR and CFG_RD frames of a configuration write, with the register value they carry (R114, R134). -/
  | cfgWr (l value : Nat)
  /-- An event of the event bus with its module time (R81). -/
  | event (n t : Nat)
  /-- An interrupt notice to a pair (R42): block, index, cause within the block. -/
  | irq (pair : Nat) (blk : Blk) (idx cause : Nat)
  /-- A write to host memory, and an MSI-X message (R402, R409, R410). -/
  | hostWrite (addr : Nat) (data : List Byte)
  | msix (vector : Nat)
  /-- A pair takes an interrupt before retiring instruction `count` (R349); both copies use the value of an exchange (R350). -/
  | taken (pair id count : Nat)
  | value (pair v : Nat)
  /-- The value of the main copy's counter, delivered to both copies (R346). -/
  | counter (pair : Nat) (c : Counter) (v : Nat)
  /-- The outputs of encoder emulator `m`: the A/B levels as the count modulo 4, and Z (R180). -/
  | emu (m ab : Nat) (z : Bool)
  /-- The level that FBn_CLK rests at; an SSI clock burst: half a period in ticks and the rising edges (R164, R172). -/
  | fbClk (n : Nat) (level : Bool)
  | ssiClock (n half edges : Nat)
  /-- A code of the DAC of excitation output EXCc (R174). -/
  | exc (c code : Nat)
  /-- A fragment out of a fabric port (R436); a fabric frame of TYPE 2 to 6 with what it carries (R440, R446, R452, R453); K30.7, which
  closes a copy under way (R433); a wake burst (R459). -/
  | fragment (port : Nat) (bytes : List Byte)
  | control (port ty : Nat) (vals : List Int)
  | closeBad (port : Nat)
  | wakeBurst (port : Nat)
  /-- A PMBus command to address `addr`, with a PEC byte or without: its code and the data written (R370); the VID pins (R371). -/
  | pmbus (addr : Nat) (pec : Bool) (code data : Nat)
  | vid (level : Nat)
  /-- What Capture-DR of AUTH returns: the challenge and the identity of GS00 (R502). -/
  | auth (challenge identity : Nat)
  /-- What an instruction or data register other than AUTH shifts out after its capture: its width and bits (R500, R504). -/
  | scan (bits value : Nat)
  /-- A CAN frame offered for arbitration (R476). -/
  | canFrame (n : Nat) (f : CanFrame)
  deriving DecidableEq, Repr, Inhabited

/-- A duty set (R82): a period and, per leg of the group, its compare and phase. -/
structure DutySet where
  period : Nat := 0
  legs : List (Nat × Nat × Nat) := []
  deriving DecidableEq, Repr, Inhabited

/-- One transition of a leg's reference in the present period, in taps from the period start (R79). `resume` marks the turn-on
that R100 gives a channel whose reference already calls for conduction when cut legs run again. -/
structure RefEdge where
  pos : Nat := 0
  level : Bool := false
  resume : Bool := false
  deriving DecidableEq, Repr, Inhabited

/-- What a bridge group holds beside its registers. -/
structure Grp where
  /-- The last complete set (R82). -/
  complete : Option DutySet := none
  /-- It has not been reloaded yet (R84). -/
  fresh : Bool := false
  /-- The period of a set loaded at a mid-period reload, which begins at the next period start (R83); 0: none. -/
  pendPeriod : Nat := 0
  /-- A STOP waits for its reload instant (R74). -/
  stopPending : Bool := false
  /-- Started, and the first period has not been reloaded yet (R73). -/
  first : Bool := false
  /-- Module time of the start of the period last reloaded; before the first reload, of the first period's start. -/
  start : Nat := 0
  /-- That start lies ahead, so that the period before it still runs (R74, R81). -/
  due : Bool := false
  /-- The reload instant of a STOP has passed: the group is STOPPED from `start` on (R74). -/
  ending : Bool := false
  /-- Start and length of the period before (R81). -/
  oldStart : Nat := 0
  oldPeriod : Nat := 0
  /-- Triggers that have fired in the present period (R81). -/
  fired : Nat := 0
  /-- The master's period start that a follower's last start hangs on (R77). -/
  base : Nat := 0
  /-- Module time of the update point of the last reload (R83, R84). -/
  updAt : Nat := 0
  /-- Legs cut in the present period (R98). -/
  cut : Nat := 0
  /-- A leg of the group was not floated in the present period; of the period before, whether it tripped and whether a leg was not
  floated (R273). -/
  ran : Bool := false
  prevTrip : Bool := false
  prevRan : Bool := false
  deriving DecidableEq, Repr, Inhabited

/-- The last transition of a leg before its present plan: the instant, in taps of module time, of the turn-on after its dead time;
whether that channel was on already, because its off-interval was filled; whether the on-interval it begins was dropped; and whether
the off-interval it begins was filled (R85, R86). -/
structure LastEdge where
  level : Bool := false
  onAt : Nat := 0
  held : Bool := false
  dropped : Bool := false
  filled : Bool := false
  deriving DecidableEq, Repr, Inhabited

/-- What a leg holds in island 32 beside its registers. -/
structure Leg where
  /-- Compare and phase of the active set, before the clamps of R78. -/
  c : Nat := 0
  phi : Nat := 0
  /-- Reference transitions of the present period. -/
  plan : List RefEdge := []
  /-- Reference level at the start and at the end of the present period. -/
  entry : Bool := false
  level : Bool := false
  /-- The last transition before the present plan. -/
  last : Option LastEdge := none
  /-- Where the fall of a wrapped phase-shift interval lies in the next period (R79). -/
  wrap : Option Nat := none
  /-- Marked failed in step 7 (R60). -/
  failed : Bool := false
  /-- Valid transition reports since the last reload instant of a period start (R90). -/
  rptLH : Option Nat := none
  rptHL : Option Nat := none
  /-- Consecutive periods without a valid report (R91). -/
  noLH : Nat := 0
  noHL : Nat := 0
  /-- A cross-link refusal waits for the RESUME of the next period's reload (R94, R127). -/
  reissue : Bool := false
  /-- The leg's float mask as committed, and as applied at the last reload (R267). -/
  floatReq : Bool := false
  floated : Bool := false
  deriving DecidableEq, Repr, Inhabited

/-- The states of a satellite or LV leg driver (R124). -/
inductive SatState where
  | reset | orphan | safeOff | safeOn | armed | run
  deriving DecidableEq, Repr, Inhabited

/-- A channel's output stage (R117): pull-down, off, on, soft-off in its first 2 µs, soft-off after it. -/
inductive Gate where
  | pulled | off | on | soft | softOff
  deriving DecidableEq, Repr, Inhabited

/-- A scheduled edge: module time in taps, the channel (true: high side of an LV leg; satellites use false), on or off. -/
structure PendEdge where
  taps : Nat := 0
  hs : Bool := false
  on : Bool := false
  deriving DecidableEq, Repr, Inhabited

/-- One channel of a satellite (the only one) or of an LV leg driver (two). -/
structure Chan where
  gate : Gate := .pulled
  latch : Bool := false
  /-- Cause of the latch (R119). -/
  cause : Nat := 0
  /-- SAFE_ON or orphan ON waits for the partner to be off (R127). -/
  wantOn : Bool := false
  /-- Blanking of the present on-interval has ended (R120). -/
  blanked : Bool := false
  /-- The present on-interval has given its baseline sample (R120). -/
  sampled : Bool := false
  /-- A turn-off whose transition is being measured (R128). -/
  measuring : Bool := false
  deriving DecidableEq, Repr, Inhabited

/-- A gate satellite or one leg of an LV leg driver: what stands on the far side of an edge link (R112-R132). -/
structure Rx where
  state : SatState := .reset
  held : Option Permit := none
  ch : Chan := {}
  /-- The high-side channel of an LV leg. -/
  hs : Chan := {}
  armedUv : Bool := false
  uv : Bool := false
  vneg : Bool := false
  drvUv : Bool := false
  downSilent : Bool := false
  slips : Nat := 0
  /-- Three slips in a row have not been reported in ALIVE yet (R112). -/
  slip : Bool := false
  /-- TIME frames still needed without a slip before the down link counts as valid (R112). -/
  needGood : Nat := 0
  /-- Offset of the satellite's copy of module time, in taps (R112). -/
  ofs : Int := 0
  /-- Calibrated down-link delay, in taps (R114). -/
  dly : Nat := 0
  /-- Reference of the edge sequence (R113). -/
  seq : Nat := 0
  /-- A discarded frame: the next frame reveals a gap (R113). -/
  gapNext : Bool := false
  /-- Held off until the next on-edge in sequence (R113). -/
  holdSeq : Bool := false
  /-- Held off by a cross-link refusal until RESUME (R127). -/
  xhold : Bool := false
  partnerOn : Bool := false
  xSilent : Bool := false
  /-- A refusal sends a hold to the partner, which has not received it yet (R127). -/
  holdOut : Bool := false
  pend : List PendEdge := []
  /-- Scheduled time of the last on-edge the satellite obeyed; its partner compares an on-edge of the same tap (R127). -/
  lastOn : Option Nat := none
  /-- Orphan policy: 0 OFF, 1 ON (LV: HS ON), 2 LS ON (R125, R126). -/
  orphan : Nat := 0
  /-- DSAT baseline in mV and the samples taken, at most 16 (R120). -/
  baseMv : Nat := 0
  samples : Nat := 0
  /-- Dead times of an LV leg driver, in taps (R132). -/
  dtLH : Nat := 0
  dtHL : Nat := 0
  /-- Configuration words by CFG address. -/
  cfg : Tbl Nat := []
  /-- The up link: ticks left of the frame being sent, and the frames that are ready behind it, in the order they leave (R110). -/
  upBusy : Nat := 0
  upq : List (BitVec 40) := []
  deriving DecidableEq, Repr, Inhabited

/-- The island 32 side of an edge link. -/
structure Lk where
  /-- Fault summary, the level at the trip filter input (R96). -/
  summary : Bool := false
  /-- LINK_LOST holds (R111). -/
  lost : Bool := false
  /-- Valid up frames in a row since the silence, at most 4. -/
  goodUp : Nat := 0
  /-- A CLEAR waits for its ALIVE answer (R121). -/
  clearWait : Bool := false
  /-- The next ALIVE is the first after a cold start's enumeration (R538). -/
  restore : Bool := false
  /-- Next edge sequence number (R113). -/
  seq : Nat := 0
  /-- Calibration: round trips summed, their count (R114). -/
  rtSum : Nat := 0
  rtCnt : Nat := 0
  /-- Identity halves as received (R110), and the identity stored in the start record (R114). -/
  ident : Nat := 0
  stored : Option Nat := none
  /-- Last CFG_DATA received: address and data. -/
  cfgData : Option (Nat × Nat) := none
  deriving DecidableEq, Repr, Inhabited

/-- One sequence entry as the snapshot of R141 holds it. -/
structure EntryCfg where
  input : Nat := 0
  gain : Nat := 0
  scale : Nat := 0
  zero : Nat := 0
  den : Bool := false
  engine : Nat := 0
  addr : Nat := 0
  deriving DecidableEq, Repr, Inhabited

/-- What a converter holds beside its registers. -/
structure Adc where
  /-- Snapshot of the running sequence (R141). -/
  seq : List EntryCfg := []
  /-- Aborts of the running entry, and whether its result will be a retaken one (R146). -/
  aborts : Nat := 0
  retaken : Bool := false
  /-- A start waits for the urgent conversions to end (R144). -/
  wait : Bool := false
  /-- EN has been cleared during the running conversion, after which nothing of the old sequence follows (R145). -/
  cut : Bool := false
  deriving DecidableEq, Repr, Inhabited

/-- What a modulator channel holds beside its registers. -/
structure Modu where
  /-- Outputs still to come before the filter is flushed (R154). -/
  settle : Nat := 0
  /-- Outputs still to come before STUCK clears, once the pin has moved (R155); 0: it has not. -/
  unstick : Nat := 0
  /-- The last level sampled; the three integrators, which run without reset, and the three differences of the last output (R151). -/
  level : Bool := false
  i1 : Nat := 0
  i2 : Nat := 0
  i3 : Nat := 0
  d0 : Nat := 0
  d1 : Nat := 0
  d2 : Nat := 0
  deriving DecidableEq, Repr, Inhabited

/-- A mirror record as a requester's read latch holds it (R158). -/
structure MirLatch where
  base : Nat := 0
  word : Nat := 0
  tlo : Nat := 0
  thi : Nat := 0
  flags : Nat := 0
  raw : Nat := 0
  deriving DecidableEq, Repr, Inhabited

/-- What a feedback interface holds beside its registers. -/
structure Feedback where
  /-- Filtered levels of A and B, and the filtered Hall state, whatever the mode and EN (R170, R171). -/
  a : Bool := false
  b : Bool := false
  hall : Nat := 0
  /-- The tick of the last ARM write (R168). -/
  armAt : Nat := 0
  /-- Changes of CNT in the last ticks, newest first: the tick and the value before (R168, R178). -/
  hist : List (Nat × Nat) := []
  /-- The last tick with a step, and the sum of its steps (R168). -/
  stepAt : Nat := 0
  stepSum : Int := 0
  /-- Steps of the present run, newest first: time and signed counts (R176); at most 65 are kept. -/
  run : List (Nat × Int) := []
  /-- Sample time of the position in modes 2 and 3 (R179). -/
  posTime : Nat := 0
  /-- The next valid Hall state is a new reference (R171). -/
  hallLost : Bool := true
  /-- SSI: a frame runs, its sample time, the end of the monoflop time, the last good position, errors in a row (R172, R173). -/
  ssiBusy : Bool := false
  ssiTime : Nat := 0
  ssiFree : Nat := 0
  ssiPrev : Option Nat := none
  ssiBad : Nat := 0
  /-- Resolver: the request whose conversions are awaited, angle and speed of the loop, runs of updates (R174). -/
  req : Option Nat := none
  theta : Nat := 0
  omega : Int := 0
  wide : Nat := 0
  narrow : Nat := 0
  good : Nat := 0
  deriving DecidableEq, Repr, Inhabited

/-- An interface's registers as a requester's read latch holds them (R179). -/
structure FbLatch where
  n : Nat := 0
  acc : Nat := 0
  time : Nat := 0
  spd : Nat := 0
  stat : Nat := 0
  deriving DecidableEq, Repr, Inhabited

/-- What an encoder emulator holds: its count, and whether its source was valid at its last edge (R180). -/
structure Emu where
  count : Nat := 0
  valid : Bool := false
  /-- The tick of the last edge (R180). -/
  last : Option Nat := none
  deriving DecidableEq, Repr, Inhabited

/-- A duty set on its way from an engine to island 32 (R209). -/
structure Flight where
  group : Nat := 0
  duties : List Int := []
  phases : Option (List Int) := none
  period : Option Nat := none
  deriving DecidableEq, Repr, Inhabited

/-- What a loop engine holds beside its registers and memories (R189, R194, R198, R200, R202). -/
structure Eng where
  /-- M0-M15, A0-A3 and P0-P7. -/
  m : Tbl (BitVec 36) := []
  a : Tbl (BitVec 80) := []
  p : Tbl (BitVec 12) := []
  se : Int := 0
  /-- Condition flags of the run. -/
  lt : Bool := false
  eq : Bool := false
  sv : Bool := false
  so : Bool := false
  lim : Bool := false
  /-- The run has saturated. -/
  sat : Bool := false
  nx : Nat := 0
  /-- Next instruction, and the running LOOP bodies, innermost first: first word, word after the last, rounds left. -/
  pc : Nat := 0
  loops : List (Nat × Nat × Nat) := []
  /-- Charged cycles of the run, and the declared count of its entry. -/
  cycles : Nat := 0
  budget : Nat := 0
  /-- Module time at which the trigger event fired. -/
  trig : Nat := 0
  /-- A DISARM waits for the completion point (R193). -/
  disarm : Bool := false
  /-- The table descriptors in effect since the last sample boundary (R208). -/
  tbl : Tbl Nat := []
  /-- Commits issued and not arrived, oldest first. -/
  flight : List Flight := []
  deriving DecidableEq, Repr, Inhabited

/-- What a library program keeps from run to run (R235, R237, R277), quantities scaled by 2^64: runs in a row with an unusable input, the
torque reference, the ramped speed request, the runs since the speed loop ran, its output and the integrators, the voltage of the last
run, and the conditions of its EVT codes. -/
structure Lib where
  badDc : Nat := 0
  badCur : Nat := 0
  badPos : Nat := 0
  badIn : Nat := 0
  ref : Int := 0
  spRamp : Int := 0
  runs : Nat := 0
  speedOut : Int := 0
  integW : Int := 0
  integD : Int := 0
  integQ : Int := 0
  idW : Int := 0
  vmag : Int := 0
  integ : Int := 0
  conds : Nat := 0
  deriving DecidableEq, Repr, Inhabited

/-- What a traction slot holds beside its registers: the commit times of its two setpoints, and the runs in a row whose torque
output was 0 (R232, R233). -/
structure TrcSlot where
  tspAt : Nat := 0
  sspAt : Nat := 0
  zeros : Nat := 0
  deriving DecidableEq, Repr, Inhabited

/-- What a DC link holds beside its registers: the chopper duty committed last, in 1/256, and the turn-on code V0 (R224, R226). -/
structure TrcLink where
  duty : Nat := 0
  v0 : Nat := 0
  deriving DecidableEq, Repr, Inhabited

/-- A requester's view of 36-bit words: the staged low half with its word's address, and the latched high half (R40, R41); and its latch
of module time [63:32] (R31). -/
structure WordView where
  staged : Option (Nat × Nat) := none
  high : Option (Nat × Nat) := none
  mtime : Option Nat := none
  deriving DecidableEq, Repr, Inhabited

/-- What an actuator slot holds beside its registers (R244-R261). Times are module times in ticks. -/
structure Act where
  /-- Event FIFO, oldest first: code, argument, time (R261). -/
  fifo : List (Nat × Nat × Nat) := []
  /-- A RUN has not reached its completion point (R253), and the attempts begun since the counter was 0. -/
  starting : Bool := false
  tries : Nat := 0
  /-- Unusable samples in a row (R245). -/
  bad : Nat := 0
  /-- The interval τ, the last valid crossing, the intervals of the last crossings, newest first, at most six (R248, R250). -/
  tau : Nat := 0
  zc : Nat := 0
  ivals : List Nat := []
  /-- The last sample of the present step: its time and e; the commutation instant of the step (R248). -/
  last : Option (Nat × Int) := none
  comAt : Nat := 0
  /-- The next commutation (R249). -/
  nextCom : Option Nat := none
  /-- The ramp of forced steps: its begin, and of the present step its begin, its interval and whether it has shown its crossing;
  valid crossings and opposite crossings in a row (R252). -/
  rampAt : Nat := 0
  stepAt : Nat := 0
  stepLen : Nat := 0
  seen : Bool := false
  locks : Nat := 0
  revs : Nat := 0
  /-- Speed loop: the duty committed last in 1/256, the ramped target in 1/1,000 rev/min, the integrator in 2^-20 of 1/256 (R254). -/
  duty : Nat := 0
  target : Nat := 0
  integ : Int := 0
  /-- Times of the losses of the last 10 s (R259). -/
  losses : List Nat := []
  /-- LISTEN: the last sample's time and its three line differences c − a, b − c, a − b; the crossings so far, newest first, as
  difference and time; the peak of the differences since the last crossing and in the interval before it (R257). -/
  lines : Option (Nat × Int × Int × Int) := none
  cross : List (Nat × Nat) := []
  peak : Nat := 0
  /-- LISTEN and COAST: the time since which every line difference has stayed within BEMF_LOW (R258). -/
  lowAt : Option Nat := none
  /-- The tick of the last commit of a driven step (R254). -/
  driveAt : Option Nat := none
  deriving DecidableEq, Repr, Inhabited


/-- What a converter slot holds beside its registers (R266-R282). -/
structure Cnv where
  /-- A START has not reached its completion point (R270). -/
  starting : Bool := false
  /-- Unusable results in a row (R268). -/
  bad : Nat := 0
  /-- Reference and target in 1/65,536 code (R271). -/
  ref : Nat := 0
  target : Nat := 0
  /-- The reference of this soft start has come within 1 code of the output (R271). -/
  led : Bool := false
  /-- The total output current of the last run; LIMITED of the last run, and of the last run before the present period (R273). -/
  iout : BitVec 36 := 0
  lim : Bool := false
  limStart : Bool := false
  /-- The flags slot as written last (R276). -/
  flags : Nat := 0
  /-- The completion point of the mode in which AUTO starts the slot, while that start is due (R269). -/
  auto : Option Nat := none
  deriving DecidableEq, Repr, Inhabited


/-- What a completion ring (0-31), the telemetry ring (32) or the event ring (33) holds beside its registers. -/
structure HRing where
  /-- The next record the host will read (R403). -/
  head : Nat := 0
  /-- Phase of the next record of the telemetry or event ring (R410). -/
  phase : Bool := true
  /-- Module time of the last announcement, and whether one waits for the end of the gap (R410). -/
  lastIrq : Option Nat := none
  irqPend : Bool := false
  /-- Records that wait in the device, oldest first. -/
  held : List (List Byte) := []
  /-- Telemetry records were dropped since the last one written (R417). -/
  loss : Bool := false
  deriving DecidableEq, Repr, Inhabited

/-- A reference that moves linearly toward its goal: `num` / `den` per tick from `src` at time `at_` (R296, R297, R301, R305). -/
structure Ramp where
  src : Nat := 0
  goal : Nat := 0
  at_ : Nat := 0
  num : Nat := 0
  den : Nat := 1
  deriving DecidableEq, Repr, Inhabited

/-- What follows a hand-over (R301, R302). -/
inductive After where
  /-- PAUSED; WAIT with the session open; WAIT without a session after an unplug. -/
  | paused | wait | unplugged
  /-- IDLE, with the SET_MODE refused. -/
  | refused
  /-- STANDBY, the session ending with an END_CAUSE of R309. -/
  | standby (cause : Nat)
  deriving DecidableEq, Repr, Inhabited

/-- What the charging block holds beside its registers (R287-R306). -/
structure Chg where
  /-- Pilot: times of the last rise and fall, length of the last high plateau, of the last low plateau and of the last period, in
  ticks; the plateau whose conversion was requested last is the low one; the last low plateau's level was right (R289, R290). -/
  rise : Option Nat := none
  fall : Option Nat := none
  high : Nat := 0
  low : Nat := 0
  period : Nat := 0
  wantLow : Bool := false
  lowOk : Bool := true
  /-- The middle of the present high plateau and of the present low one, while its conversion is still to be requested (R289). -/
  highAt : Option Nat := none
  lowAt : Option Nat := none
  /-- The state of the last cycle and the cycles in a row that agree on it (R290). -/
  cand : Nat := 6
  agree : Nat := 0
  /-- The band of the last valid proximity result (R292); the plug was out since the mains loss (R302). -/
  band : Option Nat := none
  plugOut : Bool := false
  /-- Phases of the session; the bus ramp of QUALIFY runs; it resumes an open session (R294, R296, R302, R303). -/
  phases : Nat := 0
  /-- Which phases these are, bit 0 for phase a (R294). -/
  lines : Nat := 0
  ramping : Bool := false
  resume : Bool := false
  /-- References: bus in 0.1 V, battery current in 1/2,560 A, accessory output in 0.1 V; the export current limit in 0.1 A, during
  the ramp that ends an export (R304). -/
  bus : Ramp := {}
  bat : Ramp := {}
  acc : Ramp := {}
  exp : Ramp := {}
  /-- Safety timer in 0.25 s, and the rate of the last pulse (R300). -/
  elapsed : Nat := 0
  rate : Nat := 0
  after : After := .paused
  /-- The state that the running hand-over left, and its instant (R301). -/
  hoFrom : Nat := 0
  hoAt : Nat := 0
  /-- The ramp edge whose window runs: true for the ramp up; its time; a reduction reason changed since (R298). -/
  edge : Option (Bool × Nat) := none
  redMoved : Bool := false
  /-- Limit code of the DAB program's last run (R299). -/
  limits : Nat := 0
  /-- Boost: LIMITED of the last run and of the last one before the present period; current-limited periods in a row (R305). -/
  lim : Bool := false
  limStart : Bool := false
  limRun : Nat := 0
  deriving DecidableEq, Repr, Inhabited


/-- A demand of a source that is an event, active until the release that clears it (R312). -/
structure EvtDemand where
  cause : Nat := 0
  groups : Nat := 0
  dev : Bool := false
  func : Nat := 0
  deriving DecidableEq, Repr, Inhabited

/-- What the Saggar holds of a group beside its registers: the FAULT reports since the last release, as channel and
condition-valid time, and the channels of reports that belong to a pair (R122). Channels: 0-47 the satellites, 48 + 2k and
49 + 2k the low and high side of LV leg Vk; odd channels are high sides. -/
structure SagGrp where
  reports : List (Nat × Nat) := []
  paired : List Nat := []
  /-- Module time of the last speed word (R229). -/
  wordAt : Nat := 0
  deriving DecidableEq, Repr, Inhabited

/-- A safety input (R313): its discrepancy hold stands. A safe output (R323-R325): what holds it off. -/
structure Sout where
  /-- Held off by the device latch. -/
  dev : Bool := false
  /-- Held off by a function until none of these groups is latched; `fdev`: until the device latch is released. -/
  groups : Nat := 0
  fdev : Bool := false
  /-- Switched off by an overload; waits for the next off-to-on request. -/
  ovl : Bool := false
  /-- The next test opens switch B. -/
  testB : Bool := false
  deriving DecidableEq, Repr, Inhabited

/-- A function demand whose outputs have not switched off yet (R322): bit 2 SPK, 3 SCO, 4 SCS. -/
structure FuncDemand where
  bit : Nat := 0
  groups : Nat := 0
  dev : Bool := false
  /-- Module time of the demand. -/
  at_ : Nat := 0
  deriving DecidableEq, Repr, Inhabited

/-- What a Fjop connection holds beside its registers and its buffer (R332-R334). -/
structure Fjop where
  /-- Module times of the discarded frames of the last second. -/
  errs : List Nat := []
  /-- FJOP_FAIL stands. -/
  fail : Bool := false
  /-- Sequence number of the next frame sent. -/
  txSeq : Nat := 0
  /-- A frame formed and not handed over yet. -/
  tx : Option (List Byte) := none
  deriving DecidableEq, Repr, Inhabited

/-- An input of the Saggar that demanded as a cold start began (R59): its demand, the groups it latched, and the safety inputs it
stands on; none of them: an OV3 comparator. -/
structure Standing where
  cause : Nat := 0
  groups : Nat := 0
  dev : Bool := false
  func : Nat := 0
  ins : Nat := 0
  deriving DecidableEq, Repr, Inhabited

/-- The Saggar and the supervision of the safety core (R310-R334). -/
structure Saggar where
  evts : List EvtDemand := []
  funcs : List FuncDemand := []
  /-- Pairs of inputs whose discrepancy hold stands (R313), one bit per pair. -/
  disc : Nat := 0
  /-- An open release sequence: groups, DEV, module time of the first key (R328). -/
  rel : Option (Nat × Bool × Nat) := none
  /-- The heartbeat monitor is armed; module time and value of the last write (R326). -/
  hbArmed : Bool := false
  hbLast : Option (Nat × Nat) := none
  /-- The output under test and its switch (true: B), and the outputs whose pulse waits (R324). -/
  pulse : Option (Nat × Bool) := none
  pulses : List Nat := []
  /-- A function stops the charge (R322). -/
  scs : Bool := false
  /-- The Saggar has asked for a warm start (R312). -/
  warm : Bool := false
  /-- Island 41 has stopped every permit carrier until the next cold start (R311). -/
  dead : Bool := false
  /-- Inputs whose demands outlast the clearing of the latches in a cold start while they stand (R59). -/
  stand : List Standing := []
  deriving DecidableEq, Repr, Inhabited

/-- What a notice asks of a pair (R349, R354): an interrupt by its identity, or a debug halt. -/
inductive Notice where
  | irq (id : Nat) | halt
  deriving DecidableEq, Repr, Inhabited

/-- What the comparator of a pair holds beside its registers (R343-R354). -/
structure Pair where
  /-- Items of the main copy and of the checker that wait for their partners, oldest first (R345); signatures that wait (R347). -/
  main : List CopyItem := []
  chk : List CopyItem := []
  sigM : List Nat := []
  sigC : List Nat := []
  /-- A pair fault has halted both copies (R351). -/
  dead : Bool := false
  /-- The open exchange: what for, the reports of main copy and checker; the notices behind it (R349). -/
  exch : Option (Notice × Nat × Nat) := none
  queue : List Notice := []
  /-- A value exchange runs: what is read, and the re-samples so far (R350). -/
  value : Option (AsyncSrc × Nat) := none
  /-- The replay queue: debug actions that the checker has not applied yet, with the halt count (R354). -/
  replay : List (DebugAct × Nat) := []
  haltAt : Nat := 0
  /-- A resume waits for the queue to empty. -/
  resumeWait : Bool := false
  /-- mcycle of the main copy and of the checker, minstret of each, 64 bits (R346). -/
  mcycleM : Nat := 0
  mcycleC : Nat := 0
  instretM : Nat := 0
  instretC : Nat := 0
  deriving DecidableEq, Repr, Inhabited


/-- How far a host command has come (R407, R408): fetched and its record not committed; accepted; started; handed on and waiting for
its completion point; its result recorded. -/
inductive Stage where
  | fetched | accepted | started | running | done
  deriving DecidableEq, Repr, Inhabited

/-- A host command that its ring holds (R405). -/
structure HCmd where
  seq : Nat := 0
  op : Nat := 0
  flags : Nat := 0
  /-- NOT_BEFORE and NOT_AFTER as module times (R406). -/
  nb : Int := 0
  na : Int := 0
  args : List Byte := []
  stage : Stage := .fetched
  /-- The check that failed (R407), or EXPIRED before the record was committed. -/
  fail : Status := .OK
  /-- Index of its firing-log record and module time of its acceptance (R421). -/
  index : Nat := 0
  accept : Nat := 0
  /-- Its ring was reset: the closure goes to the log only (R415). -/
  quiet : Bool := false
  deriving DecidableEq, Repr, Inhabited

/-- What a ring pair holds beside its registers (R403, R407, R413). -/
structure HQueue where
  /-- Last value of the SQ_TAIL doorbell. -/
  tail : Nat := 0
  /-- Commands without a completion record, in SEQ order. -/
  cmds : List HCmd := []
  /-- The last 256 accepted commands, newest first: SEQ and opcode. -/
  recent : List (Nat × Nat) := []
  /-- The first command not committed was taken under SEQ_ANY. -/
  any : Bool := false
  deriving DecidableEq, Repr, Inhabited

/-- A stream's record that further commands may be written into (R422): ring, opcode, ARGS byte 0, index, acceptance. -/
structure Stream where
  ring : Nat := 0
  op : Nat := 0
  arg : Nat := 0
  index : Nat := 0
  at_ : Nat := 0
  deriving DecidableEq, Repr, Inhabited

/-- What the firing log holds beside its registers and its records (R420-R423): the era kept in the store, the open records, the
open streams. -/
structure Jnl where
  era : Nat := 0
  open_ : List Nat := []
  streams : List Stream := []
  deriving DecidableEq, Repr, Inhabited

/-- A telemetry item (R418): the sample time of its last record, and whether its stale record has been written. -/
structure Tlm where
  last : Option Nat := none
  stale : Bool := false
  deriving DecidableEq, Repr, Inhabited


/-- The header of a fragment (R436). -/
structure FabHdr where
  cls : Nat := 0
  ty : Nat := 0
  first : Bool := false
  last : Bool := false
  west : Bool := false
  bc : Bool := false
  hops : Nat := 0
  dst : Nat := 0
  rcnt : Nat := 0
  rt : Bool := false
  src : Nat := 0
  inj : Nat := 0
  seq : Nat := 0
  len : Nat := 0
  frag : Nat := 0
  tx : Nat := 0
  deriving DecidableEq, Repr, Inhabited

/-- A frame that R444 has delivered and that waits to be taken: its port of arrival, the header of its last fragment, its payload,
the module time of its arrival. -/
structure FabFrame where
  port : Nat := 0
  hdr : FabHdr := {}
  data : List Byte := []
  at_ : Nat := 0
  deriving DecidableEq, Repr, Inhabited

/-- A frame being assembled: payload so far and the fragments received (R447: one frame per class and port). -/
structure FabAsm where
  data : List Byte := []
  frags : Nat := 0
  deriving DecidableEq, Repr, Inhabited

/-- A duplicate window (R446): the highest accepted sequence H; bit k of `open_` says that H - k has not been accepted. -/
structure FabWin where
  h : Nat := 0xFFFF
  open_ : Nat := 0
  deriving DecidableEq, Repr, Inhabited

/-- What waits in a transmit queue: a descriptor by its index, or a FAB_SEND with its destination and data (R455, R456). -/
inductive FabItem where
  | desc (i : Nat)
  | host (c : CmdRef) (dst : Nat) (data : List Byte)
  deriving DecidableEq, Repr, Inhabited

/-- A transmit queue of class 1-3: what waits, oldest first; what is being sent, and on which pair; and of the receive queue the
index released last and the entries software owns. -/
structure FabQ where
  items : List FabItem := []
  now : Option (FabItem × Nat) := none
  owned : Nat := 0
  deriving DecidableEq, Repr, Inhabited

/-- What a ring pair holds beside its registers. -/
structure FabPair where
  /-- The station number taken, final or not; the address was withdrawn (R440, R441). -/
  stn : Option Nat := none
  withdrawn : Bool := false
  /-- The anchor's eastward token has left, or its time is over; the walk came back (R440). -/
  sent : Bool := false
  closed : Bool := false
  /-- The westward token has left; an ANNOUNCE has come since the last ROSTER (R440). -/
  west : Bool := false
  news : Bool := false
  /-- Stations that have announced since the walk began. -/
  found : List Nat := []
  /-- Port states as stations report them: address, E up, W up (R452). -/
  ports : List (Nat × Bool × Bool) := []
  /-- Next sequence number of the own sender (R446). -/
  seq : Nat := 0
  /-- Last admission of an own class 0 frame, and the frames held: header and payload (R448). -/
  admitted : Option Nat := none
  held : List (FabHdr × List Byte) := []
  /-- Offsets of the last TIME frames, newest first, at most 16; the hops of the last TIME frame of the E and the W port; the offset
  and time from which the present second of TRATE runs (R453). -/
  ofs : List Int := []
  hopsE : Option Nat := none
  hopsW : Option Nat := none
  rate : Option (Nat × Int) := none
  deriving DecidableEq, Repr, Inhabited

/-- What island 36 holds beside its registers. -/
structure Fabric where
  /-- The bypass switches are open, so that fragments reach the device (R451). -/
  live : Bool := false
  p : FabPair := {}
  q : FabPair := {}
  /-- Neighbours known to hold fixed addresses, by port (R452). -/
  nbFixed : Nat := 0
  asm : Tbl FabAsm := []
  win : Tbl FabWin := []
  queues : Tbl FabQ := []
  rx : List FabFrame := []
  deriving DecidableEq, Repr, Inhabited


/-- A transmit entry of a controller, or a safety buffer (R474-R479): the frame as copied, its submission number, ONESHOT, the abort that
waits for the end of an attempt, and the host command it serves. -/
structure CanTx where
  frame : CanFrame := {}
  sub : Nat := 0
  oneshot : Bool := false
  abort : Bool := false
  host : Option CmdRef := none
  deriving DecidableEq, Repr, Inhabited

/-- The filter lists in force (R471). -/
structure CanLists where
  stdBase : Nat := 0
  extBase : Nat := 0
  stdCnt : Nat := 0
  extCnt : Nat := 0
  deriving DecidableEq, Repr, Inhabited

/-- What is on the bus from this controller: an entry, or the safety buffer of a connection. -/
inductive CanSender where
  | entry (e : Nat) | safety (c : Nat)
  deriving DecidableEq, Repr, Inhabited

/-- What a CAN controller holds beside its registers. -/
structure Can where
  tx : Tbl CanTx := []
  /-- Safety buffers by connection: the frame that waits. -/
  safety : Tbl CanTx := []
  /-- The frame of a safety buffer under transmission. -/
  safetyNow : CanTx := {}
  sub : Nat := 0
  now : Option CanSender := none
  /-- A CONFIG write waits for the frame in progress (R469). -/
  leaving : Bool := false
  /-- The bus became free while the controllers held their work (R377). -/
  freeHeld : Bool := false
  /-- Error counters beyond what the register fields hold. -/
  tec : Nat := 0
  rec_ : Nat := 0
  lists : CanLists := {}
  /-- Frames that wait for their walk, the first under walk on the lists it holds (R472). -/
  walk : List (CanFrame × CanLists) := []
  /-- Per receive queue: frames since EN, and entries software owns (R473). -/
  count : Tbl Nat := []
  owned : Tbl Nat := []
  deriving DecidableEq, Repr, Inhabited


/-- What island 41 knows of a feed (R360-R364). -/
structure Feed where
  /-- Measurements in a row that lie in range, and out of range; measurements since it is in range, at most 10,000. -/
  inRow : Nat := 0
  outRow : Nat := 0
  since : Nat := 0
  /-- 0 UNPROVEN, 1 PROVEN, 2 UNABLE; module time of the proof. -/
  proof : Nat := 0
  proofAt : Nat := 0
  /-- Above 60.0 V it was taken off its chain, until it is in range again (R360). -/
  cut : Bool := false
  deriving DecidableEq, Repr, Inhabited

/-- A clock divider that waits for its raise (R372): an engine cluster's or a pair's, its number, the new divider. -/
structure Raise where
  clu : Bool := false
  unit : Nat := 0
  div : Nat := 0
  deriving DecidableEq, Repr, Inhabited

/-- The power controller, the feeds and the power states, beside their registers (R360-R384). -/
structure Supply where
  a : Feed := {}
  b : Feed := {}
  /-- An active feed has been chosen. -/
  chosen : Bool := false
  /-- Measurements that the active feed has carried the load since a switch, at most 1,000; none: it has not been switched to. -/
  carry : Option Nat := none
  /-- A switch waits for its check, and the feed before it (R364). -/
  check : Option Nat := none
  /-- A drill runs, and its original feed (R365). -/
  drill : Option Nat := none
  /-- Start of the dip and its lowest VSUP (R366). -/
  dipAt : Nat := 0
  dipMin : Nat := 0
  /-- The power-loss sequence has run (R367). -/
  lost : Bool := false
  /-- Requests go to the regulator (R369). -/
  sends : Bool := false
  /-- The command of the pending change has been sent a second time; the exponent that VOUT_MODE gave (R370); the VID pins (R371). -/
  resent : Bool := false
  vexp : Int := 0
  vid : Nat := 3
  /-- The divider change that the pending voltage change serves, and those behind it; one of them was not applied (R372). -/
  raise : Option Raise := none
  raises : List Raise := []
  raiseFailed : Bool := false
  /-- Last request an island held at each divider since the cold start, by 4 × island + divider. -/
  lastReq : Tbl Nat := []
  /-- CORE_RAIL_LOST is armed (R373). -/
  armed : Bool := false
  /-- Power-state request in progress: its target; the answers by participant: 1 ACCEPT, 3 DELAY (R376). -/
  target : Nat := 0
  answers : Tbl Nat := []
  /-- Ticks in RETAIN; the rail is being turned on; banks whose monitor has latched; banks being zeroed; domains not yet released
  (islands 0-41, 42 + b for SRAM bank b) (R381-R384). -/
  asleep : Nat := 0
  waking : Bool := false
  failed : Nat := 0
  zeroing : Nat := 0
  parked : Nat := 0
  deriving DecidableEq, Repr, Inhabited


/-- What a temperature sensor holds beside its registers (R388, R390): its last sample in 0.125 °C and that sample's time, and the usable
samples in a row since it broke, at most 16. -/
structure Sens where
  last : Option Int := none
  at_ : Nat := 0
  good : Nat := 0
  deriving DecidableEq, Repr, Inhabited

/-- What a thermal zone holds beside its registers (R395, R396): T_req, its grace time runs, the temperature at the previous step. -/
structure Zone where
  treq : Int := 0
  grace : Bool := false
  prev : Int := 0
  deriving DecidableEq, Repr, Inhabited

/-- The thermal block: a zone without a valid member is PENDING (R392), and the module time since which every enabled zone has been
cool (R391). -/
structure Thermal where
  window : Bool := false
  sens : Tbl Sens := []
  zones : Tbl Zone := []
  cool : Option Nat := none
  deriving DecidableEq, Repr, Inhabited


/-- A record that a start lists (R493, R496): key, reason, status. -/
structure Listed where
  key : Nat := 0
  reason : Nat := 0
  status : Nat := 0
  deriving DecidableEq, Repr, Inhabited

/-- The merged image and the running start (R491-R496). -/
structure Img where
  /-- Bytes of the merged record set in bank 0. -/
  len : Nat := 0
  /-- Generation of the set; it is kept by a warm start whose ACTIVE has the same one. -/
  gen : Nat := 0
  /-- Lock registers that the image sets at mode-ready: address and value. -/
  locks : List (Nat × Nat) := []
  /-- Records listed by the running start. -/
  listed : List Listed := []
  /-- Module time at the end of step 1 of the running start (R57). -/
  startAt : Nat := 0
  /-- Register fields at the entry of a warm start, kept in island 41 for locked blocks (R9). -/
  entry : Tbl Nat := []
  deriving DecidableEq, Repr, Inhabited


/-- The test access port and its protection (R500-R503). -/
structure Tap where
  /-- The instruction register. -/
  instr : Nat := 1
  /-- The update latches of the boundary register (R504). -/
  cells : BitVec 612 := 0
  /-- The debug module's command error, and sbbusyerror (R510). -/
  cmderr : Nat := 0
  sbbusy : Bool := false
  /-- SYS_RESET_N is low. -/
  resetLow : Bool := false
  /-- The fuses: access policy, KEY_HASH. -/
  policy : Nat := 0
  keyHash : List Byte := []
  /-- The challenge that has been issued and not used. -/
  challenge : Option Nat := none
  /-- The check that runs: challenge, key, signature. -/
  check : Option (Nat × Nat × Nat) := none
  deriving DecidableEq, Repr, Inhabited

/-- The self-test of the satellites (R507): those named, and those without a result. -/
structure SelfTest where
  named : Nat := 0
  left : Nat := 0
  deriving DecidableEq, Repr, Inhabited


/-- The state of the block. Every register with an address stands in `regs` (fields of 32-bit registers) or `words` (36-bit
words); the other fields hold what the spec gives each unit beside its registers. -/
structure State where
  /-- Commands waiting, first in first out. -/
  pending : List Instr := []
  variant : Variant := .ax72
  /-- Module time in ticks (R26), wrapping after 64 bits. -/
  mtime : Nat := 0
  /-- Island 32 runs (R28). -/
  timeRuns : Bool := false
  /-- Register fields by key (R9, R103 and the other register tables). -/
  regs : Tbl Nat := []
  /-- 36-bit words by address (R36, R39). -/
  words : Tbl (BitVec 36) := []
  /-- Bytes of general SRAM and of the ferroelectric store (R35). -/
  bytes : Mem := []
  grp : Tbl Grp := []
  leg : Tbl Leg := []
  /-- Module time at which each trip source last went filtered active (R98). -/
  filtAt : Tbl Nat := []
  /-- Pair masks of the roles (R42, R43), 0: the default. Roles 0-6: Supervision, Traction, Converters, Actuators, Fabric and
  CAN, Power, Safety. -/
  roles : Tbl Nat := []
  rx : Tbl Rx := []
  lk : Tbl Lk := []
  adc : Tbl Adc := []
  modu : Tbl Modu := []
  /-- Mirror records latched per requester (R158). -/
  mirLatch : Tbl MirLatch := []
  fb : Tbl Feedback := []
  fbLatch : Tbl FbLatch := []
  emu : Tbl Emu := []
  hring : Tbl HRing := []
  /-- Bus Master Enable is set and the function is in D0 (R402). -/
  busMaster : Bool := false
  /-- Word views per requester: pairs 0-11, 12 the host, 13 the debug module. -/
  views : Tbl WordView := []
  trcSlot : Tbl TrcSlot := []
  trcLink : Tbl TrcLink := []
  eng : Tbl Eng := []
  lib : Tbl Lib := []
  act : Tbl Act := []
  cnv : Tbl Cnv := []
  chg : Chg := {}
  pair : Tbl Pair := []
  /-- A pair fault has failed the running step of a start (R352): the pair. -/
  startFault : Option Nat := none
  sag : Saggar := {}
  sagGrp : Tbl SagGrp := []
  sout : Tbl Sout := []
  fjop : Tbl Fjop := []
  /-- Host commands that wait for a completion point, and results that wait to be posted (R409). -/
  waits : List (WaitOn × CmdRef) := []
  results : List CmdResult := []
  /-- The ring pairs, the firing log, the telemetry items (R403-R423). -/
  hq : Tbl HQueue := []
  jnl : Jnl := {}
  tlm : Tbl Tlm := []
  /-- Ferroelectric writes wait after a dip (R366), and the writes that wait, oldest first: address and bytes. -/
  dipHold : Bool := false
  deferred : List (Nat × List Byte) := []
  /-- PERST_N holds island 37 in reset (R402). -/
  perst : Bool := false
  /-- Levels of the pins TRIP00-TRIP15 (R96). -/
  tripPins : Nat := 0
  /-- The fabric (R432-R460). -/
  fab : Fabric := {}
  can : Tbl Can := []
  sup : Supply := {}
  thm : Thermal := {}
  tap : Tap := {}
  sst : SelfTest := {}
  /-- A cold start that an event has called for, by its cause (R53); served in the same step. -/
  coldWant : Option Nat := none
  /-- A warm start asked for by the host or an activation, by its cause (R53); served in the same step. -/
  warmWant : Option Nat := none
  /-- Islands whose clock was out of tolerance in the last window (R24). -/
  clkBad : Nat := 0
  /-- The merged image and what the running start keeps (R491-R496). -/
  img : Img := {}
  /-- What the block has sent to its surroundings, oldest first. The model's own field. -/
  out : List Out := []
  /-- How many free values have been taken. The model's own field. -/
  free : Nat := 0
  deriving DecidableEq, Repr, Inhabited

/-- The state before island 41 first receives power (POWER_ON, R53): every register field at its cold-start value, every
satellite and driver unpowered, module time not yet started, no command waiting. -/
def State.reset : State := {}

/-- No command of this block faults: every access the spec turns away is a next state with a recorded refusal or a bus error. The
type is closed, and no meaning raises its one reason. Safe. -/
inductive Fault where
  | none
  deriving DecidableEq, Repr

/-- Why a command is refused by the model itself. -/
inductive Refusal where
  /-- Raised by an arm of exec whose command has no meaning yet. Safe: the model stops where the hardware goes on. -/
  | notModelled (mnemonic : String)
  deriving DecidableEq, Repr

end Sys2Proof.Machine
end

