-- ==== Sys2Proof/Machine/Ops.lean ====
section
/-! DEFINITION. The named operations over the register file, the memories and the model's output: every read and write of a
register field, a word or a byte goes through one of these. -/

namespace Sys2Proof.Machine

/-! ### Sparse tables in canonical form -/

/-- What key `k` reads as in a table whose unlisted keys read as `d`. -/
def Tbl.get (d : α) (t : Tbl α) (k : Nat) : α :=
  match t with
  | [] => d
  | (k', v) :: t => if k = k' then v else Tbl.get d t k

/-- `t` with key `k` listed as `v`, in rising order. -/
def Tbl.insert (k : Nat) (v : α) (t : Tbl α) : Tbl α :=
  match t with
  | [] => [(k, v)]
  | (k', v') :: t =>
    if k < k' then (k, v) :: (k', v') :: t
    else if k = k' then (k, v) :: t
    else (k', v') :: Tbl.insert k v t

/-- `t` with key `k` unlisted. -/
def Tbl.erase (k : Nat) (t : Tbl α) : Tbl α := t.filter fun e => e.1 ≠ k

/-- `t` with key `k` reading as `v`; a key that reads as the default is not listed. -/
def Tbl.set [DecidableEq α] (d : α) (t : Tbl α) (k : Nat) (v : α) : Tbl α :=
  if v = d then Tbl.erase k t else Tbl.insert k v t

/-- The canonical form: keys strictly rising, no entry that reads as the default. -/
def Tbl.wf [DecidableEq α] (d : α) : Tbl α → Bool
  | [] => true
  | [(_, v)] => decide (v ≠ d)
  | (k, v) :: (k', v') :: t => decide (v ≠ d) && decide (k < k') && Tbl.wf d ((k', v') :: t)

/-! ### Register fields -/

namespace State

/-- The value of a register field: as many bits as it has. -/
def fld (s : State) (f : Fld) : Nat := Tbl.get f.cold s.regs f.key % 2 ^ f.width

/-- A register field as a flag. -/
def flag (s : State) (f : Fld) : Bool := s.fld f ≠ 0

/-- Write a register field, keeping the low bits its width holds. -/
def put (s : State) (f : Fld) (v : Nat) : State :=
  { s with regs := Tbl.set f.cold s.regs f.key (v % 2 ^ f.width) }

/-- Set or clear a one-bit field. -/
def putFlag (s : State) (f : Fld) (b : Bool) : State := s.put f (bit b)

/-- Count up a saturating counter field. -/
def inc (s : State) (f : Fld) : State := s.put f (satInc f.width (s.fld f))

/-- Add to a saturating counter field. -/
def addSat (s : State) (f : Fld) (d : Nat) : State := s.put f (satAdd f.width (s.fld f) d)

/-- Write a list of fields, first to last. -/
def putAll (s : State) (l : List (Fld × Nat)) : State := l.foldl (fun s e => s.put e.1 e.2) s

/-! ### Words and bytes -/

/-- A 36-bit word (R39). -/
def word (s : State) (a : Nat) : Word36 := Tbl.get 0 s.words a

/-- Write a 36-bit word. -/
def setWord (s : State) (a : Nat) (w : Word36) : State := { s with words := Tbl.set 0 s.words a w }

/-- What an unlisted byte of memory reads as. DESIGN CHOICE (log 5). -/
def memDefault : Byte := 0

/-- A byte of general SRAM or of the ferroelectric store. -/
def byte (s : State) (a : Nat) : Byte := Tbl.get memDefault s.bytes a

/-- Write a byte. -/
def setByte (s : State) (a : Nat) (b : Byte) : State := { s with bytes := Tbl.set memDefault s.bytes a b }

/-- `n` bytes from address `a`, lowest first. -/
def bytesAt (s : State) (a n : Nat) : List Byte := (List.range n).map fun i => s.byte (a + i)

/-- Write bytes from address `a` up. -/
def setBytes (s : State) (a : Nat) : List Byte → State
  | [] => s
  | b :: bs => (s.setByte a b).setBytes (a + 1) bs

/-- `n` bytes from `a` as a number, lowest byte least significant. -/
def num (s : State) (a : Nat) : Nat → Nat
  | 0 => 0
  | n + 1 => (s.byte a).toNat + 256 * s.num (a + 1) n

end State

/-- `n` bytes of a number, lowest first. -/
def leBytes : Nat → Nat → List Byte
  | 0, _ => []
  | n + 1, v => BitVec.ofNat 8 v :: leBytes n (v / 256)

/-- A number from bytes, lowest first. -/
def ofBytes : List Byte → Nat
  | [] => 0
  | b :: bs => b.toNat + 256 * ofBytes bs

/-- The canonical form of memory. -/
def Memory.wf (m : Mem) : Bool := Tbl.wf State.memDefault m

namespace State

/-! ### Typed tables of what units hold beside their registers -/

def grpOf (s : State) (g : Nat) : Grp := Tbl.get {} s.grp g
def setGrp (s : State) (g : Nat) (v : Grp) : State := { s with grp := Tbl.set {} s.grp g v }
def legOf (s : State) (n : Nat) : Leg := Tbl.get {} s.leg n
def setLeg (s : State) (n : Nat) (v : Leg) : State := { s with leg := Tbl.set {} s.leg n v }
def rxOf (s : State) (l : Nat) : Rx := Tbl.get {} s.rx l
def setRx (s : State) (l : Nat) (v : Rx) : State := { s with rx := Tbl.set {} s.rx l v }
def lkOf (s : State) (l : Nat) : Lk := Tbl.get {} s.lk l
def setLk (s : State) (l : Nat) (v : Lk) : State := { s with lk := Tbl.set {} s.lk l v }
def filtTime (s : State) (src : Nat) : Nat := Tbl.get 0 s.filtAt src
def setFiltTime (s : State) (src t : Nat) : State := { s with filtAt := Tbl.set 0 s.filtAt src t }

/-! ### Output -/

/-- Send something to the surroundings. -/
def emit (s : State) (o : Out) : State := { s with out := s.out ++ [o] }

/-- Send an interrupt notice (R42). -/
def irq (s : State) (pair : Nat) (blk : Blk) (idx cause : Nat) : State := s.emit (.irq pair blk idx cause)

/-- An operation that a host command waits for reaches its completion point with status `st`. -/
def finish (s : State) (w : WaitOn) (st : Status) (result : Option Nat := none) : State :=
  { s with
    waits := s.waits.filter fun e => e.1 ≠ w
    results := s.results ++ (s.waits.filter fun e => e.1 = w).map fun e =>
      { ref := e.2, status := st, result := result, at_ := s.mtime } }

/-- Take a free value (log 3): the next of the values the spec leaves open. -/
def fresh (s : State) : Nat × State := (Config.freeValue s.free, { s with free := s.free + 1 })

/-- A host command waits for a completion point. -/
def await (s : State) (w : WaitOn) (c : CmdRef) : State := { s with waits := s.waits ++ [(w, c)] }

end State

/-! ### Refusals (R107 and its counterparts) -/

/-- A block's error register, its lock, and the local code of each status it refuses with. -/
structure BlockErr where
  last : Fld
  cnt : Fld
  lock : Fld
  locked : Status
  codes : List (Status × Nat)

/-- The local code of a status; 0 where the block's table gives none. -/
def BlockErr.codeOf (b : BlockErr) (st : Status) : Nat :=
  match b.codes.find? fun e => e.1 = st with
  | some e => e.2
  | none => 0

/-- Record a refusal: LAST_ERR shows the local code and ERR_CNT counts it (R107, R137, R163 and their counterparts). -/
def State.refuse (s : State) (b : BlockErr) (st : Status) : State := (s.put b.last (b.codeOf st)).inc b.cnt

/-- Record a refused write in the error register; an accepted one passes. -/
def recorded (b : BlockErr) (r : State × Status) : State × Status :=
  if r.2 = .OK then r else (r.1.refuse b r.2, r.2)

/-- The status of the first check that fails, OK if none does. -/
def firstOf (checks : List (Bool × Status)) : Status :=
  match checks.find? fun c => c.1 with
  | some c => c.2
  | none => .OK

/-- Apply a step to each index of a list, first to last. -/
def State.each (s : State) (l : List α) (f : State → α → State) : State := l.foldl f s

/-- Apply a step only if a condition holds. -/
def State.when (s : State) (c : Bool) (f : State → State) : State := if c then f s else s

end Sys2Proof.Machine
end

