-- ==== Sys2Proof/Machine/Operands.lean ====
section
/-! DEFINITION. Operand forms: edge-link frames and short times (R108-R110), legs, channels and links (R2, R70). -/

namespace Sys2Proof.Machine

/-! ### Edge-link frames -/

/-- One bit of CRC-8, polynomial 0x2F, most significant bit first (R108). -/
def crc8Step (c : Nat) (b : Bool) : Nat :=
  let c2 := (2 * c) % 256
  if c.testBit 7 ≠ b then c2 ^^^ 0x2F else c2

/-- CRC-8 of the `n` low bits of `v`, most significant first, from the initial value `c`. -/
def crc8 (c : Nat) (v : Nat) : Nat → Nat
  | 0 => c
  | n + 1 => crc8 (crc8Step c (v.testBit n)) v n

/-- A frame from its TYPE and BODY (R108): framing bits, TYPE, BODY, CRC over bits [35:8]. -/
def mkFrame (ty body : Nat) : BitVec 40 :=
  let p := (ty % 16) * 2 ^ 24 + body % 2 ^ 24
  BitVec.ofNat 40 (0b1011 * 2 ^ 36 + p * 2 ^ 8 + crc8 0xFF p 28)

def frameType (f : BitVec 40) : Nat := bitsOf f.toNat 32 4
def frameBody (f : BitVec 40) : Nat := bitsOf f.toNat 8 24

/-- Framing pattern and CRC are right (R108). -/
def frameSound (f : BitVec 40) : Bool :=
  bitsOf f.toNat 36 4 = 0b1011 && crc8 0xFF (bitsOf f.toNat 8 28) 28 = bitsOf f.toNat 0 8

/-- Bits [hi:lo] of a BODY, numbered as in R109 with the BODY at [31:8]. -/
def bodyBits (f : BitVec 40) (hi lo : Nat) : Nat := bitsOf f.toNat lo (hi + 1 - lo)

/-- What a receiver makes of a frame: discarded under R108, another type than the one expected, or its body. `top` is the
highest TYPE of its direction. -/
inductive FrameRead where
  | discard | other | body
  deriving DecidableEq, Repr

def readFrame (f : BitVec 40) (ty top : Nat) : FrameRead :=
  if !frameSound f || top < frameType f then .discard
  else if frameType f = ty then .body else .other

/-- The module time in taps that a 17-bit short time names for a receiver whose local time is `local` taps (R109): the one in
the range from 2,048 ticks before the local tick to 2,047 ticks after it. -/
def shortTime (localTaps : Nat) (short : Nat) : Nat :=
  let tick := localTaps / 32
  let d := (short / 32 + 4096 - tick % 4096) % 4096
  let t := if d < 2048 then tick + d else tick + d - 4096
  t * 32 + short % 32

/-- A field of the low `w` bits of module time, extended to the latest time not after `now` (R110). -/
def extendTime (now w v : Nat) : Nat :=
  let back := (now % 2 ^ w + 2 ^ w - v % 2 ^ w) % 2 ^ w
  now - back

/-! ### CRC-32C (R331) -/

/-- One bit of the reflected CRC-32C. -/
def crc32cBit (c : Nat) : Nat := if c % 2 = 1 then (c / 2) ^^^ 0x82F63B78 else c / 2

/-- One byte of the reflected CRC-32C. -/
def crc32cByte (c : Nat) (b : Byte) : Nat := (List.range 8).foldl (fun c _ => crc32cBit c) (c ^^^ b.toNat)

/-- CRC-32C: initial value and final XOR 0xFFFF_FFFF (R331). -/
def crc32c (l : List Byte) : Nat := (l.foldl crc32cByte 0xFFFFFFFF) ^^^ 0xFFFFFFFF

/-! ### Legs, channels and links -/

/-- The leg is fitted in the variant (R1, R70). -/
def State.legFitted (s : State) (n : Nat) : Bool :=
  if n < 24 then n < s.variant.hvLegs else n < 24 + s.variant.lvLegs

/-- The link's satellite or driver leg is fitted. Links 0-47 are the satellites, 48-59 the LV legs (R96 numbers their fault
summaries in the same order). -/
def State.linkFitted (s : State) (l : Nat) : Bool :=
  if l < 48 then l < 2 * s.variant.hvLegs else l < 48 + s.variant.lvLegs

/-- The leg of a link (R2). -/
def legOfLink (l : Nat) : Nat := if l < 48 then l / 2 else l - 24

/-- The links of a leg: low side then high side for an HV leg (R2), one for an LV leg (R88). -/
def linksOfLeg (n : Nat) : List Nat := if n < 24 then [2 * n, 2 * n + 1] else [n + 24]

/-- The other satellite of the same HV leg (R15). -/
def partnerOf (l : Nat) : Nat := if l % 2 = 0 then l + 1 else l - 1

/-- The fitted legs of a group, rising (R71). -/
def State.members (s : State) (g : Nat) : List Nat :=
  (List.range 36).filter fun n => s.legFitted n && s.fld (PWM_LEG_CFG_GROUP n) = g

/-- The links of a group's legs. -/
def State.groupLinks (s : State) (g : Nat) : List Nat := (s.members g).flatMap linksOfLeg

/-- The group of a leg, if it is assigned to one. -/
def State.groupOf (s : State) (n : Nat) : Option Nat :=
  let g := s.fld (PWM_LEG_CFG_GROUP n)
  if g < 12 then some g else none

/-- The state of a group (R72). -/
def State.stopped (s : State) (g : Nat) : Bool := s.fld (PWM_GRP_STAT_STATE g) = 0
def State.running (s : State) (g : Nat) : Bool := s.fld (PWM_GRP_STAT_STATE g) = 1
def State.safe (s : State) (g : Nat) : Bool := s.fld (PWM_GRP_STAT_STATE g) = 2

/-- A group that no leg belongs to, or that is STOPPED. -/
def State.legStopped (s : State) (n : Nat) : Bool :=
  match s.groupOf n with
  | some g => s.stopped g
  | none => true

/-! ### The 36-bit word view (R40, R41) -/

/-- A requester's index: pairs 0-11, 12 the host, 13 the debug module. -/
def reqKey : Requester → Nat
  | .pair n => n.val
  | .host => 12
  | .debug => 13

def State.viewOf (s : State) (r : Requester) : WordView := Tbl.get {} s.views (reqKey r)
def State.setView (s : State) (r : Requester) (v : WordView) : State := { s with views := Tbl.set {} s.views (reqKey r) v }

/-- A low-half write stages 32 bits; the word does not change (R40). -/
def stageLow (s : State) (r : Requester) (a data : Nat) : State :=
  s.setView r { s.viewOf r with staged := some (a, data % 2 ^ 32) }

/-- The word a high-half write commits: the staged low bits if they belong to it, else its stored ones; the commit of the staged
word empties the staging register (R40). -/
def composeHigh (s : State) (r : Requester) (a data : Nat) : State × Word36 :=
  match (s.viewOf r).staged with
  | some (a', v) =>
    if a' = a then (s.setView r { s.viewOf r with staged := none }, BitVec.ofNat 36 (v + data % 16 * 2 ^ 32))
    else (s, BitVec.ofNat 36 ((s.word a).toNat % 2 ^ 32 + data % 16 * 2 ^ 32))
  | none => (s, BitVec.ofNat 36 ((s.word a).toNat % 2 ^ 32 + data % 16 * 2 ^ 32))

/-! ### Modes and starts -/

/-- The present mode (R47). -/
def State.mode (s : State) : Nat := s.fld PWR_MODE

/-- Mode-ready has been reached; before it, and from the entry of any start, a start runs (R56, R67). -/
def State.ready (s : State) : Bool := s.fld PWR_START_STAT_STEP = 11

/-- Before the end of step 3 of a cold start the host sees nothing (R56, R401). -/
def State.hostBlind (s : State) : Bool :=
  !s.ready && s.flag PWR_START_STAT_KIND && s.fld PWR_START_STAT_STEP ≤ 3

/-- SAFE with START_EXHAUSTED (R65). -/
def State.exhausted (s : State) : Bool := s.mode = 5 && s.fld PWR_MODE_SAFE_CAUSE = 0xFF

/-! ### Frames island 32 sends -/

/-- Send a frame down a link (R109). -/
def State.down (s : State) (l ty body : Nat) : State := s.emit (.down l (mkFrame ty body))

/-- The order in which frames that are ready leave an up link: FAULT, XREFUSE, TREPORT, then all others (R110). -/
def upRank (f : BitVec 40) : Nat :=
  match frameType f with
  | 2 => 0
  | 5 => 1
  | 1 => 2
  | _ => 3

/-- A frame among the waiting ones: behind those of its rank. -/
def insertUp (f : BitVec 40) : List (BitVec 40) → List (BitVec 40)
  | [] => [f]
  | a :: t => if upRank f < upRank a then f :: a :: t else a :: insertUp f t

/-- A frame becomes ready on an up link: it leaves at once, or waits behind the frame being sent, which lasts 160 ns (R108, R110,
R133). -/
def State.up (s : State) (l ty body : Nat) : State :=
  let f := mkFrame ty body
  let r := s.rxOf l
  if r.upBusy = 0 then (s.setRx l { r with upBusy := 64 }).emit (.up l f) else s.setRx l { r with upq := insertUp f r.upq }

/-- One tick of an up link: the frame being sent goes on, and at its end the first that waits leaves (R110). -/
def upTick (s : State) (l : Nat) : State :=
  let r := s.rxOf l
  if 1 < r.upBusy then s.setRx l { r with upBusy := r.upBusy - 1 }
  else match r.upq with
    | [] => s.setRx l { r with upBusy := 0 }
    | f :: t => (s.setRx l { r with upBusy := 64, upq := t }).emit (.up l f)

/-- Send an EDGE frame to a satellite with the link's next sequence number (R109, R113). Until mode-ready no edge frame is sent
(R54). -/
def State.sendEdge (s : State) (l : Nat) (on : Bool) (taps : Nat) : State :=
  let k := s.lkOf l
  if !s.ready then s else (s.setLk l { k with seq := (k.seq + 1) % 64 }).down l 1 (bit on * 2 ^ 23 + taps % 2 ^ 17 * 2 ^ 6 + k.seq % 64)

/-- Send a TRANSITION frame to an LV leg driver (R109, R132). Until mode-ready none is sent (R54). -/
def State.sendTransition (s : State) (l kind taps : Nat) : State :=
  let k := s.lkOf l
  if !s.ready then s else (s.setLk l { k with seq := (k.seq + 1) % 32 }).down l 1 (kind % 4 * 2 ^ 22 + taps % 2 ^ 17 * 2 ^ 5 + k.seq % 32)

def State.sendCut (s : State) (l : Nat) : State := s.down l 2 0
def State.sendClear (s : State) (l : Nat) : State := s.down l 6 0
def State.sendResume (s : State) (l : Nat) : State := s.down l 8 0

/-- Send DTSET to an LV leg driver (R132). -/
def State.sendDtset (s : State) (l : Nat) (lh : Bool) (taps : Nat) : State :=
  s.down l 3 (bit lh * 2 ^ 23 + taps % 2 ^ 17 * 2 ^ 6)

/-! ### The trace unit (R511) -/

/-- Write a trace record: module time, source, code and 8 data bytes at the write pointer, unless tracing is off, the source is
not selected, or the buffer is full under STOP_FULL. -/
def State.trace (s : State) (src code : Nat) (data : List Nat) : State :=
  let size := 2 ^ s.fld TST_TRC_CFG_SIZE
  if s.flag TST_TRC_CFG_EN && (s.fld TST_TRC_CFG_SRC).testBit src
      && !(s.flag TST_TRC_CFG_STOP_FULL && s.flag TST_TRC_WPTR_WRAPPED) then
    let p := s.fld TST_TRC_WPTR
    let d := (data ++ List.replicate 8 0).take 8
    let rec1 := leBytes 6 (s.mtime % 2 ^ 48) ++ [BitVec.ofNat 8 src, BitVec.ofNat 8 code] ++ d.map (BitVec.ofNat 8)
    let s := s.setBytes (s.fld TST_TRC_BASE + p % size) rec1
    let s := s.put TST_TRC_WPTR ((p + 16) % size)
    s.when (size ≤ p + 16) fun s => s.putFlag TST_TRC_WPTR_WRAPPED true
  else s

end Sys2Proof.Machine
end

