-- ==== Sys2Proof/Machine/HostRing.lean ====
section
/-! DEFINITION. Records the device writes into the host's completion, telemetry and event rings, and their announcement
(R402, R409, R410, R417, R419). Ring 0-31: a completion ring; 32: telemetry; 33: events. -/

namespace Sys2Proof.Machine

namespace State

def hringOf (s : State) (k : Nat) : HRing := Tbl.get {} s.hring k
def setHring (s : State) (k : Nat) (v : HRing) : State := { s with hring := Tbl.set {} s.hring k v }

/-- The host can be reached: the link is up and the device may master the bus (R402). -/
def hostReach (s : State) : Bool := s.busMaster && s.flag HOST_STAT_LINK_UP

end State

/-- Entries of a ring. -/
def hringSize (s : State) (k : Nat) : Nat :=
  2 ^ (if k < 32 then s.fld (HOST_R_CTRL_CQ_SIZE k) else s.fld (HOST_T_CTRL_SIZE (k - 32)))

def hringEn (s : State) (k : Nat) : Bool := if k < 32 then s.flag (HOST_R_CTRL_EN k) else s.flag (HOST_T_CTRL_EN (k - 32))

def hringBase (s : State) (k : Nat) : Nat :=
  if k < 32 then s.fld (HOST_R_CQB_BASE k 0) + s.fld (HOST_R_CQB_BASE k 1) * 2 ^ 32
  else s.fld (HOST_T_B_BASE (k - 32) 0) + s.fld (HOST_T_B_BASE (k - 32) 1) * 2 ^ 32

def hringTail (s : State) (k : Nat) : Nat := if k < 32 then s.fld (HOST_R_CQT_TAIL k) else s.fld (HOST_T_TAIL (k - 32))

/-- Bytes of a record. -/
def hringRec (k : Nat) : Nat := if k = 33 then 64 else 16

/-- The ring has no space: its next tail would meet the host's head (log 17). -/
def hringFull (s : State) (k : Nat) : Bool := (hringTail s k + 1) % hringSize s k = (s.hringOf k).head

/-- A record can be written now. -/
def hringOpen (s : State) (k : Nat) : Bool := s.hostReach && hringEn s k && !hringFull s k

def hringVector (s : State) (k : Nat) : Nat :=
  if k < 32 then s.fld (HOST_R_CTRL_VECTOR k) else if k = 32 then s.fld (HOST_T_CTRL_VECTOR 0) else 0

/-- IRQ_GAP in ticks (R410): µs of 400 ticks. -/
def hringGap (s : State) (k : Nat) : Nat :=
  400 * (if k < 32 then s.fld (HOST_R_CTRL_IRQ_GAP k) else s.fld (HOST_T_CTRL_IRQ_GAP (k - 32)))

/-- The vector of a ring fires, or waits for the end of the gap (R410). -/
def announce (s : State) (k : Nat) : State :=
  if k < 32 && !s.flag (HOST_R_CTRL_IRQ_EN k) then s
  else
    let h := s.hringOf k
    let early := match h.lastIrq with
      | some t => decide (s.mtime < t + hringGap s k)
      | none => false
    if early then s.setHring k { h with irqPend := true }
    else (s.setHring k { h with irqPend := false, lastIrq := some s.mtime }).emit (.msix (hringVector s k))

/-- The phase of the next record (R410). -/
def hringPhase (s : State) (k : Nat) : Bool := if k < 32 then s.flag (HOST_R_CQT_PHASE k) else (s.hringOf k).phase

/-- Byte and bit of the PHASE (R409, R417, R419). -/
def phaseAt (k : Nat) : Nat × Nat := if k < 32 then (7, 1) else if k = 32 then (2, 128) else (1, 128)

/-- A record with its PHASE, and for telemetry its LOSS flag, in place. -/
def stampRec (k : Nat) (phase loss : Bool) (r : List Byte) : List Byte :=
  let p := phaseAt k
  (r.zipIdx).map fun e =>
    let b := if e.2 = p.1 && phase then e.1 ||| BitVec.ofNat 8 p.2 else e.1
    if k = 32 && e.2 = 2 && loss then b ||| 8 else b

/-- Write one record at the tail and announce it. -/
def writeRec (s : State) (k : Nat) (r : List Byte) : State :=
  let t := hringTail s k
  let h := s.hringOf k
  let s := s.emit (.hostWrite (hringBase s k + hringRec k * t) (stampRec k (hringPhase s k) h.loss r))
  let wrap := decide (t + 1 = hringSize s k)
  let t' := if wrap then 0 else t + 1
  let s := if k < 32 then
      (s.put (HOST_R_CQT_TAIL k) t').when wrap fun s => s.putFlag (HOST_R_CQT_PHASE k) (!s.flag (HOST_R_CQT_PHASE k))
    else s.put (HOST_T_TAIL (k - 32)) t'
  let h := s.hringOf k
  announce (s.setHring k { h with loss := false, phase := if k < 32 then h.phase else if wrap then !h.phase else h.phase }) k

/-- Write held records while the ring takes them. -/
def pumpRecs (s : State) (k : Nat) : List (List Byte) → State
  | [] => s.setHring k { s.hringOf k with held := [] }
  | r :: rs => if hringOpen s k then pumpRecs (writeRec s k r) k rs else s.setHring k { s.hringOf k with held := r :: rs }

/-- Write what a ring holds. -/
def pump (s : State) (k : Nat) : State := pumpRecs s k (s.hringOf k).held

/-- A completion record: it waits in the device while it cannot be written (R402, R410). -/
def postCompletion (s : State) (r : Nat) (rec1 : List Byte) : State := pumpRecs s r ((s.hringOf r).held ++ [rec1])

/-- An event record (R419): kind, module time and payload. A ring that cannot take it keeps the newest 16 and counts the rest. -/
def postEvent (s : State) (kind : Nat) (payload : List Byte) : State :=
  let r := [BitVec.ofNat 8 kind, 0] ++ List.replicate 6 0 ++ leBytes 8 s.mtime
    ++ (payload ++ List.replicate 48 0).take 48
  let s := pumpRecs s 33 ((s.hringOf 33).held ++ [r])
  let h := s.hringOf 33
  if 16 < h.held.length then (s.setHring 33 { h with held := h.held.drop (h.held.length - 16) }).inc (HOST_T_DROP 1) else s

/-- A telemetry record (R418): a ring that cannot take it drops it. -/
def postTelemetry (s : State) (r : List Byte) : State :=
  if hringOpen s 32 then writeRec s 32 r
  else (s.setHring 32 { s.hringOf 32 with loss := true }).inc (HOST_T_DROP 0)

end Sys2Proof.Machine
end

