-- ==== Sys2Proof/Machine/Regs.lean ====
section
/-! DEFINITION. Register writes and reads by address, field by field (R9, R10, R537): the generic part that every block's own
rules build on. -/

namespace Sys2Proof.Machine

/-- An offset from a row's base lies on one of the registers of its array; dimensions outermost first. -/
def onArray : List (Nat × Nat) → Nat → Bool
  | [], d => d = 0
  | (c, st) :: ds, d => decide (d / st < c) && onArray ds (d % st)

/-- The row describes a field of the register at address `a`. -/
def Row.at (r : Row) (a : Nat) : Bool := decide (r.addr ≤ a) && onArray r.dims (a - r.addr)

/-- The field of a row in the register at address `a`. -/
def Row.fld (r : Row) (a : Nat) : Fld := ⟨a, r.lo, r.width, r.cold⟩

/-- The blocks in the order of R37. -/
def blkOrder : List Blk :=
  [.pwm, .gs, .ld, .adc, .mod, .fb, .le, .trc, .act, .cnv, .chg, .saf, .lks, .pwr, .thm, .host, .jnl, .fab, .can, .img, .tst]

/-- The block whose registers hold address `a` (R36, R37). -/
def blkAt (a : Nat) : Option Blk :=
  if 0x60000000 ≤ a && a < 0x600A8000 then blkOrder[(a - 0x60000000) / 0x8000]?
  else if 0x40000000 ≤ a && a < 0x40400000 && decide (0x14000 ≤ a % 0x20000) && decide (a % 0x20000 < 0x15000) then some .le
  else none

/-- The rows of the register at address `a`; none where the address is reserved (R35). -/
def rowsAt (a : Nat) : List Row :=
  match blkAt a with
  | some b => b.rows.filter fun r => r.at a
  | none => []

/-- The block's lock covers the field: RWL fields, and LE_TBL_j (R9, R215). -/
def Row.lockable (r : Row) : Bool := r.acc = .rwl || r.addr = (LE_TBL_BASE 0 0).addr

/-- The fields that set a unit of a block to work, by the first register of the row and the bit. -/
def enableFields : List Fld :=
  [ADC_CTRL_EN 0, ADC_CMP_CFG_EN 0, MOD_CFG_EN 0, MOD_MCLK_EN 0, FB_CFG_EN 0, FB_EXC_EN 0, FB_EMU_CFG_EN 0, TRC_M_CFG_EN 0, TRC_DL_CFG_EN 0,
    ACT_CFG_EN 0, CNV_C_CFG_EN 0, CHG_CFG_EN, SAF_OV3_CFG_EN 0, SAF_FJ_CFG_EN 0, THM_Z_CFG_EN 0, HOST_R_CTRL_EN 0, HOST_T_CTRL_EN 0,
    HOST_TLM_CFG_EN 0, FAB_TXQ_CTRL_EN 0, FAB_RXQ_CTRL_EN 0, CAN_RXQ_CTRL_EN 0 0, TST_TRC_CFG_EN]

def Row.enables (r : Row) : Bool := enableFields.any fun f => f.addr = r.addr && f.lo = r.lo

/-- The bits of the enable fields of a register. -/
def enableBits (a : Nat) : Nat := (rowsAt a).foldl (fun m r => if r.enables then m + 2 ^ r.lo else m) 0

/-- The bits of a register value that belong to a row. -/
def Row.take (r : Row) (data : Nat) : Nat := bitsOf data r.lo r.width

/-- One field takes a write (R9): RW and unlocked RWL fields take the value, W1C fields lose the bits written 1, RO and WO fields
keep theirs. -/
def writeField (s : State) (locked : Bool) (a data : Nat) (r : Row) : State :=
  let f := r.fld a
  match r.acc with
  | .rw => s.put f (r.take data)
  | .rwl => if locked then s else s.put f (r.take data)
  | .w1c => s.put f (s.fld f - (s.fld f &&& r.take data))
  | .ro => s
  | .wo => s

/-- The write would change a locked field of the register (R537). -/
def changesLocked (s : State) (a data : Nat) (rows : List Row) : Bool :=
  rows.any fun r => r.acc = .rwl && s.fld (r.fld a) ≠ r.take data

/-- The write would change a writable field of the register. -/
def changesFields (s : State) (a data : Nat) : Bool :=
  (rowsAt a).any fun r => (r.acc = .rw || r.acc = .rwl) && s.fld (r.fld a) ≠ r.take data

/-- A register write field by field; one that would change a locked field is recorded with the block's LOCKED status (R537). -/
def writeFields (s : State) (b : BlockErr) (a data : Nat) : State × Status :=
  let rows := rowsAt a
  let locked := s.flag b.lock
  let s' := rows.foldl (fun s r => writeField s locked a data r) s
  if locked && changesLocked s a data rows then (s'.refuse b b.locked, b.locked) else (s', .OK)

/-- A write that its block first checks: the first check that fails refuses it whole (R537). -/
def checkedWrite (s : State) (b : BlockErr) (checks : List (Bool × Status)) (a data : Nat) : State × Status :=
  match firstOf checks with
  | .OK => writeFields s b a data
  | st => (s.refuse b st, st)

/-- A write of LOCK: 1 sets it, 0 is ignored. -/
def writeLock (s : State) (b : BlockErr) (data : Nat) : State × Status :=
  (s.when (data % 2 = 1) fun s => s.putFlag b.lock true, .OK)

/-- The register value at an address: its readable fields in their places, reserved fields and write-only fields 0 (R9, R10). -/
def readFields (s : State) (a : Nat) : Nat :=
  (rowsAt a).foldl (fun v r => if r.acc = .wo then v else v + s.fld (r.fld a) * 2 ^ r.lo) 0

end Sys2Proof.Machine
end

