-- ==== Sys2Proof/Machine/Pwm.lean ====
section
/-! DEFINITION. Chapter 03: bridge groups, duty sets, reloads, dead time, edge commands, forces and trips (R70-R107), and the
commands of that chapter that concern no other block. -/

namespace Sys2Proof.Machine

/-- The error register of the PWM_ block (R107). -/
def pwmErr : BlockErr where
  last := PWM_ERR_LAST_ERR
  cnt := PWM_ERR_ERR_CNT
  lock := PWM_LOCK
  locked := .PWM_LOCKED
  codes := [(.PERIOD_RANGE, 1), (.DT_RANGE, 2), (.FORCE_BOTH_ON, 3), (.GROUP_RUNNING, 4), (.START_LATE, 5), (.NO_DUTY_SET, 6),
    (.PWM_LOCKED, 7), (.LEG_ABSENT, 8), (.LEG_FAILED, 9), (.TRIP_ASSERTED, 10), (.GROUP_RANGE, 11)]

/-! ### Followers (R77) -/

/-- The group follows a master. -/
def State.follows (s : State) (g : Nat) : Bool := s.flag (PWM_GRP_SYNC_EN g)

def State.masterOf (s : State) (g : Nat) : Nat := s.fld (PWM_GRP_SYNC_MASTER g)

/-- The groups that name `g` as their master. -/
def State.followersOf (s : State) (g : Nat) : List Nat :=
  (List.range 12).filter fun f => s.follows f && s.masterOf f = g

/-- The group's period starts hang on those of a running master. -/
def State.tied (s : State) (g : Nat) : Bool :=
  s.follows g && !s.flag (PWM_GRP_STAT_FREE g) && s.running (s.masterOf g)

/-- The period a group's first period will have: that of its complete set, or its master's (R77). A chain of masters has at most 12
groups. -/
def firstPeriod : Nat → State → Nat → Nat
  | 0, s, g => s.fld (PWM_GRP_PERIOD_ACT_PERIOD g)
  | k + 1, s, g =>
    if s.follows g then firstPeriod k s (s.masterOf g)
    else match (s.grpOf g).complete with
      | some d => d.period
      | none => s.fld (PWM_GRP_PERIOD_ACT_PERIOD g)

/-- FOLLOWER_FREE: every running follower of a master that stops or enters SAFE runs on alone, with the master's last active period
(R77). One that has not been reloaded yet takes that period at its first reload. -/
def freeFollowers (s : State) (g : Nat) : State :=
  let act := s.fld (PWM_GRP_PERIOD_ACT_PERIOD g)
  let p := if act = 0 then firstPeriod 12 s g else act
  s.each ((s.followersOf g).filter s.running) fun s f =>
    let s := if s.fld (PWM_GRP_PERIOD_ACT_PERIOD f) = 0 then s.setGrp f { s.grpOf f with pendPeriod := p } else s
    s.putFlag (PWM_GRP_STAT_FREE f) true

/-! ### Starting and stopping (R73, R74, R75) -/

/-- The active dead times of a leg take DT_INIT, which an LV leg driver learns by DTSET before its first transition (R90, R132). -/
def initDeadTimes (s : State) (n : Nat) : State :=
  let d := s.fld (PWM_LEG_DTCFG_DT_INIT n)
  let s := s.putAll [(PWM_LEG_DTLH_ACT_DT n, d), (PWM_LEG_DTHL_ACT_DT n, d), (PWM_LEG_DTLH_ACT_HOLDING n, 0),
    (PWM_LEG_DTHL_ACT_HOLDING n, 0)]
  let s := s.when (24 ≤ n) fun s => (s.sendDtset (n + 24) true d).sendDtset (n + 24) false d
  s.setLeg n { s.legOf n with rptLH := none, rptHL := none, noLH := 0, noHL := 0, plan := [], entry := false,
                              level := false, last := none, wrap := none }

/-- Send the off-edge, timed before T0, to each channel of the leg that is forced on, and clear its forces (R93). Its edge time is
that of the edges of a forced state, 160 ticks after the tick after the START (DESIGN CHOICE, log 12). -/
def clearForce (s : State) (n : Nat) : State :=
  let taps := (s.mtime + 161) * 32
  let hs := s.fld (PWM_LEG_FORCE_HS n) = 2
  let ls := s.fld (PWM_LEG_FORCE_LS n) = 2
  let s := if n < 24 then
      (s.when ls fun s => s.sendEdge (2 * n) false taps).when hs fun s => s.sendEdge (2 * n + 1) false taps
    else s.when (hs || ls) fun s => s.sendTransition (n + 24) 2 taps
  s.putAll [(PWM_LEG_FORCE_HS n, 0), (PWM_LEG_FORCE_LS n, 0)]

/-- An enabled actuator or converter slot, or the charging block, names the group, and its block says which legs float (R246, R267, R288). -/
def floatOwned (s : State) (g : Nat) : Bool :=
  ((List.range 4).any fun m =>
    (s.flag (ACT_CFG_EN m) && s.fld (ACT_CFG_GROUP m) = g) || (s.flag (CNV_C_CFG_EN m) && s.fld (CNV_C_CFG_GROUP m) = g))
  || (s.flag CHG_CFG_EN && (s.fld CHG_CFG_PFC_GRP = g || s.fld CHG_CFG_DAB_GRP = g || s.fld CHG_CFG_BST_GRP = g))

/-- A group begins to run (the floats of a slot since disabled end there, log 25): its first period starts at module time `t0`, a
follower's on its master's start `base`; RESUME goes to every channel (R73, R77, R124). -/
def beginGroup (s : State) (g t0 base : Nat) : State :=
  let s := s.setGrp g { s.grpOf g with first := true, start := t0, base := base, due := true, ending := false, oldStart := 0,
                                       oldPeriod := 0, fired := 0, updAt := 0, stopPending := false, cut := 0, pendPeriod := 0 }
  let s := s.putAll [(PWM_GRP_STAT_STATE g, 1), (PWM_GRP_STAT_FREE g, 0), (PWM_GRP_STAT_HELD g, 0), (PWM_GRP_STAT_TRIP_NOW g, 0)]
  let s := s.each (s.members g) fun s n => clearForce (initDeadTimes s n) n
  let s := if floatOwned s g then s else s.each (s.members g) fun s n => s.setLeg n { s.legOf n with floatReq := false }
  s.each (s.groupLinks g) fun s l => s.sendResume l

/-- The offset of a follower from its master's period start: SYNC.OFS modulo the master's period, with CMP_CLAMP when it was
reduced (R77). -/
def followerOffset (s : State) (f period : Nat) : State × Nat :=
  let o := s.fld (PWM_GRP_SYNC_OFS f)
  if 0 < period && period ≤ o then (s.putFlag (PWM_GRP_STAT_CMP_CLAMP f) true, o % period) else (s, o)

/-- FOLLOWER_RELEASE: the held followers of a master start SYNC.OFS ticks after its first period start, and with each of them the
held followers it is a master of (R77). -/
def releaseFollowers : Nat → State → Nat → Nat → State
  | 0, s, _, _ => s
  | k + 1, s, g, t0 =>
    s.each ((s.followersOf g).filter fun f => s.flag (PWM_GRP_STAT_HELD f)) fun s f =>
      let r := followerOffset s f (firstPeriod 12 s g)
      releaseFollowers k (beginGroup r.1 f (t0 + r.2) t0) f (t0 + r.2)

/-- T0 of a group (R73). -/
def State.t0Of (s : State) (g : Nat) : Nat := s.fld (PWM_GRP_T0_HI g) * 2 ^ 32 + s.fld (PWM_GRP_T0_LO g)

/-- A leg of the group is marked failed (R60). -/
def State.groupFailed (s : State) (g : Nat) : Bool := (s.members g).any fun n => (s.legOf n).failed

/-- The conditions of a START in the order of R73, with those of R77 for a follower. Where the refusal of a follower whose master
runs stands in that order is open: it is checked second, with the other GROUP_RUNNING (DESIGN CHOICE, log 112). -/
def startStatus (s : State) (g : Nat) : Status :=
  firstOf [
    (!s.stopped g, .GROUP_RUNNING),
    (s.follows g && s.running (s.masterOf g), .GROUP_RUNNING),
    (s.groupFailed g, .LEG_FAILED),
    (!s.flag (PWM_GRP_STAT_VALID_SET g), .NO_DUTY_SET),
    (!s.follows g && s.t0Of g < s.mtime + 1000, .START_LATE)]

/-- CMD = START (R73, R77). -/
def groupStart (s : State) (g : Nat) : State × Status :=
  match startStatus s g with
  | .OK =>
    if s.follows g then (s.putFlag (PWM_GRP_STAT_HELD g) true, .OK)
    else (releaseFollowers 12 (beginGroup s g (s.t0Of g) 0) g (s.t0Of g), .OK)
  | st => (s, st)

/-- CMD = STOP (R74): a running group stops at its next period start whose reload instant lies ahead, a held START is cancelled,
anything else changes nothing. -/
def groupStop (s : State) (g : Nat) : State :=
  if s.running g then s.setGrp g { s.grpOf g with stopPending := true }
  else s.putFlag (PWM_GRP_STAT_HELD g) false

/-- What a group that no longer runs drops: its present period, its cut, its reference plans. -/
def dropPeriod (s : State) (g : Nat) : State :=
  let s := s.setGrp g { s.grpOf g with stopPending := false, ending := false, due := false, fired := 0, first := false, cut := 0,
                                       pendPeriod := 0, updAt := 0 }
  let s := s.putAll [(PWM_GRP_STAT_TRIP_NOW g, 0), (PWM_GRP_STAT_TRG_IDLE g, 0), (PWM_GRP_STAT_FREE g, 0), (PWM_GRP_STAT_HELD g, 0)]
  s.each (s.members g) fun s n =>
    s.setLeg n { s.legOf n with plan := [], entry := false, level := false, last := none, wrap := none, reissue := false }

/-- The off-edges of a group that stops leave island 32 for the period start `t` (R74). -/
def sendOffEdges (s : State) (g t : Nat) : State :=
  s.each (s.members g) fun s n =>
    if n < 24 then (s.sendEdge (2 * n) false (t * 32)).sendEdge (2 * n + 1) false (t * 32)
    else s.sendTransition (n + 24) 2 (t * 32)

/-- The group enters STOPPED. Its STOP, if one waits, completes with OK. -/
def enterStopped (s : State) (g : Nat) : State :=
  let s := (dropPeriod (freeFollowers s g) g).putAll [(PWM_GRP_STAT_STATE g, 0), (PWM_GRP_PERIOD_ACT_PERIOD g, 0)]
  s.finish (.groupStop g) .OK

/-- The Saggar drives the group to its safe state (R75); a STOP that has not reached its completion point completes with OK
(R74). -/
def enterSafeGroup (s : State) (g : Nat) : State :=
  let s := (dropPeriod (freeFollowers s g) g).put (PWM_GRP_STAT_STATE g) 2
  s.finish (.groupStop g) .OK

/-- The release of a SAFE group leads to STOPPED (R75). -/
def releaseGroup (s : State) (g : Nat) : State :=
  if s.safe g then s.putAll [(PWM_GRP_STAT_STATE g, 0), (PWM_GRP_PERIOD_ACT_PERIOD g, 0)] else s

/-! ### Duty sets and commits (R82, R84) -/

/-- The staging set of a group: its shadow registers. -/
def shadowSet (s : State) (g : Nat) : DutySet where
  period := s.fld (PWM_GRP_PERIOD_SH_PERIOD g)
  legs := (s.members g).map fun n => (n, s.fld (PWM_LEG_CMP_SH_C n), s.fld (PWM_LEG_PH_SH_PHI n))

/-- A set becomes complete: it replaces the last complete set, and the counts of R84 are kept while the group runs. -/
def acceptSet (s : State) (g : Nat) (d : DutySet) : State :=
  let h := s.grpOf g
  let late := s.running g && !h.first && decide (s.mtime < h.updAt)
  let s := s.when late fun s => (s.inc (PWM_GRP_CNT_LATE_CNT g)).trace 4 0 [g]
  let s := s.when (s.running g && h.fresh) fun s => s.inc (PWM_GRP_CNT_SUPERSEDED_CNT g)
  (s.setGrp g { h with complete := some d, fresh := true }).putFlag (PWM_GRP_STAT_VALID_SET g) true

/-- A write of PWM_GRP_COMMIT (R82). -/
def groupCommit (s : State) (g : Nat) : State × Status :=
  if !s.follows g && s.fld (PWM_GRP_PERIOD_SH_PERIOD g) < 400 then (s, .PERIOD_RANGE)
  else (acceptSet s g (shadowSet s g), .OK)

/-! ### The reference of a leg (R79, R80) -/

/-- The reference level after every transition at or before `p`, from the level `l0` at the period's start. -/
def levelAt (l0 : Bool) (t : List RefEdge) (p : Nat) : Bool :=
  t.foldl (fun l e => if e.pos ≤ p then e.level else l) l0

/-- Drop the transitions that change nothing. -/
def squash (l : Bool) : List RefEdge → List RefEdge
  | [] => []
  | e :: t => if e.level = l then squash l t else e :: squash e.level t

/-- A rise and a fall at the same instant cancel (R80). -/
def cancelPairs : List RefEdge → List RefEdge
  | a :: b :: t => if a.pos = b.pos then cancelPairs t else a :: cancelPairs (b :: t)
  | t => t

/-- Insert a transition in order of position. -/
def insertEdge (e : RefEdge) : List RefEdge → List RefEdge
  | [] => [e]
  | a :: t => if e.pos < a.pos then e :: a :: t else a :: insertEdge e t

/-- The transitions of one period for a mode, a period of `p32` taps, a compare and a phase, with the fall of a wrapped interval
if one stands, and the fall that wraps into the next period (R79). A wrapped interval that outlasts a shorter period goes on into
the next. -/
def refEdges (mode p32 c phi : Nat) (wrap : Option Nat) : List RefEdge × Option Nat :=
  match mode with
  | 0 =>
    if c = 0 then ([⟨0, false, false⟩], none)
    else if p32 ≤ c then ([⟨0, true, false⟩], none)
    else ([⟨0, true, false⟩, ⟨c, false, false⟩], none)
  | 1 =>
    if c = 0 then ([⟨0, false, false⟩], none)
    else if p32 ≤ c then ([⟨0, true, false⟩], none)
    else ([⟨0, false, false⟩, ⟨p32 / 2 - (c + 1) / 2, true, false⟩, ⟨p32 / 2 + c / 2, false, false⟩], none)
  | _ =>
    let carried : List RefEdge := match wrap with
      | some w => [⟨w, false, false⟩]
      | none => []
    if wrap.any fun w => p32 ≤ w then ([], wrap.map fun w => w - p32)
    else if c = 0 then (carried, none)
    else if p32 ≤ phi + c then (insertEdge ⟨phi, true, false⟩ carried, some (phi + c - p32))
    else (insertEdge ⟨phi + c, false, false⟩ (insertEdge ⟨phi, true, false⟩ carried), none)

/-- C and φ of a leg as used in a period of `p32` taps: C above 32P is used as 32P, φ of 32P or more as 32P − 1; either clamp sets
CMP_CLAMP (R78). -/
def clampLeg (p32 : Nat) (s : State) (n : Nat) : State :=
  let l := s.legOf n
  (s.put (PWM_LEG_CMP_ACT_C n) (min l.c p32)).when (p32 < l.c || p32 ≤ l.phi) fun s => s.putFlag (PWM_LEG_STAT_CMP_CLAMP n) true

/-- The transitions of a leg in a period of `p32` taps under its active set. -/
def legEdges (s : State) (n mode p32 : Nat) (wrap : Option Nat) : List RefEdge × Option Nat :=
  refEdges mode p32 (s.fld (PWM_LEG_CMP_ACT_C n)) (min (s.legOf n).phi (p32 - 1)) wrap

/-- Plan a leg's reference for a new period. A leg that was cut takes, where its reference already calls for conduction at the
period start without a transition there, a turn-on at the period start; a phase-shift interval that wrapped out of the cut period is
not resumed, and the channel next turns on at the next rise, also where that rise meets the interval's fall (R99, R100). A leg whose
edge set is issued anew, or that leaves the float state, takes its reference's state from the period start on (R94, R246, R267). -/
def planPeriod (s : State) (n mode p32 : Nat) (wasCut anew : Bool) : State :=
  let l := s.legOf n
  let r := legEdges s n mode p32 l.wrap
  let t := cancelPairs (squash l.level r.1)
  let free := fun (p : Nat) => !(t.any fun e => e.pos = p)
  let t' := match wasCut, l.wrap with
    | true, some w => if decide (w < p32) && free w then insertEdge ⟨w, true, true⟩ t else t
    | _, _ => if (wasCut || anew) && free 0 then ⟨0, l.level, true⟩ :: t else t
  let out := levelAt l.level t p32
  s.setLeg n { l with plan := t', entry := l.level, level := out, wrap := if out then r.2 else none,
                      last := if wasCut || anew then none else l.last }

/-- What a mid-period reload leaves of a plan in phase-shift mode from the update point `u` on, with the wrapped fall (R79, R80): an
interval in progress keeps its fall; the new set's rise follows at its own time where the reference is low by then. -/
def midShift (l : Leg) (r : List RefEdge × Option Nat) (high : Bool) (u : Nat) : List RefEdge × Option Nat :=
  let rise := r.1.find? fun e => e.level
  let fall := if high then l.plan.find? fun e => decide (u ≤ e.pos) && !e.level else none
  let from_ := match fall with
    | some f => f.pos
    | none => u
  match rise with
  | some e =>
    if (high && fall.isNone) || e.pos < max u from_ then (fall.toList, if high && fall.isNone then l.wrap else none)
    else (fall.toList ++ r.1.filter fun x => decide (e.pos ≤ x.pos), r.2)
  | none => (fall.toList, if high && fall.isNone then l.wrap else none)

/-- Re-plan a leg at a mid-period reload: the new set governs from the mid update point `u` on (R80). -/
def replanMid (s : State) (n mode p32 u : Nat) : State :=
  let l := s.legOf n
  let before := l.plan.filter fun e => e.pos < u
  let now := levelAt l.entry before u
  let r := legEdges s n mode p32 none
  let x : List RefEdge × Option Nat :=
    if mode < 2 then
      let l1 := levelAt false r.1 u
      ((if l1 = now then [] else [⟨u, l1, false⟩]) ++ squash l1 (r.1.filter fun e => u < e.pos), none)
    else midShift l r now u
  let t := before ++ cancelPairs x.1
  s.setLeg n { l with plan := t, level := levelAt l.entry t p32, wrap := x.2 }

/-- A leg that leaves the float state at a mid-period update point `u` switches under its set from there on (R246, R267). -/
def unfloatMid (s : State) (n u : Nat) : State :=
  let l := s.legOf n
  if l.floated && !l.floatReq && !(l.plan.any fun e => e.pos = u) then
    s.setLeg n { l with plan := (l.plan.filter fun e => e.pos < u) ++ ⟨u, levelAt l.entry l.plan u, true⟩ :: l.plan.filter fun e => u < e.pos }
  else s

/-! ### Reload (R83) -/

/-- Load the compares and phases of a set into the legs of the group. -/
def loadCompares (s : State) (g : Nat) (d : DutySet) : State :=
  s.each (d.legs.filter fun e => s.legFitted e.1 && s.fld (PWM_LEG_CFG_GROUP e.1) = g) fun s e =>
    s.setLeg e.1 { s.legOf e.1 with c := e.2.1, phi := e.2.2 }

/-- A period-start reload of the group takes the last complete set: one that is new, where UPD names the period start, or the first
of a START. -/
def loadsSet (s : State) (g : Nat) : Bool :=
  let h := s.grpOf g
  let upd := s.fld (PWM_GRP_CTRL_UPD g)
  (h.fresh && (upd = 1 || upd = 3)) || h.first

/-- The period that a period-start reload makes active: the master's for a follower that is not free (R77), also where the master's
own reload stands in the same tick and has not come yet; else the new set's, else one loaded at a mid-period reload, else the present
one. -/
def nextPeriod : Nat → State → Nat → Nat
  | 0, s, g => s.fld (PWM_GRP_PERIOD_ACT_PERIOD g)
  | k + 1, s, g =>
    let h := s.grpOf g
    let act := s.fld (PWM_GRP_PERIOD_ACT_PERIOD g)
    if s.tied g then
      let m := s.masterOf g
      let hm := s.grpOf m
      if hm.first || (!h.first && decide (hm.start ≤ h.base)) then nextPeriod k s m else s.fld (PWM_GRP_PERIOD_ACT_PERIOD m)
    else if s.follows g then (if act = 0 then h.pendPeriod else act)
    else if loadsSet s g then (match h.complete with | some d => d.period | none => act)
    else if h.pendPeriod ≠ 0 then h.pendPeriod else act

/-- A start at `x` that has to lie after `h` and not before module time: `x`, or the next of those `p` apart. -/
def startFrom (x p need : Nat) : Nat := if need ≤ x then x else x + (need - x + p - 1) / p * p

/-- The next period start of a running group, and for a follower the master's start it hangs on: the present start and its period;
for a tied follower its offset after the master's next start (R77). `p` is the period that begins there, `o` the offset. -/
def nextStart (s : State) (g p o : Nat) : Nat × Nat :=
  let h := s.grpOf g
  if h.first then (h.start, h.base)
  else if s.tied g then
    let m := s.grpOf (s.masterOf g)
    let b := if h.base < m.start then m.start else h.base + s.fld (PWM_GRP_PERIOD_ACT_PERIOD (s.masterOf g))
    let x := startFrom (b + o) p (max (h.start + 1) s.mtime)
    (x, x - o)
  else (h.start + s.fld (PWM_GRP_PERIOD_ACT_PERIOD g), 0)

/-- Floor of a leg's dead times in taps (R89). -/
def floorTaps (s : State) (n : Nat) : Nat :=
  32 * (if n < 24 then s.fld PWM_DT_FLOOR_HV_FLOOR else s.fld PWM_DT_FLOOR_LV_FLOOR)

/-- One tap toward a target. -/
def oneTap (dt target : Nat) : Nat := if dt < target then dt + 1 else if target < dt then dt - 1 else dt

/-- The target of R90. -/
def dtTarget (s : State) (n meas : Nat) : Nat :=
  min (max (meas + s.fld (PWM_LEG_DTLIM_GUARD n)) (floorTaps s n)) (s.fld (PWM_LEG_DTLIM_DT_MAX n))

/-- DEAD_TIME_STEP and DEAD_TIME_HOLDING for one direction (R90, R91): the new dead time, the new run of periods without a
report, and whether the dead time is holding. `edge` tells whether the reference had the transition that a report would follow. -/
def dtStep (s : State) (n dt none_ : Nat) (rpt : Option Nat) (edge : Bool) : Nat × Nat × Bool :=
  match rpt with
  | some m => (oneTap dt (dtTarget s n m), 0, false)
  | none =>
    let k := if edge then min (none_ + 1) 256 else none_
    if 256 ≤ k then (oneTap dt (s.fld (PWM_LEG_DTCFG_DT_INIT n)), k, true) else (dt, k, false)

/-- The dead times of a leg at the reload instant of a period start (R90, R91; a floated leg does not advance the count, R246,
R267), and the DTSET frames of an LV leg whose values changed (R132). In static mode they are DT_INIT, also where DT_MAX has been set
below it: the spec has DT_MAX bound the adaptive ones (DESIGN CHOICE, log 112). -/
def stepDeadTimes (s : State) (n : Nat) : State :=
  let lh := s.fld (PWM_LEG_DTLH_ACT_DT n)
  let hl := s.fld (PWM_LEG_DTHL_ACT_DT n)
  let l := s.legOf n
  let s := if s.flag (PWM_LEG_CFG_DTMODE n) then
      let a := dtStep s n lh l.noLH l.rptLH (!l.floated && l.plan.any fun e => e.level && !e.resume)
      let b := dtStep s n hl l.noHL l.rptHL (!l.floated && l.plan.any fun e => !e.level && !e.resume)
      let s := s.putAll [(PWM_LEG_DTLH_ACT_DT n, a.1), (PWM_LEG_DTLH_ACT_HOLDING n, bit a.2.2),
        (PWM_LEG_DTHL_ACT_DT n, b.1), (PWM_LEG_DTHL_ACT_HOLDING n, bit b.2.2)]
      s.setLeg n { l with rptLH := none, rptHL := none, noLH := a.2.1, noHL := b.2.1 }
    else
      let d := s.fld (PWM_LEG_DTCFG_DT_INIT n)
      let s := s.setLeg n { l with rptLH := none, rptHL := none, noLH := 0, noHL := 0 }
      s.putAll [(PWM_LEG_DTLH_ACT_DT n, d), (PWM_LEG_DTHL_ACT_DT n, d), (PWM_LEG_DTLH_ACT_HOLDING n, 0), (PWM_LEG_DTHL_ACT_HOLDING n, 0)]
  if n < 24 then s
  else
    let lh' := s.fld (PWM_LEG_DTLH_ACT_DT n)
    let hl' := s.fld (PWM_LEG_DTHL_ACT_DT n)
    let s := s.when (lh' ≠ lh) fun s => s.sendDtset (n + 24) true lh'
    s.when (hl' ≠ hl) fun s => s.sendDtset (n + 24) false hl'

/-! ### Trips (R96-R101) -/

/-- The trip sources enabled in a group's masks (R98): pins, comparators, and the fault summaries of its own legs. -/
def enabledSources (s : State) (g : Nat) : List Nat :=
  bitsSet 16 (s.fld (PWM_GRP_TMASK_P_PINS g)) ++ (bitsSet 32 (s.fld (PWM_GRP_TMASK_C_CMPS g))).map (· + 16)
    ++ (if s.flag (PWM_GRP_TMASK_P_LEGFLT g) then (s.groupLinks g).map (· + 48) else [])

/-- The enabled sources that are filtered active. -/
def activeSources (s : State) (g : Nat) : List Nat :=
  (enabledSources s g).filter fun x => s.flag (PWM_TRIP_FILT_FILT x)

/-- Of some sources, the one that went filtered active first. -/
def earliest (s : State) : List Nat → Option Nat
  | [] => none
  | x :: xs => match earliest s xs with
    | some y => if s.filtTime y < s.filtTime x then some y else some x
    | none => some x

/-- The legs a trip cuts: those set in CUT that belong to the group (R98). -/
def cutLegs (s : State) (g : Nat) : List Nat :=
  let m := s.fld (PWM_GRP_CUT_LO_LEGS g) + s.fld (PWM_GRP_CUT_HI_LEGS g) * 2 ^ 32
  (s.members g).filter fun n => m.testBit n

/-- Capture the first source and the time its filter went active, unless a trip stands already (R98). -/
def captureTrip (s : State) (g src : Nat) : State :=
  if s.flag (PWM_GRP_TRIP_TRIP_EVT g) then s
  else (s.putAll [(PWM_GRP_TRIP_TRIP_EVT g, 1), (PWM_GRP_TRIP_FIRST_SRC g, src), (PWM_GRP_TRIP_FIRST_TIME g, s.filtTime src)]).trace
    0 0 [g, src]

/-- GROUP_TRIP and CUT_FRAME_SEND: a trip of a group by a source cuts its legs for the rest of the period (R98). -/
def tripGroup (s : State) (g src : Nat) : State :=
  let s := captureTrip s g src
  let h := s.grpOf g
  let legs := cutLegs s g
  let fresh := legs.filter fun n => !h.cut.testBit n
  let s := s.setGrp g { h with cut := legs.foldl setBit h.cut }
  let s := s.when (!legs.isEmpty) fun s => s.putFlag (PWM_GRP_STAT_TRIP_NOW g) true
  s.each (fresh.flatMap linksOfLeg) fun s l => s.sendCut l

/-- TRIP_RECHECK at the reload instant of a period start (R100): with no enabled source filtered active the cut legs run in the
new period, else they stay cut for all of it. TRIP_NOW shows it from the period start on. -/
def tripRecheck (s : State) (g : Nat) : State :=
  let now := s.fld (PWM_GRP_STAT_TRIP_NOW g)
  let s := s.setGrp g { s.grpOf g with cut := 0 }
  match earliest s (activeSources s g) with
  | none => s
  | some src => (tripGroup s g src).put (PWM_GRP_STAT_TRIP_NOW g) now

/-- A write of TMASK_P or TMASK_C: a running group trips by a source that the write enables and that is filtered active (R98). -/
def maskWritten (s : State) (g : Nat) (before : List Nat) : State :=
  match earliest s ((activeSources s g).filter fun x => !before.contains x) with
  | some src => if s.running g then tripGroup s g src else s
  | none => s

/-- A request to clear a trip record (R101). -/
def tripClear (s : State) (g : Nat) : State × Status :=
  if (activeSources s g).isEmpty then
    (s.putAll [(PWM_GRP_TRIP_TRIP_EVT g, 0), (PWM_GRP_TRIP_FIRST_SRC g, 0), (PWM_GRP_TRIP_FIRST_TIME g, 0),
      (PWM_GRP_STAT_CLR_RESULT g, 1)], .OK)
  else (s.put (PWM_GRP_STAT_CLR_RESULT g) 2, .TRIP_ASSERTED)

/-! ### Minimum pulse (R85, R86) -/

/-- The position, from the period start, of transition `i` of a plan; the one after the last is the first of a next period alike
(log 13). -/
def posOf (plan : List RefEdge) (p32 i : Nat) : Option Nat :=
  match plan[i]? with
  | some e => some e.pos
  | none =>
    match plan.find? (fun e => !e.resume), plan.getLast? with
    | some a, some b => if a.level = b.level then none else some (p32 + a.pos)
    | _, _ => none

/-- The dead time of the turn-on that follows a transition (R85): DT_LH after a rise, DT_HL after a fall. -/
def dtAfter (s : State) (n : Nat) (level : Bool) : Nat :=
  if level then s.fld (PWM_LEG_DTLH_ACT_DT n) else s.fld (PWM_LEG_DTHL_ACT_DT n)

/-- An interval from `a` to `b` is shorter than the minimum pulse (R86); an interval without an end is not. -/
def tooShort (s : State) (a : Nat) (b : Option Nat) : Bool :=
  match b with
  | some b => b < a + 32 * s.fld PWM_MINPULSE_M
  | none => false

/-- The on-interval of the channel that transition `i` turns on is shorter than M, so it is dropped (R86). -/
def onDropped (s : State) (n p32 : Nat) (plan : List RefEdge) (i : Nat) : Bool :=
  match plan[i]? with
  | some e => tooShort s (e.pos + dtAfter s n e.level) (posOf plan p32 (i + 1))
  | none => false

/-- The off-interval of the channel that transition `i` turns off is shorter than M, so it is filled (R86). -/
def offFilled (s : State) (n p32 : Nat) (plan : List RefEdge) (i : Nat) : Bool :=
  match plan[i]?, posOf plan p32 (i + 1) with
  | some e, some q => !e.resume && tooShort s e.pos (some (q + dtAfter s n (!e.level)))
  | _, _ => false

/-- The turn-on that the last transition before the plan calls for lies at or after the period start `t`, in taps: it leaves after
the reload instant, among the edges of the new period (R87). -/
def LastEdge.carried (x : LastEdge) (t : Nat) : Bool := decide (t ≤ x.onAt)

/-- The on-interval that the last transition before the plan begins is dropped: as judged in its own period, or, where its turn-on is
carried into the new one, against the first transition there (R86). -/
def lastDropped (s : State) (n t : Nat) : Bool :=
  let l := s.legOf n
  match l.last with
  | some x => if x.carried t then tooShort s x.onAt ((l.plan.find? fun e => !e.resume).map fun e => t + e.pos) else x.dropped
  | none => false

/-- The channel that the last transition before the plan turns off stays on, its off-interval filled (R86). -/
def lastFilled (s : State) (n : Nat) : Bool := (s.legOf n).last.any fun x => x.filled

/-- The turn-off edge of transition `i` leaves: it is no resumed turn-on, its channel's off-interval is not filled, and the
on-interval before it was not dropped. `t` is the period start in taps. -/
def offLeaves (s : State) (n p32 t : Nat) (plan : List RefEdge) (i : Nat) : Bool :=
  (match plan[i]? with | some e => !e.resume | none => false)
    && !offFilled s n p32 plan i && !(if i = 0 then lastDropped s n t else onDropped s n p32 plan (i - 1))

/-- The channel that transition `i` turns on is on already, its off-interval filled. -/
def onHeld (s : State) (n p32 : Nat) (plan : List RefEdge) (i : Nat) : Bool :=
  if i = 0 then lastFilled s n else offFilled s n p32 plan (i - 1)

/-- The turn-on edge of transition `i` leaves: its on-interval is not dropped, and the channel is not on already. -/
def onLeaves (s : State) (n p32 : Nat) (plan : List RefEdge) (i : Nat) : Bool :=
  !onDropped s n p32 plan i && !onHeld s n p32 plan i

/-- What a leg keeps of its last transition when the period of group `g` is replaced. After a cut, a float or a refusal nothing is
left of it. -/
def lastOf (s : State) (g n : Nat) : Option LastEdge :=
  let h := s.grpOf g
  let l := s.legOf n
  let p32 := 32 * s.fld (PWM_GRP_PERIOD_ACT_PERIOD g)
  if h.cut.testBit n || l.floated || l.reissue then none
  else match l.plan.getLast? with
    | none => l.last
    | some e =>
      let i := l.plan.length - 1
      some { level := e.level, onAt := h.start * 32 + e.pos + dtAfter s n e.level, held := onHeld s n p32 l.plan i,
             dropped := onDropped s n p32 l.plan i, filled := offFilled s n p32 l.plan i }

/-! ### Reload instants (R83) -/

/-- The state a channel's or a driver's ALIVE last reported (R124). -/
def State.linkState (s : State) (k : Nat) : Nat := if k < 48 then s.fld (GS_STAT_STATE k) else s.fld (LD_STAT_STATE (k - 48))

/-- ARMED_RESUME: RESUME goes to each channel of the group whose ALIVE reports ARMED (R124). -/
def resumeArmed (s : State) (g : Nat) : State :=
  s.each (s.groupLinks g) fun s k => s.when (s.linkState k = 4) fun s => s.sendResume k

/-- The RESUME frames of a period start: to ARMED channels, and to both channels of a leg that a cross-link refusal held off (R94,
R124, R127). -/
def resumeChannels (s : State) (g : Nat) : State :=
  s.each (s.members g) fun s n =>
    let l := s.legOf n
    let s := s.each (linksOfLeg n) fun s k => s.when (l.reissue || s.linkState k = 4) fun s => s.sendResume k
    s.setLeg n { l with reissue := false }

/-- Both channels of a leg off at `taps`: off-edges for an HV leg, a TRANSITION of kind 2 for an LV leg (R246, R267). -/
def sendFloat (s : State) (n taps : Nat) : State :=
  if n < 24 then (s.sendEdge (2 * n) false taps).sendEdge (2 * n + 1) false taps else s.sendTransition (n + 24) 2 taps

/-- FLOAT_MASK_APPLY: each leg of the group is floated or released by its mask at the update point `t` (R246, R267). -/
def applyFloats (s : State) (g t : Nat) : State :=
  s.each (s.members g) fun s n =>
    let l := s.legOf n
    let s := s.when (l.floatReq && !l.floated) fun s => sendFloat s n (t * 32)
    s.setLeg n { s.legOf n with floated := l.floatReq }

/-- Note whether a leg of the group switches after a reload (R273). -/
def noteRan (s : State) (g : Nat) (before : Bool) : State :=
  s.setGrp g { s.grpOf g with ran := before || (s.members g).any fun n => !(s.legOf n).floated }

/-- A trigger of the group has a TIME of the active period or more (R81): one that is enabled (log 91). -/
def trgIdle (s : State) (g : Nat) : Bool :=
  s.running g && (List.range 4).any fun k =>
    s.flag (PWM_GRP_TRG_EN g k) && s.fld (PWM_GRP_PERIOD_ACT_PERIOD g) ≤ s.fld (PWM_GRP_TRG_TIME g k)

/-- The period start of a group that has come: the group is STOPPED, or the period that was reloaded runs, its triggers afresh and
TRIP_NOW as its legs are cut (R74, R81, R100). -/
def periodStart (s : State) (g : Nat) : State :=
  let h := s.grpOf g
  if s.running g && h.due && !h.first && decide (h.start ≤ s.mtime) then
    if h.ending then enterStopped s g
    else (s.setGrp g { h with due := false, fired := 0 }).putFlag (PWM_GRP_STAT_TRIP_NOW g) (h.cut ≠ 0)
  else s

/-- The reload instant of the period start `t` at which a group stops: its off-edges leave, and the STOP completes (R74). -/
def reloadStop (s : State) (g t : Nat) : State :=
  let h := s.grpOf g
  let s := sendOffEdges s g t
  (s.setGrp g { h with stopPending := false, ending := true, first := false, due := true, oldStart := h.start, start := t,
                       oldPeriod := if h.first then 0 else s.fld (PWM_GRP_PERIOD_ACT_PERIOD g) }).finish (.groupStop g) .OK

/-- The reload instant of a period start `t` at which a group goes on with a period `p`: load the last complete set, step the dead
times, recheck the trips, plan the new period and resume the armed channels (R83, R90, R100, R124). `b` is the master's start. -/
def reloadRun (s : State) (g p t b : Nat) : State :=
  let h := s.grpOf g
  let load := loadsSet s g
  let upd := s.fld (PWM_GRP_CTRL_UPD g)
  let old := if h.first then 0 else s.fld (PWM_GRP_PERIOD_ACT_PERIOD g)
  let s := s.each (s.members g) fun s n => stepDeadTimes (s.setLeg n { s.legOf n with last := lastOf s g n }) n
  let s := s.put (PWM_GRP_PERIOD_ACT_PERIOD g) p
  let s := if load then (match h.complete with | some d => loadCompares s g d | none => s) else s
  let s := s.each (s.members g) (clampLeg (32 * p))
  let next : Grp := { s.grpOf g with fresh := h.fresh && !load, first := false, start := t, base := b, due := true, oldStart := h.start,
                                     oldPeriod := old, updAt := if h.first || upd = 1 || upd = 3 then t else h.updAt, pendPeriod := 0,
                                     prevTrip := s.flag (PWM_GRP_STAT_TRIP_NOW g), prevRan := h.ran }
  let s := tripRecheck (s.setGrp g next) g
  let now := (s.grpOf g).cut
  let mode := s.fld (PWM_GRP_CTRL_MODE g)
  let s := s.each (s.members g) fun s n =>
    let l := s.legOf n
    planPeriod s n mode (32 * p) (h.cut.testBit n && !now.testBit n) ((l.floated && !l.floatReq) || l.reissue)
  let s := s.putFlag (PWM_GRP_STAT_TRG_IDLE g) (trgIdle s g)
  noteRan (applyFloats (resumeChannels s g) g t) g false

/-- The reload instant of a period start of a running group (R74, R77, R83). -/
def reloadPeriod (s : State) (g : Nat) : State :=
  let h := s.grpOf g
  if h.ending then s
  else
    let p := nextPeriod 12 s g
    let x := if s.tied g && !h.first then followerOffset s g p else (s, 0)
    let t := nextStart x.1 g p x.2
    periodStart (if h.stopPending then reloadStop x.1 g t.1 else reloadRun x.1 g p t.1 t.2) g

/-- The reload instant of a mid-period update point (R83): the compares and phases change, the period waits. -/
def reloadMid (s : State) (g : Nat) : State :=
  let h := s.grpOf g
  let p := s.fld (PWM_GRP_PERIOD_ACT_PERIOD g)
  let upd := s.fld (PWM_GRP_CTRL_UPD g)
  if h.first || h.ending || !(upd = 2 || upd = 3) then s
  else
    let s := s.setGrp g { h with updAt := h.start + p / 2 }
    let s := match h.complete with
      | some d =>
        if h.fresh then
          let s := loadCompares s g d
          let s := s.each (s.members g) (clampLeg (32 * p))
          let s := s.setGrp g { s.grpOf g with fresh := false, pendPeriod := if s.follows g then 0 else d.period }
          let mode := s.fld (PWM_GRP_CTRL_MODE g)
          s.each (s.members g) fun s n => replanMid s n mode (32 * p) (32 * (p / 2))
        else s
      | none => s
    let s := s.each (s.members g) fun s n => unfloatMid s n (32 * (p / 2))
    noteRan (applyFloats (resumeArmed s g) g (h.start + p / 2)) g h.ran

/-- A reload instant of a group; nothing is reloaded unless the group runs (R75, R83). -/
def reloadGroup (s : State) (g : Nat) (mid : Bool) : State :=
  if s.running g then (if mid then reloadMid s g else reloadPeriod s g) else s

/-! ### Edge commands (R85-R88) -/

/-- The legs whose edge commands are withheld: those of a group whose STOP has passed its reload instant, cut in the present period,
or floated (R74, R98, R267). -/
def withheld (s : State) (g n : Nat) : Bool := (s.grpOf g).ending || (s.grpOf g).cut.testBit n || (s.legOf n).floated

/-- The link of the channel of an HV leg that a transition to `level` turns on, and of the one it turns off. -/
def onLink (n : Nat) (level : Bool) : Nat := if level then 2 * n + 1 else 2 * n
def offLink (n : Nat) (level : Bool) : Nat := if level then 2 * n else 2 * n + 1

/-- The turn-on of an HV leg's last transition before its plan, where it lies in the new period (R85, R86). -/
def carriedDeparture (s : State) (n t : Nat) : State :=
  match (s.legOf n).last with
  | some x =>
    let short := lastDropped s n t
    if n < 24 && x.carried t then
      let s := s.when short fun s => match s.groupOf n with
        | some g => s.inc (PWM_GRP_CNT_SHORT_CNT g)
        | none => s
      s.when (!short && !x.held) fun s => s.sendEdge (onLink n x.level) true x.onAt
    else s
  | none => s

/-- EDGE_COMMAND_DEPARTURE (R87, R88): the first edge (the turn-off) or the second (the turn-on after the dead time) of transition
`i` of the leg's plan leaves island 32; the second of the transition after the last names the turn-on carried into this period from
the one before. An LV leg's one frame carries both edges. -/
def edgeDeparture (s : State) (n i : Nat) (second : Bool) : State :=
  match s.groupOf n with
  | none => s
  | some g =>
    if s.running g && s.legFitted n && !withheld s g n then
      let plan := (s.legOf n).plan
      let p32 := 32 * s.fld (PWM_GRP_PERIOD_ACT_PERIOD g)
      let t := (s.grpOf g).start * 32
      match plan[i]? with
      | none => if second && i = plan.length then carriedDeparture s n t else s
      | some e =>
        let on := onLeaves s n p32 plan i
        let off := offLeaves s n p32 t plan i
        let short := onDropped s n p32 plan i
        if n < 24 then
          if second then
            let s := s.when short fun s => s.inc (PWM_GRP_CNT_SHORT_CNT g)
            s.when on fun s => s.sendEdge (onLink n e.level) true (t + e.pos + dtAfter s n e.level)
          else s.when off fun s => s.sendEdge (offLink n e.level) false (t + e.pos)
        else if second then s
        else
          let s := s.when short fun s => s.inc (PWM_GRP_CNT_SHORT_CNT g)
          if on then s.sendTransition (n + 24) (bit e.level) (t + e.pos)
          else s.when off fun s => s.sendTransition (n + 24) 2 (t + e.pos)
    else s

/-! ### Forces (R93) -/

/-- The pair of channel states an LV leg takes under forces: kind 1 when only HS is on, 0 when only LS is on, 2 when neither. -/
def forceKind (hs ls : Nat) : Nat := if hs = 2 then 1 else if ls = 2 then 0 else 2

/-- An accepted write of PWM_LEG_FORCE acts on each channel whose forced state changes: RESUME, then the frame for the new state
with an edge time 160 ticks after the tick after the write. An unassigned leg sends no edge commands (R71): there the register alone
changes (DEDUCED, log 12). -/
def applyForce (s : State) (n hs ls : Nat) : State :=
  let taps := (s.mtime + 161) * 32
  let hs0 := s.fld (PWM_LEG_FORCE_HS n)
  let ls0 := s.fld (PWM_LEG_FORCE_LS n)
  let s := s.putAll [(PWM_LEG_FORCE_HS n, hs), (PWM_LEG_FORCE_LS n, ls)]
  if (s.groupOf n).isNone then s
  else if n < 24 then
    let s := s.when (ls ≠ ls0) fun s => (s.sendResume (2 * n)).sendEdge (2 * n) (ls = 2) taps
    s.when (hs ≠ hs0) fun s => (s.sendResume (2 * n + 1)).sendEdge (2 * n + 1) (hs = 2) taps
  else s.when (hs ≠ hs0 || ls ≠ ls0) fun s => (s.sendResume (n + 24)).sendTransition (n + 24) (forceKind hs ls) taps

/-- A write of PWM_LEG_FORCE (R93). -/
def legForce (s : State) (n : Nat) (data : Nat) : State × Status :=
  let hs := bitsOf data 0 2
  let ls := bitsOf data 2 2
  if !s.legFitted n then (s.refuse pwmErr .LEG_ABSENT, .LEG_ABSENT)
  else if hs = 3 || ls = 3 || (hs = 2 && ls = 2) then
    let s := (s.putFlag (PWM_LEG_STAT_FORCE_REJ n) true).inc (PWM_LEG_STAT_FORCE_REJ_CNT n)
    (s.refuse pwmErr .FORCE_BOTH_ON, .FORCE_BOTH_ON)
  else if !s.legStopped n then (s.refuse pwmErr .GROUP_RUNNING, .GROUP_RUNNING)
  else (applyForce s n hs ls, .OK)

/-! ### Leg allocation (R71) -/

/-- A write of PWM_LEG_CFG: GROUP is accepted only while the leg's group and the new one are STOPPED, also where it keeps its
value; DTMODE is locked by PWM_LOCK (R71, R107). -/
def legGroup (s : State) (n : Nat) (data : Nat) : State × Status :=
  let g := bitsOf data 0 4
  let free (x : Nat) : Bool := 12 ≤ x || s.stopped x
  let dt := bitsOf data 4 1
  match firstOf [(!s.legFitted n, .LEG_ABSENT), (12 ≤ g && g < 15, .GROUP_RANGE),
      (!(free g && free (s.fld (PWM_LEG_CFG_GROUP n))), .GROUP_RUNNING)] with
  | .OK =>
    let s := s.put (PWM_LEG_CFG_GROUP n) g
    if s.flag PWM_LOCK && dt ≠ s.fld (PWM_LEG_CFG_DTMODE n) then (s.refuse pwmErr .PWM_LOCKED, .PWM_LOCKED)
    else (s.put (PWM_LEG_CFG_DTMODE n) dt, .OK)
  | st => (s.refuse pwmErr st, st)

/-! ### Trip sources (R96, R97) -/

/-- The level at the input of a trip filter: the pin against its POL field, the comparator's output, or the fault summary
(R96). -/
def sourceActive (s : State) (src : Nat) (pin : Bool) : Bool :=
  if src < 16 then pin = s.flag (PWM_TRIP_FILT_POL src)
  else if src < 48 then s.flag (ADC_CMP_STAT_OUT (src - 16))
  else (s.lkOf (src - 48)).summary

/-- A pin's filter samples the level that stands on the pin, against its POL field. -/
def showPin (s : State) (src : Nat) : State := s.putFlag (PWM_TRIP_FILT_RAW src) (sourceActive s src (s.tripPins.testBit src))

/-- A source changes level at the filter input. -/
def tripSourceChange (s : State) (src : Nat) (pin : Bool) : State :=
  if src < 16 then showPin { s with tripPins := if pin then setBit s.tripPins src else clearBit s.tripPins src } src
  else s.putFlag (PWM_TRIP_FILT_RAW src) (sourceActive s src pin)

/-- The filtered output takes the sampled level; a source that goes active trips every running group that enables it (R97,
R98). -/
def tripSettled (s : State) (src : Nat) : State :=
  let raw := s.flag (PWM_TRIP_FILT_RAW src)
  if raw = s.flag (PWM_TRIP_FILT_FILT src) then s
  else
    let s := s.putFlag (PWM_TRIP_FILT_FILT src) raw
    if raw then
      let s := s.setFiltTime src s.mtime
      s.each ((List.range 12).filter fun g => s.running g && (enabledSources s g).contains src) fun s g => tripGroup s g src
    else s

/-! ### Triggers (R81) -/

/-- A trigger of a running group fires once per period, at the period's start + TIME, and raises its event; a TIME of P or more
never fires (R81). The period that runs is the one before the last reloaded one, while its start lies ahead. -/
def triggerFire (s : State) (g k : Nat) : State :=
  let h := s.grpOf g
  let p := if h.due then h.oldPeriod else s.fld (PWM_GRP_PERIOD_ACT_PERIOD g)
  let t := s.fld (PWM_GRP_TRG_TIME g k)
  if s.running g && s.flag (PWM_GRP_TRG_EN g k) && decide (t < p) && !h.fired.testBit k
      && decide (s.mtime = (if h.due then h.oldStart else h.start) + t) then
    (s.setGrp g { h with fired := setBit h.fired k }).emit (.event (4 * g + k) s.mtime)
  else s

end Sys2Proof.Machine
end

