-- ==== Sys2Proof/Machine/Satellite.lean ====
section
/-! DEFINITION. Chapter 04: gate satellites and LV leg drivers: what a satellite does with each frame, permit code, supply and
gate event, and what island 32 does with each frame that comes up a link (R108-R137, R538). -/

namespace Sys2Proof.Machine

/-- The error registers of the GS_ and LD_ blocks (R136, R137). -/
def gsErr : BlockErr where
  last := GS_ERR_LAST_ERR
  cnt := GS_ERR_ERR_CNT
  lock := GS_LOCK
  locked := .GS_LOCKED
  codes := [(.GS_RANGE, 1), (.GROUP_RUNNING, 2), (.GS_LOCKED, 3), (.LEG_ABSENT, 4), (.FAULT_PERSISTS, 5), (.SAT_SILENT, 6)]

def ldErr : BlockErr where
  last := LD_ERR_LAST_ERR
  cnt := LD_ERR_ERR_CNT
  lock := LD_LOCK
  locked := .GS_LOCKED
  codes := gsErr.codes

def linkErr (l : Nat) : BlockErr := if l < 48 then gsErr else ldErr

/-! ### Channels -/

/-- The channel goes off through its off path; a soft-off and a pull-down stand. The transition of an earlier turn-off is measured
on (R128). -/
def Chan.turnOff (c : Chan) : Chan :=
  { c with gate := if c.gate = .on then .off else c.gate, wantOn := false, blanked := false, sampled := false,
           measuring := c.measuring && c.gate ≠ .on }

/-- The channel goes on, unless its latch is set (R121) or it is unpowered. -/
def Chan.turnOn (c : Chan) : Chan :=
  if c.latch || c.gate = .pulled then c
  else { c with gate := .on, wantOn := false, blanked := false, sampled := false, measuring := false }

/-- The channel is to conduct by SAFE_ON or orphan ON: it stays on, or waits for its partner to be off (R127). -/
def Chan.want (c : Chan) : Chan := if c.gate = .on || c.latch then c else { c with wantOn := true }

/-- Both channels off, nothing pending. -/
def Rx.allOff (r : Rx) : Rx := { r with ch := r.ch.turnOff, hs := r.hs.turnOff, pend := [] }

/-- Off through the off path at once, and held off until the next on-edge in sequence (R113). In the other states the permit and
the orphan policy decide, not the edges (R124; log 107). -/
def Rx.seqOff (r : Rx) : Rx :=
  if r.state = .run then
    { r with ch := r.ch.turnOff, hs := r.hs.turnOff, pend := r.pend.filter fun e => !e.on, holdSeq := true }
  else r

/-- The down link is valid (R111, R112, R124). -/
def Rx.downValid (r : Rx) : Bool := !r.downSilent && r.needGood = 0

/-- A receiver may leave ORPHAN: its down link is valid, and a satellite's VPOS has reached 11.5 V since RESET (R118, R124;
log 108). -/
def Rx.mayLeave (r : Rx) (lv : Bool) : Bool := r.downValid && (lv || r.armedUv)

/-- SAFE_ON at a satellite; SAFE_HS or SAFE_LS at an LV leg driver (R123). -/
def Rx.safeOn (r : Rx) (lv hsSide : Bool) : Rx :=
  if lv then
    if hsSide then { r with state := .safeOn, hs := r.hs.want, ch := r.ch.turnOff, pend := [] }
    else { r with state := .safeOn, ch := r.ch.want, hs := r.hs.turnOff, pend := [] }
  else { r with state := .safeOn, ch := r.ch.want, pend := [] }

/-- Enter the state of the held code (R124); without one the state stays. -/
def Rx.enterHeld (r : Rx) (lv : Bool) : Rx :=
  match r.held with
  | some .safeOff => { r.allOff with state := .safeOff }
  | some .permit => { r.allOff with state := .armed }
  | some .safeOn => r.safeOn lv true
  | some .safeLs => r.safeOn lv false
  | none => r

/-- ORPHAN_POLICY_APPLY: ORPHAN with the orphan policy the satellite holds (R124, R125); a satellite whose VPOS has not reached 11.5 V
since RESET holds its channel off (R118). -/
def Rx.applyOrphan (r : Rx) (lv : Bool) : Rx :=
  let r := { r with state := .orphan, pend := [] }
  match if lv || r.armedUv then r.orphan else 0 with
  | 0 => r.allOff
  | 1 => if lv then { r with hs := r.hs.want, ch := r.ch.turnOff } else { r with ch := r.ch.want }
  | _ => { r with ch := r.ch.want, hs := r.hs.turnOff }

/-- A valid down frame ends a silence; an ORPHAN whose down link is valid and who holds a code leaves for its state (R124). -/
def Rx.gotFrame (r : Rx) (lv : Bool) : Rx :=
  let r := { r with downSilent := false }
  if r.state = .orphan && r.mayLeave lv then r.enterHeld lv else r

/-- An LV leg's link. -/
def isLv (l : Nat) : Bool := 48 ≤ l

/-- The satellite's copy of module time, in taps (R112). -/
def localTaps (s : State) (r : Rx) : Nat := (32 * (s.mtime : Int) + r.ofs).toNat

/-- FRAME_DISCARD at a satellite or driver (R108, R113). -/
def discardDown (s : State) (l : Nat) : State :=
  let s := s.setRx l { (s.rxOf l).seqOff with gapNext := true }
  if l < 48 then s.inc (GS_CNT_CRC_ERR l) else s

/-- What a powered receiver does with a down frame of TYPE `ty`: discard it, or hand its body on. -/
def onDown (s : State) (l : Nat) (f : BitVec 40) (ty : Nat) (act : State → State) : State :=
  if (s.rxOf l).state = .reset then s
  else match readFrame f ty 9 with
    | .discard => discardDown s l
    | .other => s
    | .body => act (s.setRx l ((s.rxOf l).gotFrame (isLv l)))

/-! ### TIME frames (R112) -/

/-- The difference between a TIME frame and the copy, in taps: the frame's value plus the calibrated delay less the copy, as a
signed number of 24 bits of ticks. -/
def timeDiff (s : State) (r : Rx) (value : Nat) : Int :=
  let m : Int := 2 ^ 29
  let d := (32 * (value : Int) + r.dly - localTaps s r) % m
  if d < m / 2 then d else d - m

/-- The satellite corrects its copy; a difference above one tick is a slip, and three in a row lead to ORPHAN until four TIME
frames have come without a slip. -/
def takeTime (s : State) (l : Nat) (value : Nat) : State :=
  let r := s.rxOf l
  let d := timeDiff s r value
  let r := { r with ofs := r.ofs + d }
  if d.natAbs ≤ 32 then
    let r := { r with slips := 0, needGood := r.needGood - 1 }
    s.setRx l (r.gotFrame (isLv l))
  else
    let n := r.slips + 1
    if 3 ≤ n || 0 < r.needGood then s.setRx l ({ r with slips := n, slip := true, needGood := 4 }.applyOrphan (isLv l))
    else s.setRx l { r with slips := n }

/-! ### EDGE and TRANSITION frames (R113, R132) -/

/-- Insert a scheduled edge in order of time. -/
def insertPend (e : PendEdge) : List PendEdge → List PendEdge
  | [] => [e]
  | a :: t => if e.taps < a.taps then e :: a :: t else a :: insertPend e t

/-- Turn a channel off in RUN and measure its transition (R128); an off-edge to a channel that is off changes nothing (R132). -/
def Rx.offEdge (r : Rx) (hs : Bool) : Rx :=
  let c := if hs then r.hs else r.ch
  if c.gate = .on then
    let c' := { c.turnOff with measuring := true }
    if hs then { r with hs := c' } else { r with ch := c' }
  else r

/-- Turn a channel off without a report (R128: a turn-off through a sequence event, a CUT or a fault gives none). -/
def Rx.plainOff (r : Rx) (hs : Bool) : Rx := if hs then { r with hs := r.hs.turnOff } else { r with ch := r.ch.turnOff }

/-- Count a late on-edge or one refused under a latch (R113, R121). -/
def countLate (s : State) (l : Nat) : State := if l < 48 then s.inc (GS_CNT_EDGE_LATE l) else s

/-- The sequence part of R113: whether the frame is in sequence, and the receiver with the frame's number as its reference and,
on a gap, its channels off. -/
def takeSeq (r : Rx) (num modulus : Nat) : Bool × Rx :=
  let ok := !r.gapNext && num = r.seq
  let r := { r with seq := (num + 1) % modulus, gapNext := false }
  (ok, if ok then r else r.seqOff)

/-- Schedule an off-edge, or apply one whose time has passed at once and hold the channels off (R113). -/
def takeOff (s : State) (l : Nat) (hs : Bool) (t : Nat) : State :=
  let r := s.rxOf l
  if t < localTaps s r then s.setRx l (r.plainOff hs).seqOff
  else s.setRx l { r with pend := insertPend ⟨t, hs, false⟩ r.pend }

/-- Schedule an on-edge in sequence, or discard one whose time has passed (R113). -/
def takeOn (s : State) (l : Nat) (hs : Bool) (t : Nat) : State :=
  let r := s.rxOf l
  let r := { r with holdSeq := false }
  if t < localTaps s r then countLate (s.setRx l r) l
  else s.setRx l { r with pend := insertPend ⟨t, hs, true⟩ r.pend }

/-- An EDGE frame at a satellite: only a channel in RUN obeys it (R124). -/
def takeEdge (s : State) (n : Nat) (f : BitVec 40) : State :=
  let r := s.rxOf n
  let q := takeSeq r (bodyBits f 13 8) 64
  let s := s.setRx n q.2
  let t := shortTime (localTaps s r) (bodyBits f 30 14)
  if r.state ≠ .run || r.xhold then s
  else if bodyBits f 31 31 = 1 then (if q.1 then takeOn s n false t else s)
  else takeOff s n false t

/-- A TRANSITION frame at an LV leg driver (R132). Kind 3 is reserved and schedules nothing. -/
def takeTransition (s : State) (l : Nat) (f : BitVec 40) : State :=
  let r := s.rxOf l
  let q := takeSeq r (bodyBits f 12 8) 32
  let s := s.setRx l q.2
  let t := shortTime (localTaps s r) (bodyBits f 29 13)
  if r.state ≠ .run || r.xhold then s
  else match bodyBits f 31 30 with
    | 0 =>
      let s := takeOff s l true t
      if q.1 && decide (localTaps s r ≤ t) then takeOn s l false (t + r.dtHL) else s
    | 1 =>
      let s := takeOff s l false t
      if q.1 && decide (localTaps s r ≤ t) then takeOn s l true (t + r.dtLH) else s
    | 2 => takeOff (takeOff s l true t) l false t
    | _ => s

/-! ### Other down frames (R109) -/

/-- CUT: off through the off path, every pending on-edge cancelled. Cuts act in RUN (R124; log 107). -/
def takeCut (s : State) (l : Nat) : State :=
  let r := s.rxOf l
  if r.state = .run then
    s.setRx l { r with ch := r.ch.turnOff, hs := r.hs.turnOff, pend := r.pend.filter fun e => !e.on }
  else s

/-- RESUME: a channel in ARMED enters RUN, and a hold by a cross-link refusal ends (R124, R127). -/
def takeResume (s : State) (l : Nat) : State :=
  let r := s.rxOf l
  let r := { r with xhold := false }
  s.setRx l (if r.state = .armed then { r with state := .run, pend := [] } else r)

/-- The 2-bit permit code of ALIVE: the order of R123, 3 also for no code (log 14). -/
def permitCode : Option Permit → Nat
  | some .safeOff => 0
  | some .permit => 1
  | some .safeOn => 2
  | some .safeLs => 3
  | none => 3

/-- The state code of R124. -/
def SatState.code : SatState → Nat
  | .reset => 0 | .orphan => 1 | .safeOff => 2 | .safeOn => 3 | .armed => 4 | .run => 5

/-- Send ALIVE (R110). -/
def sendAlive (s : State) (l : Nat) : State :=
  let r := s.rxOf l
  let lv := isLv l
  s.up l 0 (r.state.code * 2 ^ 21 + bit (r.ch.latch || (lv && r.hs.latch)) * 2 ^ 20 + permitCode r.held * 2 ^ 18
    + bit (lv && r.hs.latch) * 2 ^ 17 + bit (lv && r.ch.latch) * 2 ^ 16)

/-- A channel whose latch is cleared: its soft-off ends in plain off. -/
def Chan.clear (c : Chan) : Chan :=
  { c with latch := false, cause := 0, gate := if c.gate = .soft || c.gate = .softOff then .off else c.gate }

/-- With its latch gone, a channel is governed by its state again: SAFE_ON and orphan ON call for conduction (R124). -/
def Rx.rejoin (r : Rx) (lv : Bool) : Rx :=
  match r.state with
  | .safeOn => r.enterHeld lv
  | .orphan => r.applyOrphan lv
  | _ => r

/-- CLEAR: refused while a supply fault is present, else accepted; the answer is ALIVE (R121). -/
def takeClear (s : State) (l : Nat) : State :=
  let r := s.rxOf l
  let s := if r.uv || r.vneg || r.drvUv then s
    else s.setRx l (Rx.rejoin { r with ch := r.ch.clear, hs := r.hs.clear } (isLv l))
  sendAlive s l

/-- CFG_WR and CFG_RD. -/
def takeCfgWr (s : State) (l : Nat) (f : BitVec 40) : State :=
  let r := s.rxOf l
  s.setRx l { r with cfg := Tbl.set 0 r.cfg (bodyBits f 31 25) (bodyBits f 24 8) }

def takeCfgRd (s : State) (l : Nat) (f : BitVec 40) : State :=
  let a := bodyBits f 31 25
  s.up l 3 (a * 2 ^ 17 + Tbl.get 0 (s.rxOf l).cfg a)

/-- DTSET at an LV leg driver (R132). -/
def takeDtset (s : State) (l : Nat) (f : BitVec 40) : State :=
  let r := s.rxOf l
  let v := bodyBits f 30 14
  s.setRx l (if bodyBits f 31 31 = 1 then { r with dtLH := v } else { r with dtHL := v })

/-- IDENT_REQ: two IDENT frames, low half first. -/
def takeIdentReq (s : State) (l : Nat) : State :=
  let id := Config.identity l % 2 ^ 46
  (s.up l 7 (id % 2 ^ 23)).up l 7 (2 ^ 23 + id / 2 ^ 23)

/-! ### Faults at the satellite (R118-R121, R131) -/

/-- Set the latch of a channel with a cause and send FAULT with the module time at which the condition became valid (R110,
R121). Scheduled on-edges stand: each is refused and counted while the latch is set (R121). -/
def raiseFault (s : State) (l : Nat) (hs : Bool) (cause : Nat) (gate : Gate → Gate) : State :=
  let r := s.rxOf l
  let c := if hs then r.hs else r.ch
  let c' := { c.turnOff with latch := true, cause := cause, gate := gate c.gate }
  let s := s.setRx l (if hs then { r with hs := c' } else { r with ch := c' })
  s.up l 2 (cause % 16 * 2 ^ 20 + bit (isLv l && !hs) * 2 ^ 19 + s.mtime % 2 ^ 19)

/-- Off through OUTOFF. -/
def plainGate (g : Gate) : Gate := if g = .on then .off else g

/-- Off through FOFF first (R117). -/
def softGate (g : Gate) : Gate := if g = .pulled then .pulled else .soft

/-- The desaturation threshold in mV (R120): fixed, or tracking the baseline once 16 samples have been taken. -/
def dsatThreshold (s : State) (n : Nat) : Nat :=
  let fixed := 3000 + 100 * s.fld (GS_CFG_DSAT_TH n)
  let r := s.rxOf n
  if s.flag (GS_CFG_TRACK n) && 16 ≤ r.samples then
    min fixed (max 3000 (r.baseMv + 100 * s.fld (GS_CFG_TRACK_MARGIN n)))
  else fixed

/-- DESAT: armed while commanded on and after blanking (R120). -/
def desatValid (s : State) (n mv : Nat) : State :=
  let c := (s.rxOf n).ch
  if s.flag (GS_CFG_DSAT_EN n) && c.gate = .on && c.blanked && decide (dsatThreshold s n < mv) then
    raiseFault s n false 1 softGate
  else s

/-- SC: armed while commanded on, blanking included (R120). -/
def shortCircuit (s : State) (n mv : Nat) : State :=
  if s.flag (GS_CFG_SC_EN n) && (s.rxOf n).ch.gate = .on && decide (100 + 100 * s.fld (GS_CFG_SC_TH n) < mv) then
    raiseFault s n false 2 softGate
  else s

/-- 2.0 µs after FOFF, OUTOFF is driven as well (R121). -/
def softOffTimer (s : State) (n : Nat) : State :=
  let r := s.rxOf n
  if r.ch.gate = .soft then s.setRx n { r with ch := { r.ch with gate := .softOff } } else s

/-- VPOS_UV or VNEG_RANGE valid, once the checks have armed (R118). -/
def supplyFault (s : State) (n : Nat) (vneg : Bool) : State :=
  let r := s.rxOf n
  if r.state ≠ .reset && r.armedUv then
    let s := s.setRx n (if vneg then { r with vneg := true } else { r with uv := true })
    raiseFault s n false (if vneg then 4 else 3) plainGate
  else s

/-- VDS of an LV channel that is commanded on (R131): it turns off and latches, and the leg's other channel stays off until the
next accepted clear. -/
def vdsFault (s : State) (k : Nat) (hs : Bool) (mv : Nat) : State :=
  let l := k + 48
  let r := s.rxOf l
  let c := if hs then r.hs else r.ch
  let th := 200 + 100 * (if hs then s.fld (LD_CFG_VDS_HS k) else s.fld (LD_CFG_VDS_LS k))
  if s.flag (LD_CFG_VDS_EN k) && c.gate = .on && c.blanked && decide (th < mv) then
    let s := raiseFault s l hs 5 plainGate
    s.setRx l ((s.rxOf l).plainOff (!hs))
  else s

/-- DRV_UV: both channels of the leg off (R119). Both are latched, and HS's FAULT frame leaves before that of LS (DESIGN CHOICE, log 126). -/
def driverUv (s : State) (k : Nat) : State :=
  let l := k + 48
  let r := s.rxOf l
  if r.state = .reset then s
  else raiseFault (raiseFault (s.setRx l { r with drvUv := true }) l true 6 plainGate) l false 6 plainGate

/-- BLANKING_END: the channel is still on (R120). -/
def blankingEnd (s : State) (l : Nat) (hs : Bool) : State :=
  let r := s.rxOf l
  if isLv l && hs then (if r.hs.gate = .on then s.setRx l { r with hs := { r.hs with blanked := true } } else s)
  else (if r.ch.gate = .on then s.setRx l { r with ch := { r.ch with blanked := true } } else s)

/-- The baseline after a sample (R120): the first sets it; each later one moves it by a sixteenth, upward by at most 0.1 V. It is kept
in whole mV, a sixteenth rounded toward the old baseline (DESIGN CHOICE, log 126). -/
def nextBaseline (samples base mv : Nat) : Nat :=
  if samples = 0 then mv
  else if mv < base then base - (base - mv) / 16 else base + min ((mv - base) / 16) 100

/-- Send MEAS (R110). -/
def sendMeas (s : State) (l kind value : Nat) : State := s.up l 4 (kind * 2 ^ 22 + value % 2 ^ 12 * 2 ^ 10 + s.mtime % 2 ^ 10)

/-- BASELINE_SAMPLE, at most once per on-interval (R120); the new baseline is reported (log 15), in 0.1 V rounded down (DESIGN
CHOICE, log 126). -/
def baselineSample (s : State) (n mv : Nat) : State :=
  let r := s.rxOf n
  if r.ch.gate = .on && r.ch.blanked && !r.ch.sampled then
    let b := nextBaseline r.samples r.baseMv mv
    sendMeas (s.setRx n { r with baseMv := b, samples := min (r.samples + 1) 16, ch := { r.ch with sampled := true } }) n 2 (b / 100)
  else s

/-! ### Permit codes and the cross-link (R123-R127) -/

/-- PERMIT_LOSS (R123, R125). -/
def permitLoss (s : State) (l : Nat) : State :=
  let r := s.rxOf l
  if r.state = .reset then s else s.setRx l ({ r with held := none }.applyOrphan (isLv l))

/-- PERMIT_CODE_TAKEN (R123, R124): the 80 % code is invalid at a satellite, and four such cycles are permit loss. -/
def permitTaken (s : State) (l : Nat) (c : Permit) : State :=
  let r := s.rxOf l
  if r.state = .reset then s
  else if l < 48 && c = .safeLs then permitLoss s l
  else
    let r' := { r with held := some c }
    if r.state = .orphan then s.setRx l (if r'.mayLeave (isLv l) then r'.enterHeld (isLv l) else r')
    else if r.held = some c then s else s.setRx l (r'.enterHeld (isLv l))

/-- Send XREFUSE (R110). -/
def sendXrefuse (s : State) (l : Nat) (refused : Bool) : State := s.up l 5 (bit refused * 2 ^ 23)

/-- CROSS_LINK_REFUSAL: the channel stays off, discards edges until RESUME and sends a hold to its partner (R127). -/
def refuseOn (s : State) (l : Nat) : State :=
  sendXrefuse (s.setRx l { (s.rxOf l).allOff with xhold := true, holdOut := true }) l true

/-- CROSS_LINK_STATE: satellite `n` receives its partner's gate state and the hold of a refusal, which acts on a channel in RUN; a
partner in RESET sends nothing (R127). What arrives is what the partner sends: its gate and its hold. -/
def crossLink (s : State) (n : Nat) (partnerOn hold : Bool) : State :=
  let r := s.rxOf n
  let p := s.rxOf (partnerOf n)
  if r.state = .reset || p.state = .reset || partnerOn ≠ decide (p.ch.gate = .on) || hold ≠ p.holdOut then s
  else
    let s := s.setRx (partnerOf n) { p with holdOut := false }
    let r := { r with partnerOn := partnerOn, xSilent := false }
    if hold && r.state = .run then sendXrefuse (s.setRx n { r.allOff with xhold := true }) n false else s.setRx n r

/-- PARTNER_OFF_TURN_ON: SAFE_ON or orphan ON turns the channel on (R127); of an LV leg neither channel while one is latched
(R131). -/
def partnerOff (s : State) (l : Nat) : State :=
  let r := s.rxOf l
  if isLv l then
    if r.hs.latch || r.ch.latch then s
    else if r.hs.wantOn && r.ch.gate ≠ .on then s.setRx l { r with hs := r.hs.turnOn }
    else if r.ch.wantOn && r.hs.gate ≠ .on then s.setRx l { r with ch := r.ch.turnOn } else s
  else if r.ch.wantOn && !r.partnerOn && !r.xSilent then s.setRx l { r with ch := r.ch.turnOn } else s

/-- An on-edge whose time comes is refused: the partner conducts or is treated as conducting, or both sides have an on-edge in
the same tap and this is the high side (R127). -/
def onRefused (s : State) (l : Nat) (e : PendEdge) : Bool :=
  let r := s.rxOf l
  if isLv l then (if e.hs then r.ch.gate = .on else r.hs.gate = .on)
  else r.partnerOn || r.xSilent
    || (l % 2 = 1 && (((s.rxOf (partnerOf l)).pend.any fun p => p.on && p.taps = e.taps)
      || ((s.rxOf (partnerOf l)).ch.gate = .on && (s.rxOf (partnerOf l)).lastOn = some e.taps)))

/-- EDGE_PLACEMENT: the next scheduled edge time is reached (R87, R113, R121, R127). -/
def edgePlacement (s : State) (l : Nat) : State :=
  let r := s.rxOf l
  match r.pend with
  | [] => s
  | e :: rest =>
    let s := s.setRx l { r with pend := rest }
    let r := s.rxOf l
    if r.state ≠ .run then s
    else if !e.on then s.setRx l (r.offEdge e.hs)
    else
      let c := if e.hs then r.hs else r.ch
      if c.latch then countLate s l
      else if r.holdSeq || r.xhold then s
      else if isLv l && (r.hs.latch || r.ch.latch) then s
      else if onRefused s l e then refuseOn s l
      else s.setRx l (if e.hs then { r with hs := c.turnOn } else { r with ch := c.turnOn, lastOn := some e.taps })

/-! ### Reports (R128, R129) -/

/-- TRANSITION_MEASURED: TREPORT with the incomplete flag when the swing was not finished within the leg's DT_MAX, which is then the
value sent (DESIGN CHOICE, log 126). -/
def transitionMeasured (s : State) (l : Nat) (hs : Bool) (taps : Nat) : State :=
  let r := s.rxOf l
  let hs := isLv l && hs
  let c := if hs then r.hs else r.ch
  if c.measuring then
    let lim := s.fld (PWM_LEG_DTLIM_DT_MAX (legOfLink l))
    let c' := { c with measuring := false }
    let s := s.setRx l (if hs then { r with hs := c' } else { r with ch := c' })
    s.up l 1 (bit (lim < taps) * 2 ^ 23 + bit (isLv l && !hs) * 2 ^ 22 + min taps lim % 2 ^ 17 * 2 ^ 5)
  else s

/-- SATELLITE_MEASUREMENT: NTC and die temperature of a satellite, die temperature of a driver (R129). -/
def satMeasure (s : State) (l : Nat) (ntc die : Nat) : State :=
  if (s.rxOf l).state = .reset then s
  else if l < 48 then sendMeas (sendMeas s l 0 ntc) l 1 die else sendMeas s l 1 die

/-- MEASUREMENT_STALE (R129). -/
def measStale (s : State) (l : Nat) (die : Bool) : State :=
  if l < 48 then s.putFlag (if die then GS_DIE_STALE l else GS_NTC_STALE l) true
  else s.when die fun s => s.putFlag (LD_DIE_STALE ((l - 48) / 2)) true

/-! ### Up frames at island 32 (R110, R111) -/

/-- A valid up frame ends a silence and counts toward the four that a clear of LINK_LOST needs (R111). -/
def goodUp (s : State) (l : Nat) : State :=
  let k := s.lkOf l
  let s := s.setLk l { k with goodUp := min (k.goodUp + 1) 4 }
  if l < 48 then s.putFlag (GS_STAT_UP_OK l) true else s.putFlag (LD_STAT_LINK_OK (l - 48)) (!(s.rxOf l).downSilent)

/-- What island 32 does with an up frame of TYPE `ty` on a fitted link: discard and count it (R108), which ends a run of fewer than
four valid frames (R111), or take its body. -/
def onUp (s : State) (l : Nat) (f : BitVec 40) (ty : Nat) (act : State → State) : State :=
  if !s.linkFitted l then s
  else match readFrame f ty 7 with
    | .discard =>
      let s := s.setLk l { s.lkOf l with goodUp := if 4 ≤ (s.lkOf l).goodUp then 4 else 0 }
      if l < 48 then s.inc (GS_CNT_CRC_ERR l) else s
    | .other => s
    | .body => act (goodUp s l)

/-- The pairs of a role (R42, R43): the mask of its record, or the default. -/
def rolePairs (s : State) (role : Nat) : Nat :=
  let m := Tbl.get 0 s.roles role
  if m ≠ 0 then m
  else match role with
    | 0 => 0x003 | 1 => 0x03C | 2 => 0x0C0 | 3 => 0x100 | 4 => 0x200 | 5 => 0x400 | _ => 0x800

/-- The lowest-numbered pair of a role, which receives the interrupts of blocks without an OWNER field (R42). -/
def rolePair (s : State) (role : Nat) : Nat := ((bitsSet 12 (rolePairs s role)).head?).getD 0

/-- The fault summary of a link as the trip filter sees it. -/
def setSummary (s : State) (l : Nat) (b : Bool) : State := s.setLk l { s.lkOf l with summary := b }

/-- The fault summary of a link goes active, with an interrupt to the pair of the Safety role (R42, R96). -/
def raiseSummary (s : State) (l : Nat) : State :=
  if (s.lkOf l).summary then s else (setSummary s l true).irq (rolePair s 6) .gs l 0

/-- The clear a waiting CLEAR gets from an ALIVE answer (R121); a silence since the CLEAR has left the link with fewer than four
valid frames in a row keeps it refused (R111). -/
def clearAnswer (s : State) (l : Nat) (latched : Bool) : State :=
  let latched := latched || ((s.lkOf l).lost && (s.lkOf l).goodUp < 4)
  let res := if latched then 2 else 1
  let s := if l < 48 then s.put (GS_STAT_CLR_RESULT l) res else s.put (LD_STAT_CLR_RESULT (l - 48)) res
  let s := s.setLk l { s.lkOf l with clearWait := false }
  if latched then (s.refuse (linkErr l) .FAULT_PERSISTS).finish (.satClear l) .FAULT_PERSISTS
  else
    let s := setSummary s l false
    let s := s.setLk l { s.lkOf l with lost := false }
    let s := if l < 48 then s.putAll [(GS_STAT_FAULT l, 0), (GS_STAT_CAUSE l, 0)]
      else s.putAll [(LD_STAT_FAULT_HS (l - 48), 0), (LD_STAT_FAULT_LS (l - 48), 0), (LD_STAT_CAUSE (l - 48), 0)]
    s.finish (.satClear l) .OK

/-- LATCH_RESTORE: a latch that the first ALIVE after a cold start's enumeration shows (R538). -/
def latchRestore (s : State) (l : Nat) (f : BitVec 40) : State :=
  let s := s.setLk l { s.lkOf l with restore := false }
  if bodyBits f 28 28 = 1 then
    let s := raiseSummary s l
    if l < 48 then s.putAll [(GS_STAT_FAULT l, 1), (GS_STAT_CAUSE l, 15)]
    else s.putAll [(LD_STAT_FAULT_HS (l - 48), bodyBits f 25 25), (LD_STAT_FAULT_LS (l - 48), bodyBits f 24 24),
      (LD_STAT_CAUSE (l - 48), 15)]
  else s

/-- ALIVE at island 32 (R110): the reported state, the answer of a waiting CLEAR, a latch to restore. What ALIVE says of the down
link, the slips and the cross-link is read from the satellite (log 16). -/
def takeAlive (s : State) (l : Nat) (f : BitVec 40) : State :=
  let r := s.rxOf l
  let s := if l < 48 then
      let s := s.putAll [(GS_STAT_STATE l, bodyBits f 31 29), (GS_STAT_DOWN_OK l, bit (!r.downSilent)),
        (GS_STAT_XLINK_OK l, bit (!r.xSilent))]
      s.when r.slip fun s => (s.putFlag (GS_STAT_SLIP l) true).setRx l { s.rxOf l with slip := 3 ≤ r.slips }
    else s.putAll [(LD_STAT_STATE (l - 48), bodyBits f 31 29), (LD_STAT_LINK_OK (l - 48), bit (!r.downSilent))]
  let k := s.lkOf l
  let s := if k.restore then latchRestore s l f else s
  if k.clearWait then clearAnswer s l (bodyBits f 28 28 = 1) else s

/-- TREPORT at island 32 (R90, R91, R128): the last transition, and for a complete one the report of the dead time that follows
that turn-off. -/
def takeTreport (s : State) (l : Nat) (f : BitVec 40) : State :=
  let inc := bodyBits f 31 31
  let dir := bodyBits f 30 30
  let t := bodyBits f 29 13
  let n := legOfLink l
  let lsOff := if l < 48 then l % 2 = 0 else dir = 1
  let s := if l < 48 then s.putAll [(GS_TRANS_T_MEAS l, t), (GS_TRANS_INCOMPLETE l, inc)]
    else s.putAll [(LD_TRANS_T_MEAS (l - 48), t), (LD_TRANS_INCOMPLETE (l - 48), inc), (LD_TRANS_DIR (l - 48), dir)]
  if inc = 1 then s
  else s.setLeg n (if lsOff then { s.legOf n with rptLH := some t } else { s.legOf n with rptHL := some t })

/-- FAULT at island 32 (R121, R122): the latch, its cause and time, the fault summary; the delivery to the Saggar and the other
blocks is the command's (Safety). -/
def takeFault (s : State) (l : Nat) (f : BitVec 40) : State :=
  let cause := bodyBits f 31 28
  let t := extendTime s.mtime 19 (bodyBits f 26 8)
  let s := raiseSummary s l
  let s := if l < 48 then
      (s.putAll [(GS_STAT_FAULT l, 1), (GS_STAT_CAUSE l, cause), (GS_FAULT_TLO_T_LO l, t), (GS_FAULT_THI_T_HI l, t / 2 ^ 32)]).inc
        (GS_CNT_FAULT_CNT l)
    else
      let k := l - 48
      s.putAll [(if bodyBits f 27 27 = 0 then LD_STAT_FAULT_HS k else LD_STAT_FAULT_LS k, 1), (LD_STAT_CAUSE k, cause),
        (LD_FAULT_TLO_T_LO k, t), (LD_FAULT_THI_T_HI k, t / 2 ^ 32)]
  s.trace 3 0 [l, cause]

/-- MEAS at island 32 (R129). An NTC above 2.45 V or below 0.02 V is BROKEN. -/
def takeMeas (s : State) (l : Nat) (f : BitVec 40) : State :=
  let v := bodyBits f 29 18
  let t := extendTime s.mtime 10 (bodyBits f 17 8)
  match bodyBits f 31 30 with
  | 0 =>
    if l < 48 then
      s.putAll [(GS_NTC_VALUE l, v), (GS_NTC_BROKEN l, bit (245000 < 61 * v || 61 * v < 2000)), (GS_NTC_STALE l, 0),
        (GS_MEAS_TIME_T l, t)]
    else s
  | 1 =>
    if l < 48 then s.putAll [(GS_DIE_TEMP l, v), (GS_DIE_STALE l, 0), (GS_MEAS_TIME_T l, t)]
    else s.putAll [(LD_DIE_TEMP ((l - 48) / 2), v), (LD_DIE_STALE ((l - 48) / 2), 0)]
  | 2 =>
    if l < 48 then s.putAll [(GS_BASE_BASELINE l, v), (GS_BASE_BASE_VALID l, bit (16 ≤ (s.rxOf l).samples))] else s
  | _ => s

/-- XREFUSE at island 32 (R94): the refusing channel's frame counts the event. -/
def takeXrefuse (s : State) (l : Nat) (f : BitVec 40) : State :=
  let n := legOfLink l
  let s := s.putFlag (PWM_LEG_STAT_XLINK_REFUSE n) true
  let s := s.when (bodyBits f 31 31 = 1) fun s => s.inc (PWM_LEG_STAT_XLINK_CNT n)
  s.setLeg n { s.legOf n with reissue := true }

/-- The down delay of a mean round trip in taps, rounded down (R114; DESIGN CHOICE, log 126). -/
def downDelay (l roundTrip : Nat) : Nat := (((roundTrip : Int) - 2048 + Config.linkAsym l) / 2).toNat

/-- The applied delay of a link, in its register and in the satellite. -/
def applyDelay (s : State) (l d : Nat) : State :=
  let s := if l < 48 then s.put (GS_CAL_LINK_DLY l) d else s.put (LD_CAL_LINK_DLY (l - 48)) d
  s.setRx l { s.rxOf l with dly := d }

/-- CAL_ECHO at island 32: one round trip more; the sixteenth of an enumeration gives the delay, from the mean
rounded down (R114; DESIGN CHOICE, log 126). -/
def takeCalEcho (s : State) (l roundTrip : Nat) : State :=
  let k := s.lkOf l
  let sum := k.rtSum + roundTrip
  if k.rtCnt + 1 < 16 then s.setLk l { k with rtSum := sum, rtCnt := k.rtCnt + 1 }
  else
    let s := s.setLk l { k with rtSum := 0, rtCnt := 0 }
    s.when (s.fld PWR_START_STAT_STEP = 7) fun s => applyDelay s l (downDelay l (sum / 16))

/-- IDENT at island 32: one half of the identity (R110, R134). -/
def takeIdent (s : State) (l : Nat) (f : BitVec 40) : State :=
  let k := s.lkOf l
  let v := bodyBits f 30 8
  let id := if bodyBits f 31 31 = 0 then k.ident / 2 ^ 23 * 2 ^ 23 + v else k.ident % 2 ^ 23 + v * 2 ^ 23
  let s := s.setLk l { k with ident := id }
  if l < 48 then s.putAll [(GS_ID_LO_ID l, id), (GS_ID_HI_ID l, id / 2 ^ 32)] else s

/-- CFG_DATA at island 32. -/
def takeCfgData (s : State) (l : Nat) (f : BitVec 40) : State :=
  s.setLk l { s.lkOf l with cfgData := some (bodyBits f 31 25, bodyBits f 24 8) }

/-! ### Links (R111, R116) -/

/-- UP_LINK_SILENT: LINK_LOST makes the fault summary active (R111). -/
def upSilent (s : State) (l : Nat) : State :=
  if !s.linkFitted l then s
  else
    let s := raiseSummary (s.setLk l { s.lkOf l with lost := true, goodUp := 0 }) l
    if l < 48 then s.putAll [(GS_STAT_UP_OK l, 0), (GS_STAT_CAUSE l, 7)]
    else s.putAll [(LD_STAT_LINK_OK (l - 48), 0), (LD_STAT_CAUSE (l - 48), 7)]

/-- DOWN_LINK_SILENT: the orphan policy (R111, R125). -/
def downSilent (s : State) (l : Nat) : State :=
  let r := s.rxOf l
  if r.state = .reset then s else s.setRx l ({ r with downSilent := true }.applyOrphan (isLv l))

/-- The pair that receives what concerns a leg: the owner of its group, or the Supervision role (R116). -/
def legOwner (s : State) (n : Nat) : Nat :=
  match s.groupOf n with
  | some g => s.fld (PWM_GRP_CTRL_OWNER g)
  | none => rolePair s 0

/-- LINK_CALIBRATION (R116): the applied delay moves by at most one tap toward the measurement; a jump of more than 32 taps is
flagged and not applied. -/
def linkCalibration (s : State) (l roundTrip : Nat) : State :=
  if !s.linkFitted l then s
  else
    let cur := if l < 48 then s.fld (GS_CAL_LINK_DLY l) else s.fld (LD_CAL_LINK_DLY (l - 48))
    let d := downDelay l roundTrip
    if (cur : Int) - d > 32 || (d : Int) - cur > 32 then
      let s := s.putFlag (if l < 48 then GS_STAT_CAL_JUMP l else LD_STAT_CAL_JUMP (l - 48)) true
      s.irq (legOwner s (legOfLink l)) (if l < 48 then .gs else .ld) l 1
    else applyDelay s l (oneTap cur d)

/-! ### Register writes of the blocks (R134-R136) -/

/-- A write of GS_CLEAR or LD_CLEAR, or SAT_CLEAR (R111, R121). -/
def satClear (s : State) (l : Nat) : State × Status :=
  let k := s.lkOf l
  if !s.linkFitted l then (s.refuse (linkErr l) .LEG_ABSENT, .LEG_ABSENT)
  else if k.lost && k.goodUp < 4 then
    let s := if l < 48 then s.put (GS_STAT_CLR_RESULT l) 2 else s.put (LD_STAT_CLR_RESULT (l - 48)) 2
    (s.refuse (linkErr l) .FAULT_PERSISTS, .FAULT_PERSISTS)
  else ((s.setLk l { k with clearWait := true }).sendClear l, .OK)

/-- CLEAR_ANSWER_TIMEOUT: no answer within 10 µs (R121). -/
def clearTimeout (s : State) (l : Nat) : State :=
  let k := s.lkOf l
  if k.clearWait then
    let s := s.setLk l { k with clearWait := false }
    let s := if l < 48 then s.put (GS_STAT_CLR_RESULT l) 3 else s.put (LD_STAT_CLR_RESULT (l - 48)) 3
    (s.refuse (linkErr l) .SAT_SILENT).finish (.satClear l) .SAT_SILENT
  else s

/-- A write of GS_CFG (R134): sent to the satellite as CFG_WR and read back. -/
def gsCfg (s : State) (n : Nat) (data : Nat) : State × Status :=
  let fs : List (Fld × Nat) := [(GS_CFG_DSAT_TH n, bitsOf data 0 6), (GS_CFG_DSAT_BLANK n, bitsOf data 6 7),
    (GS_CFG_TRACK n, bitsOf data 13 1), (GS_CFG_TRACK_MARGIN n, bitsOf data 14 6), (GS_CFG_SC_TH n, bitsOf data 20 4),
    (GS_CFG_SC_EN n, bitsOf data 24 1), (GS_CFG_DSAT_EN n, bitsOf data 25 1)]
  let m := bitsOf data 14 6
  match firstOf [(!s.linkFitted n, .LEG_ABSENT), (!s.legStopped (n / 2), .GROUP_RUNNING),
      (125 ≤ bitsOf data 6 7 || m < 5 || 40 < m, .GS_RANGE),
      (s.flag GS_LOCK && fs.any (fun e => s.fld e.1 ≠ e.2), .GS_LOCKED)] with
  | .OK => if s.flag GS_LOCK then (s, .OK) else ((s.putAll fs).emit (.cfgWr n (data % 2 ^ 26)), .OK)
  | st => (s.refuse gsErr st, st)

/-- A write of LD_CFG, under the rules of GS_CFG (R135). -/
def ldCfg (s : State) (k : Nat) (data : Nat) : State × Status :=
  let fs : List (Fld × Nat) := [(LD_CFG_VDS_HS k, bitsOf data 0 5), (LD_CFG_VDS_LS k, bitsOf data 5 5),
    (LD_CFG_BLANK k, bitsOf data 10 7), (LD_CFG_VDS_EN k, bitsOf data 17 1)]
  match firstOf [(!s.linkFitted (k + 48), .LEG_ABSENT), (!s.legStopped (k + 24), .GROUP_RUNNING),
      (29 < bitsOf data 0 5 || 29 < bitsOf data 5 5 || 125 ≤ bitsOf data 10 7, .GS_RANGE),
      (s.flag LD_LOCK && fs.any (fun e => s.fld e.1 ≠ e.2), .GS_LOCKED)] with
  | .OK => if s.flag LD_LOCK then (s, .OK) else ((s.putAll fs).emit (.cfgWr (k + 48) (data % 2 ^ 18)), .OK)
  | st => (s.refuse ldErr st, st)

/-! ### Supplies (R118, R119, R124) -/

/-- The satellite loses its supply: RESET, the pull-down holds the gate, what it held is gone (R117, R125). -/
def belowReset (s : State) (n : Nat) : State := s.setRx n {}

/-- The satellite leaves RESET for ORPHAN and holds OFF (R124, R125). -/
def leaveReset (s : State) (n : Nat) : State :=
  let r := s.rxOf n
  if r.state = .reset then
    s.setRx n { r with state := .orphan, orphan := 0, ch := { gate := .off }, hs := { gate := .off } }
  else s

end Sys2Proof.Machine
end

