-- ==== Sys2Proof/Machine/Saggar.lean ====
section
/-! DEFINITION. Chapter 12: the Saggar (R310-R334): demands and latches, the safe-state choice and the permit codes, safe outputs,
heartbeat, release, and the Fjop connections. -/

namespace Sys2Proof.Machine

def safErr : BlockErr where
  last := SAF_ERR_LAST_ERR
  cnt := SAF_ERR_ERR_CNT
  lock := SAF_LOCK
  locked := .SAF_LOCKED
  codes := [(.SAF_RANGE, 1), (.SAF_LOCKED, 2), (.SAF_BUSY, 3)]

namespace State

def sagGrpOf (s : State) (g : Nat) : SagGrp := Tbl.get {} s.sagGrp g
def setSagGrp (s : State) (g : Nat) (v : SagGrp) : State := { s with sagGrp := Tbl.set {} s.sagGrp g v }
def soutOf (s : State) (n : Nat) : Sout := Tbl.get {} s.sout n
def setSout (s : State) (n : Nat) (v : Sout) : State := { s with sout := Tbl.set {} s.sout n v }
def fjopOf (s : State) (c : Nat) : Fjop := Tbl.get {} s.fjop c
def setFjop (s : State) (c : Nat) (v : Fjop) : State := { s with fjop := Tbl.set {} s.fjop c v }

/-- The group is latched (R316). -/
def latched (s : State) (g : Nat) : Bool := s.fld (SAF_GSTAT_STATE g) = 2

/-- The groups that are latched, as a mask. -/
def latchedMask (s : State) : Nat := (List.range 12).foldl (fun m g => if s.latched g then m + 2 ^ g else m) 0

end State

/-! ### Sources (R312, R319) -/

/-- A source that demands: its cause, the groups it names, whether it acts at device level, its functions, and whether its own
level holds it active (otherwise it lasts until the release that clears it). -/
structure Src where
  cause : Nat
  groups : Nat := 0
  dev : Bool := false
  func : Nat := 1
  level : Bool := true
  deriving DecidableEq, Repr, Inhabited

/-- The groups of the enabled machine slots on a DC link. -/
def linkGroups (s : State) (j : Nat) : Nat :=
  (List.range 4).foldl (fun m k =>
    if s.flag (TRC_M_CFG_EN k) && s.fld (TRC_M_CFG_LINK k) = j then setBit m (s.fld (TRC_M_CFG_GROUP k)) else m) 0

/-- The group mask in the header of an engine's program (R205): bits [27:16] of word 3. -/
def engineMask (s : State) (e : Nat) : Nat := bitsOf (s.word (0x40000000 + e * 0x20000 + 24)).toNat 16 12

/-- The demand of a safety input that is no second half of a pair (R313). -/
def sinActive (s : State) (i : Nat) : Bool :=
  let d := s.fld SAF_SIN_STAT_DEMAND
  if i % 2 = 1 && s.flag (SAF_SIN_CFG_PAIR (i - 1)) then false
  else if s.flag (SAF_SIN_CFG_PAIR i) then d.testBit i || d.testBit (i + 1) || s.sag.disc.testBit (i / 2)
  else d.testBit i

/-- The source of safety input `i`, of OV3 comparator `j`, of Fjop connection `c`. -/
def sinSrc (s : State) (i : Nat) : Src :=
  ⟨0x10 + i, s.fld (SAF_SIN_MAP_GROUPS i), s.flag (SAF_SIN_MAP_DEV i), s.fld (SAF_SIN_MAP_FUNC i) ||| 1, true⟩
def ov3Src (s : State) (j : Nat) : Src :=
  ⟨5 + j, s.fld (SAF_OV3_CFG_GROUPS j), s.flag (SAF_OV3_CFG_DEV j), s.fld (SAF_OV3_FUNC j) ||| 3, true⟩
def fjopSrc (s : State) (c : Nat) : Src :=
  ⟨0x26, s.fld (SAF_FJ_MAP_GROUPS c), s.flag (SAF_FJ_MAP_DEV c), s.fld (SAF_FJ_MAP_FUNC c) ||| 1, true⟩

/-- The demands of the DC links: OV3_DIGITAL, and OV2_NO_CHOPPER while OV2 is set and the fitted chopper is unavailable; both
force ASC (R221, R225, R243). -/
def linkSrcs (s : State) (j : Nat) : List Src :=
  (if s.flag (TRC_DL_STAT_OV3 j) then [⟨1, linkGroups s j, false, 3, true⟩] else [])
    ++ (if s.flag (TRC_DL_STAT_OV2 j) && s.flag (TRC_DL_CFG_CHOP_EN j) && !s.flag (TRC_DL_STAT_CHOP_AVAIL j) then
      [⟨2, linkGroups s j, false, 3, true⟩] else [])

/-- Every active source (R312). START_EXHAUSTED is released only as R65 states. -/
def sources (s : State) : List Src :=
  linkSrcs s 0 ++ linkSrcs s 1
    ++ ((List.range 2).filter fun j => s.flag (SAF_OV3_CFG_EN j) && (s.fld SAF_OV3_STAT_OUT).testBit j).map (ov3Src s)
    ++ ((List.range 16).filter fun i => sinActive s i).map (sinSrc s)
    ++ ((List.range 32).filter fun c => (s.fjopOf c).fail).map (fjopSrc s)
    ++ ((List.range 32).filter fun e => s.flag (LE_STAT_ESCALATED e)).map (fun e => ⟨0x40 + e, engineMask s e, false, 1, true⟩)
    ++ s.sag.evts.map (fun d => ⟨d.cause, d.groups, d.dev, d.func, d.cause = 0xFF⟩)

/-- The device-level latch takes in the group: its MODES bit for SAFE is 0 (R315, R316). -/
def devNames (s : State) (g : Nat) : Bool := !(s.fld (SAF_GTBL_MODES g)).testBit 4

/-- The source names the group. -/
def Src.names (x : Src) (s : State) (g : Nat) : Bool := x.groups.testBit g || (x.dev && devNames s g)

/-! ### The safe-state choice and the permit codes (R317-R320) -/

/-- FORCED(g): an active source that names the group forces ASC (R319). -/
def forced (s : State) (g : Nat) : Bool := (sources s).any fun x => x.func.testBit 1 && x.names s g

/-- ASC on SIDE: ASC_LS 1, ASC_HS 2. -/
def ascOnSide (s : State) (g : Nat) : Nat := 1 + s.fld (SAF_GTBL_SIDE g)

/-- The choice of a group by R319, from its present choice. -/
def choiceOf (s : State) (g : Nat) (forcedNow : Bool) : Nat :=
  let pol := s.fld (SAF_GTBL_POLICY g)
  let rpm := s.fld (SAF_GSTAT_RPM g)
  if s.flag (SAF_GSTAT_FAULT_DEC g) then s.fld (SAF_GSTAT_CHOICE g)
  else if pol = 0 then 3
  else if pol = 2 || forcedNow then ascOnSide s g
  else if !s.flag (SAF_GSTAT_SPD_OK g) || s.fld (SAF_GASC_ASC_ON g) ≤ rpm then ascOnSide s g
  else if rpm < s.fld (SAF_GASC_ASC_OFF g) then 0
  else s.fld (SAF_GSTAT_CHOICE g)

/-- SAFE_STATE_CHOICE_CHANGE: re-evaluate one group. -/
def evalChoice (s : State) (g : Nat) : State :=
  let f := forced s g
  s.putAll [(SAF_GSTAT_FORCED g, bit f), (SAF_GSTAT_CHOICE g, choiceOf s g f)]

/-- Re-evaluate every group (R318). -/
def evalChoices (s : State) : State := s.each (List.range 12) evalChoice

/-- The code a latched group's channel receives (R320). -/
def choiceCode (choice l : Nat) : Permit :=
  if 48 ≤ l then (if choice = 1 then .safeLs else if choice = 2 then .safeOn else .safeOff)
  else if l % 2 = 0 then (if choice = 1 then .safeOn else .safeOff)
  else (if choice = 2 then .safeOn else .safeOff)

/-- The group of an enabled machine slot (R47, R218). -/
def tractionGroup (s : State) (g : Nat) : Bool :=
  (List.range 4).any fun m => s.flag (TRC_M_CFG_EN m) && s.fld (TRC_M_CFG_GROUP m) = g

/-- CHARGE or EXPORT, or a change to one of them: the traction groups are in their safe state (R47, R48; log 115). -/
def tractionOff (s : State) : Bool :=
  s.mode = 3 || s.mode = 4 || (s.flag PWR_MODE_CHANGING && (s.fld PWR_MODE_TARGET = 3 || s.fld PWR_MODE_TARGET = 4))

/-- The group is held in its safe state outside a latch: one with a failed leg, and a traction group in CHARGE or EXPORT (R47, R60;
log 115). -/
def heldSafe (s : State) (g : Nat) : Bool := s.groupFailed g || (tractionOff s && tractionGroup s g)

/-- What the Saggar sends a group (R317): 0 no carrier, 1 PERMIT, 2 the codes of its safe state. -/
def sagState (s : State) (g : Nat) : Nat :=
  if s.latched g || heldSafe s g then 2
  else if s.running g || (1 ≤ s.mode && (s.fld (SAF_GTBL_MODES g)).testBit (s.mode - 1)) then 1 else 0

/-- The permit carrier of a link (R54, R311, R317, R320); none: no carrier. In START_EXHAUSTED, which never reaches mode-ready, it sends
none, and the orphan policies hold every group (DESIGN CHOICE, log 114). -/
def carrier (s : State) (l : Nat) : Option Permit :=
  let n := legOfLink l
  if s.sag.dead || !s.ready || 2 ≤ s.fld PWR_PS_STAT_STATE || !s.linkFitted l then none
  else match s.groupOf n with
    | none => some .safeOff
    | some g =>
      if (s.legOf n).failed then some .safeOff
      else match sagState s g with
        | 2 => some (choiceCode (s.fld (SAF_GSTAT_CHOICE g)) l)
        | 1 => some .permit
        | _ => none

/-! ### Safe outputs (R322, R323) -/

/-- An output takes its request unless it is held off, failed, or a start runs (R323, R325). -/
def soutDrive (s : State) (n : Nat) : State :=
  let h := s.soutOf n
  let off := h.dev || h.fdev || h.groups ≠ 0
  let ok := s.ready && !off && !h.ovl && !s.flag (SAF_SOUT_STAT_FAIL_A n) && !s.flag (SAF_SOUT_STAT_FAIL_B n)
  s.putAll [(SAF_SOUT_STAT_HELD_OFF n, bit off), (SAF_SOUT_STAT_ON n, bit (ok && (s.fld SAF_SOUT_REQ_ON).testBit n))]

/-- Begin a test pulse: one switch opens, A and B in turn (R324). -/
def pulseBegin (s : State) (n : Nat) : State :=
  let h := s.soutOf n
  let s := { s with sag := { s.sag with pulse := some (n, h.testB) } }
  (s.setSout n { h with testB := !h.testB }).put (SAF_SOUT_TT_T n) s.mtime

/-- The next waiting pulse of an output that is still on begins. -/
def pulseNext (s : State) : List Nat → State
  | [] => { s with sag := { s.sag with pulse := none, pulses := [] } }
  | n :: t =>
    if s.flag (SAF_SOUT_STAT_ON n) && s.flag (SAF_SOUT_CFG_TEST_EN n) then
      pulseBegin { s with sag := { s.sag with pulses := t } } n
    else pulseNext s t

/-- A pulse on an output that goes off ends, and the next that waits begins. -/
def dropPulse (s : State) : State :=
  match s.sag.pulse with
  | some (n, _) => if s.flag (SAF_SOUT_STAT_ON n) then s else pulseNext s s.sag.pulses
  | none => s

/-- Drive every output. -/
def soutDriveAll (s : State) : State := dropPulse (s.each (List.range 8) soutDrive)

/-- The outputs of a function: SPK 2 role 4, SCO 3 roles 1 and 2, SCS 4 role 3 (R322, R323). -/
def funcRole (b role : Nat) : Bool :=
  match b with
  | 2 => role = 4
  | 3 => role = 1 || role = 2
  | _ => role = 3

/-- The outputs of a function switch off and stay off until the latch of the groups and of the device is released. -/
def holdFunc (s : State) (f : FuncDemand) : State :=
  s.each (List.range 8) fun s n =>
    if funcRole f.bit (s.fld (SAF_SOUT_CFG_ROLE n)) then
      let h := s.soutOf n
      s.setSout n { h with groups := h.groups ||| (f.groups &&& s.latchedMask), fdev := h.fdev || f.dev }
    else s

/-! ### Latches (R316) -/

/-- Latch one group; the first cause and its time are kept. -/
def latchGroup (s : State) (cause g : Nat) : State :=
  if s.latched g then s
  else enterSafeGroup (s.putAll [(SAF_GSTAT_STATE g, 2), (SAF_GSTAT_CAUSE g, cause), (SAF_GTIME_T g, s.mtime)]) g

/-- The present mode becomes `m`: MODE_CHANGE event and trace record. -/
def setMode (s : State) (m : Nat) : State :=
  let old := s.mode
  let s := s.putAll [(PWR_MODE_CHANGING, 0), (PWR_MODE_TARGET, 0), (PWR_MODE, m)]
  let s := postEvent s 2 [BitVec.ofNat 8 old, BitVec.ofNat 8 m, BitVec.ofNat 8 (s.fld PWR_MODE_SAFE_CAUSE)]
  s.trace 6 0 [old, m]

/-- DEVICE_SAFE_ENTRY and SAFE_PREEMPT (R49, R51): mode SAFE with the cause; a running mode change is cancelled. -/
def enterSafeMode (s : State) (cause : Nat) : State :=
  if s.mode = 0 then s
  else if s.mode = 5 then
    if s.flag PWR_MODE_CHANGING then
      (s.putAll [(PWR_MODE_CHANGING, 0), (PWR_MODE_TARGET, 0), (PWR_MODE_SAFE_CAUSE, cause)]).finish .modeChange .SAFE_PREEMPTED
    else s
  else setMode ((s.put PWR_MODE_SAFE_CAUSE cause).finish .modeChange .SAFE_PREEMPTED) 5

/-- A device-level demand latches the device; later causes are counted (R316). -/
def latchDevice (s : State) (cause : Nat) : State :=
  if s.flag SAF_STAT_DEV_LATCH then s.inc SAF_STAT_CAUSE_CNT
  else
    let s := s.putAll [(SAF_STAT_DEV_LATCH, 1), (SAF_STAT_DEV_CAUSE, cause)]
    let s := s.each (List.range 8) fun s n =>
      if s.flag (SAF_SOUT_CFG_SAFE_OFF n) then s.setSout n { s.soutOf n with dev := true } else s
    enterSafeMode s cause

/-- The groups a source names, rising. -/
def namedGroups (s : State) (x : Src) : List Nat := (List.range 12).filter fun g => x.names s g

/-- SAGGAR_LATCH: a demand latches the groups it names, and the device at device level; its functions begin; the choices are
evaluated again (R316, R319, R322). -/
def demand (s : State) (x : Src) : State :=
  let fresh := (namedGroups s x).filter fun g => !s.latched g
  let mask := fresh.foldl (fun m g => m + 2 ^ g) 0
  let newDev := x.dev && !s.flag SAF_STAT_DEV_LATCH
  let s := s.each fresh fun s g => latchGroup s x.cause g
  let s := s.when x.dev fun s => latchDevice s x.cause
  let fs := ((List.range 5).filter fun b => 2 ≤ b && x.func.testBit b).map fun b => (⟨b, x.groups, x.dev, s.mtime⟩ : FuncDemand)
  let s := { s with sag := { s.sag with funcs := s.sag.funcs ++ fs, scs := s.sag.scs || x.func.testBit 4 } }
  let s := s.when (mask ≠ 0 || newDev) fun s =>
    (postEvent s 3 (BitVec.ofNat 8 x.cause :: leBytes 2 mask)).trace 1 0 [x.cause, mask % 256, mask / 256]
  soutDriveAll (evalChoices s)

/-- A demand of a source that lasts until the release that clears it; a further demand of the same cause widens it (R312, R327). -/
def demandEvt (s : State) (cause groups : Nat) (dev : Bool) (func : Nat) : State :=
  let old := s.sag.evts.filter fun d => d.cause = cause
  let d : EvtDemand := old.foldl (fun a d => ⟨cause, a.groups ||| d.groups, a.dev || d.dev, a.func ||| d.func⟩)
    ⟨cause, groups, dev, func ||| 1⟩
  let s := { s with sag := { s.sag with evts := (s.sag.evts.filter fun d => d.cause ≠ cause) ++ [d] } }
  demand s ⟨cause, groups, dev, func ||| 1, false⟩

/-! ### Two faults close in time (R122) -/

/-- The side a decision gives: all paired channels low sides: ASC_HS; all high sides: ASC_LS; else ALL_OFF. -/
def faultSide (paired : List Nat) : Nat :=
  if paired.all fun c => c % 2 = 0 then 2 else if paired.all fun c => c % 2 = 1 then 1 else 3

/-- FAULT_PAIR_DECISION: a report of channel `c` of group `g` with condition-valid time `t` is compared with every earlier report
of the group. -/
def faultReport (s : State) (g c t : Nat) : State :=
  let h := s.sagGrpOf g
  let mates := h.reports.filter fun r => r.1 ≠ c && max r.2 t - min r.2 t ≤ 400
  let s := s.setSagGrp g { h with
    reports := h.reports ++ [(c, t)]
    paired := if mates.isEmpty then h.paired else h.paired ++ mates.map (·.1) ++ [c] }
  if mates.isEmpty then s
  else
    let side := faultSide (s.sagGrpOf g).paired
    let side := if s.flag (SAF_GSTAT_FAULT_DEC g) && s.fld (SAF_GSTAT_CHOICE g) = 3 then 3 else side
    let s := s.putAll [(SAF_GSTAT_FAULT_DEC g, 1), (SAF_GSTAT_CHOICE g, side)]
    demandEvt s 0x24 (2 ^ g) false 1

/-! ### Release (R328) -/

/-- A source blocks a release: its own level holds it active. -/
def blocks (x : Src) : Bool := x.level

/-- The device latch can be released: no device-level source is active by its own level (log 18). -/
def devFree (s : State) : Bool := !(sources s).any fun x => blocks x && x.dev

/-- The judgement of a named, latched group: 0 released, 1 SAFE_HELD, 2 RELEASE_AT_SPEED. A device-level event that names it
holds it until a release that names the device too. -/
def judge (s : State) (devOk : Bool) (g : Nat) : Nat :=
  if (sources s).any fun x => x.names s g && (blocks x || (x.dev && !devOk)) then 1
  else if s.fld (SAF_GTBL_POLICY g) = 1
      && (!s.flag (SAF_GSTAT_SPD_OK g) || s.fld (SAF_GASC_ASC_OFF g) ≤ s.fld (SAF_GSTAT_RPM g)) then 2
  else 0

/-- A released group enters STOPPED; its decision, reports and cause are cleared (R328). -/
def unlatch (s : State) (g : Nat) : State :=
  let s := s.putAll [(SAF_GSTAT_STATE g, 0), (SAF_GSTAT_FAULT_DEC g, 0), (SAF_GSTAT_CAUSE g, 0)]
  releaseGroup (s.setSagGrp g { s.sagGrpOf g with reports := [], paired := [] }) g

/-- What a release of groups `done` and, if `devOk`, of the device leaves of the event demands. -/
def clearEvts (evts : List EvtDemand) (done : Nat) (devOk : Bool) : List EvtDemand :=
  evts.filterMap fun d =>
    let d := { d with groups := d.groups - (d.groups &&& done), dev := d.dev && !devOk }
    if d.groups = 0 && !d.dev then none else some d

/-- RELEASE_SECOND_KEY with the right key: judge each named group and the device (R328). -/
def releaseJudged (s : State) (groups : Nat) (dev : Bool) : State :=
  let devOk := dev && devFree s
  let named := (List.range 12).filter fun g => groups.testBit g && s.latched g
  let held := named.filter fun g => judge s devOk g = 1
  let fast := named.filter fun g => judge s devOk g = 2
  let done := named.filter fun g => judge s devOk g = 0
  let doneMask := done.foldl (fun m g => m + 2 ^ g) 0
  let refused := (held ++ fast).foldl (fun m g => m + 2 ^ g) 0
  let devHeld := dev && s.flag SAF_STAT_DEV_LATCH && !devOk
  let result := if !held.isEmpty || devHeld then 2 else if !fast.isEmpty then 3 else 1
  let s := s.each done unlatch
  let s := { s with sag := { s.sag with evts := clearEvts s.sag.evts doneMask devOk } }
  let s := s.when devOk fun s => s.putAll [(SAF_STAT_DEV_LATCH, 0), (SAF_STAT_DEV_CAUSE, 0)]
  let left := s.latchedMask
  let s := s.each (List.range 8) fun s n =>
    let h := s.soutOf n
    s.setSout n { h with dev := h.dev && !devOk, fdev := h.fdev && !devOk, groups := h.groups &&& left }
  let s := { s with sag := { s.sag with
    rel := none
    funcs := s.sag.funcs.filter fun f => (f.groups &&& left) ≠ 0 || (f.dev && !devOk) } }
  soutDriveAll (evalChoices (s.putAll [(SAF_REL_STAT_RESULT, result), (SAF_REL_STAT_REFUSED, refused)]))

/-- RELEASE_FIRST_KEY: a new sequence; one that was open ends with RELEASE_KEY. -/
def releaseFirst (s : State) (groups : Nat) (dev : Bool) : State :=
  let s := s.when s.sag.rel.isSome fun s => s.put SAF_REL_STAT_RESULT 4
  { s with sag := { s.sag with rel := some (groups, dev, s.mtime) } }

/-- Any other sequence is ignored, and RESULT shows RELEASE_KEY. -/
def releaseBroken (s : State) : State := { s.put SAF_REL_STAT_RESULT 4 with sag := { s.sag with rel := none } }

/-- The second key: the same groups and DEV within 100 µs (R328). -/
def releaseSecond (s : State) (groups : Nat) (dev : Bool) : State :=
  match s.sag.rel with
  | some (g, d, t) => if g = groups && d = dev && s.mtime ≤ t + 40000 then releaseJudged s groups dev else releaseBroken s
  | none => releaseBroken s

/-- RELEASE_WINDOW_EXPIRY: an open sequence lapses. -/
def releaseExpiry (s : State) : State := if s.sag.rel.isSome then releaseBroken s else s

/-! ### Speed words (R229, R318) -/

/-- The Saggar receives a speed word. -/
def speedWord (s : State) (g rpm : Nat) (ok : Bool) : State :=
  let s := s.putAll [(SAF_GSTAT_RPM g, rpm), (SAF_GSTAT_SPD_OK g, bit ok)]
  evalChoice (s.setSagGrp g { s.sagGrpOf g with wordAt := s.mtime }) g

/-- SPEED_WORD_TIMEOUT: 40 µs without a speed word (R229). -/
def speedLost (s : State) (g : Nat) : State := evalChoice (s.putFlag (SAF_GSTAT_SPD_OK g) false) g

/-! ### Safety inputs and comparators (R313, R314) -/

/-- An input that demanded as a cold start began and whose pins have all gone high since holds no latch any more (R59). -/
def dropStanding (s : State) : State :=
  let raw := s.fld SAF_SIN_STAT_RAW
  { s with sag := { s.sag with stand := s.sag.stand.filter fun x => x.ins = 0 || (bitsSet 16 x.ins).any fun i => !raw.testBit i } }

/-- A filtered input takes the level `high`: it demands while low, with its pair if it has one. -/
def safetyInput (s : State) (i : Nat) (high : Bool) : State :=
  let d := s.fld SAF_SIN_STAT_DEMAND
  let raw := s.fld SAF_SIN_STAT_RAW
  let s := s.putAll [(SAF_SIN_STAT_DEMAND, if high then clearBit d i else setBit d i),
    (SAF_SIN_STAT_RAW, if high then setBit raw i else clearBit raw i)]
  let m := if i % 2 = 1 && s.flag (SAF_SIN_CFG_PAIR (i - 1)) then i - 1 else i
  let s := dropStanding s
  if high then evalChoices s else demand s (sinSrc s m)

/-- DISCREPANCY_TIMEOUT: the filtered inputs of a pair have disagreed for longer than DISC ms. -/
def discrepancy (s : State) (p : Nat) : State :=
  let i := 2 * p
  let d := s.fld SAF_SIN_STAT_DEMAND
  if s.flag (SAF_SIN_CFG_PAIR i) && d.testBit i ≠ d.testBit (i + 1) then
    let s := s.put SAF_SIN_DISC_DISC_ERR (setBit (s.fld SAF_SIN_DISC_DISC_ERR) p)
    demand { s with sag := { s.sag with disc := setBit s.sag.disc p } } (sinSrc s i)
  else s

/-- DISCREPANCY_HOLD_END: both inputs have read high together for DISC ms. -/
def discrepancyEnd (s : State) (p : Nat) : State :=
  let d := s.fld SAF_SIN_STAT_DEMAND
  if s.sag.disc.testBit p && !d.testBit (2 * p) && !d.testBit (2 * p + 1) then
    evalChoices { s with sag := { s.sag with disc := clearBit s.sag.disc p } }
  else s

/-- OV3_COMPARATOR: the filtered output of a comparator changes; with EN = 0 it is inactive. -/
def ov3Output (s : State) (j : Nat) (on : Bool) : State :=
  let o := s.fld SAF_OV3_STAT_OUT
  let s := if on then s else { s with sag := { s.sag with stand := s.sag.stand.filter fun x => x.cause ≠ 5 + j } }
  if !s.flag (SAF_OV3_CFG_EN j) then s.put SAF_OV3_STAT_OUT (clearBit o j)
  else if on then
    let s := s.put SAF_OV3_STAT_OUT (setBit o j)
    demand s (ov3Src s j)
  else evalChoices (s.put SAF_OV3_STAT_OUT (clearBit o j))

/-! ### Safe outputs: requests, tests, loads (R323-R325) -/

/-- A write of SAF_SOUT_REQ: a request that goes off forgets an overload. -/
def soutRequest (s : State) (req : Nat) : State :=
  let s := s.put SAF_SOUT_REQ_ON req
  let s := s.each (List.range 8) fun s n =>
    if req.testBit n then s else s.setSout n { s.soutOf n with ovl := false }
  soutDriveAll s

/-- A pulse falls due: an output that is off or not tested gets none; one that falls due during another waits. -/
def soutTest (s : State) (n : Nat) : State :=
  if !s.flag (SAF_SOUT_STAT_ON n) || !s.flag (SAF_SOUT_CFG_TEST_EN n) then s
  else match s.sag.pulse with
    | none => pulseBegin s n
    | some _ => { s with sag := { s.sag with pulses := s.sag.pulses ++ [n] } }

/-- TEST_PULSE_END: a passed test counts; a failed one sets FAIL_A or FAIL_B, latches the output off until the next cold start and
demands SOUT_TEST_FAIL (R324, R325). -/
def pulseEnd (s : State) (pass : Bool) : State :=
  match s.sag.pulse with
  | none => s
  | some (n, b) =>
    let s := pulseNext s s.sag.pulses
    if pass then s.inc (SAF_SOUT_STAT_TEST_CNT n)
    else
      let s := s.putFlag (if b then SAF_SOUT_STAT_FAIL_B n else SAF_SOUT_STAT_FAIL_A n) true
      demandEvt (soutDriveAll s) 0x25 0 true 1

/-- SAFE_OUTPUT_OVERLOAD: more than 0.8 A for 1 ms. -/
def soutOverload (s : State) (n : Nat) : State :=
  if s.flag (SAF_SOUT_STAT_ON n) then
    soutDriveAll ((s.setSout n { s.soutOf n with ovl := true }).putFlag (SAF_SOUT_STAT_OVLD n) true)
  else s

/-- SAFE_OUTPUT_OPEN: less than 5 mA for 100 ms while on. -/
def soutOpen (s : State) (n : Nat) : State := if s.flag (SAF_SOUT_STAT_ON n) then s.putFlag (SAF_SOUT_STAT_OPEN n) true else s

/-- CONTACTOR_DELAY_EXPIRY: CONT_DLY after the groups reached their choice, the SCO and SCS outputs of the oldest standing demand switch
off (R322). -/
def contactorDelay (s : State) : State :=
  match s.sag.funcs.find? (fun f => 3 ≤ f.bit) with
  | none => s
  | some old =>
    let due (f : FuncDemand) : Bool := 3 ≤ f.bit && f.at_ = old.at_
    let s := s.each (s.sag.funcs.filter due) holdFunc
    soutDriveAll { s with sag := { s.sag with funcs := s.sag.funcs.filter fun f => !due f } }

/-- Every POLICY SPEED group shows SPD_OK and a speed below PARK_SPD (R322). -/
def parkSlow (s : State) : Bool :=
  (List.range 12).all fun g =>
    s.fld (SAF_GTBL_POLICY g) ≠ 1 || (s.flag (SAF_GSTAT_SPD_OK g) && s.fld (SAF_GSTAT_RPM g) < s.fld SAF_PARK_PARK_SPD)

/-- PARK_SPEED_CONFIRMED: the park-lock outputs of a standing SPK demand switch off. -/
def parkConfirmed (s : State) : State :=
  if parkSlow s then
    let fs := s.sag.funcs.filter fun f => f.bit = 2
    let s := s.each fs holdFunc
    soutDriveAll { s with sag := { s.sag with funcs := s.sag.funcs.filter fun f => f.bit ≠ 2 } }
  else s

/-! ### Heartbeat (R326) -/

/-- A violation demands HEARTBEAT_LOST and asks island 41 for a warm start (R312, R326). -/
def heartbeatLost (s : State) : State :=
  let s := { s with sag := { s.sag with hbArmed := false, hbLast := none, warm := true } }
  demandEvt (s.putFlag SAF_STAT_HB_OK false) 0x22 0 true 1

/-- A write of SAF_HB: too early, too late or with a wrong value it is a violation; the first write sets the reference. -/
def heartbeat (s : State) (v : Nat) : State :=
  if !s.sag.hbArmed then s
  else match s.sag.hbLast with
    | none => { s.putFlag SAF_STAT_HB_OK true with sag := { s.sag with hbLast := some (s.mtime, v) } }
    | some (t, w) =>
      if s.mtime < t + 4000 * s.fld SAF_HB_CFG_HB_MIN || t + 4000 * s.fld SAF_HB_CFG_HB_MAX < s.mtime || v ≠ (w + 1) % 256 then heartbeatLost s
      else { s.putFlag SAF_STAT_HB_OK true with sag := { s.sag with hbLast := some (s.mtime, v) } }

/-- HEARTBEAT_TIMEOUT: no write within HB_MAX. -/
def heartbeatTimeout (s : State) : State := if s.sag.hbArmed then heartbeatLost s else s

/-! ### Fjop (R330-R334) -/

/-- The buffer of a connection (R341): 32 payload bytes, then LEN. -/
def fjopBuf (c : Nat) : Nat := 0x60059000 + c * 0x40

/-- The CRC of a frame's first bytes under a connection ID (R331). -/
def fjopCrc (id : Nat) (head : List Byte) : Nat := crc32c (leBytes 4 id ++ head)

/-- A frame from its sequence number and payload (R330). -/
def fjopForm (id seq : Nat) (payload : List Byte) : List Byte :=
  let head := BitVec.ofNat 8 (64 + payload.length) :: leBytes 2 seq ++ payload
  head ++ leBytes 4 (fjopCrc id head)

/-- The connection enters FAILED (R333): 1 TIMEOUT, 2 ERRORS, 3 TX_LATE. -/
def fjopFail (s : State) (c why : Nat) : State :=
  let s := s.putAll [(SAF_FJ_STAT_STATE c, 3), (SAF_FJ_STAT_VALID c, 0), (SAF_FJ_STAT_FAIL c, why)]
  let s := s.setFjop c { s.fjopOf c with fail := true, errs := [] }
  demand s (fjopSrc s c)

/-- A discarded frame counts; ERR_MAX of them within 1 s fail the connection (R333). -/
def fjopError (s : State) (c : Nat) (cnt : Fld) : State :=
  let s := s.inc cnt
  let h := s.fjopOf c
  let errs := (h.errs.filter fun t => decide (s.mtime < t + 400000000)) ++ [s.mtime]
  let s := s.setFjop c { h with errs := errs }
  if s.fld (SAF_FJ_CFG_ERR_MAX c) ≤ errs.length then fjopFail s c 2 else s

/-- Accept a frame: the payload buffer, NEW, the arrival time, RUN (R332). -/
def fjopAccept (s : State) (c seq : Nat) (payload : List Byte) : State :=
  let s := s.setBytes (fjopBuf c) ((payload ++ List.replicate 32 0).take 32 ++ [BitVec.ofNat 8 payload.length])
  let s := s.putAll [(SAF_FJ_STAT_STATE c, 2), (SAF_FJ_STAT_VALID c, 1), (SAF_FJ_STAT_NEW c, 1), (SAF_FJ_STAT_SEQ c, seq),
    (SAF_FJ_TIME_T c, s.mtime)]
  evalChoices (s.setFjop c { s.fjopOf c with fail := false })

/-- FJOP_FRAME_ARRIVAL: the checks of R332 on an enabled receive connection in WAIT or RUN. -/
def fjopArrive (s : State) (c : Nat) (frame : List Byte) : State :=
  let st := s.fld (SAF_FJ_STAT_STATE c)
  if !s.flag (SAF_FJ_CFG_EN c) || s.flag (SAF_FJ_CFG_DIR c) || (st ≠ 1 && st ≠ 2) then s
  else
    let b0 := ((frame.head?).getD 0).toNat
    let len := b0 % 64
    if b0 / 64 ≠ 1 || 32 < len || frame.length ≠ 7 + len then fjopError s c (SAF_FJ_CNT_CRC_ERR c)
    else if fjopCrc (s.fld (SAF_FJ_ID c)) (frame.take (3 + len)) ≠ ofBytes (frame.drop (3 + len)) then
      fjopError s c (SAF_FJ_CNT_CRC_ERR c)
    else
      let seq := ofBytes ((frame.drop 1).take 2)
      let payload := (frame.drop 3).take len
      if st = 1 then fjopAccept s c seq payload
      else
        let gap := (seq + 65536 - s.fld (SAF_FJ_STAT_SEQ c)) % 65536
        if gap = 0 then s
        else if s.fld (SAF_FJ_CFG_MAXGAP c) < gap then fjopError s c (SAF_FJ_CNT_SEQ_ERR c)
        else fjopAccept (s.addSat (SAF_FJ_CNT_LOST c) (gap - 1)) c seq payload

/-- FJOP_RECEIVE_TIMEOUT: no accepted frame for T_EXP. -/
def fjopTimeout (s : State) (c : Nat) : State :=
  let st := s.fld (SAF_FJ_STAT_STATE c)
  if s.flag (SAF_FJ_CFG_EN c) && !s.flag (SAF_FJ_CFG_DIR c) && (st = 1 || st = 2) then fjopFail s c 1 else s

/-- FJOP_RESET: an enabled connection goes to WAIT; FJOP_FAIL stands until RUN (R333). -/
def fjopReset (s : State) (c : Nat) : State :=
  if s.flag (SAF_FJ_CFG_EN c) then s.putAll [(SAF_FJ_STAT_STATE c, 1), (SAF_FJ_STAT_VALID c, 0)] else s

/-- FJOP_SEND: form the frame from the buffer and hand it to its channel as class 0 (R334). A frame to the host becomes an event at
once (R411, R419). -/
def fjopSend (s : State) (c : Nat) : State × Status :=
  let h := s.fjopOf c
  if !s.flag (SAF_FJ_CFG_EN c) || !s.flag (SAF_FJ_CFG_DIR c) then (s, .OK)
  else if h.tx.isSome then (s.refuse safErr .SAF_BUSY, .SAF_BUSY)
  else
    let len := min 32 (s.byte (fjopBuf c + 32)).toNat
    let f := fjopForm (s.fld (SAF_FJ_ID c)) h.txSeq (s.bytesAt (fjopBuf c) len)
    let s := s.putAll [(SAF_FJ_STAT_STATE c, 2), (SAF_FJ_STAT_VALID c, 1), (SAF_FJ_STAT_SEQ c, h.txSeq), (SAF_FJ_TIME_T c, s.mtime)]
    let h := { h with txSeq := (h.txSeq + 1) % 65536, fail := false }
    if s.fld (SAF_FJ_CFG_CHANNEL c) = 9 then
      let s := s.setFjop c h
      (evalChoices (postEvent s 5 (BitVec.ofNat 8 (s.fld (SAF_FJ_ADDR c) % 32) :: BitVec.ofNat 8 f.length :: f)), .OK)
    else (evalChoices (s.setFjop c { h with tx := some f }), .OK)

/-- FJOP_SEND_TIMEOUT: no SEND for T_EXP (R334). -/
def fjopSendTimeout (s : State) (c : Nat) : State :=
  let st := s.fld (SAF_FJ_STAT_STATE c)
  if s.flag (SAF_FJ_CFG_EN c) && s.flag (SAF_FJ_CFG_DIR c) && (st = 1 || st = 2) then fjopFail s c 3 else s

/-! ### The Saggar table and register writes (R315, R321, R337-R341) -/

/-- The orphan policy of a link under its group's table entry (R321): 1 ON, for an LV leg HS ON; 2 LS ON. -/
def orphanOf (s : State) (g l : Nat) : Nat :=
  if !s.flag (SAF_GTBL_ORPHAN g) then 0
  else if 48 ≤ l then (if s.flag (SAF_GTBL_SIDE g) then 1 else 2)
  else if (l % 2 = 1) = s.flag (SAF_GTBL_SIDE g) then 1 else 0

/-- Write an orphan policy to a satellite or driver and read it back (R114, R134, R135); one that is in ORPHAN takes it (R124). -/
def setOrphan (s : State) (l v : Nat) : State :=
  let r := { s.rxOf l with orphan := v }
  let s := (s.setRx l (if r.state = .orphan then r.applyOrphan (48 ≤ l) else r)).emit (.cfgWr l v)
  if l < 48 then s.putAll [(GS_ORPHAN_POLICY l, v), (GS_ORPHAN_VALID l, 1)]
  else s.putAll [(LD_ORPHAN_POLICY (l - 48), v), (LD_ORPHAN_VALID (l - 48), 1)]

/-- Write the orphan policies of a leg to its satellites (R114, R126, R321). -/
def sendOrphans (s : State) (g n : Nat) : State := s.each (linksOfLeg n) fun s l => setOrphan s l (orphanOf s g l)

/-- ORPHAN_VALIDATION: a leg with both policies ON gets OFF on both channels (R126). -/
def validateOrphans (s : State) (n : Nat) : State :=
  if n < 24 && (s.rxOf (2 * n)).orphan = 1 && (s.rxOf (2 * n + 1)).orphan = 1 then
    s.each [2 * n, 2 * n + 1] fun s l =>
      (setOrphan s l 0).putFlag (GS_ORPHAN_DEMOTED l) true
  else s

/-- SAGGAR_TABLE_WRITE: an entry of the Saggar table (R315, R321). `bad` names the legs whose read-back differs. -/
def sagTableWrite (s : State) (g : Nat) (asc : Bool) (data bad : Nat) : State × Status :=
  let a := 0x60058100 + g * 0x10 + (if asc then 4 else 0)
  let range := if asc then bitsOf data 0 16 ≤ bitsOf data 16 16 else bitsOf data 0 2 = 3
  let busy := !(s.members g).isEmpty && (!s.stopped g || s.latched g)
  let old := s.flag (SAF_GTBL_ORPHAN g)
  let r := checkedWrite s safErr [(range, .SAF_RANGE), (busy, .SAF_BUSY)] a data
  if r.2 ≠ .OK then r
  else
    let s := r.1
    if !asc && s.flag (SAF_GTBL_ORPHAN g) ≠ old then
      let s := s.each (s.members g) fun s n => validateOrphans (sendOrphans s g n) n
      let s := s.each ((s.members g).filter fun n => bad.testBit n) fun s n =>
        (s.setLeg n { s.legOf n with failed := true }).putFlag PWR_START_STAT_LEG_FAILED true
      (evalChoices s, .OK)
    else (evalChoices s, .OK)

/-- The checks of a write to a SAF_ register that has no row of its own; `none`: the write is ignored (R337-R341). -/
def safChecks (s : State) (a data : Nat) : Option (List (Bool × Status)) :=
  let o := a - 0x60058000
  if o = 0x014 then
    let mx := bitsOf data 16 16
    some [(mx < 10 || 10000 < mx || mx < 2 * bitsOf data 0 16, .SAF_RANGE)]
  else if o = 0x018 then some [(bitsOf data 16 8 < 1 || 100 < bitsOf data 16 8, .SAF_RANGE)]
  else if 0x200 ≤ o && o < 0x280 && o % 8 = 0 then
    let i := (o - 0x200) / 8
    if i % 2 = 1 && s.flag (SAF_SIN_CFG_PAIR (i - 1)) then none
    else
      let pair := data.testBit 12
      some [((pair && i % 2 = 1) || bitsOf data 13 10 < 1 || 1000 < bitsOf data 13 10, .SAF_RANGE),
        (pair ≠ s.flag (SAF_SIN_CFG_PAIR i) && s.sag.disc.testBit (i / 2), .SAF_BUSY)]
  else if o = 0x280 || o = 0x284 then some [(bitsOf data 1 9 < 100 || 495 < bitsOf data 1 9, .SAF_RANGE)]
  else if 0x300 ≤ o && o < 0x380 && o % 16 = 0 then
    some [(4 < bitsOf data 0 3 || bitsOf data 5 7 < 10 || 80 < bitsOf data 5 7 || bitsOf data 12 7 < 1 || 100 < bitsOf data 12 7,
      .SAF_RANGE)]
  else if 0x800 ≤ o && o < 0xC00 && o % 32 = 0 then
    some [(9 < bitsOf data 2 4 || bitsOf data 6 16 < 1 || bitsOf data 22 4 < 1 || bitsOf data 26 4 < 1, .SAF_RANGE)]
  else some []

/-- Sources that a change of configuration makes active, or lets name more, demand now (R312, R316). -/
def newDemands (old s : State) : State := s.each ((sources s).filter fun x => !(sources old).contains x) demand

/-- What follows an accepted write: a comparator that is switched off is inactive, a connection that is enabled waits, one that is
disabled is off. -/
def safAfter (old s : State) (a : Nat) : State :=
  let o := a - 0x60058000
  if o = 0x280 || o = 0x284 then
    let j := (o - 0x280) / 4
    evalChoices (s.when (!s.flag (SAF_OV3_CFG_EN j)) fun s => s.put SAF_OV3_STAT_OUT (clearBit (s.fld SAF_OV3_STAT_OUT) j))
  else if 0x800 ≤ o && o < 0xC00 && o % 32 = 0 then
    let c := (o - 0x800) / 32
    if s.flag (SAF_FJ_CFG_EN c) && !old.flag (SAF_FJ_CFG_EN c) then
      (s.put (SAF_FJ_STAT_STATE c) 1).setFjop c {}
    else if !s.flag (SAF_FJ_CFG_EN c) then evalChoices ((s.putAll [(SAF_FJ_STAT_STATE c, 0), (SAF_FJ_STAT_VALID c, 0)]).setFjop c {})
    else s
  else evalChoices s

/-- A write by pair 11 to a SAF_ register without a row of its own. -/
def safRegWrite (s : State) (a data : Nat) : State × Status :=
  match safChecks s a data with
  | none => (s, .OK)
  | some cs =>
    -- bits 0 and 1 of SAF_OV3_FUNC_j read 1, and writes to them are ignored
    let r := checkedWrite s safErr cs a (if a = 0x60058288 || a = 0x6005828C then data ||| 3 else data)
    if r.2 = .OK then (newDemands s (safAfter s r.1 a), .OK) else r

/-- SAF_WRITE_VIOLATION: a write by anyone but pair 11 is refused and counted; LAST names the pair, 12 the host (R38, R310, R337), and 12
the debug module, which R337 does not number (DESIGN CHOICE, log 122). -/
def safViolation (s : State) (who : Nat) : State := (s.inc SAF_WVIOL_COUNT).put SAF_WVIOL_LAST who

/-- The requester's number in SAF_WVIOL. -/
def requesterNumber : Requester → Nat
  | .pair n => n.val
  | .host => 12
  | .debug => 12

/-- Only pair 11 may write SAF_ registers (R38). -/
def requesterSafety : Requester → Bool
  | .pair n => n.val = 11
  | _ => false

/-- A write to a SAF_ register by its requester: others than pair 11 get a bus error and are counted. -/
def safBy (s : State) (r : Requester) (addr : Nat) (act : State → State × Status) : State × Status :=
  if requesterSafety r then act s else ((safViolation s (requesterNumber r)).emit (.busError r addr), .OK)

end Sys2Proof.Machine
end

