-- ==== Sys2Proof/Machine/LeDecode.lean ====
section
/-! DEFINITION. Loop-engine programs (R199-R207): the instruction words, their charges, and the static check. -/

namespace Sys2Proof.Machine

/-- A memory operand (R200): a direct address, or pointer, offset and post-increment. -/
inductive LeMem where
  | dir (a : Nat)
  | ptr (p : Nat) (o i : Int)
  deriving DecidableEq, Repr, Inhabited

/-- The instructions of R202. `k` is a shift field, `n` an accumulator, `c` a condition. -/
inductive LeOp where
  | nop | ld (d : Nat) (x : LeMem) | lds (d : Nat) (x : LeMem) | ldc (d : Nat) (x : LeMem) | ldt (d t : Nat) (x : LeMem)
  | ldi (d : Nat) (imm : Int) | st (d : Nat) (x : LeMem) | sts (d : Nat) (x : LeMem) | mov (d a : Nat)
  | lda (d n : Nat) (k : Int) | ldp (p imm : Nat) | addp (p : Nat) (imm : Int) | add (d a b : Nat) | sub (d a b : Nat)
  | neg (d a : Nat) | abs (d a : Nat) | addw (d a b : Nat) | mul (d a b : Nat) (k : Int) | mulc (d a : Nat) (x : LeMem) (k : Int)
  | mulw (d a k : Nat) | div (d a b : Nat) | ash (d a : Nat) (k : Int) | min (d a b : Nat) | max (d a b : Nat)
  | clamp (d a b : Nat) | vlim (d a : Nat) | mac (n a b : Nat) (k : Int) | macc (n a : Nat) (x : LeMem) (k : Int)
  | msu (n a b : Nat) (k : Int) | msuc (n a : Nat) (x : LeMem) (k : Int) | clra (n : Nat) | ldam (n a : Nat)
  | adda (n a : Nat) (k : Int) | norm (a b : Nat) | stage (mode1 : Bool) (se : Int) (mask : Nat) | cmp (a b : Nat)
  | sel (d a b c : Nat) | skip (c n : Nat) | loop (count len : Nat) | fin | evt (c code : Nat) | sincos (d a : Nat)
  | polar (d a : Nat) | clarke (d a : Nat) (two : Bool) | park (d a b : Nat) | ipark (d a b : Nat) | svm (d a : Nat)
  | tbl (d a t : Nat) | commit (g first k : Nat) (ph : Bool) (per : Option Nat)
  deriving DecidableEq, Repr, Inhabited

/-- The fields of a word. -/
structure LeWord where
  op : Nat
  d : Nat
  a : Nat
  b : Nat
  k : Nat
  acc : Nat
  cond : Nat
  low : Nat

/-- Cut a word into the fields of format A (R199). -/
def leFields (w : Nat) : LeWord :=
  { op := bitsOf w 30 6, d := bitsOf w 26 4, a := bitsOf w 22 4, b := bitsOf w 18 4, k := bitsOf w 12 6, acc := bitsOf w 10 2,
    cond := bitsOf w 7 3, low := bitsOf w 0 7 }

/-- Fields of format A that an instruction uses; the others are reserved (R199). -/
structure LeUse where
  d : Bool := false
  a : Bool := false
  b : Bool := false
  k : Bool := false
  acc : Bool := false
  cond : Bool := false

/-- Reserved fields of format A are 0. -/
def useOk (u : LeUse) (f : LeWord) : Bool :=
  (u.d || f.d = 0) && (u.a || f.a = 0) && (u.b || f.b = 0) && (u.k || f.k = 0) && (u.acc || f.acc = 0) && (u.cond || f.cond = 0)
    && f.low = 0

/-- An instruction of format A. -/
def fmtA (u : LeUse) (f : LeWord) (op : LeOp) : Option LeOp := if useOk u f then some op else none

/-- The memory operand of format M: in mode 0 bits [13:12] are 0 (R200). -/
def memOf (w : Nat) : Option LeMem :=
  if w.testBit 14 then some (.ptr (bitsOf w 11 3) (signedOf 5 (bitsOf w 6 5)) (signedOf 6 (bitsOf w 0 6)))
  else if bitsOf w 12 2 = 0 then some (.dir (bitsOf w 0 12)) else none

/-- Shift field of format M (R199). -/
def kM (w : Nat) : Int := signedOf 5 (bitsOf w 15 5)

/-- An instruction of format M; `a`, `acc` and K are reserved unless used. -/
def fmtM (w : Nat) (useD useA useAcc useK : Bool) (mk : LeMem → LeOp) : Option LeOp :=
  if (useD || bitsOf w 26 4 = 0) && (useA || bitsOf w 22 4 = 0) && (useAcc || bitsOf w 20 2 = 0) && (useK || bitsOf w 15 5 = 0) then
    (memOf w).map mk
  else none

/-- Decode an instruction word; none: a reserved opcode or a non-zero reserved field (R199, R202). -/
def leDecode (w : Nat) : Option LeOp :=
  let f := leFields w
  let k := signedOf 6 f.k
  match f.op with
  | 0x00 => fmtA {} f .nop
  | 0x01 => fmtM w true false false false (.ld f.d)
  | 0x02 => fmtM w true false false false (.lds f.d)
  | 0x03 => fmtM w true false false false (.ldc f.d)
  | 0x04 => if f.a < 8 then fmtM w true true false false (.ldt f.d f.a) else none
  | 0x05 => if bitsOf w 18 8 = 0 then some (.ldi f.d (signedOf 18 (bitsOf w 0 18))) else none
  | 0x06 => fmtM w true false false false (.st f.d)
  | 0x07 => fmtM w true false false false (.sts f.d)
  | 0x08 => fmtA { d := true, a := true } f (.mov f.d f.a)
  | 0x09 => fmtA { d := true, k := true, acc := true } f (.lda f.d f.acc k)
  | 0x0A => if f.d = 0 && bitsOf w 12 11 = 0 then some (.ldp (bitsOf w 23 3) (bitsOf w 0 12)) else none
  | 0x0B => if f.d = 0 && bitsOf w 13 10 = 0 then some (.addp (bitsOf w 23 3) (signedOf 13 (bitsOf w 0 13))) else none
  | 0x0C => fmtA { d := true, a := true, b := true } f (.add f.d f.a f.b)
  | 0x0D => fmtA { d := true, a := true, b := true } f (.sub f.d f.a f.b)
  | 0x0E => fmtA { d := true, a := true } f (.neg f.d f.a)
  | 0x0F => fmtA { d := true, a := true } f (.abs f.d f.a)
  | 0x10 => fmtA { d := true, a := true, b := true } f (.addw f.d f.a f.b)
  | 0x11 => fmtA { d := true, a := true, b := true, k := true } f (.mul f.d f.a f.b k)
  | 0x12 => fmtM w true true false true (fun x => .mulc f.d f.a x (kM w))
  | 0x13 => fmtA { d := true, a := true, k := true } f (.mulw f.d f.a f.k)
  | 0x14 => fmtA { d := true, a := true, b := true } f (.div f.d f.a f.b)
  | 0x15 => fmtA { d := true, a := true, k := true } f (.ash f.d f.a k)
  | 0x16 => fmtA { d := true, a := true, b := true } f (.min f.d f.a f.b)
  | 0x17 => fmtA { d := true, a := true, b := true } f (.max f.d f.a f.b)
  | 0x18 => fmtA { d := true, a := true, b := true } f (.clamp f.d f.a f.b)
  | 0x19 => fmtA { d := true, a := true } f (.vlim f.d f.a)
  | 0x1A => fmtA { a := true, b := true, k := true, acc := true } f (.mac f.acc f.a f.b k)
  | 0x1B => fmtM w false true true true (fun x => .macc (bitsOf w 20 2) f.a x (kM w))
  | 0x1C => fmtA { a := true, b := true, k := true, acc := true } f (.msu f.acc f.a f.b k)
  | 0x1D => fmtM w false true true true (fun x => .msuc (bitsOf w 20 2) f.a x (kM w))
  | 0x1E => fmtA { acc := true } f (.clra f.acc)
  | 0x1F => fmtA { a := true, acc := true } f (.ldam f.acc f.a)
  | 0x20 => fmtA { a := true, k := true, acc := true } f (.adda f.acc f.a k)
  | 0x21 => fmtA { a := true, b := true } f (.norm f.a f.b)
  | 0x22 =>
    if f.d = 0 && !w.testBit 16 && (!w.testBit 17 || bitsOf w 18 8 = 0) then
      some (.stage (w.testBit 17) (signedOf 8 (bitsOf w 18 8)) (bitsOf w 0 16))
    else none
  | 0x23 => fmtA { a := true, b := true } f (.cmp f.a f.b)
  | 0x24 => fmtA { d := true, a := true, b := true, cond := true } f (.sel f.d f.a f.b f.cond)
  | 0x25 => if bitsOf w 6 21 = 0 then some (.skip (bitsOf w 27 3) (bitsOf w 0 6)) else none
  | 0x26 => if bitsOf w 6 4 = 0 && bitsOf w 18 12 = 0 then some (.loop (bitsOf w 10 8 + 1) (bitsOf w 0 6)) else none
  | 0x27 => fmtA {} f .fin
  | 0x28 => if bitsOf w 8 19 = 0 then some (.evt (bitsOf w 27 3) (bitsOf w 0 8)) else none
  | 0x29 => fmtA { d := true, a := true } f (.sincos f.d f.a)
  | 0x2A => fmtA { d := true, a := true } f (.polar f.d f.a)
  | 0x2B => if f.k < 2 then fmtA { d := true, a := true, k := true } f (.clarke f.d f.a (f.k = 1)) else none
  | 0x2C => fmtA { d := true, a := true, b := true } f (.park f.d f.a f.b)
  | 0x2D => fmtA { d := true, a := true, b := true } f (.ipark f.d f.a f.b)
  | 0x2E => fmtA { d := true, a := true } f (.svm f.d f.a)
  | 0x2F => if f.b < 8 then fmtA { d := true, a := true, b := true } f (.tbl f.d f.a f.b) else none
  | 0x30 =>
    if bitsOf w 0 12 = 0 && (w.testBit 16 || bitsOf w 12 4 = 0) then
      some (.commit f.d f.a (f.b + 1) (w.testBit 17) (if w.testBit 16 then some (bitsOf w 12 4) else none))
    else none
  | _ => none

/-- The charge of an instruction (R202). -/
def LeOp.charge : LeOp → Nat
  | .lds .. | .sts .. | .mul .. | .mulc .. | .mac .. | .macc .. | .msu .. | .msuc .. | .norm .. | .stage .. => 2
  | .ldt .. => 52
  | .div .. => 40
  | .vlim .. => 12
  | .sincos .. => 38
  | .polar .. => 40
  | .clarke .. => 3
  | .park .. | .ipark .. => 4
  | .svm .. => 8
  | .tbl .. => 58
  | .commit _ _ k ph _ => if ph then 2 + 2 * k else 2 + k
  | _ => 1

/-! ### The static check (R205, R206) -/

/-- What the check reads: the words, the header's group mask, the trigger enables, which descriptors are VALID, how many entries
each one's table holds (R204), and each group's leg count. -/
structure LeProg where
  word : Nat → Nat
  enA : Bool
  enB : Bool
  valid : Nat → Bool
  entries : Nat → Nat
  legs : Nat → Nat

/-- Header words 0 to 7 (R205): the first wrong one. -/
def headerBad (p : LeProg) : Option Nat :=
  let w0 := p.word 0
  if bitsOf w0 24 12 ≠ 0x4C5 || bitsOf w0 16 8 ≠ 1 || bitsOf w0 0 12 < 9 then some 0
  else if bitsOf (p.word 4) 32 4 ≠ 1 && bitsOf (p.word 4) 32 4 ≠ 2 then some 4
  else if p.word 6 ≠ 0 then some 6
  else if p.word 7 ≠ 0 then some 7
  else none

def LeProg.len (p : LeProg) : Nat := bitsOf (p.word 0) 0 12
def LeProg.entry (p : LeProg) (b : Bool) : Nat := bitsOf (p.word (if b then 2 else 1)) 0 12
def LeProg.declared (p : LeProg) (b : Bool) : Nat := bitsOf (p.word (if b then 2 else 1)) 12 20
def LeProg.mask (p : LeProg) : Nat := bitsOf (p.word 3) 16 12
def LeProg.initSe (p : LeProg) (b : Bool) : Int := signedOf 8 (bitsOf (p.word 3) (if b then 8 else 0) 8)

/-- The 8 bytes of a word's slot (R39). -/
def slotBytes (w : Nat) : List Byte := leBytes 8 (if w.testBit 35 then w + (2 ^ 64 - 2 ^ 36) else w)

/-- The code words. -/
def LeProg.code (p : LeProg) : List Nat := (List.range (p.len - 8)).map fun i => p.word (i + 8)

/-- A memory operand is in range; `even`: its direct address must be even. -/
def memOk (size : Nat) (even : Bool) : LeMem → Bool
  | .dir a => a < size && (!even || a % 2 = 0)
  | .ptr .. => true

/-- The operands of an instruction (R206). -/
def operandOk (p : LeProg) : LeOp → Bool
  | .lds _ x | .sts _ x => memOk 4096 true x
  | .ldc _ x => memOk 1024 false x
  | .mulc _ _ x _ | .macc _ _ x _ | .msuc _ _ x _ => memOk 1024 false x
  | .ldt _ t x => p.valid t && memOk (p.entries t) false x
  | .mulw _ _ k => 1 ≤ k
  | .vlim d _ => d < 15
  | .norm a b => a ≤ b
  | .sincos d _ => d < 15
  | .polar d a => d < 15 && a < 15
  | .clarke d a two => d < 15 && (if two then a < 15 else a < 14)
  | .park d a b | .ipark d a b => d < 15 && a < 15 && b < 15
  | .svm d a => d < 14 && a < 15
  | .tbl _ _ t => p.valid t
  | .commit _ f k ph _ => f + (if ph then 2 * k else k) ≤ 16
  | _ => true

/-- Walk the code with the ends of the open loop bodies, innermost first: the first word that fails LOOP (`loop`) or, LOOP having
passed, SKIP. A SKIP out of a body fails LOOP, one into a nested body or past the program fails SKIP (log 19). -/
def loopBad (loop : Bool) (len : Nat) : List LeOp → Nat → List Nat → Option Nat
  | [], _, _ => none
  | op :: rest, i, ends =>
    let ends := ends.filter fun e => decide (i < e)
    let lim := (ends.head?).getD len
    match op with
    | .loop _ n =>
      if loop && (n = 0 || 2 ≤ ends.length || lim < i + 1 + n) then some i else loopBad loop len rest (i + 1) ((i + 1 + n) :: ends)
    | .fin | .commit .. => if loop && !ends.isEmpty then some i else loopBad loop len rest (i + 1) ends
    | .skip _ n =>
      if loop && !ends.isEmpty && lim < i + 1 + n then some i
      else if !loop && (n = 0 || len ≤ i + 1 + n && ends.isEmpty) then some i
      else loopBad loop len rest (i + 1) ends
    | _ => loopBad loop len rest (i + 1) ends

/-- A SKIP at `i` that lands inside the body of a LOOP that starts after it. -/
def skipInto (ops : List LeOp) : Option Nat :=
  let idx := ops.zipIdx
  (idx.find? fun e => match e.1 with
    | .skip _ n => (((idx.drop (e.2 + 1)).take n).any fun l => match l.1 with
        | .loop _ len => decide (l.2 < e.2 + 1 + n) && decide (e.2 + 1 + n ≤ l.2 + len)
        | _ => false)
    | _ => false).map (·.2)

/-- What the paths from a word on can do: the largest charge, the most COMMITs, the groups committed, and whether some path
commits a group twice. -/
structure Paths where
  cost : Nat := 0
  commits : Nat := 0
  groups : Nat := 0
  twice : Bool := false
  deriving DecidableEq, Repr, Inhabited

/-- Either of two continuations. -/
def Paths.join (x y : Paths) : Paths :=
  ⟨max x.cost y.cost, max x.commits y.commits, x.groups ||| y.groups, x.twice || y.twice⟩

/-- The paths from each word of a run of code, with what follows its end as the last entry; `none`: a path without END. -/
def pathsFrom (body : List LeOp → Option Paths) (last : Option Paths) : List LeOp → List (Option Paths)
  | [] => [last]
  | op :: rest =>
    let t := pathsFrom body last rest
    let next := (t.head?).getD none
    let here : Option Paths := match op with
      | .fin => some { cost := 1 }
      | .skip c n =>
        let far := (t[n]?).getD none
        if c = 0 then far.map fun x => { x with cost := x.cost + 1 }
        else match next, far with
          | some x, some y => some { x.join y with cost := (x.join y).cost + 1 }
          | _, _ => none
      | .loop count n =>
        match body (rest.take n), (t[n]?).getD none with
        | some b, some x => some { x with cost := 1 + count * b.cost + x.cost }
        | _, _ => none
      | .commit g _ _ _ _ => next.map fun x =>
          ⟨x.cost + op.charge, x.commits + 1, x.groups ||| 2 ^ g, x.twice || x.groups.testBit g⟩
      | _ => next.map fun x => { x with cost := x.cost + op.charge }
    here :: t

/-- The charge of a loop body, with loops nested at most `depth` deep inside it. -/
def bodyPaths : Nat → List LeOp → Option Paths
  | 0, ops => ((pathsFrom (fun _ => none) (some {}) ops).head?).getD none
  | depth + 1, ops => ((pathsFrom (bodyPaths depth) (some {}) ops).head?).getD none

/-- The paths from each code word. -/
def codePaths (ops : List LeOp) : List (Option Paths) := pathsFrom (bodyPaths 1) none ops

/-- A COMMIT that the check refuses by itself: a group outside the mask, a leg count that is not the group's now, phases for more
than 8 legs (R206). -/
def commitBad (p : LeProg) : LeOp → Bool
  | .commit g _ k ph _ => !p.mask.testBit g || k ≠ p.legs g || (ph && 8 < k)
  | _ => false

/-- CHECK_CODE, the first failing word, and the charged worst cases of entries A and B (R206, R207). -/
structure CheckResult where
  code : Nat := 0
  at_ : Nat := 0
  wcetA : Nat := 0
  wcetB : Nat := 0
  deriving DecidableEq, Repr, Inhabited

/-- The paths of an entry. -/
def entryPaths (ps : List (Option Paths)) (entry : Nat) : Option Paths := ((ps[entry - 8]?).getD none)

/-- Entry address check: a present entry lies in the code; an enabled trigger has one. Entry B may be absent. -/
def entryBad (p : LeProg) (b : Bool) : Bool :=
  let a := p.entry b
  if a = 0 then (if b then p.enB else true) else a < 8 || p.len ≤ a

/-- The first of two failing words. -/
def firstBad : Option Nat → Option Nat → Option Nat
  | some i, some j => some (Min.min i j)
  | some i, none => some i
  | none, j => j

/-- The checks on decoded code, from OPERAND on. -/
def checkOps (p : LeProg) (ops : List LeOp) : CheckResult :=
  let first (f : LeOp → Bool) : Option Nat := ((ops.zipIdx 8).find? fun e => f e.1).map (·.2)
  match first (fun o => !operandOk p o) with
  | some i => { code := 6, at_ := i }
  | none =>
  match loopBad true p.len ops 8 [] with
  | some i => { code := 4, at_ := i }
  | none =>
  match firstBad (loopBad false p.len ops 8 []) ((skipInto ops).map (· + 8)) with
  | some i => { code := 5, at_ := i }
  | none =>
  if entryBad p false then { code := 9, at_ := 1 }
  else if entryBad p true then { code := 9, at_ := 2 }
  else
    let ps := codePaths ops
    let a := entryPaths ps (p.entry false)
    let hasB := p.entry true ≠ 0
    let b := if hasB then entryPaths ps (p.entry true) else some {}
    match a, b with
    | none, _ => { code := 10, at_ := p.entry false }
    | _, none => { code := 10, at_ := p.entry true }
    | some a, some b =>
      match first (commitBad p) with
      | some i => { code := 7, at_ := i }
      | none =>
        if 4 < a.commits || a.twice then { code := 7, at_ := p.entry false }
        else if 4 < b.commits || b.twice then { code := 7, at_ := p.entry true }
        else if p.declared false < a.cost then { code := 8, at_ := 1, wcetA := a.cost, wcetB := b.cost }
        else if hasB && p.declared true < b.cost then { code := 8, at_ := 2, wcetA := a.cost, wcetB := b.cost }
        else { wcetA := a.cost, wcetB := b.cost }

/-- Decode the code; the first word that does not decode. -/
def decodeAll : List Nat → Nat → List LeOp ⊕ Nat
  | [], _ => .inl []
  | w :: ws, i =>
    match leDecode w with
    | none => .inr i
    | some o =>
      match decodeAll ws (i + 1) with
      | .inl os => .inl (o :: os)
      | .inr j => .inr j

/-- The check of R206. -/
def checkProg (p : LeProg) : CheckResult :=
  match headerBad p with
  | some i => { code := 1, at_ := i }
  | none =>
    if crc32c (p.code.flatMap slotBytes) ≠ bitsOf (p.word 5) 0 32 then { code := 2, at_ := 5 }
    else match decodeAll p.code 8 with
      | .inr i => { code := 3, at_ := i }
      | .inl ops => checkOps p ops

end Sys2Proof.Machine
end

