-- ==== Sys2Proof/Machine/Measure.lean ====
section
/-! DEFINITION. Chapter 05: SAR sequences, urgent conversions, limit comparators, sinc3 inputs, sample slots and mirror records
(R138-R163). -/

namespace Sys2Proof.Machine

def adcErr : BlockErr where
  last := ADC_ERR_LAST_ERR
  cnt := ADC_ERR_ERR_CNT
  lock := ADC_LOCK
  locked := .ADC_LOCKED
  codes := [(.ADC_RANGE, 1), (.ADC_LOCKED, 2)]

def modErr : BlockErr where
  last := MOD_ERR_LAST_ERR
  cnt := MOD_ERR_ERR_CNT
  lock := MOD_LOCK
  locked := .MOD_LOCKED
  codes := [(.MOD_RANGE, 1), (.MOD_BUSY, 2), (.MOD_LOCKED, 3)]

namespace State

def adcOf (s : State) (n : Nat) : Adc := Tbl.get {} s.adc n
def setAdc (s : State) (n : Nat) (v : Adc) : State := { s with adc := Tbl.set {} s.adc n v }
def moduOf (s : State) (k : Nat) : Modu := Tbl.get {} s.modu k
def setModu (s : State) (k : Nat) (v : Modu) : State := { s with modu := Tbl.set {} s.modu k v }

end State

/-! ### Sample words (R139, R156, R157) -/

/-- The gain of a GAIN code: 1, 2, 4 or 8. -/
def gainOf (g : Nat) : Nat := 2 ^ g

/-- The raw code of an input voltage in µV at a gain (R139): the voltage about mid-point times 4,096 / 2.5 V, held within 12 bits.
The spec does not say which way a code that falls exactly between two is rounded, so `half` decides (log 4). -/
def rawCode (gain uv half : Nat) : Nat :=
  let x : Int := 4096 * (1250000 + (gain : Int) * ((uv : Int) - 1250000))
  let q := x / 2500000
  let r := x % 2500000
  let c := if 2 * r < 2500000 then q else if 2500000 < 2 * r then q + 1 else q + (half % 2 : Nat)
  (clampInt 0 4095 c).toNat

/-- The mantissa of a SAR result (R156). -/
def sarMantissa (raw zcode : Nat) : Word36 := BitVec.ofInt 36 (((raw : Int) - zcode) * 2 ^ 23)

/-- The exponent of a SAR result, as its 8-bit code (R156). -/
def sarExponent (scale gain : Nat) : Nat := codeOf 8 (signedOf 8 scale - gain)

/-- The address of word `a` of the data memory of engine `e` (R36). -/
def dataAddr (e a : Nat) : Nat := 0x40000000 + e * 0x20000 + 0x8000 + 8 * a

/-- The second word of a sample slot (R157). -/
def slotWord (valid ovr fault retaken : Bool) (e t : Nat) : Word36 :=
  BitVec.ofNat 36 (bit valid * 2 ^ 35 + bit ovr * 2 ^ 34 + bit fault * 2 ^ 33 + bit retaken * 2 ^ 32 + e % 256 * 2 ^ 24
    + t % 2 ^ 24)

/-- A result on its way to its slot and its mirror record. -/
structure Sample where
  m : Word36
  e : Nat
  valid : Bool
  ovr : Bool
  fault : Bool
  retaken : Bool
  time : Nat
  raw : Nat

/-- Write a sample slot: both words in one step (R157). -/
def writeSlot (s : State) (engine addr : Nat) (x : Sample) : State :=
  (s.setWord (dataAddr engine addr) x.m).setWord (dataAddr engine (addr + 1)) (slotWord x.valid x.ovr x.fault x.retaken x.e x.time)

/-- Write a mirror record (R158). -/
def writeMirror (s : State) (base : Nat) (x : Sample) : State :=
  (s.setWord base x.m).putAll [(RES_TLO_T_LO base, x.time), (RES_THI_T_HI base, x.time / 2 ^ 32), (RES_FLAGS_VALID base, bit x.valid),
    (RES_FLAGS_OVR base, bit x.ovr), (RES_FLAGS_FAULT base, bit x.fault), (RES_FLAGS_RETAKEN base, bit x.retaken),
    (RES_FLAGS_E base, x.e), (RES_RAW base, x.raw)]

/-- The mirror records: entry `e` of converter `n`, 16 its urgent conversion; modulator channel `k` (R161). -/
def adcMirror (n e : Nat) : Nat := if e < 16 then 0x6001A000 + n * 0x200 + e * 0x20 else 0x6001F000 + n * 0x20
def modMirror (k : Nat) : Nat := 0x60021000 + k * 0x20

/-- The sample time of a mirror record. -/
def mirrorTime (s : State) (base : Nat) : Nat := s.fld (RES_TLO_T_LO base) + 2 ^ 32 * s.fld (RES_THI_T_HI base)

/-- The destination half of a result: slot when DEN is set, mirror always. -/
def deliver (s : State) (den : Bool) (engine addr base : Nat) (x : Sample) : State :=
  writeMirror (if den then writeSlot s engine addr x else s) base x

/-! ### Sequences (R141-R145) -/

/-- Entry `e` of a converter as its registers hold it. -/
def entryCfg (s : State) (n e : Nat) : EntryCfg where
  input := s.fld (ADC_SEQ_INPUT n e)
  gain := s.fld (ADC_SEQ_GAIN n e)
  scale := s.fld (ADC_SEQ_SCALE n e)
  zero := s.fld (ADC_SEQ_ZERO n e)
  den := s.flag (ADC_DST_DEN n e)
  engine := s.fld (ADC_DST_ENGINE n e)
  addr := s.fld (ADC_DST_ADDR n e)

/-- The urgent conversion's entry. -/
def urgentCfg (s : State) (n : Nat) : EntryCfg where
  input := s.fld (ADC_URG_CFG_INPUT n)
  gain := s.fld (ADC_URG_CFG_GAIN n)
  scale := s.fld (ADC_URG_CFG_SCALE n)
  zero := s.fld (ADC_URG_CFG_ZERO n)
  den := s.flag (ADC_URG_DST_DEN n)
  engine := s.fld (ADC_URG_DST_ENGINE n)
  addr := s.fld (ADC_URG_DST_ADDR n)

def adcOwner (s : State) (n : Nat) : Nat := s.fld (ADC_CTRL_OWNER n)

/-- A sequence begins with a snapshot of every entry (R141). -/
def beginSequence (s : State) (n : Nat) : State :=
  let snap := (List.range (s.fld (ADC_CTRL_SEQ_LEN n) + 1)).map fun e => entryCfg s n e
  (s.setAdc n { seq := snap, aborts := 0, retaken := false, wait := false }).putAll [(ADC_STAT_BUSY n, 1), (ADC_STAT_ENTRY n, 0)]

/-- An ignored start (R144). -/
def startOverrun (s : State) (n : Nat) : State :=
  (s.inc (ADC_CNT_TRG_OVR n)).when (s.flag (ADC_CTRL_OVR_IE n)) fun s => s.irq (adcOwner s n) .adc n 3

/-- A start of an enabled converter (R144). In continuous mode a sequence starts only when EN is set, and at the end of the one before
(R142). -/
def adcStart (s : State) (n : Nat) : State :=
  if !s.flag (ADC_CTRL_EN n) then s
  else if s.flag (ADC_STAT_BUSY n) then startOverrun s n
  else if s.fld (ADC_CTRL_TRG_MODE n) = 2 then s
  else if s.flag (ADC_STAT_URG_BUSY n) then
    if (s.adcOf n).wait then startOverrun s n else s.setAdc n { s.adcOf n with wait := true }
  else beginSequence s n

/-- The subscribed event starts a sequence in TRG_MODE 1 (R142). -/
def adcTrigger (s : State) (n : Nat) : State := if s.fld (ADC_CTRL_TRG_MODE n) = 1 then adcStart s n else s

/-- An urgent request (R146). -/
def adcUrgent (s : State) (n : Nat) : State :=
  let pend (s : State) : State :=
    if s.flag (ADC_STAT_URG_PEND n) then s.inc (ADC_CNT_URG_MERGED n) else s.putFlag (ADC_STAT_URG_PEND n) true
  if !s.flag (ADC_CTRL_EN n) then s
  else if s.flag (ADC_STAT_URG_BUSY n) then pend s
  else if s.flag (ADC_STAT_BUSY n) then
    let a := s.adcOf n
    if a.aborts < 4 then
      ((s.setAdc n { a with aborts := a.aborts + 1, retaken := true }).inc (ADC_CNT_ABORT_CNT n)).putFlag (ADC_STAT_URG_BUSY n) true
    else pend s
  else s.putFlag (ADC_STAT_URG_BUSY n) true

def adcUrgentEvt (s : State) (n : Nat) : State := if s.flag (ADC_CTRL_URG_EVT_EN n) then adcUrgent s n else s

/-! ### Limit comparators (R147-R149) -/

/-- The comparator's output after a completed result (R147). -/
def cmpNext (out : Bool) (mode low high hyst code : Nat) : Bool :=
  let c : Int := code
  let l : Int := low
  let h : Int := high
  let y : Int := hyst
  if mode = 0 then
    if h < c ∨ c < l then true else if l + y ≤ c ∧ c ≤ h - y then false else out
  else
    if l ≤ c ∧ c ≤ h then true else if c < l - y ∨ h + y < c then false else out

/-- Drive the comparator's output; each change to active is counted and can interrupt (R149). -/
def setCmp (s : State) (n : Nat) (out : Bool) : State :=
  let was := s.flag (ADC_CMP_STAT_OUT n)
  let s := s.putFlag (ADC_CMP_STAT_OUT n) out
  s.when (out && !was) fun s =>
    let s := (s.inc (ADC_CMP_STAT_CNT n)).putFlag (ADC_CMP_STAT_EVT n) true
    s.when (s.flag (ADC_CTRL_CMP_IE n)) fun s => s.irq (adcOwner s n) .adc n 1

/-- The comparator acts: it is enabled, and its converter is, or WATCH is not 0 (R148). -/
def cmpActs (s : State) (n : Nat) : Bool := s.flag (ADC_CMP_CFG_EN n) && (s.flag (ADC_CTRL_EN n) || s.fld (ADC_CMP_CFG_WATCH n) ≠ 0)

/-- LIMIT_COMPARATOR_EVALUATION: the watched entry has a completed result (R147, R148). -/
def evalCmp (s : State) (n e code : Nat) : State :=
  if cmpActs s n && s.fld (ADC_CMP_CFG_ENTRY n) = e then
    let out := cmpNext (s.flag (ADC_CMP_STAT_OUT n)) (s.fld (ADC_CMP_CFG_MODE n)) (s.fld (ADC_CMP_LIM_LOW n))
      (s.fld (ADC_CMP_LIM_HIGH n)) (s.fld (ADC_CMP_CFG_HYST n)) code
    (setCmp s n out).putFlag (ADC_CMP_STAT_WATCH_EXP n) false
  else s

/-- COMPARATOR_WATCH_EXPIRY (R148). -/
def cmpWatch (s : State) (n : Nat) : State :=
  if s.flag (ADC_CMP_CFG_EN n) && s.fld (ADC_CMP_CFG_WATCH n) ≠ 0 then
    (setCmp s n true).putFlag (ADC_CMP_STAT_WATCH_EXP n) true
  else s

/-- With EN = 0, or while the converter is disabled and WATCH is 0, the output is inactive (R148). -/
def cmpIdle (s : State) (n : Nat) : State :=
  if cmpActs s n then s else s.putFlag (ADC_CMP_STAT_OUT n) false

/-! ### Completion points (R140, R146) -/

/-- REF_FAULT: a sequence entry that converts input 5 outside the window sets it, and any reading of input 5 inside ends it (R140). -/
def checkRef (s : State) (n e input code : Nat) : State :=
  let bad := code < 2028 || 2068 < code
  if input ≠ 5 || (bad && 16 ≤ e) then s
  else
    let s := s.when (bad && !s.flag (ADC_STAT_REF_FAULT n) && s.flag (ADC_CTRL_FLT_IE n)) fun s => s.irq (adcOwner s n) .adc n 2
    s.putFlag (ADC_STAT_REF_FAULT n) bad

/-- The result of a conversion: raw code, sample word, flags, sample time 0.8 µs before the completion point (R139, R141,
R156). -/
def convert (s : State) (n e uv : Nat) (c : EntryCfg) (retaken : Bool) : State :=
  let f := s.fresh
  let s := f.2
  let code := rawCode (gainOf c.gain) uv f.1
  let s := checkRef s n e c.input code
  let fault := s.flag (ADC_STAT_REF_FAULT n)
  let x : Sample :=
    { m := sarMantissa code c.zero, e := sarExponent c.scale c.gain, valid := !fault, ovr := code = 0 || code = 4095,
      fault := fault, retaken := retaken, time := s.mtime - 320, raw := code }
  evalCmp (deliver s c.den c.engine c.addr (adcMirror n e) x) n e code

/-- SEQUENCE_DONE (R143). -/
def sequenceDone (s : State) (n : Nat) : State :=
  let s := s.emit (.event (48 + n) s.mtime)
  s.when (s.flag (ADC_CTRL_DONE_IE n)) fun s => s.irq (adcOwner s n) .adc n 0

/-- The converter stops: nothing further is started (R145). -/
def adcIdle (s : State) (n : Nat) : State :=
  (s.setAdc n {}).putAll [(ADC_STAT_BUSY n, 0), (ADC_STAT_ENTRY n, 0), (ADC_STAT_URG_BUSY n, 0), (ADC_STAT_URG_PEND n, 0)]

/-- After an urgent conversion: a pending one follows, else the aborted entry restarts or a waiting start begins (R144, R146). -/
def afterUrgent (s : State) (n : Nat) : State :=
  if s.flag (ADC_STAT_URG_PEND n) then s.putFlag (ADC_STAT_URG_PEND n) false
  else
    let s := s.putFlag (ADC_STAT_URG_BUSY n) false
    if !s.flag (ADC_STAT_BUSY n) && (s.adcOf n).wait then beginSequence s n else s

/-- After an entry: the next one, or the end of the sequence with its done event; a pending urgent conversion runs first. -/
def afterEntry (s : State) (n e : Nat) : State :=
  let a := s.adcOf n
  let s := s.when (s.flag (ADC_STAT_URG_PEND n)) fun s => s.putAll [(ADC_STAT_URG_PEND n, 0), (ADC_STAT_URG_BUSY n, 1)]
  let a' := { a with aborts := 0, retaken := false }
  if e + 1 < a.seq.length then (s.setAdc n a').put (ADC_STAT_ENTRY n) (e + 1)
  else
    let s := sequenceDone ((s.setAdc n { a' with seq := [] }).putAll [(ADC_STAT_BUSY n, 0), (ADC_STAT_ENTRY n, 0)]) n
    if s.fld (ADC_CTRL_TRG_MODE n) = 2 then
      (if s.flag (ADC_STAT_URG_BUSY n) then s.setAdc n { s.adcOf n with wait := true } else beginSequence s n)
    else s

/-- The end of a conversion during which EN was cleared: nothing of the old sequence follows. Where EN has been set again, what was
asked for since begins: an urgent conversion first, then the sequence (R142, R145, R146). -/
def afterCut (s : State) (n : Nat) : State :=
  let wait := (s.adcOf n).wait
  let pend := s.flag (ADC_STAT_URG_PEND n)
  let s := adcIdle s n
  if !s.flag (ADC_CTRL_EN n) then s
  else if pend then (s.setAdc n { s.adcOf n with wait := wait }).putFlag (ADC_STAT_URG_BUSY n) true
  else if wait then beginSequence s n else s

/-- CONVERSION_END: the running conversion, urgent or of an entry, reaches its completion point. A disabled converter then stops;
a sequence whose last entry this was is not cut short and has its done event (R145; log 95). -/
def conversionEnd (s : State) (n uv : Nat) : State :=
  if s.flag (ADC_STAT_URG_BUSY n) then
    let s := convert s n 16 uv (urgentCfg s n) false
    if s.flag (ADC_CTRL_EN n) && !(s.adcOf n).cut then afterUrgent s n else afterCut s n
  else if s.flag (ADC_STAT_BUSY n) then
    let a := s.adcOf n
    let e := s.fld (ADC_STAT_ENTRY n)
    match a.seq[e]? with
    | some c =>
      let s := convert s n e uv c a.retaken
      if s.flag (ADC_CTRL_EN n) && !a.cut then afterEntry s n e
      else afterCut (s.when (a.seq.length ≤ e + 1) fun s => sequenceDone s n) n
    | none => adcIdle s n
  else s

/-! ### Modulator inputs (R150-R155) -/

/-- MDIV of a channel's clock. -/
def mdivOf (s : State) (k : Nat) : Nat := s.fld (MOD_MCLK_MDIV (s.fld (MOD_CFG_MCLK_SEL k)))

/-- The smallest w with x at most 2^w. -/
def log2Up (x : Nat) : Nat := if x ≤ 1 then 0 else Nat.log2 (x - 1) + 1

/-- The mantissa of a sinc3 output before it is limited (R152). The reciprocal of D^3 is held to 40 significant bits. The spec does not
say which way it or the product is rounded where they are not exact: `err` chooses (log 4). -/
def sincMantissa (d out err : Nat) : Int :=
  let d3 := d ^ 3
  let k := 39 + log2Up d3
  let r := eitherWay (2 ^ k) d3 err
  eitherWay ((2 * (out : Int) - d3) * 2 ^ 35 * r) (2 ^ k) (err / 2)

/-- One sample of the pin goes through the three integrators, each modulo 2^25, which holds every output (R151). -/
def sincSample (h : Modu) (b : Bool) : Modu :=
  let i1 := (h.i1 + bit b) % 2 ^ 25
  let i2 := (h.i2 + i1) % 2 ^ 25
  { h with level := b, i1 := i1, i2 := i2, i3 := (h.i3 + i2) % 2 ^ 25 }

/-- The sinc3 filter at an output: the samples since the last one, oldest first, then the third difference (R151, R152). -/
def sincOutput (h : Modu) (l : List Bool) : Modu × Nat :=
  let h := l.foldl sincSample h
  let sub := fun (a b : Nat) => (a + 2 ^ 25 - b) % 2 ^ 25
  let x1 := sub h.i3 h.d0
  let x2 := sub x1 h.d1
  ({ h with d0 := h.i3, d1 := x1, d2 := x2 }, sub x2 h.d2)

/-- An output of a channel stands at the present module time: its clock runs, and this is a rising edge whose number modulo D equals
PHASE (R150, R151). -/
def outputDue (s : State) (k : Nat) : Bool :=
  let m := mdivOf s k
  s.flag (MOD_CFG_EN k) && s.flag (MOD_MCLK_EN (s.fld (MOD_CFG_MCLK_SEL k))) && s.timeRuns
    && decide (s.mtime % m = 0) && decide (s.mtime / m % (s.fld (MOD_CFG_DM1 k) + 1) = s.fld (MOD_CFG_PHASE k))

/-- MODULATOR_OUTPUT: an output of an enabled channel (R151-R155). `rising` and `falling` are the levels of its pin at the D rising and
the D falling clock edges since the last output, the oldest at bit 0. -/
def modulatorOutput (s : State) (k rising falling : Nat) : State :=
  if !outputDue s k then s
  else
    let d := s.fld (MOD_CFG_DM1 k) + 1
    let pins := if s.flag (MOD_CFG_EDGE k) then falling else rising
    let l := (List.range d).map fun i => pins.testBit i
    let h := s.moduOf k
    let moved := l.any fun b => b ≠ h.level
    let y := sincOutput h l
    let f := s.fresh
    let s := f.2
    let m := sincMantissa d y.2 f.1
    let ovr : Bool := 2 ^ 35 ≤ m
    let stuck := s.flag (MOD_STAT_STUCK k)
    let left := if stuck && h.unstick = 0 && moved then 3 else h.unstick
    let x : Sample :=
      { m := BitVec.ofInt 36 (if ovr then 2 ^ 35 - 1 else m), e := s.fld (MOD_CFG_SCALE k),
        valid := h.settle = 0 && !stuck, ovr := ovr, fault := stuck, retaken := false,
        time := s.mtime - 3 * (d - 1) * mdivOf s k / 2, raw := y.2 }
    let s := deliver s (s.flag (MOD_DST_DEN k)) (s.fld (MOD_DST_ENGINE k)) (s.fld (MOD_DST_ADDR k)) (modMirror k) x
    let s := s.setModu k { y.1 with settle := h.settle - 1, unstick := left - 1 }
    let s := s.putFlag (MOD_STAT_SETTLING k) (1 < h.settle)
    let s := s.when (stuck && left = 1) fun s => s.putFlag (MOD_STAT_STUCK k) false
    let s := s.emit (.event (80 + k) s.mtime)
    s.when (s.flag (MOD_IRQ_OUT_IE k)) fun s => s.irq (s.fld (MOD_CFG_OWNER k)) .mod k 0

/-- MOD_STUCK (R155). -/
def modStuck (s : State) (k : Nat) : State :=
  if s.flag (MOD_CFG_EN k) then
    let s := s.setModu k { s.moduOf k with unstick := 0 }
    if s.flag (MOD_STAT_STUCK k) then s
    else
      let s := (s.putFlag (MOD_STAT_STUCK k) true).inc (MOD_CNT_STUCK_CNT k)
      s.when (s.flag (MOD_IRQ_FLT_IE k)) fun s => s.irq (s.fld (MOD_CFG_OWNER k)) .mod k 1
  else s

/-- The filter of a channel is to be flushed (R154). -/
def settleMod (s : State) (k : Nat) : State := (s.setModu k { s.moduOf k with settle := 3 }).putFlag (MOD_STAT_SETTLING k) true

/-- Module time has moved: the filters of the enabled channels are to be flushed (R28, R154). -/
def settleMods (s : State) : State := s.each ((List.range 24).filter fun k => s.flag (MOD_CFG_EN k)) settleMod

/-! ### Mirror reads (R158) -/

/-- The number that stands for a requester where one is kept per requester: the pairs 0-11, the host 12, the debug module 13. -/
def reqIdx : Requester → Nat
  | .pair n => n.val
  | .host => 12
  | .debug => 13

/-- The converter whose record stands at a base, or the modulator channel. -/
def mirrorFresh (s : State) (base : Nat) : Option Nat :=
  if 0x6001A000 ≤ base && base < 0x6001E000 && base % 0x20 = 0 then some (s.fld (ADC_FRESH_LIMIT ((base - 0x6001A000) / 0x200)))
  else if 0x6001F000 ≤ base && base < 0x6001F400 && base % 0x20 = 0 then some (s.fld (ADC_FRESH_LIMIT ((base - 0x6001F000) / 0x20)))
  else if 0x60021000 ≤ base && base < 0x60021300 && base % 0x20 = 0 then some (s.fld (MOD_FRESH_LIMIT ((base - 0x60021000) / 0x20)))
  else none

/-- STALE of a record at a read (R158): the limit is in µs, 0 never stale. -/
def mirrorStale (s : State) (base limit : Nat) : Bool := limit ≠ 0 && decide (mirrorTime s base + 400 * limit < s.mtime)

/-- A low-half read of a record's mantissa: the record is latched for the requester, with STALE as of now. -/
def mirrorRead (s : State) (r : Requester) (base : Nat) : State :=
  match mirrorFresh s base with
  | some limit =>
    let s := s.putFlag (RES_FLAGS_STALE base) (mirrorStale s base limit)
    let w := (s.word base).toNat
    let l : MirLatch :=
      { base := base, word := w, tlo := s.fld (RES_TLO_T_LO base), thi := s.fld (RES_THI_T_HI base),
        flags := readFields s (base + 0x10), raw := s.fld (RES_RAW base) }
    { s with mirLatch := Tbl.set {} s.mirLatch (reqIdx r) l }.emit (.data r base (w % 2 ^ 32))
  | none => s.emit (.busError r base)

/-! ### Register writes (R160-R163) -/

/-- A write of ADC_CTRL: checks, fields, then what EN brings about (R142, R145). `pre` is a reason of another block to refuse the
enable. -/
def adcCtrl (s : State) (n data : Nat) (pre : List (Bool × Status)) : State × Status :=
  let was := s.flag (ADC_CTRL_EN n)
  let r := checkedWrite s adcErr (pre ++ [(bitsOf data 1 2 = 3 || 104 ≤ bitsOf data 3 7 || 104 ≤ bitsOf data 14 7
    || 12 ≤ bitsOf data 22 4, .ADC_RANGE)]) (0x60018000 + n * 0x100) data
  if r.2 ≠ .OK then r
  else
    let now := r.1.flag (ADC_CTRL_EN n)
    let s := cmpIdle r.1 n
    let runs := s.flag (ADC_STAT_BUSY n) || s.flag (ADC_STAT_URG_BUSY n)
    if now && !was && s.fld (ADC_CTRL_TRG_MODE n) = 2 then
      (if runs then s.setAdc n { s.adcOf n with wait := true } else beginSequence s n, .OK)
    else if !now then
      ((s.setAdc n { s.adcOf n with wait := false, cut := runs }).putFlag (ADC_STAT_URG_PEND n) false, .OK)
    else (s, .OK)

/-- A write of ADC_SWREQ: an urgent request first, then a start (R144). -/
def adcSwreq (s : State) (n data : Nat) : State :=
  let s := s.when (bitAt data 1) fun s => adcUrgent s n
  s.when (bitAt data 0) fun s => adcStart s n

/-- The exponent of an entry word is in range (R156). -/
def scaleBad (data : Nat) : Bool := decide (signedOf 8 (bitsOf data 12 8) - (bitsOf data 10 2 : Nat) < -128)

/-- Writes to the other registers of a converter (R160). -/
def adcRegWrite (s : State) (a data : Nat) : State × Status :=
  let n := (a - 0x60018000) / 0x100
  let o := (a - 0x60018000) % 0x100
  if a = 0x6001E000 then writeLock s adcErr data
  else if 0x6001A000 ≤ a then writeFields s adcErr a data
  else if o = 0x0C then
    let r := checkedWrite s adcErr [(16 < bitsOf data 2 5, .ADC_RANGE)] a data
    (cmpIdle r.1 n, r.2)
  else if o = 0x10 then checkedWrite s adcErr [(bitsOf data 16 12 < bitsOf data 0 12, .ADC_RANGE)] a data
  else if o = 0x18 || (0x40 ≤ o && o < 0x80) then checkedWrite s adcErr [(scaleBad data, .ADC_RANGE)] a data
  else if o = 0x1C || (0x80 ≤ o && o < 0xC0) then checkedWrite s adcErr [(bitAt data 6, .ADC_RANGE)] a data
  else writeFields s adcErr a data

/-- An enabled channel uses a clock. -/
def clockUsed (s : State) (c : Nat) : Bool :=
  (List.range 24).any fun k => s.flag (MOD_CFG_EN k) && s.fld (MOD_CFG_MCLK_SEL k) = c

/-- Writes to the MOD_ registers (R150, R151, R162). -/
def modRegWrite (s : State) (a data : Nat) : State × Status :=
  let k := (a - 0x60020000) / 0x40
  let o := (a - 0x60020000) % 0x40
  if a = 0x60021900 then writeLock s modErr data
  else if 0x60021800 ≤ a && a < 0x60021810 then
    let c := (a - 0x60021800) / 4
    let m := bitsOf data 0 7
    let change := m ≠ s.fld (MOD_MCLK_MDIV c) || bitsOf data 7 1 ≠ s.fld (MOD_MCLK_EN c)
    let x := checkedWrite s modErr [(m < 16 || 80 < m, .MOD_RANGE), (change && clockUsed s c, .MOD_BUSY)] a data
    (x.1.when (x.1.flag (MOD_MCLK_EN c) && !s.flag (MOD_MCLK_EN c)) fun s =>
      s.each ((List.range 24).filter fun k => s.flag (MOD_CFG_EN k) && s.fld (MOD_CFG_MCLK_SEL k) = c) settleMod, x.2)
  else if a < 0x60020600 && o = 0 then
    let was := s.flag (MOD_CFG_EN k)
    let change := bitsOf data 4 8 ≠ s.fld (MOD_CFG_DM1 k) || bitsOf data 12 8 ≠ s.fld (MOD_CFG_PHASE k)
    let r := checkedWrite s modErr [(bitsOf data 4 8 < 15 || bitsOf data 4 8 < bitsOf data 12 8 || 12 ≤ bitsOf data 28 4, .MOD_RANGE),
      (was && change, .MOD_BUSY)] a data
    (r.1.when (r.2 = .OK && r.1.flag (MOD_CFG_EN k) && !was) fun s => settleMod s k, r.2)
  else if a < 0x60020600 && o = 4 then checkedWrite s modErr [(bitAt data 6, .MOD_RANGE)] a data
  else writeFields s modErr a data

end Sys2Proof.Machine
end

