-- ==== Sys2Proof/Machine/Engine.lean ====
section
/-! DEFINITION. Chapter 07: the loop engines (R185-R216): states and runs, the instruction set, coefficient banks and the COMMIT
path. -/

namespace Sys2Proof.Machine

def leErr : BlockErr where
  last := LE_ERR_LAST_ERR
  cnt := LE_ERR_ERR_CNT
  lock := LE_LOCK
  locked := .LE_LOCKED
  codes := [(.LE_RANGE, 1), (.LE_BUSY, 2), (.LE_BANK_ACTIVE, 3), (.LE_LOCKED, 4), (.LE_CHECK_FAIL, 5), (.LE_GROUP_OWNED, 6)]

namespace State

def engOf (s : State) (e : Nat) : Eng := Tbl.get {} s.eng e
def setEng (s : State) (e : Nat) (v : Eng) : State := { s with eng := Tbl.set {} s.eng e v }
def libOf (s : State) (e : Nat) : Lib := Tbl.get {} s.lib e
def setLib (s : State) (e : Nat) (v : Lib) : State := { s with lib := Tbl.set {} s.lib e v }

/-- Record a refusal that concerns an engine (R215, R216). -/
def leRefuse (s : State) (e : Nat) (st : Status) : State := (s.refuse leErr st).put LE_ERR_ENGINE e

/-- Interrupt the owner of an engine: 0 END, 1 overrun, 2 EVT, 3 FAULT or a refused commit. -/
def leIrq (s : State) (e : Nat) (en : Fld) (cause : Nat) : State :=
  s.when (s.flag en) fun s => s.irq (s.fld (LE_CFG_OWNER e)) .le e cause

end State

/-! ### Memories (R36, R185) -/

/-- Addresses of a program word, of a coefficient word of a bank, of a table-RAM word. -/
def progAddr (e i : Nat) : Nat := 0x40000000 + e * 0x20000 + 8 * i
def coefAddr (e b i : Nat) : Nat := 0x40000000 + e * 0x20000 + 0x10000 + b * 0x2000 + 8 * i
def tableAddr (i : Nat) : Nat := 0x50000000 + 8 * i

/-- A write of a 36-bit word of an engine's memories (R186): program memory only while OFF, the active bank only while OFF. -/
def leWordWrite (s : State) (a : Nat) (w : Word36) : State × Status :=
  let e := (a - 0x40000000) / 0x20000
  let o := a % 0x20000
  let off := s.fld (LE_STAT_STATE e) = 0
  if o < 0x8000 then (if off then (s.setWord a w, .OK) else (s.leRefuse e .LE_BUSY, .LE_BUSY))
  else if 0x10000 ≤ o then
    if !off && (o - 0x10000) / 0x2000 = s.fld (LE_STAT_BANK e) then (s.leRefuse e .LE_BANK_ACTIVE, .LE_BANK_ACTIVE)
    else (s.setWord a w, .OK)
  else (s.setWord a w, .OK)

/-! ### Entering OFF, escalation, FAULT (R188, R192, R193, R208) -/

/-- A pending swap takes effect. -/
def takeSwap (s : State) (e : Nat) : State :=
  if s.flag (LE_STAT_SWAP_PEND e) then
    (s.putAll [(LE_STAT_BANK e, 1 - s.fld (LE_STAT_BANK e)), (LE_STAT_SWAP_PEND e, 0)]).finish (.engineSwap e) .OK
  else s

/-- The raw descriptor of LE_TBL_j. -/
def tblRaw (s : State) (e j : Nat) : Nat :=
  s.fld (LE_TBL_BASE e j) + s.fld (LE_TBL_L e j) * 2 ^ 19 + s.fld (LE_TBL_WRAP e j) * 2 ^ 24 + s.fld (LE_TBL_VALID e j) * 2 ^ 25

/-- The descriptors as they stand now. -/
def tblNow (s : State) (e : Nat) : Tbl Nat :=
  (List.range 8).foldl (fun t j => Tbl.set 0 t j (tblRaw s e j)) []

/-- Every entry into OFF: the safe-state request is withdrawn, a pending swap takes effect, the groups are free (R193, R208). -/
def engineOff (s : State) (e : Nat) : State :=
  let s := s.putAll [(LE_STAT_STATE e, 0), (LE_STAT_ESCALATED e, 0), (LE_STAT_ORUN_SEQ e, 0)]
  let s := s.setEng e { s.engOf e with disarm := false, loops := [] }
  let s := s.each (List.range 12) fun s g => if s.fld (LE_G_GRP_ENGINE g) = e then s.put (LE_G_GRP_ENGINE g) 63 else s
  (takeSwap s e).finish (.engineOff e) .OK

/-- ENGINE_ESCALATION: the safe-state request for the groups of the header's mask (R192). -/
def escalate (s : State) (e : Nat) : State :=
  if s.flag (LE_STAT_ESCALATED e) then s
  else demand (s.putFlag (LE_STAT_ESCALATED e) true) ⟨0x40 + e, engineMask s e, false, 1, true⟩

/-- ENGINE_ECC_FAULT: an uncorrectable error in a word a run reads; 1 private memory, 2 table RAM (R187). -/
def engineFault (s : State) (e cause : Nat) : State :=
  let s := s.putAll [(LE_STAT_STATE e, 4), (LE_STAT_FAULT_CAUSE e, cause)]
  escalate (s.leIrq e (LE_CFG_FLT_IE e) 3) e

/-- An overrun is counted and named: 1 LATE, 2 BUDGET; the third in a row escalates (R191, R192). -/
def countOverrun (s : State) (e kind : Nat) : State :=
  let s := s.inc (if kind = 1 then LE_CNT_OVR_LATE_CNT e else LE_CNT_OVR_BUDGET_CNT e)
  let n := min 3 (s.fld (LE_STAT_ORUN_SEQ e) + 1)
  let s := (s.putAll [(LE_STAT_LAST_OVR e, kind), (LE_STAT_ORUN_SEQ e, n)]).trace 2 0 [e, kind]
  let s := s.leIrq e (LE_CFG_OVR_IE e) 1
  s.when (n = 3) fun s => escalate s e

/-! ### Commands (R193, R208) -/

/-- LE_CMD = ARM: the check starts. An engine of a lost cluster is refused (R383). -/
def engineArm (s : State) (e : Nat) : State × Status :=
  if s.fld (LE_STAT_STATE e) ≠ 0 || (s.fld PWR_RET_LOST_LO_BANKS).testBit (24 + e / 4) then (s.leRefuse e .LE_BUSY, .LE_BUSY)
  else ((s.putAll [(LE_STAT_STATE e, 1), (LE_CYC_MAX e, 0)]), .OK)

/-- A check that is abandoned completes its ARM with LE_ARM_CANCELLED, without RESULT. -/
def abandonCheck (s : State) (e : Nat) : State :=
  if s.fld (LE_STAT_STATE e) = 1 then s.finish (.engineArm e) .LE_ARM_CANCELLED else s

/-- LE_CMD = DISARM. -/
def engineDisarm (s : State) (e : Nat) : State :=
  match s.fld (LE_STAT_STATE e) with
  | 0 => s
  | 3 => s.setEng e { s.engOf e with disarm := true }
  | _ => engineOff (abandonCheck s e) e

/-- LE_CMD = STOP. -/
def engineStop (s : State) (e : Nat) : State :=
  if s.fld (LE_STAT_STATE e) = 0 then s else engineOff (abandonCheck s e) e

/-- LE_CMD.SWAP: at once in OFF; otherwise pending, and a second request while one is pending is ignored. -/
def engineSwap (s : State) (e : Nat) : State :=
  if s.fld (LE_STAT_STATE e) = 0 then s.put (LE_STAT_BANK e) (1 - s.fld (LE_STAT_BANK e))
  else s.putFlag (LE_STAT_SWAP_PEND e) true

/-- What the check reads of an engine. -/
def progOf (s : State) (e : Nat) : LeProg where
  word := fun i => (s.word (progAddr e i)).toNat
  enA := s.flag (LE_CFG_TRGA_EN e)
  enB := s.flag (LE_CFG_TRGB_EN e)
  valid := fun j => s.flag (LE_TBL_VALID e j)
  entries := fun j => 2 ^ s.fld (LE_TBL_L e j) + (1 - s.fld (LE_TBL_WRAP e j))
  legs := fun g => (s.members g).length

/-- Another engine that is not OFF declares a group of the mask in its header (R206). -/
def groupOwned (s : State) (e mask : Nat) : Bool :=
  (List.range 32).any fun k => k ≠ e && s.fld (LE_STAT_STATE k) ≠ 0 && (progOf s k).mask &&& mask ≠ 0

/-- CHECK_END: IDLE, or back to OFF with the code and the first failing word (R206). -/
def checkEnd (s : State) (e : Nat) : State :=
  if s.fld (LE_STAT_STATE e) ≠ 1 then s
  else
    let p := progOf s e
    let r := checkProg p
    let s := s.putAll [(LE_STAT_CHECK_CODE e, r.code), (LE_CHECK_ADDR e, r.at_)]
    let s := s.when (r.code = 0) fun s => s.putAll [(LE_WCET_A_CYCLES e, r.wcetA), (LE_WCET_B_CYCLES e, r.wcetB)]
    if r.code ≠ 0 then
      engineOff ((s.leRefuse e .LE_CHECK_FAIL).finish (.engineArm e) .LE_CHECK_FAIL (some r.code)) e
    else if groupOwned s e p.mask then
      engineOff ((s.leRefuse e .LE_GROUP_OWNED).finish (.engineArm e) .LE_GROUP_OWNED (some 0)) e
    else
      let s := s.each ((List.range 12).filter fun g => p.mask.testBit g) fun s g => s.put (LE_G_GRP_ENGINE g) e
      (s.put (LE_STAT_STATE e) 2).finish (.engineArm e) .OK (some 0)

/-! ### Runs (R189-R191) -/

/-- A run begins at its sample boundary (R189). -/
def beginRun (s : State) (e : Nat) (b : Bool) (fired : Nat) : State :=
  let s := takeSwap s e
  let p := progOf s e
  let x := s.engOf e
  let y : Eng := { se := p.initSe b, pc := p.entry b, budget := p.declared b, trig := fired }
  let s := s.setEng e { y with tbl := tblNow s e, flight := x.flight }
  s.putAll [(LE_STAT_STATE e, 3), (LE_TRG_TIME_T e, fired)]

/-- The library program that an engine's memory holds, by the origin and the ID of its header (R205, R212). -/
def libId (s : State) (e : Nat) : Option Nat :=
  let w := (s.word (progAddr e 4)).toNat
  if bitsOf w 32 4 = 1 && 1 ≤ bitsOf w 0 16 && bitsOf w 0 16 ≤ 7 then some (bitsOf w 0 16) else none

/-- The enabled trigger A, or B, takes one of the events of a cycle (R189, R214). -/
def trigA (s : State) (e events : Nat) : Bool := s.flag (LE_CFG_TRGA_EN e) && events.testBit (s.fld (LE_CFG_TRGA_EVT e))
def trigB (s : State) (e events : Nat) : Bool := s.flag (LE_CFG_TRGB_EN e) && events.testBit (s.fld (LE_CFG_TRGB_EVT e))

/-- The events of a cycle begin a run. -/
def runTaken (s : State) (e events : Nat) : Bool :=
  (trigA s e events || trigB s e events) &&
    (s.fld (LE_STAT_STATE e) = 2 || (s.fld (LE_STAT_STATE e) = 3 && !(s.engOf e).disarm))

/-- ENGINE_TRIGGER: the events that reach the engine in one cycle, bit n for event n; each enabled trigger takes the one it subscribes
to (R189-R191). -/
def engineTrigger (s : State) (e events fired : Nat) : State :=
  let a := trigA s e events
  let b := trigB s e events
  let st := s.fld (LE_STAT_STATE e)
  if !a && !b || (st ≠ 2 && st ≠ 3) then s
  else
    let s := s.when (a && b) fun s => s.inc (LE_CNT_MISC_COLLIDE e)
    if st = 2 then beginRun s e (!a) fired
    else
      let disarm := (s.engOf e).disarm
      let s := countOverrun s e 1
      if disarm then engineOff s e else beginRun s e (!a) fired

/-- The charged-cycle counter reaches the declared count before the instruction at the pc can be charged within it. -/
def budgetOut (s : State) (e : Nat) : Bool :=
  let x := s.engOf e
  match leDecode (s.word (progAddr e x.pc)).toNat with
  | some op => x.budget < x.cycles + op.charge
  | none => true

/-- BUDGET_OVERRUN: the run is aborted; IDLE, or OFF if a DISARM waits (R191, R193). -/
def budgetOverrun (s : State) (e : Nat) : State :=
  if s.fld (LE_STAT_STATE e) = 3 && budgetOut s e && (libId s e).isNone then
    let disarm := (s.engOf e).disarm
    let s := (countOverrun s e 2).put (LE_STAT_STATE e) 2
    if disarm then engineOff s e else s
  else s

/-! ### Arithmetic (R194, R195) -/

/-- v × 2^sh, rounded to nearest, ties toward plus infinity (R195). -/
def scaleRound (v sh : Int) : Int :=
  if 0 ≤ sh then v * 2 ^ sh.toNat else (v + 2 ^ ((-sh).toNat - 1)) / 2 ^ (-sh).toNat

/-- n / d rounded to nearest, ties toward plus infinity, for d > 0. -/
def divRound (n d : Int) : Int := (2 * n + d) / (2 * d)

/-- n · a / √q rounded to nearest, ties toward plus infinity, for a ≥ 0 and q > 0. -/
def rootRound (n a : Int) (q : Nat) : Int :=
  let y := (n * a).natAbs
  let r := isqrt 128 (4 * y * y / q)
  if 0 ≤ n then ((r + 1) / 2 : Nat) else -(((if r * r * q = 4 * y * y then r else r + 1) / 2 : Nat) : Int)

def maxM : Int := 2 ^ 35 - 1
def minM : Int := -2 ^ 35
def maxA : Int := 2 ^ 79 - 1
def minA : Int := -2 ^ 79

namespace Eng

/-- The mantissa of a register, the value of an accumulator, a pointer. -/
def mant (x : Eng) (r : Nat) : Int := (Tbl.get 0 x.m r).toInt
def accu (x : Eng) (n : Nat) : Int := (Tbl.get 0 x.a n).toInt
def ptr (x : Eng) (n : Nat) : Nat := (Tbl.get 0 x.p n).toNat
def setM (x : Eng) (r : Nat) (w : BitVec 36) : Eng := { x with m := Tbl.set 0 x.m r w }
def setA (x : Eng) (n : Nat) (w : BitVec 80) : Eng := { x with a := Tbl.set 0 x.a n w }
def setP (x : Eng) (n v : Nat) : Eng := { x with p := Tbl.set 0 x.p n (BitVec.ofNat 12 v) }

/-- A condition (R201). -/
def cond (x : Eng) : Nat → Bool
  | 0 => true
  | 1 => x.lt
  | 2 => x.eq
  | 3 => x.lt || x.eq
  | 4 => x.sv
  | 5 => !x.sv
  | 6 => x.so
  | _ => x.lim

end Eng

/-- A saturation of the run: SAT, and SAT_RUNS once per run (R195). -/
def markSat (s : State) (e : Nat) : State :=
  let x := s.engOf e
  let s := s.when (!x.sat) fun s => s.inc (LE_CNT_MISC_SAT_RUNS e)
  (s.setEng e { x with sat := true }).putFlag (LE_STAT_SAT e) true

/-- LIM of the run and of LE_STAT. -/
def markLim (s : State) (e : Nat) : State := (s.setEng e { s.engOf e with lim := true }).putFlag (LE_STAT_LIM e) true

/-- Write an exact result to a mantissa, saturated (R195). -/
def leM (s : State) (e d : Nat) (v : Int) : State :=
  let s := s.when (v < minM || maxM < v) fun s => markSat s e
  s.setEng e ((s.engOf e).setM d (BitVec.ofInt 36 (clampInt minM maxM v)))

/-- Write a mantissa modulo 2^36. -/
def leW (s : State) (e d : Nat) (v : Int) : State := s.setEng e ((s.engOf e).setM d (BitVec.ofInt 36 v))

/-- Write an exact result to an accumulator, saturated. -/
def leA (s : State) (e n : Nat) (v : Int) : State :=
  let s := s.when (v < minA || maxA < v) fun s => markSat s e
  s.setEng e ((s.engOf e).setA n (BitVec.ofInt 80 (clampInt minA maxA v)))

/-! ### Memory operands (R200) -/

/-- The address a memory operand names in a memory of `size` words; the pointer then advances modulo `size`. -/
def leAddr (s : State) (e size wrap : Nat) : LeMem → State × Nat
  | .dir a => (s, a % size)
  | .ptr p o i =>
    let x := s.engOf e
    let v : Int := x.ptr p
    (s.setEng e (x.setP p ((v + i) % (wrap : Int)).toNat), ((v + o) % (size : Int)).toNat)

/-- The address of a slot pair: a computed odd address loses bit 0 and sets ALIGN. -/
def leSlotAddr (s : State) (e : Nat) (x : LeMem) : State × Nat :=
  let r := leAddr s e 4096 4096 x
  if r.2 % 2 = 1 then (r.1.putFlag (LE_STAT_ALIGN e) true, r.2 - 1) else r

/-- A coefficient of the active bank. -/
def leCoef (s : State) (e : Nat) (x : LeMem) : State × Int :=
  let r := leAddr s e 1024 1024 x
  (r.1, (r.1.word (coefAddr e (s.fld (LE_STAT_BANK e)) r.2)).toInt)

/-- Entry `i` of the table of a raw descriptor. -/
def tblEntry (s : State) (raw i : Nat) : Int := (s.word (tableAddr (raw % 2 ^ 19 + i))).toInt

/-- Length exponent, WRAP and VALID of a raw descriptor. -/
def tblL (raw : Nat) : Nat := bitsOf raw 19 5
def tblWrap (raw : Nat) : Bool := raw.testBit 24
def tblValid (raw : Nat) : Bool := raw.testBit 25

/-- The index LDT names in the table of a raw descriptor: a direct one is an entry as it stands; a computed one is taken modulo the
table's length 2^L (R200, R204; log 52). -/
def tblIndex (s : State) (e raw : Nat) : LeMem → State × Nat
  | .dir a => (s, if tblWrap raw || 2 ^ tblL raw < a then a % 2 ^ tblL raw else a)
  | x => leAddr s e (2 ^ tblL raw) 4096 x

/-! ### One instruction -/

/-- A loop body that ends at the pc starts again or is left. -/
def loopStep (x : Eng) : Eng :=
  match x.loops with
  | (start, stop, left) :: rest =>
    if x.pc = stop then
      if 1 < left then { x with pc := start, loops := (start, stop, left - 1) :: rest } else { x with loops := rest }
    else x
  | [] => x

/-- Run the instruction at the pc if the engine is in RUN, the program is not one of the library, the word decodes to an instruction that `sem` gives a meaning, and its
charge fits the declared count (R191). The pc has moved past the word before `sem` acts. -/
def leStep (s : State) (e : Nat) (ecc : Ecc) (sem : State → Nat → LeOp → Option State) : State :=
  if s.fld (LE_STAT_STATE e) ≠ 3 || (libId s e).isSome || budgetOut s e then s
  else
    let x := s.engOf e
    match leDecode (s.word (progAddr e x.pc)).toNat with
    | none => s
    | some op =>
      match sem (s.setEng e { x with pc := x.pc + 1, cycles := x.cycles + op.charge }) e op with
      | none => s
      | some s' =>
        match ecc with
        | .lostPrivate => engineFault s e 1
        | .lostTable => engineFault s e 2
        | _ =>
          let s' := s'.when (ecc = .corrected) fun s => s.inc (LE_CNT_ECC_CORR e)
          s'.setEng e (loopStep (loopStep (s'.engOf e)))

/-! ### The instructions (R197, R198, R202-R204) -/

def leNop (s : State) (_ : Nat) : LeOp → Option State
  | .nop => some s
  | _ => none

def leLd (s : State) (e : Nat) : LeOp → Option State
  | .ld d x =>
    let r := leAddr s e 4096 4096 x
    some (leM r.1 e d (r.1.word (dataAddr e r.2)).toInt)
  | _ => none

/-- Sample age in ticks, modulo 2^24 (R197). -/
def sampleOld (s : State) (e trig slotTime : Nat) : Bool :=
  let lim := s.fld (LE_AGELIM_LIMIT e)
  lim ≠ 0 && lim < (trig % 2 ^ 24 + 2 ^ 24 - slotTime) % 2 ^ 24

def leLds (s : State) (e : Nat) : LeOp → Option State
  | .lds d x =>
    let r := leSlotAddr s e x
    let s := r.1
    let m := (s.word (dataAddr e r.2)).toInt
    let w := (s.word (dataAddr e (r.2 + 1))).toNat
    let y := s.engOf e
    let s := s.setEng e { y with sv := w.testBit 35 && !w.testBit 33, so := sampleOld s e y.trig (bitsOf w 0 24) }
    some (leM s e d (scaleRound m (signedOf 8 (bitsOf w 24 8) - y.se)))
  | _ => none

def leLdc (s : State) (e : Nat) : LeOp → Option State
  | .ldc d x =>
    let r := leCoef s e x
    some (leM r.1 e d r.2)
  | _ => none

def leLdt (s : State) (e : Nat) : LeOp → Option State
  | .ldt d t x =>
    let raw := Tbl.get 0 (s.engOf e).tbl t
    let r := tblIndex s e raw x
    if tblValid raw then some (leM r.1 e d (tblEntry r.1 raw r.2)) else some (markSat (leM r.1 e d 0) e)
  | _ => none

def leLdi (s : State) (e : Nat) : LeOp → Option State
  | .ldi d imm => some (leM s e d (imm * 2 ^ 18))
  | _ => none

def leSt (s : State) (e : Nat) : LeOp → Option State
  | .st d x =>
    let r := leAddr s e 4096 4096 x
    some (r.1.setWord (dataAddr e r.2) (BitVec.ofInt 36 ((r.1.engOf e).mant d)))
  | _ => none

def leSts (s : State) (e : Nat) : LeOp → Option State
  | .sts d x =>
    let r := leSlotAddr s e x
    let y := r.1.engOf e
    some ((r.1.setWord (dataAddr e r.2) (BitVec.ofInt 36 (y.mant d))).setWord (dataAddr e (r.2 + 1))
      (slotWord true y.sat false false (codeOf 8 y.se) y.trig))
  | _ => none

def leMov (s : State) (e : Nat) : LeOp → Option State
  | .mov d a => some (leM s e d ((s.engOf e).mant a))
  | _ => none

def leLda (s : State) (e : Nat) : LeOp → Option State
  | .lda d n k => some (leM s e d (scaleRound ((s.engOf e).accu n) (k - 35)))
  | _ => none

def leLdp (s : State) (e : Nat) : LeOp → Option State
  | .ldp p imm => some (s.setEng e ((s.engOf e).setP p imm))
  | _ => none

def leAddp (s : State) (e : Nat) : LeOp → Option State
  | .addp p imm => some (s.setEng e ((s.engOf e).setP p ((((s.engOf e).ptr p : Int) + imm) % 4096).toNat))
  | _ => none

def leAdd (s : State) (e : Nat) : LeOp → Option State
  | .add d a b => some (leM s e d ((s.engOf e).mant a + (s.engOf e).mant b))
  | _ => none

def leSub (s : State) (e : Nat) : LeOp → Option State
  | .sub d a b => some (leM s e d ((s.engOf e).mant a - (s.engOf e).mant b))
  | _ => none

def leNeg (s : State) (e : Nat) : LeOp → Option State
  | .neg d a => some (leM s e d (-(s.engOf e).mant a))
  | _ => none

def leAbs (s : State) (e : Nat) : LeOp → Option State
  | .abs d a => some (leM s e d (((s.engOf e).mant a).natAbs))
  | _ => none

def leAddw (s : State) (e : Nat) : LeOp → Option State
  | .addw d a b => some (leW s e d ((s.engOf e).mant a + (s.engOf e).mant b))
  | _ => none

def leMul (s : State) (e : Nat) : LeOp → Option State
  | .mul d a b k => some (leM s e d (scaleRound ((s.engOf e).mant a * (s.engOf e).mant b) (k - 35)))
  | _ => none

def leMulc (s : State) (e : Nat) : LeOp → Option State
  | .mulc d a x k =>
    let r := leCoef s e x
    some (leM r.1 e d (scaleRound ((r.1.engOf e).mant a * r.2) (k - 35)))
  | _ => none

def leMulw (s : State) (e : Nat) : LeOp → Option State
  | .mulw d a k => some (leW s e d ((s.engOf e).mant a * k))
  | _ => none

def leDiv (s : State) (e : Nat) : LeOp → Option State
  | .div d a b =>
    let n := (s.engOf e).mant a
    let q := (s.engOf e).mant b
    if q = 0 then
      if n = 0 then some (leM s e d 0) else some (markSat (leM s e d (if 0 < n then maxM else minM)) e)
    else some (leM s e d (if 0 < q then divRound (n * 2 ^ 35) q else divRound (-n * 2 ^ 35) (-q)))
  | _ => none

def leAsh (s : State) (e : Nat) : LeOp → Option State
  | .ash d a k => some (leM s e d (scaleRound ((s.engOf e).mant a) k))
  | _ => none

def leMin (s : State) (e : Nat) : LeOp → Option State
  | .min d a b => some (leM s e d (Min.min ((s.engOf e).mant a) ((s.engOf e).mant b)))
  | _ => none

def leMax (s : State) (e : Nat) : LeOp → Option State
  | .max d a b => some (leM s e d (Max.max ((s.engOf e).mant a) ((s.engOf e).mant b)))
  | _ => none

def leClamp (s : State) (e : Nat) : LeOp → Option State
  | .clamp d a b =>
    let x := s.engOf e
    let v := Min.min (Max.max (x.mant d) (x.mant a)) (x.mant b)
    let s' := leM s e d v
    some (s'.when (v ≠ x.mant d) fun s => markLim s e)
  | _ => none

/-- VLIM: the vector is scaled to the limit when its magnitude exceeds it, each component rounded to nearest (R195, R202). -/
def leVlim (s : State) (e : Nat) : LeOp → Option State
  | .vlim d a =>
    let x := s.engOf e
    let u := x.mant d
    let v := x.mant (d + 1)
    let lim := Max.max (x.mant a) 0
    let q := (u * u + v * v).natAbs
    if lim * lim < q then
      some (markLim (leM (leM s e d (rootRound u lim q)) e (d + 1) (rootRound v lim q)) e)
    else some s
  | _ => none

/-- a ± product × 2^K, rounded once. -/
def leMacTo (s : State) (e n : Nat) (product k : Int) : State := leA s e n ((s.engOf e).accu n + scaleRound product k)

def leMac (s : State) (e : Nat) : LeOp → Option State
  | .mac n a b k => some (leMacTo s e n ((s.engOf e).mant a * (s.engOf e).mant b) k)
  | _ => none

def leMacc (s : State) (e : Nat) : LeOp → Option State
  | .macc n a x k =>
    let r := leCoef s e x
    some (leMacTo r.1 e n ((r.1.engOf e).mant a * r.2) k)
  | _ => none

def leMsu (s : State) (e : Nat) : LeOp → Option State
  | .msu n a b k => some (leMacTo s e n (-((s.engOf e).mant a * (s.engOf e).mant b)) k)
  | _ => none

def leMsuc (s : State) (e : Nat) : LeOp → Option State
  | .msuc n a x k =>
    let r := leCoef s e x
    some (leMacTo r.1 e n (-((r.1.engOf e).mant a * r.2)) k)
  | _ => none

def leClra (s : State) (e : Nat) : LeOp → Option State
  | .clra n => some (leA s e n 0)
  | _ => none

def leLdam (s : State) (e : Nat) : LeOp → Option State
  | .ldam n a => some (leA s e n ((s.engOf e).mant a * 2 ^ 35))
  | _ => none

def leAdda (s : State) (e : Nat) : LeOp → Option State
  | .adda n a k => some (leA s e n ((s.engOf e).accu n + scaleRound ((s.engOf e).mant a) (35 + k)))
  | _ => none

/-- The position of the highest of bits 34 to 0 that differs from the sign; the left shift that keeps the mantissa in range is 34
minus it, and 35 where none differs (R198). -/
def normShift (m : Int) : Nat :=
  let u := (if m < 0 then -m - 1 else m).natAbs
  match (List.range 35).find? fun i => u.testBit (34 - i) with
  | some i => i
  | none => 35

def leNorm (s : State) (e : Nat) : LeOp → Option State
  | .norm a b =>
    let x := s.engOf e
    let nx := ((List.range (b + 1 - a)).map fun i => normShift (x.mant (a + i))).foldl Min.min 35
    some (s.setEng e { x with nx := nx })
  | _ => none

/-- STAGE: the new exponent, limited to -128 to 127 with SAT, and the rescaled registers of the mask (R198). -/
def leStage (s : State) (e : Nat) : LeOp → Option State
  | .stage mode1 imm mask =>
    let x := s.engOf e
    let want := if mode1 then x.se - x.nx else imm
    let se' := clampInt (-128) 127 want
    let s := s.when (want ≠ se') fun s => markSat s e
    let s := s.each (bitsSet 16 mask) fun s j => leM s e j (scaleRound ((s.engOf e).mant j) (x.se - se'))
    some (s.setEng e { s.engOf e with se := se' })
  | _ => none

def leCmp (s : State) (e : Nat) : LeOp → Option State
  | .cmp a b =>
    let x := s.engOf e
    some (s.setEng e { x with lt := decide (x.mant a < x.mant b), eq := decide (x.mant a = x.mant b) })
  | _ => none

def leSel (s : State) (e : Nat) : LeOp → Option State
  | .sel d a b c => some (leM s e d ((s.engOf e).mant (if (s.engOf e).cond c then a else b)))
  | _ => none

def leSkip (s : State) (e : Nat) : LeOp → Option State
  | .skip c n =>
    let x := s.engOf e
    some (if x.cond c then s.setEng e { x with pc := x.pc + n } else s)
  | _ => none

def leLoop (s : State) (e : Nat) : LeOp → Option State
  | .loop count n =>
    let x := s.engOf e
    some (s.setEng e { x with loops := (x.pc, x.pc + n, count) :: x.loops })
  | _ => none

/-- The completion point of the run (R190). -/
def runEnd (s : State) (e : Nat) : State :=
  let x := s.engOf e
  let s := (s.inc (LE_CNT_RUN_RUNS e)).putAll [(LE_CYC_LAST e, x.cycles),
    (LE_CYC_MAX e, Max.max x.cycles (s.fld (LE_CYC_MAX e))), (LE_STAT_ORUN_SEQ e, 0), (LE_STAT_STATE e, 2)]
  let s := s.leIrq e (LE_CFG_DONE_IE e) 0
  if x.disarm then engineOff s e else s

def leEnd (s : State) (e : Nat) : LeOp → Option State
  | .fin => some (runEnd s e)
  | _ => none

/-- An EVT code is raised (R214). -/
def evtRaise (s : State) (e code : Nat) : State :=
  (s.putAll [(LE_EVT_CODE e, code), (LE_EVT_EVT_FLAG e, 1)]).leIrq e (LE_CFG_EVT_IE e) 2

def leEvt (s : State) (e : Nat) : LeOp → Option State
  | .evt c code => some (if (s.engOf e).cond c then evtRaise s e code else s)
  | _ => none

/-- A mantissa within 2^-32 of `t` / 2^64 (R202): the spec bounds the error and leaves the value open (log 20), so the free value
`f` picks one of the mantissas within the bound; exactly +1 is given as 2^35 - 1 and exactly -1 as -2^35. -/
def nearMant (t : Int) (f : Nat) : Int :=
  if t = one64 then maxM
  else if t = -one64 then minM
  else
    let lo := -((-(t - 2 ^ 32)) / 2 ^ 29)
    let hi := (t + 2 ^ 32) / 2 ^ 29
    clampInt minM maxM (lo + (f : Int) % (hi - lo + 1))

def leSincos (s : State) (e : Nat) : LeOp → Option State
  | .sincos d a =>
    let sc := sinCosTurn 36 ((s.engOf e).mant a)
    let r1 := s.fresh
    let r2 := r1.2.fresh
    some (leM (leM r2.2 e d (nearMant sc.2 r1.1)) e (d + 1) (nearMant sc.1 r2.1))
  | _ => none

/-- The angle of (x, y) in the first quadrant, in half codes of π / 2^36, found bit by bit. -/
def angleBits (x y : Int) : Nat → Int → Int
  | 0, h => h
  | n + 1, h =>
    let h' := h + 2 ^ n
    let sc := sinCosTurn 37 h'
    angleBits x y n (if x * sc.1 ≤ y * sc.2 then h' else h)

/-- atan2(y, x) / π as a mantissa before saturation; 0 for (0, 0). -/
def atanCode (x y : Int) : Int :=
  if x = 0 && y = 0 then 0
  else
    let ax : Int := x.natAbs
    let ay : Int := y.natAbs
    let q := if ax = 0 then 2 ^ 34 else (angleBits ax ay 36 0 + 1) / 2
    let q := if x < 0 then 2 ^ 35 - q else q
    if y < 0 then -q else q

def lePolar (s : State) (e : Nat) : LeOp → Option State
  | .polar d a =>
    let x := (s.engOf e).mant a
    let y := (s.engOf e).mant (a + 1)
    let q := (x * x + y * y).natAbs
    let r : Int := ((isqrt 40 (4 * q) + 1) / 2 : Nat)
    some (leM (leM s e d r) e (d + 1) (atanCode x y))
  | _ => none

def leClarke (s : State) (e : Nat) : LeOp → Option State
  | .clarke d a two =>
    let x := s.engOf e
    let p := x.mant a
    let q := x.mant (a + 1)
    let r := x.mant (a + 2)
    if two then some (leM (leM s e d p) e (d + 1) (rootRound (p + 2 * q) 1 3))
    else some (leM (leM s e d (divRound (2 * p - q - r) 3)) e (d + 1) (rootRound (q - r) 1 3))
  | _ => none

def lePark (s : State) (e : Nat) : LeOp → Option State
  | .park d a b =>
    let x := s.engOf e
    let al := x.mant a
    let be := x.mant (a + 1)
    let c := x.mant b
    let sn := x.mant (b + 1)
    some (leM (leM s e d (scaleRound (al * c + be * sn) (-35))) e (d + 1) (scaleRound (be * c - al * sn) (-35)))
  | _ => none

def leIpark (s : State) (e : Nat) : LeOp → Option State
  | .ipark d a b =>
    let x := s.engOf e
    let dd := x.mant a
    let q := x.mant (a + 1)
    let c := x.mant b
    let sn := x.mant (b + 1)
    some (leM (leM s e d (scaleRound (dd * c - q * sn) (-35))) e (d + 1) (scaleRound (dd * sn + q * c) (-35)))
  | _ => none

/-- √3 / 2, scaled by 2^128: near enough that no duty rounds another way. -/
def rootThreeHalf : Int := 294693174213430241384087455685767077316

/-- SVM: α and β are stage values, as its own rule says (R203; log 118), and the duties stand at exponent 0. -/
def leSvm (s : State) (e : Nat) : LeOp → Option State
  | .svm d a =>
    let x := s.engOf e
    let one : Int := 2 ^ (35 + 128 + (-x.se).toNat)
    let al := x.mant a * 2 ^ (128 + x.se.toNat)
    let be := x.mant (a + 1) * rootThreeHalf * 2 ^ x.se.toNat
    let va := al
    let vb := -(al / 2) + be
    let vc := -(al / 2) - be
    let hi := Max.max va (Max.max vb vc)
    let lo := Min.min va (Min.min vb vc)
    let den := if one < hi - lo then hi - lo else one
    let duty (v : Int) : Int := clampInt 0 maxM (divRound ((2 * v - (hi + lo) + den) * 2 ^ 35) (2 * den))
    let s' := leM (leM (leM s e d (duty va)) e (d + 1) (duty vb)) e (d + 2) (duty vc)
    some (s'.when (one < hi - lo) fun s => markLim s e)
  | _ => none

/-- Linear interpolation between two adjacent entries of a table at the mantissa `m` (R204). -/
def tblValue (s : State) (raw : Nat) (m : Int) : Int :=
  let l := tblL raw
  let u := (if tblWrap raw then m % 2 ^ 36 else m + 2 ^ 35).toNat
  let i := u >>> (36 - l)
  let f : Int := u % 2 ^ (36 - l)
  let y0 := tblEntry s raw i
  let y1 := tblEntry s raw (if tblWrap raw then (i + 1) % 2 ^ l else i + 1)
  scaleRound (y0 * 2 ^ (36 - l) + f * (y1 - y0)) (-((36 - l : Nat) : Int))

/-- TBL (R204). -/
def leTbl (s : State) (e : Nat) : LeOp → Option State
  | .tbl d a t =>
    let raw := Tbl.get 0 (s.engOf e).tbl t
    if !tblValid raw then some (markSat (leM s e d 0) e)
    else some (leM s e d (tblValue s raw ((s.engOf e).mant a)))
  | _ => none

/-- COMMIT: the set leaves for island 32 in one transaction (R209). -/
def leCommit (s : State) (e : Nat) : LeOp → Option State
  | .commit g first k ph per =>
    let x := s.engOf e
    let f : Flight := {
      group := g
      duties := (List.range k).map fun i => x.mant (first + i)
      phases := if ph then some ((List.range k).map fun i => x.mant (first + k + i)) else none
      period := per.map fun r => (Tbl.get 0 x.m r).toNat % 2 ^ 24 }
    some (s.setEng e { x with flight := x.flight ++ [f] })
  | _ => none

/-! ### The COMMIT path at island 32 (R209, R210) -/

/-- A fraction of the period in taps: min(32P, round(max(m, 0) × 32P / 2^35)). -/
def fracTaps (p : Nat) (m : Int) : Nat := min (32 * p) (scaleRound (max m 0 * (32 * p)) (-35)).toNat

/-- COMMIT_REFUSAL: 1 COMMIT_MISMATCH, 2 COMMIT_NO_PERIOD, 3 PERIOD_RANGE (R210). -/
def commitRefused (s : State) (e g code : Nat) : State :=
  let s := (s.inc (LE_CNT_MISC_COMMIT_REJ e)).putAll [(LE_COMMIT_STAT_LAST_REJ e, code), (LE_COMMIT_STAT_GROUP e, g)]
  s.leIrq e (LE_CFG_FLT_IE e) 3

/-- The phase each leg keeps: that of the group's last complete set, or 0. -/
def keptPhase (h : Grp) (n : Nat) : Nat :=
  match h.complete with
  | some c => match c.legs.find? fun l => l.1 = n with
    | some l => l.2.2
    | none => 0
  | none => 0

/-- COMMIT_SET_ARRIVAL: the oldest commit of an engine reaches its completion point. -/
def commitArrival (s : State) (e : Nat) : State :=
  let x := s.engOf e
  match x.flight with
  | [] => s
  | f :: rest =>
    let s := s.setEng e { x with flight := rest }
    let g := f.group
    let h := s.grpOf g
    let legs := s.members g
    if f.duties.length ≠ legs.length then commitRefused s e g 1
    else match f.period, h.complete with
      | none, none => commitRefused s e g 2
      | per, c =>
        let p := per.getD ((c.map (·.period)).getD 0)
        if per.isSome && p < 400 then commitRefused s e g 3
        else
          let phis := match f.phases with
            | some l => l.map (fracTaps p)
            | none => legs.map (keptPhase h)
          acceptSet s g { period := p, legs := legs.zip ((f.duties.map (fracTaps p)).zip phis) }

/-! ### Register writes (R214, R216) -/

/-- A write to an LE_ register of engine `e` without a row of its own. -/
def leRegWrite (s : State) (a data : Nat) : State × Status :=
  if a < 0x60000000 then
    let e := (a - 0x40000000) / 0x20000
    let o := a % 0x20000 - 0x14000
    let named (r : State × Status) : State × Status := if r.2 = .OK then r else (r.1.put LE_ERR_ENGINE e, r.2)
    if o = 0x004 || o = 0x008 then
      let range := o = 0x004 && (103 < bitsOf data 0 7 || 103 < bitsOf data 8 7 || 11 < bitsOf data 16 4)
      named (checkedWrite s leErr [(s.fld (LE_STAT_STATE e) ≠ 0, .LE_BUSY), (range, .LE_RANGE)] a data)
    else if 0x040 ≤ o && o < 0x060 then
      let l := bitsOf data 19 5
      let last := bitsOf data 0 19 + 2 ^ l - (if data.testBit 24 then 1 else 0)
      let j := (o - 0x040) / 4
      named (checkedWrite s leErr [(l < 4 || 16 < l || 524287 < last, .LE_RANGE),
        (s.flag LE_LOCK && tblRaw s e j ≠ data % 2 ^ 26, .LE_LOCKED)] a data)
    else writeFields s leErr a data
  else if a = 0x60030200 then writeLock s leErr data
  else writeFields s leErr a data

end Sys2Proof.Machine
end

