-- ==== Sys2Proof/Machine/Feedback.lean ====
section
/-! DEFINITION. Chapter 06: position and speed feedback: counters, index, SSI, resolver, latches, speed, slots and encoder
emulation (R164-R184). -/

namespace Sys2Proof.Machine

def fbErr : BlockErr where
  last := FB_ERR_LAST_ERR
  cnt := FB_ERR_ERR_CNT
  lock := FB_LOCK
  locked := .FB_LOCKED
  codes := [(.FB_RANGE, 1), (.FB_BUSY, 2), (.FB_LOCKED, 3)]

namespace State

def fbOf (s : State) (n : Nat) : Feedback := Tbl.get {} s.fb n
def setFb (s : State) (n : Nat) (v : Feedback) : State := { s with fb := Tbl.set {} s.fb n v }
def emuOf (s : State) (m : Nat) : Emu := Tbl.get {} s.emu m
def setEmu (s : State) (m : Nat) (v : Emu) : State := { s with emu := Tbl.set {} s.emu m v }

end State

def fbMode (s : State) (n : Nat) : Nat := s.fld (FB_CFG_MODE n)
def fbOn (s : State) (n : Nat) : Bool := s.flag (FB_CFG_EN n)

/-- An interrupt of the interface if its enable bit `i` is set: DIR, FLT, IDX, WRAP, LAT (R182). -/
def fbIrq (s : State) (n i : Nat) : State :=
  s.when ((s.fld (FB_CFG_IE n)).testBit i) fun s => s.irq (s.fld (FB_CFG_OWNER n)) .fb n i

/-- STOP_T in ticks (R182). -/
def stopTicks (s : State) (n : Nat) : Nat := 400000 * s.fld (FB_SPDCFG_STOP_T n)

/-! ### Steps (R166, R176, R177) -/

/-- An emulator whose source position is not valid holds its levels with Z low, and takes the count anew later (R180). -/
def emuCheck (s : State) (m : Nat) : State :=
  let e := s.emuOf m
  if s.flag (FB_EMU_CFG_EN m) && e.valid && !s.flag (FB_STAT_POS_VALID (s.fld (FB_EMU_CFG_SRC m))) then
    (s.setEmu m { e with valid := false }).emit (.emu m (e.count % 4) false)
  else s

/-- POS_VALID is lost; the emulators of the interface see it at once (R169, R180). -/
def posLost (s : State) (n : Nat) : State := (s.putFlag (FB_STAT_POS_VALID n) false).each (List.range 4) emuCheck

/-- The position is not trustworthy any more (R169, R170, R171). -/
def fbDoubt (s : State) (n : Nat) : State := posLost (s.putFlag (FB_STAT_POS_DOUBT n) true) n

/-- CNT takes a value; what it held is kept for the last 40 ticks, which covers the 80 ns of R181. -/
def setCnt (s : State) (n v : Nat) : State :=
  let f := s.fbOf n
  let hist := (s.mtime, s.fld (FB_CNT n)) :: f.hist.filter fun h => decide (s.mtime ≤ h.1 + 40)
  (s.setFb n { f with hist := hist }).put (FB_CNT n) v

/-- What CNT held before the changes of tick `t` and later ones. -/
def cntBefore (s : State) (n t : Nat) : Nat :=
  match ((s.fbOf n).hist.filter fun h => decide (t ≤ h.1)).getLast? with
  | some h => h.2
  | none => s.fld (FB_CNT n)

/-- The counts of the steps accepted in the present tick (R168). -/
def tickSteps (s : State) (n : Nat) : Int := if (s.fbOf n).stepAt = s.mtime then (s.fbOf n).stepSum else 0

/-- ACC takes a step; a wrap of its 32 bits sets WRAP_EVT (R166). -/
def accStep (s : State) (n : Nat) (d : Int) : State :=
  let v : Int := (s.fld (FB_ACC n) : Int) + d
  let s := s.put (FB_ACC n) (codeOf 32 v)
  s.when (v < 0 || 2 ^ 32 ≤ v) fun s => fbIrq (s.putFlag (FB_STAT_WRAP_EVT n) true) n 3

/-- The run takes a step of `d` counts at time `t`: a step against the run's direction, or after a gap longer than STOP_T, begins
a new run; DIR and DIR_EVT follow R177. -/
def runStep (s : State) (n : Nat) (d : Int) (t : Nat) : State :=
  let f := s.fbOf n
  let back : Bool := d < 0
  let turn := back ≠ s.flag (FB_STAT_DIR n)
  let fresh := match f.run with
    | [] => true
    | (t0, d0) :: _ => decide (d0 < 0) ≠ back || decide (stopTicks s n < t - t0)
  let s := s.setFb n { f with run := ((t, d) :: (if fresh then [] else f.run)).take 65 }
  let s := s.putAll [(FB_STAT_STILL n, 0), (FB_STAT_DIR n, bit back)]
  s.when turn fun s => fbIrq (s.putFlag (FB_STAT_DIR_EVT n) true) n 0

/-- A step of `d` counts (REV already applied) at time `t` (R166, R176). -/
def fbStep (s : State) (n : Nat) (d : Int) (t : Nat) : State :=
  if d = 0 then s
  else
    let s := s.setFb n { s.fbOf n with stepAt := s.mtime, stepSum := tickSteps s n + d }
    runStep (accStep (setCnt s n (codeOf 32 ((s.fld (FB_CNT n) : Int) + d))) n d) n d t

/-- REV reverses the sense of counting (R165). -/
def revd (s : State) (n : Nat) (d : Int) : Int := if s.flag (FB_CFG_REV n) then -d else d

/-! ### Incremental and Hall inputs (R170, R171) -/

/-- Counts of an accepted change of A and B in a QMODE; `none` is an illegal transition. -/
def quadCount (q : Nat) (a0 b0 a b : Bool) : Option Int :=
  let da := a0 ≠ a
  let db := b0 ≠ b
  match q with
  | 0 =>
    if da && db then none
    else if da then some (if a = b then -1 else 1)
    else if db then some (if a = b then 1 else -1)
    else some 0
  | 1 =>
    if da && db then none
    else if da && !b then some (if a then 1 else -1) else some 0
  | 2 => if da && a then some (if b then -1 else 1) else some 0
  | _ => some ((if da && a then 1 else 0) - (if db && b then 1 else 0))

/-- QUADRATURE_EDGE: new filtered levels of A and B, which are counted while the interface runs in mode 0; the edge time is that of
the first of the FILT + 1 samples. -/
def quadEdge (s : State) (n : Nat) (a b : Bool) : State :=
  let f := s.fbOf n
  let s := s.setFb n { f with a := a, b := b }
  if fbOn s n && fbMode s n = 0 then
    match quadCount (s.fld (FB_CFG_QMODE n)) f.a f.b a b with
    | none => fbIrq ((fbDoubt (s.putFlag (FB_STAT_QERR n) true) n).inc (FB_ERRCNT_QERR_CNT n)) n 1
    | some d => fbStep s n (revd s n d) (s.mtime - 2 * s.fld (FB_CFG_FILT n))
  else s

/-- The place of a Hall state in the forward order 1, 3, 2, 6, 4, 5 (R171). -/
def hallPlace : Nat → Option Nat
  | 1 => some 0 | 3 => some 1 | 2 => some 2 | 6 => some 3 | 4 => some 4 | 5 => some 5 | _ => none

/-- HALL_ERR (R171). -/
def hallError (s : State) (n : Nat) (invalid : Bool) : State :=
  let s := fbDoubt (s.putAll [(FB_STAT_HALL_ERR n, 1), (FB_STAT_FAULT n, bit invalid)]) n
  fbIrq (s.setFb n { s.fbOf n with hallLost := true }) n 1

/-- HALL_STATE_CHANGE. After a state of 0 or 7 and after a jump alike, the valid state that comes next is the new reference,
without a step (R171; log 110). -/
def hallChange (s : State) (n h : Nat) : State :=
  let old := (s.fbOf n).hall
  let f := { s.fbOf n with hall := h }
  let s := s.setFb n f
  let s := s.when (fbMode s n = 1) fun s => s.put (FB_STAT_HALL_STATE n) h
  if fbOn s n && fbMode s n = 1 then
    match hallPlace h with
    | none => hallError s n true
    | some p =>
      let s := s.putFlag (FB_STAT_FAULT n) false
      match f.hallLost, hallPlace old with
      | false, some q =>
        let t := s.mtime - 400 * s.fld (FB_CFG_FILT n)
        if (p + 6 - q) % 6 = 1 then fbStep s n (revd s n 1) t
        else if (p + 6 - q) % 6 = 5 then fbStep s n (revd s n (-1)) t
        else if p = q then s
        else hallError s n false
      | _, _ => s.setFb n { f with hallLost := false }
  else s

/-! ### Latches and index (R167, R168, R175) -/

/-- Latch set `k` captures CNT, ACC and the time: the instant in modes 0 and 1, the last frame's or update's sample time in modes
2 and 3. An index latch captures before the loads and steps of its tick (R168). -/
def capture (s : State) (n k : Nat) : State :=
  let cnt := if k = 2 then cntBefore s n s.mtime else s.fld (FB_CNT n)
  let acc := if k = 2 then codeOf 32 ((s.fld (FB_ACC n) : Int) - tickSteps s n) else s.fld (FB_ACC n)
  let t := if fbMode s n < 2 then s.mtime else (s.fbOf n).posTime
  let s := s.when (s.flag (FB_L_STAT_L_VALID n k)) fun s => s.inc (FB_L_STAT_OVWR_CNT n k)
  fbIrq (s.putAll [(FB_L_CNT n k, cnt), (FB_L_ACC n k, acc), (FB_L_TLO_T_LO n k, t),
    (FB_L_THI_T_HI n k, t / 2 ^ 32), (FB_L_STAT_L_VALID n k, 1)]) n 4

/-- Load CNT from the index or from FB_SET; the steps of the same tick are added (R168, R169). -/
def loadCnt (s : State) (n v : Nat) : State :=
  ((setCnt s n (codeOf 32 (v + tickSteps s n))).putFlag (FB_STAT_POS_DOUBT n) false).when (fbMode s n < 2) fun s => s.putFlag (FB_STAT_POS_VALID n) true

/-- A write of FB_ARM.ARM takes effect from the next tick (R167, R168). -/
def fbArm (s : State) (n : Nat) : State :=
  (s.setFb n { s.fbOf n with armAt := s.mtime }).putFlag (FB_STAT_ARMED n) true

/-- The A and B levels match ZQ (R167, R182). -/
def indexQualified (s : State) (n : Nat) : Bool :=
  let z := s.fld (FB_CFG_ZQ n)
  let f := s.fbOf n
  z = 0 || (f.a = bitAt z 1 && f.b = bitAt z 0)

/-- INDEX_PULSE: latch, then load as IDX_MODE selects (R167, R168). -/
def indexPulse (s : State) (n : Nat) : State :=
  if fbOn s n && fbMode s n = 0 && indexQualified s n then
    let s := capture s n 2
    let s := fbIrq (s.putFlag (FB_STAT_IDX_EVT n) true) n 2
    match s.fld (FB_CFG_IDX_MODE n) with
    | 1 => loadCnt s n (s.fld (FB_IDXVAL_VAL n))
    | 2 =>
      if s.flag (FB_STAT_ARMED n) && decide ((s.fbOf n).armAt < s.mtime) then (loadCnt s n (s.fld (FB_IDXVAL_VAL n))).putFlag (FB_STAT_ARMED n) false else s
    | _ => s
  else s

/-- EVENT_LATCH and PIN_LATCH (R175). -/
def eventLatch (s : State) (n : Nat) : State :=
  if fbOn s n && s.flag (FB_LAT_CFG_LAT_EVT_EN n) then capture s n 0 else s

def pinLatch (s : State) (n : Nat) (rising : Bool) : State :=
  let e := s.fld (FB_LAT_CFG_LAT_EDGE n)
  if fbOn s n && (if rising then bitAt e 0 else bitAt e 1) then capture s n 1 else s

/-! ### SSI (R172, R173) -/

/-- FBn_CLK rests high in mode 2, where it idles between frames, and is driven low in the others (R164, R172). -/
def fbClkRest (s : State) (n : Nat) : Bool := fbMode s n = 2

/-- SSI_FRAME_START: a frame starts if no frame and no monoflop time runs and the data line is high. Its sample time, the first falling
edge of CLK, lies 10 to 20 ns after the event, at a tick that is left free (R172, R181; log 117). -/
def ssiStart (s : State) (n : Nat) (datHigh : Bool) : State :=
  let f := s.fbOf n
  if fbOn s n && fbMode s n = 2 && s.flag (FB_SSI2_SSI_EVT_EN n) then
    if f.ssiBusy || decide (s.mtime < f.ssiFree) then s.inc (FB_ERRCNT_OVR_CNT n)
    else if datHigh then
      let fr := s.fresh
      (fr.2.setFb n { f with ssiBusy := true, ssiTime := s.mtime + 4 + fr.1 % 5 }).emit
        (.ssiClock n (2 * (s.fld (FB_SSI_CDIV n) + 1)) (s.fld (FB_SSI_FRAME_LEN n) + 1))
    else s
  else s

/-- Binary-reflected Gray code to a number: bit by bit from the top. -/
def grayToBin (v : Nat) : Nat → Bool → Nat
  | 0, _ => 0
  | k + 1, above => let x := above ≠ v.testBit k; bit x * 2 ^ k + grayToBin v k x

/-- The position field of a frame (R172). -/
def ssiField (s : State) (n bits : Nat) : Nat :=
  let w := s.fld (FB_SSI_POS_BITS n) + 1
  let v := bitsOf bits (s.fld (FB_SSI_POS_LSB n)) w
  if s.flag (FB_SSI_GRAY n) then grayToBin v w false else v

/-- A bad frame: three in a row set FAULT and clear POS_VALID (R173). -/
def ssiBadFrame (s : State) (n : Nat) : State :=
  let f := s.fbOf n
  let bad := min (f.ssiBad + 1) 3
  let s := (s.setFb n { f with ssiBad := bad }).putFlag (FB_STAT_SSI_ERR n) true |>.inc (FB_ERRCNT_SSI_ERR_CNT n)
  let was := s.flag (FB_STAT_FAULT n)
  if bad = 3 then
    let s := posLost (s.putFlag (FB_STAT_FAULT n) true) n
    s.when (!was) fun s => fbIrq s n 1
  else s

/-- A good frame: the difference to the last one is one step, and CNT takes the position field (R173). -/
def ssiGoodFrame (s : State) (n bits : Nat) : State :=
  let f := s.fbOf n
  let w := s.fld (FB_SSI_POS_BITS n) + 1
  let v := ssiField s n bits
  let v := if s.flag (FB_CFG_REV n) then codeOf w (-(v : Int)) else v
  let s := s.setFb n { f with ssiBad := 0, ssiPrev := some v, posTime := f.ssiTime }
  let s := match f.ssiPrev with
    | some p => fbStep s n (signedOf w (v + 2 ^ w - p)) f.ssiTime
    | none => s
  (setCnt s n v).putAll [(FB_STAT_POS_VALID n, 1), (FB_STAT_POS_DOUBT n, 0), (FB_STAT_FAULT n, 0), (FB_SSI_RAW_LO_RAW n, bits),
    (FB_SSI_RAW_HI_RAW n, bits / 2 ^ 32)]

/-- SSI_FRAME_END: the data line must be low at the check edge. -/
def ssiEnd (s : State) (n bits : Nat) (checkLow : Bool) : State :=
  let f := s.fbOf n
  if f.ssiBusy then
    let s := s.setFb n { f with ssiBusy := false, ssiFree := s.mtime + 400 * s.fld (FB_SSI2_MONO n) }
    if checkLow then ssiGoodFrame s n (bits % 2 ^ s.fld (FB_SSI_FRAME_LEN n)) else ssiBadFrame s n
  else s

/-! ### Resolver (R174) -/

/-- The present module time is k × PER + PK_DLY for some k. -/
def requestDue (s : State) (n : Nat) : Bool :=
  let d := s.fld (FB_RSL2_PK_DLY n)
  decide (d ≤ s.mtime) && decide ((s.mtime - d) % s.fld (FB_EXC_PER (s.fld (FB_RSL_EXC n))) = 0)

/-- RESOLVER_REQUEST: urgent conversions on both claimed converters, at the times of R174 only. -/
def resolverRequest (s : State) (n : Nat) : State :=
  if fbOn s n && fbMode s n = 3 && requestDue s n then
    let s := s.setFb n { s.fbOf n with req := some s.mtime }
    adcUrgent (adcUrgent s (s.fld (FB_RSL_SIN_ADC n))) (s.fld (FB_RSL_COS_ADC n))
  else s

/-- e of R174 in 2^-32: (S cos θ − C sin θ) / AMP_NOM. -/
def loopError (theta : Nat) (sn cs amp : Int) : Int :=
  let sc := sinCosTurn 32 theta
  (sn * sc.2 - cs * sc.1) / (amp * 2 ^ 32)

/-- sin 22.5° and sin 5.6° in 2^-32 (R174). -/
def wideErr : Nat := 1643612827
def narrowErr : Nat := 419115363

/-- An update of the tracking loop from the signed codes S and C with sample time `t`. The spec gives the loop in real numbers and
no number format, so the last bit of the angle's new value is free (log 4). -/
def loopUpdate (s : State) (n : Nat) (sn cs : Int) (t : Nat) : State :=
  let f := s.fbOf n
  let fr := s.fresh
  let s := fr.2
  let amp : Int := s.fld (FB_RSL2_AMP_NOM n)
  let a2 := sn * sn + cs * cs
  let los : Bool := 4 * a2 < amp * amp || 9 * amp * amp < 4 * a2
  let fr2 := s.fresh
  let e : Int := if amp = 0 then signedOf 33 fr2.1 else loopError f.theta (revd s n sn) cs amp
  let s := if amp = 0 then fr2.2 else s
  let omega := f.omega + e / 2 ^ s.fld (FB_RSL_KI_SH n)
  let theta := codeOf 32 ((f.theta : Int) + omega + e / 2 ^ s.fld (FB_RSL_KP_SH n) + ((fr.1 % 2 : Nat) : Int))
  let step := signedOf 16 (theta / 2 ^ 16 + 2 ^ 16 - f.theta / 2 ^ 16)
  let wide := if wideErr < e.natAbs then min (f.wide + 1) 4 else 0
  let narrow := if e.natAbs < narrowErr then min (f.narrow + 1) 16 else 0
  let terr := if wide = 4 then true else if narrow = 16 then false else s.flag (FB_STAT_TRACK_ERR n)
  let bad := los || terr
  let good := if bad then 0 else min (f.good + 1) 16
  let was := s.flag (FB_STAT_FAULT n)
  let s := s.setFb n { f with theta := theta, omega := omega, wide := wide, narrow := narrow, good := good, posTime := t }
  let s := s.putAll [(FB_STAT_LOS n, bit los), (FB_STAT_TRACK_ERR n, bit terr), (FB_STAT_FAULT n, bit bad)]
  let s := if good = 16 then s.putFlag (FB_STAT_POS_VALID n) true else posLost s n
  let s := setCnt s n (codeOf 32 ((s.fld (FB_CNT n) : Int) + step))
  let s := accStep s n step
  let s := s.when (bad && !was) fun s => fbIrq s n 1
  let s := s.putFlag (FB_STAT_STILL n) (omega = 0)
  if (2 : Int) ^ 16 < omega then s.putFlag (FB_STAT_DIR n) false
  else if omega < -(2 : Int) ^ 16 then s.putFlag (FB_STAT_DIR n) true else s

/-- A converter has done the urgent conversion that was requested at tick `t`. -/
def urgentDone (s : State) (a t : Nat) : Bool :=
  !s.flag (ADC_STAT_URG_PEND a) && !s.flag (ADC_STAT_URG_BUSY a) && decide (t ≤ mirrorTime s (adcMirror a 16))

/-- RESOLVER_UPDATE: both conversions that the interface requested are in, and each is used once; an update whose sample lies more
than 2 µs after the request is skipped. -/
def resolverUpdate (s : State) (n : Nat) : State :=
  let a := s.fld (FB_RSL_SIN_ADC n)
  let b := s.fld (FB_RSL_COS_ADC n)
  match (s.fbOf n).req with
  | none => s
  | some r =>
    if !(fbOn s n && fbMode s n = 3 && urgentDone s a r && urgentDone s b r) then s
    else
      let t := max (mirrorTime s (adcMirror a 16)) (mirrorTime s (adcMirror b 16))
      let s := s.setFb n { s.fbOf n with req := none }
      if r + 800 < t then s.inc (FB_ERRCNT_OVR_CNT n)
      else
        let sn : Int := (s.fld (RES_RAW (adcMirror a 16)) : Int) - s.fld (ADC_URG_CFG_ZERO a)
        let cs : Int := (s.fld (RES_RAW (adcMirror b 16)) : Int) - s.fld (ADC_URG_CFG_ZERO b)
        loopUpdate s n sn cs t

/-- The code of the 12-bit DAC of an excitation output at module time `t`; 2,048 stands for 1.25 V (R174). The rounding to a code is
left free (log 4). -/
def excCode (s : State) (c t err : Nat) : Nat :=
  let per := s.fld (FB_EXC_PER c)
  (eitherWay (2048 * one64 + (s.fld (FB_EXC_AMP c) : Int) * (sinCosTurn 32 ((t % per * 2 ^ 32 / max 1 per : Nat) : Int)).2) one64 err).toNat

/-- Every 40 ticks of module time the DACs of the running excitation outputs take a new code. -/
def excTick (s : State) : State :=
  if s.mtime % 40 ≠ 0 then s
  else s.each ((List.range 4).filter fun c => s.flag (FB_EXC_EN c)) fun s c =>
    let f := s.fresh
    f.2.emit (.exc c (excCode s c s.mtime f.1))

/-! ### Speed (R176, R177) -/

/-- The speed of a run, before the bound of R176, as counts and the ticks they took; none before two steps. -/
def runSpeed (span : Nat) (run : List (Nat × Int)) : Option (Int × Nat) :=
  match run with
  | (tj, _) :: _ :: _ =>
    let n := min span (run.length - 1)
    match run[n]? with
    | some (t0, _) => some (((run.take n).map (·.2)).foldl (· + ·) 0, tj - t0)
    | none => none
  | _ => none

/-- The speed at time `t` as a fraction of counts per second: numerator and positive denominator (R176, R177). In modes 0 to 2 the
magnitude never exceeds one count per time since the last step. -/
def speedFrac (s : State) (n t : Nat) : Int × Int :=
  let f := s.fbOf n
  if fbMode s n = 3 then
    (f.omega * 400000000, 2 ^ 16 * max 1 ((s.fld (FB_EXC_PER (s.fld (FB_RSL_EXC n))) : Nat) : Int))
  else match f.run with
    | [] => (0, 1)
    | (tj, d) :: _ =>
      if stopTicks s n < t - tj then (0, 1)
      else match runSpeed (s.fld (FB_SPDCFG_SPAN n) + 1) f.run with
        | none => (0, 1)
        | some (c, dt) =>
          if dt = 0 then (0, 1)
          else
            let since : Int := (t - tj : Nat)
            if (dt : Int) < c.natAbs * since then ((if d < 0 then -400000000 else 400000000), since)
            else (c * 400000000, dt)

/-- FB_SPD: 1/16 count/s, saturating (R182). -/
def spdReg (s : State) (n t : Nat) : Nat :=
  let q := speedFrac s n t
  codeOf 32 (clampInt (-(2 ^ 31)) (2 ^ 31 - 1) (nearest (16 * q.1) q.2))

/-- STANDSTILL_TIMEOUT: no step for STOP_T (R176). -/
def standstill (s : State) (n : Nat) : State :=
  if fbOn s n && fbMode s n < 3 then (s.setFb n { s.fbOf n with run := [] }).putFlag (FB_STAT_STILL n) true else s

/-! ### Slots and reads (R178, R179) -/

/-- The angle count a of R178 at a value of CNT. -/
def angleCount (s : State) (n cnt : Nat) : Nat :=
  let cpr := s.fld (FB_CPR n)
  (((cnt : Int) - s.fld (FB_ANGOFS_OFS n)) % max 1 (cpr : Int)).toNat

/-- The sample time of the position at the instant `t` (R178, R179). -/
def positionTime (s : State) (n t : Nat) : Nat := if fbMode s n < 2 then t else (s.fbOf n).posTime

/-- a × 2^36 / CPR with the reciprocal of CPR held to 40 significant bits (R178). The spec does not say which way it or the product is
rounded where they are not exact: `err` chooses (log 4). -/
def angleMantissa (a cpr err : Nat) : Int :=
  let k := 39 + log2Up cpr
  eitherWay ((a * 2 ^ 36 : Nat) * eitherWay (2 ^ k) (max 1 cpr : Nat) err) (2 ^ k) (err / 2)

/-- FEEDBACK_SLOT_WRITE: position and speed slots in one step, `ago` ticks after the event fired. In modes 0 and 1 the position is what
CNT held at the end of the event's tick. -/
def fbSlot (s : State) (n ago : Nat) : State :=
  if fbOn s n && s.flag (FB_SLOT_SLOT_EN n) then
    let fr := s.fresh
    let s := fr.2
    let at0 := s.mtime - ago
    let m := angleMantissa (angleCount s n (if fbMode s n < 2 then cntBefore s n (at0 + 1) else s.fld (FB_CNT n))) (s.fld (FB_CPR n)) fr.1
    let t := positionTime s n at0
    let flt := s.flag (FB_STAT_FAULT n)
    let ev : Int := signedOf 8 (s.fld (FB_SPDCFG_SPD_E n))
    let q := speedFrac s n at0
    let v := if 35 < ev then nearest q.1 (q.2 * 2 ^ (ev - 35).toNat) else nearest (q.1 * 2 ^ (35 - ev).toNat) q.2
    let lim : Int := 2 ^ 35 - 1
    let dst := s.fld (FB_SLOT_DST n)
    let eng := bitsOf dst 1 5
    let adr := bitsOf dst 6 12
    let pos : Sample :=
      { m := BitVec.ofInt 36 m, e := 255, valid := s.flag (FB_STAT_POS_VALID n) && !flt, ovr := false, fault := flt,
        retaken := false, time := t, raw := 0 }
    let spd : Sample :=
      { m := BitVec.ofInt 36 (clampInt (-lim) lim v), e := s.fld (FB_SPDCFG_SPD_E n), valid := !flt,
        ovr := decide (lim < v) || decide (v < -lim), fault := flt, retaken := false, time := t, raw := 0 }
    if bitAt dst 0 then writeSlot (writeSlot s eng adr pos) eng (adr + 2) spd else s
  else s

/-- STALE at a read (R179). -/
def fbStale (s : State) (n : Nat) : Bool :=
  let lim := s.fld (FB_FRESH_LIMIT n)
  2 ≤ fbMode s n && lim ≠ 0 && decide ((s.fbOf n).posTime + 400 * lim < s.mtime)

/-- The run of steps is over: no step for more than STOP_T (R176). -/
def runOver (s : State) (n : Nat) : Bool :=
  match (s.fbOf n).run with
  | [] => false
  | (tj, _) :: _ => fbMode s n < 3 && decide (stopTicks s n < s.mtime - tj)

/-- The values that are evaluated at a read: STALE, STILL, the sample time and the speed (R176, R179). -/
def fbLive (s : State) (n : Nat) : State :=
  let t := positionTime s n s.mtime
  s.putAll [(FB_STAT_STALE n, bit (fbStale s n)), (FB_STAT_STILL n, bit (s.flag (FB_STAT_STILL n) || runOver s n)), (FB_PTLO_T_LO n, t),
    (FB_PTHI_T_HI n, t / 2 ^ 32), (FB_SPD n, spdReg s n s.mtime)]

/-- FB_CNT_READ: the interface's values are latched for the requester. -/
def fbCntRead (s : State) (r : Requester) (n : Nat) : State :=
  let t := positionTime s n s.mtime
  let s := fbLive s n
  let l : FbLatch :=
    { n := n + 1, acc := s.fld (FB_ACC n), time := t, spd := s.fld (FB_SPD n), stat := readFields s (0x60028028 + 0x100 * n) }
  { s with fbLatch := Tbl.set {} s.fbLatch (reqIdx r) l }.emit (.data r (0x60028014 + 0x100 * n) (s.fld (FB_CNT n)))

/-! ### Encoder emulation (R180) -/

/-- The emulator's target count. -/
def emuTarget (s : State) (m : Nat) : Nat :=
  let n := s.fld (FB_EMU_CFG_SRC m)
  angleCount s n (s.fld (FB_CNT n)) * 4 * s.fld (FB_EMU_CFG_LINES m) / max 1 (s.fld (FB_CPR n))

/-- Edges from a count to a target, the shorter way round. -/
def edgesTo (full count target : Nat) : Int :=
  let d := (target + full - count % max 1 full) % max 1 full
  if 2 * d ≤ full then d else (d : Int) - full

/-- EMULATOR_EDGE: one quadrature edge toward the target, at least 100 ns after the last one, or the resynchronisation at the first
valid position. -/
def emulatorEdge (s : State) (m : Nat) : State :=
  if s.flag (FB_EMU_CFG_EN m) then
    let n := s.fld (FB_EMU_CFG_SRC m)
    let e := s.emuOf m
    let full := 4 * s.fld (FB_EMU_CFG_LINES m)
    if !s.flag (FB_STAT_POS_VALID n) then emuCheck s m
    else if !e.valid then
      let c := emuTarget s m
      ((s.setEmu m { e with count := c, valid := true }).putFlag (FB_EMU_STAT_RESYNC m) true).emit (.emu m (c % 4) (c = 0))
    else
      let d := edgesTo full e.count (emuTarget s m)
      let s := s.putAll [(FB_EMU_STAT_LAG m, bit (4 < d.natAbs)),
        (FB_EMU_STAT_LAG_MAX m, max (s.fld (FB_EMU_STAT_LAG_MAX m)) (min d.natAbs 65535))]
      if d = 0 || e.last.any (fun t => decide (s.mtime < t + 40)) then s
      else
        let c := if 0 < d then (e.count + 1) % max 1 full else (e.count + full - 1) % max 1 full
        (s.setEmu m { e with count := c, last := some s.mtime }).emit (.emu m (c % 4) (c = 0))
  else s

/-! ### Register writes (R164, R167, R172, R174, R182-R184) -/

/-- Another enabled resolver interface, or the pilot of the charging block (R289), has claimed the converter. -/
def claimed (s : State) (n adc : Nat) : Bool :=
  (s.flag CHG_CFG_EN && s.fld CHG_SENSE_PILOT_ADC = adc && n ≠ 8) || (List.range 8).any fun m => m ≠ n && fbOn s m && fbMode s m = 3
    && (s.fld (FB_RSL_SIN_ADC m) = adc || s.fld (FB_RSL_COS_ADC m) = adc)

/-- The two converters of a resolver interface can be claimed (R174). -/
def claimable (s : State) (n : Nat) : Bool :=
  let a := s.fld (FB_RSL_SIN_ADC n)
  let b := s.fld (FB_RSL_COS_ADC n)
  a ≠ b && !s.flag (ADC_CTRL_URG_EVT_EN a) && !s.flag (ADC_CTRL_URG_EVT_EN b) && !claimed s n a && !claimed s n b

/-- What an interface keeps when EN changes: the filtered pins, and the monoflop time of the encoder; a frame that EN stops has its last
rising edge now (R172; log 117). -/
def fbKeep (s : State) (f : Feedback) (n : Nat) : Feedback :=
  { a := f.a, b := f.b, hall := f.hall, hallLost := (hallPlace f.hall).isNone,
    ssiFree := if f.ssiBusy then s.mtime + 400 * s.fld (FB_SSI2_MONO n) else f.ssiFree }

/-- Clearing EN clears CNT, ACC, runs and latches (R182); the position is then not valid and no index is armed (log 117). -/
def fbClear (s : State) (n : Nat) : State :=
  let s := posLost (s.setFb n (fbKeep s (s.fbOf n) n)) n
  let s := s.putAll [(FB_CNT n, 0), (FB_ACC n, 0), (FB_STAT_STILL n, 1), (FB_STAT_ARMED n, 0)]
  s.each [0, 1, 2] fun s k =>
    s.putAll [(FB_L_CNT n k, 0), (FB_L_ACC n k, 0), (FB_L_TLO_T_LO n k, 0), (FB_L_THI_T_HI n k, 0), (FB_L_STAT_L_VALID n k, 0)]

/-- Setting EN starts the interface anew: no valid position, and no fault of the mode it ran in before (R169; log 117). -/
def fbBegin (s : State) (n : Nat) : State :=
  let s := posLost (s.setFb n (fbKeep s (s.fbOf n) n)) n
  let s := s.putAll [(FB_STAT_FAULT n, 0), (FB_STAT_LOS n, 0), (FB_STAT_TRACK_ERR n, 0)]
  s.when (fbMode s n = 1) fun s => s.put (FB_STAT_HALL_STATE n) (s.fbOf n).hall

/-- A write of FB_CFG; a resolver enable is judged by the MODE that will hold. -/
def fbCfg (s : State) (n data : Nat) : State × Status :=
  let was := fbOn s n
  let mode := bitsOf data 1 2
  let z := bitsOf data 11 3
  let held := if s.flag FB_LOCK then fbMode s n else mode
  let r := checkedWrite s fbErr [
    (bitsOf data 9 2 = 3 || (mode ≠ 0 && bitsOf data 9 2 ≠ 0) || (1 ≤ z && z ≤ 3) || 12 ≤ bitsOf data 14 4, .FB_RANGE),
    (was && (mode ≠ fbMode s n || bitsOf data 3 2 ≠ s.fld (FB_CFG_QMODE n)), .FB_BUSY),
    (!was && bitAt data 0 && held = 3 && !claimable s n, .FB_BUSY)] (0x60028000 + n * 0x100) data
  let now := fbOn r.1 n
  let level := fbClkRest r.1 n
  let s' := r.1.when (level ≠ fbClkRest s n) fun s => s.emit (.fbClk n level)
  (if was && !now then fbClear s' n else if !was && now then fbBegin s' n else s', r.2)

/-- Writes to the other registers of the block. -/
def fbRegWrite (s : State) (a data : Nat) : State × Status :=
  let n := (a - 0x60028000) / 0x100
  let o := (a - 0x60028000) % 0x100
  let changed := changesFields s a data
  if a = 0x6002E000 then writeLock s fbErr data
  else if 0x6002D000 ≤ a && a < 0x6002D010 then
    checkedWrite s fbErr [(bitsOf data 1 18 < 20000 || 200000 < bitsOf data 1 18 || 2047 < bitsOf data 19 12, .FB_RANGE)] a data
  else if 0x6002C000 ≤ a && a < 0x6002C020 && a % 8 = 0 then
    let was := s.flag (FB_EMU_CFG_EN ((a - 0x6002C000) / 8))
    let r := checkedWrite s fbErr [(bitsOf data 4 17 < 16 || 65536 < bitsOf data 4 17, .FB_RANGE)] a data
    let m := (a - 0x6002C000) / 8
    (emuCheck (r.1.when (!was) fun s => s.setEmu m { s.emuOf m with valid := false }) m, r.2)
  else if 0x60028800 ≤ a then writeFields s fbErr a data
  else if o = 0x04 then checkedWrite s fbErr [(data % 2 ^ 32 = 0, .FB_RANGE)] a data
  else if o = 0x30 then checkedWrite s fbErr [(bitsOf data 6 10 < 1 || 1000 < bitsOf data 6 10, .FB_RANGE)] a data
  else if o = 0x38 then checkedWrite s fbErr [(bitsOf data 6 12 % 4 ≠ 0 || 104 ≤ bitsOf data 18 7, .FB_RANGE)] a data
  else if o = 0x40 then
    let len := bitsOf data 8 6
    let w := bitsOf data 14 6 + 1
    checkedWrite s fbErr [(bitsOf data 0 8 < 9 || len < 8 || 48 < len || 48 < w || len < bitsOf data 20 6 + w, .FB_RANGE),
      (fbOn s n && changed, .FB_BUSY)] a data
  else if o = 0x44 then
    checkedWrite s fbErr [(bitsOf data 0 8 = 0 || 104 ≤ bitsOf data 8 7, .FB_RANGE),
      (fbOn s n && changed, .FB_BUSY)] a data
  else if o = 0x50 then checkedWrite s fbErr [(fbOn s n && changed, .FB_BUSY)] a data
  else if o = 0x54 then
    checkedWrite s fbErr [(s.fld (FB_EXC_PER (s.fld (FB_RSL_EXC n))) ≤ bitsOf data 0 18, .FB_RANGE),
      (fbOn s n && changed, .FB_BUSY)] a data
  else if o = 0x58 then checkedWrite s fbErr [(104 ≤ bitsOf data 0 7, .FB_RANGE)] a data
  else writeFields s fbErr a data

end Sys2Proof.Machine
end

