-- ==== Sys2Proof/Machine/Traction.lean ====
section
/-! DEFINITION. Chapter 08: traction slots, DC links, the brake chopper and setpoints (R217-R243). -/

namespace Sys2Proof.Machine

def trcErr : BlockErr where
  last := TRC_ERR_LAST_ERR
  cnt := TRC_ERR_ERR_CNT
  lock := TRC_LOCK
  locked := .TRC_LOCKED
  codes := [(.TRC_RANGE, 1), (.TRC_BUSY, 2), (.TRC_LOCKED, 3), (.LEG_ABSENT, 4), (.CHOP_FAULT_PERSISTS, 5)]

namespace State

def slotOf (s : State) (m : Nat) : TrcSlot := Tbl.get {} s.trcSlot m
def setSlot (s : State) (m : Nat) (v : TrcSlot) : State := { s with trcSlot := Tbl.set {} s.trcSlot m v }
def linkOf (s : State) (j : Nat) : TrcLink := Tbl.get {} s.trcLink j
def setLink (s : State) (j : Nat) (v : TrcLink) : State := { s with trcLink := Tbl.set {} s.trcLink j v }

end State

/-- The setpoint and limit words of a slot (R239). -/
def trcTsp (m : Nat) : Nat := 0x60038008 + m * 0x80
def trcSsp (m : Nat) : Nat := 0x60038010 + m * 0x80
def trcTmot (m : Nat) : Nat := 0x60038018 + m * 0x80
def trcTgen (m : Nat) : Nat := 0x60038020 + m * 0x80

/-! ### Engine inputs (R231) -/

/-- Write a slot of a traction slot's engine; nothing while the slot is disabled (log 21). -/
def trcWrite (s : State) (m addr : Nat) (w : Word36) (e : Nat) (valid : Bool) (t : Nat) : State :=
  if s.flag (TRC_M_CFG_EN m) then
    writeSlot s (s.fld (TRC_M_CFG_ENGINE m)) addr ⟨w, e, valid, false, false, false, t, 0⟩
  else s

/-- The flags word: REGEN_FORBID, ZERO_TORQUE, ASC_HOLD, ASC side, SPEED_MODE (R231). -/
def trcFlags (s : State) (m : Nat) : Nat :=
  s.fld (TRC_M_STAT_REGEN_FORBID m) + 2 * s.fld (TRC_M_STAT_ZERO_TORQUE m) + 4 * s.fld (TRC_M_STAT_ASC_HOLD m)
    + 8 * s.fld (SAF_GTBL_SIDE (s.fld (TRC_M_CFG_GROUP m))) + 16 * s.fld (TRC_M_CFG_SPEED_MODE m)

def writeFlags (s : State) (m : Nat) : State := trcWrite s m 0x068 (BitVec.ofNat 36 (trcFlags s m)) 0 true s.mtime

/-- A torque limit as written: multiplied by DERATE / 256. The spec states no rounding (log 4). -/
def writeLimit (s : State) (m : Nat) (gen : Bool) : State :=
  let w := (s.word (if gen then trcTgen m else trcTmot m)).toInt
  let f := s.fresh
  let v := eitherWay (w * s.fld (TRC_M_STAT_DERATE m)) 256 f.1
  trcWrite f.2 m (if gen then 0x066 else 0x064) (BitVec.ofInt 36 v) (s.fld (TRC_M_EXP_TRQ_E m)) true s.mtime

/-- Both limits and the flags: at enable, at mode-ready and at a change of DERATE. -/
def writeInputs (s : State) (m : Nat) : State := writeFlags (writeLimit (writeLimit s m false) m true) m

/-- DERATE of the slots changes (R231, R396). -/
def trcDerate (s : State) (m v : Nat) : State :=
  if s.fld (TRC_M_STAT_DERATE m) = v then s else writeLimit (writeLimit (s.put (TRC_M_STAT_DERATE m) v) m false) m true

/-! ### Setpoints (R232) -/

/-- A commit of the torque request. -/
def torqueCommit (s : State) (m : Nat) (w : Word36) : State :=
  let s := s.setWord (trcTsp m) w
  let s := s.setSlot m { s.slotOf m with tspAt := s.mtime }
  let s := s.when (!s.flag (TRC_M_CFG_SPEED_MODE m)) fun s => s.putFlag (TRC_M_STAT_SP_STALE m) false
  trcWrite s m 0x060 w (s.fld (TRC_M_EXP_TRQ_E m)) true s.mtime

/-- A commit of the speed request. -/
def speedCommit (s : State) (m : Nat) (w : Word36) : State :=
  let s := s.setWord (trcSsp m) w
  let s := s.setSlot m { s.slotOf m with sspAt := s.mtime }
  let s := s.when (s.flag (TRC_M_CFG_SPEED_MODE m)) fun s => s.putFlag (TRC_M_STAT_SP_STALE m) false
  trcWrite s m 0x062 w (s.fld (TRC_M_EXP_SPD_E m)) true s.mtime

/-- A commit of a torque limit (R231). -/
def limitCommit (s : State) (m : Nat) (gen : Bool) (w : Word36) : State :=
  writeLimit (s.setWord (if gen then trcTgen m else trcTmot m) w) m gen

/-- SETPOINT_TIMEOUT: the controlling setpoint's slot is rewritten with VALID = 0 and the same mantissa and time. -/
def setpointTimeout (s : State) (m : Nat) : State :=
  if !s.flag (TRC_M_CFG_EN m) then s
  else
    let s := (s.putFlag (TRC_M_STAT_SP_STALE m) true).inc (TRC_M_CNT_SP_TO_CNT m)
    if s.flag (TRC_M_CFG_SPEED_MODE m) then
      trcWrite s m 0x062 (s.word (trcSsp m)) (s.fld (TRC_M_EXP_SPD_E m)) false (s.slotOf m).sspAt
    else trcWrite s m 0x060 (s.word (trcTsp m)) (s.fld (TRC_M_EXP_TRQ_E m)) false (s.slotOf m).tspAt

/-! ### DC links and the chopper (R219-R228) -/

/-- The enabled slots of a link. -/
def linkSlots (s : State) (j : Nat) : List Nat :=
  (List.range 4).filter fun m => s.flag (TRC_M_CFG_EN m) && s.fld (TRC_M_CFG_LINK m) = j

/-- Regeneration is forbidden for the machines of a link (R222). -/
def regenForbidden (s : State) (j : Nat) : Bool :=
  s.flag (TRC_DL_STAT_OV2 j) || s.flag (TRC_DL_STAT_DCL_STALE j)
    || (s.flag (TRC_DL_CFG_CHOP_EN j) && s.flag (TRC_DL_CFG_EN j) && !s.flag (TRC_DL_STAT_CHOP_AVAIL j))

/-- REGEN_FORBID of the slots of a link, and their flags where it changes. -/
def updateRegen (s : State) (j : Nat) : State :=
  let f := regenForbidden s j
  s.each (linkSlots s j) fun s m =>
    if s.flag (TRC_M_STAT_REGEN_FORBID m) = f then s else writeFlags (s.putFlag (TRC_M_STAT_REGEN_FORBID m) f) m

/-- The block commits a chopper duty of `d` / 256 (R223): the single writer of the chopper group's shadows. P is the group's
active period, or its shadow period while it has none; a fraction of a tap is rounded either way (log 4). -/
def commitChopper (s : State) (j d : Nat) : State :=
  let g := s.fld (TRC_DL_CFG_CHOP_GRP j)
  let n := s.fld (TRC_DL_CFG_CHOP_LEG j)
  let act := s.fld (PWM_GRP_PERIOD_ACT_PERIOD g)
  let p := if act ≠ 0 then act else s.fld (PWM_GRP_PERIOD_SH_PERIOD g)
  let f := s.fresh
  let x := if s.flag (TRC_DL_CFG_CHOP_SIDE j) then 256 - d else d
  let c := (eitherWay ((x * 32 * p : Nat) : Int) 256 f.1).toNat
  let s := (f.2.put (PWM_LEG_CMP_SH_C n) c).putFlag (TRC_DL_STAT_CHOP_ON j) (0 < d)
  (groupCommit (s.setLink j { s.linkOf j with duty := d }) g).1

/-- The duty of R224 in 1/256, as its formula gives it below OV1_ON too while OV1 is still set; a negative value counts as 0
(log 22). -/
def chopDuty (s : State) (j : Nat) : Nat :=
  let code := s.fld (TRC_DL_STAT_CODE j)
  let on := s.fld (TRC_DL_OV1_ON j)
  let top := s.fld (TRC_DL_OV2_SET j)
  let dmin := s.fld (TRC_DL_CHOP_DMIN j)
  if !s.flag (TRC_DL_STAT_OV1 j) || !s.flag (TRC_DL_STAT_CHOP_AVAIL j) || s.flag (TRC_DL_STAT_DCL_STALE j) then 0
  else if s.flag (TRC_DL_STAT_OV2 j) || top ≤ code then 256
  else (min 256 ((dmin : Int) + (256 - dmin) * ((code : Int) - on) / ((top : Int) - on))).toNat

/-- Commit the duty where it turns on or off or moves by 4/256 or more; a turn-on stores V0 (R224, R226). -/
def driveChopper (s : State) (j : Nat) : State :=
  let d := chopDuty s j
  let old := (s.linkOf j).duty
  if d = old || (d ≠ 0 && old ≠ 0 && max d old - min d old < 4) then s
  else
    let s := s.when (old = 0) fun s => s.setLink j { s.linkOf j with v0 := s.fld (TRC_DL_STAT_CODE j) }
    commitChopper s j d

/-- The standing cause of R225, apart from INEFFECTIVE: 1 SAT_FAULT, 3 LEG_FAILED, 4 GROUP_DOWN, 0 none. -/
def chopCause (s : State) (j : Nat) : Nat :=
  let n := s.fld (TRC_DL_CFG_CHOP_LEG j)
  if s.flag (GS_STAT_FAULT (2 * n)) || s.flag (GS_STAT_FAULT (2 * n + 1)) then 1
  else if (s.legOf n).failed then 3
  else if s.mode = 2 && !s.running (s.fld (TRC_DL_CFG_CHOP_GRP j)) then 4
  else 0

/-- A demand of the traction block on behalf of a link: 1 OV3_DIGITAL, 2 OV2_NO_CHOPPER (R243). -/
def linkDemand (s : State) (j cause : Nat) : State :=
  demand (s.inc (TRC_DL_CNT_DEMAND_CNT j)) ⟨cause, linkGroups s j, false, 3, true⟩

/-- CHOPPER_UNAVAILABLE (R225). -/
def chopperUnavailable (s : State) (j cause : Nat) : State :=
  let s := (s.putAll [(TRC_DL_STAT_CHOP_AVAIL j, 0), (TRC_DL_STAT_CHOP_CAUSE j, cause)]).inc (TRC_DL_CNT_CHOP_FLT_CNT j)
  let s := updateRegen (s.when ((s.linkOf j).duty ≠ 0) fun s => commitChopper s j 0) j
  if s.flag (TRC_DL_STAT_OV2 j) then linkDemand s j 2 else s

/-- Evaluate the causes of R225 for a link whose chopper is available. -/
def chopperWatch (s : State) (j : Nat) : State :=
  let c := chopCause s j
  if s.flag (TRC_DL_CFG_EN j) && s.flag (TRC_DL_CFG_CHOP_EN j) && s.flag (TRC_DL_STAT_CHOP_AVAIL j) && c ≠ 0 then
    chopperUnavailable s j c
  else s

/-- The levels of a usable code (R221), with the demands of a level that is newly set. -/
def linkLevels (s : State) (j code : Nat) : State :=
  let ov1 := if s.fld (TRC_DL_OV1_ON j) ≤ code then true else if code ≤ s.fld (TRC_DL_OV1_OFF j) then false
    else s.flag (TRC_DL_STAT_OV1 j)
  let was2 := s.flag (TRC_DL_STAT_OV2 j)
  let ov2 := if s.fld (TRC_DL_OV2_SET j) ≤ code then true else if code ≤ s.fld (TRC_DL_OV2_CLR j) then false else was2
  let was3 := s.flag (TRC_DL_STAT_OV3 j)
  let ov3 := decide (s.fld (TRC_DL_OV3_SET j) ≤ code)
  let s := s.putAll [(TRC_DL_STAT_OV1 j, bit ov1), (TRC_DL_STAT_OV2 j, bit ov2), (TRC_DL_STAT_OV3 j, bit ov3)]
  let s := s.when (ov2 && !was2) fun s => s.inc (TRC_DL_CNT_OV2_CNT j)
  let s := if ov3 && !was3 then linkDemand s j 1 else if ov3 ≠ was3 then evalChoices s else s
  let s := if ov2 && !was2 && s.flag (TRC_DL_CFG_CHOP_EN j) && !s.flag (TRC_DL_STAT_CHOP_AVAIL j) then linkDemand s j 2
    else if was2 && !ov2 then evalChoices s else s
  updateRegen s j

/-- DC_LINK_RESULT: the entry's slot lands; a result that is not VALID or carries FAULT is not used (R219). -/
def dcLinkResult (s : State) (j : Nat) : State :=
  let b := adcMirror (s.fld (TRC_DL_CFG_ADC j)) (s.fld (TRC_DL_CFG_ENTRY j))
  if !s.flag (TRC_DL_CFG_EN j) || !s.flag (RES_FLAGS_VALID b) || s.flag (RES_FLAGS_FAULT b) then s
  else
    let code := s.fld (RES_RAW b) % 2 ^ 12
    let s := s.putAll [(TRC_DL_STAT_CODE j, code), (TRC_DL_TIME_T j, s.fld (RES_TLO_T_LO b)), (TRC_DL_STAT_DCL_STALE j, 0)]
    let s := chopperWatch (linkLevels s j code) j
    if s.flag (TRC_DL_CFG_CHOP_EN j) then driveChopper s j else s

/-- DC_LINK_WATCH_EXPIRY: the link is stale (R220). -/
def dcLinkStale (s : State) (j : Nat) : State :=
  if !s.flag (TRC_DL_CFG_EN j) then s
  else
    let s := updateRegen (s.putFlag (TRC_DL_STAT_DCL_STALE j) true) j
    s.when ((s.linkOf j).duty ≠ 0) fun s => commitChopper s j 0

/-- CHOPPER_CHECK: the latest usable code against V0, CHK_T after the turn-on (R226). -/
def chopperCheck (s : State) (j : Nat) : State :=
  if s.flag (TRC_DL_STAT_CHOP_ON j) && (s.linkOf j).v0 ≤ s.fld (TRC_DL_STAT_CODE j) then chopperUnavailable s j 2 else s

/-- TRC_DL_CHOPCLR, or CHOP_CLEAR (R227). -/
def chopperClear (s : State) (j : Nat) : State × Status :=
  if !s.flag (TRC_DL_CFG_CHOP_EN j) || s.flag (TRC_DL_STAT_CHOP_AVAIL j) then (s.put (TRC_DL_STAT_CLR_RESULT j) 1, .OK)
  else if s.fld (TRC_DL_STAT_CHOP_CAUSE j) ≠ 2 && chopCause s j ≠ 0 then
    ((s.put (TRC_DL_STAT_CLR_RESULT j) 2).refuse trcErr .CHOP_FAULT_PERSISTS, .CHOP_FAULT_PERSISTS)
  else
    let s := s.putAll [(TRC_DL_STAT_CHOP_AVAIL j, bit (s.flag (TRC_DL_CFG_EN j))), (TRC_DL_STAT_CHOP_CAUSE j, 0),
      (TRC_DL_STAT_CLR_RESULT j, 1)]
    (evalChoices (updateRegen s j), .OK)

/-! ### Speed (R229, R230) -/

/-- STOPPED_AT_SPEED: an enabled slot's group is STOPPED at speed, or without SPD_OK, in any mode but BOOT. -/
def stoppedAtSpeed (s : State) (m : Nat) : State :=
  let g := s.fld (TRC_M_CFG_GROUP m)
  if s.flag (TRC_M_CFG_EN m) && s.stopped g && s.mode ≠ 0
      && (s.fld (SAF_GASC_ASC_ON g) ≤ s.fld (TRC_M_SPD_RPM m) || !s.flag (TRC_M_STAT_SPD_OK m)) then
    demandEvt ((s.putFlag (TRC_M_STAT_GUARD_DEMAND m) true).inc (TRC_M_CNT_GUARD_CNT m)) 3 (2 ^ g) false 1
  else s

/-- ASC_HOLD ends in a STOP once the speed is below ASC_OFF (R233). -/
def ascHoldStep (s : State) (m : Nat) : State :=
  let g := s.fld (TRC_M_CFG_GROUP m)
  if s.flag (TRC_M_STAT_ASC_HOLD m) && s.flag (TRC_M_STAT_SPD_OK m) && s.fld (TRC_M_SPD_RPM m) < s.fld (SAF_GASC_ASC_OFF g) then
    writeFlags ((groupStop s g).putFlag (TRC_M_STAT_ASC_HOLD m) false) m
  else s

/-- One slot's speed word: counts/s × 60 / CPR, rounded either way where it is no whole number (log 4). -/
def slotSpeed (s : State) (m : Nat) : State :=
  let fb := s.fld (TRC_M_CFG_FB m)
  let v := speedFrac s fb s.mtime
  let f := s.fresh
  let cpr : Int := max 1 (s.fld (FB_CPR fb))
  let rpm := min 65535 (eitherWay (v.1.natAbs * 60) (v.2 * cpr) f.1).toNat
  let ok := s.flag (FB_CFG_EN fb) && !s.flag (FB_STAT_FAULT fb)
  let t := if fbMode s fb < 2 then s.mtime else (s.fbOf fb).posTime
  let s := f.2.putAll [(TRC_M_SPD_RPM m, rpm), (TRC_M_SPD_DIR m, bit (v.1 < 0)), (TRC_M_SPDT_T m, t), (TRC_M_STAT_SPD_OK m, bit ok)]
  ascHoldStep (stoppedAtSpeed (speedWord s (s.fld (TRC_M_CFG_GROUP m)) rpm ok) m) m

/-- SPEED_WORD_TIMER: every 10 µs, each enabled slot; the chopper causes are looked at as well (log 23). -/
def speedTimer (s : State) : State :=
  let s := s.each ((List.range 4).filter fun m => s.flag (TRC_M_CFG_EN m)) slotSpeed
  s.each [0, 1] chopperWatch

/-! ### DRIVE to STANDBY (R233) -/

/-- The mode change DRIVE to STANDBY begins: ZERO_TORQUE for each enabled slot. -/
def beginZeroTorque (s : State) : State :=
  s.each ((List.range 4).filter fun m => s.flag (TRC_M_CFG_EN m)) fun s m =>
    writeFlags ((s.setSlot m { s.slotOf m with zeros := 0 }).putFlag (TRC_M_STAT_ZERO_TORQUE m) true) m

/-- Entering DRIVE, or abandoning the way out of it, clears ZERO_TORQUE and ASC_HOLD. -/
def clearZeroTorque (s : State) : State :=
  s.each ((List.range 4).filter fun m => s.flag (TRC_M_CFG_EN m)) fun s m =>
    writeFlags (s.putAll [(TRC_M_STAT_ZERO_TORQUE m, 0), (TRC_M_STAT_ASC_HOLD m, 0)]) m

/-- The way DRIVE to STANDBY is under way. -/
def leavingDrive (s : State) : Bool := s.flag PWR_MODE_CHANGING && s.mode = 2 && s.fld PWR_MODE_TARGET = 1

/-- Four runs in a row gave zero torque: STOP below ASC_OFF, else ASC_HOLD, or a demand where the engine is neither IDLE nor
RUN. -/
def zeroTorqueReached (s : State) (m : Nat) : State :=
  let g := s.fld (TRC_M_CFG_GROUP m)
  let st := s.fld (LE_STAT_STATE (s.fld (TRC_M_CFG_ENGINE m)))
  if s.flag (TRC_M_STAT_SPD_OK m) && s.fld (TRC_M_SPD_RPM m) < s.fld (SAF_GASC_ASC_OFF g) then groupStop s g
  else if st = 2 || st = 3 then writeFlags (s.putFlag (TRC_M_STAT_ASC_HOLD m) true) m
  else demandEvt ((s.putFlag (TRC_M_STAT_GUARD_DEMAND m) true).inc (TRC_M_CNT_GUARD_CNT m)) 3 (2 ^ g) false 1

/-- TRACTION_OUTPUT_READ: the torque output after END counts toward the four zero runs. -/
def tractionRead (s : State) (m : Nat) : State :=
  if leavingDrive s && s.flag (TRC_M_CFG_EN m) && s.flag (TRC_M_STAT_ZERO_TORQUE m) && (s.slotOf m).zeros < 4 then
    let h := s.slotOf m
    let n := if s.word (dataAddr (s.fld (TRC_M_CFG_ENGINE m)) 0x084) = 0 then h.zeros + 1 else 0
    let s := s.setSlot m { h with zeros := n }
    if n = 4 then zeroTorqueReached s m else s
  else s

/-- ZERO_TORQUE_TIMEOUT: ZT_TO without zero torque. -/
def zeroTorqueTimeout (s : State) (m : Nat) : State :=
  if leavingDrive s && s.flag (TRC_M_CFG_EN m) && (s.slotOf m).zeros < 4 then
    demandEvt s 4 (2 ^ s.fld (TRC_M_CFG_GROUP m)) false 1
  else s

/-- The completion point of DRIVE to STANDBY: every enabled slot's group is STOPPED, or the slot is in ASC_HOLD (R233, log 24). -/
def driveLeft (s : State) : Bool :=
  (List.range 4).all fun m =>
    !s.flag (TRC_M_CFG_EN m) || s.flag (TRC_M_STAT_ASC_HOLD m) || s.stopped (s.fld (TRC_M_CFG_GROUP m))

/-- A write of the Saggar's table; the flags slots of the group show a change of its ASC side (R231). -/
def ascTableWrite (s : State) (g : Nat) (asc : Bool) (data bad : Nat) : State × Status :=
  let r := sagTableWrite s g asc data bad
  (r.1.when (r.1.fld (SAF_GTBL_SIDE g) ≠ s.fld (SAF_GTBL_SIDE g)) fun s =>
    s.each ((List.range 4).filter fun m => s.flag (TRC_M_CFG_EN m) && s.fld (TRC_M_CFG_GROUP m) = g) writeFlags, r.2)

/-! ### Register writes (R218, R239-R242) -/

/-- A leg that the variant lacks is assigned to the group. -/
def groupUnfitted (s : State) (g : Nat) : Bool :=
  (List.range 36).any fun n => !s.legFitted n && s.fld (PWM_LEG_CFG_GROUP n) = g

/-- Why the enabled slot `m` of `s` may not stand (R218); OK if it may. -/
def trcSlotStatus (s : State) (m : Nat) : Status :=
  let g := s.fld (TRC_M_CFG_GROUP m)
  let legs := s.members g
  firstOf [(11 < g || groupUnfitted s g, if 11 < g then .TRC_RANGE else .LEG_ABSENT),
    (legs.length ≠ (if s.flag (TRC_M_CFG_TYPE m) then 6 else 3) || legs.any (fun n => 24 ≤ n), .TRC_RANGE),
    ((List.range 4).any (fun k => k ≠ m && s.flag (TRC_M_CFG_EN k) && s.fld (TRC_M_CFG_GROUP k) = g), .TRC_RANGE)]

/-- The write would change an RWL field of the register. -/
def changesRwl (s : State) (a data : Nat) : Bool := changesLocked s a data (rowsAt a)

/-- A write of TRC_M_CFG; EN = 1 enables the slot or is refused (R218). -/
def trcCfgWrite (s : State) (m data : Nat) : State × Status :=
  let a := 0x60038000 + m * 0x80
  let was := s.flag (TRC_M_CFG_EN m)
  let st := firstOf [(was && changesRwl s a data, .TRC_BUSY), (11 < bitsOf data 16 4, .TRC_RANGE)]
  if st ≠ .OK then (s.refuse trcErr st, st)
  else
    let r := writeFields s trcErr a data
    if r.1.flag (TRC_M_CFG_EN m) && !was then
      let st := trcSlotStatus r.1 m
      if st ≠ .OK then (s.refuse trcErr st, st)
      else
        let s := r.1.setSlot m { tspAt := r.1.mtime, sspAt := r.1.mtime }
        (writeInputs (updateRegen s (s.fld (TRC_M_CFG_LINK m))) m, r.2)
    else (if was && r.1.fld (TRC_M_CFG_SPEED_MODE m) ≠ s.fld (TRC_M_CFG_SPEED_MODE m) then writeFlags r.1 m else r.1, r.2)

/-- The threshold order of R221 holds. -/
def thresholdsOk (s : State) (j : Nat) : Bool :=
  decide (s.fld (TRC_DL_OV1_OFF j) < s.fld (TRC_DL_OV1_ON j)) && decide (s.fld (TRC_DL_OV1_ON j) < s.fld (TRC_DL_OV2_SET j))
    && decide (s.fld (TRC_DL_OV2_SET j) < s.fld (TRC_DL_OV3_SET j)) && decide (s.fld (TRC_DL_OV2_CLR j) < s.fld (TRC_DL_OV2_SET j))

/-- What follows a change of a link's EN: an enabled link's chopper is available unless a cause stands; a disabled link has no
levels (log 22). -/
def linkEnabled (s : State) (j : Nat) : State :=
  if s.flag (TRC_DL_CFG_EN j) then
    let ok := s.flag (TRC_DL_CFG_CHOP_EN j)
    chopperWatch (updateRegen (s.putAll [(TRC_DL_STAT_CHOP_AVAIL j, bit ok), (TRC_DL_STAT_CHOP_CAUSE j, 0)]) j) j
  else
    let s := s.when ((s.linkOf j).duty ≠ 0) fun s => commitChopper s j 0
    let s := s.putAll [(TRC_DL_STAT_OV1 j, 0), (TRC_DL_STAT_OV2 j, 0), (TRC_DL_STAT_OV3 j, 0), (TRC_DL_STAT_DCL_STALE j, 0),
      (TRC_DL_STAT_CHOP_AVAIL j, 0)]
    evalChoices (updateRegen s j)

/-- A write to a link's register. -/
def trcLinkWrite (s : State) (j o a data : Nat) : State × Status :=
  let was := s.flag (TRC_DL_CFG_EN j)
  let range := (o = 0x00 && bitsOf data 21 8 = 0) || (o = 0x10 && bitsOf data 8 8 = 0)
  let st := firstOf [(was && changesRwl s a data, .TRC_BUSY), (range, .TRC_RANGE),
    (o = 0x00 && 23 < bitsOf data 16 5, .TRC_RANGE), (o = 0x00 && !s.legFitted (bitsOf data 16 5), .LEG_ABSENT)]
  if st ≠ .OK then (s.refuse trcErr st, st)
  else
    let r := writeFields s trcErr a data
    if 0x04 ≤ o && o ≤ 0x0C && !thresholdsOk r.1 j then (s.refuse trcErr .TRC_RANGE, .TRC_RANGE)
    else (if o = 0x00 && r.1.flag (TRC_DL_CFG_EN j) ≠ was then linkEnabled r.1 j else r.1, r.2)

/-- A write to a TRC_ register other than the setpoint words. -/
def trcRegWrite (s : State) (a data : Nat) : State × Status :=
  let o := a - 0x60038000
  if o < 0x200 then
    let m := o / 0x80
    if o % 0x80 = 0 then trcCfgWrite s m data
    else if o % 0x80 = 4 then
      let tmo := bitsOf data 16 10
      checkedWrite s trcErr [(s.flag (TRC_M_CFG_EN m) && changesRwl s a data, .TRC_BUSY), (tmo < 1 || 1000 < tmo, .TRC_RANGE)] a data
    else writeFields s trcErr a data
  else if 0x400 ≤ o && o < 0x480 then
    let j := (o - 0x400) / 0x40
    if o % 0x40 = 0x1C then (if data % 2 = 1 then chopperClear s j else (s, .OK)) else trcLinkWrite s j (o % 0x40) a data
  else if o = 0x600 then
    let v := bitsOf data 0 16
    checkedWrite s trcErr [(v < 1 || 10000 < v, .TRC_RANGE)] a data
  else if o = 0x700 then writeLock s trcErr data
  else writeFields s trcErr a data

end Sys2Proof.Machine
end

