-- ==== Sys2Proof/Machine/Actuator.lean ====
section
/-! DEFINITION. Chapter 09: the actuator slots, six-step commutation from the back-EMF, starts, the speed loop, rotor loss and
catching (R244-R265). -/

namespace Sys2Proof.Machine

def actErr : BlockErr where
  last := ACT_ERR_LAST_ERR
  cnt := ACT_ERR_ERR_CNT
  lock := ACT_LOCK
  locked := .ACT_LOCKED
  codes := [(.ACT_RANGE, 1), (.ACT_BUSY, 2), (.ACT_LOCKED, 3), (.ACT_GROUP_STOPPED, 4), (.ACT_FAULT_PERSISTS, 5), (.LEG_ABSENT, 6)]

namespace State

def actOf (s : State) (m : Nat) : Act := Tbl.get {} s.act m
def setAct (s : State) (m : Nat) (v : Act) : State := { s with act := Tbl.set {} s.act m v }

/-- n / d with the rounding left free (log 4). -/
def rounded (s : State) (n d : Int) : Int × State := let f := s.fresh; (eitherWay n d f.1, f.2)

end State

/-- The states of R251. -/
def actState (s : State) (m : Nat) : Nat := s.fld (ACT_STAT_STATE m)
def actGroup (s : State) (m : Nat) : Nat := s.fld (ACT_CFG_GROUP m)
def actRev (s : State) (m : Nat) : Bool := s.flag (ACT_CFG_DIR m)

/-- Enter a state: SPD_VALID reads 1 only in CLOSED, FORCED only in ALIGN and RAMP, and ACT_SPD reads 0 elsewhere (R250). -/
def actEnter (s : State) (m st : Nat) : State :=
  let s := s.putAll [(ACT_STAT_STATE m, st), (ACT_STAT_SPD_VALID m, bit (st = 4)), (ACT_STAT_FORCED m, bit (st = 2 || st = 3))]
  if st = 2 || st = 3 || st = 4 then s else s.putAll [(ACT_SPD_RPM m, 0), (ACT_SPD_DUTY m, 0)]

/-- Push an event; a full FIFO drops its oldest entry (R261). -/
def actEvent (s : State) (m code arg : Nat) : State :=
  let x := s.actOf m
  let s := s.when (16 ≤ x.fifo.length) fun s => s.inc (ACT_EVT_OVF m)
  let old := if 16 ≤ x.fifo.length then x.fifo.drop 1 else x.fifo
  let s := s.setAct m { x with fifo := old ++ [(code, arg, s.mtime)] }
  s.when ((s.fld (ACT_CFG_IE m)).testBit ((code - 1) / 4)) fun s => s.irq (s.fld (ACT_CFG_OWNER m)) .act m code

/-! ### Steps and commits (R246, R247) -/

/-- The switching, the low-side and the floating phase of a step. -/
def stepPhases : Nat → Nat × Nat × Nat
  | 0 => (0, 1, 2) | 1 => (0, 2, 1) | 2 => (1, 2, 0) | 3 => (1, 0, 2) | 4 => (2, 0, 1) | _ => (2, 1, 0)

/-- The step after `st` in the direction of the slot. -/
def stepNext (rev : Bool) (st : Nat) : Nat := if rev then (st + 5) % 6 else (st + 1) % 6

/-- The floating phase's back-EMF rises through half the stage voltage in this step. -/
def stepRising (rev : Bool) (st : Nat) : Bool := decide (st % 2 = 1) ≠ rev

/-- The period a commit refers to: the active one, or the shadow while the group has none. -/
def actPeriod (s : State) (g : Nat) : Nat :=
  let p := s.fld (PWM_GRP_PERIOD_ACT_PERIOD g)
  if p ≠ 0 then p else s.fld (PWM_GRP_PERIOD_SH_PERIOD g)

/-- Commit a set with all three legs floating. -/
def actFloatAll (s : State) (m : Nat) : State :=
  let g := actGroup s m
  let s := s.each (s.members g) fun s n => s.setLeg n { s.legOf n with floatReq := true }
  let s := s.setAct m { s.actOf m with duty := 0, nextCom := none, last := none, driveAt := none }
  (groupCommit s g).1

/-- Commit a step at a duty of `d` / 256 (R247); a fraction of a tap is rounded either way (log 4). A second commit in one tick is
merged with the first: it replaces the set, and the counts of R84 take the two as one (R254). -/
def actDrive (s : State) (m st d : Nat) : State :=
  let g := actGroup s m
  let ph := stepPhases st
  let c := s.rounded ((d * actPeriod s g : Nat) : Int) 8
  let s := c.2.each (c.2.members g).zipIdx fun s e =>
    (s.put (PWM_LEG_CMP_SH_C e.1) (if e.2 = ph.1 then c.1.toNat else 0)).setLeg e.1
      { s.legOf e.1 with floatReq := decide (e.2 = ph.2.2) }
  let merged := s.timeRuns && (s.actOf m).driveAt = some s.mtime
  let s := s.setAct m { s.actOf m with duty := d, driveAt := some s.mtime }
  let s := s.put (ACT_STAT_STEP m) st
  let s := s.when (actState s m ≠ 5) fun s => s.put (ACT_SPD_DUTY m) d
  let counts := [(PWM_GRP_CNT_LATE_CNT g, s.fld (PWM_GRP_CNT_LATE_CNT g)), (PWM_GRP_CNT_SUPERSEDED_CNT g, s.fld (PWM_GRP_CNT_SUPERSEDED_CNT g))]
  (groupCommit s g).1.when merged fun s => s.putAll counts

/-- Commutate: the step, its duty, and the instant from which its samples are blanked (R248, R249). -/
def actCommutate (s : State) (m st d t : Nat) : State :=
  let s := s.setAct m { s.actOf m with comAt := t, last := none, nextCom := none }
  actDrive s m st d

/-! ### Ends of a start, faults (R252, R253, R260) -/

/-- A RUN that has not reached its completion point ends with a status; a cancelled one is an event. -/
def actRunEnds (s : State) (m : Nat) (st : Status) : State :=
  if (s.actOf m).starting then
    let s := (s.setAct m { s.actOf m with starting := false }).finish (.actRun m) st
    s.when (st = .ACT_CANCELLED) fun s => actEvent s m 13 0
  else s

/-- Float all phases and enter IDLE. -/
def actIdle (s : State) (m : Nat) : State :=
  actEvent (actEnter (actFloatAll (actRunEnds s m .ACT_CANCELLED) m) m 1) m 12 0

/-- Float all phases and enter FAULT; a SAFE group cancels a start. -/
def actFault (s : State) (m cause : Nat) : State :=
  let s := actRunEnds s m (if cause = 6 && s.safe (actGroup s m) then .ACT_CANCELLED else .ACT_START_FAILED)
  actEvent ((actEnter (actFloatAll s m) m 9).put (ACT_STAT_CAUSE m) cause) m 11 cause

/-- A fault latch of a leg of the group is set (cause 5, R131). -/
def actLatched (s : State) (m : Nat) : Bool :=
  (s.members (actGroup s m)).any fun n => s.flag (LD_STAT_FAULT_HS (n - 24)) || s.flag (LD_STAT_FAULT_LS (n - 24))

/-- The causes that arise outside the block: a driver latch, a SAFE group, or one that leaves RUNNING (R246, R260). -/
def actWatch (old s : State) (m : Nat) : State :=
  let st := actState s m
  if st = 0 || st = 9 then s
  else if actLatched s m then actFault s m 5
  else if s.safe (actGroup s m) || (old.running (actGroup s m) && !s.running (actGroup s m)) then actFault s m 6
  else s

/-! ### Attempts (R252) -/

def actFirstStep (s : State) (m : Nat) : Nat := if actRev s m then 5 else 0

/-- Begin an attempt: the first step at ALIGN_DUTY. -/
def actAttempt (s : State) (m : Nat) : State :=
  let n := (s.actOf m).tries + 1
  let s := (s.setAct m { s.actOf m with tries := n, bad := 0, locks := 0, revs := 0, ivals := [] }).put (ACT_STAT_TRY m) (min n 15)
  let s := s.when (1 < n) fun s => actEvent s m 10 n
  let s := actEvent ((actEnter s m 2).put (ACT_SPD_RPM m) 0) m 1 0
  actCommutate s m (actFirstStep s m) (s.fld (ACT_START_ALIGN_DUTY m)) s.mtime

/-- An attempt fails: 4 NO_LOCK, 5 REVERSE. -/
def actFail (s : State) (m why : Nat) : State :=
  let s := actEvent (s.inc (ACT_CNT_FAIL_CNT m)) m why 0
  if (s.actOf m).tries < s.fld (ACT_START_RETRIES m) + 1 then actEnter (actFloatAll s m) m 8 else actFault s m 1

/-- RAMP_T in ticks; speed of the ramp at `t` as a fraction: START_RPM to HANDOFF, linear over RAMP_T. -/
def rampTicks (s : State) (m : Nat) : Nat := 400000 * s.fld (ACT_RAMP_RAMP_T m)
def rampSpeed (s : State) (m t : Nat) : Nat × Nat :=
  let dt := min (t - (s.actOf m).rampAt) (rampTicks s m)
  let v0 := s.fld (ACT_RAMP2_START_RPM m)
  (v0 * rampTicks s m + (s.fld (ACT_RAMP_HANDOFF m) - v0) * dt, rampTicks s m)

/-- The next forced step: its interval is 60° electrical at the forced speed (R250, R252). -/
def actForce (s : State) (m : Nat) : State :=
  let v := rampSpeed s m s.mtime
  let len := s.rounded ((4000000000 * v.2 : Nat) : Int) ((max 1 (s.fld (ACT_CFG_PP m) * v.1) : Nat) : Int)
  let rpm := len.2.rounded (v.1 : Int) ((max 1 v.2 : Nat) : Int)
  let s := rpm.2
  let x := s.actOf m
  let x := if x.seen then x else { x with locks := 0, ivals := [] }
  let s := (s.setAct m { x with stepAt := s.mtime, stepLen := len.1.toNat, seen := false }).put (ACT_SPD_RPM m) (min 65535 rpm.1.toNat)
  actCommutate s m (stepNext (actRev s m) (s.fld (ACT_STAT_STEP m))) (s.fld (ACT_START_RAMP_DUTY m)) s.mtime

/-- ALIGN_END. -/
def alignEnd (s : State) (m : Nat) : State :=
  if actState s m = 2 then
    let s := s.setAct m { s.actOf m with rampAt := s.mtime, locks := 0, revs := 0, seen := true, ivals := [] }
    actForce (actEvent (actEnter s m 3) m 2 0) m
  else s

/-- FORCED_STEP. -/
def forcedStep (s : State) (m : Nat) : State := if actState s m = 3 then actForce s m else s

/-- RAMP_TIMEOUT. -/
def rampTimeout (s : State) (m : Nat) : State := if actState s m = 3 then actFail s m 4 else s

/-- RETRY_WAIT_END. -/
def retryWaitEnd (s : State) (m : Nat) : State := if actState s m = 8 then actAttempt s m else s

/-! ### Speed (R250) -/

/-- The speed of the last intervals as a fraction, in rev/min: 60 / (6 × PP × mean interval). -/
def actSpeed (s : State) (m : Nat) : Nat × Nat :=
  let l := (s.actOf m).ivals
  (4000000000 * l.length, max 1 (s.fld (ACT_CFG_PP m) * l.sum))

/-- Report the measured speed and the time of the last valid crossing. -/
def actReport (s : State) (m : Nat) : State :=
  let v := actSpeed s m
  let r := s.rounded (v.1 : Int) (v.2 : Int)
  let s := r.2.put (ACT_SPDT_T m) (s.actOf m).zc
  if actState s m = 4 then s.put (ACT_SPD_RPM m) (min 65535 r.1.toNat) else s

/-- Enter CLOSED: the target is the measured speed; the attempt counter returns to 0; a RUN is complete (R252, R253, R257). -/
def actClose (s : State) (m : Nat) (integ : Int) : State :=
  let v := actSpeed s m
  let t := s.rounded ((1000 * v.1 : Nat) : Int) (v.2 : Int)
  let s := t.2.setAct m { t.2.actOf m with target := t.1.toNat, integ := integ, tries := 0 }
  let s := actEnter (s.put (ACT_STAT_TRY m) 0) m 4
  actReport (actRunEnds s m .OK) m

/-! ### Crossings (R248, R249, R256) -/

/-- Take a valid crossing at `zc`: the interval since the one before counts if there was one (`chain`). -/
def takeCrossing (s : State) (m zc : Nat) (chain : Bool) : State :=
  let x := s.actOf m
  let d := zc - x.zc
  (s.put (ACT_SPDT_T m) zc).setAct m { x with zc := zc, tau := if chain then d else x.tau, ivals := if chain then (d :: x.ivals).take 6 else [] }

/-- The next commutation: τ / 2 − ADV × τ / 64 after the crossing, with τ as it was before the crossing (R249). -/
def scheduleCom (s : State) (m zc tau : Nat) : State :=
  let r := s.rounded ((tau * (32 - s.fld (ACT_SENSE_ADV m)) : Nat) : Int) 64
  r.2.setAct m { r.2.actOf m with nextCom := some (zc + r.1.toNat) }

/-- The time lies within WIN / 64 of an interval of its expected time; both times doubled. -/
def inWindow (s : State) (m zc2 exp2 tau : Nat) : Bool :=
  decide (64 * (max zc2 exp2 - min zc2 exp2) ≤ 2 * s.fld (ACT_SENSE_WIN m) * tau)

/-- ROTOR_LOST (R256, R259). -/
def actLost (s : State) (m : Nat) : State :=
  let x := s.actOf m
  let losses := (s.mtime :: x.losses.filter fun t => decide (s.mtime ≤ t + 4000000000)).take 4
  let stopping := actState s m = 5
  let s := s.setAct m { x with losses := losses, lines := none, cross := [], peak := 0, lowAt := none }
  let s := actEvent ((actFloatAll s m).inc (ACT_CNT_LOST_CNT m)) m 6 0
  if losses.length = 4 then actFault s m 3 else if stopping then actIdle s m else actEnter s m 6

/-- A crossing of the expected slope in RAMP. -/
def rampCrossing (s : State) (m zc : Nat) : State :=
  let x := s.actOf m
  if inWindow s m (2 * zc) (2 * x.stepAt + x.stepLen) x.stepLen then
    let s := takeCrossing (s.setAct m { x with seen := true, revs := 0, locks := x.locks + 1 }) m zc (0 < x.locks)
    if s.fld (ACT_SENSE_N_LOCK m) ≤ x.locks + 1 then
      let s := actClose (actEvent s m 3 0) m (s.fld (ACT_START_RAMP_DUTY m) * 2 ^ 20)
      scheduleCom s m zc (s.actOf m).tau
    else s
  else (s.setAct m { x with locks := 0, revs := 0, ivals := [] }).inc (ACT_CNT_WIN_MISS m)

/-- A crossing of the opposite slope in RAMP; the second in a row is a reversal. -/
def rampReverse (s : State) (m : Nat) : State :=
  let x := s.actOf m
  let s := s.setAct m { x with locks := 0, ivals := [], revs := x.revs + 1 }
  if 2 ≤ x.revs + 1 then actFail s m 5 else s

/-- A crossing of the expected slope in CLOSED or STOPPING. -/
def closedCrossing (s : State) (m zc : Nat) : State :=
  let x := s.actOf m
  if inWindow s m (2 * zc) (2 * (x.zc + x.tau)) x.tau then
    actReport (takeCrossing (scheduleCom s m zc x.tau) m zc true) m
  else actLost (s.inc (ACT_CNT_WIN_MISS m)) m

/-- The instant at which a straight line through two samples crosses zero (R248). -/
def crossTime (s : State) (t1 t2 : Nat) (e1 e2 : Int) : Nat × State :=
  let r := s.rounded (((t2 - t1) * e1.natAbs : Nat) : Int) ((max 1 (e1.natAbs + e2.natAbs) : Nat) : Int)
  (t1 + r.1.toNat, r.2)

/-- A usable sample of a driven step: blanked, compared with the sample before it, and judged for loss (R248, R256). -/
def stepSample (s : State) (m t : Nat) (e : Int) : State :=
  let x := s.actOf m
  let st := actState s m
  let tau := if st = 3 then x.stepLen else x.tau
  let blank := decide (64 * (t - x.comAt) < s.fld (ACT_SENSE_BLANK m) * tau) || decide (t < x.comAt)
  let overdue := st ≠ 3 && decide (3 * x.tau ≤ 2 * (t - x.zc))
  let idle (s : State) : State := if overdue then actLost s m else s
  if blank then idle s
  else
    let s := s.setAct m { x with last := some (t, e) }
    match x.last with
    | none => idle s
    | some (t1, e1) =>
      let up := decide (e1 < 0) && decide (0 ≤ e)
      let down := decide (0 ≤ e1) && decide (e < 0)
      let rising := stepRising (actRev s m) (s.fld (ACT_STAT_STEP m))
      if (up && rising) || (down && !rising) then
        let c := crossTime s t1 t e1 e
        if st = 3 then rampCrossing c.2 m c.1 else closedCrossing c.2 m c.1
      else if (up || down) && st = 3 then rampReverse s m
      else idle s

/-! ### Catching (R257, R258) -/

/-- The step whose floating phase crossed: c − a stands for c, b − c for b, a − b for a (log 27). -/
def catchStep (rev : Bool) (idx : Nat) (up : Bool) : Nat :=
  match idx, xor up rev with
  | 0, true => 3 | 0, false => 0
  | 1, true => 1 | 1, false => 4
  | _, true => 5 | _, false => 2

/-- ROTOR_CAUGHT. -/
def actCatch (s : State) (m idx : Nat) (up : Bool) (zc stage : Nat) : State :=
  let x := s.actOf m
  let d := nearest ((256 * x.peak : Nat) : Int) ((max 1 stage : Nat) : Int)
  let duty := (clampInt (s.fld (ACT_LIM_DMIN m)) (s.fld (ACT_LIM_DMAX m)) d).toNat
  let s := actEvent (s.inc (ACT_CNT_CAUGHT_CNT m)) m 7 0
  let s := actClose s m (duty * 2 ^ 20)
  let s := actCommutate s m (catchStep (actRev s m) idx up) duty zc
  scheduleCom s m zc (s.actOf m).tau

/-- One crossing of a line difference in LISTEN: three in a row in the order of DIR, with intervals that agree within 25 % and a
speed of at least CATCH_MIN, catch the rotor. -/
def lineCrossing (s : State) (m stage : Nat) (c : Nat × Nat × Bool) : State :=
  if actState s m ≠ 6 then s
  else
    let x := s.actOf m
    let cross := ((c.2.1, c.1) :: x.cross).take 3
    let next (i : Nat) : Nat := if actRev s m then (i + 2) % 3 else (i + 1) % 3
    match cross with
    | [(i3, t3), (i2, t2), (i1, t1)] =>
      let p := t2 - t1
      let q := t3 - t2
      if i2 = next i1 && i3 = next i2 && 4 * (max p q - min p q) ≤ p
          && s.fld (ACT_LIM_CATCH_MIN m) * s.fld (ACT_CFG_PP m) * (t3 - t1) ≤ 8000000000 then
        actCatch (s.setAct m { x with cross := [], lines := none, ivals := [q, p], tau := q, zc := t3 }) m c.2.1 c.2.2 t3 stage
      else s.setAct m { x with cross := cross, peak := 0 }
    | _ => s.setAct m { x with cross := cross, peak := 0 }

/-- Insert a crossing in order of time. -/
def insertCross (c : Nat × Nat × Bool) : List (Nat × Nat × Bool) → List (Nat × Nat × Bool)
  | [] => [c]
  | d :: l => if c.1 < d.1 then c :: d :: l else d :: insertCross c l

/-- A usable sample in LISTEN or COAST: since when every line difference has stayed within ±BEMF_LOW (R258). -/
def lowSample (s : State) (m t : Nat) (a b c : Int) : State :=
  let x := s.actOf m
  let low := [c - a, b - c, a - b].all fun d => decide (d.natAbs ≤ s.fld (ACT_SENSE_BEMF_LOW m))
  s.setAct m { x with lowAt := if low then some (x.lowAt.getD t) else none }

/-- A usable sample in LISTEN. -/
def listenSample (s : State) (m t : Nat) (a b c : Int) (stage : Nat) : State :=
  let x := s.actOf m
  let now := [c - a, b - c, a - b]
  let top := (now.map Int.natAbs).foldl max 0
  let r : State × List (Nat × Nat × Bool) := match x.lines with
    | none => (s, [])
    | some (t1, l0, l1, l2) =>
      ([l0, l1, l2].zip now).zipIdx.foldl (fun r e =>
        if (e.1.1 < 0) ≠ (e.1.2 < 0) then
          let k := crossTime r.1 t1 t e.1.1 e.1.2
          (k.2, insertCross (k.1, e.2, e.1.1 < 0) r.2)
        else r) (s, [])
  let s := r.2.foldl (fun s c => lineCrossing s m stage c) r.1
  if actState s m = 6 then
    let x := s.actOf m
    s.setAct m { x with lines := some (t, c - a, b - c, a - b), peak := max x.peak top }
  else s

/-! ### Samples (R245) -/

/-- The result of entry `e` of the slot's converter can be used, its code and its time. -/
def actEntry (s : State) (m e : Nat) : Bool × Nat × Nat :=
  let b := adcMirror (s.fld (ACT_CFG_ADC m)) e
  (s.flag (RES_FLAGS_VALID b) && !s.flag (RES_FLAGS_FAULT b), s.fld (RES_RAW b) % 2 ^ 12, mirrorTime s b)

/-- ACTUATOR_SAMPLE: the done event of the converter. The second unusable sample in a row is SENSE_INVALID. -/
def actSample (s : State) (m : Nat) : State :=
  let st := actState s m
  let driven := st = 3 || st = 4 || st = 5
  let listen := st = 6 || st = 7
  if !driven && !listen then s
  else
    let f := (stepPhases (s.fld (ACT_STAT_STEP m))).2.2
    let need := if driven then [f, 3] else [0, 1, 2, 3]
    if need.all fun e => (actEntry s m e).1 then
      let s := s.setAct m { s.actOf m with bad := 0 }
      let code (e : Nat) : Nat := (actEntry s m e).2.1
      let t := (actEntry s m f).2.2
      if driven then stepSample s m t (2 * (code f : Int) - code 3)
      else
        let s := lowSample s m t (code 0) (code 1) (code 2)
        if st = 6 then listenSample s m t (code 0) (code 1) (code 2) (code 3) else s
    else
      let x := s.actOf m
      if 1 ≤ x.bad then actFault (s.setAct m { x with bad := 0 }) m 4 else s.setAct m { x with bad := x.bad + 1 }

/-- COMMUTATION: the following step at the present duty (R249). -/
def commutation (s : State) (m : Nat) : State :=
  let x := s.actOf m
  match x.nextCom with
  | some t =>
    if actState s m = 4 || actState s m = 5 then
      actCommutate s m (stepNext (actRev s m) (s.fld (ACT_STAT_STEP m))) x.duty t
    else s
  | none => s

/-! ### Speed loop (R254, R255) -/

/-- The target moves toward `goal` by at most ACC or DEC over 1,000 rev/min; all in 1/1,000 rev/min. -/
def rampTarget (s : State) (m target goal : Nat) : Nat :=
  if target < goal then min goal (target + s.fld (ACT_RATE_ACC m)) else max goal (target - s.fld (ACT_RATE_DEC m))

/-- The loop's duty for a target: integrator and proportional term, both held within DMIN and DMAX. -/
def speedLoop (s : State) (m : Nat) : State :=
  let x := s.actOf m
  let v := actSpeed s m
  let err : Int := (x.target * v.2 : Nat) - (1000 * v.1 : Nat)
  let den : Int := (1000 * v.2 : Nat)
  let lo : Int := s.fld (ACT_LIM_DMIN m) * 2 ^ 20
  let hi : Int := s.fld (ACT_LIM_DMAX m) * 2 ^ 20
  let i := s.rounded (s.fld (ACT_LOOP_KI m) * err) den
  let integ := clampInt lo hi (x.integ + i.1)
  let p := i.2.rounded (16 * s.fld (ACT_LOOP_KP m) * err) den
  let d := p.2.rounded (clampInt lo hi (integ + p.1)) (2 ^ 20)
  actDrive (d.2.setAct m { d.2.actOf m with integ := integ }) m (d.2.fld (ACT_STAT_STEP m)) d.1.toNat

/-- SPEED_LOOP_TICK: in CLOSED toward the setpoint, not below HANDOFF; in STOPPING toward 0, and below HANDOFF the motor floats. -/
def speedLoopTick (s : State) (m : Nat) : State :=
  let st := actState s m
  let x := s.actOf m
  let hand := 1000 * s.fld (ACT_RAMP_HANDOFF m)
  if st = 4 then
    let goal := max hand (1000 * s.fld (ACT_SP_SPEED m))
    speedLoop (s.setAct m { x with target := rampTarget s m x.target goal }) m
  else if st = 5 then
    let t := rampTarget s m x.target 0
    let s := s.setAct m { x with target := t }
    if t < hand then actIdle s m else speedLoop s m
  else s

/-! ### Timers of LISTEN and COAST (R258) -/

def listenTimeout (s : State) (m : Nat) : State :=
  if actState s m = 6 then actEvent (actEnter s m 7) m 8 0 else s

/-- The rotor is below the restart speed: the line differences have been low for 10 ms. -/
def lowLong (s : State) (m : Nat) : Bool := (s.actOf m).lowAt.any fun t => decide (t + 4000000 ≤ s.mtime)

/-- BELOW_RESTART: an attempt with the counter at 0. -/
def belowRestart (s : State) (m : Nat) : State :=
  if actState s m = 7 && lowLong s m then actAttempt ((actEvent s m 9 0).setAct m { (actEvent s m 9 0).actOf m with tries := 0 }) m else s

def coastTimeout (s : State) (m : Nat) : State := if actState s m = 7 then actFault s m 2 else s

/-! ### Commands (R252, R253, R255, R260) -/

/-- Record a refused command; the others pass. -/
def actRefused (s : State) (st : Status) : State × Status := (s.refuse actErr st, st)

/-- RUN: accepted in IDLE with the group RUNNING. -/
def actRun (s : State) (m : Nat) : State × Status :=
  if actState s m ≠ 1 then actRefused s .ACT_BUSY
  else if !s.running (actGroup s m) then actRefused s .ACT_GROUP_STOPPED
  else (actAttempt (s.setAct m { s.actOf m with starting := true, tries := 0 }) m, .OK)

/-- STOP: from CLOSED into STOPPING, from the other active states to IDLE. -/
def actStop (s : State) (m : Nat) : State × Status :=
  let st := actState s m
  if st = 4 then (actEnter s m 5, .OK)
  else if st = 2 || st = 3 || st = 6 || st = 7 || st = 8 then (actIdle s m, .OK)
  else (s, .OK)

/-- FLOAT: to IDLE from every state but OFF, IDLE and FAULT. -/
def actFloat (s : State) (m : Nat) : State × Status :=
  let st := actState s m
  if 2 ≤ st && st ≤ 8 then (actIdle s m, .OK) else (s, .OK)

/-- CLR: FAULT to IDLE unless the condition of cause 5 or 6 holds, whatever cause is recorded. -/
def actClr (s : State) (m : Nat) : State × Status :=
  if actState s m ≠ 9 then (s.put (ACT_STAT_CLR_RESULT m) 1, .OK)
  else if actLatched s m || !s.running (actGroup s m) then
    actRefused (s.put (ACT_STAT_CLR_RESULT m) 2) .ACT_FAULT_PERSISTS
  else (actIdle (s.putAll [(ACT_STAT_CLR_RESULT m, 1), (ACT_STAT_CAUSE m, 0)]) m, .OK)

/-- A read of ACT_EVT pops the oldest event and latches its time (R263). -/
def actPop (s : State) (m : Nat) : State :=
  let x := s.actOf m
  match x.fifo with
  | (c, a, t) :: l =>
    (s.setAct m { x with fifo := l }).putAll [(ACT_EVT_CODE m, c), (ACT_EVT_ARG m, a), (ACT_EVT_VALID m, 1), (ACT_EVT_T m, t)]
  | [] => s.putAll [(ACT_EVT_CODE m, 0), (ACT_EVT_ARG m, 0), (ACT_EVT_VALID m, 0)]

/-! ### Enabling (R244) and register writes (R263-R265) -/

/-- Why the enabled slot `m` of `s` may not stand (R244); OK if it may. -/
def actSlotStatus (s : State) (m : Nat) : Status :=
  let g := actGroup s m
  let legs := s.members g
  let n := s.fld (ACT_CFG_ADC m)
  let stime := (List.range 3).foldl (fun k e => k + s.fld (ADC_SEQ_STIME n e)) 0
  let trg := s.fld (PWM_GRP_TRG_TIME g 0)
  let twin := (List.range 4).any fun k =>
    (s.flag (TRC_M_CFG_EN k) && s.fld (TRC_M_CFG_GROUP k) = g) || (k ≠ m && s.flag (ACT_CFG_EN k) && s.fld (ACT_CFG_GROUP k) = g)
  firstOf [(groupUnfitted s g, .LEG_ABSENT),
    (legs.length ≠ 3 || legs.any (fun k => k < 24), .ACT_RANGE),
    (twin, .ACT_RANGE),
    (s.fld (PWM_GRP_CTRL_MODE g) ≠ 0 || s.fld (PWM_GRP_CTRL_UPD g) ≠ 3, .ACT_RANGE),
    (s.fld (ADC_CTRL_SEQ_LEN n) < 3 || s.fld (ADC_CTRL_TRG_MODE n) ≠ 1 || s.fld (ADC_CTRL_TRG_EVT n) ≠ 4 * g, .ACT_RANGE),
    (s.fld (ACT_LIM_DMIN m) * actPeriod s g < 256 * (trg + 10 + 80 * (stime + 3) + 640), .ACT_RANGE),
    (legs.any fun k => 32 * trg < s.fld (PWM_LEG_DTLIM_DT_MAX k), .ACT_RANGE)]

/-- A write of ACT_CFG, whose DIR the image sets in OFF: EN = 1 enables the slot with all legs floating, EN = 0 disables it. -/
def actCfgWrite (s : State) (m data : Nat) : State × Status :=
  let a := 0x60040000 + m * 0x80
  let was := s.flag (ACT_CFG_EN m)
  let pp := bitsOf data 10 6
  let st := firstOf [(was && changesRwl s a data, .ACT_BUSY),
    (s.ready && actState s m ≠ 1 && data.testBit 16 ≠ s.flag (ACT_CFG_DIR m), .ACT_BUSY),
    (pp = 0 || 32 < pp || 11 < bitsOf data 17 4 || 11 < bitsOf data 1 4, .ACT_RANGE)]
  if st ≠ .OK then actRefused s st
  else
    let r := writeFields s actErr a data
    let en := r.1.flag (ACT_CFG_EN m)
    if en && !was then
      let st := actSlotStatus r.1 m
      if st ≠ .OK then actRefused s st
      else
        let s := r.1.setAct m { fifo := (r.1.actOf m).fifo }
        let s := actEvent (actEnter (actFloatAll (s.put (ACT_STAT_CAUSE m) 0) m) m 1) m 12 0
        (actWatch s s m, r.2)
    else if !en && was then (actEnter (actFloatAll (actRunEnds r.1 m .ACT_CANCELLED) m) m 0, r.2)
    else r

/-- A write of ACT_CMD: the command, then CLR. -/
def actCmdWrite (s : State) (m data : Nat) : State × Status :=
  let c := bitsOf data 0 2
  let r := if c = 1 then actRun s m else if c = 2 then actStop s m else if c = 3 then actFloat s m else (s, .OK)
  if data.testBit 4 then
    let q := actClr r.1 m
    (q.1, if r.2 = .OK then q.2 else r.2)
  else r

/-- A write to an ACT_ register. -/
def actRegWrite (s : State) (a data : Nat) : State × Status :=
  let o := a - 0x60040000
  if o < 0x200 then
    let m := o / 0x80
    let k := o % 0x80
    let busy := s.flag (ACT_CFG_EN m) && changesRwl s a data
    let checked (range : Bool) : State × Status := checkedWrite s actErr [(busy, .ACT_BUSY), (range, .ACT_RANGE)] a data
    if k = 0x00 then actCfgWrite s m data
    else if k = 0x04 then checked (bitsOf data 8 8 = 0)
    else if k = 0x08 then
      let t := bitsOf data 0 12
      checked (t < 10 || 4000 < t || bitsOf data 12 16 ≤ s.fld (ACT_RAMP2_START_RPM m))
    else if k = 0x0C then checked (bitsOf data 16 10 < 10 || 1000 < bitsOf data 16 10)
    else if k = 0x10 then
      checked (32 < bitsOf data 0 6 || bitsOf data 6 6 < 4 || 32 < bitsOf data 6 6 || 16 < bitsOf data 12 6 || bitsOf data 18 4 < 2)
    else if k = 0x18 then checked (bitsOf data 8 8 < bitsOf data 0 8)
    else if k = 0x24 then actCmdWrite s m data
    else checked false
  else if o = 0x400 then writeLock s actErr data
  else writeFields s actErr a data

end Sys2Proof.Machine
end

