-- ==== Sys2Proof/Machine/BlockRegs.lean ====
section
/-! DEFINITION. Register writes of the PWM_, GS_ and LD_ blocks with the checks of R71-R77, R83, R92, R103-R107, R134-R137. -/

namespace Sys2Proof.Machine

/-! ### PWM_ (R103-R107) -/

/-- A write of PWM_GRP_RUN: 1 START, 2 STOP, anything else is ignored. -/
def groupRun (s : State) (g data : Nat) : State × Status :=
  match data % 4 with
  | 1 => recorded pwmErr (groupStart s g)
  | 2 => (groupStop s g, .OK)
  | _ => (s, .OK)

/-- A write of PWM_GRP_CTRL. -/
def groupCtrl (s : State) (g a data : Nat) : State × Status :=
  checkedWrite s pwmErr
    [(bitsOf data 0 2 = 3 || bitsOf data 2 2 = 0, .PERIOD_RANGE), (12 ≤ bitsOf data 4 4, .GROUP_RANGE),
      (bitsOf data 0 2 ≠ s.fld (PWM_GRP_CTRL_MODE g) && !s.stopped g, .GROUP_RUNNING)] a data

/-- A write of PWM_GRP_SYNC: a master is a group, not the follower itself, and not one that follows the follower (R77). -/
def groupSync (s : State) (g a data : Nat) : State × Status :=
  let m := bitsOf data 24 4
  checkedWrite s pwmErr [(12 ≤ m || (data.testBit 31 && (m = g || (s.follows m && s.masterOf m = g))), .PERIOD_RANGE)] a data

/-- Where no period runs, or in static mode, the active dead times show DT_INIT (R90). A running group takes it over at its next
reload. -/
def showDtInit (s : State) (n : Nat) : State :=
  let d := s.fld (PWM_LEG_DTCFG_DT_INIT n)
  s.when (!(s.groupOf n).any s.running) fun s => s.putAll [(PWM_LEG_DTLH_ACT_DT n, d), (PWM_LEG_DTHL_ACT_DT n, d)]

/-- A write to a register of leg `n` at offset `k` (R92, R104). -/
def legRegWrite (s : State) (n k a data : Nat) : State × Status :=
  let lo := floorTaps s n
  match k with
  | 0x00 => legGroup s n data
  | 0x10 =>
    let d := bitsOf data 0 17
    let x := checkedWrite s pwmErr [(d < lo || s.fld (PWM_LEG_DTLIM_DT_MAX n) < d, .DT_RANGE)] a data
    (showDtInit x.1 n, x.2)
  | 0x14 =>
    let d := bitsOf data 0 17
    let g := bitsOf data 17 10
    checkedWrite s pwmErr [(d < lo || 128000 < d || g < 64 || 640 < g, .DT_RANGE)] a data
  | 0x20 => legForce s n data
  | _ => writeFields s pwmErr a data

/-- A write of PWM_GRP_CUT_LO or _HI: a mask that names a leg the variant does not fit is refused (R4). `low` is the number of the
register's first leg. -/
def groupCut (s : State) (low a data : Nat) : State × Status :=
  checkedWrite s pwmErr [((bitsSet (min 32 (36 - low)) data).any fun i => !s.legFitted (low + i), .LEG_ABSENT)] a data

/-- A write to a PWM_ register. -/
def pwmRegWrite (s : State) (a data : Nat) : State × Status :=
  let o := a - 0x60000000
  if o < 0xC00 then
    let g := o / 0x100
    match o % 0x100 with
    | 0x00 => groupCtrl s g a data
    | 0x04 => checkedWrite s pwmErr [(data % 2 ^ 24 < 400, .PERIOD_RANGE)] a data
    | 0x14 => groupRun s g data
    | 0x18 => if data.testBit 0 then recorded pwmErr (groupCommit s g) else (s, .OK)
    | 0x28 => if data.testBit 0 then recorded pwmErr (tripClear s g) else (s, .OK)
    | 0x2C | 0x30 =>
      let x := writeFields s pwmErr a data
      (maskWritten x.1 g (activeSources s g), x.2)
    | 0x34 => groupCut s 0 a data
    | 0x38 => groupCut s 32 a data
    | 0x50 => groupSync s g a data
    | _ =>
      let x := writeFields s pwmErr a data
      (x.1.putFlag (PWM_GRP_STAT_TRG_IDLE g) (trgIdle x.1 g), x.2)
  else if 0x1000 ≤ o && o < 0x1900 then
    let n := (o - 0x1000) / 0x40
    if s.legFitted n then legRegWrite s n ((o - 0x1000) % 0x40) a data else (s.refuse pwmErr .LEG_ABSENT, .LEG_ABSENT)
  else if 0x2000 ≤ o && o < 0x21B0 then
    let src := (o - 0x2000) / 4
    let x := writeFields s pwmErr a (if src < 16 then data else clearBit data 12)
    (x.1.when (src < 16) fun s => showPin s src, x.2)
  else if o = 0x3004 then
    checkedWrite s pwmErr [(data % 2 ^ 12 < 80 || 4000 < data % 2 ^ 12, .DT_RANGE)] a data
  else if o = 0x3008 then writeLock s pwmErr data
  else writeFields s pwmErr a data

/-! ### GS_ and LD_ (R134-R137) -/

/-- A write to a GS_ register. -/
def gsRegWrite (s : State) (a data : Nat) : State × Status :=
  let o := a - 0x60008000
  if o < 0x1800 then
    let n := o / 0x80
    if !s.linkFitted n then (s.refuse gsErr .LEG_ABSENT, .LEG_ABSENT)
    else match o % 0x80 with
      | 0x00 => gsCfg s n data
      | 0x14 => if data.testBit 0 then satClear s n else (s, .OK)
      | _ => writeFields s gsErr a data
  else if o = 0x2000 then writeLock s gsErr data
  else writeFields s gsErr a data

/-- A write to an LD_ register. -/
def ldRegWrite (s : State) (a data : Nat) : State × Status :=
  let o := a - 0x60010000
  if o < 0x300 then
    let k := o / 0x40
    if !s.linkFitted (48 + k) then (s.refuse ldErr .LEG_ABSENT, .LEG_ABSENT)
    else match o % 0x40 with
      | 0x00 => ldCfg s k data
      | 0x14 => if data.testBit 0 then satClear s (48 + k) else (s, .OK)
      | _ => writeFields s ldErr a data
  else if o = 0x500 then writeLock s ldErr data
  else writeFields s ldErr a data

end Sys2Proof.Machine
end

