-- ==== Sys2Proof/Machine/Journal.lean ====
section
/-! DEFINITION. The ferroelectric store's deferral (R366, R368) and the firing log (R420-R423). -/

namespace Sys2Proof.Machine

/-- Participant `p` has answered ACCEPT to a power-state request and starts no new work until the commit point or the abort (R377). -/
def State.held (s : State) (p : Nat) : Bool := s.flag PWR_PS_STAT_ENTERING && decide (Tbl.get 0 s.sup.answers p = 1)

/-- Ferroelectric writes wait: in a dip and for 1 ms after it, while HOLD_OK is 0 (R366, R368), and from the store's ACCEPT (R377). -/
def State.storeHeld (s : State) : Bool := s.dipHold || !s.flag PWR_FEED_STAT_HOLD_OK || s.held 25

/-- A write to the ferroelectric store: at once, or after the writes that wait (R366). -/
def storeWrite (s : State) (a : Nat) (l : List Byte) : State :=
  if s.storeHeld || !s.deferred.isEmpty then { s with deferred := s.deferred ++ [(a, l)] } else s.setBytes a l

/-- The waiting writes run in their original order. -/
def storeResume (s : State) : State :=
  if s.storeHeld then s
  else (s.each s.deferred fun s e => s.setBytes e.1 e.2) |> fun s => { s with deferred := [] }

/-- JNL_STAT.DEFERRED follows the deferral (R421). -/
def showDeferred (s : State) : State := s.putFlag JNL_STAT_DEFERRED s.storeHeld

/-! ### Records (R420) -/

/-- CRC-8 of bytes, polynomial 0x2F, initial value 0xFF. -/
def crc8Bytes (l : List Byte) : Nat := l.foldl (fun c b => crc8 c b.toNat 8) 0xFF

/-- The address of the slot of record `i`. -/
def recAddr (i : Nat) : Nat := 0x70140000 + i % 65536 * 32

/-- A record with its CRC. -/
def sealRec (body : List Byte) : List Byte := body ++ [BitVec.ofNat 8 (crc8Bytes body)]

/-- A record's bytes. `source` is byte 9. -/
def recBytes (index seq op source status accept epoch done : Nat) (arg : List Byte) : List Byte :=
  sealRec (leBytes 4 index ++ leBytes 4 seq ++ leBytes 1 op ++ leBytes 1 source ++ leBytes 2 status ++ leBytes 8 accept
    ++ leBytes 2 epoch ++ leBytes 4 done ++ (arg ++ List.replicate 5 0).take 5)

/-- Part of a stored record: `n` bytes from byte `o`. -/
def recPart (s : State) (i o n : Nat) : Nat := s.num (recAddr i + o) n

/-- Rewrite `n` bytes of a record from byte `o`, with its CRC. -/
def recSet (s : State) (i o n v : Nat) : State :=
  let s := s.setBytes (recAddr i + o) (leBytes n v)
  s.setByte (recAddr i + 31) (BitVec.ofNat 8 (crc8Bytes (s.bytesAt (recAddr i) 31)))

/-- JNL_STAT.OPEN shows the open records. -/
def setJnl (s : State) (j : Jnl) : State := { s with jnl := j }.put JNL_STAT_OPEN j.open_.length

/-- The next index, and the era it lies in (R423). -/
def nextIndex (s : State) : Nat × Nat :=
  if s.flag JNL_STAT_EMPTY then (0, s.jnl.era)
  else if s.fld JNL_HEAD_INDEX = 0xFFFFFFFF then (0, s.jnl.era + 1)
  else (s.fld JNL_HEAD_INDEX + 1, s.jnl.era)

/-- Show `i` as the newest record. -/
def showHead (s : State) (i era : Nat) : State :=
  s.putAll [(JNL_HEAD_INDEX, i), (JNL_STAT_EMPTY, 0), (JNL_STAT_ERA, era), (JNL_OLDEST_INDEX, i - 65535)]

/-- Write an open record (R421): its index. -/
def newRecord (s : State) (seq op source : Nat) (arg : List Byte) : State × Nat :=
  let n := nextIndex s
  let i := n.1
  let s := s.setBytes (recAddr i) (recBytes i seq op source 0xFFFF s.mtime (s.fld PWM_EPOCH) 0 arg)
  (setJnl (showHead s i n.2) { s.jnl with era := n.2, open_ := s.jnl.open_ ++ [i] }, i)

/-- The closure (R421): STATUS and DONE_US, or STATUS alone in a coalesced record. A record closed with a status other than OK keeps
it (R422). -/
def closeRecord (s : State) (i : Nat) (st : Status) (done : Nat) : State :=
  let coalesced := (recPart s i 9 1).testBit 5
  let old := recPart s i 10 2
  let s := if st = .OK && old ≠ 0xFFFF && old ≠ 0 then s else recSet s i 10 2 st.code
  let s := if coalesced then s else recSet s i 22 4 (min done (2 ^ 32 - 1))
  setJnl s { s.jnl with
    open_ := s.jnl.open_.filter (· ≠ i)
    streams := if st = .OK then s.jnl.streams else s.jnl.streams.filter fun x => x.index ≠ i }

/-- STREAM_COALESCE (R422): SEQ, ARG and COALESCED are set; the first SEQ stands in bytes 22-25. -/
def coalesce (s : State) (i seq : Nat) (arg : List Byte) : State :=
  let source := recPart s i 9 1
  let s := if source.testBit 5 then s else recSet (recSet s i 22 4 (recPart s i 4 4)) i 9 1 (setBit source 5)
  let s := recSet s i 4 4 seq
  let s := recSet s i 26 5 (ofBytes ((arg ++ List.replicate 5 0).take 5))
  s.inc JNL_CNT_COALESCED

/-- The open record of a stream that takes a further command: accepted less than 10 ms before. -/
def streamOf (s : State) (ring op arg : Nat) : Option Nat :=
  (s.jnl.streams.find? fun x => x.ring = ring && x.op = op && x.arg = arg && decide (s.mtime < x.at_ + 4000000)).map (·.index)

/-- A stream's new record takes the place of its old one. -/
def openStream (s : State) (ring op arg i : Nat) : State :=
  let rest := s.jnl.streams.filter fun x => !(x.ring = ring && x.op = op && x.arg = arg)
  { s with jnl := { s.jnl with streams := rest ++ [⟨ring, op, arg, i, s.mtime⟩] } }

/-! ### The scan of step 9 (R423) -/

/-- The slots of the log that hold any byte, rising, without repeats. -/
def usedSlots (s : State) : List Nat :=
  ((s.bytes.filter fun c => decide (0x70140000 ≤ c.1) && decide (c.1 < 0x70340000)).map fun c => (c.1 - 0x70140000) / 32).foldr
    (fun k l => if l.head? = some k then l else k :: l) []

/-- The record in slot `k` is sound: its CRC holds and its INDEX belongs to the slot. -/
def slotSound (s : State) (k : Nat) : Bool :=
  decide (recPart s k 31 1 = crc8Bytes (s.bytesAt (recAddr k) 31)) && decide (recPart s k 0 4 % 65536 = k)

/-- JOURNAL_SCAN: the head, the bad records, the open records. A slot that holds nothing is no bad record (log 41). -/
def journalScan (s : State) : State :=
  let used := usedSlots s
  let good := used.filter fun k => slotSound s k
  let idx := good.map fun k => recPart s k 0 4
  let open1 := (good.filter fun k => recPart s k 10 2 = 0xFFFF).map fun k => recPart s k 0 4
  let s := setJnl s { s.jnl with open_ := open1, streams := [] }
  let s := s.putAll [(JNL_STAT_SCAN_DONE, 1), (JNL_STAT_BAD_CNT, min 255 (used.length - good.length))]
  if idx.isEmpty then s.putAll [(JNL_HEAD_INDEX, 0xFFFFFFFF), (JNL_STAT_EMPTY, 1), (JNL_STAT_ERA, s.jnl.era), (JNL_OLDEST_INDEX, 0)]
  else showHead s (idx.foldl max 0) s.jnl.era

/-! ### The window (R431) -/

/-- JNL_WINDOW_SELECT: the window shows the named record. -/
def windowSelect (s : State) (i : Nat) : State :=
  let empty := s.flag JNL_STAT_EMPTY
  let gone := !empty && decide (i < s.fld JNL_OLDEST_INDEX)
  let future := empty || decide (s.fld JNL_HEAD_INDEX < i)
  let ok := !gone && !future
  let s := s.putAll [(JNL_WIN_IDX_INDEX, i), (JNL_WIN_STAT_VALID, bit ok), (JNL_WIN_STAT_GONE, bit gone), (JNL_WIN_STAT_FUTURE, bit future)]
  s.each (List.range 8) fun s d => s.put (JNL_WIN_BYTES d) (if ok then recPart s i (4 * d) 4 else 0)

end Sys2Proof.Machine
end

