-- ==== Sys2Proof/Machine/Host.lean ====
section
/-! DEFINITION. Chapter 16: descriptors, acceptance, start and completion of host commands, doorbells, ring resets and the host's
registers (R402-R415, R421, R428-R430). -/

namespace Sys2Proof.Machine

def hostErr : BlockErr where
  last := HOST_ERR_LAST_ERR
  cnt := HOST_ERR_ERR_CNT
  lock := HOST_LOCK
  locked := .HOST_LOCKED
  codes := [(.HOST_RANGE, 1), (.HOST_LOCKED, 2), (.HOST_WR_DENIED, 3)]

/-! ### Descriptors (R405, R406, R411) -/

/-- Bytes `o` to `o + n - 1` of a little-endian descriptor. -/
def descPart (d : BitVec 256) (o n : Nat) : Nat := bitsOf d.toNat (8 * o) (8 * n)

/-- A 40-bit time as the module time in the range now - 2^39 to now + 2^39 - 1 (R406). -/
def time40 (now v : Nat) : Int :=
  let d : Int := ((v % 2 ^ 40 : Nat) : Int) - ((now % 2 ^ 40 : Nat) : Int)
  let d := if d < -2 ^ 39 then d + 2 ^ 40 else if d < 2 ^ 39 then d else d - 2 ^ 40
  (now : Int) + d

/-- `n` bytes of ARGS from byte `o`. -/
def argNum (a : List Byte) (o n : Nat) : Nat := ofBytes ((a.drop o).take n)

/-- The classes that may carry an opcode; none for a code that R411 does not list. -/
def opClasses (op : Nat) : List Nat :=
  if op ≤ 1 then [1, 2, 3]
  else if op ≤ 6 || op = 8 || op = 0x12 || (0x20 ≤ op && op ≤ 0x26) || op = 0x3B || op = 0x40 then [2]
  else if op = 7 || op = 9 || op = 0x31 || op = 0x32 || op = 0x38 then [2, 3]
  else if op = 0x0A || op = 0x10 || op = 0x11 || (0x13 ≤ op && op ≤ 0x17) || op = 0x30 then [1, 2]
  else if op = 0x39 || op = 0x3A then [3]
  else []

/-- Stream opcodes (R411, R412). -/
def opStream (op : Nat) : Bool := op = 0x10 || op = 0x11 || (0x13 ≤ op && op ≤ 0x17)

/-- Abortable operations (R411). -/
def opAbortable (op : Nat) (a : List Byte) : Bool :=
  match op with
  | 0x02 => true
  | 0x04 => true
  | 0x20 => argNum a 1 1 = 2
  | 0x25 => argNum a 1 1 = 1
  | 0x26 => argNum a 1 1 = 1
  | 0x31 => true
  | 0x32 => true
  | 0x39 => true
  | 0x3A => true
  | _ => false

/-- The bytes of ARGS that an opcode uses: first and count. The others are reserved. -/
def opUses (op : Nat) : List (Nat × Nat) :=
  match op with
  | 0x01 => [(0, 1), (4, 4)]
  | 0x02 => [(0, 2)]
  | 0x03 => [(0, 1)]
  | 0x04 => [(0, 1)]
  | 0x06 => [(0, 2)]
  | 0x07 => [(0, 5)]
  | 0x08 => [(0, 12)]
  | 0x09 => [(0, 4)]
  | 0x0A => [(0, 9)]
  | 0x10 => [(0, 1), (4, 5)]
  | 0x11 => [(0, 1), (4, 5)]
  | 0x12 => [(0, 1), (4, 10)]
  | 0x13 => [(0, 1), (2, 2)]
  | 0x14 => [(0, 1), (2, 2)]
  | 0x15 => [(0, 4)]
  | 0x16 => [(0, 4)]
  | 0x17 => [(0, 2)]
  | 0x20 => [(0, 2), (8, 8)]
  | 0x21 => [(0, 1)]
  | 0x22 => [(0, 2)]
  | 0x23 => [(0, 1)]
  | 0x24 => [(0, 1)]
  | 0x25 => [(0, 2)]
  | 0x26 => [(0, 2)]
  | 0x30 => [(0, 9)]
  | 0x31 => [(0, 3), (4, 12)]
  | 0x32 => [(0, 4), (8, 8)]
  | 0x38 => [(0, 6), (8, 8)]
  | 0x39 => [(0, 6), (8, 8)]
  | 0x3A => [(0, 16)]
  | 0x3B => [(0, 1)]
  | 0x40 => [(0, 6)]
  | _ => []

/-- The reserved bytes of ARGS are 0. -/
def reservedZero (op : Nat) (a : List Byte) : Bool :=
  (List.range 16).all fun i => (opUses op).any (fun u => decide (u.1 ≤ i) && decide (i < u.1 + u.2)) || argNum a i 1 = 0

/-- Bytes of the IMAGE_WRITE regions (R484): glaze A, glaze B, user scratch. -/
def regionSize (r : Nat) : Nat := if r = 2 then 0xB0000 else 0x80000

/-- The arguments are in range (R411). The upper four bits of a five-byte mantissa are reserved (log 42). -/
def argsInRange (op : Nat) (a : List Byte) : Bool :=
  let b := fun o => argNum a o 1
  match op with
  | 0x01 => decide (b 0 < 32)
  | 0x02 => decide (1 ≤ b 0) && decide (b 0 ≤ 5) && (if b 0 = 4 then decide (1 ≤ b 1) && decide (b 1 ≤ 2) else decide (b 1 = 0))
  | 0x03 => decide (1 ≤ b 0) && decide (b 0 ≤ 2)
  | 0x04 => decide (1 ≤ b 0) && decide (b 0 ≤ 3)
  | 0x08 => decide (argNum a 0 4 % 4 = 0) && !(rowsAt (argNum a 0 4)).isEmpty
  | 0x09 => decide (argNum a 0 4 % 4 = 0) && !(rowsAt (argNum a 0 4)).isEmpty
  | 0x0A => decide (argNum a 0 4 % 8 = 0) && decide (b 8 < 16)
  | 0x10 => decide (b 0 < 4) && decide (b 8 < 16)
  | 0x11 => decide (b 0 < 4) && decide (b 8 < 16)
  | 0x12 => decide (b 0 < 4) && decide (b 8 < 16) && decide (b 13 < 16)
  | 0x13 => decide (b 0 < 4)
  | 0x14 => decide (b 0 < 4)
  | 0x20 => decide (b 0 < 12) && decide (1 ≤ b 1) && decide (b 1 ≤ 2)
  | 0x21 => decide (b 0 < 12)
  | 0x22 => decide (b 0 < 32) && decide (1 ≤ b 1) && decide (b 1 ≤ 4)
  | 0x23 => decide (b 0 < 48) || (decide (64 ≤ b 0) && decide (b 0 < 76))
  | 0x24 => decide (b 0 < 2)
  | 0x25 => decide (b 0 < 4) && decide (1 ≤ b 1) && decide (b 1 ≤ 4)
  | 0x26 => decide (b 0 < 4) && decide (1 ≤ b 1) && decide (b 1 ≤ 3)
  | 0x30 => decide (7 ≤ b 8) && decide (b 8 ≤ 39)
  | 0x31 => decide (b 0 < 8) && decide (b 1 < 8) && decide (b 2 ≤ 64) && decide (argNum a 4 4 < if (b 1).testBit 0 then 2 ^ 29 else 2 ^ 11)
  | 0x32 => decide (argNum a 0 2 < 1024) && decide (1 ≤ argNum a 2 2) && decide (argNum a 2 2 ≤ 1024)
  | 0x38 => decide (b 1 % 128 < 4) && decide (1 ≤ argNum a 2 2)
  | 0x39 => decide (1 ≤ argNum a 4 2) && decide (argNum a 4 2 ≤ 4096)
  | 0x3A => decide (b 15 ≤ 2) && decide (1 ≤ argNum a 12 3) && decide (argNum a 12 3 ≤ 65536)
      && decide (argNum a 8 4 + argNum a 12 3 ≤ regionSize (b 15))
  | 0x3B => decide (b 0 < 2)
  | _ => true

namespace State

/-! ### Queues -/

def hqOf (s : State) (r : Nat) : HQueue := Tbl.get {} s.hq r

end State

/-- A command that has started and not completed (R408). -/
def HCmd.open_ (c : HCmd) : Bool := c.stage = .started || c.stage = .running || (c.stage = .done && c.fail = .OK)

/-- Commands of the ring that count (R415: those of a reset ring run on). -/
def openCount (q : HQueue) : Nat := (q.cmds.filter HCmd.open_).length

/-- The accepted commands that wait to start, in order; those that a check or EXPIRED has ended are not among them. -/
def waiting (q : HQueue) : List HCmd :=
  q.cmds.filter fun c => !c.quiet && c.fail = .OK && (c.stage = .accepted || c.stage = .fetched)

/-- The command waits for NOT_BEFORE, or for the earlier commands of its ring (R408). -/
def cmdWaits (s : State) (q : HQueue) (c : HCmd) : Bool :=
  (c.flags.testBit 0 && decide ((s.mtime : Int) < c.nb))
    || (c.flags.testBit 2 && q.cmds.any fun d => !d.quiet && decide ((c.seq + 2 ^ 32 - d.seq) % 2 ^ 32 < 2 ^ 31) && decide (d.seq ≠ c.seq))

/-- Write a ring's queue; OPEN and WAITING follow it. -/
def State.setHq (s : State) (r : Nat) (q : HQueue) : State :=
  { s with hq := Tbl.set {} s.hq r q }.putAll
    [(HOST_R_STAT_OPEN r, openCount q), (HOST_R_STAT_WAITING r, bit (((waiting q).head?).any fun c => cmdWaits s q c))]

/-- The command a reference names. -/
def cmdOf (s : State) (c : CmdRef) : Option HCmd := (s.hqOf c.ring).cmds.find? fun x => x.seq = c.seq

/-- Change a command. -/
def mapCmd (s : State) (c : CmdRef) (f : HCmd → HCmd) : State :=
  let q := s.hqOf c.ring
  s.setHq c.ring { q with cmds := q.cmds.map fun x => if x.seq = c.seq then f x else x }

/-- Record a command's result: it stands at its completion point. While a start runs no command is executed any further, and step 10
closes what is open (R62). -/
def result (s : State) (c : CmdRef) (st : Status) (res : Option Nat := none) : State :=
  if !s.ready && !s.exhausted then s
  else { mapCmd s c fun x => { x with stage := .done } with
    results := s.results ++ [{ ref := c, status := st, result := res, at_ := s.mtime }] }

/-- Host commands are fetched and started: after mode-ready, and in START_EXHAUSTED (R56, R65); not from HOST's ACCEPT on (R377). -/
def hostRuns (s : State) : Bool := !s.perst && (s.ready || s.exhausted) && !s.held 24

/-! ### Completion (R409, R421) -/

/-- A completion record without its PHASE. -/
def completionRec (seq : Nat) (st : Status) (op : Nat) (index : Nat) (res : Option Nat) : List Byte :=
  leBytes 4 seq ++ leBytes 2 st.code ++ leBytes 1 op ++ leBytes 1 (if res.isSome then 2 else 0) ++ leBytes 4 index
    ++ leBytes 4 (res.getD 0)

/-- Write a result's closure and its completion record. A command whose ring was reset gets the closure alone (R415). -/
def postResult (s : State) (x : CmdResult) : State :=
  match cmdOf s x.ref with
  | none => s
  | some c =>
    let s := closeRecord s c.index x.status ((x.at_ - c.accept) / 400)
    let q := s.hqOf x.ref.ring
    let s := s.setHq x.ref.ring { q with cmds := q.cmds.filter fun y => y.seq ≠ x.ref.seq }
    if c.quiet then s else postCompletion s x.ref.ring (completionRec c.seq x.status c.op c.index x.result)

/-- COMMAND_COMPLETION: the oldest result is closed and posted; while ferroelectric writes wait, it waits (R421). -/
def commandCompletion (s : State) : State :=
  match s.results with
  | [] => s
  | x :: rest => if s.storeHeld then s else postResult { s with results := rest } x

/-- Complete a command now: its closure and record are written before what follows (R377, R411, R495). -/
def completeNow (s : State) (c : CmdRef) (st : Status) : State :=
  postResult (mapCmd s c fun x => { x with stage := .done }) { ref := c, status := st, at_ := s.mtime }

/-! ### Fetch and acceptance (R407, R421, R422) -/

/-- The first failing check, in the order of R407. -/
def descCheck (s : State) (r : Nat) (c : HCmd) : Status :=
  firstOf [((opClasses c.op).isEmpty, .OPCODE_UNKNOWN),
    (!(opClasses c.op).contains (s.fld (HOST_R_CTRL_CLASS r)), .RING_CLASS),
    (decide (8 ≤ c.flags) || !reservedZero c.op c.args || !argsInRange c.op c.args, .HOST_RANGE),
    (c.flags.testBit 0 && c.flags.testBit 1 && decide (c.na < c.nb), .WINDOW_INVALID),
    (s.exhausted && c.op ≠ 3, .START_EXHAUSTED)]

/-- The oldest command whose record is not committed. -/
def fetchedCmd (q : HQueue) : Option HCmd := q.cmds.find? fun c => c.stage = .fetched

/-- Byte 9 of a record: the ring, and the kind of a marker (R420). -/
def recSource (r op : Nat) : Nat := r + (if op = 7 then 64 else 0)

/-- Commit the record of the oldest fetched command of ring `r`, or write it into its stream's open record. A command that a check
has failed, or that has expired, stands at its completion point. -/
def commit (s : State) (r : Nat) : State :=
  let q := s.hqOf r
  match fetchedCmd q with
  | none => s
  | some c =>
    let a0 := argNum c.args 0 1
    let stream := opStream c.op && decide (c.fail = Status.OK)
    let w : State × Nat := match if stream then streamOf s r c.op a0 else none with
      | some i => (coalesce s i c.seq c.args, i)
      | none =>
        let n := newRecord s c.seq c.op (recSource r c.op) c.args
        (if stream then openStream n.1 r c.op a0 n.2 else n.1, n.2)
    let s := w.1.setHq r { q with
      any := false
      recent := ((c.seq, c.op) :: q.recent).take 256
      cmds := q.cmds.map fun x =>
        if x.seq = c.seq && x.stage = .fetched then { x with stage := .accepted, index := w.2, accept := s.mtime } else x }
    let s := s.putFlag (HOST_R_CTRL_SEQ_ANY r) false
    if c.fail = .OK then s else result s ⟨r, c.seq⟩ c.fail

/-- DESCRIPTOR_FETCH: the descriptor at SQH is read. A wrong SEQ completes with SEQ_ERROR; else the command waits for its acceptance
record, which a coalescing stream command writes at once. -/
def descriptorFetch (s : State) (r : Nat) (d : BitVec 256) : State :=
  let q := s.hqOf r
  let head := s.fld (HOST_R_SQH_HEAD r)
  if !hostRuns s || !s.hostReach || !s.flag (HOST_R_CTRL_EN r) || s.flag (HOST_R_STAT_DMA_ERR r) || head = q.tail
      || 17 ≤ (waiting q).length then s
  else
    let s := s.put (HOST_R_SQH_HEAD r) ((head + 1) % 2 ^ s.fld (HOST_R_CTRL_SQ_SIZE r))
    let seq := descPart d 2 4
    let any := s.flag (HOST_R_CTRL_SEQ_ANY r) && !q.cmds.any fun c => c.stage = .fetched
    if !any && seq ≠ s.fld (HOST_R_NEXTSEQ_SEQ r) then
      postCompletion (s.inc (HOST_R_CNT_SEQ_ERR r)) r (completionRec seq .SEQ_ERROR (descPart d 0 1) 0xFFFFFFFF none)
    else
      let c : HCmd :=
        { seq := seq, op := descPart d 0 1, flags := descPart d 1 1, nb := time40 s.mtime (descPart d 6 5),
          na := time40 s.mtime (descPart d 11 5), args := leBytes 16 (descPart d 16 16) }
      let c := { c with fail := descCheck s r c }
      let s := s.put (HOST_R_NEXTSEQ_SEQ r) (seq + 1)
      let s := s.setHq r { q with cmds := q.cmds ++ [c], any := any }
      if s.storeHeld then s.inc JNL_CNT_DEFER_CNT
      else if opStream c.op && c.fail = .OK && (streamOf s r c.op (argNum c.args 0 1)).isSome
          && !q.cmds.any fun x => x.stage = .fetched then commit s r
      else s

/-- ACCEPTANCE_COMMITTED: while ferroelectric writes wait, acceptance waits (R421). -/
def acceptanceCommitted (s : State) (r : Nat) : State := if s.storeHeld then s else commit s r

/-! ### Start (R408) -/

/-- The command may be handed on: not held by its ring's order, its window, or a full ring. -/
def mayStart (s : State) (r : Nat) (q : HQueue) (c : HCmd) : Bool :=
  hostRuns s && c.stage = .accepted && !cmdWaits s q c && !(c.flags.testBit 1 && decide (c.na ≤ (s.mtime : Int)))
    && decide (openCount q < 16) && !hringFull s r && decide ((s.hringOf r).held.length < 16)

/-- COMMAND_START: the command next in SEQ order is handed to its home island. -/
def commandStart (s : State) (r : Nat) : State :=
  let q := s.hqOf r
  match (waiting q).head? with
  | some c => if mayStart s r q c then mapCmd s ⟨r, c.seq⟩ fun x => { x with stage := .started } else s
  | none => s

/-- NOT_BEFORE_REACHED: WAITING follows the clock. -/
def notBefore (s : State) (r : Nat) : State := s.setHq r (s.hqOf r)

/-- NOT_AFTER_EXPIRY: every command of the ring that has not started by NOT_AFTER ends with EXPIRED; one whose record is not
committed ends so when it is. -/
def notAfter (s : State) (r : Nat) : State :=
  (waiting (s.hqOf r)).foldl (fun s c =>
    if c.flags.testBit 1 && decide (c.na ≤ (s.mtime : Int)) then
      let s := (mapCmd s ⟨r, c.seq⟩ fun x => { x with fail := .EXPIRED }).inc (HOST_R_CNT_EXPIRED r)
      if c.stage = .accepted then result s ⟨r, c.seq⟩ .EXPIRED else s
    else s) s

/-- A started command of opcode `op`, ready for its operation. NOP and ABORT do not wait for their start, but for space in a full ring
(R408, R410). -/
def startedCmd (s : State) (r seq op : Nat) : Option HCmd :=
  (s.hqOf r).cmds.find? fun c =>
    c.seq = seq && c.op = op && (c.stage = .started || (op ≤ 1 && c.stage = .accepted && c.fail = .OK && hostRuns s && !hringFull s r))

/-- The operation of a command: its status and RESULT, or what it waits for. -/
inductive OpEnd where
  | done (st : Status) (res : Option Nat)
  | await (w : WaitOn)
  /-- It stands in a queue of its block, which ends it. -/
  | hold
  deriving DecidableEq, Repr

/-- Run the operation of a started command and record how it ends. A command that is not there changes nothing, and none runs during
a start (R62). -/
def runOp (s : State) (r seq op : Nat) (f : State → List Byte → State × OpEnd) : State :=
  match if s.ready || s.exhausted then startedCmd s r seq op else none with
  | none => s
  | some c =>
    let x := f (mapCmd s ⟨r, seq⟩ fun x => { x with stage := .running }) c.args
    match x.2 with
    | .done st res => result x.1 ⟨r, seq⟩ st res
    | .await w => x.1.await w ⟨r, seq⟩
    | .hold => x.1

/-- An operation that ends at once with a status. -/
def atOnce (x : State × Status) : State × OpEnd := (x.1, .done x.2 none)

/-- An operation that waits unless it is refused. -/
def orAwait (x : State × Status) (w : WaitOn) : State × OpEnd := if x.2 = .OK then (x.1, .await w) else (x.1, .done x.2 none)

/-! ### Doorbells (R403) -/

/-- A doorbell value of the ring size or more is ignored and sets HOST_RANGE. -/
def doorbell (s : State) (size v : Nat) (f : State → State) : State :=
  if s.perst || s.hostBlind then s else if size ≤ v then s.refuse hostErr .HOST_RANGE else f s

def sqTail (s : State) (r v : Nat) : State :=
  doorbell s (2 ^ s.fld (HOST_R_CTRL_SQ_SIZE r)) v fun s => s.setHq r { s.hqOf r with tail := v }

/-- A head doorbell of ring `k` returns records; what waits is written. -/
def headDoorbell (s : State) (k v : Nat) : State :=
  doorbell s (hringSize s k) v fun s => pump (s.setHring k { s.hringOf k with head := v }) k

/-- IRQ_GAP_EXPIRY: pending records are announced. -/
def irqGapExpiry (s : State) (k : Nat) : State := if (s.hringOf k).irqPend then announce s k else s

/-! ### The link (R402, R415) -/

/-- DMA_ERROR: a ring's DMA ended in error or timed out; the ring stops and an event says so. -/
def dmaError (s : State) (k reason : Nat) : State :=
  let s := if k < 32 then s.putFlag (HOST_R_STAT_DMA_ERR k) true else s.putFlag (HOST_T_CTRL_EN (k - 32)) false
  postEvent s 6 [BitVec.ofNat 8 k, BitVec.ofNat 8 reason]

/-- Every record that waits is written, as far as the rings take them. -/
def pumpAll (s : State) : State := s.each (List.range 34) pump

/-- BUS_MASTER_DISABLE and BUS_MASTER_ENABLE. -/
def setBusMaster (s : State) (on : Bool) : State := let s := { s with busMaster := on }; if on then pumpAll s else s

/-- PCIE_LINK_UP: the link is in L0 at a speed and a width. -/
def linkUp (s : State) (speed width : Nat) : State :=
  pumpAll (s.putAll [(HOST_STAT_LINK_UP, 1), (HOST_STAT_SPEED, speed), (HOST_STAT_WIDTH, width)])

/-- The link goes down (R56, R374). -/
def linkDown (s : State) : State :=
  { s.putAll [(HOST_STAT_LINK_UP, 0), (HOST_STAT_SPEED, 0), (HOST_STAT_WIDTH, 0)] with busMaster := false }

/-- A fetched command is not accepted any more: NEXT_SEQ goes back to it (R415). -/
def dropFetched (s : State) (r : Nat) : State :=
  let q := s.hqOf r
  match fetchedCmd q with
  | none => s
  | some c => (s.setHq r { q with cmds := q.cmds.filter fun c => c.stage ≠ .fetched, any := false }).put (HOST_R_NEXTSEQ_SEQ r) c.seq

/-- RING RESET (R415): indices 0, EN cleared; commands not started are closed RING_RESET without a completion; started ones run on
quietly; what was fetched and not accepted is dropped. -/
def ringReset (s : State) (r : Nat) : State :=
  let s := dropFetched s r
  let q := s.hqOf r
  let ended := q.cmds.filter fun c => c.stage = .accepted && c.fail = .OK
  let s := s.setHq r { q with
    tail := 0
    cmds := q.cmds.map fun c =>
      { c with quiet := true, fail := if c.stage = .accepted && c.fail = .OK then .RING_RESET else c.fail } }
  let s := ended.foldl (fun s c => result s ⟨r, c.seq⟩ .RING_RESET) s
  let s := s.setHring r {}
  s.putAll [(HOST_R_SQH_HEAD r, 0), (HOST_R_CQT_TAIL r, 0), (HOST_R_CQT_PHASE r, 1), (HOST_R_CTRL_EN r, 0), (HOST_R_STAT_WAITING r, 0)]

/-- PERST_N: every ring is reset, and the HOST_ registers take their cold-start values, but NEXT_SEQ is kept (R415). -/
def perstAssert (s : State) : State :=
  let s := s.each (List.range 32) ringReset
  let s := s.each [32, 33] fun s k => s.setHring k {}
  let kept : List (Fld × Nat) := (List.range 32).map (fun r => (HOST_R_NEXTSEQ_SEQ r, s.fld (HOST_R_NEXTSEQ_SEQ r)))
    ++ (List.range 32).map (fun r => (HOST_R_STAT_OPEN r, s.fld (HOST_R_STAT_OPEN r)))
  let s := { s with regs := s.regs.filter fun e => !(0x60078000 * 32 ≤ e.1 && e.1 < 0x60080000 * 32), tlm := [] }
  linkDown { s.putAll kept with perst := true }

/-- PERST_RELEASE: island 37 leaves reset with the rings reset. -/
def perstRelease (s : State) : State := { s with perst := false }

/-! ### Registers (R404, R428-R430) -/

/-- A write of HOST_R_CTRL: RESET alone acts; EN needs a class and sizes of R404; the set-up fields stand while EN is 1. -/
def ringCtrl (s : State) (r a data : Nat) : State × Status :=
  if data.testBit 1 then (ringReset s r, .OK)
  else
    let en := data.testBit 0
    let sizesBad := decide (bitsOf data 11 4 < 4) || decide (12 < bitsOf data 11 4) || decide (bitsOf data 15 4 < 4)
      || decide (12 < bitsOf data 15 4)
    let moved := bitsOf data 2 30 ≠ bitsOf (readFields s a) 2 30
    let was := s.flag (HOST_R_CTRL_EN r)
    let x := checkedWrite s hostErr [(was && moved, .HOST_RANGE), (en && (bitsOf data 2 2 = 0 || sizesBad), .HOST_RANGE)] a data
    if x.2 = .OK && en && !was then (x.1.put (HOST_R_CQT_PHASE r) 1, .OK) else x

/-- A write to a HOST_ register. HOST_START has rows of its own. -/
def hostRegWrite (s : State) (a data : Nat) : State × Status :=
  let o := a - 0x60078000
  if s.perst then (s, .OK)
  else if a = 0x60078010 then writeLock s hostErr data
  else if 0x100 ≤ o && o < 0x900 then
    let r := (o - 0x100) / 0x40
    match (o - 0x100) % 0x40 with
    | 0x00 => ringCtrl s r a data
    | 0x1C => checkedWrite s hostErr [(s.flag (HOST_R_CTRL_EN r), .HOST_RANGE)] a data
    | 0x14 => writeFields s hostErr a data
    | 0x18 => writeFields s hostErr a data
    | 0x20 => writeFields s hostErr a data
    | 0x24 => writeFields s hostErr a data
    | k =>
      let base := if k = 0x04 || k = 0x0C then data - data % 64 else data
      checkedWrite s hostErr [(s.flag (HOST_R_CTRL_EN r), .HOST_RANGE)] a base
  else if o = 0x900 || o = 0x940 then
    let k := 32 + (o - 0x900) / 0x40
    let bad := data.testBit 0 && (decide (bitsOf data 7 4 < 4) || decide (12 < bitsOf data 7 4))
    let rises := data.testBit 0 && !s.flag (HOST_T_CTRL_EN (k - 32))
    let x := checkedWrite s hostErr [(bad, .HOST_RANGE)] a data
    if x.2 = .OK && rises then (pump (x.1.setHring k { x.1.hringOf k with phase := true }) k, .OK) else x
  else if o = 0x904 || o = 0x944 then writeFields s hostErr a (data - data % 64)
  else if 0x1000 ≤ o && (o - 0x1000) % 0x10 = 0 then checkedWrite s hostErr [(bitsOf data 3 16 = 0, .HOST_RANGE)] a data
  else writeFields s hostErr a data

/-- TELEM_CFG: the item is written whole (R416). -/
def telemCfg (s : State) (a : List Byte) : State × Status :=
  let i := argNum a 0 1
  let k := argNum a 1 1
  ({ s with tlm := Tbl.set {} s.tlm i {} }.putAll
    [(HOST_TLM_CFG_EN i, bit (k.testBit 7)), (HOST_TLM_CFG_KIND i, k % 4), (HOST_TLM_CFG_PERIOD i, argNum a 2 2),
      (HOST_TLM_FRESH i, argNum a 4 2), (HOST_TLM_ADDR i, argNum a 8 4), (HOST_TLM_TADDR i, argNum a 12 4)], .OK)

end Sys2Proof.Machine
end

