-- ==== Sys2Proof/Machine/Fabric.lean ====
section
/-! DEFINITION. Chapter 17: the Amipen ring fabric (R432-R465): ports, discovery, forwarding, duplicate windows, class 0 admission,
gateways, ring time, and the transmit and receive queues. Ports 0 PE, 1 PW, 2 QE, 3 QW; pairs 0 P, 1 Q. -/

namespace Sys2Proof.Machine

def fabErr : BlockErr where
  last := FAB_ERR_LAST_ERR
  cnt := FAB_ERR_ERR_CNT
  lock := FAB_LOCK
  locked := .FAB_LOCKED
  codes := [(.FAB_RANGE, 1), (.FAB_BUSY, 2), (.FAB_LOCKED, 3), (.FAB_QUEUE_FULL, 4)]

namespace State

def fabPair (s : State) (k : Nat) : FabPair := if k = 0 then s.fab.p else s.fab.q
def setFabPair (s : State) (k : Nat) (v : FabPair) : State :=
  { s with fab := if k = 0 then { s.fab with p := v } else { s.fab with q := v } }
def fabQ (s : State) (c : Nat) : FabQ := Tbl.get {} s.fab.queues c
def setFabQ (s : State) (c : Nat) (v : FabQ) : State := { s with fab := { s.fab with queues := Tbl.set {} s.fab.queues c v } }

end State

def pairEn (s : State) (k : Nat) : Bool := if k = 0 then s.flag FAB_CFG_EN_P else s.flag FAB_CFG_EN_Q
def pairFixed (s : State) (k : Nat) : Bool := if k = 0 then s.flag FAB_CFG_FIXED_P else s.flag FAB_CFG_FIXED_Q
def pairRing (s : State) (k : Nat) : Nat := if k = 0 then s.fld FAB_CFG_RING_P else s.fld FAB_CFG_RING_Q
def pairStn (s : State) (k : Nat) : Nat := if k = 0 then s.fld FAB_CFG_STN_P else s.fld FAB_CFG_STN_Q
def pairExpect (s : State) (k : Nat) : Nat := if k = 0 then s.fld FAB_CFG2_EXPECT_P else s.fld FAB_CFG2_EXPECT_Q
def portIsUp (s : State) (p : Nat) : Bool := s.flag (FAB_PORT_STAT_UP p)
def addressed (s : State) (k : Nat) : Bool := s.flag (FAB_ST_ADDR_VALID k)
def ownAddr (s : State) (k : Nat) : Nat := s.fld (FAB_ST_ADDR k)

/-- An interrupt of FAB_CFG2.IE to the Fabric and CAN role (R42, R457): 0 RX, 1 TX_DONE, 2 LINK, 3 CONFLICT, 4 TIME. -/
def fabIrq (s : State) (b idx : Nat) : State :=
  s.when ((s.fld FAB_CFG2_IE).testBit b) fun s => s.irq (rolePair s 4) .fab idx b

/-- Send a frame of TYPE 2 to 6 out of a port; a port that is not UP discards it (R443). -/
def sendCtl (s : State) (p ty : Nat) (vals : List Int) : State := if portIsUp s p then s.emit (.control p ty vals) else s

/-- Both ways round a pair's ring. -/
def sendCtlBoth (s : State) (k ty : Nat) (vals : List Int) : State := sendCtl (sendCtl s (2 * k) ty vals) (2 * k + 1) ty vals

/-! ### Links of the ring (R440, R452) -/

/-- The stations of the ring whose port states are known, the own one among them, in the order of their numbers: number, E up, W up. -/
def ringPorts (s : State) (k : Nat) : List (Nat × Bool × Bool) :=
  let own := (s.fabPair k).stn.getD (ownAddr s k % 32)
  let all := (own, portIsUp s (2 * k), portIsUp s (2 * k + 1)) :: ((s.fabPair k).ports.map fun e => (e.1 % 32, e.2))
  (List.range 32).filterMap fun n => all.find? fun e => e.1 = n

/-- Links of the ring that an end reports as not UP: each runs from the E port of a station to the W port of the next one (R452). -/
def linkFaults (s : State) (k : Nat) : Nat :=
  let l := ringPorts s k
  ((l.zip (l.drop 1 ++ l.take 1)).filter fun e => !e.1.2.1 || !e.2.2.2).length

/-- LINK_FAULTS and RING_CLOSED follow the reports. -/
def showLinks (s : State) (k : Nat) : State :=
  let n := linkFaults s k
  s.putAll [(FAB_ST_LINK_FAULTS k, min n 3), (FAB_ST_RING_CLOSED k, bit ((s.fabPair k).closed || n = 0))]

/-- A station's report of its ports (R446, R452). -/
def reportPorts (s : State) (k src : Nat) (east west : Bool) : State :=
  let x := s.fabPair k
  showLinks (s.setFabPair k { x with ports := (x.ports.filter fun e => e.1 ≠ src) ++ [(src, east, west)] }) k

/-- The station expected next to the own one out of port `p`, among `n` stations. -/
def expectedNb (own n : Nat) (p : Nat) : Nat := if p % 2 = 0 then (own + 1) % n else (own + n - 1) % n

/-- BYPASS of a port: the number of stations missing between, where both hold fixed addresses or the ROSTER was final with EXPECT set;
15 where it cannot be told (R452). -/
def bypassOf (s : State) (p : Nat) : Nat :=
  let k := p / 2
  let n := if pairExpect s k = 0 then 32 else pairExpect s k
  let known := (pairFixed s k && s.fab.nbFixed.testBit p)
    || (s.fld (FAB_ST_DISC k) = 2 && !s.flag (FAB_ST_PROVISIONAL k) && pairExpect s k ≠ 0)
  if !known || !addressed s k || !s.flag (FAB_PORT_NB_NB_VALID p) then 15
  else
    let nb := s.fld (FAB_PORT_NB_NB_ADDR p) % 32
    let own := ownAddr s k % 32
    let d := if p % 2 = 0 then (nb + 2 * n - expectedNb own n p) % n else (expectedNb own n p + 2 * n - nb) % n
    if d ≤ 2 then d else 15

/-- The BYPASS fields of a pair's ports. -/
def showBypass (s : State) (k : Nat) : State :=
  s.putAll [(FAB_PORT_STAT_BYPASS (2 * k), bypassOf s (2 * k)), (FAB_PORT_STAT_BYPASS (2 * k + 1), bypassOf s (2 * k + 1))]

/-- Send ANNOUNCE both ways: address, identity and port states; the own sender starts again at SEQ 0 (R437, R446). -/
def announceOwn (s : State) (k : Nat) : State :=
  let x := s.fabPair k
  let own := bit (portIsUp s (2 * k)) + 2 * bit (portIsUp s (2 * k + 1))
  sendCtlBoth (s.setFabPair k { x with seq := 0 }) k 5 [ownAddr s k, Config.deviceId, own]

/-- The pair holds an address: the route to its ring is set by the device (R440, R449). -/
def holdAddress (s : State) (k ring stn : Nat) (provisional : Bool) : State :=
  let s := s.setFabPair k { s.fabPair k with stn := some stn }
  showBypass (s.putAll [(FAB_ST_ADDR k, 32 * ring + stn), (FAB_ST_ADDR_VALID k, 1), (FAB_ST_PROVISIONAL k, bit provisional),
    (FAB_RT_VIA ring, k + 1)]) k

/-- A token leaves by the E port (east) or the W port: ring, next station, direction, the anchor's identity. -/
def sendDisc (s : State) (k ring next : Nat) (west : Bool) (anchor : Nat) : State :=
  sendCtl s (2 * k + bit west) 3 [ring, next, bit west, anchor]

/-- The anchor begins its walk once the E port is UP: after the ports have trained (R434, R440). -/
def walkEast (s : State) (k : Nat) : State :=
  let x := s.fabPair k
  if s.flag (FAB_ST_ANCHOR k) && s.fld (FAB_ST_DISC k) = 1 && !x.sent && portIsUp s (2 * k) then
    sendDisc (s.setFabPair k { x with sent := true }) k (pairRing s k) ((x.stn.getD 0 + 1) % 32) false Config.deviceId
  else s

/-! ### Ports (R434, R435) -/

/-- The port's pair is enabled and the bypass is open. -/
def portLive (s : State) (p : Nat) : Bool := s.fab.live && pairEn s (p / 2)

/-- PORT_SIGNAL_DETECTED: training begins on a port that is not UP. -/
def portSignal (s : State) (p : Nat) : State :=
  if portLive s p && !portIsUp s p then s.putFlag (FAB_PORT_STAT_TRAINING p) true else s

/-- PORT_UP: training has measured the link, exchanged port kinds and addresses, and 1 ms went without a violation. A partner of the
same kind is CROSSED and the port never comes up (R432). A station with an address announces its ports (log 44); the anchor's walk
begins at its E port. -/
def portUp (s : State) (p : Nat) (crossed : Bool) (delay : Nat) (nb : Option Nat) (fixed : Bool) (eq0 eq1 margin : Nat) : State :=
  if !portLive s p || portIsUp s p || !s.flag (FAB_PORT_STAT_TRAINING p) then s
  else if crossed then s.putFlag (FAB_PORT_STAT_CROSSED p) true
  else
    let k := p / 2
    let s := s.putAll [(FAB_PORT_STAT_UP p, 1), (FAB_PORT_STAT_TRAINING p, 0), (FAB_PORT_STAT_CROSSED p, 0), (FAB_PORT_STAT_LINK_DLY p, delay),
      (FAB_PORT_EQ_EQ0 p, eq0), (FAB_PORT_EQ_EQ1 p, eq1), (FAB_PORT_EQ_MARGIN p, margin), (FAB_PORT_NB_NB_VALID p, bit nb.isSome),
      (FAB_PORT_NB_NB_ADDR p, nb.getD 0)]
    let s := { s with fab := { s.fab with nbFixed := if fixed then setBit s.fab.nbFixed p else clearBit s.fab.nbFixed p } }
    let s := showBypass (showLinks (fabIrq s 2 p) k) k
    let s := if addressed s k then announceOwn s k else s
    walkEast s k

/-- TRAINING_TIMEOUT: training starts again; the port counts as a link fault. -/
def trainingTimeout (s : State) (p : Nat) : State :=
  if portLive s p && !portIsUp s p then showLinks (s.putFlag (FAB_PORT_STAT_TRAINING p) true) (p / 2) else s

/-- What is being received from a port is discarded (R435, R436). -/
def dropAsm (s : State) (p : Nat) : State := { s with fab := { s.fab with asm := s.fab.asm.filter fun e => e.1 / 4 ≠ p } }

/-- PORT_DOWN: the port retrains. `violations` are the code violations seen; `cut` says that a fragment from this port was being
forwarded, which is closed with K30.7 downstream. -/
def portDown (s : State) (p violations : Nat) (cut : Bool) : State :=
  if !portIsUp s p then s
  else
    let s := s.addSat (FAB_PORT_ERR_CODE_ERR p) violations
    let s := (dropAsm (s.putAll [(FAB_PORT_STAT_UP p, 0), (FAB_PORT_STAT_TRAINING p, 1)]) p).inc (FAB_PORT_STAT_RETRAIN_CNT p)
    let s := s.when (cut && portIsUp s (if p % 2 = 0 then p + 1 else p - 1)) fun s => s.emit (.closeBad (if p % 2 = 0 then p + 1 else p - 1))
    showLinks (fabIrq s 2 p) (p / 2)

/-- The ports go off and the bypass closes (R451). -/
def fabClose (s : State) : State :=
  let s := s.each (List.range 4) fun s p =>
    dropAsm (s.putAll [(FAB_PORT_STAT_UP p, 0), (FAB_PORT_STAT_TRAINING p, 0)]) p
  { s with fab := { s.fab with live := false, rx := [] } }

/-! ### Fragments (R436, R444) -/

def FabHdr.bytes15 (h : FabHdr) : List Byte :=
  leBytes 1 (h.cls * 64 + h.ty * 4 + bit h.first * 2 + bit h.last) ++ leBytes 1 (bit h.west * 128 + bit h.bc * 64 + h.hops % 64)
    ++ leBytes 2 (h.dst % 1024 + h.rcnt % 4 * 1024 + bit h.rt * 4096) ++ leBytes 2 (h.src % 1024 + h.inj % 32 * 1024) ++ leBytes 2 h.seq
    ++ leBytes 2 (h.len % 2048 + h.frag % 16 * 4096) ++ leBytes 5 h.tx

/-- The header with its CRC. -/
def FabHdr.bytes (h : FabHdr) : List Byte := sealRec h.bytes15

/-- The header of a fragment's bytes. -/
def FabHdr.read (l : List Byte) : FabHdr :=
  let n := fun o k => ofBytes ((l.drop o).take k)
  { cls := n 0 1 / 64, ty := bitsOf (n 0 1) 2 4, first := (n 0 1).testBit 1, last := (n 0 1).testBit 0, west := (n 1 1).testBit 7,
    bc := (n 1 1).testBit 6, hops := n 1 1 % 64, dst := n 2 2 % 1024, rcnt := bitsOf (n 2 2) 10 2, rt := (n 2 2).testBit 12,
    src := n 4 2 % 1024, inj := bitsOf (n 4 2) 10 5, seq := n 6 2, len := n 8 2 % 2048, frag := bitsOf (n 8 2) 12 4, tx := n 10 5 }

/-- HCRC is right (R436). -/
def hdrSound (l : List Byte) : Bool := decide (16 ≤ l.length) && decide (crc8Bytes (l.take 15) = ofBytes ((l.drop 15).take 1))

/-- The fragments of a frame: up to 64 payload bytes each, the payload CRC behind the last. -/
def fragments (h : FabHdr) (crc : Nat) : Nat → Nat → List Byte → List (List Byte)
  | 0, _, _ => []
  | n + 1, i, d =>
    let last := decide (d.length ≤ 64)
    let hd := { h with first := decide (i = 0), last := last, frag := i }
    (hd.bytes ++ d.take 64 ++ (if last then leBytes 4 crc else [])) :: (if last then [] else fragments h crc n (i + 1) (d.drop 64))

/-- Send a frame out of a port; at a port that is not UP the copy is discarded (R443). -/
def sendFrame (s : State) (p : Nat) (h : FabHdr) (d : List Byte) : State :=
  if portIsUp s p then
    s.each (fragments { h with west := decide (p % 2 = 1) } (crc32c d) 16 0 d) fun s b => s.emit (.fragment p b)
  else s

/-- Send a frame both ways round a pair's ring (R443). -/
def sendBoth (s : State) (k : Nat) (h : FabHdr) (d : List Byte) : State := sendFrame (sendFrame s (2 * k) h d) (2 * k + 1) h d

/-- Ring time minus module time, ticks (R453). -/
def timeOfs (s : State) (k : Nat) : Int := signedOf 64 (s.fld (FAB_TOFS_OFS k 0) + 2 ^ 32 * s.fld (FAB_TOFS_OFS k 1))

/-- TX_TIME and RT of an own frame (R454). -/
def txTime (s : State) (k : Nat) : Nat × Bool :=
  if s.flag (FAB_ST_TIME_VALID k) then ((((s.mtime : Int) + timeOfs s k) % 2 ^ 40).toNat, true) else (s.mtime % 2 ^ 40, false)

/-- The header of an own frame, and the sender's next sequence number (R446). -/
def ownHeader (s : State) (k cls ty dst : Nat) (bc : Bool) (len : Nat) : FabHdr × State :=
  let x := s.fabPair k
  let t := txTime s k
  ({ cls := cls, ty := ty, bc := bc, dst := dst, rt := t.2, src := ownAddr s k, inj := ownAddr s k % 32, seq := x.seq, len := len, tx := t.1 },
    s.setFabPair k { x with seq := (x.seq + 1) % 2 ^ 16 })

/-! ### Class 0 (R448) -/

/-- A class 0 frame may enter the pair's ring: an address is held, 50 µs have passed since the last one, and the fabric does not hold
its work (R377). -/
def admissible (s : State) (k : Nat) : Bool :=
  addressed s k && !s.held 23 && match (s.fabPair k).admitted with
    | some t => decide (t + 20000 ≤ s.mtime)
    | none => true

/-- The frame enters the ring; an own frame (RCNT 0) takes its source, SEQ and TX_TIME now (R436, R446). -/
def admitFrame (s : State) (k : Nat) (h : FabHdr) (d : List Byte) : State :=
  let s := s.setFabPair k { s.fabPair k with admitted := some s.mtime }
  if h.rcnt = 0 then
    let o := ownHeader s k 0 h.ty h.dst h.bc d.length
    sendBoth o.2 k o.1 d
  else sendBoth s k h d

/-- An own class 0 frame, or one that a gateway forwards: sent, or held in arrival order, up to 32. A frame beyond them is dropped
(log 45). -/
def class0 (s : State) (k : Nat) (h : FabHdr) (d : List Byte) : State :=
  let x := s.fabPair k
  if x.held.isEmpty && admissible s k then admitFrame s k h d
  else if x.held.length < 32 then (s.setFabPair k { x with held := x.held ++ [(h, d)] }).inc FAB_CNT1_ADM_HELD
  else s

/-- ADMISSION_RELEASE: the oldest held frame is sent once it is admissible. -/
def admissionRelease (s : State) (k : Nat) : State :=
  let x := s.fabPair k
  match x.held with
  | [] => s
  | (h, d) :: rest =>
    if admissible s k then admitFrame (s.setFabPair k { x with held := rest }) k h d
    else s

/-! ### Windows and routes (R446, R449, R450) -/

/-- What the duplicate window says of sequence `q` of a source: 0 new or open, 1 duplicate, 2 too old; and the window after it. -/
def winCheck (w : FabWin) (q : Nat) : Nat × FabWin :=
  let d := signedOf 16 (q + 65536 - w.h)
  if 0 < d then (0, { h := q, open_ := ((w.open_ <<< d.toNat) ||| (2 ^ d.toNat - 2)) % 2 ^ 1024 })
  else
    let k := (-d).toNat
    if 1023 < k then (2, w)
    else if w.open_.testBit k then (0, { w with open_ := clearBit w.open_ k })
    else (1, w)

/-- Take a frame through the window of its source: accepted or counted. -/
def windowAccept (s : State) (src q : Nat) : State × Bool :=
  let x := winCheck (Tbl.get {} s.fab.win src) q
  let s := { s with fab := { s.fab with win := Tbl.set {} s.fab.win src x.2 } }
  if x.1 = 0 then (s, true) else (s.inc (if x.1 = 1 then FAB_CNT0_DUP_CNT else FAB_CNT0_OLD_CNT), false)

/-- The frame is for this station: its address on either pair, or a broadcast to the ring it arrived on. -/
def forMe (s : State) (k : Nat) (h : FabHdr) : Bool :=
  if h.bc then addressed s k && decide (h.dst / 32 = ownAddr s k / 32)
  else (addressed s 0 && decide (h.dst = ownAddr s 0)) || (addressed s 1 && decide (h.dst = ownAddr s 1))

/-- A gateway carries the frame on: addresses on both pairs, and another ring whose route is the other pair. -/
def toRoute (s : State) (k : Nat) (h : FabHdr) : Bool :=
  addressed s 0 && addressed s 1 && decide (h.dst / 32 ≠ ownAddr s k / 32) && decide (s.fld (FAB_RT_VIA (h.dst / 32)) = 2 - k)

/-- GATEWAY_ROUTE: both ways on the other pair. -/
def gatewayRoute (s : State) (k : Nat) (h : FabHdr) (d : List Byte) : State :=
  let o := 1 - k
  if h.rcnt = 3 then s.inc FAB_CNT1_CROSS_DROP
  else
    let both := h.rt && s.flag (FAB_ST_TIME_VALID k) && s.flag (FAB_ST_TIME_VALID o)
    let tx := if both then (((h.tx : Int) - timeOfs s k + timeOfs s o) % 2 ^ 40).toNat else h.tx
    let h := { h with inj := ownAddr s o % 32, hops := 0, rcnt := h.rcnt + 1, rt := both, tx := tx }
    if h.cls = 0 then class0 s o h d else sendBoth s o h d

/-! ### Arrival (R444) -/

/-- Take a complete DATA or FJOP frame that is for this station or to be routed. -/
def takeFrame (s : State) (p : Nat) (h : FabHdr) (d : List Byte) (crc : Nat) : State :=
  let k := p / 2
  let mine := forMe s k h
  let route := toRoute s k h
  if !mine && !route then s
  else if crc32c d ≠ crc || d.length ≠ h.len then s.inc (FAB_PORT_ERR_PAY_CRC p)
  else
    let w := windowAccept s h.src h.seq
    if !w.2 then w.1
    else
      let s := w.1
      let s := if mine then { s with fab := { s.fab with rx := s.fab.rx ++ [⟨p, h, d, s.mtime⟩] } } else s
      if route then gatewayRoute s k h d else s

/-- FRAGMENT_RECEIVED: a fragment arrives at a port; `bad` says that K30.7 closed it. -/
def fragmentReceived (s : State) (p : Nat) (l : List Byte) (bad : Bool) : State :=
  let k := p / 2
  let h := FabHdr.read l
  let key := 4 * p + h.cls
  let drop := fun (s : State) => { s with fab := { s.fab with asm := Tbl.erase key s.fab.asm } }
  if !portIsUp s p then s
  else if bad then drop s
  else if !hdrSound l || 7 ≤ h.ty then drop (s.inc (FAB_PORT_ERR_HDR_CRC p))
  else if h.ty = 2 || h.ty = 3 then s
  else if addressed s k && h.inj = ownAddr s k % 32 then
    s.when h.last fun s => s.inc FAB_CNT2_STRIP_CNT
  else if h.hops + 1 = 33 then s.inc FAB_CNT1_HOP_DROP
  else
    let opp := if p % 2 = 0 then p + 1 else p - 1
    let s := s.when (portIsUp s opp) fun s => s.emit (.fragment opp ({ h with hops := h.hops + 1 }.bytes ++ l.drop 16))
    if 2 ≤ h.ty then s
    else
      let a := Tbl.get {} s.fab.asm key
      let a := if h.first then {} else a
      let body := l.drop 16
      if h.frag ≠ a.frags then drop s
      else if h.last then
        let n := body.length - 4
        takeFrame (drop s) p h (a.data ++ body.take n) (ofBytes (body.drop n))
      else { s with fab := { s.fab with asm := Tbl.set {} s.fab.asm key { data := a.data ++ body, frags := a.frags + 1 } } }

/-- The oldest delivered frame of a TYPE, taken. -/
def takeRx (s : State) (ty : Nat) : Option (FabFrame × State) :=
  match s.fab.rx.find? fun f => f.hdr.ty = ty with
  | none => none
  | some f => some (f, { s with fab := { s.fab with rx := s.fab.rx.erase f } })

/-- DATA_FRAME: an entry of 1,056 bytes in the receive queue of the frame's class; without space the frame is dropped (R457). -/
def dataFrame (s : State) : State :=
  match takeRx s 0 with
  | none => s
  | some (f, s) =>
    let c := f.hdr.cls - 1
    let size := 2 ^ s.fld (FAB_RXQ_CTRL_SIZE c)
    if f.hdr.cls = 0 || !s.flag (FAB_RXQ_CTRL_EN c) || size ≤ (s.fabQ c).owned then s.inc FAB_CNT2_RX_DROP
    else
      let n := s.fld (FAB_RXQ_HEAD c)
      let h := f.hdr
      let flags := bit h.rt + 2 * f.port + 8 * bit (0 < h.rcnt)
      let e := leBytes 2 h.src ++ leBytes 2 (h.dst + bit h.bc * 2 ^ 14) ++ leBytes 2 h.len ++ leBytes 2 h.seq ++ leBytes 5 h.tx ++ leBytes 1 flags
        ++ leBytes 2 0 ++ leBytes 8 f.at_ ++ leBytes 8 0 ++ f.data
      let s := (s.setBytes (s.fld (FAB_RXQ_BASE c) + 1056 * n) e).put (FAB_RXQ_HEAD c) ((n + 1) % size)
      fabIrq (s.setFabQ c { s.fabQ c with owned := (s.fabQ c).owned + 1 }) 0 c

/-- FAB_RXQ_ACK: every entry before the index is released. -/
def rxqAck (s : State) (c v : Nat) : State :=
  let size := 2 ^ s.fld (FAB_RXQ_CTRL_SIZE c)
  s.setFabQ c { s.fabQ c with owned := min (s.fabQ c).owned ((s.fld (FAB_RXQ_HEAD c) + size - v % size) % size) }

/-- FJOP_FABRIC_FRAME: to the enabled receive connection of channel 8 whose ADDR is the source (R458). -/
def fjopFabric (s : State) : State :=
  match takeRx s 1 with
  | none => s
  | some (f, s) =>
    match (List.range 32).find? fun c => s.flag (SAF_FJ_CFG_EN c) && !s.flag (SAF_FJ_CFG_DIR c) && s.fld (SAF_FJ_CFG_CHANNEL c) = 8
        && s.fld (SAF_FJ_ADDR c) % 1024 = f.hdr.src with
    | some c => fjopArrive s c f.data
    | none => s.inc FAB_CNT1_FJ_NOCONN

/-- Hand over the frame of a send connection of channel 8: class 0, on the pair of its route (R449, R458). A connection whose ring has
no route hands nothing over (log 46). -/
def fabFjop (s : State) (c : Nat) : State :=
  let dst := s.fld (SAF_FJ_ADDR c) % 1024
  let via := s.fld (FAB_RT_VIA (dst / 32))
  match (s.fjopOf c).tx with
  | none => s
  | some d =>
    if s.fld (SAF_FJ_CFG_CHANNEL c) ≠ 8 then s
    else
      let s := s.setFjop c { s.fjopOf c with tx := none }
      if via = 0 then s
      else class0 s (via - 1) { ty := 1, dst := dst, len := d.length } d

/-! ### Ring time (R453) -/

/-- FABRIC_TIME_FRAME: the offset from the port with fewer hops to the anchor, the mean of 16 frames. The anchor's own module time is
ring time: its offset is 0 (log 47). -/
def fabTime (s : State) (p : Nat) (est hops : Nat) : State :=
  let k := p / 2
  if !portIsUp s p then s
  else
    let x := s.fabPair k
    let x := if p % 2 = 0 then { x with hopsE := some hops } else { x with hopsW := some hops }
    let other := if p % 2 = 0 then x.hopsW else x.hopsE
    let s := s.setFabPair k x
    let anchor := s.flag (FAB_ST_ANCHOR k)
    if !anchor && other.any fun o => o < hops then s
    else
      let dly := s.rounded (2 * s.fld (FAB_PORT_STAT_LINK_DLY p)) 5
      let s := dly.2
      let ofs : Int := if anchor then 0 else (est : Int) + dly.1 - s.mtime
      let l := (ofs :: x.ofs).take 16
      let mean := s.rounded (l.foldl (· + ·) 0) l.length
      let s := mean.2
      let code := codeOf 64 mean.1
      let s := s.putAll [(FAB_TOFS_OFS k 0, code), (FAB_TOFS_OFS k 1, code / 2 ^ 32), (FAB_ST_TIME_HOPS k, if anchor then 0 else hops + 1)]
      let s := s.when (l.length = 16 && !s.flag (FAB_ST_TIME_VALID k)) fun s => fabIrq (s.putFlag (FAB_ST_TIME_VALID k) true) 4 k
      match x.rate with
      | none => s.setFabPair k { x with ofs := l, rate := some (s.mtime, mean.1) }
      | some (t, o) =>
        if s.mtime < t + 400000000 then s.setFabPair k { x with ofs := l }
        else
          let r := s.rounded ((mean.1 - o) * 100000000) ((s.mtime - t : Nat) : Int)
          let s := r.2.put (if k = 0 then FAB_TRATE_P else FAB_TRATE_Q) (codeOf 16 r.1)
          s.setFabPair k { x with ofs := l, rate := some (s.mtime, mean.1) }

/-- RING_TIME_TIMEOUT: 10 ms without a TIME frame. -/
def ringTimeTimeout (s : State) (k : Nat) : State :=
  let x := s.fabPair k
  let s := s.setFabPair k { x with ofs := [], hopsE := none, hopsW := none, rate := none }
  s.when (s.flag (FAB_ST_TIME_VALID k)) fun s => fabIrq (s.putFlag (FAB_ST_TIME_VALID k) false) 4 k

/-- TIME_FRAME_TIMER: a TIME frame on each UP port of a pair whose ring time the device can tell: estimate and hops. -/
def timeTimer (s : State) : State :=
  s.each (List.range 4) fun s p =>
    let k := p / 2
    if !addressed s k then s
    else if s.flag (FAB_ST_ANCHOR k) then sendCtl s p 2 [s.mtime, 0]
    else if s.flag (FAB_ST_TIME_VALID k) then sendCtl s p 2 [(s.mtime : Int) + timeOfs s k, s.fld (FAB_ST_TIME_HOPS k)]
    else s

/-- STATUS_FRAME_TIMER: the port states of each pair, both ways. -/
def statusTimer (s : State) : State :=
  s.each (List.range 2) fun s k =>
    if addressed s k then sendCtlBoth s k 6 [ownAddr s k, bit (portIsUp s (2 * k)), bit (portIsUp s (2 * k + 1))] else s

/-- STATUS_FRAME. -/
def statusFrame (s : State) (p src : Nat) (east west : Bool) : State := if portIsUp s p then reportPorts s (p / 2) src east west else s

/-! ### Discovery (R439-R441) -/

/-- The device is the anchor of the pair's ring (R439). -/
def isAnchor (s : State) (k : Nat) : Bool := if k = 0 then s.flag FAB_CFG_STRAP else s.flag FAB_CFG_ANCHOR_Q

/-- FABRIC_DISCOVERY of one pair in step 8 of a cold start: a fixed station takes its address and announces; the anchor begins the
walk. -/
def discover (s : State) (k : Nat) : State :=
  if !pairEn s k then s
  else
    let ring := pairRing s k
    let s := if pairFixed s k then announceOwn (holdAddress s k ring (pairStn s k) false) k else s
    if isAnchor s k then
      let stn := if pairFixed s k then pairStn s k else 0
      let s := s.setFabPair k { s.fabPair k with stn := some stn, found := [stn], closed := false, sent := false, west := false }
      walkEast (s.putAll [(FAB_ST_ANCHOR k, 1), (FAB_ST_DISC k, 1), (FAB_ST_ADDR k, 32 * ring + stn)]) k
    else s.put (FAB_ST_DISC k) (if pairFixed s k then 2 else 3)

/-- A station without a final address takes the number of the token, another keeps its own; it passes the token on and announces. -/
def discStation (s : State) (k ring next : Nat) (west : Bool) (anchor : Nat) : State :=
  let x := s.fabPair k
  let stn := if addressed s k then x.stn.getD next else next
  let s := if addressed s k then s else (s.setFabPair k { x with stn := some stn }).put (FAB_ST_ADDR k) (32 * ring + stn)
  let s := s.put (FAB_ST_DISC k) 1
  let after := if west then (stn + 31) % 32 else (stn + 1) % 32
  announceOwn (sendDisc s k ring after west anchor) k

/-- The device gives up being anchor and acts as an ordinary station (R441). -/
def anchorWithdraw (s : State) (k : Nat) : State :=
  let s := if pairFixed s k then s else (s.setFabPair k { s.fabPair k with stn := none }).putFlag (FAB_ST_ADDR_VALID k) false
  fabIrq (s.putAll [(FAB_ST_ANCHOR k, 0), (FAB_ST_ANCHOR_CONFLICT k, 1)]) 3 k

/-- DISC_FRAME: a token arrives at a port. -/
def discFrame (s : State) (p ring next : Nat) (west : Bool) (anchor : Nat) : State :=
  let k := p / 2
  if !portIsUp s p || (s.fabPair k).withdrawn then s
  else if s.flag (FAB_ST_ANCHOR k) then
    if anchor = Config.deviceId then
      showLinks (s.setFabPair k { s.fabPair k with closed := true }) k
    else if anchor < Config.deviceId then discStation (anchorWithdraw s k) k ring next west anchor
    else s
  else discStation s k ring next west anchor

/-- DISCOVERY_TIMEOUT: no token back within 100 ms; the anchor walks west. -/
def discoveryTimeout (s : State) (k : Nat) : State :=
  if s.flag (FAB_ST_ANCHOR k) && s.fld (FAB_ST_DISC k) = 1 && !(s.fabPair k).closed then
    let e := pairExpect s k
    sendDisc (s.setFabPair k { s.fabPair k with sent := true, west := true }) k (pairRing s k) (if e = 0 then 31 else (e + 31) % 32) true Config.deviceId
  else s

/-- The anchor's ROSTER is provisional when the ring did not close and the count is not the one expected. -/
def rosterProvisional (s : State) (k n : Nat) : Bool := !(s.fabPair k).closed && (pairExpect s k = 0 || n ≠ pairExpect s k)

/-- ROSTER_TIMER: 20 ms without a new ANNOUNCE once the walk is over: the ROSTER goes both ways, and the anchor's own address is final.
On a running ring it goes out again after a new ANNOUNCE (log 125). -/
def rosterTimer (s : State) (k : Nat) : State :=
  let x := s.fabPair k
  let due := (s.fld (FAB_ST_DISC k) = 1 && (x.closed || x.west)) || (s.fld (FAB_ST_DISC k) = 2 && x.news)
  if !s.flag (FAB_ST_ANCHOR k) || !due then s
  else
    let s := s.setFabPair k { x with news := false }
    let found := (List.range 32).filter fun n => x.found.contains n
    let prov := rosterProvisional s k found.length
    let mask := found.foldl (fun m n => setBit m n) 0
    let s := holdAddress s k (pairRing s k) (x.stn.getD 0) prov
    let s := s.putAll [(FAB_ST_NSTN k, found.length), (FAB_ST_DISC k, 2)]
    sendCtlBoth (showBypass (showLinks s k) k) k 4 [pairRing s k, mask, bit prov]

/-- The number a positional station takes on a running ring: its west neighbour's plus 1 if free, else the lowest free one, which is
provisional (R441). -/
def joinNumber (s : State) (k mask : Nat) : Option (Nat × Bool) :=
  let w := 2 * k + 1
  let n := (s.fld (FAB_PORT_NB_NB_ADDR w) % 32 + 1) % 32
  if s.flag (FAB_PORT_NB_NB_VALID w) && !mask.testBit n then some (n, false)
  else ((List.range 32).find? fun i => !mask.testBit i).map fun i => (i, true)

/-- ROSTER_FRAME: the ROSTER makes the station's address final or provisional; a positional station without a number joins. -/
def rosterFrame (s : State) (p ring mask : Nat) (prov : Bool) : State :=
  let k := p / 2
  let x := s.fabPair k
  if !portIsUp s p || s.flag (FAB_ST_ANCHOR k) || x.withdrawn then s
  else
    let s := s.putAll [(FAB_ST_NSTN k, (bitsSet 32 mask).length), (FAB_ST_DISC k, 2)]
    match x.stn with
    | some n => if mask.testBit n then showBypass (holdAddress s k ring n prov) k else s
    | none =>
      match joinNumber s k mask with
      | some (n, free) => announceOwn (holdAddress s k ring n (prov || free)) k
      | none => s

/-- ANNOUNCE_FRAME: the source's window restarts; another identity with the own address is a conflict, in which the higher identity
withdraws (R441, R446). -/
def announceFrame (s : State) (p src id hops : Nat) (east west : Bool) : State :=
  let k := p / 2
  if !portIsUp s p then s
  else
    let s := { s with fab := { s.fab with win := Tbl.set {} s.fab.win src {} } }
    let x := s.fabPair k
    let s := s.setFabPair k { x with news := true, found := if x.found.contains (src % 32) then x.found else x.found ++ [src % 32] }
    let s := s.when (hops = 0) fun s => s.putAll [(FAB_PORT_NB_NB_ADDR p, src), (FAB_PORT_NB_NB_VALID p, 1)]
    let s := showBypass (reportPorts s k src east west) k
    if addressed s k && src = ownAddr s k && id < Config.deviceId then
      let s := s.setFabPair k { s.fabPair k with withdrawn := true, stn := none }
      fabIrq (s.putAll [(FAB_ST_ADDR_VALID k, 0), (FAB_ST_ADDR_CONFLICT k, 1)]) 3 k
    else s

/-- Step 8 of a cold start: the bypass opens and each enabled pair begins (R440, R451). -/
def fabDiscovery (s : State) : State :=
  s.each (List.range 2) discover |> fun s => { s with fab := { s.fab with live := true } }

/-- No port has seen a signal: no cable on any port (R61). -/
def noCable (s : State) : Bool := (List.range 4).all fun p => !portIsUp s p && !s.flag (FAB_PORT_STAT_TRAINING p)

/-- The addresses have been assigned on every enabled pair. A device with no cable on any port that waits for a token is a single
station (R61). -/
def discoveryDone (s : State) : Bool :=
  (List.range 2).all fun k => !pairEn s k || s.fld (FAB_ST_DISC k) = 2 || (s.fld (FAB_ST_DISC k) = 3 && noCable s)

/-- FABRIC_REANNOUNCE: every pair that holds an address announces (R442). -/
def fabReannounce (s : State) : State := s.each (List.range 2) fun s k => if addressed s k then announceOwn s k else s

/-! ### Transmit queues (R455, R456) -/

/-- The status of a send on a pair; `routed`: one of the host, which takes the pair of its route. -/
def sendStatus (s : State) (k dst len : Nat) (routed : Bool) : Status :=
  firstOf [(len = 0 || 1024 < len, .FAB_RANGE), (routed && s.fld (FAB_RT_VIA (dst / 32)) = 0, .FAB_UNREACHABLE), (!addressed s k, .FAB_NO_ADDRESS), (s.fld (FAB_RT_VIA (dst / 32)) = 0, .FAB_UNREACHABLE),
    (!portIsUp s (2 * k) && !portIsUp s (2 * k + 1), .FAB_NO_PATH)]

/-- A descriptor's address in general SRAM. -/
def descAddr (s : State) (c i : Nat) : Nat := s.fld (FAB_TXQ_BASE c) + 16 * i

/-- The completion of an item: STATUS and DONE of a descriptor, and the head of an enabled queue moves on; the result of a host command. -/
def itemDone (s : State) (c : Nat) (it : FabItem) (st : Status) : State :=
  match it with
  | .desc i =>
    let a := descAddr s c i
    let s := (s.setBytes (a + 12) (leBytes 2 st.code)).setByte (a + 14) 1
    let s := s.when (s.flag (FAB_TXQ_CTRL_EN c)) fun s => s.put (FAB_TXQ_HEAD c) ((i + 1) % 2 ^ s.fld (FAB_TXQ_CTRL_SIZE c))
    fabIrq s 1 c
  | .host r _ _ => result s r st

/-- What an item sends: pair, destination, broadcast, payload length and payload. -/
def itemSend (s : State) (c : Nat) : FabItem → Nat × Nat × Bool × Nat × List Byte
  | .desc i =>
    let a := descAddr s c i
    let w := s.num a 2
    let len := s.num (a + 2) 2
    (bitsOf w 15 1, w % 1024, w.testBit 14, len, if len ≤ 1024 then s.bytesAt (s.num (a + 4) 4) len else [])
  | .host _ dst d => (s.fld (FAB_RT_VIA (dst / 32)) - 1, dst, false, d.length, d)

/-- Begin the next item that can be sent; items that cannot complete at once with their status. -/
def startItems (s : State) (c : Nat) : List FabItem → State
  | [] => s.setFabQ c { s.fabQ c with items := [] }
  | it :: rest =>
    let x := itemSend s c it
    let host := match it with
      | .host _ _ _ => true
      | .desc _ => false
    match sendStatus s x.1 x.2.1 x.2.2.2.1 host with
    | .OK =>
      let o := ownHeader s x.1 (c + 1) 0 x.2.1 x.2.2.1 x.2.2.2.1
      let s := o.2.setFabQ c { o.2.fabQ c with items := rest, now := some (it, x.1) }
      sendBoth s x.1 o.1 x.2.2.2.2
    | st => startItems (itemDone s c it st) c rest

/-- The queue goes on if nothing is under way and the fabric does not hold its work (R377). -/
def queueRun (s : State) (c : Nat) : State := if (s.fabQ c).now.isSome || s.held 23 then s else startItems s c (s.fabQ c).items

/-- FAB_TXQ_TAIL: descriptors are handed over; a tail that would overrun the head is refused (R455). -/
def txqTail (s : State) (c v : Nat) : State × Status :=
  let size := 2 ^ s.fld (FAB_TXQ_CTRL_SIZE c)
  let old := s.fld (FAB_TXQ_TAIL c)
  let free := (s.fld (FAB_TXQ_HEAD c) + 2 * size - 1 - old) % size
  let n := (v + size - old) % size
  if !s.flag (FAB_TXQ_CTRL_EN c) then (s, .OK)
  else if size ≤ v || free < n then (s.refuse fabErr .FAB_QUEUE_FULL, .FAB_QUEUE_FULL)
  else
    let new := (List.range n).map fun i => FabItem.desc ((old + i) % size)
    let s := s.put (FAB_TXQ_TAIL c) v
    (queueRun (s.setFabQ c { s.fabQ c with items := (s.fabQ c).items ++ new }) c, .OK)

/-- FAB_SEND: the frame goes behind the descriptors of its class (R456). -/
def fabSend (s : State) (r : CmdRef) (cls dst : Nat) (d : List Byte) : State :=
  let c := cls - 1
  queueRun (s.setFabQ c { s.fabQ c with items := (s.fabQ c).items ++ [.host r dst d] }) c

/-- FABRIC_TX_COMPLETE: the later copy's last fragment has left; `waited` is the longest wait of its fragments in ns (R447). -/
def txComplete (s : State) (c waited : Nat) : State :=
  match (s.fabQ c).now with
  | none => s
  | some (it, _) =>
    let s := s.setFabQ c { s.fabQ c with now := none }
    queueRun (itemDone (s.put FAB_TXWAIT_TXWAIT_MAX (max waited (s.fld FAB_TXWAIT_TXWAIT_MAX))) c it .OK) c

/-- The abort of a FAB_SEND: its frame leaves the queue, or its copies under way are closed with K30.7 (R414, R456). -/
def fabCancel (s : State) (r : CmdRef) : State :=
  s.each (List.range 3) fun s c =>
    let q := s.fabQ c
    let isIt := fun (i : FabItem) => match i with
      | .host x _ _ => decide (x = r)
      | .desc _ => false
    match q.now with
    | some (it, k) =>
      if isIt it then
        queueRun ((s.setFabQ c { q with now := none }).each [2 * k, 2 * k + 1] fun s p => s.when (portIsUp s p) fun s => s.emit (.closeBad p)) c
      else s.setFabQ c { q with items := q.items.filter fun i => !isIt i }
    | none => s.setFabQ c { q with items := q.items.filter fun i => !isIt i }

/-- Frames of class 0 to 2 are queued (R376). -/
def fabPending (s : State) : Bool :=
  !s.fab.p.held.isEmpty || !s.fab.q.held.isEmpty || (List.range 2).any fun c => !(s.fabQ c).items.isEmpty || (s.fabQ c).now.isSome

/-- A warm start: the queues are disabled, and descriptors whose frame has not started are dropped and counted (R460). -/
def fabWarm (s : State) : State :=
  s.each (List.range 3) fun s c =>
    let q := s.fabQ c
    let n := (q.items.filter fun i => match i with
      | .desc _ => true
      | .host _ _ _ => false).length
    ((s.addSat FAB_CNT2_TXQ_FLUSH n).setFabQ c { q with items := [] }).putAll [(FAB_TXQ_CTRL_EN c, 0), (FAB_RXQ_CTRL_EN c, 0)]

/-- FAB_CMD.WAKE: a wake burst out of every UP port (R459). -/
def fabWake (s : State) : State := s.each (List.range 4) fun s p => s.when (portIsUp s p) fun s => s.emit (.wakeBurst p)

/-! ### Register writes (R462-R465) -/

/-- A write of FAB_CFG or FAB_CFG2 changes an RWL field of an enabled pair: the fields of P and of Q by their masks. -/
def pairBusy (s : State) (a data maskP maskQ : Nat) : Bool :=
  let d := data ^^^ readFields s a
  (pairEn s 0 && (d &&& maskP) ≠ 0) || (pairEn s 1 && (d &&& maskQ) ≠ 0)

/-- A pair that is disabled has its ports off. -/
def pairOff (s : State) : State :=
  s.each (List.range 4) fun s p =>
    if pairEn s (p / 2) then s else dropAsm (s.putAll [(FAB_PORT_STAT_UP p, 0), (FAB_PORT_STAT_TRAINING p, 0)]) p

/-- A write to a FAB_ register. -/
def fabRegWrite (s : State) (a data : Nat) : State × Status :=
  let o := a - 0x60088000
  if a = 0x60088000 then
    let x := checkedWrite s fabErr [(!s.flag FAB_LOCK && pairBusy s a data 0x001F07C4 0x03E0F818, .FAB_BUSY)] a data
    (pairOff x.1, x.2)
  else if a = 0x60088004 then
    checkedWrite s fabErr [(32 < bitsOf data 0 6 || 32 < bitsOf data 6 6, .FAB_RANGE),
      (!s.flag FAB_LOCK && pairBusy s a data 0x3F 0xFC0, .FAB_BUSY)] a data
  else if a = 0x6008803C then (s.when (data.testBit 0) fun s => s.put FAB_TXWAIT_TXWAIT_MAX 0, .OK)
  else if a = 0x60088400 then writeLock s fabErr data
  else if 0x100 ≤ o && o < 0x180 then
    let x := (o - 0x100) / 4
    let old := s.fld (FAB_RT_VIA x)
    let own := (addressed s 0 && ownAddr s 0 / 32 = x) || (addressed s 1 && ownAddr s 1 / 32 = x)
    let busy := fun v => (v = 1 && pairEn s 0) || (v = 2 && pairEn s 1)
    if own then (s, .OK)
    else checkedWrite s fabErr [(data % 4 = 3, .FAB_RANGE),
      (!s.flag FAB_LOCK && data % 4 ≠ old && (busy old || busy (data % 4)), .FAB_BUSY)] a data
  else if 0x300 ≤ o && o < 0x360 then
    let c := (o - 0x300) / 0x20
    let k := (o - 0x300) % 0x20
    if k = 0x00 then checkedWrite s fabErr [(s.flag (FAB_TXQ_CTRL_EN c), .FAB_BUSY)] a (data - data % 64)
    else if k = 0x04 then
      checkedWrite s fabErr [(bitsOf data 1 4 < 4 || 10 < bitsOf data 1 4, .FAB_RANGE),
        (s.flag (FAB_TXQ_CTRL_EN c) && bitsOf data 1 4 ≠ s.fld (FAB_TXQ_CTRL_SIZE c), .FAB_BUSY)] a data
    else if k = 0x10 then checkedWrite s fabErr [(s.flag (FAB_RXQ_CTRL_EN c), .FAB_BUSY)] a (data - data % 64)
    else if k = 0x14 then
      checkedWrite s fabErr [(bitsOf data 1 4 < 2 || 8 < bitsOf data 1 4, .FAB_RANGE),
        (s.flag (FAB_RXQ_CTRL_EN c) && bitsOf data 1 4 ≠ s.fld (FAB_RXQ_CTRL_SIZE c), .FAB_BUSY)] a data
    else writeFields s fabErr a data
  else writeFields s fabErr a data

end Sys2Proof.Machine
end

