-- ==== Sys2Proof/Machine/CanFd.lean ====
section
/-! DEFINITION. Chapter 18: the CAN FD controllers (R466-R483): modes, error counters, filtering, receive queues, safety buffers,
transmit entries and aborts. -/

namespace Sys2Proof.Machine

def canErr : BlockErr where
  last := CAN_ERR_LAST_ERR
  cnt := CAN_ERR_ERR_CNT
  lock := CAN_LOCK
  locked := .CAN_LOCKED
  codes := [(.CAN_RANGE, 1), (.CAN_BUSY, 2), (.CAN_LOCKED, 3), (.CAN_ID_RESERVED, 4)]

namespace State

def canOf (s : State) (n : Nat) : Can := Tbl.get {} s.can n
def setCan (s : State) (n : Nat) (v : Can) : State := { s with can := Tbl.set {} s.can n v }

end State

/-- A refusal names its controller (R482). -/
def canRefuse (s : State) (n : Nat) (st : Status) : State := (s.refuse canErr st).put CAN_ERR_CONTROLLER n

/-- Set an interrupt flag, bit `b` of CAN_IRQ, and interrupt the Fabric and CAN role if it is enabled (R42, R481). -/
def canIrq (s : State) (n b : Nat) : State :=
  let s := match b with
    | 4 => s.put (CAN_IRQ_TX_DONE n) 1
    | 5 => s.put (CAN_IRQ_ERR_CHG n) 1
    | 6 => s.put (CAN_IRQ_BOFF n) 1
    | 7 => s.put (CAN_IRQ_RX_OVF n) 1
    | 8 => s.put (CAN_IRQ_PXE n) 1
    | 9 => s.put (CAN_IRQ_LOST n) 1
    | q => s.put (CAN_IRQ_RXQ n) (setBit (s.fld (CAN_IRQ_RXQ n)) q)
  s.when ((s.fld (CAN_IE n)).testBit b) fun s => s.irq (rolePair s 4) .can n b

/-! ### Fault confinement (R466) -/

/-- The error counters and what follows from them: error-passive at 128, the registers' widths. Bus-off is entered by its own step. -/
def setCounters (s : State) (n tec rc : Nat) : State :=
  let old := s.fld (CAN_STAT_ERR n)
  let err := if old = 2 then 2 else if 128 ≤ tec || 128 ≤ rc then 1 else 0
  let s := (s.setCan n { s.canOf n with tec := tec, rec_ := rc }).putAll [(CAN_STAT_TEC n, min tec 255), (CAN_STAT_REC n, min rc 127),
    (CAN_STAT_RP n, bit (128 ≤ rc)), (CAN_STAT_ERR n, err)]
  s.when (err ≠ old) fun s => canIrq s n 5

/-- The LEC code of an error (R481). -/
def lecOf : CanError → Nat
  | .stuff => 1 | .form => 2 | .ack => 3 | .bit1 => 4 | .bit0 => 5 | .crc => 6

/-! ### Arbitration (R476) -/

/-- The bits a frame puts into arbitration, lower wins: base identifier, RTR or SRR, IDE, identifier extension, RTR. -/
def arbKey (f : CanFrame) : Nat :=
  if f.ide then f.id / 2 ^ 18 * 2 ^ 21 + 3 * 2 ^ 19 + f.id % 2 ^ 18 * 2 + bit f.rtr else f.id % 2 ^ 11 * 2 ^ 21 + bit f.rtr * 2 ^ 20

/-- The state of an entry. -/
def entryState (s : State) (n e : Nat) : Nat := s.fld (CAN_TX_ST_STATE n e)

/-- Entries and safety buffers that wait for arbitration. -/
def contenders (s : State) (n : Nat) : List (CanSender × CanTx) :=
  (((List.range 64).filter fun e => entryState s n e = 1).map fun e => (.entry e, Tbl.get {} (s.canOf n).tx e))
    ++ (s.canOf n).safety.map fun x => (.safety x.1, x.2)

/-- The better of two contenders: arbitration, then the lower submission number. -/
def better (a b : CanSender × CanTx) : CanSender × CanTx :=
  let ka := arbKey a.2.frame
  let kb := arbKey b.2.frame
  if kb < ka || (kb = ka && b.2.sub < a.2.sub) then b else a

/-- The frame offered next. -/
def offered (s : State) (n : Nat) : Option (CanSender × CanTx) :=
  match contenders s n with
  | [] => none
  | x :: l => some (l.foldl better x)

/-- The read value of CAN_TX_REQ: entries pending or sending (R481). -/
def showReq (s : State) (n : Nat) : State :=
  s.putAll ((List.range 2).map fun j =>
    (CAN_TX_REQ n j, (List.range 32).foldl (fun m e => let x := entryState s n (32 * j + e); if x = 1 || x = 2 then setBit m e else m) 0))

/-- The bus is free: an integrated controller in NORMAL that is not bus-off begins an attempt with the frame offered; one that holds its
work begins it when it is released (R377). -/
def busFree (s : State) (n : Nat) : State :=
  if s.held 22 then s.setCan n { s.canOf n with freeHeld := true }
  else if s.fld (CAN_CTRL_MODE n) ≠ 1 || !s.flag (CAN_STAT_SYNC n) || s.fld (CAN_STAT_ERR n) = 2 || (s.canOf n).now.isSome then s
  else match offered s n with
    | none => s
    | some (.entry e, t) =>
      let s := (s.setCan n { s.canOf n with now := some (.entry e) }).put (CAN_TX_ST_STATE n e) 2
      s.emit (.canFrame n t.frame)
    | some (.safety c, t) =>
      let x := s.canOf n
      (s.setCan n { x with now := some (.safety c), safety := Tbl.erase c x.safety, safetyNow := t }).emit (.canFrame n t.frame)

/-- A frame in progress has ended: a CONFIG write that waited takes effect; else the next attempt begins if the bus is free. -/
def frameEnd (s : State) (n : Nat) (free : Bool) : State :=
  let x := s.canOf n
  if x.leaving then (s.setCan n { x with leaving := false, walk := x.walk }).put (CAN_STAT_SYNC n) 0
  else if free then busFree s n else s

/-! ### Transmission (R475-R479) -/

/-- An entry completes: STATUS, DONE, interrupt, and the host command it serves; an ABORT of that
command takes its verdict (R414). -/
def entryDone (s : State) (n e : Nat) (st : Status) : State :=
  let t : CanTx := Tbl.get {} (s.canOf n).tx e
  let x := s.canOf n
  let s := s.setCan n { x with tx := Tbl.erase e x.tx }
  let d := CAN_TX_DONE n (e / 32)
  let s := s.putAll [(CAN_TX_ST_STATUS n e, st.code), (CAN_TX_ST_STATE n e, 3), (d, setBit (s.fld d) (e % 32))]
  let s := canIrq (showReq s n) n 4
  match t.host with
  | some r => (result s r st).finish (.canAbort r) (if st = .ABORTED then .OK else .NOTHING_TO_ABORT)
  | none => s

/-- The entry goes back to wait for arbitration. -/
def entryWaits (s : State) (n e : Nat) : State := s.put (CAN_TX_ST_STATE n e) 1

/-- The lengths that a DLC codes exactly. -/
def dlcOf (len : Nat) : Option Nat :=
  if len ≤ 8 then some len
  else match len with
    | 12 => some 9 | 16 => some 10 | 20 => some 11 | 24 => some 12 | 32 => some 13 | 48 => some 14 | 64 => some 15
    | _ => none

/-- An identifier and format held by an enabled Fjop connection of the controller (R474). -/
def idReserved (s : State) (n : Nat) (f : CanFrame) : Bool :=
  (List.range 32).any fun c => s.flag (SAF_FJ_CFG_EN c) && s.fld (SAF_FJ_CFG_CHANNEL c) = n && s.fld (SAF_FJ_ADDR c) = f.id
    && s.flag (SAF_FJ_ADDR_IDE c) = f.ide

/-- The checks of a request (R475). `len` is the length asked for. -/
def requestStatus (s : State) (n e : Nat) (f : CanFrame) (len : Nat) : Status :=
  let st := entryState s n e
  firstOf [(st = 1 || st = 2, .CAN_BUSY), (idReserved s n f, .CAN_ID_RESERVED),
    ((dlcOf len).isNone || (!f.fdf && 8 < len) || (f.fdf && f.rtr) || (f.fdf && !s.flag (CAN_CTRL_FDOE n))
      || (f.brs && !s.flag (CAN_CTRL_BRSE n)), .CAN_RANGE)]

/-- Request an entry with a frame: the next submission number, or a refusal that its STATUS shows. -/
def request (s : State) (n e : Nat) (f : CanFrame) (len : Nat) (oneshot : Bool) (host : Option CmdRef) : State × Status :=
  match requestStatus s n e f len with
  | .OK =>
    let x := s.canOf n
    let t : CanTx := { frame := { f with dlc := (dlcOf len).getD 0 }, sub := x.sub, oneshot := oneshot, host := host }
    let s := (s.setCan n { x with tx := Tbl.insert e t x.tx, sub := x.sub + 1 }).putAll
      [(CAN_TX_ST_STATE n e, 1), (CAN_TX_ST_ACK_TRIES n e, 0), (CAN_TX_ST_ABT_RES n e, 0)]
    (showReq s n, .OK)
  | st => ((canRefuse s n st).put (CAN_TX_ST_STATUS n e) st.code, st)

/-- The frame, length and ONESHOT of an entry's slot in general SRAM (R475). -/
def slotFrame (s : State) (n e : Nat) : CanFrame × Nat × Bool :=
  let a := s.fld (CAN_TXB_BASE n) + 80 * e
  let w := s.num a 4
  let b := s.num (a + 4) 1
  let len := s.num (a + 5) 1
  ({ id := if w.testBit 29 then w % 2 ^ 29 else w % 2 ^ 11, ide := w.testBit 29, rtr := w.testBit 30, fdf := w.testBit 31,
     brs := b.testBit 4, esi := b.testBit 5, data := if w.testBit 30 then [] else s.bytesAt (a + 16) (min len 64) }, len, b.testBit 6)

/-- CAN_TX_REQUEST: entries in rising order; those of the host are ignored and recorded. `idle` says that the bus is idle. -/
def txRequest (s : State) (n half bits : Nat) (idle : Bool) : State :=
  let s := s.each (bitsSet 32 bits) fun s i =>
    let e := 32 * half + i
    if 48 ≤ e then canRefuse s n .CAN_RANGE
    else
      let x := slotFrame s n e
      (request s n e x.1 x.2.1 x.2.2 none).1
  if idle then busFree s n else s

/-- An abort reaches an entry (R478). -/
def abortEntry (s : State) (n e : Nat) : State :=
  match entryState s n e with
  | 1 => (entryDone s n e .ABORTED).put (CAN_TX_ST_ABT_RES n e) 1
  | 2 =>
    let x := s.canOf n
    s.setCan n { x with tx := Tbl.insert e { (Tbl.get {} x.tx e : CanTx) with abort := true } x.tx }
  | _ => s.put (CAN_TX_ST_ABT_RES n e) 2

/-- CAN_TX_ABORT. -/
def txAbort (s : State) (n half bits : Nat) : State := s.each (bitsSet 32 bits) fun s i => abortEntry s n (32 * half + i)

/-- TEC after a failed attempt: 8 more, but an error-passive transmitter's acknowledgement error with a quiet error flag leaves it
(R477). -/
def tecAfter (s : State) (n : Nat) (e : CanError) (quiet : Bool) : Nat :=
  let t := (s.canOf n).tec
  if e = .ack && quiet && s.fld (CAN_STAT_ERR n) = 1 then t else t + 8

/-- What follows the failed attempt of an entry: an abort, ONESHOT, the acknowledgement limit, or another try. -/
def attemptFailed (s : State) (n e : Nat) (ackErr : Bool) : State :=
  let t : CanTx := Tbl.get {} (s.canOf n).tx e
  let s := s.when ackErr fun s => s.inc (CAN_TX_ST_ACK_TRIES n e)
  if t.abort then (entryDone s n e .ABORTED).put (CAN_TX_ST_ABT_RES n e) 1
  else if t.oneshot then entryDone s n e .CAN_SEND_FAILED
  else if ackErr && s.fld (CAN_CTRL_ACK_LIMIT n) ≤ s.fld (CAN_TX_ST_ACK_TRIES n e) then entryDone s n e .NO_LISTENER
  else entryWaits s n e

/-- CAN_ATTEMPT_END: the attempt ended in an error, after which the next frame is offered, or lost arbitration, after which another
node's frame goes on. -/
def attemptEnd (s : State) (n : Nat) (how : CanAttempt) : State :=
  match (s.canOf n).now with
  | none => s
  | some who =>
    let s := s.setCan n { s.canOf n with now := none }
    let ackErr := match how with
      | .error .ack _ => true
      | _ => false
    let s := match how with
      | .lost => s
      | .error e quiet => setCounters (s.put (CAN_STAT_LEC n) (lecOf e)) n (tecAfter s n e quiet) (s.canOf n).rec_
    let s := match who with
      | .entry e => attemptFailed s n e ackErr
      | .safety c =>
        let x := s.canOf n
        if x.safety.any fun y => y.1 = c then s else s.setCan n { x with safety := Tbl.insert c x.safetyNow x.safety }
    if how = .lost then s else frameEnd s n true

/-- CAN_TX_COMPLETION: the completion point of the attempt (R477). -/
def txEnd (s : State) (n : Nat) : State :=
  match (s.canOf n).now with
  | none => s
  | some who =>
    let x := s.canOf n
    let s := setCounters ((s.setCan n { x with now := none }).put (CAN_STAT_LEC n) 0) n (x.tec - 1) x.rec_
    let s := match who with
      | .entry e =>
        let t : CanTx := Tbl.get {} x.tx e
        (entryDone s n e .OK).when t.abort fun s => s.put (CAN_TX_ST_ABT_RES n e) 2
      | .safety _ => s
    frameEnd s n true

/-- CAN_SEND: the lowest free host entry (R479). -/
def canSend (s : State) (r : CmdRef) (n : Nat) (f : CanFrame) (len : Nat) : State × Status :=
  match (List.range 64).find? fun e => decide (48 ≤ e) && entryState s n e ≠ 1 && entryState s n e ≠ 2 with
  | none => (s, .CAN_TX_BUSY)
  | some e => request s n e f len false (some r)

/-- The host entry that serves a command, on any controller. -/
def hostEntry (s : State) (r : CmdRef) : Option (Nat × Nat) :=
  (s.can.flatMap fun x => (x.2.tx.filter fun y => y.2.host = some r).map fun y => (x.1, y.1)).head?

/-! ### Safety buffers (R474) -/

/-- SAFETY_BUFFER_WRITE: the frame of a send connection of channel 0-7 replaces one that waits in its buffer. It goes as an FD frame
where the controller's FDOE and BRSE allow (log 48). -/
def safetyBuffer (s : State) (c : Nat) (idle : Bool) : State :=
  let n := s.fld (SAF_FJ_CFG_CHANNEL c)
  match (s.fjopOf c).tx with
  | none => s
  | some d =>
    if 8 ≤ n then s
    else
      let len := ((List.range 65).find? fun k => decide (d.length ≤ k) && (dlcOf k).isSome).getD 64
      let f : CanFrame :=
        { id := s.fld (SAF_FJ_ADDR c), ide := s.flag (SAF_FJ_ADDR_IDE c), fdf := s.flag (CAN_CTRL_FDOE n),
          brs := s.flag (CAN_CTRL_FDOE n) && s.flag (CAN_CTRL_BRSE n), dlc := (dlcOf len).getD 0, data := (d ++ List.replicate 64 0).take len }
      let x := s.canOf n
      let s := s.setFjop c { s.fjopOf c with tx := none }
      let s := s.setCan n { x with safety := Tbl.insert c { frame := f, sub := x.sub } x.safety, sub := x.sub + 1 }
      if idle then busFree s n else s

/-! ### Reception (R471-R474) -/

/-- One filter element's match of an identifier: TYPE in bits [31:30] of word 0 (R471). -/
def elementMatch (w0 w1 id mask : Nat) : Bool :=
  let a := w0 % 2 ^ mask
  let b := w1 % 2 ^ mask
  match w0 / 2 ^ 30 with
  | 0 => decide (a ≤ id) && decide (id ≤ b)
  | 1 => decide (id = a) || decide (id = b)
  | 2 => decide ((id &&& b) = (a &&& b))
  | _ => false

/-- The first matching element of a list: its index and its ACTION. -/
def walkList (s : State) (base id mask : Nat) : Nat → Nat → Option (Nat × Nat)
  | _, 0 => none
  | i, k + 1 =>
    let w0 := s.num (base + 8 * i) 4
    let w1 := s.num (base + 8 * i + 4) 4
    if elementMatch w0 w1 id mask then some (i, w1 / 2 ^ 29) else walkList s base id mask (i + 1) k

/-- A receive entry (R473). -/
def rxEntry (f : CanFrame) (index : Nat) (nm : Bool) (counter : Nat) : List Byte :=
  leBytes 4 (f.id + bit f.ide * 2 ^ 29 + bit f.rtr * 2 ^ 30 + bit f.fdf * 2 ^ 31) ++ leBytes 1 (f.dlc + bit f.brs * 16 + bit f.esi * 32)
    ++ leBytes 1 f.data.length ++ leBytes 2 (index % 4096 + bit nm * 2 ^ 14 + bit f.ide * 2 ^ 15) ++ leBytes 4 counter ++ leBytes 4 0
    ++ (f.data ++ List.replicate 64 0).take 64

/-- Store a frame in a queue, or count its drop. The queue counter counts both, so that a gap shows (log 49). -/
def rxStore (s : State) (n q : Nat) (f : CanFrame) (index : Nat) (nm : Bool) : State :=
  let x := s.canOf n
  let size := 2 ^ s.fld (CAN_RXQ_CTRL_SIZE n q)
  let cnt := (Tbl.get 0 x.count q + 1) % 2 ^ 32
  let x := { x with count := Tbl.set 0 x.count q cnt }
  if !s.flag (CAN_RXQ_CTRL_EN n q) || size ≤ Tbl.get 0 x.owned q then canIrq ((s.setCan n x).inc (CAN_RXQ_CTRL_OVF_CNT n q)) n 7
  else
    let h := s.fld (CAN_RXQ_HEAD n q)
    let s := s.setCan n { x with owned := Tbl.set 0 x.owned q (Tbl.get 0 x.owned q + 1) }
    let s := s.setBytes (s.fld (CAN_RXQ_BASE n q) + 80 * h) (rxEntry f index nm cnt)
    canIrq (s.put (CAN_RXQ_HEAD n q) ((h + 1) % size)) n q

/-- The lists' verdict on a frame, applied (R471, R472). The element index of a frame that no element matched is not stated (log 3). -/
def applyFilter (s : State) (n : Nat) (f : CanFrame) (l : CanLists) : State :=
  let hit := if f.ide then walkList s l.extBase f.id 29 0 l.extCnt else walkList s l.stdBase f.id 11 0 l.stdCnt
  match hit with
  | some (i, act) =>
    if act = 0 then s
    else if 5 ≤ act then s.inc (CAN_CNT_FLT_ERR n)
    else rxStore s n (act - 1) f i false
  | none =>
    let nm := if f.ide then s.fld (CAN_FLT_POL_NM_EXT n) else s.fld (CAN_FLT_POL_NM_STD n)
    if nm = 0 || 5 ≤ nm then s else let x := s.fresh; rxStore x.2 n (nm - 1) f x.1 true

/-- FILTER_WALK_END: the oldest frame is stored or rejected, and the next walk begins on the lists now in force. -/
def walkEnd (s : State) (n : Nat) : State :=
  let x := s.canOf n
  match x.walk with
  | [] => s
  | (f, l) :: rest =>
    let rest := match rest with
      | (g, _) :: t => (g, x.lists) :: t
      | [] => []
    applyFilter (s.setCan n { x with walk := rest }) n f l

/-- A Fjop connection that receives the frame (R472). -/
def fjopOfFrame (s : State) (n : Nat) (f : CanFrame) : Option Nat :=
  (List.range 32).find? fun c => s.flag (SAF_FJ_CFG_EN c) && !s.flag (SAF_FJ_CFG_DIR c) && s.fld (SAF_FJ_CFG_CHANNEL c) = n
    && s.fld (SAF_FJ_ADDR c) = f.id && s.flag (SAF_FJ_ADDR_IDE c) = f.ide

/-- The Fjop frame in CAN data: 7 + LEN bytes; other bytes behind them that are not 0 fail the length check, so the data goes on
whole (R474). -/
def fjopBytes (d : List Byte) : List Byte :=
  let n := 7 + ((d.head?).getD 0).toNat % 64
  if (d.drop n).all fun b => b = 0 then d.take n else d

/-- The receive error counter after a frame received without error: one less, and from above 127 to a value between 119 and 127 that
the standard leaves open (log 3). -/
def recGood (s : State) (n : Nat) : Nat × State :=
  let r := (s.canOf n).rec_
  if r ≤ 127 then (r - 1, s) else let x := s.fresh; (119 + x.1 % 9, x.2)

/-- CAN_FRAME_RECEIVED: a frame received without error (R472). -/
def frameReceived (s : State) (n : Nat) (f : CanFrame) : State :=
  if (s.fld (CAN_CTRL_MODE n) = 0 && !(s.canOf n).leaving) || !s.flag (CAN_STAT_SYNC n) || s.fld (CAN_STAT_ERR n) = 2
      || (s.canOf n).now.isSome then s
  else
    let g := recGood s n
    let s := setCounters (g.2.put (CAN_STAT_LEC n) 0) n (g.2.canOf n).tec g.1
    let s := match fjopOfFrame s n f with
      | some c => fjopArrive s c (fjopBytes f.data)
      | none =>
        if f.rtr && (if f.ide then s.flag (CAN_FLT_POL_REJ_RTR_EXT n) else s.flag (CAN_FLT_POL_REJ_RTR_STD n)) then s
        else
          let x := s.canOf n
          if 3 ≤ x.walk.length then canIrq (s.inc (CAN_CNT_RX_LOST n)) n 9
          else s.setCan n { x with walk := x.walk ++ [(f, x.lists)] }
    frameEnd s n true

/-- CAN_RECEIVE_ERROR: 1 more, or 8 where the standard says so (`heavy`). -/
def receiveError (s : State) (n : Nat) (e : CanError) (heavy : Bool) : State :=
  if (s.fld (CAN_CTRL_MODE n) = 0 && !(s.canOf n).leaving) || !s.flag (CAN_STAT_SYNC n) || s.fld (CAN_STAT_ERR n) = 2
      || (s.canOf n).now.isSome then s
  else
    let x := s.canOf n
    frameEnd (setCounters (s.put (CAN_STAT_LEC n) (lecOf e)) n x.tec (min 255 (x.rec_ + if heavy then 8 else 1))) n true

/-- CAN_PROTOCOL_EXCEPTION: counted while PXE is enabled; the controller integrates again. -/
def protocolException (s : State) (n : Nat) : State :=
  if s.flag (CAN_CTRL_PXE n) && s.flag (CAN_STAT_SYNC n) && s.fld (CAN_CTRL_MODE n) ≠ 0 then
    canIrq ((s.inc (CAN_CNT_PXE_CNT n)).put (CAN_STAT_SYNC n) 0) n 8
  else s

/-- FILTER_COMMIT: both shadows apply together before the next walk begins; a walk that runs keeps its lists. -/
def filterCommit (s : State) (n : Nat) : State × Status :=
  let l : CanLists :=
    { stdBase := s.fld (CAN_FLT_STD_BASE n), extBase := s.fld (CAN_FLT_EXT_BASE n), stdCnt := s.fld (CAN_FLT_CNT_STD_CNT n),
      extCnt := s.fld (CAN_FLT_CNT_EXT_CNT n) }
  if 4096 < l.stdCnt + l.extCnt || l.stdBase % 8 ≠ 0 || l.extBase % 8 ≠ 0 then (canRefuse s n .CAN_RANGE, .CAN_RANGE)
  else (s.setCan n { s.canOf n with lists := l }, .OK)

/-- CAN_RXQ_ACK: every entry before the index is released. -/
def canAck (s : State) (n q v : Nat) : State :=
  let x := s.canOf n
  let size := 2 ^ s.fld (CAN_RXQ_CTRL_SIZE n q)
  s.setCan n { x with owned := Tbl.set 0 x.owned q (min (Tbl.get 0 x.owned q) ((s.fld (CAN_RXQ_HEAD n q) + size - v % size) % size)) }

/-! ### Modes (R467, R469, R470) -/

/-- The bit timing is allowed (R467): rates, quanta per bit, SJW, in both phases. -/
def timingOk (s : State) (n : Nat) : Bool :=
  let phase := fun (brp t1 t2 sjw lim : Nat) =>
    let q := 1 + (t1 + 1) + (t2 + 1)
    decide (80000000 ≤ lim * ((brp + 1) * q)) && decide (8 ≤ q) && decide (sjw ≤ t2)
  phase (s.fld (CAN_NBT_BRP n)) (s.fld (CAN_NBT_TSEG1 n)) (s.fld (CAN_NBT_TSEG2 n)) (s.fld (CAN_NBT_SJW n)) 1000000
    && phase (s.fld (CAN_DBT_BRP n)) (s.fld (CAN_DBT_TSEG1 n)) (s.fld (CAN_DBT_TSEG2 n)) (s.fld (CAN_DBT_SJW n)) 8000000

/-- CAN_MODE_WRITE: a write of CAN_CTRL. `busy` says that a frame is in progress on the bus. -/
def canMode (s : State) (n data : Nat) (busy : Bool) : State × Status :=
  let a := 0x60090000 + 0x400 * n
  let old := s.fld (CAN_CTRL_MODE n)
  let mode := data % 4
  let others := bitsOf data 2 14 &&& 0x3FCF ≠ bitsOf (readFields s a) 2 14
  let locked := s.flag CAN_LOCK
  let st := firstOf [(!locked && old ≠ 0 && others, .CAN_BUSY), (!locked && bitsOf data 8 8 = 0, .CAN_RANGE),
    (old = 0 && mode ≠ 0 && !timingOk s n, .CAN_RANGE)]
  if st ≠ .OK then (canRefuse s n st, st)
  else
    let x := writeFields s canErr a data
    let s := if x.2 = .OK then x.1 else x.1.put CAN_ERR_CONTROLLER n
    if old ≠ 0 && mode = 0 then
      if busy || (s.canOf n).now.isSome then (s.setCan n { s.canOf n with leaving := true }, x.2) else (s.put (CAN_STAT_SYNC n) 0, x.2)
    else (s, x.2)

/-- BUS_INTEGRATION_END: 11 recessive bits. -/
def integrated (s : State) (n : Nat) : State :=
  if s.fld (CAN_CTRL_MODE n) = 0 || s.fld (CAN_STAT_ERR n) = 2 then s else busFree (s.put (CAN_STAT_SYNC n) 1) n

/-- CAN_BUS_OFF: the transmit error counter has passed 255. -/
def busOff (s : State) (n : Nat) : State :=
  if (s.canOf n).tec < 256 || s.fld (CAN_STAT_ERR n) = 2 then s
  else
    let s := s.putAll [(CAN_STAT_ERR n, 2), (CAN_STAT_SYNC n, 0), (CAN_STAT_RECOVERING n, s.fld (CAN_CTRL_AUTO_RECOVER n))]
    canIrq (canIrq (s.inc (CAN_CNT_BOFF_CNT n)) n 5) n 6

/-- CAN_RECOVER: recovery starts on command; while not bus-off it is ignored. -/
def canRecover (s : State) (n : Nat) : State := if s.fld (CAN_STAT_ERR n) = 2 then s.put (CAN_STAT_RECOVERING n) 1 else s

/-- BUS_OFF_RECOVERY_END: error-active with both counters 0; a controller in CONFIG sees no bus to recover on. -/
def recovered (s : State) (n : Nat) : State :=
  if !s.flag (CAN_STAT_RECOVERING n) || s.fld (CAN_CTRL_MODE n) = 0 then s
  else
    let s := s.putAll [(CAN_STAT_RECOVERING n, 0), (CAN_STAT_ERR n, 0), (CAN_STAT_SYNC n, 1)]
    busFree (canIrq (setCounters s n 0 0) n 5) n

/-- A transmit entry is pending or sending (R376). -/
def canPending (s : State) : Bool := (List.range 8).any fun n => (List.range 64).any fun e => entryState s n e = 1 || entryState s n e = 2

/-! ### Register writes (R469, R481, R482) -/

/-- A checked write that names its controller. -/
def canChecked (s : State) (n : Nat) (checks : List (Bool × Status)) (a data : Nat) : State × Status :=
  match firstOf checks with
  | .OK =>
    let x := writeFields s canErr a data
    (if x.2 = .OK then x.1 else x.1.put CAN_ERR_CONTROLLER n, x.2)
  | st => (canRefuse s n st, st)

/-- A write to a CAN_ register that has no row of its own. Configuration fields can be written only in CONFIG. -/
def canRegWrite (s : State) (a data : Nat) : State × Status :=
  if a = 0x60092000 then writeLock s canErr data
  else
    let n := (a - 0x60090000) / 0x400
    let o := (a - 0x60090000) % 0x400
    let moved := changesFields s a data
    let busy := (s.fld (CAN_CTRL_MODE n) ≠ 0 && moved, Status.CAN_BUSY)
    if o = 0x018 || o = 0x01C || o = 0x048 || o = 0x04C || o = 0x020 || o = 0x024 then canChecked s n [] a data
    else if o = 0x028 then canChecked s n [(4096 < bitsOf data 0 13 || 4096 < bitsOf data 16 13, .CAN_RANGE)] a data
    else if o = 0x02C then canChecked s n [busy, (4 < bitsOf data 0 3 || 4 < bitsOf data 3 3, .CAN_RANGE)] a data
    else if o = 0x034 then canChecked s n [busy] a (data - data % 64)
    else if 0x080 ≤ o && o < 0x0C0 then
      let q := (o - 0x080) / 0x10
      if o % 0x10 = 0x4 then
        let size := bitsOf data 1 4
        let rises := data.testBit 0 && !s.flag (CAN_RXQ_CTRL_EN n q)
        let x := canChecked s n [(s.fld (CAN_CTRL_MODE n) ≠ 0 && bitsOf (readFields s a) 0 5 ≠ bitsOf data 0 5, .CAN_BUSY),
          (size < 2 || 10 < size, .CAN_RANGE)] a data
        if x.2 = .OK && rises then (x.1.setCan n { x.1.canOf n with count := Tbl.set 0 (x.1.canOf n).count q 0 }, .OK) else x
      else if o % 0x10 = 0 then canChecked s n [busy] a (data - data % 64)
      else canChecked s n [] a data
    else canChecked s n [busy] a data

end Sys2Proof.Machine
end

