-- ==== Sys2Proof/Machine/Converter.lean ====
section
/-! DEFINITION. Chapter 10: the converter slots, soft start, current limit and hiccup, load release, phase shedding and the float
masks (R266-R286). -/

namespace Sys2Proof.Machine

def cnvErr : BlockErr where
  last := CNV_ERR_LAST_ERR
  cnt := CNV_ERR_ERR_CNT
  lock := CNV_LOCK
  locked := .CNV_LOCKED
  codes := [(.CNV_RANGE, 1), (.CNV_BUSY, 2), (.CNV_LOCKED, 3), (.CNV_GROUP_STOPPED, 4), (.CNV_FAULT_PERSISTS, 5), (.LEG_ABSENT, 6)]

namespace State

def cnvOf (s : State) (m : Nat) : Cnv := Tbl.get {} s.cnv m
def setCnv (s : State) (m : Nat) (v : Cnv) : State := { s with cnv := Tbl.set {} s.cnv m v }

end State

/-- The states of R269, the group, its number of legs, and the phases N of a buck. -/
def cnvState (s : State) (m : Nat) : Nat := s.fld (CNV_C_STAT_STATE m)
def cnvGroup (s : State) (m : Nat) : Nat := s.fld (CNV_C_CFG_GROUP m)
def cnvBuck (s : State) (m : Nat) : Bool := s.flag (CNV_C_CFG_TYPE m)
def cnvPhases (s : State) (m : Nat) : Nat := if cnvBuck s m then (s.members (cnvGroup s m)).length else 0

/-- SOFT_START or REGULATE. -/
def cnvActive (s : State) (m : Nat) : Bool := cnvState s m = 2 || cnvState s m = 3

/-! ### Engine inputs (R276) -/

/-- Write a slot of a converter slot's engine; while the slot is disabled nothing, and the writes follow at its enable (log 21). -/
def cnvWrite (s : State) (m addr : Nat) (w : Word36) (e : Nat) : State :=
  if s.flag (CNV_C_CFG_EN m) then writeSlot s (s.fld (CNV_C_CFG_ENGINE m)) addr ⟨w, e, true, false, false, false, s.mtime, 0⟩ else s

/-- The reference slot: output codes at the exponent of the output entry. -/
def writeRef (s : State) (m : Nat) : State :=
  let c := entryCfg s (s.fld (CNV_C_CFG_ADC m)) (s.fld (CNV_C_CFG_VOUT_ENTRY m))
  let s := s.put (CNV_C_VOUT_REF m) ((s.cnvOf m).ref / 65536)
  cnvWrite s m 0x060 (BitVec.ofNat 36 ((s.cnvOf m).ref * 2 ^ 7)) (sarExponent c.scale c.gain)

/-- The peak limit slot: ILIM in 0.1 A as a mantissa at exponent I_E. The rounding, and a limit that the exponent cannot hold, are
left free (log 3, 4). -/
def writeIlim (s : State) (m : Nat) : State :=
  let ie := s.fld (CNV_C_ILIM_I_E m)
  let x := s.rounded ((s.fld (CNV_C_ILIM m) * 2 ^ 163 : Nat) : Int) ((10 * 2 ^ (signedOf 8 ie + 128).toNat : Nat) : Int)
  let f := x.2.fresh
  let w := if x.1 < 2 ^ 35 then BitVec.ofInt 36 x.1 else BitVec.ofNat 36 f.1
  cnvWrite f.2 m 0x062 w ie

/-- RUN, RELEASE, SOFT, SR_EN and the active-phase mask. -/
def cnvFlags (s : State) (m : Nat) : Nat :=
  bit (cnvActive s m) + 2 * s.fld (CNV_C_STAT_RELEASE m) + 4 * bit (cnvState s m = 2) + 8 * s.fld (CNV_C_STAT_SR_EN m)
    + 256 * (2 ^ s.fld (CNV_C_STAT_NACT m) - 1)

/-! ### The float mask (R267, R269) -/

/-- The mask of R269, R271, R275, R278 and R280, bit j for leg j of the group. -/
def cnvMask (s : State) (m : Nat) : Nat :=
  if !cnvActive s m || s.flag (CNV_C_STAT_RELEASE m) then 0x3F
  else if cnvState s m = 2 && !(s.cnvOf m).led then 0x3F
  else if cnvBuck s m then (if cnvState s m = 2 then 0 else 0x3F - (2 ^ s.fld (CNV_C_STAT_NACT m) - 1))
  else if s.flag (CNV_C_STAT_SR_EN m) then 0 else 0x0C

/-- The float mask of a slot stands in island 32, one bit per leg of the group in order (R267). -/
def cnvFloats (s : State) (m : Nat) : State :=
  s.each (s.members (cnvGroup s m)).zipIdx fun s e =>
    s.setLeg e.1 { s.legOf e.1 with floatReq := (s.fld (CNV_C_STAT_FLOAT m)).testBit e.2 }

/-- The flags slot; a change that a clear of EN makes is still written. -/
def writeCnvFlags (s : State) (m : Nat) : State :=
  let f := cnvFlags s m
  writeSlot (s.setCnv m { s.cnvOf m with flags := f }) (s.fld (CNV_C_CFG_ENGINE m)) 0x064
    ⟨BitVec.ofNat 36 f, 0, true, false, false, false, s.mtime, 0⟩

/-- Bring the float mask in island 32 and the flags slot up to date. -/
def cnvSync (s : State) (m : Nat) : State :=
  let s := cnvFloats (s.put (CNV_C_STAT_FLOAT m) (cnvMask s m)) m
  if cnvFlags s m = (s.cnvOf m).flags then s else writeCnvFlags s m

/-! ### States -/

/-- Enter a state. Outside the active ones no release stands; HICCUP, STOP and a clear of EN end a shedding run, so that all N phases
count again, and FAULT leaves it as it is (R275, R280, R281). -/
def cnvEnter (s : State) (m st : Nat) : State :=
  let s := s.put (CNV_C_STAT_STATE m) st
  let s := if st = 2 || st = 3 then s else s.putAll [(CNV_C_STAT_RELEASE m, 0), (CNV_C_STAT_SR_EN m, 0)]
  let s := if st = 2 || st = 3 || st = 5 then s else s.putAll [(CNV_C_STAT_SHEDDING m, 0), (CNV_C_STAT_NACT m, cnvPhases s m)]
  cnvSync s m

/-- A START that has not reached its completion point ends with a status. -/
def cnvStartEnds (s : State) (m : Nat) (st : Status) : State :=
  if (s.cnvOf m).starting then (s.setCnv m { s.cnvOf m with starting := false }).finish (.cnvStart m) st else s

/-- Enter FAULT with a cause (R282). -/
def cnvFault (s : State) (m cause : Nat) : State :=
  cnvEnter ((cnvStartEnds s m .CNV_START_FAILED).put (CNV_C_STAT_CAUSE m) cause) m 5

/-- The target code (R268): whole codes. The worked example takes 1,966.08 as 1,966, so a fraction below one half is dropped; of a
larger one the rounding is left free (log 4). Kept until the next change of VOUT_SET or START. -/
def cnvTarget (s : State) (m : Nat) : State :=
  let x := s.fld (CNV_C_VSET_VOUT_SET m) * s.fld (CNV_C_VDIV m)
  let f := s.fresh
  let t := x / 256000 + (if 128000 ≤ x % 256000 then f.1 % 2 else 0)
  f.2.setCnv m { f.2.cnvOf m with target := t * 65536 }

/-- The reference has come within 1 code of the output (R271). -/
def noteLed (s : State) (m : Nat) : State :=
  let x := s.cnvOf m
  s.setCnv m { x with led := x.led || decide (s.fld (CNV_C_VOUT_CODE m) * 65536 ≤ x.ref + 65536) }

/-- Enter SOFT_START: the reference begins at the present output code, or at the target below it (R271). -/
def softStart (s : State) (m : Nat) : State :=
  let s := cnvTarget s m
  let x := s.cnvOf m
  let s := s.setCnv m { x with ref := min (s.fld (CNV_C_VOUT_CODE m) * 65536) x.target, led := false, lim := false, limStart := false }
  let s := s.putAll [(CNV_C_STAT_NACT m, cnvPhases s m), (CNV_C_IOUT_LIM_RUN m, 0), (CNV_C_STAT_RELEASE m, 0),
    (CNV_C_STAT_SHEDDING m, 0), (CNV_C_STAT_SR_EN m, 0)]
  cnvEnter (writeRef (noteLed s m) m) m 2

/-- A start failure or an overload: HICCUP, or FAULT once TRY is 3 (R272, R274). 1 LOW, 2 ILIM, 3 overload. -/
def cnvFail (s : State) (m why : Nat) : State :=
  let s := s.put (CNV_C_STAT_LAST_FAIL m) why
  if s.fld (CNV_C_STAT_TRY m) = 3 then cnvFault s m 1 else cnvEnter (s.inc (CNV_C_CNT_HICCUP_CNT m)) m 4

/-! ### Events -/

/-- SOFT_START_RAMP_STEP: the reference moves by RAMP × VDIV / 25,600,000 codes toward the target, held to 1/65,536 code. -/
def rampStep (s : State) (m : Nat) : State :=
  let x := s.cnvOf m
  if cnvState s m ≠ 2 || x.ref = x.target then s
  else
    let d := s.rounded ((s.fld (CNV_C_RAMP m) * s.fld (CNV_C_VDIV m) * 65536 : Nat) : Int) 25600000
    let ref := if x.ref < x.target then min x.target (x.ref + d.1.toNat) else max x.target (x.ref - d.1.toNat)
    cnvSync (noteLed (writeRef (d.2.setCnv m { x with ref := ref }) m) m) m

/-- START_CHECK: MARGIN after the ramp ended, at least half the target code passes. -/
def startCheck (s : State) (m : Nat) : State :=
  let x := s.cnvOf m
  if cnvState s m ≠ 2 || x.ref ≠ x.target then s
  else if x.target ≤ 2 * 65536 * s.fld (CNV_C_VOUT_CODE m) then cnvEnter (cnvStartEnds s m .OK) m 3
  else cnvFail s m 1

/-- LOAD_STEP: it aborts a shedding run; every phase is unfloated (R281). -/
def loadStep (s : State) (m : Nat) : State :=
  if cnvState s m = 3 && s.flag (CNV_C_STAT_SHEDDING m) then
    cnvSync ((s.putAll [(CNV_C_STAT_NACT m, cnvPhases s m), (CNV_C_STAT_SHEDDING m, 0)]).inc (CNV_C_CNT_STEP_CNT m)) m
  else s

/-- Release and load step from a usable output code (R275, R281). -/
def evalOutput (s : State) (m : Nat) : State :=
  let code := 65536 * s.fld (CNV_C_VOUT_CODE m)
  let ref := (s.cnvOf m).ref
  if !cnvActive s m then s
  else
    let was := s.flag (CNV_C_STAT_RELEASE m)
    let rel := if ref + 65536 * s.fld (CNV_C_REL_REL_SET m) ≤ code then true
      else if code ≤ ref + 65536 * s.fld (CNV_C_REL_REL_CLR m) then false else was
    let s := (s.putFlag (CNV_C_STAT_RELEASE m) rel).when (rel && !was) fun s => s.inc (CNV_C_CNT_REL_CNT m)
    let s := cnvSync (noteLed s m) m
    if code + 65536 * s.fld (CNV_C_REL_STEP_V m) < ref then loadStep s m else s

/-- OUTPUT_VOLTAGE_RESULT: the code is read whenever the slot lands; the second unusable result in a row is SENSE_INVALID (R268). -/
def outputResult (s : State) (m : Nat) : State :=
  let st := cnvState s m
  if st = 0 then s
  else
    let b := adcMirror (s.fld (CNV_C_CFG_ADC m)) (s.fld (CNV_C_CFG_VOUT_ENTRY m))
    let x := s.cnvOf m
    if s.flag (RES_FLAGS_VALID b) && !s.flag (RES_FLAGS_FAULT b) then
      let s := s.setCnv m { x with bad := 0 }
      evalOutput (s.putAll [(CNV_C_VOUT_CODE m, s.fld (RES_RAW b)), (CNV_C_VT_T m, s.fld (RES_TLO_T_LO b))]) m
    else if st = 5 then s
    else if 1 ≤ x.bad then cnvFault (s.setCnv m { x with bad := 0 }) m 3
    else s.setCnv m { x with bad := x.bad + 1 }

/-- CURRENT_LIMIT_EVALUATION: the period that has ended was limited if the group tripped in it or the engine's last run before it
was; not if every leg floated (R273). 64 in a row fail a start or are an overload (R272, R274). -/
def limitEvaluation (s : State) (m : Nat) : State :=
  if cnvState s m = 0 then s
  else
    let x := s.cnvOf m
    let h := s.grpOf (cnvGroup s m)
    let limited := h.prevRan && (h.prevTrip || x.limStart)
    let n := if limited then min 64 (s.fld (CNV_C_IOUT_LIM_RUN m) + 1) else 0
    let s := (s.setCnv m { x with limStart := x.lim }).put (CNV_C_IOUT_LIM_RUN m) n
    if n = 64 && cnvState s m = 2 then cnvFail s m 2
    else if n = 64 && cnvState s m = 3 then cnvFail s m 3
    else s

/-- HICCUP_END: TRY counts, and the soft start begins again from the present output code. -/
def hiccupEnd (s : State) (m : Nat) : State :=
  if cnvState s m = 4 then softStart (s.put (CNV_C_STAT_TRY m) (s.fld (CNV_C_STAT_TRY m) + 1)) m else s

/-- TRY_RESET: 1 s in REGULATE without a current-limited period. -/
def tryReset (s : State) (m : Nat) : State := if cnvState s m = 3 then s.put (CNV_C_STAT_TRY m) 0 else s

/-- RELEASE_HELD_TIMEOUT. -/
def releaseHeld (s : State) (m : Nat) : State :=
  if cnvActive s m && s.flag (CNV_C_STAT_RELEASE m) then cnvFault s m 2 else s

/-- The total current against `x` / 10 A: its tenths of an ampere as a fraction over 2^163. -/
def currentOf (s : State) (m : Nat) : Int :=
  10 * (s.cnvOf m).iout.toInt * (2 ^ (signedOf 8 (s.fld (CNV_C_ILIM_I_E m)) + 128).toNat : Nat)
def currentBelow (s : State) (m x : Nat) : Bool := currentOf s m < ((x * 2 ^ 163 : Nat) : Int)
def currentAbove (s : State) (m x : Nat) : Bool := ((x * 2 ^ 163 : Nat) : Int) < currentOf s m

/-- PHASE_SHED: the highest active phase floats (R280). -/
def phaseShed (s : State) (m : Nat) : State :=
  let n := s.fld (CNV_C_STAT_NACT m)
  if cnvState s m = 3 && cnvBuck s m && s.flag (CNV_C_SHED_SHED_EN m) && !s.flag (CNV_C_STAT_RELEASE m)
      && s.fld (CNV_C_SHED_NMIN m) < n && currentBelow s m ((n - 1) * s.fld (CNV_C_SHTH_I_SHED m)) then
    cnvSync ((s.putAll [(CNV_C_STAT_NACT m, n - 1), (CNV_C_STAT_SHEDDING m, 1)]).inc (CNV_C_CNT_SHED_CNT m)) m
  else s

/-- The synchronous rectifier (R278). -/
def rectifier (s : State) (m : Nat) : State :=
  if cnvActive s m && !cnvBuck s m && (s.members (cnvGroup s m)).length = 4 then
    if currentAbove s m (s.fld (CNV_C_SR_SR_ON m)) then s.putFlag (CNV_C_STAT_SR_EN m) true
    else if currentBelow s m (s.fld (CNV_C_SR_SR_OFF m)) then s.putFlag (CNV_C_STAT_SR_EN m) false
    else s
  else s

/-- CONVERTER_OUTPUT_READ: after END, the total current and LIMITED (R276). IOUT shows tenths of an ampere; its rounding, and a
current it cannot hold, are left free (log 3, 4). -/
def converterRead (s : State) (m : Nat) : State :=
  if !s.flag (CNV_C_CFG_EN m) then s
  else
    let e := s.fld (CNV_C_CFG_ENGINE m)
    let s := s.setCnv m { s.cnvOf m with iout := s.word (dataAddr e 0x080), lim := s.word (dataAddr e 0x082) ≠ 0 }
    let v := s.rounded (currentOf s m) ((2 ^ 163 : Nat) : Int)
    let f := v.2.fresh
    let s := f.2.put (CNV_C_IOUT m) (if -32768 ≤ v.1 && v.1 < 32768 then codeOf 16 v.1 else f.1)
    let s := cnvSync (rectifier s m) m
    if currentAbove s m (s.fld (CNV_C_STAT_NACT m) * s.fld (CNV_C_SHTH_I_ADD m)) then loadStep s m else s

/-- A fault latch of a channel of the group is set (R121, R131). -/
def cnvLatched (s : State) (m : Nat) : Bool :=
  (s.members (cnvGroup s m)).any fun n =>
    if n < 24 then s.flag (GS_STAT_FAULT (2 * n)) || s.flag (GS_STAT_FAULT (2 * n + 1))
    else s.flag (LD_STAT_FAULT_HS (n - 24)) || s.flag (LD_STAT_FAULT_LS (n - 24))

/-- The causes that arise outside the block: a driver latch, a SAFE group, or one that leaves RUNNING. -/
def cnvWatch (old s : State) (m : Nat) : State :=
  let st := cnvState s m
  if st = 0 || st = 5 then s
  else if cnvLatched s m then cnvFault s m 4
  else if s.safe (cnvGroup s m) || (old.running (cnvGroup s m) && !s.running (cnvGroup s m)) then cnvFault s m 5
  else s

/-! ### Commands (R270, R282) -/

def cnvRefused (s : State) (st : Status) : State × Status := (s.refuse cnvErr st, st)

def cnvStart (s : State) (m : Nat) : State × Status :=
  if cnvState s m ≠ 1 then cnvRefused s .CNV_BUSY
  else if !s.running (cnvGroup s m) then cnvRefused s .CNV_GROUP_STOPPED
  else (softStart ((s.setCnv m { s.cnvOf m with starting := true }).put (CNV_C_STAT_TRY m) 0) m, .OK)

def cnvStop (s : State) (m : Nat) : State × Status :=
  let st := cnvState s m
  if 2 ≤ st && st ≤ 4 then (cnvEnter (cnvStartEnds s m .CNV_CANCELLED) m 1, .OK) else (s, .OK)

/-- CLR is accepted only in FAULT, and refused while the condition of cause 4 or 5 holds, whatever cause is recorded (R270, R282; the
status outside FAULT, log 120). -/
def cnvClr (s : State) (m : Nat) : State × Status :=
  if cnvState s m ≠ 5 then cnvRefused s .CNV_BUSY
  else if cnvLatched s m || !s.running (cnvGroup s m) then
    cnvRefused (s.put (CNV_C_STAT_CLR_RESULT m) 2) .CNV_FAULT_PERSISTS
  else (cnvEnter (s.putAll [(CNV_C_STAT_CLR_RESULT m, 1), (CNV_C_STAT_CAUSE m, 0)]) m 1, .OK)

/-! ### AUTO (R269) -/

/-- At the completion point of STANDBY, DRIVE, CHARGE or EXPORT the start of the AUTO slots falls due. -/
def autoDue (s : State) : State :=
  if s.mode = 0 || 4 < s.mode then s
  else s.each ((List.range 4).filter fun m => s.flag (CNV_C_CFG_EN m) && s.flag (CNV_C_CFG_AUTO m)) fun s m =>
    s.setCnv m { s.cnvOf m with auto := some s.mtime }

/-- The pair starts a slot that is due, within 50 ms and once its engine is armed and its group RUNNING (log 120). -/
def autoStart (s : State) (m : Nat) : State :=
  match (s.cnvOf m).auto with
  | none => s
  | some t =>
    let st := s.fld (LE_STAT_STATE (s.fld (CNV_C_CFG_ENGINE m)))
    if t + 20000000 < s.mtime || cnvState s m ≠ 1 then s.setCnv m { s.cnvOf m with auto := none }
    else if s.running (cnvGroup s m) && (st = 2 || st = 3) then (cnvStart (s.setCnv m { s.cnvOf m with auto := none }) m).1
    else s

/-- The legs of a group have changed: a leg takes the mask bit of the slot that it now belongs to, and none where there is no such
slot (R267). -/
def cnvRegroup (s : State) (n : Nat) : State :=
  let s := s.setLeg n { s.legOf n with floatReq := false }
  s.each ((List.range 4).filter fun m => s.flag (CNV_C_CFG_EN m)) cnvSync

/-! ### Enabling (R266) and register writes (R284-R286) -/

/-- The legs of the group match the slot's type. -/
def cnvLegsOk (s : State) (m : Nat) : Bool :=
  let legs := s.members (cnvGroup s m)
  let hv := (legs.filter fun n => n < 24).length
  let lv := legs.length - hv
  if cnvBuck s m then hv = 0 && decide (1 ≤ lv) && decide (lv ≤ 6) else hv = 2 && (lv = 0 || lv = 2)

/-- CL_SRC is enabled in the group and cuts every leg. -/
def cnvClOk (s : State) (m : Nat) : Bool :=
  let g := cnvGroup s m
  let src := s.fld (CNV_C_CFG_CL_SRC m)
  let on := if src < 16 then (s.fld (PWM_GRP_TMASK_P_PINS g)).testBit src
    else decide (src < 48) && (s.fld (PWM_GRP_TMASK_C_CMPS g)).testBit (src - 16)
  on && (cutLegs s g).length = (s.members g).length

/-- Why the enabled slot `m` of `s` may not stand (R266); OK if it may. -/
def cnvSlotStatus (s : State) (m : Nat) : Status :=
  let g := cnvGroup s m
  let twin := (List.range 4).any fun k =>
    (s.flag (TRC_M_CFG_EN k) && s.fld (TRC_M_CFG_GROUP k) = g) || (s.flag (ACT_CFG_EN k) && s.fld (ACT_CFG_GROUP k) = g)
    || (k ≠ m && s.flag (CNV_C_CFG_EN k) && s.fld (CNV_C_CFG_GROUP k) = g)
  firstOf [(groupUnfitted s g, .LEG_ABSENT),
    (!cnvLegsOk s m, .CNV_RANGE),
    (twin, .CNV_RANGE),
    (s.fld (PWM_GRP_CTRL_MODE g) ≠ 2 || s.fld (PWM_GRP_CTRL_UPD g) ≠ 3, .CNV_RANGE),
    (s.fld (LE_G_GRP_ENGINE g) ≠ s.fld (CNV_C_CFG_ENGINE m), .CNV_RANGE),
    (s.flag (CNV_C_CFG_CL_EN m) && !cnvClOk s m, .CNV_RANGE)]

/-- A write of CNV_C_CFG: EN = 1 enables the slot with every leg floated, EN = 0 disables it. -/
def cnvCfgWrite (s : State) (m data : Nat) : State × Status :=
  let a := 0x60048000 + m * 0x80
  let was := s.flag (CNV_C_CFG_EN m)
  let st := firstOf [(was && changesRwl s a data, .CNV_BUSY), (11 < bitsOf data 20 4 || 11 < bitsOf data 2 4 || 47 < bitsOf data 25 6, .CNV_RANGE)]
  if st ≠ .OK then cnvRefused s st
  else
    let r := writeFields s cnvErr a data
    let en := r.1.flag (CNV_C_CFG_EN m)
    if en && !was then
      let st := cnvSlotStatus r.1 m
      if st ≠ .OK then cnvRefused s st
      else
        let s := (r.1.setCnv m {}).put (CNV_C_STAT_CAUSE m) 0
        let s := cnvTarget (cnvEnter s m 1) m
        let s := writeRef (s.setCnv m { s.cnvOf m with ref := (s.cnvOf m).target }) m
        (cnvWatch s (writeCnvFlags (writeIlim s m) m) m, r.2)
    else if !en && was then (cnvEnter (cnvStartEnds r.1 m .CNV_CANCELLED) m 0, r.2)
    else r

/-- VOUT_SET changes: a new target; outside SOFT_START the reference follows it at once (R276). -/
def newTarget (s : State) (m : Nat) : State :=
  let s := cnvTarget s m
  let x := s.cnvOf m
  writeRef (if cnvState s m = 2 then s else s.setCnv m { x with ref := x.target }) m

def cnvCmdWrite (s : State) (m data : Nat) : State × Status :=
  let c := bitsOf data 0 2
  let r := if c = 1 then cnvStart s m else if c = 2 then cnvStop s m else (s, .OK)
  if data.testBit 4 then
    let q := cnvClr r.1 m
    (q.1, if r.2 = .OK then q.2 else r.2)
  else r

/-- Shedding switched off ends a shedding run (log 33). -/
def shedOff (s : State) (m : Nat) : State :=
  if !s.flag (CNV_C_SHED_SHED_EN m) && s.flag (CNV_C_STAT_SHEDDING m) then
    cnvSync (s.putAll [(CNV_C_STAT_NACT m, cnvPhases s m), (CNV_C_STAT_SHEDDING m, 0)]) m
  else s

/-- A write to a CNV_ register. -/
def cnvRegWrite (s : State) (a data : Nat) : State × Status :=
  let o := a - 0x60048000
  if o < 0x200 then
    let m := o / 0x80
    let k := o % 0x80
    let busy := s.flag (CNV_C_CFG_EN m) && changesRwl s a data
    let checked (range : Bool) (act : State → State) : State × Status :=
      let r := checkedWrite s cnvErr [(busy, .CNV_BUSY), (range, .CNV_RANGE)] a data
      if r.2 = .OK then (act r.1, .OK) else r
    if k = 0x00 then cnvCfgWrite s m data
    else if k = 0x04 then
      checked (bitsOf data 0 16 = 0) fun t => if t.fld (CNV_C_VSET_VOUT_SET m) = s.fld (CNV_C_VSET_VOUT_SET m) then t else newTarget t m
    else if k = 0x08 then checked (bitsOf data 0 18 = 0) id
    else if k = 0x0C then checked (bitsOf data 0 17 < 100 || 100000 < bitsOf data 0 17 || bitsOf data 17 8 = 0) id
    else if k = 0x10 then checked false fun t => writeIlim t m
    else if k = 0x14 then checked (bitsOf data 0 8 = 0 || bitsOf data 0 8 ≤ bitsOf data 8 8) id
    else if k = 0x18 then
      let n := bitsOf data 0 3
      checked ((cnvBuck s m && (n = 0 || cnvPhases s m < n)) || bitsOf data 4 10 = 0 || 1000 < bitsOf data 4 10) fun t => shedOff t m
    else if k = 0x1C then checked (bitsOf data 0 16 ≤ bitsOf data 16 16) id
    else if k = 0x20 then checked (bitsOf data 0 16 ≤ bitsOf data 16 16) id
    else if k = 0x24 then cnvCmdWrite s m data
    else checked false id
  else if o = 0x400 then writeLock s cnvErr data
  else writeFields s cnvErr a data

end Sys2Proof.Machine
end

