-- ==== Sys2Proof/Machine/Charger.lean ====
section
/-! DEFINITION. Chapter 11: pilot and proximity, mains, the charge session with its pulses, rests and safety timer, hand-over, and
reverse power (R287-R309). -/

namespace Sys2Proof.Machine

def chgErr : BlockErr where
  last := CHG_ERR_LAST_ERR
  cnt := CHG_ERR_ERR_CNT
  lock := CHG_LOCK
  locked := .CHG_LOCKED
  codes := [(.CHG_RANGE, 1), (.CHG_BUSY, 2), (.CHG_LOCKED, 3), (.LEG_ABSENT, 4)]

def State.setChg (s : State) (v : Chg) : State := { s with chg := v }

/-! ### Mode changes (R48, R50) -/

/-- The completion point of a mode change: the new code is written and its command completes with a status; DRIVE begins without zero
torque. -/
def completeModeAs (s : State) (m : Nat) (st : Status) : State :=
  (setMode (if m = 2 then clearZeroTorque s else s) m).finish .modeChange st

def completeMode (s : State) (m : Nat) : State := completeModeAs s m .OK

/-- A running mode change ends without effect, and its command completes with a status. -/
def abandonMode (s : State) (st : Status) : State :=
  (s.putAll [(PWR_MODE_CHANGING, 0), (PWR_MODE_TARGET, 0)]).finish .modeChange st

/-! ### References (R296, R297, R301, R305) -/

/-- The value of a reference at time `t`. -/
def Ramp.value (r : Ramp) (t : Nat) : Nat :=
  let d := (t - r.at_) * r.num / max 1 r.den
  if r.src < r.goal then min r.goal (r.src + d) else max r.goal (r.src - d)

/-- A reference that stands still. -/
def steadyRamp (v t : Nat) : Ramp := { src := v, goal := v, at_ := t }

/-- Ticks of a millisecond. -/
def msTicks : Nat := 400000

def chgState (s : State) : Nat := s.fld CHG_STAT_STATE

/-- The effective setpoint in 1/2,560 A: I_SET × DERATE / 256 (R297). -/
def effectiveSet (s : State) : Nat := s.fld CHG_SET_I_SET * s.fld (THM_DERATE 4)

/-- The battery current reference turns toward `goal` at I_RATE. -/
def rampCurrent (s : State) (goal : Nat) : State :=
  let c := s.chg
  s.setChg { c with bat := ⟨c.bat.value s.mtime, goal, s.mtime, 256 * s.fld CHG_LIM_I_RATE, msTicks⟩ }

/-- The battery current reference falls to 0 linearly over HO_T. -/
def rampOut (s : State) : State :=
  let c := s.chg
  let v := c.bat.value s.mtime
  s.setChg { c with bat := ⟨v, 0, s.mtime, v, max 1 (s.fld CHG_TMR_CFG_HO_T * msTicks)⟩ }

/-- The bus reference ramps from `v` (0.1 V) to a goal at BUS_RAMP. -/
def rampBus (s : State) (v goal : Nat) : State :=
  s.setChg { s.chg with bus := ⟨v, goal, s.mtime, 10 * s.fld CHG_PFC_BUS_RAMP, msTicks⟩ }

/-! ### Engine interface (R306) -/

def pfcEng (s : State) : Nat := s.fld CHG_CFG_PFC_ENG
def dabEng (s : State) : Nat := s.fld CHG_CFG_DAB_ENG
def bstEng (s : State) : Nat := s.fld CHG_CFG_BST_ENG

/-- The program that an engine holds (R205). -/
def programId (s : State) (e : Nat) : Nat := bitsOf (s.word (progAddr e 4)).toNat 0 16

/-- A quantity in a slot times `k`, as an integer over 2^163: mantissa / 2^35 × 2^E (R156). -/
def slotQty (s : State) (e addr k : Nat) : Int :=
  let ex := signedOf 8 (bitsOf (s.word (dataAddr e (addr + 1))).toNat 24 8)
  (k : Int) * (s.word (dataAddr e addr)).toInt * (2 ^ (ex + 128).toNat : Nat)

/-- One over 2^163, the unit of `slotQty`. -/
def qtyOne : Nat := 2 ^ 163

/-- A slot's quantity times `k` as a whole number; its rounding is left free (log 4). -/
def slotWhole (s : State) (e addr k : Nat) : Int × State := s.rounded (slotQty s e addr k) (qtyOne : Int)

/-- Write num / den of a physical unit into a slot. The exponent is the block's own; the rounding, and a quantity that the exponent
cannot hold, are left free (log 3, 4, 39). -/
def writeQty (s : State) (e addr num den : Nat) : State :=
  let ex := Config.chgExponent addr % 256
  let x := s.rounded ((num * 2 ^ 163 : Nat) : Int) ((den * 2 ^ (signedOf 8 ex + 128).toNat : Nat) : Int)
  let f := x.2.fresh
  writeSlot f.2 e addr ⟨if x.1 < 2 ^ 35 then BitVec.ofInt 36 x.1 else BitVec.ofNat 36 f.1, ex, true, false, false, false, s.mtime, 0⟩

def writeChgFlags (s : State) (e addr v : Nat) : State :=
  writeSlot s e addr ⟨BitVec.ofNat 36 v, 0, true, false, false, false, s.mtime, 0⟩

/-- A measured quantity in a field of `w` bits, unsigned; one that the field cannot hold is `free` (log 3). -/
def fitsOr (w : Nat) (x : Int) (free : Nat) : Nat := if 0 ≤ x && x < 2 ^ w then x.toNat else free

/-- The same for a signed field. -/
def fitsSigned (w : Nat) (x : Int) (free : Nat) : Nat := if -(2 ^ (w - 1)) ≤ x && x < 2 ^ (w - 1) then codeOf w x else free

/-- The cable capacity of the present band in 0.1 A; 0 without a plug, in which no current is drawn (log 121). -/
def cableCap (s : State) : Nat := if s.flag CHG_STAT_PLUG then 10 * s.fld (CHG_PP_CAP (s.fld CHG_STAT_PP_BAND)) else 0

/-- The input current limit per phase in 0.1 A (R293). -/
def inputLimit (s : State) : Nat :=
  let l := min (s.fld CHG_LIM_GRID_I) (cableCap s)
  if s.flag CHG_PILOT_DIGITAL then l else min l (s.fld CHG_PILOT_I_PILOT)

/-- The states in which a group runs. A hand-over floats what ran before it, and lets nothing run that did not (R295, R301). -/
def pfcRuns (s : State) : Bool :=
  let st := chgState s
  (st = 2 && s.chg.ramping) || st = 3 || st = 4 || (st = 5 && 2 ≤ s.chg.hoFrom && s.chg.hoFrom ≤ 4)
def dabRuns (s : State) : Bool :=
  let st := if chgState s = 5 then s.chg.hoFrom else chgState s
  st = 3 || st = 4 || st = 8
def bstRuns (s : State) : Bool := chgState s = 9

/-- The DAB exports, or ends an export. -/
def exporting (s : State) : Bool := chgState s = 8 || (chgState s = 5 && s.chg.hoFrom = 8)

/-- The slots of the engines with the registers and the references at the present time. -/
def putSlots (s : State) : State :=
  let c := s.chg
  let t := s.mtime
  let s := writeQty s (pfcEng s) 0x060 (c.bus.value t) 10
  let s := writeQty s (pfcEng s) 0x062 (inputLimit s) 10
  let s := writeChgFlags s (pfcEng s) 0x064 (bit (pfcRuns s) + 4 * c.phases)
  let s := writeQty s (dabEng s) 0x060 (c.bat.value t) 2560
  let s := writeQty s (dabEng s) 0x062 (s.fld CHG_SET_V_LIM) 10
  let s := writeQty s (dabEng s) 0x064 (if exporting s then c.bus.value t else s.fld CHG_EXP_EXP_V) 10
  let s := writeQty s (dabEng s) 0x066 (if exporting s && chgState s = 5 then c.exp.value t else s.fld CHG_EXP_EXP_I) 10
  let s := writeChgFlags s (dabEng s) 0x068 (bit (dabRuns s) + 2 * bit (exporting s))
  if s.fld CHG_CFG_BST_GRP = 15 then s
  else
    let s := writeChgFlags s (bstEng s) 0x068 (bit (bstRuns s) + 2 * bit (bstRuns s && s.mode ≠ 4))
    writeQty s (bstEng s) 0x06A (c.acc.value t) 10

/-- Bring every slot up to date while the block is enabled. -/
def chgSlots (s : State) : State := if s.flag CHG_CFG_EN then putSlots s else s

/-! ### Float masks (R288, R295) -/

/-- Set the float mask of a group: all legs or none. -/
def floatGroup (s : State) (g : Nat) (b : Bool) : State := s.each (s.members g) fun s n => s.setLeg n { s.legOf n with floatReq := b }

/-- The float masks of the block's groups; on single-phase mains leg c of a three-phase PFC stays floated (R288). -/
def chgFloats (s : State) : State :=
  let p := s.fld CHG_CFG_PFC_GRP
  let s := floatGroup s p (!pfcRuns s)
  let s := if s.chg.phases = 1 then
      match (s.members p)[2]? with
      | some n => s.setLeg n { s.legOf n with floatReq := true }
      | none => s
    else s
  let s := floatGroup s (s.fld CHG_CFG_DAB_GRP) (!dabRuns s)
  if s.fld CHG_CFG_BST_GRP = 15 then s else floatGroup s (s.fld CHG_CFG_BST_GRP) (!bstRuns s)

/-- The floats of a hand-over apply at this update point (R301, log 36). -/
def applyChgFloats (s : State) : State :=
  s.each [s.fld CHG_CFG_PFC_GRP, s.fld CHG_CFG_DAB_GRP] fun s g => if s.running g then applyFloats s g s.mtime else s

/-! ### Reduction reasons and timer rate (R299, R300) -/

/-- THERMAL, GRID, PILOT and CAPACITY from bit 0 up. -/
def reductions (s : State) : Nat :=
  let c := s.chg.limits
  let thermal := s.fld (THM_DERATE 4) < 256 && 0 < s.fld CHG_SET_I_SET
  let input := c.testBit 1
  let pilot := input && !s.flag CHG_PILOT_DIGITAL && s.fld CHG_PILOT_I_PILOT ≤ min (s.fld CHG_LIM_GRID_I) (cableCap s)
  bit thermal + 2 * bit (input && !pilot) + 4 * bit pilot + 8 * bit (c.testBit 2)

/-- The rate of the safety timer in a state, in 0.25 s (R300). -/
def rateIn (s : State) (st : Nat) : Nat :=
  if st = 3 then (if s.fld CHG_STAT_RED = 0 then 2 else 1) else if st = 4 then s.chg.rate else 0

/-- Update the reasons, CV and the timer's rate. -/
def updateRed (s : State) : State :=
  let r := reductions s
  let c := s.chg
  let s := if r = s.fld CHG_STAT_RED then s else s.setChg { c with redMoved := true }
  let s := s.putAll [(CHG_STAT_RED, r), (CHG_STAT_CV, bit (c.limits.testBit 0))]
  let st := chgState s
  let rate := rateIn s st
  (s.setChg { s.chg with rate := if st = 3 then rate else s.chg.rate }).put CHG_TIMER_RATE rate

/-- What every change of state or setting ends with. -/
def chgSync (s : State) : State := chgSlots (chgFloats (updateRed s))

def chgEnter (s : State) (st : Nat) : State := chgSync (s.put CHG_STAT_STATE st)

/-! ### Hand-over and session ends (R301, R302, R309) -/

/-- The session closes with a cause. -/
def closeSession (s : State) (cause : Nat) : State :=
  let s := s.putAll [(CHG_STAT_END_CAUSE, cause), (CHG_STAT_SESSION_OPEN, 0)]
  s.when (cause = 6) fun s => s.inc CHG_CNT_PILOT_FLT

/-- The status of an END_CAUSE (R309). -/
def endStatus (cause : Nat) : Status :=
  match cause with
  | 1 => .CHG_COMPLETE | 2 => .TIMER_EXPIRED | 3 => .TIMER_EXPIRED_DERATED | 4 => .PLUG_REMOVED | 5 => .MAINS_LOST
  | 6 => .PILOT_FAULT | 7 => .CHG_STOPPED | 8 => .CHG_SAFE_STOP | 9 => .EXPORT_SP_STALE | 10 => .EXPORT_BAT_LOW
  | _ => .BOOST_OVERLOAD

/-- The hand-over that runs began in this very evaluation (R303). -/
def sameEvaluation (s : State) : Bool := chgState s = 5 && s.chg.hoAt = s.mtime

/-- The order of R303 among what ends a pulse: 0 a stop that nothing changes, 1 an unplug, 2 a loss, 3 the pilot, 4 the timer,
5 CHG_COMPLETE. -/
def After.order : After → Nat
  | .refused => 0
  | .unplugged => 1
  | .wait => 2
  | .paused => 3
  | .standby c => if c = 6 then 3 else if c = 2 || c = 3 then 4 else if c = 1 then 5 else 0

/-- Two causes in one evaluation: the earlier in the order takes effect, but a timer expiry or CHG_COMPLETE beside a stop that would
let the session go on ends the session after the hand-over (R301, R303; log 121). -/
def After.merge (a b : After) : After :=
  let first := if b.order < a.order then b else a
  let second := if b.order < a.order then a else b
  if (first = .wait || first = .paused) && 4 ≤ second.order then second else first

/-- A way to STANDBY is a mode change under way. -/
def markChange (s : State) (after : After) : State :=
  if s.mode = 3 || s.mode = 4 then
    match after with
    | .standby _ => s.putAll [(PWR_MODE_CHANGING, 1), (PWR_MODE_TARGET, 1)]
    | _ => s.putAll [(PWR_MODE_CHANGING, 0), (PWR_MODE_TARGET, 0)]
  else s

/-- Enter HANDOVER: the current ramps to 0 over HO_T, that of an export with its limit (R301, R304). -/
def handOver (s : State) (after : After) : State :=
  if sameEvaluation s then
    let a := s.chg.after.merge after
    chgSync (markChange (s.setChg { s.chg with after := a }) a)
  else
    let i := s.fld CHG_EXP_EXP_I
    let s := s.setChg { s.chg with exp := ⟨i, 0, s.mtime, i, max 1 (s.fld CHG_TMR_CFG_HO_T * msTicks)⟩, hoFrom := chgState s, hoAt := s.mtime }
    chgEnter (markChange (rampOut (s.setChg { s.chg with after := after, ramping := false, edge := none })) after) 5

/-- The charger is idle: no class, no export, every leg floats. -/
def chgIdle (s : State) : State :=
  chgEnter ((s.setChg { s.chg with ramping := false, resume := false, edge := none, phases := 0, lines := 0 }).putAll
    [(CHG_STAT_CLASS, 0), (CHG_STAT_EXP_READY, 0)]) 1

/-- The mode returns to STANDBY, or a change that has not reached its completion point ends; the command that waits completes with the
end's status (R309). -/
def toStandby (s : State) (st : Status) : State :=
  if s.mode = 3 || s.mode = 4 then completeModeAs s 1 st
  else if s.mode = 1 && s.flag PWR_MODE_CHANGING then abandonMode s st
  else s

/-- The end of a session, of an export or of a boost: recorded, idle, STANDBY. -/
def chgStandby (s : State) (cause : Nat) : State := toStandby (chgIdle (closeSession s cause)) (endStatus cause)

/-- The pilot allows charge (R290, R291). -/
def pilotAllows (s : State) : Bool :=
  let d := s.fld CHG_PILOT_DUTY
  let st := s.fld CHG_PILOT_STATE
  !s.flag CHG_PILOT_STEADY && (st = 2 || st = 3) && ((30 ≤ d && d ≤ 70) || (80 ≤ d && d ≤ 970))

/-- The pilot state leads to PILOT_FAULT. -/
def pilotFaulty (s : State) : Bool := let st := s.fld CHG_PILOT_STATE; st = 0 || 4 ≤ st

/-- QUALIFY's bus ramp: the PFC unfloats and the reference leaves the present bus voltage (R296). -/
def beginRamp (s : State) (resume : Bool) (lines : Nat) : State :=
  let v := slotWhole s (pfcEng s) 0x040 10
  let n := (bitsSet 3 lines).length
  let s := v.2.setChg { v.2.chg with ramping := true, resume := resume, phases := n, lines := lines }
  let s := rampBus (s.put CHG_GRID_PH n) v.1.toNat (s.fld CHG_PFC_BUS_SET)
  chgEnter s 2

/-- Act on the plug, then on the pilot, in the order of R303. -/
def chgReact (s : State) : State :=
  let st := chgState s
  let unplugged := !s.flag CHG_STAT_PLUG
  if st = 3 || st = 4 || (sameEvaluation s && s.chg.hoFrom ≠ 8) then
    if unplugged then handOver s .unplugged
    else if pilotFaulty s then handOver s (.standby 6)
    else if !pilotAllows s then handOver s .paused
    else s
  else if st = 7 then
    if unplugged then handOver s .unplugged
    else if pilotFaulty s then handOver s (.standby 6)
    else if pilotAllows s then beginRamp s true s.chg.lines
    else s
  else if st = 6 && s.flag CHG_STAT_SESSION_OPEN then
    if unplugged || s.chg.plugOut then closeSession s 4
    else if pilotFaulty s then chgStandby s 6
    else s
  else if st = 2 && s.chg.resume then
    if unplugged then handOver s .unplugged
    else if pilotFaulty s then handOver s (.standby 6)
    else s
  else if st = 8 && unplugged then handOver s (.standby 4)
  else s

/-- HANDOVER_COMPLETE: both floats apply; what waited is acted on now (R301). -/
def handoverComplete (s : State) : State :=
  if chgState s ≠ 5 then s
  else
    let s := s.setChg { s.chg with bat := steadyRamp 0 s.mtime, edge := none }
    let done (s : State) : State := applyChgFloats s
    match s.chg.after with
    | .paused => chgReact (done (chgEnter s 7))
    | .wait => chgReact (done (chgEnter s 6))
    | .unplugged => done (chgEnter (closeSession s 4) 6)
    | .refused => abandonMode (done (chgIdle s)) .CHG_NO_MAINS
    | .standby c => toStandby (done (chgIdle (closeSession s c))) (endStatus c)

/-! ### Pilot (R289-R291) -/

/-- I_PILOT in 0.1 A for a duty in 0.1 %; the fraction below 0.1 A is rounded either way (log 4). -/
def pilotCurrent (s : State) (d : Nat) : Nat × State :=
  if d < 80 then (0, s)
  else if d ≤ 100 then (60, s)
  else if d ≤ 850 then let r := s.rounded ((6 * d : Nat) : Int) 10; (r.1.toNat, r.2)
  else if d ≤ 960 then let r := s.rounded ((5 * (d - 640) : Nat) : Int) 2; (r.1.toNat, r.2)
  else if d ≤ 970 then (800, s) else (0, s)

/-- An oscillating pilot in state C or D sets the pilot current. -/
def takeDuty (s : State) : State :=
  let st := s.fld CHG_PILOT_STATE
  if !s.flag CHG_PILOT_STEADY && (st = 2 || st = 3) then
    let d := s.fld CHG_PILOT_DUTY
    let r := pilotCurrent s d
    r.2.putAll [(CHG_PILOT_I_PILOT, r.1), (CHG_PILOT_DIGITAL, bit (30 ≤ d && d ≤ 70))]
  else s

/-- PILOT_EDGE: the edge is timed, and the middle of the plateau that it begins is set from the length of the plateau before of the same
level: the high one's, and the low one's if it lasts 20 µs or more (log 35). A conversion whose plateau ends early is not requested. -/
def pilotEdge (s : State) (rise : Bool) : State :=
  if !s.flag CHG_CFG_EN then s
  else
    let c := s.chg
    let t := s.mtime
    let c := if s.flag CHG_PILOT_STEADY then { c with agree := 0 } else c
    let s := s.putFlag CHG_PILOT_STEADY false
    if rise then
      let low := match c.fall with | some f => t - f | none => c.low
      let period := match c.rise with | some r => t - r | none => 0
      let s := s.setChg { c with rise := some t, low := low, period := period, lowAt := none,
                                 highAt := if c.high = 0 then none else some (t + (c.high + 1) / 2),
                                 lowOk := c.lowOk || decide (low < 8000) }
      let d := s.rounded ((1000 * c.high : Nat) : Int) ((max 1 period : Nat) : Int)
      if period = 0 then s else d.2.put CHG_PILOT_DUTY d.1.toNat
    else
      let high := match c.rise with | some r => t - r | none => c.high
      s.setChg { c with fall := some t, high := high, highAt := none, lowAt := if c.low < 8000 then none else some (t + c.low / 2) }

/-- The conversions that fall due at this tick. -/
def pilotTick (s : State) : State :=
  let c := s.chg
  if !s.flag CHG_CFG_EN then s
  else if c.highAt = some s.mtime then
    adcUrgent (s.setChg { c with highAt := none, wantLow := false }) (s.fld CHG_SENSE_PILOT_ADC)
  else if c.lowAt = some s.mtime then
    adcUrgent (s.setChg { c with lowAt := none, wantLow := true }) (s.fld CHG_SENSE_PILOT_ADC)
  else s

/-- PILOT_STEADY: 3 ms without an edge; one conversion per millisecond from then on. -/
def pilotSteady (s : State) : State :=
  if !s.flag CHG_CFG_EN then s
  else
    let c := s.chg
    let c := if s.flag CHG_PILOT_STEADY then c else { c with rise := none, fall := none, period := 0, agree := 0, highAt := none, lowAt := none }
    adcUrgent ((s.setChg { c with wantLow := false }).putFlag CHG_PILOT_STEADY true) (s.fld CHG_SENSE_PILOT_ADC)

/-- V_pilot of a code in 1/4,096 of 10 mV: (code × 2.5 V / 4,096 − 1.25 V) × 10. -/
def pilotVolts (code : Nat) : Int := 2500 * (code : Int) - 1250 * 4096

/-- The level lies between `lo` and `hi` volts. -/
def voltsIn (v : Int) (lo hi : Int) : Bool := decide (lo * 409600 ≤ v) && decide (v ≤ hi * 409600)

/-- The state of a level (R290); an oscillating pilot is never in E or F. -/
def pilotLevel (v : Int) (steady : Bool) : Nat :=
  if voltsIn v 11 13 then 0 else if voltsIn v 8 10 then 1 else if voltsIn v 5 7 then 2 else if voltsIn v 2 4 then 3
  else if steady && voltsIn v (-1) 1 then 4 else if steady && voltsIn v (-13) (-11) then 5 else 6

/-- The period lies within 980 Hz to 1,020 Hz. -/
def pilotFreqOk (p : Nat) : Bool := decide (400000000 ≤ 1020 * p) && decide (980 * p ≤ 400000000)

/-- PILOT_RESULT: a low plateau is judged; a high plateau or a steady level gives the state of a cycle, and the third that agrees
is taken. -/
def pilotResult (s : State) : State :=
  let b := adcMirror (s.fld CHG_SENSE_PILOT_ADC) 16
  if !s.flag CHG_CFG_EN || !s.flag (RES_FLAGS_VALID b) || s.flag (RES_FLAGS_FAULT b) then s
  else
    let v := pilotVolts (s.fld (RES_RAW b) % 2 ^ 12)
    let r := s.rounded v 4096
    let s := r.2
    let c := s.chg
    if c.wantLow then
      (s.setChg { c with lowOk := voltsIn v (-13) (-11), wantLow := false }).put CHG_PILOT_V_VLO (codeOf 16 r.1)
    else
      let s := s.put CHG_PILOT_V_VHI (codeOf 16 r.1)
      let steady := s.flag CHG_PILOT_STEADY
      if !steady && c.period = 0 then s
      else
      let lvl := pilotLevel v steady
      let cand := if !steady && (!c.lowOk || !pilotFreqOk c.period) then 6 else lvl
      let agree := if cand = c.cand then min 3 (c.agree + 1) else 1
      let s := s.setChg { c with cand := cand, agree := agree }
      if 3 ≤ agree then chgSync (chgReact (takeDuty (s.put CHG_PILOT_STATE cand))) else s

/-! ### Proximity (R292) -/

/-- The band that a code falls into. -/
def bandOf (s : State) (code : Nat) : Option Nat :=
  (List.range 4).find? fun b => s.fld (CHG_PP_LO b) ≤ code && code ≤ s.fld (CHG_PP_HI b)

/-- PROXIMITY_RESULT: an invalid result keeps the last decision. -/
def proximityResult (s : State) : State :=
  let b := adcMirror (s.fld CHG_SENSE_PP_ADC) (s.fld CHG_SENSE_PP_ENTRY)
  if !s.flag CHG_CFG_EN || !s.flag (RES_FLAGS_VALID b) || s.flag (RES_FLAGS_FAULT b) then s
  else
    let x := bandOf s (s.fld (RES_RAW b) % 2 ^ 12)
    let s := s.setChg { s.chg with band := x }
    match x with
    | some k => chgSync (s.put CHG_STAT_PP_BAND k)
    | none => s

/-- PLUG_DEBOUNCE: 10 ms in a band set PLUG, 10 ms in no band or of invalid results clear it. -/
def plugDebounce (s : State) (plugged : Bool) : State :=
  if !s.flag CHG_CFG_EN || (plugged && s.chg.band.isNone) then s
  else
    let s := s.putFlag CHG_STAT_PLUG plugged
    let s := if plugged then s else s.setChg { s.chg with plugOut := true }
    chgSync (chgReact s)

/-! ### Mains (R294, R296) -/

/-- The RMS of a phase as an integer over 2^163. -/
def rmsOf (s : State) (p : Nat) : Int := slotQty s (pfcEng s) (0x080 + 2 * p) 1
def volts (v : Nat) : Int := ((v * qtyOne : Nat) : Int)

/-- The frequency lies in 45 Hz to 65 Hz. -/
def freqOk (s : State) : Bool :=
  let f := slotQty s (pfcEng s) 0x086 1
  decide (volts 45 ≤ f) && decide (f ≤ volts 65)

/-- The number of phases at 85 V or more. -/
def livePhases (s : State) : Nat := ((List.range 3).filter fun p => volts 85 ≤ rmsOf s p).length

/-- Which they are, bit 0 for phase a. -/
def liveLines (s : State) : Nat := ((List.range 3).map fun p => 2 ^ p * bit (volts 85 ≤ rmsOf s p)).sum

/-- Every live phase is at 85 V to 265 V, and the frequency is right. -/
def mainsGood (s : State) : Bool :=
  freqOk s && 0 < livePhases s && (List.range 3).all fun p => rmsOf s p < volts 85 || rmsOf s p ≤ volts 265

/-- The peak line voltage stays at or below BUS_SET − 30 V: √2 of the RMS of single-phase mains, √6 of three-phase mains. -/
def peakOk (s : State) : Bool :=
  let k : Int := if livePhases s = 3 then 6 else 2
  let lim : Int := ((s.fld CHG_PFC_BUS_SET : Int) - 300) * (qtyOne : Nat)
  (List.range 3).all fun p => decide (0 ≤ lim) && decide (100 * k * rmsOf s p * rmsOf s p ≤ lim * lim)

/-- The mains can be run by the PFC's program: one phase, or three with 0x0004 (R294). -/
def mainsSupported (s : State) : Bool :=
  (livePhases s = 1 || (livePhases s = 3 && programId s (pfcEng s) ≠ 3)) && peakOk s

/-- Mains loss (R294, R301). -/
def mainsLoss (s : State) : State :=
  let st := chgState s
  if sameEvaluation s && (s.chg.after = .wait || s.chg.after = .refused) then s
  else if st = 3 || st = 4 || (st = 2 && s.chg.ramping) || sameEvaluation s then
    let s := s.inc CHG_CNT_LOSS_CNT
    let s := s.setChg { s.chg with plugOut := !s.flag CHG_STAT_PLUG }
    handOver s (if s.flag CHG_STAT_SESSION_OPEN then .wait else if s.mode = 3 then .wait else .refused)
  else s

/-- MAINS_REPORT: a half-cycle's RMS (the lowest of the session's phases, or before one of the live ones) and frequency; a phase of the session below 70 V or a wrong frequency is mains loss. -/
def mainsReport (s : State) : State :=
  if !s.flag CHG_CFG_EN then s
  else
    let e := pfcEng s
    let mine := bitsSet 3 (if s.chg.lines ≠ 0 then s.chg.lines else if liveLines s ≠ 0 then liveLines s else 7)
    let low := mine.foldl (fun m p => if rmsOf s p < rmsOf s m then p else m) (mine.headD 0)
    let v := slotWhole s e (0x080 + 2 * low) 1
    let f := slotWhole v.2 e 0x086 10
    let x := f.2.fresh
    let s := x.2.putAll [(CHG_GRID_VRMS, fitsOr 10 v.1 x.1), (CHG_GRID_FREQ, fitsOr 10 f.1 x.1)]
    if !freqOk s || mine.any (fun p => rmsOf s p < volts 70) then mainsLoss s else s

/-- MAINS_ZERO_CROSS_TIMEOUT: no zero crossing for 30 ms. -/
def zeroCrossTimeout (s : State) : State := if s.flag CHG_CFG_EN then mainsLoss s else s

/-- MAINS_QUALIFIED: 100 ms of qualified mains in QUALIFY. -/
def mainsQualified (s : State) : State :=
  if chgState s = 2 && !s.chg.ramping && mainsGood s then
    if mainsSupported s then beginRamp s false (liveLines s) else abandonMode (chgIdle s) .CHG_MAINS_UNSUPPORTED
  else s

/-- QUALIFY_TIMEOUT: 5 s without qualified mains. -/
def qualifyTimeout (s : State) : State :=
  if chgState s = 2 && !s.chg.ramping then abandonMode (chgIdle s) .CHG_NO_MAINS else s

/-- A slot's quantity, in tenths, lies within 2 % of a goal in tenths. -/
def within2 (s : State) (e addr goal : Nat) : Bool :=
  let d := slotQty s e addr 10 - ((goal * qtyOne : Nat) : Int)
  decide (50 * d.natAbs ≤ goal * qtyOne)

/-- A new session opens (R296). -/
def openSession (s : State) : State :=
  let s := (s.setChg { s.chg with elapsed := 0, rate := 0 }).inc CHG_CNT_SESS_CNT
  s.putAll [(CHG_SESS_ID, s.fld CHG_SESS_ID + 1), (CHG_SESS_RESUMES, 0), (CHG_TIMER_ELAPSED, 0), (CHG_STAT_SESSION_OPEN, 1)]

/-- PULSE begins with a ramp to the effective setpoint, whose edge gives Z_ON (R298). -/
def beginPulse (s : State) : State :=
  let s := s.setChg { s.chg with edge := some (true, s.mtime), redMoved := false }
  chgEnter (rampCurrent s (effectiveSet s)) 3

/-- BUS_READY: the bus is within 2 % of BUS_SET; the session opens or goes on. -/
def busReady (s : State) : State :=
  if chgState s = 2 && s.chg.ramping && within2 s (pfcEng s) 0x040 (s.fld CHG_PFC_BUS_SET) then
    let fresh := !s.chg.resume
    let s := if fresh then openSession s else s
    let s := s.setChg { s.chg with ramping := false, resume := false, bat := steadyRamp 0 s.mtime }
    let s := if pilotAllows s then beginPulse s else chgEnter s 7
    let s := if fresh && s.mode ≠ 3 then completeMode s 3 else s
    chgReact s
  else s

/-! ### Pulses, rests and measurements (R297, R298) -/

/-- PULSE_END: the current ramps down into REST. -/
def chargePulseEnd (s : State) : State :=
  if chgState s = 3 && s.flag CHG_PULSE_PULSE_EN then
    let s := s.setChg { s.chg with edge := some (false, s.mtime), redMoved := false }
    chgEnter (rampCurrent s 0) 4
  else s

/-- REST_END: OCV and RLX from the two window means, in 10 mV; the current ramps up into PULSE. -/
def restEnd (s : State) (ocv early : Nat) : State :=
  if chgState s = 4 then
    let o := s.rounded (ocv : Int) 10
    let f := o.2.fresh
    beginPulse (f.2.putAll [(CHG_OCV, fitsOr 16 o.1 f.1), (CHG_OCV_RLX, fitsSigned 16 ((ocv : Int) - early) f.1), (CHG_OCV_T, s.mtime)])
  else s

/-- IMPEDANCE_WINDOW_END: Z from the differences of the window means; one that does not fit its field is left free (log 3). -/
def impedanceEnd (s : State) (mv ma : Int) : State :=
  match s.chg.edge with
  | none => s
  | some (up, t) =>
    let bad := ma.natAbs < 1000 || decide (ma.natAbs * 256 < 10 * effectiveSet s) || s.chg.redMoved
    let s := s.setChg { s.chg with edge := none }
    let s := s.put CHG_Z_T t
    if bad then (s.putFlag (if up then CHG_Z_ON_VALID else CHG_Z_OFF_VALID) false).inc CHG_CNT_Z_REJ
    else
      let z := s.rounded (10000 * mv * (if ma < 0 then -1 else 1)) (ma.natAbs : Int)
      let f := z.2.fresh
      let v := if 0 ≤ z.1 && z.1 < 32768 then z.1.toNat else f.1
      f.2.putAll [(if up then CHG_Z_Z_ON else CHG_Z_Z_OFF, v), (if up then CHG_Z_ON_VALID else CHG_Z_OFF_VALID, 1)]

/-! ### After each END (R299, R304-R306) -/

/-- The outputs of the DAB program: battery current and voltage with their time, and the limit code. Currents and voltages that the
registers cannot hold are left free (log 3). -/
def dabRead (s : State) : State :=
  let e := dabEng s
  let i := slotWhole s e 0x080 10
  let v := slotWhole i.2 e 0x082 10
  let f := v.2.fresh
  let s := f.2.putAll [(CHG_BAT_I, fitsSigned 16 i.1 f.1), (CHG_BAT_V, fitsOr 16 v.1 f.1), (CHG_BAT_T, (s.engOf e).trig)]
  let s := s.setChg { s.chg with limits := (s.word (dataAddr e 0x086)).toNat }
  let s := chgSync s
  if chgState s = 8 && s.fld CHG_BAT_V < s.fld CHG_EXP2_VBAT_MIN then handOver s (.standby 10) else s

/-- CHARGER_OUTPUT_READ: 0 the PFC engine, 1 the DAB engine, 2 the boost engine. -/
def chargerRead (s : State) (unit : Nat) : State :=
  if !s.flag CHG_CFG_EN then s
  else if unit = 0 then chgSync s
  else if unit = 1 then dabRead s
  else chgSlots (s.setChg { s.chg with lim := s.word (dataAddr (bstEng s) 0x082) ≠ 0 })

/-- The boost's current-limited periods (R305): 64 in a row end it. -/
def boostLimit (s : State) : State :=
  if chgState s ≠ 9 then s
  else
    let c := s.chg
    let h := s.grpOf (s.fld CHG_CFG_BST_GRP)
    let n := if h.prevRan && (h.prevTrip || c.limStart) then c.limRun + 1 else 0
    let s := s.setChg { c with limStart := c.lim, limRun := n }
    if 64 ≤ n then chgStandby (s.setChg { s.chg with limRun := 0 }) 11 else s

/-- CHARGE_TERMINATION: CV with a battery current below I_TERM for TERM_T. -/
def chargeTermination (s : State) : State :=
  let t := s.fld CHG_LIM_I_TERM
  if (chgState s = 3 || (sameEvaluation s && s.chg.hoFrom = 3)) && s.flag CHG_STAT_CV && t ≠ 0 && signedOf 16 (s.fld CHG_BAT_I) < t then handOver s (.standby 1) else s

/-- SAFETY_TIMER_EVALUATION: the reasons are updated before the timer; at TIMER_MAX the session ends (R300). -/
def safetyTimer (s : State) : State :=
  if !s.flag CHG_CFG_EN then s
  else
    let s := chgSync s
    let st := if sameEvaluation s then s.chg.hoFrom else chgState s
    let c := s.chg
    let n := c.elapsed + rateIn s st
    let f := s.fresh
    let s := (f.2.setChg { c with elapsed := n }).put CHG_TIMER_ELAPSED (fitsOr 16 ((n / 2 : Nat) : Int) f.1)
    if (st = 3 || st = 4) && 240 * s.fld CHG_TMR_CFG_TIMER_MAX ≤ n then
      handOver s (.standby (if s.fld CHG_STAT_RED % 8 ≠ 0 then 3 else 2))
    else s

/-! ### WAIT (R302) -/

/-- SESSION_RESUME: 2 s of qualified mains with the plug in: the same session resumes, or a new one opens. -/
def sessionResume (s : State) : State :=
  if chgState s = 6 && s.flag CHG_STAT_PLUG && mainsGood s then
    let same := s.chg.phases = livePhases s
    let s := if s.flag CHG_STAT_SESSION_OPEN && !same then closeSession s 5 else s
    if s.flag CHG_STAT_SESSION_OPEN then beginRamp (s.inc CHG_SESS_RESUMES) true (liveLines s)
    else if mainsSupported s then beginRamp s false (liveLines s)
    else s
  else s

/-- WAIT_TIMEOUT: an open session closes with MAINS_LOST; the mode returns to STANDBY. -/
def waitTimeout (s : State) : State :=
  if chgState s = 6 then
    let s := if s.flag CHG_STAT_SESSION_OPEN then closeSession s 5 else s
    toStandby (chgIdle s) .MAINS_LOST
  else s

/-! ### SET_MODE (R49, R52, R296, R304, R305) -/

/-- SET_MODE CHARGE: QUALIFY begins. The block must be IDLE (log 38). -/
def chgBegin (s : State) : State × Status :=
  if chgState s ≠ 1 then (s, .CHG_RANGE)
  else (chgEnter ((s.setChg { s.chg with ramping := false, resume := false, phases := 0 }).put CHG_STAT_CLASS 1) 2, .OK)

/-- SET_MODE EXPORT, class V2V (false) or BOOST (true). -/
def exportBegin (s : State) (boost : Bool) : State × Status :=
  let bat := slotWhole s (bstEng s) 0x050 10
  if chgState s ≠ 1 then (s, .CHG_RANGE)
  else if boost then
    if s.fld CHG_CFG_BST_GRP = 15 || s.fld CHG_BST_ACC_V < s.fld CHG_BAT_V + 200 then (s, .CHG_RANGE)
    else
      let s := bat.2.setChg { bat.2.chg with acc := ⟨bat.1.toNat, s.fld CHG_BST_ACC_V, s.mtime, 10 * s.fld CHG_BST_ACC_RAMP, msTicks⟩,
                                             lim := false, limStart := false, limRun := 0 }
      (chgEnter (s.put CHG_STAT_CLASS 3) 9, .OK)
  else if s.fld CHG_BAT_V < s.fld CHG_EXP2_VBAT_MIN || s.fld CHG_PFC_BUS_SET < s.fld CHG_EXP_EXP_V then (s, .CHG_RANGE)
  else
    let v := slotWhole s (dabEng s) 0x040 10
    let s := rampBus v.2 v.1.toNat (s.fld CHG_EXP_EXP_V)
    (chgEnter (s.put CHG_STAT_CLASS 2) 8, .OK)

/-- SET_MODE STANDBY from CHARGE or EXPORT (R52, R301). -/
def chgStop (s : State) : State :=
  let st := chgState s
  if st = 5 then
    match s.chg.after with
    | .standby _ => s
    | _ => s.setChg { s.chg with after := .standby 7 }
  else if st = 6 || st = 9 || st ≤ 1 then chgStandby s 7
  else handOver s (.standby 7)

/-- A SET_MODE to CHARGE, EXPORT or out of them is cancelled (R414); a hand-over of a charge runs on and ends in PAUSED, an export
goes on (log 40). -/
def chgCancel (s : State) : State :=
  let st := chgState s
  if (st = 2 && s.mode = 1) || ((st = 8 || st = 9) && s.mode = 1) then chgIdle s
  else if st = 5 && s.mode = 1 then s.setChg { s.chg with after := .refused }
  else if exporting s then chgEnter (rampBus s (s.chg.bus.value s.mtime) (s.fld CHG_EXP_EXP_V)) 8
  else if st = 5 then s.setChg { s.chg with after := .paused }
  else s

/-- CHG_SAFE_STOP: a group in SAFE, or the safe charge stop, ends the session at once (R303, R322). -/
def chgSafeStop (s : State) : State :=
  if chgState s < 2 then s
  else
    chgStandby s 8

/-- The groups the present class uses. -/
def chgGroups (s : State) : List Nat :=
  let c := s.fld CHG_STAT_CLASS
  if c = 3 then [s.fld CHG_CFG_BST_GRP] else if c = 2 then [s.fld CHG_CFG_DAB_GRP]
  else if c = 1 then [s.fld CHG_CFG_PFC_GRP, s.fld CHG_CFG_DAB_GRP] else []

/-- What a group in SAFE, mode SAFE, or a demanded charge stop does to the block. -/
def chgWatch (s : State) : State :=
  let scs := s.sag.scs
  let s := { s with sag := { s.sag with scs := false } }
  if scs || s.mode = 5 || (chgGroups s).any s.safe then chgSafeStop s else s

/-! ### Export and boost (R304, R305) -/

/-- EXPORT_READY. -/
def exportReady (s : State) : State :=
  if chgState s = 8 && !s.flag CHG_STAT_EXP_READY && within2 s (dabEng s) 0x040 (s.fld CHG_EXP_EXP_V) then
    completeMode (chgSync (s.putFlag CHG_STAT_EXP_READY true)) 4
  else s

/-- BOOST_READY. -/
def boostReady (s : State) : State :=
  if chgState s = 9 && s.mode ≠ 4 && within2 s (bstEng s) 0x052 (s.fld CHG_BST_ACC_V) then chgSync (completeMode s 4) else s

/-- EXPORT_SETPOINT_WRITE: a write of CHG_EXP. -/
def exportWrite (s : State) (data : Nat) : State × Status :=
  let s := s.putAll [(CHG_EXP_EXP_V, bitsOf data 0 16), (CHG_EXP_EXP_I, bitsOf data 16 16)]
  let s := if chgState s = 8 then rampBus s (s.chg.bus.value s.mtime) (s.fld CHG_EXP_EXP_V) else s
  (chgSync s, .OK)

/-- EXPORT_SETPOINT_TIMEOUT: no write of CHG_EXP for SP_TO. -/
def exportTimeout (s : State) : State :=
  if chgState s = 8 then handOver s (.standby 9) else s

/-- The charger's derating changes: the setpoint follows (R297). -/
def chgDerate (s : State) : State :=
  if !s.flag CHG_CFG_EN then s
  else if chgState s = 3 then chgSync (rampCurrent s (effectiveSet s)) else chgSync s

/-! ### Enabling (R287, R289) and register writes (R308) -/

/-- The legs of a group: the number of HV legs and of LV legs. -/
def legCounts (s : State) (g : Nat) : Nat × Nat :=
  let l := s.members g
  let hv := (l.filter fun n => n < 24).length
  (hv, l.length - hv)

/-- An enabled traction, actuator or converter slot names the group. -/
def slotNames (s : State) (g : Nat) : Bool :=
  (List.range 4).any fun k =>
    (s.flag (TRC_M_CFG_EN k) && s.fld (TRC_M_CFG_GROUP k) = g) || (s.flag (ACT_CFG_EN k) && s.fld (ACT_CFG_GROUP k) = g)
    || (s.flag (CNV_C_CFG_EN k) && s.fld (CNV_C_CFG_GROUP k) = g)

/-- The boost's trip source is enabled in its group and cuts every leg. -/
def bstClOk (s : State) : Bool :=
  let g := s.fld CHG_CFG_BST_GRP
  let src := s.fld CHG_SENSE_BST_CL_SRC
  let on := if src < 16 then (s.fld (PWM_GRP_TMASK_P_PINS g)).testBit src
    else decide (src < 48) && (s.fld (PWM_GRP_TMASK_C_CMPS g)).testBit (src - 16)
  on && (cutLegs s g).length = (s.members g).length

/-- Why the enabled block of `s` may not stand (R287, R289); OK if it may. -/
def chgStatus (s : State) : Status :=
  let p := s.fld CHG_CFG_PFC_GRP
  let d := s.fld CHG_CFG_DAB_GRP
  let b := s.fld CHG_CFG_BST_GRP
  let gs := if b = 15 then [p, d] else [p, d, b]
  let id := programId s (pfcEng s)
  let modeBad (g m : Nat) : Bool := s.fld (PWM_GRP_CTRL_MODE g) ≠ m || s.fld (PWM_GRP_CTRL_UPD g) ≠ 3
  let idle (e : Nat) : Bool := s.fld (LE_STAT_STATE e) ≠ 2 && s.fld (LE_STAT_STATE e) ≠ 3
  let n := s.fld CHG_SENSE_PILOT_ADC
  firstOf [(gs.any (fun g => groupUnfitted s g), .LEG_ABSENT),
    (gs.any (fun g => 11 < g), .CHG_RANGE),
    ((legCounts s p).2 ≠ 0 || !((id = 3 && (legCounts s p).1 = 2) || (id = 4 && (legCounts s p).1 = 3)), .CHG_RANGE),
    (modeBad p 1 || idle (pfcEng s) || s.fld (LE_G_GRP_ENGINE p) ≠ pfcEng s, .CHG_RANGE),
    (legCounts s d ≠ (4, 0) || modeBad d 2 || idle (dabEng s) || programId s (dabEng s) ≠ 5, .CHG_RANGE),
    (b ≠ 15 && ((legCounts s b).2 ≠ 0 || (legCounts s b).1 = 0 || 3 < (legCounts s b).1 || modeBad b 2 || idle (bstEng s)
      || programId s (bstEng s) ≠ 5), .CHG_RANGE),
    (gs.any (fun g => slotNames s g), .CHG_RANGE),
    (s.flag CHG_SENSE_BST_CL_EN && b ≠ 15 && !bstClOk s, .CHG_RANGE),
    ((List.range 12).any fun g => (s.fld (PWM_GRP_TMASK_P_PINS g)).testBit (s.fld CHG_SENSE_PILOT_PIN), .CHG_RANGE),
    (s.flag (ADC_CTRL_URG_EVT_EN n) || claimed s 8 n, .CHG_BUSY)]

/-- A write of CHG_CFG: EN = 1 enables the block, EN = 0 floats every leg (log 37). -/
def chgCfgWrite (s : State) (data : Nat) : State × Status :=
  let a := 0x60050000
  let was := s.flag CHG_CFG_EN
  let live := decide (2 ≤ chgState s)
  let bst := bitsOf data 19 4
  let st := firstOf [(was && changesRwl s a data, .CHG_BUSY),
    (11 < bitsOf data 28 4 || 11 < bitsOf data 1 4 || 11 < bitsOf data 10 4 || (11 < bst && bst ≠ 15), .CHG_RANGE)]
  if st ≠ .OK then (s.refuse chgErr st, st)
  else
    let r := writeFields s chgErr a data
    let en := r.1.flag CHG_CFG_EN
    if en && !was then
      let st := chgStatus r.1
      if st ≠ .OK then (s.refuse chgErr st, st) else (chgEnter (r.1.setChg { band := r.1.chg.band }) 1, r.2)
    else if !en && was then
      let s := (r.1.putAll [(CHG_STAT_STATE, 0), (CHG_STAT_SESSION_OPEN, 0), (CHG_STAT_CLASS, 0), (CHG_STAT_EXP_READY, 0)]).setChg {}
      let s := putSlots (chgFloats s)
      (if live && s.mode = 1 then abandonMode s .CHG_STOPPED
        else if s.mode = 3 || s.mode = 4 then completeMode s 1 else s, r.2)
    else r

/-- A write to a CHG_ register. -/
def chgRegWrite (s : State) (a data : Nat) : State × Status :=
  let o := a - 0x60050000
  let busy := s.flag CHG_CFG_EN && changesRwl s a data
  let checked (range : Bool) (act : State → State) : State × Status :=
    let r := checkedWrite s chgErr [(busy, .CHG_BUSY), (range, .CHG_RANGE)] a data
    if r.2 = .OK then (act r.1, .OK) else r
  let within (lo w mn mx : Nat) : Bool := decide (bitsOf data lo w < mn) || decide (mx < bitsOf data lo w)
  if o = 0x000 then chgCfgWrite s data
  else if o = 0x004 then checked (47 < bitsOf data 18 6) id
  else if o = 0x008 then checked (9200 < bitsOf data 16 16) chgDerate
  else if o = 0x00C then checked (within 20 10 1 1000) chgDerate
  else if o = 0x010 then checked (within 1 6 1 60 || within 7 7 2 100 || within 14 6 1 50 || within 20 8 1 255) id
  else if o = 0x014 then checked (within 0 11 1 1440 || within 11 10 1 600 || within 21 5 1 20) id
  else if o = 0x018 then checked (within 14 7 1 100) id
  else if 0x020 ≤ o && o < 0x030 then checked (decide (bitsOf data 12 12 < bitsOf data 0 12)) id
  else if o = 0x060 then exportWrite s data
  else if o = 0x064 then checked (within 0 10 1 1000) id
  else if o = 0x068 then checked (within 14 7 1 100) fun t =>
    let t := t.setChg { t.chg with acc := ⟨t.chg.acc.value t.mtime, t.fld CHG_BST_ACC_V, t.mtime, 10 * t.fld CHG_BST_ACC_RAMP, msTicks⟩ }
    chgSlots t
  else if o = 0x400 then writeLock s chgErr data
  else checked false id

end Sys2Proof.Machine
end

