-- ==== Sys2Proof/Machine/Lockstep.lean ====
section
/-! DEFINITION. Chapter 13: the comparators of the core pairs, agreement and value exchanges, pair faults, debug halts and the
replay queue (R343-R359). -/

namespace Sys2Proof.Machine

def lksErr : BlockErr where
  last := LKS_ERR_LAST_ERR
  cnt := LKS_ERR_ERR_CNT
  lock := LKS_LOCK
  locked := .LKS_LOCKED
  codes := [(.LKS_RANGE, 1), (.LKS_LOCKED, 2)]

namespace State

def pairOf (s : State) (n : Nat) : Pair := Tbl.get {} s.pair n

/-- A pair's comparator, with its buffer levels shown in LKS_PAIR_STAT. -/
def setPair (s : State) (n : Nat) (v : Pair) : State :=
  { s with pair := Tbl.set {} s.pair n v }.putAll
    [(LKS_PAIR_STAT_MBUF n, v.main.length), (LKS_PAIR_STAT_CBUF n, v.chk.length), (LKS_PAIR_STAT_EXCH_OPEN n, bit v.exch.isSome)]

end State

/-! ### Pair faults (R351, R352) -/

/-- PAIR_FAULT: both copies halt, the fault is recorded, and the Saggar gets cause 0x30 + n and asks for a warm start; during a start
the running step fails instead. The offending item is discarded. -/
def pairFault (s : State) (n kind lane addr main chk icnt : Nat) : State :=
  let p := s.pairOf n
  let s := s.setPair n { p with dead := true, main := [], chk := [], sigM := [], sigC := [], exch := none, queue := [], value := none }
  let s := s.putAll [(LKS_FAULT_INFO_VALID n, 1), (LKS_FAULT_INFO_KIND n, kind), (LKS_FAULT_INFO_LANE n, lane), (LKS_FAULT_ADDR n, addr),
    (LKS_FAULT_MAIN_VALUE n, main), (LKS_FAULT_CHK_VALUE n, chk), (LKS_FAULT_ICNT n, icnt), (LKS_FAULT_TIME_T n, s.mtime),
    (LKS_PAIR_STAT_RUN n, 0), (LKS_FAULT_SUM_PAIRS, setBit (s.fld LKS_FAULT_SUM_PAIRS) n)]
  let s := s.trace 5 0 [n, kind]
  let s := if s.ready then { s with sag := { s.sag with warm := true } } else { s with startFault := some n }
  demandEvt s (0x30 + n) 0 true 1

/-! ### The counters of the copies (R346) -/

/-- A count that a 32-bit reading of its low part carries on. -/
def carryOn (old low : Nat) : Nat := (old + (low + 2 ^ 32 - old % 2 ^ 32) % 2 ^ 32) % 2 ^ 64

/-- The main copy has retired up to a count whose low word a command gives; copies that a fault or the debugger has halted retire
nothing. -/
def State.retiredTo (s : State) (n low : Nat) : State :=
  let p := s.pairOf n
  if p.dead || s.flag (LKS_PAIR_STAT_HALTED n) then s else s.setPair n { p with instretM := carryOn p.instretM low }

/-- A counter read: the main copy's counter, delivered to both copies. The cycles that a copy's clock has counted since the last read are
free, since its island's clock stretches at any time (R346; DESIGN CHOICE, log 103). -/
def readCounter (s : State) (n : Nat) (c : Counter) : State :=
  let f := s.fresh
  let p := f.2.pairOf n
  let m := (p.mcycleM + f.1) % 2 ^ 64
  let counted := f.2.setPair n { p with mcycleM := m, mcycleC := (p.mcycleC + Config.freeValue (s.free + 1)) % 2 ^ 64 }
  let counted := { counted with free := s.free + 2 }
  match c with
  | .time => s.emit (.counter n c (s.mtime % 2 ^ 32))
  | .timeh => s.emit (.counter n c (s.mtime / 2 ^ 32))
  | .cycle | .mcycle => counted.emit (.counter n c (m % 2 ^ 32))
  | .cycleh | .mcycleh => counted.emit (.counter n c (m / 2 ^ 32))

/-- A free value for a part of the fault record that no copy has delivered (log 3). -/
def missing (s : State) : Nat × State := let f := s.fresh; (f.1, f.2)

/-! ### Transactions (R344, R345, R348) -/

/-- The first lane on which two items differ, with the values of the main copy and the checker. -/
def laneDiff (a b : CopyItem) : Option (Nat × Nat × Nat) :=
  if a.addr ≠ b.addr then some (0, a.addr.toNat, b.addr.toNat)
  else if a.kind = .write && b.kind = .write && a.data ≠ b.data then some (1, a.data.toNat, b.data.toNat)
  else if a.attr ≠ b.attr || a.kind ≠ b.kind || a.size ≠ b.size then some (2, a.attr.toNat, b.attr.toNat)
  else none

/-- Compare the oldest items: equal ones are released, different ones are a MISMATCH. -/
def compareOldest (s : State) (n icnt : Nat) : State × Option CopyItem :=
  let p := s.pairOf n
  match p.main, p.chk with
  | a :: ms, b :: cs =>
    match laneDiff a b with
    | none => (s.setPair n { p with main := ms, chk := cs }, some a)
    | some (lane, x, y) => (pairFault s n 1 lane a.addr.toNat x y icnt, none)
  | _, _ => (s, none)

/-- COPY_TRANSACTION: an item enters its copy's buffer; a copy whose buffer of 8 is full stalls. The item released, if one is, goes
to the interconnect. -/
def copyItem (s : State) (n : Nat) (checker : Bool) (item : CopyItem) (icnt : Nat) : State × Option CopyItem :=
  let p := s.pairOf n
  if p.dead || 8 ≤ (if checker then p.chk else p.main).length then (s, none)
  else
    compareOldest (s.setPair n (if checker then { p with chk := p.chk ++ [item] } else { p with main := p.main ++ [item] })) n icnt

/-- RETIRE_SIGNATURE: signatures are compared in order. -/
def retireSignature (s : State) (n : Nat) (checker : Bool) (crc icnt : Nat) : State :=
  let p := s.pairOf n
  if p.dead then s
  else
    let p := if checker then { p with sigC := p.sigC ++ [crc] } else { p with sigM := p.sigM ++ [crc] }
    match p.sigM, p.sigC with
    | a :: ms, b :: cs =>
      if a = b then s.setPair n { p with sigM := ms, sigC := cs }
      else let f := missing s; pairFault f.2 n 4 4 f.1 a b icnt
    | _, _ => s.setPair n p

/-- COMPARATOR_TIMEOUT: an item, a signature or an agreement message whose partner has been missing for 2 µs; not while the debugger has
halted both copies. -/
def comparatorTimeout (s : State) (n icnt : Nat) : State :=
  let p := s.pairOf n
  if p.dead || s.flag (LKS_PAIR_STAT_HALTED n) then s
  else
    let f := missing s
    let g := missing f.2
    match p.main, p.chk, p.sigM, p.sigC with
    | a :: _, [], _, _ => pairFault f.2 n 2 0 a.addr.toNat a.addr.toNat f.1 icnt
    | [], b :: _, _, _ => pairFault f.2 n 2 0 f.1 f.1 b.addr.toNat icnt
    | _, _, a :: _, [] => pairFault g.2 n 2 4 f.1 a g.1 icnt
    | _, _, [], b :: _ => pairFault g.2 n 2 4 f.1 g.1 b icnt
    | _, _, _, _ =>
      let h := missing g.2
      if p.exch.isSome || p.value.isSome then pairFault h.2 n 2 3 f.1 g.1 h.1 icnt else s

/-- LOCAL_PARITY_ERROR: either copy. -/
def localParity (s : State) (n icnt : Nat) : State :=
  if (s.pairOf n).dead then s
  else
    let a := missing s
    let b := missing a.2
    let c := missing b.2
    pairFault c.2 n 5 7 a.1 b.1 c.1 icnt

/-! ### Agreement exchange (R349, R354) -/

/-- A notice reaches both copies at their retire counts; each reports its count + 4, or in WFI its present count. One that arrives while
an exchange is open queues. -/
def openNotice (s : State) (n : Nat) (x : Notice) (main chk : Nat) (wfi : Bool × Bool) : State :=
  let p := s.pairOf n
  if p.dead then s
  else if p.exch.isSome then s.setPair n { p with queue := p.queue ++ [x] }
  else
    let c (wait : Bool) (k : Nat) : Nat := if wait then k else k + 4
    s.setPair n { p with exch := some (x, c wfi.1 main, c wfi.2 chk), instretM := main, instretC := chk }

/-- AGREEMENT_REPORT: the target is the larger report; the interrupt is taken there, or both copies halt there. The next notice opens
with the counts given. -/
def agreementReport (s : State) (n main chk : Nat) : State :=
  let p := s.pairOf n
  match p.exch with
  | none => s
  | some (x, a, b) =>
    let c := max a b
    let p := { p with exch := none, instretM := c, instretC := c }
    let s := match x with
      | .irq id => ((s.setPair n p).inc (LKS_CNT_IRQ_CNT n)).emit (.taken n id c)
      | .halt => (s.setPair n { p with haltAt := c }).putAll [(LKS_PAIR_STAT_HALTED n, 1), (LKS_PAIR_STAT_RUN n, 0)]
    match p.queue with
    | y :: rest => openNotice (s.setPair n { s.pairOf n with queue := rest }) n y main chk (false, false)
    | [] => s

/-! ### Value exchange (R350) -/

/-- CSR 0xFC0, lkstat, of pair `n` (R350). -/
def lkstat (s : State) (n : Nat) : Nat :=
  let hot := (List.range 16).any fun z => 2 ≤ s.fld (THM_Z_STAT_CONE z)
  bit (s.flag SAF_STAT_DEV_LATCH) + 2 * s.fld PWR_FEED_STAT_DIP + 4 * bit (s.flag HOST_STAT_LINK_UP) + 8 * bit hot
    + 16 * bit ((s.pairOf n).exch.any (fun e => e.1 = .halt) || (s.pairOf n).queue.contains .halt)

/-- What a copy samples: pending bits as given; of lkstat the present lines, but for those named in `w`, whose change has not crossed
into the copy's island yet. -/
def asyncSample (s : State) (n : Nat) (src : AsyncSrc) (w : Nat) : Nat :=
  match src with
  | .pending => w
  | .lkstat => lkstat s n ^^^ (w % 32)

/-- ASYNC_VALUE_READ: both copies stall and sample. -/
def asyncRead (s : State) (n : Nat) (src : AsyncSrc) (main chk : Nat) : State :=
  let p := s.pairOf n
  let a := asyncSample s n src main
  if p.dead || p.value.isSome then s
  else if a = asyncSample s n src chk then s.emit (.value n a)
  else s.setPair n { p with value := some (src, 0) }

/-- VALUE_RESAMPLE: 25 ns after disagreeing samples; the fourth re-sample without agreement is VALUE_DISAGREE. -/
def valueResample (s : State) (n main chk icnt : Nat) : State :=
  let p := s.pairOf n
  match p.value with
  | none => s
  | some (src, k) =>
    let a := asyncSample s n src main
    let b := asyncSample s n src chk
    if a = b then ((s.setPair n { p with value := none }).inc (LKS_CNT_RESAMPLE_CNT n)).emit (.value n a)
    else if k + 1 < 4 then s.setPair n { p with value := some (src, k + 1) }
    else let f := missing s; pairFault f.2 n 3 3 f.1 a b icnt

/-! ### Debug (R354) -/

/-- Both copies run again. -/
def released (s : State) (n : Nat) : State :=
  (s.setPair n { s.pairOf n with resumeWait := false }).putAll [(LKS_PAIR_STAT_HALTED n, 0), (LKS_PAIR_STAT_RUN n, 1)]

/-- DEBUG_RESUME: both copies resume once the replay queue is empty; a resume that finds entries in it waits. -/
def debugResume (s : State) (n : Nat) : State :=
  if !s.flag (LKS_PAIR_STAT_HALTED n) then s
  else if (s.pairOf n).replay.isEmpty then released s n
  else s.setPair n { s.pairOf n with resumeWait := true }

/-- An action enters the replay queue of 64 and acts on the main copy; with `replay` the checker applies the oldest one, and a resume
that waits for it is released. An action that finds the queue full is not entered. -/
def debugReplay (s : State) (n : Nat) (act : DebugAct) (replay : Bool) : State :=
  let p := s.pairOf n
  if !s.flag (LKS_PAIR_STAT_HALTED n) then s
  else if replay then
    let s := s.setPair n { p with replay := p.replay.drop 1 }
    if p.resumeWait && p.replay.length ≤ 1 then released s n else s
  else if 64 ≤ p.replay.length then s
  else s.setPair n { p with replay := p.replay ++ [(act, p.haltAt)] }

/-! ### Register writes (R357-R359) -/

/-- A write to an LKS_ register by pair 11. -/
def lksRegWrite (s : State) (a data : Nat) : State × Status :=
  if a = 0x60060400 then checkedWrite s lksErr [(bitsOf data 0 8 < 8 || 16 < bitsOf data 0 8, .LKS_RANGE)] a data
  else if a = 0x60060408 then writeLock s lksErr data
  else writeFields s lksErr a data

end Sys2Proof.Machine
end

