-- ==== Sys2Proof/Machine/Supply.lean ====
section
/-! DEFINITION. Chapter 14: the feeds, dips and the hold-up store, the core rail, clock dividers, power states and retention
(R360-R387), and the voltage requests of R22 and R23. -/

namespace Sys2Proof.Machine

def pwrErr : BlockErr where
  last := PWR_ERR_LAST_ERR
  cnt := PWR_ERR_ERR_CNT
  lock := PWR_LOCK
  locked := .PWR_LOCKED
  codes := [(.PWR_RANGE, 1), (.PWR_LOCKED, 2), (.PWR_BUSY, 3)]

/-- An interrupt of island 41 to the Power role (R42): 0 dip, 1 switch-over, 2 lost banks. -/
def pwrIrq (s : State) (cause : Nat) : State := s.irq (rolePair s 5) .pwr 0 cause

namespace State

def feedOf (s : State) (f : Nat) : Feed := if f = 0 then s.sup.a else s.sup.b
def setFeed (s : State) (f : Nat) (v : Feed) : State :=
  { s with sup := if f = 0 then { s.sup with a := v } else { s.sup with b := v } }

end State

def activeFeed (s : State) : Nat := s.fld PWR_FEED_STAT_ACTIVE
def feedIn (s : State) (f : Nat) : Bool := (s.fld PWR_FEED_STAT_IN).testBit f
def psState (s : State) : Nat := s.fld PWR_PS_STAT_STATE

/-! ### Wake sources (R378, R380) -/

/-- The participants go on with the work they held from their ACCEPT (R377). -/
def releaseAll (s : State) : State :=
  let s := { s with sup := { s.sup with target := 0, answers := [] } }
  let s := showDeferred (storeResume s)
  let s := (s.each (List.range 2) admissionRelease).each (List.range 3) queueRun
  s.each ((List.range 8).filter fun n => (s.canOf n).freeHeld) fun s n => busFree (s.setCan n { s.canOf n with freeHeld := false }) n

/-- An entry is aborted; the participant that ended it is accounted (R377, R379). `late`: its DELAY ran past its maximum. -/
def psAbort (s : State) (p : Nat) (late : Bool) (result : Nat) (st : Status) : State :=
  let s := s.putAll [(PWR_PS_STAT_ENTERING, 0), (PWR_PS_STAT_LAST_REFUSER, p), (PWR_PS_STAT_LAST_RESULT, result)]
  let s := s.inc (if late then PWR_PS_ACCT_ABORT_CNT p else PWR_PS_ACCT_REFUSE_CNT p)
  (releaseAll s).finish .power st

/-- A PMBus command to the regulator (R370). -/
def pmbus (s : State) (code data : Nat) : State :=
  s.emit (.pmbus (s.fld PWR_CORE_CFG_ADDR) (s.flag PWR_CORE_CFG_PEC) code data)

/-- Drive the VID pins (R371). -/
def driveVid (s : State) (level : Nat) : State := { s with sup := { s.sup with vid := level } }.emit (.vid level)

/-- The lowest VID level at or above a target, at most 0b11 (R371). -/
def vidLevel (t : Nat) : Nat := min 3 ((t - 20 + 9) / 10)

/-- Turn the core rail on at a wake from RETAIN (R381). -/
def railOn (s : State) : State :=
  let s := { s with sup := { s.sup with waking := true } }
  if s.flag PWR_CORE_STAT_PATH_ACT then driveVid s (vidLevel (s.fld PWR_CORE_STAT_TARGET)) else pmbus s 0x01 0x80

/-- A wake source fires: it aborts an entry, or wakes the device (R378, R381). -/
def wake (s : State) (src : Nat) : State :=
  let fired := s.put PWR_WAKE_STAT_SRC (setBit (s.fld PWR_WAKE_STAT_SRC) src)
  let first := fired.putAll [(PWR_WAKE_STAT_FIRST, src), (PWR_WAKE_T, s.mtime)]
  if s.sup.waking then fired
  else match psState s with
    | 0 => if s.flag PWR_PS_STAT_ENTERING then psAbort fired 31 false 5 .WAKE_DURING_ENTRY else s
    | 1 => first.put PWR_PS_STAT_STATE 0
    | 2 => railOn first
    | _ => { first with coldWant := some 5 }

def pinWake (s : State) (w : Nat) (rise : Bool) : State :=
  let e := bitsOf (s.fld PWR_WAKE_CFG_PIN_EDGE) (2 * w) 2
  if (s.fld PWR_WAKE_CFG_PIN_EN).testBit w && (e = 2 || (e = 0 && rise) || (e = 1 && !rise)) then wake s w else s

def canWake (s : State) (n : Nat) : State :=
  if (s.fld PWR_WAKE_CFG_CAN_EN).testBit n && s.fld (CAN_CTRL_MODE n) ≠ 0 then wake s (4 + n) else s
def fabricWake (s : State) : State := if s.flag PWR_WAKE_CFG_FAB then wake s 12 else s
def timerWake (s : State) : State := if s.flag PWR_WAKE_CFG_TMR && psState s ≠ 0 then wake s 14 else s
def feedWake (s : State) : State := if s.flag PWR_WAKE_CFG_FEED then wake s 13 else s

/-! ### Feeds (R360-R365) -/

/-- STBY and PROOF show the standby feed. -/
def showStandby (s : State) : State :=
  let b := 1 - activeFeed s
  let f := s.feedOf b
  s.putAll [(PWR_FEED_STAT_STBY, if feedIn s b then f.proof + 1 else 0), (PWR_FEED_PROOF_T, f.proofAt)]

/-- One measurement of a feed: its code in 20 mV; in range after 100 µs within 8.0 V to 58.0 V, out of range after 10 µs below 7.8 V or
above 60.0 V (R360). Above 60.0 V it is off its chain until it is in range again. -/
def measureFeed (s : State) (f v : Nat) : State :=
  let x := s.feedOf f
  let good := decide (400 ≤ v) && decide (v ≤ 2900)
  let bad := decide (v < 390) || decide (3000 < v)
  let x := { x with
    inRow := if good then min (x.inRow + 1) 11 else 0
    outRow := if bad then min (x.outRow + 1) 2 else 0
    since := min (x.since + 1) 10000 }
  let m := s.fld PWR_FEED_STAT_IN
  if !feedIn s f && x.inRow = 11 then
    feedWake ((s.setFeed f { x with since := 0, cut := false, proof := if x.proof = 2 then 0 else x.proof }).put PWR_FEED_STAT_IN (setBit m f))
  else if feedIn s f && x.outRow = 2 then
    feedWake ((s.setFeed f { x with since := 0, cut := decide (3000 < v), proof := if x.proof = 1 then 0 else x.proof }).put PWR_FEED_STAT_IN (clearBit m f))
  else s.setFeed f { x with cut := x.cut || (decide (3000 < v) && decide (x.outRow = 2)) }

/-- The load moves to feed `f`: 1 OUT_OF_RANGE, 2 CHAIN_FAULT, 3 RETURN, 4 drill, 5 SWITCH_BACK. A drill is no switch-over. -/
def feedSwitch (s : State) (f cause : Nat) (check : Bool) : State :=
  let prev := activeFeed s
  let s := { s with sup := { s.sup with carry := some 0, check := if check then some prev else none } }
  let s := s.putAll [(PWR_FEED_STAT_ACTIVE, f), (PWR_FEED_STAT_LAST_CAUSE, cause)]
  if cause = 4 then s else (s.inc PWR_FEED_CNT_SW_CNT).when (s.flag PWR_FEED_CFG_SW_IE) fun s => pwrIrq s 1

/-- A drill ends with a status. -/
def drillDone (s : State) (st : Status) : State :=
  ({ s with sup := { s.sup with drill := none } }.put PWR_FEED_STAT_DRILL 0).finish .feedDrill st

/-- The drilled feed failed: it is UNABLE, and the load returns to the original feed (R365). -/
def drillFailed (s : State) (orig : Nat) : State :=
  let f := activeFeed s
  let s := (s.setFeed f { s.feedOf f with proof := 2 }).inc PWR_FEED_CNT_UNABLE_CNT
  drillDone (feedSwitch (s.inc PWR_FEED_CNT_DRILL_FAIL) orig 4 false) .FEED_DRILL_FAILED

/-- The active feed has carried the load for another 10 µs; 10 ms prove it (R363). -/
def carryStep (s : State) : State :=
  match s.sup.carry with
  | none => s
  | some n =>
    let f := activeFeed s
    let s := { s with sup := { s.sup with carry := some (min (n + 1) 1000) } }
    if n + 1 = 1000 && (s.feedOf f).proof ≠ 2 then s.setFeed f { s.feedOf f with proof := 1, proofAt := s.mtime } else s

/-- A switch-over has failed: the new feed is UNABLE, and the load goes back to the previous feed if that is in range (R364). -/
def switchFailed (s : State) (prev : Nat) : State :=
  let f := activeFeed s
  let s := (s.setFeed f { s.feedOf f with proof := 2 }).inc PWR_FEED_CNT_UNABLE_CNT
  let s := { s with sup := { s.sup with check := none } }
  if feedIn s prev then feedSwitch s prev 5 false else s

/-- The decision of R362, with the drill's own ends (R365). -/
def decideFeed (s : State) (chainLow : Bool) : State :=
  let a := activeFeed s
  let b := 1 - a
  let s := if chainLow then s.put PWR_FEED_STAT_CHAIN_FLT (setBit (s.fld PWR_FEED_STAT_CHAIN_FLT) a) else s
  let able := fun f => feedIn s f && (s.feedOf f).proof ≠ 2
  match s.sup.drill with
  | some orig =>
    if !feedIn s orig then
      (drillDone (s.inc PWR_FEED_CNT_SW_CNT) .FEED_SWITCHED).when (s.flag PWR_FEED_CFG_SW_IE) fun s => pwrIrq s 1
    else if !feedIn s a || chainLow then drillFailed s orig
    else s
  | none =>
    if feedIn s a && chainLow && s.sup.check.isSome then switchFailed s (s.sup.check.getD 0)
    else if !feedIn s a || chainLow then
      if able b then feedSwitch s b (if !feedIn s a then 1 else 2) true else s
    else if s.flag PWR_FEED_CFG_RETURN && a ≠ s.fld PWR_FEED_CFG_PREF && able b && decide (10000 ≤ (s.feedOf b).since) then
      feedSwitch s b 3 true
    else s

/-- FEED_MEASUREMENT: both voltages, the active chain below 90 % for 20 µs. The first feed in range becomes active. -/
def feedMeasure (s : State) (va vb : Nat) (chainLow : Bool) : State :=
  let s := s.putAll [(PWR_FEED_V_VA, va), (PWR_FEED_V_VB, vb)]
  let s := measureFeed (measureFeed s 0 va) 1 vb
  let s := if s.flag PWR_FEED_STAT_DIP then { s with sup := { s.sup with dipMin := min s.sup.dipMin (max va vb) } } else s
  if s.sup.chosen then showStandby (carryStep (decideFeed s chainLow))
  else if feedIn s 0 then showStandby ({ s with sup := { s.sup with chosen := true } }.put PWR_FEED_STAT_ACTIVE 0)
  else if feedIn s 1 then showStandby ({ s with sup := { s.sup with chosen := true } }.put PWR_FEED_STAT_ACTIVE 1)
  else s

/-- SWITCH_OVER_CHECK: 200 µs after a switch (R364). -/
def switchCheck (s : State) (low : Bool) : State :=
  match s.sup.check with
  | none => s
  | some prev =>
    if !low then { s with sup := { s.sup with check := none } }
    else match s.sup.drill with
      | some orig => showStandby (drillFailed { s with sup := { s.sup with check := none } } orig)
      | none => showStandby (switchFailed s prev)

/-- A feed drill is asked for (R365). -/
def feedDrill (s : State) : State × Status :=
  let b := 1 - activeFeed s
  if !feedIn s b then (s, .FEED_NO_STANDBY)
  else if s.sup.drill.isSome || s.sup.check.isSome || s.flag PWR_FEED_STAT_DIP || s.flag PWR_PS_STAT_ENTERING then
    (s.refuse pwrErr .PWR_BUSY, .PWR_BUSY)
  else
    let orig := activeFeed s
    let s := feedSwitch (s.put PWR_FEED_STAT_DRILL 1) b 4 true
    (showStandby { s with sup := { s.sup with drill := some orig } }, .OK)

/-- FEED_DRILL_END: 10 ms have passed; the feed is proven and the load returns. -/
def feedDrillEnd (s : State) : State :=
  match s.sup.drill with
  | none => s
  | some orig =>
    let f := activeFeed s
    let s := s.setFeed f { s.feedOf f with proof := 1, proofAt := s.mtime }
    showStandby (drillDone (feedSwitch s orig 4 false) .OK)

/-! ### Dips and the hold-up store (R366, R368) -/

def dipStart (s : State) (v : Nat) : State :=
  if s.flag PWR_FEED_STAT_DIP then s
  else
    showDeferred ({ s with dipHold := true, sup := { s.sup with dipAt := s.mtime, dipMin := v } }.putAll
      [(PWR_FEED_STAT_DIP, 1), (PWR_DIP_T, s.mtime)])

def dipEnd (s : State) (lowest : Nat) : State :=
  if !s.flag PWR_FEED_STAT_DIP then s
  else
    let s := s.put PWR_FEED_STAT_DIP 0
    if s.sup.lost then s
    else
      let s := s.putAll [(PWR_DIP_DIP_MIN, min lowest s.sup.dipMin), (PWR_DIP_LEN, min (2 ^ 24 - 1) ((s.mtime - s.sup.dipAt) / 400))]
      (s.inc PWR_DIP_DIP_CNT).when (s.flag PWR_FEED_CFG_DIP_IE) fun s => pwrIrq s 0

def storeWritesResume (s : State) : State :=
  if s.flag PWR_FEED_STAT_DIP then s else showDeferred (storeResume { s with dipHold := false })

def holdOk (s : State) (ok : Bool) : State := showDeferred (storeResume (s.putFlag PWR_FEED_STAT_HOLD_OK ok))

/-! ### Core voltage (R22, R23, R369-R373) -/

/-- The islands on the core rail (R21). -/
def onCoreRail (i : Nat) : Bool := i < 42 && i ≠ 32 && i ≠ 33 && i ≠ 41

/-- The islands of a divider: main and checker of a pair, or an engine cluster (R18, R372). -/
def Raise.islands (x : Raise) : List Nat := if x.clu then [24 + x.unit] else [x.unit, 12 + x.unit]

/-- The present divider of an island. -/
def dividerOf (s : State) (i : Nat) : Nat :=
  if i < 24 then bitsOf (s.fld PWR_DIV_PAIR_DIV) (2 * (i % 12)) 2
  else if i < 32 then bitsOf (s.fld PWR_DIV_CLU_DIV) (2 * (i - 24)) 2
  else 0

/-- The request an island makes when it runs at divider `d`: the last one it held there since the cold start, else 0.85 V. -/
def requestAt (s : State) (i d : Nat) : Nat := Tbl.get 0x28 s.sup.lastReq (4 * i + d)

/-- The highest request, with those of a raise that waits. -/
def highest (s : State) (x : Option Raise) : Nat :=
  let base := ((List.range 42).filter onCoreRail).foldl (fun m i => max m (s.fld (PWR_ISL_STAT_AVS_REQ i))) 0
  match x with
  | none => base
  | some x => x.islands.foldl (fun m i => max m (requestAt s i x.div)) base

/-- A target in the linear format of VOUT_MODE: its mantissa under the exponent that was read. A target between two mantissas takes
either (the spec gives no rounding: a free value, log 123). -/
def voutMantissa (s : State) (t : Nat) : Nat × State :=
  let num := (650 + 5 * t) * (if s.sup.vexp < 0 then 2 ^ (-s.sup.vexp).toNat else 1)
  let den := 1000 * (if s.sup.vexp < 0 then 1 else 2 ^ s.sup.vexp.toNat)
  if num % den = 0 then (num / den, s) else (num / den + s.fresh.1 % 2, s.fresh.2)

/-- Drive a target on the path in use: VOUT_COMMAND, or the lowest VID level at or above it (R370, R371). -/
def driveTarget (s : State) (t : Nat) : State :=
  if s.flag PWR_CORE_STAT_PATH_ACT then
    (driveVid s (vidLevel t)).when (50 < t) fun s => s.put PWR_CORE_STAT_AVS_CLAMP 1
  else
    let m := voutMantissa s t
    pmbus m.2 0x21 m.1

/-- Begin a change of the target for the highest request, if it differs: `x` is the raise that it serves. -/
def changeTarget (s : State) (x : Option Raise) : State × Bool :=
  let want := highest s x
  let s := s.when (s.fld PWR_CORE_CFG_VMAX < want) fun s => s.put PWR_CORE_STAT_AVS_CLAMP 1
  let t := max (s.fld PWR_CORE_CFG_VMIN) (min (s.fld PWR_CORE_CFG_VMAX) want)
  if t = s.fld PWR_CORE_STAT_TARGET then (s, false)
  else
    let s := (s.putAll [(PWR_CORE_STAT_TARGET, t), (PWR_CORE_STAT_PENDING, 1)]).inc PWR_CORE_CNT_CHANGES
    (driveTarget { s with sup := { s.sup with resent := false, raise := x } } t, true)

/-- Write a divider. -/
def applyDiv (s : State) (x : Raise) : State :=
  let f := if x.clu then PWR_DIV_CLU_DIV else PWR_DIV_PAIR_DIV
  let v := s.fld f
  s.put f (v - bitsOf v (2 * x.unit) 2 * 4 ^ x.unit + x.div * 4 ^ x.unit)

/-- A raise takes effect: the islands run at their new divider with the request that goes with it. -/
def applyRaise (s : State) (x : Raise) : State :=
  let reqs := x.islands.map fun i => (PWR_ISL_STAT_AVS_REQ i, requestAt s i x.div)
  applyDiv (s.putAll reqs) x

/-- The divider write has come to its end (R372). -/
def raisesDone (s : State) : State :=
  let st := if s.sup.raiseFailed then Status.PWR_NO_ACK else .OK
  { s with sup := { s.sup with raiseFailed := false } }.finish .divider st

/-- Serve what waits: each raise in turn; one that needs a higher target waits for it. -/
def serveRaises (s : State) : List Raise → State
  | [] => raisesDone { s with sup := { s.sup with raises := [], raise := none } }
  | x :: rest =>
    let up := s.sup.sends && decide (s.fld PWR_CORE_STAT_TARGET < min (s.fld PWR_CORE_CFG_VMAX) (highest s (some x)))
    if up then
      let c := changeTarget s (some x)
      { c.1 with sup := { c.1.sup with raises := rest } }
    else serveRaises (applyRaise s x) rest

/-- The power controller goes on when no change is pending (R372). -/
def serveRail (s : State) : State :=
  if s.flag PWR_CORE_STAT_PENDING || !s.sup.sends then s
  else
    let s := if s.sup.raises.isEmpty then s else serveRaises s s.sup.raises
    if s.flag PWR_CORE_STAT_PENDING then s else (changeTarget s none).1

/-- AVS_REQUEST_CHANGE: an island's request in 5 mV codes; islands 32, 33 and 41 make none (R22, R25). -/
def avsRequest (s : State) (i req : Nat) : State :=
  if !onCoreRail i then s
  else
    let s := { s with sup := { s.sup with lastReq := Tbl.set 0x28 s.sup.lastReq (4 * i + dividerOf s i) (req % 256) } }
    serveRail (s.put (PWR_ISL_STAT_AVS_REQ i) req)

/-- DROOP_STRETCH: a window with stretched cycles; at the cap of 12.5 % the request rises by 20 mV (R23).
A request that would pass the top of its field stays there (DESIGN CHOICE, log 123). -/
def droopStretch (s : State) (i : Nat) (cap : Bool) : State :=
  if !onCoreRail i then s
  else
    let s := s.inc (PWR_ISL_STAT_STRETCH_CNT i)
    if cap then avsRequest (s.put (PWR_ISL_STAT_CAP_EXCEEDED i) 1) i (min 255 (s.fld (PWR_ISL_STAT_AVS_REQ i) + 4)) else s

/-- A voltage change is over: the raise it served takes effect, and the next one runs. -/
def changeOver (s : State) : State :=
  let s := s.putAll [(PWR_CORE_STAT_PENDING, 0), (PWR_CORE_STAT_RAIL_OK, 1)]
  let s := match s.sup.raise with
    | some x => applyRaise { s with sup := { s.sup with raise := none } } x
    | none => s
  serveRail (if s.sup.raises.isEmpty then raisesDone s else s)

/-- The registers held in the flip-flops of bank 34: islands 34 to 36 (R382). What the rings of island 37 read after its loss R415
states. -/
def inBank34 (a : Nat) : Bool :=
  match blkAt a with
  | some .adc | some .mod | some .fb | some .trc | some .act | some .cnv | some .chg | some .can | some .fab => true
  | _ => false

/-- The bank that holds an address (R382). -/
def bankOf (a : Nat) : Option Nat :=
  if 0x10000000 ≤ a && a < 0x10C00000 then some ((a - 0x10000000) / 0x80000)
  else if 0x40000000 ≤ a && a < 0x40400000 then some (24 + (a - 0x40000000) / 0x80000)
  else if 0x50000000 ≤ a && a < 0x50400000 then some 32
  else if inBank34 a then some 34
  else none

/-- Banks marked lost (R383). -/
def lostBanks (s : State) : Nat := s.fld PWR_RET_LOST_LO_BANKS ||| (s.fld PWR_RET_LOST_HI_BANKS <<< 32)

/-- An access falls on a lost bank (R383). -/
def bankLost (s : State) (a : Nat) : Bool := (bankOf a).any fun b => (lostBanks s).testBit b

/-- Mark banks lost. -/
def markLost (s : State) (m : Nat) : State :=
  let l := lostBanks s ||| m
  s.putAll [(PWR_RET_LOST_LO_BANKS, l), (PWR_RET_LOST_HI_BANKS, l / 2 ^ 32)]

/-- Banks registered as safety-relevant; 33 and 35 always (R382). -/
def safetyBanks (s : State) : Nat := s.fld PWR_RET_SAFE_LO_BANKS ||| ((s.fld PWR_RET_SAFE_HI_BANKS ||| 10) <<< 32)

/-- The rings are lost with bank 34: what had not started is closed, and every register of the rings is cleared (R415). -/
def ringsLost (s : State) : State :=
  let s := s.each (List.range 32) ringReset
  let s := { s with
    regs := s.regs.filter fun e => !(0x60078100 * 32 ≤ e.1 && e.1 < 0x60078980 * 32)
    hring := s.hring.filter fun e => e.1 < 32 }
  s.put HOST_STAT_RINGS_LOST 1

/-- RETAIN_WAKE: the rail is on. Module time is set by R28, lost banks are marked, the islands are released; a lost safety-relevant
bank makes it a cold start of cause 6. The elapsed count carries an error of up to 2 % (R28, log 3). -/
def retainWake (s : State) : State :=
  let us := s.sup.asleep / 400
  let f := s.fresh
  let lo := us * 98 / 100
  let el := lo + f.1 % (us * 102 / 100 - lo + 1)
  let s := f.2
  let lost := s.sup.failed
  if (lost &&& safetyBanks s) ≠ 0 then { s with coldWant := some 6, sup := { s.sup with waking := false, failed := 0 } }
  else
    let all := 2 ^ 66 - 1
    let free := (2 ^ 24 - 1) + 2 ^ 32 + 2 ^ 33 + 2 ^ 37 + 2 ^ 40 + 2 ^ 41 + 2 ^ 42
    let s := { s with
      mtime := (s.mtime + el * 400) % 2 ^ 64
      timeRuns := true
      sup := { s.sup with waking := false, asleep := 0, failed := 0, armed := true, parked := all - free }
      fab := { s.fab with live := true } }
    let s := settleMods s
    let s := markLost (s.putAll [(PWR_PS_STAT_STATE, 0), (PWR_CORE_STAT_NO_RAIL, 0), (PWR_CORE_STAT_RAIL_OK, 1),
      (PWR_RET_ELAPSED_MS, min (2 ^ 32 - 1) (el / 1000)), (PWR_WAKE_T, s.mtime)]) lost
    let s := s.each (List.range 32) fun s e => if lost.testBit (24 + e / 4) then s.put (LE_STAT_STATE e) 0 else s
    let s := s.when (lost.testBit 34) ringsLost
    fabReannounce (s.when (lost ≠ 0) fun s => pwrIrq s 2)

/-- PMBUS_ACKNOWLEDGE. -/
def pmbusAck (s : State) : State :=
  if s.flag PWR_CORE_STAT_PATH_ACT then s
  else if s.sup.waking then retainWake s
  else if s.flag PWR_CORE_STAT_PENDING then changeOver s
  else s

/-- VID_SETTLED. -/
def vidSettled (s : State) : State :=
  if !s.flag PWR_CORE_STAT_PATH_ACT then s
  else if s.sup.waking then retainWake s
  else if s.flag PWR_CORE_STAT_PENDING then changeOver s
  else s

/-- The device moves to the VID path until the next cold start, if it may (R370). -/
def fallBack (s : State) : State :=
  if s.flag PWR_CORE_CFG_VID_EN then
    let s := s.putAll [(PWR_CORE_STAT_PATH_ACT, 1), (PWR_CORE_STAT_FELL_BACK, 1), (PWR_CORE_STAT_PENDING, 1)]
    driveTarget s (s.fld PWR_CORE_STAT_TARGET)
  else s

/-- The regulator has failed to answer on the PMBus path: NO_ACK is set and counted (R370). -/
def pmbusMiss (s : State) : State := fallBack ((s.put PWR_CORE_STAT_NO_ACK 1).inc PWR_CORE_CNT_NO_ACK_CNT)

/-- PMBUS_ACK_TIMEOUT: the command is sent once more; a second miss sets NO_ACK, and a raise it served keeps its divider. -/
def pmbusTimeout (s : State) : State :=
  if s.flag PWR_CORE_STAT_PATH_ACT || !s.flag PWR_CORE_STAT_PENDING then s
  else if !s.sup.resent then driveTarget { s with sup := { s.sup with resent := true } } (s.fld PWR_CORE_STAT_TARGET)
  else
    let s := s.put PWR_CORE_STAT_PENDING 0
    let s := { s with sup := { s.sup with raise := none, raiseFailed := s.sup.raiseFailed || s.sup.raise.isSome } }
    let s := pmbusMiss s
    if s.flag PWR_CORE_STAT_PENDING then s
    else serveRail (if s.sup.raises.isEmpty then raisesDone s else s)

/-- After step 6 of a cold start the device reads VOUT_MODE on the PMBus path and keeps its exponent: no answer, or a mode that is not
linear, counts as a second miss does (R370). -/
def readVoutMode (s : State) (mode : Option (BitVec 8)) : State :=
  if s.flag PWR_CORE_STAT_PATH_ACT then s
  else
    let s := pmbus s 0x20 0
    match mode with
    | none => pmbusMiss s
    | some m => if m.toNat / 32 = 0 then { s with sup := { s.sup with vexp := signedOf 5 (m.toNat % 32) } } else pmbusMiss s

/-- PMBUS_ALERT: STATUS_WORD is read and CLEAR_FAULTS sent. -/
def pmbusAlert (s : State) (w : Nat) : State :=
  pmbus (((pmbus s 0x79 0).put PWR_CORE_STAT_LAST_STATUS w).inc PWR_CORE_CNT_ALERT_CNT) 0x03 0

/-- CLOCK_DIVIDER_WRITE: slower dividers apply at once, faster ones in turn after their voltage (R372). -/
def dividerWrite (s : State) (clu : Bool) (data : Nat) : State × Status :=
  let n := if clu then 8 else 12
  if (List.range n).any fun k => bitsOf data (2 * k) 2 = 3 then (s.refuse pwrErr .PWR_RANGE, .PWR_RANGE)
  else
    let old := s.fld (if clu then PWR_DIV_CLU_DIV else PWR_DIV_PAIR_DIV)
    let want : List Raise := (List.range n).map fun k => ⟨clu, k, bitsOf data (2 * k) 2⟩
    let down := want.filter fun x => bitsOf old (2 * x.unit) 2 < x.div
    let up := want.filter fun x => x.div < bitsOf old (2 * x.unit) 2
    let s := s.each down applyDiv
    if s.sup.sends then (serveRail { s with sup := { s.sup with raises := s.sup.raises ++ up } }, .OK)
    else (s.each up applyDiv, .OK)

/-- RAIL_LOST: RAIL_OK at 0 for 10 µs; CORE_RAIL_LOST while it is armed (R312, R373). -/
def railLost (s : State) : State :=
  let s := s.put PWR_CORE_STAT_RAIL_OK 0
  if s.sup.armed then demandEvt s 0x20 0 true 1 else s

/-! ### Power states (R374-R379) -/

/-- A power state is asked for (R375). `wake`: a wake fires in the same cycle (R378). -/
def powerRequest (s : State) (target : Nat) (woken : Bool) : State × Status :=
  if target = 0 then (s, .OK)
  else if s.mode ≠ 1 then (s, .PS_MODE)
  else if s.flag PWR_PS_STAT_ENTERING || s.sup.drill.isSome || s.sup.check.isSome || s.flag PWR_FEED_STAT_DIP || psState s ≠ 0 then
    (s.refuse pwrErr .PWR_BUSY, .PWR_BUSY)
  else if woken then (psAbort s 31 false 4 .WAKE_PENDING, .WAKE_PENDING)
  else ({ s with sup := { s.sup with target := target, answers := [] } }.put PWR_PS_STAT_ENTERING 1, .OK)

/-- A host command other than the request itself is open (R376). -/
def hostBusy (s : State) : Bool :=
  (List.range 32).any fun r => (s.hqOf r).cmds.any fun c => !(s.waits.any fun w => w.1 = WaitOn.power && w.2.ring = r && w.2.seq = c.seq)

/-- The answer of a hardware participant (R376): 1 ACCEPT, 2 REFUSE, 3 DELAY. -/
def hwAnswer (s : State) (p : Nat) : Nat :=
  let deep := decide (2 ≤ s.sup.target)
  if p < 20 then (if (List.range 4).all fun i => s.fld (LE_STAT_STATE (4 * (p - 12) + i)) = 0 then 1 else 2)
  else match p with
    | 20 => if (List.range 12).all fun g => s.stopped g then 1 else 2
    | 21 =>
      if (List.range 32).any fun n => s.flag (ADC_CTRL_EN n) && s.fld (ADC_CTRL_TRG_MODE n) = 2 then 2
      else if (List.range 32).any fun n => s.flag (ADC_STAT_BUSY n) || s.flag (ADC_STAT_URG_BUSY n) || s.flag (ADC_STAT_URG_PEND n) then 3
      else if (List.range 8).any fun n => (s.fbOf n).ssiBusy || (s.fbOf n).req.isSome then 3
      else 1
    | 22 => if deep && canPending s then 3 else 1
    | 23 => if deep && fabPending s then 3 else 1
    | 24 => if hostBusy s then 2 else 1
    | 25 => if s.storeHeld || !s.deferred.isEmpty then 3 else 1
    | _ => if s.flag SAF_STAT_DEV_LATCH || s.latchedMask ≠ 0 || (deep && s.fld SAF_SOUT_REQ_ON ≠ 0) then 2 else 1

/-- POWER_STATE_COMMIT: STATE is written, the request completes and its record is closed, and for RETAIN and OFF the power goes. -/
def psCommit (s : State) : State :=
  let t := s.sup.target
  let s := s.putAll [(PWR_PS_STAT_STATE, t), (PWR_PS_STAT_ENTERING, 0), (PWR_PS_STAT_LAST_RESULT, 1)]
  let refs := (s.waits.filter fun (w : WaitOn × CmdRef) => w.1 = WaitOn.power).map (·.2)
  let s := releaseAll { s with sup := { s.sup with asleep := 0 }, waits := s.waits.filter fun w => w.1 ≠ WaitOn.power }
  let s := s.each refs fun s r => completeNow s r .OK
  if t < 2 then s
  else
    let s := if s.flag PWR_CORE_STAT_PATH_ACT then driveVid s 0 else pmbus s 0x01 0
    let s := soutDriveAll (fabClose (linkDown s))
    { s.put PWR_CORE_STAT_RAIL_OK 0 with timeRuns := false, sup := { s.sup with armed := false } }

/-- Every participant has answered ACCEPT: the commit point, once a pending voltage change is over (R372). -/
def psCheck (s : State) : State :=
  if s.flag PWR_PS_STAT_ENTERING && !s.flag PWR_CORE_STAT_PENDING && (List.range 27).all fun p => Tbl.get 0 s.sup.answers p = 1 then psCommit s
  else s

/-- An answer: a REFUSE aborts the entry (R377). A participant that has answered ACCEPT keeps its answer. -/
def answer (s : State) (p a : Nat) : State :=
  if !s.flag PWR_PS_STAT_ENTERING || Tbl.get 0 s.sup.answers p = 1 then s
  else if a = 2 then psAbort s p false 2 .PS_REFUSED
  else if a = 1 || a = 3 then psCheck (showDeferred { s with sup := { s.sup with answers := Tbl.set 0 s.sup.answers p a } })
  else s

/-- PARTICIPANT_ANSWER of a hardware participant. -/
def participantAnswer (s : State) (p : Nat) : State := if p < 12 then s else answer s p (hwAnswer s p)

/-- PAIR_ANSWER: a DELAY declares 1 ms to 100 ms. -/
def pairAnswer (s : State) (n data : Nat) : State × Status :=
  let d := bitsOf data 8 7
  if data % 4 = 3 && (d = 0 || 100 < d) then (s.refuse pwrErr .PWR_RANGE, .PWR_RANGE) else (answer s n (data % 4), .OK)

/-- PAIR_ANSWER_TIMEOUT: silence for 1 ms is a DELAY. -/
def pairSilent (s : State) (n : Nat) : State := if Tbl.get 0 s.sup.answers n = 0 then answer s n 3 else s

/-- DELAY_TIMEOUT. -/
def delayTimeout (s : State) (p : Nat) : State :=
  if s.flag PWR_PS_STAT_ENTERING && Tbl.get 0 s.sup.answers p = 3 then psAbort s p true 3 .PS_TIMEOUT else s

/-- RAIL_WAKE_TIMEOUT: 5 ms without an acknowledgement; RAIL_RETRY turns the rail on again (R381). -/
def railWakeTimeout (s : State) : State := if s.sup.waking then s.put PWR_CORE_STAT_NO_RAIL 1 else s
def railRetry (s : State) : State := if s.sup.waking && s.flag PWR_CORE_STAT_NO_RAIL then railOn s else s

/-! ### Retention (R383, R384) -/

/-- RETENTION_RAIL_DROP: latched while in RETAIN. -/
def railDrop (s : State) (b : Nat) : State :=
  if psState s = 2 then { s with sup := { s.sup with failed := setBit s.sup.failed b } } else s

/-- RETENTION_BANK_CLEAR: zeroing begins for the named banks that are lost. -/
def bankClear (s : State) (high : Bool) (data : Nat) : State :=
  let m := if high then data % 16 * 2 ^ 32 else data
  { s with sup := { s.sup with zeroing := s.sup.zeroing ||| (m &&& lostBanks s) } }

/-- The contents of a bank become 0: its cells and its registers. -/
def zeroBank (s : State) (b : Nat) : State :=
  let s := { s with
    bytes := s.bytes.filter fun c => bankOf c.1 ≠ some b
    words := s.words.filter fun c => bankOf c.1 ≠ some b
    regs := s.regs.filter fun (e : Nat × Nat) => bankOf (e.1 / 32) ≠ some b }
  let s := if b = 34 then s.put CHG_PILOT_STATE 0 else s
  s.each (List.range 32) fun s e => if 24 ≤ b && b < 32 && e / 4 = b - 24 then { s with eng := Tbl.erase e s.eng } else s

/-- BANK_ZEROED: LOST clears. -/
def bankZeroed (s : State) (b : Nat) : State :=
  if !s.sup.zeroing.testBit b then s
  else
    let l := clearBit (lostBanks s) b
    let s := { s with sup := { s.sup with zeroing := clearBit s.sup.zeroing b } }
    (zeroBank s b).putAll [(PWR_RET_LOST_LO_BANKS, l), (PWR_RET_LOST_HI_BANKS, l / 2 ^ 32)]

/-- DOMAIN_POWER_UP: the domain is released. -/
def domainUp (s : State) (d : Nat) : State := { s with sup := { s.sup with parked := clearBit s.sup.parked d } }

/-! ### Register writes (R386) -/

/-- A write to a PWR_ register that has no row of its own. -/
def pwrRegWrite (s : State) (a data : Nat) : State × Status :=
  if a = 0x60068040 then
    checkedWrite s pwrErr [(60 < bitsOf data 18 8 || bitsOf data 18 8 < bitsOf data 10 8, .PWR_RANGE)] a data
  else if a = 0x60068070 then
    checkedWrite s pwrErr [((List.range 4).any fun w => bitsOf data (4 + 2 * w) 2 = 3, .PWR_RANGE)] a data
  else if a = 0x60068094 then writeFields s pwrErr a (data ||| 10)
  else if a = 0x600680F0 then writeLock s pwrErr data
  else writeFields s pwrErr a data

end Sys2Proof.Machine
end

