-- ==== Sys2Proof/Machine/Lands.lean ====
section
/-! DEFINITION. The lands of the module (R515, R516), their state where their function does not drive them (R520), and what the
boundary register and the analogue boundary modules do to them (R504, R505). -/

namespace Sys2Proof.Machine

/-! ### Groups of lands (R516) -/

/-- The groups of lands. `pcie` holds the lanes and the reference clock, `pm` PM_SCL, PM_SDA and PM_ALERT, `tap` TCK, TMS, TDI, TDO and
TRST_N, `lv` the lands Vkk_HO, Vkk_LO and Vkk_SW. -/
inductive LandGroup where
  | gs | gnd | vcore | vcoreSns | feedA | feedB | hold | soutVs | sout | sin | ov3 | wake | trip | ain | mod | mclk | fb | exc | emu
  | can | fabric | anchorN | pcie | perstN | pm | vid | sysResetN | tap | atb | lv | vstg
  deriving DecidableEq, Repr

/-- Each group with its first land and its count. -/
def landTable : List (LandGroup × Nat × Nat) :=
  [(.gs, 1, 576), (.gnd, 577, 135), (.vcore, 712, 48), (.vcoreSns, 760, 2), (.feedA, 762, 4), (.feedB, 766, 4), (.hold, 770, 2),
    (.soutVs, 772, 4), (.sout, 776, 8), (.sin, 784, 16), (.ov3, 800, 2), (.wake, 802, 4), (.trip, 806, 16), (.ain, 822, 128),
    (.mod, 950, 24), (.mclk, 974, 4)]
  ++ [(.fb, 978, 48), (.exc, 1026, 4), (.emu, 1030, 12), (.can, 1042, 16), (.fabric, 1058, 32), (.anchorN, 1090, 1), (.pcie, 1091, 10),
    (.perstN, 1101, 1), (.pm, 1102, 3), (.vid, 1105, 2), (.sysResetN, 1107, 1), (.tap, 1108, 5), (.atb, 1113, 2), (.lv, 1115, 36),
    (.vstg, 1151, 6)]

/-- The group of a land and the land's index within it. -/
def landAt (l : Nat) : Option (LandGroup × Nat) :=
  (landTable.find? fun e => e.2.1 ≤ l && l < e.2.1 + e.2.2).map fun e => (e.1, l - e.2.1)

/-! ### The boundary register (R504) -/

/-- What the boundary register has at a land. -/
inductive CellClass where
  /-- A control, an output and an input cell. -/
  | driven
  /-- An input cell: EXTEST never drives the land. -/
  | inputOnly
  | analogue
  | none
  deriving DecidableEq, Repr

/-- The cells of a group's lands. Supplies and ground have none (DEDUCED, log 104). -/
def cellClass : LandGroup → CellClass
  | .trip | .fb | .can | .wake | .vid | .pm | .perstN | .sysResetN | .anchorN | .mod | .mclk | .emu => .driven
  | .sin | .sout | .lv => .inputOnly
  | .ain | .exc => .analogue
  | .tap | .pcie | .fabric | .feedA | .feedB | .hold | .atb | .ov3 | .gs | .gnd | .vcore | .vcoreSns | .soutVs | .vstg => .none

/-- What the test logic does to a land: nothing, it drives a level, or it releases the land. -/
inductive LandDrive where
  | system
  | level (high : Bool)
  | released
  deriving DecidableEq, Repr

/-- The number of a variant, as the fuses count it. -/
def Variant.index : Variant → Nat
  | .ax72 => 0 | .ax48 => 1 | .ax24 => 2

/-- The update latch of a land's cell: 0 its control cell, 1 its output cell. The places are the BSDL file's (R504). -/
def landCell (s : State) (l role : Nat) : Bool := s.tap.cells.toNat.testBit (Config.boundaryCell s.variant.index l role)

/-- EXTEST and CLAMP drive a land from its cells, HIGHZ releases it; every other instruction, and PROBE, leaves it alone. -/
def landDrive (s : State) (l : Nat) : LandDrive :=
  match (landAt l).map fun g => cellClass g.1 with
  | some .driven =>
    if s.tap.instr = 3 || s.tap.instr = 4 then (if landCell s l 0 then .level (landCell s l 1) else .released)
    else if s.tap.instr = 5 then .released
    else .system
  | _ => .system

/-! ### The analogue boundary modules (R505) -/

/-- The level a module ties its land to. -/
inductive Tie where
  | vh | vl | vg
  deriving DecidableEq, Repr

/-- A module's switches: the land on its own function, on the internal buses AB1 and AB2, on a level. With none of them the land is
isolated. -/
structure Abm where
  core : Bool := true
  ab1 : Bool := false
  ab2 : Bool := false
  tie : Option Tie := none
  deriving DecidableEq, Repr

/-- What the cells ask of the module of a land: bits 0 and 1 AB1 and AB2, the next two the level. -/
def abmAsked (s : State) (l : Nat) : Abm :=
  let v := Config.boundaryModule s.variant.index s.tap.cells l
  { core := false, ab1 := v.testBit 0, ab2 := v.testBit 1,
    tie := match v / 4 % 4 with
      | 1 => some .vh
      | 2 => some .vl
      | 3 => some .vg
      | _ => none }

/-- The switches of the module of a land, none at a land without one. PROBE joins the buses and leaves the land on its function. -/
def abmOf (s : State) (l : Nat) : Option Abm :=
  match (landAt l).map fun g => cellClass g.1 with
  | some .analogue =>
    let a := abmAsked s l
    some (if s.tap.instr = 6 then { a with core := true, tie := none }
      else if s.tap.instr = 3 || s.tap.instr = 4 then a
      else if s.tap.instr = 5 then { core := false }
      else {})
  | _ => none

/-! ### Data scans (R500, R504) -/

/-- The IDCODE register: die revision, part of the variant, manufacturer, 1. -/
def idcode (s : State) : Nat :=
  Config.dieRevision % 16 * 2 ^ 28 + (0x8361 + s.variant.index) * 2 ^ 12 + 0x2C7 * 2 + 1

/-- The instructions that put the boundary register between TDI and TDO. -/
def boundaryInstr (c : Nat) : Bool := c = 2 || c = 3 || c = 6

/-- A scan of the data register under the loaded instruction: the boundary register captures its lands' levels, shifts them out and
takes what was shifted in at Update-DR; IDCODE and BYPASS shift out their own. AUTH, DTMCS and DMI have rows of their own. -/
def dataScan (s : State) (d : BoundaryScan) : State :=
  let c := s.tap.instr
  if boundaryInstr c then { s with tap := { s.tap with cells := d.shifted } }.emit (.scan 612 d.pins.toNat)
  else if c = 1 then s.emit (.scan 32 (idcode s))
  else if c = 8 || c = 0x10 || c = 0x11 then s
  else s.emit (.scan 1 0)

/-! ### Lands at rest (R520) -/

/-- The state of a land that its function does not drive. -/
inductive Pad where
  | highZ | input | off | low | high
  /-- On its internal pull alone. -/
  | pullDown | pullUp
  /-- 1.25 V. -/
  | mid
  /-- The orphan policy of its satellite or driver (R125). -/
  | orphan
  /-- The state of its satellite or driver (R124). -/
  | byState
  /-- The optical or electrical bypass of a fabric port is closed (R451). -/
  | bypass
  /-- The link keeps it (R400, R460). -/
  | link
  deriving DecidableEq, Repr

/-- The internal pull of a land, none where it has no pull: `true` up to 3.3 V, `false` down. `i` is its index in the group. -/
def padPull : LandGroup → Nat → Option Bool
  | .gs, i => if i % 12 = 7 then some false else none
  | .lv, i => if i % 3 = 2 then none else some false
  | .sout, _ | .sin, _ | .wake, _ => some false
  | .can, i => if i % 2 = 0 then some true else none
  | .vid, _ | .anchorN, _ | .sysResetN, _ | .perstN, _ => some true
  | .tap, i => if i = 3 then none else some (i ≠ 0)
  | _, _ => none

/-- The land without a supply of island 41; of a satellite's land, with VPOS below 8 V. -/
def padUnpowered : LandGroup → Nat → Pad
  | .gs, i => if i % 12 = 7 then .pullDown else .highZ
  | .lv, i => if i % 3 = 2 then .highZ else .pullDown
  | .sout, _ => .off
  | .fabric, _ => .bypass
  | .sin, _ | .anchorN, _ | .sysResetN, _ | .perstN, _ | .wake, _ => .input
  | .tap, i => if i = 3 then .highZ else .input
  | _, _ => .highZ

/-- The land from the entry of a start to mode-ready. VID is pulled up in step 1 of a power-on start and driven from then on. -/
def padStart (s : State) : LandGroup → Nat → Pad
  | .gs, i => if 6 ≤ i % 12 && i % 12 ≤ 8 then .orphan else .highZ
  | .lv, i => if i % 3 = 2 then .highZ else .orphan
  | .sout, _ => .off
  | .can, i => if i % 2 = 0 then .high else .highZ
  | .fb, i => if i % 6 = 3 then .low else .highZ
  | .mclk, _ | .emu, _ => .low
  | .vid, i =>
    if s.fld PWR_START_STAT_STEP = 1 && s.fld PWR_START_STAT_CAUSE = 0 then .pullUp
    else if s.sup.vid.testBit i then .high else .low
  | .fabric, _ => if s.flag PWR_START_STAT_KIND && s.fld PWR_START_STAT_STEP < 8 then .bypass else .link
  | .pcie, _ => if s.flag PWR_START_STAT_KIND && s.fld PWR_START_STAT_STEP < 2 then .highZ else .link
  | .sin, _ | .anchorN, _ | .sysResetN, _ | .perstN, _ | .wake, _ => .input
  | .tap, i => if i = 3 then .highZ else .input
  | _, _ => .highZ

/-- The land after mode-ready where its function is disabled. -/
def padUnused (s : State) : LandGroup → Nat → Pad
  | .gs, i => if 6 ≤ i % 12 && i % 12 ≤ 8 then .byState else .highZ
  | .lv, i => if i % 3 = 2 then .highZ else .off
  | .exc, _ => .mid
  | .vid, i => if s.sup.vid.testBit i then .high else .low
  | .fabric, _ | .pcie, _ => .link
  | g, i => padStart s g i

/-- The state of a land that its function does not drive, boundary scan apart; none for a number that is no land. -/
def padState (s : State) (l : Nat) : Option Pad :=
  (landAt l).map fun (g, i) =>
    if s.fld PWR_START_STAT_STEP = 0 && !s.sup.lost then padUnpowered g i
    else if s.fld PWR_START_STAT_STEP < 11 then padStart s g i
    else padUnused s g i

end Sys2Proof.Machine
end

