-- ==== Sys2Proof/Machine/Thermal.lean ====
section
/-! DEFINITION. Thermal zones and throttling (R388-R399). Temperatures are signed, in 0.125 °C. -/

namespace Sys2Proof.Machine

/-- The refusals of R398. -/
def thmErr : BlockErr where
  last := THM_ERR_LAST_ERR
  cnt := THM_ERR_ERR_CNT
  lock := THM_LOCK
  locked := .THM_LOCKED
  codes := [(.THM_RANGE, 1), (.THM_LOCKED, 2), (.LEG_ABSENT, 3)]

namespace State

def sensOf (s : State) (k : Nat) : Sens := Tbl.get {} s.thm.sens k
def setSens (s : State) (k : Nat) (v : Sens) : State := { s with thm := { s.thm with sens := Tbl.set {} s.thm.sens k v } }
def zoneOf (s : State) (z : Nat) : Zone := Tbl.get {} s.thm.zones z
def setZone (s : State) (z : Nat) (v : Zone) : State := { s with thm := { s.thm with zones := Tbl.set {} s.thm.zones z v } }

/-- Sensor `k` exists in the variant (R388). -/
def sensFitted (s : State) (k : Nat) : Bool :=
  if k < 16 then true
  else if k < 64 then s.linkFitted (k - 16)
  else if k < 112 then s.linkFitted (k - 64)
  else k < 118 && s.linkFitted (48 + 2 * (k - 112))

end State

/-! ### Sensors (R388-R390) -/

/-- The temperature of an NTC voltage of `v` times 0.61 mV: linear between the two neighbouring table entries (R389); the rounding is
not stated (log 4). -/
def ntcTemp (s : State) (v : Nat) : Int × State :=
  let i := v * 610 / 78125
  let t0 := signedOf 12 (s.fld (THM_NTC_TEMP i))
  let t1 := signedOf 12 (s.fld (THM_NTC_TEMP (i + 1)))
  s.rounded (t0 * 78125 + (t1 - t0) * ((v * 610 % 78125 : Nat) : Int)) 78125

/-- The reading of sensor `k` of a satellite or driver. -/
def reading (s : State) (k : Nat) : Int × State :=
  if k < 64 then ntcTemp s (s.fld (GS_NTC_VALUE (k - 16)))
  else if k < 112 then (signedOf 12 (s.fld (GS_DIE_TEMP (k - 64))), s)
  else (signedOf 12 (s.fld (LD_DIE_TEMP (k - 112))), s)

/-- The satellite or driver reports the sensor broken or stale (R129). -/
def reportsBad (s : State) (k : Nat) : Bool :=
  if k < 16 then false
  else if k < 64 then s.flag (GS_NTC_BROKEN (k - 16)) || s.flag (GS_NTC_STALE (k - 16))
  else if k < 112 then s.flag (GS_DIE_STALE (k - 64))
  else s.flag (LD_DIE_STALE (k - 112))

/-- Show a sensor broken or whole. -/
def showBroken (s : State) (k : Nat) (b : Bool) : State :=
  let w := k / 32
  let v := s.fld (THM_BROKEN_BITS w)
  (s.putFlag (THM_SENS_BROKEN k) b).put (THM_BROKEN_BITS w) (if b then setBit v (k % 32) else clearBit v (k % 32))

/-- Sensor `k` is broken, with an interrupt where it was whole, or counts `good` usable samples since it broke: 16 make it valid again
(R390). -/
def markSensor (s : State) (k : Nat) (bad : Bool) (good : Nat) : State :=
  let was := s.flag (THM_SENS_BROKEN k)
  let broken := bad || (was && good < 16)
  let s := (showBroken s k broken).putFlag (THM_SENS_VALID k) (!broken)
  s.when (broken && !was && s.flag THM_CFG_BRK_IE) fun s => s.irq (rolePair s 5) .thm k 1

/-- A sample `v` of sensor `k`, taken at `time`: one that R390 faults breaks it. -/
def takeSample (s : State) (k time : Nat) (v : Int) : State :=
  let x := s.sensOf k
  let jump := x.last.any fun p => 200 < (v - p).natAbs
  let bad := reportsBad s k || v < -440 || 1600 < v || jump
  let good := if bad then 0 else min 16 (x.good + 1)
  let s := s.setSens k { last := some v, at_ := time, good := good }
  markSensor (s.put (THM_SENS_TEMP k) (codeOf 12 v)) k bad good

/-- The sample of a fitted satellite or driver sensor that a MEAS frame has brought. The block does not measure in RETAIN or OFF. -/
def sensorSample (s : State) (k time : Nat) : State :=
  if 2 ≤ psState s || !s.sensFitted k then s
  else
    let t := reading s k
    takeSample t.2 k time t.1

/-- A measurement that has gone stale breaks its sensor, once it has had a sample (R129, R390). -/
def sensorStale (s : State) (k : Nat) : State :=
  if 2 ≤ psState s || (s.sensOf k).last.isNone then s
  else markSensor (s.setSens k { s.sensOf k with good := 0 }) k true 0

/-- A MEAS frame of a link, with the sample it brings its sensor (R129, R388). -/
def measSample (s : State) (l : Nat) (f : BitVec 40) : State :=
  let s := takeMeas s l f
  let t := extendTime s.mtime 10 (bodyBits f 17 8)
  match bodyBits f 31 30 with
  | 0 => if l < 48 then sensorSample s (16 + l) t else s
  | 1 => sensorSample s (if l < 48 then 64 + l else 112 + (l - 48) / 2) t
  | _ => s

/-- MEASUREMENT_STALE (R129), and what it does to the sensor. -/
def measGone (s : State) (l : Nat) (die : Bool) : State :=
  let s := measStale s l die
  if l < 48 then sensorStale s (if die then 64 + l else 16 + l)
  else if die then sensorStale s (112 + (l - 48) / 2) else s

/-! ### Zones (R391-R396) -/

/-- The valid members of a zone (R392). -/
def zoneMembers (s : State) (z : Nat) : List Nat :=
  (List.range 118).filter fun k => (s.fld (THM_Z_MEMB_BITS z (k / 32))).testBit (k % 32) && s.flag (THM_SENS_VALID k)

/-- A threshold of a zone. -/
def coneAt (s : State) (z k : Nat) : Int :=
  4 * signedOf 10 (s.fld (if k = 1 then THM_Z_CONE_C1 z else if k = 2 then THM_Z_CONE_C2 z else THM_Z_CONE_C3 z))

def zoneTemp (s : State) (z : Nat) : Int := signedOf 12 (s.fld (THM_Z_STAT_TEMP z))

/-- The highest Cone entered and not left (R393) at temperature `t`. -/
def coneOf (s : State) (z : Nat) (t : Int) : Nat :=
  let c := s.fld (THM_Z_STAT_CONE z)
  let h : Int := 4 * (s.fld (THM_Z_CFG_H z) : Int)
  let inn (k : Nat) : Bool := decide (coneAt s z k ≤ t) || (decide (k ≤ c) && decide (coneAt s z k - h < t))
  if inn 3 then 3 else if inn 2 then 2 else if inn 1 then 1 else 0

/-- The factor of target `t` (R394): the lowest derate of the enabled zones that map it. -/
def targetFactor (s : State) (t : Nat) : Nat :=
  (List.range 16).foldl (fun m z =>
    if s.flag (THM_Z_CFG_EN z) && (s.fld (THM_Z_CFG_MAP z)).testBit t then min m (s.fld (THM_Z_STAT_DERATE z)) else m) 256

/-- The factors act as DERATE of the traction slots and in the charge setpoint (R394). -/
def applyFactors (s : State) : State :=
  let s := s.each (List.range 4) fun s t =>
    let v := targetFactor s t
    trcDerate (s.put (THM_DERATE t) v) t v
  let v := targetFactor s 4
  if s.fld (THM_DERATE 4) = v then s else chgDerate (s.put (THM_DERATE 4) v)

/-- The derate of a zone rises by DSTEP; enforced derating ends at 256 (R396). -/
def derateRise (s : State) (z : Nat) : State :=
  let v := min 256 (s.fld (THM_Z_STAT_DERATE z) + s.fld THM_CFG_DSTEP)
  (s.put (THM_Z_STAT_DERATE z) v).when (v = 256) fun s => s.putFlag (THM_Z_STAT_ENFORCED z) false

/-- One step down, not below DMIN (R396). -/
def derateFall (s : State) (z : Nat) : State :=
  let d := s.fld (THM_Z_STAT_DERATE z)
  s.put (THM_Z_STAT_DERATE z) (min d (max (s.fld (THM_Z_CFG_DMIN z)) (d - s.fld THM_CFG_DSTEP)))

/-- Entry into Cone 2 (R395): T_req, the notice and the grace time; under enforced derating it goes on without a new grace time. -/
def throttleRequest (s : State) (z : Nat) : State :=
  let s := s.putFlag (THM_Z_STAT_ACKED z) false
  let t := zoneTemp s z
  if s.flag (THM_Z_STAT_ENFORCED z) then s.setZone z { s.zoneOf z with treq := t }
  else
    postEvent (s.setZone z { s.zoneOf z with treq := t, grace := true }) 4 (BitVec.ofNat 8 z :: leBytes 4 (codeOf 32 t))

/-- The Cone of a zone changes to `c` (R394-R396). -/
def coneChange (s : State) (z c : Nat) : State :=
  let c0 := s.fld (THM_Z_STAT_CONE z)
  let s := s.put (THM_Z_STAT_CONE z) c
  let s := s.when (c0 < 1 && 1 ≤ c) fun s =>
    (s.putFlag (THM_Z_STAT_WARN z) true).when (s.flag THM_CFG_C1_IE) fun s => s.irq (rolePair s 5) .thm z 0
  let s := s.when (c0 < 2 && 2 ≤ c) fun s => throttleRequest s z
  let s := s.when (c0 < 3 && c = 3) fun s =>
    let s := (s.setZone z { s.zoneOf z with grace := false }).putAll [(THM_Z_STAT_DERATE z, 0), (THM_Z_STAT_ENFORCED z, 1)]
    (s.irq (rolePair s 5) .thm z 2).irq 11 .thm z 2
  let s := s.when (c0 = 3 && c < 3) fun s =>
    (s.put (THM_Z_STAT_DERATE z) (s.fld (THM_Z_CFG_DMIN z))).setZone z { s.zoneOf z with prev := zoneTemp s z }
  s.when (2 ≤ c0 && c < 2) fun s =>
    let s := (s.setZone z { s.zoneOf z with grace := false }).putFlag (THM_Z_STAT_ACKED z) false
    s.when (s.flag (THM_Z_STAT_ENFORCED z)) fun s => derateRise s z

/-- One enabled zone at an evaluation. A zone with no valid member is LOST and counts as being at Cone 3, but PENDING without any Cone
action while the exception of R392 lasts. -/
def judgeZone (s : State) (z : Nat) : State :=
  if !s.flag (THM_Z_CFG_EN z) then s
  else
    let s := s.put (THM_Z_TIME_T z) (s.mtime % 2 ^ 32)
    match zoneMembers s z with
    | [] =>
      if s.thm.window then s.putFlag (THM_Z_STAT_PENDING z) true else coneChange (s.putFlag (THM_Z_STAT_LOST z) true) z 3
    | k :: ks =>
      let t := ks.foldl (fun m k => max m (signedOf 12 (s.fld (THM_SENS_TEMP k)))) (signedOf 12 (s.fld (THM_SENS_TEMP k)))
      let s := s.putAll [(THM_Z_STAT_TEMP z, codeOf 12 t), (THM_Z_STAT_LOST z, 0), (THM_Z_STAT_PENDING z, 0)]
      coneChange s z (coneOf s z t)

/-- An enabled zone that calls for the fast rate: at or above its Cone 2 − 10 °C, or LOST (R391). -/
def zoneWarm (s : State) (z : Nat) : Bool :=
  s.flag (THM_Z_CFG_EN z) && (s.flag (THM_Z_STAT_LOST z)
    || (!s.flag (THM_Z_STAT_PENDING z) && decide (coneAt s z 2 - 80 ≤ zoneTemp s z)))

/-- The rate (R391): fast on the AX836-72; else fast from the first warm zone until every zone has been cool for 1 s. -/
def thermalRate (s : State) : State :=
  if s.variant = .ax72 then s.putFlag THM_CFG_FAST true
  else if (List.range 16).any fun z => zoneWarm s z then ({ s with thm := { s.thm with cool := none } }).putFlag THM_CFG_FAST true
  else
    match s.thm.cool with
    | none => { s with thm := { s.thm with cool := some s.mtime } }
    | some t => s.when (t + 400000000 ≤ s.mtime) fun s => s.putFlag THM_CFG_FAST false

/-- THERMAL_EVALUATION: the on-die sensors give their samples `td`, 12 bits each from bit 0; then every zone is judged.
The block does not measure in RETAIN or OFF. -/
def thermalEvaluation (s : State) (td : BitVec 192) : State :=
  if 2 ≤ psState s then s
  else
    let s := s.each (List.range 16) fun s k => takeSample s k s.mtime (signedOf 12 (bitsOf td.toNat (12 * k) 12))
    thermalRate (applyFactors (s.each (List.range 16) judgeZone))

/-- ZONE_PENDING_END: each zone still PENDING becomes LOST (R392). -/
def zonePendingEnd (s : State) : State :=
  let s := { s with thm := { s.thm with window := false } }
  let s := s.each (List.range 16) fun s z =>
    if !s.flag (THM_Z_STAT_PENDING z) then s
    else
      let s := s.putFlag (THM_Z_STAT_PENDING z) false
      if s.flag (THM_Z_CFG_EN z) then coneChange (s.putFlag (THM_Z_STAT_LOST z) true) z 3 else s
  thermalRate (applyFactors s)

/-- GRACE_END: the zone complies, or enforced derating begins with one step down (R395). -/
def graceEnd (s : State) (z : Nat) : State :=
  let x := s.zoneOf z
  if !x.grace then s
  else
    let s := s.setZone z { x with grace := false, prev := zoneTemp s z }
    if s.flag (THM_Z_STAT_ACKED z) && decide (zoneTemp s z ≤ x.treq) then s
    else applyFactors (derateFall (s.putFlag (THM_Z_STAT_ENFORCED z) true) z)

/-- DERATE_STEP: every 100 ms under enforced derating (R396). At Cone 3 the derate stays 0. -/
def derateStep (s : State) (z : Nat) : State :=
  if !s.flag (THM_Z_STAT_ENFORCED z) then s
  else
    let t := zoneTemp s z
    let p := (s.zoneOf z).prev
    let c := s.fld (THM_Z_STAT_CONE z)
    let s := s.setZone z { s.zoneOf z with prev := t }
    if c = 3 then s
    else applyFactors (if c < 2 then derateRise s z else if t < p then s else derateFall s z)

/-- An acknowledgement of zones: those in their grace time take it (R395). -/
def thmAck (s : State) (zones : Nat) : State :=
  s.each (bitsSet 16 zones) fun s z => s.when (s.zoneOf z).grace fun s => s.putFlag (THM_Z_STAT_ACKED z) true

/-- The thermal status at the entry of a start, and at a wake: re-established from the first samples (R392, R398). -/
def thermalRestart (s : State) : State :=
  let s := { s with thm := { window := true } }
  let s := s.each (List.range 118) fun s k => showBroken (s.putAll [(THM_SENS_TEMP k, 0), (THM_SENS_VALID k, 0)]) k false
  let s := s.each (List.range 16) fun s z =>
    s.putAll [(THM_Z_STAT_TEMP z, 0), (THM_Z_STAT_CONE z, 0), (THM_Z_STAT_LOST z, 0), (THM_Z_STAT_PENDING z, 1),
      (THM_Z_STAT_ACKED z, 0), (THM_Z_STAT_ENFORCED z, 0), (THM_Z_STAT_DERATE z, 256), (THM_Z_STAT_WARN z, 0)]
  applyFactors (s.putFlag THM_CFG_FAST (s.variant = .ax72))

/-! ### Register writes (R389, R393, R398) -/

/-- Thresholds and hysteresis, in 0.5 °C, are in order (R393). -/
def coneOrder (cones h : Nat) : Bool :=
  let c (lo : Nat) : Int := signedOf 10 (bitsOf cones lo 10)
  let h : Int := h
  decide (c 0 < c 10) && decide (c 10 < c 20) && decide (h < c 10 - c 0) && decide (h < c 20 - c 10)

/-- The thresholds of a zone as their register holds them. -/
def conesNow (s : State) (z : Nat) : Nat :=
  s.fld (THM_Z_CONE_C1 z) + 2 ^ 10 * s.fld (THM_Z_CONE_C2 z) + 2 ^ 20 * s.fld (THM_Z_CONE_C3 z)

/-- A zone switched off gives up its request and its derating. -/
def zoneOff (s : State) (z : Nat) : State :=
  (s.setZone z {}).putAll [(THM_Z_STAT_CONE z, 0), (THM_Z_STAT_LOST z, 0), (THM_Z_STAT_ACKED z, 0), (THM_Z_STAT_ENFORCED z, 0),
    (THM_Z_STAT_DERATE z, 256)]

/-- A write of the register at `a` of the thermal block, other than THM_ACK. -/
def thmRegWrite (s : State) (a data : Nat) : State × Status :=
  let o := a - 0x60070000
  if o = 0 then
    let g := bitsOf data 0 14
    let d := bitsOf data 14 7
    checkedWrite s thmErr [(g < 10 || 10000 < g || d = 0 || 64 < d, .THM_RANGE)] a data
  else if 0x300 ≤ o && o < 0x384 then
    let i := (o - 0x300) / 4
    let v := signedOf 12 data
    let up := decide (0 < i) && decide (signedOf 12 (s.fld (THM_NTC_TEMP (i - 1))) < v)
    let down := decide (i < 32) && decide (v < signedOf 12 (s.fld (THM_NTC_TEMP (i + 1))))
    checkedWrite s thmErr [(up || down, .THM_RANGE)] a data
  else if 0x800 ≤ o && o < 0xA00 then
    let z := (o - 0x800) / 0x20
    match (o - 0x800) % 0x20 / 4 with
    | 0 =>
      let h := bitsOf data 6 6
      let bad := h = 0 || 40 < h || 255 < bitsOf data 12 9 || !coneOrder (conesNow s z) h
      let r := checkedWrite s thmErr [(bad, .THM_RANGE)] a data
      (applyFactors (r.1.when (!r.1.flag (THM_Z_CFG_EN z)) fun s => zoneOff s z), r.2)
    | 1 => checkedWrite s thmErr [(!coneOrder data (s.fld (THM_Z_CFG_H z)), .THM_RANGE)] a data
    | 6 => writeFields s thmErr a data
    | 7 => writeFields s thmErr a data
    | w =>
      let absent := (bitsSet 32 data).any fun b => 32 * (w - 2) + b < 118 && !s.sensFitted (32 * (w - 2) + b)
      checkedWrite s thmErr [(absent, .LEG_ABSENT)] a data
  else if o = 0xF00 then writeLock s thmErr data
  else writeFields s thmErr a data

end Sys2Proof.Machine
end

