-- ==== Sys2Proof/Machine/TestDebug.lean ====
section
/-! DEFINITION. Test access, test buses, satellite self-test and trace (R500-R513). -/

namespace Sys2Proof.Machine

/-- The refusals of R512. -/
def tstErr : BlockErr where
  last := TST_ERR_LAST_ERR
  cnt := TST_ERR_ERR_CNT
  lock := TST_LOCK
  locked := .TST_LOCKED
  codes := [(.TST_RANGE, 1), (.TST_BUSY, 2), (.TST_LOCKED, 3)]

/-! ### The TAP (R500-R503) -/

def State.setTap (s : State) (v : Tap) : State := { s with tap := v }

/-- TAP_RESET: Test-Logic-Reset selects IDCODE; TRST_N also clears UNLOCKED. -/
def tapReset (s : State) (trst : Bool) : State :=
  (s.setTap { s.tap with instr := 1 }).when trst fun s => s.putFlag TST_STAT_UNLOCKED false

/-- The intrusive instructions, and those of debug. -/
def intrusive (c : Nat) : Bool := 3 ≤ c && c ≤ 6
def debugInstr (c : Nat) : Bool := c = 0x10 || c = 0x11

/-- The access policy lets intrusive and debug instructions through (R501). -/
def policyOpen (s : State) : Bool := s.tap.policy = 0 || (s.tap.policy = 1 && s.flag TST_STAT_UNLOCKED)

/-- The instruction that a load selects: codes not listed select BYPASS; one that is not allowed becomes BYPASS and sets REFUSED. -/
def instructionSelect (s : State) (c : Nat) : State :=
  if c = 1 || c = 2 || c = 8 || c = 31 then s.setTap { s.tap with instr := c }
  else if (intrusive c && policyOpen s && s.tap.resetLow) || (debugInstr c && policyOpen s) then s.setTap { s.tap with instr := c }
  else (s.setTap { s.tap with instr := 31 }).when (intrusive c || debugInstr c) fun s => s.putFlag TST_STAT_REFUSED true

/-- INSTRUCTION_LOAD: the instruction register captures 0b00001; the loaded instruction acts on a scan of its data register that
follows (R500, R501, R504). -/
def instructionLoad (s : State) (c : Nat) (scan : Option BoundaryScan) : State :=
  let s := instructionSelect (s.emit (.scan 5 1)) c
  match scan with
  | some d => dataScan s d
  | none => s

/-- AUTH_CAPTURE: a new challenge from the random source (log 3) and the identity of GS00; `due` says that no failure lies less
than 1 s back. -/
def authCapture (s : State) (due : Bool) : State :=
  if s.tap.instr ≠ 8 then s
  else if !due then s.emit (.auth 0 (Config.identity 0 % 2 ^ 46))
  else
    let f := s.fresh
    (f.2.setTap { s.tap with challenge := some (f.1 % 2 ^ 256) }).emit (.auth (f.1 % 2 ^ 256) (Config.identity 0 % 2 ^ 46))

/-- AUTH_UPDATE: the check of the key and the signature starts; each challenge serves one attempt. -/
def authUpdate (s : State) (key sig : Nat) : State :=
  match s.tap.challenge with
  | some c => if s.tap.instr = 8 && s.tap.check.isNone then s.setTap { s.tap with challenge := none, check := some (c, key, sig) } else s
  | none => s

/-- Bytes of a number, highest first. -/
def beBytes (n v : Nat) : List Byte := (leBytes n v).reverse

/-- AUTH_CHECK_END: the key's digest is the fused KEY_HASH and the signature covers challenge, identity and key. -/
def authCheckEnd (s : State) : State :=
  match s.tap.check with
  | none => s
  | some (c, key, sig) =>
    let k := beBytes 64 key
    let digest := Config.sha256 (beBytes 32 c ++ beBytes 6 (Config.identity 0 % 2 ^ 46) ++ k)
    let ok := decide (Config.sha256 k = s.tap.keyHash) && Config.ecdsaHolds k (beBytes 64 sig) digest
    let s := s.setTap { s.tap with check := none }
    if ok then s.putFlag TST_STAT_UNLOCKED true else s.inc TST_STAT_AUTH_FAIL

/-- The release of SYS_RESET_N: an intrusive instruction gives way to BYPASS (R503). -/
def tapRelease (s : State) : State :=
  let s := s.setTap { s.tap with resetLow := false }
  if intrusive s.tap.instr then s.setTap { s.tap with instr := 31 } else s

/-- RELOCK: a write of TST_CMD. -/
def relock (s : State) (data : Nat) : State := s.when (data.testBit 0) fun s => s.putFlag TST_STAT_UNLOCKED false

/-! ### Test buses (R506) -/

/-- A source is an AIN land of an enabled converter. -/
def atbBusy (s : State) (src : Nat) : Bool := 1 ≤ src && src ≤ 128 && s.flag (ADC_CTRL_EN ((src - 1) / 4))

/-- ATB_SELECT. -/
def atbSelect (s : State) (data : Nat) : State × Status :=
  let a := bitsOf data 0 8
  let b := bitsOf data 8 8
  checkedWrite s tstErr [(141 ≤ a || 141 ≤ b, .TST_RANGE), (atbBusy s a || atbBusy s b, .TST_BUSY)] 0x600A0010 data

/-- Converter `n` has been enabled: a connection to one of its lands opens (R506). -/
def atbOpen (s : State) (n : Nat) : State :=
  let hit (f : Fld) : Bool := atbBusy s (s.fld f) && decide ((s.fld f - 1) / 4 = n)
  let a := hit TST_ATB_SEL_SRC1
  let b := hit TST_ATB_SEL_SRC2
  (s.when a fun s => s.put TST_ATB_SEL_SRC1 0).when b fun s => s.put TST_ATB_SEL_SRC2 0

/-! ### Satellite self-test (R507, R508) -/

/-- A satellite's result code. -/
def sstRes (s : State) (n : Nat) : Nat := bitsOf (s.fld (TST_SST_RES (n / 8))) (4 * (n % 8)) 4

def setSstRes (s : State) (n v : Nat) : State :=
  let w := s.fld (TST_SST_RES (n / 8))
  s.put (TST_SST_RES (n / 8)) (w - sstRes s n * 2 ^ (4 * (n % 8)) + v * 2 ^ (4 * (n % 8)))

/-- The satellite is skipped (R508). -/
def sstSkipped (s : State) (n : Nat) : Bool :=
  !s.linkFitted n || (match s.groupOf (n / 2) with
    | some g => !s.stopped g || s.latched g
    | none => false)

/-- Satellites that did not pass. -/
def sstNotPassed (s : State) : Nat := ((bitsSet 48 s.sst.named).filter fun n => sstRes s n ≠ 1).length

/-- The test ends when every named satellite has a result; the host command completes with the count. -/
def sstProgress (s : State) : State :=
  let s := s.put TST_SST_STAT_NOT_PASSED (((bitsSet 48 s.sst.named).filter fun n => !s.sst.left.testBit n && sstRes s n ≠ 1).length)
  if s.sst.left ≠ 0 then s
  else (s.putFlag TST_SST_STAT_BUSY false).finish .selfTest .OK (some (sstNotPassed s))

/-- A satellite has its result. -/
def sstResult (s : State) (n v : Nat) : State :=
  sstProgress { setSstRes s n v with sst := { s.sst with left := clearBit s.sst.left n } }

/-- Start the test of the satellites of a mask; while one runs it is refused. -/
def sstStart (s : State) (mask : Nat) : State × Status :=
  if s.flag TST_SST_STAT_BUSY then (s.refuse tstErr .TST_BUSY, .TST_BUSY)
  else
    let named := mask % 2 ^ 48
    let s := s.each (bitsSet 48 named) fun s n => setSstRes s n 0
    let left := (bitsSet 48 named).foldl (fun m n => if sstSkipped s n then m else setBit m n) 0
    (sstProgress ({ s with sst := { named := named, left := left } }.putFlag TST_SST_STAT_BUSY true), .OK)

/-- SELFTEST_GO: a write of TST_SST_CMD. -/
def selftestGo (s : State) (data : Nat) : State × Status :=
  if data.testBit 0 then sstStart s (s.fld TST_SST_MASK_LO_MASK + 2 ^ 32 * s.fld TST_SST_MASK_HI_MASK) else (s, .OK)

/-- The satellite under test in a flank (R507): within a flank they run in increasing number. -/
def sstTurn (s : State) (n : Nat) : Bool :=
  s.sst.left.testBit n && (bitsSet 48 s.sst.left).all fun k => k / 12 ≠ n / 12 || n ≤ k

/-- The result code of R508. -/
def sstCode : SstResult → Nat
  | .pass => 1
  | .failed i => 2 + i.val
  | .silent => 8

/-- SATELLITE_SELFTEST_RESULT. -/
def sstEnd (s : State) (n : Nat) (r : SstResult) : State := if sstTurn s n then sstResult s n (sstCode r) else s

/-- A START of group `g` ends the test of its satellites (R508). -/
def sstAbort (s : State) (g : Nat) : State :=
  s.each ((s.groupLinks g).filter fun l => l < 48) fun s n => if s.sst.left.testBit n then sstResult s n 7 else s

/-! ### Debug permission (R509, R510) -/

/-- The debug module refuses a halt request, a bus write and a program-buffer run in DRIVE, CHARGE and EXPORT while DBG_RUN is 0. -/
def debugDenied (s : State) : Bool := !s.flag TST_CFG_DBG_RUN && 2 ≤ s.mode && s.mode ≤ 4

/-- A refused debug request sets REFUSED and the debug module's error: sbbusyerror for a bus write, else the command error 4. -/
def debugRefused (s : State) (bus : Bool) : State :=
  (s.setTap (if bus then { s.tap with sbbusy := true } else { s.tap with cmderr := 4 })).putFlag TST_STAT_REFUSED true

/-! ### Trace and register writes (R511, R512) -/

/-- TRACE_WRITE_TIMEOUT: the record is dropped and counted. -/
def traceTimeout (s : State) : State := s.when (s.flag TST_TRC_CFG_EN) fun s => s.inc TST_TRC_CNT_DROP

/-- A write of the register at `a` of the test block, other than TST_CMD, TST_ATB_SEL and TST_SST_CMD. -/
def tstRegWrite (s : State) (a data : Nat) : State × Status :=
  if a = 0x600A0080 then checkedWrite s tstErr [(data % 2 ^ s.fld TST_TRC_CFG_SIZE ≠ 0, .TST_RANGE)] a data
  else if a = 0x600A0084 then
    let z := bitsOf data 1 5
    checkedWrite s tstErr [(z < 12 || 20 < z || 12 ≤ bitsOf data 16 4, .TST_RANGE)] a data
  else if a = 0x600A00F0 then writeLock s tstErr data
  else writeFields s tstErr a data

end Sys2Proof.Machine
end

