-- ==== Sys2Proof/Machine/Access.lean ====
section
/-! DEFINITION. Accesses by address: the address map, who may write what, the word view, read latches, bus errors (R31, R35-R41, R158,
R179, R382, R401, R484). -/

namespace Sys2Proof.Machine

/-! ### Starts asked for (R53, R415) -/

/-- A start runs: it has begun and has not reached mode-ready or START_EXHAUSTED. -/
def State.starting (s : State) : Bool := !s.ready && !s.exhausted

/-- A cold start is asked for with a cause. -/
def wantCold (s : State) (cause : Nat) : State := { s with coldWant := some cause }

/-- START or HOST_START with KIND 1 COLD or 2 WARM: its status (R55, R65, R415). -/
def askStart (s : State) (kind : Nat) : State × Status :=
  if kind = 1 then (wantCold s 2, .OK)
  else if s.exhausted then (wantCold s 3, .OK)
  else if s.starting then (s, .START_IN_PROGRESS)
  else ({ s with warmWant := some 3 }, .OK)

/-- A write of HOST_START: it works after step 3, and START_RES shows its result. -/
def hostStart (s : State) (kind : Nat) : State × Status :=
  if s.perst || kind = 0 || kind = 3 || (s.starting && s.fld PWR_START_STAT_STEP ≤ 3) then (s, .OK)
  else
    let x := askStart s kind
    (x.1.put HOST_STAT_START_RES (if x.2 = .OK then 1 else 2), x.2)

/-! ### Registers with a row of their own, by address -/

/-- A write of LE_CMD (R193, R208). -/
def leCmd (s : State) (e data : Nat) : State × Status :=
  let x : State × Status := match data % 4 with
    | 1 => engineArm s e
    | 2 => (engineDisarm s e, .OK)
    | 3 => (engineStop s e, .OK)
    | _ => (s, .OK)
  (x.1.when (data.testBit 4) fun s => engineSwap s e, x.2)

/-- A write of SAF_RELEASE by its key (R328): 0x5A opens a sequence, 0xA5 ends it, any other value breaks it. -/
def safRelease (s : State) (data : Nat) : State :=
  let g := bitsOf data 0 12
  let d := data.testBit 12
  match bitsOf data 24 8 with
  | 0x5A => releaseFirst s g d
  | 0xA5 => releaseSecond s g d
  | _ => releaseBroken s

/-- A write of SAF_DEMAND (R327). -/
def safDemand (s : State) (data : Nat) : State := demandEvt s 0x23 (bitsOf data 0 12) (data.testBit 12) (bitsOf data 16 5)

/-- A write of SAF_FJ_CMD (R333, R334). -/
def fjopCmd (s : State) (c data : Nat) : State × Status :=
  let s := s.when (data.testBit 0) fun s => fjopReset s c
  if data.testBit 1 then fjopSend s c else (s, .OK)

/-- A write to a SAF_ register. -/
def safWrite (s : State) (a data : Nat) : State × Status :=
  let o := a - 0x60058000
  if o = 0x004 then (safDemand s data, .OK)
  else if o = 0x008 then (safRelease s data, .OK)
  else if o = 0x010 then (heartbeat s (data % 256), .OK)
  else if o = 0x3F0 then (soutRequest s (data % 256), .OK)
  else if 0x100 ≤ o && o < 0x1C0 && o % 0x10 < 8 then ascTableWrite s ((o - 0x100) / 0x10) (o % 0x10 = 4) data 0
  else if 0x800 ≤ o && o < 0xC00 && o % 0x20 = 0x18 then fjopCmd s ((o - 0x800) / 0x20) data
  else safRegWrite s a data

/-- A write to a PWR_ register by requester `r`: PWR_PS_ANS takes a pair's answer (R376). -/
def pwrWrite (s : State) (r : Requester) (a data : Nat) : State × Status :=
  match a with
  | 0x60068020 => if data.testBit 0 then feedDrill s else (s, .OK)
  | 0x6006804C => dividerWrite s false data
  | 0x60068050 => dividerWrite s true data
  | 0x60068060 => powerRequest s (data % 4) false
  | 0x60068068 =>
    match r with
    | .pair n => pairAnswer s n data
    | _ => (s, .OK)
  | 0x600680A0 => (bankClear s false data, .OK)
  | 0x600680A4 => (bankClear s true data, .OK)
  | _ => pwrRegWrite s a data

/-- A write to a FAB_ register. -/
def fabWrite (s : State) (a data : Nat) : State × Status :=
  let o := a - 0x60088000
  if o = 8 then (s.when (data.testBit 0) fabWake, .OK)
  else if 0x300 ≤ o && o < 0x360 && o % 0x20 = 0x08 then txqTail s ((o - 0x300) / 0x20) (data % 2 ^ 10)
  else if 0x300 ≤ o && o < 0x360 && o % 0x20 = 0x1C then (rxqAck s ((o - 0x300) / 0x20) (data % 2 ^ 8), .OK)
  else fabRegWrite s a data

/-- A write to a CAN_ register. The bus is taken to be busy, so that CONFIG waits and a request is offered when it is idle. -/
def canWrite (s : State) (a data : Nat) : State × Status :=
  let n := (a - 0x60090000) / 0x400
  let o := (a - 0x60090000) % 0x400
  if 0x60092000 ≤ a then canRegWrite s a data
  else if o = 0x000 then canMode s n data true
  else if o = 0x014 then (s.when (data.testBit 0) fun s => canRecover s n, .OK)
  else if o = 0x030 then (if data.testBit 0 then filterCommit s n else (s, .OK))
  else if o = 0x038 || o = 0x03C then (txRequest s n ((o - 0x038) / 4) data false, .OK)
  else if o = 0x040 || o = 0x044 then (txAbort s n ((o - 0x040) / 4) data, .OK)
  else if 0x080 ≤ o && o < 0x0C0 && o % 0x10 = 0xC then (canAck s n ((o - 0x080) / 0x10) (data % 2 ^ 10), .OK)
  else canRegWrite s a data

/-- IMG_ error register (R499). -/
def imgErr : BlockErr where
  last := IMG_ERR_LAST_ERR
  cnt := IMG_ERR_ERR_CNT
  lock := IMG_LOCK
  locked := .IMG_LOCKED
  codes := [(.IMG_HEADER, 1), (.IMG_VARIANT, 2), (.IMG_RECORD, 3), (.IMG_DUP_KEY, 4), (.IMG_SIZE, 5), (.IMG_KEY, 6),
    (.IMG_SIGNATURE, 7), (.IMG_ROLLBACK, 8), (.IMG_ACTIVE, 9), (.IMG_BUSY, 10), (.IMG_MODE, 11), (.IMG_LOCKED, 12)]

/-- A write to a TST_ register. -/
def tstWrite (s : State) (a data : Nat) : State × Status :=
  match a with
  | 0x600A0008 => (relock s data, .OK)
  | 0x600A0010 => atbSelect s data
  | 0x600A0028 => selftestGo s data
  | _ => tstRegWrite s a data

/-- A write of ADC_CTRL: a converter that is enabled opens the test buses on its lands (R506). -/
def adcCtrlWrite (s : State) (n data : Nat) : State × Status :=
  let x := adcCtrl s n data []
  (x.1.when (x.1.flag (ADC_CTRL_EN n) && !s.flag (ADC_CTRL_EN n)) fun s => atbOpen s n, x.2)

/-- A write to an ADC_ register. -/
def adcWrite (s : State) (a data : Nat) : State × Status :=
  if a < 0x6001A000 then
    let n := (a - 0x60018000) / 0x100
    match (a - 0x60018000) % 0x100 with
    | 0x00 => adcCtrlWrite s n data
    | 0x20 => (adcSwreq s n data, .OK)
    | _ => adcRegWrite s a data
  else adcRegWrite s a data

/-- A write to an FB_ register. -/
def fbWrite (s : State) (a data : Nat) : State × Status :=
  if a < 0x60028800 then
    let n := (a - 0x60028000) / 0x100
    match (a - 0x60028000) % 0x100 with
    | 0x00 => fbCfg s n data
    | 0x0C => (s.when (data.testBit 0) fun s => fbArm s n, .OK)
    | 0x10 => (loadCnt s n data, .OK)
    | _ => fbRegWrite s a data
  else fbRegWrite s a data

/-- A register write that has passed its permissions, by the block of its address. -/
def regWrite (s : State) (r : Requester) (a data : Nat) : State × Status :=
  match blkAt a with
  | some .pwm => pwmRegWrite s a data
  | some .gs => gsRegWrite s a data
  | some .ld => ldRegWrite s a data
  | some .adc => adcWrite s a data
  | some .mod => modRegWrite s a data
  | some .fb => fbWrite s a data
  | some .le => if a % 0x20000 = 0x14000 && a < 0x60000000 then leCmd s ((a - 0x40000000) / 0x20000) data else leRegWrite s a data
  | some .trc => trcRegWrite s a data
  | some .act => actRegWrite s a data
  | some .cnv => cnvRegWrite s a data
  | some .chg => chgRegWrite s a data
  | some .saf => safWrite s a data
  | some .lks => lksRegWrite s a data
  | some .pwr => pwrWrite s r a data
  | some .thm => if a = 0x60070004 then (thmAck s (data % 2 ^ 16), .OK) else thmRegWrite s a data
  | some .host => if a = 0x60078008 then hostStart s (data % 4) else hostRegWrite s a data
  | some .jnl => if a = 0x60080010 then (windowSelect s data, .OK) else (s, .OK)
  | some .fab => fabWrite s a data
  | some .can => canWrite s a data
  | some .img => if a = 0x60098020 then writeLock s imgErr data else (s, .OK)
  | some .tst => tstWrite s a data
  | none => (s, .OK)

/-! ### Permissions (R38, R358, R382, R401) -/

/-- Registers that only pair 11 writes. -/
def safetyOnly (a : Nat) : Bool := blkAt a = some .saf || a = 0x60060400 || a = 0x60068090 || a = 0x60068094

/-- Whether a host write to a register is accepted (R401). -/
def hostMayWrite (s : State) (a : Nat) : Bool :=
  match blkAt a with
  | some .host | some .jnl | some .pwr => !s.starting || !s.flag PWR_START_STAT_KIND || 4 ≤ s.fld PWR_START_STAT_STEP
  | _ => s.ready && s.mode = 1 && s.flag HOST_CFG_REG_WR

/-- A write with no effect that ends in a bus error. -/
def denied (s : State) (r : Requester) (a : Nat) : State × Status := (s.emit (.busError r a), .OK)

/-- A write to a register that only pair 11 writes: that of another pair, or of the host, is counted in SAF_WVIOL and changes nothing;
the host's also sets HOST_WR_DENIED (R38, R401). -/
def safetyBy (s : State) (r : Requester) (a : Nat) (act : State → State × Status) : State × Status :=
  let x := safBy s r a act
  if r = .host then (x.1.refuse hostErr .HOST_WR_DENIED, .HOST_WR_DENIED) else x

/-! ### Domains and banks (R383, R384) -/

/-- The domains an address lies in: islands 0-41, and 42 + b for retention bank b of the memories. -/
def domainsOf (a : Nat) : List Nat :=
  match blkAt a with
  | some .adc | some .mod | some .fb | some .trc | some .act | some .cnv | some .chg => [34]
  | some .can => [35]
  | some .fab => [36]
  | some .le => if a < 0x60000000 then [24 + (a - 0x40000000) / 0x80000, 66 + (a - 0x40000000) / 0x80000] else []
  | some _ => []
  | none =>
    match bankOf a with
    | some b => (if b < 24 then [38] else if b < 32 then [b] else [39]) ++ [42 + b]
    | none => []

/-- A domain that the wake left powered down powers up at its first access (R384). -/
def touch (s : State) (a : Nat) : State := (domainsOf a).foldl domainUp s

/-- The address lies in a lost bank or one being zeroed (R383). -/
def bankShut (s : State) (a : Nat) : Bool := bankLost s a || (bankOf a).any fun b => s.sup.zeroing.testBit b

/-- A register access by a requester: permissions first, then the block (R38, R401). -/
def regBy (s : State) (r : Requester) (a : Nat) (act : State → State × Status) : State × Status :=
  if r = .host && s.hostBlind then (s, .OK)
  else
    let s := touch s a
    if bankShut s a then denied s r a
    else if safetyOnly a then safetyBy s r a act
    else if r = .host && !hostMayWrite s a then (s.refuse hostErr .HOST_WR_DENIED, .HOST_WR_DENIED)
    else act s

/-! ### Fjop buffers (R341) -/

/-- Offset of an address in the buffer of a connection; none outside PAYLOAD and LEN. -/
def inFjopBuf (a : Nat) : Bool := 0x60059000 ≤ a && a < 0x60059800 && a % 0x40 ≤ 0x20

/-! ### The store (R484, R485) -/

/-- A command of opcode `op` that has started and not ended names region `r` in ARGS byte `i`. -/
def opRuns (s : State) (op i r : Nat) : Bool :=
  s.hq.any fun (q : Nat × HQueue) =>
    q.2.cmds.any fun c => c.op = op && (c.stage = Stage.started || c.stage = Stage.running) && argNum c.args i 1 = r

/-- Region 0 or 1 of an address of glaze A or B. -/
def glazeOf (a : Nat) : Option Nat :=
  if 0x70040000 ≤ a && a < 0x700C0000 then some 0 else if 0x700C0000 ≤ a && a < 0x70140000 then some 1 else none

/-- A core write to the ferroelectric store. -/
def storeBy (s : State) (r : Requester) (a : Nat) (l : List Byte) : State × Status :=
  let pair01 := match r with
    | .pair n => decide (n.val < 2)
    | _ => false
  let isPair := match r with
    | .pair _ => true
    | _ => false
  match glazeOf a with
  | some g =>
    if s.fld IMG_STAT_ACTIVE = g then denied (s.refuse imgErr .IMG_ACTIVE) r a
    else if s.flag IMG_LOCK then denied (s.refuse imgErr .IMG_LOCKED) r a
    else if pair01 then (storeWrite s a l, .OK) else denied s r a
  | none => if 0x70350000 ≤ a && a < 0x70400000 && isPair then (storeWrite s a l, .OK) else denied s r a

/-! ### The word view (R39-R41) -/

/-- The address, a multiple of 8, holds a 36-bit word: engine memories, table RAM, the words of the traction block, mirrors. -/
def wordMem (a : Nat) : Bool :=
  (0x40000000 ≤ a && a < 0x40400000 && a % 0x20000 < 0x14000) || (0x50000000 ≤ a && a < 0x50400000)

def wordTrc (a : Nat) : Bool :=
  0x60038000 ≤ a && a < 0x60038200 && (a % 0x80 = 0x08 || a % 0x80 = 0x10 || a % 0x80 = 0x18 || a % 0x80 = 0x20)

def isWord (s : State) (a : Nat) : Bool := a % 8 = 0 && (wordMem a || wordTrc a || (mirrorFresh s a).isSome)

/-- The commit of a whole word (R40, R187, R231, R232). -/
def commitWord (s : State) (a : Nat) (w : Word36) : State × Status :=
  if wordTrc a then
    let m := (a - 0x60038000) / 0x80
    match a % 0x80 with
    | 0x08 => (torqueCommit s m w, .OK)
    | 0x10 => (speedCommit s m w, .OK)
    | k => (limitCommit s m (k = 0x20) w, .OK)
  else if 0x50000000 ≤ a then (if wordMem a then (s.setWord a w, .OK) else (s, .OK))
  else leWordWrite s a w

/-- A write of half a word. -/
def halfWrite (s : State) (r : Requester) (a data : Nat) : State × Status :=
  if a % 8 = 0 then (stageLow s r a data, .OK)
  else
    let x := composeHigh s r (a - 4) data
    commitWord x.1 (a - 4) x.2

/-- Bits [63:32] of a word's slot: copies of bit 35 above bit 35 (R39). -/
def highHalf (w : Word36) : Nat :=
  let h := w.toNat / 2 ^ 32
  if h < 8 then h else h + (2 ^ 32 - 16)

/-- A read of half a word: the low half latches the high one (R41). -/
def halfRead (s : State) (r : Requester) (a : Nat) : State × Nat :=
  let v := s.viewOf r
  if a % 8 = 0 then
    let w := s.word a
    (s.setView r { v with high := some (a, highHalf w) }, w.toNat % 2 ^ 32)
  else
    match v.high with
    | some (b, h) => if b = a - 4 then (s.setView r { v with high := none }, h) else (s, highHalf (s.word (a - 4)))
    | none => (s, highHalf (s.word (a - 4)))

/-! ### Writes -/

/-- A store of `size` bytes by a requester. A byte or halfword store to a register, aligned or not, ends in a bus error: the spec says
so of the words of R39 alone (DESIGN CHOICE, log 65). -/
def busWrite (s : State) (r : Requester) (size a data : Nat) : State × Status :=
  if r = .host && s.hostBlind then (s, .OK)
  else if r = .host && (a < 0x60000000 || 0x60100000 ≤ a) then denied s r a
  else if 0x10000000 ≤ a && a + size ≤ 0x10C00000 then
    let s := touch s a
    if bankShut s a || bankShut s (a + size - 1) || a < 0x10078000 then denied s r a
    else (s.setBytes a (leBytes size data), .OK)
  else if 0x70000000 ≤ a && a + size ≤ 0x70400000 then storeBy s r a (leBytes size data)
  else if inFjopBuf a then
    safetyBy s r a fun s => (s.setBytes a ((leBytes size data).take (0x21 - a % 0x40)), .OK)
  else if a % 4 ≠ 0 || size ≠ 4 then
    if safetyOnly (a - a % 4) && !(rowsAt (a - a % 4)).isEmpty then safetyBy s r a fun s => denied s r a else denied s r a
  else if isWord s (a - a % 8) then
    let s := touch s a
    if bankShut s a then denied s r a
    else if r = .host && !hostMayWrite s a then (s.refuse hostErr .HOST_WR_DENIED, .HOST_WR_DENIED)
    else if (mirrorFresh s (a - a % 8)).isSome then (s, .OK)
    else halfWrite s r a data
  else if (rowsAt a).isEmpty then denied s r a
  else regBy s r a fun s => regWrite s r a data

/-! ### Reads -/

/-- Registers of unfitted legs and satellites read 0 (R104, R134, R135); TYPE and FITTED of PWM_LEG_CFG show the leg. -/
def unfittedAt (s : State) (a : Nat) : Bool :=
  if 0x60001000 ≤ a && a < 0x60001900 then !s.legFitted ((a - 0x60001000) / 0x40)
  else if 0x60008000 ≤ a && a < 0x60009800 then !s.linkFitted ((a - 0x60008000) / 0x80)
  else if 0x60010000 ≤ a && a < 0x60010300 then !s.linkFitted (48 + (a - 0x60010000) / 0x40)
  else false

/-- Bits that a read takes from elsewhere than the register file. -/
def overlay (s : State) (a : Nat) : List (Fld × Nat) :=
  if 0x60001000 ≤ a && a < 0x60001900 && a % 0x40 = 0 then
    let n := (a - 0x60001000) / 0x40
    [(PWM_LEG_CFG_TYPE n, bit (24 ≤ n)), (PWM_LEG_CFG_FITTED n, 1)]
  else if 0x60030000 ≤ a && a < 0x60030080 then
    let e := (a - 0x60030000) / 4
    [(LE_G_STAT_STATE e, s.fld (LE_STAT_STATE e)), (LE_G_STAT_ESCALATED e, s.fld (LE_STAT_ESCALATED e)),
      (LE_G_STAT_LAST_OVR e, s.fld (LE_STAT_LAST_OVR e))]
  else if 0x60038000 ≤ a && a < 0x60038200 && (a % 0x80 = 0x34 || a % 0x80 = 0x38) then
    let m := (a - 0x60038000) / 0x80
    let g := s.fld (TRC_M_CFG_GROUP m)
    [(TRC_M_ASC_ASC_ON m, s.fld (SAF_GASC_ASC_ON g)), (TRC_M_ASC_ASC_OFF m, s.fld (SAF_GASC_ASC_OFF g)),
      (TRC_M_ASC2_SIDE m, s.fld (SAF_GTBL_SIDE g))]
  else if 0x60058100 ≤ a && a < 0x600581C0 && a % 0x10 = 8 then
    let g := (a - 0x60058100) / 0x10
    [(SAF_GSTAT_STATE g, sagState s g)]
  else if a = 0x60058288 || a = 0x6005828C then [(SAF_OV3_FUNC ((a - 0x60058288) / 4), s.fld (SAF_OV3_FUNC ((a - 0x60058288) / 4)) ||| 3)]
  else if a = 0x60068094 then [(PWR_RET_SAFE_HI_BANKS, s.fld PWR_RET_SAFE_HI_BANKS ||| 10)]
  else if a = 0x60007F00 then [(PWM_MTIME_LO, s.mtime)]
  else if a = 0x60007F04 then [(PWM_MTIME_HI, s.mtime / 2 ^ 32)]
  else if a = 0x60098000 then [(IMG_STAT_BUSY, bit ((List.range 3).any fun r => opRuns s 0x3A 15 r || opRuns s 0x3B 0 r))]
  else if a = 0x600A0000 then [(TST_STAT_POLICY, s.tap.policy)]
  else []

/-- The value a register reads as, without the effects of the read. -/
def regValue (s : State) (a : Nat) : Nat :=
  if unfittedAt s a then 0
  else readFields (s.putAll ((overlay s a).filter fun e => e.1.addr = a)) a

/-- A read of PWM_MTIME_LO latches the high part, which the next read of PWM_MTIME_HI by the same requester takes (R31). -/
def mtimeRead (s : State) (r : Requester) (hi : Bool) : State × Nat :=
  let v := s.viewOf r
  if hi then (s.setView r { v with mtime := none }, v.mtime.getD (s.mtime / 2 ^ 32))
  else (s.setView r { v with mtime := some (s.mtime / 2 ^ 32) }, s.mtime % 2 ^ 32)

/-- What a requester reads of a mirror record: its latch, or without one the live record, with STALE as of now (R41, R158). -/
def mirrorPart (s : State) (r : Requester) (base k : Nat) : Nat :=
  let l : MirLatch := Tbl.get {} s.mirLatch (reqIdx r)
  if l.base ≠ base then
    if k = 4 then highHalf (s.word base)
    else match mirrorFresh s base with
      | some limit => regValue (s.putFlag (RES_FLAGS_STALE base) (mirrorStale s base limit)) (base + k)
      | none => regValue s (base + k)
  else match k with
    | 0x04 => highHalf (BitVec.ofNat 36 l.word)
    | 0x08 => l.tlo
    | 0x0C => l.thi
    | 0x10 => l.flags
    | _ => l.raw

/-- What a requester reads of an interface: its latch, or without one the live values (R41, R179). -/
def fbPart (s : State) (r : Requester) (a : Nat) : Nat :=
  let l : FbLatch := Tbl.get {} s.fbLatch (reqIdx r)
  if l.n ≠ (a - 0x60028000) / 0x100 + 1 then regValue (fbLive s ((a - 0x60028000) / 0x100)) a
  else match a % 0x100 with
    | 0x18 => l.acc
    | 0x1C => l.time % 2 ^ 32
    | 0x20 => l.time / 2 ^ 32
    | 0x24 => l.spd
    | 0x28 => l.stat
    | _ => regValue s a

/-- The mirror record an address lies in. -/
def mirrorOf (s : State) (a : Nat) : Option Nat :=
  let b := a - a % 0x20
  if (mirrorFresh s b).isSome && a % 0x20 < 0x18 then some b else none

/-- A read by a requester: what it returns, none for a bus error (R35). -/
def busRead (s : State) (r : Requester) (size a : Nat) : State × Option Nat :=
  if r = .host && (a < 0x60000000 || 0x60100000 ≤ a) then (s, none)
  else if a + size ≤ 0x40000 then (s, some (ofBytes ((List.range size).map fun i => Config.bootRom (a + i))))
  else if 0x10000000 ≤ a && a + size ≤ 0x10C00000 then
    let s := touch s a
    if bankShut s a || bankShut s (a + size - 1) then (s, none) else (s, some (s.num a size))
  else if 0x70000000 ≤ a && a + size ≤ 0x70400000 then (s, some (s.num a size))
  else if inFjopBuf a then (s, some (s.num a (min size (0x21 - a % 0x40))))
  else if a % 4 ≠ 0 || size ≠ 4 then (s, none)
  else
    let s := touch s a
    if bankShut s a then (s, none)
    else match mirrorOf s a with
      | some b =>
        if a = b then
          let x := mirrorRead s r b
          ({ x with out := s.out }, some ((s.word b).toNat % 2 ^ 32))
        else (s, some (mirrorPart s r b (a - b)))
      | none =>
        if isWord s (a - a % 8) then
          let x := halfRead s r a
          (x.1, some x.2)
        else if (rowsAt a).isEmpty then (s, none)
        else if a = 0x60007F00 || a = 0x60007F04 then
          let x := mtimeRead s r (a = 0x60007F04)
          (x.1, some x.2)
        else if 0x60028000 ≤ a && a < 0x60028800 then
          if a % 0x100 = 0x14 then
            let x := fbCntRead s r ((a - 0x60028000) / 0x100)
            ({ x with out := s.out }, some (regValue x a))
          else (s, some (fbPart s r a))
        else if 0x60040000 ≤ a && a < 0x60040200 && a % 0x80 = 0x38 then
          let x := actPop s ((a - 0x60040000) / 0x80)
          (x, some (regValue x a))
        else (s, some (regValue s a))

/-- A read with its answer sent to the requester. -/
def readOut (s : State) (r : Requester) (size a : Nat) : State :=
  if r = .host && s.hostBlind then s
  else
    let x := busRead s r size a
    match x.2 with
    | some v => x.1.emit (.data r a v)
    | none => x.1.emit (.busError r a)

/-! ### Errors of engine memories and table RAM (R187) -/

/-- An access at `a` reads a word of an engine's memory or of table RAM; a high half that the requester's latch holds reads none. -/
def readsLeWord (s : State) (r : Requester) (a : Nat) : Bool :=
  wordMem a && (a % 8 = 0 || ((s.viewOf r).high.map (·.1) ≠ some (a - 4)))

/-- A read with the outcome of the error correction of the word it reads: an uncorrectable error ends it in a bus error and leaves the
engine alone; a corrected one is counted for the engine whose memory it is (R187). -/
def readEcc (s : State) (r : Requester) (a : Nat) (ecc : Ecc) (read : State → State) : State :=
  if (r = .host && s.hostBlind) || !readsLeWord s r a then read s
  else match ecc with
    | .clean => read s
    | .corrected => (read s).when (a < 0x50000000) fun s => s.inc (LE_CNT_ECC_CORR ((a - 0x40000000) / 0x20000))
    | .lostPrivate | .lostTable => (touch s a).emit (.busError r a)

/-! ### A 64-bit host access (R40, R41) -/

/-- A host 64-bit write commits a word at once. -/
def hostWord (s : State) (a data : Nat) : State × Status :=
  if s.hostBlind then (s, .OK)
  else if a < 0x60000000 || 0x60100000 ≤ a then denied s .host a
  else if safetyOnly (a - a % 4) && !(rowsAt (a - a % 4)).isEmpty then safetyBy s .host a fun s => (s, .OK)
  else if !isWord s a then denied s .host a
  else if !hostMayWrite s a then (s.refuse hostErr .HOST_WR_DENIED, .HOST_WR_DENIED)
  else if bankShut s a then denied (touch s a) .host a
  else if (mirrorFresh s a).isSome then (s, .OK)
  else commitWord (touch s a) a (BitVec.ofNat 36 data)

/-- A host 64-bit read returns a word sign-extended, or the whole module time at PWM_MTIME_LO (R31). -/
def hostWordRead (s : State) (a : Nat) : State :=
  if s.hostBlind then s
  else if a = 0x60007F00 then s.emit (.data .host a s.mtime)
  else if a < 0x60000000 || 0x60100000 ≤ a || !isWord s a then s.emit (.busError .host a)
  else
    let s := touch s a
    if bankShut s a then s.emit (.busError .host a)
    else s.emit (.data .host a ((s.word a).toNat % 2 ^ 32 + highHalf (s.word a) * 2 ^ 32))

end Sys2Proof.Machine
end

