-- ==== Sys2Proof/Machine/Image.lean ====
section
/-! DEFINITION. Chapter 19: the control block and the start records, the checks of an image, the merge and its application (R43, R89,
R92, R484-R496). -/

namespace Sys2Proof.Machine

/-! ### The control block (R491, R495, R496); its layout is a DESIGN CHOICE (log 50) -/

/-- The store with the waiting writes in it: what the device knows that it has written. -/
def storeView (s : State) : State := s.each s.deferred fun s e => s.setBytes e.1 e.2

/-- The address of a copy of the control block. -/
def ctlAddr (k : Nat) : Nat := 0x70340000 + 0x800 * k

/-- A copy is valid: it has a sequence, and its CRC-32C, bytes 2,044 to 2,047, covers the bytes before it. -/
def ctlValid (s : State) (k : Nat) : Bool :=
  decide (s.num (ctlAddr k) 4 ≠ 0) && decide (crc32c (s.bytesAt (ctlAddr k) 2044) = s.num (ctlAddr k + 2044) 4)

/-- The copy a start uses: the valid one with the higher sequence. -/
def ctlNow (s : State) : Option Nat :=
  let v := storeView s
  match ctlValid v 0, ctlValid v 1 with
  | true, true => if v.num (ctlAddr 0) 4 < v.num (ctlAddr 1) 4 then some 1 else some 0
  | true, false => some 0
  | false, true => some 1
  | false, false => none

/-- `n` bytes of the control block from byte `o`; 0 where no copy is valid. -/
def ctlRead (s : State) (o n : Nat) : Nat :=
  match ctlNow s with
  | some k => (storeView s).num (ctlAddr k + o) n
  | none => 0

def ctlActive (s : State) : Nat := ctlRead s 4 4 % 2
def ctlGen (s : State) : Nat := ctlRead s 8 4
def ctlEpoch (s : State) : Nat := ctlRead s 12 4
def ctlIndex (s : State) : Nat := ctlRead s 16 4

/-- A byte list with `n` bytes of `v` at `o`. -/
def patchAt (l : List Byte) (e : Nat × Nat × Nat) : List Byte := l.take e.1 ++ leBytes e.2.1 e.2.2 ++ l.drop (e.1 + e.2.1)

/-- Write the control block with changed numbers (offset, bytes, value) to the older copy, with the next sequence. -/
def ctlWrite (s : State) (changes : List (Nat × Nat × Nat)) : State :=
  let c := ctlNow s
  let old := match c with
    | some k => (storeView s).bytesAt (ctlAddr k) 2044
    | none => List.replicate 2044 0
  let body := ((0, 4, ctlRead s 0 4 + 1) :: changes).foldl patchAt old
  storeWrite s (ctlAddr (if c = some 0 then 1 else 0)) (body ++ leBytes 4 (crc32c body))

/-! ### Records (R487, R488) -/

/-- A record of an image or of the merged set: its key, the length of its value, its address, and that a glaze image holds it. -/
structure ImgRec where
  key : Nat := 0
  len : Nat := 0
  at_ : Nat := 0
  glaze : Bool := false
  deriving DecidableEq, Repr

/-- Bytes of a record with a value of `n` bytes. -/
def recSize (n : Nat) : Nat := (n + 19) / 8 * 8

def ImgRec.kind (r : ImgRec) : Nat := r.key / 2 ^ 28
def ImgRec.size (r : ImgRec) : Nat := recSize r.len

/-- A number of `n` bytes from byte `o` of a record's value. -/
def ImgRec.num (s : State) (r : ImgRec) (o n : Nat) : Nat := s.num (r.at_ + 8 + o) n

/-- KEY and LEN fit the kind. -/
def keyFits (key len : Nat) : Bool :=
  let k := key % 2 ^ 28
  match key / 2 ^ 28 with
  | 0x1 => decide (k < 2 ^ 20) && decide (k % 4 = 0) && decide (len = 8)
  | 0x2 => decide (k < 2 ^ 16) && decide (bitsOf k 5 3 = 0) && decide (len = 8)
  | 0x3 => decide (len % 8 = 0) && decide (k + len / 8 ≤ 2 ^ 19)
  | 0x4 => decide (k < 2 ^ 16) && decide (len % 8 = 0)
  | 0x5 => decide (k < 32) && decide (len = 4)
  | 0x6 => decide (k < 7) && decide (len = 2)
  | 0xF => (decide (k = 1) && decide (len = 32)) || ((decide (k = 2) || decide (k = 3)) && decide (len = 4))
  | _ => false

/-- The record at `a` is valid and lies within `left` bytes. -/
def recValid (s : State) (a left : Nat) : Bool :=
  let len := s.num (a + 4) 2
  let size := recSize len
  decide (1 ≤ len) && decide (len ≤ 32760) && decide (size ≤ left) && decide (s.num (a + 6) 2 = 0) && keyFits (s.num a 4) len
    && (s.bytesAt (a + 8 + len) (size - 12 - len)).all (fun b => decide (b = 0))
    && decide (crc32c (s.bytesAt a (8 + len)) = s.num (a + size - 4) 4)

/-- The records in `left` bytes from `a`; none where one is invalid. The fuel is the number of records at most. -/
def recScan (s : State) (glaze : Bool) : Nat → Nat → Nat → Option (List ImgRec)
  | _, _, 0 => some []
  | 0, _, _ => none
  | fuel + 1, a, left =>
    if left < 16 || !recValid s a left then none
    else
      let len := s.num (a + 4) 2
      (recScan s glaze fuel (a + recSize len) (left - recSize len)).map ({ key := s.num a 4, len := len, at_ := a, glaze := glaze } :: ·)

/-- Two records have one key. -/
def dupKey : List ImgRec → Bool
  | [] => false
  | r :: rs => rs.any (fun x => x.key = r.key) || dupKey rs

/-- Bisque-only keys (R489). -/
def bisqueOnly (key : Nat) : Bool :=
  key / 2 ^ 28 = 0xF || key = 0x10003000 || key = 0x10068090 || key = 0x10068094

/-- A role record that R43 accepts. -/
def roleOk (s : State) (r : ImgRec) : Bool :=
  let m := r.num s 0 2
  decide (m ≠ 0) && decide (m < 2 ^ 12) && (if r.key % 8 = 6 then decide (m = 2 ^ 11) else !m.testBit 11)

/-- The glaze record takes part in the merge. -/
def mergeable (s : State) (r : ImgRec) : Bool := !bisqueOnly r.key && (r.kind ≠ 6 || roleOk s r)

/-- A record in its place by key. -/
def insertRec (r : ImgRec) : List ImgRec → List ImgRec
  | [] => [r]
  | x :: xs => if r.key ≤ x.key then r :: x :: xs else x :: insertRec r xs

/-- The merged set in key order: each bisque record, or the glaze record of its key; and the glaze records of further keys (R491). -/
def mergeSet (s : State) (bq gl : List ImgRec) : List ImgRec :=
  let g := gl.filter fun r => mergeable s r
  ((bq.filter fun b => !g.any fun r => r.key = b.key) ++ g).foldr insertRec []

def setSize (l : List ImgRec) : Nat := (l.map ImgRec.size).sum

/-! ### Checks (R486, R490) -/

def bisqueBase : Nat := 0x70000000
def glazeBase (g : Nat) : Nat := if g = 0 then 0x70040000 else 0x700C0000

/-- REC_LEN of an image. -/
def imgRecLen (s : State) (a : Nat) : Nat := s.num (a + 16) 4

/-- The records of an image that has passed check 3. -/
def imgRecs (s : State) (a : Nat) (glaze : Bool) : Option (List ImgRec) :=
  recScan s glaze (imgRecLen s a / 16 + 1) (a + 64) (imgRecLen s a)

/-- The value of a META record, if the list holds one. -/
def metaRec (l : List ImgRec) (k : Nat) : Option ImgRec := l.find? fun r => r.key = 0xF0000000 + k

def metaNum (s : State) (l : List ImgRec) (k : Nat) : Nat :=
  match metaRec l k with
  | some r => r.num s 0 4
  | none => 0

/-- The bit of the device's variant in VARIANT. -/
def variantBit : Variant → Nat
  | .ax72 => 0 | .ax48 => 1 | .ax24 => 2

/-- Checks 1 and 2: the header and the variant. `size` is the region's, `tail` the bytes after the records. -/
def headerCode (s : State) (a size kind tail : Nat) : Nat :=
  if s.num a 4 ≠ 0x4B4C4D31 || s.num (a + 4) 1 ≠ kind || s.num (a + 5) 1 ≠ 1 || s.num (a + 6) 2 ≠ 0 || s.num (a + 32) 32 ≠ 0
      || s.num (a + 28) 4 ≠ crc32c (s.bytesAt a 28) || size < 64 + imgRecLen s a + tail then 1
  else if !(s.num (a + 20) 4).testBit (variantBit s.variant) then 2
  else 0

/-- The check of the bisque image: its code, 0 for a pass, and its records. -/
def checkBisque (s : State) : Nat × List ImgRec :=
  let a := bisqueBase
  match headerCode s a 0x40000 1 4 with
  | 0 =>
    match imgRecs s a false with
    | none => (3, [])
    | some l =>
      let n := 64 + imgRecLen s a
      if l.length ≠ s.num (a + 12) 4 || crc32c (s.bytesAt a n) ≠ s.num (a + n) 4 then (3, [])
      else if dupKey l then (4, [])
      else if 0x78000 < setSize l then (5, [])
      else (0, l)
  | c => (c, [])

/-- GENERATION of the image of a glaze region. -/
def glazeGen (s : State) (g : Nat) : Nat := s.num (glazeBase g + 8) 4

/-- The check of a glaze image beside the records of bisque. -/
def checkGlaze (s : State) (bq : List ImgRec) (g : Nat) : Nat × List ImgRec :=
  let a := glazeBase g
  match headerCode s a 0x80000 2 128 with
  | 0 =>
    match imgRecs s a true with
    | none => (3, [])
    | some l =>
      let n := 64 + imgRecLen s a
      let key := s.bytesAt (a + n) 64
      let hash := match metaRec bq 1 with
        | some r => s.bytesAt (r.at_ + 8) 32
        | none => []
      if l.length ≠ s.num (a + 12) 4 then (3, [])
      else if dupKey l then (4, [])
      else if 0x78000 < setSize (mergeSet s bq l) then (5, [])
      else if Config.sha256 key ≠ hash then (6, [])
      else if !Config.ecdsaHolds key (s.bytesAt (a + n + 64) 64) (Config.sha256 (s.bytesAt a n ++ key)) then (7, [])
      else if glazeGen s g < metaNum s bq 2 then (8, [])
      else (0, l)
  | c => (c, [])

/-- The status of a check code (R490, R499). -/
def checkStatus : Nat → Status
  | 0 => .OK
  | 1 => .IMG_HEADER
  | 2 => .IMG_VARIANT
  | 3 => .IMG_RECORD
  | 4 => .IMG_DUP_KEY
  | 5 => .IMG_SIZE
  | 6 => .IMG_KEY
  | 7 => .IMG_SIGNATURE
  | _ => .IMG_ROLLBACK

/-! ### Merge (R491-R493) -/

/-- A record that cannot take effect is listed (R493). -/
def listRec (s : State) (key reason : Nat) (st : Nat) : State :=
  { s with img := { s.img with listed := s.img.listed ++ [⟨key, reason, st⟩] } }

/-- The records of the set that stands in bank 0. -/
def keptSet (s : State) : List ImgRec := (recScan s false (s.img.len / 16 + 1) 0x10000000 s.img.len).getD []

/-- Which glaze image the merge uses: IMG_STAT.SRC, the records, the codes of A and B (15: not checked), FELL_BACK. -/
structure ImgPick where
  src : Nat := 0
  recs : List ImgRec := []
  a : Nat := 15
  b : Nat := 15
  fell : Bool := false

def pickGlaze (s : State) (bq : List ImgRec) : ImgPick :=
  let act := ctlActive s
  let x := checkGlaze s bq act
  let code := fun (c d : Nat) => if act = 0 then (c, d) else (d, c)
  if x.1 = 0 then { src := act + 1, recs := x.2, a := (code 0 15).1, b := (code 0 15).2 }
  else
    let y := checkGlaze s bq (1 - act)
    let c := code x.1 y.1
    if y.1 = 0 then { src := 2 - act, recs := y.2, a := c.1, b := c.2, fell := true } else { a := c.1, b := c.2 }

/-- The full merge up to the set in bank 0; none where bisque fails. -/
def mergeImages (s : State) : Option State :=
  let b := checkBisque s
  let s := s.putAll [(IMG_STAT_CHK_BQ, b.1), (IMG_STAT_ACTIVE, ctlActive s), (IMG_GEN_ACT_GEN, ctlGen s)]
  if b.1 ≠ 0 then none
  else
    let p := pickGlaze s b.2
    let gen := if p.src = 0 then 0 else glazeGen s (p.src - 1)
    let s := s.putAll [(IMG_STAT_SRC, p.src), (IMG_STAT_FELL_BACK, bit p.fell), (IMG_STAT_CHK_A, p.a), (IMG_STAT_CHK_B, p.b),
      (IMG_GEN, gen), (IMG_FLOOR_FLOOR_GEN, metaNum s b.2 2), (IMG_BQ_VER, metaNum s b.2 3)]
    let s := s.when (p.fell || p.src = 0) fun s => s.putFlag PWR_START_STAT_IMAGE_WARN true
    let s := s.each (p.recs.filter fun r => bisqueOnly r.key) fun s r => listRec s r.key 3 0
    let s := s.each ((b.2 ++ p.recs).filter fun r => r.kind = 6 && !roleOk s r) fun s r => listRec s r.key 4 0
    let l := (mergeSet s b.2 p.recs).filter fun r => r.kind ≠ 6 || roleOk s r
    let bytes := l.flatMap fun r => s.bytesAt r.at_ r.size
    let s := { s with bytes := s.bytes.filter fun c => !(0x10000000 ≤ c.1 && c.1 < 0x10078000) }
    some { s.setBytes 0x10000000 bytes with img := { s.img with len := bytes.length, gen := gen } }

/-! ### Apply (R89, R92, R491-R494) -/

/-- The lock of a block. -/
def blkLock : Blk → Option Fld
  | .pwm => some PWM_LOCK
  | .gs => some GS_LOCK
  | .ld => some LD_LOCK
  | .adc => some ADC_LOCK
  | .mod => some MOD_LOCK
  | .fb => some FB_LOCK
  | .le => some LE_LOCK
  | .trc => some TRC_LOCK
  | .act => some ACT_LOCK
  | .cnv => some CNV_LOCK
  | .chg => some CHG_LOCK
  | .saf => some SAF_LOCK
  | .lks => some LKS_LOCK
  | .pwr => some PWR_LOCK
  | .thm => some THM_LOCK
  | .host => some HOST_LOCK
  | .jnl => none
  | .fab => some FAB_LOCK
  | .can => some CAN_LOCK
  | .img => some IMG_LOCK
  | .tst => some TST_LOCK

/-- The address is a lock register. -/
def isLock (a : Nat) : Bool :=
  match blkAt a with
  | some b => (blkLock b).any fun f => f.addr = a
  | none => false

/-- The block of the address is locked. -/
def lockedAt (s : State) (a : Nat) : Bool :=
  match blkAt a with
  | some b => (blkLock b).any fun f => s.flag f
  | none => false

/-- The register a REG or ENGREG record names. -/
def ImgRec.reg (r : ImgRec) : Nat :=
  if r.kind = 1 then 0x60000000 + r.key % 2 ^ 20
  else 0x40000000 + r.key % 32 * 0x20000 + 0x14000 + 4 * bitsOf r.key 8 8

/-- What an application reaches: a cold start every field, a warm start the fields that read "image", with a changed generation also
those that read "kept"; a full merge also loads tables and programs (R494). -/
structure ApplyKind where
  cold : Bool := true
  changed : Bool := true
  full : Bool := true

/-- The record writes the field: not a locked one, and one that this start reaches. -/
def fieldTaken (k : ApplyKind) (locked : Bool) (r : Row) : Bool :=
  !(locked && r.lockable) && (k.cold || r.warm = .image || (k.changed && r.warm = .kept))

/-- The value a record writes to a register: its data where the mask is 1 and the field is taken, the present value elsewhere. -/
def recValue (s : State) (k : ApplyKind) (a data mask : Nat) : Nat :=
  (rowsAt a).foldl (fun v r =>
    let f := r.fld a
    let now := if r.acc = .w1c || r.acc = .wo then 0 else s.fld f
    let m := if fieldTaken k (lockedAt s a) r then r.take mask else 0
    v + (now - (now &&& m) + (r.take data &&& m)) * 2 ^ r.lo) 0

/-- Some field of the register is taken. -/
def someTaken (s : State) (k : ApplyKind) (a : Nat) : Bool := (rowsAt a).any fun r => fieldTaken k (lockedAt s a) r

/-- A locked field that the record would change: LOCKED_DEFERRED (R494). -/
def lockedDiffers (s : State) (k : ApplyKind) (a data mask : Nat) : Bool :=
  !k.cold && k.changed && lockedAt s a
    && (rowsAt a).any fun r => r.lockable && decide (r.take data &&& r.take mask ≠ s.fld (r.fld a) &&& r.take mask)

/-- PWM_DT_FLOOR through bisque: the floors rise, never below the hardware's (R89). -/
def raiseFloor (s : State) (data mask : Nat) : State :=
  let up := fun (f : Fld) (hw : Nat) => max hw ((s.fld f - (s.fld f &&& bitsOf mask f.lo 12)) + (bitsOf data f.lo 12 &&& bitsOf mask f.lo 12))
  s.putAll [(PWM_DT_FLOOR_HV_FLOOR, up PWM_DT_FLOOR_HV_FLOOR 16), (PWM_DT_FLOOR_LV_FLOOR, up PWM_DT_FLOOR_LV_FLOOR 8)]

/-- A bisque-only register: it is written whatever its access is (R489). -/
def applyOwn (s : State) (a data mask : Nat) : State :=
  if a = 0x60003000 then raiseFloor s data mask
  else (rowsAt a).foldl (fun s r =>
    s.put (r.fld a) (s.fld (r.fld a) - (s.fld (r.fld a) &&& r.take mask) + (r.take data &&& r.take mask))) s

/-- CAN_CTRL of a controller: its image mode waits for mode-ready (R481). -/
def canCtrl (a : Nat) : Bool := 0x60090000 ≤ a && a < 0x60092000 && a % 0x400 = 0

/-- How the application of one register record ends: it is done, its leg is absent, no register is there, or its block refuses it. -/
inductive RegEnd where
  | done | absent | unmapped
  | refused (st : Status)
  deriving DecidableEq, Repr

/-- Data and mask of a register record. -/
def ImgRec.data (s : State) (r : ImgRec) : Nat := r.num s 0 4
def ImgRec.mask (s : State) (r : ImgRec) : Nat := r.num s 4 4

/-- A half of TRC_M_TSP, SSP, TMOT or TGEN (R239): the word's address where the application reaches it. The requests read 0 after a
warm start. -/
def wordRec (k : ApplyKind) (a : Nat) : Option Nat :=
  if wordTrc (a - a % 8) then (if k.cold || 0x18 ≤ a % 0x80 then some (a - a % 8) else none) else none

/-- Write half a word of the traction block, low half before high half, as a core does (R40). -/
def applyHalf (s : State) (a data mask : Nat) : State :=
  let w := (s.word (a - a % 8)).toNat
  let now := if a % 8 = 0 then w % 2 ^ 32 else w / 2 ^ 32
  (halfWrite s .debug a (now - (now &&& mask) + (data &&& mask))).1

/-- Write a register as its block takes a write. A refused one changes nothing, its block's error register included. -/
def applyWrite (s : State) (a v : Nat) : State × RegEnd :=
  let x := regWrite s .debug a v
  if x.2 = .OK then (x.1, .done) else (s, .refused x.2)

/-- What follows a write of CAN_CTRL: its mode waits for mode-ready (R481). -/
def noteCan (s : State) (a v : Nat) : State :=
  if canCtrl a then { s with img := { s.img with locks := s.img.locks ++ [(a, v % 4)] } } else s

/-- The first pass over a register record: everything but its enable fields. The floors of the dead times wait for the end. -/
def applyReg (s : State) (k : ApplyKind) (r : ImgRec) : State × RegEnd :=
  let a := r.reg
  let data := r.data s
  let mask := r.mask s
  if unfittedAt s a then (s, .absent)
  else match wordRec k a with
    | some _ => (applyHalf s a data mask, .done)
    | none =>
      if wordTrc (a - a % 8) then (s, .done)
      else if (rowsAt a).isEmpty then (s, .unmapped)
      else if bisqueOnly r.key then (if k.cold && a ≠ 0x60003000 then applyOwn s a data mask else s, .done)
      else if isLock a then
        (if someTaken s k a && (data &&& mask).testBit 0 then { s with img := { s.img with locks := s.img.locks ++ [(a, 1)] } } else s, .done)
      else if !someTaken s k a then (s, .done)
      else
        let v := recValue s k a data (mask - (mask &&& enableBits a))
        let x := applyWrite s a (if canCtrl a then v - v % 4 else v)
        (if x.2 = .done then noteCan x.1 a (data &&& mask) else x.1, x.2)

/-- Every register record in the order of keys, with how it ends. -/
def applyRegs (k : ApplyKind) : List ImgRec → State → State × List (ImgRec × RegEnd)
  | [], s => (s, [])
  | r :: rs, s =>
    let x := applyReg s k r
    let y := applyRegs k rs x.1
    (y.1, (r, x.2) :: y.2)

/-- The fields of a register take those of a value, without its block's checks. -/
def putRow (s : State) (a v : Nat) : State :=
  (rowsAt a).foldl (fun s r => if r.acc = .rw || r.acc = .rwl then s.put (r.fld a) (r.take v) else s) s

/-- The value of a register's writable fields. -/
def rowValue (s : State) (a : Nat) : Nat :=
  (rowsAt a).foldl (fun v r => if r.acc = .rw || r.acc = .rwl then v + s.fld (r.fld a) * 2 ^ r.lo else v) 0

/-- The value that a record gives a register apart from its enable fields. -/
def loadValue (s : State) (k : ApplyKind) (r : ImgRec) : Nat :=
  let a := r.reg
  let m := r.mask s
  recValue s k a (r.data s) (m - (m &&& enableBits a))

/-- The second pass: a record that its block refused is judged again, with its register as it was and every other refused one as its
record has it. One that is refused again keeps its register (log 51). -/
def judgeReg (old : State) (s : State) (r : ImgRec) : State × RegEnd :=
  let a := r.reg
  let v := rowValue s a
  let s := putRow s a (rowValue old a)
  let x := applyWrite s a v
  (if x.2 = .done then noteCan x.1 a (r.data s &&& r.mask s) else x.1, x.2)

def judgeRegs (old : State) : List (ImgRec × RegEnd) → State → State × List (ImgRec × RegEnd)
  | [], s => (s, [])
  | (r, e) :: rs, s =>
    match e with
    | .refused _ =>
      let x := judgeReg old s r
      let y := judgeRegs old rs x.1
      (y.1, (r, x.2) :: y.2)
    | _ =>
      let y := judgeRegs old rs s
      (y.1, (r, e) :: y.2)

/-- The third pass: the enable fields of the records whose other fields were taken. -/
def enableReg (s : State) (k : ApplyKind) (r : ImgRec) (e : RegEnd) : State × RegEnd :=
  let a := r.reg
  if e ≠ .done || enableBits a = 0 || isLock a || bisqueOnly r.key then (s, e)
  else
    let v := recValue s k a (r.data s) (r.mask s &&& enableBits a)
    if v &&& enableBits a = rowValue s a &&& enableBits a then (s, e) else applyWrite s a v

def enableRegs (k : ApplyKind) : List (ImgRec × RegEnd) → State → State × List (ImgRec × RegEnd)
  | [], s => (s, [])
  | (r, e) :: rs, s =>
    let x := enableReg s k r e
    let y := enableRegs k rs x.1
    (y.1, (r, x.2) :: y.2)

/-- The enable fields of locked blocks are set again as they stood at the entry of a warm start, which starts their units (R9). -/
def enableLocked (s : State) : State :=
  s.img.entry.foldl (fun s e =>
    let a := e.1 / 32
    if ((rowsAt a).any fun r => r.lo = e.1 % 32 && r.enables) && e.2 ≠ 0 then
      match (blkAt a).bind blkLock with
      | some f => (regWrite (s.putFlag f false) .debug a (rowValue s a ||| 2 ^ (e.1 % 32))).1.putFlag f true
      | none => s
    else s) s

/-- The listing of one register record (R493, R494). -/
def listReg (k : ApplyKind) (s : State) (x : ImgRec × RegEnd) : State :=
  let r := x.1
  let s := if lockedDiffers s k r.reg (r.data s) (r.mask s) && !bisqueOnly r.key then listRec s r.key 5 0 else s
  match x.2 with
  | .absent => listRec s r.key 1 Status.LEG_ABSENT.code
  | .unmapped => listRec s r.key 2 0
  | .refused .LEG_ABSENT => listRec s r.key 1 Status.LEG_ABSENT.code
  | .refused st => listRec s r.key 2 st.code
  | .done => s

/-- ROLE records: each role takes its mask (R42, R43). -/
def applyRoles (s : State) (l : List ImgRec) : State :=
  { s with roles := (l.filter fun r => r.kind = 6).foldl (fun t r => Tbl.set 0 t (r.key % 8) (r.num s 0 2)) [] }

/-- The words of a record with 8-byte slots, written from a word's address up. -/
def writeSlots (s : State) (r : ImgRec) (addr : Nat → Nat) (n : Nat) : State :=
  s.each (List.range (min n (r.len / 8))) fun s i => s.setWord (addr i) (BitVec.ofNat 36 (r.num s (8 * i) 8))

/-- LOAD: the program goes into the engine's program memory; a program that the set does not hold leaves it empty (R492). -/
def applyLoad (l : List ImgRec) (s : State) (r : ImgRec) : State :=
  let e := r.key % 32
  let v := r.num s 0 4
  let id := v % 2 ^ 16
  match l.find? fun x => x.key = 0x40000000 + id with
  | none =>
    let s := { s with words := s.words.filter fun w => !(progAddr e 0 ≤ w.1 && w.1 < progAddr e 4096) }
    listRec s r.key 6 0
  | some p =>
    let s := writeSlots s p (progAddr e) 4096
    if v.testBit 16 then
      match l.find? fun x => x.key = 0x30000000 + Config.bankImage id % 2 ^ 19 with
      | some t => writeSlots s t (coefAddr e 0) 1024
      | none => s
    else s

/-- A dead time below its floor rises to it and is listed (R92). -/
def raiseDead (s : State) (n : Nat) (f : Fld) : State :=
  if s.fld f < floorTaps s n then listRec (s.put f (floorTaps s n)) (0x10000000 + (f.addr - 0x60000000)) 7 0 else s

def raiseDeads (s : State) : State :=
  s.each ((List.range 36).filter fun n => s.legFitted n) fun s n =>
    raiseDead (raiseDead s n (PWM_LEG_DTCFG_DT_INIT n)) n (PWM_LEG_DTLIM_DT_MAX n)

/-- The legs' active dead times show DT_INIT (R90). -/
def showDeads (s : State) : State := s.each ((List.range 36).filter fun n => s.legFitted n) showDtInit

/-- The register records of the set, in three passes: fields that configure in the order of keys; the records refused there, each
against all others; enable fields in the order of keys. Then the floors of the dead times, which raise what lies below them (R89, R92,
R491; log 51). A group that is SAFE through a warm start takes the image like a stopped one (R11, R72). -/
def applyRegSet (s : State) (k : ApplyKind) (regs : List ImgRec) : State :=
  let safe := (List.range 12).filter s.safe
  let s := s.each safe fun s g => s.put (PWM_GRP_STAT_STATE g) 0
  let x := applyRegs k regs s
  let again := (x.2.filter fun e => match e.2 with
    | .refused _ => true
    | _ => false).map (·.1)
  let loaded := x.1.each again fun s r => putRow s r.reg (loadValue x.1 k r)
  let y := judgeRegs x.1 x.2 loaded
  let z := enableRegs k y.2 (if k.cold then y.1 else enableLocked y.1)
  let s := z.1.each (regs.filter fun r => r.reg = 0x60003000 && k.cold) fun s r => raiseFloor s (r.data s) (r.mask s)
  let s := z.2.foldl (listReg k) s
  let s := raiseDeads s
  s.each safe fun s g => s.put (PWM_GRP_STAT_STATE g) 2

/-- Apply the set in bank 0 (R491, R494). Tables and programs are loaded by a full merge only (R56, R188). -/
def applySet (s : State) (k : ApplyKind) : State :=
  let l := keptSet s
  let s := applyRoles { s with img := { s.img with locks := [] } } l
  let s := applyRegSet s k (l.filter fun r => r.kind = 1 || r.kind = 2)
  let s := if k.full then
      let s := s.each (l.filter fun r => r.kind = 3) fun s r => writeSlots s r (fun i => tableAddr (r.key % 2 ^ 19 + i)) 4096
      (l.filter fun r => r.kind = 5).foldl (applyLoad l) s
    else s
  showDeads s

/-- IMG_STAT.LISTED and IMAGE_WARN show the listed records (R496, R498). -/
def showListed (s : State) : State :=
  (s.put IMG_STAT_LISTED (min 4095 s.img.listed.length)).when (!s.img.listed.isEmpty) fun s => s.putFlag PWR_START_STAT_IMAGE_WARN true

/-! ### Start records (R496) -/

/-- A 40-bit mask of legs. -/
def legMask (s : State) (p : Nat → Bool) : Nat := ((List.range 36).filter fun n => s.legFitted n && p n).foldl (fun m n => m + 2 ^ n) 0

/-- A leg that is DEMOTED (R126). -/
def demoted (s : State) (n : Nat) : Bool := n < 24 && (s.flag (GS_ORPHAN_DEMOTED (2 * n)) || s.flag (GS_ORPHAN_DEMOTED (2 * n + 1)))

/-- A check code as a start record holds it. -/
def codeByte (c : Nat) : Nat := if c = 15 then 0xFF else c

/-- The check code of bisque: not checked where a cold start ends before step 6. -/
def bisqueByte (s : State) : Nat :=
  if s.flag PWR_START_STAT_KIND && s.fld PWR_START_STAT_STEP < 6 then 0xFF else s.fld IMG_STAT_CHK_BQ

/-- The bytes of a start record. -/
def startRecBytes (s : State) (index : Nat) : List Byte :=
  let l := s.img.listed
  let body := leBytes 4 index ++ leBytes 4 (s.fld PWM_EPOCH) ++ leBytes 8 s.mtime ++ leBytes 4 (readFields s 0x60068004)
    ++ leBytes 4 (readFields s 0x60068008) ++ leBytes 1 (s.fld IMG_STAT_SRC)
    ++ leBytes 1 (bisqueByte s) ++ leBytes 1 (codeByte (s.fld IMG_STAT_CHK_A))
    ++ leBytes 1 (codeByte (s.fld IMG_STAT_CHK_B)) ++ leBytes 4 (s.fld IMG_GEN)
    ++ leBytes 5 (legMask s fun n => (s.legOf n).failed) ++ leBytes 5 (legMask s (demoted s)) ++ leBytes 2 l.length
    ++ (l.take 26).flatMap fun e => leBytes 4 e.key ++ leBytes 1 e.reason ++ [0] ++ leBytes 2 e.status
  let body := (body ++ List.replicate 208 0).take 252
  body ++ leBytes 4 (crc32c body)

/-- Write the start record of the present start and count it in the control block, with the start counters. -/
def writeStartRec (s : State) : State :=
  let i := ctlIndex s
  let s := storeWrite s (0x70341000 + i % 240 * 256) (startRecBytes s i)
  (ctlWrite s [(16, 4, i + 1), (20, 4, readFields s 0x60068008)]).put IMG_START_IDX_INDEX i

end Sys2Proof.Machine
end

