-- ==== Sys2Proof/Machine/Start.lean ====
section
/-! DEFINITION. Chapter 02: starts — causes, entry, steps, failures, mode-ready (R53-R65), with what each block does at a start
(R11, R72, R114, R115, R126, R188, R329, R353, R415, R423, R439-R442, R460, R538). -/

namespace Sys2Proof.Machine

/-! ### What a start keeps (R9, R11) -/

/-- The row that a key of the register file belongs to. -/
def rowOfKey (k : Nat) : Option Row := (rowsAt (k / 32)).find? fun r => r.lo = k % 32

/-- A cold start keeps the field: its column says so, or it shows a pin; the Saggar's latches stand until the end of step 5 (R59). -/
def coldKeeps (k : Nat) (r : Row) : Bool :=
  let a := k / 32
  r.coldKept || (a = 0x60088000 && k % 32 = (FAB_CFG_STRAP).lo) || (a = 0x600A0000 && k % 32 = (TST_STAT_DBG_ACTIVE).lo)
    || k = SAF_SIN_STAT_RAW.key || k = SAF_STAT_DEV_LATCH.key || k = SAF_STAT_DEV_CAUSE.key || k = SAF_STAT_CAUSE_CNT.key
    || ((List.range 12).any fun g => k = (SAF_GSTAT_STATE g).key || k = (SAF_GSTAT_CAUSE g).key || k = (SAF_GTIME_T g).key)

/-- The register file after the entry of a cold start. -/
def coldRegs (t : Tbl Nat) : Tbl Nat := t.filter fun e => (rowOfKey e.1).any fun r => coldKeeps e.1 r

/-- The register file after the entry of a warm start: the kept fields. -/
def warmRegs (t : Tbl Nat) : Tbl Nat := t.filter fun e => (rowOfKey e.1).any fun r => r.warm = .kept

/-- The copy in island 41 of the image fields of locked blocks (R9). -/
def lockedCopy (s : State) : Tbl Nat :=
  s.regs.filter fun e => (rowOfKey e.1).any fun r => r.warm = .image && r.lockable && lockedAt s (e.1 / 32)

/-- The fields of locked blocks take the values they had when the warm start began, before the image is applied; the enable fields
among them follow with the image's (R9, R494). -/
def restoreLocked (s : State) : State :=
  let regs := s.regs.filter fun e =>
    !((rowOfKey e.1).any fun r => r.warm = .image && r.lockable && lockedAt s (e.1 / 32))
  let back := s.img.entry.filter fun (e : Nat × Nat) => !(rowOfKey e.1).any fun r => r.enables
  { s with regs := back.foldl (fun t e => Tbl.insert e.1 e.2 t) regs }

/-- The words that a start keeps beside its registers: engine memories and table RAM. Mirror records and the requests and limits of
the traction block read 0 (R158, R239). -/
def memWords (s : State) : List (Nat × Word36) := s.words.filter fun w => 0x40000000 ≤ w.1 && w.1 < 0x50400000

/-- A warm start that follows an unfinished one holds the locked fields as they stood when that one began. -/
def entryCopy (s : State) : Tbl Nat :=
  let run := !s.ready && !s.flag PWR_START_STAT_KIND
  s.img.entry.foldl (fun t e => if run then Tbl.insert e.1 e.2 t else t) (lockedCopy s)

/-- The inputs of the Saggar that demand as a cold start begins: they hold their latches past step 5 while their own level stands
(R59). -/
def standing (s : State) : List Standing :=
  let mk := fun (x : Src) (ins : Nat) => (⟨x.cause, (namedGroups s x).foldl setBit 0, x.dev, x.func, ins⟩ : Standing)
  ((List.range 2).filter fun j => s.flag (SAF_OV3_CFG_EN j) && (s.fld SAF_OV3_STAT_OUT).testBit j).map (fun j => mk (ov3Src s j) 0)
    ++ ((List.range 16).filter fun i => sinActive s i).map fun i =>
      mk (sinSrc s i) (if s.flag (SAF_SIN_CFG_PAIR i) then 3 * 2 ^ i else 2 ^ i)

/-! ### Entry (R54, R415, R460) -/

/-- The rings at a cold start: results at their completion point are closed in the log; the rest waits for step 10 (R62, R415). -/
def coldRings (s : State) : State :=
  let s := if s.storeHeld then s
    else s.each s.results fun s x => match cmdOf s x.ref with
      | some c => closeRecord s c.index x.status ((x.at_ - c.accept) / 400)
      | none => s
  { linkDown s with hq := [], hring := [], results := [], waits := [], tlm := [] }

/-- The rings at a warm start: what was fetched and not accepted is fetched again (R415). -/
def warmRings (s : State) : State :=
  let s := s.each (List.range 32) fun s r =>
    let n := ((s.hqOf r).cmds.filter fun c => c.stage = .fetched).length
    let size := 2 ^ s.fld (HOST_R_CTRL_SQ_SIZE r)
    let head := (s.fld (HOST_R_SQH_HEAD r) + size - n % size) % size
    if n = 0 then s else (dropFetched s r).put (HOST_R_SQH_HEAD r) head
  { s with waits := [] }

/-- What the power controller drops at a start; a cold start drops its voltage requests as well (R369). -/
def startSupply (s : State) (cold : Bool) : State :=
  let p := { s.sup with target := 0, answers := [], drill := none, waking := false, zeroing := 0, parked := 0, asleep := 0 }
  { s with sup := if cold then { p with vexp := 0, vid := 3, sends := false, resent := false, raise := none, raises := [], raiseFailed := false, lastReq := [],
                                        armed := false, failed := 0, lost := false } else p }

/-- The blocks that lose what they hold beside their registers in both kinds of start. -/
def startBlocks (s : State) : State :=
  let s := { s with grp := [], leg := s.leg.map fun (e : Nat × Leg) => (e.1, ({ failed := e.2.failed } : Leg)), adc := [], modu := [], mirLatch := [],
                    fb := [], fbLatch := [], emu := [], views := [], trcSlot := [], trcLink := [], eng := [], act := [], cnv := [], chg := {},
                    pair := [], can := [], sst := {}, startFault := none }
  let s := { s with leg := s.leg.filter fun (e : Nat × Leg) => e.2 ≠ ({} : Leg) }
  { s with jnl := { s.jnl with streams := [] }, img := { s.img with listed := [], locks := [] },
           sag := { s.sag with hbArmed := false, hbLast := none, rel := none, pulse := none, pulses := [], scs := false, warm := false } }

/-- The reset of a cold start. Feeds, the store, the satellites and module time stand (R53-R57). -/
def coldReset (s : State) : State :=
  let stand := s.sag.stand ++ (standing s).filter fun x => !s.sag.stand.any fun y => y.cause = x.cause
  let s := fabClose (coldRings s)
  let s := startBlocks (startSupply { s with regs := coldRegs s.regs } true)
  let s := s.putAll [(IMG_STAT_ACTIVE, ctlActive s), (IMG_GEN_ACT_GEN, ctlGen s), (IMG_STAT_CHK_A, 15), (IMG_STAT_CHK_B, 15)]
  { s with words := memWords s
           img := { s.img with entry := [] }
           filtAt := [], roles := [], fab := {}, sout := [], fjop := [], sagGrp := [], clkBad := 0, timeRuns := false,
           lk := (s.lk.map fun (e : Nat × Lk) => (e.1, ({ stored := e.2.stored } : Lk))).filter fun (e : Nat × Lk) => e.2 ≠ ({} : Lk)
           sag := { s.sag with dead := false, disc := 0, funcs := [], stand := stand } }

/-- The reset of a warm start. Module time, the Saggar's latches and table, links, addresses, memories and rings stand. -/
def warmReset (s : State) : State :=
  let entry := entryCopy s
  let s := fabWarm (warmRings s)
  let latched := (List.range 12).filter fun g => s.latched g
  let s := startBlocks (startSupply { s with regs := warmRegs s.regs } false)
  let s := { s with words := memWords s, img := { s.img with entry := entry }, lk := s.lk.map fun (e : Nat × Lk) => (e.1, { e.2 with clearWait := false }) }
  let s := s.each latched fun s g => s.put (PWM_GRP_STAT_STATE g) 2
  s.each ((List.range 32).filter fun c => s.flag (SAF_FJ_CFG_EN c)) fun s c => s.put (SAF_FJ_STAT_STATE c) 1

/-- START_ENTRY: a start of a kind begins with a cause. A start that it abandons makes it cold if that one was cold (R55). -/
def beginStart (s : State) (cold : Bool) (cause : Nat) : State :=
  let cold := cold || (s.starting && s.flag PWR_START_STAT_KIND && s.fld PWR_START_STAT_STEP ≠ 0)
  let prev := s.mode
  let safe := s.fld PWR_MODE_SAFE_CAUSE
  let s := { s with coldWant := none, warmWant := none }
  let s := if cold then coldReset s else (warmReset s).put PWR_MODE_SAFE_CAUSE safe
  let s := thermalRestart (s.putAll [(PWR_MODE, 0), (PWR_MODE_CHANGING, 0), (PWR_MODE_TARGET, 0), (PWR_START_STAT_KIND, bit cold),
    (PWR_START_STAT_CAUSE, cause), (PWR_START_STAT_STEP, 1), (PWR_START_STAT_PREV_MODE, prev), (PWR_START_STAT_FABRIC_PENDING, 0),
    (PWR_START_STAT_LEG_FAILED, 0), (PWR_START_STAT_IMAGE_WARN, 0)])
  let s := s.inc PWR_START_CNT_START_TOTAL
  (soutDriveAll { s with img := { s.img with startAt := s.mtime } }).trace 6 1 [cause, bit cold]

/-! ### Failures (R64, R65) -/

/-- START_STEP_FAILED: the counters choose the kind of the next start, which begins at once, or the device stops in SAFE with
START_EXHAUSTED. There PWR_START_STAT.STEP stays at the step that failed (DESIGN CHOICE, log 114). -/
def failStart (s : State) (step unit : Nat) : State :=
  let s := s.putAll [(PWR_START_STAT_FAIL_STEP, step), (PWR_START_STAT_FAIL_UNIT, unit)]
  if !s.flag PWR_START_STAT_KIND then
    let s := writeStartRec (s.put PWR_START_CNT_WARM_FAIL (min 3 (s.fld PWR_START_CNT_WARM_FAIL + 1)))
    beginStart s (decide (3 ≤ s.fld PWR_START_CNT_WARM_FAIL)) 9
  else
    let s := writeStartRec (s.putAll [(PWR_START_CNT_COLD_FAIL, min 2 (s.fld PWR_START_CNT_COLD_FAIL + 1)), (PWR_START_CNT_WARM_FAIL, 0)])
    if 2 ≤ s.fld PWR_START_CNT_COLD_FAIL then
      let s := demandEvt { s with startFault := none } 0xFF 0 true 1
      setMode (s.put PWR_MODE_SAFE_CAUSE 0xFF) 5
    else beginStart s true 9

/-- The number of the lowest bit that is set below `n`. -/
def lowest (n v : Nat) : Option Nat := (bitsSet n v).head?

def toStep (s : State) (k : Nat) : State := s.put PWR_START_STAT_STEP k

/-! ### Steps 1 to 5 -/

/-- A feed has stayed in range for 10 ms, HOLD_OK reads 1, and SYS_RESET_N is high (R57). -/
def feedReady (s : State) : Bool :=
  ((List.range 2).any fun f => feedIn s f && decide (1000 ≤ (s.feedOf f).since)) && s.flag PWR_FEED_STAT_HOLD_OK && !s.tap.resetLow

/-- MODULE_TIME_START (R27): PWM_EPOCH increments in the store, then module time starts from 0. -/
def moduleTimeStart (s : State) : State :=
  let e := (ctlEpoch s + 1) % 2 ^ 32
  let s := (ctlWrite s [(12, 4, e)]).put PWM_EPOCH e
  ({ s with mtime := 0, timeRuns := true, img := { s.img with startAt := 0 } }).each (List.range 16) showPin

/-- Banks whose uncorrectable error fails step 3: table RAM and the safety-relevant ones (R57). In a cold start PWR_RET_SAFE has been
reset and the image is not merged yet, so that banks 32, 33 and 35 alone count (DESIGN CHOICE, log 113). -/
def fatalBanks (s : State) : Nat := safetyBanks s ||| 2 ^ 32

/-- MEMORY_SELF_TEST of a cold start clears the memories; ECC_SCRUB of a warm start keeps them and counts the errors it corrects in
engine memories. Other faulty banks are marked lost (R57, R58). -/
def memoryTest (s : State) (cold : Bool) (banks : Nat) (ecc : List (Fin 32 × Nat)) : State :=
  let s := if cold then
      { s with bytes := s.bytes.filter fun c => !(0x10000000 ≤ c.1 && c.1 < 0x10C00000)
               words := s.words.filter fun w => !(0x40000000 ≤ w.1 && w.1 < 0x50400000) }
    else s.each ecc fun s e => s.addSat (LE_CNT_ECC_CORR e.1) e.2
  { markLost s banks with sup := { s.sup with armed := true } }

/-- COMPARATOR_INJECTION (R353): the results per lane, 5 bits per pair. -/
def injection (s : State) (lanes : Nat) : State :=
  s.each (List.range 12) fun s n =>
    let bad := bitsOf lanes (5 * n) 5
    s.putAll [(LKS_INJ_PASS n, 31 - bad), (LKS_INJ_PAR_PASS n, bit (!bad.testBit 4)),
      (LKS_INJ_FIRST_FAIL n, (lowest 5 bad).getD 7)]

/-- An input that demanded as the cold start began still does: its comparator, or one of its pins, has not gone inactive since. -/
def Standing.holds (x : Standing) (s : State) : Bool := x.ins = 0 || (bitsSet 16 x.ins).any fun i => !(s.fld SAF_SIN_STAT_RAW).testBit i

/-- The latch of an input that still demands at the end of step 5 (R59). -/
def relatch (s : State) (x : Standing) : State :=
  let s := s.each (bitsSet 12 x.groups) (fun s g => latchGroup s x.cause g)
  s.when x.dev fun s => latchDevice s x.cause

/-- The latches are cleared at the end of step 5 of a cold start, apart from those of inputs that still demand (R59). -/
def clearLatches (s : State) : State :=
  let stand := s.sag.stand.filter fun x => x.holds s
  let s := { s with sag := { s.sag with evts := [], stand := [] }, sagGrp := [] }
  let s := s.putAll ([(SAF_STAT_DEV_LATCH, 0), (SAF_STAT_DEV_CAUSE, 0), (SAF_STAT_CAUSE_CNT, 0), (PWR_MODE_SAFE_CAUSE, 0)]
    ++ (List.range 12).flatMap fun g => [(SAF_GSTAT_STATE g, 0), (SAF_GSTAT_CAUSE g, 0), (SAF_GTIME_T g, 0), (PWM_GRP_STAT_STATE g, 0)])
  (s.each stand relatch).each (sources s) demand

/-! ### Step 6 (R491, R494) -/

/-- IMAGE_MERGE; none where bisque fails. A warm start applies the kept set where the generation of ACTIVE is the loaded one and
bank 0 is not lost. A cold start takes the path of the core voltage from the image (R369, R370). -/
def imageStep (s : State) (cold : Bool) (vmode : Option (BitVec 8)) : Option State :=
  let kept := !cold && s.img.gen = ctlGen s && !(lostBanks s).testBit 0
  let gen := s.img.gen
  match if kept then some s else mergeImages s with
  | none => none
  | some s =>
    let s := if cold then s else restoreLocked s
    let s := showListed (applySet s { cold := cold, changed := cold || s.img.gen ≠ gen, full := !kept })
    let s := s.put IMG_START_IDX_INDEX (ctlIndex s - 1)
    let s := if cold then
        readVoutMode { s.put PWR_CORE_STAT_PATH_ACT (s.fld PWR_CORE_CFG_PATH) with sup := { s.sup with sends := true } } vmode
      else s
    let s := evalChoices s
    let s := s.each (sources s) demand
    some (serveRail s)

/-! ### Step 7 (R60, R114, R115, R126) -/

/-- The flank of a link (R16); the LV leg drivers count as one of their own. -/
def flankOf (l : Nat) : Nat := if l < 48 then l / 12 else 4

/-- What a satellite reports as its identity. -/
def identOf (rep : StepReport) (l : Nat) : Nat :=
  match rep.idents.find? fun e => e.1 = l with
  | some e => e.2 % 2 ^ 46
  | none => Config.identity l % 2 ^ 46

/-- The satellite or driver gives no ALIVE: it says so, or its supply is missing. -/
def linkSilent (s : State) (rep : StepReport) (l : Nat) : Bool := rep.silent.toNat.testBit l || (s.rxOf l).state = .reset

def failLeg (s : State) (l : Nat) : State :=
  let n := legOfLink l
  let s := (s.setLeg n { s.legOf n with failed := true }).putFlag PWR_START_STAT_LEG_FAILED true
  if l < 48 then s.putFlag (GS_STAT_FAILED l) true else s

/-- Store and show an identity. -/
def storeIdent (s : State) (l id : Nat) : State :=
  let s := s.setLk l { s.lkOf l with ident := id, stored := some id }
  if l < 48 then s.putAll [(GS_ID_LO_ID l, id), (GS_ID_HI_ID l, id / 2 ^ 32)] else s

/-- The configuration word of a link's satellite or driver. -/
def linkCfg (s : State) (l : Nat) : Nat :=
  if l < 48 then readFields s (0x60008000 + 0x80 * l) else readFields s (0x60010000 + 0x40 * (l - 48))

/-- SATELLITE_ENUMERATION of one link. One that gives no ALIVE is recorded with SAT_SILENT (R114, R137). A satellite has its barriers
checked, a driver the echo of its permit line. -/
def enumerate (rep : StepReport) (s : State) (l : Nat) : State :=
  if linkSilent s rep l then failLeg (s.refuse (linkErr l) .SAT_SILENT) l
  else
    let s := storeIdent s l (identOf rep l)
    let iso := l < 48 && rep.isoFail.toNat.testBit l
    let s := if l < 48 then s.putFlag (GS_STAT_ISO_FAIL l) iso else s
    if iso || (48 ≤ l && rep.echoFail.toNat.testBit l) then failLeg s l
    else
      let s := match rep.trips.find? fun e => e.1 = l with
        | some e => applyDelay s l (downDelay l e.2)
        | none => s
      let s := s.setRx l { s.rxOf l with ofs := 0 }
      let s := (s.emit (.cfgWr l (linkCfg s l))).emit (.cfgWr l (s.fld (PWM_LEG_DTLIM_DT_MAX (legOfLink l))))
      let s := setOrphan s l (match s.groupOf (legOfLink l) with
        | some g => orphanOf s g l
        | none => 0)
      if rep.readBack.toNat.testBit l then failLeg s l else s

def fittedLinks (s : State) : List Nat := (List.range 60).filter fun l => s.linkFitted l

/-- Store the identities in the control block (R114, R496). -/
def storeIdents (s : State) : State :=
  ctlWrite s ((fittedLinks s).map fun l => (24 + 6 * l, 6, (s.lkOf l).stored.getD 0))

/-- SATELLITE_IDENTITY_CHECK (R115): a missing or changed identity of a link; the recorded one is compared. -/
def identChanged (s : State) (rep : StepReport) (l : Nat) : Bool :=
  linkSilent s rep l || (s.lkOf l).stored ≠ some (identOf rep l)

/-- Step 7 of a start. -/
def satelliteStep (s : State) (cold : Bool) (rep : StepReport) : State :=
  let s := s.each (List.range 36) fun s n => s.setLeg n { s.legOf n with failed := false }
  let s := s.putAll ((List.range 48).map fun l => (GS_STAT_FAILED l, 0))
  let links := fittedLinks s
  let s := if cold then (s.each links fun s l => s.setLk l { s.lkOf l with restore := true }).each links (enumerate rep)
    else
      let changed := links.filter fun l => identChanged s rep l
      let s := s.each (changed ++ links.filter fun l => l < 48 && rep.isoFail.toNat.testBit l) failLeg
      let flanks := changed.map flankOf
      s.each (links.filter fun l => flanks.contains (flankOf l)) (enumerate rep)
  storeIdents (s.each (List.range 24) validateOrphans)

/-! ### Steps 9 and 10 (R62, R415, R423) -/

/-- A cold start closes the commands the scan found open, INTERRUPTED_COLD. Module time began anew, so that no DONE_US is stated
(log 3). -/
def closeOpenCold (s : State) : State :=
  s.each s.jnl.open_ fun s i =>
    let f := s.fresh
    closeRecord f.2 i .INTERRUPTED_COLD (f.1 % 2 ^ 32)

/-- A warm start closes each accepted command that has not reached its completion point, and posts UNCERTAIN on its ring. -/
def closeOpenWarm (s : State) : State :=
  let s := s.each (List.range 32) fun s r =>
    let q := s.hqOf r
    let open1 := q.cmds.filter fun c => c.stage ≠ .done && c.stage ≠ .fetched
    let s := s.each open1 fun s c =>
      let s := closeRecord s c.index .UNCERTAIN ((s.mtime - c.accept) / 400)
      if c.quiet then s else postCompletion s r (completionRec c.seq .UNCERTAIN c.op c.index none)
    if open1.isEmpty then s
    else s.setHq r { s.hqOf r with cmds := (s.hqOf r).cmds.filter fun c => c.stage = .done || c.stage = .fetched }
  let waiting := s.hq.flatMap fun (q : Nat × HQueue) => q.2.cmds.map fun c => c.index
  s.each (s.jnl.open_.filter fun i => !waiting.contains i) fun s i => closeRecord s i .UNCERTAIN ((s.mtime - recPart s i 12 8) / 400)

/-! ### Mode-ready (R63) -/

/-- What the image sets at mode-ready: locks, and the modes of the CAN controllers (R481, R491). -/
def readyImage (s : State) : State :=
  s.each s.img.locks fun s e =>
    if isLock e.1 then (match (blkAt e.1).bind blkLock with
      | some f => s.putFlag f true
      | none => s)
    else (canMode s ((e.1 - 0x60090000) / 0x400) (readFields s e.1 ||| e.2) false).1

/-- The cause of the safe state that the Saggar holds latched, if it holds one: the device's, else that of the lowest latched group
(R63; log 72). -/
def latchCause (s : State) : Option Nat :=
  if s.flag SAF_STAT_DEV_LATCH then some (s.fld SAF_STAT_DEV_CAUSE)
  else ((List.range 12).find? s.latched).map fun g => s.fld (SAF_GSTAT_CAUSE g)

/-- Every group that is not held SAFE is STOPPED, without a valid set, when a start ends (R54, R72). -/
def stopGroups (s : State) : State :=
  s.each (List.range 12) fun s g =>
    let s := s.when (s.running g || s.flag (PWM_GRP_STAT_HELD g)) fun s => enterStopped s g
    (s.setGrp g { s.grpOf g with complete := none, fresh := false }).putFlag (PWM_GRP_STAT_VALID_SET g) false

/-- MODE_READY: STANDBY, or SAFE with the cause where the Saggar holds a latch; the start record, the event, vector 0; the heartbeat
monitor is armed (R63, R326, R419, R496). -/
def modeReady (s : State) : State :=
  let s := stopGroups s
  let s := s.putAll [(PWR_START_STAT_STEP, 11), (PWR_START_CNT_WARM_FAIL, 0), (PWR_START_CNT_COLD_FAIL, 0)]
  let s := readyImage s
  let s := match latchCause s with
    | some c => setMode (s.put PWR_MODE_SAFE_CAUSE c) 5
    | none => setMode (s.put PWR_MODE_SAFE_CAUSE 0) 1
  let s := writeStartRec s
  let s := { s with sag := { s.sag with hbArmed := true, hbLast := none }, img := { s.img with entry := [] } }
  let s := postEvent s 1 [BitVec.ofNat 8 (s.fld PWR_START_STAT_KIND), BitVec.ofNat 8 (s.fld PWR_START_STAT_CAUSE),
    BitVec.ofNat 8 (s.fld PWR_START_STAT_FAIL_STEP)]
  let s := s.when s.hostReach fun s => s.emit (.msix 0)
  soutDriveAll (evalChoices s)

/-! ### The steps in order (R56) -/

/-- Step 8 begins: the discovery walk of a cold start, the announcements of a warm one (R440, R442). -/
def fabricStep (s : State) (cold : Bool) : State := toStep (if cold then fabDiscovery s else fabReannounce s) 8

/-- START_STEP_END: the running step ends with what it finds. -/
def stepEnd (s : State) (rep : StepReport) : State :=
  let cold := s.flag PWR_START_STAT_KIND
  if !s.starting then s
  else match s.fld PWR_START_STAT_STEP with
    | 1 =>
      if !feedReady s then s
      else if cold then toStep s 2 else toStep { s with img := { s.img with startAt := s.mtime } } 3
    | 2 =>
      match rep.clock with
      | some i => failStart s 2 i.val
      | none => toStep (moduleTimeStart s) 3
    | 3 =>
      let banks := rep.banks.toNat
      if rep.rom then failStart s 3 63
      else match lowest 36 (banks &&& fatalBanks s) with
        | some b => failStart s 3 b
        | none =>
          if rep.vcoreBad then (let f := s.fresh; failStart f.2 3 (f.1 % 64))
          else toStep (memoryTest s cold banks rep.ecc) 4
    | 4 =>
      let s := injection s rep.lanes.toNat
      match lowest 60 rep.lanes.toNat with
      | some k => failStart s 4 (k / 5)
      | none => toStep (s.putAll ((List.range 12).map fun n => (LKS_PAIR_STAT_RUN n, 1))) 5
    | 5 =>
      match rep.item.map (·.val) with
      | some (i + 1) => failStart (s.putAll [(SAF_STAT_ST_PASS, 0), (SAF_STAT_ST_ITEM, i + 1)]) 5 (i + 1)
      | _ => toStep ((if cold then clearLatches s else s).putAll [(SAF_STAT_ST_PASS, 1), (SAF_STAT_ST_ITEM, 0)]) 6
    | 6 =>
      match imageStep s cold rep.vmode with
      | some s => toStep s 7
      | none => failStart (s.put IMG_STAT_CHK_BQ (checkBisque s).1) 6 0
    | 7 => fabricStep (satelliteStep s cold rep) cold
    | 8 => if cold && !discoveryDone s then s else toStep (s.putFlag JNL_STAT_SCAN_DONE false) 9
    | 9 => if rep.logBad then failStart s 9 0 else toStep (journalScan s) 10
    | 10 => modeReady (if cold then closeOpenCold s else closeOpenWarm s)
    | _ => s

/-- FABRIC_STEP_TIMEOUT: step 8 ends at its maximum, with FABRIC_PENDING where discovery is incomplete (R61). -/
def fabricTimeout (s : State) : State :=
  if s.starting && s.fld PWR_START_STAT_STEP = 8 then
    toStep ((s.putFlag JNL_STAT_SCAN_DONE false).when (!discoveryDone s) fun s => s.putFlag PWR_START_STAT_FABRIC_PENDING true) 9
  else s

/-- START_LIMIT_EXPIRY: 2 s from the end of step 1 (R57, R64). -/
def startLimit (s : State) : State := if s.starting && 2 ≤ s.fld PWR_START_STAT_STEP then failStart s 12 0 else s

/-! ### Starts that have been asked for (R53, R55, R65, R352) -/

/-- Serve what this command has called for: a cold start; during a start the failure of its running step, and no warm start;
otherwise a warm start. -/
def serveStart (s : State) : State :=
  match s.coldWant with
  | some c =>
    let s := if s.exhausted && (c = 2 || c = 3) then s.putAll [(PWR_START_CNT_WARM_FAIL, 0), (PWR_START_CNT_COLD_FAIL, 0)] else s
    beginStart s true c
  | none =>
    if s.starting then
      let s := { s with warmWant := none, sag := { s.sag with warm := false } }
      match s.startFault with
      | some n => if 1 ≤ s.fld PWR_START_STAT_STEP then failStart s (s.fld PWR_START_STAT_STEP) n else s
      | none => s
    else if s.exhausted then { s with warmWant := none, startFault := none, sag := { s.sag with warm := false } }
    else match s.warmWant with
      | some c => beginStart s false c
      | none => if s.sag.warm then beginStart s false 7 else s

end Sys2Proof.Machine
end

