-- ==== Sys2Proof/Machine/Hooks.lean ====
section
/-! DEFINITION. What a change in one block sets off in the others within the same step: causes of faults that arise outside a block
(R225, R230, R233, R260, R269, R282, R303, R508, R510), wakes from DOZE (R380), and starts called for (R53-R55). -/

namespace Sys2Proof.Machine

/-- Groups that enter a STATE in this step. -/
def entered (old new : State) (st : Nat) : List Nat :=
  (List.range 12).filter fun g => new.fld (PWM_GRP_STAT_STATE g) = st && old.fld (PWM_GRP_STAT_STATE g) ≠ st

/-- Legs that change their group in this step. -/
def movedLegs (old new : State) : List Nat :=
  (List.range 36).filter fun n => old.fld (PWM_LEG_CFG_GROUP n) ≠ new.fld (PWM_LEG_CFG_GROUP n)

/-- A moved leg follows the float mask of the slot that its group belongs to (R267, R288). -/
def regroup (s : State) (n : Nat) : State :=
  let s := cnvRegroup s n
  if s.flag CHG_CFG_EN then chgFloats s else s

/-- A STATE of a group, the group of a leg, the mode, or a fault latch that another block looks at has changed. -/
def watchedChange (old new : State) : Bool :=
  (List.range 12).any (fun g => old.fld (PWM_GRP_STAT_STATE g) ≠ new.fld (PWM_GRP_STAT_STATE g))
    || old.mode ≠ new.mode || old.flag PWR_MODE_CHANGING ≠ new.flag PWR_MODE_CHANGING
    || !(movedLegs old new).isEmpty
    || (List.range 48).any (fun l => old.flag (GS_STAT_FAULT l) ≠ new.flag (GS_STAT_FAULT l))
    || (List.range 12).any (fun k => old.flag (LD_STAT_FAULT_HS k) ≠ new.flag (LD_STAT_FAULT_HS k)
      || old.flag (LD_STAT_FAULT_LS k) ≠ new.flag (LD_STAT_FAULT_LS k))

/-- A start or a stop of the charge is called for. -/
def called (s : State) : Bool :=
  s.coldWant.isSome || s.warmWant.isSome || s.startFault.isSome || s.sag.warm || s.sag.scs

/-- An actuator STOP waits for its slot. -/
def stopsWait (s : State) : Bool :=
  s.waits.any fun (w : WaitOn × CmdRef) => match w.1 with
    | WaitOn.actIdle _ => true
    | _ => false

/-- An entry into DOZE is under way: an interrupt to a pair is a wake that aborts it (R378, R380). -/
def toDoze (s : State) : Bool := s.flag PWR_PS_STAT_ENTERING && decide (s.sup.target = 1)

/-- Something in this step bears on a block other than its own. -/
def stirred (old new : State) : Bool :=
  watchedChange old new || called new || stopsWait new || psState old ≠ 0 || toDoze old

/-- The notices sent in this step. -/
def notices (old new : State) : Bool :=
  (new.out.drop old.out.length).any fun (o : Out) => match o with
    | Out.irq .. => true
    | Out.taken .. => true
    | _ => false

/-- An interrupt to a pair wakes the device in DOZE, and aborts an entry into it (R378, R380). -/
def dozeWake (old new : State) : State :=
  if ((psState old = 1 && psState new = 1) || (toDoze old && toDoze new)) && notices old new then wake new 15 else new

/-- What the other blocks do about the changes of this step. -/
def blockHooks (old new : State) : State :=
  let s := new.each (movedLegs old new) regroup
  let s := s.each (entered old new 1) sstAbort
  let s := s.each (entered old new 0) fun s g =>
    s.each ((List.range 4).filter fun m => s.fld (TRC_M_CFG_GROUP m) = g) stoppedAtSpeed
  let s := s.each [0, 1] chopperWatch
  let s := if leavingDrive old && !leavingDrive s && s.mode ≠ 1 then clearZeroTorque s else s
  let s := s.each (List.range 4) (actWatch old)
  let s := s.each (List.range 4) (cnvWatch old)
  let s := if old.mode ≠ s.mode then autoDue s else s
  let s := s.each (List.range 4) autoStart
  let s := chgWatch s
  let s := if old.mode ≠ s.mode && 2 ≤ s.mode && s.mode ≤ 4 then s.each (List.range 12) debugResume else s
  let s := s.each ((List.range 4).filter fun m => actState s m ≠ 5) fun s m => s.finish (.actIdle m) .OK
  if psState old = 2 && psState s = 0 then thermalRestart s else s

/-- The end of a step: what it sets off in other blocks, and the start it calls for. -/
def settle (old new : State) : State :=
  if stirred old new then serveStart (dozeWake old (blockHooks old new)) else new

/-- A step that no other block looks at. -/
theorem settle_calm {old new : State} (h : stirred old new = false) : settle old new = new := by
  simp [settle, h]

end Sys2Proof.Machine
end

