-- ==== Sys2Proof/Machine/HostOps.lean ====
section
/-! DEFINITION. Mode changes by command (R48-R52), the operations of the host's opcodes (R411-R414, R456, R479, R485, R495), and the
telemetry items (R416-R418). -/

namespace Sys2Proof.Machine

/-! ### Mode changes (R47-R52) -/

/-- The last usable code of DL0 lies within 250 V to 920 V, by the gain, scale and zero of its entry (R49, R156, R219). -/
def driveVoltage (s : State) : Bool :=
  let c := entryCfg s (s.fld (TRC_DL_CFG_ADC 0)) (s.fld (TRC_DL_CFG_ENTRY 0))
  let m : Int := (s.fld (TRC_DL_STAT_CODE 0) : Int) - c.zero
  let v := m * (2 ^ (signedOf 8 c.scale - c.gain + 128).toNat : Nat)
  decide (((250 * 2 ^ 140 : Nat) : Int) ≤ v) && decide (v ≤ ((920 * 2 ^ 140 : Nat) : Int))

/-- A group of an enabled traction slot has all its legs usable (R49, R60). -/
def driveLegs (s : State) : Bool :=
  (List.range 4).any fun m => s.flag (TRC_M_CFG_EN m) && !s.groupFailed (s.fld (TRC_M_CFG_GROUP m))

/-- The preconditions of a SET_MODE from the present mode to another, in the order of R49. -/
def modeStatus (s : State) (m cls : Nat) : Status :=
  match s.mode, m with
  | 1, 2 => firstOf [(!driveVoltage s, .DC_LINK_RANGE), (s.flag CHG_STAT_PLUG, .PLUG_PRESENT), (!driveLegs s, .LEG_FAILED)]
  | 1, 3 => firstOf [(!s.flag CHG_STAT_PLUG, .NO_PLUG), (s.fld CHG_PILOT_STATE ≠ 1 && s.fld CHG_PILOT_STATE ≠ 2, .PILOT_STATE)]
  | 1, 4 => firstOf [(cls = 1 && !s.flag CHG_STAT_PLUG, .NO_PLUG)]
  | 2, 1 => .OK
  | 3, 1 => .OK
  | 4, 1 => .OK
  | 5, 1 => if s.flag SAF_STAT_DEV_LATCH then .SAFE_HELD else .OK
  | _, _ => .MODE_TRANSITION_INVALID

/-- A mode change runs, and the command waits for its completion point. -/
def changing (s : State) (m : Nat) (c : CmdRef) : State :=
  (s.putAll [(PWR_MODE_CHANGING, 1), (PWR_MODE_TARGET, m)]).await .modeChange c

/-- SET_MODE (R49-R52): refused, completed at once, or begun. Where a change is in progress and the present mode is named, both rules
of R50 apply, and MODE_BUSY is given (DESIGN CHOICE, log 116). -/
def setModeOp (s : State) (m cls : Nat) (c : CmdRef) : State × Option Status :=
  if s.flag PWR_MODE_CHANGING then (s, some .MODE_BUSY)
  else if m = s.mode then (s, some .OK)
  else match modeStatus s m cls with
    | .OK =>
      match s.mode, m with
      | 1, 3 => let x := chgBegin s; if x.2 = .OK then (changing x.1 3 c, none) else (s, some x.2)
      | 1, 4 => let x := exportBegin s (cls = 2); if x.2 = .OK then (changing x.1 4 c, none) else (s, some x.2)
      | 2, _ => (beginZeroTorque (changing s m c), none)
      | 3, _ => (chgStop (changing s m c), none)
      | 4, _ => (chgStop (changing s m c), none)
      | _, _ => (changing s m c, none)
    | st => (s, some st)

/-- MODE_CHANGE_COMPLETE: the write of the new code, once everything the new mode requires is in force (R48, R233). CHARGE, EXPORT and
the ways out of them complete in the charging block. -/
def modeChangeDone (s : State) : State :=
  let t := s.fld PWR_MODE_TARGET
  if !s.flag PWR_MODE_CHANGING then s
  else match s.mode, t with
    | 1, 2 => completeMode s 2
    | 2, 1 => if driveLeft s then completeMode s 1 else s
    | 5, 1 => if s.flag SAF_STAT_DEV_LATCH then s else completeMode (s.put PWR_MODE_SAFE_CAUSE 0) 1
    | _, _ => s

/-! ### Accesses for the host (R401, R411) -/

/-- A register write by a host command, in any mode (R401). -/
def hostReg (s : State) (a data : Nat) : State × Status :=
  let s := touch s a
  if bankShut s a then (s, .HOST_WR_DENIED)
  else if safetyOnly a then (safViolation s (requesterNumber .host), .HOST_WR_DENIED)
  else regWrite s .host a data

/-- The value a masked write gives: a mask of 0 means every bit; fields outside the mask keep their value (R411). -/
def maskedValue (s : State) (a data mask : Nat) : Nat :=
  if mask = 0 then data
  else (rowsAt a).foldl (fun v r =>
    let now := if r.acc = .w1c || r.acc = .wo then 0 else s.fld (r.fld a)
    let m := r.take mask
    v + (now - (now &&& m) + (r.take data &&& m)) * 2 ^ r.lo) 0

/-- A 36-bit word written by a host command. -/
def hostWordWrite (s : State) (a : Nat) (w : Word36) : State × Status :=
  let s := touch s a
  if !isWord s a then (s, .HOST_RANGE)
  else if bankShut s a then (s, .HOST_WR_DENIED)
  else if (mirrorFresh s a).isSome then (s, .OK)
  else commitWord s a w

/-- A read by a unit of the device, which holds no read latch of its own: what it returns, none for a bus error. -/
def deviceRead (s : State) (a : Nat) : State × Option Nat :=
  let x := busRead { s with views := [], mirLatch := [], fbLatch := [] } .debug 4 a
  ({ x.1 with views := s.views, mirLatch := s.mirLatch, fbLatch := s.fbLatch }, x.2)

/-! ### The operations of the opcodes (R411) -/

abbrev HostOp := State → List Byte → State × OpEnd

def opSetMode (c : CmdRef) : HostOp := fun s a =>
  let x := setModeOp s (argNum a 0 1) (argNum a 1 1) c
  match x.2 with
  | some st => (x.1, .done st none)
  | none => (x.1, .hold)

def opSetPower : HostOp := fun s a => orAwait (powerRequest s (argNum a 0 1) false) .power

def opFeedDrill : HostOp := fun s _ => orAwait (feedDrill s) .feedDrill

def opThrottleAck : HostOp := fun s a => atOnce (thmAck s (argNum a 0 2), .OK)

/-- REG_WRITE: a divider write ends with the changes it asks for (R372). -/
def opRegWrite : HostOp := fun s a =>
  let addr := argNum a 0 4
  let x := hostReg s addr (maskedValue s addr (argNum a 4 4) (argNum a 8 4))
  let rises := (addr = 0x6006804C || addr = 0x60068050) && (x.1.sup.raise.isSome || !x.1.sup.raises.isEmpty)
  if rises then orAwait x .divider else atOnce x

def opRegRead : HostOp := fun s a =>
  let x := deviceRead s (argNum a 0 4)
  match x.2 with
  | some v => (x.1, .done .OK (some v))
  | none => (x.1, .done .HOST_RANGE none)

def opWordWrite : HostOp := fun s a => atOnce (hostWordWrite s (argNum a 0 4) (BitVec.ofNat 36 (argNum a 4 5)))

def opTorqueSp : HostOp := fun s a => atOnce (torqueCommit s (argNum a 0 1) (BitVec.ofNat 36 (argNum a 4 5)), .OK)
def opSpeedSp : HostOp := fun s a => atOnce (speedCommit s (argNum a 0 1) (BitVec.ofNat 36 (argNum a 4 5)), .OK)
def opTorqueLim : HostOp := fun s a =>
  let m := argNum a 0 1
  atOnce (limitCommit (limitCommit s m false (BitVec.ofNat 36 (argNum a 4 5))) m true (BitVec.ofNat 36 (argNum a 9 5)), .OK)

def opActSpeedSp : HostOp := fun s a => atOnce (hostReg s (0x60040020 + 0x80 * argNum a 0 1) (argNum a 2 2))
def opVoutSp : HostOp := fun s a =>
  let addr := 0x60048004 + 0x80 * argNum a 0 1
  atOnce (hostReg s addr (maskedValue s addr (argNum a 2 2) (2 ^ 16 - 1)))
def opChargeSp : HostOp := fun s a => atOnce (hostReg s 0x60050008 (argNum a 0 4))
def opExportSp : HostOp := fun s a => atOnce (hostReg s 0x60050060 (argNum a 0 4))
def opAccessorySp : HostOp := fun s a => atOnce (hostReg s 0x60050068 (maskedValue s 0x60050068 (argNum a 0 2) (2 ^ 14 - 1)))

/-- GROUP_RUN: START writes T0 and starts; STOP waits until the group is STOPPED or in SAFE (R73, R74). -/
def opGroupRun : HostOp := fun s a =>
  let g := argNum a 0 1
  if argNum a 1 1 = 1 then
    let x := groupStart (s.putAll [(PWM_GRP_T0_LO g, argNum a 8 4), (PWM_GRP_T0_HI g, argNum a 12 4)]) g
    if x.2 = .OK then atOnce x else atOnce (s, x.2)
  else if s.running g then (groupStop s g, .await (.groupStop g)) else atOnce (groupStop s g, .OK)

def opTripClear : HostOp := fun s a => atOnce (tripClear s (argNum a 0 1))

/-- ENGINE_CMD: 1 ARM, 2 DISARM, 3 STOP, 4 SWAP, each with its completion point (R193, R208). -/
def opEngine : HostOp := fun s a =>
  let e := argNum a 0 1
  match argNum a 1 1 with
  | 1 => orAwait (engineArm s e) (.engineArm e)
  | 4 =>
    let s := engineSwap s e
    if s.flag (LE_STAT_SWAP_PEND e) then (s, .await (.engineSwap e)) else atOnce (s, .OK)
  | k =>
    let s := if k = 2 then engineDisarm s e else engineStop s e
    if s.fld (LE_STAT_STATE e) = 0 then atOnce (s, .OK) else (s, .await (.engineOff e))

/-- SAT_CLEAR: satellite 0-47, or 64 + k for LV leg Vk. -/
def opSatClear : HostOp := fun s a =>
  let n := argNum a 0 1
  let l := if n < 48 then n else n - 16
  orAwait (satClear s l) (.satClear l)

def opChopClear : HostOp := fun s a => atOnce (chopperClear s (argNum a 0 1))

/-- ACT_CMD: 1 RUN, 2 STOP, 3 FLOAT, 4 CLR. A STOP in CLOSED waits for the end of STOPPING (R255). -/
def opAct : HostOp := fun s a =>
  let m := argNum a 0 1
  match argNum a 1 1 with
  | 1 => orAwait (actRun s m) (.actRun m)
  | 2 =>
    let x := actStop s m
    if actState x.1 m = 5 then orAwait x (.actIdle m) else atOnce x
  | 3 => atOnce (actFloat s m)
  | _ => atOnce (actClr s m)

/-- CNV_CMD: 1 START, 2 STOP, 3 CLR. -/
def opCnv : HostOp := fun s a =>
  let m := argNum a 0 1
  match argNum a 1 1 with
  | 1 => orAwait (cnvStart s m) (.cnvStart m)
  | 2 => atOnce (cnvStop s m)
  | _ => atOnce (cnvClr s m)

/-- FJOP_FRAME: the frame goes to the receive connection of channel 9 that names the ring (R332, R341). -/
def opFjop (r : Nat) (data : Option (List Byte)) : HostOp := fun s a =>
  match data with
  | none => (s, .done .HOST_DMA_ERROR none)
  | some d =>
    match (List.range 32).find? fun c => s.flag (SAF_FJ_CFG_EN c) && !s.flag (SAF_FJ_CFG_DIR c) && s.fld (SAF_FJ_CFG_CHANNEL c) = 9
        && s.fld (SAF_FJ_ADDR c) = r with
    | some c => atOnce (fjopArrive s c (d.take (argNum a 8 1)), .OK)
    | none => atOnce (s, .OK)

/-- CAN_SEND: the lowest free host entry takes the frame; `idle` says that the bus is idle (R479). -/
def opCan (c : CmdRef) (data : Option (List Byte)) (idle : Bool) : HostOp := fun s a =>
  match data with
  | none => (s, .done .HOST_DMA_ERROR none)
  | some d =>
    let n := argNum a 0 1
    let fl := argNum a 1 1
    let len := argNum a 2 1
    let ide := fl.testBit 0
    let f : CanFrame :=
      { id := if ide then argNum a 4 4 % 2 ^ 29 else argNum a 4 4 % 2 ^ 11, ide := ide, fdf := fl.testBit 1, brs := fl.testBit 2,
        data := d.take len }
    let x := canSend s c n f len
    if x.2 = .OK then (if idle then busFree x.1 n else x.1, .hold) else (x.1, .done x.2 none)

/-- FAB_SEND: the frame goes behind the descriptors of its ring's class (R456). -/
def opFab (c : CmdRef) (data : Option (List Byte)) : HostOp := fun s a =>
  match data with
  | none => (s, .done .HOST_DMA_ERROR none)
  | some d => (fabSend s c (s.fld (HOST_R_CTRL_CLASS c.ring)) (argNum a 0 2) (d.take (argNum a 2 2)), .hold)

def opTelem : HostOp := fun s a => atOnce (telemCfg s a)

/-- JNL_READ: records from the first index up, each written to host memory. -/
def opJnlRead : HostOp := fun s a =>
  let i := argNum a 0 4
  let n := argNum a 4 2
  if s.flag JNL_STAT_EMPTY || i < s.fld JNL_OLDEST_INDEX || s.fld JNL_HEAD_INDEX < i + n - 1 then (s, .done .JNL_GONE none)
  else
    (s.each (List.range n) fun s k => s.emit (.hostWrite (argNum a 8 8 + 32 * k) (s.bytesAt (recAddr (i + k)) 32)), .done .OK (some n))

/-- The address of a region of IMAGE_WRITE. -/
def regionBase (r : Nat) : Nat := if r = 2 then 0x70350000 else glazeBase r

/-- A refusal of the image block. -/
def imgRefused (s : State) (st : Status) : State × OpEnd := (s.refuse imgErr st, .done st none)

/-- IMAGE_WRITE: the bytes, and what was read back of them (R485). -/
def opImageWrite (data back : Option (List Byte)) : HostOp := fun s a =>
  let r := argNum a 15 1
  let n := argNum a 12 3
  let at_ := regionBase r + argNum a 8 4
  if r < 2 && s.fld IMG_STAT_ACTIVE = r then imgRefused s .IMG_ACTIVE
  else if r < 2 && s.flag IMG_LOCK then imgRefused s .IMG_LOCKED
  else if r < 2 && opRuns s 0x3B 0 r then imgRefused s .IMG_BUSY
  else match data with
    | none => (s, .done .HOST_DMA_ERROR none)
    | some d =>
      if d.length < n then (s, .done .HOST_DMA_ERROR none)
      else match back with
        | some b => if b.take n = d.take n then (storeWrite s at_ (d.take n), .done .OK none)
            else imgRefused (storeWrite s at_ (b.take n)) .IMG_RECORD
        | none => (storeWrite s at_ (d.take n), .done .OK none)

/-- What a cancelled IMAGE_WRITE leaves: its range holds values that nothing fixes until it is rewritten (R414). One that would have
been refused has moved nothing. -/
def cancelImageWrite (s : State) (a : List Byte) : State :=
  let r := argNum a 15 1
  let n := argNum a 12 3
  if r < 2 && (s.fld IMG_STAT_ACTIVE = r || s.flag IMG_LOCK || opRuns s 0x3B 0 r) then s
  else storeWrite { s with free := s.free + n } (regionBase r + argNum a 8 4)
    ((List.range n).map fun i => BitVec.ofNat 8 (Config.freeValue (s.free + i)))

/-- The status of an IMAGE_ACTIVATE of region `g`, in the order of R495. -/
def activateStatus (s : State) (g : Nat) : Status :=
  let c := (checkGlaze s (checkBisque s).2 g).1
  firstOf [(s.mode ≠ 1 && s.mode ≠ 5, .IMG_MODE), (s.flag IMG_LOCK, .IMG_LOCKED), (s.fld IMG_STAT_ACTIVE = g, .IMG_ACTIVE),
    (opRuns s 0x3A 15 g, .IMG_BUSY), (c ≠ 0, checkStatus c), (glazeGen s g ≤ ctlGen s, .IMG_ROLLBACK)]

/-- SAT_SELFTEST: RESULT is the count of those that did not pass (R507). -/
def opSelftest : HostOp := fun s a =>
  let x := sstStart s (argNum a 0 6)
  if x.2 = .OK && !x.1.flag TST_SST_STAT_BUSY then (x.1, .done .OK (some (sstNotPassed x.1))) else orAwait x .selfTest

/-! ### Commands whose completion comes before their effect (R411, R495) -/

/-- START: the completion and the closure are written, then the start begins. While ferroelectric writes wait, it waits (R421). -/
def startOp (s : State) (r seq : Nat) : State :=
  match if s.ready || s.exhausted then startedCmd s r seq 3 else none with
  | none => s
  | some c =>
    let x := askStart s (argNum c.args 0 1)
    if x.2 ≠ .OK then result s ⟨r, seq⟩ x.2
    else if s.storeHeld then s
    else (askStart (completeNow s ⟨r, seq⟩ .OK) (argNum c.args 0 1)).1

/-- IMAGE_ACTIVATE: the control block takes the region and its generation; then a warm start of cause 8 (R495). -/
def activateOp (s : State) (r seq : Nat) : State :=
  match if s.ready || s.exhausted then startedCmd s r seq 0x3B else none with
  | none => s
  | some c =>
    let g := argNum c.args 0 1
    let st := activateStatus s g
    if st ≠ .OK then result (s.refuse imgErr st) ⟨r, seq⟩ st
    else if s.storeHeld then s
    else
      let s := ctlWrite s [(4, 4, g), (8, 4, glazeGen s g)]
      { completeNow s ⟨r, seq⟩ .OK with warmWant := some 8 }

/-- A command that takes or gives host data runs while the host can be reached (R402). -/
def withHost (s : State) (f : State → State) : State := if s.hostReach then f s else s

/-! ### ABORT (R413, R414) -/

/-- The effect of a cancel. -/
def cancelOp (s : State) (c : CmdRef) (op : Nat) (a : List Byte) : State :=
  let s := { s with waits := s.waits.filter fun (w : WaitOn × CmdRef) => w.2 ≠ c }
  let m := argNum a 0 1
  match op with
  | 0x02 => chgCancel (s.putAll [(PWR_MODE_CHANGING, 0), (PWR_MODE_TARGET, 0)])
  | 0x04 => psAbort s 24 false 2 .ABORTED
  | 0x20 => s.setGrp m { s.grpOf m with stopPending := false }
  | 0x25 => (actFloat s m).1
  | 0x26 => (cnvStop s m).1
  | 0x32 => fabCancel s c
  | _ => s

/-- ABORT of a target that has started: its verdict, none while the frame of a CAN_SEND is on the bus. -/
def abortStarted (s : State) (c : CmdRef) (t : HCmd) : State × Option Status :=
  if t.stage = .done || s.results.any (fun x => x.ref = c) then (s, some .NOTHING_TO_ABORT)
  else if !opAbortable t.op t.args then (s, some .ABORT_REFUSED)
  else if t.stage = .started then (result (if t.op = 0x3A then cancelImageWrite s t.args else s) c .ABORTED, some .OK)
  else match if t.op = 0x31 then hostEntry s c else none with
    | some (n, e) => if entryState s n e = 2 then (abortEntry s n e, none) else (abortEntry s n e, some .OK)
    | none => (cancelOp (result s c .ABORTED) c t.op t.args, some .OK)

/-- The verdict of an ABORT of command `c` by command `me` (R413). -/
def abortOf (s : State) (me c : CmdRef) : State × Option Status :=
  let q := s.hqOf c.ring
  match q.recent.find? fun x => x.1 = c.seq with
  | none => (s, some .ABORT_NO_TARGET)
  | some x =>
    if x.2 = 1 || c = me then (s, some .HOST_RANGE)
    else match q.cmds.find? fun y => y.seq = c.seq with
      | none => (s, some .NOTHING_TO_ABORT)
      | some t =>
        if t.stage = .accepted then
          if t.fail ≠ .OK || t.op = 0 || t.op = 7 then (s, some .NOTHING_TO_ABORT)
          else (result (mapCmd s c fun y => { y with fail := .ABORTED }) c .ABORTED, some .OK)
        else if t.stage = .fetched then (s, some .ABORT_NO_TARGET)
        else abortStarted s c t

def opAbort (me : CmdRef) : HostOp := fun s a =>
  let c : CmdRef := ⟨argNum a 0 1, argNum a 4 4⟩
  let x := abortOf s me c
  match x.2 with
  | some st => (x.1, .done st none)
  | none => (x.1, .await (.canAbort c))

/-! ### Telemetry (R416-R418) -/

/-- What a read of an item gives: flags [2:0], E, value as 40 bits, sample time. -/
structure TlmRead where
  flags : Nat := 1
  e : Nat := 0
  value : Nat := 0
  time : Nat := 0

/-- Flags of a source: VALID, and OVR or FAULT. -/
def tlmFlags (valid ovr fault : Bool) : Nat := bit valid + 4 * bit (ovr || fault)

/-- The source of an item of each kind; none where nothing can be read. -/
def tlmSource (s : State) (i : Nat) : State × Option TlmRead :=
  let a := s.fld (HOST_TLM_ADDR i)
  match s.fld (HOST_TLM_CFG_KIND i) with
  | 0 =>
    if (mirrorFresh s a).isNone then (s, none)
    else (s, some { flags := tlmFlags (s.flag (RES_FLAGS_VALID a)) (s.flag (RES_FLAGS_OVR a)) (s.flag (RES_FLAGS_FAULT a)),
                    e := s.fld (RES_FLAGS_E a), value := codeOf 40 (s.word a).toInt, time := mirrorTime s a })
  | 1 =>
    let t := deviceRead s (s.fld (HOST_TLM_TADDR i))
    let v := deviceRead t.1 a
    match t.2, v.2 with
    | some t1, some x => (v.1, some { value := codeOf 40 (signedOf 32 x), time := extendTime s.mtime 32 t1 })
    | _, _ => (v.1, none)
  | 2 =>
    if !(wordMem a && a < 0x50000000) || a % 16 ≠ 0 || bankShut s a then (s, none)
    else
      let w := (s.word (a + 8)).toNat
      (s, some { flags := tlmFlags (w.testBit 35) (w.testBit 34) (w.testBit 33), e := bitsOf w 24 8,
                 value := codeOf 40 (s.word a).toInt, time := extendTime s.mtime 24 (w % 2 ^ 24) })
  | _ =>
    let v := deviceRead s a
    (v.1, v.2.map fun x => { value := codeOf 40 (signedOf 32 x), time := s.mtime })

/-- A telemetry record without LOSS and PHASE. -/
def tlmRec (i : Nat) (x : TlmRead) : List Byte :=
  leBytes 2 i ++ leBytes 1 x.flags ++ leBytes 1 x.e ++ leBytes 5 x.value ++ leBytes 7 x.time

/-- TELEMETRY_READ: `torn` says that the time reads of a kind 1 item did not agree in 3 attempts. -/
def telemetryRead (s : State) (i : Nat) (torn : Bool) : State :=
  if s.perst || !s.flag (HOST_TLM_CFG_EN i) then s
  else if s.fld (HOST_TLM_CFG_KIND i) = 1 && torn then s.inc (HOST_T_DROP_TORN 0)
  else
    let r := tlmSource s i
    let h : Tlm := Tbl.get {} s.tlm i
    match r.2 with
    | none => r.1
    | some x =>
      let s := r.1
      let newer := match h.last with
        | none => true
        | some t => decide (t < x.time)
      if newer then postTelemetry { s with tlm := Tbl.set {} s.tlm i { last := some x.time } } (tlmRec i x)
      else
        let fresh := 40000 * s.fld (HOST_TLM_FRESH i)
        if h.last = some x.time && !h.stale && fresh ≠ 0 && x.time + fresh < s.mtime then
          postTelemetry { s with tlm := Tbl.set {} s.tlm i { h with stale := true } }
            (tlmRec i { x with flags := x.flags + 2, value := 0 })
        else s

end Sys2Proof.Machine
end

