-- ==== Sys2Proof/Machine/System.lean ====
section
/-! DEFINITION. Events of the whole device: clock windows (R24, R311), power and reset (R53, R55, R367, R503), the accesses that a
comparator releases (R345), debug requests (R354, R509, R510), wakes by doorbells (R380), and what an idle tick does (R26, R28). -/

namespace Sys2Proof.Machine

/-- CLOCK_MONITOR_WINDOW_END: `bad` names the islands out of tolerance in this window. The second window in a row is a clock fault;
island 33's stops every permit carrier (R24, R311). It is delivered to the Saggar again where a release has ended the demand of an
earlier one. An island that is powered down has no clock to judge. -/
def clockWindow (s : State) (bad : Nat) : State :=
  if !s.timeRuns then s
  else
    let now := ((List.range 42).filter fun i => bad.testBit i && !s.sup.parked.testBit i).foldl setBit 0
    let twice := now &&& s.clkBad
    ({ s with clkBad := now }).each (bitsSet 42 twice) fun s i =>
      if s.flag (PWR_ISL_STAT_CLK_FAULT i) && s.sag.evts.any fun d => d.cause = 0x21 then s
      else
        let s := s.putFlag (PWR_ISL_STAT_CLK_FAULT i) true
        demandEvt (if i = 33 then { s with sag := { s.sag with dead := true } } else s) 0x21 0 true 1

/-- Island 41 is held without power, or holds every other island in reset. -/
def heldOff (s : State) : Bool := s.fld PWR_START_STAT_STEP = 0

/-- POWER_ON: the LV drivers have power and apply their orphan policy; a cold start of cause 0 begins. -/
def powerOn (s : State) : State :=
  if !heldOff s || s.sup.lost then s
  else
    let s := s.each ((List.range 12).filter fun k => s.linkFitted (48 + k)) fun s k =>
      s.setRx (48 + k) ({ s.rxOf (48 + k) with ch := { gate := .off }, hs := { gate := .off } }.applyOrphan true)
    wantCold s 0

/-- SYS_RESET_ASSERT: SYS_RESET_N is low for 1 µs. -/
def sysReset (s : State) : State :=
  let s := s.setTap { s.tap with resetLow := true }
  if heldOff s then s else wantCold s 1

/-- The value that the image in force gives a register field, 0 where it names none. -/
def imageFld (s : State) (f : Fld) : Nat :=
  match (keptSet s).find? fun r => r.kind = 1 && r.reg = f.addr with
  | some r => bitsOf (r.data s &&& r.mask s) f.lo f.width
  | none => 0

/-- PERST_ASSERT: the fields whose cold-start value is the image's take it (R402, R428). -/
def perst (s : State) : State :=
  (perstAssert s).putAll [(HOST_CFG_REG_WR, imageFld s HOST_CFG_REG_WR), (HOST_LOCK, imageFld s HOST_LOCK)]

/-- POWER_LOSS_SEQUENCE: carriers and outputs off, cores and engines halted, the bypass closed, every other island in reset. The mode
stands until the next start notes it. -/
def powerLoss (s : State) : State :=
  if heldOff s then s
  else
    let m := s.mode
    let c := s.fld PWR_MODE_SAFE_CAUSE
    let s := coldReset s
    let s := s.putAll [(PWR_MODE, m), (PWR_MODE_SAFE_CAUSE, c), (PWR_START_STAT_STEP, 0)]
    soutDriveAll { s with timeRuns := false, sup := { s.sup with lost := true } }

/-- SUPPLY_RESTORED_START: a feed has stayed in range for 10 ms after the power-loss sequence. -/
def supplyRestored (s : State) : State :=
  if s.sup.lost && (List.range 2).any fun f => feedIn s f && decide (1000 ≤ (s.feedOf f).since) then wantCold s 4 else s

/-- The register fields that the fuses and the strap give, which no loss of power changes. -/
def strapFields (s : State) : Tbl Nat :=
  s.regs.filter fun (e : Nat × Nat) => e.1 = (FAB_CFG_STRAP).key

/-- ISLAND41_POWER_LOSS: everything but the ferroelectric store, the fuses and what stands outside the die is lost. -/
def islandPowerLoss (s : State) : State :=
  { pending := s.pending, variant := s.variant, regs := strapFields s, rx := s.rx.filter fun (e : Nat × Rx) => e.1 < 48,
    bytes := s.bytes.filter fun (c : Host.Cell) => 0x70000000 ≤ c.1 && c.1 < 0x70400000,
    jnl := { era := s.jnl.era }, tap := { policy := s.tap.policy, keyHash := s.tap.keyHash, resetLow := s.tap.resetLow }, perst := s.perst, out := s.out, free := s.free }

/-- The access of an item that a comparator has released (R345, R346). An atomic's response is left to its target. -/
def releasedAccess (s : State) (n : Fin 12) (x : CopyItem) (ecc : Ecc) : State :=
  match x.kind with
  | .read => readEcc s (.pair n) x.addr.toNat ecc fun s => readOut s (.pair n) x.size x.addr.toNat
  | .write => (busWrite s (.pair n) x.size x.addr.toNat x.data.toNat).1
  | .atomic => s
  | .counter c => readCounter s n c

/-- COPY_TRANSACTION with the access of the item it releases. -/
def copyTransaction (s : State) (n : Fin 12) (checker : Bool) (item : CopyItem) (icnt : Nat) (ecc : Ecc) : State :=
  let x := copyItem (s.retiredTo n icnt) n checker item icnt
  match x.2 with
  | some it => releasedAccess x.1 n it ecc
  | none => x.1

/-- The debug module answers requests only while the access policy lets its instructions through (R501); it is active then. -/
def byDebug (s : State) (f : State → State) : State := if policyOpen s then f (s.putFlag TST_STAT_DBG_ACTIVE true) else s

/-- DEBUG_HALT_REQUEST: a notice to the pair, unless the mode refuses it (R354, R510). -/
def debugHalt (s : State) (n main chk : Nat) (wfi : Bool × Bool) : State :=
  byDebug s fun s => if debugDenied s then debugRefused s false else openNotice s n .halt main chk wfi

/-- DEBUG_ACTION: a bus access of the module itself, or an entry of the replay queue (R354, R509, R510). -/
def debugAction (s : State) (n : Nat) (act : DebugAct) (replay : Bool) : State :=
  byDebug s fun s => match act with
    | .busWrite a d => if debugDenied s then debugRefused s true else (busWrite s .debug 4 a.toNat d.toNat).1
    | .busRead a => readOut s .debug 4 a.toNat
    | .programBuffer => if !replay && debugDenied s then debugRefused s false else debugReplay s n act replay
    | .coreWrite _ _ => debugReplay s n act replay
    | .step => debugReplay s n act replay

/-- A doorbell wakes the device from DOZE (R380). -/
def bellWake (s : State) : State := if psState s = 1 || toDoze s then wake s 15 else s

/-- The period starts that module time has reached (R74, R81). -/
def periodStarts (s : State) : State := s.each ((List.range 12).filter fun g => (s.grpOf g).due) periodStart

/-- The up links that send a frame, or on which one waits (R110). -/
def upTicks (s : State) : State :=
  s.each ((List.range 60).filter fun l => 0 < (s.rxOf l).upBusy) upTick

/-- One tick with nothing to do: the up links go on; module time counts, period starts come, the excitation outputs move and the
pilot's conversions fall due; in RETAIN the ticks are counted for the wake (R26, R28; log 2). -/
def idleTick (s : State) : State :=
  let s := upTicks s
  if psState s = 2 then { s with sup := { s.sup with asleep := s.sup.asleep + 1 } }
  else if s.timeRuns then settle s (pilotTick (excTick (periodStarts { s with mtime := (s.mtime + 1) % 2 ^ 64 }))) else s

end Sys2Proof.Machine
end

