-- ==== Sys2Proof/Machine/Rows.lean ====
section
/-! DEFINITION. What the rows of the command table share: a register write by a requester, the check that a leg is fitted, and the
rows that join two blocks. -/

namespace Sys2Proof.Machine

/-- The state after a register write of a requester at address `a` whose block does `act` (R38, R537). -/
def regWr (s : State) (r : Requester) (a : Nat) (act : State → State × Status) : State := (regBy s r a act).1

/-- A write to a leg's register: LEG_ABSENT for a leg that the variant does not fit (R70). -/
def ifFitted (s : State) (leg : Nat) (act : State → State × Status) : State × Status :=
  if s.legFitted leg then act s else (s.refuse pwmErr .LEG_ABSENT, .LEG_ABSENT)

/-- FAULT_FRAME: island 32 shows the report, and the Saggar compares it with the others of the group (R122). The channels of an
LV leg count as two, its high side first. -/
def faultArrives (s : State) (l : Nat) (f : BitVec 40) : State :=
  let t := extendTime s.mtime 19 (bodyBits f 26 8)
  let s := takeFault s l f
  match s.groupOf (legOfLink l) with
  | some g => faultReport s g (if l < 48 then l else 48 + 2 * (l - 48) + (1 - bodyBits f 27 27)) t
  | none => s

/-- DOWN_LINK_IDLE: island 32 sends TIME with the low 24 bits of module time (R109, R111). -/
def downIdle (s : State) (l : Nat) : State :=
  if s.timeRuns && s.linkFitted l then s.down l 0 (s.mtime % 2 ^ 24) else s

/-- A powered satellite or driver: it has left RESET. -/
def ifPowered (s : State) (l : Nat) (act : State → State) : State := if (s.rxOf l).state = .reset then s else act s

/-- UP_LINK_IDLE: the satellite or driver sends ALIVE (R111). -/
def upIdle (s : State) (l : Nat) : State := ifPowered s l fun s => sendAlive s l

/-- VPOS_ARMED: the supply checks arm, and a satellite that was held off in ORPHAN for its rising VPOS leaves it or takes its policy
(R118, R124). -/
def armSupply (s : State) (n : Nat) : State :=
  ifPowered s n fun s =>
    let r := { s.rxOf n with armedUv := true }
    s.setRx n (if r.state = .orphan then (if r.held.isSome && r.mayLeave false then r.enterHeld false else r.applyOrphan false) else r)

/-- CROSS_LINK_SILENT: the partner counts as conducting (R127). -/
def crossSilent (s : State) (n : Nat) : State := ifPowered s n fun s => s.setRx n { s.rxOf n with xSilent := true }

end Sys2Proof.Machine
end

