-- ==== Sys2Proof/Machine/ExecCan.lean ====
section
/-! DEFINITION. The meanings of the commands of 18 CAN FD controllers: one per row of the table. -/

namespace Sys2Proof.Machine

/-- CAN_MODE_WRITE (R469): A write of CAN_CTRL.MODE checks the bit timing and changes the controller mode. -/
def execCanModeWrite (r : Requester) (n : Fin 8) (data : Word) (busy : Bool) (s : State) : Host.Outcome State Fault Refusal :=
  .next (settle s (regWr s r (0x60090000 + 0x400 * n.val) fun s => canMode s n data.toNat busy))

/-- BUS_INTEGRATION_END (R469): 11 recessive bits integrate the controller on the bus. -/
def execBusIntegrationEnd (n : Fin 8) (s : State) : Host.Outcome State Fault Refusal :=
  .next (integrated s n)

/-- CAN_FRAME_RECEIVED (R472): A frame received without error goes to a Fjop connection or waits for its filter walk. -/
def execCanFrameReceived (n : Fin 8) (f : CanFrame) (s : State) : Host.Outcome State Fault Refusal :=
  .next (settle s (frameReceived s n f))

/-- FILTER_WALK_END (R472): The filter walk ends and the frame is stored in a queue or rejected. -/
def execFilterWalkEnd (n : Fin 8) (s : State) : Host.Outcome State Fault Refusal :=
  .next (dozeWake s (walkEnd s n))

/-- CAN_BUS_OFF (R470): The controller enters bus-off, sets BOFF and may start recovery. -/
def execCanBusOff (n : Fin 8) (s : State) : Host.Outcome State Fault Refusal :=
  .next (dozeWake s (busOff s n))

/-- CAN_RECOVER (R470): CAN_CMD.RECOVER starts bus-off recovery. -/
def execCanRecover (r : Requester) (n : Fin 8) (s : State) : Host.Outcome State Fault Refusal :=
  .next (settle s (regWr s r (0x60090014 + 0x400 * n.val) fun s => (canRecover s n, .OK)))

/-- BUS_OFF_RECOVERY_END (R470): Recovery ends with both error counters at 0 and the controller error-active. -/
def execBusOffRecoveryEnd (n : Fin 8) (s : State) : Host.Outcome State Fault Refusal :=
  .next (dozeWake s (recovered s n))

/-- FILTER_COMMIT (R471): CAN_FLT_CMD.COMMIT applies both filter list shadows together. -/
def execFilterCommit (r : Requester) (n : Fin 8) (s : State) : Host.Outcome State Fault Refusal :=
  .next (settle s (regWr s r (0x60090030 + 0x400 * n.val) fun s => filterCommit s n))

/-- CAN_TX_REQUEST (R475): A write of CAN_TX_REQ copies the slot and requests the entry with a submission number, or refuses it.
-/
def execCanTxRequest (r : Requester) (n : Fin 8) (half : Fin 2) (data : Word) (idle : Bool) (s : State) :
    Host.Outcome State Fault Refusal :=
  .next (settle s (regWr s r (0x60090038 + 0x400 * n.val + 4 * half.val) fun s => (txRequest s n half data.toNat idle, .OK)))

/-- CAN_TX_ABORT (R478): A write of CAN_TX_ABT requests an abort of an entry. -/
def execCanTxAbort (r : Requester) (n : Fin 8) (half : Fin 2) (data : Word) (s : State) : Host.Outcome State Fault Refusal :=
  .next (settle s (regWr s r (0x60090040 + 0x400 * n.val + 4 * half.val) fun s => (txAbort s n half data.toNat, .OK)))

/-- CAN_ATTEMPT_END (R476): A transmit attempt ends in an error or a lost arbitration, and the entry stays pending or completes.
-/
def execCanAttemptEnd (n : Fin 8) (how : CanAttempt) (s : State) : Host.Outcome State Fault Refusal :=
  .next (dozeWake s (attemptEnd s n how))

/-- CAN_TX_COMPLETION (R477): An entry reaches the end of frame, completes OK and sets DONE. -/
def execCanTxCompletion (n : Fin 8) (s : State) : Host.Outcome State Fault Refusal :=
  .next (dozeWake s (txEnd s n))

/-- CAN_RXQ_ACK (R473): A write of CAN_RXQ_ACK releases receive entries. -/
def execCanRxqAck (r : Requester) (n : Fin 8) (q : Fin 4) (data : Word) (s : State) : Host.Outcome State Fault Refusal :=
  .next (settle s (regWr s r (0x6009008C + 0x400 * n.val + 0x10 * q.val) fun s => (canAck s n q (data.toNat % 2 ^ 10), .OK)))

/-- SAFETY_BUFFER_WRITE (R474): The Saggar writes a Fjop frame into a CAN safety buffer for arbitration. -/
def execSafetyBufferWrite (c : Fin 32) (idle : Bool) (s : State) : Host.Outcome State Fault Refusal :=
  .next (safetyBuffer s c idle)

/-- CAN_RECEIVE_ERROR (R466): An error detected while receiving a frame updates the receive error counter, LEC and the
fault-confinement state of the controller. -/
def execCanReceiveError (n : Fin 8) (e : CanError) (heavy : Bool) (s : State) : Host.Outcome State Fault Refusal :=
  .next (dozeWake s (receiveError s n e heavy))

/-- CAN_PROTOCOL_EXCEPTION (R466): While PXE is enabled, a recessive res bit, or a recessive FDF bit with FD disabled, raises a
protocol exception, counts PXE_CNT and sets the PXE interrupt. -/
def execCanProtocolException (n : Fin 8) (s : State) : Host.Outcome State Fault Refusal :=
  .next (dozeWake s (protocolException s n))

end Sys2Proof.Machine
end

