-- ==== Sys2Proof/Machine/ExecCharge.lean ====
section
/-! DEFINITION. The meanings of the commands of 11 Charging, power path and reverse power: one per row of the table. -/

namespace Sys2Proof.Machine

/-- CHARGER_ENABLE (R287): A write of CHG_CFG.EN = 1 enables the charging block, or is refused. -/
def execChargerEnable (r : Requester) (data : Word) (s : State) : Host.Outcome State Fault Refusal :=
  .next (settle s (regWr s r 0x60050000 fun s => chgCfgWrite s (setBit data.toNat 0)))

/-- PILOT_EDGE (R289): A filtered pilot edge is timed and the plateau conversions are requested. -/
def execPilotEdge (rise : Bool) (s : State) : Host.Outcome State Fault Refusal :=
  .next (pilotEdge s rise)

/-- PILOT_STEADY (R289): No pilot edge for 3 ms makes the pilot steady, and it is converted once per millisecond. -/
def execPilotSteady (s : State) : Host.Outcome State Fault Refusal :=
  .next (pilotSteady s)

/-- PILOT_RESULT (R290): A pilot conversion lands and the state and pilot current are updated. -/
def execPilotResult (s : State) : Host.Outcome State Fault Refusal :=
  .next (settle s (pilotResult s))

/-- PROXIMITY_RESULT (R292): A proximity result lands and selects a cable band or no plug. -/
def execProximityResult (s : State) : Host.Outcome State Fault Refusal :=
  .next (proximityResult s)

/-- PLUG_DEBOUNCE (R292): 10 ms in a band or out of every band sets or clears PLUG. -/
def execPlugDebounce (plugged : Bool) (s : State) : Host.Outcome State Fault Refusal :=
  .next (settle s (plugDebounce s plugged))

/-- MAINS_REPORT (R294): The PFC program reports a half-cycle RMS and frequency, and mains loss is judged. -/
def execMainsReport (s : State) : Host.Outcome State Fault Refusal :=
  .next (settle s (mainsReport s))

/-- MAINS_ZERO_CROSS_TIMEOUT (R294): No zero crossing for 30 ms is mains loss. -/
def execMainsZeroCrossTimeout (s : State) : Host.Outcome State Fault Refusal :=
  .next (settle s (zeroCrossTimeout s))

/-- MAINS_QUALIFIED (R296): 100 ms of qualified mains determines the phases and starts the bus ramp. -/
def execMainsQualified (s : State) : Host.Outcome State Fault Refusal :=
  .next (settle s (mainsQualified s))

/-- QUALIFY_TIMEOUT (R296): 5 s without qualified mains completes SET_MODE with CHG_NO_MAINS. -/
def execQualifyTimeout (s : State) : Host.Outcome State Fault Refusal :=
  .next (settle s (qualifyTimeout s))

/-- BUS_READY (R296): The bus comes within 2 % of BUS_SET, the DAB unfloats and the session opens. -/
def execBusReady (s : State) : Host.Outcome State Fault Refusal :=
  .next (settle s (busReady s))

/-- PULSE_END (R297): T_P elapses and the current ramps down into REST. -/
def execPulseEnd (s : State) : Host.Outcome State Fault Refusal :=
  .next (chargePulseEnd s)

/-- REST_END (R297): T_R elapses, OCV is reported and the current ramps up into PULSE. -/
def execRestEnd (ocv early : Nat) (s : State) : Host.Outcome State Fault Refusal :=
  .next (restEnd s ocv early)

/-- IMPEDANCE_WINDOW_END (R298): The 1 ms window after EDGE_DLY ends and Z_ON or Z_OFF is computed. -/
def execImpedanceWindowEnd (millivolts milliamps : Int) (s : State) : Host.Outcome State Fault Refusal :=
  .next (impedanceEnd s millivolts milliamps)

/-- CHARGER_OUTPUT_READ (R299): After END the block reads the DAB limit code and updates the reduction reasons. -/
def execChargerOutputRead (unit : Fin 3) (s : State) : Host.Outcome State Fault Refusal :=
  .next (settle s (chargerRead s unit))

/-- CHARGE_TERMINATION (R299): CV below I_TERM for TERM_T ends the session with CHG_COMPLETE. -/
def execChargeTermination (s : State) : Host.Outcome State Fault Refusal :=
  .next (settle s (chargeTermination s))

/-- SAFETY_TIMER_EVALUATION (R300): Every 0.5 s the safety timer advances and may end the session. -/
def execSafetyTimerEvaluation (s : State) : Host.Outcome State Fault Refusal :=
  .next (settle s (safetyTimer s))

/-- HANDOVER_COMPLETE (R301): The floats of a hand-over apply and the battery carries the loads alone. -/
def execHandoverComplete (s : State) : Host.Outcome State Fault Refusal :=
  .next (settle s (handoverComplete s))

/-- SESSION_RESUME (R302): 2 s of qualified mains with the plug in resumes the session, or opens a new one. -/
def execSessionResume (s : State) : Host.Outcome State Fault Refusal :=
  .next (sessionResume s)

/-- WAIT_TIMEOUT (R302): WAIT_T without resumption closes the session with MAINS_LOST and returns to STANDBY. -/
def execWaitTimeout (s : State) : Host.Outcome State Fault Refusal :=
  .next (settle s (waitTimeout s))

/-- EXPORT_READY (R304): The bus comes within 2 % of EXP_V, the export completes and EXP_READY is set. -/
def execExportReady (s : State) : Host.Outcome State Fault Refusal :=
  .next (settle s (exportReady s))

/-- EXPORT_SETPOINT_WRITE (R304): A write of CHG_EXP updates the export setpoints and restarts SP_TO. -/
def execExportSetpointWrite (r : Requester) (data : Word) (s : State) : Host.Outcome State Fault Refusal :=
  .next (settle s (regWr s r 0x60050060 fun s => exportWrite s data.toNat))

/-- EXPORT_SETPOINT_TIMEOUT (R304): No write of CHG_EXP for SP_TO ends the export with EXPORT_SP_STALE. -/
def execExportSetpointTimeout (s : State) : Host.Outcome State Fault Refusal :=
  .next (settle s (exportTimeout s))

/-- BOOST_READY (R305): The accessory output comes within 2 % of ACC_V and the boost completes. -/
def execBoostReady (s : State) : Host.Outcome State Fault Refusal :=
  .next (settle s (boostReady s))

end Sys2Proof.Machine
end

