-- ==== Sys2Proof/Machine/ExecCore.lean ====
section
/-! DEFINITION. The meanings of the commands of 01 Module and die architecture, 02 Operating modes and starts: one per row of the table. -/

namespace Sys2Proof.Machine

/-- REGISTER_WRITE (R537): A register write that has no row of its own is applied field by field, with locked fields kept and
refusals recorded. -/
def execRegisterWrite (r : Requester) (size : Fin 3) (addr data : Word) (s : State) : Host.Outcome State Fault Refusal :=
  .next (settle s ((busWrite s r (2 ^ size.val) addr.toNat data.toNat).1))

/-- DROOP_STRETCH (R23): The droop monitor sees the margin fall below its threshold and stretches the island clock. -/
def execDroopStretch (island : Fin 42) (cap : Bool) (s : State) : Host.Outcome State Fault Refusal :=
  .next (droopStretch s island cap)

/-- AVS_REQUEST_CHANGE (R22): An island changes its voltage request, and the power controller updates the core-rail target. -/
def execAvsRequestChange (island : Fin 42) (req : Byte) (s : State) : Host.Outcome State Fault Refusal :=
  .next (avsRequest s island req.toNat)

/-- CLOCK_MONITOR_WINDOW_END (R24): A 1 µs clock measurement window ends and island 41 judges every island clock. -/
def execClockMonitorWindowEnd (bad : BitVec 42) (s : State) : Host.Outcome State Fault Refusal :=
  .next (settle s (clockWindow s bad.toNat))

/-- MTIME_LO_READ (R31): A read of PWM_MTIME_LO returns bits [31:0] and latches bits [63:32] for the requester. -/
def execMtimeLoRead (r : Requester) (s : State) : Host.Outcome State Fault Refusal :=
  .next (readOut s r 4 0x60007F00)

/-- MTIME_HI_READ (R31): A read of PWM_MTIME_HI returns the requester's latched bits, or the live bits when nothing is latched.
-/
def execMtimeHiRead (r : Requester) (s : State) : Host.Outcome State Fault Refusal :=
  .next (readOut s r 4 0x60007F04)

/-- WORD_LOW_HALF_WRITE (R40): A low-half write stages 32 bits in the requester's staging register without changing the word. -/
def execWordLowHalfWrite (r : Requester) (addr data : Word) (s : State) : Host.Outcome State Fault Refusal :=
  .next (settle s ((busWrite s r 4 (addr.toNat - addr.toNat % 8) data.toNat).1))

/-- WORD_HIGH_HALF_WRITE (R40): A high-half write commits the whole 36-bit word, using the staged low bits if they belong to
this word. -/
def execWordHighHalfWrite (r : Requester) (addr data : Word) (s : State) : Host.Outcome State Fault Refusal :=
  .next (settle s ((busWrite s r 4 (addr.toNat - addr.toNat % 8 + 4) data.toNat).1))

/-- WORD_LOW_HALF_READ (R41): A low-half read returns bits [31:0] and latches the high half for the requester. -/
def execWordLowHalfRead (r : Requester) (x : WordRead) (s : State) : Host.Outcome State Fault Refusal :=
  .next (readEcc s r (x.addr.toNat - x.addr.toNat % 8) x.ecc fun s => readOut s r 4 (x.addr.toNat - x.addr.toNat % 8))

/-- WORD_HIGH_HALF_READ (R41): A high-half read returns the latched high half, or the live value when nothing is latched. -/
def execWordHighHalfRead (r : Requester) (x : WordRead) (s : State) : Host.Outcome State Fault Refusal :=
  .next (readEcc s r (x.addr.toNat - x.addr.toNat % 8 + 4) x.ecc fun s => readOut s r 4 (x.addr.toNat - x.addr.toNat % 8 + 4))

/-- HOST_64BIT_WORD_WRITE (R40): A host 64-bit write commits a 36-bit word at once. -/
def execHost64bitWordWrite (addr : Word) (data : BitVec 64) (s : State) : Host.Outcome State Fault Refusal :=
  .next ((hostWord s addr.toNat data.toNat).1)

/-- HOST_64BIT_WORD_READ (R41): A host 64-bit read returns the 36-bit word sign-extended to 64 bits. -/
def execHost64bitWordRead (x : WordRead) (s : State) : Host.Outcome State Fault Refusal :=
  .next (readEcc s .host x.addr.toNat x.ecc fun s => hostWordRead s x.addr.toNat)

/-- POWER_ON (R53): Island 41 receives power and a cold start of cause 0 begins. -/
def execPowerOn (s : State) : Host.Outcome State Fault Refusal :=
  .next (settle s (powerOn s))

/-- SYS_RESET_ASSERT (R53): SYS_RESET_N held low for 1 µs or longer begins a cold start of cause 1. -/
def execSysResetAssert (s : State) : Host.Outcome State Fault Refusal :=
  .next (settle s (sysReset s))

/-- SYS_RESET_RELEASE (R503): The release of SYS_RESET_N selects BYPASS if an intrusive instruction is loaded and lets the cold
start run. -/
def execSysResetRelease (s : State) : Host.Outcome State Fault Refusal :=
  .next (tapRelease s)

/-- PERST_ASSERT (R402): PERST_N resets island 37 only and resets every host ring. -/
def execPerstAssert (s : State) : Host.Outcome State Fault Refusal :=
  .next (perst s)

/-- START_STEP_END (R56): A start step ends, and the next step of the start begins. -/
def execStartStepEnd (rep : StepReport) (s : State) : Host.Outcome State Fault Refusal :=
  .next (settle s (stepEnd s rep))

/-- START_LIMIT_EXPIRY (R57): The 2 s start limit enforced by island 41 expires and the start fails. -/
def execStartLimitExpiry (s : State) : Host.Outcome State Fault Refusal :=
  .next (settle s (startLimit s))

/-- FABRIC_STEP_TIMEOUT (R61): Step 8 reaches 400 ms and ends with FABRIC_PENDING while discovery continues. -/
def execFabricStepTimeout (s : State) : Host.Outcome State Fault Refusal :=
  .next (fabricTimeout s)

/-- MODE_CHANGE_COMPLETE (R48): The new mode code is written into PWR_MODE.MODE at the completion point of a mode change. -/
def execModeChangeComplete (s : State) : Host.Outcome State Fault Refusal :=
  .next (settle s (modeChangeDone s))

end Sys2Proof.Machine
end

