-- ==== Sys2Proof/Machine/Library.lean ====
section
/-! DEFINITION. The library programs of the bisque image (R212, R222, R234-R237, R277, R306). Their words are not in the spec, which
gives what a run computes; a run of one is taken as a whole here (log 119). Quantities are fixed-point numbers scaled by 2^64. -/

namespace Sys2Proof.Machine

/-! ### Numbers -/

/-- The value m × 2^(e − 35) of a Q1.35 mantissa at exponent `e`, scaled. -/
def fxOf (m e : Int) : Int := if -29 ≤ e then m * 2 ^ (e + 29).toNat else m / 2 ^ (-29 - e).toNat

def mulFx (a b : Int) : Int := a * b / one64

/-- A quotient; the value at a divisor of 0 is free. -/
def divFx (a b : Int) (open_ : Nat) : Int := if b = 0 then open_ else a * one64 / b

/-- √(x² + y²). -/
def normFx (x y : Int) : Int := (isqrt 128 (x * x + y * y).natAbs : Nat)

/-- `v` moved toward `goal` by at most `step`. -/
def approach (v goal step : Int) : Int := clampInt (v - step) (v + step) goal

/-- 1/√3, √3/2, √3 and π/30, scaled. -/
def invRoot3 : Int := 10650232656328343401
def halfRoot3 : Int := 15975348984492515101
def root3 : Int := 31950697969885030203
def piBy30 : Int := 1931738522153899424

/-! ### Slots and coefficients -/

/-- The value of a sample slot of an engine, whether it is usable, and its exponent. -/
def slotFx (s : State) (e a : Nat) : Int :=
  fxOf (s.word (dataAddr e a)).toInt (signedOf 8 (bitsOf (s.word (dataAddr e (a + 1))).toNat 24 8))

def slotUsable (s : State) (e a : Nat) : Bool :=
  let w := (s.word (dataAddr e (a + 1))).toNat
  w.testBit 35 && !w.testBit 33

def slotExp (s : State) (e a : Nat) : Int := signedOf 8 (bitsOf (s.word (dataAddr e (a + 1))).toNat 24 8)

/-- A coefficient of the active bank as a mantissa at exponent `x`, and as it stands. -/
def coefFx (s : State) (e i : Nat) (x : Int) : Int := fxOf (s.word (coefAddr e (s.fld (LE_STAT_BANK e)) i)).toInt x
def coefRaw (s : State) (e i : Nat) : Nat := (s.word (coefAddr e (s.fld (LE_STAT_BANK e)) i)).toNat

/-- The flags slot of a program. -/
def slotFlags (s : State) (e a : Nat) : Nat := (s.word (dataAddr e a)).toNat

/-- Runs in a row with an input that cannot be used; two are enough for R237 and R277. -/
def badRuns (n : Nat) (ok : Bool) : Nat := if ok then 0 else min (n + 1) 2

/-! ### Field-oriented control: programs 0x0001 and 0x0002 (R234-R237) -/

/-- What R237 computes before the current loop: the torque reference after ramp, limits and clamps, and whether the setpoint is
invalid. `speed` is in rev/min. -/
def focTorque (s : State) (e : Nat) (l : Lib) (speed : Int) : Int × Bool × Lib :=
  let flags := slotFlags s e 0x068
  let speedMode := flags.testBit 4
  let bad := !slotUsable s e (if speedMode then 0x062 else 0x060)
  let due := speedMode && l.runs = 0
  let sp := if due then approach l.spRamp (slotFx s e 0x062) (coefFx s e 0x00E 4) else l.spRamp
  let w := if due then l.integW + mulFx (coefFx s e 0x005 2) (sp - speed) else l.integW
  let out := if due then mulFx (coefFx s e 0x004 4) (sp - speed) + w else l.speedOut
  let want := if bad || flags.testBit 1 then 0 else if speedMode then out else slotFx s e 0x060
  let r := clampInt (-slotFx s e 0x066) (slotFx s e 0x064) (approach l.ref want (coefFx s e 0x00D 4))
  -- R222: regeneration forbidden clamps to the direction of rotation at once; at zero speed only zero torque is admitted
  let r := if !flags.testBit 0 then r else if 0 < speed then max 0 r else if speed < 0 then min 0 r else 0
  (r, bad, { l with ref := r, spRamp := sp, integW := w, speedOut := out, runs := (l.runs + 1) % max 1 (min 64 (coefRaw s e 0x00F)) })

/-- Feed-forward: friction by speed and cogging by position, entries at the exponent of the torque slots. -/
def focFeed (s : State) (e : Nat) (speed pos : Int) (open_ : Nat) : Int :=
  let x := slotExp s e 0x064
  let t := (s.engOf e).tbl
  let i := clampInt minM maxM (divFx speed (coefFx s e 0x019 15) open_ * 2 ^ 35 / one64)
  mulFx (coefFx s e 0x014 1) (fxOf (tblValue s (Tbl.get 0 t 0) i) x) + mulFx (coefFx s e 0x015 1) (fxOf (tblValue s (Tbl.get 0 t 1) pos) x)

/-- α and β of three phase currents, or of the first two of them (CUR_MODE). -/
def focClarke (s : State) (e base : Nat) : Int × Int :=
  let i (k : Nat) : Int := mulFx (slotFx s e (base + 2 * k)) (coefFx s e 0x011 1)
  if coefRaw s e 0x01A = 1 then (i 0, mulFx (i 0 + 2 * i 1) invRoot3)
  else ((2 * i 0 - i 1 - i 2) / 3, mulFx (i 1 - i 2) invRoot3)

/-- d and q at an electrical angle of `th` turns. -/
def focPark (th : Int) (x : Int × Int) : Int × Int :=
  let sc := sinCosTurn 64 th
  (mulFx x.1 sc.2 + mulFx x.2 sc.1, mulFx x.2 sc.2 - mulFx x.1 sc.1)

/-- The duties of R203 for a voltage of (α, β) as fractions of the DC link. -/
def svmDuties (al be : Int) (err : Nat) : List Int :=
  let b := mulFx be halfRoot3
  let v := [al, b - al / 2, -b - al / 2]
  let hi := v.foldl max al
  let lo := v.foldl min al
  let den := max one64 (hi - lo)
  v.map fun x => clampInt 0 maxM (eitherWay ((2 * x - (hi + lo) + den) * 2 ^ 35) (2 * den) err)

/-- What a run gives: duties and phases of its commit, its outputs as address, exponent and value, and the conditions of its EVT
codes. -/
structure LibRun where
  duties : List Int := []
  phases : Option (List Int) := none
  outs : List (Nat × Int × Int) := []
  conds : Nat := 0
  lib : Lib := {}

/-- A run of program 0x0001, or 0x0002 for `dual` (R237). With two sets the current loop works on the mean of their currents
(log 119). -/
def focRun (s : State) (e : Nat) (dual : Bool) (open_ err : Nat) : LibRun :=
  let l := s.libOf e
  let flags := slotFlags s e 0x068
  let curIn := [0x044, 0x046] ++ (if coefRaw s e 0x01A = 1 then [] else [0x048]) ++
    (if dual then [0x04A, 0x04C] ++ (if coefRaw s e 0x01A = 1 then [] else [0x04E]) else [])
  let l := { l with badDc := badRuns l.badDc (slotUsable s e 0x040), badCur := badRuns l.badCur (curIn.all (slotUsable s e)),
                    badPos := badRuns l.badPos (slotUsable s e 0x050) }
  let zero := l.badDc = 2 || l.badCur = 2 || l.badPos = 2
  let speed := mulFx (slotFx s e 0x052) (coefFx s e 0x013 0)
  let pos := (s.word (dataAddr e 0x050)).toInt
  let tq := focTorque s e l speed
  let l := tq.2.2
  let vdc := mulFx (slotFx s e 0x040) (coefFx s e 0x010 0)
  let vmax := mulFx (coefFx s e 0x00C 0) vdc
  -- currents
  let pp : Int := (coefRaw s e 0x009 % 64 : Nat)
  let th := pp * pos * 2 ^ 28 + coefFx s e 0x012 0 / 2
  let th2 := th + coefFx s e 0x018 0 / 2
  let dq1 := focPark th (focClarke s e 0x044)
  let dq2 := focPark th2 (focClarke s e 0x04A)
  let cd := if dual then (dq1.1 + dq2.1) / 2 else dq1.1
  let cq := if dual then (dq1.2 + dq2.2) / 2 else dq1.2
  -- references
  let idMin := coefFx s e 0x017 11
  let idRef := clampInt idMin 0 (l.idW + mulFx (coefFx s e 0x016 4) (vmax - l.vmag))
  let imax := coefFx s e 0x00B 11
  let room := if idRef.natAbs < imax.natAbs then (isqrt 128 (imax * imax - idRef * idRef).natAbs : Int) else 0
  let iqRef := clampInt (-room) room (mulFx (coefFx s e 0x00A 2) (tq.1 + focFeed s e speed pos open_))
  -- PI with decoupling
  let we := mulFx (pp * speed) piBy30
  let integD := l.integD + mulFx (coefFx s e 0x001 0) (idRef - cd)
  let integQ := l.integQ + mulFx (coefFx s e 0x003 0) (iqRef - cq)
  let vd := mulFx (coefFx s e 0x000 2) (idRef - cd) + integD - mulFx we (mulFx (coefFx s e 0x007 (-8)) cq)
  let vq := mulFx (coefFx s e 0x002 2) (iqRef - cq) + integQ + mulFx we (mulFx (coefFx s e 0x006 (-8)) cd + coefFx s e 0x008 0)
  let mag := normFx vd vq
  let vd := if zero then 0 else if vmax < mag then vd * vmax / mag else vd
  let vq := if zero then 0 else if vmax < mag then vq * vmax / mag else vq
  -- duties
  let duties (th : Int) : List Int :=
    if flags.testBit 2 then List.replicate 3 (if flags.testBit 3 then maxM else 0)
    else if zero then List.replicate 3 (2 ^ 34)
    else
      let sc := sinCosTurn 64 th
      svmDuties (divFx (mulFx vd sc.2 - mulFx vq sc.1) vdc open_) (divFx (mulFx vd sc.1 + mulFx vq sc.2) vdc open_) err
  { duties := duties th ++ (if dual then duties th2 else [])
    outs := [(0x080, 11, dq1.1), (0x082, 11, dq1.2), (0x084, slotExp s e 0x064, tq.1), (0x086, 15, speed), (0x088, 11, vd),
      (0x08A, 11, vq), (0x08C, 1, mulFx (divFx (normFx vd vq) vdc open_) root3)] ++
      (if dual then [(0x08E, 11, dq2.1), (0x090, 11, dq2.2)] else [])
    conds := bit tq.2.1 * 2 ^ 1 + bit (l.badPos = 2) * 2 ^ 2 + bit (l.badDc = 2) * 2 ^ 3 + bit (l.badCur = 2) * 2 ^ 4
      + bit (idRef = idMin) * 2 ^ 5
    lib := { l with idW := idRef, integD := if zero then 0 else integD, integQ := if zero then 0 else integQ, vmag := min mag vmax } }

/-! ### The converter programs 0x0006 and 0x0007 (R277) -/

/-- A mantissa at exponent 0. -/
def fracMant (v : Int) (err : Nat) : Int := clampInt minM maxM (eitherWay v (2 ^ 29) err)

/-- A run of program 0x0006 (APM) or, for `buck`, 0x0007, on a group of `k` legs (R277). -/
def cnvRun (s : State) (e k : Nat) (buck : Bool) (open_ err : Nat) : LibRun :=
  let l := s.libOf e
  let flags := slotFlags s e 0x064
  let n := min 6 (coefRaw s e 0x008)
  let curIn := if buck then (List.range n).map fun p => 0x044 + 2 * p else [0x044, 0x046]
  let l := { l with badIn := badRuns l.badIn (([0x040, 0x042] ++ curIn).all (slotUsable s e)) }
  let run := flags.testBit 0 && l.badIn ≠ 2
  -- the voltage loop, in output codes
  let codeOf_ (a : Nat) : Int := (s.word (dataAddr e a)).toInt * 2 ^ 41
  let dv := codeOf_ 0x060 - codeOf_ 0x042
  let integ := if !flags.testBit 0 then 0 else if !flags.testBit 1 then l.integ + mulFx (coefFx s e 0x001 0) dv else l.integ
  let ilim := slotFx s e 0x062
  let ask := mulFx (coefFx s e 0x000 6) dv + integ
  let ipk := clampInt 0 ilim ask
  let limited := run && decide (ilim < ask)
  -- the duties
  let vin := slotFx s e 0x040
  let vout := slotFx s e 0x042
  let i (a : Nat) : Int := mulFx (slotFx s e a) (coefFx s e 0x004 1)
  let lnom := coefFx s e 0x002 (-12)
  let tsw := coefFx s e 0x003 (-12)
  let active := (List.range n).filter fun p => flags.testBit (8 + p)
  let duty (p : Nat) : Int :=
    let ton := divFx (mulFx (ipk - i (0x044 + 2 * p)) lnom) (mulFx vin (coefFx s e 0x005 1) - vout) open_
    clampInt 0 (coefFx s e 0x006 0) (divFx ton tsw open_)
  let mean : Int := (active.map duty).foldl (· + ·) 0 / max 1 (active.length : Int)
  let shift := clampInt 0 (coefFx s e 0x006 0)
    (divFx (mulFx (ipk - i 0x044) lnom) (mulFx vin tsw) open_ + divFx (mulFx vout (coefFx s e 0x005 5)) vin open_)
  let sr := coefFx s e 0x007 0
  let iE := slotExp s e 0x062
  let place (p : Nat) : Int := if active.contains p then ((active.filter (· < p)).length * one64) / max 1 (active.length : Int) else p * one64 / max 1 (n : Int)
  let legs := List.range (if buck then n else k)
  let duties : List Int := legs.map fun p => if !run then 0 else if buck then (if active.contains p then duty p else mean) else one64 / 2
  let phases : List Int := legs.map fun p =>
    if buck then place p else [0, if run then shift / 2 else 0, sr, one64 / 2 + sr].getD p 0
  let total : Int := if buck then open_ else i 0x046
  { duties := duties.map fun d => clampInt 0 maxM (fracMant d err)
    phases := some (phases.map fun p => fracMant p err)
    outs := [(0x080, iE, total), (0x082, 0, bit limited), (0x084, 0, if run then (if buck then mean else shift) else 0), (0x086, iE, ipk)]
    conds := bit limited * 2 ^ 1 + bit (l.badIn = 2) * 2 ^ 3
    lib := { l with integ := integ } }

/-! ### The charging programs 0x0003 to 0x0005 (R306) -/

/-- The outputs of a charging program; `entryB` is the boost of 0x0005. -/
def chargeOuts (id : Nat) (entryB : Bool) : List Nat :=
  if id ≤ 4 then [0x080, 0x082, 0x084, 0x086, 0x088]
  else if entryB then [0x080, 0x082] else [0x080, 0x082, 0x086, 0x088]

/-- How many duties a charging program commits. -/
def chargeLegs (id k : Nat) (entryB : Bool) : Nat := if id = 3 then 2 else if id = 4 then 3 else if entryB then k else 4

/-- A run of a charging program: R306 gives its inputs, its outputs and the shape of its commit, and no law, so each value is free; the
limit code of the DAB has its three bits. -/
def chargeRun (id k : Nat) (entryB : Bool) (open_ : Nat → Nat) : LibRun :=
  let n := chargeLegs id k entryB
  { duties := (List.range n).map fun i => ((open_ i % 2 ^ 35 : Nat) : Int)
    phases := if id = 5 then some ((List.range n).map fun i => ((open_ (6 + i) % 2 ^ 35 : Nat) : Int)) else none
    outs := (chargeOuts id entryB).map fun a =>
      (a, 10, if id = 5 && a = 0x086 then ((open_ a % 8 : Nat) : Int) * 2 ^ 39 else signedOf 36 (open_ a) * 2 ^ 39) }

/-! ### A run as a whole -/

/-- The largest charge of a library program (R234, R277, R306). -/
def libCharge (id : Nat) (entryB : Bool) : Nat :=
  match id with
  | 1 => 1012 | 2 => 1246 | 3 => 588 | 4 => 842 | 5 => if entryB then 336 else 521 | 6 => 452 | _ => 418

/-- The declared worst case (R212). -/
def libDeclared (id : Nat) : Nat :=
  match id with
  | 1 => 1040 | 2 => 1280 | 3 => 610 | 4 => 870 | 5 => 540 | 6 => 470 | _ => 430

/-- STS of an output at its exponent, with the trigger time (R197, R235). -/
def libStore (s : State) (e trig err : Nat) (o : Nat × Int × Int) : State :=
  let v := if -29 ≤ o.2.1 then eitherWay o.2.2 (2 ^ (o.2.1 + 29).toNat) err else o.2.2 * 2 ^ (-29 - o.2.1).toNat
  let ovr := decide (v < minM) || decide (maxM < v)
  (s.setWord (dataAddr e o.1) (BitVec.ofInt 36 (clampInt minM maxM v))).setWord (dataAddr e (o.1 + 1))
    (slotWord true ovr false false (codeOf 8 o.2.1) trig)

/-- The EVT codes whose condition has just come. -/
def libEvents (s : State) (e old new : Nat) : State :=
  s.each ((List.range 6).filter fun c => new.testBit c && !old.testBit c) fun s c => evtRaise s e c

/-- The values that a run leaves open, from the next `count` free values. -/
def State.freshFrom (s : State) (count : Nat) : (Nat → Nat) × State := (fun i => Config.freeValue (s.free + i), { s with free := s.free + count })

/-- The work of a run of the library program in an engine: it reads its inputs, commits one duty set without PER to the group of its
header, stores its outputs and raises its codes. The words that hold the persistent state of field-oriented control take values that
the spec does not give (R235). -/
def libWork (s : State) (e id : Nat) (entryB : Bool) : State :=
  let f := s.freshFrom 1024
  let s := f.2
  let x := s.engOf e
  let g := ((bitsSet 12 (engineMask s e)).head?).getD 0
  let k := (s.members g).length
  let r := if id ≤ 2 then focRun s e (id = 2) (f.1 0) (f.1 1)
    else if id ≤ 5 then chargeRun id k entryB fun i => f.1 (2 + i)
    else cnvRun s e k (id = 7) (f.1 0) (f.1 1)
  let s := s.setEng e { x with cycles := 1 + f.1 300 % libCharge id entryB,
                               flight := x.flight ++ [{ group := g, duties := r.duties, phases := r.phases, period := none }] }
  let s := s.each r.outs fun s o => libStore s e x.trig (f.1 301) o
  let s := s.when (id ≤ 2) fun s => s.each (List.range 256) fun s i => s.setWord (dataAddr e (0x100 + i)) (BitVec.ofNat 36 (f.1 (400 + i)))
  libEvents (s.setLib e { r.lib with conds := r.conds }) e (s.libOf e).conds r.conds

/-- ENGINE_TRIGGER with the work of a library program, whose run then waits for its END. -/
def triggerRun (s : State) (e events fired : Nat) : State :=
  let t := engineTrigger s e events fired
  match libId s e with
  | none => t
  | some id => if runTaken s e events then libWork t e id (!trigA s e events) else t

/-- LE_END of a run: that of a library program comes when its work is done, whatever its words are. -/
def endRun (s : State) (e : Nat) (ecc : Ecc) : State :=
  if (libId s e).isNone then leStep s e ecc leEnd
  else if s.fld (LE_STAT_STATE e) ≠ 3 then s
  else match ecc with
    | .lostPrivate => engineFault s e 1
    | .lostTable => engineFault s e 2
    | _ => runEnd (s.when (ecc = .corrected) fun s => s.inc (LE_CNT_ECC_CORR e)) e

end Sys2Proof.Machine
end

