-- ==== Sys2Proof/Machine/ExecEngine.lean ====
section
/-! DEFINITION. The meanings of the commands of 07 Loop engines: one per row of the table. -/

namespace Sys2Proof.Machine

/-- ENGINE_ARM (R193): LE_CMD ARM in OFF starts the static check. -/
def execEngineArm (r : Requester) (e : Fin 32) (s : State) : Host.Outcome State Fault Refusal :=
  .next (settle s (regWr s r (0x40014000 + 0x20000 * e.val) fun s => engineArm s e))

/-- ENGINE_DISARM (R193): LE_CMD DISARM puts the engine into OFF at once or at the run's completion point. -/
def execEngineDisarm (r : Requester) (e : Fin 32) (s : State) : Host.Outcome State Fault Refusal :=
  .next (settle s (regWr s r (0x40014000 + 0x20000 * e.val) fun s => (engineDisarm s e, .OK)))

/-- ENGINE_STOP (R193): LE_CMD STOP enters OFF in the next cycle from any state. -/
def execEngineStop (r : Requester) (e : Fin 32) (s : State) : Host.Outcome State Fault Refusal :=
  .next (settle s (regWr s r (0x40014000 + 0x20000 * e.val) fun s => (engineStop s e, .OK)))

/-- ENGINE_SWAP (R208): LE_CMD.SWAP requests a coefficient bank swap. -/
def execEngineSwap (r : Requester) (e : Fin 32) (s : State) : Host.Outcome State Fault Refusal :=
  .next (settle s (regWr s r (0x40014000 + 0x20000 * e.val) fun s => (engineSwap s e, .OK)))

/-- CHECK_END (R206): The static check ends and the engine enters IDLE or returns to OFF. -/
def execCheckEnd (e : Fin 32) (s : State) : Host.Outcome State Fault Refusal :=
  .next (checkEnd s e)

/-- ENGINE_TRIGGER (R189): A trigger event, and the others of its cycle, start a run at its sample boundary. -/
def execEngineTrigger (e : Fin 32) (event : Fin 104) (others : BitVec 104) (fired : Time) (s : State) : Host.Outcome State Fault Refusal :=
  .next (settle s (triggerRun s e (setBit others.toNat event) fired.toNat))

/-- BUDGET_OVERRUN (R191): The charged-cycle counter reaches the declared worst case and the run is aborted. -/
def execBudgetOverrun (e : Fin 32) (s : State) : Host.Outcome State Fault Refusal :=
  .next (settle s (budgetOverrun s e))

/-- LE_NOP (R202): NOP does nothing. -/
def execLeNop (e : Fin 32) (ecc : Ecc) (s : State) : Host.Outcome State Fault Refusal :=
  .next (settle s (leStep s e ecc leNop))

/-- LE_LD (R202): LD loads a data-memory word. -/
def execLeLd (e : Fin 32) (ecc : Ecc) (s : State) : Host.Outcome State Fault Refusal :=
  .next (settle s (leStep s e ecc leLd))

/-- LE_LDS (R197): LDS loads a sample slot at the stage exponent and sets SV and SO. -/
def execLeLds (e : Fin 32) (ecc : Ecc) (s : State) : Host.Outcome State Fault Refusal :=
  .next (settle s (leStep s e ecc leLds))

/-- LE_LDC (R202): LDC loads a coefficient word. -/
def execLeLdc (e : Fin 32) (ecc : Ecc) (s : State) : Host.Outcome State Fault Refusal :=
  .next (settle s (leStep s e ecc leLdc))

/-- LE_LDT (R202): LDT loads a table entry through the engine's table-RAM slot. -/
def execLeLdt (e : Fin 32) (ecc : Ecc) (s : State) : Host.Outcome State Fault Refusal :=
  .next (settle s (leStep s e ecc leLdt))

/-- LE_LDI (R202): LDI loads an immediate. -/
def execLeLdi (e : Fin 32) (ecc : Ecc) (s : State) : Host.Outcome State Fault Refusal :=
  .next (settle s (leStep s e ecc leLdi))

/-- LE_ST (R202): ST stores a register into data memory. -/
def execLeSt (e : Fin 32) (ecc : Ecc) (s : State) : Host.Outcome State Fault Refusal :=
  .next (settle s (leStep s e ecc leSt))

/-- LE_STS (R197): STS stores a sample slot pair with flags, SE and the trigger time. -/
def execLeSts (e : Fin 32) (ecc : Ecc) (s : State) : Host.Outcome State Fault Refusal :=
  .next (settle s (leStep s e ecc leSts))

/-- LE_MOV (R202): MOV copies a register. -/
def execLeMov (e : Fin 32) (ecc : Ecc) (s : State) : Host.Outcome State Fault Refusal :=
  .next (settle s (leStep s e ecc leMov))

/-- LE_LDA (R202): LDA moves a scaled accumulator into a register. -/
def execLeLda (e : Fin 32) (ecc : Ecc) (s : State) : Host.Outcome State Fault Refusal :=
  .next (settle s (leStep s e ecc leLda))

/-- LE_LDP (R202): LDP loads a pointer. -/
def execLeLdp (e : Fin 32) (ecc : Ecc) (s : State) : Host.Outcome State Fault Refusal :=
  .next (settle s (leStep s e ecc leLdp))

/-- LE_ADDP (R202): ADDP adds to a pointer modulo 4,096. -/
def execLeAddp (e : Fin 32) (ecc : Ecc) (s : State) : Host.Outcome State Fault Refusal :=
  .next (settle s (leStep s e ecc leAddp))

/-- LE_ADD (R202): ADD adds two registers. -/
def execLeAdd (e : Fin 32) (ecc : Ecc) (s : State) : Host.Outcome State Fault Refusal :=
  .next (settle s (leStep s e ecc leAdd))

/-- LE_SUB (R202): SUB subtracts two registers. -/
def execLeSub (e : Fin 32) (ecc : Ecc) (s : State) : Host.Outcome State Fault Refusal :=
  .next (settle s (leStep s e ecc leSub))

/-- LE_NEG (R202): NEG negates a register. -/
def execLeNeg (e : Fin 32) (ecc : Ecc) (s : State) : Host.Outcome State Fault Refusal :=
  .next (settle s (leStep s e ecc leNeg))

/-- LE_ABS (R202): ABS takes the absolute value. -/
def execLeAbs (e : Fin 32) (ecc : Ecc) (s : State) : Host.Outcome State Fault Refusal :=
  .next (settle s (leStep s e ecc leAbs))

/-- LE_ADDW (R202): ADDW adds modulo 2^36. -/
def execLeAddw (e : Fin 32) (ecc : Ecc) (s : State) : Host.Outcome State Fault Refusal :=
  .next (settle s (leStep s e ecc leAddw))

/-- LE_MUL (R202): MUL multiplies two registers with shift K. -/
def execLeMul (e : Fin 32) (ecc : Ecc) (s : State) : Host.Outcome State Fault Refusal :=
  .next (settle s (leStep s e ecc leMul))

/-- LE_MULC (R202): MULC multiplies a register by a coefficient with shift K. -/
def execLeMulc (e : Fin 32) (ecc : Ecc) (s : State) : Host.Outcome State Fault Refusal :=
  .next (settle s (leStep s e ecc leMulc))

/-- LE_MULW (R202): MULW multiplies by a small integer modulo 2^36. -/
def execLeMulw (e : Fin 32) (ecc : Ecc) (s : State) : Host.Outcome State Fault Refusal :=
  .next (settle s (leStep s e ecc leMulw))

/-- LE_DIV (R202): DIV divides two mantissas. -/
def execLeDiv (e : Fin 32) (ecc : Ecc) (s : State) : Host.Outcome State Fault Refusal :=
  .next (settle s (leStep s e ecc leDiv))

/-- LE_ASH (R202): ASH shifts a register by K. -/
def execLeAsh (e : Fin 32) (ecc : Ecc) (s : State) : Host.Outcome State Fault Refusal :=
  .next (settle s (leStep s e ecc leAsh))

/-- LE_MIN (R202): MIN takes the smaller of two registers. -/
def execLeMin (e : Fin 32) (ecc : Ecc) (s : State) : Host.Outcome State Fault Refusal :=
  .next (settle s (leStep s e ecc leMin))

/-- LE_MAX (R202): MAX takes the larger of two registers. -/
def execLeMax (e : Fin 32) (ecc : Ecc) (s : State) : Host.Outcome State Fault Refusal :=
  .next (settle s (leStep s e ecc leMax))

/-- LE_CLAMP (R202): CLAMP limits a register and sets LIM on a change. -/
def execLeClamp (e : Fin 32) (ecc : Ecc) (s : State) : Host.Outcome State Fault Refusal :=
  .next (settle s (leStep s e ecc leClamp))

/-- LE_VLIM (R202): VLIM limits the magnitude of a vector. -/
def execLeVlim (e : Fin 32) (ecc : Ecc) (s : State) : Host.Outcome State Fault Refusal :=
  .next (settle s (leStep s e ecc leVlim))

/-- LE_MAC (R202): MAC accumulates a product. -/
def execLeMac (e : Fin 32) (ecc : Ecc) (s : State) : Host.Outcome State Fault Refusal :=
  .next (settle s (leStep s e ecc leMac))

/-- LE_MACC (R202): MACC accumulates a product with a coefficient. -/
def execLeMacc (e : Fin 32) (ecc : Ecc) (s : State) : Host.Outcome State Fault Refusal :=
  .next (settle s (leStep s e ecc leMacc))

/-- LE_MSU (R202): MSU subtracts a product from an accumulator. -/
def execLeMsu (e : Fin 32) (ecc : Ecc) (s : State) : Host.Outcome State Fault Refusal :=
  .next (settle s (leStep s e ecc leMsu))

/-- LE_MSUC (R202): MSUC subtracts a coefficient product from an accumulator. -/
def execLeMsuc (e : Fin 32) (ecc : Ecc) (s : State) : Host.Outcome State Fault Refusal :=
  .next (settle s (leStep s e ecc leMsuc))

/-- LE_CLRA (R202): CLRA clears an accumulator. -/
def execLeClra (e : Fin 32) (ecc : Ecc) (s : State) : Host.Outcome State Fault Refusal :=
  .next (settle s (leStep s e ecc leClra))

/-- LE_LDAM (R202): LDAM loads an accumulator from a mantissa. -/
def execLeLdam (e : Fin 32) (ecc : Ecc) (s : State) : Host.Outcome State Fault Refusal :=
  .next (settle s (leStep s e ecc leLdam))

/-- LE_ADDA (R202): ADDA adds a scaled mantissa to an accumulator. -/
def execLeAdda (e : Fin 32) (ecc : Ecc) (s : State) : Host.Outcome State Fault Refusal :=
  .next (settle s (leStep s e ecc leAdda))

/-- LE_NORM (R198): NORM sets the normalisation count NX. -/
def execLeNorm (e : Fin 32) (ecc : Ecc) (s : State) : Host.Outcome State Fault Refusal :=
  .next (settle s (leStep s e ecc leNorm))

/-- LE_STAGE (R198): STAGE sets a new stage exponent and rescales the registers in its mask. -/
def execLeStage (e : Fin 32) (ecc : Ecc) (s : State) : Host.Outcome State Fault Refusal :=
  .next (settle s (leStep s e ecc leStage))

/-- LE_CMP (R202): CMP compares two registers and sets LT and EQ. -/
def execLeCmp (e : Fin 32) (ecc : Ecc) (s : State) : Host.Outcome State Fault Refusal :=
  .next (settle s (leStep s e ecc leCmp))

/-- LE_SEL (R202): SEL selects one of two registers by a condition. -/
def execLeSel (e : Fin 32) (ecc : Ecc) (s : State) : Host.Outcome State Fault Refusal :=
  .next (settle s (leStep s e ecc leSel))

/-- LE_SKIP (R202): SKIP skips the next n instructions when its condition holds. -/
def execLeSkip (e : Fin 32) (ecc : Ecc) (s : State) : Host.Outcome State Fault Refusal :=
  .next (settle s (leStep s e ecc leSkip))

/-- LE_LOOP (R202): LOOP repeats a body a fixed number of times. -/
def execLeLoop (e : Fin 32) (ecc : Ecc) (s : State) : Host.Outcome State Fault Refusal :=
  .next (settle s (leStep s e ecc leLoop))

/-- LE_END (R190): END ends the run at its completion point and clears ORUN_SEQ. -/
def execLeEnd (e : Fin 32) (ecc : Ecc) (s : State) : Host.Outcome State Fault Refusal :=
  .next (settle s (endRun s e ecc))

/-- LE_EVT (R202): EVT stores a code in LE_EVT and may interrupt the owner. -/
def execLeEvt (e : Fin 32) (ecc : Ecc) (s : State) : Host.Outcome State Fault Refusal :=
  .next (settle s (leStep s e ecc leEvt))

/-- LE_SINCOS (R202): SINCOS forms the cosine and sine of an angle. -/
def execLeSincos (e : Fin 32) (ecc : Ecc) (s : State) : Host.Outcome State Fault Refusal :=
  .next (settle s (leStep s e ecc leSincos))

/-- LE_POLAR (R202): POLAR forms the magnitude and angle of a vector. -/
def execLePolar (e : Fin 32) (ecc : Ecc) (s : State) : Host.Outcome State Fault Refusal :=
  .next (settle s (leStep s e ecc lePolar))

/-- LE_CLARKE (R202): CLARKE forms alpha and beta from phase values. -/
def execLeClarke (e : Fin 32) (ecc : Ecc) (s : State) : Host.Outcome State Fault Refusal :=
  .next (settle s (leStep s e ecc leClarke))

/-- LE_PARK (R202): PARK rotates alpha-beta into d-q. -/
def execLePark (e : Fin 32) (ecc : Ecc) (s : State) : Host.Outcome State Fault Refusal :=
  .next (settle s (leStep s e ecc lePark))

/-- LE_IPARK (R202): IPARK rotates d-q into alpha-beta. -/
def execLeIpark (e : Fin 32) (ecc : Ecc) (s : State) : Host.Outcome State Fault Refusal :=
  .next (settle s (leStep s e ecc leIpark))

/-- LE_SVM (R203): SVM forms three space-vector duties. -/
def execLeSvm (e : Fin 32) (ecc : Ecc) (s : State) : Host.Outcome State Fault Refusal :=
  .next (settle s (leStep s e ecc leSvm))

/-- LE_TBL (R204): TBL interpolates a table entry through a descriptor. -/
def execLeTbl (e : Fin 32) (ecc : Ecc) (s : State) : Host.Outcome State Fault Refusal :=
  .next (settle s (leStep s e ecc leTbl))

/-- LE_COMMIT (R209): COMMIT sends one duty set for a group to island 32 in one class 1 transaction. -/
def execLeCommit (e : Fin 32) (ecc : Ecc) (s : State) : Host.Outcome State Fault Refusal :=
  .next (settle s (leStep s e ecc leCommit))

end Sys2Proof.Machine
end

