-- ==== Sys2Proof/Machine/ExecFabric.lean ====
section
/-! DEFINITION. The meanings of the commands of 17 The Amipen ring fabric: one per row of the table. -/

namespace Sys2Proof.Machine

/-- PORT_SIGNAL_DETECTED (R434): A receiver sees signal on a port that is not UP and training begins. -/
def execPortSignalDetected (p : Fin 4) (s : State) : Host.Outcome State Fault Refusal :=
  .next (portSignal s p)

/-- PORT_UP (R434): Training ends and the port becomes UP after 1 ms without code violations. -/
def execPortUp (p : Fin 4) (crossed : Bool) (delay : BitVec 12) (neighbour : Option (BitVec 10)) (fixed : Bool) (eq0 eq1 margin : BitVec 8) (s : State) :
    Host.Outcome State Fault Refusal :=
  .next (dozeWake s (portUp s p crossed delay.toNat (neighbour.map BitVec.toNat) fixed eq0.toNat eq1.toNat margin.toNat))

/-- TRAINING_TIMEOUT (R434): A port not UP within 100 ms starts training again. -/
def execTrainingTimeout (p : Fin 4) (s : State) : Host.Outcome State Fault Refusal :=
  .next (trainingTimeout s p)

/-- PORT_DOWN (R435): Code violations, idle loss or header errors take an UP port down. -/
def execPortDown (p : Fin 4) (x : PortLoss) (s : State) : Host.Outcome State Fault Refusal :=
  .next (dozeWake s (portDown s p x.violations x.cut))

/-- FRAGMENT_RECEIVED (R444): A fragment arrives and is stripped, dropped or forwarded, and at LAST delivered or routed. -/
def execFragmentReceived (p : Fin 4) (bytes : List Byte) (bad : Bool) (s : State) : Host.Outcome State Fault Refusal :=
  .next (fragmentReceived s p bytes bad)

/-- DATA_FRAME (R457): A delivered DATA frame is written to the receive queue of its class. -/
def execDataFrame (s : State) : Host.Outcome State Fault Refusal :=
  .next (dozeWake s (dataFrame s))

/-- FJOP_FABRIC_FRAME (R458): A delivered FJOP frame goes to its fabric receive connection. -/
def execFjopFabricFrame (s : State) : Host.Outcome State Fault Refusal :=
  .next (settle s (fjopFabric s))

/-- FABRIC_TIME_FRAME (R453): A TIME frame updates the ring-time offset and rate. -/
def execFabricTimeFrame (p : Fin 4) (estimate : Time) (hops : BitVec 5) (s : State) : Host.Outcome State Fault Refusal :=
  .next (dozeWake s (fabTime s p estimate.toNat hops.toNat))

/-- DISC_FRAME (R440): A DISC token assigns or keeps a station number and is forwarded. -/
def execDiscFrame (p : Fin 4) (ring next : Fin 32) (west : Bool) (anchor : Nat) (s : State) :
    Host.Outcome State Fault Refusal :=
  .next (dozeWake s (discFrame s p ring next west anchor))

/-- ROSTER_FRAME (R440): A ROSTER makes the addresses final or provisional. -/
def execRosterFrame (p : Fin 4) (ring : Fin 32) (stations : BitVec 32) (provisional : Bool) (s : State) :
    Host.Outcome State Fault Refusal :=
  .next (rosterFrame s p ring stations.toNat provisional)

/-- ANNOUNCE_FRAME (R446): An ANNOUNCE resets the source's duplicate window and may reveal an address conflict. -/
def execAnnounceFrame (p : Fin 4) (src : BitVec 10) (id hops : Nat) (east west : Bool) (s : State) :
    Host.Outcome State Fault Refusal :=
  .next (dozeWake s (announceFrame s p src.toNat id hops east west))

/-- STATUS_FRAME (R452): A STATUS frame updates the ring's port states and LINK_FAULTS. -/
def execStatusFrame (p : Fin 4) (src : BitVec 10) (east west : Bool) (s : State) : Host.Outcome State Fault Refusal :=
  .next (statusFrame s p src.toNat east west)

/-- DISCOVERY_TIMEOUT (R440): No DISC back within 100 ms makes the anchor walk west. -/
def execDiscoveryTimeout (pair : Fin 2) (s : State) : Host.Outcome State Fault Refusal :=
  .next (discoveryTimeout s pair)

/-- ROSTER_TIMER (R440): 20 ms without a new ANNOUNCE makes the anchor send the ROSTER. -/
def execRosterTimer (pair : Fin 2) (s : State) : Host.Outcome State Fault Refusal :=
  .next (rosterTimer s pair)

/-- TIME_FRAME_TIMER (R453): Every 1 ms a station sends a TIME frame on each UP port. -/
def execTimeFrameTimer (s : State) : Host.Outcome State Fault Refusal :=
  .next (timeTimer s)

/-- RING_TIME_TIMEOUT (R453): 10 ms without a TIME frame clears TIME_VALID. -/
def execRingTimeTimeout (pair : Fin 2) (s : State) : Host.Outcome State Fault Refusal :=
  .next (dozeWake s (ringTimeTimeout s pair))

/-- STATUS_FRAME_TIMER (R437): Every 10 ms a station sends a STATUS frame. -/
def execStatusFrameTimer (s : State) : Host.Outcome State Fault Refusal :=
  .next (statusTimer s)

/-- ADMISSION_RELEASE (R448): A held class 0 frame becomes admissible after 50 µs and is sent. -/
def execAdmissionRelease (pair : Fin 2) (s : State) : Host.Outcome State Fault Refusal :=
  .next (admissionRelease s pair)

/-- FAB_TXQ_TAIL (R455): A write of FAB_TXQ_TAIL hands transmit descriptors to the device. -/
def execFabTxqTail (r : Requester) (c : Fin 3) (data : Word) (s : State) : Host.Outcome State Fault Refusal :=
  .next (settle s (regWr s r (0x60088308 + 0x20 * c.val) fun s => txqTail s c (data.toNat % 2 ^ 10)))

/-- FABRIC_TX_COMPLETE (R455): The later copy's last fragment leaves and STATUS and DONE are written. -/
def execFabricTxComplete (c : Fin 3) (waited : Word) (s : State) : Host.Outcome State Fault Refusal :=
  .next (dozeWake s (txComplete s c waited.toNat))

/-- FAB_RXQ_ACK (R457): A write of FAB_RXQ_ACK releases receive entries. -/
def execFabRxqAck (r : Requester) (c : Fin 3) (data : Word) (s : State) : Host.Outcome State Fault Refusal :=
  .next (settle s (regWr s r (0x6008831C + 0x20 * c.val) fun s => (rxqAck s c (data.toNat % 2 ^ 8), .OK)))

/-- FAB_WAKE_COMMAND (R459): FAB_CMD.WAKE sends a wake burst out of every UP port. -/
def execFabWakeCommand (r : Requester) (s : State) : Host.Outcome State Fault Refusal :=
  .next (settle s (regWr s r 0x60088008 fun s => (fabWake s, .OK)))

/-- FABRIC_WAKE_BURST (R459): A wake burst of at least 20 µs on a lane wakes the device. -/
def execFabricWakeBurst (_p : Fin 4) (s : State) : Host.Outcome State Fault Refusal :=
  .next (settle s (fabricWake s))

end Sys2Proof.Machine
end

