-- ==== Sys2Proof/Machine/ExecHost.lean ====
section
/-! DEFINITION. The meanings of the commands of 16 Host rings, commands and the firing log: one per row of the table. -/

namespace Sys2Proof.Machine

/-- SQ_TAIL_DOORBELL (R403): A write of SQ_TAIL hands submission entries to the device. -/
def execSqTailDoorbell (ring : Fin 32) (value : BitVec 16) (s : State) : Host.Outcome State Fault Refusal :=
  .next (settle s (bellWake (sqTail s ring value.toNat)))

/-- CQ_HEAD_DOORBELL (R403): A write of CQ_HEAD returns completion entries to the device. -/
def execCqHeadDoorbell (ring : Fin 32) (value : BitVec 16) (s : State) : Host.Outcome State Fault Refusal :=
  .next (settle s (bellWake (headDoorbell s ring value.toNat)))

/-- TLM_HEAD_DOORBELL (R403): A write of TLM_HEAD returns telemetry records. -/
def execTlmHeadDoorbell (value : BitVec 16) (s : State) : Host.Outcome State Fault Refusal :=
  .next (settle s (bellWake (headDoorbell s 32 value.toNat)))

/-- EVT_HEAD_DOORBELL (R403): A write of EVT_HEAD returns event records. -/
def execEvtHeadDoorbell (value : BitVec 16) (s : State) : Host.Outcome State Fault Refusal :=
  .next (settle s (bellWake (headDoorbell s 33 value.toNat)))

/-- DESCRIPTOR_FETCH (R407): A fetched descriptor is checked against NEXT_SEQ and accepted or completed with SEQ_ERROR. -/
def execDescriptorFetch (ring : Fin 32) (desc : BitVec 256) (s : State) : Host.Outcome State Fault Refusal :=
  .next (descriptorFetch s ring desc)

/-- ACCEPTANCE_COMMITTED (R421): The acceptance record is committed to the firing log and the command may start. -/
def execAcceptanceCommitted (ring : Fin 32) (s : State) : Host.Outcome State Fault Refusal :=
  .next (acceptanceCommitted s ring)

/-- COMMAND_START (R408): A command is handed to its home island in SEQ order. -/
def execCommandStart (ring : Fin 32) (s : State) : Host.Outcome State Fault Refusal :=
  .next (commandStart s ring)

/-- NOT_BEFORE_REACHED (R408): Module time reaches NOT_BEFORE and the waiting command may start. -/
def execNotBeforeReached (ring : Fin 32) (s : State) : Host.Outcome State Fault Refusal :=
  .next (notBefore s ring)

/-- NOT_AFTER_EXPIRY (R408): A command not started by NOT_AFTER completes with EXPIRED. -/
def execNotAfterExpiry (ring : Fin 32) (s : State) : Host.Outcome State Fault Refusal :=
  .next (notAfter s ring)

/-- COMMAND_COMPLETION (R409): A command reaches its completion point, its closure is logged and its completion record is
written. -/
def execCommandCompletion (s : State) : Host.Outcome State Fault Refusal :=
  .next (commandCompletion s)

/-- IRQ_GAP_EXPIRY (R410): The IRQ_GAP ends and pending records are announced. -/
def execIrqGapExpiry (k : Fin 34) (s : State) : Host.Outcome State Fault Refusal :=
  .next (irqGapExpiry s k)

/-- DMA_ERROR (R402): A DMA that ends in error or a 50 ms timeout stops its ring. -/
def execDmaError (k : Fin 34) (reason : Byte) (s : State) : Host.Outcome State Fault Refusal :=
  .next (dmaError s k reason.toNat)

/-- BUS_MASTER_DISABLE (R402): Bus Master Enable cleared or D3hot stops fetches, host writes and MSI-X. -/
def execBusMasterDisable (s : State) : Host.Outcome State Fault Refusal :=
  .next (setBusMaster s false)

/-- RING_RESET_WRITE (R415): HOST_R_CTRL.RESET resets the ring indices and closes unstarted commands with RING_RESET. -/
def execRingResetWrite (r : Requester) (ring : Fin 32) (s : State) : Host.Outcome State Fault Refusal :=
  .next (settle s (regWr s r (0x60078100 + 0x40 * ring.val) fun s => if s.perst then (s, .OK) else (ringReset s ring, .OK)))

/-- HOST_START_COLD (R415): A write of HOST_START KIND = COLD begins a cold start. -/
def execHostStartCold (r : Requester) (s : State) : Host.Outcome State Fault Refusal :=
  .next (settle s (regWr s r 0x60078008 fun s => hostStart s 1))

/-- HOST_START_WARM (R415): A write of HOST_START KIND = WARM begins a warm start, or gets START_IN_PROGRESS. -/
def execHostStartWarm (r : Requester) (s : State) : Host.Outcome State Fault Refusal :=
  .next (settle s (regWr s r 0x60078008 fun s => hostStart s 2))

/-- TELEMETRY_READ (R418): Every PERIOD an item is read and at most one record or stale record is written. -/
def execTelemetryRead (item : Fin 256) (torn : Bool) (s : State) : Host.Outcome State Fault Refusal :=
  .next (telemetryRead s item torn)

/-- JNL_WINDOW_SELECT (R431): A write of JNL_WIN_IDX shows the named firing-log record in the window. -/
def execJnlWindowSelect (r : Requester) (index : Word) (s : State) : Host.Outcome State Fault Refusal :=
  .next (settle s (regWr s r 0x60080010 fun s => (windowSelect s index.toNat, .OK)))

/-- PERST_RELEASE (R402): PERST_N is released, and island 37 leaves reset with the host rings reset. -/
def execPerstRelease (s : State) : Host.Outcome State Fault Refusal :=
  .next (perstRelease s)

/-- BUS_MASTER_ENABLE (R402): Bus Master Enable is set again, or the function returns to D0, and the device resumes fetching,
writes its held completion records and issues MSI-X messages. -/
def execBusMasterEnable (s : State) : Host.Outcome State Fault Refusal :=
  .next (setBusMaster s true)

/-- PCIE_LINK_UP (R415): The PCIe link finishes training and comes up, and ring fetching resumes, for example after a wake from
RETAIN. -/
def execPcieLinkUp (speed width : Fin 4) (s : State) : Host.Outcome State Fault Refusal :=
  .next (linkUp s speed width)

end Sys2Proof.Machine
end

