-- ==== Sys2Proof/Machine/ExecLink.lean ====
section
/-! DEFINITION. The meanings of the commands of 04 Gate satellites and LV leg drivers: frames: one per row of the table. -/

namespace Sys2Proof.Machine

/-- TIME_FRAME (R112): A satellite receives a TIME frame and corrects its copy of module time. -/
def execTimeFrame (l : Fin 60) (f : BitVec 40) (s : State) : Host.Outcome State Fault Refusal :=
  .next (onDown s l f 0 fun s => takeTime s l (bodyBits f 31 8))

/-- EDGE_FRAME (R113): A satellite receives an EDGE frame and schedules it, after its sequence and lateness checks. -/
def execEdgeFrame (n : Fin 48) (f : BitVec 40) (s : State) : Host.Outcome State Fault Refusal :=
  .next (onDown s n f 1 fun s => takeEdge s n f)

/-- TRANSITION_FRAME (R132): An LV leg driver receives a TRANSITION frame and schedules the off-edge and the delayed on-edge. -/
def execTransitionFrame (k : Fin 12) (f : BitVec 40) (s : State) : Host.Outcome State Fault Refusal :=
  .next (onDown s (48 + k) f 1 fun s => takeTransition s (48 + k) f)

/-- CUT_FRAME (R109): A satellite or driver receives a CUT frame, turns off through its off path and cancels its pending
on-edges. -/
def execCutFrame (l : Fin 60) (f : BitVec 40) (s : State) : Host.Outcome State Fault Refusal :=
  .next (onDown s l f 2 fun s => takeCut s l)

/-- DTSET_FRAME (R132): An LV leg driver receives a DTSET frame and takes the dead time for later transitions. -/
def execDtsetFrame (k : Fin 12) (f : BitVec 40) (s : State) : Host.Outcome State Fault Refusal :=
  .next (onDown s (48 + k) f 3 fun s => takeDtset s (48 + k) f)

/-- CFG_WR_FRAME (R109): A satellite or driver receives a CFG_WR frame and writes its configuration. -/
def execCfgWrFrame (l : Fin 60) (f : BitVec 40) (s : State) : Host.Outcome State Fault Refusal :=
  .next (onDown s l f 4 fun s => takeCfgWr s l f)

/-- CFG_RD_FRAME (R109): A satellite or driver receives a CFG_RD frame and answers with CFG_DATA. -/
def execCfgRdFrame (l : Fin 60) (f : BitVec 40) (s : State) : Host.Outcome State Fault Refusal :=
  .next (onDown s l f 5 fun s => takeCfgRd s l f)

/-- CLEAR_FRAME (R121): A satellite receives CLEAR and accepts or refuses the clear of its fault latch in an ALIVE answer. -/
def execClearFrame (l : Fin 60) (f : BitVec 40) (s : State) : Host.Outcome State Fault Refusal :=
  .next (onDown s l f 6 fun s => takeClear s l)

/-- CAL_FRAME (R114): A satellite receives a CAL frame and answers with CAL_ECHO. -/
def execCalFrame (l : Fin 60) (f : BitVec 40) (s : State) : Host.Outcome State Fault Refusal :=
  .next (onDown s l f 7 fun s => s.up l 6 0)

/-- RESUME_FRAME (R124): A channel in ARMED receives RESUME and enters RUN. -/
def execResumeFrame (l : Fin 60) (f : BitVec 40) (s : State) : Host.Outcome State Fault Refusal :=
  .next (onDown s l f 8 fun s => takeResume s l)

/-- IDENT_REQ_FRAME (R109): A satellite receives IDENT_REQ and answers with two IDENT frames. -/
def execIdentReqFrame (l : Fin 60) (f : BitVec 40) (s : State) : Host.Outcome State Fault Refusal :=
  .next (onDown s l f 9 fun s => takeIdentReq s l)

/-- ALIVE_FRAME (R110): Island 32 receives ALIVE and updates the state, the latch and the permit report of the channel. -/
def execAliveFrame (l : Fin 60) (f : BitVec 40) (s : State) : Host.Outcome State Fault Refusal :=
  .next (settle s (onUp s l f 0 fun s => takeAlive s l f))

/-- TREPORT_FRAME (R90): Island 32 receives a transition report for the next dead-time step. -/
def execTreportFrame (l : Fin 60) (f : BitVec 40) (s : State) : Host.Outcome State Fault Refusal :=
  .next (onUp s l f 1 fun s => takeTreport s l f)

/-- FAULT_FRAME (R122): Island 32 receives FAULT, makes the fault summary active and delivers the report to the Saggar. -/
def execFaultFrame (l : Fin 60) (f : BitVec 40) (s : State) : Host.Outcome State Fault Refusal :=
  .next (settle s (onUp s l f 2 fun s => faultArrives s l f))

/-- CFG_DATA_FRAME (R110): Island 32 receives CFG_DATA in answer to a read. -/
def execCfgDataFrame (l : Fin 60) (f : BitVec 40) (s : State) : Host.Outcome State Fault Refusal :=
  .next (onUp s l f 3 fun s => takeCfgData s l f)

/-- MEAS_FRAME (R129): Island 32 receives an NTC, die temperature or baseline measurement with its sample time. -/
def execMeasFrame (l : Fin 60) (f : BitVec 40) (s : State) : Host.Outcome State Fault Refusal :=
  .next (dozeWake s (onUp s l f 4 fun s => measSample s l f))

/-- XREFUSE_FRAME (R94): Island 32 receives a cross-link refusal, sets XLINK_REFUSE and reissues a consistent edge set. -/
def execXrefuseFrame (l : Fin 60) (f : BitVec 40) (s : State) : Host.Outcome State Fault Refusal :=
  .next (onUp s l f 5 fun s => takeXrefuse s l f)

/-- CAL_ECHO_FRAME (R114): Island 32 receives CAL_ECHO and takes the round-trip time. -/
def execCalEchoFrame (l : Fin 60) (f : BitVec 40) (roundTrip : Nat) (s : State) : Host.Outcome State Fault Refusal :=
  .next (onUp s l f 6 fun s => takeCalEcho s l roundTrip)

/-- IDENT_FRAME (R110): Island 32 receives one half of a satellite identity. -/
def execIdentFrame (l : Fin 60) (f : BitVec 40) (s : State) : Host.Outcome State Fault Refusal :=
  .next (onUp s l f 7 fun s => takeIdent s l f)

/-- DOWN_LINK_IDLE (R111): The down direction of a link is idle for 1 µs and island 32 sends a TIME frame. -/
def execDownLinkIdle (l : Fin 60) (s : State) : Host.Outcome State Fault Refusal :=
  .next (downIdle s l)

/-- UP_LINK_IDLE (R111): The up direction is idle for 1 µs and the satellite or driver sends ALIVE. -/
def execUpLinkIdle (l : Fin 60) (s : State) : Host.Outcome State Fault Refusal :=
  .next (upIdle s l)

/-- DOWN_LINK_SILENT (R111): A satellite sees no valid frame for 2 µs and applies its orphan policy. -/
def execDownLinkSilent (l : Fin 60) (s : State) : Host.Outcome State Fault Refusal :=
  .next (downSilent s l)

/-- UP_LINK_SILENT (R111): Island 32 sees no valid up frame for 2 µs on a link. -/
def execUpLinkSilent (l : Fin 60) (s : State) : Host.Outcome State Fault Refusal :=
  .next (upSilent s l)

/-- LINK_CALIBRATION (R116): Every 10 ms island 32 recalibrates a link and moves its applied delay by at most 1 tap, or sets
CAL_JUMP. -/
def execLinkCalibration (l : Fin 60) (roundTrip : Nat) (s : State) : Host.Outcome State Fault Refusal :=
  .next (dozeWake s (linkCalibration s l roundTrip))

end Sys2Proof.Machine
end

