-- ==== Sys2Proof/Machine/ExecMeasure.lean ====
section
/-! DEFINITION. The meanings of the commands of 05 Converters and modulator inputs, 06 Position and speed feedback: one per row of the table. -/

namespace Sys2Proof.Machine

/-- ADC_ENABLE (R142): Setting ADC_CTRL.EN enables the converter and starts the first sequence in continuous mode. -/
def execAdcEnable (r : Requester) (n : Fin 32) (data : Word) (s : State) : Host.Outcome State Fault Refusal :=
  .next (settle s (regWr s r (0x60018000 + 0x100 * n.val) fun s => adcCtrlWrite s n (setBit data.toNat 0)))

/-- ADC_DISABLE (R145): Clearing ADC_CTRL.EN lets the conversion in progress finish and starts nothing further. -/
def execAdcDisable (r : Requester) (n : Fin 32) (data : Word) (s : State) : Host.Outcome State Fault Refusal :=
  .next (settle s (regWr s r (0x60018000 + 0x100 * n.val) fun s => adcCtrlWrite s n (clearBit data.toNat 0)))

/-- ADC_SW_START (R142): ADC_SWREQ.START starts a sequence, or is counted as an overrun. -/
def execAdcSwStart (r : Requester) (n : Fin 32) (s : State) : Host.Outcome State Fault Refusal :=
  .next (settle s (regWr s r (0x60018020 + 0x100 * n.val) fun s => (adcSwreq s n 1, .OK)))

/-- ADC_TRIGGER_EVENT (R142): The subscribed event starts a sequence, or is counted as an overrun. -/
def execAdcTriggerEvent (n : Fin 32) (s : State) : Host.Outcome State Fault Refusal :=
  .next (dozeWake s (adcTrigger s n))

/-- ADC_SW_URGENT (R146): ADC_SWREQ.URG requests an urgent conversion, which may abort the running entry. -/
def execAdcSwUrgent (r : Requester) (n : Fin 32) (s : State) : Host.Outcome State Fault Refusal :=
  .next (settle s (regWr s r (0x60018020 + 0x100 * n.val) fun s => (adcSwreq s n 2, .OK)))

/-- ADC_URGENT_EVENT (R146): The urgent event requests an urgent conversion under the abort rules. -/
def execAdcUrgentEvent (n : Fin 32) (s : State) : Host.Outcome State Fault Refusal :=
  .next (adcUrgentEvt s n)

/-- CONVERSION_END (R146): An entry or urgent conversion reaches its completion point, writes its slot and mirror, and the next
entry begins. -/
def execConversionEnd (n : Fin 32) (microvolts : Nat) (s : State) : Host.Outcome State Fault Refusal :=
  .next (dozeWake s (conversionEnd s n microvolts))

/-- COMPARATOR_WATCH_EXPIRY (R148): No completed result of the watched entry for WATCH × 10 µs drives the comparator active and
sets WATCH_EXP. -/
def execComparatorWatchExpiry (n : Fin 32) (s : State) : Host.Outcome State Fault Refusal :=
  .next (dozeWake s (cmpWatch s n))

/-- MODULATOR_OUTPUT (R151): A sinc3 output is formed at its module time, and its slot and mirror are written. -/
def execModulatorOutput (k : Fin 24) (rising falling : BitVec 256) (s : State) : Host.Outcome State Fault Refusal :=
  .next (settle s (modulatorOutput s k rising.toNat falling.toNat))

/-- MOD_STUCK (R155): A modulator pin held at one level for 64 MCLK periods sets STUCK. -/
def execModStuck (k : Fin 24) (s : State) : Host.Outcome State Fault Refusal :=
  .next (dozeWake s (modStuck s k))

/-- MIRROR_RECORD_READ (R158): A low-half read of a mirror mantissa latches the record and evaluates STALE. -/
def execMirrorRecordRead (r : Requester) (addr : Word) (s : State) : Host.Outcome State Fault Refusal :=
  .next (readOut s r 4 addr.toNat)

/-- FB_ENABLE (R174): Setting FB_CFG.EN enables a feedback interface and claims the urgent conversions of a resolver. -/
def execFbEnable (r : Requester) (n : Fin 8) (data : Word) (s : State) : Host.Outcome State Fault Refusal :=
  .next (settle s (regWr s r (0x60028000 + 0x100 * n.val) fun s => fbCfg s n (setBit data.toNat 0)))

/-- FB_DISABLE (R182): Clearing FB_CFG.EN clears CNT, ACC, runs and latches. -/
def execFbDisable (r : Requester) (n : Fin 8) (data : Word) (s : State) : Host.Outcome State Fault Refusal :=
  .next (settle s (regWr s r (0x60028000 + 0x100 * n.val) fun s => fbCfg s n (clearBit data.toNat 0)))

/-- QUADRATURE_EDGE (R170): A filtered A or B edge steps the counters, or is an illegal transition that sets QERR. -/
def execQuadratureEdge (n : Fin 8) (a b : Bool) (s : State) : Host.Outcome State Fault Refusal :=
  .next (dozeWake s (quadEdge s n a b))

/-- HALL_STATE_CHANGE (R171): A filtered Hall state change steps the counters, or sets HALL_ERR. -/
def execHallStateChange (n : Fin 8) (h : BitVec 3) (s : State) : Host.Outcome State Fault Refusal :=
  .next (dozeWake s (hallChange s n h.toNat))

/-- INDEX_PULSE (R167): A qualified index sets IDX_EVT, captures latch set 2 and may load CNT. -/
def execIndexPulse (n : Fin 8) (s : State) : Host.Outcome State Fault Refusal :=
  .next (dozeWake s (indexPulse s n))

/-- FB_ARM (R167): A write of FB_ARM.ARM arms the load of CNT at the next index. -/
def execFbArm (r : Requester) (n : Fin 8) (s : State) : Host.Outcome State Fault Refusal :=
  .next (settle s (regWr s r (0x6002800C + 0x100 * n.val) fun s => (fbArm s n, .OK)))

/-- FB_SET (R168): A write of FB_SET loads CNT and clears POS_DOUBT. -/
def execFbSet (r : Requester) (n : Fin 8) (data : Word) (s : State) : Host.Outcome State Fault Refusal :=
  .next (settle s (regWr s r (0x60028010 + 0x100 * n.val) fun s => (loadCnt s n data.toNat, .OK)))

/-- SSI_FRAME_START (R172): The SSI event starts a frame, or the start is refused and counted. -/
def execSsiFrameStart (n : Fin 8) (datHigh : Bool) (s : State) : Host.Outcome State Fault Refusal :=
  .next (ssiStart s n datHigh)

/-- SSI_FRAME_END (R173): An SSI frame ends, and a good frame updates the counters or an error counts toward FAULT. -/
def execSsiFrameEnd (n : Fin 8) (bits : BitVec 48) (checkLow : Bool) (s : State) : Host.Outcome State Fault Refusal :=
  .next (dozeWake s (ssiEnd s n bits.toNat checkLow))

/-- RESOLVER_REQUEST (R174): At k × PER + PK_DLY the interface requests urgent conversions on both claimed converters. -/
def execResolverRequest (n : Fin 8) (s : State) : Host.Outcome State Fault Refusal :=
  .next (resolverRequest s n)

/-- RESOLVER_UPDATE (R174): Both resolver conversions are in, and the tracking loop updates the angle and speed. -/
def execResolverUpdate (n : Fin 8) (s : State) : Host.Outcome State Fault Refusal :=
  .next (dozeWake s (resolverUpdate s n))

/-- EVENT_LATCH (R175): The subscribed event captures latch set 0. -/
def execEventLatch (n : Fin 8) (s : State) : Host.Outcome State Fault Refusal :=
  .next (dozeWake s (eventLatch s n))

/-- PIN_LATCH (R175): A filtered FBn_LAT edge captures latch set 1. -/
def execPinLatch (n : Fin 8) (rising : Bool) (s : State) : Host.Outcome State Fault Refusal :=
  .next (dozeWake s (pinLatch s n rising))

/-- STANDSTILL_TIMEOUT (R176): No step for STOP_T ends the run, sets speed 0 and sets STILL. -/
def execStandstillTimeout (n : Fin 8) (s : State) : Host.Outcome State Fault Refusal :=
  .next (standstill s n)

/-- FEEDBACK_SLOT_WRITE (R178): The slot event writes the position and speed slots to the engine. -/
def execFeedbackSlotWrite (x : SlotEvent) (s : State) : Host.Outcome State Fault Refusal :=
  .next (fbSlot s x.n x.ago)

/-- FB_CNT_READ (R179): A read of FB_CNT latches the interface's values and evaluates STALE. -/
def execFbCntRead (r : Requester) (n : Fin 8) (s : State) : Host.Outcome State Fault Refusal :=
  .next (readOut s r 4 (0x60028014 + 0x100 * n.val))

/-- EMULATOR_EDGE (R180): The encoder emulator moves one quadrature edge toward its target. -/
def execEmulatorEdge (m : Fin 4) (s : State) : Host.Outcome State Fault Refusal :=
  .next (emulatorEdge s m)

end Sys2Proof.Machine
end

