-- ==== Sys2Proof/Machine/ExecMotor.lean ====
section
/-! DEFINITION. The meanings of the commands of 09 Actuator motors, 10 Auxiliary converters: one per row of the table. -/

namespace Sys2Proof.Machine

/-- ACTUATOR_ENABLE (R244): A write of ACT_CFG.EN = 1 enables an actuator slot with all legs floating, or is refused. -/
def execActuatorEnable (r : Requester) (m : Fin 4) (data : Word) (s : State) : Host.Outcome State Fault Refusal :=
  .next (settle s (regWr s r (0x60040000 + 0x80 * m.val) fun s => actCfgWrite s m (setBit data.toNat 0)))

/-- ACTUATOR_DISABLE (R251): Clearing ACT_CFG.EN floats all phases and enters OFF. -/
def execActuatorDisable (r : Requester) (m : Fin 4) (data : Word) (s : State) : Host.Outcome State Fault Refusal :=
  .next (settle s (regWr s r (0x60040000 + 0x80 * m.val) fun s => actCfgWrite s m (clearBit data.toNat 0)))

/-- ACTUATOR_SAMPLE (R248): A converter done event gives a motor sample and the zero crossings are evaluated. -/
def execActuatorSample (m : Fin 4) (s : State) : Host.Outcome State Fault Refusal :=
  .next (settle s (actSample s m))

/-- COMMUTATION (R249): The commutation instant is reached and the next step is committed. -/
def execCommutation (m : Fin 4) (s : State) : Host.Outcome State Fault Refusal :=
  .next (commutation s m)

/-- ACT_RUN (R252): ACT_CMD RUN in IDLE starts an attempt, or is refused. -/
def execActRun (r : Requester) (m : Fin 4) (s : State) : Host.Outcome State Fault Refusal :=
  .next (settle s (regWr s r (0x60040024 + 0x80 * m.val) fun s => actCmdWrite s m 1))

/-- ACT_STOP (R255): ACT_CMD STOP enters STOPPING, or floats all phases and enters IDLE. -/
def execActStop (r : Requester) (m : Fin 4) (s : State) : Host.Outcome State Fault Refusal :=
  .next (settle s (regWr s r (0x60040024 + 0x80 * m.val) fun s => actCmdWrite s m 2))

/-- ACT_FLOAT (R255): ACT_CMD FLOAT floats all phases and enters IDLE. -/
def execActFloat (r : Requester) (m : Fin 4) (s : State) : Host.Outcome State Fault Refusal :=
  .next (settle s (regWr s r (0x60040024 + 0x80 * m.val) fun s => actCmdWrite s m 3))

/-- ACT_CLR (R260): ACT_CMD.CLR leaves FAULT for IDLE, or is refused while the cause persists. -/
def execActClr (r : Requester) (m : Fin 4) (s : State) : Host.Outcome State Fault Refusal :=
  .next (settle s (regWr s r (0x60040024 + 0x80 * m.val) fun s => actCmdWrite s m 16))

/-- ALIGN_END (R252): ALIGN_T elapses and the ramp of forced steps begins. -/
def execAlignEnd (m : Fin 4) (s : State) : Host.Outcome State Fault Refusal :=
  .next (settle s (alignEnd s m))

/-- FORCED_STEP (R252): The forced step interval elapses and the next forced step is applied. -/
def execForcedStep (m : Fin 4) (s : State) : Host.Outcome State Fault Refusal :=
  .next (forcedStep s m)

/-- RAMP_TIMEOUT (R252): RAMP_T elapses without lock and the attempt fails with NO_LOCK. -/
def execRampTimeout (m : Fin 4) (s : State) : Host.Outcome State Fault Refusal :=
  .next (settle s (rampTimeout s m))

/-- RETRY_WAIT_END (R252): RETRY_WAIT elapses and the next attempt begins. -/
def execRetryWaitEnd (m : Fin 4) (s : State) : Host.Outcome State Fault Refusal :=
  .next (settle s (retryWaitEnd s m))

/-- SPEED_LOOP_TICK (R254): Every 1 ms in CLOSED the target ramps and the speed loop commits a duty. -/
def execSpeedLoopTick (m : Fin 4) (s : State) : Host.Outcome State Fault Refusal :=
  .next (settle s (speedLoopTick s m))

/-- LISTEN_TIMEOUT (R258): 50 ms in LISTEN without a catch raises NOT_CAUGHT and enters COAST. -/
def execListenTimeout (m : Fin 4) (s : State) : Host.Outcome State Fault Refusal :=
  .next (settle s (listenTimeout s m))

/-- BELOW_RESTART (R258): Line differences within BEMF_LOW for 10 ms raise BELOW_RESTART and begin an attempt. -/
def execBelowRestart (m : Fin 4) (s : State) : Host.Outcome State Fault Refusal :=
  .next (settle s (belowRestart s m))

/-- COAST_TIMEOUT (R258): 10 s in COAST enters FAULT with COAST_TIMEOUT. -/
def execCoastTimeout (m : Fin 4) (s : State) : Host.Outcome State Fault Refusal :=
  .next (settle s (coastTimeout s m))

/-- ACT_EVENT_POP (R263): A read of ACT_EVT pops the oldest event and latches its time. -/
def execActEventPop (r : Requester) (m : Fin 4) (s : State) : Host.Outcome State Fault Refusal :=
  .next (readOut s r 4 (0x60040038 + 0x80 * m.val))

/-- CONVERTER_ENABLE (R266): A write of CNV_C_CFG.EN = 1 enables a converter slot with every leg floated, or is refused. -/
def execConverterEnable (r : Requester) (m : Fin 4) (data : Word) (s : State) : Host.Outcome State Fault Refusal :=
  .next (settle s (regWr s r (0x60048000 + 0x80 * m.val) fun s => cnvCfgWrite s m (setBit data.toNat 0)))

/-- CONVERTER_DISABLE (R269): Clearing CNV_C_CFG.EN floats every leg and enters OFF. -/
def execConverterDisable (r : Requester) (m : Fin 4) (data : Word) (s : State) : Host.Outcome State Fault Refusal :=
  .next (settle s (regWr s r (0x60048000 + 0x80 * m.val) fun s => cnvCfgWrite s m (clearBit data.toNat 0)))

/-- CNV_START (R270): CNV_C_CMD START in IDLE enters SOFT_START, or is refused. -/
def execCnvStart (r : Requester) (m : Fin 4) (s : State) : Host.Outcome State Fault Refusal :=
  .next (settle s (regWr s r (0x60048024 + 0x80 * m.val) fun s => cnvCmdWrite s m 1))

/-- CNV_STOP (R270): CNV_C_CMD STOP floats every leg and enters IDLE. -/
def execCnvStop (r : Requester) (m : Fin 4) (s : State) : Host.Outcome State Fault Refusal :=
  .next (settle s (regWr s r (0x60048024 + 0x80 * m.val) fun s => cnvCmdWrite s m 2))

/-- CNV_CLR (R282): CNV_C_CMD.CLR leaves FAULT for IDLE, or is refused while the cause persists. -/
def execCnvClr (r : Requester) (m : Fin 4) (s : State) : Host.Outcome State Fault Refusal :=
  .next (settle s (regWr s r (0x60048024 + 0x80 * m.val) fun s => cnvCmdWrite s m 16))

/-- SOFT_START_RAMP_STEP (R271): Every 10 µs the soft-start reference moves toward the target. -/
def execSoftStartRampStep (m : Fin 4) (s : State) : Host.Outcome State Fault Refusal :=
  .next (rampStep s m)

/-- START_CHECK (R272): MARGIN after the ramp ends, the output is judged and the start passes or fails. -/
def execStartCheck (m : Fin 4) (s : State) : Host.Outcome State Fault Refusal :=
  .next (startCheck s m)

/-- OUTPUT_VOLTAGE_RESULT (R268): The output voltage result lands and release, load step and validity are evaluated. -/
def execOutputVoltageResult (m : Fin 4) (s : State) : Host.Outcome State Fault Refusal :=
  .next (outputResult s m)

/-- CURRENT_LIMIT_EVALUATION (R273): At each period start the block judges whether the period was current-limited. -/
def execCurrentLimitEvaluation (unit : Fin 5) (s : State) : Host.Outcome State Fault Refusal :=
  .next (settle s (if unit.val = 4 then boostLimit s else limitEvaluation s unit))

/-- HICCUP_END (R274): 100 ms of HICCUP pass and the slot retries its soft start. -/
def execHiccupEnd (m : Fin 4) (s : State) : Host.Outcome State Fault Refusal :=
  .next (hiccupEnd s m)

/-- TRY_RESET (R274): 1 s in REGULATE without a current-limited period returns TRY to 0. -/
def execTryReset (m : Fin 4) (s : State) : Host.Outcome State Fault Refusal :=
  .next (tryReset s m)

/-- RELEASE_HELD_TIMEOUT (R275): RELEASE held for 20 ms enters FAULT with OV_HELD. -/
def execReleaseHeldTimeout (m : Fin 4) (s : State) : Host.Outcome State Fault Refusal :=
  .next (releaseHeld s m)

/-- PHASE_SHED (R280): Low current for SHED_T sheds the highest active phase. -/
def execPhaseShed (m : Fin 4) (s : State) : Host.Outcome State Fault Refusal :=
  .next (phaseShed s m)

/-- CONVERTER_OUTPUT_READ (R276): After END the block reads the total current and LIMITED. -/
def execConverterOutputRead (m : Fin 4) (s : State) : Host.Outcome State Fault Refusal :=
  .next (converterRead s m)

end Sys2Proof.Machine
end

