-- ==== Sys2Proof/Machine/ExecOps.lean ====
section
/-! DEFINITION. The meanings of the commands of 16 The opcodes of host commands: one per row of the table. -/

namespace Sys2Proof.Machine

/-- NOP (R411): NOP completes at acceptance. -/
def execNop (ring : Fin 32) (seq : Word) (s : State) : Host.Outcome State Fault Refusal :=
  .next (runOp s ring seq.toNat 0x00 fun s _ => atOnce (s, .OK))

/-- ABORT (R413): ABORT asks a named command to cancel and completes with the verdict. -/
def execAbort (ring : Fin 32) (seq : Word) (s : State) : Host.Outcome State Fault Refusal :=
  .next (settle s (runOp s ring seq.toNat 0x01 (opAbort ⟨ring, seq.toNat⟩)))

/-- SET_MODE (R49): SET_MODE starts a permitted mode transition, or is refused. -/
def execSetMode (ring : Fin 32) (seq : Word) (s : State) : Host.Outcome State Fault Refusal :=
  .next (settle s (runOp s ring seq.toNat 0x02 (opSetMode ⟨ring, seq.toNat⟩)))

/-- START (R53): START begins a cold or warm start after writing its completion and closure. -/
def execStart (ring : Fin 32) (seq : Word) (s : State) : Host.Outcome State Fault Refusal :=
  .next (settle s (startOp s ring seq.toNat))

/-- SET_POWER (R375): SET_POWER requests DOZE, RETAIN or OFF. -/
def execSetPower (ring : Fin 32) (seq : Word) (s : State) : Host.Outcome State Fault Refusal :=
  .next (runOp s ring seq.toNat 0x04 opSetPower)

/-- FEED_DRILL (R365): FEED_DRILL runs the feed drill from the host. -/
def execFeedDrill (ring : Fin 32) (seq : Word) (s : State) : Host.Outcome State Fault Refusal :=
  .next (dozeWake s (runOp s ring seq.toNat 0x05 opFeedDrill))

/-- THROTTLE_ACK (R395): THROTTLE_ACK sets ACKED for the named zones within their grace time. -/
def execThrottleAck (ring : Fin 32) (seq : Word) (s : State) : Host.Outcome State Fault Refusal :=
  .next (runOp s ring seq.toNat 0x06 opThrottleAck)

/-- JNL_MARK (R411): JNL_MARK writes a marker record to the firing log. -/
def execJnlMark (ring : Fin 32) (seq : Word) (s : State) : Host.Outcome State Fault Refusal :=
  .next (runOp s ring seq.toNat 0x07 fun s _ => atOnce (s, .OK))

/-- REG_WRITE (R401): REG_WRITE writes a register under the block's rules. -/
def execRegWrite (ring : Fin 32) (seq : Word) (s : State) : Host.Outcome State Fault Refusal :=
  .next (settle s (runOp s ring seq.toNat 0x08 opRegWrite))

/-- REG_READ (R411): REG_READ reads a register and returns the data. -/
def execRegRead (ring : Fin 32) (seq : Word) (s : State) : Host.Outcome State Fault Refusal :=
  .next (runOp s ring seq.toNat 0x09 opRegRead)

/-- WORD_WRITE (R411): WORD_WRITE commits a 36-bit word. -/
def execWordWrite (ring : Fin 32) (seq : Word) (s : State) : Host.Outcome State Fault Refusal :=
  .next (runOp s ring seq.toNat 0x0A opWordWrite)

/-- TORQUE_SP (R232): TORQUE_SP commits a torque request. -/
def execTorqueSp (ring : Fin 32) (seq : Word) (s : State) : Host.Outcome State Fault Refusal :=
  .next (runOp s ring seq.toNat 0x10 opTorqueSp)

/-- SPEED_SP (R232): SPEED_SP commits a speed request. -/
def execSpeedSp (ring : Fin 32) (seq : Word) (s : State) : Host.Outcome State Fault Refusal :=
  .next (runOp s ring seq.toNat 0x11 opSpeedSp)

/-- TORQUE_LIM (R231): TORQUE_LIM commits both torque limits. -/
def execTorqueLim (ring : Fin 32) (seq : Word) (s : State) : Host.Outcome State Fault Refusal :=
  .next (runOp s ring seq.toNat 0x12 opTorqueLim)

/-- ACT_SPEED_SP (R254): ACT_SPEED_SP writes an actuator speed setpoint. -/
def execActSpeedSp (ring : Fin 32) (seq : Word) (s : State) : Host.Outcome State Fault Refusal :=
  .next (settle s (runOp s ring seq.toNat 0x13 opActSpeedSp))

/-- VOUT_SP (R268): VOUT_SP writes a converter output setpoint. -/
def execVoutSp (ring : Fin 32) (seq : Word) (s : State) : Host.Outcome State Fault Refusal :=
  .next (settle s (runOp s ring seq.toNat 0x14 opVoutSp))

/-- CHARGE_SP (R297): CHARGE_SP writes I_SET and V_LIM. -/
def execChargeSp (ring : Fin 32) (seq : Word) (s : State) : Host.Outcome State Fault Refusal :=
  .next (settle s (runOp s ring seq.toNat 0x15 opChargeSp))

/-- EXPORT_SP (R304): EXPORT_SP writes EXP_V and EXP_I. -/
def execExportSp (ring : Fin 32) (seq : Word) (s : State) : Host.Outcome State Fault Refusal :=
  .next (settle s (runOp s ring seq.toNat 0x16 opExportSp))

/-- ACCESSORY_SP (R305): ACCESSORY_SP writes ACC_V. -/
def execAccessorySp (ring : Fin 32) (seq : Word) (s : State) : Host.Outcome State Fault Refusal :=
  .next (settle s (runOp s ring seq.toNat 0x17 opAccessorySp))

/-- GROUP_RUN (R74): GROUP_RUN starts or stops a bridge group from the host. -/
def execGroupRun (ring : Fin 32) (seq : Word) (s : State) : Host.Outcome State Fault Refusal :=
  .next (settle s (runOp s ring seq.toNat 0x20 opGroupRun))

/-- TRIP_CLEAR (R101): TRIP_CLEAR requests the clear of a group's trip record. -/
def execTripClear (ring : Fin 32) (seq : Word) (s : State) : Host.Outcome State Fault Refusal :=
  .next (runOp s ring seq.toNat 0x21 opTripClear)

/-- ENGINE_CMD (R193): ENGINE_CMD arms, disarms, stops or swaps an engine from the host. -/
def execEngineCmd (ring : Fin 32) (seq : Word) (s : State) : Host.Outcome State Fault Refusal :=
  .next (runOp s ring seq.toNat 0x22 opEngine)

/-- SAT_CLEAR (R121): SAT_CLEAR sends CLEAR to a satellite or LV leg. -/
def execSatClear (ring : Fin 32) (seq : Word) (s : State) : Host.Outcome State Fault Refusal :=
  .next (runOp s ring seq.toNat 0x23 opSatClear)

/-- CHOP_CLEAR (R227): CHOP_CLEAR asks for a chopper to be made available again. -/
def execChopClear (ring : Fin 32) (seq : Word) (s : State) : Host.Outcome State Fault Refusal :=
  .next (runOp s ring seq.toNat 0x24 opChopClear)

/-- ACT_CMD (R253): ACT_CMD runs, stops, floats or clears an actuator slot. -/
def execActCmd (ring : Fin 32) (seq : Word) (s : State) : Host.Outcome State Fault Refusal :=
  .next (settle s (runOp s ring seq.toNat 0x25 opAct))

/-- CNV_CMD (R270): CNV_CMD starts, stops or clears a converter slot. -/
def execCnvCmd (ring : Fin 32) (seq : Word) (s : State) : Host.Outcome State Fault Refusal :=
  .next (runOp s ring seq.toNat 0x26 opCnv)

/-- FJOP_FRAME (R411): FJOP_FRAME hands a host Fjop frame to the Saggar's checks. -/
def execFjopFrame (ring : Fin 32) (seq : Word) (data : Option (List Byte)) (s : State) : Host.Outcome State Fault Refusal :=
  .next (settle s (withHost s fun s => runOp s ring seq.toNat 0x30 (opFjop ring data)))

/-- CAN_SEND (R479): CAN_SEND requests the lowest free host transmit entry. -/
def execCanSend (ring : Fin 32) (seq : Word) (data : Option (List Byte)) (idle : Bool) (s : State) :
    Host.Outcome State Fault Refusal :=
  .next (withHost s fun s => runOp s ring seq.toNat 0x31 (opCan ⟨ring, seq.toNat⟩ data idle))

/-- FAB_SEND (R456): FAB_SEND queues a fabric frame in its ring's class queue. -/
def execFabSend (ring : Fin 32) (seq : Word) (data : Option (List Byte)) (s : State) : Host.Outcome State Fault Refusal :=
  .next (dozeWake s (withHost s fun s => runOp s ring seq.toNat 0x32 (opFab ⟨ring, seq.toNat⟩ data)))

/-- TELEM_CFG (R416): TELEM_CFG configures a telemetry item. -/
def execTelemCfg (ring : Fin 32) (seq : Word) (s : State) : Host.Outcome State Fault Refusal :=
  .next (runOp s ring seq.toNat 0x38 opTelem)

/-- JNL_READ (R411): JNL_READ copies firing-log records to host memory. -/
def execJnlRead (ring : Fin 32) (seq : Word) (s : State) : Host.Outcome State Fault Refusal :=
  .next (withHost s fun s => runOp s ring seq.toNat 0x39 opJnlRead)

/-- IMAGE_WRITE (R485): IMAGE_WRITE writes glaze or scratch bytes and reads them back. -/
def execImageWrite (ring : Fin 32) (seq : Word) (data back : Option (List Byte)) (s : State) :
    Host.Outcome State Fault Refusal :=
  .next (if s.storeHeld then s else withHost s fun s => runOp s ring seq.toNat 0x3A (opImageWrite data back))

/-- IMAGE_ACTIVATE (R495): IMAGE_ACTIVATE checks a glaze region and records it as active, then begins a warm start. -/
def execImageActivate (ring : Fin 32) (seq : Word) (s : State) : Host.Outcome State Fault Refusal :=
  .next (settle s (activateOp s ring seq.toNat))

/-- SAT_SELFTEST (R507): SAT_SELFTEST runs the self-test of the named satellites. -/
def execSatSelftest (ring : Fin 32) (seq : Word) (s : State) : Host.Outcome State Fault Refusal :=
  .next (runOp s ring seq.toNat 0x40 opSelftest)

end Sys2Proof.Machine
end

