-- ==== Sys2Proof/Machine/ExecPair.lean ====
section
/-! DEFINITION. The meanings of the commands of 13 Lock-step core pairs: one per row of the table. -/

namespace Sys2Proof.Machine

/-- COPY_TRANSACTION (R345): A core copy issues a transaction into the comparator, which releases it when both copies agree. -/
def execCopyTransaction (n : Fin 12) (checker : Bool) (x : CopyAccess) (icnt : Word) (s : State) :
    Host.Outcome State Fault Refusal :=
  .next (settle s (copyTransaction s n checker x.item icnt.toNat x.ecc))

/-- RETIRE_SIGNATURE (R347): A copy sends its retire signature on lane 4 for comparison. -/
def execRetireSignature (n : Fin 12) (checker : Bool) (crc icnt : Word) (s : State) : Host.Outcome State Fault Refusal :=
  .next (settle s (retireSignature (s.retiredTo n icnt.toNat) n checker crc.toNat icnt.toNat))

/-- COMPARATOR_TIMEOUT (R348): A partner item missing for 2 µs raises a TIMEOUT pair fault. -/
def execComparatorTimeout (n : Fin 12) (icnt : Word) (s : State) : Host.Outcome State Fault Refusal :=
  .next (settle s (comparatorTimeout s n icnt.toNat))

/-- INTERRUPT_NOTICE (R349): An interrupt notice reaches a pair and each copy reports its retire count + 4. -/
def execInterruptNotice (n : Fin 12) (id : Nat) (main chk : CopyCount) (s : State) : Host.Outcome State Fault Refusal :=
  .next (dozeWake s (openNotice s n (.irq id) main.retired chk.retired (main.wfi, chk.wfi)))

/-- AGREEMENT_REPORT (R349): The partner's count arrives, the target is set and the interrupt is taken at that count. -/
def execAgreementReport (n : Fin 12) (main chk : Nat) (s : State) : Host.Outcome State Fault Refusal :=
  .next (dozeWake s (agreementReport s n main chk))

/-- ASYNC_VALUE_READ (R350): A read of an asynchronous value stalls both copies for a value exchange. -/
def execAsyncValueRead (n : Fin 12) (main : AsyncSample) (chk : Word) (s : State) : Host.Outcome State Fault Refusal :=
  .next (asyncRead s n main.src main.value.toNat chk.toNat)

/-- VALUE_RESAMPLE (R350): 25 ns after disagreeing samples, both copies re-sample, or VALUE_DISAGREE is raised after 4. -/
def execValueResample (n : Fin 12) (main chk icnt : Word) (s : State) : Host.Outcome State Fault Refusal :=
  .next (settle s (valueResample s n main.toNat chk.toNat icnt.toNat))

/-- LOCAL_PARITY_ERROR (R351): A parity error in either copy raises a LOCAL_PARITY pair fault. -/
def execLocalParityError (n : Fin 12) (icnt : Word) (s : State) : Host.Outcome State Fault Refusal :=
  .next (settle s (localParity s n icnt.toNat))

/-- DEBUG_HALT_REQUEST (R354): A debug halt request is exchanged as a notice so that both copies halt at one count. -/
def execDebugHaltRequest (n : Fin 12) (main chk : CopyCount) (s : State) : Host.Outcome State Fault Refusal :=
  .next (debugHalt s n main.retired chk.retired (main.wfi, chk.wfi))

/-- DEBUG_ACTION (R354): A state-changing debug action is applied to the main copy and replayed to the checker. -/
def execDebugAction (n : Fin 12) (act : DebugAct) (replay : Bool) (s : State) : Host.Outcome State Fault Refusal :=
  .next (settle s (debugAction s n act replay))

/-- DEBUG_RESUME (R354): A resume is released to both copies once the replay queue is empty. -/
def execDebugResume (n : Fin 12) (s : State) : Host.Outcome State Fault Refusal :=
  .next (debugResume s n)

end Sys2Proof.Machine
end

