-- ==== Sys2Proof/Machine/ExecPwm.lean ====
section
/-! DEFINITION. The meanings of the commands of 03 Time base, PWM groups, dead time and trips: one per row of the table. -/

namespace Sys2Proof.Machine

/-- LEG_GROUP_WRITE (R71): A write of PWM_LEG_CFG.GROUP moves a leg between stopped groups or is refused. -/
def execLegGroupWrite (r : Requester) (leg : Fin 36) (data : Word) (s : State) : Host.Outcome State Fault Refusal :=
  .next (settle s (regWr s r (0x60001000 + 0x40 * leg.val) fun s => ifFitted s leg fun s => legGroup s leg data.toNat))

/-- GROUP_START (R73): PWM_GRP_RUN CMD = START starts a group at T0, or holds or refuses the start. -/
def execGroupStart (r : Requester) (g : Fin 12) (s : State) : Host.Outcome State Fault Refusal :=
  .next (settle s (regWr s r (0x60000014 + 0x100 * g.val) fun s => groupRun s g 1))

/-- GROUP_STOP (R74): PWM_GRP_RUN CMD = STOP ends the group at the next period start after its reload instant. -/
def execGroupStop (r : Requester) (g : Fin 12) (s : State) : Host.Outcome State Fault Refusal :=
  .next (settle s (regWr s r (0x60000014 + 0x100 * g.val) fun s => groupRun s g 2))

/-- GROUP_COMMIT (R82): A write of PWM_GRP_COMMIT makes the shared staging set complete. -/
def execGroupCommit (r : Requester) (g : Fin 12) (s : State) : Host.Outcome State Fault Refusal :=
  .next (settle s (regWr s r (0x60000018 + 0x100 * g.val) fun s => recorded pwmErr (groupCommit s g)))

/-- COMMIT_SET_ARRIVAL (R209): An engine duty set reaches island 32, which converts it into a complete set or refuses it. -/
def execCommitSetArrival (e : Fin 32) (s : State) : Host.Outcome State Fault Refusal :=
  .next (dozeWake s (commitArrival s e))

/-- RELOAD_INSTANT (R83): 160 ticks before an update point, the active set is replaced by the last complete set. -/
def execReloadInstant (g : Fin 12) (mid : Bool) (s : State) : Host.Outcome State Fault Refusal :=
  .next (settle s (reloadGroup s g mid))

/-- TRIGGER_FIRE (R81): A group trigger fires once per period at period start + TIME and raises its event. -/
def execTriggerFire (g : Fin 12) (k : Fin 4) (s : State) : Host.Outcome State Fault Refusal :=
  .next (triggerFire s g k)

/-- EDGE_COMMAND_DEPARTURE (R87): An edge or TRANSITION frame leaves island 32 exactly 160 ticks before its edge time. -/
def execEdgeCommandDeparture (leg : Fin 36) (n : Nat) (second : Bool) (s : State) : Host.Outcome State Fault Refusal :=
  .next (edgeDeparture s leg n second)

/-- LEG_FORCE_WRITE (R93): A write of PWM_LEG_FORCE sets forced channel states, or is refused when it would turn both channels
on. -/
def execLegForceWrite (r : Requester) (leg : Fin 36) (data : Word) (s : State) : Host.Outcome State Fault Refusal :=
  .next (settle s (regWr s r (0x60001020 + 0x40 * leg.val) fun s => ifFitted s leg fun s => legForce s leg data.toNat))

/-- TRIP_SOURCE_CHANGE (R96): A trip pin, a comparator or a fault summary changes level at the trip filter input. -/
def execTripSourceChange (src : Fin 108) (level : Bool) (s : State) : Host.Outcome State Fault Refusal :=
  .next (tripSourceChange s src level)

/-- TRIP_FILTER_SETTLED (R97): A trip filter reaches N agreeing samples and its filtered output takes the new level. -/
def execTripFilterSettled (src : Fin 108) (s : State) : Host.Outcome State Fault Refusal :=
  .next (tripSettled s src)

/-- TRIP_CLEAR_REQUEST (R101): A write of PWM_GRP_TRIPCLR clears the trip record, or is refused with TRIP_ASSERTED. -/
def execTripClearRequest (r : Requester) (g : Fin 12) (s : State) : Host.Outcome State Fault Refusal :=
  .next (settle s (regWr s r (0x60000028 + 0x100 * g.val) fun s => recorded pwmErr (tripClear s g)))

end Sys2Proof.Machine
end

