-- ==== Sys2Proof/Machine/ExecSafety.lean ====
section
/-! DEFINITION. The meanings of the commands of 12 The Saggar and the safety functions: one per row of the table. -/

namespace Sys2Proof.Machine

/-- SAFETY_INPUT_FILTERED (R313): A filtered safety input changes level and demands or stops demanding. -/
def execSafetyInputFiltered (n : Fin 16) (high : Bool) (s : State) : Host.Outcome State Fault Refusal :=
  .next (settle s (safetyInput s n high))

/-- DISCREPANCY_TIMEOUT (R313): A two-channel input that disagrees for longer than DISC sets DISC_ERR and holds the demand. -/
def execDiscrepancyTimeout (p : Fin 8) (s : State) : Host.Outcome State Fault Refusal :=
  .next (settle s (discrepancy s p))

/-- OV3_COMPARATOR (R314): A filtered OV3 comparator change demands the safe state with forced ASC, or ends it. -/
def execOv3Comparator (j : Fin 2) (on : Bool) (s : State) : Host.Outcome State Fault Refusal :=
  .next (settle s (ov3Output s j on))

/-- SAGGAR_TABLE_WRITE (R321): Pair 11 writes a group table entry, and a changed orphan policy is sent and read back. -/
def execSaggarTableWrite (r : Requester) (g : Fin 12) (asc : Bool) (data : Word) (bad : BitVec 36) (s : State) :
    Host.Outcome State Fault Refusal :=
  .next (settle s (regWr s r (0x60058100 + 0x10 * g.val + 4 * bit asc) fun s => ascTableWrite s g asc data.toNat bad.toNat))

/-- SAFE_OUTPUT_REQUEST (R323): A write of SAF_SOUT_REQ switches safe outputs on or off, or keeps the request while they are
held off. -/
def execSafeOutputRequest (r : Requester) (data : Word) (s : State) : Host.Outcome State Fault Refusal :=
  .next (settle s (regWr s r 0x600583F0 fun s => (soutRequest s (data.toNat % 256), .OK)))

/-- SAFE_OUTPUT_TEST (R324): Every PER × 100 ms an output test pulse opens one switch. -/
def execSafeOutputTest (n : Fin 8) (s : State) : Host.Outcome State Fault Refusal :=
  .next (soutTest s n)

/-- TEST_PULSE_END (R324): The test pulse ends and is judged, and a failure latches the output off and demands SOUT_TEST_FAIL.
-/
def execTestPulseEnd (pass : Bool) (s : State) : Host.Outcome State Fault Refusal :=
  .next (settle s (pulseEnd s pass))

/-- SAFE_OUTPUT_OVERLOAD (R325): More than 0.8 A for 1 ms switches the output off and sets OVLD. -/
def execSafeOutputOverload (n : Fin 8) (s : State) : Host.Outcome State Fault Refusal :=
  .next (soutOverload s n)

/-- SAFE_OUTPUT_OPEN (R325): Less than 5 mA for 100 ms while on sets OPEN. -/
def execSafeOutputOpen (n : Fin 8) (s : State) : Host.Outcome State Fault Refusal :=
  .next (soutOpen s n)

/-- CONTACTOR_DELAY_EXPIRY (R322): CONT_DLY after the groups reach their choice, SCO or SCS outputs switch off. -/
def execContactorDelayExpiry (s : State) : Host.Outcome State Fault Refusal :=
  .next (contactorDelay s)

/-- PARK_SPEED_CONFIRMED (R322): Every speed group below PARK_SPD for 100 ms switches the park-lock outputs off. -/
def execParkSpeedConfirmed (s : State) : Host.Outcome State Fault Refusal :=
  .next (parkConfirmed s)

/-- HEARTBEAT_WRITE (R326): Pair 11 writes SAF_HB, and an early or wrong value demands HEARTBEAT_LOST. -/
def execHeartbeatWrite (r : Requester) (data : Word) (s : State) : Host.Outcome State Fault Refusal :=
  .next (settle s (regWr s r 0x60058010 fun s => (heartbeat s (data.toNat % 256), .OK)))

/-- HEARTBEAT_TIMEOUT (R326): No heartbeat within HB_MAX demands HEARTBEAT_LOST. -/
def execHeartbeatTimeout (s : State) : Host.Outcome State Fault Refusal :=
  .next (settle s (heartbeatTimeout s))

/-- SAFETY_CORE_DEMAND (R327): A write of SAF_DEMAND demands the safe state for the written groups. -/
def execSafetyCoreDemand (r : Requester) (data : Word) (s : State) : Host.Outcome State Fault Refusal :=
  .next (settle s (regWr s r 0x60058004 fun s => (safDemand s data.toNat, .OK)))

/-- RELEASE_FIRST_KEY (R328): SAF_RELEASE with KEY 0x5A opens a release sequence. -/
def execReleaseFirstKey (r : Requester) (groups : BitVec 12) (dev : Bool) (s : State) : Host.Outcome State Fault Refusal :=
  .next (settle s (regWr s r 0x60058008 fun s => (releaseFirst s groups.toNat dev, .OK)))

/-- RELEASE_SECOND_KEY (R328): SAF_RELEASE with KEY 0xA5 judges each named group and releases it to STOPPED or refuses it. -/
def execReleaseSecondKey (r : Requester) (groups : BitVec 12) (dev : Bool) (s : State) : Host.Outcome State Fault Refusal :=
  .next (settle s (regWr s r 0x60058008 fun s => (releaseSecond s groups.toNat dev, .OK)))

/-- RELEASE_WINDOW_EXPIRY (R328): 100 µs after the first key without the second, the release sequence lapses with RELEASE_KEY.
-/
def execReleaseWindowExpiry (s : State) : Host.Outcome State Fault Refusal :=
  .next (releaseExpiry s)

/-- FJOP_FRAME_ARRIVAL (R332): A frame on a Fjop receive connection is checked for length, CRC and sequence and accepted or
discarded. -/
def execFjopFrameArrival (c : Fin 32) (frame : List Byte) (s : State) : Host.Outcome State Fault Refusal :=
  .next (settle s (fjopArrive s c frame))

/-- FJOP_RECEIVE_TIMEOUT (R333): No accepted frame for T_EXP puts the connection into FAILED and activates FJOP_FAIL. -/
def execFjopReceiveTimeout (c : Fin 32) (s : State) : Host.Outcome State Fault Refusal :=
  .next (settle s (fjopTimeout s c))

/-- FJOP_RESET (R333): SAF_FJ_CMD RESET puts a connection into WAIT. -/
def execFjopReset (r : Requester) (c : Fin 32) (s : State) : Host.Outcome State Fault Refusal :=
  .next (settle s (regWr s r (0x60058818 + 0x20 * c.val) fun s => fjopCmd s c 1))

/-- FJOP_SEND (R334): SAF_FJ_CMD SEND forms a Fjop frame and hands it to its channel as class 0. -/
def execFjopSend (r : Requester) (c : Fin 32) (s : State) : Host.Outcome State Fault Refusal :=
  .next (settle s (regWr s r (0x60058818 + 0x20 * c.val) fun s => fjopCmd s c 2))

/-- FJOP_SEND_TIMEOUT (R334): No SEND for T_EXP puts a send connection into FAILED with TX_LATE. -/
def execFjopSendTimeout (c : Fin 32) (s : State) : Host.Outcome State Fault Refusal :=
  .next (settle s (fjopSendTimeout s c))

/-- DISCREPANCY_HOLD_END (R313): Both filtered inputs of a two-channel safety input have read high together for DISC ms, and the
discrepancy hold ends. -/
def execDiscrepancyHoldEnd (p : Fin 8) (s : State) : Host.Outcome State Fault Refusal :=
  .next (discrepancyEnd s p)

end Sys2Proof.Machine
end

