-- ==== Sys2Proof/Machine/ExecSat.lean ====
section
/-! DEFINITION. The meanings of the commands of 04 Gate satellites and LV leg drivers: protection: one per row of the table. -/

namespace Sys2Proof.Machine

/-- GS_CFG_WRITE (R134): A write of GS_CFG is sent as CFG_WR and read back, or is refused. -/
def execGsCfgWrite (r : Requester) (n : Fin 48) (data : Word) (s : State) : Host.Outcome State Fault Refusal :=
  .next (settle s (regWr s r (0x60008000 + 0x80 * n.val) fun s => gsCfg s n data.toNat))

/-- GS_CLEAR (R121): A write of GS_CLEAR sends CLEAR to the satellite, or is refused while LINK_LOST persists. -/
def execGsClear (r : Requester) (n : Fin 48) (s : State) : Host.Outcome State Fault Refusal :=
  .next (settle s (regWr s r (0x60008014 + 0x80 * n.val) fun s => satClear s n))

/-- LD_CLEAR (R135): A write of LD_CLEAR sends CLEAR to an LV leg driver. -/
def execLdClear (r : Requester) (k : Fin 12) (s : State) : Host.Outcome State Fault Refusal :=
  .next (settle s (regWr s r (0x60010014 + 0x40 * k.val) fun s => satClear s (48 + k)))

/-- CLEAR_ANSWER_TIMEOUT (R121): A CLEAR without an answer within 10 µs gives SAT_SILENT. -/
def execClearAnswerTimeout (l : Fin 60) (s : State) : Host.Outcome State Fault Refusal :=
  .next (clearTimeout s l)

/-- VPOS_UV (R118): VPOS below 11.0 V after its deglitch turns the channel off, sets the latch and sends FAULT. -/
def execVposUv (n : Fin 48) (s : State) : Host.Outcome State Fault Refusal :=
  .next (supplyFault s n false)

/-- VNEG_RANGE (R118): VNEG out of range after its deglitch turns the channel off, sets the latch and sends FAULT. -/
def execVnegRange (n : Fin 48) (s : State) : Host.Outcome State Fault Refusal :=
  .next (supplyFault s n true)

/-- VPOS_BELOW_RESET (R124): VPOS − COM falls below 8 V and the satellite enters RESET, with the pull-down holding the gate. -/
def execVposBelowReset (n : Fin 48) (s : State) : Host.Outcome State Fault Refusal :=
  .next (belowReset s n)

/-- VPOS_ARMED (R118): VPOS first reaches 11.5 V after RESET and the supply checks arm. -/
def execVposArmed (n : Fin 48) (s : State) : Host.Outcome State Fault Refusal :=
  .next (armSupply s n)

/-- BLANKING_END (R120): Desaturation blanking ends after the on-edge and the desaturation check becomes active. -/
def execBlankingEnd (l : Fin 60) (hs : Bool) (s : State) : Host.Outcome State Fault Refusal :=
  .next (blankingEnd s l hs)

/-- BASELINE_SAMPLE (R120): 200 ns after blanking ends, the DSAT node is sampled into the tracking baseline. -/
def execBaselineSample (n : Fin 48) (mv : Nat) (s : State) : Host.Outcome State Fault Refusal :=
  .next (baselineSample s n mv)

/-- DESAT_VALID (R120): Desaturation becomes valid after its 40 ns deglitch and starts the soft-off. -/
def execDesatValid (n : Fin 48) (mv : Nat) (s : State) : Host.Outcome State Fault Refusal :=
  .next (desatValid s n mv)

/-- SHORT_CIRCUIT_TRIP (R120): The short-circuit comparator trips after its 30 ns deglitch and starts the soft-off. -/
def execShortCircuitTrip (n : Fin 48) (mv : Nat) (s : State) : Host.Outcome State Fault Refusal :=
  .next (shortCircuit s n mv)

/-- SOFT_OFF_TIMER (R121): 2.0 µs after FOFF, the satellite also drives OUTOFF. -/
def execSoftOffTimer (n : Fin 48) (s : State) : Host.Outcome State Fault Refusal :=
  .next (softOffTimer s n)

/-- VDS_VALID (R131): An LV channel's drain-source voltage exceeds its threshold, and the driver turns it off and latches the
fault. -/
def execVdsValid (k : Fin 12) (hs : Bool) (mv : Nat) (s : State) : Host.Outcome State Fault Refusal :=
  .next (vdsFault s k hs mv)

/-- DRV_UV (R119): The LV driver gate supply falls below 8.5 V and both channels of the leg turn off. -/
def execDrvUv (k : Fin 12) (s : State) : Host.Outcome State Fault Refusal :=
  .next (driverUv s k)

/-- PERMIT_CODE_TAKEN (R123): After 4 agreeing carrier cycles, a permit code takes effect and the channel changes state. -/
def execPermitCodeTaken (l : Fin 60) (code : Permit) (s : State) : Host.Outcome State Fault Refusal :=
  .next (permitTaken s l code)

/-- PERMIT_LOSS (R123): No carrier edge for 150 ns, or 4 invalid cycles, is permit loss. -/
def execPermitLoss (l : Fin 60) (s : State) : Host.Outcome State Fault Refusal :=
  .next (permitLoss s l)

/-- CROSS_LINK_STATE (R127): A satellite receives its partner's gate state over the cross-link. -/
def execCrossLinkState (n : Fin 48) (partnerOn hold : Bool) (s : State) : Host.Outcome State Fault Refusal :=
  .next (crossLink s n partnerOn hold)

/-- CROSS_LINK_SILENT (R127): With nothing seen on the cross-link for 100 ns, the satellite treats its partner as conducting. -/
def execCrossLinkSilent (n : Fin 48) (s : State) : Host.Outcome State Fault Refusal :=
  .next (crossSilent s n)

/-- EDGE_PLACEMENT (R87): A scheduled edge time is reached and the satellite switches its channel, subject to its latch and the
cross-link. -/
def execEdgePlacement (l : Fin 60) (s : State) : Host.Outcome State Fault Refusal :=
  .next (edgePlacement s l)

/-- PARTNER_OFF_TURN_ON (R127): SAFE_ON or orphan ON turns the channel on once its partner has been off for 40 ns. -/
def execPartnerOffTurnOn (l : Fin 60) (s : State) : Host.Outcome State Fault Refusal :=
  .next (partnerOff s l)

/-- TRANSITION_MEASURED (R128): The switch-node swing after a turn-off completes, or is cut at DT_MAX, and TREPORT is sent. -/
def execTransitionMeasured (l : Fin 60) (hs : Bool) (taps : Nat) (s : State) : Host.Outcome State Fault Refusal :=
  .next (transitionMeasured s l hs taps)

/-- SATELLITE_MEASUREMENT (R129): Every 1 ms a satellite measures its NTC and die temperature and sends MEAS. -/
def execSatelliteMeasurement (l : Fin 60) (ntc die : BitVec 12) (s : State) : Host.Outcome State Fault Refusal :=
  .next (satMeasure s l ntc.toNat die.toNat)

/-- MEASUREMENT_STALE (R129): A measurement without a new sample for 5 ms sets STALE. -/
def execMeasurementStale (l : Fin 60) (die : Bool) (s : State) : Host.Outcome State Fault Refusal :=
  .next (dozeWake s (measGone s l die))

/-- LEAVING_RESET (R124): VPOS - COM of a satellite rises above 8 V, and the satellite leaves RESET for ORPHAN, holding OFF. -/
def execLeavingReset (n : Fin 48) (s : State) : Host.Outcome State Fault Refusal :=
  .next (leaveReset s n)

/-- VPOS_UV_CLEARED (R118): VPOS rises back to 11.5 V, and the VPOS_UV condition clears, so a later CLEAR is no longer refused.
-/
def execVposUvCleared (n : Fin 48) (s : State) : Host.Outcome State Fault Refusal :=
  .next (s.setRx n { s.rxOf n with uv := false })

/-- VNEG_RANGE_CLEARED (R118): VNEG returns to between -10.5 V and +0.5 V, and the VNEG_RANGE condition ends. -/
def execVnegRangeCleared (n : Fin 48) (s : State) : Host.Outcome State Fault Refusal :=
  .next (s.setRx n { s.rxOf n with vneg := false })

/-- DRV_UV_CLEARED (R119): The gate supply of an LV leg driver returns above 8.5 V after a DRV_UV fault. -/
def execDrvUvCleared (k : Fin 12) (s : State) : Host.Outcome State Fault Refusal :=
  .next (s.setRx (48 + k) { s.rxOf (48 + k) with drvUv := false })

end Sys2Proof.Machine
end

