-- ==== Sys2Proof/Machine/ExecSupply.lean ====
section
/-! DEFINITION. The meanings of the commands of 14 Feeds, core voltage and power states, 15 Thermal zones and throttling: one per row of the table. -/

namespace Sys2Proof.Machine

/-- FEED_MEASUREMENT (R362): Every 10 µs island 41 measures the feeds and decides the active feed. -/
def execFeedMeasurement (va vb : BitVec 12) (chainLow : Bool) (s : State) : Host.Outcome State Fault Refusal :=
  .next (settle s (feedMeasure s va.toNat vb.toNat chainLow))

/-- SWITCH_OVER_CHECK (R364): 200 µs after a switch, a new chain below 90 % marks the feed UNABLE and may switch back. -/
def execSwitchOverCheck (low : Bool) (s : State) : Host.Outcome State Fault Refusal :=
  .next (dozeWake s (switchCheck s low))

/-- PWR_FEED_DRILL (R365): A write of PWR_FEED_CMD.DRILL makes the standby feed carry the load, or is refused. -/
def execPwrFeedDrill (r : Requester) (s : State) : Host.Outcome State Fault Refusal :=
  .next (settle s (regWr s r 0x60068020 feedDrill))

/-- FEED_DRILL_END (R365): 10 ms of drill end and the load returns to the original feed. -/
def execFeedDrillEnd (s : State) : Host.Outcome State Fault Refusal :=
  .next (dozeWake s (feedDrillEnd s))

/-- DIP_START (R366): VSUP below 7.5 V after its filter starts a dip and defers ferroelectric writes. -/
def execDipStart (vsup : BitVec 12) (s : State) : Host.Outcome State Fault Refusal :=
  .next (dipStart s vsup.toNat)

/-- DIP_END (R366): VSUP returns to 7.5 V and the dip is counted and recorded. -/
def execDipEnd (lowest : BitVec 12) (s : State) : Host.Outcome State Fault Refusal :=
  .next (dozeWake s (dipEnd s lowest.toNat))

/-- STORE_WRITES_RESUME (R366): VSUP at or above 7.5 V for 1 ms lets the deferred ferroelectric writes run. -/
def execStoreWritesResume (s : State) : Host.Outcome State Fault Refusal :=
  .next (storeWritesResume s)

/-- POWER_LOSS_SEQUENCE (R367): VSUP below 6.0 V runs the power-loss sequence on HOLD energy. -/
def execPowerLossSequence (s : State) : Host.Outcome State Fault Refusal :=
  .next (settle s (powerLoss s))

/-- SUPPLY_RESTORED_START (R367): A feed in range for 10 ms after the power-loss sequence begins a cold start of cause 4. -/
def execSupplyRestoredStart (s : State) : Host.Outcome State Fault Refusal :=
  .next (settle s (supplyRestored s))

/-- ISLAND41_POWER_LOSS (R367): VSUP and HOLD below 4.0 V for 10 µs lose island 41 and its state. -/
def execIsland41PowerLoss (s : State) : Host.Outcome State Fault Refusal :=
  .next (islandPowerLoss s)

/-- HOLD_OK_CHANGE (R368): HOLD crosses 15.0 V and HOLD_OK changes. -/
def execHoldOkChange (ok : Bool) (s : State) : Host.Outcome State Fault Refusal :=
  .next (holdOk s ok)

/-- PMBUS_ACKNOWLEDGE (R370): POWER_GOOD, READ_VOUT and RAIL_OK agree and the voltage change is acknowledged. -/
def execPmbusAcknowledge (s : State) : Host.Outcome State Fault Refusal :=
  .next (settle s (psCheck (pmbusAck s)))

/-- PMBUS_ACK_TIMEOUT (R370): No acknowledgement within 1 ms resends the command, or sets NO_ACK and may fall back to VID. -/
def execPmbusAckTimeout (s : State) : Host.Outcome State Fault Refusal :=
  .next (settle s (psCheck (pmbusTimeout s)))

/-- PMBUS_ALERT (R370): PM_ALERT low makes the device read STATUS_WORD and send CLEAR_FAULTS. -/
def execPmbusAlert (statusWord : BitVec 16) (s : State) : Host.Outcome State Fault Refusal :=
  .next (pmbusAlert s statusWord.toNat)

/-- VID_SETTLED (R371): 200 µs of VID settling end after a change of the VID pins. -/
def execVidSettled (s : State) : Host.Outcome State Fault Refusal :=
  .next (settle s (psCheck (vidSettled s)))

/-- CLOCK_DIVIDER_WRITE (R372): A write of PWR_DIV_PAIR or PWR_DIV_CLU changes clock dividers in the voltage-safe order. -/
def execClockDividerWrite (r : Requester) (clu : Bool) (data : Word) (s : State) : Host.Outcome State Fault Refusal :=
  .next (settle s (regWr s r (if clu then 0x60068050 else 0x6006804C) fun s => dividerWrite s clu data.toNat))

/-- RAIL_LOST (R373): RAIL_OK at 0 for 10 µs while armed demands CORE_RAIL_LOST. -/
def execRailLost (s : State) : Host.Outcome State Fault Refusal :=
  .next (settle s (railLost s))

/-- POWER_STATE_REQUEST (R375): A write of PWR_PS_REQ asks every participant for a power-state entry, or is refused. -/
def execPowerStateRequest (r : Requester) (data : Word) (wake : Bool) (s : State) : Host.Outcome State Fault Refusal :=
  .next (settle s (regWr s r 0x60068060 fun s => powerRequest s (data.toNat % 4) wake))

/-- PARTICIPANT_ANSWER (R376): A hardware participant answers ACCEPT, REFUSE or DELAY. -/
def execParticipantAnswer (p : Fin 27) (s : State) : Host.Outcome State Fault Refusal :=
  .next (settle s (participantAnswer s p))

/-- PAIR_ANSWER (R376): A pair answers by writing PWR_PS_ANS. -/
def execPairAnswer (n : Fin 12) (data : Word) (s : State) : Host.Outcome State Fault Refusal :=
  .next (settle s (regWr s (.pair n) 0x60068068 fun s => pairAnswer s n data.toNat))

/-- PAIR_ANSWER_TIMEOUT (R376): A pair silent for 1 ms counts as DELAY with a maximum of 1 ms. -/
def execPairAnswerTimeout (n : Fin 12) (s : State) : Host.Outcome State Fault Refusal :=
  .next (settle s (pairSilent s n))

/-- DELAY_TIMEOUT (R377): A DELAY past its maximum aborts the entry with PS_TIMEOUT. -/
def execDelayTimeout (p : Fin 27) (s : State) : Host.Outcome State Fault Refusal :=
  .next (delayTimeout s p)

/-- WAKE_PIN_EDGE (R380): An enabled WAKE pin edge wakes the device from DOZE, RETAIN or OFF. -/
def execWakePinEdge (w : Fin 4) (rise : Bool) (s : State) : Host.Outcome State Fault Refusal :=
  .next (settle s (pinWake s w rise))

/-- CAN_ACTIVITY_WAKE (R380): CANn_RX dominant for 5 µs on an enabled controller wakes the device. -/
def execCanActivityWake (n : Fin 8) (s : State) : Host.Outcome State Fault Refusal :=
  .next (settle s (canWake s n))

/-- WAKE_TIMER_EXPIRY (R380): WAKE_TMR ms after the commit point wakes the device. -/
def execWakeTimerExpiry (s : State) : Host.Outcome State Fault Refusal :=
  .next (settle s (timerWake s))

/-- RAIL_WAKE_TIMEOUT (R381): No rail acknowledgement within 5 ms of a wake holds the device in reset and sets NO_RAIL. -/
def execRailWakeTimeout (s : State) : Host.Outcome State Fault Refusal :=
  .next (railWakeTimeout s)

/-- RAIL_RETRY (R381): Every 100 ms under NO_RAIL, island 41 retries turning on the rail. -/
def execRailRetry (s : State) : Host.Outcome State Fault Refusal :=
  .next (railRetry s)

/-- RETENTION_RAIL_DROP (R383): A retention rail below its minimum for 1 µs latches the bank's failure. -/
def execRetentionRailDrop (b : Fin 36) (s : State) : Host.Outcome State Fault Refusal :=
  .next (railDrop s b)

/-- RETENTION_BANK_CLEAR (R383): A write of PWR_RET_CLR starts zeroing a lost bank. -/
def execRetentionBankClear (r : Requester) (high : Bool) (data : Word) (s : State) : Host.Outcome State Fault Refusal :=
  .next (settle s (regWr s r (if high then 0x600680A4 else 0x600680A0) fun s => (bankClear s high data.toNat, .OK)))

/-- BANK_ZEROED (R383): A lost bank finishes zeroing and LOST clears. -/
def execBankZeroed (b : Fin 36) (s : State) : Host.Outcome State Fault Refusal :=
  .next (bankZeroed s b)

/-- DOMAIN_POWER_UP (R384): The first access to an unreleased domain powers it up and stalls until it is ready. -/
def execDomainPowerUp (d : Fin 66) (s : State) : Host.Outcome State Fault Refusal :=
  .next (domainUp s d)

/-- THERMAL_EVALUATION (R391): At each interval every zone temperature is evaluated against its Cones. -/
def execThermalEvaluation (td : BitVec 192) (s : State) : Host.Outcome State Fault Refusal :=
  .next (dozeWake s (thermalEvaluation s td))

/-- ZONE_PENDING_END (R392): The 10 ms PENDING time ends and a zone without a valid member becomes LOST. -/
def execZonePendingEnd (s : State) : Host.Outcome State Fault Refusal :=
  .next (dozeWake s (zonePendingEnd s))

/-- GRACE_END (R395): The grace time ends and the zone complies or begins enforced derating. -/
def execGraceEnd (z : Fin 16) (s : State) : Host.Outcome State Fault Refusal :=
  .next (graceEnd s z)

/-- DERATE_STEP (R396): Every 100 ms under enforced derating, the derate falls, holds or rises. -/
def execDerateStep (z : Fin 16) (s : State) : Host.Outcome State Fault Refusal :=
  .next (derateStep s z)

/-- THM_ACK_WRITE (R395): A write of THM_ACK sets ACKED for zones within their grace time. -/
def execThmAckWrite (r : Requester) (data : Word) (s : State) : Host.Outcome State Fault Refusal :=
  .next (settle s (regWr s r 0x60070004 fun s => (thmAck s (data.toNat % 2 ^ 16), .OK)))

end Sys2Proof.Machine
end

