-- ==== Sys2Proof/Machine/ExecTest.lean ====
section
/-! DEFINITION. The meanings of the commands of 20 Production test, field test and debug: one per row of the table. -/

namespace Sys2Proof.Machine

/-- TAP_RESET (R500): TRST_N low, or five TCK cycles with TMS high, resets the TAP and clears UNLOCKED on TRST_N. -/
def execTapReset (trst : Bool) (s : State) : Host.Outcome State Fault Refusal :=
  .next (tapReset s trst)

/-- INSTRUCTION_LOAD (R501, R504): An instruction is loaded, or replaced by BYPASS when the access policy forbids it; a scan of
its data register may follow. -/
def execInstructionLoad (x : TapLoad) (s : State) : Host.Outcome State Fault Refusal :=
  .next (instructionLoad s x.code.toNat x.scan)

/-- AUTH_CAPTURE (R502): Capture-DR of AUTH returns a new challenge and the GS00 identity. -/
def execAuthCapture (due : Bool) (s : State) : Host.Outcome State Fault Refusal :=
  .next (authCapture s due)

/-- AUTH_UPDATE (R502): Update-DR of AUTH starts the check of the key and signature. -/
def execAuthUpdate (key signature : BitVec 512) (s : State) : Host.Outcome State Fault Refusal :=
  .next (authUpdate s key.toNat signature.toNat)

/-- AUTH_CHECK_END (R502): The unlock check ends and sets UNLOCKED or counts AUTH_FAIL. -/
def execAuthCheckEnd (s : State) : Host.Outcome State Fault Refusal :=
  .next (authCheckEnd s)

/-- RELOCK (R502): A write of TST_CMD.RELOCK clears UNLOCKED. -/
def execRelock (r : Requester) (data : Word) (s : State) : Host.Outcome State Fault Refusal :=
  .next (settle s (regWr s r 0x600A0008 fun s => (relock s data.toNat, .OK)))

/-- ATB_SELECT (R506): A write of TST_ATB_SEL connects sources to the test buses, or is refused. -/
def execAtbSelect (r : Requester) (data : Word) (s : State) : Host.Outcome State Fault Refusal :=
  .next (settle s (regWr s r 0x600A0010 fun s => atbSelect s data.toNat))

/-- SELFTEST_GO (R507): TST_SST_CMD.GO starts the self-test of the satellites in TST_SST_MASK. -/
def execSelftestGo (r : Requester) (data : Word) (s : State) : Host.Outcome State Fault Refusal :=
  .next (settle s (regWr s r 0x600A0028 fun s => selftestGo s data.toNat))

/-- SATELLITE_SELFTEST_RESULT (R508): A satellite's self-test ends and its result is recorded. -/
def execSatelliteSelftestResult (n : Fin 48) (res : SstResult) (s : State) : Host.Outcome State Fault Refusal :=
  .next (sstEnd s n res)

/-- TRACE_WRITE_TIMEOUT (R511): A trace record not written within 10 µs is dropped and counted. -/
def execTraceWriteTimeout (s : State) : Host.Outcome State Fault Refusal :=
  .next (traceTimeout s)

end Sys2Proof.Machine
end

