-- ==== Sys2Proof/Machine/ExecTraction.lean ====
section
/-! DEFINITION. The meanings of the commands of 08 Traction drive and DC-link protection: one per row of the table. -/

namespace Sys2Proof.Machine

/-- TRACTION_SLOT_ENABLE (R218): A write of TRC_M_CFG.EN = 1 enables a machine slot, or is refused. -/
def execTractionSlotEnable (r : Requester) (m : Fin 4) (data : Word) (s : State) : Host.Outcome State Fault Refusal :=
  .next (settle s (regWr s r (0x60038000 + 0x80 * m.val) fun s => trcCfgWrite s m (setBit data.toNat 0)))

/-- DC_LINK_RESULT (R219): A DC-link result lands and the protection levels and the chopper duty are evaluated. -/
def execDcLinkResult (j : Fin 2) (s : State) : Host.Outcome State Fault Refusal :=
  .next (settle s (dcLinkResult s j))

/-- DC_LINK_WATCH_EXPIRY (R220): No usable DC-link result for WATCH × 10 µs makes the link stale. -/
def execDcLinkWatchExpiry (j : Fin 2) (s : State) : Host.Outcome State Fault Refusal :=
  .next (dcLinkStale s j)

/-- CHOPPER_CHECK (R226): After CHK_T of chopper on-time, the latest code is compared with the turn-on code. -/
def execChopperCheck (j : Fin 2) (s : State) : Host.Outcome State Fault Refusal :=
  .next (settle s (chopperCheck s j))

/-- CHOPPER_CLEAR_WRITE (R227): A write of TRC_DL_CHOPCLR makes the chopper available again, or is refused. -/
def execChopperClearWrite (r : Requester) (j : Fin 2) (s : State) : Host.Outcome State Fault Refusal :=
  .next (settle s (regWr s r (0x6003841C + 0x40 * j.val) fun s => chopperClear s j))

/-- SPEED_WORD_TIMER (R229): Every 10 µs the block sends a speed word per enabled slot to the Saggar. -/
def execSpeedWordTimer (s : State) : Host.Outcome State Fault Refusal :=
  .next (settle s (speedTimer s))

/-- SPEED_WORD_TIMEOUT (R229): A speed word not received for 40 µs counts as SPD_OK = 0. -/
def execSpeedWordTimeout (g : Fin 12) (s : State) : Host.Outcome State Fault Refusal :=
  .next (speedLost s g)

/-- TORQUE_SETPOINT_COMMIT (R232): A high-half write of TRC_M_TSP commits the torque request and writes its slot. -/
def execTorqueSetpointCommit (r : Requester) (m : Fin 4) (data : Word) (s : State) : Host.Outcome State Fault Refusal :=
  .next (settle s ((busWrite s r 4 (trcTsp m + 4) data.toNat).1))

/-- SPEED_SETPOINT_COMMIT (R232): A high-half write of TRC_M_SSP commits the speed request and writes its slot. -/
def execSpeedSetpointCommit (r : Requester) (m : Fin 4) (data : Word) (s : State) : Host.Outcome State Fault Refusal :=
  .next (settle s ((busWrite s r 4 (trcSsp m + 4) data.toNat).1))

/-- TORQUE_LIMIT_COMMIT (R231): A high-half write of TRC_M_TMOT or TRC_M_TGEN commits a torque limit and writes its slot. -/
def execTorqueLimitCommit (r : Requester) (m : Fin 4) (gen : Bool) (data : Word) (s : State) :
    Host.Outcome State Fault Refusal :=
  .next (settle s ((busWrite s r 4 ((if gen then trcTgen m else trcTmot m) + 4) data.toNat).1))

/-- SETPOINT_TIMEOUT (R232): No commit of the controlling setpoint for SP_TO rewrites its slot invalid and sets SP_STALE. -/
def execSetpointTimeout (m : Fin 4) (s : State) : Host.Outcome State Fault Refusal :=
  .next (setpointTimeout s m)

/-- TRACTION_OUTPUT_READ (R233): After END the block reads the torque output for the zero-torque wait of DRIVE to STANDBY. -/
def execTractionOutputRead (m : Fin 4) (s : State) : Host.Outcome State Fault Refusal :=
  .next (settle s (tractionRead s m))

/-- ZERO_TORQUE_TIMEOUT (R233): ZT_TO passes without zero torque and the block demands the safe state. -/
def execZeroTorqueTimeout (m : Fin 4) (s : State) : Host.Outcome State Fault Refusal :=
  .next (settle s (zeroTorqueTimeout s m))

end Sys2Proof.Machine
end

