-- ==== Sys2Proof/Machine/Dispatch.lean ====
section
/-! DEFINITION. The dispatch: one arm per command, each a call of its meaning. -/

namespace Sys2Proof.Machine

def exec (i : Instr) (s : State) : Host.Outcome State Fault Refusal :=
  match i with
  | .registerWrite r size addr data => Sys2Proof.Machine.execRegisterWrite r size addr data s
  | .droopStretch island cap => Sys2Proof.Machine.execDroopStretch island cap s
  | .avsRequestChange island req => Sys2Proof.Machine.execAvsRequestChange island req s
  | .clockMonitorWindowEnd bad => Sys2Proof.Machine.execClockMonitorWindowEnd bad s
  | .mtimeLoRead r => Sys2Proof.Machine.execMtimeLoRead r s
  | .mtimeHiRead r => Sys2Proof.Machine.execMtimeHiRead r s
  | .wordLowHalfWrite r addr data => Sys2Proof.Machine.execWordLowHalfWrite r addr data s
  | .wordHighHalfWrite r addr data => Sys2Proof.Machine.execWordHighHalfWrite r addr data s
  | .wordLowHalfRead r x => Sys2Proof.Machine.execWordLowHalfRead r x s
  | .wordHighHalfRead r x => Sys2Proof.Machine.execWordHighHalfRead r x s
  | .host64bitWordWrite addr data => Sys2Proof.Machine.execHost64bitWordWrite addr data s
  | .host64bitWordRead x => Sys2Proof.Machine.execHost64bitWordRead x s
  | .powerOn => Sys2Proof.Machine.execPowerOn s
  | .sysResetAssert => Sys2Proof.Machine.execSysResetAssert s
  | .sysResetRelease => Sys2Proof.Machine.execSysResetRelease s
  | .perstAssert => Sys2Proof.Machine.execPerstAssert s
  | .startStepEnd rep => Sys2Proof.Machine.execStartStepEnd rep s
  | .startLimitExpiry => Sys2Proof.Machine.execStartLimitExpiry s
  | .fabricStepTimeout => Sys2Proof.Machine.execFabricStepTimeout s
  | .modeChangeComplete => Sys2Proof.Machine.execModeChangeComplete s
  | .legGroupWrite r leg data => Sys2Proof.Machine.execLegGroupWrite r leg data s
  | .groupStart r g => Sys2Proof.Machine.execGroupStart r g s
  | .groupStop r g => Sys2Proof.Machine.execGroupStop r g s
  | .groupCommit r g => Sys2Proof.Machine.execGroupCommit r g s
  | .commitSetArrival e => Sys2Proof.Machine.execCommitSetArrival e s
  | .reloadInstant g mid => Sys2Proof.Machine.execReloadInstant g mid s
  | .triggerFire g k => Sys2Proof.Machine.execTriggerFire g k s
  | .edgeCommandDeparture leg n second => Sys2Proof.Machine.execEdgeCommandDeparture leg n second s
  | .legForceWrite r leg data => Sys2Proof.Machine.execLegForceWrite r leg data s
  | .tripSourceChange src level => Sys2Proof.Machine.execTripSourceChange src level s
  | .tripFilterSettled src => Sys2Proof.Machine.execTripFilterSettled src s
  | .tripClearRequest r g => Sys2Proof.Machine.execTripClearRequest r g s
  | .timeFrame l f => Sys2Proof.Machine.execTimeFrame l f s
  | .edgeFrame n f => Sys2Proof.Machine.execEdgeFrame n f s
  | .transitionFrame k f => Sys2Proof.Machine.execTransitionFrame k f s
  | .cutFrame l f => Sys2Proof.Machine.execCutFrame l f s
  | .dtsetFrame k f => Sys2Proof.Machine.execDtsetFrame k f s
  | .cfgWrFrame l f => Sys2Proof.Machine.execCfgWrFrame l f s
  | .cfgRdFrame l f => Sys2Proof.Machine.execCfgRdFrame l f s
  | .clearFrame l f => Sys2Proof.Machine.execClearFrame l f s
  | .calFrame l f => Sys2Proof.Machine.execCalFrame l f s
  | .resumeFrame l f => Sys2Proof.Machine.execResumeFrame l f s
  | .identReqFrame l f => Sys2Proof.Machine.execIdentReqFrame l f s
  | .aliveFrame l f => Sys2Proof.Machine.execAliveFrame l f s
  | .treportFrame l f => Sys2Proof.Machine.execTreportFrame l f s
  | .faultFrame l f => Sys2Proof.Machine.execFaultFrame l f s
  | .cfgDataFrame l f => Sys2Proof.Machine.execCfgDataFrame l f s
  | .measFrame l f => Sys2Proof.Machine.execMeasFrame l f s
  | .xrefuseFrame l f => Sys2Proof.Machine.execXrefuseFrame l f s
  | .calEchoFrame l f roundTrip => Sys2Proof.Machine.execCalEchoFrame l f roundTrip s
  | .identFrame l f => Sys2Proof.Machine.execIdentFrame l f s
  | .downLinkIdle l => Sys2Proof.Machine.execDownLinkIdle l s
  | .upLinkIdle l => Sys2Proof.Machine.execUpLinkIdle l s
  | .downLinkSilent l => Sys2Proof.Machine.execDownLinkSilent l s
  | .upLinkSilent l => Sys2Proof.Machine.execUpLinkSilent l s
  | .linkCalibration l roundTrip => Sys2Proof.Machine.execLinkCalibration l roundTrip s
  | .gsCfgWrite r n data => Sys2Proof.Machine.execGsCfgWrite r n data s
  | .gsClear r n => Sys2Proof.Machine.execGsClear r n s
  | .ldClear r k => Sys2Proof.Machine.execLdClear r k s
  | .clearAnswerTimeout l => Sys2Proof.Machine.execClearAnswerTimeout l s
  | .vposUv n => Sys2Proof.Machine.execVposUv n s
  | .vnegRange n => Sys2Proof.Machine.execVnegRange n s
  | .vposBelowReset n => Sys2Proof.Machine.execVposBelowReset n s
  | .vposArmed n => Sys2Proof.Machine.execVposArmed n s
  | .blankingEnd l hs => Sys2Proof.Machine.execBlankingEnd l hs s
  | .baselineSample n mv => Sys2Proof.Machine.execBaselineSample n mv s
  | .desatValid n mv => Sys2Proof.Machine.execDesatValid n mv s
  | .shortCircuitTrip n mv => Sys2Proof.Machine.execShortCircuitTrip n mv s
  | .softOffTimer n => Sys2Proof.Machine.execSoftOffTimer n s
  | .vdsValid k hs mv => Sys2Proof.Machine.execVdsValid k hs mv s
  | .drvUv k => Sys2Proof.Machine.execDrvUv k s
  | .permitCodeTaken l code => Sys2Proof.Machine.execPermitCodeTaken l code s
  | .permitLoss l => Sys2Proof.Machine.execPermitLoss l s
  | .crossLinkState n partnerOn hold => Sys2Proof.Machine.execCrossLinkState n partnerOn hold s
  | .crossLinkSilent n => Sys2Proof.Machine.execCrossLinkSilent n s
  | .edgePlacement l => Sys2Proof.Machine.execEdgePlacement l s
  | .partnerOffTurnOn l => Sys2Proof.Machine.execPartnerOffTurnOn l s
  | .transitionMeasured l hs taps => Sys2Proof.Machine.execTransitionMeasured l hs taps s
  | .satelliteMeasurement l ntc die => Sys2Proof.Machine.execSatelliteMeasurement l ntc die s
  | .measurementStale l die => Sys2Proof.Machine.execMeasurementStale l die s
  | .adcEnable r n data => Sys2Proof.Machine.execAdcEnable r n data s
  | .adcDisable r n data => Sys2Proof.Machine.execAdcDisable r n data s
  | .adcSwStart r n => Sys2Proof.Machine.execAdcSwStart r n s
  | .adcTriggerEvent n => Sys2Proof.Machine.execAdcTriggerEvent n s
  | .adcSwUrgent r n => Sys2Proof.Machine.execAdcSwUrgent r n s
  | .adcUrgentEvent n => Sys2Proof.Machine.execAdcUrgentEvent n s
  | .conversionEnd n microvolts => Sys2Proof.Machine.execConversionEnd n microvolts s
  | .comparatorWatchExpiry n => Sys2Proof.Machine.execComparatorWatchExpiry n s
  | .modulatorOutput k rising falling => Sys2Proof.Machine.execModulatorOutput k rising falling s
  | .modStuck k => Sys2Proof.Machine.execModStuck k s
  | .mirrorRecordRead r addr => Sys2Proof.Machine.execMirrorRecordRead r addr s
  | .fbEnable r n data => Sys2Proof.Machine.execFbEnable r n data s
  | .fbDisable r n data => Sys2Proof.Machine.execFbDisable r n data s
  | .quadratureEdge n a b => Sys2Proof.Machine.execQuadratureEdge n a b s
  | .hallStateChange n h => Sys2Proof.Machine.execHallStateChange n h s
  | .indexPulse n => Sys2Proof.Machine.execIndexPulse n s
  | .fbArm r n => Sys2Proof.Machine.execFbArm r n s
  | .fbSet r n data => Sys2Proof.Machine.execFbSet r n data s
  | .ssiFrameStart n datHigh => Sys2Proof.Machine.execSsiFrameStart n datHigh s
  | .ssiFrameEnd n bits checkLow => Sys2Proof.Machine.execSsiFrameEnd n bits checkLow s
  | .resolverRequest n => Sys2Proof.Machine.execResolverRequest n s
  | .resolverUpdate n => Sys2Proof.Machine.execResolverUpdate n s
  | .eventLatch n => Sys2Proof.Machine.execEventLatch n s
  | .pinLatch n rising => Sys2Proof.Machine.execPinLatch n rising s
  | .standstillTimeout n => Sys2Proof.Machine.execStandstillTimeout n s
  | .feedbackSlotWrite x => Sys2Proof.Machine.execFeedbackSlotWrite x s
  | .fbCntRead r n => Sys2Proof.Machine.execFbCntRead r n s
  | .emulatorEdge m => Sys2Proof.Machine.execEmulatorEdge m s
  | .engineArm r e => Sys2Proof.Machine.execEngineArm r e s
  | .engineDisarm r e => Sys2Proof.Machine.execEngineDisarm r e s
  | .engineStop r e => Sys2Proof.Machine.execEngineStop r e s
  | .engineSwap r e => Sys2Proof.Machine.execEngineSwap r e s
  | .checkEnd e => Sys2Proof.Machine.execCheckEnd e s
  | .engineTrigger e event others fired => Sys2Proof.Machine.execEngineTrigger e event others fired s
  | .budgetOverrun e => Sys2Proof.Machine.execBudgetOverrun e s
  | .leNop e ecc => Sys2Proof.Machine.execLeNop e ecc s
  | .leLd e ecc => Sys2Proof.Machine.execLeLd e ecc s
  | .leLds e ecc => Sys2Proof.Machine.execLeLds e ecc s
  | .leLdc e ecc => Sys2Proof.Machine.execLeLdc e ecc s
  | .leLdt e ecc => Sys2Proof.Machine.execLeLdt e ecc s
  | .leLdi e ecc => Sys2Proof.Machine.execLeLdi e ecc s
  | .leSt e ecc => Sys2Proof.Machine.execLeSt e ecc s
  | .leSts e ecc => Sys2Proof.Machine.execLeSts e ecc s
  | .leMov e ecc => Sys2Proof.Machine.execLeMov e ecc s
  | .leLda e ecc => Sys2Proof.Machine.execLeLda e ecc s
  | .leLdp e ecc => Sys2Proof.Machine.execLeLdp e ecc s
  | .leAddp e ecc => Sys2Proof.Machine.execLeAddp e ecc s
  | .leAdd e ecc => Sys2Proof.Machine.execLeAdd e ecc s
  | .leSub e ecc => Sys2Proof.Machine.execLeSub e ecc s
  | .leNeg e ecc => Sys2Proof.Machine.execLeNeg e ecc s
  | .leAbs e ecc => Sys2Proof.Machine.execLeAbs e ecc s
  | .leAddw e ecc => Sys2Proof.Machine.execLeAddw e ecc s
  | .leMul e ecc => Sys2Proof.Machine.execLeMul e ecc s
  | .leMulc e ecc => Sys2Proof.Machine.execLeMulc e ecc s
  | .leMulw e ecc => Sys2Proof.Machine.execLeMulw e ecc s
  | .leDiv e ecc => Sys2Proof.Machine.execLeDiv e ecc s
  | .leAsh e ecc => Sys2Proof.Machine.execLeAsh e ecc s
  | .leMin e ecc => Sys2Proof.Machine.execLeMin e ecc s
  | .leMax e ecc => Sys2Proof.Machine.execLeMax e ecc s
  | .leClamp e ecc => Sys2Proof.Machine.execLeClamp e ecc s
  | .leVlim e ecc => Sys2Proof.Machine.execLeVlim e ecc s
  | .leMac e ecc => Sys2Proof.Machine.execLeMac e ecc s
  | .leMacc e ecc => Sys2Proof.Machine.execLeMacc e ecc s
  | .leMsu e ecc => Sys2Proof.Machine.execLeMsu e ecc s
  | .leMsuc e ecc => Sys2Proof.Machine.execLeMsuc e ecc s
  | .leClra e ecc => Sys2Proof.Machine.execLeClra e ecc s
  | .leLdam e ecc => Sys2Proof.Machine.execLeLdam e ecc s
  | .leAdda e ecc => Sys2Proof.Machine.execLeAdda e ecc s
  | .leNorm e ecc => Sys2Proof.Machine.execLeNorm e ecc s
  | .leStage e ecc => Sys2Proof.Machine.execLeStage e ecc s
  | .leCmp e ecc => Sys2Proof.Machine.execLeCmp e ecc s
  | .leSel e ecc => Sys2Proof.Machine.execLeSel e ecc s
  | .leSkip e ecc => Sys2Proof.Machine.execLeSkip e ecc s
  | .leLoop e ecc => Sys2Proof.Machine.execLeLoop e ecc s
  | .leEnd e ecc => Sys2Proof.Machine.execLeEnd e ecc s
  | .leEvt e ecc => Sys2Proof.Machine.execLeEvt e ecc s
  | .leSincos e ecc => Sys2Proof.Machine.execLeSincos e ecc s
  | .lePolar e ecc => Sys2Proof.Machine.execLePolar e ecc s
  | .leClarke e ecc => Sys2Proof.Machine.execLeClarke e ecc s
  | .lePark e ecc => Sys2Proof.Machine.execLePark e ecc s
  | .leIpark e ecc => Sys2Proof.Machine.execLeIpark e ecc s
  | .leSvm e ecc => Sys2Proof.Machine.execLeSvm e ecc s
  | .leTbl e ecc => Sys2Proof.Machine.execLeTbl e ecc s
  | .leCommit e ecc => Sys2Proof.Machine.execLeCommit e ecc s
  | .tractionSlotEnable r m data => Sys2Proof.Machine.execTractionSlotEnable r m data s
  | .dcLinkResult j => Sys2Proof.Machine.execDcLinkResult j s
  | .dcLinkWatchExpiry j => Sys2Proof.Machine.execDcLinkWatchExpiry j s
  | .chopperCheck j => Sys2Proof.Machine.execChopperCheck j s
  | .chopperClearWrite r j => Sys2Proof.Machine.execChopperClearWrite r j s
  | .speedWordTimer => Sys2Proof.Machine.execSpeedWordTimer s
  | .speedWordTimeout g => Sys2Proof.Machine.execSpeedWordTimeout g s
  | .torqueSetpointCommit r m data => Sys2Proof.Machine.execTorqueSetpointCommit r m data s
  | .speedSetpointCommit r m data => Sys2Proof.Machine.execSpeedSetpointCommit r m data s
  | .torqueLimitCommit r m gen data => Sys2Proof.Machine.execTorqueLimitCommit r m gen data s
  | .setpointTimeout m => Sys2Proof.Machine.execSetpointTimeout m s
  | .tractionOutputRead m => Sys2Proof.Machine.execTractionOutputRead m s
  | .zeroTorqueTimeout m => Sys2Proof.Machine.execZeroTorqueTimeout m s
  | .actuatorEnable r m data => Sys2Proof.Machine.execActuatorEnable r m data s
  | .actuatorDisable r m data => Sys2Proof.Machine.execActuatorDisable r m data s
  | .actuatorSample m => Sys2Proof.Machine.execActuatorSample m s
  | .commutation m => Sys2Proof.Machine.execCommutation m s
  | .actRun r m => Sys2Proof.Machine.execActRun r m s
  | .actStop r m => Sys2Proof.Machine.execActStop r m s
  | .actFloat r m => Sys2Proof.Machine.execActFloat r m s
  | .actClr r m => Sys2Proof.Machine.execActClr r m s
  | .alignEnd m => Sys2Proof.Machine.execAlignEnd m s
  | .forcedStep m => Sys2Proof.Machine.execForcedStep m s
  | .rampTimeout m => Sys2Proof.Machine.execRampTimeout m s
  | .retryWaitEnd m => Sys2Proof.Machine.execRetryWaitEnd m s
  | .speedLoopTick m => Sys2Proof.Machine.execSpeedLoopTick m s
  | .listenTimeout m => Sys2Proof.Machine.execListenTimeout m s
  | .belowRestart m => Sys2Proof.Machine.execBelowRestart m s
  | .coastTimeout m => Sys2Proof.Machine.execCoastTimeout m s
  | .actEventPop r m => Sys2Proof.Machine.execActEventPop r m s
  | .converterEnable r m data => Sys2Proof.Machine.execConverterEnable r m data s
  | .converterDisable r m data => Sys2Proof.Machine.execConverterDisable r m data s
  | .cnvStart r m => Sys2Proof.Machine.execCnvStart r m s
  | .cnvStop r m => Sys2Proof.Machine.execCnvStop r m s
  | .cnvClr r m => Sys2Proof.Machine.execCnvClr r m s
  | .softStartRampStep m => Sys2Proof.Machine.execSoftStartRampStep m s
  | .startCheck m => Sys2Proof.Machine.execStartCheck m s
  | .outputVoltageResult m => Sys2Proof.Machine.execOutputVoltageResult m s
  | .currentLimitEvaluation unit => Sys2Proof.Machine.execCurrentLimitEvaluation unit s
  | .hiccupEnd m => Sys2Proof.Machine.execHiccupEnd m s
  | .tryReset m => Sys2Proof.Machine.execTryReset m s
  | .releaseHeldTimeout m => Sys2Proof.Machine.execReleaseHeldTimeout m s
  | .phaseShed m => Sys2Proof.Machine.execPhaseShed m s
  | .converterOutputRead m => Sys2Proof.Machine.execConverterOutputRead m s
  | .chargerEnable r data => Sys2Proof.Machine.execChargerEnable r data s
  | .pilotEdge rise => Sys2Proof.Machine.execPilotEdge rise s
  | .pilotSteady => Sys2Proof.Machine.execPilotSteady s
  | .pilotResult => Sys2Proof.Machine.execPilotResult s
  | .proximityResult => Sys2Proof.Machine.execProximityResult s
  | .plugDebounce plugged => Sys2Proof.Machine.execPlugDebounce plugged s
  | .mainsReport => Sys2Proof.Machine.execMainsReport s
  | .mainsZeroCrossTimeout => Sys2Proof.Machine.execMainsZeroCrossTimeout s
  | .mainsQualified => Sys2Proof.Machine.execMainsQualified s
  | .qualifyTimeout => Sys2Proof.Machine.execQualifyTimeout s
  | .busReady => Sys2Proof.Machine.execBusReady s
  | .pulseEnd => Sys2Proof.Machine.execPulseEnd s
  | .restEnd ocv early => Sys2Proof.Machine.execRestEnd ocv early s
  | .impedanceWindowEnd millivolts milliamps => Sys2Proof.Machine.execImpedanceWindowEnd millivolts milliamps s
  | .chargerOutputRead unit => Sys2Proof.Machine.execChargerOutputRead unit s
  | .chargeTermination => Sys2Proof.Machine.execChargeTermination s
  | .safetyTimerEvaluation => Sys2Proof.Machine.execSafetyTimerEvaluation s
  | .handoverComplete => Sys2Proof.Machine.execHandoverComplete s
  | .sessionResume => Sys2Proof.Machine.execSessionResume s
  | .waitTimeout => Sys2Proof.Machine.execWaitTimeout s
  | .exportReady => Sys2Proof.Machine.execExportReady s
  | .exportSetpointWrite r data => Sys2Proof.Machine.execExportSetpointWrite r data s
  | .exportSetpointTimeout => Sys2Proof.Machine.execExportSetpointTimeout s
  | .boostReady => Sys2Proof.Machine.execBoostReady s
  | .safetyInputFiltered n high => Sys2Proof.Machine.execSafetyInputFiltered n high s
  | .discrepancyTimeout p => Sys2Proof.Machine.execDiscrepancyTimeout p s
  | .ov3Comparator j on => Sys2Proof.Machine.execOv3Comparator j on s
  | .saggarTableWrite r g asc data bad => Sys2Proof.Machine.execSaggarTableWrite r g asc data bad s
  | .safeOutputRequest r data => Sys2Proof.Machine.execSafeOutputRequest r data s
  | .safeOutputTest n => Sys2Proof.Machine.execSafeOutputTest n s
  | .testPulseEnd pass => Sys2Proof.Machine.execTestPulseEnd pass s
  | .safeOutputOverload n => Sys2Proof.Machine.execSafeOutputOverload n s
  | .safeOutputOpen n => Sys2Proof.Machine.execSafeOutputOpen n s
  | .contactorDelayExpiry => Sys2Proof.Machine.execContactorDelayExpiry s
  | .parkSpeedConfirmed => Sys2Proof.Machine.execParkSpeedConfirmed s
  | .heartbeatWrite r data => Sys2Proof.Machine.execHeartbeatWrite r data s
  | .heartbeatTimeout => Sys2Proof.Machine.execHeartbeatTimeout s
  | .safetyCoreDemand r data => Sys2Proof.Machine.execSafetyCoreDemand r data s
  | .releaseFirstKey r groups dev => Sys2Proof.Machine.execReleaseFirstKey r groups dev s
  | .releaseSecondKey r groups dev => Sys2Proof.Machine.execReleaseSecondKey r groups dev s
  | .releaseWindowExpiry => Sys2Proof.Machine.execReleaseWindowExpiry s
  | .fjopFrameArrival c frame => Sys2Proof.Machine.execFjopFrameArrival c frame s
  | .fjopReceiveTimeout c => Sys2Proof.Machine.execFjopReceiveTimeout c s
  | .fjopReset r c => Sys2Proof.Machine.execFjopReset r c s
  | .fjopSend r c => Sys2Proof.Machine.execFjopSend r c s
  | .fjopSendTimeout c => Sys2Proof.Machine.execFjopSendTimeout c s
  | .copyTransaction n checker x icnt => Sys2Proof.Machine.execCopyTransaction n checker x icnt s
  | .retireSignature n checker crc icnt => Sys2Proof.Machine.execRetireSignature n checker crc icnt s
  | .comparatorTimeout n icnt => Sys2Proof.Machine.execComparatorTimeout n icnt s
  | .interruptNotice n id main chk => Sys2Proof.Machine.execInterruptNotice n id main chk s
  | .agreementReport n main chk => Sys2Proof.Machine.execAgreementReport n main chk s
  | .asyncValueRead n main chk => Sys2Proof.Machine.execAsyncValueRead n main chk s
  | .valueResample n main chk icnt => Sys2Proof.Machine.execValueResample n main chk icnt s
  | .localParityError n icnt => Sys2Proof.Machine.execLocalParityError n icnt s
  | .debugHaltRequest n main chk => Sys2Proof.Machine.execDebugHaltRequest n main chk s
  | .debugAction n act replay => Sys2Proof.Machine.execDebugAction n act replay s
  | .debugResume n => Sys2Proof.Machine.execDebugResume n s
  | .feedMeasurement va vb chainLow => Sys2Proof.Machine.execFeedMeasurement va vb chainLow s
  | .switchOverCheck low => Sys2Proof.Machine.execSwitchOverCheck low s
  | .pwrFeedDrill r => Sys2Proof.Machine.execPwrFeedDrill r s
  | .feedDrillEnd => Sys2Proof.Machine.execFeedDrillEnd s
  | .dipStart vsup => Sys2Proof.Machine.execDipStart vsup s
  | .dipEnd lowest => Sys2Proof.Machine.execDipEnd lowest s
  | .storeWritesResume => Sys2Proof.Machine.execStoreWritesResume s
  | .powerLossSequence => Sys2Proof.Machine.execPowerLossSequence s
  | .supplyRestoredStart => Sys2Proof.Machine.execSupplyRestoredStart s
  | .island41PowerLoss => Sys2Proof.Machine.execIsland41PowerLoss s
  | .holdOkChange ok => Sys2Proof.Machine.execHoldOkChange ok s
  | .pmbusAcknowledge => Sys2Proof.Machine.execPmbusAcknowledge s
  | .pmbusAckTimeout => Sys2Proof.Machine.execPmbusAckTimeout s
  | .pmbusAlert statusWord => Sys2Proof.Machine.execPmbusAlert statusWord s
  | .vidSettled => Sys2Proof.Machine.execVidSettled s
  | .clockDividerWrite r clu data => Sys2Proof.Machine.execClockDividerWrite r clu data s
  | .railLost => Sys2Proof.Machine.execRailLost s
  | .powerStateRequest r data wake => Sys2Proof.Machine.execPowerStateRequest r data wake s
  | .participantAnswer p => Sys2Proof.Machine.execParticipantAnswer p s
  | .pairAnswer n data => Sys2Proof.Machine.execPairAnswer n data s
  | .pairAnswerTimeout n => Sys2Proof.Machine.execPairAnswerTimeout n s
  | .delayTimeout p => Sys2Proof.Machine.execDelayTimeout p s
  | .wakePinEdge w rise => Sys2Proof.Machine.execWakePinEdge w rise s
  | .canActivityWake n => Sys2Proof.Machine.execCanActivityWake n s
  | .wakeTimerExpiry => Sys2Proof.Machine.execWakeTimerExpiry s
  | .railWakeTimeout => Sys2Proof.Machine.execRailWakeTimeout s
  | .railRetry => Sys2Proof.Machine.execRailRetry s
  | .retentionRailDrop b => Sys2Proof.Machine.execRetentionRailDrop b s
  | .retentionBankClear r high data => Sys2Proof.Machine.execRetentionBankClear r high data s
  | .bankZeroed b => Sys2Proof.Machine.execBankZeroed b s
  | .domainPowerUp d => Sys2Proof.Machine.execDomainPowerUp d s
  | .thermalEvaluation td => Sys2Proof.Machine.execThermalEvaluation td s
  | .zonePendingEnd => Sys2Proof.Machine.execZonePendingEnd s
  | .graceEnd z => Sys2Proof.Machine.execGraceEnd z s
  | .derateStep z => Sys2Proof.Machine.execDerateStep z s
  | .thmAckWrite r data => Sys2Proof.Machine.execThmAckWrite r data s
  | .sqTailDoorbell ring value => Sys2Proof.Machine.execSqTailDoorbell ring value s
  | .cqHeadDoorbell ring value => Sys2Proof.Machine.execCqHeadDoorbell ring value s
  | .tlmHeadDoorbell value => Sys2Proof.Machine.execTlmHeadDoorbell value s
  | .evtHeadDoorbell value => Sys2Proof.Machine.execEvtHeadDoorbell value s
  | .descriptorFetch ring desc => Sys2Proof.Machine.execDescriptorFetch ring desc s
  | .acceptanceCommitted ring => Sys2Proof.Machine.execAcceptanceCommitted ring s
  | .commandStart ring => Sys2Proof.Machine.execCommandStart ring s
  | .notBeforeReached ring => Sys2Proof.Machine.execNotBeforeReached ring s
  | .notAfterExpiry ring => Sys2Proof.Machine.execNotAfterExpiry ring s
  | .commandCompletion => Sys2Proof.Machine.execCommandCompletion s
  | .irqGapExpiry k => Sys2Proof.Machine.execIrqGapExpiry k s
  | .dmaError k reason => Sys2Proof.Machine.execDmaError k reason s
  | .busMasterDisable => Sys2Proof.Machine.execBusMasterDisable s
  | .ringResetWrite r ring => Sys2Proof.Machine.execRingResetWrite r ring s
  | .hostStartCold r => Sys2Proof.Machine.execHostStartCold r s
  | .hostStartWarm r => Sys2Proof.Machine.execHostStartWarm r s
  | .telemetryRead item torn => Sys2Proof.Machine.execTelemetryRead item torn s
  | .jnlWindowSelect r index => Sys2Proof.Machine.execJnlWindowSelect r index s
  | .nop ring seq => Sys2Proof.Machine.execNop ring seq s
  | .abort ring seq => Sys2Proof.Machine.execAbort ring seq s
  | .setMode ring seq => Sys2Proof.Machine.execSetMode ring seq s
  | .start ring seq => Sys2Proof.Machine.execStart ring seq s
  | .setPower ring seq => Sys2Proof.Machine.execSetPower ring seq s
  | .feedDrill ring seq => Sys2Proof.Machine.execFeedDrill ring seq s
  | .throttleAck ring seq => Sys2Proof.Machine.execThrottleAck ring seq s
  | .jnlMark ring seq => Sys2Proof.Machine.execJnlMark ring seq s
  | .regWrite ring seq => Sys2Proof.Machine.execRegWrite ring seq s
  | .regRead ring seq => Sys2Proof.Machine.execRegRead ring seq s
  | .wordWrite ring seq => Sys2Proof.Machine.execWordWrite ring seq s
  | .torqueSp ring seq => Sys2Proof.Machine.execTorqueSp ring seq s
  | .speedSp ring seq => Sys2Proof.Machine.execSpeedSp ring seq s
  | .torqueLim ring seq => Sys2Proof.Machine.execTorqueLim ring seq s
  | .actSpeedSp ring seq => Sys2Proof.Machine.execActSpeedSp ring seq s
  | .voutSp ring seq => Sys2Proof.Machine.execVoutSp ring seq s
  | .chargeSp ring seq => Sys2Proof.Machine.execChargeSp ring seq s
  | .exportSp ring seq => Sys2Proof.Machine.execExportSp ring seq s
  | .accessorySp ring seq => Sys2Proof.Machine.execAccessorySp ring seq s
  | .groupRun ring seq => Sys2Proof.Machine.execGroupRun ring seq s
  | .tripClear ring seq => Sys2Proof.Machine.execTripClear ring seq s
  | .engineCmd ring seq => Sys2Proof.Machine.execEngineCmd ring seq s
  | .satClear ring seq => Sys2Proof.Machine.execSatClear ring seq s
  | .chopClear ring seq => Sys2Proof.Machine.execChopClear ring seq s
  | .actCmd ring seq => Sys2Proof.Machine.execActCmd ring seq s
  | .cnvCmd ring seq => Sys2Proof.Machine.execCnvCmd ring seq s
  | .fjopFrame ring seq data => Sys2Proof.Machine.execFjopFrame ring seq data s
  | .canSend ring seq data idle => Sys2Proof.Machine.execCanSend ring seq data idle s
  | .fabSend ring seq data => Sys2Proof.Machine.execFabSend ring seq data s
  | .telemCfg ring seq => Sys2Proof.Machine.execTelemCfg ring seq s
  | .jnlRead ring seq => Sys2Proof.Machine.execJnlRead ring seq s
  | .imageWrite ring seq data back => Sys2Proof.Machine.execImageWrite ring seq data back s
  | .imageActivate ring seq => Sys2Proof.Machine.execImageActivate ring seq s
  | .satSelftest ring seq => Sys2Proof.Machine.execSatSelftest ring seq s
  | .portSignalDetected p => Sys2Proof.Machine.execPortSignalDetected p s
  | .portUp p crossed delay neighbour fixed eq0 eq1 margin => Sys2Proof.Machine.execPortUp p crossed delay neighbour fixed eq0 eq1 margin s
  | .trainingTimeout p => Sys2Proof.Machine.execTrainingTimeout p s
  | .portDown p x => Sys2Proof.Machine.execPortDown p x s
  | .fragmentReceived p bytes bad => Sys2Proof.Machine.execFragmentReceived p bytes bad s
  | .dataFrame => Sys2Proof.Machine.execDataFrame s
  | .fjopFabricFrame => Sys2Proof.Machine.execFjopFabricFrame s
  | .fabricTimeFrame p estimate hops => Sys2Proof.Machine.execFabricTimeFrame p estimate hops s
  | .discFrame p ring next west anchor => Sys2Proof.Machine.execDiscFrame p ring next west anchor s
  | .rosterFrame p ring stations provisional => Sys2Proof.Machine.execRosterFrame p ring stations provisional s
  | .announceFrame p src id hops east west => Sys2Proof.Machine.execAnnounceFrame p src id hops east west s
  | .statusFrame p src east west => Sys2Proof.Machine.execStatusFrame p src east west s
  | .discoveryTimeout pair => Sys2Proof.Machine.execDiscoveryTimeout pair s
  | .rosterTimer pair => Sys2Proof.Machine.execRosterTimer pair s
  | .timeFrameTimer => Sys2Proof.Machine.execTimeFrameTimer s
  | .ringTimeTimeout pair => Sys2Proof.Machine.execRingTimeTimeout pair s
  | .statusFrameTimer => Sys2Proof.Machine.execStatusFrameTimer s
  | .admissionRelease pair => Sys2Proof.Machine.execAdmissionRelease pair s
  | .fabTxqTail r c data => Sys2Proof.Machine.execFabTxqTail r c data s
  | .fabricTxComplete c waited => Sys2Proof.Machine.execFabricTxComplete c waited s
  | .fabRxqAck r c data => Sys2Proof.Machine.execFabRxqAck r c data s
  | .fabWakeCommand r => Sys2Proof.Machine.execFabWakeCommand r s
  | .fabricWakeBurst p => Sys2Proof.Machine.execFabricWakeBurst p s
  | .canModeWrite r n data busy => Sys2Proof.Machine.execCanModeWrite r n data busy s
  | .busIntegrationEnd n => Sys2Proof.Machine.execBusIntegrationEnd n s
  | .canFrameReceived n f => Sys2Proof.Machine.execCanFrameReceived n f s
  | .filterWalkEnd n => Sys2Proof.Machine.execFilterWalkEnd n s
  | .canBusOff n => Sys2Proof.Machine.execCanBusOff n s
  | .canRecover r n => Sys2Proof.Machine.execCanRecover r n s
  | .busOffRecoveryEnd n => Sys2Proof.Machine.execBusOffRecoveryEnd n s
  | .filterCommit r n => Sys2Proof.Machine.execFilterCommit r n s
  | .canTxRequest r n half data idle => Sys2Proof.Machine.execCanTxRequest r n half data idle s
  | .canTxAbort r n half data => Sys2Proof.Machine.execCanTxAbort r n half data s
  | .canAttemptEnd n how => Sys2Proof.Machine.execCanAttemptEnd n how s
  | .canTxCompletion n => Sys2Proof.Machine.execCanTxCompletion n s
  | .canRxqAck r n q data => Sys2Proof.Machine.execCanRxqAck r n q data s
  | .safetyBufferWrite c idle => Sys2Proof.Machine.execSafetyBufferWrite c idle s
  | .canReceiveError n e heavy => Sys2Proof.Machine.execCanReceiveError n e heavy s
  | .canProtocolException n => Sys2Proof.Machine.execCanProtocolException n s
  | .tapReset trst => Sys2Proof.Machine.execTapReset trst s
  | .instructionLoad x => Sys2Proof.Machine.execInstructionLoad x s
  | .authCapture due => Sys2Proof.Machine.execAuthCapture due s
  | .authUpdate key signature => Sys2Proof.Machine.execAuthUpdate key signature s
  | .authCheckEnd => Sys2Proof.Machine.execAuthCheckEnd s
  | .relock r data => Sys2Proof.Machine.execRelock r data s
  | .atbSelect r data => Sys2Proof.Machine.execAtbSelect r data s
  | .selftestGo r data => Sys2Proof.Machine.execSelftestGo r data s
  | .satelliteSelftestResult n res => Sys2Proof.Machine.execSatelliteSelftestResult n res s
  | .traceWriteTimeout => Sys2Proof.Machine.execTraceWriteTimeout s
  | .discrepancyHoldEnd p => Sys2Proof.Machine.execDiscrepancyHoldEnd p s
  | .leavingReset n => Sys2Proof.Machine.execLeavingReset n s
  | .vposUvCleared n => Sys2Proof.Machine.execVposUvCleared n s
  | .vnegRangeCleared n => Sys2Proof.Machine.execVnegRangeCleared n s
  | .drvUvCleared k => Sys2Proof.Machine.execDrvUvCleared k s
  | .perstRelease => Sys2Proof.Machine.execPerstRelease s
  | .busMasterEnable => Sys2Proof.Machine.execBusMasterEnable s
  | .pcieLinkUp speed width => Sys2Proof.Machine.execPcieLinkUp speed width s

end Sys2Proof.Machine
end

