-- ==== Sys2Proof/Machine/Flags.lean ====
section
/-! DEFINITION. The status flags that rules about the whole device speak of, read from the registers that hold them. -/

namespace Sys2Proof.Machine

/-- The device latch of the Saggar (R312). -/
def State.devLatched (s : State) : Bool := s.flag SAF_STAT_DEV_LATCH

/-- Island 32 holds a fault of a satellite, or of a channel of an LV leg (R122). -/
def State.satFault (s : State) (n : Nat) : Bool := s.flag (GS_STAT_FAULT n)
def State.drvFault (s : State) (k : Nat) (hs : Bool) : Bool := s.flag (if hs then LD_STAT_FAULT_HS k else LD_STAT_FAULT_LS k)

/-- A mode change runs (R48). -/
def State.modeChanging (s : State) : Bool := s.flag PWR_MODE_CHANGING

end Sys2Proof.Machine
end

