-- ==== Sys2Proof/Safety.lean ====
section
/-! DEFINITION. What counts as a sound state and as a safe step, in the terms the statements use. -/

namespace Sys2Proof.Machine

/-- The keys of a table rise strictly. -/
def Tbl.rising : Tbl α → Bool
  | [] => true
  | [_] => true
  | (k, _) :: (k', v') :: t => decide (k < k') && Tbl.rising ((k', v') :: t)

/-- The register file names no field twice, and the memories stand in their canonical form. -/
def State.storageWf (s : State) : Bool := Tbl.rising s.regs && Memory.wf s.bytes && Tbl.wf (0 : Word36) s.words

/-- A command's own part of the step leaves the queue and the ordering variant alone and keeps the storage sound. -/
def Keeps (s t : State) : Prop :=
  t.pending = s.pending ∧ t.variant = s.variant ∧ (s.storageWf = true → t.storageWf = true)

/-- Nothing outside a command's own block is due in this step: the device is in state RUN of its power states and not on its way into
DOZE, no start is called for, and no actuator STOP waits. -/
def State.quiet (s : State) : Bool := psState s = 0 && !called s && !stopsWait s && !toDoze s

/-- Every domain is powered, and no bank of the register file is lost or being zeroed (R383, R384). -/
def State.allUp (s : State) : Bool := s.sup.parked = 0 && !(lostBanks s).testBit 34 && !s.sup.zeroing.testBit 34

/-- Both channels of an HV leg drive their gates on. -/
def State.shootThrough (s : State) (leg : Nat) : Bool :=
  (s.rxOf (2 * leg)).ch.gate = .on && (s.rxOf (2 * leg + 1)).ch.gate = .on

/-! ### One instruction of a loop engine -/

/-- Engine `e` is in RUN at the instruction `op`, which fits the declared count, of a program that is not one of the library. -/
def State.atOp (s : State) (e : Nat) (op : LeOp) : Prop :=
  s.fld (LE_STAT_STATE e) = 3 ∧ libId s e = none ∧ budgetOut s e = false ∧ leDecode (s.word (progAddr e (s.engOf e).pc)).toNat = some op

/-- The fields of LE_STAT and its counters that an instruction may set as flags: SAT, LIM, ALIGN, SAT_RUNS. -/
def leFlagKeys (e : Nat) : List Nat :=
  [(LE_STAT_SAT e).key, (LE_STAT_LIM e).key, (LE_STAT_ALIGN e).key, (LE_CNT_MISC_SAT_RUNS e).key]

/-- Engine `e` has run `op` and gone on: nothing outside the engine has changed but its own flags, its charge is counted, and out of
loops its pc has moved to the next word. -/
def leRan (s t : State) (e : Nat) (op : LeOp) : Prop :=
  (∀ f : Fld, f.key ∉ leFlagKeys e → t.fld f = s.fld f) ∧ (∀ e', e' ≠ e → t.engOf e' = s.engOf e') ∧ t.words = s.words ∧
    t.bytes = s.bytes ∧ t.out = s.out ∧ t.grp = s.grp ∧ (t.engOf e).cycles = (s.engOf e).cycles + op.charge ∧
    ((s.engOf e).loops = [] → (t.engOf e).pc = (s.engOf e).pc + 1)

/-- Of the engine's mantissas and accumulators only mantissa `d` has changed, to `v`; its pointers stand as `p`. -/
def leSet (s t : State) (e d : Nat) (v : Int) (p : Tbl (BitVec 12)) : Prop :=
  (t.engOf e).mant d = v ∧ (∀ r, r ≠ d → (t.engOf e).mant r = (s.engOf e).mant r) ∧ (t.engOf e).a = (s.engOf e).a ∧ (t.engOf e).p = p

/-- Of the engine's mantissas and accumulators only accumulator `n` has changed, to `v`. -/
def leSetA (s t : State) (e n : Nat) (v : Int) : Prop :=
  (t.engOf e).accu n = v ∧ (∀ r, r ≠ n → (t.engOf e).accu r = (s.engOf e).accu r) ∧ (t.engOf e).m = (s.engOf e).m

/-- Saturation to a mantissa and to an accumulator (R195). -/
def satM (v : Int) : Int := clampInt minM maxM v
def satA (v : Int) : Int := clampInt minA maxA v

/-! ### Host commands -/

/-- Host commands run: no start is under way (R62, R65). -/
def State.runs (s : State) : Bool := s.ready || s.exhausted

/-- The command `seq` of ring `r`, of opcode `op` and with ARGS `a`, has started and its operation is due. -/
def State.hostCmd (s : State) (r seq op : Nat) (a : List Byte) : Prop :=
  s.runs = true ∧ ∃ c, startedCmd s r seq op = some c ∧ c.args = a

/-- The newest result recorded is that of the command `seq` of ring `r`, at module time `t`. -/
def State.ended (s : State) (r seq t : Nat) (st : Status) (res : Option Nat) : Prop :=
  s.results.getLast? = some { ref := ⟨r, seq⟩, status := st, result := res, at_ := t }

/-- The command `seq` of ring `r` waits for a completion point. -/
def State.awaits (s : State) (w : WaitOn) (r seq : Nat) : Prop := (w, (⟨r, seq⟩ : CmdRef)) ∈ s.waits

end Sys2Proof.Machine
end

