-- ==== Sys2Proof/Certificates/Slice0/Obligations.lean ====
section
/-! DEFINITION. The statements for the provers. -/

open Sys2Proof Sys2Proof.Machine

/-- Step on a queue with a command at its front is exec of that command with the queue's rest, and no command stops. -/
def Obligations.StepRunsFrontCommand : Prop :=
  ∀ (c : Instr) (q : List Instr) (s : State), step { s with pending := c :: q } = exec c { s with pending := q } ∧
    ∃ t, exec c s = .next t

/-- A step on an empty queue lets one tick pass (log 2): in RETAIN the tick counts toward the wake, otherwise module time counts. -/
def Obligations.IdleStepIsOneTick : Prop :=
  ∀ s : State, s.pending = [] →
    ((∀ l : Fin 60, (s.rxOf l).upBusy = 0) →
      (s.fld PWR_PS_STAT_STATE = 2 → step s = .next { s with sup := { s.sup with asleep := s.sup.asleep + 1 } }) ∧
      (s.fld PWR_PS_STAT_STATE ≠ 2 → s.timeRuns = false → step s = .next s) ∧
      (s.quiet = true → s.timeRuns = true → (∀ g : Fin 12, (s.grpOf g).due = false) →
        ((s.mtime + 1) % 2 ^ 64 % 40 ≠ 0 ∨ ∀ c : Fin 4, s.flag (FB_EXC_EN c) = false) → s.flag CHG_CFG_EN = false →
        step s = .next { s with mtime := (s.mtime + 1) % 2 ^ 64 })) ∧
    (∀ l : Fin 60, 0 < (s.rxOf l).upBusy → (∀ k : Fin 60, k ≠ l → (s.rxOf k).upBusy = 0) → s.fld PWR_PS_STAT_STATE ≠ 2 →
      s.timeRuns = false → step s = .next (upTick s l))

/-- Every step keeps the storage sound, the variant fixed, and takes just the front command from the queue. -/
def Obligations.StepKeepsStorage : Prop :=
  ∀ s t : State, s.storageWf = true → step s = .next t →
    t.storageWf = true ∧ t.variant = s.variant ∧ t.pending = s.pending.tail

/-- The state after reset. Where the spec gives no reset value, the value is the model's choice (logs 5, 6, 7). -/
def Obligations.ResetIsSound : Prop :=
  State.reset.storageWf = true ∧ State.reset.pending = [] ∧ State.reset.mode = 0 ∧
    (∀ f : Fld, State.reset.fld f = f.cold) ∧ (∀ a : Nat, State.reset.word a = 0) ∧ (∀ a : Nat, State.reset.byte a = State.memDefault)

/-- POWER_ON (R53). -/
def Obligations.PowerOnBeginsColdStart : Prop :=
  (∀ s : State, s.fld PWR_START_STAT_STEP = 0 → s.sup.lost = false → ∃ t, exec .powerOn s = .next (settle s t) ∧ t.coldWant = some 0 ∧
    t.regs = s.regs ∧ t.sup = s.sup ∧ (∀ k : Fin 12, s.linkFitted (48 + k.val) = true → (t.rxOf (48 + k.val)).state = .orphan) ∧
    ∀ l : Fin 48, t.rxOf l.val = s.rxOf l.val) ∧
  (∀ s : State, s.fld PWR_START_STAT_STEP ≠ 0 ∨ s.sup.lost = true → exec .powerOn s = .next (settle s s)) ∧
  ∃ t, exec .powerOn State.reset = .next t ∧ t.mode = 0 ∧ t.fld PWR_START_STAT_KIND = 1 ∧ t.fld PWR_START_STAT_CAUSE = 0 ∧
    t.fld PWR_START_STAT_STEP = 1 ∧ t.fld PWR_START_STAT_PREV_MODE = 0 ∧ t.fld PWR_START_CNT_START_TOTAL = 1 ∧
    ∀ k : Fin 12, t.linkFitted (48 + k.val) = true → (t.rxOf (48 + k.val)).state = .orphan

/-- R38: who may write a SAF_ register. -/
def Obligations.SafetyRegistersOnlyByPair11 : Prop :=
  ∀ (s : State) (r : Requester) (a d : Word), s.quiet = true → s.allUp = true →
    blkAt a.toNat = some .saf → (rowsAt a.toNat).isEmpty = false → a.toNat % 4 = 0 → inFjopBuf a.toNat = false →
    (r ≠ .pair 11 → r ≠ .host → exec (.registerWrite r 2 a d) s = .next (((s.put SAF_WVIOL_COUNT
        (min (s.fld SAF_WVIOL_COUNT + 1) (2 ^ SAF_WVIOL_COUNT.width - 1))).put
        SAF_WVIOL_LAST (match r with | .pair n => n.val | _ => 12)).emit (.busError r a.toNat))) ∧
    (r = .host → s.hostBlind = false → exec (.registerWrite r 2 a d) s = .next ((((s.put SAF_WVIOL_COUNT
        (min (s.fld SAF_WVIOL_COUNT + 1) (2 ^ SAF_WVIOL_COUNT.width - 1))).put SAF_WVIOL_LAST 12).emit (.busError r a.toNat)).refuse hostErr
        .HOST_WR_DENIED)) ∧
    (r = .pair 11 → exec (.registerWrite r 2 a d) s = .next (settle s (safWrite s a.toNat d.toNat).1))

/-- R40 on table RAM: stage, then commit. -/
def Obligations.WordIsWrittenInHalves : Prop :=
  ∀ (s : State) (r : Requester) (a lo hi : Word), s.quiet = true → s.sup.parked = 0 → r ≠ .host →
    0x50000000 ≤ a.toNat → a.toNat < 0x50400000 → a.toNat % 8 = 0 → bankShut s a.toNat = false →
    ∃ t u, exec (.wordLowHalfWrite r a lo) s = .next t ∧ exec (.wordHighHalfWrite r a hi) t = .next u ∧
      (∀ b, t.word b = s.word b) ∧ u.word a.toNat = BitVec.ofNat 36 (lo.toNat + hi.toNat % 16 * 2 ^ 32) ∧
      (∀ b, b ≠ a.toNat → u.word b = s.word b) ∧
      ((s.viewOf r).staged = none → ∃ v, exec (.wordHighHalfWrite r a hi) s = .next v ∧
        v.word a.toNat = BitVec.ofNat 36 ((s.word a.toNat).toNat % 2 ^ 32 + hi.toNat % 16 * 2 ^ 32))

/-- R41 on table RAM: the pair of reads is of one word, whatever is written to it between them. -/
def Obligations.WordIsReadInHalves : Prop :=
  ∀ (s : State) (r : Requester) (a : Word) (w : Word36), s.sup.parked = 0 → r ≠ .host →
    0x50000000 ≤ a.toNat → a.toNat < 0x50400000 → a.toNat % 8 = 0 → bankShut s a.toNat = false →
    (∀ ecc : Ecc, ∃ t u, exec (.wordLowHalfRead r ⟨a, .clean⟩) s = .next t ∧
      t.out = s.out ++ [.data r a.toNat ((s.word a.toNat).toNat % 2 ^ 32)] ∧ t.words = s.words ∧
      exec (.wordHighHalfRead r ⟨a, ecc⟩) (t.setWord a.toNat w) = .next u ∧
      u.out = t.out ++ [.data r (a.toNat + 4) (((s.word a.toNat).signExtend 64).toNat / 2 ^ 32)]) ∧
    ((s.viewOf r).high = none → exec (.wordHighHalfRead r ⟨a, .clean⟩) s =
      .next (s.emit (.data r (a.toNat + 4) (((s.word a.toNat).signExtend 64).toNat / 2 ^ 32)))) ∧
    exec (.wordLowHalfRead r ⟨a, .lostTable⟩) s = .next (s.emit (.busError r a.toNat))

/-- R40, R41, R401: host 64-bit accesses to the words of TRC_. -/
def Obligations.HostSixtyFourBitAccess : Prop :=
  ∀ (s : State) (m : Fin 4) (d : BitVec 64) (ecc : Ecc),
    (s.hostBlind = true → exec (.host64bitWordRead ⟨BitVec.ofNat 32 (trcTsp m), ecc⟩) s = .next s ∧
      exec (.host64bitWordWrite (BitVec.ofNat 32 (trcTsp m)) d) s = .next s) ∧
    (s.hostBlind = false → s.allUp = true →
    (exec (.host64bitWordRead ⟨BitVec.ofNat 32 (trcTsp m), ecc⟩) s =
      .next (s.emit (.data .host (trcTsp m) ((s.word (trcTsp m)).signExtend 64).toNat))) ∧
    (s.ready = true → s.mode = 1 → s.flag HOST_CFG_REG_WR = true →
      exec (.host64bitWordWrite (BitVec.ofNat 32 (trcTsp m)) d) s = .next (torqueCommit s m (d.truncate 36))) ∧
    ((s.ready && s.mode = 1 && s.flag HOST_CFG_REG_WR) = false →
      exec (.host64bitWordWrite (BitVec.ofNat 32 (trcTsp m)) d) s = .next (s.refuse hostErr .HOST_WR_DENIED)))

/-- R31: the latch of module time. -/
def Obligations.ModuleTimeReadsAsOneValue : Prop :=
  ∀ (s : State) (r : Requester) (later : Nat), (r = .host → s.hostBlind = false) →
    ∃ t u v, exec (.mtimeLoRead r) s = .next t ∧ t.out = s.out ++ [.data r 0x60007F00 (s.mtime % 2 ^ 32)] ∧
      exec (.mtimeHiRead r) { t with mtime := later } = .next u ∧ u.out = t.out ++ [.data r 0x60007F04 (s.mtime / 2 ^ 32)] ∧
      exec (.mtimeHiRead r) u = .next v ∧ v.out = u.out ++ [.data r 0x60007F04 (later / 2 ^ 32)]

/-- R22, R23: the island's voltage request and its stretched windows. -/
def Obligations.VoltageRequestAndDroop : Prop :=
  ∀ (s : State) (i : Fin 42) (req : Byte),
    (exec (.avsRequestChange i req) s = .next (if i = 32 ∨ i = 33 ∨ i = 41 then s else
      serveRail ({ s with sup := { s.sup with lastReq := Tbl.set 0x28 s.sup.lastReq (4 * i.val + dividerOf s i.val) req.toNat } }.put
        (PWR_ISL_STAT_AVS_REQ i) req.toNat))) ∧
    (exec (.droopStretch i false) s = .next (if i = 32 ∨ i = 33 ∨ i = 41 then s else s.inc (PWR_ISL_STAT_STRETCH_CNT i))) ∧
    (i ≠ 32 → i ≠ 33 → i ≠ 41 → exec (.droopStretch i true) s = .next (avsRequest
      (((s.inc (PWR_ISL_STAT_STRETCH_CNT i)).put (PWR_ISL_STAT_CAP_EXCEEDED i) 1)) i.val (min 255 (s.fld (PWR_ISL_STAT_AVS_REQ i) + 4))))

/-- R24, R311: the clock monitor. -/
def Obligations.ClockFaultNeedsTwoWindows : Prop :=
  ∀ (s : State) (i : Fin 42), s.quiet = true → s.timeRuns = true → s.sup.parked = 0 →
    (s.clkBad = 0 → exec (.clockMonitorWindowEnd (BitVec.ofNat 42 (2 ^ i.val))) s = .next { s with clkBad := 2 ^ i.val }) ∧
    (s.clkBad = 2 ^ i.val → s.flag (PWR_ISL_STAT_CLK_FAULT i) = false ∨ (∀ d ∈ s.sag.evts, d.cause ≠ 0x21) →
      exec (.clockMonitorWindowEnd (BitVec.ofNat 42 (2 ^ i.val))) s = .next (settle s
        (demandEvt (if i = 33 then { s.put (PWR_ISL_STAT_CLK_FAULT i) 1 with sag := { s.sag with dead := true } }
          else s.put (PWR_ISL_STAT_CLK_FAULT i) 1) 0x21 0 true 1)))

/-- R53, R402, R503: the reset pins. -/
def Obligations.ResetPins : Prop :=
  ∀ s : State,
    (exec .sysResetAssert s = .next (settle s (if s.fld PWR_START_STAT_STEP = 0 then { s with tap := { s.tap with resetLow := true } }
      else { s with tap := { s.tap with resetLow := true }, coldWant := some 1 }))) ∧
    (exec .sysResetRelease s =
      .next { s with tap := { s.tap with resetLow := false, instr := if intrusive s.tap.instr then 31 else s.tap.instr } }) ∧
    (∃ t, exec .perstAssert s = .next t ∧ t.perst = true ∧ t.busMaster = false ∧ t.mtime = s.mtime ∧ t.timeRuns = s.timeRuns ∧
      t.words = s.words ∧ t.grp = s.grp ∧ t.leg = s.leg ∧ t.rx = s.rx ∧ t.sag = s.sag ∧ t.coldWant = s.coldWant ∧
      t.warmWant = s.warmWant)

/-- R64: what follows a failed start. -/
def Obligations.FailedStartIsRetried : Prop :=
  ∀ s : State,
    (s.starting = false → exec .startLimitExpiry s = .next (settle s s)) ∧
    (s.starting = true → 2 ≤ s.fld PWR_START_STAT_STEP → s.flag PWR_START_STAT_KIND = false →
      exec .startLimitExpiry s = .next (settle s
        (beginStart (writeStartRec (((s.put PWR_START_STAT_FAIL_STEP 12).put PWR_START_STAT_FAIL_UNIT 0).put PWR_START_CNT_WARM_FAIL
          (min 3 (s.fld PWR_START_CNT_WARM_FAIL + 1)))) (decide (3 ≤ (writeStartRec (((s.put PWR_START_STAT_FAIL_STEP 12).put
            PWR_START_STAT_FAIL_UNIT 0).put PWR_START_CNT_WARM_FAIL (min 3 (s.fld PWR_START_CNT_WARM_FAIL + 1)))).fld
            PWR_START_CNT_WARM_FAIL)) 9))) ∧
    (s.starting = true → 2 ≤ s.fld PWR_START_STAT_STEP → s.flag PWR_START_STAT_KIND = true → s.fld PWR_START_CNT_COLD_FAIL = 0 →
      exec .startLimitExpiry s = .next (settle s
        (beginStart (writeStartRec ((((s.put PWR_START_STAT_FAIL_STEP 12).put PWR_START_STAT_FAIL_UNIT 0).put PWR_START_CNT_COLD_FAIL 1).put
          PWR_START_CNT_WARM_FAIL 0)) true 9)))

/-- R56: the order of the start steps. -/
def Obligations.StartStepsInOrder : Prop :=
  ∀ s : State, s.quiet = true → s.starting = true →
    (s.fld PWR_START_STAT_STEP = 1 → feedReady s = false → exec (.startStepEnd {}) s = .next s) ∧
    (s.fld PWR_START_STAT_STEP = 1 → feedReady s = true → s.flag PWR_START_STAT_KIND = true →
      exec (.startStepEnd {}) s = .next (s.put PWR_START_STAT_STEP 2)) ∧
    (s.fld PWR_START_STAT_STEP = 1 → feedReady s = true → s.flag PWR_START_STAT_KIND = false →
      exec (.startStepEnd {}) s = .next ({ s with img := { s.img with startAt := s.mtime } }.put PWR_START_STAT_STEP 3)) ∧
    (s.fld PWR_START_STAT_STEP = 2 → ∃ t, exec (.startStepEnd {}) s = .next t ∧ t.fld PWR_START_STAT_STEP = 3 ∧ t.mtime = 0 ∧
      t.timeRuns = true ∧ t.fld PWM_EPOCH = (ctlEpoch s + 1) % 2 ^ 32) ∧
    (s.fld PWR_START_STAT_STEP = 4 → ∃ t, exec (.startStepEnd {}) s = .next t ∧ t.fld PWR_START_STAT_STEP = 5 ∧
      ∀ n : Fin 12, t.fld (LKS_PAIR_STAT_RUN n) = 1 ∧ t.fld (LKS_INJ_PASS n) = 31) ∧
    (s.fld PWR_START_STAT_STEP = 8 → s.flag PWR_START_STAT_KIND = false →
      exec (.startStepEnd {}) s = .next ((s.put JNL_STAT_SCAN_DONE 0).put PWR_START_STAT_STEP 9)) ∧
    (s.fld PWR_START_STAT_STEP = 8 → discoveryDone s = false → exec .fabricStepTimeout s =
      .next (((s.put JNL_STAT_SCAN_DONE 0).put PWR_START_STAT_FABRIC_PENDING 1).put PWR_START_STAT_STEP 9)) ∧
    (s.fld PWR_START_STAT_STEP = 10 → s.flag PWR_START_STAT_KIND = false →
      exec (.startStepEnd {}) s = .next (settle s (modeReady (closeOpenWarm s))))

/-- R48, R49: completion points of mode changes. -/
def Obligations.ModeChangeCompletes : Prop :=
  ∀ s : State, s.flag PWR_MODE_CHANGING = true →
    (s.mode = 1 → s.fld PWR_MODE_TARGET = 2 → exec .modeChangeComplete s = .next (settle s ((setMode (clearZeroTorque s) 2).finish .modeChange .OK))) ∧
    (s.mode = 5 → s.fld PWR_MODE_TARGET = 1 → s.flag SAF_STAT_DEV_LATCH = false →
      exec .modeChangeComplete s = .next (settle s ((setMode (s.put PWR_MODE_SAFE_CAUSE 0) 1).finish .modeChange .OK))) ∧
    (s.mode = 5 → s.fld PWR_MODE_TARGET = 1 → s.flag SAF_STAT_DEV_LATCH = true → exec .modeChangeComplete s = .next (settle s s))

/-- R73, R77: the checks of a START and what an accepted one does. -/
def Obligations.GroupStartIsChecked : Prop :=
  ∀ (s : State) (n g : Fin 12), s.quiet = true →
    (s.stopped g = false → exec (.groupStart (.pair n) g) s = .next (s.refuse pwmErr .GROUP_RUNNING)) ∧
    (s.stopped g = true → s.follows g = true → s.running (s.masterOf g) = true →
      exec (.groupStart (.pair n) g) s = .next (s.refuse pwmErr .GROUP_RUNNING)) ∧
    (s.stopped g = true → (s.follows g && s.running (s.masterOf g)) = false → s.groupFailed g = true →
      exec (.groupStart (.pair n) g) s = .next (s.refuse pwmErr .LEG_FAILED)) ∧
    (s.stopped g = true → (s.follows g && s.running (s.masterOf g)) = false → s.groupFailed g = false →
      s.flag (PWM_GRP_STAT_VALID_SET g) = false → exec (.groupStart (.pair n) g) s = .next (s.refuse pwmErr .NO_DUTY_SET)) ∧
    (s.stopped g = true → s.follows g = false → s.groupFailed g = false → s.flag (PWM_GRP_STAT_VALID_SET g) = true →
      s.t0Of g < s.mtime + 1000 → exec (.groupStart (.pair n) g) s = .next (s.refuse pwmErr .START_LATE)) ∧
    (s.stopped g = true → s.follows g = false → s.groupFailed g = false → s.flag (PWM_GRP_STAT_VALID_SET g) = true →
      s.mtime + 1000 ≤ s.t0Of g → exec (.groupStart (.pair n) g) s =
        .next (settle s (releaseFollowers 12 (beginGroup s g (s.t0Of g) 0) g (s.t0Of g)))) ∧
    (s.stopped g = true → s.follows g = true → s.running (s.masterOf g) = false → s.groupFailed g = false →
      s.flag (PWM_GRP_STAT_VALID_SET g) = true → exec (.groupStart (.pair n) g) s = .next (s.put (PWM_GRP_STAT_HELD g) 1))

/-- R74, R75, R83: stop and reload. -/
def Obligations.StopAndReload : Prop :=
  ∀ (s : State) (n g : Fin 12), s.quiet = true →
    (s.running g = true → exec (.groupStop (.pair n) g) s = .next (s.setGrp g { s.grpOf g with stopPending := true })) ∧
    (s.running g = false → exec (.groupStop (.pair n) g) s = .next (s.put (PWM_GRP_STAT_HELD g) 0)) ∧
    (∀ mid, s.running g = false → exec (.reloadInstant g mid) s = .next s) ∧
    (∀ t, s.running g = true → (s.grpOf g).ending = false → s.tied g = false →
      t = (if (s.grpOf g).first then (s.grpOf g).start else (s.grpOf g).start + s.fld (PWM_GRP_PERIOD_ACT_PERIOD g)) →
      ((s.grpOf g).stopPending = true → ∃ u, exec (.reloadInstant g false) s = .next (settle s u) ∧
        (∀ c, (WaitOn.groupStop g.val, c) ∉ u.waits) ∧ u.mtime = s.mtime ∧ u.words = s.words ∧
        (s.mtime < t → u.regs = s.regs ∧ (u.grpOf g).ending = true ∧ (u.grpOf g).start = t) ∧
        (t ≤ s.mtime → u.fld (PWM_GRP_STAT_STATE g) = 0 ∧ u.fld (PWM_GRP_PERIOD_ACT_PERIOD g) = 0)) ∧
      ((s.grpOf g).stopPending = false → ∃ u, exec (.reloadInstant g false) s = .next (settle s u) ∧
        (u.grpOf g).first = false ∧ (u.grpOf g).start = t ∧ u.mtime = s.mtime ∧ u.words = s.words)) ∧
    (s.running g = true → s.fld (PWM_GRP_CTRL_UPD g) = 1 → exec (.reloadInstant g true) s = .next s)

/-- R82, R209: commits. -/
def Obligations.CommitMakesTheSetComplete : Prop :=
  ∀ (s : State) (n g : Fin 12) (e : Fin 32), s.quiet = true →
    (s.follows g = false → s.fld (PWM_GRP_PERIOD_SH_PERIOD g) < 400 →
      exec (.groupCommit (.pair n) g) s = .next ((s.put PWM_ERR_LAST_ERR 1).inc PWM_ERR_ERR_CNT)) ∧
    (400 ≤ s.fld (PWM_GRP_PERIOD_SH_PERIOD g) ∨ s.follows g = true → s.running g = false →
      exec (.groupCommit (.pair n) g) s = .next ((s.setGrp g { s.grpOf g with complete := some (shadowSet s g), fresh := true }).put
        (PWM_GRP_STAT_VALID_SET g) 1)) ∧
    ((s.engOf e).flight = [] → exec (.commitSetArrival e) s = .next s) ∧
    (∀ f rest, (s.engOf e).flight = f :: rest →
      (∀ p, f.duties.length = (s.members f.group).length → f.period = some p → 400 ≤ p → s.running f.group = false →
        exec (.commitSetArrival e) s = .next (((s.setEng e { s.engOf e with flight := rest }).setGrp f.group { s.grpOf f.group with
          complete := some { period := p, legs := (s.members f.group).zip ((f.duties.map (fracTaps p)).zip (match f.phases with
            | some l => l.map (fracTaps p)
            | none => (s.members f.group).map (keptPhase (s.grpOf f.group)))) },
          fresh := true }).put (PWM_GRP_STAT_VALID_SET f.group) 1)) ∧
      (f.duties.length ≠ (s.members f.group).length → ∃ t, exec (.commitSetArrival e) s = .next t ∧ t.fld (LE_COMMIT_STAT_LAST_REJ e) = 1 ∧
        t.grp = s.grp ∧ (t.engOf e).flight = rest) ∧
      (f.duties.length = (s.members f.group).length → f.period = none → (s.grpOf f.group).complete = none →
        ∃ t, exec (.commitSetArrival e) s = .next t ∧ t.fld (LE_COMMIT_STAT_LAST_REJ e) = 2 ∧ t.grp = s.grp ∧ (t.engOf e).flight = rest) ∧
      (∀ p, f.duties.length = (s.members f.group).length → f.period = some p → p < 400 →
        ∃ t, exec (.commitSetArrival e) s = .next t ∧ t.fld (LE_COMMIT_STAT_LAST_REJ e) = 3 ∧ t.grp = s.grp ∧ (t.engOf e).flight = rest))

/-- R81, R87: triggers and edge commands. -/
def Obligations.TriggersAndEdges : Prop :=
  ∀ (s : State) (g : Fin 12) (k : Fin 4) (leg : Fin 36) (i : Nat) (second : Bool),
    (∀ start p, start = (if (s.grpOf g).due then (s.grpOf g).oldStart else (s.grpOf g).start) →
      p = (if (s.grpOf g).due then (s.grpOf g).oldPeriod else s.fld (PWM_GRP_PERIOD_ACT_PERIOD g)) →
      exec (.triggerFire g k) s = .next (if s.running g = true ∧ s.flag (PWM_GRP_TRG_EN g k) = true ∧ s.fld (PWM_GRP_TRG_TIME g k) < p ∧
          (s.grpOf g).fired.testBit k = false ∧ s.mtime = start + s.fld (PWM_GRP_TRG_TIME g k) then
        (s.setGrp g { s.grpOf g with fired := setBit (s.grpOf g).fired k }).emit (.event (4 * g.val + k.val) s.mtime) else s)) ∧
    (s.groupOf leg = none → exec (.edgeCommandDeparture leg i second) s = .next s) ∧
    (s.groupOf leg = some g.val → s.running g = false ∨ withheld s g leg = true →
      exec (.edgeCommandDeparture leg i second) s = .next s) ∧
    (∀ e : RefEdge, s.groupOf leg = some g.val → leg.val < 24 → s.legFitted leg = true → s.running g = true → withheld s g leg = false →
      (s.legOf leg).plan[i]? = some e →
      (offLeaves s leg (32 * s.fld (PWM_GRP_PERIOD_ACT_PERIOD g)) ((s.grpOf g).start * 32) (s.legOf leg).plan i = true →
        exec (.edgeCommandDeparture leg i false) s =
          .next (s.sendEdge (if e.level then 2 * leg.val else 2 * leg.val + 1) false ((s.grpOf g).start * 32 + e.pos))) ∧
      (onLeaves s leg (32 * s.fld (PWM_GRP_PERIOD_ACT_PERIOD g)) (s.legOf leg).plan i = true →
        exec (.edgeCommandDeparture leg i true) s =
          .next (s.sendEdge (if e.level then 2 * leg.val + 1 else 2 * leg.val) true
            ((s.grpOf g).start * 32 + e.pos + (if e.level then s.fld (PWM_LEG_DTLH_ACT_DT leg) else s.fld (PWM_LEG_DTHL_ACT_DT leg))))))

/-- R93: PWM_LEG_FORCE. -/
def Obligations.LegForces : Prop :=
  ∀ (s : State) (n : Fin 12) (leg : Fin 36) (d : Word), s.quiet = true →
    (s.legFitted leg = false → exec (.legForceWrite (.pair n) leg d) s = .next (s.refuse pwmErr .LEG_ABSENT)) ∧
    (s.legFitted leg = true → bitsOf d.toNat 0 2 = 2 → bitsOf d.toNat 2 2 = 2 → exec (.legForceWrite (.pair n) leg d) s =
      .next (((s.put (PWM_LEG_STAT_FORCE_REJ leg) 1).inc (PWM_LEG_STAT_FORCE_REJ_CNT leg)).refuse pwmErr .FORCE_BOTH_ON)) ∧
    (s.legFitted leg = true → bitsOf d.toNat 0 2 < 3 → bitsOf d.toNat 2 2 < 3 → (bitsOf d.toNat 0 2 = 2 → bitsOf d.toNat 2 2 ≠ 2) →
      s.legStopped leg = false → exec (.legForceWrite (.pair n) leg d) s = .next (s.refuse pwmErr .GROUP_RUNNING)) ∧
    (s.legFitted leg = true → bitsOf d.toNat 0 2 < 3 → bitsOf d.toNat 2 2 < 3 → (bitsOf d.toNat 0 2 = 2 → bitsOf d.toNat 2 2 ≠ 2) →
      s.legStopped leg = true → ∃ t, exec (.legForceWrite (.pair n) leg d) s = .next t ∧
        t.fld (PWM_LEG_FORCE_HS leg) = bitsOf d.toNat 0 2 ∧ t.fld (PWM_LEG_FORCE_LS leg) = bitsOf d.toNat 2 2 ∧
        t.words = s.words ∧ t.bytes = s.bytes ∧ t.grp = s.grp ∧ t.leg = s.leg ∧
        (∀ f : Fld, f.key ≠ (PWM_LEG_FORCE_HS leg).key → f.key ≠ (PWM_LEG_FORCE_LS leg).key → t.fld f = s.fld f) ∧
        (bitsOf d.toNat 0 2 = s.fld (PWM_LEG_FORCE_HS leg) → bitsOf d.toNat 2 2 = s.fld (PWM_LEG_FORCE_LS leg) → t.out = s.out) ∧
        (s.groupOf leg = none → t.out = s.out) ∧
        (s.groupOf leg ≠ none → leg.val < 24 → bitsOf d.toNat 0 2 = s.fld (PWM_LEG_FORCE_HS leg) →
          bitsOf d.toNat 2 2 ≠ s.fld (PWM_LEG_FORCE_LS leg) →
          t = ((s.putAll [(PWM_LEG_FORCE_HS leg, bitsOf d.toNat 0 2), (PWM_LEG_FORCE_LS leg, bitsOf d.toNat 2 2)]).sendResume
            (2 * leg.val)).sendEdge (2 * leg.val) (decide (bitsOf d.toNat 2 2 = 2)) ((s.mtime + 161) * 32)) ∧
        (s.groupOf leg ≠ none → leg.val < 24 → bitsOf d.toNat 0 2 ≠ s.fld (PWM_LEG_FORCE_HS leg) →
          bitsOf d.toNat 2 2 = s.fld (PWM_LEG_FORCE_LS leg) →
          t = ((s.putAll [(PWM_LEG_FORCE_HS leg, bitsOf d.toNat 0 2), (PWM_LEG_FORCE_LS leg, bitsOf d.toNat 2 2)]).sendResume
            (2 * leg.val + 1)).sendEdge (2 * leg.val + 1) (decide (bitsOf d.toNat 0 2 = 2)) ((s.mtime + 161) * 32)))

/-- R101: clearing a trip record. -/
def Obligations.TripClear : Prop :=
  ∀ (s : State) (n g : Fin 12), s.quiet = true →
    (activeSources s g ≠ [] → exec (.tripClearRequest (.pair n) g) s =
      .next ((s.put (PWM_GRP_STAT_CLR_RESULT g) 2).refuse pwmErr .TRIP_ASSERTED)) ∧
    (activeSources s g = [] → exec (.tripClearRequest (.pair n) g) s =
      .next (s.putAll [(PWM_GRP_TRIP_TRIP_EVT g, 0), (PWM_GRP_TRIP_FIRST_SRC g, 0), (PWM_GRP_TRIP_FIRST_TIME g, 0),
        (PWM_GRP_STAT_CLR_RESULT g, 1)]))

/-- R71, R96, R97. -/
def Obligations.TripInputsAndLegMoves : Prop :=
  ∀ (s : State) (n : Fin 12) (leg : Fin 36) (d : Word) (src : Fin 108) (pin : Bool),
    (src.val < 16 → exec (.tripSourceChange src pin) s = .next
      ({ s with tripPins := (if pin then setBit s.tripPins src else clearBit s.tripPins src) }.put (PWM_TRIP_FILT_RAW src) (bit (pin = s.flag (PWM_TRIP_FILT_POL src))))) ∧
    (16 ≤ src.val → src.val < 48 → exec (.tripSourceChange src pin) s =
      .next (s.put (PWM_TRIP_FILT_RAW src) (bit (s.flag (ADC_CMP_STAT_OUT (src - 16)))))) ∧
    (s.flag (PWM_TRIP_FILT_RAW src) = true → s.flag (PWM_TRIP_FILT_FILT src) = false →
      (∀ g : Fin 12, s.running g = true → src.val ∉ enabledSources s g) →
      exec (.tripFilterSettled src) s = .next ((s.put (PWM_TRIP_FILT_FILT src) 1).setFiltTime src s.mtime)) ∧
    (s.flag (PWM_TRIP_FILT_RAW src) = s.flag (PWM_TRIP_FILT_FILT src) → exec (.tripFilterSettled src) s = .next s) ∧
    (s.flag (PWM_TRIP_FILT_RAW src) = false → s.flag (PWM_TRIP_FILT_FILT src) = true →
      exec (.tripFilterSettled src) s = .next (s.put (PWM_TRIP_FILT_FILT src) 0)) ∧
    (s.quiet = true → s.legFitted leg = true → 12 ≤ bitsOf d.toNat 0 4 → bitsOf d.toNat 0 4 < 15 →
      exec (.legGroupWrite (.pair n) leg d) s = .next (s.refuse pwmErr .GROUP_RANGE)) ∧
    (s.quiet = true → s.legFitted leg = true → bitsOf d.toNat 0 4 < 12 ∨ bitsOf d.toNat 0 4 = 15 →
      s.legStopped leg = false →
      exec (.legGroupWrite (.pair n) leg d) s = .next (s.refuse pwmErr .GROUP_RUNNING)) ∧
    (s.quiet = true → s.legFitted leg = true → bitsOf d.toNat 0 4 < 12 ∨ bitsOf d.toNat 0 4 = 15 → s.legStopped leg = true →
      (bitsOf d.toNat 0 4 < 12 → s.stopped (bitsOf d.toNat 0 4) = true) → s.flag PWM_LOCK = false →
      exec (.legGroupWrite (.pair n) leg d) s =
        .next (settle s ((s.put (PWM_LEG_CFG_GROUP leg) (bitsOf d.toNat 0 4)).put (PWM_LEG_CFG_DTMODE leg) (bitsOf d.toNat 4 1))))

/-- R108: frames. -/
def Obligations.FramesRoundTrip : Prop :=
  ∀ ty body : Nat, ty < 16 → body < 2 ^ 24 → frameSound (mkFrame ty body) = true ∧ frameType (mkFrame ty body) = ty ∧
    frameBody (mkFrame ty body) = body ∧
    ∀ i : Fin 40, frameSound (mkFrame ty body ^^^ BitVec.ofNat 40 (2 ^ i.val)) = false

/-- R108, R109, R110, R113, R121, R124: down frames at a satellite or driver. -/
def Obligations.DownFramesAtAReceiver : Prop :=
  ∀ (s : State) (l : Fin 60) (f : BitVec 40),
    ((s.rxOf l).state = .reset → exec (.cutFrame l f) s = .next s ∧ exec (.clearFrame l f) s = .next s ∧
      exec (.resumeFrame l f) s = .next s ∧ exec (.timeFrame l f) s = .next s ∧ exec (.cfgWrFrame l f) s = .next s) ∧
    ((s.rxOf l).state ≠ .reset → frameSound f = false → ∃ t, exec (.cutFrame l f) s = .next t ∧ exec (.timeFrame l f) s = .next t ∧
      exec (.resumeFrame l f) s = .next t ∧ exec (.clearFrame l f) s = .next t ∧ exec (.cfgWrFrame l f) s = .next t ∧
      (t.rxOf l).gapNext = true ∧ ((s.rxOf l).state = .run → (t.rxOf l).ch.gate ≠ .on ∧ (t.rxOf l).hs.gate ≠ .on ∧
        (t.rxOf l).holdSeq = true ∧ ∀ e ∈ (t.rxOf l).pend, e.on = false) ∧
      ((s.rxOf l).state ≠ .run → (t.rxOf l).ch = (s.rxOf l).ch ∧ (t.rxOf l).hs = (s.rxOf l).hs) ∧ t.out = s.out ∧ t.words = s.words ∧ t.bytes = s.bytes ∧
      (48 ≤ l.val → t.regs = s.regs)) ∧
    ((s.rxOf l).state ≠ .reset → (s.rxOf l).state ≠ .orphan → ∀ body < 2 ^ 24,
      (∃ t, exec (.cutFrame l (mkFrame 2 body)) s = .next t ∧ ((s.rxOf l).state = .run → (t.rxOf l).ch.gate ≠ .on ∧
        (t.rxOf l).hs.gate ≠ .on ∧ ∀ e ∈ (t.rxOf l).pend, e.on = false) ∧
        ((s.rxOf l).state ≠ .run → (t.rxOf l).ch = (s.rxOf l).ch ∧ (t.rxOf l).hs = (s.rxOf l).hs) ∧ (t.rxOf l).state = (s.rxOf l).state ∧ t.regs = s.regs ∧ t.out = s.out ∧ t.words = s.words) ∧
      (∃ t, exec (.resumeFrame l (mkFrame 8 body)) s = .next t ∧ (t.rxOf l).xhold = false ∧
        (t.rxOf l).state = (if (s.rxOf l).state = .armed then .run else (s.rxOf l).state) ∧ t.regs = s.regs ∧ t.out = s.out ∧ t.words = s.words) ∧
      ((s.rxOf l).uv = false → (s.rxOf l).vneg = false → (s.rxOf l).drvUv = false → ∃ t, exec (.clearFrame l (mkFrame 6 body)) s = .next t ∧
        (t.rxOf l).ch.latch = false ∧ (t.rxOf l).hs.latch = false ∧ t.regs = s.regs ∧
        ((s.rxOf l).upBusy = 0 → t.out.length = s.out.length + 1) ∧
        ((s.rxOf l).upBusy ≠ 0 → t.out = s.out ∧ (t.rxOf l).upq.length = (s.rxOf l).upq.length + 1)) ∧
      ((s.rxOf l).uv = true ∨ (s.rxOf l).vneg = true ∨ (s.rxOf l).drvUv = true → ∃ t, exec (.clearFrame l (mkFrame 6 body)) s = .next t ∧
        (t.rxOf l).ch.latch = (s.rxOf l).ch.latch ∧ (t.rxOf l).hs.latch = (s.rxOf l).hs.latch ∧ t.regs = s.regs ∧
        ((s.rxOf l).upBusy = 0 → t.out.length = s.out.length + 1)) ∧
      (∃ t, exec (.cfgWrFrame l (mkFrame 4 body)) s = .next t ∧ Tbl.get 0 (t.rxOf l).cfg (body / 2 ^ 17) = body % 2 ^ 17 ∧ t.regs = s.regs ∧
        t.out = s.out) ∧
      (∀ answer : BitVec 40, answer = mkFrame 3 (body / 2 ^ 17 * 2 ^ 17 + Tbl.get 0 (s.rxOf l).cfg (body / 2 ^ 17)) →
        ∃ t, exec (.cfgRdFrame l (mkFrame 5 body)) s = .next t ∧ t.regs = s.regs ∧
        ((s.rxOf l).upBusy = 0 → t.out = s.out ++ [.up l answer] ∧ (t.rxOf l).upBusy = 64) ∧
        ((s.rxOf l).upBusy ≠ 0 → t.out = s.out ∧ (t.rxOf l).upq = insertUp answer (s.rxOf l).upq)) ∧
      (∃ t, exec (.calFrame l (mkFrame 7 body)) s = .next t ∧ t.regs = s.regs ∧
        ((s.rxOf l).upBusy = 0 → t.out = s.out ++ [.up l (mkFrame 6 0)] ∧ (t.rxOf l).upBusy = 64) ∧
        ((s.rxOf l).upBusy ≠ 0 → t.out = s.out ∧ (t.rxOf l).upq = insertUp (mkFrame 6 0) (s.rxOf l).upq)) ∧
      (∃ t, exec (.identReqFrame l (mkFrame 9 body)) s = .next t ∧ t.regs = s.regs ∧
        ((s.rxOf l).upBusy = 0 → t.out = s.out ++ [.up l (mkFrame 7 (Config.identity l % 2 ^ 23))] ∧
          (t.rxOf l).upq = insertUp (mkFrame 7 (2 ^ 23 + Config.identity l / 2 ^ 23 % 2 ^ 23)) (s.rxOf l).upq)))

/-- R112, R113, R132. -/
def Obligations.TimedFramesAtAReceiver : Prop :=
  ∀ (s : State) (body : Nat), body < 2 ^ 24 →
    (∀ l : Fin 60, (s.rxOf l).state ≠ .reset → (s.rxOf l).state ≠ .orphan →
      ∃ t, exec (.timeFrame l (mkFrame 0 body)) s = .next t ∧ (t.rxOf l).ofs = (s.rxOf l).ofs + timeDiff s (s.rxOf l) body ∧
        t.regs = s.regs ∧ t.out = s.out ∧
        ((timeDiff s (s.rxOf l) body).natAbs ≤ 32 → (t.rxOf l).slips = 0 ∧ (t.rxOf l).state = (s.rxOf l).state) ∧
        (32 < (timeDiff s (s.rxOf l) body).natAbs → (s.rxOf l).slips < 2 → (s.rxOf l).needGood = 0 → (t.rxOf l).slips = (s.rxOf l).slips + 1 ∧
          (t.rxOf l).state = (s.rxOf l).state) ∧
        (32 < (timeDiff s (s.rxOf l) body).natAbs → 2 ≤ (s.rxOf l).slips → (t.rxOf l).state = .orphan ∧ (t.rxOf l).needGood = 4)) ∧
    (∀ n : Fin 48, (s.rxOf n).state = .run → (s.rxOf n).xhold = false →
      ∃ t, exec (.edgeFrame n (mkFrame 1 body)) s = .next t ∧ t.out = s.out ∧ t.words = s.words ∧ (t.rxOf n).seq = (body % 64 + 1) % 64 ∧
        ((s.rxOf n).gapNext = false → body % 64 = (s.rxOf n).seq → 2 ^ 23 ≤ body →
          localTaps s (s.rxOf n) ≤ shortTime (localTaps s (s.rxOf n)) (body / 64 % 2 ^ 17) → t.regs = s.regs ∧ (t.rxOf n).holdSeq = false ∧
          (t.rxOf n).pend = insertPend ⟨shortTime (localTaps s (s.rxOf n)) (body / 64 % 2 ^ 17), false, true⟩ (s.rxOf n).pend) ∧
        ((s.rxOf n).gapNext = false → body % 64 = (s.rxOf n).seq → 2 ^ 23 ≤ body →
          shortTime (localTaps s (s.rxOf n)) (body / 64 % 2 ^ 17) < localTaps s (s.rxOf n) → (t.rxOf n).pend = (s.rxOf n).pend ∧
          t.fld (GS_CNT_EDGE_LATE n) = min (s.fld (GS_CNT_EDGE_LATE n) + 1) (2 ^ (GS_CNT_EDGE_LATE n).width - 1)) ∧
        (body % 64 ≠ (s.rxOf n).seq → (t.rxOf n).ch.gate ≠ .on ∧ (t.rxOf n).holdSeq = true ∧ ∀ e ∈ (t.rxOf n).pend, e.on = false)) ∧
    (∀ (k : Fin 12) (at_ : Nat), (s.rxOf (48 + k)).state = .run → (s.rxOf (48 + k)).xhold = false →
      (s.rxOf (48 + k)).gapNext = false → body % 32 = (s.rxOf (48 + k)).seq →
      at_ = shortTime (localTaps s (s.rxOf (48 + k))) (body / 32 % 2 ^ 17) → localTaps s (s.rxOf (48 + k)) ≤ at_ →
      ∃ t, exec (.transitionFrame k (mkFrame 1 body)) s = .next t ∧ t.regs = s.regs ∧ t.out = s.out ∧
        (body / 2 ^ 22 = 0 → (t.rxOf (48 + k)).pend = insertPend ⟨at_ + (s.rxOf (48 + k)).dtHL, false, true⟩
          (insertPend ⟨at_, true, false⟩ (s.rxOf (48 + k)).pend)) ∧
        (body / 2 ^ 22 = 1 → (t.rxOf (48 + k)).pend = insertPend ⟨at_ + (s.rxOf (48 + k)).dtLH, true, true⟩
          (insertPend ⟨at_, false, false⟩ (s.rxOf (48 + k)).pend)) ∧
        (body / 2 ^ 22 = 2 → (t.rxOf (48 + k)).pend = insertPend ⟨at_, false, false⟩ (insertPend ⟨at_, true, false⟩ (s.rxOf (48 + k)).pend))) ∧
    (∀ k : Fin 12, (s.rxOf (48 + k)).state ≠ .reset → (s.rxOf (48 + k)).state ≠ .orphan →
      ∃ t, exec (.dtsetFrame k (mkFrame 3 body)) s = .next t ∧ t.regs = s.regs ∧ t.out = s.out ∧
        (t.rxOf (48 + k)).dtLH = (if 2 ^ 23 ≤ body then body / 64 % 2 ^ 17 else (s.rxOf (48 + k)).dtLH) ∧
        (t.rxOf (48 + k)).dtHL = (if 2 ^ 23 ≤ body then (s.rxOf (48 + k)).dtHL else body / 64 % 2 ^ 17))

/-- R110 and the rules on each up frame. -/
def Obligations.UpFramesAtTheModule : Prop :=
  ∀ (s : State) (n : Fin 48) (f : BitVec 40) (rt : Nat),
    (s.linkFitted n = true → frameSound f = false →
      exec (.treportFrame (Fin.castLE (by decide) n) f) s =
        .next ((s.setLk n { s.lkOf n with goodUp := if 4 ≤ (s.lkOf n).goodUp then 4 else 0 }).inc (GS_CNT_CRC_ERR n)) ∧
      exec (.measFrame (Fin.castLE (by decide) n) f) s =
        .next ((s.setLk n { s.lkOf n with goodUp := if 4 ≤ (s.lkOf n).goodUp then 4 else 0 }).inc (GS_CNT_CRC_ERR n))) ∧
    (s.linkFitted n = false → exec (.measFrame (Fin.castLE (by decide) n) f) s = .next s ∧
      exec (.xrefuseFrame (Fin.castLE (by decide) n) f) s = .next s) ∧
    (s.linkFitted n = true → ∀ body < 2 ^ 24,
      (∃ t, exec (.treportFrame (Fin.castLE (by decide) n) (mkFrame 1 body)) s = .next t ∧
        t.fld (GS_TRANS_T_MEAS n) = body / 32 % 2 ^ 17 ∧ t.fld (GS_TRANS_INCOMPLETE n) = body / 2 ^ 23 ∧
        (body < 2 ^ 23 → n.val % 2 = 0 → (t.legOf (n.val / 2)).rptLH = some (body / 32 % 2 ^ 17)) ∧
        (body < 2 ^ 23 → n.val % 2 = 1 → (t.legOf (n.val / 2)).rptHL = some (body / 32 % 2 ^ 17)) ∧
        (2 ^ 23 ≤ body → t.leg = s.leg) ∧ t.words = s.words ∧ t.bytes = s.bytes ∧ t.out = s.out ∧ t.grp = s.grp) ∧
      (s.quiet = true → ∃ t, exec (.measFrame (Fin.castLE (by decide) n) (mkFrame 4 body)) s = .next t ∧ t.words = s.words ∧ t.bytes = s.bytes ∧
        (s.flag THM_CFG_BRK_IE = false → t.out = s.out) ∧
        (body < 2 ^ 22 → t.fld (GS_NTC_VALUE n) = body / 2 ^ 10 % 2 ^ 12 ∧ t.fld (GS_NTC_STALE n) = 0 ∧
          (t.sensOf (16 + n.val)).at_ = extendTime s.mtime 10 (body % 2 ^ 10)) ∧
        (2 ^ 22 ≤ body → body < 2 ^ 23 → t.fld (GS_DIE_TEMP n) = body / 2 ^ 10 % 2 ^ 12 ∧ t.fld (GS_DIE_STALE n) = 0 ∧
          (t.sensOf (64 + n.val)).at_ = extendTime s.mtime 10 (body % 2 ^ 10)) ∧
        (2 ^ 23 ≤ body → body < 3 * 2 ^ 22 → t.fld (GS_BASE_BASELINE n) = body / 2 ^ 10 % 2 ^ 12 ∧ t.thm = s.thm)) ∧
      (∃ t, exec (.xrefuseFrame (Fin.castLE (by decide) n) (mkFrame 5 body)) s = .next t ∧
        t.fld (PWM_LEG_STAT_XLINK_REFUSE (n.val / 2)) = 1 ∧ (t.legOf (n.val / 2)).reissue = true ∧ t.words = s.words ∧ t.out = s.out) ∧
      (∃ t, exec (.cfgDataFrame (Fin.castLE (by decide) n) (mkFrame 3 body)) s = .next t ∧
        (t.lkOf n).cfgData = some (body / 2 ^ 17, body % 2 ^ 17) ∧ t.words = s.words ∧ t.out = s.out) ∧
      (∃ t, exec (.identFrame (Fin.castLE (by decide) n) (mkFrame 7 body)) s = .next t ∧
        (body < 2 ^ 23 → (t.lkOf n).ident % 2 ^ 23 = body) ∧ t.words = s.words ∧ t.out = s.out) ∧
      ((s.lkOf n).rtCnt < 15 → ∃ t, exec (.calEchoFrame (Fin.castLE (by decide) n) (mkFrame 6 body) rt) s = .next t ∧
        (t.lkOf n).rtSum = (s.lkOf n).rtSum + rt ∧ (t.lkOf n).rtCnt = (s.lkOf n).rtCnt + 1 ∧ t.words = s.words ∧ t.out = s.out) ∧
      (s.quiet = true → (s.lkOf n).restore = false → (s.lkOf n).clearWait = false →
        ∃ t, exec (.aliveFrame (Fin.castLE (by decide) n) (mkFrame 0 body)) s = .next t ∧ t.fld (GS_STAT_STATE n) = body / 2 ^ 21 ∧
          t.fld (GS_STAT_UP_OK n) = 1 ∧ t.fld (GS_STAT_FAULT n) = s.fld (GS_STAT_FAULT n) ∧ t.words = s.words ∧ t.out = s.out) ∧
      ((s.lkOf n).restore = false → (s.lkOf n).clearWait = true → (s.lkOf n).lost = false →
        ∃ u, exec (.aliveFrame (Fin.castLE (by decide) n) (mkFrame 0 body)) s = .next (settle s u) ∧ (u.lkOf n).clearWait = false ∧
          (body / 2 ^ 20 % 2 = 0 → u.fld (GS_STAT_CLR_RESULT n) = 1 ∧ u.fld (GS_STAT_FAULT n) = 0 ∧ u.fld (GS_STAT_CAUSE n) = 0 ∧
            (u.lkOf n).summary = false) ∧
          (body / 2 ^ 20 % 2 = 1 → u.fld (GS_STAT_CLR_RESULT n) = 2 ∧ u.fld (GS_STAT_FAULT n) = s.fld (GS_STAT_FAULT n) ∧
            u.fld GS_ERR_LAST_ERR = 5)) ∧
      (∃ u, exec (.faultFrame (Fin.castLE (by decide) n) (mkFrame 2 body)) s = .next (settle s u) ∧ (u.lkOf n).summary = true ∧
        u.fld (GS_STAT_FAULT n) = 1 ∧ u.fld (GS_STAT_CAUSE n) = body / 2 ^ 20 ∧ u.words = s.words ∧
        u.fld (GS_CNT_FAULT_CNT n) = min (s.fld (GS_CNT_FAULT_CNT n) + 1) (2 ^ (GS_CNT_FAULT_CNT n).width - 1) ∧
        ((s.lkOf n).summary = false → .irq (rolePair s 6) .gs n.val 0 ∈ u.out)))

/-- R111, R116: links over time. -/
def Obligations.LinkTimers : Prop :=
  ∀ (s : State) (l : Fin 60) (n : Fin 48) (rt : Nat),
    (s.timeRuns = true → s.linkFitted l = true →
      exec (.downLinkIdle l) s = .next (s.emit (.down l (mkFrame 0 (s.mtime % 2 ^ 24))))) ∧
    ((s.rxOf l).state = .reset → exec (.upLinkIdle l) s = .next s ∧ exec (.downLinkSilent l) s = .next s) ∧
    (∀ body : Nat, (s.rxOf l).state ≠ .reset → body = (s.rxOf l).state.code * 2 ^ 21 + bit ((s.rxOf l).ch.latch || (isLv l && (s.rxOf l).hs.latch)) * 2 ^ 20 +
        permitCode (s.rxOf l).held * 2 ^ 18 + bit (isLv l && (s.rxOf l).hs.latch) * 2 ^ 17 + bit (isLv l && (s.rxOf l).ch.latch) * 2 ^ 16 →
      ((s.rxOf l).upBusy = 0 → exec (.upLinkIdle l) s = .next ((s.setRx l { s.rxOf l with upBusy := 64 }).emit (.up l (mkFrame 0 body)))) ∧
      ((s.rxOf l).upBusy ≠ 0 → exec (.upLinkIdle l) s =
        .next (s.setRx l { s.rxOf l with upq := insertUp (mkFrame 0 body) (s.rxOf l).upq }))) ∧
    ((s.rxOf l).state ≠ .reset → ∃ t, exec (.downLinkSilent l) s = .next t ∧ (t.rxOf l).state = .orphan ∧ (t.rxOf l).pend = [] ∧
      (t.rxOf l).downSilent = true ∧ ((s.rxOf l).orphan = 0 → (t.rxOf l).ch.gate ≠ .on ∧ (t.rxOf l).hs.gate ≠ .on) ∧
      t.regs = s.regs ∧ t.out = s.out ∧ t.words = s.words) ∧
    (s.linkFitted n = true → ∃ t, exec (.upLinkSilent (Fin.castLE (by decide) n)) s = .next t ∧ (t.lkOf n).summary = true ∧
      (t.lkOf n).lost = true ∧ t.fld (GS_STAT_UP_OK n) = 0 ∧ t.fld (GS_STAT_CAUSE n) = 7 ∧ t.fld (GS_STAT_FAULT n) = s.fld (GS_STAT_FAULT n) ∧
      t.rx = s.rx ∧ t.words = s.words ∧
      t.out = if (s.lkOf n).summary then s.out else s.out ++ [.irq (rolePair s 6) .gs n.val 0]) ∧
    (s.quiet = true → s.linkFitted n = true → s.fld (GS_CAL_LINK_DLY n) ≤ downDelay n rt + 32 → downDelay n rt ≤ s.fld (GS_CAL_LINK_DLY n) + 32 →
      exec (.linkCalibration (Fin.castLE (by decide) n) rt) s = .next (applyDelay s n (oneTap (s.fld (GS_CAL_LINK_DLY n)) (downDelay n rt)))) ∧
    (s.quiet = true → s.linkFitted n = true → s.fld (GS_CAL_LINK_DLY n) + 32 < downDelay n rt ∨ downDelay n rt + 32 < s.fld (GS_CAL_LINK_DLY n) →
      exec (.linkCalibration (Fin.castLE (by decide) n) rt) s = .next ((s.put (GS_STAT_CAL_JUMP n) 1).emit
        (.irq (legOwner (s.put (GS_STAT_CAL_JUMP n) 1) (n.val / 2)) .gs n 1)))

/-- R118-R121, R131: protection at the gate. -/
def Obligations.GateProtection : Prop :=
  ∀ (s : State) (n : Fin 48) (k : Fin 12) (mv : Nat),
    (s.flag (GS_CFG_DSAT_EN n) = true → (s.rxOf n).ch.gate = .on → (s.rxOf n).ch.blanked = true → dsatThreshold s n < mv →
      ∃ t, exec (.desatValid n mv) s = .next t ∧ (t.rxOf n).ch.latch = true ∧ (t.rxOf n).ch.cause = 1 ∧ (t.rxOf n).ch.gate = .soft ∧
        (t.rxOf n).pend = (s.rxOf n).pend ∧ t.regs = s.regs ∧
        ((s.rxOf n).upBusy = 0 → t.out = s.out ++ [.up n (mkFrame 2 (2 ^ 20 + s.mtime % 2 ^ 19))])) ∧
    (s.flag (GS_CFG_DSAT_EN n) = false ∨ (s.rxOf n).ch.gate ≠ .on ∨ (s.rxOf n).ch.blanked = false ∨ mv ≤ dsatThreshold s n →
      exec (.desatValid n mv) s = .next s) ∧
    (s.flag (GS_CFG_SC_EN n) = true → (s.rxOf n).ch.gate = .on → 100 + 100 * s.fld (GS_CFG_SC_TH n) < mv →
      ∃ t, exec (.shortCircuitTrip n mv) s = .next t ∧ (t.rxOf n).ch.latch = true ∧ (t.rxOf n).ch.cause = 2 ∧ (t.rxOf n).ch.gate = .soft ∧
        t.regs = s.regs ∧ ((s.rxOf n).upBusy = 0 → t.out = s.out ++ [.up n (mkFrame 2 (2 ^ 21 + s.mtime % 2 ^ 19))])) ∧
    (s.flag (GS_CFG_SC_EN n) = false ∨ (s.rxOf n).ch.gate ≠ .on ∨ mv ≤ 100 + 100 * s.fld (GS_CFG_SC_TH n) →
      exec (.shortCircuitTrip n mv) s = .next s) ∧
    (exec (.softOffTimer n) s = .next (if (s.rxOf n).ch.gate = .soft then
      s.setRx n { s.rxOf n with ch := { (s.rxOf n).ch with gate := .softOff } } else s)) ∧
    ((s.rxOf n).state ≠ .reset → (s.rxOf n).armedUv = true → ∃ t, exec (.vposUv n) s = .next t ∧
      (t.rxOf n).ch.latch = true ∧ (t.rxOf n).ch.cause = 3 ∧ (t.rxOf n).ch.gate ≠ .on ∧ (t.rxOf n).uv = true ∧ t.regs = s.regs) ∧
    ((s.rxOf n).state ≠ .reset → (s.rxOf n).armedUv = true → ∃ u, exec (.vnegRange n) s = .next u ∧
      (u.rxOf n).ch.latch = true ∧ (u.rxOf n).ch.cause = 4 ∧ (u.rxOf n).ch.gate ≠ .on ∧ (u.rxOf n).vneg = true ∧ u.regs = s.regs) ∧
    ((s.rxOf n).armedUv = false → exec (.vposUv n) s = .next s ∧ exec (.vnegRange n) s = .next s) ∧
    ((s.rxOf (48 + k)).state ≠ .reset → ∃ t, exec (.drvUv k) s = .next t ∧ (t.rxOf (48 + k)).ch.latch = true ∧
      (t.rxOf (48 + k)).hs.latch = true ∧ (t.rxOf (48 + k)).ch.cause = 6 ∧ (t.rxOf (48 + k)).ch.gate ≠ .on ∧ (t.rxOf (48 + k)).hs.gate ≠ .on ∧
      t.regs = s.regs ∧ ((s.rxOf (48 + k)).upBusy = 0 → t.out = s.out ++ [.up (48 + k) (mkFrame 2 (6 * 2 ^ 20 + s.mtime % 2 ^ 19))] ∧
        (t.rxOf (48 + k)).upq = insertUp (mkFrame 2 (6 * 2 ^ 20 + 2 ^ 19 + s.mtime % 2 ^ 19)) (s.rxOf (48 + k)).upq)) ∧
    ((s.rxOf (48 + k)).state = .reset → exec (.drvUv k) s = .next s) ∧
    (s.flag (LD_CFG_VDS_EN k) = true → (s.rxOf (48 + k)).hs.gate = .on → (s.rxOf (48 + k)).hs.blanked = true →
      200 + 100 * s.fld (LD_CFG_VDS_HS k) < mv → ∃ t, exec (.vdsValid k true mv) s = .next t ∧ (t.rxOf (48 + k)).hs.latch = true ∧
        (t.rxOf (48 + k)).hs.cause = 5 ∧ (t.rxOf (48 + k)).hs.gate = .off ∧ (t.rxOf (48 + k)).ch.gate ≠ .on ∧ t.regs = s.regs) ∧
    (s.flag (LD_CFG_VDS_EN k) = true → (s.rxOf (48 + k)).ch.gate = .on → (s.rxOf (48 + k)).ch.blanked = true →
      200 + 100 * s.fld (LD_CFG_VDS_LS k) < mv → ∃ t, exec (.vdsValid k false mv) s = .next t ∧ (t.rxOf (48 + k)).ch.latch = true ∧
        (t.rxOf (48 + k)).ch.cause = 5 ∧ (t.rxOf (48 + k)).ch.gate = .off ∧ (t.rxOf (48 + k)).hs.gate ≠ .on ∧ t.regs = s.regs) ∧
    (s.flag (LD_CFG_VDS_EN k) = false ∨ (s.rxOf (48 + k)).ch.gate ≠ .on ∨ (s.rxOf (48 + k)).ch.blanked = false ∨
      mv ≤ 200 + 100 * s.fld (LD_CFG_VDS_LS k) → exec (.vdsValid k false mv) s = .next s) ∧
    (exec (.blankingEnd (Fin.natAdd 48 k) true) s = .next (if (s.rxOf (48 + k)).hs.gate = .on then
      s.setRx (48 + k) { s.rxOf (48 + k) with hs := { (s.rxOf (48 + k)).hs with blanked := true } } else s)) ∧
    (exec (.blankingEnd (Fin.castLE (by decide) n) false) s = .next (if (s.rxOf n).ch.gate = .on then
      s.setRx n { s.rxOf n with ch := { (s.rxOf n).ch with blanked := true } } else s)) ∧
    ((s.rxOf n).ch.gate = .on → (s.rxOf n).ch.blanked = true → (s.rxOf n).ch.sampled = false → ∃ t, exec (.baselineSample n mv) s = .next t ∧
      (t.rxOf n).baseMv = nextBaseline (s.rxOf n).samples (s.rxOf n).baseMv mv ∧ (t.rxOf n).ch.sampled = true ∧ t.regs = s.regs ∧
      ((s.rxOf n).upBusy = 0 → t.out = s.out ++ [.up n (mkFrame 4 (2 ^ 23 +
        nextBaseline (s.rxOf n).samples (s.rxOf n).baseMv mv / 100 % 2 ^ 12 * 2 ^ 10 + s.mtime % 2 ^ 10))])) ∧
    ((s.rxOf n).ch.gate ≠ .on ∨ (s.rxOf n).ch.blanked = false ∨ (s.rxOf n).ch.sampled = true → exec (.baselineSample n mv) s = .next s)

/-- R123-R127: what lets a channel conduct. -/
def Obligations.PermitsAndCrossLinks : Prop :=
  ∀ (s : State) (n : Fin 48) (k : Fin 12) (on hold : Bool),
    ((s.rxOf n).state = .run → (s.rxOf n).held = some .permit →
      (∃ t, exec (.permitCodeTaken (Fin.castLE (by decide) n) .safeOff) s = .next t ∧ (t.rxOf n).state = .safeOff ∧ (t.rxOf n).ch.gate ≠ .on ∧
        (t.rxOf n).pend = [] ∧ t.regs = s.regs ∧ t.out = s.out) ∧
      exec (.permitCodeTaken (Fin.castLE (by decide) n) .permit) s = .next s ∧
      (∃ t, exec (.permitCodeTaken (Fin.castLE (by decide) n) .safeLs) s = .next t ∧ exec (.permitLoss (Fin.castLE (by decide) n)) s = .next t ∧
        (t.rxOf n).state = .orphan ∧ (t.rxOf n).held = none ∧ (t.rxOf n).pend = [] ∧ t.regs = s.regs ∧ t.out = s.out)) ∧
    ((s.rxOf n).state = .reset → exec (.permitCodeTaken (Fin.castLE (by decide) n) .permit) s = .next s ∧
      exec (.crossLinkState n on hold) s = .next s ∧ exec (.crossLinkSilent n) s = .next s ∧ exec (.vposArmed n) s = .next s) ∧
    ((s.rxOf (partnerOf n)).state = .reset ∨ on ≠ decide ((s.rxOf (partnerOf n)).ch.gate = .on) ∨ hold ≠ (s.rxOf (partnerOf n)).holdOut →
      exec (.crossLinkState n on hold) s = .next s) ∧
    ((s.rxOf n).state ≠ .reset → exec (.crossLinkSilent n) s = .next (s.setRx n { s.rxOf n with xSilent := true })) ∧
    ((s.rxOf n).state ≠ .reset → (s.rxOf (partnerOf n)).state ≠ .reset → (s.rxOf (partnerOf n)).holdOut = false →
      ∃ t, exec (.crossLinkState n (decide ((s.rxOf (partnerOf n)).ch.gate = .on)) false) s = .next t ∧ t.regs = s.regs ∧ t.out = s.out ∧ (t.rxOf n).partnerOn = decide ((s.rxOf (partnerOf n)).ch.gate = .on) ∧
        (t.rxOf n).xSilent = false ∧ (t.rxOf n).ch = (s.rxOf n).ch ∧ (t.rxOf n).pend = (s.rxOf n).pend ∧
        (t.rxOf (partnerOf n)).ch = (s.rxOf (partnerOf n)).ch) ∧
    ((s.rxOf n).state = .run → (s.rxOf (partnerOf n)).state ≠ .reset → (s.rxOf (partnerOf n)).holdOut = true →
      ∃ t, exec (.crossLinkState n (decide ((s.rxOf (partnerOf n)).ch.gate = .on)) true) s = .next t ∧ (t.rxOf n).xhold = true ∧ (t.rxOf n).ch.gate ≠ .on ∧
        (t.rxOf n).pend = [] ∧ (t.rxOf (partnerOf n)).holdOut = false ∧ t.regs = s.regs ∧
        ((s.rxOf n).upBusy = 0 → t.out = s.out ++ [.up n (mkFrame 5 0)])) ∧
    (∀ (e : PendEdge) (q : List PendEdge), (s.rxOf n).state = .run → (s.rxOf n).pend = e :: q → e.on = true → e.hs = false →
      ((s.rxOf n).ch.latch = false → (s.rxOf n).holdSeq = false → (s.rxOf n).xhold = false →
        (s.rxOf n).partnerOn = false → (s.rxOf n).xSilent = false → n.val % 2 = 0 → (s.rxOf n).ch.gate ≠ .pulled →
        ∃ t, exec (.edgePlacement (Fin.castLE (by decide) n)) s = .next t ∧ (t.rxOf n).ch.gate = .on ∧ (t.rxOf n).pend = q ∧ t.regs = s.regs ∧ t.out = s.out) ∧
      ((s.rxOf n).ch.latch = false → (s.rxOf n).holdSeq = false → (s.rxOf n).xhold = false →
        (s.rxOf n).partnerOn = true ∨ (s.rxOf n).xSilent = true ∨
          (n.val % 2 = 1 ∧ (⟨e.taps, false, true⟩ : PendEdge) ∈ (s.rxOf (partnerOf n)).pend) → ∃ t, exec (.edgePlacement (Fin.castLE (by decide) n)) s = .next t ∧ (t.rxOf n).ch.gate ≠ .on ∧ (t.rxOf n).xhold = true ∧ (t.rxOf n).pend = [] ∧
          (t.rxOf n).holdOut = true ∧ t.regs = s.regs ∧ ((s.rxOf n).upBusy = 0 → t.out = s.out ++ [.up n (mkFrame 5 (2 ^ 23))])) ∧
      ((s.rxOf n).ch.latch = true → ∃ t, exec (.edgePlacement (Fin.castLE (by decide) n)) s = .next t ∧ (t.rxOf n).ch = (s.rxOf n).ch ∧
        t.fld (GS_CNT_EDGE_LATE n) = min (s.fld (GS_CNT_EDGE_LATE n) + 1) (2 ^ (GS_CNT_EDGE_LATE n).width - 1) ∧ t.out = s.out)) ∧
    (∀ (e : PendEdge) (q : List PendEdge), (s.rxOf n).state = .run → (s.rxOf n).pend = e :: q → e.on = false → e.hs = false → (s.rxOf n).ch.gate = .on →
      ∃ t, exec (.edgePlacement (Fin.castLE (by decide) n)) s = .next t ∧ (t.rxOf n).ch.gate = .off ∧ (t.rxOf n).ch.measuring = true ∧
        (t.rxOf n).pend = q ∧ t.regs = s.regs ∧ t.out = s.out) ∧
    ((s.rxOf n).pend = [] → exec (.edgePlacement (Fin.castLE (by decide) n)) s = .next s) ∧
    ((s.rxOf (48 + k)).hs.latch = true ∨ (s.rxOf (48 + k)).ch.latch = true → exec (.partnerOffTurnOn (Fin.natAdd 48 k)) s = .next s) ∧
    ((s.rxOf (48 + k)).hs.latch = false → (s.rxOf (48 + k)).ch.latch = false → (s.rxOf (48 + k)).hs.wantOn = true → (s.rxOf (48 + k)).ch.gate ≠ .on →
      exec (.partnerOffTurnOn (Fin.natAdd 48 k)) s = .next (s.setRx (48 + k) { s.rxOf (48 + k) with hs := (s.rxOf (48 + k)).hs.turnOn })) ∧
    ((s.rxOf n).ch.wantOn = true → (s.rxOf n).partnerOn = false → (s.rxOf n).xSilent = false →
      exec (.partnerOffTurnOn (Fin.castLE (by decide) n)) s = .next (s.setRx n { s.rxOf n with ch := (s.rxOf n).ch.turnOn })) ∧
    ((s.rxOf n).partnerOn = true → exec (.partnerOffTurnOn (Fin.castLE (by decide) n)) s = .next s) ∧
    (exec (.vposBelowReset n) s = .next (s.setRx n {})) ∧
    ((s.rxOf n).state = .reset → ∃ t, exec (.leavingReset n) s = .next t ∧ (t.rxOf n).state = .orphan ∧ (t.rxOf n).ch.gate = .off ∧
      (t.rxOf n).orphan = 0 ∧ t.regs = s.regs ∧ t.out = s.out) ∧
    (exec (.vposUvCleared n) s = .next (s.setRx n { s.rxOf n with uv := false })) ∧
    (exec (.vnegRangeCleared n) s = .next (s.setRx n { s.rxOf n with vneg := false })) ∧
    (exec (.drvUvCleared k) s = .next (s.setRx (48 + k) { s.rxOf (48 + k) with drvUv := false })) ∧
    ((s.rxOf n).state ≠ .reset → (s.rxOf n).state ≠ .orphan → exec (.vposArmed n) s = .next (s.setRx n { s.rxOf n with armedUv := true })) ∧
    ((s.rxOf n).state = .orphan → (s.rxOf n).held = some .permit → (s.rxOf n).downSilent = false → (s.rxOf n).needGood = 0 →
      ∃ t, exec (.vposArmed n) s = .next t ∧ (t.rxOf n).armedUv = true ∧ (t.rxOf n).state = .armed) ∧
    ((s.rxOf n).state = .orphan → (s.rxOf n).held = none → (s.rxOf n).orphan = 1 → (s.rxOf n).ch.latch = false → (s.rxOf n).ch.gate = .off →
      ∃ t, exec (.vposArmed n) s = .next t ∧ (t.rxOf n).armedUv = true ∧ (t.rxOf n).state = .orphan ∧ (t.rxOf n).ch.wantOn = true) ∧
    ((s.rxOf n).state = .orphan → (s.rxOf n).armedUv = false → exec (.permitCodeTaken (Fin.castLE (by decide) n) .permit) s =
      .next (s.setRx n { s.rxOf n with held := some .permit }))

/-- R121, R128, R129, R134, R135. -/
def Obligations.SatelliteRegistersAndReports : Prop :=
  ∀ (s : State) (p : Fin 12) (n : Fin 48) (k : Fin 12) (d : Word) (ntc die : BitVec 12) (taps : Nat), s.quiet = true → s.allUp = true →
    (s.linkFitted n = false → exec (.gsCfgWrite (.pair p) n d) s = .next (s.refuse gsErr .LEG_ABSENT) ∧
      exec (.gsClear (.pair p) n) s = .next (s.refuse gsErr .LEG_ABSENT)) ∧
    (s.linkFitted n = true → s.legStopped (n.val / 2) = false → exec (.gsCfgWrite (.pair p) n d) s = .next (s.refuse gsErr .GROUP_RUNNING)) ∧
    (s.linkFitted n = true → s.legStopped (n.val / 2) = true → 125 ≤ bitsOf d.toNat 6 7 ∨ bitsOf d.toNat 14 6 < 5 ∨ 40 < bitsOf d.toNat 14 6 →
      exec (.gsCfgWrite (.pair p) n d) s = .next (s.refuse gsErr .GS_RANGE)) ∧
    (s.linkFitted n = true → s.legStopped (n.val / 2) = true → bitsOf d.toNat 6 7 < 125 → 5 ≤ bitsOf d.toNat 14 6 → bitsOf d.toNat 14 6 ≤ 40 →
      s.flag GS_LOCK = false → exec (.gsCfgWrite (.pair p) n d) s = .next ((s.putAll [(GS_CFG_DSAT_TH n, bitsOf d.toNat 0 6),
        (GS_CFG_DSAT_BLANK n, bitsOf d.toNat 6 7), (GS_CFG_TRACK n, bitsOf d.toNat 13 1), (GS_CFG_TRACK_MARGIN n, bitsOf d.toNat 14 6),
        (GS_CFG_SC_TH n, bitsOf d.toNat 20 4), (GS_CFG_SC_EN n, bitsOf d.toNat 24 1), (GS_CFG_DSAT_EN n, bitsOf d.toNat 25 1)]).emit
          (.cfgWr n (d.toNat % 2 ^ 26)))) ∧
    (s.linkFitted n = true → s.legStopped (n.val / 2) = true → bitsOf d.toNat 6 7 < 125 → 5 ≤ bitsOf d.toNat 14 6 → bitsOf d.toNat 14 6 ≤ 40 →
      s.flag GS_LOCK = true → s.fld (GS_CFG_DSAT_TH n) ≠ bitsOf d.toNat 0 6 →
      exec (.gsCfgWrite (.pair p) n d) s = .next (s.refuse gsErr .GS_LOCKED)) ∧
    (s.linkFitted n = true → (s.lkOf n).lost = true → (s.lkOf n).goodUp < 4 →
      exec (.gsClear (.pair p) n) s = .next ((s.put (GS_STAT_CLR_RESULT n) 2).refuse gsErr .FAULT_PERSISTS)) ∧
    (s.linkFitted n = true → (s.lkOf n).lost = false → exec (.gsClear (.pair p) n) s =
      .next ((s.setLk n { s.lkOf n with clearWait := true }).emit (.down n (mkFrame 6 0)))) ∧
    (s.linkFitted (48 + k.val) = true → (s.lkOf (48 + k)).lost = false → exec (.ldClear (.pair p) k) s =
      .next ((s.setLk (48 + k) { s.lkOf (48 + k) with clearWait := true }).emit (.down (48 + k) (mkFrame 6 0)))) ∧
    (s.linkFitted (48 + k.val) = false → exec (.ldClear (.pair p) k) s = .next (s.refuse ldErr .LEG_ABSENT)) ∧
    (s.linkFitted (48 + k.val) = true → (s.lkOf (48 + k)).lost = true → (s.lkOf (48 + k)).goodUp < 4 →
      exec (.ldClear (.pair p) k) s = .next ((s.put (LD_STAT_CLR_RESULT k) 2).refuse ldErr .FAULT_PERSISTS)) ∧
    ((s.lkOf (48 + k)).clearWait = true → exec (.clearAnswerTimeout (Fin.natAdd 48 k)) s =
      .next ((((s.setLk (48 + k) { s.lkOf (48 + k) with clearWait := false }).put (LD_STAT_CLR_RESULT k) 3).refuse ldErr .SAT_SILENT).finish
        (.satClear (48 + k)) .SAT_SILENT)) ∧
    ((s.lkOf n).clearWait = false → exec (.clearAnswerTimeout (Fin.castLE (by decide) n)) s = .next s) ∧
    ((s.lkOf n).clearWait = true → exec (.clearAnswerTimeout (Fin.castLE (by decide) n)) s =
      .next ((((s.setLk n { s.lkOf n with clearWait := false }).put (GS_STAT_CLR_RESULT n) 3).refuse gsErr .SAT_SILENT).finish (.satClear n) .SAT_SILENT)) ∧
    ((s.rxOf n).state ≠ .reset → exec (.satelliteMeasurement (Fin.castLE (by decide) n) ntc die) s =
      .next (sendMeas (sendMeas s n 0 ntc.toNat) n 1 die.toNat)) ∧
    ((s.rxOf (48 + k)).state ≠ .reset → exec (.satelliteMeasurement (Fin.natAdd 48 k) ntc die) s = .next (sendMeas s (48 + k) 1 die.toNat)) ∧
    ((s.rxOf n).state = .reset → exec (.satelliteMeasurement (Fin.castLE (by decide) n) ntc die) s = .next s) ∧
    ((s.sensOf (16 + n.val)).last = none →
      exec (.measurementStale (Fin.castLE (by decide) n) false) s = .next (s.put (GS_NTC_STALE n) 1)) ∧
    ((s.sensOf (64 + n.val)).last = none →
      exec (.measurementStale (Fin.castLE (by decide) n) true) s = .next (s.put (GS_DIE_STALE n) 1)) ∧
    (∀ v, (s.sensOf (16 + n.val)).last = some v → ∃ t, exec (.measurementStale (Fin.castLE (by decide) n) false) s = .next t ∧
      t.fld (GS_NTC_STALE n) = 1 ∧ t.fld (THM_SENS_BROKEN (16 + n.val)) = 1 ∧ t.fld (THM_SENS_VALID (16 + n.val)) = 0 ∧ t.words = s.words) ∧
    ((s.rxOf n).ch.measuring = false → exec (.transitionMeasured (Fin.castLE (by decide) n) false taps) s = .next s) ∧
    ((s.rxOf n).ch.measuring = true → exec (.transitionMeasured (Fin.castLE (by decide) n) false taps) s =
      .next ((s.setRx n { s.rxOf n with ch := { (s.rxOf n).ch with measuring := false } }).up n 1
        (bit (s.fld (PWM_LEG_DTLIM_DT_MAX (n.val / 2)) < taps) * 2 ^ 23 + min taps (s.fld (PWM_LEG_DTLIM_DT_MAX (n.val / 2))) % 2 ^ 17 * 2 ^ 5)))

/-- R141-R146: starts of converters. -/
def Obligations.ConverterStarts : Prop :=
  ∀ (s : State) (p : Fin 12) (n : Fin 32) (d : Word), s.quiet = true → s.allUp = true →
    (s.flag (ADC_CTRL_EN n) = false → exec (.adcSwStart (.pair p) n) s = .next s ∧ exec (.adcTriggerEvent n) s = .next s ∧
      exec (.adcSwUrgent (.pair p) n) s = .next s ∧ exec (.adcUrgentEvent n) s = .next s) ∧
    (s.flag (ADC_CTRL_EN n) = true → s.flag (ADC_STAT_BUSY n) = true → exec (.adcSwStart (.pair p) n) s = .next (startOverrun s n)) ∧
    (s.flag (ADC_CTRL_EN n) = true → s.flag (ADC_STAT_BUSY n) = true → s.flag (ADC_CTRL_OVR_IE n) = false → startOverrun s n = s.inc (ADC_CNT_TRG_OVR n)) ∧
    (s.flag (ADC_CTRL_EN n) = true → s.flag (ADC_STAT_BUSY n) = false → s.fld (ADC_CTRL_TRG_MODE n) = 2 → exec (.adcSwStart (.pair p) n) s = .next s) ∧
    (s.fld (ADC_CTRL_TRG_MODE n) ≠ 1 → exec (.adcTriggerEvent n) s = .next s) ∧
    (s.flag (ADC_CTRL_EN n) = true → s.flag (ADC_STAT_BUSY n) = false → s.fld (ADC_CTRL_TRG_MODE n) ≠ 2 → s.flag (ADC_STAT_URG_BUSY n) = true →
      (s.adcOf n).wait = false → exec (.adcSwStart (.pair p) n) s = .next (s.setAdc n { s.adcOf n with wait := true })) ∧
    (s.flag (ADC_CTRL_EN n) = true → s.flag (ADC_STAT_BUSY n) = false → s.flag (ADC_STAT_URG_BUSY n) = false → s.fld (ADC_CTRL_TRG_MODE n) = 1 →
      ∃ t, exec (.adcSwStart (.pair p) n) s = .next t ∧ exec (.adcTriggerEvent n) s = .next t ∧ t.fld (ADC_STAT_BUSY n) = 1 ∧
        t.fld (ADC_STAT_ENTRY n) = 0 ∧ (t.adcOf n).seq.length = s.fld (ADC_CTRL_SEQ_LEN n) + 1 ∧ t.words = s.words ∧ t.out = s.out) ∧
    (s.flag (ADC_CTRL_EN n) = true → s.flag (ADC_STAT_URG_BUSY n) = false → s.flag (ADC_STAT_BUSY n) = true → (s.adcOf n).aborts < 4 →
      s.flag (ADC_CTRL_URG_EVT_EN n) = true → ∃ t, exec (.adcSwUrgent (.pair p) n) s = .next t ∧ exec (.adcUrgentEvent n) s = .next t ∧
        t.fld (ADC_STAT_URG_BUSY n) = 1 ∧ (t.adcOf n).aborts = (s.adcOf n).aborts + 1 ∧ (t.adcOf n).retaken = true ∧ t.words = s.words) ∧
    (s.flag (ADC_CTRL_EN n) = true → s.flag (ADC_STAT_URG_BUSY n) = true → s.flag (ADC_STAT_URG_PEND n) = false →
      exec (.adcSwUrgent (.pair p) n) s = .next (s.put (ADC_STAT_URG_PEND n) 1)) ∧
    (s.flag (ADC_CTRL_EN n) = true → s.flag (ADC_STAT_URG_BUSY n) = true → s.flag (ADC_STAT_URG_PEND n) = true →
      exec (.adcSwUrgent (.pair p) n) s = .next (s.inc (ADC_CNT_URG_MERGED n))) ∧
    (bitsOf d.toNat 1 2 = 3 → exec (.adcEnable (.pair p) n d) s = .next (s.refuse adcErr .ADC_RANGE)) ∧
    (s.flag ADC_LOCK = false → bitsOf d.toNat 1 2 ≠ 3 → bitsOf d.toNat 3 7 < 104 → bitsOf d.toNat 14 7 < 104 → bitsOf d.toNat 22 4 < 12 →
      ∃ t u, exec (.adcEnable (.pair p) n d) s = .next t ∧ exec (.adcDisable (.pair p) n d) s = .next u ∧ t.fld (ADC_CTRL_EN n) = 1 ∧
        t.fld (ADC_CTRL_TRG_MODE n) = bitsOf d.toNat 1 2 ∧ t.words = s.words ∧ u.fld (ADC_CTRL_EN n) = 0 ∧ (u.adcOf n).wait = false ∧ u.fld (ADC_STAT_URG_PEND n) = 0 ∧
        (u.adcOf n).seq = (s.adcOf n).seq ∧ u.fld (ADC_STAT_BUSY n) = s.fld (ADC_STAT_BUSY n) ∧ u.words = s.words)

/-- R139-R158: results of converters and modulator channels. -/
def Obligations.ConversionResults : Prop :=
  ∀ (s : State) (n : Fin 32) (k : Fin 24) (uv : Nat) (rising falling : BitVec 256), s.quiet = true →
    (∀ (e : Nat) (c : EntryCfg), e < 16 → s.flag (ADC_STAT_URG_BUSY n) = false → s.flag (ADC_STAT_BUSY n) = true → s.flag (ADC_CTRL_EN n) = true →
      s.fld (ADC_STAT_ENTRY n) = e → (s.adcOf n).seq[e]? = some c → c.input ≠ 5 → c.engine < 32 → c.addr < 4095 → s.flag (ADC_STAT_URG_PEND n) = false →
      (s.adcOf n).cut = false → ∃ t, exec (.conversionEnd n uv) s = .next t ∧
        t.word (adcMirror n e) = sarMantissa (rawCode (gainOf c.gain) uv (Config.freeValue s.free)) c.zero ∧
        t.fld (RES_RAW (adcMirror n e)) = rawCode (gainOf c.gain) uv (Config.freeValue s.free) ∧
        t.fld (RES_TLO_T_LO (adcMirror n e)) = (s.mtime - 320) % 2 ^ 32 ∧
        t.fld (RES_FLAGS_VALID (adcMirror n e)) = bit (!s.flag (ADC_STAT_REF_FAULT n)) ∧
        (c.den = true → t.word (dataAddr c.engine c.addr) = t.word (adcMirror n e)) ∧
        (∀ a, a ≠ adcMirror n e → a ≠ dataAddr c.engine c.addr → a ≠ dataAddr c.engine (c.addr + 1) → t.word a = s.word a) ∧
        (e + 1 < (s.adcOf n).seq.length → e < 15 → t.fld (ADC_STAT_ENTRY n) = e + 1 ∧ t.flag (ADC_STAT_BUSY n) = true)) ∧
    (s.flag (ADC_STAT_URG_BUSY n) = false → s.flag (ADC_STAT_BUSY n) = false → exec (.conversionEnd n uv) s = .next s) ∧
    (s.flag (ADC_STAT_URG_BUSY n) = false → s.flag (ADC_STAT_BUSY n) = true → s.flag (ADC_CTRL_EN n) = false →
      ∃ t, exec (.conversionEnd n uv) s = .next t ∧ t.fld (ADC_STAT_BUSY n) = 0 ∧ t.fld (ADC_STAT_ENTRY n) = 0) ∧
    (s.flag (ADC_CMP_CFG_EN n) = true → s.fld (ADC_CMP_CFG_WATCH n) ≠ 0 → ∃ t, exec (.comparatorWatchExpiry n) s = .next t ∧
      t.fld (ADC_CMP_STAT_OUT n) = 1 ∧ t.fld (ADC_CMP_STAT_WATCH_EXP n) = 1 ∧ t.words = s.words) ∧
    (s.flag (ADC_CMP_CFG_EN n) = false → exec (.comparatorWatchExpiry n) s = .next s) ∧
    (outputDue s k = false → exec (.modulatorOutput k rising falling) s = .next s) ∧
    (s.flag (MOD_CFG_EN k) = false → exec (.modStuck k) s = .next s) ∧
    (∀ (j out : Nat), outputDue s k = true → s.fld (MOD_CFG_DM1 k) + 1 = 2 ^ j → s.flag (MOD_DST_DEN k) = false →
      out = (sincOutput (s.moduOf k) ((List.range (2 ^ j)).map fun i =>
        (if s.flag (MOD_CFG_EDGE k) then falling.toNat else rising.toNat).testBit i)).2 →
      ∃ t, exec (.modulatorOutput k rising falling) s = .next t ∧
        t.word (modMirror k) = BitVec.ofInt 36 (min ((2 * (out : Int) - (2 ^ j) ^ 3) * 2 ^ 35 / (2 ^ j) ^ 3) (2 ^ 35 - 1)) ∧
        t.fld (RES_RAW (modMirror k)) = out % 2 ^ (RES_RAW (modMirror k)).width ∧
        t.fld (RES_FLAGS_VALID (modMirror k)) = bit ((s.moduOf k).settle = 0 && !s.flag (MOD_STAT_STUCK k)) ∧
        (.event (80 + k.val) s.mtime) ∈ t.out ∧ (∀ a, a ≠ modMirror k → t.word a = s.word a)) ∧
    (s.flag (MOD_CFG_EN k) = true → s.flag (MOD_STAT_STUCK k) = false → ∃ t, exec (.modStuck k) s = .next t ∧ t.fld (MOD_STAT_STUCK k) = 1 ∧
      t.words = s.words) ∧
    (∀ (p : Fin 12) (e : Fin 16), s.allUp = true → ∃ t, exec (.mirrorRecordRead (.pair p) (BitVec.ofNat 32 (adcMirror n e))) s = .next t ∧
      t.out = s.out ++ [.data (.pair p) (adcMirror n e) ((s.word (adcMirror n e)).toNat % 2 ^ 32)] ∧ t.words = s.words ∧
      t.fld (RES_FLAGS_STALE (adcMirror n e)) = bit (mirrorStale s (adcMirror n e) (s.fld (ADC_FRESH_LIMIT n))))

/-- R165-R176, R182: counting. -/
def Obligations.FeedbackCounts : Prop :=
  ∀ (s : State) (p : Fin 12) (n : Fin 8) (a b rising : Bool) (h : BitVec 3) (d : Word), s.quiet = true → s.allUp = true →
    (fbOn s n = false → exec (.quadratureEdge n a b) s = .next (s.setFb n { s.fbOf n with a := a, b := b }) ∧ exec (.indexPulse n) s = .next s ∧
      exec (.eventLatch n) s = .next s ∧ exec (.pinLatch n rising) s = .next s ∧ exec (.standstillTimeout n) s = .next s) ∧
    (fbOn s n = true → fbMode s n = 0 → ∀ c, quadCount (s.fld (FB_CFG_QMODE n)) (s.fbOf n).a (s.fbOf n).b a b = some c →
      ∃ t, exec (.quadratureEdge n a b) s = .next t ∧ t.fld (FB_CNT n) = (if c = 0 then s.fld (FB_CNT n) else codeOf 32 ((s.fld (FB_CNT n) : Int) + revd s n c)) ∧
        (t.fbOf n).a = a ∧ (t.fbOf n).b = b ∧ t.words = s.words ∧ t.fld (FB_STAT_POS_VALID n) = s.fld (FB_STAT_POS_VALID n)) ∧
    (fbOn s n = true → fbMode s n = 0 → quadCount (s.fld (FB_CFG_QMODE n)) (s.fbOf n).a (s.fbOf n).b a b = none →
      ∃ t, exec (.quadratureEdge n a b) s = .next t ∧ t.fld (FB_CNT n) = s.fld (FB_CNT n) ∧ t.fld (FB_STAT_QERR n) = 1 ∧
        t.fld (FB_STAT_POS_DOUBT n) = 1 ∧ t.fld (FB_STAT_POS_VALID n) = 0 ∧ t.words = s.words) ∧
    (fbOn s n = false → ∃ t, exec (.hallStateChange n h) s = .next t ∧ (t.fbOf n).hall = h.toNat ∧ t.fld (FB_CNT n) = s.fld (FB_CNT n) ∧
      t.fld (FB_STAT_HALL_ERR n) = s.fld (FB_STAT_HALL_ERR n) ∧ t.words = s.words ∧ t.out = s.out) ∧
    (fbOn s n = true → fbMode s n = 1 → h = 0 ∨ h = 7 → ∃ t, exec (.hallStateChange n h) s = .next t ∧ t.fld (FB_CNT n) = s.fld (FB_CNT n) ∧
      t.fld (FB_STAT_HALL_ERR n) = 1 ∧ t.fld (FB_STAT_FAULT n) = 1 ∧ t.fld (FB_STAT_POS_DOUBT n) = 1) ∧
    (fbOn s n = true → fbMode s n = 1 → (s.fbOf n).hallLost = false → (s.fbOf n).hall = 1 → h = 3 → s.flag (FB_CFG_REV n) = false →
      ∃ t, exec (.hallStateChange n h) s = .next t ∧ t.fld (FB_CNT n) = codeOf 32 ((s.fld (FB_CNT n) : Int) + 1) ∧ t.fld (FB_STAT_HALL_STATE n) = 3) ∧
    (fbOn s n = true → fbMode s n = 0 → indexQualified s n = true →
      s.fld (FB_CFG_IDX_MODE n) = 1 ∨ (s.fld (FB_CFG_IDX_MODE n) = 2 ∧ s.flag (FB_STAT_ARMED n) = true ∧ (s.fbOf n).armAt < s.mtime) →
      ∃ t, exec (.indexPulse n) s = .next t ∧ t.fld (FB_STAT_IDX_EVT n) = 1 ∧ t.fld (FB_L_CNT n 2) = cntBefore s n s.mtime % 2 ^ 32 ∧
        t.fld (FB_CNT n) = codeOf 32 ((s.fld (FB_IDXVAL_VAL n) : Int) + tickSteps s n) ∧ t.fld (FB_STAT_POS_VALID n) = 1 ∧
        (s.fld (FB_CFG_IDX_MODE n) = 2 → t.fld (FB_STAT_ARMED n) = 0) ∧ t.words = s.words) ∧
    (fbOn s n = true → fbMode s n = 0 → indexQualified s n = true → s.fld (FB_CFG_IDX_MODE n) = 2 →
      s.flag (FB_STAT_ARMED n) = false ∨ s.mtime ≤ (s.fbOf n).armAt → ∃ t, exec (.indexPulse n) s = .next t ∧
        t.fld (FB_STAT_IDX_EVT n) = 1 ∧ t.fld (FB_CNT n) = s.fld (FB_CNT n) ∧ t.fld (FB_STAT_ARMED n) = s.fld (FB_STAT_ARMED n)) ∧
    (exec (.fbArm (.pair p) n) s = .next ((s.setFb n { s.fbOf n with armAt := s.mtime }).put (FB_STAT_ARMED n) 1)) ∧
    (fbMode s n < 2 → exec (.fbSet (.pair p) n d) s =
      .next (((setCnt s n (codeOf 32 ((d.toNat : Int) + tickSteps s n))).put (FB_STAT_POS_DOUBT n) 0).put (FB_STAT_POS_VALID n) 1)) ∧
    (fbOn s n = true → s.flag (FB_LAT_CFG_LAT_EVT_EN n) = true → ∃ t, exec (.eventLatch n) s = .next t ∧ t.fld (FB_L_CNT n 0) = s.fld (FB_CNT n) % 2 ^ 32 ∧
      t.fld (FB_L_STAT_L_VALID n 0) = 1 ∧ t.fld (FB_CNT n) = s.fld (FB_CNT n)) ∧
    (fbOn s n = true → s.fld (FB_LAT_CFG_LAT_EDGE n) = 1 → ∃ t, exec (.pinLatch n true) s = .next t ∧ t.fld (FB_L_CNT n 1) = s.fld (FB_CNT n) % 2 ^ 32 ∧
      exec (.pinLatch n false) s = .next s) ∧
    (fbOn s n = true → fbMode s n < 3 → exec (.standstillTimeout n) s = .next ((s.setFb n { s.fbOf n with run := [] }).put (FB_STAT_STILL n) 1)) ∧
    (s.flag FB_LOCK = false → fbOn s n = true → bitsOf d.toNat 1 2 = fbMode s n → bitsOf d.toNat 3 2 = s.fld (FB_CFG_QMODE n) → bitsOf d.toNat 9 5 = 0 →
      bitsOf d.toNat 14 4 < 12 → ∃ t, exec (.fbDisable (.pair p) n d) s = .next t ∧ t.fld (FB_CFG_EN n) = 0 ∧ t.fld (FB_CNT n) = 0 ∧ t.fld (FB_ACC n) = 0 ∧
        t.fld (FB_L_STAT_L_VALID n 0) = 0 ∧ (t.fbOf n).run = [] ∧ t.fld (FB_STAT_POS_VALID n) = 0 ∧ t.words = s.words ∧
        ((∀ m : Fin 4, s.flag (FB_EMU_CFG_EN m) = false) → t.out = s.out)) ∧
    (s.flag FB_LOCK = false → fbOn s n = false → bitsOf d.toNat 1 2 = 0 → bitsOf d.toNat 9 5 = 0 → bitsOf d.toNat 14 4 < 12 →
      ∃ t, exec (.fbEnable (.pair p) n d) s = .next t ∧ t.fld (FB_CFG_EN n) = 1 ∧ t.fld (FB_STAT_POS_VALID n) = 0 ∧ t.fld (FB_CNT n) = s.fld (FB_CNT n) ∧
        t.words = s.words)

/-- R172-R180. -/
def Obligations.FeedbackFramesAndSlots : Prop :=
  ∀ (s : State) (n : Fin 8) (m : Fin 4) (hi lowOk : Bool) (bits : BitVec 48) (ago : Fin 33), s.quiet = true →
    (fbOn s n = true → fbMode s n = 2 → s.flag (FB_SSI2_SSI_EVT_EN n) = true → (s.fbOf n).ssiBusy = true →
      exec (.ssiFrameStart n hi) s = .next (s.inc (FB_ERRCNT_OVR_CNT n))) ∧
    (fbOn s n = true → fbMode s n = 2 → s.flag (FB_SSI2_SSI_EVT_EN n) = true → (s.fbOf n).ssiBusy = false → (s.fbOf n).ssiFree ≤ s.mtime →
      exec (.ssiFrameStart n false) s = .next s ∧ ∃ t, exec (.ssiFrameStart n true) s = .next t ∧ (t.fbOf n).ssiBusy = true ∧
        s.mtime + 4 ≤ (t.fbOf n).ssiTime ∧ (t.fbOf n).ssiTime ≤ s.mtime + 8 ∧ t.regs = s.regs ∧
        t.out = s.out ++ [.ssiClock n (2 * (s.fld (FB_SSI_CDIV n) + 1)) (s.fld (FB_SSI_FRAME_LEN n) + 1)]) ∧
    (fbOn s n = false ∨ fbMode s n ≠ 2 → exec (.ssiFrameStart n hi) s = .next s) ∧
    ((s.fbOf n).ssiBusy = false → exec (.ssiFrameEnd n bits lowOk) s = .next s) ∧
    ((s.fbOf n).ssiBusy = true → s.flag (FB_CFG_REV n) = false → s.flag (FB_SSI_GRAY n) = false → ∃ t, exec (.ssiFrameEnd n bits true) s = .next t ∧
      t.fld (FB_CNT n) = bitsOf (bits.toNat % 2 ^ s.fld (FB_SSI_FRAME_LEN n)) (s.fld (FB_SSI_POS_LSB n)) (s.fld (FB_SSI_POS_BITS n) + 1) % 2 ^ 32 ∧
      t.fld (FB_STAT_POS_VALID n) = 1 ∧ t.fld (FB_STAT_POS_DOUBT n) = 0 ∧ t.fld (FB_STAT_FAULT n) = 0 ∧ (t.fbOf n).ssiBusy = false ∧ t.words = s.words) ∧
    ((s.fbOf n).ssiBusy = true → 2 ≤ (s.fbOf n).ssiBad → ∃ t, exec (.ssiFrameEnd n bits false) s = .next t ∧ t.fld (FB_STAT_FAULT n) = 1 ∧
      t.fld (FB_STAT_POS_VALID n) = 0 ∧ t.fld (FB_STAT_SSI_ERR n) = 1 ∧ t.fld (FB_CNT n) = s.fld (FB_CNT n) ∧ t.words = s.words) ∧
    (fbOn s n = true → fbMode s n = 3 → requestDue s n = true → exec (.resolverRequest n) s =
      .next (adcUrgent (adcUrgent (s.setFb n { s.fbOf n with req := some s.mtime }) (s.fld (FB_RSL_SIN_ADC n))) (s.fld (FB_RSL_COS_ADC n)))) ∧
    (fbOn s n = false ∨ fbMode s n ≠ 3 ∨ requestDue s n = false → exec (.resolverRequest n) s = .next s) ∧
    ((s.fbOf n).req = none → exec (.resolverUpdate n) s = .next s) ∧
    (∀ (r time : Nat) (sn cs amp : Int), fbOn s n = true → fbMode s n = 3 → (s.fbOf n).req = some r →
      urgentDone s (s.fld (FB_RSL_SIN_ADC n)) r = true → urgentDone s (s.fld (FB_RSL_COS_ADC n)) r = true →
      time = max (mirrorTime s (adcMirror (s.fld (FB_RSL_SIN_ADC n)) 16)) (mirrorTime s (adcMirror (s.fld (FB_RSL_COS_ADC n)) 16)) →
      sn = (s.fld (RES_RAW (adcMirror (s.fld (FB_RSL_SIN_ADC n)) 16)) : Int) - s.fld (ADC_URG_CFG_ZERO (s.fld (FB_RSL_SIN_ADC n))) →
      cs = (s.fld (RES_RAW (adcMirror (s.fld (FB_RSL_COS_ADC n)) 16)) : Int) - s.fld (ADC_URG_CFG_ZERO (s.fld (FB_RSL_COS_ADC n))) →
      amp = (s.fld (FB_RSL2_AMP_NOM n) : Int) →
      (r + 800 < time → exec (.resolverUpdate n) s = .next ((s.setFb n { s.fbOf n with req := none }).inc (FB_ERRCNT_OVR_CNT n))) ∧
      (time ≤ r + 800 → ∃ t, exec (.resolverUpdate n) s = .next t ∧ (t.fbOf n).req = none ∧ (t.fbOf n).posTime = time ∧
        t.fld (FB_STAT_LOS n) = bit (4 * (sn * sn + cs * cs) < amp * amp || 9 * amp * amp < 4 * (sn * sn + cs * cs)) ∧
        (t.fld (FB_STAT_LOS n) = 1 → t.fld (FB_STAT_FAULT n) = 1 ∧ t.fld (FB_STAT_POS_VALID n) = 0) ∧ t.words = s.words)) ∧
    (fbOn s n = false ∨ s.flag (FB_SLOT_SLOT_EN n) = false → exec (.feedbackSlotWrite ⟨n, ago⟩) s = .next s) ∧
    (∀ eng adr, fbOn s n = true → s.flag (FB_SLOT_SLOT_EN n) = true → eng = bitsOf (s.fld (FB_SLOT_DST n)) 1 5 → adr = bitsOf (s.fld (FB_SLOT_DST n)) 6 12 →
      ∃ t, exec (.feedbackSlotWrite ⟨n, ago⟩) s = .next t ∧ t.regs = s.regs ∧ t.out = s.out ∧
        (∀ a, (∀ i < 4, a ≠ dataAddr eng (adr + i)) → t.word a = s.word a) ∧
        ∀ j cnt : Nat, bitAt (s.fld (FB_SLOT_DST n)) 0 = true → s.fld (FB_CPR n) = 2 ^ j →
          cnt = (if fbMode s n < 2 then cntBefore s n (s.mtime - ago + 1) else s.fld (FB_CNT n)) →
          t.word (dataAddr eng adr) = BitVec.ofInt 36 ((angleCount s n cnt : Int) * 2 ^ 36 / 2 ^ j)) ∧
    (∀ p : Fin 12, s.allUp = true → ∃ t, exec (.fbCntRead (.pair p) n) s = .next t ∧ t.words = s.words ∧
      t.out = s.out ++ [.data (.pair p) (0x60028014 + 0x100 * n.val) (s.fld (FB_CNT n))] ∧ t.fld (FB_STAT_STALE n) = bit (fbStale s n)) ∧
    (s.flag (FB_EMU_CFG_EN m) = false → exec (.emulatorEdge m) s = .next s) ∧
    (s.flag (FB_EMU_CFG_EN m) = true → s.flag (FB_STAT_POS_VALID (s.fld (FB_EMU_CFG_SRC m))) = false →
      exec (.emulatorEdge m) s = .next (emuCheck s m)) ∧
    (s.flag (FB_EMU_CFG_EN m) = true → s.flag (FB_STAT_POS_VALID (s.fld (FB_EMU_CFG_SRC m))) = true → (s.emuOf m).valid = true →
      0 < edgesTo (4 * s.fld (FB_EMU_CFG_LINES m)) (s.emuOf m).count (emuTarget s m) → (∀ last, (s.emuOf m).last = some last → last + 40 ≤ s.mtime) → ∃ t, exec (.emulatorEdge m) s = .next t ∧
        (t.emuOf m).count = ((s.emuOf m).count + 1) % max 1 (4 * s.fld (FB_EMU_CFG_LINES m)) ∧ t.words = s.words)

/-- R187-R193, R206, R208, R234, R237: states of a loop engine. -/
def Obligations.EngineStates : Prop :=
  ∀ (s : State) (p : Fin 12) (e : Fin 32) (ev : Fin 104) (others : BitVec 104) (fired : Time), s.quiet = true → s.allUp = true →
    bankShut s (0x40014000 + 0x20000 * e.val) = false →
    (s.fld (LE_STAT_STATE e) ≠ 0 → exec (.engineArm (.pair p) e) s = .next (s.leRefuse e .LE_BUSY)) ∧
    (s.fld (LE_STAT_STATE e) = 0 → (s.fld PWR_RET_LOST_LO_BANKS).testBit (24 + e.val / 4) = false →
      exec (.engineArm (.pair p) e) s = .next ((s.put (LE_STAT_STATE e) 1).put (LE_CYC_MAX e) 0)) ∧
    (s.fld (LE_STAT_STATE e) = 0 → exec (.engineDisarm (.pair p) e) s = .next s ∧ exec (.engineStop (.pair p) e) s = .next s ∧
      exec (.engineSwap (.pair p) e) s = .next (s.put (LE_STAT_BANK e) (1 - s.fld (LE_STAT_BANK e)))) ∧
    (s.fld (LE_STAT_STATE e) = 3 → exec (.engineDisarm (.pair p) e) s = .next (s.setEng e { s.engOf e with disarm := true })) ∧
    (s.fld (LE_STAT_STATE e) ≠ 0 → exec (.engineSwap (.pair p) e) s = .next (s.put (LE_STAT_SWAP_PEND e) 1) ∧
      ∃ t, exec (.engineStop (.pair p) e) s = .next t ∧ (s.fld (LE_STAT_STATE e) ≠ 3 → exec (.engineDisarm (.pair p) e) s = .next t) ∧
        t.fld (LE_STAT_STATE e) = 0 ∧ t.fld (LE_STAT_ESCALATED e) = 0 ∧ t.fld (LE_STAT_SWAP_PEND e) = 0 ∧ t.words = s.words ∧ t.out = s.out ∧
        ∀ g : Fin 12, t.fld (LE_G_GRP_ENGINE g) = (if s.fld (LE_G_GRP_ENGINE g) = e.val then 63 else s.fld (LE_G_GRP_ENGINE g))) ∧
    (s.fld (LE_STAT_STATE e) ≠ 1 → exec (.checkEnd e) s = .next s) ∧
    (s.fld (LE_STAT_STATE e) = 1 → (checkProg (progOf s e)).code ≠ 0 → ∃ t, exec (.checkEnd e) s = .next t ∧ t.fld (LE_STAT_STATE e) = 0 ∧
      t.fld (LE_STAT_CHECK_CODE e) = (checkProg (progOf s e)).code % 2 ^ (LE_STAT_CHECK_CODE e).width ∧ t.words = s.words ∧
      t.fld (LE_WCET_A_CYCLES e) = s.fld (LE_WCET_A_CYCLES e) ∧ t.fld (LE_WCET_B_CYCLES e) = s.fld (LE_WCET_B_CYCLES e) ∧ t.fld LE_ERR_LAST_ERR = 5) ∧
    (s.fld (LE_STAT_STATE e) = 1 → (checkProg (progOf s e)).code = 0 → groupOwned s e (progOf s e).mask = true → ∃ t, exec (.checkEnd e) s = .next t ∧
      t.fld (LE_STAT_STATE e) = 0 ∧ t.fld LE_ERR_LAST_ERR = 6 ∧ t.fld LE_ERR_ENGINE = e.val ∧ t.words = s.words) ∧
    (s.fld (LE_STAT_STATE e) = 1 → (checkProg (progOf s e)).code = 0 → groupOwned s e (progOf s e).mask = false →
      ∃ t, exec (.checkEnd e) s = .next t ∧ t.fld (LE_STAT_STATE e) = 2 ∧ t.fld (LE_STAT_CHECK_CODE e) = 0 ∧ t.words = s.words ∧
        t.fld (LE_WCET_A_CYCLES e) = (checkProg (progOf s e)).wcetA % 2 ^ (LE_WCET_A_CYCLES e).width ∧
        ∀ g : Fin 12, (progOf s e).mask.testBit g = true → t.fld (LE_G_GRP_ENGINE g) = e.val) ∧
    (s.fld (LE_STAT_STATE e) ≠ 2 → s.fld (LE_STAT_STATE e) ≠ 3 → exec (.engineTrigger e ev others fired) s = .next s) ∧
    (trigA s e (setBit others.toNat ev) = false → trigB s e (setBit others.toNat ev) = false → exec (.engineTrigger e ev others fired) s = .next s) ∧
    (s.fld (LE_STAT_STATE e) = 2 → libId s e = none → trigA s e (setBit others.toNat ev) = false → trigB s e (setBit others.toNat ev) = true → ∃ t, exec (.engineTrigger e ev others fired) s = .next t ∧
      t.fld (LE_STAT_STATE e) = 3 ∧ (t.engOf e).pc = (progOf s e).entry true ∧ (t.engOf e).budget = (progOf s e).declared true ∧ t.words = s.words ∧ t.out = s.out) ∧
    (s.fld (LE_STAT_STATE e) = 2 → libId s e = none → trigA s e (setBit others.toNat ev) = true → ∃ t, exec (.engineTrigger e ev others fired) s = .next t ∧
      t.fld (LE_STAT_STATE e) = 3 ∧ (t.engOf e).pc = (progOf s e).entry false ∧ (t.engOf e).trig = fired.toNat ∧ (t.engOf e).cycles = 0 ∧
      (t.engOf e).budget = (progOf s e).declared false ∧ t.words = s.words ∧ t.out = s.out) ∧
    (s.fld (LE_STAT_STATE e) = 3 → libId s e = none → trigA s e (setBit others.toNat ev) = true → (s.engOf e).disarm = false → s.fld (LE_STAT_ORUN_SEQ e) < 2 →
      ∃ t, exec (.engineTrigger e ev others fired) s = .next t ∧ t.fld (LE_STAT_STATE e) = 3 ∧ t.fld (LE_STAT_LAST_OVR e) = 1 ∧
        t.fld (LE_STAT_ORUN_SEQ e) = s.fld (LE_STAT_ORUN_SEQ e) + 1 ∧ (t.engOf e).pc = (progOf s e).entry false ∧ t.words = s.words) ∧
    (∀ id, s.fld (LE_STAT_STATE e) = 2 → libId s e = some id → trigA s e (setBit others.toNat ev) = true → id = 1 ∨ id = 2 →
      ∃ t, exec (.engineTrigger e ev others fired) s = .next t ∧ t.fld (LE_STAT_STATE e) = 3 ∧ (t.engOf e).flight.dropLast = (s.engOf e).flight ∧
        (t.engOf e).flight.getLast?.map (fun f => (f.duties.length, f.period)) = some (3 * id, none) ∧
        ((s.word (dataAddr e 0x068)).toNat.testBit 2 = true →
          (t.engOf e).flight.getLast?.map (·.duties) = some (List.replicate (3 * id) (if (s.word (dataAddr e 0x068)).toNat.testBit 3 then maxM else 0)))) ∧
    (∀ id, libId s e = some id → exec (.budgetOverrun e) s = .next s) ∧
    (∀ id, libId s e = some id → s.fld (LE_STAT_STATE e) = 3 → (s.engOf e).disarm = false → ∃ t, exec (.leEnd e .clean) s = .next t ∧
      t.fld (LE_STAT_STATE e) = 2 ∧ t.fld (LE_STAT_ORUN_SEQ e) = 0 ∧ t.words = s.words) ∧
    (s.fld (LE_STAT_STATE e) = 3 → budgetOut s e = false → exec (.budgetOverrun e) s = .next s) ∧
    (s.fld (LE_STAT_STATE e) = 3 → libId s e = none → budgetOut s e = true → (s.engOf e).disarm = false → s.fld (LE_STAT_ORUN_SEQ e) < 2 →
      ∃ t, exec (.budgetOverrun e) s = .next t ∧ t.fld (LE_STAT_STATE e) = 2 ∧ t.fld (LE_STAT_LAST_OVR e) = 2 ∧
        t.fld (LE_STAT_ORUN_SEQ e) = s.fld (LE_STAT_ORUN_SEQ e) + 1 ∧ t.words = s.words) ∧
    (s.atOp e .nop → (∃ t, exec (.leNop e .corrected) s = .next t ∧
      t.fld (LE_CNT_ECC_CORR e) = min (s.fld (LE_CNT_ECC_CORR e) + 1) (2 ^ (LE_CNT_ECC_CORR e).width - 1) ∧ t.words = s.words) ∧
      exec (.leNop e .lostPrivate) s = .next (settle s (engineFault s e 1)) ∧
      exec (.leNop e .lostTable) s = .next (settle s (engineFault s e 2)))

/-- R195, R202: instructions that write one mantissa. -/
def Obligations.EngineMantissaInstructions : Prop :=
  ∀ (s : State) (e : Fin 32), s.quiet = true → ∀ (d a b n : Nat) (imm k : Int) (x : LeMem),
    (s.atOp e (.ld d x) → ∃ t, exec (.leLd e .clean) s = .next t ∧ leRan s t e (.ld d x) ∧
      leSet s t e d (satM (s.word (dataAddr e (leAddr s e 4096 4096 x).2)).toInt) ((leAddr s e 4096 4096 x).1.engOf e).p) ∧
    (s.atOp e (.lds d x) → ∃ t, exec (.leLds e .clean) s = .next t ∧ leRan s t e (.lds d x) ∧
      leSet s t e d (satM (scaleRound (s.word (dataAddr e (leSlotAddr s e x).2)).toInt
        (signedOf 8 (bitsOf (s.word (dataAddr e ((leSlotAddr s e x).2 + 1))).toNat 24 8) - (s.engOf e).se))) ((leSlotAddr s e x).1.engOf e).p ∧
      (t.engOf e).sv = ((s.word (dataAddr e ((leSlotAddr s e x).2 + 1))).toNat.testBit 35 && !(s.word (dataAddr e ((leSlotAddr s e x).2 + 1))).toNat.testBit 33)) ∧
    (s.atOp e (.ldc d x) → ∃ t, exec (.leLdc e .clean) s = .next t ∧ leRan s t e (.ldc d x) ∧ leSet s t e d (satM (leCoef s e x).2) ((leCoef s e x).1.engOf e).p) ∧
    (∀ raw, s.atOp e (.ldt d n x) → raw = Tbl.get 0 (s.engOf e).tbl n → ∃ t, exec (.leLdt e .clean) s = .next t ∧ leRan s t e (.ldt d n x) ∧
      leSet s t e d (if tblValid raw then satM (tblEntry s raw (tblIndex s e raw x).2) else 0) ((tblIndex s e raw x).1.engOf e).p ∧
      (tblValid raw = false → t.fld (LE_STAT_SAT e) = 1) ∧
      (∀ i, x = .dir i → i ≤ 2 ^ tblL raw → tblWrap raw = false → (tblIndex s e raw x).2 = i)) ∧
    (s.atOp e (.ldi d imm) → ∃ t, exec (.leLdi e .clean) s = .next t ∧ leRan s t e (.ldi d imm) ∧ leSet s t e d (satM (imm * 2 ^ 18)) (s.engOf e).p) ∧
    (s.atOp e (.mov d a) → ∃ t, exec (.leMov e .clean) s = .next t ∧ leRan s t e (.mov d a) ∧ leSet s t e d ((s.engOf e).mant a) (s.engOf e).p) ∧
    (s.atOp e (.lda d n k) → ∃ t, exec (.leLda e .clean) s = .next t ∧ leRan s t e (.lda d n k) ∧
      leSet s t e d (satM (scaleRound ((s.engOf e).accu n) (k - 35))) (s.engOf e).p) ∧
    (s.atOp e (.add d a b) → ∃ t, exec (.leAdd e .clean) s = .next t ∧ leRan s t e (.add d a b) ∧
      leSet s t e d (satM ((s.engOf e).mant a + (s.engOf e).mant b)) (s.engOf e).p) ∧
    (s.atOp e (.sub d a b) → ∃ t, exec (.leSub e .clean) s = .next t ∧ leRan s t e (.sub d a b) ∧
      leSet s t e d (satM ((s.engOf e).mant a - (s.engOf e).mant b)) (s.engOf e).p) ∧
    (s.atOp e (.neg d a) → ∃ t, exec (.leNeg e .clean) s = .next t ∧ leRan s t e (.neg d a) ∧ leSet s t e d (satM (-(s.engOf e).mant a)) (s.engOf e).p) ∧
    (s.atOp e (.abs d a) → ∃ t, exec (.leAbs e .clean) s = .next t ∧ leRan s t e (.abs d a) ∧ leSet s t e d (satM ((s.engOf e).mant a).natAbs) (s.engOf e).p) ∧
    (s.atOp e (.addw d a b) → ∃ t, exec (.leAddw e .clean) s = .next t ∧ leRan s t e (.addw d a b) ∧
      leSet s t e d (BitVec.ofInt 36 ((s.engOf e).mant a + (s.engOf e).mant b)).toInt (s.engOf e).p) ∧
    (s.atOp e (.mul d a b k) → ∃ t, exec (.leMul e .clean) s = .next t ∧ leRan s t e (.mul d a b k) ∧
      leSet s t e d (satM (scaleRound ((s.engOf e).mant a * (s.engOf e).mant b) (k - 35))) (s.engOf e).p) ∧
    (s.atOp e (.mulc d a x k) → ∃ t, exec (.leMulc e .clean) s = .next t ∧ leRan s t e (.mulc d a x k) ∧
      leSet s t e d (satM (scaleRound ((s.engOf e).mant a * (leCoef s e x).2) (k - 35))) ((leCoef s e x).1.engOf e).p) ∧
    (s.atOp e (.mulw d a n) → ∃ t, exec (.leMulw e .clean) s = .next t ∧ leRan s t e (.mulw d a n) ∧
      leSet s t e d (BitVec.ofInt 36 ((s.engOf e).mant a * n)).toInt (s.engOf e).p) ∧
    (s.atOp e (.div d a b) → ∃ t, exec (.leDiv e .clean) s = .next t ∧ leRan s t e (.div d a b) ∧
      (0 < (s.engOf e).mant b → leSet s t e d (satM (divRound ((s.engOf e).mant a * 2 ^ 35) ((s.engOf e).mant b))) (s.engOf e).p) ∧
      ((s.engOf e).mant b < 0 → leSet s t e d (satM (divRound (-(s.engOf e).mant a * 2 ^ 35) (-(s.engOf e).mant b))) (s.engOf e).p) ∧
      ((s.engOf e).mant b = 0 → leSet s t e d (if (s.engOf e).mant a = 0 then 0 else if 0 < (s.engOf e).mant a then maxM else minM) (s.engOf e).p)) ∧
    (s.atOp e (.ash d a k) → ∃ t, exec (.leAsh e .clean) s = .next t ∧ leRan s t e (.ash d a k) ∧
      leSet s t e d (satM (scaleRound ((s.engOf e).mant a) k)) (s.engOf e).p) ∧
    (s.atOp e (.min d a b) → ∃ t, exec (.leMin e .clean) s = .next t ∧ leRan s t e (.min d a b) ∧
      leSet s t e d (min ((s.engOf e).mant a) ((s.engOf e).mant b)) (s.engOf e).p) ∧
    (s.atOp e (.max d a b) → ∃ t, exec (.leMax e .clean) s = .next t ∧ leRan s t e (.max d a b) ∧
      leSet s t e d (max ((s.engOf e).mant a) ((s.engOf e).mant b)) (s.engOf e).p) ∧
    (s.atOp e (.clamp d a b) → ∃ t, exec (.leClamp e .clean) s = .next t ∧ leRan s t e (.clamp d a b) ∧
      leSet s t e d (min (max ((s.engOf e).mant d) ((s.engOf e).mant a)) ((s.engOf e).mant b)) (s.engOf e).p ∧
      ((t.engOf e).mant d ≠ (s.engOf e).mant d → t.fld (LE_STAT_LIM e) = 1 ∧ (t.engOf e).lim = true)) ∧
    (s.atOp e (.sel d a b n) → ∃ t, exec (.leSel e .clean) s = .next t ∧ leRan s t e (.sel d a b n) ∧
      leSet s t e d ((s.engOf e).mant (if (s.engOf e).cond n then a else b)) (s.engOf e).p) ∧
    (∀ raw, s.atOp e (.tbl d a n) → raw = Tbl.get 0 (s.engOf e).tbl n → ∃ t, exec (.leTbl e .clean) s = .next t ∧ leRan s t e (.tbl d a n) ∧
      leSet s t e d (if tblValid raw then satM (tblValue s raw ((s.engOf e).mant a)) else 0) (s.engOf e).p ∧
      (tblValid raw = false → t.fld (LE_STAT_SAT e) = 1))

/-- R190, R195-R198, R202: the other scalar instructions. -/
def Obligations.EngineOtherInstructions : Prop :=
  ∀ (s : State) (e : Fin 32), s.quiet = true → ∀ (d a b n c : Nat) (imm k : Int) (x : LeMem) (m1 ph : Bool) (per : Option Nat),
    (s.atOp e .nop → ∃ t, exec (.leNop e .clean) s = .next t ∧ leRan s t e .nop ∧ (t.engOf e).m = (s.engOf e).m ∧ (t.engOf e).a = (s.engOf e).a) ∧
    (s.atOp e (.st d x) → ∃ t, exec (.leSt e .clean) s = .next t ∧
      (t.word (dataAddr e (leAddr s e 4096 4096 x).2)).toInt = (s.engOf e).mant d ∧
      (∀ w, w ≠ dataAddr e (leAddr s e 4096 4096 x).2 → t.word w = s.word w) ∧ t.regs = s.regs ∧ (t.engOf e).m = (s.engOf e).m ∧ t.out = s.out) ∧
    (s.atOp e (.sts d x) → ∃ t, exec (.leSts e .clean) s = .next t ∧
      (t.word (dataAddr e (leSlotAddr s e x).2)).toInt = (s.engOf e).mant d ∧ (t.word (dataAddr e ((leSlotAddr s e x).2 + 1))).toNat.testBit 35 = true ∧
      (∀ w, w ≠ dataAddr e (leSlotAddr s e x).2 → w ≠ dataAddr e ((leSlotAddr s e x).2 + 1) → t.word w = s.word w) ∧
      (∀ f : Fld, f.key ≠ (LE_STAT_ALIGN e).key → t.fld f = s.fld f) ∧ t.out = s.out) ∧
    (s.atOp e (.ldp d n) → ∃ t, exec (.leLdp e .clean) s = .next t ∧ leRan s t e (.ldp d n) ∧ (t.engOf e).ptr d = n % 4096 ∧ (t.engOf e).m = (s.engOf e).m) ∧
    (s.atOp e (.addp d imm) → ∃ t, exec (.leAddp e .clean) s = .next t ∧ leRan s t e (.addp d imm) ∧
      ((t.engOf e).ptr d : Int) = ((s.engOf e).ptr d + imm) % 4096 ∧ (t.engOf e).m = (s.engOf e).m) ∧
    (s.atOp e (.mac n a b k) → ∃ t, exec (.leMac e .clean) s = .next t ∧ leRan s t e (.mac n a b k) ∧
      leSetA s t e n (satA ((s.engOf e).accu n + scaleRound ((s.engOf e).mant a * (s.engOf e).mant b) k))) ∧
    (s.atOp e (.macc n a x k) → ∃ t, exec (.leMacc e .clean) s = .next t ∧ leRan s t e (.macc n a x k) ∧
      leSetA s t e n (satA ((s.engOf e).accu n + scaleRound ((s.engOf e).mant a * (leCoef s e x).2) k))) ∧
    (s.atOp e (.msu n a b k) → ∃ t, exec (.leMsu e .clean) s = .next t ∧ leRan s t e (.msu n a b k) ∧
      leSetA s t e n (satA ((s.engOf e).accu n + scaleRound (-((s.engOf e).mant a * (s.engOf e).mant b)) k))) ∧
    (s.atOp e (.msuc n a x k) → ∃ t, exec (.leMsuc e .clean) s = .next t ∧ leRan s t e (.msuc n a x k) ∧
      leSetA s t e n (satA ((s.engOf e).accu n + scaleRound (-((s.engOf e).mant a * (leCoef s e x).2)) k))) ∧
    (s.atOp e (.clra n) → ∃ t, exec (.leClra e .clean) s = .next t ∧ leRan s t e (.clra n) ∧ leSetA s t e n 0) ∧
    (s.atOp e (.ldam n a) → ∃ t, exec (.leLdam e .clean) s = .next t ∧ leRan s t e (.ldam n a) ∧ leSetA s t e n ((s.engOf e).mant a * 2 ^ 35)) ∧
    (s.atOp e (.adda n a k) → ∃ t, exec (.leAdda e .clean) s = .next t ∧ leRan s t e (.adda n a k) ∧
      leSetA s t e n (satA ((s.engOf e).accu n + scaleRound ((s.engOf e).mant a) (35 + k)))) ∧
    (s.atOp e (.norm a b) → ∃ t, exec (.leNorm e .clean) s = .next t ∧ leRan s t e (.norm a b) ∧ (t.engOf e).m = (s.engOf e).m ∧
      (t.engOf e).nx ≤ 35 ∧ (∀ r, a ≤ r → r ≤ b → -2 ^ 35 ≤ (s.engOf e).mant r * 2 ^ (min 34 (t.engOf e).nx) ∧
        (s.engOf e).mant r * 2 ^ (min 34 (t.engOf e).nx) < 2 ^ 35)) ∧
    (∀ mask nse, s.atOp e (.stage m1 imm mask) → nse = clampInt (-128) 127 (if m1 then (s.engOf e).se - (s.engOf e).nx else imm) →
      ∃ t, exec (.leStage e .clean) s = .next t ∧ leRan s t e (.stage m1 imm mask) ∧ (t.engOf e).se = nse ∧
        (∀ r, (t.engOf e).mant r =
          if r < 16 ∧ mask.testBit r = true then satM (scaleRound ((s.engOf e).mant r) ((s.engOf e).se - nse)) else (s.engOf e).mant r)) ∧
    (s.atOp e (.cmp a b) → ∃ t, exec (.leCmp e .clean) s = .next t ∧ leRan s t e (.cmp a b) ∧ (t.engOf e).m = (s.engOf e).m ∧
      ((t.engOf e).lt = true ↔ (s.engOf e).mant a < (s.engOf e).mant b) ∧ ((t.engOf e).eq = true ↔ (s.engOf e).mant a = (s.engOf e).mant b)) ∧
    (s.atOp e (.skip c n) → ∃ t, exec (.leSkip e .clean) s = .next t ∧ t.regs = s.regs ∧ t.words = s.words ∧ (t.engOf e).m = (s.engOf e).m ∧
      t.engOf e = loopStep (loopStep { s.engOf e with pc := (s.engOf e).pc + 1 + (if (s.engOf e).cond c then n else 0),
                                                      cycles := (s.engOf e).cycles + (LeOp.skip c n).charge }) ∧
      ((s.engOf e).loops = [] → (t.engOf e).pc = (s.engOf e).pc + 1 + (if (s.engOf e).cond c then n else 0))) ∧
    (s.atOp e (.loop c n) → 0 < n → ∃ t, exec (.leLoop e .clean) s = .next t ∧ t.regs = s.regs ∧ t.words = s.words ∧
      (t.engOf e).pc = (s.engOf e).pc + 1 ∧ (t.engOf e).loops = ((s.engOf e).pc + 1, (s.engOf e).pc + 1 + n, c) :: (s.engOf e).loops) ∧
    (s.atOp e .fin → (s.engOf e).disarm = false → ∃ t, exec (.leEnd e .clean) s = .next t ∧ t.fld (LE_STAT_STATE e) = 2 ∧ t.fld (LE_STAT_ORUN_SEQ e) = 0 ∧
      t.fld (LE_CYC_LAST e) = ((s.engOf e).cycles + 1) % 2 ^ (LE_CYC_LAST e).width ∧ t.words = s.words ∧ (t.engOf e).m = (s.engOf e).m) ∧
    (s.atOp e (.evt c n) → (s.engOf e).cond c = true → ∃ t, exec (.leEvt e .clean) s = .next t ∧ t.fld (LE_EVT_CODE e) = n % 2 ^ (LE_EVT_CODE e).width ∧
      t.fld (LE_EVT_EVT_FLAG e) = 1 ∧ t.words = s.words ∧ (t.engOf e).m = (s.engOf e).m) ∧
    (s.atOp e (.evt c n) → (s.engOf e).cond c = false → ∃ t, exec (.leEvt e .clean) s = .next t ∧ leRan s t e (.evt c n) ∧ t.regs = s.regs) ∧
    (s.atOp e (.commit n a b ph per) → ∃ t, exec (.leCommit e .clean) s = .next t ∧ leRan s t e (.commit n a b ph per) ∧ (t.engOf e).m = (s.engOf e).m ∧
      (t.engOf e).flight.dropLast = (s.engOf e).flight ∧
      (t.engOf e).flight.getLast?.map (fun f => (f.group, f.duties, f.phases.isSome, f.period.isSome)) =
        some (n, (List.range b).map (fun i => (s.engOf e).mant (a + i)), ph, per.isSome))

/-- R202, R203: vector instructions. -/
def Obligations.EngineVectorInstructions : Prop :=
  ∀ (s : State) (e : Fin 32), s.quiet = true → ∀ (d a b : Nat),
    (s.atOp e (.park d a b) → ∃ t, exec (.lePark e .clean) s = .next t ∧ leRan s t e (.park d a b) ∧
      (t.engOf e).mant d = satM (scaleRound ((s.engOf e).mant a * (s.engOf e).mant b + (s.engOf e).mant (a + 1) * (s.engOf e).mant (b + 1)) (-35)) ∧
      (t.engOf e).mant (d + 1) = satM (scaleRound ((s.engOf e).mant (a + 1) * (s.engOf e).mant b - (s.engOf e).mant a * (s.engOf e).mant (b + 1)) (-35)) ∧
      ∀ r, r ≠ d → r ≠ d + 1 → (t.engOf e).mant r = (s.engOf e).mant r) ∧
    (s.atOp e (.ipark d a b) → ∃ t, exec (.leIpark e .clean) s = .next t ∧ leRan s t e (.ipark d a b) ∧
      (t.engOf e).mant d = satM (scaleRound ((s.engOf e).mant a * (s.engOf e).mant b - (s.engOf e).mant (a + 1) * (s.engOf e).mant (b + 1)) (-35)) ∧
      (t.engOf e).mant (d + 1) = satM (scaleRound ((s.engOf e).mant a * (s.engOf e).mant (b + 1) + (s.engOf e).mant (a + 1) * (s.engOf e).mant b) (-35)) ∧
      ∀ r, r ≠ d → r ≠ d + 1 → (t.engOf e).mant r = (s.engOf e).mant r) ∧
    (s.atOp e (.clarke d a false) → ∃ t, exec (.leClarke e .clean) s = .next t ∧ leRan s t e (.clarke d a false) ∧
      (t.engOf e).mant d = satM (divRound (2 * (s.engOf e).mant a - (s.engOf e).mant (a + 1) - (s.engOf e).mant (a + 2)) 3) ∧
      (t.engOf e).mant (d + 1) = satM (rootRound ((s.engOf e).mant (a + 1) - (s.engOf e).mant (a + 2)) 1 3) ∧
      ∀ r, r ≠ d → r ≠ d + 1 → (t.engOf e).mant r = (s.engOf e).mant r) ∧
    (s.atOp e (.clarke d a true) → ∃ t, exec (.leClarke e .clean) s = .next t ∧ leRan s t e (.clarke d a true) ∧
      (t.engOf e).mant d = (s.engOf e).mant a ∧ (t.engOf e).mant (d + 1) = satM (rootRound ((s.engOf e).mant a + 2 * (s.engOf e).mant (a + 1)) 1 3) ∧
      ∀ r, r ≠ d → r ≠ d + 1 → (t.engOf e).mant r = (s.engOf e).mant r) ∧
    (s.atOp e (.vlim d a) → (s.engOf e).mant d * (s.engOf e).mant d + (s.engOf e).mant (d + 1) * (s.engOf e).mant (d + 1) ≤
        max ((s.engOf e).mant a) 0 * max ((s.engOf e).mant a) 0 →
      ∃ t, exec (.leVlim e .clean) s = .next t ∧ leRan s t e (.vlim d a) ∧ t.regs = s.regs ∧ (t.engOf e).m = (s.engOf e).m) ∧
    (s.atOp e (.vlim d a) → max ((s.engOf e).mant a) 0 * max ((s.engOf e).mant a) 0 <
        (s.engOf e).mant d * (s.engOf e).mant d + (s.engOf e).mant (d + 1) * (s.engOf e).mant (d + 1) →
      ∃ t, exec (.leVlim e .clean) s = .next t ∧ leRan s t e (.vlim d a) ∧ t.fld (LE_STAT_LIM e) = 1 ∧ (t.engOf e).lim = true ∧
        ((s.engOf e).mant a ≤ 0 → (t.engOf e).mant d = 0 ∧ (t.engOf e).mant (d + 1) = 0)) ∧
    (s.atOp e (.sincos d a) → ∃ t, exec (.leSincos e .clean) s = .next t ∧ leRan s t e (.sincos d a) ∧
      ((t.engOf e).mant d * 2 ^ 29 - clampInt (-2 ^ 64) (2 ^ 64) (sinCosTurn 36 ((s.engOf e).mant a)).2).natAbs ≤ 2 ^ 32 ∧
      ((t.engOf e).mant (d + 1) * 2 ^ 29 - clampInt (-2 ^ 64) (2 ^ 64) (sinCosTurn 36 ((s.engOf e).mant a)).1).natAbs ≤ 2 ^ 32) ∧
    (s.atOp e (.polar d a) → 0 < (s.engOf e).mant a → (s.engOf e).mant (a + 1) = 0 → ∃ t, exec (.lePolar e .clean) s = .next t ∧
      leRan s t e (.polar d a) ∧ (t.engOf e).mant d = (s.engOf e).mant a ∧ (t.engOf e).mant (d + 1) = 0) ∧
    (s.atOp e (.svm d a) → (s.engOf e).mant a = 0 → (s.engOf e).mant (a + 1) = 0 → ∃ t, exec (.leSvm e .clean) s = .next t ∧
      leRan s t e (.svm d a) ∧ (t.engOf e).mant d = 2 ^ 34 ∧ (t.engOf e).mant (d + 1) = 2 ^ 34 ∧ (t.engOf e).mant (d + 2) = 2 ^ 34 ∧
      ∀ r, r ≠ d → r ≠ d + 1 → r ≠ d + 2 → (t.engOf e).mant r = (s.engOf e).mant r)

/-- R219-R227: DC links. -/
def Obligations.DcLinkLevels : Prop :=
  ∀ (s : State) (j : Fin 2) (p : Fin 12), s.quiet = true →
    (s.flag (TRC_DL_CFG_EN j) = false ∨ s.flag (RES_FLAGS_VALID (adcMirror (s.fld (TRC_DL_CFG_ADC j)) (s.fld (TRC_DL_CFG_ENTRY j)))) = false ∨
      s.flag (RES_FLAGS_FAULT (adcMirror (s.fld (TRC_DL_CFG_ADC j)) (s.fld (TRC_DL_CFG_ENTRY j)))) = true →
      exec (.dcLinkResult j) s = .next s) ∧
    (s.flag (TRC_DL_CFG_EN j) = true → s.flag (RES_FLAGS_VALID (adcMirror (s.fld (TRC_DL_CFG_ADC j)) (s.fld (TRC_DL_CFG_ENTRY j)))) = true →
      s.flag (RES_FLAGS_FAULT (adcMirror (s.fld (TRC_DL_CFG_ADC j)) (s.fld (TRC_DL_CFG_ENTRY j)))) = false →
      ∃ u, exec (.dcLinkResult j) s = .next (settle s u) ∧
        u.fld (TRC_DL_STAT_CODE j) = s.fld (RES_RAW (adcMirror (s.fld (TRC_DL_CFG_ADC j)) (s.fld (TRC_DL_CFG_ENTRY j)))) % 2 ^ 12 ∧
        u.fld (TRC_DL_STAT_DCL_STALE j) = 0 ∧
        (s.fld (TRC_DL_OV1_ON j) ≤ u.fld (TRC_DL_STAT_CODE j) → u.fld (TRC_DL_STAT_OV1 j) = 1) ∧
        (u.fld (TRC_DL_STAT_CODE j) < s.fld (TRC_DL_OV1_ON j) → u.fld (TRC_DL_STAT_CODE j) ≤ s.fld (TRC_DL_OV1_OFF j) → u.fld (TRC_DL_STAT_OV1 j) = 0) ∧
        (s.fld (TRC_DL_OV2_SET j) ≤ u.fld (TRC_DL_STAT_CODE j) → u.fld (TRC_DL_STAT_OV2 j) = 1) ∧
        (u.fld (TRC_DL_STAT_CODE j) < s.fld (TRC_DL_OV2_SET j) → u.fld (TRC_DL_STAT_CODE j) ≤ s.fld (TRC_DL_OV2_CLR j) → u.fld (TRC_DL_STAT_OV2 j) = 0) ∧
        u.fld (TRC_DL_STAT_OV3 j) = bit (decide (s.fld (TRC_DL_OV3_SET j) ≤ u.fld (TRC_DL_STAT_CODE j)))) ∧
    (∀ c dmin on top, c = s.fld (RES_RAW (adcMirror (s.fld (TRC_DL_CFG_ADC j)) (s.fld (TRC_DL_CFG_ENTRY j)))) % 2 ^ 12 →
      dmin = s.fld (TRC_DL_CHOP_DMIN j) → on = s.fld (TRC_DL_OV1_ON j) → top = s.fld (TRC_DL_OV2_SET j) →
      s.flag (TRC_DL_CFG_EN j) = true → s.flag (RES_FLAGS_VALID (adcMirror (s.fld (TRC_DL_CFG_ADC j)) (s.fld (TRC_DL_CFG_ENTRY j)))) = true →
      s.flag (RES_FLAGS_FAULT (adcMirror (s.fld (TRC_DL_CFG_ADC j)) (s.fld (TRC_DL_CFG_ENTRY j)))) = false →
      s.flag (TRC_DL_CFG_CHOP_EN j) = true → s.flag (TRC_DL_STAT_CHOP_AVAIL j) = true → chopCause s j = 0 → (s.linkOf j).duty = 0 → 1 ≤ dmin →
      on ≤ c → c < top → c < s.fld (TRC_DL_OV3_SET j) → s.flag (TRC_DL_STAT_OV2 j) = false → ∃ u, exec (.dcLinkResult j) s = .next (settle s u) ∧
        (u.linkOf j).duty = min 256 (dmin + (256 - dmin) * (c - on) / (top - on)) ∧ u.fld (TRC_DL_STAT_CHOP_ON j) = 1 ∧ (u.linkOf j).v0 = c) ∧
    (s.flag (TRC_DL_CFG_EN j) = false → exec (.dcLinkWatchExpiry j) s = .next s) ∧
    (s.flag (TRC_DL_CFG_EN j) = true → ∃ t, exec (.dcLinkWatchExpiry j) s = .next t ∧ t.fld (TRC_DL_STAT_DCL_STALE j) = 1 ∧
      ∀ m ∈ linkSlots s j, t.flag (TRC_M_STAT_REGEN_FORBID m) = true) ∧
    (s.flag (TRC_DL_STAT_CHOP_ON j) = false ∨ s.fld (TRC_DL_STAT_CODE j) < (s.linkOf j).v0 → exec (.chopperCheck j) s = .next s) ∧
    (s.flag (TRC_DL_STAT_CHOP_ON j) = true → (s.linkOf j).v0 ≤ s.fld (TRC_DL_STAT_CODE j) → ∃ u, exec (.chopperCheck j) s = .next (settle s u) ∧
      u.fld (TRC_DL_STAT_CHOP_AVAIL j) = 0 ∧ u.fld (TRC_DL_STAT_CHOP_CAUSE j) = 2) ∧
    (s.allUp = true → s.flag (TRC_DL_CFG_CHOP_EN j) = false ∨ s.flag (TRC_DL_STAT_CHOP_AVAIL j) = true →
      exec (.chopperClearWrite (.pair p) j) s = .next (s.put (TRC_DL_STAT_CLR_RESULT j) 1)) ∧
    (s.allUp = true → s.flag (TRC_DL_CFG_CHOP_EN j) = true → s.flag (TRC_DL_STAT_CHOP_AVAIL j) = false → s.fld (TRC_DL_STAT_CHOP_CAUSE j) ≠ 2 →
      chopCause s j ≠ 0 → exec (.chopperClearWrite (.pair p) j) s = .next ((s.put (TRC_DL_STAT_CLR_RESULT j) 2).refuse trcErr .CHOP_FAULT_PERSISTS)) ∧
    (s.allUp = true → s.flag (TRC_DL_CFG_CHOP_EN j) = true → s.flag (TRC_DL_STAT_CHOP_AVAIL j) = false → chopCause s j = 0 → s.flag (TRC_DL_CFG_EN j) = true →
      ∃ u, exec (.chopperClearWrite (.pair p) j) s = .next (settle s u) ∧ u.fld (TRC_DL_STAT_CHOP_AVAIL j) = 1 ∧
        u.fld (TRC_DL_STAT_CHOP_CAUSE j) = 0 ∧ u.fld (TRC_DL_STAT_CLR_RESULT j) = 1)

/-- R218, R229-R233: traction slots. -/
def Obligations.TractionSlots : Prop :=
  ∀ (s : State) (p : Fin 12) (m : Fin 4) (g : Fin 12) (d : Word) (gen : Bool), s.quiet = true → s.allUp = true →
    (s.flag (TRC_M_CFG_EN m) = false → 11 < bitsOf d.toNat 16 4 → exec (.tractionSlotEnable (.pair p) m d) s = .next (s.refuse trcErr .TRC_RANGE)) ∧
    (s.flag (TRC_M_CFG_EN m) = false → bitsOf d.toNat 16 4 ≤ 11 → s.flag TRC_LOCK = false →
      trcSlotStatus (writeFields s trcErr (0x60038000 + m.val * 0x80) (setBit d.toNat 0)).1 m = .OK →
      ∃ u, exec (.tractionSlotEnable (.pair p) m d) s = .next (settle s u) ∧ u.fld (TRC_M_CFG_EN m) = 1 ∧ (u.slotOf m).tspAt = s.mtime ∧
        (u.slotOf m).sspAt = s.mtime) ∧
    ((s.viewOf (.pair p)).staged = none →
      (∃ t, exec (.torqueSetpointCommit (.pair p) m d) s = .next t ∧
        t.word (trcTsp m) = BitVec.ofNat 36 ((s.word (trcTsp m)).toNat % 2 ^ 32 + d.toNat % 16 * 2 ^ 32) ∧ (t.slotOf m).tspAt = s.mtime ∧
        (s.flag (TRC_M_CFG_EN m) = true → t.word (dataAddr (s.fld (TRC_M_CFG_ENGINE m)) 0x060) = t.word (trcTsp m)) ∧
        (s.flag (TRC_M_CFG_SPEED_MODE m) = false → t.fld (TRC_M_STAT_SP_STALE m) = 0) ∧ t.out = s.out) ∧
      (∃ t, exec (.speedSetpointCommit (.pair p) m d) s = .next t ∧
        t.word (trcSsp m) = BitVec.ofNat 36 ((s.word (trcSsp m)).toNat % 2 ^ 32 + d.toNat % 16 * 2 ^ 32) ∧ (t.slotOf m).sspAt = s.mtime ∧
        (s.flag (TRC_M_CFG_EN m) = true → t.word (dataAddr (s.fld (TRC_M_CFG_ENGINE m)) 0x062) = t.word (trcSsp m)) ∧
        (s.flag (TRC_M_CFG_SPEED_MODE m) = true → t.fld (TRC_M_STAT_SP_STALE m) = 0) ∧ t.out = s.out) ∧
      (∃ t, exec (.torqueLimitCommit (.pair p) m gen d) s = .next t ∧
        t.word (if gen then trcTgen m else trcTmot m) =
          BitVec.ofNat 36 ((s.word (if gen then trcTgen m else trcTmot m)).toNat % 2 ^ 32 + d.toNat % 16 * 2 ^ 32) ∧
        t.regs = s.regs ∧ t.out = s.out)) ∧
    (s.flag (TRC_M_CFG_EN m) = false → exec (.setpointTimeout m) s = .next s) ∧
    (s.flag (TRC_M_CFG_EN m) = true → ∃ t, exec (.setpointTimeout m) s = .next t ∧ t.fld (TRC_M_STAT_SP_STALE m) = 1 ∧
      t.word (trcTsp m) = s.word (trcTsp m) ∧ t.word (trcSsp m) = s.word (trcSsp m) ∧ t.out = s.out) ∧
    (∃ u, exec .speedWordTimer s = .next (settle s u) ∧ ∀ k : Fin 4, s.flag (TRC_M_CFG_EN k) = true →
      u.fld (TRC_M_STAT_SPD_OK k) = bit (s.flag (FB_CFG_EN (s.fld (TRC_M_CFG_FB k))) && !s.flag (FB_STAT_FAULT (s.fld (TRC_M_CFG_FB k))))) ∧
    (exec (.speedWordTimeout g) s = .next (evalChoice (s.put (SAF_GSTAT_SPD_OK g) 0) g)) ∧
    (leavingDrive s = false → exec (.tractionOutputRead m) s = .next s ∧ exec (.zeroTorqueTimeout m) s = .next s) ∧
    (leavingDrive s = true → s.flag (TRC_M_CFG_EN m) = true → s.flag (TRC_M_STAT_ZERO_TORQUE m) = true → (s.slotOf m).zeros < 3 →
      exec (.tractionOutputRead m) s = .next (s.setSlot m
        { s.slotOf m with zeros := (if s.word (dataAddr (s.fld (TRC_M_CFG_ENGINE m)) 0x084) = 0 then (s.slotOf m).zeros + 1 else 0) })) ∧
    (leavingDrive s = true → s.flag (TRC_M_CFG_EN m) = true → (s.slotOf m).zeros < 4 →
      exec (.zeroTorqueTimeout m) s = .next (settle s (demandEvt s 4 (2 ^ s.fld (TRC_M_CFG_GROUP m)) false 1)))

/-- R244-R263: actuator slots. -/
def Obligations.ActuatorSlots : Prop :=
  ∀ (s : State) (m : Fin 4) (p : Fin 12) (d : Word), s.quiet = true → s.allUp = true →
    (s.flag (ACT_CFG_EN m) = false → d.toNat.testBit 16 = s.flag (ACT_CFG_DIR m) → bitsOf d.toNat 10 6 = 0 →
      exec (.actuatorEnable (.pair p) m d) s = .next (s.refuse actErr .ACT_RANGE)) ∧
    (s.flag (ACT_CFG_EN m) = false → s.flag ACT_LOCK = false → d.toNat.testBit 16 = s.flag (ACT_CFG_DIR m) → 1 ≤ bitsOf d.toNat 10 6 →
      bitsOf d.toNat 10 6 ≤ 32 → bitsOf d.toNat 17 4 ≤ 11 → bitsOf d.toNat 1 4 ≤ 11 →
      actSlotStatus (writeFields s actErr (0x60040000 + m.val * 0x80) (setBit d.toNat 0)).1 m = .OK →
      actLatched (writeFields s actErr (0x60040000 + m.val * 0x80) (setBit d.toNat 0)).1 m = false → s.safe (bitsOf d.toNat 1 4) = false →
      ∃ u, exec (.actuatorEnable (.pair p) m d) s = .next (settle s u) ∧ u.fld (ACT_CFG_EN m) = 1 ∧ actState u m = 1 ∧
        u.fld (ACT_STAT_CAUSE m) = 0 ∧ ∀ n ∈ u.members (actGroup u m), (u.legOf n).floatReq = true) ∧
    (s.flag (ACT_CFG_EN m) = true → changesRwl s (0x60040000 + m.val * 0x80) (clearBit d.toNat 0) = false →
      d.toNat.testBit 16 = s.flag (ACT_CFG_DIR m) → 1 ≤ bitsOf d.toNat 10 6 → bitsOf d.toNat 10 6 ≤ 32 → bitsOf d.toNat 17 4 ≤ 11 →
      bitsOf d.toNat 1 4 ≤ 11 → ∃ u, exec (.actuatorDisable (.pair p) m d) s = .next (settle s u) ∧ u.fld (ACT_CFG_EN m) = 0 ∧ actState u m = 0 ∧
        ∀ n ∈ u.members (actGroup u m), (u.legOf n).floatReq = true) ∧
    (actState s m ≠ 1 → exec (.actRun (.pair p) m) s = .next (s.refuse actErr .ACT_BUSY)) ∧
    (actState s m = 1 → s.running (actGroup s m) = false → exec (.actRun (.pair p) m) s = .next (s.refuse actErr .ACT_GROUP_STOPPED)) ∧
    (actState s m = 1 → s.running (actGroup s m) = true → ∃ u, exec (.actRun (.pair p) m) s = .next (settle s u) ∧ actState u m = 2 ∧
      u.fld (ACT_STAT_TRY m) = 1 ∧ (u.actOf m).starting = true ∧ u.fld (ACT_STAT_STEP m) = (if actRev s m then 5 else 0) ∧
      u.fld (ACT_SPD_DUTY m) = s.fld (ACT_START_ALIGN_DUTY m) % 2 ^ 9 ∧ (u.actOf m).fifo.getLast? = some (1, 0, s.mtime)) ∧
    (actState s m = 4 → ∃ u, exec (.actStop (.pair p) m) s = .next u ∧ actState u m = 5 ∧ u.leg = s.leg ∧ u.act = s.act ∧ u.out = s.out) ∧
    (actState s m = 0 ∨ actState s m = 1 ∨ actState s m = 5 ∨ actState s m = 9 → exec (.actStop (.pair p) m) s = .next s) ∧
    (actState s m = 2 ∨ actState s m = 3 ∨ actState s m = 6 ∨ actState s m = 7 ∨ actState s m = 8 →
      ∃ u, exec (.actStop (.pair p) m) s = .next (settle s u) ∧ actState u m = 1 ∧ (u.actOf m).starting = false ∧
        ∀ n ∈ u.members (actGroup u m), (u.legOf n).floatReq = true) ∧
    (2 ≤ actState s m → actState s m ≤ 8 → ∃ u, exec (.actFloat (.pair p) m) s = .next (settle s u) ∧ actState u m = 1 ∧
      (u.actOf m).starting = false ∧ ∀ n ∈ u.members (actGroup u m), (u.legOf n).floatReq = true) ∧
    (actState s m = 0 ∨ actState s m = 1 ∨ actState s m = 9 → exec (.actFloat (.pair p) m) s = .next s) ∧
    (actState s m ≠ 9 → exec (.actClr (.pair p) m) s = .next (s.put (ACT_STAT_CLR_RESULT m) 1)) ∧
    (actState s m = 9 → actLatched s m = true ∨ s.running (actGroup s m) = false →
      exec (.actClr (.pair p) m) s = .next ((s.put (ACT_STAT_CLR_RESULT m) 2).refuse actErr .ACT_FAULT_PERSISTS)) ∧
    (actState s m = 9 → actLatched s m = false → s.running (actGroup s m) = true →
      ∃ u, exec (.actClr (.pair p) m) s = .next (settle s u) ∧ actState u m = 1 ∧ u.fld (ACT_STAT_CAUSE m) = 0 ∧ u.fld (ACT_STAT_CLR_RESULT m) = 1) ∧
    (actState s m ≠ 2 → exec (.alignEnd m) s = .next s) ∧
    (actState s m = 2 → s.fld (ACT_STAT_STEP m) < 6 → ∃ u, exec (.alignEnd m) s = .next (settle s u) ∧ actState u m = 3 ∧
      (u.actOf m).rampAt = s.mtime ∧ u.fld (ACT_STAT_STEP m) = stepNext (actRev s m) (s.fld (ACT_STAT_STEP m)) ∧
      u.fld (ACT_SPD_DUTY m) = s.fld (ACT_START_RAMP_DUTY m) % 2 ^ 9) ∧
    (actState s m ≠ 3 → exec (.forcedStep m) s = .next s ∧ exec (.rampTimeout m) s = .next s) ∧
    (actState s m = 3 → ∃ u, exec (.forcedStep m) s = .next u ∧ (u.actOf m).stepAt = s.mtime ∧ (u.actOf m).seen = false ∧
      u.fld (ACT_STAT_STEP m) = stepNext (actRev s m) (s.fld (ACT_STAT_STEP m)) ∧ actState u m = 3 ∧ u.words = s.words ∧
      ∀ e ∈ (u.members (actGroup u m)).zipIdx, (u.legOf e.1).floatReq = decide (e.2 = (stepPhases (u.fld (ACT_STAT_STEP m))).2.2)) ∧
    (actState s m = 3 → (s.actOf m).tries ≤ s.fld (ACT_START_RETRIES m) → ∃ u, exec (.rampTimeout m) s = .next (settle s u) ∧ actState u m = 8 ∧
      u.fld (ACT_CNT_FAIL_CNT m) = satInc 8 (s.fld (ACT_CNT_FAIL_CNT m)) % 2 ^ 8 ∧ ∀ n ∈ u.members (actGroup u m), (u.legOf n).floatReq = true) ∧
    (actState s m = 3 → s.fld (ACT_START_RETRIES m) < (s.actOf m).tries → ∃ u, exec (.rampTimeout m) s = .next (settle s u) ∧ actState u m = 9 ∧
      u.fld (ACT_STAT_CAUSE m) = 1 ∧ ∀ n ∈ u.members (actGroup u m), (u.legOf n).floatReq = true) ∧
    (actState s m ≠ 8 → exec (.retryWaitEnd m) s = .next s) ∧
    (actState s m = 8 → ∃ u, exec (.retryWaitEnd m) s = .next (settle s u) ∧ actState u m = 2 ∧ (u.actOf m).tries = (s.actOf m).tries + 1 ∧
      u.fld (ACT_STAT_TRY m) = min ((s.actOf m).tries + 1) 15) ∧
    ((s.actOf m).nextCom = none ∨ (actState s m ≠ 4 ∧ actState s m ≠ 5) → exec (.commutation m) s = .next s) ∧
    (∀ t, (s.actOf m).nextCom = some t → actState s m = 4 ∨ actState s m = 5 → ∃ u, exec (.commutation m) s = .next u ∧ (u.actOf m).comAt = t ∧
      (u.actOf m).nextCom = none ∧ u.fld (ACT_STAT_STEP m) = stepNext (actRev s m) (s.fld (ACT_STAT_STEP m)) ∧ (u.actOf m).duty = (s.actOf m).duty ∧
      u.words = s.words ∧
      ∀ e ∈ (u.members (actGroup u m)).zipIdx, (u.legOf e.1).floatReq = decide (e.2 = (stepPhases (u.fld (ACT_STAT_STEP m))).2.2)) ∧
    (actState s m ≠ 4 → actState s m ≠ 5 → exec (.speedLoopTick m) s = .next s) ∧
    (actState s m = 4 → s.fld (ACT_LIM_DMIN m) ≤ s.fld (ACT_LIM_DMAX m) → ∃ u, exec (.speedLoopTick m) s = .next (settle s u) ∧ actState u m = 4 ∧
      (u.actOf m).target = rampTarget s m (s.actOf m).target (max (1000 * s.fld (ACT_RAMP_HANDOFF m)) (1000 * s.fld (ACT_SP_SPEED m))) ∧
      u.fld (ACT_STAT_STEP m) = s.fld (ACT_STAT_STEP m) % 2 ^ 3 ∧ s.fld (ACT_LIM_DMIN m) ≤ (u.actOf m).duty ∧ (u.actOf m).duty ≤ s.fld (ACT_LIM_DMAX m)) ∧
    (actState s m = 5 → rampTarget s m (s.actOf m).target 0 < 1000 * s.fld (ACT_RAMP_HANDOFF m) →
      ∃ u, exec (.speedLoopTick m) s = .next (settle s u) ∧ actState u m = 1 ∧ ∀ n ∈ u.members (actGroup u m), (u.legOf n).floatReq = true) ∧
    (actState s m ≠ 6 → exec (.listenTimeout m) s = .next s) ∧
    (actState s m = 6 → ∃ u, exec (.listenTimeout m) s = .next (settle s u) ∧ actState u m = 7 ∧ u.leg = s.leg ∧
      (u.actOf m).fifo.getLast? = some (8, 0, s.mtime)) ∧
    (actState s m ≠ 7 → exec (.belowRestart m) s = .next s ∧ exec (.coastTimeout m) s = .next s) ∧
    (actState s m = 7 → lowLong s m = false → exec (.belowRestart m) s = .next s) ∧
    (∀ t, (s.actOf m).lowAt = some t → t + 4000000 ≤ s.mtime → actState s m = 7 →
      ∃ u, exec (.belowRestart m) s = .next (settle s u) ∧ actState u m = 2 ∧ u.fld (ACT_STAT_TRY m) = 1) ∧
    (actState s m = 7 → [0, 1, 2, 3].all (fun e => (actEntry s m e).1) = true →
      ∃ u, exec (.actuatorSample m) s = .next u ∧ u.regs = s.regs ∧ u.out = s.out ∧ (u.actOf m).bad = 0 ∧
        ((u.actOf m).lowAt = none ↔ ∃ i j : Fin 3, s.fld (ACT_SENSE_BEMF_LOW m) < (actEntry s m i).2.1 - (actEntry s m j).2.1) ∧
        ((u.actOf m).lowAt.isSome = true → (s.actOf m).lowAt.isSome = true → (u.actOf m).lowAt = (s.actOf m).lowAt)) ∧
    (actState s m = 7 → ∃ u, exec (.coastTimeout m) s = .next (settle s u) ∧ actState u m = 9 ∧ u.fld (ACT_STAT_CAUSE m) = 2) ∧
    (actState s m < 3 ∨ 7 < actState s m → exec (.actuatorSample m) s = .next s) ∧
    (actState s m = 4 → ((actEntry s m (stepPhases (s.fld (ACT_STAT_STEP m))).2.2).1 && (actEntry s m 3).1) = false →
      ((s.actOf m).bad = 0 → exec (.actuatorSample m) s = .next (s.setAct m { s.actOf m with bad := 1 })) ∧
      (1 ≤ (s.actOf m).bad → ∃ u, exec (.actuatorSample m) s = .next (settle s u) ∧ actState u m = 9 ∧ u.fld (ACT_STAT_CAUSE m) = 4)) ∧
    (∀ (f t t1 c : Nat) (e1 : Int), actState s m = 4 → (stepPhases (s.fld (ACT_STAT_STEP m))).2.2 = f → actEntry s m f = (true, c, t) →
      actEntry s m 3 = (true, 2 * c, (actEntry s m 3).2.2) → (s.actOf m).last = some (t1, e1) → e1 < 0 → t1 ≤ t →
      (s.actOf m).comAt ≤ t → s.fld (ACT_SENSE_BLANK m) * (s.actOf m).tau ≤ 64 * (t - (s.actOf m).comAt) →
      stepRising (actRev s m) (s.fld (ACT_STAT_STEP m)) = true → inWindow s m (2 * t) (2 * ((s.actOf m).zc + (s.actOf m).tau)) (s.actOf m).tau = true →
      ∃ u k, exec (.actuatorSample m) s = .next (settle s u) ∧ (u.actOf m).zc = t ∧ (u.actOf m).tau = t - (s.actOf m).zc ∧ actState u m = 4 ∧
        u.fld (ACT_SPDT_T m) = t % 2 ^ 32 ∧ (u.actOf m).nextCom = some (t + k) ∧
        64 * k < (s.actOf m).tau * (32 - s.fld (ACT_SENSE_ADV m)) + 64 ∧ (s.actOf m).tau * (32 - s.fld (ACT_SENSE_ADV m)) < 64 * k + 64) ∧
    (∀ c a t l, (s.actOf m).fifo = (c, a, t) :: l → ∃ u, exec (.actEventPop (.pair p) m) s = .next u ∧ (u.actOf m).fifo = l ∧
      u.fld (ACT_EVT_CODE m) = c % 2 ^ 8 ∧ u.fld (ACT_EVT_ARG m) = a % 2 ^ 8 ∧ u.fld (ACT_EVT_VALID m) = 1 ∧ u.fld (ACT_EVT_T m) = t % 2 ^ 32 ∧
      u.out = s.out ++ [.data (.pair p) (0x60040038 + 0x80 * m.val) (c % 2 ^ 8 + a % 2 ^ 8 * 2 ^ 8 + 2 ^ 31)])

/-- R266-R282: converter slots. -/
def Obligations.ConverterSlots : Prop :=
  ∀ (s : State) (m : Fin 4) (p : Fin 12) (d : Word), s.quiet = true → s.allUp = true →
    (s.flag (CNV_C_CFG_EN m) = false → 11 < bitsOf d.toNat 20 4 ∨ 11 < bitsOf d.toNat 2 4 ∨ 47 < bitsOf d.toNat 25 6 →
      exec (.converterEnable (.pair p) m d) s = .next (s.refuse cnvErr .CNV_RANGE)) ∧
    (s.flag (CNV_C_CFG_EN m) = false → s.flag CNV_LOCK = false → bitsOf d.toNat 20 4 ≤ 11 → bitsOf d.toNat 2 4 ≤ 11 → bitsOf d.toNat 25 6 ≤ 47 →
      cnvSlotStatus (writeFields s cnvErr (0x60048000 + m.val * 0x80) (setBit d.toNat 0)).1 m = .OK →
      cnvLatched (writeFields s cnvErr (0x60048000 + m.val * 0x80) (setBit d.toNat 0)).1 m = false → s.safe (bitsOf d.toNat 2 4) = false →
      ∃ u, exec (.converterEnable (.pair p) m d) s = .next (settle s u) ∧ u.fld (CNV_C_CFG_EN m) = 1 ∧ cnvState u m = 1 ∧
        u.fld (CNV_C_STAT_CAUSE m) = 0 ∧ u.fld (CNV_C_STAT_FLOAT m) = 0x3F ∧ ∀ n ∈ u.members (cnvGroup u m), (u.legOf n).floatReq = true) ∧
    (s.flag (CNV_C_CFG_EN m) = true → changesRwl s (0x60048000 + m.val * 0x80) (clearBit d.toNat 0) = false → bitsOf d.toNat 20 4 ≤ 11 →
      bitsOf d.toNat 2 4 ≤ 11 → bitsOf d.toNat 25 6 ≤ 47 → ∃ u, exec (.converterDisable (.pair p) m d) s = .next (settle s u) ∧ u.fld (CNV_C_CFG_EN m) = 0 ∧ cnvState u m = 0 ∧
        u.fld (CNV_C_STAT_FLOAT m) = 0x3F ∧ (u.cnvOf m).starting = false ∧
        ∀ k < 6, ∀ n, (u.members (cnvGroup u m))[k]? = some n → (u.legOf n).floatReq = true) ∧
    (cnvState s m ≠ 1 → exec (.cnvStart (.pair p) m) s = .next (s.refuse cnvErr .CNV_BUSY)) ∧
    (cnvState s m = 1 → s.running (cnvGroup s m) = false → exec (.cnvStart (.pair p) m) s = .next (s.refuse cnvErr .CNV_GROUP_STOPPED)) ∧
    (cnvState s m = 1 → s.running (cnvGroup s m) = true → ∃ u k, exec (.cnvStart (.pair p) m) s = .next (settle s u) ∧ cnvState u m = 2 ∧
      u.fld (CNV_C_STAT_TRY m) = 0 ∧ u.fld (CNV_C_STAT_RELEASE m) = 0 ∧ u.fld (CNV_C_IOUT_LIM_RUN m) = 0 ∧ (u.cnvOf m).starting = true ∧
      (u.cnvOf m).target = 65536 * k ∧ 256000 * k < s.fld (CNV_C_VSET_VOUT_SET m) * s.fld (CNV_C_VDIV m) + 256000 ∧
      s.fld (CNV_C_VSET_VOUT_SET m) * s.fld (CNV_C_VDIV m) < 256000 * k + 256000 ∧
      (s.fld (CNV_C_VSET_VOUT_SET m) * s.fld (CNV_C_VDIV m) % 256000 < 128000 → k = s.fld (CNV_C_VSET_VOUT_SET m) * s.fld (CNV_C_VDIV m) / 256000) ∧
      (u.cnvOf m).ref = min (s.fld (CNV_C_VOUT_CODE m) * 65536) (65536 * k)) ∧
    (2 ≤ cnvState s m → cnvState s m ≤ 4 → ∃ u, exec (.cnvStop (.pair p) m) s = .next (settle s u) ∧ cnvState u m = 1 ∧
      u.fld (CNV_C_STAT_FLOAT m) = 0x3F ∧ (u.cnvOf m).starting = false) ∧
    (cnvState s m < 2 ∨ 4 < cnvState s m → exec (.cnvStop (.pair p) m) s = .next s) ∧
    (cnvState s m ≠ 5 → exec (.cnvClr (.pair p) m) s = .next (s.refuse cnvErr .CNV_BUSY)) ∧
    (cnvState s m = 5 → cnvLatched s m = true ∨ s.running (cnvGroup s m) = false →
      exec (.cnvClr (.pair p) m) s = .next ((s.put (CNV_C_STAT_CLR_RESULT m) 2).refuse cnvErr .CNV_FAULT_PERSISTS)) ∧
    (cnvState s m = 5 → cnvLatched s m = false → s.running (cnvGroup s m) = true →
      ∃ u, exec (.cnvClr (.pair p) m) s = .next (settle s u) ∧ cnvState u m = 1 ∧ u.fld (CNV_C_STAT_CAUSE m) = 0 ∧ u.fld (CNV_C_STAT_CLR_RESULT m) = 1) ∧
    (cnvState s m ≠ 2 ∨ (s.cnvOf m).ref = (s.cnvOf m).target → exec (.softStartRampStep m) s = .next s) ∧
    (cnvState s m = 2 → (s.cnvOf m).ref < (s.cnvOf m).target → ∃ u k, exec (.softStartRampStep m) s = .next u ∧
      (u.cnvOf m).ref = min (s.cnvOf m).target ((s.cnvOf m).ref + k) ∧ (u.cnvOf m).target = (s.cnvOf m).target ∧
      25600000 * k < s.fld (CNV_C_RAMP m) * s.fld (CNV_C_VDIV m) * 65536 + 25600000 ∧
      s.fld (CNV_C_RAMP m) * s.fld (CNV_C_VDIV m) * 65536 < 25600000 * k + 25600000 ∧
      u.fld (CNV_C_VOUT_REF m) = (u.cnvOf m).ref / 65536 % 2 ^ 12 ∧ u.out = s.out ∧
      (s.flag (CNV_C_CFG_EN m) = true →
        u.word (dataAddr (s.fld (CNV_C_CFG_ENGINE m)) 0x060) = BitVec.ofNat 36 ((u.cnvOf m).ref * 2 ^ 7))) ∧
    (cnvState s m ≠ 2 ∨ (s.cnvOf m).ref ≠ (s.cnvOf m).target → exec (.startCheck m) s = .next s) ∧
    (cnvState s m = 2 → (s.cnvOf m).ref = (s.cnvOf m).target → (s.cnvOf m).target ≤ 131072 * s.fld (CNV_C_VOUT_CODE m) →
      ∃ u, exec (.startCheck m) s = .next u ∧ cnvState u m = 3 ∧ (u.cnvOf m).starting = false ∧ u.out = s.out) ∧
    (cnvState s m = 2 → (s.cnvOf m).ref = (s.cnvOf m).target → 131072 * s.fld (CNV_C_VOUT_CODE m) < (s.cnvOf m).target → s.fld (CNV_C_STAT_TRY m) ≠ 3 →
      ∃ u, exec (.startCheck m) s = .next u ∧ cnvState u m = 4 ∧ u.fld (CNV_C_STAT_LAST_FAIL m) = 1 ∧
        u.fld (CNV_C_CNT_HICCUP_CNT m) = satInc 8 (s.fld (CNV_C_CNT_HICCUP_CNT m)) % 2 ^ 8 ∧ u.fld (CNV_C_STAT_FLOAT m) = 0x3F) ∧
    (cnvState s m = 2 → (s.cnvOf m).ref = (s.cnvOf m).target → 131072 * s.fld (CNV_C_VOUT_CODE m) < (s.cnvOf m).target → s.fld (CNV_C_STAT_TRY m) = 3 →
      ∃ u, exec (.startCheck m) s = .next u ∧ cnvState u m = 5 ∧ u.fld (CNV_C_STAT_CAUSE m) = 1 ∧ u.fld (CNV_C_STAT_FLOAT m) = 0x3F) ∧
    (cnvState s m = 0 → exec (.outputVoltageResult m) s = .next s) ∧
    (∀ b, b = adcMirror (s.fld (CNV_C_CFG_ADC m)) (s.fld (CNV_C_CFG_VOUT_ENTRY m)) → cnvState s m ≠ 0 →
      (s.flag (RES_FLAGS_VALID b) = false ∨ s.flag (RES_FLAGS_FAULT b) = true → cnvState s m = 5 → exec (.outputVoltageResult m) s = .next s) ∧
      (s.flag (RES_FLAGS_VALID b) = false ∨ s.flag (RES_FLAGS_FAULT b) = true → cnvState s m ≠ 5 → 1 ≤ (s.cnvOf m).bad →
        ∃ u, exec (.outputVoltageResult m) s = .next u ∧ cnvState u m = 5 ∧ u.fld (CNV_C_STAT_CAUSE m) = 3) ∧
      (s.flag (RES_FLAGS_VALID b) = false ∨ s.flag (RES_FLAGS_FAULT b) = true → cnvState s m ≠ 5 → (s.cnvOf m).bad = 0 →
        exec (.outputVoltageResult m) s = .next (s.setCnv m { s.cnvOf m with bad := 1 })) ∧
      (s.flag (RES_FLAGS_VALID b) = true → s.flag (RES_FLAGS_FAULT b) = false →
        ∃ u, exec (.outputVoltageResult m) s = .next u ∧ cnvState u m = cnvState s m ∧ u.fld (CNV_C_VOUT_CODE m) = s.fld (RES_RAW b) % 2 ^ 12 ∧
          (u.cnvOf m).bad = 0 ∧
          (cnvActive s m = true → (s.cnvOf m).ref + 65536 * s.fld (CNV_C_REL_REL_SET m) ≤ 65536 * u.fld (CNV_C_VOUT_CODE m) →
            u.fld (CNV_C_STAT_RELEASE m) = 1 ∧ u.fld (CNV_C_STAT_FLOAT m) = 0x3F) ∧
          (cnvActive s m = true → 65536 * u.fld (CNV_C_VOUT_CODE m) < (s.cnvOf m).ref + 65536 * s.fld (CNV_C_REL_REL_SET m) →
            65536 * u.fld (CNV_C_VOUT_CODE m) ≤ (s.cnvOf m).ref + 65536 * s.fld (CNV_C_REL_REL_CLR m) → u.fld (CNV_C_STAT_RELEASE m) = 0))) ∧
    (∀ c : Fin 5, c.val = m.val →
      (cnvState s m = 0 → exec (.currentLimitEvaluation c) s = .next s) ∧
      (cnvState s m ≠ 0 → ((s.grpOf (cnvGroup s m)).prevRan && ((s.grpOf (cnvGroup s m)).prevTrip || (s.cnvOf m).limStart)) = false →
        ∃ u, exec (.currentLimitEvaluation c) s = .next u ∧ u.fld (CNV_C_IOUT_LIM_RUN m) = 0 ∧ cnvState u m = cnvState s m) ∧
      (cnvState s m ≠ 0 → ((s.grpOf (cnvGroup s m)).prevRan && ((s.grpOf (cnvGroup s m)).prevTrip || (s.cnvOf m).limStart)) = true →
        s.fld (CNV_C_IOUT_LIM_RUN m) < 63 → ∃ u, exec (.currentLimitEvaluation c) s = .next u ∧
          u.fld (CNV_C_IOUT_LIM_RUN m) = s.fld (CNV_C_IOUT_LIM_RUN m) + 1 ∧ cnvState u m = cnvState s m) ∧
      (cnvState s m = 2 ∨ cnvState s m = 3 → ((s.grpOf (cnvGroup s m)).prevRan && ((s.grpOf (cnvGroup s m)).prevTrip || (s.cnvOf m).limStart)) = true →
        63 ≤ s.fld (CNV_C_IOUT_LIM_RUN m) → ∃ u, exec (.currentLimitEvaluation c) s = .next (settle s u) ∧ u.fld (CNV_C_STAT_LAST_FAIL m) = cnvState s m ∧
          cnvState u m = (if s.fld (CNV_C_STAT_TRY m) = 3 then 5 else 4) ∧ u.fld (CNV_C_STAT_FLOAT m) = 0x3F)) ∧
    (cnvState s m ≠ 4 → exec (.hiccupEnd m) s = .next s) ∧
    (cnvState s m = 4 → ∃ u, exec (.hiccupEnd m) s = .next u ∧ cnvState u m = 2 ∧ u.fld (CNV_C_STAT_TRY m) = (s.fld (CNV_C_STAT_TRY m) + 1) % 4) ∧
    (exec (.tryReset m) s = .next (if cnvState s m = 3 then s.put (CNV_C_STAT_TRY m) 0 else s)) ∧
    (cnvActive s m = false ∨ s.flag (CNV_C_STAT_RELEASE m) = false → exec (.releaseHeldTimeout m) s = .next s) ∧
    (cnvActive s m = true → s.flag (CNV_C_STAT_RELEASE m) = true → ∃ u, exec (.releaseHeldTimeout m) s = .next u ∧ cnvState u m = 5 ∧
      u.fld (CNV_C_STAT_CAUSE m) = 2 ∧ u.fld (CNV_C_STAT_FLOAT m) = 0x3F ∧ u.fld (CNV_C_STAT_RELEASE m) = 0) ∧
    (s.flag (CNV_C_SHED_SHED_EN m) = false ∨ s.fld (CNV_C_STAT_NACT m) ≤ s.fld (CNV_C_SHED_NMIN m) → exec (.phaseShed m) s = .next s) ∧
    (cnvState s m = 3 → cnvBuck s m = true → s.flag (CNV_C_SHED_SHED_EN m) = true → s.flag (CNV_C_STAT_RELEASE m) = false →
      s.fld (CNV_C_SHED_NMIN m) < s.fld (CNV_C_STAT_NACT m) → s.fld (CNV_C_STAT_NACT m) ≤ 6 →
      currentBelow s m ((s.fld (CNV_C_STAT_NACT m) - 1) * s.fld (CNV_C_SHTH_I_SHED m)) = true →
      ∃ u, exec (.phaseShed m) s = .next u ∧ u.fld (CNV_C_STAT_NACT m) = s.fld (CNV_C_STAT_NACT m) - 1 ∧ u.fld (CNV_C_STAT_SHEDDING m) = 1 ∧
        u.fld (CNV_C_CNT_SHED_CNT m) = satInc 8 (s.fld (CNV_C_CNT_SHED_CNT m)) % 2 ^ 8 ∧
        u.fld (CNV_C_STAT_FLOAT m) = 0x3F - (2 ^ (s.fld (CNV_C_STAT_NACT m) - 1) - 1) ∧ cnvState u m = 3) ∧
    (s.flag (CNV_C_CFG_EN m) = false → exec (.converterOutputRead m) s = .next s) ∧
    (s.flag (CNV_C_CFG_EN m) = true → ∃ u, exec (.converterOutputRead m) s = .next u ∧ cnvState u m = cnvState s m ∧
      (u.cnvOf m).iout = s.word (dataAddr (s.fld (CNV_C_CFG_ENGINE m)) 0x080) ∧
      (u.cnvOf m).lim = decide (s.word (dataAddr (s.fld (CNV_C_CFG_ENGINE m)) 0x082) ≠ 0) ∧
      (cnvActive s m = true → cnvBuck s m = false → (s.members (cnvGroup s m)).length = 4 →
        (currentAbove u m (s.fld (CNV_C_SR_SR_ON m)) = true → u.fld (CNV_C_STAT_SR_EN m) = 1) ∧
        (currentAbove u m (s.fld (CNV_C_SR_SR_ON m)) = false → currentBelow u m (s.fld (CNV_C_SR_SR_OFF m)) = true → u.fld (CNV_C_STAT_SR_EN m) = 0)))

/-- R287-R302: the charger's inputs and QUALIFY. -/
def Obligations.ChargerInputs : Prop :=
  ∀ (s : State) (p : Fin 12) (d : Word), s.quiet = true → s.allUp = true →
    (s.flag CHG_CFG_EN = false → 11 < bitsOf d.toNat 28 4 → exec (.chargerEnable (.pair p) d) s = .next (s.refuse chgErr .CHG_RANGE)) ∧
    (s.flag CHG_CFG_EN = false → s.flag CHG_LOCK = false → bitsOf d.toNat 28 4 ≤ 11 → bitsOf d.toNat 1 4 ≤ 11 → bitsOf d.toNat 10 4 ≤ 11 →
      bitsOf d.toNat 19 4 ≤ 11 ∨ bitsOf d.toNat 19 4 = 15 → chgStatus (writeFields s chgErr 0x60050000 (setBit d.toNat 0)).1 = .OK →
      ∃ u, exec (.chargerEnable (.pair p) d) s = .next (settle s u) ∧ u.fld CHG_CFG_EN = 1 ∧ chgState u = 1 ∧
        ∀ n ∈ u.members (u.fld CHG_CFG_PFC_GRP) ++ u.members (u.fld CHG_CFG_DAB_GRP), (u.legOf n).floatReq = true) ∧
    (s.flag CHG_CFG_EN = false → ∀ b : Bool, exec (.pilotEdge b) s = .next s ∧ exec .pilotSteady s = .next s ∧ exec .pilotResult s = .next s ∧
      exec .proximityResult s = .next s ∧ exec (.plugDebounce b) s = .next s ∧ exec .mainsReport s = .next s ∧
      exec .mainsZeroCrossTimeout s = .next s) ∧
    (s.flag CHG_CFG_EN = true → ∀ r, s.chg.rise = some r → r < s.mtime → ∃ u k, exec (.pilotEdge true) s = .next u ∧
      u.fld CHG_PILOT_STEADY = 0 ∧ u.chg.rise = some s.mtime ∧ u.chg.period = s.mtime - r ∧ u.chg.wantLow = s.chg.wantLow ∧ u.chg.lowAt = none ∧
      u.chg.highAt = (if s.chg.high = 0 then none else some (s.mtime + (s.chg.high + 1) / 2)) ∧
      (∀ f, s.chg.fall = some f → u.chg.low = s.mtime - f) ∧ u.fld CHG_PILOT_DUTY = k % 2 ^ 10 ∧
      k * (s.mtime - r) < 1000 * s.chg.high + (s.mtime - r) ∧ 1000 * s.chg.high < k * (s.mtime - r) + (s.mtime - r)) ∧
    (s.flag CHG_CFG_EN = true → ∃ u, exec (.pilotEdge false) s = .next u ∧ u.fld CHG_PILOT_STEADY = 0 ∧ u.chg.fall = some s.mtime ∧
      u.chg.highAt = none ∧ u.chg.lowAt = (if s.chg.low < 8000 then none else some (s.mtime + s.chg.low / 2)) ∧ ∀ r, s.chg.rise = some r → u.chg.high = s.mtime - r) ∧
    (s.flag CHG_CFG_EN = true → ∃ u, exec .pilotSteady s = .next u ∧ u.fld CHG_PILOT_STEADY = 1 ∧ u.chg.wantLow = false ∧ u.words = s.words) ∧
    (∀ b, b = adcMirror (s.fld CHG_SENSE_PILOT_ADC) 16 →
      (s.flag (RES_FLAGS_VALID b) = false ∨ s.flag (RES_FLAGS_FAULT b) = true → exec .pilotResult s = .next s) ∧
      (s.flag CHG_CFG_EN = true → s.flag (RES_FLAGS_VALID b) = true → s.flag (RES_FLAGS_FAULT b) = false → s.chg.wantLow = true →
        ∃ u, exec .pilotResult s = .next u ∧ u.chg.lowOk = voltsIn (pilotVolts (s.fld (RES_RAW b) % 2 ^ 12)) (-13) (-11) ∧ u.chg.wantLow = false ∧
          u.fld CHG_PILOT_STATE = s.fld CHG_PILOT_STATE) ∧
      (∀ l, s.flag CHG_CFG_EN = true → s.flag (RES_FLAGS_VALID b) = true → s.flag (RES_FLAGS_FAULT b) = false → s.chg.wantLow = false →
        s.flag CHG_PILOT_STEADY = true ∨ s.chg.period ≠ 0 →
        l = (if s.flag CHG_PILOT_STEADY = false ∧ (s.chg.lowOk = false ∨ pilotFreqOk s.chg.period = false) then 6
          else pilotLevel (pilotVolts (s.fld (RES_RAW b) % 2 ^ 12)) (s.flag CHG_PILOT_STEADY)) →
        (s.chg.cand ≠ l → ∃ u, exec .pilotResult s = .next u ∧ u.chg.cand = l ∧ u.chg.agree = 1 ∧ u.fld CHG_PILOT_STATE = s.fld CHG_PILOT_STATE ∧
          chgState u = chgState s) ∧
        (s.chg.cand = l → 2 ≤ s.chg.agree → ∃ u, exec .pilotResult s = .next (settle s u) ∧ u.fld CHG_PILOT_STATE = l))) ∧
    (∀ b, b = adcMirror (s.fld CHG_SENSE_PP_ADC) (s.fld CHG_SENSE_PP_ENTRY) → s.flag CHG_CFG_EN = true →
      (s.flag (RES_FLAGS_VALID b) = false ∨ s.flag (RES_FLAGS_FAULT b) = true → exec .proximityResult s = .next s) ∧
      (s.flag (RES_FLAGS_VALID b) = true → s.flag (RES_FLAGS_FAULT b) = false → ∃ u, exec .proximityResult s = .next u ∧
        u.chg.band = bandOf s (s.fld (RES_RAW b) % 2 ^ 12) ∧ ∀ k, u.chg.band = some k → u.fld CHG_STAT_PP_BAND = k)) ∧
    (s.flag CHG_CFG_EN = true → s.chg.band.isSome = true → ∃ u, exec (.plugDebounce true) s = .next (settle s u) ∧ u.fld CHG_STAT_PLUG = 1) ∧
    (s.flag CHG_CFG_EN = true → s.chg.band = none → exec (.plugDebounce true) s = .next s) ∧
    (s.flag CHG_CFG_EN = true → ∃ u, exec (.plugDebounce false) s = .next (settle s u) ∧ u.fld CHG_STAT_PLUG = 0 ∧ u.chg.plugOut = true ∧
      (chgState s = 3 ∨ chgState s = 4 ∨ chgState s = 7 → chgState u = 5 ∧ u.chg.after = .unplugged ∧ u.chg.bat.goal = 0)) ∧
    (s.flag CHG_CFG_EN = true → chgState s = 3 ∨ chgState s = 4 → s.flag CHG_STAT_SESSION_OPEN = true →
      (∃ u, exec .mainsZeroCrossTimeout s = .next (settle s u) ∧ chgState u = 5 ∧ u.chg.after = .wait ∧ u.chg.bat.goal = 0 ∧
        u.fld CHG_CNT_LOSS_CNT = satInc 8 (s.fld CHG_CNT_LOSS_CNT) % 2 ^ 8) ∧
      (freqOk s = false ∨ (∃ p : Fin 3, s.chg.lines.testBit p = true ∧ rmsOf s p < volts 70) →
        ∃ u, exec .mainsReport s = .next (settle s u) ∧ chgState u = 5 ∧ u.chg.after = .wait ∧ u.chg.bat.goal = 0)) ∧
    (chgState s < 2 ∨ (4 < chgState s ∧ sameEvaluation s = false) → exec .mainsZeroCrossTimeout s = .next s) ∧
    (s.flag CHG_CFG_EN = true → freqOk s = true → s.chg.lines ≠ 0 → (∀ p : Fin 3, s.chg.lines.testBit p = true → volts 70 ≤ rmsOf s p) →
      ∃ u, exec .mainsReport s = .next u ∧ chgState u = chgState s ∧ u.chg = s.chg ∧ u.words = s.words) ∧
    (chgState s ≠ 2 ∨ s.chg.ramping = true → exec .mainsQualified s = .next s ∧ exec .qualifyTimeout s = .next s) ∧
    (chgState s = 2 → s.chg.ramping = false → mainsGood s = true → mainsSupported s = true → ∃ u, exec .mainsQualified s = .next (settle s u) ∧
      chgState u = 2 ∧ u.chg.ramping = true ∧ u.chg.phases = livePhases s ∧ u.chg.lines = liveLines s ∧ u.chg.bus.goal = s.fld CHG_PFC_BUS_SET ∧ u.chg.bus.at_ = s.mtime) ∧
    (chgState s = 2 → s.chg.ramping = false → mainsGood s = true → mainsSupported s = false → ∃ u, exec .mainsQualified s = .next (settle s u) ∧
      chgState u = 1 ∧ u.fld PWR_MODE_CHANGING = 0 ∧ u.mode = s.mode) ∧
    (chgState s = 2 → s.chg.ramping = false → ∃ u, exec .qualifyTimeout s = .next (settle s u) ∧ chgState u = 1 ∧ u.fld PWR_MODE_CHANGING = 0 ∧
      u.mode = s.mode) ∧
    (chgState s ≠ 2 ∨ s.chg.ramping = false → exec .busReady s = .next s) ∧
    (chgState s = 2 → s.chg.ramping = true → within2 s (pfcEng s) 0x040 (s.fld CHG_PFC_BUS_SET) = true → s.chg.resume = false →
      pilotAllows s = true → s.flag CHG_STAT_PLUG = true → s.mode ≠ 3 → ∃ u, exec .busReady s = .next (settle s u) ∧ chgState u = 3 ∧ u.mode = 3 ∧
        u.fld PWR_MODE_CHANGING = 0 ∧ u.fld CHG_STAT_SESSION_OPEN = 1 ∧ u.fld CHG_SESS_ID = (s.fld CHG_SESS_ID + 1) % 2 ^ 16 ∧
        u.fld CHG_TIMER_ELAPSED = 0 ∧ u.chg.elapsed = 0 ∧ u.chg.bat.src = 0 ∧ u.chg.bat.goal = effectiveSet s)

/-- R297-R309: the charge session and reverse power. -/
def Obligations.ChargerSession : Prop :=
  ∀ (s : State) (p : Fin 12) (d : Word), s.quiet = true →
    (chgState s ≠ 3 ∨ s.flag CHG_PULSE_PULSE_EN = false → exec .pulseEnd s = .next s) ∧
    (chgState s = 3 → s.flag CHG_PULSE_PULSE_EN = true → ∃ u, exec .pulseEnd s = .next u ∧ chgState u = 4 ∧ u.chg.bat.goal = 0 ∧
      u.chg.bat.src = s.chg.bat.value s.mtime ∧ u.chg.edge = some (false, s.mtime) ∧ u.out = s.out) ∧
    (∀ ocv early : Nat, (chgState s ≠ 4 → exec (.restEnd ocv early) s = .next s) ∧
      (chgState s = 4 → ocv % 10 = 0 → ocv < 655360 → -32768 ≤ (ocv : Int) - early → (ocv : Int) - early < 32768 → ∃ u, exec (.restEnd ocv early) s = .next u ∧ chgState u = 3 ∧ u.chg.bat.goal = effectiveSet s ∧
        u.chg.edge = some (true, s.mtime) ∧ u.fld CHG_OCV = ocv / 10 % 2 ^ 16 ∧ u.fld CHG_OCV_RLX = codeOf 16 ((ocv : Int) - early) % 2 ^ 16 ∧
        u.fld CHG_OCV_T = s.mtime % 2 ^ 32)) ∧
    (∀ mv ma : Int, (s.chg.edge = none → exec (.impedanceWindowEnd mv ma) s = .next s) ∧
      (∀ t, s.chg.edge = some (true, t) → ma.natAbs < 1000 → ∃ u, exec (.impedanceWindowEnd mv ma) s = .next u ∧ u.fld CHG_Z_ON_VALID = 0 ∧
        u.fld CHG_Z_Z_ON = s.fld CHG_Z_Z_ON ∧ u.fld CHG_CNT_Z_REJ = satInc 8 (s.fld CHG_CNT_Z_REJ) % 2 ^ 8 ∧ u.chg.edge = none) ∧
      (∀ t, s.chg.edge = some (false, t) → 1000 ≤ ma → 10 * effectiveSet s ≤ ma.natAbs * 256 → s.chg.redMoved = false → 0 ≤ mv → mv ≤ ma →
        ∃ (u : State) (z : Nat), exec (.impedanceWindowEnd mv ma) s = .next u ∧ u.fld CHG_Z_OFF_VALID = 1 ∧ u.fld CHG_Z_T = t % 2 ^ 32 ∧
          u.fld CHG_Z_Z_OFF = z ∧ (z : Int) * ma < 10000 * mv + ma ∧ 10000 * mv < (z : Int) * ma + ma ∧ u.fld CHG_Z_Z_ON = s.fld CHG_Z_Z_ON)) ∧
    (s.flag CHG_CFG_EN = false → ∀ k : Fin 3, exec (.chargerOutputRead k) s = .next s) ∧
    (s.flag CHG_CFG_EN = true → (∃ u, exec (.chargerOutputRead 0) s = .next u ∧ chgState u = chgState s) ∧
      (∃ u, exec (.chargerOutputRead 1) s = .next (settle s u) ∧ u.chg.limits = (s.word (dataAddr (dabEng s) 0x086)).toNat ∧
        u.fld CHG_STAT_CV = bit ((s.word (dataAddr (dabEng s) 0x086)).toNat.testBit 0)) ∧
      ∃ u, exec (.chargerOutputRead 2) s = .next u ∧ u.chg.lim = decide (s.word (dataAddr (bstEng s) 0x082) ≠ 0) ∧ chgState u = chgState s) ∧
    ((chgState s ≠ 3 ∧ sameEvaluation s = false) ∨ s.flag CHG_STAT_CV = false ∨ s.fld CHG_LIM_I_TERM = 0 → exec .chargeTermination s = .next s) ∧
    (chgState s = 3 → s.flag CHG_STAT_CV = true → s.fld CHG_LIM_I_TERM ≠ 0 → signedOf 16 (s.fld CHG_BAT_I) < s.fld CHG_LIM_I_TERM →
      ∃ u, exec .chargeTermination s = .next (settle s u) ∧ chgState u = 5 ∧ u.chg.after = .standby 1 ∧ u.chg.bat.goal = 0) ∧
    (s.flag CHG_CFG_EN = false → exec .safetyTimerEvaluation s = .next s) ∧
    (s.flag CHG_CFG_EN = true → chgState s ≠ 3 → chgState s ≠ 4 → sameEvaluation s = false → ∃ u, exec .safetyTimerEvaluation s = .next u ∧ u.chg.elapsed = s.chg.elapsed ∧
      chgState u = chgState s) ∧
    (s.flag CHG_CFG_EN = true → chgState s = 3 → ∃ u, exec .safetyTimerEvaluation s = .next (settle s u) ∧
      u.chg.elapsed = s.chg.elapsed + (if reductions s = 0 then 2 else 1) ∧ (u.chg.elapsed < 131072 → u.fld CHG_TIMER_ELAPSED = u.chg.elapsed / 2) ∧
      (u.chg.elapsed < 240 * s.fld CHG_TMR_CFG_TIMER_MAX → chgState u = 3) ∧
      (240 * s.fld CHG_TMR_CFG_TIMER_MAX ≤ u.chg.elapsed → chgState u = 5 ∧ u.chg.after = .standby (if reductions s % 8 = 0 then 2 else 3))) ∧
    (s.flag CHG_CFG_EN = true → chgState s = 4 → s.chg.rate ≤ 2 → s.chg.elapsed + s.chg.rate < 240 * s.fld CHG_TMR_CFG_TIMER_MAX →
      ∃ u, exec .safetyTimerEvaluation s = .next u ∧ u.chg.elapsed = s.chg.elapsed + s.chg.rate ∧ chgState u = 4) ∧
    (chgState s ≠ 5 → exec .handoverComplete s = .next s) ∧
    (∀ c, chgState s = 5 → s.chg.after = .standby c → s.mode = 3 ∨ s.mode = 4 → ∃ u, exec .handoverComplete s = .next (settle s u) ∧ chgState u = 1 ∧
      u.mode = 1 ∧ u.fld CHG_STAT_END_CAUSE = c % 2 ^ 5 ∧ u.fld CHG_STAT_SESSION_OPEN = 0 ∧ u.fld CHG_STAT_CLASS = 0 ∧ u.fld PWR_MODE_CHANGING = 0) ∧
    (chgState s = 5 → s.chg.after = .unplugged → ∃ u, exec .handoverComplete s = .next (settle s u) ∧ chgState u = 6 ∧
      u.fld CHG_STAT_END_CAUSE = 4 ∧ u.fld CHG_STAT_SESSION_OPEN = 0) ∧
    (chgState s = 5 → s.chg.after = .wait → s.flag CHG_STAT_PLUG = true → s.chg.plugOut = false → pilotFaulty s = false →
      ∃ u, exec .handoverComplete s = .next (settle s u) ∧ chgState u = 6 ∧ u.fld CHG_STAT_SESSION_OPEN = s.fld CHG_STAT_SESSION_OPEN) ∧
    (chgState s = 5 → s.chg.after = .paused → s.flag CHG_STAT_PLUG = true → pilotFaulty s = false → pilotAllows s = false →
      ∃ u, exec .handoverComplete s = .next (settle s u) ∧ chgState u = 7) ∧
    (chgState s = 5 → s.chg.after = .refused → ∃ u, exec .handoverComplete s = .next (settle s u) ∧ chgState u = 1 ∧ u.fld PWR_MODE_CHANGING = 0 ∧
      u.mode = s.mode) ∧
    (chgState s ≠ 6 → exec .sessionResume s = .next s ∧ exec .waitTimeout s = .next s) ∧
    (chgState s = 6 → s.flag CHG_STAT_PLUG = true → mainsGood s = true → s.flag CHG_STAT_SESSION_OPEN = true → s.chg.phases = livePhases s →
      ∃ u, exec .sessionResume s = .next u ∧ chgState u = 2 ∧ u.chg.ramping = true ∧ u.chg.resume = true ∧ u.chg.elapsed = s.chg.elapsed ∧
        u.fld CHG_SESS_RESUMES = satInc 8 (s.fld CHG_SESS_RESUMES) % 2 ^ 8 ∧ u.fld CHG_STAT_SESSION_OPEN = s.fld CHG_STAT_SESSION_OPEN) ∧
    (chgState s = 6 → s.flag CHG_STAT_PLUG = true → mainsGood s = true → s.flag CHG_STAT_SESSION_OPEN = false → mainsSupported s = true →
      ∃ u, exec .sessionResume s = .next u ∧ chgState u = 2 ∧ u.chg.ramping = true ∧ u.chg.resume = false ∧ u.chg.phases = livePhases s) ∧
    (chgState s = 6 → s.mode = 3 → s.flag CHG_STAT_SESSION_OPEN = true → ∃ u, exec .waitTimeout s = .next (settle s u) ∧ chgState u = 1 ∧ u.mode = 1 ∧
      u.fld CHG_STAT_END_CAUSE = 5 ∧ u.fld CHG_STAT_SESSION_OPEN = 0) ∧
    (chgState s ≠ 8 ∨ s.flag CHG_STAT_EXP_READY = true → exec .exportReady s = .next s) ∧
    (chgState s = 8 → s.flag CHG_STAT_EXP_READY = false → within2 s (dabEng s) 0x040 (s.fld CHG_EXP_EXP_V) = true →
      ∃ u, exec .exportReady s = .next (settle s u) ∧ chgState u = 8 ∧ u.fld CHG_STAT_EXP_READY = 1 ∧ u.mode = 4 ∧ u.fld PWR_MODE_CHANGING = 0) ∧
    (s.allUp = true → ∃ u, exec (.exportSetpointWrite (.pair p) d) s = .next u ∧ u.fld CHG_EXP_EXP_V = bitsOf d.toNat 0 16 ∧
      u.fld CHG_EXP_EXP_I = bitsOf d.toNat 16 16 ∧ chgState u = chgState s ∧ (chgState s = 8 → u.chg.bus.goal = bitsOf d.toNat 0 16)) ∧
    (chgState s ≠ 8 → exec .exportSetpointTimeout s = .next s) ∧
    (chgState s = 8 → ∃ u, exec .exportSetpointTimeout s = .next (settle s u) ∧ chgState u = 5 ∧
      u.chg.after = .standby 9) ∧
    (chgState s ≠ 9 ∨ s.mode = 4 → exec .boostReady s = .next s) ∧
    (chgState s = 9 → s.mode ≠ 4 → within2 s (bstEng s) 0x052 (s.fld CHG_BST_ACC_V) = true → ∃ u, exec .boostReady s = .next (settle s u) ∧
      chgState u = 9 ∧ u.mode = 4 ∧ u.fld PWR_MODE_CHANGING = 0) ∧
    (chgState s ≠ 9 → exec (.currentLimitEvaluation 4) s = .next s) ∧
    (chgState s = 9 → s.mode = 4 → 63 ≤ s.chg.limRun → (s.grpOf (s.fld CHG_CFG_BST_GRP)).prevRan = true →
      (s.grpOf (s.fld CHG_CFG_BST_GRP)).prevTrip = true → ∃ u, exec (.currentLimitEvaluation 4) s = .next (settle s u) ∧ chgState u = 1 ∧
        u.mode = 1 ∧ u.fld CHG_STAT_END_CAUSE = 11)

/-- R316, R317, R320, R327: a demand takes the permit away. -/
def Obligations.DemandTakesThePermitAway : Prop :=
  ∀ (s : State) (d : Word), ∃ u, exec (.safetyCoreDemand (.pair 11) d) s = .next (settle s u) ∧
    (∀ g : Fin 12, d.toNat.testBit g = true → u.latched g = true ∧
      (s.latched g = false → u.safe g = true ∧ u.fld (SAF_GSTAT_CAUSE g) = 0x23 ∧ u.fld (SAF_GTIME_T g) = s.mtime % 2 ^ (SAF_GTIME_T g).width)) ∧
    (∀ g : Fin 12, s.latched g = true → u.latched g = true) ∧
    (∀ l : Fin 60, ∀ g : Fin 12, u.groupOf (legOfLink l) = some g.val → u.latched g = true → carrier u l ≠ some .permit) ∧
    (∀ n : Fin 36, u.fld (PWM_LEG_CFG_GROUP n) = s.fld (PWM_LEG_CFG_GROUP n)) ∧
    (∀ g : Fin 12, u.fld (SAF_GTBL_POLICY g) = s.fld (SAF_GTBL_POLICY g) ∧ u.fld (SAF_GTBL_SIDE g) = s.fld (SAF_GTBL_SIDE g))

/-- R328: releases. -/
def Obligations.ReleaseNeedsBothKeys : Prop :=
  ∀ (s : State) (groups : BitVec 12) (dev : Bool), s.quiet = true →
    (s.sag.rel = none → exec (.releaseFirstKey (.pair 11) groups dev) s =
      .next { s with sag := { s.sag with rel := some (groups.toNat, dev, s.mtime) } }) ∧
    (s.sag.rel.isSome = true → ∃ u, exec (.releaseFirstKey (.pair 11) groups dev) s = .next u ∧ u.fld SAF_REL_STAT_RESULT = 4 ∧
      u.sag = { s.sag with rel := some (groups.toNat, dev, s.mtime) } ∧ u.grp = s.grp ∧ u.out = s.out ∧ ∀ k : Fin 12, u.latched k = s.latched k) ∧
    (s.sag.rel = none → exec (.releaseSecondKey (.pair 11) groups dev) s = .next (s.put SAF_REL_STAT_RESULT 4)) ∧
    (s.sag.rel = none → exec .releaseWindowExpiry s = .next s) ∧
    (∀ g e t, s.sag.rel = some (g, e, t) → g ≠ groups.toNat ∨ e ≠ dev ∨ t + 40000 < s.mtime → ∃ u, exec (.releaseSecondKey (.pair 11) groups dev) s = .next u ∧
      exec .releaseWindowExpiry s = .next u ∧ u.sag.rel = none ∧ u.fld SAF_REL_STAT_RESULT = 4 ∧ u.sag.evts = s.sag.evts ∧
      (∀ k : Fin 12, u.latched k = s.latched k) ∧ u.flag SAF_STAT_DEV_LATCH = s.flag SAF_STAT_DEV_LATCH ∧ u.grp = s.grp ∧ u.out = s.out) ∧
    (∀ t, s.sag.rel = some (groups.toNat, dev, t) → s.mtime ≤ t + 40000 → ∃ u, exec (.releaseSecondKey (.pair 11) groups dev) s = .next (settle s u) ∧
      u.sag.rel = none ∧ ∀ k : Fin 12, (groups.toNat.testBit k = true → s.latched k = true → judge s (dev && devFree s) k = 0 →
          u.latched k = false ∧ (s.safe k = true → u.stopped k = true)) ∧
        (judge s (dev && devFree s) k ≠ 0 → u.latched k = s.latched k) ∧ (groups.toNat.testBit k = false → u.latched k = s.latched k))

/-- R313, R314, R321, R326. -/
def Obligations.SafetyInputsAndHeartbeat : Prop :=
  ∀ (s : State) (i : Fin 16) (p : Fin 8) (j : Fin 2) (g : Fin 12) (d : Word) (bad : BitVec 36), s.quiet = true →
    (exec (.safetyInputFiltered i true) s = .next (evalChoices (dropStanding ((s.put SAF_SIN_STAT_DEMAND
      (clearBit (s.fld SAF_SIN_STAT_DEMAND) i)).put SAF_SIN_STAT_RAW (setBit (s.fld SAF_SIN_STAT_RAW) i))))) ∧
    (∃ u, exec (.safetyInputFiltered i false) s = .next (settle s u) ∧ u.fld SAF_SIN_STAT_DEMAND = setBit (s.fld SAF_SIN_STAT_DEMAND) i % 2 ^ 16 ∧
      (i.val % 2 = 0 → ∀ k : Fin 12, (s.fld (SAF_SIN_MAP_GROUPS i)).testBit k = true → u.latched k = true)) ∧
    (s.flag (SAF_SIN_CFG_PAIR (2 * p.val)) = false → exec (.discrepancyTimeout p) s = .next s) ∧
    (s.flag (SAF_SIN_CFG_PAIR (2 * p.val)) = true → (s.fld SAF_SIN_STAT_DEMAND).testBit (2 * p.val) ≠ (s.fld SAF_SIN_STAT_DEMAND).testBit (2 * p.val + 1) →
      ∃ u, exec (.discrepancyTimeout p) s = .next (settle s u) ∧ u.fld SAF_SIN_DISC_DISC_ERR = setBit (s.fld SAF_SIN_DISC_DISC_ERR) p % 2 ^ 8 ∧
        u.sag.disc = setBit s.sag.disc p) ∧
    (s.sag.disc.testBit p = false → exec (.discrepancyHoldEnd p) s = .next s) ∧
    (s.sag.disc.testBit p = true → (s.fld SAF_SIN_STAT_DEMAND).testBit (2 * p.val) = false → (s.fld SAF_SIN_STAT_DEMAND).testBit (2 * p.val + 1) = false →
      exec (.discrepancyHoldEnd p) s = .next (evalChoices { s with sag := { s.sag with disc := clearBit s.sag.disc p } })) ∧
    (s.flag (SAF_OV3_CFG_EN j) = false → exec (.ov3Comparator j true) s = .next (s.put SAF_OV3_STAT_OUT (clearBit (s.fld SAF_OV3_STAT_OUT) j))) ∧
    (s.flag (SAF_OV3_CFG_EN j) = true → ∃ t, exec (.ov3Comparator j false) s = .next (evalChoices t) ∧
      t.fld SAF_OV3_STAT_OUT = clearBit (s.fld SAF_OV3_STAT_OUT) j % 2 ^ 2 ∧ t.sag = { s.sag with stand := s.sag.stand.filter fun x => x.cause ≠ 5 + j } ∧
      t.out = s.out ∧ t.words = s.words) ∧
    (s.flag (SAF_OV3_CFG_EN j) = true → ∃ u, exec (.ov3Comparator j true) s = .next (settle s u) ∧
      u.fld SAF_OV3_STAT_OUT = setBit (s.fld SAF_OV3_STAT_OUT) j % 2 ^ 2 ∧ ∀ k : Fin 12, (s.fld (SAF_OV3_CFG_GROUPS j)).testBit k = true → u.latched k = true) ∧
    (bitsOf d.toNat 0 2 = 3 → exec (.saggarTableWrite (.pair 11) g false d bad) s = .next (s.refuse safErr .SAF_RANGE)) ∧
    (bitsOf d.toNat 0 2 ≠ 3 → s.members g ≠ [] → s.stopped g = false ∨ s.latched g = true →
      exec (.saggarTableWrite (.pair 11) g false d bad) s = .next (s.refuse safErr .SAF_BUSY)) ∧
    (bitsOf d.toNat 0 2 ≠ 3 → s.members g = [] → s.flag SAF_LOCK = false → ∃ t, exec (.saggarTableWrite (.pair 11) g false d bad) s = .next t ∧
      t.fld (SAF_GTBL_POLICY g) = bitsOf d.toNat 0 2 ∧ t.fld (SAF_GTBL_SIDE g) = bitsOf d.toNat 2 1 ∧ t.out = s.out ∧ t.rx = s.rx) ∧
    (bitsOf d.toNat 0 16 > bitsOf d.toNat 16 16 → s.members g = [] → s.flag SAF_LOCK = false →
      ∃ t, exec (.saggarTableWrite (.pair 11) g true d bad) s = .next t ∧ t.fld (SAF_GASC_ASC_ON g) = bitsOf d.toNat 0 16 ∧
        t.fld (SAF_GASC_ASC_OFF g) = bitsOf d.toNat 16 16 ∧ t.out = s.out) ∧
    (s.sag.hbArmed = false → exec (.heartbeatWrite (.pair 11) d) s = .next s ∧ exec .heartbeatTimeout s = .next s) ∧
    (s.sag.hbArmed = true → s.sag.hbLast = none → ∃ t, exec (.heartbeatWrite (.pair 11) d) s = .next t ∧ t.fld SAF_STAT_HB_OK = 1 ∧
      t.sag.hbLast = some (s.mtime, d.toNat % 256) ∧ t.out = s.out) ∧
    (s.sag.hbArmed = true → exec .heartbeatTimeout s = .next (settle s (heartbeatLost s))) ∧
    (∀ t v, s.sag.hbArmed = true → s.sag.hbLast = some (t, v) → d.toNat % 256 ≠ (v + 1) % 256 →
      exec (.heartbeatWrite (.pair 11) d) s = .next (settle s (heartbeatLost s))) ∧
    (heartbeatLost s).fld SAF_STAT_HB_OK = 0 ∧ (heartbeatLost s).sag.hbArmed = false ∧ (heartbeatLost s).sag.warm = true ∧
    (heartbeatLost s).flag SAF_STAT_DEV_LATCH = true

/-- R322-R325: safe outputs. -/
def Obligations.SafeOutputs : Prop :=
  ∀ (s : State) (n : Fin 8) (d : Word), s.quiet = true →
    (∃ t, exec (.safeOutputRequest (.pair 11) d) s = .next t ∧ t.fld SAF_SOUT_REQ_ON = d.toNat % 256 ∧
      (t.fld (SAF_SOUT_STAT_ON n) = 1 ↔ d.toNat.testBit n = true ∧ s.ready = true ∧ (s.soutOf n).dev = false ∧ (s.soutOf n).fdev = false ∧
        (s.soutOf n).groups = 0 ∧ (s.soutOf n).ovl = false ∧ s.flag (SAF_SOUT_STAT_FAIL_A n) = false ∧ s.flag (SAF_SOUT_STAT_FAIL_B n) = false) ∧ t.out = s.out) ∧
    (s.flag (SAF_SOUT_STAT_ON n) = false ∨ s.flag (SAF_SOUT_CFG_TEST_EN n) = false → exec (.safeOutputTest n) s = .next s) ∧
    (s.flag (SAF_SOUT_STAT_ON n) = true → s.flag (SAF_SOUT_CFG_TEST_EN n) = true → s.sag.pulse = none → ∃ t, exec (.safeOutputTest n) s = .next t ∧
      t.sag.pulse = some (n.val, (s.soutOf n).testB) ∧ (t.soutOf n).testB = !(s.soutOf n).testB ∧ t.out = s.out) ∧
    (s.sag.pulse = none → ∀ pass, exec (.testPulseEnd pass) s = .next s) ∧
    (s.sag.pulse = some (n.val, true) → ∃ u, exec (.testPulseEnd false) s = .next (settle s u) ∧ u.fld (SAF_SOUT_STAT_FAIL_B n) = 1 ∧
      u.fld (SAF_SOUT_STAT_ON n) = 0 ∧ u.flag SAF_STAT_DEV_LATCH = true) ∧
    (s.sag.pulse = some (n.val, true) → s.sag.pulses = [] → exec (.testPulseEnd true) s =
      .next ({ s with sag := { s.sag with pulse := none, pulses := [] } }.inc (SAF_SOUT_STAT_TEST_CNT n))) ∧
    (s.flag (SAF_SOUT_STAT_ON n) = false → exec (.safeOutputOverload n) s = .next s ∧ exec (.safeOutputOpen n) s = .next s) ∧
    (s.flag (SAF_SOUT_STAT_ON n) = true → (∃ t, exec (.safeOutputOverload n) s = .next t ∧ t.fld (SAF_SOUT_STAT_ON n) = 0 ∧ t.fld (SAF_SOUT_STAT_OVLD n) = 1) ∧
      exec (.safeOutputOpen n) s = .next (s.put (SAF_SOUT_STAT_OPEN n) 1)) ∧
    (s.sag.funcs.find? (fun f => 3 ≤ f.bit) = none → exec .contactorDelayExpiry s = .next s) ∧
    (∀ old, s.sag.funcs.find? (fun f => 3 ≤ f.bit) = some old → ∃ t, exec .contactorDelayExpiry s = .next t ∧
      t.sag.funcs = s.sag.funcs.filter (fun f => f.bit < 3 || f.at_ ≠ old.at_) ∧ t.out = s.out ∧ t.words = s.words ∧
      (funcRole old.bit (s.fld (SAF_SOUT_CFG_ROLE n)) = true → old.dev = true ∨ old.groups &&& s.latchedMask ≠ 0 → t.fld (SAF_SOUT_STAT_ON n) = 0)) ∧
    (parkSlow s = false → exec .parkSpeedConfirmed s = .next s) ∧
    (parkSlow s = true → ∃ t, exec .parkSpeedConfirmed s = .next t ∧ t.sag.funcs = s.sag.funcs.filter (fun f => f.bit ≠ 2) ∧ t.out = s.out)

/-- R330-R334: Fjop. -/
def Obligations.FjopConnections : Prop :=
  ∀ (s : State) (c : Fin 32) (payload : List Byte) (seq : Nat) (frame : List Byte), s.quiet = true → payload.length ≤ 32 → seq < 2 ^ 16 →
    ((s.flag (SAF_FJ_CFG_EN c) = false ∨ s.flag (SAF_FJ_CFG_DIR c) = true ∨ s.fld (SAF_FJ_STAT_STATE c) = 0 ∨ s.fld (SAF_FJ_STAT_STATE c) = 3) →
      exec (.fjopFrameArrival c frame) s = .next s) ∧
    (s.flag (SAF_FJ_CFG_EN c) = true → s.flag (SAF_FJ_CFG_DIR c) = false → s.fld (SAF_FJ_STAT_STATE c) = 1 →
      ∃ t, exec (.fjopFrameArrival c (fjopForm (s.fld (SAF_FJ_ID c)) seq payload)) s = .next t ∧ t.fld (SAF_FJ_STAT_STATE c) = 2 ∧
        t.fld (SAF_FJ_STAT_VALID c) = 1 ∧ t.fld (SAF_FJ_STAT_NEW c) = 1 ∧ t.fld (SAF_FJ_STAT_SEQ c) = seq ∧
        t.bytesAt (fjopBuf c) payload.length = payload ∧ (t.byte (fjopBuf c + 32)).toNat = payload.length ∧ t.words = s.words) ∧
    (s.flag (SAF_FJ_CFG_EN c) = true → s.flag (SAF_FJ_CFG_DIR c) = false → s.fld (SAF_FJ_STAT_STATE c) = 2 → s.fld (SAF_FJ_STAT_SEQ c) = seq →
      exec (.fjopFrameArrival c (fjopForm (s.fld (SAF_FJ_ID c)) seq payload)) s = .next s) ∧
    (s.flag (SAF_FJ_CFG_EN c) = true → s.fld (SAF_FJ_STAT_STATE c) = 2 →
      (s.flag (SAF_FJ_CFG_DIR c) = false → ∃ u, exec (.fjopReceiveTimeout c) s = .next (settle s u) ∧ u.fld (SAF_FJ_STAT_STATE c) = 3 ∧
        u.fld (SAF_FJ_STAT_FAIL c) = 1 ∧ u.fld (SAF_FJ_STAT_VALID c) = 0 ∧ exec (.fjopSendTimeout c) s = .next s) ∧
      (s.flag (SAF_FJ_CFG_DIR c) = true → ∃ u, exec (.fjopSendTimeout c) s = .next (settle s u) ∧ u.fld (SAF_FJ_STAT_STATE c) = 3 ∧
        u.fld (SAF_FJ_STAT_FAIL c) = 3 ∧ exec (.fjopReceiveTimeout c) s = .next s)) ∧
    (exec (.fjopReset (.pair 11) c) s = .next (if s.flag (SAF_FJ_CFG_EN c) then (s.put (SAF_FJ_STAT_STATE c) 1).put (SAF_FJ_STAT_VALID c) 0 else s)) ∧
    (s.flag (SAF_FJ_CFG_EN c) = true → s.flag (SAF_FJ_CFG_DIR c) = true → (s.fjopOf c).tx.isSome = true →
      exec (.fjopSend (.pair 11) c) s = .next (s.refuse safErr .SAF_BUSY)) ∧
    (s.flag (SAF_FJ_CFG_EN c) = true → s.flag (SAF_FJ_CFG_DIR c) = true → (s.fjopOf c).tx = none → s.fld (SAF_FJ_CFG_CHANNEL c) ≠ 9 →
      ∃ t, exec (.fjopSend (.pair 11) c) s = .next t ∧ t.fld (SAF_FJ_STAT_STATE c) = 2 ∧ (t.fjopOf c).txSeq = ((s.fjopOf c).txSeq + 1) % 65536 ∧
        (t.fjopOf c).tx = some (fjopForm (s.fld (SAF_FJ_ID c)) (s.fjopOf c).txSeq (s.bytesAt (fjopBuf c) (min 32 (s.byte (fjopBuf c + 32)).toNat))) ∧
        t.bytes = s.bytes ∧ t.out = s.out)

/-- R344-R354: core pairs. -/
def Obligations.CorePairs : Prop :=
  ∀ (s : State) (n : Fin 12) (chk : Bool) (it a b : CopyItem) (x y icnt : Word) (m k id : Nat) (ecc : Ecc) (wfi : Bool × Bool) (src : AsyncSrc), s.quiet = true →
    ((s.pairOf n).dead = true → exec (.copyTransaction n chk ⟨it, ecc⟩ icnt) s = .next s ∧ exec (.retireSignature n chk x icnt) s = .next s ∧
      exec (.comparatorTimeout n icnt) s = .next s ∧ exec (.localParityError n icnt) s = .next s ∧
      exec (.interruptNotice n id ⟨m, wfi.1⟩ ⟨k, wfi.2⟩) s = .next s ∧ exec (.asyncValueRead n ⟨src, x⟩ y) s = .next s) ∧
    ((s.pairOf n).dead = false → (s.pairOf n).main = [] → (s.pairOf n).chk = [] →
      ∃ t, exec (.copyTransaction n false ⟨it, ecc⟩ icnt) s = .next t ∧ (t.pairOf n).main = [it] ∧ (t.pairOf n).chk = [] ∧ t.fld (LKS_PAIR_STAT_MBUF n) = 1 ∧
        (s.flag (LKS_PAIR_STAT_HALTED n) = false → (t.pairOf n).instretM % 2 ^ 32 = icnt.toNat) ∧ t.out = s.out ∧ t.words = s.words ∧ t.bytes = s.bytes) ∧
    ((s.pairOf n).dead = false → (s.pairOf n).main = [a] → (s.pairOf n).chk = [] → a.kind = .write → ∃ u : State,
      exec (.copyTransaction n true ⟨a, ecc⟩ icnt) s = .next (settle s (busWrite u (.pair n) a.size a.addr.toNat a.data.toNat).1) ∧
        (u.pairOf n).main = [] ∧ (u.pairOf n).chk = [] ∧ u.words = s.words ∧ u.bytes = s.bytes ∧ u.out = s.out) ∧
    ((s.pairOf n).dead = false → (s.pairOf n).main = [a] → (s.pairOf n).chk = [] → a.kind = .counter .time → ∃ u,
      exec (.copyTransaction n true ⟨a, ecc⟩ icnt) s = .next u ∧ (u.pairOf n).main = [] ∧ (u.pairOf n).chk = [] ∧
        u.out = s.out ++ [.counter n .time (s.mtime % 2 ^ 32)]) ∧
    ((s.pairOf n).dead = false → (s.pairOf n).main = [a] → (s.pairOf n).chk = [] → a.addr ≠ b.addr → ∃ u,
      exec (.copyTransaction n true ⟨b, ecc⟩ icnt) s = .next (settle s u) ∧ (u.pairOf n).dead = true ∧ u.fld (LKS_FAULT_INFO_KIND n) = 1 ∧
        u.fld (LKS_FAULT_INFO_LANE n) = 0 ∧ u.fld (LKS_PAIR_STAT_RUN n) = 0 ∧ u.flag SAF_STAT_DEV_LATCH = true) ∧
    ((s.pairOf n).dead = false → (s.pairOf n).sigM = [x.toNat] → (s.pairOf n).sigC = [] →
      (∃ t, exec (.retireSignature n true x icnt) s = .next t ∧ (t.pairOf n).sigM = [] ∧ (t.pairOf n).sigC = [] ∧ (t.pairOf n).dead = false ∧ t.out = s.out) ∧
      (x ≠ y → ∃ u, exec (.retireSignature n true y icnt) s = .next (settle s u) ∧ (u.pairOf n).dead = true ∧ u.fld (LKS_FAULT_INFO_KIND n) = 4)) ∧
    ((s.pairOf n).dead = false → s.flag (LKS_PAIR_STAT_HALTED n) = false → (s.pairOf n).main = [a] → (s.pairOf n).chk = [] → ∃ u,
      exec (.comparatorTimeout n icnt) s = .next (settle s u) ∧ (u.pairOf n).dead = true ∧ u.fld (LKS_FAULT_INFO_KIND n) = 2 ∧
        u.fld (LKS_FAULT_ADDR n) = a.addr.toNat) ∧
    (s.flag (LKS_PAIR_STAT_HALTED n) = true → exec (.comparatorTimeout n icnt) s = .next s) ∧
    ((s.pairOf n).dead = false → ∃ u, exec (.localParityError n icnt) s = .next (settle s u) ∧ (u.pairOf n).dead = true ∧
      u.fld (LKS_FAULT_INFO_KIND n) = 5 ∧ u.fld (LKS_FAULT_ICNT n) = icnt.toNat) ∧
    ((s.pairOf n).dead = false → (s.pairOf n).exch = none → ∃ t, exec (.interruptNotice n id ⟨m, wfi.1⟩ ⟨k, wfi.2⟩) s = .next t ∧
      (t.pairOf n).exch = some (.irq id, (if wfi.1 then m else m + 4), (if wfi.2 then k else k + 4))) ∧
    ((s.pairOf n).dead = false → (s.pairOf n).exch = none → policyOpen s = true → debugDenied s = false → ∃ t, exec (.debugHaltRequest n ⟨m, wfi.1⟩ ⟨k, wfi.2⟩) s = .next t ∧
      (t.pairOf n).exch = some (.halt, (if wfi.1 then m else m + 4), (if wfi.2 then k else k + 4))) ∧
    (policyOpen s = false → exec (.debugHaltRequest n ⟨m, wfi.1⟩ ⟨k, wfi.2⟩) s = .next s) ∧
    (s.flag (LKS_PAIR_STAT_HALTED n) = true → policyOpen s = true → (s.pairOf n).replay.length < 64 → ∃ t, exec (.debugAction n .step false) s = .next t ∧
      (t.pairOf n).replay = (s.pairOf n).replay ++ [(.step, (s.pairOf n).haltAt)]) ∧
    ((s.pairOf n).exch = some (.irq id, m, k) → (s.pairOf n).queue = [] → ∃ t, exec (.agreementReport n 0 0) s = .next t ∧
      (t.pairOf n).exch = none ∧ t.out = s.out ++ [.taken n.val id (max m k)]) ∧
    ((s.pairOf n).exch = none → exec (.agreementReport n m k) s = .next s) ∧
    ((s.pairOf n).dead = false → (s.pairOf n).value = none → exec (.asyncValueRead n ⟨.pending, x⟩ x) s = .next (s.emit (.value n x.toNat)) ∧
      exec (.asyncValueRead n ⟨.lkstat, 0⟩ 0) s = .next (s.emit (.value n (lkstat s n))) ∧
      (x ≠ y → exec (.asyncValueRead n ⟨.pending, x⟩ y) s = .next (s.setPair n { s.pairOf n with value := some (.pending, 0) }))) ∧
    ((s.pairOf n).value = none → exec (.valueResample n x y icnt) s = .next s) ∧
    ((s.pairOf n).value = some (.pending, 3) → x ≠ y → ∃ u, exec (.valueResample n x y icnt) s = .next (settle s u) ∧ (u.pairOf n).dead = true ∧
      u.fld (LKS_FAULT_INFO_KIND n) = 3 ∧ u.fld (LKS_FAULT_MAIN_VALUE n) = x.toNat ∧ u.fld (LKS_FAULT_CHK_VALUE n) = y.toNat) ∧
    ((s.pairOf n).value = some (.pending, 0) → exec (.valueResample n x y icnt) s = .next (if x = y then
      ((s.setPair n { s.pairOf n with value := none }).inc (LKS_CNT_RESAMPLE_CNT n)).emit (.value n x.toNat)
      else s.setPair n { s.pairOf n with value := some (.pending, 1) })) ∧
    (s.flag (LKS_PAIR_STAT_HALTED n) = true → (s.pairOf n).replay = [] →
      ∃ t, exec (.debugResume n) s = .next t ∧ t.fld (LKS_PAIR_STAT_HALTED n) = 0 ∧ t.fld (LKS_PAIR_STAT_RUN n) = 1 ∧ t.out = s.out) ∧
    (s.flag (LKS_PAIR_STAT_HALTED n) = true → (s.pairOf n).replay ≠ [] → ∃ t, exec (.debugResume n) s = .next t ∧ (t.pairOf n).resumeWait = true ∧
      t.fld (LKS_PAIR_STAT_HALTED n) = s.fld (LKS_PAIR_STAT_HALTED n)) ∧
    (s.flag (LKS_PAIR_STAT_HALTED n) = true → policyOpen s = true → (s.pairOf n).replay.length = 1 → (s.pairOf n).resumeWait = true → ∃ t,
      exec (.debugAction n .step true) s = .next t ∧ (t.pairOf n).replay = [] ∧ t.fld (LKS_PAIR_STAT_HALTED n) = 0 ∧ t.fld (LKS_PAIR_STAT_RUN n) = 1) ∧
    (s.flag (LKS_PAIR_STAT_HALTED n) = false → exec (.debugResume n) s = .next s ∧ ∀ act r, policyOpen s = false → exec (.debugAction n act r) s = .next s)

/-- R360-R368: feeds and the hold-up store. -/
def Obligations.FeedsAndHoldUp : Prop :=
  (∀ (s : State) (p : Fin 12) (a o : Fin 2) (va vb v : BitVec 12) (low : Bool), s.quiet = true →
    activeFeed s = a.val → o.val = 1 - a.val →
    (s.sup.chosen = true → s.sup.drill = none → s.flag PWR_FEED_CFG_RETURN = false → feedIn s 0 = true → feedIn s 1 = true →
      400 ≤ va.toNat → va.toNat ≤ 2900 → 400 ≤ vb.toNat → vb.toNat ≤ 2900 → ∃ u, exec (.feedMeasurement va vb false) s = .next u ∧
        activeFeed u = a.val ∧ u.fld PWR_FEED_STAT_IN = s.fld PWR_FEED_STAT_IN ∧ u.fld PWR_FEED_V_VA = va.toNat ∧ u.fld PWR_FEED_V_VB = vb.toNat ∧
        u.out = s.out) ∧
    (s.sup.chosen = true → s.sup.drill = none → feedIn s 0 = true → feedIn s 1 = true → (s.feedOf a).outRow = 1 → (s.feedOf o).proof ≠ 2 →
      (if a.val = 0 then va else vb).toNat < 390 → 400 ≤ (if a.val = 0 then vb else va).toNat → (if a.val = 0 then vb else va).toNat ≤ 2900 →
      ∃ u, exec (.feedMeasurement va vb low) s = .next (settle s u) ∧ activeFeed u = o.val ∧ u.fld PWR_FEED_STAT_LAST_CAUSE = 1 ∧
        u.sup.check = some a.val ∧ feedIn u a = false ∧ feedIn u o = true ∧ u.fld PWR_FEED_CNT_SW_CNT = satInc 8 (s.fld PWR_FEED_CNT_SW_CNT) % 2 ^ 8) ∧
    (s.sup.chosen = true → s.sup.drill = none → s.sup.check = none → feedIn s 0 = true → feedIn s 1 = true → 400 ≤ va.toNat → va.toNat ≤ 2900 →
      400 ≤ vb.toNat → vb.toNat ≤ 2900 → ∃ u, exec (.feedMeasurement va vb true) s = .next u ∧ (u.fld PWR_FEED_STAT_CHAIN_FLT).testBit a = true ∧
        ((s.feedOf o).proof ≠ 2 → activeFeed u = o.val ∧ u.fld PWR_FEED_STAT_LAST_CAUSE = 2 ∧ u.sup.check = some a.val) ∧
        ((s.feedOf o).proof = 2 → activeFeed u = a.val)) ∧
    (s.sup.chosen = true → s.sup.drill = none → s.sup.check = some o.val → feedIn s 0 = true → feedIn s 1 = true → 400 ≤ va.toNat →
      va.toNat ≤ 2900 → 400 ≤ vb.toNat → vb.toNat ≤ 2900 → ∃ u, exec (.feedMeasurement va vb true) s = .next u ∧ activeFeed u = o.val ∧
        u.fld PWR_FEED_STAT_LAST_CAUSE = 5 ∧ (u.feedOf a).proof = 2 ∧ u.sup.check = none) ∧
    (s.sup.chosen = false → feedIn s 0 = false → (s.feedOf 0).inRow = 10 → 400 ≤ va.toNat → va.toNat ≤ 2900 →
      ∃ u, exec (.feedMeasurement va vb low) s = .next (settle s u) ∧ activeFeed u = 0 ∧ u.sup.chosen = true ∧ feedIn u 0 = true) ∧
    (s.sup.check = none → exec (.switchOverCheck low) s = .next s) ∧
    (∀ f, s.sup.check = some f → exec (.switchOverCheck false) s = .next { s with sup := { s.sup with check := none } }) ∧
    (s.sup.check = some o.val → s.sup.drill = none → feedIn s o = true → ∃ u, exec (.switchOverCheck true) s = .next u ∧ activeFeed u = o.val ∧
      u.fld PWR_FEED_STAT_LAST_CAUSE = 5 ∧ (u.feedOf a).proof = 2 ∧ u.fld PWR_FEED_CNT_UNABLE_CNT = satInc 8 (s.fld PWR_FEED_CNT_UNABLE_CNT) % 2 ^ 8) ∧
    (s.sup.check = some o.val → s.sup.drill = none → feedIn s o = false → ∃ u, exec (.switchOverCheck true) s = .next u ∧ activeFeed u = a.val ∧
      u.fld PWR_FEED_STAT_LAST_CAUSE = s.fld PWR_FEED_STAT_LAST_CAUSE ∧ (u.feedOf a).proof = 2 ∧ u.sup.check = none) ∧
    (s.sup.check = some o.val → s.sup.drill = some o.val → ∃ u, exec (.switchOverCheck true) s = .next u ∧ activeFeed u = o.val ∧
      u.sup.drill = none ∧ u.fld PWR_FEED_STAT_DRILL = 0 ∧ (u.feedOf a).proof = 2 ∧ u.fld PWR_FEED_CNT_DRILL_FAIL = satInc 8 (s.fld PWR_FEED_CNT_DRILL_FAIL) % 2 ^ 8) ∧
    (feedIn s o = false → exec (.pwrFeedDrill (.pair p)) s = .next s) ∧
    (feedIn s o = true → s.sup.drill.isSome = true ∨ s.sup.check.isSome = true ∨ s.flag PWR_FEED_STAT_DIP = true ∨ s.flag PWR_PS_STAT_ENTERING = true →
      exec (.pwrFeedDrill (.pair p)) s = .next (s.refuse pwrErr .PWR_BUSY)) ∧
    (feedIn s o = true → s.sup.drill = none → s.sup.check = none → s.flag PWR_FEED_STAT_DIP = false → s.flag PWR_PS_STAT_ENTERING = false →
      ∃ u, exec (.pwrFeedDrill (.pair p)) s = .next u ∧ activeFeed u = o.val ∧ u.sup.drill = some a.val ∧ u.sup.check = some a.val ∧
        u.fld PWR_FEED_STAT_DRILL = 1 ∧ u.fld PWR_FEED_CNT_SW_CNT = s.fld PWR_FEED_CNT_SW_CNT ∧ u.out = s.out) ∧
    (s.sup.drill = none → exec .feedDrillEnd s = .next s) ∧
    (s.sup.drill = some o.val → ∃ u, exec .feedDrillEnd s = .next u ∧ activeFeed u = o.val ∧ u.sup.drill = none ∧ u.fld PWR_FEED_STAT_DRILL = 0 ∧
      (u.feedOf a).proof = 1 ∧ (u.feedOf a).proofAt = s.mtime ∧ (feedIn s a = true → u.fld PWR_FEED_STAT_STBY = 2)) ∧
    (s.flag PWR_FEED_STAT_DIP = true → exec (.dipStart v) s = .next s ∧ exec .storeWritesResume s = .next s) ∧
    (s.flag PWR_FEED_STAT_DIP = false → exec (.dipEnd v) s = .next s ∧ ∃ u, exec (.dipStart v) s = .next u ∧ u.fld PWR_FEED_STAT_DIP = 1 ∧
      u.storeHeld = true ∧ u.fld JNL_STAT_DEFERRED = 1 ∧ u.fld PWR_DIP_T = s.mtime % 2 ^ 32 ∧ u.out = s.out ∧ u.bytes = s.bytes ∧ u.mode = s.mode) ∧
    (s.flag PWR_FEED_STAT_DIP = true → s.sup.lost = false → ∃ u, exec (.dipEnd v) s = .next u ∧ u.fld PWR_FEED_STAT_DIP = 0 ∧
      u.dipHold = s.dipHold ∧ u.fld PWR_DIP_DIP_CNT = satInc 16 (s.fld PWR_DIP_DIP_CNT) % 2 ^ 16 ∧
      u.fld PWR_DIP_DIP_MIN = min v.toNat s.sup.dipMin % 2 ^ 12) ∧
    (s.flag PWR_FEED_STAT_DIP = false → s.flag PWR_FEED_STAT_HOLD_OK = true → s.held 25 = false → ∃ u, exec .storeWritesResume s = .next u ∧ u.storeHeld = false ∧
      u.deferred = [] ∧ u.fld JNL_STAT_DEFERRED = 0 ∧ u.bytes = (s.each s.deferred fun s e => s.setBytes e.1 e.2).bytes) ∧
    (∃ u, exec (.holdOkChange false) s = .next u ∧ u.storeHeld = true ∧ u.deferred = s.deferred ∧ u.bytes = s.bytes ∧ u.fld PWR_FEED_STAT_HOLD_OK = 0) ∧
    (s.dipHold = false → s.held 25 = false → ∃ u, exec (.holdOkChange true) s = .next u ∧ u.storeHeld = false ∧ u.deferred = [] ∧ u.fld PWR_FEED_STAT_HOLD_OK = 1 ∧
      u.bytes = (s.each s.deferred fun s e => s.setBytes e.1 e.2).bytes) ∧
    (s.fld PWR_START_STAT_STEP = 0 → exec .powerLossSequence s = .next s) ∧
    (s.fld PWR_START_STAT_STEP ≠ 0 → ∃ u, exec .powerLossSequence s = .next (settle s u) ∧ u.timeRuns = false ∧ u.sup.lost = true ∧ u.mode = s.mode ∧
      u.fld PWR_START_STAT_STEP = 0 ∧ (∀ l : Fin 60, carrier u l = none) ∧ (∀ n : Fin 8, u.fld (SAF_SOUT_STAT_ON n) = 0)) ∧
    (s.sup.lost = false → exec .supplyRestoredStart s = .next s) ∧
    (s.sup.lost = true → feedIn s a = true → 1000 ≤ (s.feedOf a).since → ∃ u, exec .supplyRestoredStart s = .next (settle s u) ∧ u.coldWant = some 4)) ∧
  (∀ s : State, ∃ t, exec .island41PowerLoss s = .next t ∧ t.mtime = 0 ∧ t.timeRuns = false ∧ t.fld PWR_START_STAT_STEP = 0 ∧
    t.fld PWR_START_CNT_WARM_FAIL = 0 ∧ t.fld PWR_START_CNT_COLD_FAIL = 0 ∧ t.words = [] ∧ t.pending = s.pending ∧
    (∀ x, 0x70000000 ≤ x → x < 0x70400000 → t.byte x = s.byte x) ∧ (∀ x, x < 0x70000000 → t.byte x = State.reset.byte x))

/-- R370-R384: the core rail and the power states. -/
def Obligations.RailAndPowerStates : Prop :=
  (∀ (s : State) (p n : Fin 12) (q : Fin 27) (d : Word) (w : BitVec 16) (woken : Bool), s.quiet = true → s.sup.waking = false →
    (s.flag PWR_PS_STAT_ENTERING = false → s.flag PWR_CORE_STAT_PENDING = false → exec .pmbusAcknowledge s = .next s ∧ exec .vidSettled s = .next s ∧
      exec .pmbusAckTimeout s = .next s) ∧
    (s.flag PWR_PS_STAT_ENTERING = false → s.flag PWR_CORE_STAT_PENDING = true → s.sup.raise = none → s.sup.raises = [] →
      max (s.fld PWR_CORE_CFG_VMIN) (min (s.fld PWR_CORE_CFG_VMAX) (highest s none)) = s.fld PWR_CORE_STAT_TARGET → (s.waits.any fun x => x.1 = .divider) = false →
      (s.flag PWR_CORE_STAT_PATH_ACT = false → ∃ u, exec .pmbusAcknowledge s = .next u ∧ u.fld PWR_CORE_STAT_PENDING = 0 ∧
        u.fld PWR_CORE_STAT_RAIL_OK = 1 ∧ u.fld PWR_CORE_STAT_TARGET = s.fld PWR_CORE_STAT_TARGET ∧ u.out = s.out) ∧
      (s.flag PWR_CORE_STAT_PATH_ACT = true → ∃ u, exec .vidSettled s = .next u ∧ u.fld PWR_CORE_STAT_PENDING = 0 ∧
        u.fld PWR_CORE_STAT_RAIL_OK = 1 ∧ u.fld PWR_CORE_STAT_TARGET = s.fld PWR_CORE_STAT_TARGET ∧ u.out = s.out)) ∧
    (s.flag PWR_PS_STAT_ENTERING = false → s.flag PWR_CORE_STAT_PATH_ACT = true → exec .pmbusAcknowledge s = .next s) ∧
    (s.flag PWR_PS_STAT_ENTERING = false → s.flag PWR_CORE_STAT_PATH_ACT = false → exec .vidSettled s = .next s) ∧
    (∀ k : Fin 12, ∀ v : Fin 3, s.flag PWR_PS_STAT_ENTERING = false → s.flag PWR_CORE_STAT_PENDING = true → s.sup.raise = some ⟨false, k.val, v.val⟩ →
      s.sup.raises = [] →
      (s.flag PWR_CORE_STAT_PATH_ACT = false → ∃ u, exec .pmbusAcknowledge s = .next u ∧ bitsOf (u.fld PWR_DIV_PAIR_DIV) (2 * k.val) 2 = v.val ∧
        u.sup.raise = none ∧ u.fld (PWR_ISL_STAT_AVS_REQ k) = requestAt s k v % 2 ^ 8) ∧
      (s.flag PWR_CORE_STAT_PATH_ACT = true → ∃ u, exec .vidSettled s = .next u ∧ bitsOf (u.fld PWR_DIV_PAIR_DIV) (2 * k.val) 2 = v.val ∧
        u.sup.raise = none ∧ u.fld (PWR_ISL_STAT_AVS_REQ k) = requestAt s k v % 2 ^ 8)) ∧
    (s.flag PWR_PS_STAT_ENTERING = false → s.flag PWR_CORE_STAT_PENDING = true → s.flag PWR_CORE_STAT_PATH_ACT = false →
      (∀ k : Fin 17, s.sup.resent = false → s.sup.vexp = -(k.val : Int) → ∃ u v, exec .pmbusAckTimeout s = .next u ∧
        u.out = s.out ++ [.pmbus (s.fld PWR_CORE_CFG_ADDR) (s.flag PWR_CORE_CFG_PEC) 0x21 v] ∧ u.sup.resent = true ∧ u.regs = s.regs ∧
        (650 + 5 * s.fld PWR_CORE_STAT_TARGET) * 2 ^ k.val < 1000 * v + 1000 ∧ 1000 * v < (650 + 5 * s.fld PWR_CORE_STAT_TARGET) * 2 ^ k.val + 1000) ∧
      (s.sup.resent = true → ∃ u, exec .pmbusAckTimeout s = .next u ∧ u.fld PWR_CORE_STAT_NO_ACK = 1 ∧
        u.fld PWR_CORE_CNT_NO_ACK_CNT = satInc 8 (s.fld PWR_CORE_CNT_NO_ACK_CNT) % 2 ^ 8 ∧
        (s.flag PWR_CORE_CFG_VID_EN = true → u.fld PWR_CORE_STAT_PATH_ACT = 1 ∧ u.fld PWR_CORE_STAT_FELL_BACK = 1 ∧ u.fld PWR_CORE_STAT_PENDING = 1 ∧
          u.out = s.out ++ [.vid (vidLevel (s.fld PWR_CORE_STAT_TARGET))]))) ∧
    (∃ u, exec (.pmbusAlert w) s = .next u ∧ u.fld PWR_CORE_STAT_LAST_STATUS = w.toNat ∧
      u.fld PWR_CORE_CNT_ALERT_CNT = satInc 8 (s.fld PWR_CORE_CNT_ALERT_CNT) % 2 ^ 8 ∧ 
      u.out = s.out ++ [.pmbus (s.fld PWR_CORE_CFG_ADDR) (s.flag PWR_CORE_CFG_PEC) 0x79 0,
        .pmbus (s.fld PWR_CORE_CFG_ADDR) (s.flag PWR_CORE_CFG_PEC) 0x03 0]) ∧
    (∀ k : Fin 12, bitsOf d.toNat (2 * k.val) 2 = 3 → exec (.clockDividerWrite (.pair p) false d) s = .next (s.refuse pwrErr .PWR_RANGE)) ∧
    ((∀ k : Fin 12, bitsOf d.toNat (2 * k.val) 2 ≠ 3) → s.sup.sends = false → ∃ u, exec (.clockDividerWrite (.pair p) false d) s = .next u ∧
      u.fld PWR_DIV_PAIR_DIV = d.toNat % 2 ^ 24 ∧ u.fld PWR_DIV_CLU_DIV = s.fld PWR_DIV_CLU_DIV ∧ u.out = s.out) ∧
    ((∀ k : Fin 12, bitsOf d.toNat (2 * k.val) 2 ≤ bitsOf (s.fld PWR_DIV_PAIR_DIV) (2 * k.val) 2 ∧ bitsOf d.toNat (2 * k.val) 2 ≠ 3) →
      s.sup.sends = true → s.flag PWR_CORE_STAT_PENDING = true → ∃ u, exec (.clockDividerWrite (.pair p) false d) s = .next u ∧ u.regs = s.regs ∧
        ∀ k : Fin 12, bitsOf d.toNat (2 * k.val) 2 < bitsOf (s.fld PWR_DIV_PAIR_DIV) (2 * k.val) 2 →
          (⟨false, k.val, bitsOf d.toNat (2 * k.val) 2⟩ : Raise) ∈ u.sup.raises) ∧
    ((∀ k : Fin 12, bitsOf d.toNat (2 * k.val) 2 ≤ bitsOf (s.fld PWR_DIV_PAIR_DIV) (2 * k.val) 2 ∧ bitsOf d.toNat (2 * k.val) 2 ≠ 3 ∧
        (bitsOf d.toNat (2 * k.val) 2 < bitsOf (s.fld PWR_DIV_PAIR_DIV) (2 * k.val) 2 →
          min (s.fld PWR_CORE_CFG_VMAX) (highest s (some ⟨false, k.val, bitsOf d.toNat (2 * k.val) 2⟩)) ≤ s.fld PWR_CORE_STAT_TARGET)) →
      s.sup.sends = true → s.flag PWR_CORE_STAT_PENDING = false → s.sup.raises = [] →
      ∃ u, exec (.clockDividerWrite (.pair p) false d) s = .next u ∧ u.fld PWR_DIV_PAIR_DIV = d.toNat % 2 ^ 24) ∧
    ((∀ k : Fin 12, k ≠ n → bitsOf d.toNat (2 * k.val) 2 = bitsOf (s.fld PWR_DIV_PAIR_DIV) (2 * k.val) 2 ∧ bitsOf d.toNat (2 * k.val) 2 ≠ 3) →
      bitsOf d.toNat (2 * n.val) 2 < bitsOf (s.fld PWR_DIV_PAIR_DIV) (2 * n.val) 2 → bitsOf d.toNat (2 * n.val) 2 ≠ 3 →
      s.sup.sends = true → s.flag PWR_CORE_STAT_PENDING = false → s.sup.raises = [] →
      s.fld PWR_CORE_STAT_TARGET < min (s.fld PWR_CORE_CFG_VMAX) (highest s (some ⟨false, n.val, bitsOf d.toNat (2 * n.val) 2⟩)) →
      ∃ u, exec (.clockDividerWrite (.pair p) false d) s = .next u ∧ u.fld PWR_DIV_PAIR_DIV = s.fld PWR_DIV_PAIR_DIV ∧ u.fld PWR_CORE_STAT_PENDING = 1 ∧
        u.sup.raise = some ⟨false, n.val, bitsOf d.toNat (2 * n.val) 2⟩ ∧ u.fld PWR_CORE_STAT_TARGET = max (s.fld PWR_CORE_CFG_VMIN)
          (min (s.fld PWR_CORE_CFG_VMAX) (highest s (some ⟨false, n.val, bitsOf d.toNat (2 * n.val) 2⟩))) % 2 ^ 8) ∧
    (s.sup.armed = false → exec .railLost s = .next (s.put PWR_CORE_STAT_RAIL_OK 0)) ∧
    (s.sup.armed = true → ∃ u, exec .railLost s = .next (settle s u) ∧ u.fld PWR_CORE_STAT_RAIL_OK = 0 ∧ u.flag SAF_STAT_DEV_LATCH = true) ∧
    (d.toNat % 4 = 0 ∨ s.mode ≠ 1 → exec (.powerStateRequest (.pair p) d woken) s = .next s) ∧
    (d.toNat % 4 ≠ 0 → s.mode = 1 → s.flag PWR_PS_STAT_ENTERING = true ∨ s.sup.drill.isSome = true ∨ s.sup.check.isSome = true ∨
      s.flag PWR_FEED_STAT_DIP = true → exec (.powerStateRequest (.pair p) d woken) s = .next (s.refuse pwrErr .PWR_BUSY)) ∧
    (d.toNat % 4 ≠ 0 → s.mode = 1 → s.flag PWR_PS_STAT_ENTERING = false → s.sup.drill = none → s.sup.check = none →
      s.flag PWR_FEED_STAT_DIP = false →
      (∃ u, exec (.powerStateRequest (.pair p) d false) s = .next u ∧ u.fld PWR_PS_STAT_ENTERING = 1 ∧ u.sup.target = d.toNat % 4 ∧ u.sup.answers = []) ∧
      ∃ u, exec (.powerStateRequest (.pair p) d true) s = .next (settle s u) ∧ u.fld PWR_PS_STAT_ENTERING = 0 ∧ u.fld PWR_PS_STAT_LAST_REFUSER = 31 ∧
        u.fld PWR_PS_STAT_LAST_RESULT = 4 ∧ u.fld (PWR_PS_ACCT_REFUSE_CNT 31) = satInc 16 (s.fld (PWR_PS_ACCT_REFUSE_CNT 31)) % 2 ^ 16) ∧
    (q.val < 12 ∨ s.flag PWR_PS_STAT_ENTERING = false ∨ Tbl.get 0 s.sup.answers q.val = 1 → exec (.participantAnswer q) s = .next s) ∧
    (12 ≤ q.val → s.flag PWR_PS_STAT_ENTERING = true → Tbl.get 0 s.sup.answers q.val ≠ 1 → hwAnswer s q = 2 →
      ∃ u, exec (.participantAnswer q) s = .next (settle s u) ∧ u.fld PWR_PS_STAT_ENTERING = 0 ∧ u.fld PWR_PS_STAT_LAST_REFUSER = q.val ∧
        u.fld PWR_PS_STAT_LAST_RESULT = 2 ∧ u.fld (PWR_PS_ACCT_REFUSE_CNT q) = satInc 16 (s.fld (PWR_PS_ACCT_REFUSE_CNT q)) % 2 ^ 16) ∧
    (∀ c : Fin 27, 12 ≤ q.val → s.flag PWR_PS_STAT_ENTERING = true → Tbl.get 0 s.sup.answers q.val ≠ 1 → hwAnswer s q ≠ 2 → c ≠ q →
      Tbl.get 0 s.sup.answers c.val ≠ 1 → ∃ u, exec (.participantAnswer q) s = .next u ∧ Tbl.get 0 u.sup.answers q.val = hwAnswer s q ∧
        u.regs = (s.putFlag JNL_STAT_DEFERRED u.storeHeld).regs ∧ u.out = s.out) ∧
    (12 ≤ q.val → s.flag PWR_PS_STAT_ENTERING = true → s.flag PWR_CORE_STAT_PENDING = false → hwAnswer s q = 1 →
      Tbl.get 0 s.sup.answers q.val ≠ 1 → (∀ c : Fin 27, c ≠ q → Tbl.get 0 s.sup.answers c.val = 1) →
      ∃ u, exec (.participantAnswer q) s = .next (settle s u) ∧ psState u = s.sup.target % 4 ∧ u.fld PWR_PS_STAT_ENTERING = 0 ∧
        u.fld PWR_PS_STAT_LAST_RESULT = 1) ∧
    (d.toNat % 4 = 3 → bitsOf d.toNat 8 7 = 0 ∨ 100 < bitsOf d.toNat 8 7 → exec (.pairAnswer n d) s = .next (s.refuse pwrErr .PWR_RANGE)) ∧
    (d.toNat % 4 = 2 → s.flag PWR_PS_STAT_ENTERING = true → Tbl.get 0 s.sup.answers n.val ≠ 1 → ∃ u, exec (.pairAnswer n d) s = .next (settle s u) ∧
      u.fld PWR_PS_STAT_ENTERING = 0 ∧ u.fld PWR_PS_STAT_LAST_REFUSER = n.val ∧ u.fld PWR_PS_STAT_LAST_RESULT = 2) ∧
    (∀ c : Fin 27, d.toNat % 4 = 1 → s.flag PWR_PS_STAT_ENTERING = true → Tbl.get 0 s.sup.answers n.val ≠ 1 → c.val ≠ n.val →
      Tbl.get 0 s.sup.answers c.val ≠ 1 → ∃ u, exec (.pairAnswer n d) s = .next u ∧ Tbl.get 0 u.sup.answers n.val = 1 ∧
        u.regs = (s.putFlag JNL_STAT_DEFERRED u.storeHeld).regs) ∧
    (s.flag PWR_PS_STAT_ENTERING = true → Tbl.get 0 s.sup.answers n.val = 0 → ∃ u, exec (.pairAnswerTimeout n) s = .next u ∧
      Tbl.get 0 u.sup.answers n.val = 3 ∧ u.regs = (s.putFlag JNL_STAT_DEFERRED u.storeHeld).regs) ∧
    (Tbl.get 0 s.sup.answers n.val ≠ 0 → exec (.pairAnswerTimeout n) s = .next s) ∧
    (s.flag PWR_PS_STAT_ENTERING = false ∨ Tbl.get 0 s.sup.answers q.val ≠ 3 → exec (.delayTimeout q) s = .next s) ∧
    (s.flag PWR_PS_STAT_ENTERING = true → Tbl.get 0 s.sup.answers q.val = 3 → ∃ u, exec (.delayTimeout q) s = .next u ∧
      u.fld PWR_PS_STAT_ENTERING = 0 ∧ u.fld PWR_PS_STAT_LAST_REFUSER = q.val ∧ u.fld PWR_PS_STAT_LAST_RESULT = 3 ∧
      u.fld (PWR_PS_ACCT_ABORT_CNT q) = satInc 16 (s.fld (PWR_PS_ACCT_ABORT_CNT q)) % 2 ^ 16)) ∧
  (∀ (s : State) (k : Fin 4) (m : Fin 8) (rise : Bool) (b : Fin 16),
    ((s.fld PWR_WAKE_CFG_PIN_EN).testBit k = true →
      bitsOf (s.fld PWR_WAKE_CFG_PIN_EDGE) (2 * k.val) 2 = (if rise then 0 else 1) ∨ bitsOf (s.fld PWR_WAKE_CFG_PIN_EDGE) (2 * k.val) 2 = 2 →
      exec (.wakePinEdge k rise) s = .next (settle s (wake s k))) ∧
    ((s.fld PWR_WAKE_CFG_PIN_EN).testBit k = false ∨ bitsOf (s.fld PWR_WAKE_CFG_PIN_EDGE) (2 * k.val) 2 = (if rise then 1 else 0) →
      exec (.wakePinEdge k rise) s = .next (settle s s)) ∧
    ((s.fld PWR_WAKE_CFG_CAN_EN).testBit m = true → s.fld (CAN_CTRL_MODE m) ≠ 0 → exec (.canActivityWake m) s = .next (settle s (wake s (4 + m)))) ∧
    ((s.fld PWR_WAKE_CFG_CAN_EN).testBit m = false ∨ s.fld (CAN_CTRL_MODE m) = 0 → exec (.canActivityWake m) s = .next (settle s s)) ∧
    (s.flag PWR_WAKE_CFG_TMR = true → psState s ≠ 0 → exec .wakeTimerExpiry s = .next (settle s (wake s 14))) ∧
    (s.flag PWR_WAKE_CFG_TMR = false ∨ psState s = 0 → exec .wakeTimerExpiry s = .next (settle s s)) ∧
    (s.sup.waking = false → psState s = 0 → s.flag PWR_PS_STAT_ENTERING = true → (wake s b).fld PWR_PS_STAT_ENTERING = 0 ∧
      (wake s b).fld PWR_PS_STAT_LAST_REFUSER = 31 ∧ (wake s b).fld PWR_PS_STAT_LAST_RESULT = 5) ∧
    (s.sup.waking = false → psState s = 0 → s.flag PWR_PS_STAT_ENTERING = false → wake s b = s) ∧
    (psState s ≠ 0 → ((wake s b).fld PWR_WAKE_STAT_SRC).testBit b = true) ∧
    (s.sup.waking = true → (wake s b).fld PWR_WAKE_STAT_FIRST = s.fld PWR_WAKE_STAT_FIRST ∧ (wake s b).out = s.out) ∧
    (s.sup.waking = false → psState s ≠ 0 → (wake s b).fld PWR_WAKE_STAT_FIRST = b ∧
      (wake s b).fld PWR_WAKE_T = s.mtime % 2 ^ 32 ∧ (psState s = 1 → psState (wake s b) = 0) ∧
      (psState s = 2 → psState (wake s b) = 2 ∧ (wake s b).sup.waking = true ∧ (s.flag PWR_CORE_STAT_PATH_ACT = false →
        (wake s b).out = s.out ++ [.pmbus (s.fld PWR_CORE_CFG_ADDR) (s.flag PWR_CORE_CFG_PEC) 0x01 0x80])) ∧
      (psState s = 3 → (wake s b).coldWant = some 5))) ∧
  (∀ s : State, s.sup.waking = true → s.flag PWR_CORE_STAT_PATH_ACT = false → s.flag PWR_PS_STAT_ENTERING = false →
    (∃ t, exec .railWakeTimeout s = .next t ∧ t = s.put PWR_CORE_STAT_NO_RAIL 1) ∧
    (s.flag PWR_CORE_STAT_NO_RAIL = true → ∃ t, exec .railRetry s = .next t ∧
      t.out = s.out ++ [.pmbus (s.fld PWR_CORE_CFG_ADDR) (s.flag PWR_CORE_CFG_PEC) 0x01 0x80] ∧ t.sup.waking = true) ∧
    (s.sup.failed &&& safetyBanks s ≠ 0 → ∃ u, exec .pmbusAcknowledge s = .next (settle s u) ∧ u.coldWant = some 6) ∧
    (s.sup.failed &&& safetyBanks s = 0 → ∃ u el, exec .pmbusAcknowledge s = .next (settle s u) ∧ psState u = 0 ∧ u.timeRuns = true ∧
      u.sup.waking = false ∧ u.mtime = (s.mtime + el * 400) % 2 ^ 64 ∧ s.sup.asleep / 400 * 98 / 100 ≤ el ∧ el ≤ s.sup.asleep / 400 * 102 / 100 ∧
      u.fld PWR_CORE_STAT_NO_RAIL = 0 ∧ u.fld PWR_CORE_STAT_RAIL_OK = 1 ∧ ∀ b : Fin 36, s.sup.failed.testBit b = true → (lostBanks u).testBit b = true)) ∧
  (∀ (s : State) (b : Fin 36) (k : Fin 66) (p : Fin 12) (high : Bool) (d : Word),
    (s.sup.waking = false → exec .railWakeTimeout s = .next s ∧ exec .railRetry s = .next s) ∧
    (psState s ≠ 2 → exec (.retentionRailDrop b) s = .next s) ∧
    (psState s = 2 → exec (.retentionRailDrop b) s = .next { s with sup := { s.sup with failed := setBit s.sup.failed b } }) ∧
    (s.quiet = true → ∃ u, exec (.retentionBankClear (.pair p) high d) s = .next u ∧ u.regs = s.regs ∧ u.bytes = s.bytes ∧ u.words = s.words ∧
      u.sup.zeroing = s.sup.zeroing ||| ((if high then d.toNat % 16 * 2 ^ 32 else d.toNat) &&& lostBanks s)) ∧
    (s.sup.zeroing.testBit b = false → exec (.bankZeroed b) s = .next s) ∧
    (s.sup.zeroing.testBit b = true → ∃ u, exec (.bankZeroed b) s = .next u ∧ (lostBanks u).testBit b = false ∧ u.sup.zeroing.testBit b = false ∧
      (∀ f : Fld, bankOf (f.key / 32) = some b.val → f.key ≠ CHG_PILOT_STATE.key → u.fld f = 0) ∧
      (∀ x, bankOf x = some b.val → u.word x = 0) ∧ (∀ x, bankOf x ≠ some b.val → u.word x = s.word x ∧ u.byte x = s.byte x)) ∧
    exec (.domainPowerUp k) s = .next { s with sup := { s.sup with parked := clearBit s.sup.parked k } })

/-- R390-R396: thermal zones. -/
def Obligations.ThermalZones : Prop :=
  ∀ (s : State) (td : BitVec 192) (z : Fin 16) (p : Fin 12) (d : Word), s.quiet = true →
    (∃ u, exec (.thermalEvaluation td) s = .next u ∧
      (∀ (k : Fin 16) (t : Int), (s.sensOf k).last = some t → 200 < (signedOf 12 (bitsOf td.toNat (12 * k.val) 12) - t).natAbs ∨
        signedOf 12 (bitsOf td.toNat (12 * k.val) 12) < -440 ∨ 1600 < signedOf 12 (bitsOf td.toNat (12 * k.val) 12) →
        u.fld (THM_SENS_BROKEN k) = 1 ∧ u.fld (THM_SENS_VALID k) = 0) ∧
      (∀ (k : Fin 16) (t : Int), (s.sensOf k).last = some t → (signedOf 12 (bitsOf td.toNat (12 * k.val) 12) - t).natAbs ≤ 200 →
        -440 ≤ signedOf 12 (bitsOf td.toNat (12 * k.val) 12) → signedOf 12 (bitsOf td.toNat (12 * k.val) 12) ≤ 1600 →
        u.fld (THM_SENS_TEMP k) = bitsOf td.toNat (12 * k.val) 12 ∧ (s.flag (THM_SENS_BROKEN k) = false ∨ 15 ≤ (s.sensOf k).good →
          u.fld (THM_SENS_VALID k) = 1) ∧
        (s.flag (THM_SENS_BROKEN k) = true → (s.sensOf k).good < 15 → u.fld (THM_SENS_VALID k) = 0)) ∧
      (s.flag (THM_Z_CFG_EN z) = true → zoneMembers u z = [] → s.thm.window = false →
        u.fld (THM_Z_STAT_LOST z) = 1 ∧ u.fld (THM_Z_STAT_CONE z) = 3) ∧
      (s.flag (THM_Z_CFG_EN z) = true → zoneMembers u z = [] → s.thm.window = true →
        u.fld (THM_Z_STAT_PENDING z) = 1 ∧ u.fld (THM_Z_STAT_LOST z) = s.fld (THM_Z_STAT_LOST z) ∧ u.fld (THM_Z_STAT_CONE z) = s.fld (THM_Z_STAT_CONE z)) ∧
      (s.flag (THM_Z_CFG_EN z) = true → zoneMembers u z ≠ [] → u.fld (THM_Z_STAT_LOST z) = 0 ∧ u.fld (THM_Z_STAT_PENDING z) = 0 ∧
        (∀ k ∈ zoneMembers u z, signedOf 12 (u.fld (THM_SENS_TEMP k)) ≤ zoneTemp u z) ∧
        (∃ k ∈ zoneMembers u z, signedOf 12 (u.fld (THM_SENS_TEMP k)) = zoneTemp u z) ∧
        u.fld (THM_Z_STAT_CONE z) = coneOf s z (zoneTemp u z)) ∧
      (s.flag (THM_Z_CFG_EN z) = true → s.fld (THM_Z_STAT_CONE z) ≠ 3 → u.fld (THM_Z_STAT_CONE z) = 3 → u.fld (THM_Z_STAT_DERATE z) = 0 ∧
        u.fld (THM_Z_STAT_ENFORCED z) = 1) ∧
      ∀ t : Fin 5, u.fld (THM_DERATE t) = targetFactor u t) ∧
    (∃ u, exec .zonePendingEnd s = .next u ∧ u.thm.window = false ∧ u.fld (THM_Z_STAT_PENDING z) = 0 ∧
      (s.flag (THM_Z_STAT_PENDING z) = true → s.flag (THM_Z_CFG_EN z) = true → u.fld (THM_Z_STAT_LOST z) = 1 ∧ u.fld (THM_Z_STAT_CONE z) = 3) ∧
      (s.flag (THM_Z_STAT_PENDING z) = false → u.fld (THM_Z_STAT_LOST z) = s.fld (THM_Z_STAT_LOST z) ∧ u.fld (THM_Z_STAT_CONE z) = s.fld (THM_Z_STAT_CONE z)) ∧
      ∀ t : Fin 5, u.fld (THM_DERATE t) = targetFactor u t) ∧
    ((s.zoneOf z).grace = false → exec (.graceEnd z) s = .next s) ∧
    ((s.zoneOf z).grace = true → s.flag (THM_Z_STAT_ACKED z) = true → zoneTemp s z ≤ (s.zoneOf z).treq →
      ∃ u, exec (.graceEnd z) s = .next u ∧ u.regs = s.regs ∧ (u.zoneOf z).grace = false ∧ (u.zoneOf z).prev = zoneTemp s z) ∧
    ((s.zoneOf z).grace = true → s.flag (THM_Z_STAT_ACKED z) = false ∨ (s.zoneOf z).treq < zoneTemp s z →
      ∃ u, exec (.graceEnd z) s = .next u ∧ u.fld (THM_Z_STAT_ENFORCED z) = 1 ∧ (u.zoneOf z).grace = false ∧ (u.zoneOf z).prev = zoneTemp s z ∧
        u.fld (THM_Z_STAT_DERATE z) = min (s.fld (THM_Z_STAT_DERATE z)) (max (s.fld (THM_Z_CFG_DMIN z)) (s.fld (THM_Z_STAT_DERATE z) - s.fld THM_CFG_DSTEP)) ∧
        ∀ t : Fin 5, u.fld (THM_DERATE t) = targetFactor u t) ∧
    (s.flag (THM_Z_STAT_ENFORCED z) = false → exec (.derateStep z) s = .next s) ∧
    (s.flag (THM_Z_STAT_ENFORCED z) = true → ∃ u, exec (.derateStep z) s = .next u ∧ (u.zoneOf z).prev = zoneTemp s z ∧
      u.fld (THM_Z_STAT_CONE z) = s.fld (THM_Z_STAT_CONE z) ∧
      (s.fld (THM_Z_STAT_CONE z) = 3 → u.regs = s.regs) ∧
      (s.fld (THM_Z_STAT_CONE z) = 2 → zoneTemp s z < (s.zoneOf z).prev → u.fld (THM_Z_STAT_DERATE z) = s.fld (THM_Z_STAT_DERATE z)) ∧
      (s.fld (THM_Z_STAT_CONE z) = 2 → (s.zoneOf z).prev ≤ zoneTemp s z → u.fld (THM_Z_STAT_DERATE z) =
        min (s.fld (THM_Z_STAT_DERATE z)) (max (s.fld (THM_Z_CFG_DMIN z)) (s.fld (THM_Z_STAT_DERATE z) - s.fld THM_CFG_DSTEP))) ∧
      (s.fld (THM_Z_STAT_CONE z) < 2 → u.fld (THM_Z_STAT_DERATE z) = min 256 (s.fld (THM_Z_STAT_DERATE z) + s.fld THM_CFG_DSTEP) ∧
        (256 ≤ s.fld (THM_Z_STAT_DERATE z) + s.fld THM_CFG_DSTEP → u.fld (THM_Z_STAT_ENFORCED z) = 0))) ∧
    (∃ u, exec (.thmAckWrite (.pair p) d) s = .next u ∧ u.out = s.out ∧ u.thm = s.thm ∧
      (d.toNat.testBit z = true → (s.zoneOf z).grace = true → u.fld (THM_Z_STAT_ACKED z) = 1) ∧
      (d.toNat.testBit z = false ∨ (s.zoneOf z).grace = false → u.fld (THM_Z_STAT_ACKED z) = s.fld (THM_Z_STAT_ACKED z)))

/-- R402-R431: the host rings. -/
def Obligations.HostRings : Prop :=
  ∀ (s : State) (r : Fin 32) (p : Fin 12) (k : Fin 34) (n : Fin 256) (v : BitVec 16) (d : BitVec 256) (x : Word) (why : Byte) (sp wd : Fin 4), s.quiet = true →
    (s.perst = true ∨ s.hostBlind = true → exec (.sqTailDoorbell r v) s = .next s ∧ exec (.cqHeadDoorbell r v) s = .next s ∧ exec (.tlmHeadDoorbell v) s = .next s ∧
      exec (.evtHeadDoorbell v) s = .next s) ∧
    (s.perst = true → exec (.ringResetWrite (.pair p) r) s = .next s ∧ exec (.hostStartCold (.pair p)) s = .next s ∧
      exec (.descriptorFetch r d) s = .next s ∧ exec (.telemetryRead n true) s = .next s) ∧
    (s.perst = false → s.hostBlind = false →
      (2 ^ s.fld (HOST_R_CTRL_SQ_SIZE r) ≤ v.toNat → exec (.sqTailDoorbell r v) s = .next (s.refuse hostErr .HOST_RANGE)) ∧
      (v.toNat < 2 ^ s.fld (HOST_R_CTRL_SQ_SIZE r) → ∃ u, exec (.sqTailDoorbell r v) s = .next u ∧ (u.hqOf r).tail = v.toNat ∧
        (u.hqOf r).cmds = (s.hqOf r).cmds ∧ u.out = s.out) ∧
      (hringSize s r ≤ v.toNat → exec (.cqHeadDoorbell r v) s = .next (s.refuse hostErr .HOST_RANGE)) ∧
      (hringSize s 32 ≤ v.toNat → exec (.tlmHeadDoorbell v) s = .next (s.refuse hostErr .HOST_RANGE)) ∧
      (hringSize s 33 ≤ v.toNat → exec (.evtHeadDoorbell v) s = .next (s.refuse hostErr .HOST_RANGE)) ∧
      (v.toNat < hringSize s r → ∃ u, exec (.cqHeadDoorbell r v) s = .next u ∧ (u.hringOf r).head = v.toNat ∧ u.hq = s.hq ∧
        ((s.hringOf r).held = [] → u.out = s.out)) ∧
      (v.toNat < hringSize s 32 → ∃ u, exec (.tlmHeadDoorbell v) s = .next u ∧ (u.hringOf 32).head = v.toNat ∧ u.hq = s.hq ∧
        ((s.hringOf 32).held = [] → u.out = s.out)) ∧
      (v.toNat < hringSize s 33 → ∃ u, exec (.evtHeadDoorbell v) s = .next u ∧ (u.hringOf 33).head = v.toNat ∧ u.hq = s.hq ∧
        ((s.hringOf 33).held = [] → u.out = s.out))) ∧
    (hostRuns s = true → s.hostReach = true → s.flag (HOST_R_CTRL_EN r) = true → s.flag (HOST_R_STAT_DMA_ERR r) = false → (waiting (s.hqOf r)).length < 17 →
      s.flag (HOST_R_CTRL_SEQ_ANY r) = false →
      (s.fld (HOST_R_SQH_HEAD r) = (s.hqOf r).tail → exec (.descriptorFetch r d) s = .next s) ∧
      (s.fld (HOST_R_SQH_HEAD r) ≠ (s.hqOf r).tail → descPart d 2 4 ≠ s.fld (HOST_R_NEXTSEQ_SEQ r) → ∃ u, exec (.descriptorFetch r d) s = .next u ∧
        u.fld (HOST_R_NEXTSEQ_SEQ r) = s.fld (HOST_R_NEXTSEQ_SEQ r) ∧ u.hq = s.hq ∧
        u.fld (HOST_R_SQH_HEAD r) = (s.fld (HOST_R_SQH_HEAD r) + 1) % 2 ^ s.fld (HOST_R_CTRL_SQ_SIZE r) ∧
        u.fld (HOST_R_CNT_SEQ_ERR r) = satInc 16 (s.fld (HOST_R_CNT_SEQ_ERR r)) % 2 ^ 16 ∧
        (hringOpen s r = true → (s.hringOf r).held = [] → .hostWrite (hringBase s r + 16 * s.fld (HOST_R_CQT_TAIL r)) (stampRec r (hringPhase s r)
          (s.hringOf r).loss (completionRec (descPart d 2 4) .SEQ_ERROR (descPart d 0 1) 0xFFFFFFFF none)) ∈ u.out)) ∧
      (s.fld (HOST_R_SQH_HEAD r) ≠ (s.hqOf r).tail → descPart d 2 4 = s.fld (HOST_R_NEXTSEQ_SEQ r) → s.storeHeld = false → opStream (descPart d 0 1) = false →
        ∃ u c, exec (.descriptorFetch r d) s = .next u ∧ (u.hqOf r).cmds = (s.hqOf r).cmds ++ [c] ∧ c.stage = .fetched ∧ c.seq = descPart d 2 4 ∧
          c.op = descPart d 0 1 ∧ c.args = leBytes 16 (descPart d 16 16) ∧ c.fail = descCheck s r c ∧ u.out = s.out ∧
          u.fld (HOST_R_NEXTSEQ_SEQ r) = (descPart d 2 4 + 1) % 2 ^ 32 ∧ (opClasses c.op = [] → c.fail = .OPCODE_UNKNOWN) ∧
          (opClasses c.op ≠ [] → (opClasses c.op).contains (s.fld (HOST_R_CTRL_CLASS r)) = false → c.fail = .RING_CLASS))) ∧
    (s.storeHeld = true ∨ fetchedCmd (s.hqOf r) = none → exec (.acceptanceCommitted r) s = .next s) ∧
    (∀ c, s.storeHeld = false → fetchedCmd (s.hqOf r) = some c → opStream c.op = false → ∃ u, exec (.acceptanceCommitted r) s = .next u ∧
      u.fld JNL_HEAD_INDEX = (nextIndex s).1 ∧ u.fld JNL_STAT_EMPTY = 0 ∧ u.fld (HOST_R_CTRL_SEQ_ANY r) = 0 ∧ u.out = s.out ∧
      recPart u (nextIndex s).1 0 4 = (nextIndex s).1 ∧ recPart u (nextIndex s).1 4 4 = c.seq % 2 ^ 32 ∧ recPart u (nextIndex s).1 8 1 = c.op % 256 ∧
      recPart u (nextIndex s).1 10 2 = 0xFFFF ∧
      (c.fail = .OK → ∃ y ∈ (u.hqOf r).cmds, y.seq = c.seq ∧ y.stage = .accepted ∧ y.index = (nextIndex s).1 ∧ y.accept = s.mtime) ∧
      (c.fail ≠ .OK → s.ready = true ∨ s.exhausted = true → u.ended r c.seq s.mtime c.fail none)) ∧
    (∀ c i, s.storeHeld = false → fetchedCmd (s.hqOf r) = some c → opStream c.op = true → c.fail = .OK → streamOf s r c.op (argNum c.args 0 1) = some i →
      ∃ u, exec (.acceptanceCommitted r) s = .next u ∧ u.fld JNL_HEAD_INDEX = s.fld JNL_HEAD_INDEX ∧ recPart u i 4 4 = c.seq % 2 ^ 32 ∧
        (recPart u i 9 1).testBit 5 = true ∧ u.fld JNL_CNT_COALESCED = satInc 16 (s.fld JNL_CNT_COALESCED) % 2 ^ 16 ∧ u.out = s.out) ∧
    (waiting (s.hqOf r) = [] → exec (.commandStart r) s = .next s ∧ exec (.notAfterExpiry r) s = .next s) ∧
    (∀ c, (waiting (s.hqOf r)).head? = some c → hostRuns s = false ∨ c.stage = .fetched ∨ (c.flags.testBit 0 = true ∧ (s.mtime : Int) < c.nb) ∨
      (c.flags.testBit 1 = true ∧ c.na ≤ (s.mtime : Int)) ∨ 16 ≤ openCount (s.hqOf r) ∨ hringFull s r = true → exec (.commandStart r) s = .next s) ∧
    (∀ c, (waiting (s.hqOf r)).head? = some c → mayStart s r (s.hqOf r) c = true → ∃ u, exec (.commandStart r) s = .next u ∧ u.out = s.out ∧
      { c with stage := .started } ∈ (u.hqOf r).cmds ∧ u.results = s.results) ∧
    (∃ u, exec (.notBeforeReached r) s = .next u ∧ u.hqOf r = s.hqOf r ∧ u.out = s.out ∧
      u.fld (HOST_R_STAT_WAITING r) = bit ((waiting (s.hqOf r)).head?.any fun c => cmdWaits s (s.hqOf r) c)) ∧
    (∀ c, waiting (s.hqOf r) = [c] → c.flags.testBit 1 = true → c.na ≤ (s.mtime : Int) → ∃ u, exec (.notAfterExpiry r) s = .next u ∧
      u.fld (HOST_R_CNT_EXPIRED r) = satInc 16 (s.fld (HOST_R_CNT_EXPIRED r)) % 2 ^ 16 ∧ (c.stage = .accepted → s.ready = true ∨ s.exhausted = true → u.ended r c.seq s.mtime .EXPIRED none) ∧
      (c.stage = .fetched → u.results = s.results ∧ ∃ y ∈ (u.hqOf r).cmds, y.seq = c.seq ∧ y.fail = .EXPIRED)) ∧
    (∀ c, waiting (s.hqOf r) = [c] → c.flags.testBit 1 = false ∨ (s.mtime : Int) < c.na → exec (.notAfterExpiry r) s = .next s) ∧
    (s.results = [] ∨ s.storeHeld = true → exec .commandCompletion s = .next s) ∧
    (∀ y ys, s.results = y :: ys → s.storeHeld = false → (cmdOf s y.ref = none → exec .commandCompletion s = .next { s with results := ys }) ∧
      ∀ c, cmdOf s y.ref = some c → y.ref.ring = r.val → ∃ u, exec .commandCompletion s = .next u ∧ u.results = ys ∧
        (∀ z ∈ (u.hqOf r).cmds, z.seq ≠ y.ref.seq) ∧ (recPart s c.index 10 2 = 0xFFFF → recPart u c.index 10 2 = y.status.code) ∧
        (c.quiet = true → u.out = s.out) ∧ (c.quiet = false → hringOpen s r = false → u.out = s.out ∧ (u.hringOf r).held =
          (s.hringOf r).held ++ [completionRec c.seq y.status c.op c.index y.result]) ∧
        (c.quiet = false → hringOpen s r = true → (s.hringOf r).held = [] → .hostWrite (hringBase s r + 16 * s.fld (HOST_R_CQT_TAIL r))
          (stampRec r (hringPhase s r) (s.hringOf r).loss (completionRec c.seq y.status c.op c.index y.result)) ∈ u.out)) ∧
    ((s.hringOf k).irqPend = false → exec (.irqGapExpiry k) s = .next s) ∧
    ((s.hringOf k).irqPend = true → 32 ≤ k.val ∨ s.flag (HOST_R_CTRL_IRQ_EN k) = true → (∀ t, (s.hringOf k).lastIrq = some t → t + hringGap s k ≤ s.mtime) →
      ∃ u, exec (.irqGapExpiry k) s = .next u ∧ u.out = s.out ++ [.msix (hringVector s k)] ∧ (u.hringOf k).irqPend = false ∧
        (u.hringOf k).lastIrq = some s.mtime ∧ u.regs = s.regs) ∧
    (∃ u, exec (.dmaError k why) s = .next u ∧ (k.val < 32 → u.fld (HOST_R_STAT_DMA_ERR k) = 1) ∧ (32 ≤ k.val → u.fld (HOST_T_CTRL_EN (k.val - 32)) = 0) ∧
      u.hq = s.hq ∧ (k.val ≠ 33 → hringOpen s 33 = true → (s.hringOf 33).held = [] →
        ∃ b, .hostWrite (hringBase s 33 + 64 * s.fld (HOST_T_TAIL 1)) b ∈ u.out ∧ b[0]? = some 6 ∧ b[16]? = some (BitVec.ofNat 8 k) ∧ b[17]? = some why)) ∧
    exec .busMasterDisable s = .next { s with busMaster := false } ∧ exec .perstRelease s = .next { s with perst := false } ∧
    (∃ u, exec .busMasterEnable s = .next u ∧ u.busMaster = true ∧ u.hq = s.hq ∧ u.results = s.results ∧ ((∀ j : Fin 34, (s.hringOf j).held = []) →
      u.out = s.out ∧ u.regs = s.regs)) ∧
    (∃ u, exec (.pcieLinkUp sp wd) s = .next u ∧ u.fld HOST_STAT_LINK_UP = 1 ∧ u.fld HOST_STAT_SPEED = sp.val ∧ u.fld HOST_STAT_WIDTH = wd.val ∧
      u.hq = s.hq ∧ ((∀ j : Fin 34, (s.hringOf j).held = []) → u.out = s.out)) ∧
    (∀ b bs, (s.hringOf r).held = b :: bs → hringEn s r = true → hringFull s r = false → s.flag HOST_STAT_LINK_UP = true →
      (∀ j : Fin 34, j.val ≠ r.val → (s.hringOf j).held = []) → ∃ u, exec .busMasterEnable s = .next u ∧
        .hostWrite (hringBase s r + 16 * s.fld (HOST_R_CQT_TAIL r)) (stampRec r (hringPhase s r) (s.hringOf r).loss b) ∈ u.out) ∧
    (s.perst = false → ∃ u, exec (.ringResetWrite (.pair p) r) s = .next u ∧ u.fld (HOST_R_CTRL_EN r) = 0 ∧ u.fld (HOST_R_SQH_HEAD r) = 0 ∧
      u.fld (HOST_R_CQT_TAIL r) = 0 ∧ u.fld (HOST_R_CQT_PHASE r) = 1 ∧ (u.hqOf r).tail = 0 ∧ u.hringOf r = {} ∧ u.out = s.out ∧
      (∀ c ∈ (u.hqOf r).cmds, c.quiet = true) ∧ (fetchedCmd (s.hqOf r) = none → u.fld (HOST_R_NEXTSEQ_SEQ r) = s.fld (HOST_R_NEXTSEQ_SEQ r)) ∧
      (∀ c, fetchedCmd (s.hqOf r) = some c → u.fld (HOST_R_NEXTSEQ_SEQ r) = c.seq % 2 ^ 32) ∧
      (s.ready = true ∨ s.exhausted = true → ∀ c ∈ (s.hqOf r).cmds, c.stage = .accepted → c.fail = .OK → ∃ y ∈ u.results, y.ref = ⟨r, c.seq⟩ ∧ y.status = .RING_RESET ∧ y.at_ = s.mtime)) ∧
    (s.perst = false → s.starting = false ∨ 3 < s.fld PWR_START_STAT_STEP →
      (∃ u, exec (.hostStartCold (.pair p)) s = .next (settle s u) ∧ u.coldWant = some 2 ∧ u.fld HOST_STAT_START_RES = 1) ∧
      (s.exhausted = true → ∃ u, exec (.hostStartWarm (.pair p)) s = .next (settle s u) ∧ u.coldWant = some 3 ∧ u.fld HOST_STAT_START_RES = 1) ∧
      (s.exhausted = false → s.starting = false → ∃ u, exec (.hostStartWarm (.pair p)) s = .next (settle s u) ∧ u.warmWant = some 3 ∧
        u.coldWant = none ∧ u.fld HOST_STAT_START_RES = 1) ∧
      (s.exhausted = false → s.starting = true → exec (.hostStartWarm (.pair p)) s = .next (s.put HOST_STAT_START_RES 2))) ∧
    (s.fld (HOST_TLM_CFG_EN n) = 0 → exec (.telemetryRead n false) s = .next s ∧ exec (.telemetryRead n true) s = .next s) ∧
    (s.perst = false → s.fld (HOST_TLM_CFG_EN n) = 1 → s.fld (HOST_TLM_CFG_KIND n) = 1 →
      exec (.telemetryRead n true) s = .next (s.inc (HOST_T_DROP_TORN 0))) ∧
    (s.perst = false → s.fld (HOST_TLM_CFG_EN n) = 1 → s.fld (HOST_TLM_CFG_KIND n) = 0 → (mirrorFresh s (s.fld (HOST_TLM_ADDR n))).isSome = true →
      ((Tbl.get {} s.tlm n).last = none ∨ (∃ t, (Tbl.get {} s.tlm n).last = some t ∧ t < mirrorTime s (s.fld (HOST_TLM_ADDR n))) →
        hringOpen s 32 = true → ∃ u b, exec (.telemetryRead n false) s = .next u ∧ .hostWrite (hringBase s 32 + 16 * s.fld (HOST_T_TAIL 0)) b ∈ u.out ∧
          b.take 2 = [BitVec.ofNat 8 n, 0] ∧ b.length = 16 ∧ (b.drop 4).take 5 = leBytes 5 (codeOf 40 (s.word (s.fld (HOST_TLM_ADDR n))).toInt)) ∧
      ((Tbl.get {} s.tlm n).last = some (mirrorTime s (s.fld (HOST_TLM_ADDR n))) → s.fld (HOST_TLM_FRESH n) = 0 →
        exec (.telemetryRead n false) s = .next s)) ∧
    (∃ u, exec (.jnlWindowSelect (.pair p) x) s = .next u ∧ u.fld JNL_WIN_IDX_INDEX = x.toNat ∧ u.out = s.out ∧ u.bytes = s.bytes ∧
      (s.flag JNL_STAT_EMPTY = false → s.fld JNL_OLDEST_INDEX ≤ x.toNat → x.toNat ≤ s.fld JNL_HEAD_INDEX → u.fld JNL_WIN_STAT_VALID = 1 ∧
        u.fld JNL_WIN_STAT_GONE = 0 ∧ u.fld JNL_WIN_STAT_FUTURE = 0 ∧ ∀ j : Fin 8, u.fld (JNL_WIN_BYTES j) = recPart s x.toNat (4 * j.val) 4) ∧
      (s.flag JNL_STAT_EMPTY = false → x.toNat < s.fld JNL_OLDEST_INDEX → u.fld JNL_WIN_STAT_VALID = 0 ∧ u.fld JNL_WIN_STAT_GONE = 1) ∧
      (s.flag JNL_STAT_EMPTY = true ∨ s.fld JNL_HEAD_INDEX < x.toNat → u.fld JNL_WIN_STAT_VALID = 0 ∧ u.fld JNL_WIN_STAT_FUTURE = 1))

/-- R49-R55, R411-R416, R485, R495, R507: the opcodes of control. Statuses the spec leaves to the model: log 10. -/
def Obligations.HostOpcodesOfControl : Prop :=
  ∀ (s : State) (r : Fin 32) (q : Word) (a : List Byte) (dat bk : Option (List Byte)) (idle : Bool), s.quiet = true →
    (∀ e ∈ ([(.nop r q, 0x00), (.abort r q, 0x01), (.setMode r q, 0x02), (.start r q, 0x03), (.setPower r q, 0x04), (.feedDrill r q, 0x05),
        (.throttleAck r q, 0x06), (.jnlMark r q, 0x07), (.regWrite r q, 0x08), (.regRead r q, 0x09), (.wordWrite r q, 0x0A), (.torqueSp r q, 0x10),
        (.speedSp r q, 0x11), (.torqueLim r q, 0x12), (.actSpeedSp r q, 0x13), (.voutSp r q, 0x14), (.chargeSp r q, 0x15), (.exportSp r q, 0x16),
        (.accessorySp r q, 0x17), (.groupRun r q, 0x20), (.tripClear r q, 0x21), (.engineCmd r q, 0x22), (.satClear r q, 0x23), (.chopClear r q, 0x24),
        (.actCmd r q, 0x25), (.cnvCmd r q, 0x26), (.fjopFrame r q dat, 0x30), (.canSend r q dat idle, 0x31), (.fabSend r q dat, 0x32),
        (.telemCfg r q, 0x38), (.jnlRead r q, 0x39), (.imageWrite r q dat bk, 0x3A), (.imageActivate r q, 0x3B), (.satSelftest r q, 0x40)] :
        List (Instr × Nat)), startedCmd s r q.toNat e.2 = none ∨ s.runs = false → exec e.1 s = .next s) ∧
    (s.hostReach = false → exec (.fjopFrame r q dat) s = .next s ∧ exec (.canSend r q dat idle) s = .next s ∧ exec (.fabSend r q dat) s = .next s ∧
      exec (.jnlRead r q) s = .next s ∧ exec (.imageWrite r q dat bk) s = .next s) ∧
    (s.hostCmd r q.toNat 0x00 a → ∃ u, exec (.nop r q) s = .next u ∧ u.ended r q.toNat s.mtime .OK none ∧ u.out = s.out ∧ u.waits = s.waits) ∧
    (s.hostCmd r q.toNat 0x07 a → ∃ u, exec (.jnlMark r q) s = .next u ∧ u.ended r q.toNat s.mtime .OK none ∧ u.out = s.out ∧ u.waits = s.waits) ∧
    (s.hostCmd r q.toNat 0x01 a → (s.hqOf (argNum a 0 1)).recent.find? (fun x => x.1 = argNum a 4 4) = none →
      ∃ u, exec (.abort r q) s = .next u ∧ u.ended r q.toNat s.mtime .ABORT_NO_TARGET none ∧ u.waits = s.waits) ∧
    (∀ x t, s.hostCmd r q.toNat 0x01 a → (s.hqOf (argNum a 0 1)).recent.find? (fun x => x.1 = argNum a 4 4) = some x → x.2 ≠ 1 →
      argNum a 0 1 ≠ r.val ∨ argNum a 4 4 ≠ q.toNat → (s.hqOf (argNum a 0 1)).cmds.find? (fun y => y.seq = argNum a 4 4) = some t →
      (t.stage = .accepted → t.fail = .OK → t.op ≠ 0 → t.op ≠ 7 → ∃ u, exec (.abort r q) s = .next u ∧ u.ended r q.toNat s.mtime .OK none ∧
        ∃ y ∈ u.results, y.ref = ⟨argNum a 0 1, argNum a 4 4⟩ ∧ y.status = .ABORTED ∧ y.at_ = s.mtime) ∧
      (t.stage = .done → ∃ u, exec (.abort r q) s = .next u ∧ u.ended r q.toNat s.mtime .NOTHING_TO_ABORT none) ∧
      (t.stage = .started ∨ t.stage = .running → opAbortable t.op t.args = false → (∀ y ∈ s.results, y.ref ≠ ⟨argNum a 0 1, argNum a 4 4⟩) →
        ∃ u, exec (.abort r q) s = .next u ∧ u.ended r q.toNat s.mtime .ABORT_REFUSED none ∧ u.waits = s.waits) ∧
      (t.stage = .started → opAbortable t.op t.args = true → t.op ≠ 0x3A → (∀ y ∈ s.results, y.ref ≠ ⟨argNum a 0 1, argNum a 4 4⟩) →
        ∃ u, exec (.abort r q) s = .next u ∧ u.ended r q.toNat s.mtime .OK none ∧
        ∃ y ∈ u.results, y.ref = ⟨argNum a 0 1, argNum a 4 4⟩ ∧ y.status = .ABORTED ∧ y.at_ = s.mtime)) ∧
    (s.hostCmd r q.toNat 0x02 a →
      (s.flag PWR_MODE_CHANGING = true → ∃ u, exec (.setMode r q) s = .next u ∧ u.ended r q.toNat s.mtime .MODE_BUSY none ∧ u.mode = s.mode) ∧
      (s.flag PWR_MODE_CHANGING = false → argNum a 0 1 = s.mode → ∃ u, exec (.setMode r q) s = .next u ∧ u.ended r q.toNat s.mtime .OK none ∧
        u.mode = s.mode ∧ u.flag PWR_MODE_CHANGING = false) ∧
      (s.flag PWR_MODE_CHANGING = false → argNum a 0 1 ≠ s.mode → modeStatus s (argNum a 0 1) (argNum a 1 1) ≠ .OK → ∃ u, exec (.setMode r q) s = .next u ∧
        u.ended r q.toNat s.mtime (modeStatus s (argNum a 0 1) (argNum a 1 1)) none ∧ u.mode = s.mode ∧ u.flag PWR_MODE_CHANGING = false) ∧
      (s.flag PWR_MODE_CHANGING = false → s.mode = 1 → argNum a 0 1 = 2 → driveVoltage s = true → s.flag CHG_STAT_PLUG = false → driveLegs s = true →
        ∃ u, exec (.setMode r q) s = .next (settle s u) ∧ u.fld PWR_MODE_CHANGING = 1 ∧ u.fld PWR_MODE_TARGET = 2 ∧ u.mode = 1 ∧
          u.awaits .modeChange r q.toNat) ∧
      (s.mode = 1 → driveVoltage s = false → modeStatus s 2 0 = .DC_LINK_RANGE) ∧ (s.mode = 2 → modeStatus s 3 0 = .MODE_TRANSITION_INVALID) ∧
      (s.mode = 1 → s.flag CHG_STAT_PLUG = false → modeStatus s 3 0 = .NO_PLUG) ∧
      (s.mode = 5 → s.flag SAF_STAT_DEV_LATCH = true → modeStatus s 1 0 = .SAFE_HELD)) ∧
    (s.hostCmd r q.toNat 0x03 a → (argNum a 0 1 = 1 → s.storeHeld = true → exec (.start r q) s = .next s) ∧
      (s.storeHeld = false → (argNum a 0 1 = 1 → ∃ u, exec (.start r q) s = .next (settle s u) ∧ u.coldWant = some 2 ∧
          ∀ z ∈ (u.hqOf r).cmds, z.seq ≠ q.toNat) ∧
        (argNum a 0 1 = 2 → s.exhausted = true → ∃ u, exec (.start r q) s = .next (settle s u) ∧ u.coldWant = some 3) ∧
        (argNum a 0 1 = 2 → s.ready = true → s.exhausted = false → ∃ u, exec (.start r q) s = .next (settle s u) ∧ u.warmWant = some 3 ∧
          ∀ z ∈ (u.hqOf r).cmds, z.seq ≠ q.toNat))) ∧
    (s.hostCmd r q.toNat 0x04 a → argNum a 0 1 ≠ 0 →
      (s.mode ≠ 1 → ∃ u, exec (.setPower r q) s = .next u ∧ u.ended r q.toNat s.mtime .PS_MODE none) ∧
      (s.mode = 1 → s.flag PWR_PS_STAT_ENTERING = true ∨ s.sup.drill.isSome = true ∨ s.sup.check.isSome = true ∨ s.flag PWR_FEED_STAT_DIP = true →
        ∃ u, exec (.setPower r q) s = .next u ∧ u.ended r q.toNat s.mtime .PWR_BUSY none ∧ u.sup = s.sup) ∧
      (s.mode = 1 → s.flag PWR_PS_STAT_ENTERING = false → s.sup.drill = none → s.sup.check = none → s.flag PWR_FEED_STAT_DIP = false →
        ∃ u, exec (.setPower r q) s = .next u ∧ u.fld PWR_PS_STAT_ENTERING = 1 ∧ u.sup.target = argNum a 0 1 ∧ u.awaits .power r q.toNat)) ∧
    (s.hostCmd r q.toNat 0x05 a → (feedIn s (1 - activeFeed s) = false → ∃ u, exec (.feedDrill r q) s = .next u ∧
        u.ended r q.toNat s.mtime .FEED_NO_STANDBY none ∧ u.sup = s.sup) ∧
      (feedIn s (1 - activeFeed s) = true → s.sup.drill = none → s.sup.check = none → s.flag PWR_FEED_STAT_DIP = false →
        s.flag PWR_PS_STAT_ENTERING = false → ∃ u, exec (.feedDrill r q) s = .next u ∧ u.sup.drill = some (activeFeed s) ∧
          u.fld PWR_FEED_STAT_DRILL = 1 ∧ u.awaits .feedDrill r q.toNat)) ∧
    (s.hostCmd r q.toNat 0x06 a → ∃ u, exec (.throttleAck r q) s = .next u ∧ u.ended r q.toNat s.mtime .OK none ∧ u.out = s.out ∧
      ∀ z : Fin 16, u.fld (THM_Z_STAT_ACKED z) = if (argNum a 0 2).testBit z && (s.zoneOf z).grace then 1 else s.fld (THM_Z_STAT_ACKED z)) ∧
    (s.hostCmd r q.toNat 0x08 a →
      (blkAt (argNum a 0 4) = some .saf → ∃ u, exec (.regWrite r q) s = .next u ∧ u.ended r q.toNat s.mtime .HOST_WR_DENIED none ∧
        u.fld SAF_WVIOL_COUNT = satInc 16 (s.fld SAF_WVIOL_COUNT) % 2 ^ 16 ∧ u.fld SAF_WVIOL_LAST = 12) ∧
      (argNum a 0 4 = 0x600A0020 → ∃ u, exec (.regWrite r q) s = .next u ∧ u.ended r q.toNat s.mtime .OK none ∧ u.fld TST_SST_MASK_LO_MASK =
        if argNum a 8 4 = 0 then argNum a 4 4
        else s.fld TST_SST_MASK_LO_MASK - (s.fld TST_SST_MASK_LO_MASK &&& argNum a 8 4) + (argNum a 4 4 &&& argNum a 8 4))) ∧
    (s.hostCmd r q.toNat 0x09 a → argNum a 0 4 = 0x600A0020 → ∃ u, exec (.regRead r q) s = .next u ∧
      u.ended r q.toNat s.mtime .OK (some (s.fld TST_SST_MASK_LO_MASK)) ∧ u.out = s.out ∧ u.fld TST_SST_MASK_LO_MASK = s.fld TST_SST_MASK_LO_MASK) ∧
    (s.hostCmd r q.toNat 0x0A a → s.sup.parked = 0 → (isWord s (argNum a 0 4) = false → ∃ u, exec (.wordWrite r q) s = .next u ∧
        u.ended r q.toNat s.mtime .HOST_RANGE none ∧ u.words = s.words) ∧
      (0x50000000 ≤ argNum a 0 4 → argNum a 0 4 < 0x50400000 → argNum a 0 4 % 8 = 0 → bankShut s (argNum a 0 4) = false →
        ∃ u, exec (.wordWrite r q) s = .next u ∧ u.ended r q.toNat s.mtime .OK none ∧ u.word (argNum a 0 4) = BitVec.ofNat 36 (argNum a 4 5) ∧
          ∀ x, x ≠ argNum a 0 4 → u.word x = s.word x)) ∧
    (∀ n : Fin 256, s.hostCmd r q.toNat 0x38 a → argNum a 0 1 = n.val → ∃ u, exec (.telemCfg r q) s = .next u ∧ u.ended r q.toNat s.mtime .OK none ∧
      u.fld (HOST_TLM_CFG_EN n) = bit ((argNum a 1 1).testBit 7) ∧ u.fld (HOST_TLM_CFG_KIND n) = argNum a 1 1 % 4 ∧
      u.fld (HOST_TLM_CFG_PERIOD n) = argNum a 2 2 ∧ u.fld (HOST_TLM_FRESH n) = argNum a 4 2 ∧ u.fld (HOST_TLM_ADDR n) = argNum a 8 4 ∧
      u.fld (HOST_TLM_TADDR n) = argNum a 12 4 ∧ Tbl.get {} u.tlm n = {}) ∧
    (s.hostCmd r q.toNat 0x39 a → s.hostReach = true →
      (s.flag JNL_STAT_EMPTY = true ∨ argNum a 0 4 < s.fld JNL_OLDEST_INDEX ∨ s.fld JNL_HEAD_INDEX < argNum a 0 4 →
        1 ≤ argNum a 4 2 → ∃ u, exec (.jnlRead r q) s = .next u ∧ u.ended r q.toNat s.mtime .JNL_GONE none ∧ u.out = s.out) ∧
      (s.flag JNL_STAT_EMPTY = false → s.fld JNL_OLDEST_INDEX ≤ argNum a 0 4 → 1 ≤ argNum a 4 2 → argNum a 0 4 + argNum a 4 2 ≤ s.fld JNL_HEAD_INDEX + 1 →
        ∃ u, exec (.jnlRead r q) s = .next u ∧ u.ended r q.toNat s.mtime .OK (some (argNum a 4 2)) ∧ ∀ k, k < argNum a 4 2 →
          .hostWrite (argNum a 8 8 + 32 * k) (s.bytesAt (recAddr (argNum a 0 4 + k)) 32) ∈ u.out)) ∧
    (s.storeHeld = true → exec (.imageWrite r q dat bk) s = .next s) ∧
    (s.hostCmd r q.toNat 0x3A a → s.hostReach = true → s.storeHeld = false →
      (argNum a 15 1 < 2 → s.fld IMG_STAT_ACTIVE = argNum a 15 1 → ∃ u, exec (.imageWrite r q dat bk) s = .next u ∧
        u.ended r q.toNat s.mtime .IMG_ACTIVE none ∧ u.fld IMG_ERR_LAST_ERR = 9 ∧ u.bytes = s.bytes) ∧
      (argNum a 15 1 = 2 → ∃ u, exec (.imageWrite r q none bk) s = .next u ∧ u.ended r q.toNat s.mtime .HOST_DMA_ERROR none ∧ u.bytes = s.bytes) ∧
      (∀ d, argNum a 15 1 = 2 → argNum a 12 3 ≤ d.length → s.deferred = [] → ∃ u, exec (.imageWrite r q (some d) none) s = .next u ∧
        u.ended r q.toNat s.mtime .OK none ∧ (∀ k, k < argNum a 12 3 → some (u.byte (0x70350000 + argNum a 8 4 + k)) = d[k]?) ∧
        ∀ x, x < 0x70350000 + argNum a 8 4 ∨ 0x70350000 + argNum a 8 4 + argNum a 12 3 ≤ x → u.byte x = s.byte x)) ∧
    (s.hostCmd r q.toNat 0x3B a → (activateStatus s (argNum a 0 1) ≠ .OK → ∃ u, exec (.imageActivate r q) s = .next u ∧
        u.ended r q.toNat s.mtime (activateStatus s (argNum a 0 1)) none ∧ u.warmWant = none ∧ u.bytes = s.bytes) ∧
      (s.mode ≠ 1 → s.mode ≠ 5 → activateStatus s (argNum a 0 1) = .IMG_MODE) ∧
      (activateStatus s (argNum a 0 1) = .OK → (s.storeHeld = true → exec (.imageActivate r q) s = .next s) ∧
        (s.storeHeld = false → ∃ u, exec (.imageActivate r q) s = .next (settle s u) ∧ u.warmWant = some 8 ∧ ∀ z ∈ (u.hqOf r).cmds, z.seq ≠ q.toNat))) ∧
    (s.hostCmd r q.toNat 0x40 a →
      (s.flag TST_SST_STAT_BUSY = true → ∃ u, exec (.satSelftest r q) s = .next u ∧ u.ended r q.toNat s.mtime .TST_BUSY none ∧ u.sst = s.sst) ∧
      (s.flag TST_SST_STAT_BUSY = false → (∀ n : Fin 48, (argNum a 0 6).testBit n = true → sstSkipped s n = true) → ∃ u, exec (.satSelftest r q) s = .next u ∧
        u.ended r q.toNat s.mtime .OK (some (bitsSet 48 (argNum a 0 6)).length) ∧ u.fld TST_SST_STAT_BUSY = 0) ∧
      (∀ n : Fin 48, s.flag TST_SST_STAT_BUSY = false → (argNum a 0 6).testBit n = true → sstSkipped s n = false → ∃ u, exec (.satSelftest r q) s = .next u ∧
        u.awaits .selfTest r q.toNat ∧ u.fld TST_SST_STAT_BUSY = 1 ∧ u.sst.left.testBit n = true)) ∧
    (s.hostCmd r q.toNat 0x30 a → s.hostReach = true →
      (∃ u, exec (.fjopFrame r q none) s = .next u ∧ u.ended r q.toNat s.mtime .HOST_DMA_ERROR none ∧ u.fjop = s.fjop) ∧
      (∀ d, (∀ c : Fin 32, s.flag (SAF_FJ_CFG_EN c) = false ∨ s.flag (SAF_FJ_CFG_DIR c) = true ∨ s.fld (SAF_FJ_CFG_CHANNEL c) ≠ 9 ∨ s.fld (SAF_FJ_ADDR c) ≠ r.val) →
        ∃ u, exec (.fjopFrame r q (some d)) s = .next u ∧ u.ended r q.toNat s.mtime .OK none ∧ u.fjop = s.fjop ∧ u.bytes = s.bytes) ∧
      (∀ d, ∃ u t, exec (.fjopFrame r q (some d)) s = .next (settle s u) ∧ u.ended r q.toNat t .OK none))

/-- R411 with the rules of the functions it names. -/
def Obligations.HostOpcodesOfTheFunctions : Prop :=
  ∀ (s : State) (r : Fin 32) (q : Word) (a : List Byte) (m : Fin 4) (g : Fin 12) (e : Fin 32) (j : Fin 2), s.quiet = true →
    (s.hostCmd r q.toNat 0x10 a → argNum a 0 1 = m.val → ∃ u, exec (.torqueSp r q) s = .next u ∧ u.ended r q.toNat s.mtime .OK none ∧
      u.word (trcTsp m) = BitVec.ofNat 36 (argNum a 4 5) ∧ (u.slotOf m).tspAt = s.mtime ∧ u.word (trcSsp m) = s.word (trcSsp m)) ∧
    (s.hostCmd r q.toNat 0x11 a → argNum a 0 1 = m.val → ∃ u, exec (.speedSp r q) s = .next u ∧ u.ended r q.toNat s.mtime .OK none ∧
      u.word (trcSsp m) = BitVec.ofNat 36 (argNum a 4 5) ∧ (u.slotOf m).sspAt = s.mtime ∧ u.word (trcTsp m) = s.word (trcTsp m)) ∧
    (s.hostCmd r q.toNat 0x12 a → argNum a 0 1 = m.val → ∃ u, exec (.torqueLim r q) s = .next u ∧ u.ended r q.toNat s.mtime .OK none ∧
      u.word (trcTmot m) = BitVec.ofNat 36 (argNum a 4 5) ∧ u.word (trcTgen m) = BitVec.ofNat 36 (argNum a 9 5)) ∧
    (s.allUp = true →
      (s.hostCmd r q.toNat 0x13 a → argNum a 0 1 = m.val → ∃ u, exec (.actSpeedSp r q) s = .next (settle s u) ∧ u.ended r q.toNat s.mtime .OK none ∧
        u.fld (ACT_SP_SPEED m) = argNum a 2 2) ∧
      (s.hostCmd r q.toNat 0x14 a → argNum a 0 1 = m.val → (argNum a 2 2 = 0 → ∃ u, exec (.voutSp r q) s = .next (settle s u) ∧
          u.ended r q.toNat s.mtime .CNV_RANGE none ∧ u.fld (CNV_C_VSET_VOUT_SET m) = s.fld (CNV_C_VSET_VOUT_SET m)) ∧
        (argNum a 2 2 ≠ 0 → ∃ u, exec (.voutSp r q) s = .next (settle s u) ∧ u.ended r q.toNat s.mtime .OK none ∧
          u.fld (CNV_C_VSET_VOUT_SET m) = argNum a 2 2)) ∧
      (s.hostCmd r q.toNat 0x15 a → (9200 < argNum a 2 2 → ∃ u, exec (.chargeSp r q) s = .next (settle s u) ∧ u.ended r q.toNat s.mtime .CHG_RANGE none ∧
          u.fld CHG_SET_I_SET = s.fld CHG_SET_I_SET ∧ u.fld CHG_SET_V_LIM = s.fld CHG_SET_V_LIM) ∧
        (argNum a 2 2 ≤ 9200 → ∃ u, exec (.chargeSp r q) s = .next (settle s u) ∧ u.ended r q.toNat s.mtime .OK none ∧
          u.fld CHG_SET_I_SET = argNum a 0 2 ∧ u.fld CHG_SET_V_LIM = argNum a 2 2)) ∧
      (s.hostCmd r q.toNat 0x16 a → ∃ u, exec (.exportSp r q) s = .next (settle s u) ∧ u.ended r q.toNat s.mtime .OK none ∧
        u.fld CHG_EXP_EXP_V = argNum a 0 2 ∧ u.fld CHG_EXP_EXP_I = argNum a 2 2) ∧
      (s.hostCmd r q.toNat 0x17 a → 1 ≤ s.fld CHG_BST_ACC_RAMP → s.fld CHG_BST_ACC_RAMP ≤ 100 → ∃ u, exec (.accessorySp r q) s = .next (settle s u) ∧
        u.ended r q.toNat s.mtime .OK none ∧ u.fld CHG_BST_ACC_V = argNum a 0 2 % 2 ^ 14 ∧ u.fld CHG_BST_ACC_RAMP = s.fld CHG_BST_ACC_RAMP)) ∧
    (s.hostCmd r q.toNat 0x20 a → argNum a 0 1 = g.val →
      (argNum a 1 1 = 1 → startStatus (s.putAll [(PWM_GRP_T0_LO g, argNum a 8 4), (PWM_GRP_T0_HI g, argNum a 12 4)]) g ≠ .OK →
        ∃ u, exec (.groupRun r q) s = .next u ∧ u.t0Of g = s.t0Of g ∧ u.fld (PWM_GRP_STAT_STATE g) = s.fld (PWM_GRP_STAT_STATE g) ∧
          u.ended r q.toNat s.mtime (startStatus (s.putAll [(PWM_GRP_T0_LO g, argNum a 8 4), (PWM_GRP_T0_HI g, argNum a 12 4)]) g) none) ∧
      (argNum a 1 1 = 1 → s.follows g = false → startStatus (s.putAll [(PWM_GRP_T0_LO g, argNum a 8 4), (PWM_GRP_T0_HI g, argNum a 12 4)]) g = .OK →
        ∃ u, exec (.groupRun r q) s = .next (settle s u) ∧ u.ended r q.toNat s.mtime .OK none ∧ u.t0Of g = argNum a 12 4 * 2 ^ 32 + argNum a 8 4 ∧
          u.stopped g = false) ∧
      (argNum a 1 1 = 2 → s.running g = true → ∃ u, exec (.groupRun r q) s = .next u ∧ (u.grpOf g).stopPending = true ∧ u.running g = true ∧
        u.awaits (.groupStop g) r q.toNat) ∧
      (argNum a 1 1 = 2 → s.running g = false → ∃ u, exec (.groupRun r q) s = .next u ∧ u.ended r q.toNat s.mtime .OK none ∧
        u.fld (PWM_GRP_STAT_HELD g) = 0 ∧ u.fld (PWM_GRP_STAT_STATE g) = s.fld (PWM_GRP_STAT_STATE g))) ∧
    (s.hostCmd r q.toNat 0x21 a → argNum a 0 1 = g.val → (activeSources s g = [] → ∃ u, exec (.tripClear r q) s = .next u ∧
        u.ended r q.toNat s.mtime .OK none ∧ u.fld (PWM_GRP_TRIP_TRIP_EVT g) = 0 ∧ u.fld (PWM_GRP_STAT_CLR_RESULT g) = 1) ∧
      (activeSources s g ≠ [] → ∃ u, exec (.tripClear r q) s = .next u ∧ u.ended r q.toNat s.mtime .TRIP_ASSERTED none ∧
        u.fld (PWM_GRP_TRIP_TRIP_EVT g) = s.fld (PWM_GRP_TRIP_TRIP_EVT g) ∧ u.fld (PWM_GRP_STAT_CLR_RESULT g) = 2)) ∧
    (s.hostCmd r q.toNat 0x22 a → argNum a 0 1 = e.val →
      (argNum a 1 1 = 1 → s.fld (LE_STAT_STATE e) ≠ 0 → ∃ u, exec (.engineCmd r q) s = .next u ∧ u.ended r q.toNat s.mtime .LE_BUSY none ∧
        u.fld (LE_STAT_STATE e) = s.fld (LE_STAT_STATE e)) ∧
      (argNum a 1 1 = 1 → s.fld (LE_STAT_STATE e) = 0 → (s.fld PWR_RET_LOST_LO_BANKS).testBit (24 + e.val / 4) = false →
        ∃ u, exec (.engineCmd r q) s = .next u ∧ u.fld (LE_STAT_STATE e) = 1 ∧ u.awaits (.engineArm e) r q.toNat) ∧
      (argNum a 1 1 = 2 ∨ argNum a 1 1 = 3 → s.fld (LE_STAT_STATE e) = 0 → ∃ u, exec (.engineCmd r q) s = .next u ∧
        u.ended r q.toNat s.mtime .OK none ∧ u.fld (LE_STAT_STATE e) = 0 ∧ u.eng = s.eng) ∧
      (argNum a 1 1 = 2 → s.fld (LE_STAT_STATE e) = 3 → ∃ u, exec (.engineCmd r q) s = .next u ∧ (u.engOf e).disarm = true ∧
        u.fld (LE_STAT_STATE e) = 3 ∧ u.awaits (.engineOff e) r q.toNat) ∧
      (argNum a 1 1 = 3 → s.fld (LE_STAT_STATE e) ≠ 0 → ∃ u, exec (.engineCmd r q) s = .next u ∧ u.ended r q.toNat s.mtime .OK none ∧
        u.fld (LE_STAT_STATE e) = 0) ∧
      (argNum a 1 1 = 4 → s.fld (LE_STAT_STATE e) = 0 → s.flag (LE_STAT_SWAP_PEND e) = false → ∃ u, exec (.engineCmd r q) s = .next u ∧
        u.ended r q.toNat s.mtime .OK none ∧ u.fld (LE_STAT_BANK e) = 1 - s.fld (LE_STAT_BANK e)) ∧
      (argNum a 1 1 = 4 → s.fld (LE_STAT_STATE e) ≠ 0 → ∃ u, exec (.engineCmd r q) s = .next u ∧ u.fld (LE_STAT_SWAP_PEND e) = 1 ∧
        u.fld (LE_STAT_BANK e) = s.fld (LE_STAT_BANK e) ∧ u.awaits (.engineSwap e) r q.toNat)) ∧
    (∀ l : Fin 60, s.hostCmd r q.toNat 0x23 a → (if argNum a 0 1 < 48 then argNum a 0 1 else argNum a 0 1 - 16) = l.val →
      (s.linkFitted l = false → ∃ u, exec (.satClear r q) s = .next u ∧ u.ended r q.toNat s.mtime .LEG_ABSENT none ∧ u.lk = s.lk ∧ u.out = s.out) ∧
      (s.linkFitted l = true → (s.lkOf l).lost = true → (s.lkOf l).goodUp < 4 → ∃ u, exec (.satClear r q) s = .next u ∧
        u.ended r q.toNat s.mtime .FAULT_PERSISTS none ∧ u.lk = s.lk ∧ u.out = s.out) ∧
      (s.linkFitted l = true → (s.lkOf l).lost = false ∨ 4 ≤ (s.lkOf l).goodUp → ∃ u, exec (.satClear r q) s = .next u ∧
        (u.lkOf l).clearWait = true ∧ u.awaits (.satClear l) r q.toNat)) ∧
    (s.hostCmd r q.toNat 0x24 a → argNum a 0 1 = j.val →
      (s.flag (TRC_DL_CFG_CHOP_EN j) = false ∨ s.flag (TRC_DL_STAT_CHOP_AVAIL j) = true → ∃ u, exec (.chopClear r q) s = .next u ∧
        u.ended r q.toNat s.mtime .OK none ∧ u.fld (TRC_DL_STAT_CLR_RESULT j) = 1) ∧
      (s.flag (TRC_DL_CFG_CHOP_EN j) = true → s.flag (TRC_DL_STAT_CHOP_AVAIL j) = false → s.fld (TRC_DL_STAT_CHOP_CAUSE j) ≠ 2 → chopCause s j ≠ 0 →
        ∃ u, exec (.chopClear r q) s = .next u ∧ u.ended r q.toNat s.mtime .CHOP_FAULT_PERSISTS none ∧ u.fld (TRC_DL_STAT_CLR_RESULT j) = 2 ∧
          u.flag (TRC_DL_STAT_CHOP_AVAIL j) = false)) ∧
    (s.hostCmd r q.toNat 0x25 a → argNum a 0 1 = m.val →
      (argNum a 1 1 = 1 → actState s m ≠ 1 → ∃ u, exec (.actCmd r q) s = .next u ∧ u.ended r q.toNat s.mtime .ACT_BUSY none ∧ actState u m = actState s m) ∧
      (argNum a 1 1 = 1 → actState s m = 1 → s.running (actGroup s m) = false → ∃ u, exec (.actCmd r q) s = .next u ∧
        u.ended r q.toNat s.mtime .ACT_GROUP_STOPPED none ∧ actState u m = 1) ∧
      (argNum a 1 1 = 1 → actState s m = 1 → s.running (actGroup s m) = true → ∃ u, exec (.actCmd r q) s = .next (settle s u) ∧ actState u m = 2 ∧
        u.awaits (.actRun m) r q.toNat) ∧
      (argNum a 1 1 = 2 → actState s m = 4 → ∃ u, exec (.actCmd r q) s = .next (settle s u) ∧ actState u m = 5 ∧ u.awaits (.actIdle m) r q.toNat) ∧
      (argNum a 1 1 = 2 ∨ argNum a 1 1 = 3 → actState s m = 1 → ∃ u, exec (.actCmd r q) s = .next u ∧ u.ended r q.toNat s.mtime .OK none ∧ actState u m = 1) ∧
      (argNum a 1 1 = 4 → actState s m ≠ 9 → ∃ u, exec (.actCmd r q) s = .next u ∧ u.ended r q.toNat s.mtime .OK none ∧
        u.fld (ACT_STAT_CLR_RESULT m) = 1 ∧ actState u m = actState s m)) ∧
    (s.hostCmd r q.toNat 0x26 a → argNum a 0 1 = m.val →
      (argNum a 1 1 = 1 → cnvState s m ≠ 1 → ∃ u, exec (.cnvCmd r q) s = .next u ∧ u.ended r q.toNat s.mtime .CNV_BUSY none ∧ cnvState u m = cnvState s m) ∧
      (argNum a 1 1 = 1 → cnvState s m = 1 → s.running (cnvGroup s m) = false → ∃ u, exec (.cnvCmd r q) s = .next u ∧
        u.ended r q.toNat s.mtime .CNV_GROUP_STOPPED none ∧ cnvState u m = 1) ∧
      (argNum a 1 1 = 1 → cnvState s m = 1 → s.running (cnvGroup s m) = true → ∃ u, exec (.cnvCmd r q) s = .next u ∧ cnvState u m = 2 ∧
        u.awaits (.cnvStart m) r q.toNat) ∧
      (argNum a 1 1 = 2 → cnvState s m = 1 → ∃ u, exec (.cnvCmd r q) s = .next u ∧ u.ended r q.toNat s.mtime .OK none ∧ cnvState u m = 1) ∧
      (argNum a 1 1 = 2 → 2 ≤ cnvState s m → cnvState s m ≤ 4 → ∃ u, exec (.cnvCmd r q) s = .next u ∧ u.ended r q.toNat s.mtime .OK none ∧ cnvState u m = 1) ∧
      (argNum a 1 1 = 3 → cnvState s m ≠ 5 → ∃ u, exec (.cnvCmd r q) s = .next u ∧ u.ended r q.toNat s.mtime .CNV_BUSY none ∧
        u.fld (CNV_C_STAT_CLR_RESULT m) = s.fld (CNV_C_STAT_CLR_RESULT m) ∧ cnvState u m = cnvState s m) ∧
      (argNum a 1 1 = 3 → cnvState s m = 5 → cnvLatched s m = false → s.running (cnvGroup s m) = true → ∃ u, exec (.cnvCmd r q) s = .next u ∧
        u.ended r q.toNat s.mtime .OK none ∧ u.fld (CNV_C_STAT_CLR_RESULT m) = 1 ∧ cnvState u m = 1))

/-- R432-R460: the fabric. Ports 0 PE, 1 PW, 2 QE, 3 QW; pair k has ports 2k and 2k + 1. -/
def Obligations.FabricBehaviour : Prop :=
  (∀ (s : State) (p : Fin 4) (k : Fin 2) (c : Fin 3) (n : Fin 12) (g : Fin 32) (nx : Fin 32) (d : Word) (dl : BitVec 12) (nb : Option (BitVec 10))
      (src : BitVec 10) (w : BitVec 32) (est : Time) (hp : BitVec 5) (bs : List Byte) (id viol hops opp : Nat) (b e wst cut : Bool), s.quiet = true →
    p.val / 2 = k.val → opp = (if p.val % 2 = 0 then p.val + 1 else p.val - 1) →
    (portLive s p = false ∨ portIsUp s p = true → exec (.portSignalDetected p) s = .next s ∧ exec (.trainingTimeout p) s = .next s ∧
      exec (.portUp p b dl nb e 0 0 0) s = .next s) ∧
    (portLive s p = true → portIsUp s p = false → exec (.portSignalDetected p) s = .next (s.putFlag (FAB_PORT_STAT_TRAINING p) true) ∧
      (∃ u, exec (.trainingTimeout p) s = .next u ∧ u.fld (FAB_PORT_STAT_TRAINING p) = 1 ∧ portIsUp u p = false) ∧
      (s.flag (FAB_PORT_STAT_TRAINING p) = true → exec (.portUp p true dl nb e 0 0 0) s = .next (s.putFlag (FAB_PORT_STAT_CROSSED p) true) ∧
        ∃ u, exec (.portUp p false dl nb e 0 0 0) s = .next u ∧ u.fld (FAB_PORT_STAT_UP p) = 1 ∧ u.fld (FAB_PORT_STAT_TRAINING p) = 0 ∧
          u.fld (FAB_PORT_STAT_LINK_DLY p) = dl.toNat ∧ u.fld (FAB_PORT_NB_NB_VALID p) = bit nb.isSome ∧
          (addressed s k = false → (s.fld FAB_CFG2_IE).testBit 2 = false →
            u.out = s.out ++ (if (p.val % 2 = 0 ∨ portIsUp s (2 * k.val) = true) ∧ s.flag (FAB_ST_ANCHOR k) = true ∧ s.fld (FAB_ST_DISC k) = 1 ∧
                (s.fabPair k).sent = false
              then [.control (2 * k.val) 3 [pairRing s k, ((((s.fabPair k).stn).getD 0 + 1) % 32 : Nat), 0, Config.deviceId]] else [])))) ∧
    (portIsUp s p = false → exec (.portDown p ⟨viol, cut⟩) s = .next s ∧ exec (.fragmentReceived p bs b) s = .next s ∧
      exec (.fabricTimeFrame p est hp) s = .next s ∧ exec (.discFrame p g nx wst id) s = .next s ∧ exec (.rosterFrame p g w b) s = .next s ∧
      exec (.announceFrame p src id hops e wst) s = .next s ∧ exec (.statusFrame p src e wst) s = .next s) ∧
    (portIsUp s p = true →
      (∃ u, exec (.portDown p ⟨viol, cut⟩) s = .next u ∧ portIsUp u p = false ∧ u.fld (FAB_PORT_STAT_TRAINING p) = 1 ∧
        u.fld (FAB_PORT_STAT_RETRAIN_CNT p) = satInc 8 (s.fld (FAB_PORT_STAT_RETRAIN_CNT p)) % 2 ^ 8 ∧ (∀ x ∈ u.fab.asm, x.1 / 4 ≠ p.val) ∧
        (cut = true → portIsUp s opp = true → .closeBad opp ∈ u.out) ∧ (cut = false → (s.fld FAB_CFG2_IE).testBit 2 = false → u.out = s.out)) ∧
      (∃ u, exec (.fragmentReceived p bs true) s = .next u ∧ u.regs = s.regs ∧ u.out = s.out ∧ u.fab.rx = s.fab.rx) ∧
      (hdrSound bs = false → ∃ u, exec (.fragmentReceived p bs false) s = .next u ∧ u.out = s.out ∧ u.fab.rx = s.fab.rx ∧
        u.fld (FAB_PORT_ERR_HDR_CRC p) = satInc 8 (s.fld (FAB_PORT_ERR_HDR_CRC p)) % 2 ^ 8) ∧
      (hdrSound bs = true → (FabHdr.read bs).ty < 2 → 
        (addressed s k = true → (FabHdr.read bs).inj = ownAddr s k % 32 → (FabHdr.read bs).last = true →
          exec (.fragmentReceived p bs false) s = .next (s.inc FAB_CNT2_STRIP_CNT)) ∧
        (addressed s k = false ∨ (FabHdr.read bs).inj ≠ ownAddr s k % 32 →
          ((FabHdr.read bs).hops = 32 → exec (.fragmentReceived p bs false) s = .next (s.inc FAB_CNT1_HOP_DROP)) ∧
          ((FabHdr.read bs).hops ≠ 32 → (FabHdr.read bs).last = false ∨ toRoute s k (FabHdr.read bs) = false →
            (portIsUp s opp = true → ∃ u, exec (.fragmentReceived p bs false) s = .next u ∧
              u.out = s.out ++ [.fragment opp ({ FabHdr.read bs with hops := (FabHdr.read bs).hops + 1 }.bytes ++ bs.drop 16)]) ∧
            (portIsUp s opp = false → ∃ u, exec (.fragmentReceived p bs false) s = .next u ∧ u.out = s.out)) ∧
          (∀ y, y = (bs.drop 16).take ((bs.drop 16).length - 4) → (FabHdr.read bs).hops ≠ 32 → (FabHdr.read bs).first = true →
            (FabHdr.read bs).last = true → (FabHdr.read bs).frag = 0 → forMe s k (FabHdr.read bs) = true → toRoute s k (FabHdr.read bs) = false →
            (crc32c y ≠ ofBytes ((bs.drop 16).drop ((bs.drop 16).length - 4)) ∨ y.length ≠ (FabHdr.read bs).len →
              ∃ u, exec (.fragmentReceived p bs false) s = .next u ∧ u.fab.rx = s.fab.rx ∧
                u.fld (FAB_PORT_ERR_PAY_CRC p) = satInc 8 (s.fld (FAB_PORT_ERR_PAY_CRC p)) % 2 ^ 8) ∧
            (crc32c y = ofBytes ((bs.drop 16).drop ((bs.drop 16).length - 4)) → y.length = (FabHdr.read bs).len →
              ∃ u, exec (.fragmentReceived p bs false) s = .next u ∧
                Tbl.get {} u.fab.win (FabHdr.read bs).src = (winCheck (Tbl.get {} s.fab.win (FabHdr.read bs).src) (FabHdr.read bs).seq).2 ∧
                u.fab.rx = if (winCheck (Tbl.get {} s.fab.win (FabHdr.read bs).src) (FabHdr.read bs).seq).1 = 0
                  then s.fab.rx ++ [⟨p, FabHdr.read bs, y, s.mtime⟩] else s.fab.rx)))) ∧
      (s.flag (FAB_ST_ANCHOR k) = true → exec (.rosterFrame p g w b) s = .next s ∧ ∃ u, exec (.fabricTimeFrame p est hp) s = .next u ∧
        u.fld (FAB_ST_TIME_HOPS k) = 0 ∧ ((s.fabPair k).ofs = [] → timeOfs u k = 0) ∧ (15 ≤ (s.fabPair k).ofs.length → u.fld (FAB_ST_TIME_VALID k) = 1)) ∧
      (s.flag (FAB_ST_ANCHOR k) = false → s.fld (FAB_PORT_STAT_LINK_DLY p) = 0 → (s.fabPair k).hopsE = none → (s.fabPair k).hopsW = none →
        ((s.fabPair k).ofs = [] → s.mtime < 2 ^ 63 → est.toNat < 2 ^ 63 → ∃ u, exec (.fabricTimeFrame p est hp) s = .next u ∧
          timeOfs u k = (est.toNat : Int) - s.mtime ∧ u.fld (FAB_ST_TIME_HOPS k) = (hp.toNat + 1) % 32 ∧ (u.fabPair k).ofs = [(est.toNat : Int) - s.mtime]) ∧
        (15 ≤ (s.fabPair k).ofs.length → ∃ u, exec (.fabricTimeFrame p est hp) s = .next u ∧ u.fld (FAB_ST_TIME_VALID k) = 1)) ∧
      ((s.fabPair k).withdrawn = true → exec (.discFrame p g nx wst id) s = .next s ∧ exec (.rosterFrame p g w b) s = .next s) ∧
      ((s.fabPair k).withdrawn = false → s.flag (FAB_ST_ANCHOR k) = false → addressed s k = false → (s.fabPair k).stn = none →
        ∃ u, exec (.discFrame p g nx wst id) s = .next u ∧ u.fld (FAB_ST_ADDR k) = 32 * g.val + nx.val ∧ u.fld (FAB_ST_DISC k) = 1 ∧
          (u.fabPair k).stn = some nx.val ∧ u.fld (FAB_ST_ADDR_VALID k) = 0 ∧ (portIsUp s (2 * k.val + bit wst) = true →
            .control (2 * k.val + bit wst) 3 [g.val, (if wst then (nx.val + 31) % 32 else (nx.val + 1) % 32 : Nat), bit wst, id] ∈ u.out)) ∧
      ((s.fabPair k).withdrawn = false → s.flag (FAB_ST_ANCHOR k) = true →
        (id = Config.deviceId → ∃ u, exec (.discFrame p g nx wst id) s = .next u ∧ (u.fabPair k).closed = true ∧ u.fld (FAB_ST_RING_CLOSED k) = 1 ∧
          u.out = s.out) ∧
        (Config.deviceId < id → exec (.discFrame p g nx wst id) s = .next s) ∧
        (id < Config.deviceId → ∃ u, exec (.discFrame p g nx wst id) s = .next u ∧ u.fld (FAB_ST_ANCHOR k) = 0 ∧ u.fld (FAB_ST_ANCHOR_CONFLICT k) = 1)) ∧
      (∀ st, (s.fabPair k).withdrawn = false → s.flag (FAB_ST_ANCHOR k) = false → (s.fabPair k).stn = some st → w.toNat.testBit st = true →
        ∃ u, exec (.rosterFrame p g w b) s = .next u ∧ u.fld (FAB_ST_ADDR k) = 32 * g.val + st ∧ u.fld (FAB_ST_ADDR_VALID k) = 1 ∧
          u.fld (FAB_ST_PROVISIONAL k) = bit b ∧ u.fld (FAB_ST_DISC k) = 2 ∧ u.fld (FAB_RT_VIA g) = k.val + 1 ∧ u.out = s.out) ∧
      (∃ u, exec (.announceFrame p src id hops e wst) s = .next u ∧ Tbl.get {} u.fab.win src.toNat = {} ∧
        (hops = 0 → u.fld (FAB_PORT_NB_NB_ADDR p) = src.toNat ∧ u.fld (FAB_PORT_NB_NB_VALID p) = 1) ∧
        (addressed s k = true → src.toNat = ownAddr s k → id < Config.deviceId → addressed u k = false ∧ u.fld (FAB_ST_ADDR_CONFLICT k) = 1 ∧
          (u.fabPair k).withdrawn = true) ∧
        (src.toNat ≠ ownAddr s k ∨ Config.deviceId ≤ id → addressed u k = addressed s k ∧ u.out = s.out)) ∧
      (∃ u, exec (.statusFrame p src e wst) s = .next u ∧ (src.toNat, e, wst) ∈ (u.fabPair k).ports ∧ u.fld (FAB_ST_LINK_FAULTS k) = min (linkFaults u k) 3 ∧
        u.out = s.out)) ∧
    (s.flag (FAB_ST_ANCHOR k) = false ∨ s.fld (FAB_ST_DISC k) ≠ 1 → exec (.discoveryTimeout k) s = .next s) ∧
    (s.flag (FAB_ST_ANCHOR k) = false ∨ ((s.fld (FAB_ST_DISC k) ≠ 1 ∨ ((s.fabPair k).closed = false ∧ (s.fabPair k).west = false)) ∧
      (s.fld (FAB_ST_DISC k) ≠ 2 ∨ (s.fabPair k).news = false)) → exec (.rosterTimer k) s = .next s) ∧
    (s.flag (FAB_ST_ANCHOR k) = true → (s.fld (FAB_ST_DISC k) = 1 ∧ (s.fabPair k).closed = true) ∨ (s.fld (FAB_ST_DISC k) = 2 ∧ (s.fabPair k).news = true) →
      ∃ u, exec (.rosterTimer k) s = .next u ∧ u.fld (FAB_ST_DISC k) = 2 ∧ u.fld (FAB_ST_ADDR_VALID k) = 1 ∧ (u.fabPair k).news = false ∧
        u.fld (FAB_ST_NSTN k) = ((List.range 32).filter fun j => (s.fabPair k).found.contains j).length ∧
        u.fld (FAB_ST_ADDR k) = (32 * pairRing s k + ((s.fabPair k).stn).getD 0) % 2 ^ 10) ∧
    (s.flag (FAB_ST_ANCHOR k) = true → s.fld (FAB_ST_DISC k) = 1 →
      ((s.fabPair k).closed = true → exec (.discoveryTimeout k) s = .next s) ∧
      ((s.fabPair k).closed = false → pairExpect s k = 0 → portIsUp s (2 * k.val + 1) = true → ∃ u, exec (.discoveryTimeout k) s = .next u ∧
        u.out = s.out ++ [.control (2 * k.val + 1) 3 [pairRing s k, 31, 1, Config.deviceId]] ∧ u.regs = s.regs ∧ (u.fabPair k).sent = true) ∧
      ((s.fabPair k).west = true → ∃ u, exec (.rosterTimer k) s = .next u ∧ u.fld (FAB_ST_DISC k) = 2 ∧ u.fld (FAB_ST_ADDR_VALID k) = 1 ∧
        u.fld (FAB_ST_NSTN k) = ((List.range 32).filter fun j => (s.fabPair k).found.contains j).length ∧
        u.fld (FAB_ST_ADDR k) = (32 * pairRing s k + ((s.fabPair k).stn).getD 0) % 2 ^ 10)) ∧
    (addressed s 0 = false → addressed s 1 = false → exec .timeFrameTimer s = .next s ∧ exec .statusFrameTimer s = .next s) ∧
    (addressed s k = true → portIsUp s p = true → (∃ u, exec .statusFrameTimer s = .next u ∧
        .control p 6 [ownAddr s k, bit (portIsUp s (2 * k)), bit (portIsUp s (2 * k + 1))] ∈ u.out ∧ u.regs = s.regs) ∧
      (s.flag (FAB_ST_ANCHOR k) = true → ∃ u, exec .timeFrameTimer s = .next u ∧ .control p 2 [(s.mtime : Int), 0] ∈ u.out ∧ u.regs = s.regs)) ∧
    (∃ u, exec (.ringTimeTimeout k) s = .next u ∧ u.fld (FAB_ST_TIME_VALID k) = 0 ∧ (u.fabPair k).ofs = [] ∧
      (s.fld (FAB_ST_TIME_VALID k) = 0 → u.out = s.out)) ∧
    ((s.fabPair k).held = [] ∨ admissible s k = false → exec (.admissionRelease k) s = .next s) ∧
    (∀ h y t, (s.fabPair k).held = (h, y) :: t → admissible s k = true → ∃ u, exec (.admissionRelease k) s = .next u ∧
      (u.fabPair k).held = t ∧ (u.fabPair k).admitted = some s.mtime ∧ admissible u k = false ∧
      (portIsUp s p = true → h.rcnt ≠ 0 → ∀ x ∈ fragments { h with west := decide (p.val % 2 = 1) } (crc32c y) 16 0 y, .fragment p x ∈ u.out) ∧
      (portIsUp s p = true → h.rcnt = 0 → ∀ x ∈ fragments { (ownHeader s k 0 h.ty h.dst h.bc y.length).1 with west := decide (p.val % 2 = 1) }
        (crc32c y) 16 0 y, .fragment p x ∈ u.out)) ∧
    ((s.fab.rx.find? fun f => f.hdr.ty = 0) = none → exec .dataFrame s = .next s) ∧
    (∀ f, (s.fab.rx.find? fun f => f.hdr.ty = 0) = some f →
      (f.hdr.cls = 0 → ∃ u, exec .dataFrame s = .next u ∧ u.fld FAB_CNT2_RX_DROP = satInc 8 (s.fld FAB_CNT2_RX_DROP) % 2 ^ 8 ∧ u.bytes = s.bytes ∧
        u.fab.rx = s.fab.rx.erase f) ∧
      (f.hdr.cls = c.val + 1 → s.flag (FAB_RXQ_CTRL_EN c) = true → (s.fabQ c).owned < 2 ^ s.fld (FAB_RXQ_CTRL_SIZE c) → ∃ u, exec .dataFrame s = .next u ∧
        u.fld (FAB_RXQ_HEAD c) = (s.fld (FAB_RXQ_HEAD c) + 1) % 2 ^ s.fld (FAB_RXQ_CTRL_SIZE c) % 2 ^ 8 ∧ (u.fabQ c).owned = (s.fabQ c).owned + 1 ∧
        u.num (s.fld (FAB_RXQ_BASE c) + 1056 * s.fld (FAB_RXQ_HEAD c)) 2 = f.hdr.src % 2 ^ 16 ∧ u.fab.rx = s.fab.rx.erase f ∧
        u.bytesAt (s.fld (FAB_RXQ_BASE c) + 1056 * s.fld (FAB_RXQ_HEAD c) + 32) f.data.length = f.data)) ∧
    ((s.fab.rx.find? fun f => f.hdr.ty = 1) = none → exec .fjopFabricFrame s = .next s) ∧
    (∀ f, (s.fab.rx.find? fun f => f.hdr.ty = 1) = some f → (∀ j : Fin 32, s.flag (SAF_FJ_CFG_EN j) = false ∨ s.flag (SAF_FJ_CFG_DIR j) = true ∨
      s.fld (SAF_FJ_CFG_CHANNEL j) ≠ 8 ∨ s.fld (SAF_FJ_ADDR j) % 1024 ≠ f.hdr.src) → ∃ u, exec .fjopFabricFrame s = .next u ∧
      u.fld FAB_CNT1_FJ_NOCONN = satInc 8 (s.fld FAB_CNT1_FJ_NOCONN) % 2 ^ 8 ∧ u.fab.rx = s.fab.rx.erase f ∧ u.fjop = s.fjop) ∧
    ((s.fabQ c).now = none → exec (.fabricTxComplete c d) s = .next s) ∧
    (∀ j a, (s.fabQ c).now = some (.desc j, a) → (s.fabQ c).items = [] → ∃ u, exec (.fabricTxComplete c d) s = .next u ∧ (u.fabQ c).now = none ∧
      u.fld FAB_TXWAIT_TXWAIT_MAX = max d.toNat (s.fld FAB_TXWAIT_TXWAIT_MAX) ∧ u.num (descAddr s c j + 12) 2 = Status.OK.code ∧ u.byte (descAddr s c j + 14) = 1 ∧
      (s.flag (FAB_TXQ_CTRL_EN c) = true → u.fld (FAB_TXQ_HEAD c) = (j + 1) % 2 ^ s.fld (FAB_TXQ_CTRL_SIZE c) % 2 ^ 10)) ∧
    (∀ x y a j, (s.fabQ c).now = some (.host x y a, j) → (s.fabQ c).items = [] → ∃ u, exec (.fabricTxComplete c d) s = .next u ∧ (u.fabQ c).now = none ∧
      (s.runs = true → u.ended x.ring x.seq s.mtime .OK none)) ∧
    (s.allUp = true →
      (∃ u, exec (.fabRxqAck (.pair n) c d) s = .next u ∧ u.regs = s.regs ∧ u.out = s.out ∧ (u.fabQ c).owned = min (s.fabQ c).owned
        ((s.fld (FAB_RXQ_HEAD c) + 2 ^ s.fld (FAB_RXQ_CTRL_SIZE c) - d.toNat % 2 ^ 8 % 2 ^ s.fld (FAB_RXQ_CTRL_SIZE c)) % 2 ^ s.fld (FAB_RXQ_CTRL_SIZE c))) ∧
      (∃ u, exec (.fabWakeCommand (.pair n)) s = .next u ∧ u.regs = s.regs ∧ (portIsUp s p = true → .wakeBurst p ∈ u.out) ∧
        ((∀ j : Fin 4, portIsUp s j = false) → u.out = s.out)) ∧
      (s.flag (FAB_TXQ_CTRL_EN c) = false → exec (.fabTxqTail (.pair n) c d) s = .next s) ∧
      (s.flag (FAB_TXQ_CTRL_EN c) = true → 2 ^ s.fld (FAB_TXQ_CTRL_SIZE c) ≤ d.toNat % 2 ^ 10 →
        exec (.fabTxqTail (.pair n) c d) s = .next (s.refuse fabErr .FAB_QUEUE_FULL)) ∧
      (s.flag (FAB_TXQ_CTRL_EN c) = true → s.held 23 = false → (s.fabQ c).now = none → (s.fabQ c).items = [] → s.fld (FAB_TXQ_TAIL c) < 2 ^ s.fld (FAB_TXQ_CTRL_SIZE c) →
        s.fld (FAB_TXQ_HEAD c) = s.fld (FAB_TXQ_TAIL c) → 4 ≤ s.fld (FAB_TXQ_CTRL_SIZE c) → s.fld (FAB_TXQ_CTRL_SIZE c) ≤ 10 →
        d.toNat = (s.fld (FAB_TXQ_TAIL c) + 1) % 2 ^ s.fld (FAB_TXQ_CTRL_SIZE c) → ∀ x, x = itemSend s c (.desc (s.fld (FAB_TXQ_TAIL c))) →
        (sendStatus s x.1 x.2.1 x.2.2.2.1 false = .OK → ∃ u, exec (.fabTxqTail (.pair n) c d) s = .next u ∧ u.fld (FAB_TXQ_TAIL c) = d.toNat ∧
          (u.fabQ c).now = some (.desc (s.fld (FAB_TXQ_TAIL c)), x.1) ∧ (u.fabQ c).items = [] ∧ u.bytes = s.bytes) ∧
        (sendStatus s x.1 x.2.1 x.2.2.2.1 false ≠ .OK → ∃ u, exec (.fabTxqTail (.pair n) c d) s = .next u ∧ (u.fabQ c).now = none ∧
          u.fld (FAB_TXQ_HEAD c) = d.toNat ∧ u.byte (descAddr s c (s.fld (FAB_TXQ_TAIL c)) + 14) = 1 ∧
          u.num (descAddr s c (s.fld (FAB_TXQ_TAIL c)) + 12) 2 = (sendStatus s x.1 x.2.1 x.2.2.2.1 false).code))) ∧
    (∀ a y, s.hostCmd g d.toNat 0x32 a → s.hostReach = true → s.fld (HOST_R_CTRL_CLASS g) = c.val + 1 →
      (∃ u, exec (.fabSend g d none) s = .next u ∧ u.ended g d.toNat s.mtime .HOST_DMA_ERROR none ∧ u.fab = s.fab) ∧
      ((s.fabQ c).now = none → (s.fabQ c).items = [] → s.held 23 = false →
        (sendStatus s (s.fld (FAB_RT_VIA (argNum a 0 2 / 32)) - 1) (argNum a 0 2) (y.take (argNum a 2 2)).length true = .OK → ∃ u, exec (.fabSend g d (some y)) s = .next u ∧
          (u.fabQ c).now = some (.host ⟨g, d.toNat⟩ (argNum a 0 2) (y.take (argNum a 2 2)), s.fld (FAB_RT_VIA (argNum a 0 2 / 32)) - 1) ∧ u.results = s.results) ∧
        (sendStatus s (s.fld (FAB_RT_VIA (argNum a 0 2 / 32)) - 1) (argNum a 0 2) (y.take (argNum a 2 2)).length true ≠ .OK → ∃ u, exec (.fabSend g d (some y)) s = .next u ∧
          (u.fabQ c).now = none ∧ u.ended g d.toNat s.mtime (sendStatus s (s.fld (FAB_RT_VIA (argNum a 0 2 / 32)) - 1) (argNum a 0 2)
            (y.take (argNum a 2 2)).length true) none)))) ∧
  (∀ (s : State) (p : Fin 4), (s.flag PWR_WAKE_CFG_FAB = false → exec (.fabricWakeBurst p) s = .next (settle s s)) ∧
    (s.flag PWR_WAKE_CFG_FAB = true → s.sup.waking = false → psState s ≠ 0 → ∃ u, exec (.fabricWakeBurst p) s = .next (settle s u) ∧
      (u.fld PWR_WAKE_STAT_SRC).testBit 12 = true ∧ u.fld PWR_WAKE_STAT_FIRST = 12 ∧ u.fld PWR_WAKE_T = s.mtime % 2 ^ 32 ∧
      (psState s = 1 → psState u = 0) ∧ (psState s = 3 → u.coldWant = some 5)))

/-- R466-R482: the CAN FD controllers. -/
def Obligations.CanControllers : Prop :=
  ∀ (s : State) (n : Fin 8) (p : Fin 12) (qu : Fin 4) (h2 : Fin 2) (bt : Fin 32) (e : Fin 64) (c : Fin 32) (d : Word) (f : CanFrame) (er : CanError)
      (hv busy : Bool), s.quiet = true →
    (s.allUp = true →
      (s.fld (CAN_CTRL_MODE n) = 0 → s.flag CAN_LOCK = false → bitsOf d.toNat 8 8 = 0 ∨ (d.toNat % 4 ≠ 0 ∧ timingOk s n = false) →
        exec (.canModeWrite (.pair p) n d busy) s = .next (canRefuse s n .CAN_RANGE)) ∧
      (s.fld (CAN_CTRL_MODE n) = 0 → s.flag CAN_LOCK = false → bitsOf d.toNat 8 8 ≠ 0 → timingOk s n = true → ∃ u,
        exec (.canModeWrite (.pair p) n d busy) s = .next u ∧ u.fld (CAN_CTRL_MODE n) = d.toNat % 4 ∧ u.fld (CAN_CTRL_FDOE n) = bitsOf d.toNat 2 1 ∧
        u.fld (CAN_CTRL_BRSE n) = bitsOf d.toNat 3 1 ∧ u.fld (CAN_CTRL_ACK_LIMIT n) = bitsOf d.toNat 8 8 ∧ u.can = s.can) ∧
      (s.fld (CAN_CTRL_MODE n) ≠ 0 → s.flag CAN_LOCK = false → bitsOf d.toNat 2 14 &&& 0x3FCF ≠ bitsOf (readFields s (0x60090000 + 0x400 * n.val)) 2 14 →
        exec (.canModeWrite (.pair p) n d busy) s = .next (canRefuse s n .CAN_BUSY)) ∧
      (s.fld (CAN_CTRL_MODE n) ≠ 0 → s.flag CAN_LOCK = true → d.toNat % 4 ≠ 0 → ∃ u, exec (.canModeWrite (.pair p) n d busy) s = .next u ∧
        u.fld (CAN_CTRL_MODE n) = d.toNat % 4 ∧ u.fld (CAN_CTRL_FDOE n) = s.fld (CAN_CTRL_FDOE n) ∧
        u.fld (CAN_CTRL_ACK_LIMIT n) = s.fld (CAN_CTRL_ACK_LIMIT n) ∧ u.can = s.can) ∧
      (s.fld (CAN_CTRL_MODE n) ≠ 0 → bitsOf d.toNat 2 14 &&& 0x3FCF = bitsOf (readFields s (0x60090000 + 0x400 * n.val)) 2 14 → bitsOf d.toNat 8 8 ≠ 0 →
        d.toNat % 4 = 0 → (s.canOf n).now = none →
        (∃ u, exec (.canModeWrite (.pair p) n d false) s = .next u ∧ u.fld (CAN_CTRL_MODE n) = 0 ∧ u.fld (CAN_STAT_SYNC n) = 0) ∧
        ∃ u, exec (.canModeWrite (.pair p) n d true) s = .next u ∧ u.fld (CAN_CTRL_MODE n) = 0 ∧ u.fld (CAN_STAT_SYNC n) = s.fld (CAN_STAT_SYNC n) ∧
          (u.canOf n).leaving = true) ∧
      (s.fld (CAN_STAT_ERR n) ≠ 2 → exec (.canRecover (.pair p) n) s = .next s) ∧
      (s.fld (CAN_STAT_ERR n) = 2 → exec (.canRecover (.pair p) n) s = .next (s.put (CAN_STAT_RECOVERING n) 1)) ∧
      (4096 < s.fld (CAN_FLT_CNT_STD_CNT n) + s.fld (CAN_FLT_CNT_EXT_CNT n) ∨ s.fld (CAN_FLT_STD_BASE n) % 8 ≠ 0 ∨ s.fld (CAN_FLT_EXT_BASE n) % 8 ≠ 0 →
        exec (.filterCommit (.pair p) n) s = .next (canRefuse s n .CAN_RANGE)) ∧
      (s.fld (CAN_FLT_CNT_STD_CNT n) + s.fld (CAN_FLT_CNT_EXT_CNT n) ≤ 4096 → s.fld (CAN_FLT_STD_BASE n) % 8 = 0 → s.fld (CAN_FLT_EXT_BASE n) % 8 = 0 →
        ∃ u, exec (.filterCommit (.pair p) n) s = .next u ∧ (u.canOf n).lists = ⟨s.fld (CAN_FLT_STD_BASE n), s.fld (CAN_FLT_EXT_BASE n),
          s.fld (CAN_FLT_CNT_STD_CNT n), s.fld (CAN_FLT_CNT_EXT_CNT n)⟩ ∧ (u.canOf n).walk = (s.canOf n).walk ∧ u.regs = s.regs) ∧
      (d.toNat = 2 ^ bt.val → 32 * h2.val + bt.val = e.val →
        (48 ≤ e.val → exec (.canTxRequest (.pair p) n h2 d false) s = .next (canRefuse s n .CAN_RANGE)) ∧
        (e.val < 48 → ∀ x, x = slotFrame s n e →
          (requestStatus s n e x.1 x.2.1 ≠ .OK → ∃ u, exec (.canTxRequest (.pair p) n h2 d false) s = .next u ∧ u.can = s.can ∧
            u.fld (CAN_TX_ST_STATUS n e) = (requestStatus s n e x.1 x.2.1).code ∧ entryState u n e = entryState s n e) ∧
          (requestStatus s n e x.1 x.2.1 = .OK → ∃ u, exec (.canTxRequest (.pair p) n h2 d false) s = .next u ∧ entryState u n e = 1 ∧
            u.fld (CAN_TX_ST_ACK_TRIES n e) = 0 ∧ (Tbl.get {} (u.canOf n).tx e).sub = (s.canOf n).sub ∧ (u.canOf n).sub = (s.canOf n).sub + 1 ∧
            (u.fld (CAN_TX_REQ n h2)).testBit bt = true ∧ u.out = s.out) ∧
          (requestStatus s n e x.1 x.2.1 = .OK → s.fld (CAN_CTRL_MODE n) = 1 → s.flag (CAN_STAT_SYNC n) = true → s.fld (CAN_STAT_ERR n) ≠ 2 →
            s.held 22 = false → (s.canOf n).now = none → ∃ u, exec (.canTxRequest (.pair p) n h2 d true) s = .next u ∧ (u.canOf n).now.isSome = true)) ∧
        (entryState s n e = 1 → ∃ u, exec (.canTxAbort (.pair p) n h2 d) s = .next u ∧ entryState u n e = 3 ∧
          u.fld (CAN_TX_ST_STATUS n e) = Status.ABORTED.code ∧ u.fld (CAN_TX_ST_ABT_RES n e) = 1 ∧ (u.fld (CAN_TX_DONE n h2)).testBit bt = true) ∧
        (entryState s n e = 2 → ∃ u, exec (.canTxAbort (.pair p) n h2 d) s = .next u ∧ entryState u n e = 2 ∧ (Tbl.get {} (u.canOf n).tx e).abort = true ∧
          u.regs = s.regs) ∧
        (entryState s n e ≠ 1 → entryState s n e ≠ 2 → exec (.canTxAbort (.pair p) n h2 d) s = .next (s.put (CAN_TX_ST_ABT_RES n e) 2))) ∧
      (∃ u, exec (.canRxqAck (.pair p) n qu d) s = .next u ∧ u.regs = s.regs ∧ Tbl.get 0 (u.canOf n).owned qu = min (Tbl.get 0 (s.canOf n).owned qu)
        ((s.fld (CAN_RXQ_HEAD n qu) + 2 ^ s.fld (CAN_RXQ_CTRL_SIZE n qu) - d.toNat % 2 ^ 10 % 2 ^ s.fld (CAN_RXQ_CTRL_SIZE n qu)) %
          2 ^ s.fld (CAN_RXQ_CTRL_SIZE n qu)))) ∧
    (s.fld (CAN_CTRL_MODE n) = 0 ∨ s.fld (CAN_STAT_ERR n) = 2 → exec (.busIntegrationEnd n) s = .next s) ∧
    (s.fld (CAN_CTRL_MODE n) ≠ 0 → s.fld (CAN_STAT_ERR n) ≠ 2 → ∃ u, exec (.busIntegrationEnd n) s = .next u ∧ u.fld (CAN_STAT_SYNC n) = 1 ∧
      (contenders s n = [] → u.out = s.out)) ∧
    (s.flag (CAN_STAT_SYNC n) = false ∨ s.fld (CAN_STAT_ERR n) = 2 ∨ (s.canOf n).now.isSome = true →
      exec (.canFrameReceived n f) s = .next s ∧ exec (.canReceiveError n er hv) s = .next s) ∧
    (s.fld (CAN_CTRL_MODE n) = 1 → s.flag (CAN_STAT_SYNC n) = true → s.fld (CAN_STAT_ERR n) ≠ 2 → (s.canOf n).now = none → (s.canOf n).leaving = false →
      (∃ u, exec (.canReceiveError n er hv) s = .next u ∧ u.fld (CAN_STAT_LEC n) = lecOf er ∧
        (u.canOf n).rec_ = min 255 ((s.canOf n).rec_ + if hv then 8 else 1) ∧ (u.canOf n).tec = (s.canOf n).tec ∧ u.bytes = s.bytes) ∧
      (fjopOfFrame s n f = none → f.rtr = false → ∃ u, exec (.canFrameReceived n f) s = .next u ∧ u.fld (CAN_STAT_LEC n) = 0 ∧ u.bytes = s.bytes ∧
        ((s.canOf n).rec_ ≤ 127 → (u.canOf n).rec_ = (s.canOf n).rec_ - 1) ∧
        (127 < (s.canOf n).rec_ → 119 ≤ (u.canOf n).rec_ ∧ (u.canOf n).rec_ ≤ 127) ∧
        ((s.canOf n).walk.length < 3 → (u.canOf n).walk = (s.canOf n).walk ++ [(f, (s.canOf n).lists)]) ∧
        (3 ≤ (s.canOf n).walk.length → (u.canOf n).walk = (s.canOf n).walk ∧
          u.fld (CAN_CNT_RX_LOST n) = satInc 8 (s.fld (CAN_CNT_RX_LOST n)) % 2 ^ 8))) ∧
    ((s.canOf n).walk = [] → exec (.filterWalkEnd n) s = .next s) ∧
    (∀ l, (s.canOf n).walk = [(f, l)] → f.ide = false →
      (∀ i act, walkList s l.stdBase f.id 11 0 l.stdCnt = some (i, act) →
        (act = 0 → ∃ u, exec (.filterWalkEnd n) s = .next u ∧ (u.canOf n).walk = [] ∧ u.bytes = s.bytes ∧ u.regs = s.regs) ∧
        (5 ≤ act → ∃ u, exec (.filterWalkEnd n) s = .next u ∧ u.bytes = s.bytes ∧ u.fld (CAN_CNT_FLT_ERR n) = satInc 8 (s.fld (CAN_CNT_FLT_ERR n)) % 2 ^ 8) ∧
        (act = qu.val + 1 → s.flag (CAN_RXQ_CTRL_EN n qu) = false ∨ 2 ^ s.fld (CAN_RXQ_CTRL_SIZE n qu) ≤ Tbl.get 0 (s.canOf n).owned qu →
          ∃ u, exec (.filterWalkEnd n) s = .next u ∧ u.bytes = s.bytes ∧ u.fld (CAN_IRQ_RX_OVF n) = 1 ∧
            u.fld (CAN_RXQ_CTRL_OVF_CNT n qu) = satInc 16 (s.fld (CAN_RXQ_CTRL_OVF_CNT n qu)) % 2 ^ 16) ∧
        (act = qu.val + 1 → s.flag (CAN_RXQ_CTRL_EN n qu) = true → Tbl.get 0 (s.canOf n).owned qu < 2 ^ s.fld (CAN_RXQ_CTRL_SIZE n qu) →
          ∃ u, exec (.filterWalkEnd n) s = .next u ∧ (u.canOf n).walk = [] ∧ (u.fld (CAN_IRQ_RXQ n)).testBit qu = true ∧
            Tbl.get 0 (u.canOf n).owned qu = Tbl.get 0 (s.canOf n).owned qu + 1 ∧
            u.fld (CAN_RXQ_HEAD n qu) = (s.fld (CAN_RXQ_HEAD n qu) + 1) % 2 ^ s.fld (CAN_RXQ_CTRL_SIZE n qu) % 2 ^ 10 ∧
            u.num (s.fld (CAN_RXQ_BASE n qu) + 80 * s.fld (CAN_RXQ_HEAD n qu)) 4 = (f.id + bit f.rtr * 2 ^ 30 + bit f.fdf * 2 ^ 31) % 2 ^ 32 ∧
            u.bytesAt (s.fld (CAN_RXQ_BASE n qu) + 80 * s.fld (CAN_RXQ_HEAD n qu) + 16) 64 = (f.data ++ List.replicate 64 0).take 64)) ∧
      (walkList s l.stdBase f.id 11 0 l.stdCnt = none → s.fld (CAN_FLT_POL_NM_STD n) = 0 → ∃ u, exec (.filterWalkEnd n) s = .next u ∧
        (u.canOf n).walk = [] ∧ u.bytes = s.bytes ∧ u.regs = s.regs)) ∧
    ((s.canOf n).tec < 256 ∨ s.fld (CAN_STAT_ERR n) = 2 → exec (.canBusOff n) s = .next s) ∧
    (256 ≤ (s.canOf n).tec → s.fld (CAN_STAT_ERR n) ≠ 2 → ∃ u, exec (.canBusOff n) s = .next u ∧ u.fld (CAN_STAT_ERR n) = 2 ∧ u.fld (CAN_STAT_SYNC n) = 0 ∧
      u.fld (CAN_STAT_RECOVERING n) = s.fld (CAN_CTRL_AUTO_RECOVER n) ∧ u.fld (CAN_IRQ_BOFF n) = 1 ∧
      u.fld (CAN_CNT_BOFF_CNT n) = satInc 8 (s.fld (CAN_CNT_BOFF_CNT n)) % 2 ^ 8) ∧
    (s.fld (CAN_STAT_RECOVERING n) = 0 ∨ s.fld (CAN_CTRL_MODE n) = 0 → exec (.busOffRecoveryEnd n) s = .next s) ∧
    (s.fld (CAN_STAT_RECOVERING n) = 1 → s.fld (CAN_CTRL_MODE n) ≠ 0 → ∃ u, exec (.busOffRecoveryEnd n) s = .next u ∧ u.fld (CAN_STAT_ERR n) = 0 ∧ u.fld (CAN_STAT_TEC n) = 0 ∧
      u.fld (CAN_STAT_REC n) = 0 ∧ u.fld (CAN_STAT_SYNC n) = 1 ∧ u.fld (CAN_STAT_RECOVERING n) = 0 ∧ (u.canOf n).tec = 0 ∧ (u.canOf n).rec_ = 0) ∧
    ((s.canOf n).now = none → exec (.canAttemptEnd n .lost) s = .next s ∧ exec (.canAttemptEnd n (.error er hv)) s = .next s ∧
      exec (.canTxCompletion n) s = .next s) ∧
    (∀ t : CanTx, (s.canOf n).now = some (.entry e.val) → Tbl.get {} (s.canOf n).tx e = t →
      (t.abort = false → t.oneshot = false → ∃ u, exec (.canAttemptEnd n .lost) s = .next u ∧ entryState u n e = 1 ∧ (u.canOf n).now = none ∧
        (u.canOf n).tec = (s.canOf n).tec ∧ u.out = s.out) ∧
      (t.abort = true → ∃ u, exec (.canAttemptEnd n .lost) s = .next u ∧ entryState u n e = 3 ∧ u.fld (CAN_TX_ST_STATUS n e) = Status.ABORTED.code ∧
        u.fld (CAN_TX_ST_ABT_RES n e) = 1) ∧
      (t.abort = false → t.oneshot = true → ∃ u, exec (.canAttemptEnd n .lost) s = .next u ∧ entryState u n e = 3 ∧
        u.fld (CAN_TX_ST_STATUS n e) = Status.CAN_SEND_FAILED.code) ∧
      (er ≠ .ack → ∃ u, exec (.canAttemptEnd n (.error er hv)) s = .next u ∧ u.fld (CAN_STAT_LEC n) = lecOf er ∧ (u.canOf n).tec = (s.canOf n).tec + 8) ∧
      (t.abort = false → t.oneshot = false → s.fld (CAN_TX_ST_ACK_TRIES n e) < 255 → s.fld (CAN_CTRL_ACK_LIMIT n) ≤ s.fld (CAN_TX_ST_ACK_TRIES n e) + 1 →
        ∃ u, exec (.canAttemptEnd n (.error .ack false)) s = .next u ∧ entryState u n e = 3 ∧ u.fld (CAN_TX_ST_STATUS n e) = Status.NO_LISTENER.code ∧
          (u.canOf n).tec = (s.canOf n).tec + 8) ∧
      (∃ u, exec (.canTxCompletion n) s = .next u ∧ entryState u n e = 3 ∧ u.fld (CAN_TX_ST_STATUS n e) = Status.OK.code ∧ u.fld (CAN_STAT_LEC n) = 0 ∧
        (u.canOf n).tec = (s.canOf n).tec - 1 ∧ (u.fld (CAN_TX_DONE n (e.val / 32))).testBit (e.val % 32) = true ∧
        ∀ r, t.host = some r → s.runs = true → ∃ y ∈ u.results, y.ref = r ∧ y.status = .OK ∧ y.at_ = s.mtime)) ∧
    ((s.fjopOf c).tx = none ∨ 8 ≤ s.fld (SAF_FJ_CFG_CHANNEL c) → exec (.safetyBufferWrite c false) s = .next s) ∧
    (∀ x, (s.fjopOf c).tx = some x → s.fld (SAF_FJ_CFG_CHANNEL c) = n.val → ∃ u, exec (.safetyBufferWrite c false) s = .next u ∧ (u.fjopOf c).tx = none ∧
      (Tbl.get {} (u.canOf n).safety c).frame.id = s.fld (SAF_FJ_ADDR c) ∧ ((Tbl.get {} (u.canOf n).safety c).frame.data).take x.length = x.take 64 ∧
      (u.canOf n).sub = (s.canOf n).sub + 1 ∧ u.regs = s.regs ∧ u.out = s.out) ∧
    (s.flag (CAN_CTRL_PXE n) = false ∨ s.flag (CAN_STAT_SYNC n) = false ∨ s.fld (CAN_CTRL_MODE n) = 0 → exec (.canProtocolException n) s = .next s) ∧
    (s.flag (CAN_CTRL_PXE n) = true → s.flag (CAN_STAT_SYNC n) = true → s.fld (CAN_CTRL_MODE n) ≠ 0 → ∃ u, exec (.canProtocolException n) s = .next u ∧
      u.fld (CAN_CNT_PXE_CNT n) = satInc 8 (s.fld (CAN_CNT_PXE_CNT n)) % 2 ^ 8 ∧ u.fld (CAN_STAT_SYNC n) = 0 ∧ u.fld (CAN_IRQ_PXE n) = 1) ∧
    (∀ a y, s.hostCmd c d.toNat 0x31 a → s.hostReach = true → argNum a 0 1 = n.val →
      (∃ u, exec (.canSend c d none busy) s = .next u ∧ u.ended c d.toNat s.mtime .HOST_DMA_ERROR none ∧ u.can = s.can) ∧
      ((∀ j : Fin 64, 48 ≤ j.val → entryState s n j = 1 ∨ entryState s n j = 2) → ∃ u, exec (.canSend c d (some y) false) s = .next u ∧
        u.ended c d.toNat s.mtime .CAN_TX_BUSY none ∧ u.can = s.can) ∧
      (48 ≤ e.val → entryState s n e ≠ 1 → entryState s n e ≠ 2 → (∀ j : Fin 64, 48 ≤ j.val → j.val < e.val → entryState s n j = 1 ∨ entryState s n j = 2) →
        ∀ x : CanFrame, x = ⟨if (argNum a 1 1).testBit 0 then argNum a 4 4 % 2 ^ 29 else argNum a 4 4 % 2 ^ 11, (argNum a 1 1).testBit 0, false,
            (argNum a 1 1).testBit 1, (argNum a 1 1).testBit 2, false, 0, y.take (argNum a 2 1)⟩ →
          (requestStatus s n e x (argNum a 2 1) = .OK → ∃ u, exec (.canSend c d (some y) false) s = .next u ∧ entryState u n e = 1 ∧
            (Tbl.get {} (u.canOf n).tx e).host = some ⟨c, d.toNat⟩ ∧ (Tbl.get {} (u.canOf n).tx e).frame.data = x.data ∧ u.results = s.results) ∧
          (requestStatus s n e x (argNum a 2 1) ≠ .OK → ∃ u, exec (.canSend c d (some y) false) s = .next u ∧ u.can = s.can ∧
            u.ended c d.toNat s.mtime (requestStatus s n e x (argNum a 2 1)) none)))

/-- R500-R512: test and field test. The challenge is a free value (log 3); the digest and the signature check are opaque. -/
def Obligations.TestAccess : Prop :=
  ∀ (s : State) (p : Fin 12) (c : BitVec 5) (b : BoundaryScan) (key sig : BitVec 512) (d : Word) (n : Fin 48) (res : SstResult), s.quiet = true →
    (exec (.tapReset false) s = .next { s with tap := { s.tap with instr := 1 } }) ∧
    (∃ u, exec (.tapReset true) s = .next u ∧ u.tap.instr = 1 ∧ u.fld TST_STAT_UNLOCKED = 0 ∧ u.out = s.out) ∧
    (c.toNat = 1 ∨ c.toNat = 2 ∨ c.toNat = 8 ∨ c.toNat = 31 → exec (.instructionLoad ⟨c, none⟩) s = .next { s with tap := { s.tap with instr := c.toNat }, out := s.out ++ [.scan 5 1] }) ∧
    (3 ≤ c.toNat → c.toNat ≤ 6 → (policyOpen s = true → s.tap.resetLow = true →
        exec (.instructionLoad ⟨c, none⟩) s = .next { s with tap := { s.tap with instr := c.toNat }, out := s.out ++ [.scan 5 1] }) ∧
      (policyOpen s = false ∨ s.tap.resetLow = false → ∃ u, exec (.instructionLoad ⟨c, none⟩) s = .next u ∧ u.tap.instr = 31 ∧ u.tap.cells = s.tap.cells ∧ u.fld TST_STAT_REFUSED = 1)) ∧
    (c.toNat = 0x10 ∨ c.toNat = 0x11 → (policyOpen s = true → exec (.instructionLoad ⟨c, none⟩) s = .next { s with tap := { s.tap with instr := c.toNat }, out := s.out ++ [.scan 5 1] }) ∧
      (policyOpen s = false → ∃ u, exec (.instructionLoad ⟨c, none⟩) s = .next u ∧ u.tap.instr = 31 ∧ u.tap.cells = s.tap.cells ∧ u.fld TST_STAT_REFUSED = 1)) ∧
    (c.toNat = 0 ∨ c.toNat = 7 ∨ (9 ≤ c.toNat ∧ c.toNat ≤ 15) ∨ (18 ≤ c.toNat ∧ c.toNat ≤ 30) →
      exec (.instructionLoad ⟨c, none⟩) s = .next { s with tap := { s.tap with instr := 31 }, out := s.out ++ [.scan 5 1] }) ∧
    (c.toNat = 2 → ∃ u, exec (.instructionLoad ⟨c, some b⟩) s = .next u ∧ u.tap.instr = 2 ∧ u.tap.cells = b.shifted ∧ u.regs = s.regs ∧
      u.out = s.out ++ [.scan 5 1, .scan 612 b.pins.toNat]) ∧
    (c.toNat = 3 ∨ c.toNat = 6 → policyOpen s = true → s.tap.resetLow = true → ∃ u, exec (.instructionLoad ⟨c, some b⟩) s = .next u ∧
      u.tap.instr = c.toNat ∧ u.tap.cells = b.shifted ∧ u.regs = s.regs ∧ u.out = s.out ++ [.scan 5 1, .scan 612 b.pins.toNat]) ∧
    (c.toNat = 4 ∨ c.toNat = 5 → policyOpen s = true → s.tap.resetLow = true → ∃ u, exec (.instructionLoad ⟨c, some b⟩) s = .next u ∧
      u.tap.instr = c.toNat ∧ u.tap.cells = s.tap.cells ∧ u.out = s.out ++ [.scan 5 1, .scan 1 0]) ∧
    (c.toNat = 1 → ∃ u, exec (.instructionLoad ⟨c, some b⟩) s = .next u ∧ u.tap.cells = s.tap.cells ∧ u.out = s.out ++ [.scan 5 1, .scan 32 (idcode s)]) ∧
    (∀ l, 784 ≤ l → l ≤ 799 → landDrive s l = .system) ∧
    (∀ l, 806 ≤ l → l ≤ 821 → (s.tap.instr = 3 ∨ s.tap.instr = 4 → landDrive s l = if landCell s l 0 then .level (landCell s l 1) else .released) ∧
      (s.tap.instr = 5 → landDrive s l = .released) ∧
      (s.tap.instr = 6 → landDrive s l = .system) ∧ abmOf s l = none) ∧
    (∀ l, 822 ≤ l → l ≤ 949 → (s.tap.instr = 5 → abmOf s l = some { core := false }) ∧ (s.tap.instr = 1 → abmOf s l = some {}) ∧
      (s.tap.instr = 6 → ∃ a, abmOf s l = some a ∧ a.core = true ∧ a.tie = none)) ∧
    (s.tap.instr ≠ 8 → exec (.authCapture true) s = .next s ∧ exec (.authCapture false) s = .next s ∧ exec (.authUpdate key sig) s = .next s) ∧
    (s.tap.instr = 8 → exec (.authCapture false) s = .next (s.emit (.auth 0 (Config.identity 0 % 2 ^ 46))) ∧
      ∃ u x, exec (.authCapture true) s = .next u ∧ x < 2 ^ 256 ∧ u.tap.challenge = some x ∧ u.out = s.out ++ [.auth x (Config.identity 0 % 2 ^ 46)] ∧
        u.regs = s.regs) ∧
    (s.tap.challenge = none ∨ s.tap.check.isSome = true → exec (.authUpdate key sig) s = .next s) ∧
    (∀ x, s.tap.instr = 8 → s.tap.challenge = some x → s.tap.check = none → ∃ u, exec (.authUpdate key sig) s = .next u ∧ u.tap.challenge = none ∧
      u.tap.check = some (x, key.toNat, sig.toNat) ∧ u.regs = s.regs) ∧
    (s.tap.check = none → exec .authCheckEnd s = .next s) ∧
    (∀ x k g, s.tap.check = some (x, k, g) → ∃ u, exec .authCheckEnd s = .next u ∧ u.tap.check = none ∧
      (Config.sha256 (beBytes 64 k) ≠ s.tap.keyHash → u.fld TST_STAT_UNLOCKED = s.fld TST_STAT_UNLOCKED ∧
        u.fld TST_STAT_AUTH_FAIL = satInc TST_STAT_AUTH_FAIL.width (s.fld TST_STAT_AUTH_FAIL) % 2 ^ TST_STAT_AUTH_FAIL.width) ∧
      (Config.sha256 (beBytes 64 k) = s.tap.keyHash → Config.ecdsaHolds (beBytes 64 k) (beBytes 64 g)
          (Config.sha256 (beBytes 32 x ++ beBytes 6 (Config.identity 0 % 2 ^ 46) ++ beBytes 64 k)) = true →
        u.fld TST_STAT_UNLOCKED = 1 ∧ u.fld TST_STAT_AUTH_FAIL = s.fld TST_STAT_AUTH_FAIL)) ∧
    (d.toNat % 2 = 0 → exec (.relock (.pair p) d) s = .next s ∧ exec (.selftestGo (.pair p) d) s = .next s) ∧
    (d.toNat % 2 = 1 → exec (.relock (.pair p) d) s = .next (s.put TST_STAT_UNLOCKED 0)) ∧
    (141 ≤ bitsOf d.toNat 0 8 ∨ 141 ≤ bitsOf d.toNat 8 8 → exec (.atbSelect (.pair p) d) s = .next (s.refuse tstErr .TST_RANGE)) ∧
    (bitsOf d.toNat 0 8 < 141 → bitsOf d.toNat 8 8 < 141 →
      (atbBusy s (bitsOf d.toNat 0 8) = true ∨ atbBusy s (bitsOf d.toNat 8 8) = true → exec (.atbSelect (.pair p) d) s = .next (s.refuse tstErr .TST_BUSY)) ∧
      (atbBusy s (bitsOf d.toNat 0 8) = false → atbBusy s (bitsOf d.toNat 8 8) = false → ∃ u, exec (.atbSelect (.pair p) d) s = .next u ∧
        u.fld TST_ATB_SEL_SRC1 = bitsOf d.toNat 0 8 ∧ u.fld TST_ATB_SEL_SRC2 = bitsOf d.toNat 8 8 ∧ u.out = s.out)) ∧
    (d.toNat % 2 = 1 → s.flag TST_SST_STAT_BUSY = true → exec (.selftestGo (.pair p) d) s = .next (s.refuse tstErr .TST_BUSY)) ∧
    (d.toNat % 2 = 1 → s.flag TST_SST_STAT_BUSY = false → (s.fld TST_SST_MASK_LO_MASK + 2 ^ 32 * s.fld TST_SST_MASK_HI_MASK).testBit n = true →
      sstSkipped s n = false → ∃ u, exec (.selftestGo (.pair p) d) s = .next u ∧ u.fld TST_SST_STAT_BUSY = 1 ∧ u.sst.left.testBit n = true ∧
        sstRes u n = 0 ∧ u.out = s.out) ∧
    (sstTurn s n = false → exec (.satelliteSelftestResult n res) s = .next s) ∧
    (sstTurn s n = true → s.sst.left < 2 ^ 48 → ∃ u, exec (.satelliteSelftestResult n res) s = .next u ∧ sstRes u n = sstCode res ∧
      u.sst.left = clearBit s.sst.left n ∧ (clearBit s.sst.left n ≠ 0 → u.fld TST_SST_STAT_BUSY = s.fld TST_SST_STAT_BUSY ∧ u.results = s.results) ∧
      (clearBit s.sst.left n = 0 → u.fld TST_SST_STAT_BUSY = 0 ∧ ∀ r, (WaitOn.selfTest, r) ∈ s.waits → ∃ y ∈ u.results, y.ref = r ∧ y.status = .OK ∧
        y.result = some (sstNotPassed u))) ∧
    (s.flag TST_TRC_CFG_EN = false → exec .traceWriteTimeout s = .next s) ∧
    (s.flag TST_TRC_CFG_EN = true → exec .traceWriteTimeout s = .next (s.inc TST_TRC_CNT_DROP))
end

