-- ==== Sys2Proof/Laws/State.lean ====
section
/-! SUPPORT. What each named update of the state leaves alone, field by field, so that no later proof unfolds a record update. -/

namespace Sys2Proof.Machine

variable (s : State)

/-! ### put -/

@[simp] theorem State.put_pending (f : Fld) (v : Nat) : (s.put f v).pending = s.pending := rfl
@[simp] theorem State.put_variant (f : Fld) (v : Nat) : (s.put f v).variant = s.variant := rfl
@[simp] theorem State.put_mtime (f : Fld) (v : Nat) : (s.put f v).mtime = s.mtime := rfl
@[simp] theorem State.put_timeRuns (f : Fld) (v : Nat) : (s.put f v).timeRuns = s.timeRuns := rfl
@[simp] theorem State.put_words (f : Fld) (v : Nat) : (s.put f v).words = s.words := rfl
@[simp] theorem State.put_bytes (f : Fld) (v : Nat) : (s.put f v).bytes = s.bytes := rfl
@[simp] theorem State.put_grp (f : Fld) (v : Nat) : (s.put f v).grp = s.grp := rfl
@[simp] theorem State.put_leg (f : Fld) (v : Nat) : (s.put f v).leg = s.leg := rfl
@[simp] theorem State.put_filtAt (f : Fld) (v : Nat) : (s.put f v).filtAt = s.filtAt := rfl
@[simp] theorem State.put_roles (f : Fld) (v : Nat) : (s.put f v).roles = s.roles := rfl
@[simp] theorem State.put_rx (f : Fld) (v : Nat) : (s.put f v).rx = s.rx := rfl
@[simp] theorem State.put_lk (f : Fld) (v : Nat) : (s.put f v).lk = s.lk := rfl
@[simp] theorem State.put_adc (f : Fld) (v : Nat) : (s.put f v).adc = s.adc := rfl
@[simp] theorem State.put_modu (f : Fld) (v : Nat) : (s.put f v).modu = s.modu := rfl
@[simp] theorem State.put_mirLatch (f : Fld) (v : Nat) : (s.put f v).mirLatch = s.mirLatch := rfl
@[simp] theorem State.put_fb (f : Fld) (v : Nat) : (s.put f v).fb = s.fb := rfl
@[simp] theorem State.put_fbLatch (f : Fld) (v : Nat) : (s.put f v).fbLatch = s.fbLatch := rfl
@[simp] theorem State.put_emu (f : Fld) (v : Nat) : (s.put f v).emu = s.emu := rfl
@[simp] theorem State.put_hring (f : Fld) (v : Nat) : (s.put f v).hring = s.hring := rfl
@[simp] theorem State.put_busMaster (f : Fld) (v : Nat) : (s.put f v).busMaster = s.busMaster := rfl
@[simp] theorem State.put_views (f : Fld) (v : Nat) : (s.put f v).views = s.views := rfl
@[simp] theorem State.put_trcSlot (f : Fld) (v : Nat) : (s.put f v).trcSlot = s.trcSlot := rfl
@[simp] theorem State.put_trcLink (f : Fld) (v : Nat) : (s.put f v).trcLink = s.trcLink := rfl
@[simp] theorem State.put_eng (f : Fld) (v : Nat) : (s.put f v).eng = s.eng := rfl
@[simp] theorem State.put_lib (f : Fld) (v : Nat) : (s.put f v).lib = s.lib := rfl
@[simp] theorem State.put_act (f : Fld) (v : Nat) : (s.put f v).act = s.act := rfl
@[simp] theorem State.put_cnv (f : Fld) (v : Nat) : (s.put f v).cnv = s.cnv := rfl
@[simp] theorem State.put_chg (f : Fld) (v : Nat) : (s.put f v).chg = s.chg := rfl
@[simp] theorem State.put_pair (f : Fld) (v : Nat) : (s.put f v).pair = s.pair := rfl
@[simp] theorem State.put_startFault (f : Fld) (v : Nat) : (s.put f v).startFault = s.startFault := rfl
@[simp] theorem State.put_sag (f : Fld) (v : Nat) : (s.put f v).sag = s.sag := rfl
@[simp] theorem State.put_sagGrp (f : Fld) (v : Nat) : (s.put f v).sagGrp = s.sagGrp := rfl
@[simp] theorem State.put_sout (f : Fld) (v : Nat) : (s.put f v).sout = s.sout := rfl
@[simp] theorem State.put_fjop (f : Fld) (v : Nat) : (s.put f v).fjop = s.fjop := rfl
@[simp] theorem State.put_waits (f : Fld) (v : Nat) : (s.put f v).waits = s.waits := rfl
@[simp] theorem State.put_results (f : Fld) (v : Nat) : (s.put f v).results = s.results := rfl
@[simp] theorem State.put_hq (f : Fld) (v : Nat) : (s.put f v).hq = s.hq := rfl
@[simp] theorem State.put_jnl (f : Fld) (v : Nat) : (s.put f v).jnl = s.jnl := rfl
@[simp] theorem State.put_tlm (f : Fld) (v : Nat) : (s.put f v).tlm = s.tlm := rfl
@[simp] theorem State.put_dipHold (f : Fld) (v : Nat) : (s.put f v).dipHold = s.dipHold := rfl
@[simp] theorem State.put_deferred (f : Fld) (v : Nat) : (s.put f v).deferred = s.deferred := rfl
@[simp] theorem State.put_perst (f : Fld) (v : Nat) : (s.put f v).perst = s.perst := rfl
@[simp] theorem State.put_tripPins (f : Fld) (v : Nat) : (s.put f v).tripPins = s.tripPins := rfl
@[simp] theorem State.put_fab (f : Fld) (v : Nat) : (s.put f v).fab = s.fab := rfl
@[simp] theorem State.put_can (f : Fld) (v : Nat) : (s.put f v).can = s.can := rfl
@[simp] theorem State.put_sup (f : Fld) (v : Nat) : (s.put f v).sup = s.sup := rfl
@[simp] theorem State.put_thm (f : Fld) (v : Nat) : (s.put f v).thm = s.thm := rfl
@[simp] theorem State.put_tap (f : Fld) (v : Nat) : (s.put f v).tap = s.tap := rfl
@[simp] theorem State.put_sst (f : Fld) (v : Nat) : (s.put f v).sst = s.sst := rfl
@[simp] theorem State.put_coldWant (f : Fld) (v : Nat) : (s.put f v).coldWant = s.coldWant := rfl
@[simp] theorem State.put_warmWant (f : Fld) (v : Nat) : (s.put f v).warmWant = s.warmWant := rfl
@[simp] theorem State.put_clkBad (f : Fld) (v : Nat) : (s.put f v).clkBad = s.clkBad := rfl
@[simp] theorem State.put_img (f : Fld) (v : Nat) : (s.put f v).img = s.img := rfl
@[simp] theorem State.put_out (f : Fld) (v : Nat) : (s.put f v).out = s.out := rfl
@[simp] theorem State.put_free (f : Fld) (v : Nat) : (s.put f v).free = s.free := rfl

/-! ### putFlag -/

@[simp] theorem State.putFlag_pending (f : Fld) (b : Bool) : (s.putFlag f b).pending = s.pending := rfl
@[simp] theorem State.putFlag_variant (f : Fld) (b : Bool) : (s.putFlag f b).variant = s.variant := rfl
@[simp] theorem State.putFlag_mtime (f : Fld) (b : Bool) : (s.putFlag f b).mtime = s.mtime := rfl
@[simp] theorem State.putFlag_timeRuns (f : Fld) (b : Bool) : (s.putFlag f b).timeRuns = s.timeRuns := rfl
@[simp] theorem State.putFlag_words (f : Fld) (b : Bool) : (s.putFlag f b).words = s.words := rfl
@[simp] theorem State.putFlag_bytes (f : Fld) (b : Bool) : (s.putFlag f b).bytes = s.bytes := rfl
@[simp] theorem State.putFlag_grp (f : Fld) (b : Bool) : (s.putFlag f b).grp = s.grp := rfl
@[simp] theorem State.putFlag_leg (f : Fld) (b : Bool) : (s.putFlag f b).leg = s.leg := rfl
@[simp] theorem State.putFlag_filtAt (f : Fld) (b : Bool) : (s.putFlag f b).filtAt = s.filtAt := rfl
@[simp] theorem State.putFlag_roles (f : Fld) (b : Bool) : (s.putFlag f b).roles = s.roles := rfl
@[simp] theorem State.putFlag_rx (f : Fld) (b : Bool) : (s.putFlag f b).rx = s.rx := rfl
@[simp] theorem State.putFlag_lk (f : Fld) (b : Bool) : (s.putFlag f b).lk = s.lk := rfl
@[simp] theorem State.putFlag_adc (f : Fld) (b : Bool) : (s.putFlag f b).adc = s.adc := rfl
@[simp] theorem State.putFlag_modu (f : Fld) (b : Bool) : (s.putFlag f b).modu = s.modu := rfl
@[simp] theorem State.putFlag_mirLatch (f : Fld) (b : Bool) : (s.putFlag f b).mirLatch = s.mirLatch := rfl
@[simp] theorem State.putFlag_fb (f : Fld) (b : Bool) : (s.putFlag f b).fb = s.fb := rfl
@[simp] theorem State.putFlag_fbLatch (f : Fld) (b : Bool) : (s.putFlag f b).fbLatch = s.fbLatch := rfl
@[simp] theorem State.putFlag_emu (f : Fld) (b : Bool) : (s.putFlag f b).emu = s.emu := rfl
@[simp] theorem State.putFlag_hring (f : Fld) (b : Bool) : (s.putFlag f b).hring = s.hring := rfl
@[simp] theorem State.putFlag_busMaster (f : Fld) (b : Bool) : (s.putFlag f b).busMaster = s.busMaster := rfl
@[simp] theorem State.putFlag_views (f : Fld) (b : Bool) : (s.putFlag f b).views = s.views := rfl
@[simp] theorem State.putFlag_trcSlot (f : Fld) (b : Bool) : (s.putFlag f b).trcSlot = s.trcSlot := rfl
@[simp] theorem State.putFlag_trcLink (f : Fld) (b : Bool) : (s.putFlag f b).trcLink = s.trcLink := rfl
@[simp] theorem State.putFlag_eng (f : Fld) (b : Bool) : (s.putFlag f b).eng = s.eng := rfl
@[simp] theorem State.putFlag_lib (f : Fld) (b : Bool) : (s.putFlag f b).lib = s.lib := rfl
@[simp] theorem State.putFlag_act (f : Fld) (b : Bool) : (s.putFlag f b).act = s.act := rfl
@[simp] theorem State.putFlag_cnv (f : Fld) (b : Bool) : (s.putFlag f b).cnv = s.cnv := rfl
@[simp] theorem State.putFlag_chg (f : Fld) (b : Bool) : (s.putFlag f b).chg = s.chg := rfl
@[simp] theorem State.putFlag_pair (f : Fld) (b : Bool) : (s.putFlag f b).pair = s.pair := rfl
@[simp] theorem State.putFlag_startFault (f : Fld) (b : Bool) : (s.putFlag f b).startFault = s.startFault := rfl
@[simp] theorem State.putFlag_sag (f : Fld) (b : Bool) : (s.putFlag f b).sag = s.sag := rfl
@[simp] theorem State.putFlag_sagGrp (f : Fld) (b : Bool) : (s.putFlag f b).sagGrp = s.sagGrp := rfl
@[simp] theorem State.putFlag_sout (f : Fld) (b : Bool) : (s.putFlag f b).sout = s.sout := rfl
@[simp] theorem State.putFlag_fjop (f : Fld) (b : Bool) : (s.putFlag f b).fjop = s.fjop := rfl
@[simp] theorem State.putFlag_waits (f : Fld) (b : Bool) : (s.putFlag f b).waits = s.waits := rfl
@[simp] theorem State.putFlag_results (f : Fld) (b : Bool) : (s.putFlag f b).results = s.results := rfl
@[simp] theorem State.putFlag_hq (f : Fld) (b : Bool) : (s.putFlag f b).hq = s.hq := rfl
@[simp] theorem State.putFlag_jnl (f : Fld) (b : Bool) : (s.putFlag f b).jnl = s.jnl := rfl
@[simp] theorem State.putFlag_tlm (f : Fld) (b : Bool) : (s.putFlag f b).tlm = s.tlm := rfl
@[simp] theorem State.putFlag_dipHold (f : Fld) (b : Bool) : (s.putFlag f b).dipHold = s.dipHold := rfl
@[simp] theorem State.putFlag_deferred (f : Fld) (b : Bool) : (s.putFlag f b).deferred = s.deferred := rfl
@[simp] theorem State.putFlag_perst (f : Fld) (b : Bool) : (s.putFlag f b).perst = s.perst := rfl
@[simp] theorem State.putFlag_tripPins (f : Fld) (b : Bool) : (s.putFlag f b).tripPins = s.tripPins := rfl
@[simp] theorem State.putFlag_fab (f : Fld) (b : Bool) : (s.putFlag f b).fab = s.fab := rfl
@[simp] theorem State.putFlag_can (f : Fld) (b : Bool) : (s.putFlag f b).can = s.can := rfl
@[simp] theorem State.putFlag_sup (f : Fld) (b : Bool) : (s.putFlag f b).sup = s.sup := rfl
@[simp] theorem State.putFlag_thm (f : Fld) (b : Bool) : (s.putFlag f b).thm = s.thm := rfl
@[simp] theorem State.putFlag_tap (f : Fld) (b : Bool) : (s.putFlag f b).tap = s.tap := rfl
@[simp] theorem State.putFlag_sst (f : Fld) (b : Bool) : (s.putFlag f b).sst = s.sst := rfl
@[simp] theorem State.putFlag_coldWant (f : Fld) (b : Bool) : (s.putFlag f b).coldWant = s.coldWant := rfl
@[simp] theorem State.putFlag_warmWant (f : Fld) (b : Bool) : (s.putFlag f b).warmWant = s.warmWant := rfl
@[simp] theorem State.putFlag_clkBad (f : Fld) (b : Bool) : (s.putFlag f b).clkBad = s.clkBad := rfl
@[simp] theorem State.putFlag_img (f : Fld) (b : Bool) : (s.putFlag f b).img = s.img := rfl
@[simp] theorem State.putFlag_out (f : Fld) (b : Bool) : (s.putFlag f b).out = s.out := rfl
@[simp] theorem State.putFlag_free (f : Fld) (b : Bool) : (s.putFlag f b).free = s.free := rfl

/-! ### inc -/

@[simp] theorem State.inc_pending (f : Fld) : (s.inc f).pending = s.pending := rfl
@[simp] theorem State.inc_variant (f : Fld) : (s.inc f).variant = s.variant := rfl
@[simp] theorem State.inc_mtime (f : Fld) : (s.inc f).mtime = s.mtime := rfl
@[simp] theorem State.inc_timeRuns (f : Fld) : (s.inc f).timeRuns = s.timeRuns := rfl
@[simp] theorem State.inc_words (f : Fld) : (s.inc f).words = s.words := rfl
@[simp] theorem State.inc_bytes (f : Fld) : (s.inc f).bytes = s.bytes := rfl
@[simp] theorem State.inc_grp (f : Fld) : (s.inc f).grp = s.grp := rfl
@[simp] theorem State.inc_leg (f : Fld) : (s.inc f).leg = s.leg := rfl
@[simp] theorem State.inc_filtAt (f : Fld) : (s.inc f).filtAt = s.filtAt := rfl
@[simp] theorem State.inc_roles (f : Fld) : (s.inc f).roles = s.roles := rfl
@[simp] theorem State.inc_rx (f : Fld) : (s.inc f).rx = s.rx := rfl
@[simp] theorem State.inc_lk (f : Fld) : (s.inc f).lk = s.lk := rfl
@[simp] theorem State.inc_adc (f : Fld) : (s.inc f).adc = s.adc := rfl
@[simp] theorem State.inc_modu (f : Fld) : (s.inc f).modu = s.modu := rfl
@[simp] theorem State.inc_mirLatch (f : Fld) : (s.inc f).mirLatch = s.mirLatch := rfl
@[simp] theorem State.inc_fb (f : Fld) : (s.inc f).fb = s.fb := rfl
@[simp] theorem State.inc_fbLatch (f : Fld) : (s.inc f).fbLatch = s.fbLatch := rfl
@[simp] theorem State.inc_emu (f : Fld) : (s.inc f).emu = s.emu := rfl
@[simp] theorem State.inc_hring (f : Fld) : (s.inc f).hring = s.hring := rfl
@[simp] theorem State.inc_busMaster (f : Fld) : (s.inc f).busMaster = s.busMaster := rfl
@[simp] theorem State.inc_views (f : Fld) : (s.inc f).views = s.views := rfl
@[simp] theorem State.inc_trcSlot (f : Fld) : (s.inc f).trcSlot = s.trcSlot := rfl
@[simp] theorem State.inc_trcLink (f : Fld) : (s.inc f).trcLink = s.trcLink := rfl
@[simp] theorem State.inc_eng (f : Fld) : (s.inc f).eng = s.eng := rfl
@[simp] theorem State.inc_lib (f : Fld) : (s.inc f).lib = s.lib := rfl
@[simp] theorem State.inc_act (f : Fld) : (s.inc f).act = s.act := rfl
@[simp] theorem State.inc_cnv (f : Fld) : (s.inc f).cnv = s.cnv := rfl
@[simp] theorem State.inc_chg (f : Fld) : (s.inc f).chg = s.chg := rfl
@[simp] theorem State.inc_pair (f : Fld) : (s.inc f).pair = s.pair := rfl
@[simp] theorem State.inc_startFault (f : Fld) : (s.inc f).startFault = s.startFault := rfl
@[simp] theorem State.inc_sag (f : Fld) : (s.inc f).sag = s.sag := rfl
@[simp] theorem State.inc_sagGrp (f : Fld) : (s.inc f).sagGrp = s.sagGrp := rfl
@[simp] theorem State.inc_sout (f : Fld) : (s.inc f).sout = s.sout := rfl
@[simp] theorem State.inc_fjop (f : Fld) : (s.inc f).fjop = s.fjop := rfl
@[simp] theorem State.inc_waits (f : Fld) : (s.inc f).waits = s.waits := rfl
@[simp] theorem State.inc_results (f : Fld) : (s.inc f).results = s.results := rfl
@[simp] theorem State.inc_hq (f : Fld) : (s.inc f).hq = s.hq := rfl
@[simp] theorem State.inc_jnl (f : Fld) : (s.inc f).jnl = s.jnl := rfl
@[simp] theorem State.inc_tlm (f : Fld) : (s.inc f).tlm = s.tlm := rfl
@[simp] theorem State.inc_dipHold (f : Fld) : (s.inc f).dipHold = s.dipHold := rfl
@[simp] theorem State.inc_deferred (f : Fld) : (s.inc f).deferred = s.deferred := rfl
@[simp] theorem State.inc_perst (f : Fld) : (s.inc f).perst = s.perst := rfl
@[simp] theorem State.inc_tripPins (f : Fld) : (s.inc f).tripPins = s.tripPins := rfl
@[simp] theorem State.inc_fab (f : Fld) : (s.inc f).fab = s.fab := rfl
@[simp] theorem State.inc_can (f : Fld) : (s.inc f).can = s.can := rfl
@[simp] theorem State.inc_sup (f : Fld) : (s.inc f).sup = s.sup := rfl
@[simp] theorem State.inc_thm (f : Fld) : (s.inc f).thm = s.thm := rfl
@[simp] theorem State.inc_tap (f : Fld) : (s.inc f).tap = s.tap := rfl
@[simp] theorem State.inc_sst (f : Fld) : (s.inc f).sst = s.sst := rfl
@[simp] theorem State.inc_coldWant (f : Fld) : (s.inc f).coldWant = s.coldWant := rfl
@[simp] theorem State.inc_warmWant (f : Fld) : (s.inc f).warmWant = s.warmWant := rfl
@[simp] theorem State.inc_clkBad (f : Fld) : (s.inc f).clkBad = s.clkBad := rfl
@[simp] theorem State.inc_img (f : Fld) : (s.inc f).img = s.img := rfl
@[simp] theorem State.inc_out (f : Fld) : (s.inc f).out = s.out := rfl
@[simp] theorem State.inc_free (f : Fld) : (s.inc f).free = s.free := rfl

/-! ### addSat -/

@[simp] theorem State.addSat_pending (f : Fld) (d : Nat) : (s.addSat f d).pending = s.pending := rfl
@[simp] theorem State.addSat_variant (f : Fld) (d : Nat) : (s.addSat f d).variant = s.variant := rfl
@[simp] theorem State.addSat_mtime (f : Fld) (d : Nat) : (s.addSat f d).mtime = s.mtime := rfl
@[simp] theorem State.addSat_timeRuns (f : Fld) (d : Nat) : (s.addSat f d).timeRuns = s.timeRuns := rfl
@[simp] theorem State.addSat_words (f : Fld) (d : Nat) : (s.addSat f d).words = s.words := rfl
@[simp] theorem State.addSat_bytes (f : Fld) (d : Nat) : (s.addSat f d).bytes = s.bytes := rfl
@[simp] theorem State.addSat_grp (f : Fld) (d : Nat) : (s.addSat f d).grp = s.grp := rfl
@[simp] theorem State.addSat_leg (f : Fld) (d : Nat) : (s.addSat f d).leg = s.leg := rfl
@[simp] theorem State.addSat_filtAt (f : Fld) (d : Nat) : (s.addSat f d).filtAt = s.filtAt := rfl
@[simp] theorem State.addSat_roles (f : Fld) (d : Nat) : (s.addSat f d).roles = s.roles := rfl
@[simp] theorem State.addSat_rx (f : Fld) (d : Nat) : (s.addSat f d).rx = s.rx := rfl
@[simp] theorem State.addSat_lk (f : Fld) (d : Nat) : (s.addSat f d).lk = s.lk := rfl
@[simp] theorem State.addSat_adc (f : Fld) (d : Nat) : (s.addSat f d).adc = s.adc := rfl
@[simp] theorem State.addSat_modu (f : Fld) (d : Nat) : (s.addSat f d).modu = s.modu := rfl
@[simp] theorem State.addSat_mirLatch (f : Fld) (d : Nat) : (s.addSat f d).mirLatch = s.mirLatch := rfl
@[simp] theorem State.addSat_fb (f : Fld) (d : Nat) : (s.addSat f d).fb = s.fb := rfl
@[simp] theorem State.addSat_fbLatch (f : Fld) (d : Nat) : (s.addSat f d).fbLatch = s.fbLatch := rfl
@[simp] theorem State.addSat_emu (f : Fld) (d : Nat) : (s.addSat f d).emu = s.emu := rfl
@[simp] theorem State.addSat_hring (f : Fld) (d : Nat) : (s.addSat f d).hring = s.hring := rfl
@[simp] theorem State.addSat_busMaster (f : Fld) (d : Nat) : (s.addSat f d).busMaster = s.busMaster := rfl
@[simp] theorem State.addSat_views (f : Fld) (d : Nat) : (s.addSat f d).views = s.views := rfl
@[simp] theorem State.addSat_trcSlot (f : Fld) (d : Nat) : (s.addSat f d).trcSlot = s.trcSlot := rfl
@[simp] theorem State.addSat_trcLink (f : Fld) (d : Nat) : (s.addSat f d).trcLink = s.trcLink := rfl
@[simp] theorem State.addSat_eng (f : Fld) (d : Nat) : (s.addSat f d).eng = s.eng := rfl
@[simp] theorem State.addSat_lib (f : Fld) (d : Nat) : (s.addSat f d).lib = s.lib := rfl
@[simp] theorem State.addSat_act (f : Fld) (d : Nat) : (s.addSat f d).act = s.act := rfl
@[simp] theorem State.addSat_cnv (f : Fld) (d : Nat) : (s.addSat f d).cnv = s.cnv := rfl
@[simp] theorem State.addSat_chg (f : Fld) (d : Nat) : (s.addSat f d).chg = s.chg := rfl
@[simp] theorem State.addSat_pair (f : Fld) (d : Nat) : (s.addSat f d).pair = s.pair := rfl
@[simp] theorem State.addSat_startFault (f : Fld) (d : Nat) : (s.addSat f d).startFault = s.startFault := rfl
@[simp] theorem State.addSat_sag (f : Fld) (d : Nat) : (s.addSat f d).sag = s.sag := rfl
@[simp] theorem State.addSat_sagGrp (f : Fld) (d : Nat) : (s.addSat f d).sagGrp = s.sagGrp := rfl
@[simp] theorem State.addSat_sout (f : Fld) (d : Nat) : (s.addSat f d).sout = s.sout := rfl
@[simp] theorem State.addSat_fjop (f : Fld) (d : Nat) : (s.addSat f d).fjop = s.fjop := rfl
@[simp] theorem State.addSat_waits (f : Fld) (d : Nat) : (s.addSat f d).waits = s.waits := rfl
@[simp] theorem State.addSat_results (f : Fld) (d : Nat) : (s.addSat f d).results = s.results := rfl
@[simp] theorem State.addSat_hq (f : Fld) (d : Nat) : (s.addSat f d).hq = s.hq := rfl
@[simp] theorem State.addSat_jnl (f : Fld) (d : Nat) : (s.addSat f d).jnl = s.jnl := rfl
@[simp] theorem State.addSat_tlm (f : Fld) (d : Nat) : (s.addSat f d).tlm = s.tlm := rfl
@[simp] theorem State.addSat_dipHold (f : Fld) (d : Nat) : (s.addSat f d).dipHold = s.dipHold := rfl
@[simp] theorem State.addSat_deferred (f : Fld) (d : Nat) : (s.addSat f d).deferred = s.deferred := rfl
@[simp] theorem State.addSat_perst (f : Fld) (d : Nat) : (s.addSat f d).perst = s.perst := rfl
@[simp] theorem State.addSat_tripPins (f : Fld) (d : Nat) : (s.addSat f d).tripPins = s.tripPins := rfl
@[simp] theorem State.addSat_fab (f : Fld) (d : Nat) : (s.addSat f d).fab = s.fab := rfl
@[simp] theorem State.addSat_can (f : Fld) (d : Nat) : (s.addSat f d).can = s.can := rfl
@[simp] theorem State.addSat_sup (f : Fld) (d : Nat) : (s.addSat f d).sup = s.sup := rfl
@[simp] theorem State.addSat_thm (f : Fld) (d : Nat) : (s.addSat f d).thm = s.thm := rfl
@[simp] theorem State.addSat_tap (f : Fld) (d : Nat) : (s.addSat f d).tap = s.tap := rfl
@[simp] theorem State.addSat_sst (f : Fld) (d : Nat) : (s.addSat f d).sst = s.sst := rfl
@[simp] theorem State.addSat_coldWant (f : Fld) (d : Nat) : (s.addSat f d).coldWant = s.coldWant := rfl
@[simp] theorem State.addSat_warmWant (f : Fld) (d : Nat) : (s.addSat f d).warmWant = s.warmWant := rfl
@[simp] theorem State.addSat_clkBad (f : Fld) (d : Nat) : (s.addSat f d).clkBad = s.clkBad := rfl
@[simp] theorem State.addSat_img (f : Fld) (d : Nat) : (s.addSat f d).img = s.img := rfl
@[simp] theorem State.addSat_out (f : Fld) (d : Nat) : (s.addSat f d).out = s.out := rfl
@[simp] theorem State.addSat_free (f : Fld) (d : Nat) : (s.addSat f d).free = s.free := rfl

/-! ### setWord -/

@[simp] theorem State.setWord_pending (a : Nat) (w : Word36) : (s.setWord a w).pending = s.pending := rfl
@[simp] theorem State.setWord_variant (a : Nat) (w : Word36) : (s.setWord a w).variant = s.variant := rfl
@[simp] theorem State.setWord_mtime (a : Nat) (w : Word36) : (s.setWord a w).mtime = s.mtime := rfl
@[simp] theorem State.setWord_timeRuns (a : Nat) (w : Word36) : (s.setWord a w).timeRuns = s.timeRuns := rfl
@[simp] theorem State.setWord_regs (a : Nat) (w : Word36) : (s.setWord a w).regs = s.regs := rfl
@[simp] theorem State.setWord_bytes (a : Nat) (w : Word36) : (s.setWord a w).bytes = s.bytes := rfl
@[simp] theorem State.setWord_grp (a : Nat) (w : Word36) : (s.setWord a w).grp = s.grp := rfl
@[simp] theorem State.setWord_leg (a : Nat) (w : Word36) : (s.setWord a w).leg = s.leg := rfl
@[simp] theorem State.setWord_filtAt (a : Nat) (w : Word36) : (s.setWord a w).filtAt = s.filtAt := rfl
@[simp] theorem State.setWord_roles (a : Nat) (w : Word36) : (s.setWord a w).roles = s.roles := rfl
@[simp] theorem State.setWord_rx (a : Nat) (w : Word36) : (s.setWord a w).rx = s.rx := rfl
@[simp] theorem State.setWord_lk (a : Nat) (w : Word36) : (s.setWord a w).lk = s.lk := rfl
@[simp] theorem State.setWord_adc (a : Nat) (w : Word36) : (s.setWord a w).adc = s.adc := rfl
@[simp] theorem State.setWord_modu (a : Nat) (w : Word36) : (s.setWord a w).modu = s.modu := rfl
@[simp] theorem State.setWord_mirLatch (a : Nat) (w : Word36) : (s.setWord a w).mirLatch = s.mirLatch := rfl
@[simp] theorem State.setWord_fb (a : Nat) (w : Word36) : (s.setWord a w).fb = s.fb := rfl
@[simp] theorem State.setWord_fbLatch (a : Nat) (w : Word36) : (s.setWord a w).fbLatch = s.fbLatch := rfl
@[simp] theorem State.setWord_emu (a : Nat) (w : Word36) : (s.setWord a w).emu = s.emu := rfl
@[simp] theorem State.setWord_hring (a : Nat) (w : Word36) : (s.setWord a w).hring = s.hring := rfl
@[simp] theorem State.setWord_busMaster (a : Nat) (w : Word36) : (s.setWord a w).busMaster = s.busMaster := rfl
@[simp] theorem State.setWord_views (a : Nat) (w : Word36) : (s.setWord a w).views = s.views := rfl
@[simp] theorem State.setWord_trcSlot (a : Nat) (w : Word36) : (s.setWord a w).trcSlot = s.trcSlot := rfl
@[simp] theorem State.setWord_trcLink (a : Nat) (w : Word36) : (s.setWord a w).trcLink = s.trcLink := rfl
@[simp] theorem State.setWord_eng (a : Nat) (w : Word36) : (s.setWord a w).eng = s.eng := rfl
@[simp] theorem State.setWord_lib (a : Nat) (w : Word36) : (s.setWord a w).lib = s.lib := rfl
@[simp] theorem State.setWord_act (a : Nat) (w : Word36) : (s.setWord a w).act = s.act := rfl
@[simp] theorem State.setWord_cnv (a : Nat) (w : Word36) : (s.setWord a w).cnv = s.cnv := rfl
@[simp] theorem State.setWord_chg (a : Nat) (w : Word36) : (s.setWord a w).chg = s.chg := rfl
@[simp] theorem State.setWord_pair (a : Nat) (w : Word36) : (s.setWord a w).pair = s.pair := rfl
@[simp] theorem State.setWord_startFault (a : Nat) (w : Word36) : (s.setWord a w).startFault = s.startFault := rfl
@[simp] theorem State.setWord_sag (a : Nat) (w : Word36) : (s.setWord a w).sag = s.sag := rfl
@[simp] theorem State.setWord_sagGrp (a : Nat) (w : Word36) : (s.setWord a w).sagGrp = s.sagGrp := rfl
@[simp] theorem State.setWord_sout (a : Nat) (w : Word36) : (s.setWord a w).sout = s.sout := rfl
@[simp] theorem State.setWord_fjop (a : Nat) (w : Word36) : (s.setWord a w).fjop = s.fjop := rfl
@[simp] theorem State.setWord_waits (a : Nat) (w : Word36) : (s.setWord a w).waits = s.waits := rfl
@[simp] theorem State.setWord_results (a : Nat) (w : Word36) : (s.setWord a w).results = s.results := rfl
@[simp] theorem State.setWord_hq (a : Nat) (w : Word36) : (s.setWord a w).hq = s.hq := rfl
@[simp] theorem State.setWord_jnl (a : Nat) (w : Word36) : (s.setWord a w).jnl = s.jnl := rfl
@[simp] theorem State.setWord_tlm (a : Nat) (w : Word36) : (s.setWord a w).tlm = s.tlm := rfl
@[simp] theorem State.setWord_dipHold (a : Nat) (w : Word36) : (s.setWord a w).dipHold = s.dipHold := rfl
@[simp] theorem State.setWord_deferred (a : Nat) (w : Word36) : (s.setWord a w).deferred = s.deferred := rfl
@[simp] theorem State.setWord_perst (a : Nat) (w : Word36) : (s.setWord a w).perst = s.perst := rfl
@[simp] theorem State.setWord_tripPins (a : Nat) (w : Word36) : (s.setWord a w).tripPins = s.tripPins := rfl
@[simp] theorem State.setWord_fab (a : Nat) (w : Word36) : (s.setWord a w).fab = s.fab := rfl
@[simp] theorem State.setWord_can (a : Nat) (w : Word36) : (s.setWord a w).can = s.can := rfl
@[simp] theorem State.setWord_sup (a : Nat) (w : Word36) : (s.setWord a w).sup = s.sup := rfl
@[simp] theorem State.setWord_thm (a : Nat) (w : Word36) : (s.setWord a w).thm = s.thm := rfl
@[simp] theorem State.setWord_tap (a : Nat) (w : Word36) : (s.setWord a w).tap = s.tap := rfl
@[simp] theorem State.setWord_sst (a : Nat) (w : Word36) : (s.setWord a w).sst = s.sst := rfl
@[simp] theorem State.setWord_coldWant (a : Nat) (w : Word36) : (s.setWord a w).coldWant = s.coldWant := rfl
@[simp] theorem State.setWord_warmWant (a : Nat) (w : Word36) : (s.setWord a w).warmWant = s.warmWant := rfl
@[simp] theorem State.setWord_clkBad (a : Nat) (w : Word36) : (s.setWord a w).clkBad = s.clkBad := rfl
@[simp] theorem State.setWord_img (a : Nat) (w : Word36) : (s.setWord a w).img = s.img := rfl
@[simp] theorem State.setWord_out (a : Nat) (w : Word36) : (s.setWord a w).out = s.out := rfl
@[simp] theorem State.setWord_free (a : Nat) (w : Word36) : (s.setWord a w).free = s.free := rfl

/-! ### setByte -/

@[simp] theorem State.setByte_pending (a : Nat) (b : Byte) : (s.setByte a b).pending = s.pending := rfl
@[simp] theorem State.setByte_variant (a : Nat) (b : Byte) : (s.setByte a b).variant = s.variant := rfl
@[simp] theorem State.setByte_mtime (a : Nat) (b : Byte) : (s.setByte a b).mtime = s.mtime := rfl
@[simp] theorem State.setByte_timeRuns (a : Nat) (b : Byte) : (s.setByte a b).timeRuns = s.timeRuns := rfl
@[simp] theorem State.setByte_regs (a : Nat) (b : Byte) : (s.setByte a b).regs = s.regs := rfl
@[simp] theorem State.setByte_words (a : Nat) (b : Byte) : (s.setByte a b).words = s.words := rfl
@[simp] theorem State.setByte_grp (a : Nat) (b : Byte) : (s.setByte a b).grp = s.grp := rfl
@[simp] theorem State.setByte_leg (a : Nat) (b : Byte) : (s.setByte a b).leg = s.leg := rfl
@[simp] theorem State.setByte_filtAt (a : Nat) (b : Byte) : (s.setByte a b).filtAt = s.filtAt := rfl
@[simp] theorem State.setByte_roles (a : Nat) (b : Byte) : (s.setByte a b).roles = s.roles := rfl
@[simp] theorem State.setByte_rx (a : Nat) (b : Byte) : (s.setByte a b).rx = s.rx := rfl
@[simp] theorem State.setByte_lk (a : Nat) (b : Byte) : (s.setByte a b).lk = s.lk := rfl
@[simp] theorem State.setByte_adc (a : Nat) (b : Byte) : (s.setByte a b).adc = s.adc := rfl
@[simp] theorem State.setByte_modu (a : Nat) (b : Byte) : (s.setByte a b).modu = s.modu := rfl
@[simp] theorem State.setByte_mirLatch (a : Nat) (b : Byte) : (s.setByte a b).mirLatch = s.mirLatch := rfl
@[simp] theorem State.setByte_fb (a : Nat) (b : Byte) : (s.setByte a b).fb = s.fb := rfl
@[simp] theorem State.setByte_fbLatch (a : Nat) (b : Byte) : (s.setByte a b).fbLatch = s.fbLatch := rfl
@[simp] theorem State.setByte_emu (a : Nat) (b : Byte) : (s.setByte a b).emu = s.emu := rfl
@[simp] theorem State.setByte_hring (a : Nat) (b : Byte) : (s.setByte a b).hring = s.hring := rfl
@[simp] theorem State.setByte_busMaster (a : Nat) (b : Byte) : (s.setByte a b).busMaster = s.busMaster := rfl
@[simp] theorem State.setByte_views (a : Nat) (b : Byte) : (s.setByte a b).views = s.views := rfl
@[simp] theorem State.setByte_trcSlot (a : Nat) (b : Byte) : (s.setByte a b).trcSlot = s.trcSlot := rfl
@[simp] theorem State.setByte_trcLink (a : Nat) (b : Byte) : (s.setByte a b).trcLink = s.trcLink := rfl
@[simp] theorem State.setByte_eng (a : Nat) (b : Byte) : (s.setByte a b).eng = s.eng := rfl
@[simp] theorem State.setByte_lib (a : Nat) (b : Byte) : (s.setByte a b).lib = s.lib := rfl
@[simp] theorem State.setByte_act (a : Nat) (b : Byte) : (s.setByte a b).act = s.act := rfl
@[simp] theorem State.setByte_cnv (a : Nat) (b : Byte) : (s.setByte a b).cnv = s.cnv := rfl
@[simp] theorem State.setByte_chg (a : Nat) (b : Byte) : (s.setByte a b).chg = s.chg := rfl
@[simp] theorem State.setByte_pair (a : Nat) (b : Byte) : (s.setByte a b).pair = s.pair := rfl
@[simp] theorem State.setByte_startFault (a : Nat) (b : Byte) : (s.setByte a b).startFault = s.startFault := rfl
@[simp] theorem State.setByte_sag (a : Nat) (b : Byte) : (s.setByte a b).sag = s.sag := rfl
@[simp] theorem State.setByte_sagGrp (a : Nat) (b : Byte) : (s.setByte a b).sagGrp = s.sagGrp := rfl
@[simp] theorem State.setByte_sout (a : Nat) (b : Byte) : (s.setByte a b).sout = s.sout := rfl
@[simp] theorem State.setByte_fjop (a : Nat) (b : Byte) : (s.setByte a b).fjop = s.fjop := rfl
@[simp] theorem State.setByte_waits (a : Nat) (b : Byte) : (s.setByte a b).waits = s.waits := rfl
@[simp] theorem State.setByte_results (a : Nat) (b : Byte) : (s.setByte a b).results = s.results := rfl
@[simp] theorem State.setByte_hq (a : Nat) (b : Byte) : (s.setByte a b).hq = s.hq := rfl
@[simp] theorem State.setByte_jnl (a : Nat) (b : Byte) : (s.setByte a b).jnl = s.jnl := rfl
@[simp] theorem State.setByte_tlm (a : Nat) (b : Byte) : (s.setByte a b).tlm = s.tlm := rfl
@[simp] theorem State.setByte_dipHold (a : Nat) (b : Byte) : (s.setByte a b).dipHold = s.dipHold := rfl
@[simp] theorem State.setByte_deferred (a : Nat) (b : Byte) : (s.setByte a b).deferred = s.deferred := rfl
@[simp] theorem State.setByte_perst (a : Nat) (b : Byte) : (s.setByte a b).perst = s.perst := rfl
@[simp] theorem State.setByte_tripPins (a : Nat) (b : Byte) : (s.setByte a b).tripPins = s.tripPins := rfl
@[simp] theorem State.setByte_fab (a : Nat) (b : Byte) : (s.setByte a b).fab = s.fab := rfl
@[simp] theorem State.setByte_can (a : Nat) (b : Byte) : (s.setByte a b).can = s.can := rfl
@[simp] theorem State.setByte_sup (a : Nat) (b : Byte) : (s.setByte a b).sup = s.sup := rfl
@[simp] theorem State.setByte_thm (a : Nat) (b : Byte) : (s.setByte a b).thm = s.thm := rfl
@[simp] theorem State.setByte_tap (a : Nat) (b : Byte) : (s.setByte a b).tap = s.tap := rfl
@[simp] theorem State.setByte_sst (a : Nat) (b : Byte) : (s.setByte a b).sst = s.sst := rfl
@[simp] theorem State.setByte_coldWant (a : Nat) (b : Byte) : (s.setByte a b).coldWant = s.coldWant := rfl
@[simp] theorem State.setByte_warmWant (a : Nat) (b : Byte) : (s.setByte a b).warmWant = s.warmWant := rfl
@[simp] theorem State.setByte_clkBad (a : Nat) (b : Byte) : (s.setByte a b).clkBad = s.clkBad := rfl
@[simp] theorem State.setByte_img (a : Nat) (b : Byte) : (s.setByte a b).img = s.img := rfl
@[simp] theorem State.setByte_out (a : Nat) (b : Byte) : (s.setByte a b).out = s.out := rfl
@[simp] theorem State.setByte_free (a : Nat) (b : Byte) : (s.setByte a b).free = s.free := rfl

/-! ### emit -/

@[simp] theorem State.emit_pending (o : Out) : (s.emit o).pending = s.pending := rfl
@[simp] theorem State.emit_variant (o : Out) : (s.emit o).variant = s.variant := rfl
@[simp] theorem State.emit_mtime (o : Out) : (s.emit o).mtime = s.mtime := rfl
@[simp] theorem State.emit_timeRuns (o : Out) : (s.emit o).timeRuns = s.timeRuns := rfl
@[simp] theorem State.emit_regs (o : Out) : (s.emit o).regs = s.regs := rfl
@[simp] theorem State.emit_words (o : Out) : (s.emit o).words = s.words := rfl
@[simp] theorem State.emit_bytes (o : Out) : (s.emit o).bytes = s.bytes := rfl
@[simp] theorem State.emit_grp (o : Out) : (s.emit o).grp = s.grp := rfl
@[simp] theorem State.emit_leg (o : Out) : (s.emit o).leg = s.leg := rfl
@[simp] theorem State.emit_filtAt (o : Out) : (s.emit o).filtAt = s.filtAt := rfl
@[simp] theorem State.emit_roles (o : Out) : (s.emit o).roles = s.roles := rfl
@[simp] theorem State.emit_rx (o : Out) : (s.emit o).rx = s.rx := rfl
@[simp] theorem State.emit_lk (o : Out) : (s.emit o).lk = s.lk := rfl
@[simp] theorem State.emit_adc (o : Out) : (s.emit o).adc = s.adc := rfl
@[simp] theorem State.emit_modu (o : Out) : (s.emit o).modu = s.modu := rfl
@[simp] theorem State.emit_mirLatch (o : Out) : (s.emit o).mirLatch = s.mirLatch := rfl
@[simp] theorem State.emit_fb (o : Out) : (s.emit o).fb = s.fb := rfl
@[simp] theorem State.emit_fbLatch (o : Out) : (s.emit o).fbLatch = s.fbLatch := rfl
@[simp] theorem State.emit_emu (o : Out) : (s.emit o).emu = s.emu := rfl
@[simp] theorem State.emit_hring (o : Out) : (s.emit o).hring = s.hring := rfl
@[simp] theorem State.emit_busMaster (o : Out) : (s.emit o).busMaster = s.busMaster := rfl
@[simp] theorem State.emit_views (o : Out) : (s.emit o).views = s.views := rfl
@[simp] theorem State.emit_trcSlot (o : Out) : (s.emit o).trcSlot = s.trcSlot := rfl
@[simp] theorem State.emit_trcLink (o : Out) : (s.emit o).trcLink = s.trcLink := rfl
@[simp] theorem State.emit_eng (o : Out) : (s.emit o).eng = s.eng := rfl
@[simp] theorem State.emit_lib (o : Out) : (s.emit o).lib = s.lib := rfl
@[simp] theorem State.emit_act (o : Out) : (s.emit o).act = s.act := rfl
@[simp] theorem State.emit_cnv (o : Out) : (s.emit o).cnv = s.cnv := rfl
@[simp] theorem State.emit_chg (o : Out) : (s.emit o).chg = s.chg := rfl
@[simp] theorem State.emit_pair (o : Out) : (s.emit o).pair = s.pair := rfl
@[simp] theorem State.emit_startFault (o : Out) : (s.emit o).startFault = s.startFault := rfl
@[simp] theorem State.emit_sag (o : Out) : (s.emit o).sag = s.sag := rfl
@[simp] theorem State.emit_sagGrp (o : Out) : (s.emit o).sagGrp = s.sagGrp := rfl
@[simp] theorem State.emit_sout (o : Out) : (s.emit o).sout = s.sout := rfl
@[simp] theorem State.emit_fjop (o : Out) : (s.emit o).fjop = s.fjop := rfl
@[simp] theorem State.emit_waits (o : Out) : (s.emit o).waits = s.waits := rfl
@[simp] theorem State.emit_results (o : Out) : (s.emit o).results = s.results := rfl
@[simp] theorem State.emit_hq (o : Out) : (s.emit o).hq = s.hq := rfl
@[simp] theorem State.emit_jnl (o : Out) : (s.emit o).jnl = s.jnl := rfl
@[simp] theorem State.emit_tlm (o : Out) : (s.emit o).tlm = s.tlm := rfl
@[simp] theorem State.emit_dipHold (o : Out) : (s.emit o).dipHold = s.dipHold := rfl
@[simp] theorem State.emit_deferred (o : Out) : (s.emit o).deferred = s.deferred := rfl
@[simp] theorem State.emit_perst (o : Out) : (s.emit o).perst = s.perst := rfl
@[simp] theorem State.emit_tripPins (o : Out) : (s.emit o).tripPins = s.tripPins := rfl
@[simp] theorem State.emit_fab (o : Out) : (s.emit o).fab = s.fab := rfl
@[simp] theorem State.emit_can (o : Out) : (s.emit o).can = s.can := rfl
@[simp] theorem State.emit_sup (o : Out) : (s.emit o).sup = s.sup := rfl
@[simp] theorem State.emit_thm (o : Out) : (s.emit o).thm = s.thm := rfl
@[simp] theorem State.emit_tap (o : Out) : (s.emit o).tap = s.tap := rfl
@[simp] theorem State.emit_sst (o : Out) : (s.emit o).sst = s.sst := rfl
@[simp] theorem State.emit_coldWant (o : Out) : (s.emit o).coldWant = s.coldWant := rfl
@[simp] theorem State.emit_warmWant (o : Out) : (s.emit o).warmWant = s.warmWant := rfl
@[simp] theorem State.emit_clkBad (o : Out) : (s.emit o).clkBad = s.clkBad := rfl
@[simp] theorem State.emit_img (o : Out) : (s.emit o).img = s.img := rfl
@[simp] theorem State.emit_free (o : Out) : (s.emit o).free = s.free := rfl

/-! ### finish -/

@[simp] theorem State.finish_pending (w : WaitOn) (st : Status) (r : Option Nat) : (s.finish w st r).pending = s.pending := rfl
@[simp] theorem State.finish_variant (w : WaitOn) (st : Status) (r : Option Nat) : (s.finish w st r).variant = s.variant := rfl
@[simp] theorem State.finish_mtime (w : WaitOn) (st : Status) (r : Option Nat) : (s.finish w st r).mtime = s.mtime := rfl
@[simp] theorem State.finish_timeRuns (w : WaitOn) (st : Status) (r : Option Nat) : (s.finish w st r).timeRuns = s.timeRuns := rfl
@[simp] theorem State.finish_regs (w : WaitOn) (st : Status) (r : Option Nat) : (s.finish w st r).regs = s.regs := rfl
@[simp] theorem State.finish_words (w : WaitOn) (st : Status) (r : Option Nat) : (s.finish w st r).words = s.words := rfl
@[simp] theorem State.finish_bytes (w : WaitOn) (st : Status) (r : Option Nat) : (s.finish w st r).bytes = s.bytes := rfl
@[simp] theorem State.finish_grp (w : WaitOn) (st : Status) (r : Option Nat) : (s.finish w st r).grp = s.grp := rfl
@[simp] theorem State.finish_leg (w : WaitOn) (st : Status) (r : Option Nat) : (s.finish w st r).leg = s.leg := rfl
@[simp] theorem State.finish_filtAt (w : WaitOn) (st : Status) (r : Option Nat) : (s.finish w st r).filtAt = s.filtAt := rfl
@[simp] theorem State.finish_roles (w : WaitOn) (st : Status) (r : Option Nat) : (s.finish w st r).roles = s.roles := rfl
@[simp] theorem State.finish_rx (w : WaitOn) (st : Status) (r : Option Nat) : (s.finish w st r).rx = s.rx := rfl
@[simp] theorem State.finish_lk (w : WaitOn) (st : Status) (r : Option Nat) : (s.finish w st r).lk = s.lk := rfl
@[simp] theorem State.finish_adc (w : WaitOn) (st : Status) (r : Option Nat) : (s.finish w st r).adc = s.adc := rfl
@[simp] theorem State.finish_modu (w : WaitOn) (st : Status) (r : Option Nat) : (s.finish w st r).modu = s.modu := rfl
@[simp] theorem State.finish_mirLatch (w : WaitOn) (st : Status) (r : Option Nat) : (s.finish w st r).mirLatch = s.mirLatch := rfl
@[simp] theorem State.finish_fb (w : WaitOn) (st : Status) (r : Option Nat) : (s.finish w st r).fb = s.fb := rfl
@[simp] theorem State.finish_fbLatch (w : WaitOn) (st : Status) (r : Option Nat) : (s.finish w st r).fbLatch = s.fbLatch := rfl
@[simp] theorem State.finish_emu (w : WaitOn) (st : Status) (r : Option Nat) : (s.finish w st r).emu = s.emu := rfl
@[simp] theorem State.finish_hring (w : WaitOn) (st : Status) (r : Option Nat) : (s.finish w st r).hring = s.hring := rfl
@[simp] theorem State.finish_busMaster (w : WaitOn) (st : Status) (r : Option Nat) : (s.finish w st r).busMaster = s.busMaster := rfl
@[simp] theorem State.finish_views (w : WaitOn) (st : Status) (r : Option Nat) : (s.finish w st r).views = s.views := rfl
@[simp] theorem State.finish_trcSlot (w : WaitOn) (st : Status) (r : Option Nat) : (s.finish w st r).trcSlot = s.trcSlot := rfl
@[simp] theorem State.finish_trcLink (w : WaitOn) (st : Status) (r : Option Nat) : (s.finish w st r).trcLink = s.trcLink := rfl
@[simp] theorem State.finish_eng (w : WaitOn) (st : Status) (r : Option Nat) : (s.finish w st r).eng = s.eng := rfl
@[simp] theorem State.finish_lib (w : WaitOn) (st : Status) (r : Option Nat) : (s.finish w st r).lib = s.lib := rfl
@[simp] theorem State.finish_act (w : WaitOn) (st : Status) (r : Option Nat) : (s.finish w st r).act = s.act := rfl
@[simp] theorem State.finish_cnv (w : WaitOn) (st : Status) (r : Option Nat) : (s.finish w st r).cnv = s.cnv := rfl
@[simp] theorem State.finish_chg (w : WaitOn) (st : Status) (r : Option Nat) : (s.finish w st r).chg = s.chg := rfl
@[simp] theorem State.finish_pair (w : WaitOn) (st : Status) (r : Option Nat) : (s.finish w st r).pair = s.pair := rfl
@[simp] theorem State.finish_startFault (w : WaitOn) (st : Status) (r : Option Nat) : (s.finish w st r).startFault = s.startFault := rfl
@[simp] theorem State.finish_sag (w : WaitOn) (st : Status) (r : Option Nat) : (s.finish w st r).sag = s.sag := rfl
@[simp] theorem State.finish_sagGrp (w : WaitOn) (st : Status) (r : Option Nat) : (s.finish w st r).sagGrp = s.sagGrp := rfl
@[simp] theorem State.finish_sout (w : WaitOn) (st : Status) (r : Option Nat) : (s.finish w st r).sout = s.sout := rfl
@[simp] theorem State.finish_fjop (w : WaitOn) (st : Status) (r : Option Nat) : (s.finish w st r).fjop = s.fjop := rfl
@[simp] theorem State.finish_hq (w : WaitOn) (st : Status) (r : Option Nat) : (s.finish w st r).hq = s.hq := rfl
@[simp] theorem State.finish_jnl (w : WaitOn) (st : Status) (r : Option Nat) : (s.finish w st r).jnl = s.jnl := rfl
@[simp] theorem State.finish_tlm (w : WaitOn) (st : Status) (r : Option Nat) : (s.finish w st r).tlm = s.tlm := rfl
@[simp] theorem State.finish_dipHold (w : WaitOn) (st : Status) (r : Option Nat) : (s.finish w st r).dipHold = s.dipHold := rfl
@[simp] theorem State.finish_deferred (w : WaitOn) (st : Status) (r : Option Nat) : (s.finish w st r).deferred = s.deferred := rfl
@[simp] theorem State.finish_perst (w : WaitOn) (st : Status) (r : Option Nat) : (s.finish w st r).perst = s.perst := rfl
@[simp] theorem State.finish_tripPins (w : WaitOn) (st : Status) (r : Option Nat) : (s.finish w st r).tripPins = s.tripPins := rfl
@[simp] theorem State.finish_fab (w : WaitOn) (st : Status) (r : Option Nat) : (s.finish w st r).fab = s.fab := rfl
@[simp] theorem State.finish_can (w : WaitOn) (st : Status) (r : Option Nat) : (s.finish w st r).can = s.can := rfl
@[simp] theorem State.finish_sup (w : WaitOn) (st : Status) (r : Option Nat) : (s.finish w st r).sup = s.sup := rfl
@[simp] theorem State.finish_thm (w : WaitOn) (st : Status) (r : Option Nat) : (s.finish w st r).thm = s.thm := rfl
@[simp] theorem State.finish_tap (w : WaitOn) (st : Status) (r : Option Nat) : (s.finish w st r).tap = s.tap := rfl
@[simp] theorem State.finish_sst (w : WaitOn) (st : Status) (r : Option Nat) : (s.finish w st r).sst = s.sst := rfl
@[simp] theorem State.finish_coldWant (w : WaitOn) (st : Status) (r : Option Nat) : (s.finish w st r).coldWant = s.coldWant := rfl
@[simp] theorem State.finish_warmWant (w : WaitOn) (st : Status) (r : Option Nat) : (s.finish w st r).warmWant = s.warmWant := rfl
@[simp] theorem State.finish_clkBad (w : WaitOn) (st : Status) (r : Option Nat) : (s.finish w st r).clkBad = s.clkBad := rfl
@[simp] theorem State.finish_img (w : WaitOn) (st : Status) (r : Option Nat) : (s.finish w st r).img = s.img := rfl
@[simp] theorem State.finish_out (w : WaitOn) (st : Status) (r : Option Nat) : (s.finish w st r).out = s.out := rfl
@[simp] theorem State.finish_free (w : WaitOn) (st : Status) (r : Option Nat) : (s.finish w st r).free = s.free := rfl

/-! ### await -/

@[simp] theorem State.await_pending (w : WaitOn) (c : CmdRef) : (s.await w c).pending = s.pending := rfl
@[simp] theorem State.await_variant (w : WaitOn) (c : CmdRef) : (s.await w c).variant = s.variant := rfl
@[simp] theorem State.await_mtime (w : WaitOn) (c : CmdRef) : (s.await w c).mtime = s.mtime := rfl
@[simp] theorem State.await_timeRuns (w : WaitOn) (c : CmdRef) : (s.await w c).timeRuns = s.timeRuns := rfl
@[simp] theorem State.await_regs (w : WaitOn) (c : CmdRef) : (s.await w c).regs = s.regs := rfl
@[simp] theorem State.await_words (w : WaitOn) (c : CmdRef) : (s.await w c).words = s.words := rfl
@[simp] theorem State.await_bytes (w : WaitOn) (c : CmdRef) : (s.await w c).bytes = s.bytes := rfl
@[simp] theorem State.await_grp (w : WaitOn) (c : CmdRef) : (s.await w c).grp = s.grp := rfl
@[simp] theorem State.await_leg (w : WaitOn) (c : CmdRef) : (s.await w c).leg = s.leg := rfl
@[simp] theorem State.await_filtAt (w : WaitOn) (c : CmdRef) : (s.await w c).filtAt = s.filtAt := rfl
@[simp] theorem State.await_roles (w : WaitOn) (c : CmdRef) : (s.await w c).roles = s.roles := rfl
@[simp] theorem State.await_rx (w : WaitOn) (c : CmdRef) : (s.await w c).rx = s.rx := rfl
@[simp] theorem State.await_lk (w : WaitOn) (c : CmdRef) : (s.await w c).lk = s.lk := rfl
@[simp] theorem State.await_adc (w : WaitOn) (c : CmdRef) : (s.await w c).adc = s.adc := rfl
@[simp] theorem State.await_modu (w : WaitOn) (c : CmdRef) : (s.await w c).modu = s.modu := rfl
@[simp] theorem State.await_mirLatch (w : WaitOn) (c : CmdRef) : (s.await w c).mirLatch = s.mirLatch := rfl
@[simp] theorem State.await_fb (w : WaitOn) (c : CmdRef) : (s.await w c).fb = s.fb := rfl
@[simp] theorem State.await_fbLatch (w : WaitOn) (c : CmdRef) : (s.await w c).fbLatch = s.fbLatch := rfl
@[simp] theorem State.await_emu (w : WaitOn) (c : CmdRef) : (s.await w c).emu = s.emu := rfl
@[simp] theorem State.await_hring (w : WaitOn) (c : CmdRef) : (s.await w c).hring = s.hring := rfl
@[simp] theorem State.await_busMaster (w : WaitOn) (c : CmdRef) : (s.await w c).busMaster = s.busMaster := rfl
@[simp] theorem State.await_views (w : WaitOn) (c : CmdRef) : (s.await w c).views = s.views := rfl
@[simp] theorem State.await_trcSlot (w : WaitOn) (c : CmdRef) : (s.await w c).trcSlot = s.trcSlot := rfl
@[simp] theorem State.await_trcLink (w : WaitOn) (c : CmdRef) : (s.await w c).trcLink = s.trcLink := rfl
@[simp] theorem State.await_eng (w : WaitOn) (c : CmdRef) : (s.await w c).eng = s.eng := rfl
@[simp] theorem State.await_lib (w : WaitOn) (c : CmdRef) : (s.await w c).lib = s.lib := rfl
@[simp] theorem State.await_act (w : WaitOn) (c : CmdRef) : (s.await w c).act = s.act := rfl
@[simp] theorem State.await_cnv (w : WaitOn) (c : CmdRef) : (s.await w c).cnv = s.cnv := rfl
@[simp] theorem State.await_chg (w : WaitOn) (c : CmdRef) : (s.await w c).chg = s.chg := rfl
@[simp] theorem State.await_pair (w : WaitOn) (c : CmdRef) : (s.await w c).pair = s.pair := rfl
@[simp] theorem State.await_startFault (w : WaitOn) (c : CmdRef) : (s.await w c).startFault = s.startFault := rfl
@[simp] theorem State.await_sag (w : WaitOn) (c : CmdRef) : (s.await w c).sag = s.sag := rfl
@[simp] theorem State.await_sagGrp (w : WaitOn) (c : CmdRef) : (s.await w c).sagGrp = s.sagGrp := rfl
@[simp] theorem State.await_sout (w : WaitOn) (c : CmdRef) : (s.await w c).sout = s.sout := rfl
@[simp] theorem State.await_fjop (w : WaitOn) (c : CmdRef) : (s.await w c).fjop = s.fjop := rfl
@[simp] theorem State.await_results (w : WaitOn) (c : CmdRef) : (s.await w c).results = s.results := rfl
@[simp] theorem State.await_hq (w : WaitOn) (c : CmdRef) : (s.await w c).hq = s.hq := rfl
@[simp] theorem State.await_jnl (w : WaitOn) (c : CmdRef) : (s.await w c).jnl = s.jnl := rfl
@[simp] theorem State.await_tlm (w : WaitOn) (c : CmdRef) : (s.await w c).tlm = s.tlm := rfl
@[simp] theorem State.await_dipHold (w : WaitOn) (c : CmdRef) : (s.await w c).dipHold = s.dipHold := rfl
@[simp] theorem State.await_deferred (w : WaitOn) (c : CmdRef) : (s.await w c).deferred = s.deferred := rfl
@[simp] theorem State.await_perst (w : WaitOn) (c : CmdRef) : (s.await w c).perst = s.perst := rfl
@[simp] theorem State.await_tripPins (w : WaitOn) (c : CmdRef) : (s.await w c).tripPins = s.tripPins := rfl
@[simp] theorem State.await_fab (w : WaitOn) (c : CmdRef) : (s.await w c).fab = s.fab := rfl
@[simp] theorem State.await_can (w : WaitOn) (c : CmdRef) : (s.await w c).can = s.can := rfl
@[simp] theorem State.await_sup (w : WaitOn) (c : CmdRef) : (s.await w c).sup = s.sup := rfl
@[simp] theorem State.await_thm (w : WaitOn) (c : CmdRef) : (s.await w c).thm = s.thm := rfl
@[simp] theorem State.await_tap (w : WaitOn) (c : CmdRef) : (s.await w c).tap = s.tap := rfl
@[simp] theorem State.await_sst (w : WaitOn) (c : CmdRef) : (s.await w c).sst = s.sst := rfl
@[simp] theorem State.await_coldWant (w : WaitOn) (c : CmdRef) : (s.await w c).coldWant = s.coldWant := rfl
@[simp] theorem State.await_warmWant (w : WaitOn) (c : CmdRef) : (s.await w c).warmWant = s.warmWant := rfl
@[simp] theorem State.await_clkBad (w : WaitOn) (c : CmdRef) : (s.await w c).clkBad = s.clkBad := rfl
@[simp] theorem State.await_img (w : WaitOn) (c : CmdRef) : (s.await w c).img = s.img := rfl
@[simp] theorem State.await_out (w : WaitOn) (c : CmdRef) : (s.await w c).out = s.out := rfl
@[simp] theorem State.await_free (w : WaitOn) (c : CmdRef) : (s.await w c).free = s.free := rfl

/-! ### The tables of the units -/

@[simp] theorem State.setGrp_pending (g : Nat) (v : Grp) : (s.setGrp g v).pending = s.pending := rfl
@[simp] theorem State.setGrp_variant (g : Nat) (v : Grp) : (s.setGrp g v).variant = s.variant := rfl
@[simp] theorem State.setGrp_mtime (g : Nat) (v : Grp) : (s.setGrp g v).mtime = s.mtime := rfl
@[simp] theorem State.setGrp_regs (g : Nat) (v : Grp) : (s.setGrp g v).regs = s.regs := rfl
@[simp] theorem State.setGrp_words (g : Nat) (v : Grp) : (s.setGrp g v).words = s.words := rfl
@[simp] theorem State.setGrp_bytes (g : Nat) (v : Grp) : (s.setGrp g v).bytes = s.bytes := rfl
@[simp] theorem State.setGrp_out (g : Nat) (v : Grp) : (s.setGrp g v).out = s.out := rfl
@[simp] theorem State.setGrp_free (g : Nat) (v : Grp) : (s.setGrp g v).free = s.free := rfl
@[simp] theorem State.setGrp_waits (g : Nat) (v : Grp) : (s.setGrp g v).waits = s.waits := rfl
@[simp] theorem State.setGrp_leg (g : Nat) (v : Grp) : (s.setGrp g v).leg = s.leg := rfl
@[simp] theorem State.setGrp_rx (g : Nat) (v : Grp) : (s.setGrp g v).rx = s.rx := rfl
@[simp] theorem State.setGrp_sag (g : Nat) (v : Grp) : (s.setGrp g v).sag = s.sag := rfl
@[simp] theorem State.setGrp_sup (g : Nat) (v : Grp) : (s.setGrp g v).sup = s.sup := rfl
@[simp] theorem State.setGrp_coldWant (g : Nat) (v : Grp) : (s.setGrp g v).coldWant = s.coldWant := rfl
@[simp] theorem State.setGrp_warmWant (g : Nat) (v : Grp) : (s.setGrp g v).warmWant = s.warmWant := rfl
@[simp] theorem State.setGrp_startFault (g : Nat) (v : Grp) : (s.setGrp g v).startFault = s.startFault := rfl
@[simp] theorem State.setLeg_pending (n : Nat) (v : Leg) : (s.setLeg n v).pending = s.pending := rfl
@[simp] theorem State.setLeg_variant (n : Nat) (v : Leg) : (s.setLeg n v).variant = s.variant := rfl
@[simp] theorem State.setLeg_mtime (n : Nat) (v : Leg) : (s.setLeg n v).mtime = s.mtime := rfl
@[simp] theorem State.setLeg_regs (n : Nat) (v : Leg) : (s.setLeg n v).regs = s.regs := rfl
@[simp] theorem State.setLeg_words (n : Nat) (v : Leg) : (s.setLeg n v).words = s.words := rfl
@[simp] theorem State.setLeg_bytes (n : Nat) (v : Leg) : (s.setLeg n v).bytes = s.bytes := rfl
@[simp] theorem State.setLeg_out (n : Nat) (v : Leg) : (s.setLeg n v).out = s.out := rfl
@[simp] theorem State.setLeg_free (n : Nat) (v : Leg) : (s.setLeg n v).free = s.free := rfl
@[simp] theorem State.setLeg_waits (n : Nat) (v : Leg) : (s.setLeg n v).waits = s.waits := rfl
@[simp] theorem State.setLeg_grp (n : Nat) (v : Leg) : (s.setLeg n v).grp = s.grp := rfl
@[simp] theorem State.setLeg_rx (n : Nat) (v : Leg) : (s.setLeg n v).rx = s.rx := rfl
@[simp] theorem State.setLeg_sag (n : Nat) (v : Leg) : (s.setLeg n v).sag = s.sag := rfl
@[simp] theorem State.setLeg_sup (n : Nat) (v : Leg) : (s.setLeg n v).sup = s.sup := rfl
@[simp] theorem State.setLeg_coldWant (n : Nat) (v : Leg) : (s.setLeg n v).coldWant = s.coldWant := rfl
@[simp] theorem State.setLeg_warmWant (n : Nat) (v : Leg) : (s.setLeg n v).warmWant = s.warmWant := rfl
@[simp] theorem State.setLeg_startFault (n : Nat) (v : Leg) : (s.setLeg n v).startFault = s.startFault := rfl
@[simp] theorem State.setRx_pending (l : Nat) (v : Rx) : (s.setRx l v).pending = s.pending := rfl
@[simp] theorem State.setRx_variant (l : Nat) (v : Rx) : (s.setRx l v).variant = s.variant := rfl
@[simp] theorem State.setRx_mtime (l : Nat) (v : Rx) : (s.setRx l v).mtime = s.mtime := rfl
@[simp] theorem State.setRx_regs (l : Nat) (v : Rx) : (s.setRx l v).regs = s.regs := rfl
@[simp] theorem State.setRx_words (l : Nat) (v : Rx) : (s.setRx l v).words = s.words := rfl
@[simp] theorem State.setRx_bytes (l : Nat) (v : Rx) : (s.setRx l v).bytes = s.bytes := rfl
@[simp] theorem State.setRx_out (l : Nat) (v : Rx) : (s.setRx l v).out = s.out := rfl
@[simp] theorem State.setRx_free (l : Nat) (v : Rx) : (s.setRx l v).free = s.free := rfl
@[simp] theorem State.setRx_waits (l : Nat) (v : Rx) : (s.setRx l v).waits = s.waits := rfl
@[simp] theorem State.setRx_grp (l : Nat) (v : Rx) : (s.setRx l v).grp = s.grp := rfl
@[simp] theorem State.setRx_leg (l : Nat) (v : Rx) : (s.setRx l v).leg = s.leg := rfl
@[simp] theorem State.setRx_sag (l : Nat) (v : Rx) : (s.setRx l v).sag = s.sag := rfl
@[simp] theorem State.setRx_sup (l : Nat) (v : Rx) : (s.setRx l v).sup = s.sup := rfl
@[simp] theorem State.setRx_coldWant (l : Nat) (v : Rx) : (s.setRx l v).coldWant = s.coldWant := rfl
@[simp] theorem State.setRx_warmWant (l : Nat) (v : Rx) : (s.setRx l v).warmWant = s.warmWant := rfl
@[simp] theorem State.setRx_startFault (l : Nat) (v : Rx) : (s.setRx l v).startFault = s.startFault := rfl
@[simp] theorem State.setLk_pending (l : Nat) (v : Lk) : (s.setLk l v).pending = s.pending := rfl
@[simp] theorem State.setLk_variant (l : Nat) (v : Lk) : (s.setLk l v).variant = s.variant := rfl
@[simp] theorem State.setLk_mtime (l : Nat) (v : Lk) : (s.setLk l v).mtime = s.mtime := rfl
@[simp] theorem State.setLk_regs (l : Nat) (v : Lk) : (s.setLk l v).regs = s.regs := rfl
@[simp] theorem State.setLk_words (l : Nat) (v : Lk) : (s.setLk l v).words = s.words := rfl
@[simp] theorem State.setLk_bytes (l : Nat) (v : Lk) : (s.setLk l v).bytes = s.bytes := rfl
@[simp] theorem State.setLk_out (l : Nat) (v : Lk) : (s.setLk l v).out = s.out := rfl
@[simp] theorem State.setLk_free (l : Nat) (v : Lk) : (s.setLk l v).free = s.free := rfl
@[simp] theorem State.setLk_waits (l : Nat) (v : Lk) : (s.setLk l v).waits = s.waits := rfl
@[simp] theorem State.setLk_grp (l : Nat) (v : Lk) : (s.setLk l v).grp = s.grp := rfl
@[simp] theorem State.setLk_leg (l : Nat) (v : Lk) : (s.setLk l v).leg = s.leg := rfl
@[simp] theorem State.setLk_rx (l : Nat) (v : Lk) : (s.setLk l v).rx = s.rx := rfl
@[simp] theorem State.setLk_sag (l : Nat) (v : Lk) : (s.setLk l v).sag = s.sag := rfl
@[simp] theorem State.setLk_sup (l : Nat) (v : Lk) : (s.setLk l v).sup = s.sup := rfl
@[simp] theorem State.setLk_coldWant (l : Nat) (v : Lk) : (s.setLk l v).coldWant = s.coldWant := rfl
@[simp] theorem State.setLk_warmWant (l : Nat) (v : Lk) : (s.setLk l v).warmWant = s.warmWant := rfl
@[simp] theorem State.setLk_startFault (l : Nat) (v : Lk) : (s.setLk l v).startFault = s.startFault := rfl
@[simp] theorem State.setFiltTime_pending (src t : Nat) : (s.setFiltTime src t).pending = s.pending := rfl
@[simp] theorem State.setFiltTime_variant (src t : Nat) : (s.setFiltTime src t).variant = s.variant := rfl
@[simp] theorem State.setFiltTime_mtime (src t : Nat) : (s.setFiltTime src t).mtime = s.mtime := rfl
@[simp] theorem State.setFiltTime_regs (src t : Nat) : (s.setFiltTime src t).regs = s.regs := rfl
@[simp] theorem State.setFiltTime_words (src t : Nat) : (s.setFiltTime src t).words = s.words := rfl
@[simp] theorem State.setFiltTime_bytes (src t : Nat) : (s.setFiltTime src t).bytes = s.bytes := rfl
@[simp] theorem State.setFiltTime_out (src t : Nat) : (s.setFiltTime src t).out = s.out := rfl
@[simp] theorem State.setFiltTime_free (src t : Nat) : (s.setFiltTime src t).free = s.free := rfl
@[simp] theorem State.setFiltTime_waits (src t : Nat) : (s.setFiltTime src t).waits = s.waits := rfl
@[simp] theorem State.setFiltTime_grp (src t : Nat) : (s.setFiltTime src t).grp = s.grp := rfl
@[simp] theorem State.setFiltTime_leg (src t : Nat) : (s.setFiltTime src t).leg = s.leg := rfl
@[simp] theorem State.setFiltTime_rx (src t : Nat) : (s.setFiltTime src t).rx = s.rx := rfl
@[simp] theorem State.setFiltTime_sag (src t : Nat) : (s.setFiltTime src t).sag = s.sag := rfl
@[simp] theorem State.setFiltTime_sup (src t : Nat) : (s.setFiltTime src t).sup = s.sup := rfl
@[simp] theorem State.setFiltTime_coldWant (src t : Nat) : (s.setFiltTime src t).coldWant = s.coldWant := rfl
@[simp] theorem State.setFiltTime_warmWant (src t : Nat) : (s.setFiltTime src t).warmWant = s.warmWant := rfl
@[simp] theorem State.setFiltTime_startFault (src t : Nat) : (s.setFiltTime src t).startFault = s.startFault := rfl
@[simp] theorem State.setAdc_pending (n : Nat) (v : Adc) : (s.setAdc n v).pending = s.pending := rfl
@[simp] theorem State.setAdc_variant (n : Nat) (v : Adc) : (s.setAdc n v).variant = s.variant := rfl
@[simp] theorem State.setAdc_mtime (n : Nat) (v : Adc) : (s.setAdc n v).mtime = s.mtime := rfl
@[simp] theorem State.setAdc_regs (n : Nat) (v : Adc) : (s.setAdc n v).regs = s.regs := rfl
@[simp] theorem State.setAdc_words (n : Nat) (v : Adc) : (s.setAdc n v).words = s.words := rfl
@[simp] theorem State.setAdc_bytes (n : Nat) (v : Adc) : (s.setAdc n v).bytes = s.bytes := rfl
@[simp] theorem State.setAdc_out (n : Nat) (v : Adc) : (s.setAdc n v).out = s.out := rfl
@[simp] theorem State.setAdc_free (n : Nat) (v : Adc) : (s.setAdc n v).free = s.free := rfl
@[simp] theorem State.setAdc_waits (n : Nat) (v : Adc) : (s.setAdc n v).waits = s.waits := rfl
@[simp] theorem State.setAdc_grp (n : Nat) (v : Adc) : (s.setAdc n v).grp = s.grp := rfl
@[simp] theorem State.setAdc_leg (n : Nat) (v : Adc) : (s.setAdc n v).leg = s.leg := rfl
@[simp] theorem State.setAdc_rx (n : Nat) (v : Adc) : (s.setAdc n v).rx = s.rx := rfl
@[simp] theorem State.setAdc_sag (n : Nat) (v : Adc) : (s.setAdc n v).sag = s.sag := rfl
@[simp] theorem State.setAdc_sup (n : Nat) (v : Adc) : (s.setAdc n v).sup = s.sup := rfl
@[simp] theorem State.setAdc_coldWant (n : Nat) (v : Adc) : (s.setAdc n v).coldWant = s.coldWant := rfl
@[simp] theorem State.setAdc_warmWant (n : Nat) (v : Adc) : (s.setAdc n v).warmWant = s.warmWant := rfl
@[simp] theorem State.setAdc_startFault (n : Nat) (v : Adc) : (s.setAdc n v).startFault = s.startFault := rfl
@[simp] theorem State.setModu_pending (k : Nat) (v : Modu) : (s.setModu k v).pending = s.pending := rfl
@[simp] theorem State.setModu_variant (k : Nat) (v : Modu) : (s.setModu k v).variant = s.variant := rfl
@[simp] theorem State.setModu_mtime (k : Nat) (v : Modu) : (s.setModu k v).mtime = s.mtime := rfl
@[simp] theorem State.setModu_regs (k : Nat) (v : Modu) : (s.setModu k v).regs = s.regs := rfl
@[simp] theorem State.setModu_words (k : Nat) (v : Modu) : (s.setModu k v).words = s.words := rfl
@[simp] theorem State.setModu_bytes (k : Nat) (v : Modu) : (s.setModu k v).bytes = s.bytes := rfl
@[simp] theorem State.setModu_out (k : Nat) (v : Modu) : (s.setModu k v).out = s.out := rfl
@[simp] theorem State.setModu_free (k : Nat) (v : Modu) : (s.setModu k v).free = s.free := rfl
@[simp] theorem State.setModu_waits (k : Nat) (v : Modu) : (s.setModu k v).waits = s.waits := rfl
@[simp] theorem State.setModu_grp (k : Nat) (v : Modu) : (s.setModu k v).grp = s.grp := rfl
@[simp] theorem State.setModu_leg (k : Nat) (v : Modu) : (s.setModu k v).leg = s.leg := rfl
@[simp] theorem State.setModu_rx (k : Nat) (v : Modu) : (s.setModu k v).rx = s.rx := rfl
@[simp] theorem State.setModu_sag (k : Nat) (v : Modu) : (s.setModu k v).sag = s.sag := rfl
@[simp] theorem State.setModu_sup (k : Nat) (v : Modu) : (s.setModu k v).sup = s.sup := rfl
@[simp] theorem State.setModu_coldWant (k : Nat) (v : Modu) : (s.setModu k v).coldWant = s.coldWant := rfl
@[simp] theorem State.setModu_warmWant (k : Nat) (v : Modu) : (s.setModu k v).warmWant = s.warmWant := rfl
@[simp] theorem State.setModu_startFault (k : Nat) (v : Modu) : (s.setModu k v).startFault = s.startFault := rfl
@[simp] theorem State.setFb_pending (n : Nat) (v : Feedback) : (s.setFb n v).pending = s.pending := rfl
@[simp] theorem State.setFb_variant (n : Nat) (v : Feedback) : (s.setFb n v).variant = s.variant := rfl
@[simp] theorem State.setFb_mtime (n : Nat) (v : Feedback) : (s.setFb n v).mtime = s.mtime := rfl
@[simp] theorem State.setFb_regs (n : Nat) (v : Feedback) : (s.setFb n v).regs = s.regs := rfl
@[simp] theorem State.setFb_words (n : Nat) (v : Feedback) : (s.setFb n v).words = s.words := rfl
@[simp] theorem State.setFb_bytes (n : Nat) (v : Feedback) : (s.setFb n v).bytes = s.bytes := rfl
@[simp] theorem State.setFb_out (n : Nat) (v : Feedback) : (s.setFb n v).out = s.out := rfl
@[simp] theorem State.setFb_free (n : Nat) (v : Feedback) : (s.setFb n v).free = s.free := rfl
@[simp] theorem State.setFb_waits (n : Nat) (v : Feedback) : (s.setFb n v).waits = s.waits := rfl
@[simp] theorem State.setFb_grp (n : Nat) (v : Feedback) : (s.setFb n v).grp = s.grp := rfl
@[simp] theorem State.setFb_leg (n : Nat) (v : Feedback) : (s.setFb n v).leg = s.leg := rfl
@[simp] theorem State.setFb_rx (n : Nat) (v : Feedback) : (s.setFb n v).rx = s.rx := rfl
@[simp] theorem State.setFb_sag (n : Nat) (v : Feedback) : (s.setFb n v).sag = s.sag := rfl
@[simp] theorem State.setFb_sup (n : Nat) (v : Feedback) : (s.setFb n v).sup = s.sup := rfl
@[simp] theorem State.setFb_coldWant (n : Nat) (v : Feedback) : (s.setFb n v).coldWant = s.coldWant := rfl
@[simp] theorem State.setFb_warmWant (n : Nat) (v : Feedback) : (s.setFb n v).warmWant = s.warmWant := rfl
@[simp] theorem State.setFb_startFault (n : Nat) (v : Feedback) : (s.setFb n v).startFault = s.startFault := rfl
@[simp] theorem State.setEmu_pending (m : Nat) (v : Emu) : (s.setEmu m v).pending = s.pending := rfl
@[simp] theorem State.setEmu_variant (m : Nat) (v : Emu) : (s.setEmu m v).variant = s.variant := rfl
@[simp] theorem State.setEmu_mtime (m : Nat) (v : Emu) : (s.setEmu m v).mtime = s.mtime := rfl
@[simp] theorem State.setEmu_regs (m : Nat) (v : Emu) : (s.setEmu m v).regs = s.regs := rfl
@[simp] theorem State.setEmu_words (m : Nat) (v : Emu) : (s.setEmu m v).words = s.words := rfl
@[simp] theorem State.setEmu_bytes (m : Nat) (v : Emu) : (s.setEmu m v).bytes = s.bytes := rfl
@[simp] theorem State.setEmu_out (m : Nat) (v : Emu) : (s.setEmu m v).out = s.out := rfl
@[simp] theorem State.setEmu_free (m : Nat) (v : Emu) : (s.setEmu m v).free = s.free := rfl
@[simp] theorem State.setEmu_waits (m : Nat) (v : Emu) : (s.setEmu m v).waits = s.waits := rfl
@[simp] theorem State.setEmu_grp (m : Nat) (v : Emu) : (s.setEmu m v).grp = s.grp := rfl
@[simp] theorem State.setEmu_leg (m : Nat) (v : Emu) : (s.setEmu m v).leg = s.leg := rfl
@[simp] theorem State.setEmu_rx (m : Nat) (v : Emu) : (s.setEmu m v).rx = s.rx := rfl
@[simp] theorem State.setEmu_sag (m : Nat) (v : Emu) : (s.setEmu m v).sag = s.sag := rfl
@[simp] theorem State.setEmu_sup (m : Nat) (v : Emu) : (s.setEmu m v).sup = s.sup := rfl
@[simp] theorem State.setEmu_coldWant (m : Nat) (v : Emu) : (s.setEmu m v).coldWant = s.coldWant := rfl
@[simp] theorem State.setEmu_warmWant (m : Nat) (v : Emu) : (s.setEmu m v).warmWant = s.warmWant := rfl
@[simp] theorem State.setEmu_startFault (m : Nat) (v : Emu) : (s.setEmu m v).startFault = s.startFault := rfl
@[simp] theorem State.setEng_pending (e : Nat) (v : Eng) : (s.setEng e v).pending = s.pending := rfl
@[simp] theorem State.setEng_variant (e : Nat) (v : Eng) : (s.setEng e v).variant = s.variant := rfl
@[simp] theorem State.setEng_mtime (e : Nat) (v : Eng) : (s.setEng e v).mtime = s.mtime := rfl
@[simp] theorem State.setEng_regs (e : Nat) (v : Eng) : (s.setEng e v).regs = s.regs := rfl
@[simp] theorem State.setEng_words (e : Nat) (v : Eng) : (s.setEng e v).words = s.words := rfl
@[simp] theorem State.setEng_bytes (e : Nat) (v : Eng) : (s.setEng e v).bytes = s.bytes := rfl
@[simp] theorem State.setEng_out (e : Nat) (v : Eng) : (s.setEng e v).out = s.out := rfl
@[simp] theorem State.setEng_free (e : Nat) (v : Eng) : (s.setEng e v).free = s.free := rfl
@[simp] theorem State.setEng_waits (e : Nat) (v : Eng) : (s.setEng e v).waits = s.waits := rfl
@[simp] theorem State.setEng_grp (e : Nat) (v : Eng) : (s.setEng e v).grp = s.grp := rfl
@[simp] theorem State.setEng_leg (e : Nat) (v : Eng) : (s.setEng e v).leg = s.leg := rfl
@[simp] theorem State.setEng_rx (e : Nat) (v : Eng) : (s.setEng e v).rx = s.rx := rfl
@[simp] theorem State.setEng_sag (e : Nat) (v : Eng) : (s.setEng e v).sag = s.sag := rfl
@[simp] theorem State.setEng_sup (e : Nat) (v : Eng) : (s.setEng e v).sup = s.sup := rfl
@[simp] theorem State.setEng_coldWant (e : Nat) (v : Eng) : (s.setEng e v).coldWant = s.coldWant := rfl
@[simp] theorem State.setEng_warmWant (e : Nat) (v : Eng) : (s.setEng e v).warmWant = s.warmWant := rfl
@[simp] theorem State.setEng_startFault (e : Nat) (v : Eng) : (s.setEng e v).startFault = s.startFault := rfl
@[simp] theorem State.setSlot_pending (m : Nat) (v : TrcSlot) : (s.setSlot m v).pending = s.pending := rfl
@[simp] theorem State.setSlot_variant (m : Nat) (v : TrcSlot) : (s.setSlot m v).variant = s.variant := rfl
@[simp] theorem State.setSlot_mtime (m : Nat) (v : TrcSlot) : (s.setSlot m v).mtime = s.mtime := rfl
@[simp] theorem State.setSlot_regs (m : Nat) (v : TrcSlot) : (s.setSlot m v).regs = s.regs := rfl
@[simp] theorem State.setSlot_words (m : Nat) (v : TrcSlot) : (s.setSlot m v).words = s.words := rfl
@[simp] theorem State.setSlot_bytes (m : Nat) (v : TrcSlot) : (s.setSlot m v).bytes = s.bytes := rfl
@[simp] theorem State.setSlot_out (m : Nat) (v : TrcSlot) : (s.setSlot m v).out = s.out := rfl
@[simp] theorem State.setSlot_free (m : Nat) (v : TrcSlot) : (s.setSlot m v).free = s.free := rfl
@[simp] theorem State.setSlot_waits (m : Nat) (v : TrcSlot) : (s.setSlot m v).waits = s.waits := rfl
@[simp] theorem State.setSlot_grp (m : Nat) (v : TrcSlot) : (s.setSlot m v).grp = s.grp := rfl
@[simp] theorem State.setSlot_leg (m : Nat) (v : TrcSlot) : (s.setSlot m v).leg = s.leg := rfl
@[simp] theorem State.setSlot_rx (m : Nat) (v : TrcSlot) : (s.setSlot m v).rx = s.rx := rfl
@[simp] theorem State.setSlot_sag (m : Nat) (v : TrcSlot) : (s.setSlot m v).sag = s.sag := rfl
@[simp] theorem State.setSlot_sup (m : Nat) (v : TrcSlot) : (s.setSlot m v).sup = s.sup := rfl
@[simp] theorem State.setSlot_coldWant (m : Nat) (v : TrcSlot) : (s.setSlot m v).coldWant = s.coldWant := rfl
@[simp] theorem State.setSlot_warmWant (m : Nat) (v : TrcSlot) : (s.setSlot m v).warmWant = s.warmWant := rfl
@[simp] theorem State.setSlot_startFault (m : Nat) (v : TrcSlot) : (s.setSlot m v).startFault = s.startFault := rfl
@[simp] theorem State.setLink_pending (j : Nat) (v : TrcLink) : (s.setLink j v).pending = s.pending := rfl
@[simp] theorem State.setLink_variant (j : Nat) (v : TrcLink) : (s.setLink j v).variant = s.variant := rfl
@[simp] theorem State.setLink_mtime (j : Nat) (v : TrcLink) : (s.setLink j v).mtime = s.mtime := rfl
@[simp] theorem State.setLink_regs (j : Nat) (v : TrcLink) : (s.setLink j v).regs = s.regs := rfl
@[simp] theorem State.setLink_words (j : Nat) (v : TrcLink) : (s.setLink j v).words = s.words := rfl
@[simp] theorem State.setLink_bytes (j : Nat) (v : TrcLink) : (s.setLink j v).bytes = s.bytes := rfl
@[simp] theorem State.setLink_out (j : Nat) (v : TrcLink) : (s.setLink j v).out = s.out := rfl
@[simp] theorem State.setLink_free (j : Nat) (v : TrcLink) : (s.setLink j v).free = s.free := rfl
@[simp] theorem State.setLink_waits (j : Nat) (v : TrcLink) : (s.setLink j v).waits = s.waits := rfl
@[simp] theorem State.setLink_grp (j : Nat) (v : TrcLink) : (s.setLink j v).grp = s.grp := rfl
@[simp] theorem State.setLink_leg (j : Nat) (v : TrcLink) : (s.setLink j v).leg = s.leg := rfl
@[simp] theorem State.setLink_rx (j : Nat) (v : TrcLink) : (s.setLink j v).rx = s.rx := rfl
@[simp] theorem State.setLink_sag (j : Nat) (v : TrcLink) : (s.setLink j v).sag = s.sag := rfl
@[simp] theorem State.setLink_sup (j : Nat) (v : TrcLink) : (s.setLink j v).sup = s.sup := rfl
@[simp] theorem State.setLink_coldWant (j : Nat) (v : TrcLink) : (s.setLink j v).coldWant = s.coldWant := rfl
@[simp] theorem State.setLink_warmWant (j : Nat) (v : TrcLink) : (s.setLink j v).warmWant = s.warmWant := rfl
@[simp] theorem State.setLink_startFault (j : Nat) (v : TrcLink) : (s.setLink j v).startFault = s.startFault := rfl
@[simp] theorem State.setAct_pending (m : Nat) (v : Act) : (s.setAct m v).pending = s.pending := rfl
@[simp] theorem State.setAct_variant (m : Nat) (v : Act) : (s.setAct m v).variant = s.variant := rfl
@[simp] theorem State.setAct_mtime (m : Nat) (v : Act) : (s.setAct m v).mtime = s.mtime := rfl
@[simp] theorem State.setAct_regs (m : Nat) (v : Act) : (s.setAct m v).regs = s.regs := rfl
@[simp] theorem State.setAct_words (m : Nat) (v : Act) : (s.setAct m v).words = s.words := rfl
@[simp] theorem State.setAct_bytes (m : Nat) (v : Act) : (s.setAct m v).bytes = s.bytes := rfl
@[simp] theorem State.setAct_out (m : Nat) (v : Act) : (s.setAct m v).out = s.out := rfl
@[simp] theorem State.setAct_free (m : Nat) (v : Act) : (s.setAct m v).free = s.free := rfl
@[simp] theorem State.setAct_waits (m : Nat) (v : Act) : (s.setAct m v).waits = s.waits := rfl
@[simp] theorem State.setAct_grp (m : Nat) (v : Act) : (s.setAct m v).grp = s.grp := rfl
@[simp] theorem State.setAct_leg (m : Nat) (v : Act) : (s.setAct m v).leg = s.leg := rfl
@[simp] theorem State.setAct_rx (m : Nat) (v : Act) : (s.setAct m v).rx = s.rx := rfl
@[simp] theorem State.setAct_sag (m : Nat) (v : Act) : (s.setAct m v).sag = s.sag := rfl
@[simp] theorem State.setAct_sup (m : Nat) (v : Act) : (s.setAct m v).sup = s.sup := rfl
@[simp] theorem State.setAct_coldWant (m : Nat) (v : Act) : (s.setAct m v).coldWant = s.coldWant := rfl
@[simp] theorem State.setAct_warmWant (m : Nat) (v : Act) : (s.setAct m v).warmWant = s.warmWant := rfl
@[simp] theorem State.setAct_startFault (m : Nat) (v : Act) : (s.setAct m v).startFault = s.startFault := rfl
@[simp] theorem State.setCnv_pending (m : Nat) (v : Cnv) : (s.setCnv m v).pending = s.pending := rfl
@[simp] theorem State.setCnv_variant (m : Nat) (v : Cnv) : (s.setCnv m v).variant = s.variant := rfl
@[simp] theorem State.setCnv_mtime (m : Nat) (v : Cnv) : (s.setCnv m v).mtime = s.mtime := rfl
@[simp] theorem State.setCnv_regs (m : Nat) (v : Cnv) : (s.setCnv m v).regs = s.regs := rfl
@[simp] theorem State.setCnv_words (m : Nat) (v : Cnv) : (s.setCnv m v).words = s.words := rfl
@[simp] theorem State.setCnv_bytes (m : Nat) (v : Cnv) : (s.setCnv m v).bytes = s.bytes := rfl
@[simp] theorem State.setCnv_out (m : Nat) (v : Cnv) : (s.setCnv m v).out = s.out := rfl
@[simp] theorem State.setCnv_free (m : Nat) (v : Cnv) : (s.setCnv m v).free = s.free := rfl
@[simp] theorem State.setCnv_waits (m : Nat) (v : Cnv) : (s.setCnv m v).waits = s.waits := rfl
@[simp] theorem State.setCnv_grp (m : Nat) (v : Cnv) : (s.setCnv m v).grp = s.grp := rfl
@[simp] theorem State.setCnv_leg (m : Nat) (v : Cnv) : (s.setCnv m v).leg = s.leg := rfl
@[simp] theorem State.setCnv_rx (m : Nat) (v : Cnv) : (s.setCnv m v).rx = s.rx := rfl
@[simp] theorem State.setCnv_sag (m : Nat) (v : Cnv) : (s.setCnv m v).sag = s.sag := rfl
@[simp] theorem State.setCnv_sup (m : Nat) (v : Cnv) : (s.setCnv m v).sup = s.sup := rfl
@[simp] theorem State.setCnv_coldWant (m : Nat) (v : Cnv) : (s.setCnv m v).coldWant = s.coldWant := rfl
@[simp] theorem State.setCnv_warmWant (m : Nat) (v : Cnv) : (s.setCnv m v).warmWant = s.warmWant := rfl
@[simp] theorem State.setCnv_startFault (m : Nat) (v : Cnv) : (s.setCnv m v).startFault = s.startFault := rfl
@[simp] theorem State.setChg_pending (v : Chg) : (s.setChg v).pending = s.pending := rfl
@[simp] theorem State.setChg_variant (v : Chg) : (s.setChg v).variant = s.variant := rfl
@[simp] theorem State.setChg_mtime (v : Chg) : (s.setChg v).mtime = s.mtime := rfl
@[simp] theorem State.setChg_regs (v : Chg) : (s.setChg v).regs = s.regs := rfl
@[simp] theorem State.setChg_words (v : Chg) : (s.setChg v).words = s.words := rfl
@[simp] theorem State.setChg_bytes (v : Chg) : (s.setChg v).bytes = s.bytes := rfl
@[simp] theorem State.setChg_out (v : Chg) : (s.setChg v).out = s.out := rfl
@[simp] theorem State.setChg_free (v : Chg) : (s.setChg v).free = s.free := rfl
@[simp] theorem State.setChg_waits (v : Chg) : (s.setChg v).waits = s.waits := rfl
@[simp] theorem State.setChg_grp (v : Chg) : (s.setChg v).grp = s.grp := rfl
@[simp] theorem State.setChg_leg (v : Chg) : (s.setChg v).leg = s.leg := rfl
@[simp] theorem State.setChg_rx (v : Chg) : (s.setChg v).rx = s.rx := rfl
@[simp] theorem State.setChg_sag (v : Chg) : (s.setChg v).sag = s.sag := rfl
@[simp] theorem State.setChg_sup (v : Chg) : (s.setChg v).sup = s.sup := rfl
@[simp] theorem State.setChg_coldWant (v : Chg) : (s.setChg v).coldWant = s.coldWant := rfl
@[simp] theorem State.setChg_warmWant (v : Chg) : (s.setChg v).warmWant = s.warmWant := rfl
@[simp] theorem State.setChg_startFault (v : Chg) : (s.setChg v).startFault = s.startFault := rfl
@[simp] theorem State.setSagGrp_pending (g : Nat) (v : SagGrp) : (s.setSagGrp g v).pending = s.pending := rfl
@[simp] theorem State.setSagGrp_variant (g : Nat) (v : SagGrp) : (s.setSagGrp g v).variant = s.variant := rfl
@[simp] theorem State.setSagGrp_mtime (g : Nat) (v : SagGrp) : (s.setSagGrp g v).mtime = s.mtime := rfl
@[simp] theorem State.setSagGrp_regs (g : Nat) (v : SagGrp) : (s.setSagGrp g v).regs = s.regs := rfl
@[simp] theorem State.setSagGrp_words (g : Nat) (v : SagGrp) : (s.setSagGrp g v).words = s.words := rfl
@[simp] theorem State.setSagGrp_bytes (g : Nat) (v : SagGrp) : (s.setSagGrp g v).bytes = s.bytes := rfl
@[simp] theorem State.setSagGrp_out (g : Nat) (v : SagGrp) : (s.setSagGrp g v).out = s.out := rfl
@[simp] theorem State.setSagGrp_free (g : Nat) (v : SagGrp) : (s.setSagGrp g v).free = s.free := rfl
@[simp] theorem State.setSagGrp_waits (g : Nat) (v : SagGrp) : (s.setSagGrp g v).waits = s.waits := rfl
@[simp] theorem State.setSagGrp_grp (g : Nat) (v : SagGrp) : (s.setSagGrp g v).grp = s.grp := rfl
@[simp] theorem State.setSagGrp_leg (g : Nat) (v : SagGrp) : (s.setSagGrp g v).leg = s.leg := rfl
@[simp] theorem State.setSagGrp_rx (g : Nat) (v : SagGrp) : (s.setSagGrp g v).rx = s.rx := rfl
@[simp] theorem State.setSagGrp_sag (g : Nat) (v : SagGrp) : (s.setSagGrp g v).sag = s.sag := rfl
@[simp] theorem State.setSagGrp_sup (g : Nat) (v : SagGrp) : (s.setSagGrp g v).sup = s.sup := rfl
@[simp] theorem State.setSagGrp_coldWant (g : Nat) (v : SagGrp) : (s.setSagGrp g v).coldWant = s.coldWant := rfl
@[simp] theorem State.setSagGrp_warmWant (g : Nat) (v : SagGrp) : (s.setSagGrp g v).warmWant = s.warmWant := rfl
@[simp] theorem State.setSagGrp_startFault (g : Nat) (v : SagGrp) : (s.setSagGrp g v).startFault = s.startFault := rfl
@[simp] theorem State.setSout_pending (n : Nat) (v : Sout) : (s.setSout n v).pending = s.pending := rfl
@[simp] theorem State.setSout_variant (n : Nat) (v : Sout) : (s.setSout n v).variant = s.variant := rfl
@[simp] theorem State.setSout_mtime (n : Nat) (v : Sout) : (s.setSout n v).mtime = s.mtime := rfl
@[simp] theorem State.setSout_regs (n : Nat) (v : Sout) : (s.setSout n v).regs = s.regs := rfl
@[simp] theorem State.setSout_words (n : Nat) (v : Sout) : (s.setSout n v).words = s.words := rfl
@[simp] theorem State.setSout_bytes (n : Nat) (v : Sout) : (s.setSout n v).bytes = s.bytes := rfl
@[simp] theorem State.setSout_out (n : Nat) (v : Sout) : (s.setSout n v).out = s.out := rfl
@[simp] theorem State.setSout_free (n : Nat) (v : Sout) : (s.setSout n v).free = s.free := rfl
@[simp] theorem State.setSout_waits (n : Nat) (v : Sout) : (s.setSout n v).waits = s.waits := rfl
@[simp] theorem State.setSout_grp (n : Nat) (v : Sout) : (s.setSout n v).grp = s.grp := rfl
@[simp] theorem State.setSout_leg (n : Nat) (v : Sout) : (s.setSout n v).leg = s.leg := rfl
@[simp] theorem State.setSout_rx (n : Nat) (v : Sout) : (s.setSout n v).rx = s.rx := rfl
@[simp] theorem State.setSout_sag (n : Nat) (v : Sout) : (s.setSout n v).sag = s.sag := rfl
@[simp] theorem State.setSout_sup (n : Nat) (v : Sout) : (s.setSout n v).sup = s.sup := rfl
@[simp] theorem State.setSout_coldWant (n : Nat) (v : Sout) : (s.setSout n v).coldWant = s.coldWant := rfl
@[simp] theorem State.setSout_warmWant (n : Nat) (v : Sout) : (s.setSout n v).warmWant = s.warmWant := rfl
@[simp] theorem State.setSout_startFault (n : Nat) (v : Sout) : (s.setSout n v).startFault = s.startFault := rfl
@[simp] theorem State.setFjop_pending (c : Nat) (v : Fjop) : (s.setFjop c v).pending = s.pending := rfl
@[simp] theorem State.setFjop_variant (c : Nat) (v : Fjop) : (s.setFjop c v).variant = s.variant := rfl
@[simp] theorem State.setFjop_mtime (c : Nat) (v : Fjop) : (s.setFjop c v).mtime = s.mtime := rfl
@[simp] theorem State.setFjop_regs (c : Nat) (v : Fjop) : (s.setFjop c v).regs = s.regs := rfl
@[simp] theorem State.setFjop_words (c : Nat) (v : Fjop) : (s.setFjop c v).words = s.words := rfl
@[simp] theorem State.setFjop_bytes (c : Nat) (v : Fjop) : (s.setFjop c v).bytes = s.bytes := rfl
@[simp] theorem State.setFjop_out (c : Nat) (v : Fjop) : (s.setFjop c v).out = s.out := rfl
@[simp] theorem State.setFjop_free (c : Nat) (v : Fjop) : (s.setFjop c v).free = s.free := rfl
@[simp] theorem State.setFjop_waits (c : Nat) (v : Fjop) : (s.setFjop c v).waits = s.waits := rfl
@[simp] theorem State.setFjop_grp (c : Nat) (v : Fjop) : (s.setFjop c v).grp = s.grp := rfl
@[simp] theorem State.setFjop_leg (c : Nat) (v : Fjop) : (s.setFjop c v).leg = s.leg := rfl
@[simp] theorem State.setFjop_rx (c : Nat) (v : Fjop) : (s.setFjop c v).rx = s.rx := rfl
@[simp] theorem State.setFjop_sag (c : Nat) (v : Fjop) : (s.setFjop c v).sag = s.sag := rfl
@[simp] theorem State.setFjop_sup (c : Nat) (v : Fjop) : (s.setFjop c v).sup = s.sup := rfl
@[simp] theorem State.setFjop_coldWant (c : Nat) (v : Fjop) : (s.setFjop c v).coldWant = s.coldWant := rfl
@[simp] theorem State.setFjop_warmWant (c : Nat) (v : Fjop) : (s.setFjop c v).warmWant = s.warmWant := rfl
@[simp] theorem State.setFjop_startFault (c : Nat) (v : Fjop) : (s.setFjop c v).startFault = s.startFault := rfl
@[simp] theorem State.setHring_pending (k : Nat) (v : HRing) : (s.setHring k v).pending = s.pending := rfl
@[simp] theorem State.setHring_variant (k : Nat) (v : HRing) : (s.setHring k v).variant = s.variant := rfl
@[simp] theorem State.setHring_mtime (k : Nat) (v : HRing) : (s.setHring k v).mtime = s.mtime := rfl
@[simp] theorem State.setHring_regs (k : Nat) (v : HRing) : (s.setHring k v).regs = s.regs := rfl
@[simp] theorem State.setHring_words (k : Nat) (v : HRing) : (s.setHring k v).words = s.words := rfl
@[simp] theorem State.setHring_bytes (k : Nat) (v : HRing) : (s.setHring k v).bytes = s.bytes := rfl
@[simp] theorem State.setHring_out (k : Nat) (v : HRing) : (s.setHring k v).out = s.out := rfl
@[simp] theorem State.setHring_free (k : Nat) (v : HRing) : (s.setHring k v).free = s.free := rfl
@[simp] theorem State.setHring_waits (k : Nat) (v : HRing) : (s.setHring k v).waits = s.waits := rfl
@[simp] theorem State.setHring_grp (k : Nat) (v : HRing) : (s.setHring k v).grp = s.grp := rfl
@[simp] theorem State.setHring_leg (k : Nat) (v : HRing) : (s.setHring k v).leg = s.leg := rfl
@[simp] theorem State.setHring_rx (k : Nat) (v : HRing) : (s.setHring k v).rx = s.rx := rfl
@[simp] theorem State.setHring_sag (k : Nat) (v : HRing) : (s.setHring k v).sag = s.sag := rfl
@[simp] theorem State.setHring_sup (k : Nat) (v : HRing) : (s.setHring k v).sup = s.sup := rfl
@[simp] theorem State.setHring_coldWant (k : Nat) (v : HRing) : (s.setHring k v).coldWant = s.coldWant := rfl
@[simp] theorem State.setHring_warmWant (k : Nat) (v : HRing) : (s.setHring k v).warmWant = s.warmWant := rfl
@[simp] theorem State.setHring_startFault (k : Nat) (v : HRing) : (s.setHring k v).startFault = s.startFault := rfl
@[simp] theorem State.setCan_pending (n : Nat) (v : Can) : (s.setCan n v).pending = s.pending := rfl
@[simp] theorem State.setCan_variant (n : Nat) (v : Can) : (s.setCan n v).variant = s.variant := rfl
@[simp] theorem State.setCan_mtime (n : Nat) (v : Can) : (s.setCan n v).mtime = s.mtime := rfl
@[simp] theorem State.setCan_regs (n : Nat) (v : Can) : (s.setCan n v).regs = s.regs := rfl
@[simp] theorem State.setCan_words (n : Nat) (v : Can) : (s.setCan n v).words = s.words := rfl
@[simp] theorem State.setCan_bytes (n : Nat) (v : Can) : (s.setCan n v).bytes = s.bytes := rfl
@[simp] theorem State.setCan_out (n : Nat) (v : Can) : (s.setCan n v).out = s.out := rfl
@[simp] theorem State.setCan_free (n : Nat) (v : Can) : (s.setCan n v).free = s.free := rfl
@[simp] theorem State.setCan_waits (n : Nat) (v : Can) : (s.setCan n v).waits = s.waits := rfl
@[simp] theorem State.setCan_grp (n : Nat) (v : Can) : (s.setCan n v).grp = s.grp := rfl
@[simp] theorem State.setCan_leg (n : Nat) (v : Can) : (s.setCan n v).leg = s.leg := rfl
@[simp] theorem State.setCan_rx (n : Nat) (v : Can) : (s.setCan n v).rx = s.rx := rfl
@[simp] theorem State.setCan_sag (n : Nat) (v : Can) : (s.setCan n v).sag = s.sag := rfl
@[simp] theorem State.setCan_sup (n : Nat) (v : Can) : (s.setCan n v).sup = s.sup := rfl
@[simp] theorem State.setCan_coldWant (n : Nat) (v : Can) : (s.setCan n v).coldWant = s.coldWant := rfl
@[simp] theorem State.setCan_warmWant (n : Nat) (v : Can) : (s.setCan n v).warmWant = s.warmWant := rfl
@[simp] theorem State.setCan_startFault (n : Nat) (v : Can) : (s.setCan n v).startFault = s.startFault := rfl
@[simp] theorem State.setFeed_pending (f : Nat) (v : Feed) : (s.setFeed f v).pending = s.pending := by simp only [State.setFeed]
@[simp] theorem State.setFeed_variant (f : Nat) (v : Feed) : (s.setFeed f v).variant = s.variant := by simp only [State.setFeed]
@[simp] theorem State.setFeed_mtime (f : Nat) (v : Feed) : (s.setFeed f v).mtime = s.mtime := by simp only [State.setFeed]
@[simp] theorem State.setFeed_regs (f : Nat) (v : Feed) : (s.setFeed f v).regs = s.regs := by simp only [State.setFeed]
@[simp] theorem State.setFeed_words (f : Nat) (v : Feed) : (s.setFeed f v).words = s.words := by simp only [State.setFeed]
@[simp] theorem State.setFeed_bytes (f : Nat) (v : Feed) : (s.setFeed f v).bytes = s.bytes := by simp only [State.setFeed]
@[simp] theorem State.setFeed_out (f : Nat) (v : Feed) : (s.setFeed f v).out = s.out := by simp only [State.setFeed]
@[simp] theorem State.setFeed_free (f : Nat) (v : Feed) : (s.setFeed f v).free = s.free := by simp only [State.setFeed]
@[simp] theorem State.setFeed_waits (f : Nat) (v : Feed) : (s.setFeed f v).waits = s.waits := by simp only [State.setFeed]
@[simp] theorem State.setFeed_grp (f : Nat) (v : Feed) : (s.setFeed f v).grp = s.grp := by simp only [State.setFeed]
@[simp] theorem State.setFeed_leg (f : Nat) (v : Feed) : (s.setFeed f v).leg = s.leg := by simp only [State.setFeed]
@[simp] theorem State.setFeed_rx (f : Nat) (v : Feed) : (s.setFeed f v).rx = s.rx := by simp only [State.setFeed]
@[simp] theorem State.setFeed_sag (f : Nat) (v : Feed) : (s.setFeed f v).sag = s.sag := by simp only [State.setFeed]
@[simp] theorem State.setFeed_coldWant (f : Nat) (v : Feed) : (s.setFeed f v).coldWant = s.coldWant := by simp only [State.setFeed]
@[simp] theorem State.setFeed_warmWant (f : Nat) (v : Feed) : (s.setFeed f v).warmWant = s.warmWant := by simp only [State.setFeed]
@[simp] theorem State.setFeed_startFault (f : Nat) (v : Feed) : (s.setFeed f v).startFault = s.startFault := by simp only [State.setFeed]
@[simp] theorem State.setTap_pending (v : Tap) : (s.setTap v).pending = s.pending := rfl
@[simp] theorem State.setTap_variant (v : Tap) : (s.setTap v).variant = s.variant := rfl
@[simp] theorem State.setTap_mtime (v : Tap) : (s.setTap v).mtime = s.mtime := rfl
@[simp] theorem State.setTap_regs (v : Tap) : (s.setTap v).regs = s.regs := rfl
@[simp] theorem State.setTap_words (v : Tap) : (s.setTap v).words = s.words := rfl
@[simp] theorem State.setTap_bytes (v : Tap) : (s.setTap v).bytes = s.bytes := rfl
@[simp] theorem State.setTap_out (v : Tap) : (s.setTap v).out = s.out := rfl
@[simp] theorem State.setTap_free (v : Tap) : (s.setTap v).free = s.free := rfl
@[simp] theorem State.setTap_waits (v : Tap) : (s.setTap v).waits = s.waits := rfl
@[simp] theorem State.setTap_grp (v : Tap) : (s.setTap v).grp = s.grp := rfl
@[simp] theorem State.setTap_leg (v : Tap) : (s.setTap v).leg = s.leg := rfl
@[simp] theorem State.setTap_rx (v : Tap) : (s.setTap v).rx = s.rx := rfl
@[simp] theorem State.setTap_sag (v : Tap) : (s.setTap v).sag = s.sag := rfl
@[simp] theorem State.setTap_sup (v : Tap) : (s.setTap v).sup = s.sup := rfl
@[simp] theorem State.setTap_coldWant (v : Tap) : (s.setTap v).coldWant = s.coldWant := rfl
@[simp] theorem State.setTap_warmWant (v : Tap) : (s.setTap v).warmWant = s.warmWant := rfl
@[simp] theorem State.setTap_startFault (v : Tap) : (s.setTap v).startFault = s.startFault := rfl
@[simp] theorem State.setView_pending (r : Requester) (v : WordView) : (s.setView r v).pending = s.pending := rfl
@[simp] theorem State.setView_variant (r : Requester) (v : WordView) : (s.setView r v).variant = s.variant := rfl
@[simp] theorem State.setView_mtime (r : Requester) (v : WordView) : (s.setView r v).mtime = s.mtime := rfl
@[simp] theorem State.setView_regs (r : Requester) (v : WordView) : (s.setView r v).regs = s.regs := rfl
@[simp] theorem State.setView_words (r : Requester) (v : WordView) : (s.setView r v).words = s.words := rfl
@[simp] theorem State.setView_bytes (r : Requester) (v : WordView) : (s.setView r v).bytes = s.bytes := rfl
@[simp] theorem State.setView_out (r : Requester) (v : WordView) : (s.setView r v).out = s.out := rfl
@[simp] theorem State.setView_free (r : Requester) (v : WordView) : (s.setView r v).free = s.free := rfl
@[simp] theorem State.setView_waits (r : Requester) (v : WordView) : (s.setView r v).waits = s.waits := rfl
@[simp] theorem State.setView_grp (r : Requester) (v : WordView) : (s.setView r v).grp = s.grp := rfl
@[simp] theorem State.setView_leg (r : Requester) (v : WordView) : (s.setView r v).leg = s.leg := rfl
@[simp] theorem State.setView_rx (r : Requester) (v : WordView) : (s.setView r v).rx = s.rx := rfl
@[simp] theorem State.setView_sag (r : Requester) (v : WordView) : (s.setView r v).sag = s.sag := rfl
@[simp] theorem State.setView_sup (r : Requester) (v : WordView) : (s.setView r v).sup = s.sup := rfl
@[simp] theorem State.setView_coldWant (r : Requester) (v : WordView) : (s.setView r v).coldWant = s.coldWant := rfl
@[simp] theorem State.setView_warmWant (r : Requester) (v : WordView) : (s.setView r v).warmWant = s.warmWant := rfl
@[simp] theorem State.setView_startFault (r : Requester) (v : WordView) : (s.setView r v).startFault = s.startFault := rfl
@[simp] theorem State.setSens_pending (k : Nat) (v : Sens) : (s.setSens k v).pending = s.pending := rfl
@[simp] theorem State.setSens_variant (k : Nat) (v : Sens) : (s.setSens k v).variant = s.variant := rfl
@[simp] theorem State.setSens_mtime (k : Nat) (v : Sens) : (s.setSens k v).mtime = s.mtime := rfl
@[simp] theorem State.setSens_regs (k : Nat) (v : Sens) : (s.setSens k v).regs = s.regs := rfl
@[simp] theorem State.setSens_words (k : Nat) (v : Sens) : (s.setSens k v).words = s.words := rfl
@[simp] theorem State.setSens_bytes (k : Nat) (v : Sens) : (s.setSens k v).bytes = s.bytes := rfl
@[simp] theorem State.setSens_out (k : Nat) (v : Sens) : (s.setSens k v).out = s.out := rfl
@[simp] theorem State.setSens_free (k : Nat) (v : Sens) : (s.setSens k v).free = s.free := rfl
@[simp] theorem State.setSens_waits (k : Nat) (v : Sens) : (s.setSens k v).waits = s.waits := rfl
@[simp] theorem State.setSens_grp (k : Nat) (v : Sens) : (s.setSens k v).grp = s.grp := rfl
@[simp] theorem State.setSens_leg (k : Nat) (v : Sens) : (s.setSens k v).leg = s.leg := rfl
@[simp] theorem State.setSens_rx (k : Nat) (v : Sens) : (s.setSens k v).rx = s.rx := rfl
@[simp] theorem State.setSens_sag (k : Nat) (v : Sens) : (s.setSens k v).sag = s.sag := rfl
@[simp] theorem State.setSens_sup (k : Nat) (v : Sens) : (s.setSens k v).sup = s.sup := rfl
@[simp] theorem State.setSens_coldWant (k : Nat) (v : Sens) : (s.setSens k v).coldWant = s.coldWant := rfl
@[simp] theorem State.setSens_warmWant (k : Nat) (v : Sens) : (s.setSens k v).warmWant = s.warmWant := rfl
@[simp] theorem State.setSens_startFault (k : Nat) (v : Sens) : (s.setSens k v).startFault = s.startFault := rfl
@[simp] theorem State.setZone_pending (z : Nat) (v : Zone) : (s.setZone z v).pending = s.pending := rfl
@[simp] theorem State.setZone_variant (z : Nat) (v : Zone) : (s.setZone z v).variant = s.variant := rfl
@[simp] theorem State.setZone_mtime (z : Nat) (v : Zone) : (s.setZone z v).mtime = s.mtime := rfl
@[simp] theorem State.setZone_regs (z : Nat) (v : Zone) : (s.setZone z v).regs = s.regs := rfl
@[simp] theorem State.setZone_words (z : Nat) (v : Zone) : (s.setZone z v).words = s.words := rfl
@[simp] theorem State.setZone_bytes (z : Nat) (v : Zone) : (s.setZone z v).bytes = s.bytes := rfl
@[simp] theorem State.setZone_out (z : Nat) (v : Zone) : (s.setZone z v).out = s.out := rfl
@[simp] theorem State.setZone_free (z : Nat) (v : Zone) : (s.setZone z v).free = s.free := rfl
@[simp] theorem State.setZone_waits (z : Nat) (v : Zone) : (s.setZone z v).waits = s.waits := rfl
@[simp] theorem State.setZone_grp (z : Nat) (v : Zone) : (s.setZone z v).grp = s.grp := rfl
@[simp] theorem State.setZone_leg (z : Nat) (v : Zone) : (s.setZone z v).leg = s.leg := rfl
@[simp] theorem State.setZone_rx (z : Nat) (v : Zone) : (s.setZone z v).rx = s.rx := rfl
@[simp] theorem State.setZone_sag (z : Nat) (v : Zone) : (s.setZone z v).sag = s.sag := rfl
@[simp] theorem State.setZone_sup (z : Nat) (v : Zone) : (s.setZone z v).sup = s.sup := rfl
@[simp] theorem State.setZone_coldWant (z : Nat) (v : Zone) : (s.setZone z v).coldWant = s.coldWant := rfl
@[simp] theorem State.setZone_warmWant (z : Nat) (v : Zone) : (s.setZone z v).warmWant = s.warmWant := rfl
@[simp] theorem State.setZone_startFault (z : Nat) (v : Zone) : (s.setZone z v).startFault = s.startFault := rfl

end Sys2Proof.Machine
end

