-- ==== Sys2Proof/Laws/Tables.lean ====
section
/-! SUPPORT. Sparse tables: a read after a write, and that every operation on a table keeps its canonical form; with them the
register fields, words and bytes that stand in such tables. -/

namespace Sys2Proof.Machine

variable {α : Type}

/-! ### Reading after writing -/

theorem Tbl.get_insert_same (d : α) (k : Nat) (v : α) (t : Tbl α) : Tbl.get d (Tbl.insert k v t) k = v := by
  induction t with
  | nil => simp [Tbl.insert, Tbl.get]
  | cons e t ih =>
    obtain ⟨k', v'⟩ := e
    simp only [Tbl.insert]
    split_ifs with h1 h2 <;> simp_all [Tbl.get]

theorem Tbl.get_insert_other (d : α) {k j : Nat} (h : j ≠ k) (v : α) (t : Tbl α) :
    Tbl.get d (Tbl.insert k v t) j = Tbl.get d t j := by
  induction t with
  | nil => simp [Tbl.insert, Tbl.get, h]
  | cons e t ih =>
    obtain ⟨k', v'⟩ := e
    simp only [Tbl.insert]
    split_ifs with h1 h2 <;> simp_all [Tbl.get]

theorem Tbl.get_erase_same (d : α) (k : Nat) (t : Tbl α) : Tbl.get d (Tbl.erase k t) k = d := by
  induction t with
  | nil => simp [Tbl.erase, Tbl.get]
  | cons e t ih =>
    obtain ⟨k', v'⟩ := e
    by_cases hk : k' = k
    · simp_all [Tbl.erase]
    · simp_all [Tbl.erase, Tbl.get, Ne.symm hk]

theorem Tbl.get_erase_other (d : α) {k j : Nat} (h : j ≠ k) (t : Tbl α) : Tbl.get d (Tbl.erase k t) j = Tbl.get d t j := by
  induction t with
  | nil => simp [Tbl.erase, Tbl.get]
  | cons e t ih =>
    obtain ⟨k', v'⟩ := e
    by_cases hk : k' = k
    · subst hk
      simp_all [Tbl.erase, Tbl.get]
    · simp_all [Tbl.erase, Tbl.get]

/-- A key reads as what was written to it. -/
@[simp] theorem Tbl.get_set_same [DecidableEq α] (d : α) (t : Tbl α) (k : Nat) (v : α) : Tbl.get d (Tbl.set d t k v) k = v := by
  unfold Tbl.set
  split_ifs with h
  · rw [h]
    exact Tbl.get_erase_same d k t
  · exact Tbl.get_insert_same d k v t

/-- Every other key reads as before, whatever default the two keys read against. -/
theorem Tbl.get_set_other [DecidableEq α] (d d' : α) (t : Tbl α) {k j : Nat} (h : j ≠ k) (v : α) :
    Tbl.get d' (Tbl.set d t k v) j = Tbl.get d' t j := by
  unfold Tbl.set
  split_ifs
  · exact Tbl.get_erase_other d' h t
  · exact Tbl.get_insert_other d' h v t

/-! ### The canonical form -/

/-- Every listed key lies above `k`. -/
def Tbl.above (k : Nat) (t : Tbl α) : Prop := ∀ e ∈ t, k < e.1

theorem Tbl.rising_cons (k : Nat) (v : α) (t : Tbl α) : Tbl.rising ((k, v) :: t) = true ↔ Tbl.above k t ∧ Tbl.rising t = true := by
  induction t generalizing k v with
  | nil => simp [Tbl.rising, Tbl.above]
  | cons e t ih =>
    obtain ⟨k', v'⟩ := e
    simp only [Tbl.rising, Bool.and_eq_true, decide_eq_true_eq, ih, Tbl.above, List.mem_cons, forall_eq_or_imp]
    exact ⟨fun ⟨h, a, r⟩ => ⟨⟨h, fun e he => lt_trans h (a e he)⟩, a, r⟩, fun ⟨⟨h, _⟩, a, r⟩ => ⟨h, a, r⟩⟩

/-- The canonical form says: keys rise, and no entry reads as the default. -/
theorem Tbl.wf_iff [DecidableEq α] (d : α) (t : Tbl α) : Tbl.wf d t = true ↔ Tbl.rising t = true ∧ ∀ e ∈ t, e.2 ≠ d := by
  induction t with
  | nil => simp [Tbl.wf, Tbl.rising]
  | cons e t ih =>
    obtain ⟨k, v⟩ := e
    cases t with
    | nil => simp [Tbl.wf, Tbl.rising]
    | cons e' t =>
      obtain ⟨k', v'⟩ := e'
      simp only [Tbl.wf, Bool.and_eq_true, decide_eq_true_eq, ih, Tbl.rising, List.mem_cons, forall_eq_or_imp]
      tauto

theorem Tbl.mem_insert_key {k : Nat} {v : α} {t : Tbl α} {e : Nat × α} (h : e ∈ Tbl.insert k v t) : e = (k, v) ∨ e ∈ t := by
  induction t with
  | nil => simpa [Tbl.insert] using h
  | cons x t ih =>
    obtain ⟨k', v'⟩ := x
    simp only [Tbl.insert] at h
    split_ifs at h with h1 h2 <;> simp only [List.mem_cons] at h ⊢ <;> tauto

theorem Tbl.rising_insert (k : Nat) (v : α) (t : Tbl α) (h : Tbl.rising t = true) : Tbl.rising (Tbl.insert k v t) = true := by
  induction t with
  | nil => simp [Tbl.insert, Tbl.rising]
  | cons x t ih =>
    obtain ⟨k', v'⟩ := x
    rw [Tbl.rising_cons] at h
    simp only [Tbl.insert]
    split_ifs with h1 h2
    · rw [Tbl.rising_cons, Tbl.rising_cons]
      refine ⟨?_, h⟩
      intro e he
      rcases List.mem_cons.1 he with rfl | he
      · exact h1
      · exact lt_trans h1 (h.1 e he)
    · subst h2
      rw [Tbl.rising_cons]
      exact h
    · rw [Tbl.rising_cons]
      refine ⟨?_, ih h.2⟩
      intro e he
      rcases Tbl.mem_insert_key he with rfl | he
      · simp only
        omega
      · exact h.1 e he

theorem Tbl.rising_filter (p : Nat × α → Bool) (t : Tbl α) (h : Tbl.rising t = true) : Tbl.rising (t.filter p) = true := by
  induction t with
  | nil => simpa using h
  | cons x t ih =>
    obtain ⟨k, v⟩ := x
    rw [Tbl.rising_cons] at h
    rw [List.filter_cons]
    split_ifs
    · rw [Tbl.rising_cons]
      exact ⟨fun e he => h.1 e (List.mem_filter.1 he).1, ih h.2⟩
    · exact ih h.2

/-- A write keeps the keys rising. -/
theorem Tbl.rising_set [DecidableEq α] (d : α) (t : Tbl α) (k : Nat) (v : α) (h : Tbl.rising t = true) :
    Tbl.rising (Tbl.set d t k v) = true := by
  unfold Tbl.set
  split_ifs
  · exact Tbl.rising_filter _ t h
  · exact Tbl.rising_insert k v t h

/-- A write keeps the canonical form. -/
theorem Tbl.wf_set [DecidableEq α] (d : α) (t : Tbl α) (k : Nat) (v : α) (h : Tbl.wf d t = true) : Tbl.wf d (Tbl.set d t k v) = true := by
  rw [Tbl.wf_iff] at h ⊢
  refine ⟨Tbl.rising_set d t k v h.1, ?_⟩
  unfold Tbl.set
  split_ifs with hv
  · intro e he
    exact h.2 e (List.mem_filter.1 he).1
  · intro e he
    rcases Tbl.mem_insert_key he with rfl | he
    · exact hv
    · exact h.2 e he

/-- Dropping entries keeps the canonical form. -/
theorem Tbl.wf_filter [DecidableEq α] (d : α) (t : Tbl α) (p : Nat × α → Bool) (h : Tbl.wf d t = true) :
    Tbl.wf d (t.filter p) = true := by
  rw [Tbl.wf_iff] at h ⊢
  exact ⟨Tbl.rising_filter p t h.1, fun e he => h.2 e (List.mem_filter.1 he).1⟩

/-! ### Register fields, words, bytes -/

/-- A field reads as what its width keeps of the value written. -/
@[simp] theorem State.fld_put_same (s : State) (f : Fld) (v : Nat) : (s.put f v).fld f = v % 2 ^ f.width := by
  unfold State.fld State.put
  rw [Tbl.get_set_same, Nat.mod_mod]

/-- A field holds no more than its width. -/
theorem State.fld_lt (s : State) (f : Fld) : s.fld f < 2 ^ f.width := Nat.mod_lt _ (Nat.two_pow_pos _)

/-- Every field with another key reads as before. -/
theorem State.fld_put_other (s : State) (f g : Fld) (v : Nat) (h : g.key ≠ f.key) : (s.put f v).fld g = s.fld g := by
  unfold State.fld State.put
  rw [Tbl.get_set_other _ _ _ h]

@[simp] theorem State.word_setWord_same (s : State) (a : Nat) (w : Word36) : (s.setWord a w).word a = w :=
  Tbl.get_set_same 0 s.words a w

theorem State.word_setWord_other (s : State) {a b : Nat} (h : b ≠ a) (w : Word36) : (s.setWord a w).word b = s.word b :=
  Tbl.get_set_other 0 0 s.words h w

@[simp] theorem State.byte_setByte_same (s : State) (a : Nat) (b : Byte) : (s.setByte a b).byte a = b :=
  Tbl.get_set_same _ s.bytes a b

theorem State.byte_setByte_other (s : State) {a c : Nat} (h : c ≠ a) (b : Byte) : (s.setByte a b).byte c = s.byte c :=
  Tbl.get_set_other _ _ s.bytes h b

/-- Bytes written from `a` up change nothing outside their range. -/
theorem State.byte_setBytes_other (s : State) (l : List Byte) (a c : Nat) (h : c < a ∨ a + l.length ≤ c) :
    (s.setBytes a l).byte c = s.byte c := by
  induction l generalizing s a with
  | nil => rfl
  | cons b l ih =>
    simp only [State.setBytes]
    simp only [List.length_cons] at h
    rw [ih _ _ (by omega), State.byte_setByte_other s (by omega) b]

/-! ### Every store keeps the storage sound -/

theorem State.storageWf_iff (s : State) :
    s.storageWf = true ↔ Tbl.rising s.regs = true ∧ Tbl.wf State.memDefault s.bytes = true ∧ Tbl.wf (0 : Word36) s.words = true := by
  simp [State.storageWf, Memory.wf, and_assoc]

theorem State.put_storageWf (s : State) (f : Fld) (v : Nat) (h : s.storageWf = true) : (s.put f v).storageWf = true := by
  rw [State.storageWf_iff] at h ⊢
  exact ⟨Tbl.rising_set _ _ _ _ h.1, h.2.1, h.2.2⟩

theorem State.setWord_storageWf (s : State) (a : Nat) (w : Word36) (h : s.storageWf = true) : (s.setWord a w).storageWf = true := by
  rw [State.storageWf_iff] at h ⊢
  exact ⟨h.1, h.2.1, Tbl.wf_set _ _ _ _ h.2.2⟩

theorem State.setByte_storageWf (s : State) (a : Nat) (b : Byte) (h : s.storageWf = true) : (s.setByte a b).storageWf = true := by
  rw [State.storageWf_iff] at h ⊢
  exact ⟨h.1, Tbl.wf_set _ _ _ _ h.2.1, h.2.2⟩

theorem State.setBytes_storageWf (s : State) (a : Nat) (l : List Byte) (h : s.storageWf = true) :
    (s.setBytes a l).storageWf = true := by
  induction l generalizing s a with
  | nil => exact h
  | cons b l ih => exact ih _ _ (State.setByte_storageWf s a b h)

end Sys2Proof.Machine
end

