-- ==== Sys2Proof/Laws/Settle.lean ====
section
/-! SUPPORT. When a step stays within its own block: what `settle`, `dozeWake` and a register access by a core pair reduce to. -/

namespace Sys2Proof.Machine

/-- Two states in which everything that other blocks look at is the same: group states, the mode, fault latches, starts that are
called for, actuator STOPs that wait. -/
structure SameWatch (s t : State) : Prop where
  grp : ∀ g < 12, s.fld (PWM_GRP_STAT_STATE g) = t.fld (PWM_GRP_STAT_STATE g)
  mode : s.fld PWR_MODE = t.fld PWR_MODE
  changing : s.fld PWR_MODE_CHANGING = t.fld PWR_MODE_CHANGING
  legs : ∀ n < 36, s.fld (PWM_LEG_CFG_GROUP n) = t.fld (PWM_LEG_CFG_GROUP n)
  gs : ∀ l < 48, s.fld (GS_STAT_FAULT l) = t.fld (GS_STAT_FAULT l)
  hs : ∀ k < 12, s.fld (LD_STAT_FAULT_HS k) = t.fld (LD_STAT_FAULT_HS k)
  ls : ∀ k < 12, s.fld (LD_STAT_FAULT_LS k) = t.fld (LD_STAT_FAULT_LS k)
  starts : called s = called t
  stops : stopsWait s = stopsWait t

theorem SameWatch.refl (s : State) : SameWatch s s := ⟨fun _ _ => rfl, rfl, rfl, fun _ _ => rfl, fun _ _ => rfl, fun _ _ => rfl, fun _ _ => rfl, rfl, rfl⟩

theorem SameWatch.trans {s t u : State} (h : SameWatch s t) (k : SameWatch t u) : SameWatch s u :=
  ⟨fun g hg => (h.grp g hg).trans (k.grp g hg), h.mode.trans k.mode, h.changing.trans k.changing,
    fun n hn => (h.legs n hn).trans (k.legs n hn), fun l hl => (h.gs l hl).trans (k.gs l hl), fun n hn => (h.hs n hn).trans (k.hs n hn), fun n hn => (h.ls n hn).trans (k.ls n hn),
    h.starts.trans k.starts, h.stops.trans k.stops⟩

/-- The same register file, waits and calls give the same watched state. -/
theorem SameWatch.of_regs {s t : State} (hr : t.regs = s.regs) (hw : t.waits = s.waits) (hc : called t = called s) : SameWatch s t := by
  have hf : ∀ f, s.fld f = t.fld f := fun f => by simp only [State.fld, hr]
  exact ⟨fun _ _ => hf _, hf _, hf _, fun _ _ => hf _, fun _ _ => hf _, fun _ _ => hf _, fun _ _ => hf _, hc.symm, by simp only [stopsWait, hw]⟩

theorem SameWatch.watchedChange {s t : State} (h : SameWatch s t) : watchedChange s t = false := by
  simp only [Machine.watchedChange, Bool.or_eq_false_iff, List.any_eq_false, List.mem_range, State.mode, State.flag]
  refine ⟨⟨⟨⟨⟨?_, ?_⟩, ?_⟩, ?_⟩, ?_⟩, ?_⟩
  · intro g hg; simp [h.grp g hg]
  · simp [h.mode]
  · simp [h.changing]
  · have : movedLegs s t = [] := by
      simp only [movedLegs, List.filter_eq_nil_iff, List.mem_range]
      intro n hn; simp [h.legs n hn]
    simp [this]
  · intro l hl; simp [h.gs l hl]
  · intro k hk; simp [h.hs k hk, h.ls k hk]

/-- A step of a quiet device that changes nothing other blocks look at ends with its own effect. -/
theorem settle_quiet {s t : State} (hq : s.quiet = true) (h : SameWatch s t) : settle s t = t := by
  apply settle_calm
  simp only [State.quiet, Bool.and_eq_true, decide_eq_true_eq, Bool.not_eq_true'] at hq
  simp only [stirred, h.watchedChange, ← h.starts, ← h.stops, hq.1.2, hq.2, hq.1.1.1, hq.1.1.2]
  simp

theorem dozeWake_quiet {s : State} (t : State) (hq : s.quiet = true) : dozeWake s t = t := by
  simp only [State.quiet, Bool.and_eq_true, decide_eq_true_eq, Bool.not_eq_true'] at hq
  simp [dozeWake, hq.1.1.1, hq.2]

theorem SameWatch.ite {s t u : State} {c : Prop} [Decidable c] (h : SameWatch s t) (k : SameWatch s u) :
    SameWatch s (if c then t else u) := by
  split <;> assumption

/-! ### Writing a field nobody watches -/

/-- The keys of the register file that other blocks look at: STATE of a group, GROUP of a leg, the fault latch of a satellite, those of an LV leg
driver, MODE and CHANGING. -/
def watchedKey (k : Nat) : Bool :=
  let a := k / 32
  let b := k % 32
  (decide (a < 0x60000C00) && decide (a % 0x100 = 0x1C) && decide (b = 0))
    || (decide (0x60001000 ≤ a) && decide (a < 0x60001900) && decide (a % 0x40 = 0) && decide (b = 0))
    || (decide (0x60008000 ≤ a) && decide (a < 0x60009800) && decide (a % 0x80 = 8) && decide (b = 3))
    || (decide (0x60010000 ≤ a) && decide (a < 0x60010300) && decide (a % 0x40 = 8) && (decide (b = 3) || decide (b = 4)))
    || (decide (a = 0x60068000) && (decide (b = 0) || decide (b = 31)))

theorem watchedKey_grp {g : Nat} (h : g < 12) : watchedKey (PWM_GRP_STAT_STATE g).key = true := by interval_cases g <;> decide
theorem watchedKey_leg {n : Nat} (h : n < 36) : watchedKey (PWM_LEG_CFG_GROUP n).key = true := by interval_cases n <;> decide
theorem watchedKey_gs {l : Nat} (h : l < 48) : watchedKey (GS_STAT_FAULT l).key = true := by interval_cases l <;> decide
theorem watchedKey_hs {k : Nat} (h : k < 12) : watchedKey (LD_STAT_FAULT_HS k).key = true := by interval_cases k <;> decide
theorem watchedKey_ls {k : Nat} (h : k < 12) : watchedKey (LD_STAT_FAULT_LS k).key = true := by interval_cases k <;> decide

theorem SameWatch.put (s : State) (f : Fld) (v : Nat) (h : watchedKey f.key = false) : SameWatch s (s.put f v) := by
  have key : ∀ g : Fld, watchedKey g.key = true → s.fld g = (s.put f v).fld g := by
    intro g hg
    refine (State.fld_put_other s f g v ?_).symm
    intro e
    rw [e, h] at hg
    cases hg
  exact ⟨fun g hg => key _ (watchedKey_grp hg), key _ (by decide), key _ (by decide), fun n hn => key _ (watchedKey_leg hn), fun l hl => key _ (watchedKey_gs hl),
    fun k hk => key _ (watchedKey_hs hk), fun k hk => key _ (watchedKey_ls hk), rfl, rfl⟩

theorem SameWatch.inc (s : State) (f : Fld) (h : watchedKey f.key = false) : SameWatch s (s.inc f) := SameWatch.put s f _ h

theorem SameWatch.putAll (s : State) (l : List (Fld × Nat)) (h : ∀ e ∈ l, watchedKey e.1.key = false) : SameWatch s (s.putAll l) := by
  induction l generalizing s with
  | nil => exact SameWatch.refl s
  | cons e l ih =>
    exact (SameWatch.put s e.1 e.2 (h e (by simp))).trans (ih _ fun x hx => h x (by simp [hx]))

theorem SameWatch.refuse (s : State) (b : BlockErr) (st : Status) (h1 : watchedKey b.last.key = false) (h2 : watchedKey b.cnt.key = false) :
    SameWatch s (s.refuse b st) := (SameWatch.put s _ _ h1).trans (SameWatch.inc _ _ h2)

end Sys2Proof.Machine
end

