-- ==== Sys2Proof/Laws/Access.lean ====
section
/-! SUPPORT. Accesses by address: what a register write, a register read and the halves of a 36-bit word reduce to. -/

namespace Sys2Proof.Machine

/-! ### Register accesses of core pairs -/

theorem clearBit_zero (d : Nat) : clearBit 0 d = 0 := by simp [clearBit]

theorem touch_parked {s : State} (a : Nat) (h : s.sup.parked = 0) : touch s a = s := by
  have one : ∀ d, domainUp s d = s := by
    intro d
    simp [domainUp, h, clearBit_zero]
    rw [← h]
  unfold touch
  generalize domainsOf a = l
  induction l with
  | nil => rfl
  | cons d l ih => simp only [List.foldl_cons, one, ih]

theorem touch_allUp {s : State} (a : Nat) (h : s.allUp = true) : touch s a = s := by
  simp only [State.allUp, Bool.and_eq_true, decide_eq_true_eq] at h
  exact touch_parked a h.1.1

/-- A register lies in no bank of the memories: in none, or in bank 34. -/
theorem bankOf_reg {a : Nat} (h : 0x60000000 ≤ a) : bankOf a = none ∨ bankOf a = some 34 := by
  have g1 : ¬ (a < 0x10C00000) := by omega
  have g2 : ¬ (a < 0x40400000) := by omega
  have g3 : ¬ (a < 0x50400000) := by omega
  simp only [bankOf, g1, g2, g3, decide_false, Bool.and_false]
  by_cases h34 : inBank34 a <;> simp [h34]

/-- No register is shut while every domain and bank is up. -/
theorem bankShut_allUp {s : State} {a : Nat} (h : s.allUp = true) (ha : 0x60000000 ≤ a) : bankShut s a = false := by
  simp only [State.allUp, Bool.and_eq_true, decide_eq_true_eq, Bool.not_eq_true'] at h
  rcases bankOf_reg ha with e | e <;> simp [bankShut, bankLost, e, h.1.2, h.2]

/-- Whether an address is shut depends on the register file and the power controller alone. -/
theorem bankShut_congr {s t : State} (a : Nat) (hr : t.regs = s.regs) (hs : t.sup = s.sup) : bankShut t a = bankShut s a := by
  unfold bankShut bankLost lostBanks State.fld
  rw [hr, hs]

/-- Two addresses of one bank are shut together. -/
theorem bankShut_same (s : State) {a b : Nat} (h : bankOf a = bankOf b) : bankShut s a = bankShut s b := by
  unfold bankShut bankLost
  rw [h]

/-- A register write by a core pair at an address outside the registers of pair 11 alone is the block's own act while every domain
and bank is up. -/
theorem regWr_pair {s : State} (n : Fin 12) (a : Nat) (act : State → State × Status) (h : s.allUp = true) (ha : 0x60000000 ≤ a)
    (hs : safetyOnly a = false) : regWr s (.pair n) a act = (act s).1 := by
  simp [regWr, regBy, touch_allUp a h, bankShut_allUp h ha, hs]

/-- The same in a block whose island is always powered. -/
theorem regWr_ungated {s : State} (n : Fin 12) (a : Nat) (act : State → State × Status) (hd : domainsOf a = []) (hb : bankOf a = none)
    (hs : safetyOnly a = false) : regWr s (.pair n) a act = (act s).1 := by
  simp [regWr, regBy, touch, hd, bankShut, bankLost, hb, hs]

/-- The safety pair reaches the registers that it alone writes. -/
theorem regWr_safety {s : State} (a : Nat) (act : State → State × Status) (h : s.allUp = true) (ha : 0x60000000 ≤ a)
    (hs : safetyOnly a = true) : regWr s (.pair 11) a act = (act s).1 := by
  simp [regWr, regBy, touch_allUp a h, bankShut_allUp h ha, hs, safetyBy, safBy, requesterSafety]

/-! ### Registers by address -/

/-- A register's address: in a block, at a multiple of 4, no word, no Fjop buffer. -/
structure RegAt (s : State) (a : Nat) : Prop where
  low : 0x60000000 ≤ a
  high : a < 0x600A8000
  align : a % 4 = 0
  row : (rowsAt a).isEmpty = false
  word : isWord s (a - a % 8) = false
  buf : inFjopBuf a = false

/-- A 32-bit store to a register is the register write of its requester. -/
theorem busWrite_reg {s : State} {a : Nat} (r : Requester) (d : Nat) (h : RegAt s a) :
    busWrite s r 4 a d = regBy s r a fun s => regWrite s r a d := by
  have := h.low
  have := h.high
  have e1 : ¬ (a < 0x60000000) := by omega
  have e2 : ¬ (0x60100000 ≤ a) := by omega
  have e3 : ¬ (a + 4 ≤ 0x10C00000) := by omega
  have e4 : ¬ (0x70000000 ≤ a) := by omega
  have hr := h.row
  simp only [List.isEmpty_eq_false_iff] at hr
  by_cases hh : (r = .host && s.hostBlind) = true
  · simp only [busWrite, regBy, if_pos hh]
  simp only [Bool.and_eq_true, decide_eq_true_eq, not_and] at hh
  simp +contextual [busWrite, hh, e1, e2, e3, e4, h.buf, h.align, h.word, hr]

/-! ### 36-bit words of table RAM -/

theorem bankOf_table {a : Nat} (h1 : 0x50000000 ≤ a) (h2 : a < 0x50400000) : bankOf a = some 32 := by
  have g1 : ¬ (a < 0x10C00000) := by omega
  have g2 : ¬ (a < 0x40400000) := by omega
  simp [bankOf, g1, g2, h1, h2]

theorem isWord_table (s : State) {a : Nat} (h1 : 0x50000000 ≤ a) (h2 : a < 0x50400000) : isWord s (a - a % 8) = true := by
  have g1 : 0x50000000 ≤ a - a % 8 := by omega
  have g2 : a - a % 8 < 0x50400000 := by omega
  have g3 : (a - a % 8) % 8 = 0 := by omega
  simp [isWord, wordMem, g1, g2, g3]

theorem mirrorFresh_table (s : State) {a : Nat} (h2 : a < 0x50400000) : mirrorFresh s a = none := by
  have g1 : ¬ (0x6001A000 ≤ a) := by omega
  have g2 : ¬ (0x6001F000 ≤ a) := by omega
  have g3 : ¬ (0x60021000 ≤ a) := by omega
  simp [mirrorFresh, g1, g2, g3]

/-- A 32-bit store to table RAM by a core or the debug module writes half a word. -/
theorem busWrite_table {s : State} {r : Requester} {a : Nat} (d : Nat) (hp : s.sup.parked = 0) (hr : r ≠ .host) (h1 : 0x50000000 ≤ a)
    (h2 : a < 0x50400000) (hs : bankShut s a = false) (ha : a % 4 = 0) : busWrite s r 4 a d = halfWrite s r a d := by
  have e3 : ¬ (a + 4 ≤ 0x10C00000) := by omega
  have e4 : ¬ (0x70000000 ≤ a) := by omega
  have e5 : ¬ (0x60059000 ≤ a) := by omega
  have hm := mirrorFresh_table s (a := a - a % 8) (by omega)
  simp [busWrite, hr, e3, e4, inFjopBuf, e5, ha, isWord_table s h1 h2, touch_parked a hp, hs, hm]

/-- A 32-bit load from table RAM by a core or the debug module reads half a word. -/
theorem busRead_table {s : State} {r : Requester} {a : Nat} (hp : s.sup.parked = 0) (hr : r ≠ .host) (h1 : 0x50000000 ≤ a)
    (h2 : a < 0x50400000) (hs : bankShut s a = false) (ha : a % 4 = 0) :
    busRead s r 4 a = ((halfRead s r a).1, some (halfRead s r a).2) := by
  have e3 : ¬ (a + 4 ≤ 0x10C00000) := by omega
  have e4 : ¬ (0x70000000 ≤ a) := by omega
  have e5 : ¬ (0x60059000 ≤ a) := by omega
  have e6 : ¬ (a + 4 ≤ 0x40000) := by omega
  have hm : mirrorOf s a = none := by
    have := mirrorFresh_table s (a := a - a % 0x20) (by omega)
    simp [mirrorOf, this]
  simp [busRead, hr, e3, e4, e6, inFjopBuf, e5, ha, isWord_table s h1 h2, touch_parked a hp, hs, hm]

/-- A commit to table RAM writes the word. -/
theorem commitWord_table (s : State) {a : Nat} (w : Word36) (h1 : 0x50000000 ≤ a) (h2 : a < 0x50400000) :
    commitWord s a w = (s.setWord a w, .OK) := by
  have g1 : wordTrc a = false := by
    have : ¬ (0x60038000 ≤ a) := by omega
    simp [wordTrc, this]
  have g2 : wordMem a = true := by simp [wordMem, h1, h2]
  unfold commitWord
  rw [if_neg (by simp [g1]), if_pos h1, if_pos g2]

/-- A store to the low half stages; a store to the high half commits what `composeHigh` forms. -/
theorem halfWrite_low (s : State) (r : Requester) {a : Nat} (d : Nat) (ha : a % 8 = 0) : halfWrite s r a d = (stageLow s r a d, .OK) := by
  unfold halfWrite
  rw [if_pos ha]

theorem halfWrite_high (s : State) (r : Requester) {a : Nat} (d : Nat) (ha : a % 8 = 0) :
    halfWrite s r (a + 4) d = commitWord (composeHigh s r a d).1 a (composeHigh s r a d).2 := by
  unfold halfWrite
  rw [if_neg (by omega), Nat.add_sub_cancel]

@[simp] theorem State.viewOf_setView (s : State) (r : Requester) (v : WordView) : (s.setView r v).viewOf r = v := by
  simp [State.viewOf, State.setView]

theorem composeHigh_regs (s : State) (r : Requester) (a d : Nat) : (composeHigh s r a d).1.regs = s.regs := by
  unfold composeHigh; split <;> [split; skip] <;> rfl

theorem composeHigh_words (s : State) (r : Requester) (a d : Nat) : (composeHigh s r a d).1.words = s.words := by
  unfold composeHigh; split <;> [split; skip] <;> rfl

theorem composeHigh_watch (s : State) (r : Requester) (a d : Nat) : SameWatch s (composeHigh s r a d).1 := by
  unfold composeHigh
  split <;> [split; skip] <;> exact SameWatch.of_regs rfl rfl rfl

end Sys2Proof.Machine
end

