-- ==== Sys2Proof/WellFormed.lean ====
section
/-! DEFINITION. Which commands are well formed: addresses aligned to their access (R9, R39), frames the bus can carry (R466), links
and values that exist. A meaning does not rely on these checks; a command that fails one stands for no event of the device. -/

namespace Sys2Proof

/-- Data bytes of a DLC in a classic or an FD frame (R466). -/
def dlcBytes (fdf : Bool) (dlc : Nat) : Nat :=
  if dlc < 9 then dlc
  else if !fdf then 8
  else match dlc with
    | 9 => 12 | 10 => 16 | 11 => 20 | 12 => 24 | 13 => 32 | 14 => 48 | _ => 64

/-- A frame that a CAN bus can carry: identifier within its format, no remote FD frame, BRS and ESI only in FD frames, data as long
as the DLC says (R466). -/
def CanFrame.wf (f : CanFrame) : Bool :=
  decide (f.id < if f.ide then 2 ^ 29 else 2 ^ 11) && decide (f.dlc < 16) && !(f.rtr && f.fdf) && (f.fdf || (!f.brs && !f.esi))
    && decide (f.data.length = if f.rtr then 0 else dlcBytes f.fdf f.dlc)

/-- A transaction of 1, 2, 4 or 8 bytes at an address aligned to it. -/
def CopyItem.wf (x : CopyItem) : Bool := [1, 2, 4, 8].contains x.size && decide (x.addr.toNat % x.size = 0)

/-- The module's own accesses are words. -/
def DebugAct.wf : DebugAct → Bool
  | .busWrite a _ => decide (a.toNat % 4 = 0)
  | .busRead a => decide (a.toNat % 4 = 0)
  | .coreWrite _ _ => true
  | .step => true
  | .programBuffer => true

/-- A report names links that exist, with identities of 46 bits. -/
def StepReport.wf (r : StepReport) : Bool :=
  r.idents.all (fun (e : Nat × Nat) => decide (e.1 < 60) && decide (e.2 < 2 ^ 46)) && r.trips.all fun (e : Nat × Nat) => decide (e.1 < 60)

/-- The check of each command. -/
def Instr.wf : Instr → Bool
  | .registerWrite _ size addr _ => decide (addr.toNat % 2 ^ size.val = 0)
  | .wordLowHalfWrite _ addr _ => decide (addr.toNat % 8 = 0)
  | .wordHighHalfWrite _ addr _ => decide (addr.toNat % 8 = 4)
  | .wordLowHalfRead _ x => decide (x.addr.toNat % 8 = 0)
  | .wordHighHalfRead _ x => decide (x.addr.toNat % 8 = 4)
  | .host64bitWordWrite addr _ => decide (addr.toNat % 8 = 0)
  | .host64bitWordRead x => decide (x.addr.toNat % 8 = 0)
  | .startStepEnd rep => rep.wf
  | .mirrorRecordRead _ addr => decide (addr.toNat % 4 = 0)
  | .copyTransaction _ _ x _ => x.item.wf
  | .debugAction _ act _ => act.wf
  | .canFrameReceived _ f => f.wf
  | .announceFrame _ _ _ hops _ _ => decide (hops < 32)
  | .droopStretch .. | .avsRequestChange .. | .clockMonitorWindowEnd .. | .mtimeLoRead .. | .mtimeHiRead .. | .powerOn ..
  | .sysResetAssert .. | .sysResetRelease .. | .perstAssert .. | .startLimitExpiry .. | .fabricStepTimeout ..
  | .modeChangeComplete .. | .legGroupWrite .. | .groupStart .. | .groupStop .. | .groupCommit .. | .commitSetArrival ..
  | .reloadInstant .. | .triggerFire .. | .edgeCommandDeparture .. | .legForceWrite .. | .tripSourceChange ..
  | .tripFilterSettled .. | .tripClearRequest .. | .timeFrame .. | .edgeFrame .. | .transitionFrame .. | .cutFrame ..
  | .dtsetFrame .. | .cfgWrFrame .. | .cfgRdFrame .. | .clearFrame .. | .calFrame .. | .resumeFrame .. | .identReqFrame ..
  | .aliveFrame .. | .treportFrame .. | .faultFrame .. | .cfgDataFrame .. | .measFrame .. | .xrefuseFrame .. | .calEchoFrame ..
  | .identFrame .. | .downLinkIdle .. | .upLinkIdle .. | .downLinkSilent .. | .upLinkSilent .. | .linkCalibration ..
  | .gsCfgWrite .. | .gsClear .. | .ldClear .. | .clearAnswerTimeout .. | .vposUv .. | .vnegRange .. | .vposBelowReset ..
  | .vposArmed .. | .blankingEnd .. | .baselineSample .. | .desatValid .. | .shortCircuitTrip .. | .softOffTimer ..
  | .vdsValid .. | .drvUv .. | .permitCodeTaken .. | .permitLoss .. | .crossLinkState .. | .crossLinkSilent ..
  | .edgePlacement .. | .partnerOffTurnOn .. | .transitionMeasured .. | .satelliteMeasurement .. | .measurementStale ..
  | .adcEnable .. | .adcDisable .. | .adcSwStart .. | .adcTriggerEvent .. | .adcSwUrgent .. | .adcUrgentEvent ..
  | .conversionEnd .. | .comparatorWatchExpiry .. | .modulatorOutput .. | .modStuck .. | .fbEnable .. | .fbDisable ..
  | .quadratureEdge .. | .hallStateChange .. | .indexPulse .. | .fbArm .. | .fbSet .. | .ssiFrameStart .. | .ssiFrameEnd ..
  | .resolverRequest .. | .resolverUpdate .. | .eventLatch .. | .pinLatch .. | .standstillTimeout .. | .feedbackSlotWrite ..
  | .fbCntRead .. | .emulatorEdge .. | .engineArm .. | .engineDisarm .. | .engineStop .. | .engineSwap .. | .checkEnd ..
  | .engineTrigger .. | .budgetOverrun .. | .leNop .. | .leLd .. | .leLds .. | .leLdc .. | .leLdt .. | .leLdi .. | .leSt ..
  | .leSts .. | .leMov .. | .leLda .. | .leLdp .. | .leAddp .. | .leAdd .. | .leSub .. | .leNeg .. | .leAbs .. | .leAddw ..
  | .leMul .. | .leMulc .. | .leMulw .. | .leDiv .. | .leAsh .. | .leMin .. | .leMax .. | .leClamp .. | .leVlim .. | .leMac ..
  | .leMacc .. | .leMsu .. | .leMsuc .. | .leClra .. | .leLdam .. | .leAdda .. | .leNorm .. | .leStage .. | .leCmp ..
  | .leSel .. | .leSkip .. | .leLoop .. | .leEnd .. | .leEvt .. | .leSincos .. | .lePolar .. | .leClarke .. | .lePark ..
  | .leIpark .. | .leSvm .. | .leTbl .. | .leCommit .. | .tractionSlotEnable .. | .dcLinkResult .. | .dcLinkWatchExpiry ..
  | .chopperCheck .. | .chopperClearWrite .. | .speedWordTimer .. | .speedWordTimeout .. | .torqueSetpointCommit ..
  | .speedSetpointCommit .. | .torqueLimitCommit .. | .setpointTimeout .. | .tractionOutputRead .. | .zeroTorqueTimeout ..
  | .actuatorEnable .. | .actuatorDisable .. | .actuatorSample .. | .commutation .. | .actRun .. | .actStop .. | .actFloat ..
  | .actClr .. | .alignEnd .. | .forcedStep .. | .rampTimeout .. | .retryWaitEnd .. | .speedLoopTick .. | .listenTimeout ..
  | .belowRestart .. | .coastTimeout .. | .actEventPop .. | .converterEnable .. | .converterDisable .. | .cnvStart ..
  | .cnvStop .. | .cnvClr .. | .softStartRampStep .. | .startCheck .. | .outputVoltageResult .. | .currentLimitEvaluation ..
  | .hiccupEnd .. | .tryReset .. | .releaseHeldTimeout .. | .phaseShed .. | .converterOutputRead .. | .chargerEnable ..
  | .pilotEdge .. | .pilotSteady .. | .pilotResult .. | .proximityResult .. | .plugDebounce .. | .mainsReport ..
  | .mainsZeroCrossTimeout .. | .mainsQualified .. | .qualifyTimeout .. | .busReady .. | .pulseEnd .. | .restEnd ..
  | .impedanceWindowEnd .. | .chargerOutputRead .. | .chargeTermination .. | .safetyTimerEvaluation .. | .handoverComplete ..
  | .sessionResume .. | .waitTimeout .. | .exportReady .. | .exportSetpointWrite .. | .exportSetpointTimeout ..
  | .boostReady .. | .safetyInputFiltered .. | .discrepancyTimeout .. | .ov3Comparator .. | .saggarTableWrite ..
  | .safeOutputRequest .. | .safeOutputTest .. | .testPulseEnd .. | .safeOutputOverload .. | .safeOutputOpen ..
  | .contactorDelayExpiry .. | .parkSpeedConfirmed .. | .heartbeatWrite .. | .heartbeatTimeout .. | .safetyCoreDemand ..
  | .releaseFirstKey .. | .releaseSecondKey .. | .releaseWindowExpiry .. | .fjopFrameArrival .. | .fjopReceiveTimeout ..
  | .fjopReset .. | .fjopSend .. | .fjopSendTimeout .. | .retireSignature .. | .comparatorTimeout .. | .interruptNotice ..
  | .agreementReport .. | .asyncValueRead .. | .valueResample .. | .localParityError .. | .debugHaltRequest ..
  | .debugResume .. | .feedMeasurement .. | .switchOverCheck .. | .pwrFeedDrill .. | .feedDrillEnd .. | .dipStart ..
  | .dipEnd .. | .storeWritesResume .. | .powerLossSequence .. | .supplyRestoredStart .. | .island41PowerLoss ..
  | .holdOkChange .. | .pmbusAcknowledge .. | .pmbusAckTimeout .. | .pmbusAlert .. | .vidSettled .. | .clockDividerWrite ..
  | .railLost .. | .powerStateRequest .. | .participantAnswer .. | .pairAnswer .. | .pairAnswerTimeout .. | .delayTimeout ..
  | .wakePinEdge .. | .canActivityWake .. | .wakeTimerExpiry .. | .railWakeTimeout .. | .railRetry .. | .retentionRailDrop ..
  | .retentionBankClear .. | .bankZeroed .. | .domainPowerUp .. | .thermalEvaluation .. | .zonePendingEnd .. | .graceEnd ..
  | .derateStep .. | .thmAckWrite .. | .sqTailDoorbell .. | .cqHeadDoorbell .. | .tlmHeadDoorbell .. | .evtHeadDoorbell ..
  | .descriptorFetch .. | .acceptanceCommitted .. | .commandStart .. | .notBeforeReached .. | .notAfterExpiry ..
  | .commandCompletion .. | .irqGapExpiry .. | .dmaError .. | .busMasterDisable .. | .ringResetWrite .. | .hostStartCold ..
  | .hostStartWarm .. | .telemetryRead .. | .jnlWindowSelect .. | .nop .. | .abort .. | .setMode .. | .start .. | .setPower ..
  | .feedDrill .. | .throttleAck .. | .jnlMark .. | .regWrite .. | .regRead .. | .wordWrite .. | .torqueSp .. | .speedSp ..
  | .torqueLim .. | .actSpeedSp .. | .voutSp .. | .chargeSp .. | .exportSp .. | .accessorySp .. | .groupRun .. | .tripClear ..
  | .engineCmd .. | .satClear .. | .chopClear .. | .actCmd .. | .cnvCmd .. | .fjopFrame .. | .canSend .. | .fabSend ..
  | .telemCfg .. | .jnlRead .. | .imageWrite .. | .imageActivate .. | .satSelftest .. | .portSignalDetected .. | .portUp ..
  | .trainingTimeout .. | .portDown .. | .fragmentReceived .. | .dataFrame .. | .fjopFabricFrame .. | .fabricTimeFrame ..
  | .discFrame .. | .rosterFrame .. | .statusFrame .. | .discoveryTimeout .. | .rosterTimer .. | .timeFrameTimer ..
  | .ringTimeTimeout .. | .statusFrameTimer .. | .admissionRelease .. | .fabTxqTail .. | .fabricTxComplete .. | .fabRxqAck ..
  | .fabWakeCommand .. | .fabricWakeBurst .. | .canModeWrite .. | .busIntegrationEnd .. | .filterWalkEnd .. | .canBusOff ..
  | .canRecover .. | .busOffRecoveryEnd .. | .filterCommit .. | .canTxRequest .. | .canTxAbort .. | .canAttemptEnd ..
  | .canTxCompletion .. | .canRxqAck .. | .safetyBufferWrite .. | .canReceiveError .. | .canProtocolException .. | .tapReset ..
  | .instructionLoad .. | .authCapture .. | .authUpdate .. | .authCheckEnd .. | .relock .. | .atbSelect .. | .selftestGo ..
  | .satelliteSelftestResult .. | .traceWriteTimeout .. | .discrepancyHoldEnd .. | .leavingReset .. | .vposUvCleared ..
  | .vnegRangeCleared .. | .drvUvCleared .. | .perstRelease .. | .busMasterEnable .. | .pcieLinkUp .. => true

end Sys2Proof
end

