-- ==== Sys2Proof/Tests/Slice0.lean ====
section
/-! SUPPORT. Own tests: the checks of WellFormed, worked examples of the spec, and for every statement states and operands that meet
its hypotheses, clause by clause. -/

namespace Sys2Proof.Tests
open Sys2Proof.Machine

/-- The state at reset with the given register fields. -/
def st (l : List (Fld × Nat)) : State := State.reset.putAll l

/-- The state at reset with the given register fields, and further changes. -/
def upd (f : State → State) (l : List (Fld × Nat)) : State := f (st l)

theorem test_reset_storage : State.reset.storageWf = true := by decide

/-! ### Commands that WellFormed refuses -/

theorem test_wf_registerWrite : (Instr.registerWrite .host 2 0x60000002 0).wf = false := by decide
theorem test_wf_wordLow : (Instr.wordLowHalfWrite (.pair 0) 0x40000004 0).wf = false := by decide
theorem test_wf_wordHigh : (Instr.wordHighHalfWrite (.pair 0) 0x40000008 0).wf = false := by decide
theorem test_wf_wordLowRead : (Instr.wordLowHalfRead (.pair 0) ⟨0x40000004, .clean⟩).wf = false := by decide
theorem test_wf_wordHighRead : (Instr.wordHighHalfRead (.pair 0) ⟨0x40000000, .clean⟩).wf = false := by decide
theorem test_wf_host64Write : (Instr.host64bitWordWrite 0x40000004 0).wf = false := by decide
theorem test_wf_host64Read : (Instr.host64bitWordRead ⟨0x40000004, .clean⟩).wf = false := by decide
theorem test_wf_startStepEnd : (Instr.startStepEnd { idents := [(60, 0)] }).wf = false := by decide
theorem test_wf_mirrorRecordRead : (Instr.mirrorRecordRead (.pair 0) 0x6001A002).wf = false := by decide
theorem test_wf_copyTransaction : (Instr.copyTransaction 0 false { item := { addr := 4, size := 3 } } 0).wf = false := by decide
theorem test_wf_debugAction : (Instr.debugAction 0 (.busRead 2) false).wf = false := by decide
theorem test_wf_canFrame : (Instr.canFrameReceived 0 { fdf := true, rtr := true }).wf = false := by decide
theorem test_wf_announceFrame : (Instr.announceFrame 0 0 0 32 false false).wf = false := by decide

/-! ### Worked examples of the spec -/

/-- "The window of LE31 starts at 0x403E_0000. Its coefficient bank 1 starts at 0x403F_2000" (01_architecture.md). -/
theorem test_LE31_window : progAddr 31 0 = 0x403E0000 ∧ coefAddr 31 1 0 = 0x403F2000 := by decide

/-- The reference of L00 at C = 396,813 taps rises at 121,593 and falls at 518,406 taps (03_pwm_and_dead_time.md). -/
theorem test_centre_aligned_reference :
    (refEdges 1 640000 396813 0 none).1.map (fun e => (e.pos, e.level)) = [(0, false), (121593, true), (518406, false)] := by decide

/-- V03 of the buck at C = 16,640 taps and φ = 48,000 taps: the fall wraps to 640 taps (03_pwm_and_dead_time.md). -/
theorem test_phase_shift_wrap : (refEdges 2 64000 16640 48000 none).2 = some 640 := by decide

/-- MULC M2, M1, cb[0x010], K = 0 encodes as 0x4_8840_0010 (07_loop_engines.md). -/
theorem test_decode_mulc : leDecode 0x488400010 = some (.mulc 2 1 (.dir 0x10) 0) := by decide

/-- 3,277 × 2^22 times 1,000 × 2^25 gives 3,277,000 × 2^12 (07_loop_engines.md). -/
theorem test_mulc : ∃ s ∈ [upd (fun t => { t with words := [(progAddr 0 0, 0x488400010), (coefAddr 0 0 0x10, 1000 * 2 ^ 25)], eng := [(0, { m := [(1, 13744734208)], budget := 2 })] }) [(LE_STAT_STATE 0, 3)]],
    (match exec (.leMulc 0 .clean) s with | .next t => (t.engOf 0).mant 2 | _ => 0) = 13422592000 := by decide

/-- M2 with its highest bit at 33 and M3 at 25 leave NX = 1 (07_loop_engines.md). -/
theorem test_norm : ∃ s ∈ [upd (fun t => { t with words := [(progAddr 0 0, 0x21 * 2 ^ 30 + 2 * 2 ^ 22 + 3 * 2 ^ 18)], eng := [(0, { m := [(2, 13422592000), (3, 58720256)], nx := 35, budget := 2 })] }) [(LE_STAT_STATE 0, 3)]],
    (match exec (.leNorm 0 .clean) s with | .next t => (t.engOf 0).nx | _ => 0) = 1 := by decide

/-- The DC link at code 3,277 lands as m = 3,277 × 2^23 with E = 10 in slot 0x040 (05_measurement.md). -/
theorem test_slot_of_the_dc_link : ∃ s ∈ [upd (fun t => { t with adc := [(4, { seq := [{ input := 1, scale := 10, den := true, engine := 0, addr := 0x40 }] })] }) [(ADC_CTRL_EN 4, 1), (ADC_STAT_BUSY 4, 1)]],
    (match exec (.conversionEnd 4 2000123) s with | .next t => (t.word (dataAddr 0 0x40)).toNat | _ => 0) = 3277 * 2 ^ 23 := by decide

/-- Edges up count 101 and 102, an edge down counts back (06_position_feedback.md). -/
theorem test_quadrature_counts : quadCount 0 false false true false = some 1 ∧ quadCount 0 true false false false = some (-1) := by decide

/-! ### Witnesses -/

theorem witness_IdleStepIsOneTick :
    (∃ s ∈ [st [(PWR_PS_STAT_STATE, 2)]], s.pending = [] ∧ (∀ l : Fin 60, (s.rxOf l).upBusy = 0) ∧ s.fld PWR_PS_STAT_STATE = 2) ∧
    (∃ s ∈ [st [(PWR_PS_STAT_STATE, 3)]], s.pending = [] ∧ (∀ l : Fin 60, (s.rxOf l).upBusy = 0) ∧ s.fld PWR_PS_STAT_STATE ≠ 2 ∧
      s.timeRuns = false) ∧
    (∃ s ∈ [upd (fun t => { t with timeRuns := true }) [(CHG_CFG_EN, 0)]], s.pending = [] ∧ (∀ l : Fin 60, (s.rxOf l).upBusy =
      0) ∧ s.quiet = true ∧ s.timeRuns = true ∧ (∀ g : Fin 12, (s.grpOf g).due = false) ∧ (((s.mtime + 1) % 2 ^ 64 % 40 ≠ 0 ∨ ∀
      c : Fin 4, s.flag (FB_EXC_EN c) = false)) ∧ s.flag CHG_CFG_EN = false) ∧
    (∃ l ∈ ([0] : List (Fin 60)), ∃ s ∈ [upd (fun t => { t with rx := [(0, { upBusy := 1 })] }) [(PWR_PS_STAT_STATE, 3)]],
      s.pending = [] ∧ 0 < (s.rxOf l).upBusy ∧ ((∀ k : Fin 60, k ≠ l → (s.rxOf k).upBusy = 0)) ∧ s.fld PWR_PS_STAT_STATE ≠ 2 ∧
      s.timeRuns = false) :=
  by refine ⟨?_, ?_, ?_, ?_⟩ <;> decide +kernel

theorem witness_PowerOnBeginsColdStart :
    (∃ s ∈ [st [(PWR_START_STAT_STEP, 0)]], s.fld PWR_START_STAT_STEP = 0 ∧ s.sup.lost = false) ∧
    (∃ s ∈ [st [(PWR_START_STAT_STEP, 1)]], (s.fld PWR_START_STAT_STEP ≠ 0 ∨ s.sup.lost = true)) :=
  by refine ⟨?_, ?_⟩ <;> decide

theorem witness_SafetyRegistersOnlyByPair11 :
    (∃ r ∈ ([.pair 0] : List (Requester)), ∃ s ∈ [st []], s.quiet = true ∧ s.allUp = true ∧ blkAt (0x60058000 : Word).toNat =
      some .saf ∧ (rowsAt (0x60058000 : Word).toNat).isEmpty = false ∧ (0x60058000 : Word).toNat % 4 = 0 ∧ inFjopBuf (0x60058000
      : Word).toNat = false ∧ r ≠ .pair 11 ∧ r ≠ .host) ∧
    (∃ r ∈ ([.host] : List (Requester)), ∃ s ∈ [st [(PWR_START_STAT_STEP, 11)]], s.quiet = true ∧ s.allUp = true ∧ blkAt
      (0x60058000 : Word).toNat = some .saf ∧ (rowsAt (0x60058000 : Word).toNat).isEmpty = false ∧ (0x60058000 : Word).toNat % 4
      = 0 ∧ inFjopBuf (0x60058000 : Word).toNat = false ∧ r = .host ∧ s.hostBlind = false) ∧
    (∃ r ∈ ([.pair 11] : List (Requester)), ∃ s ∈ [st []], s.quiet = true ∧ s.allUp = true ∧ blkAt (0x60058000 : Word).toNat =
      some .saf ∧ (rowsAt (0x60058000 : Word).toNat).isEmpty = false ∧ (0x60058000 : Word).toNat % 4 = 0 ∧ inFjopBuf (0x60058000
      : Word).toNat = false ∧ r = .pair 11) :=
  by refine ⟨?_, ?_, ?_⟩ <;> decide

theorem witness_WordIsWrittenInHalves :
    ∃ r ∈ ([.pair 0] : List (Requester)), ∃ s ∈ [st []], s.quiet = true ∧ s.sup.parked = 0 ∧ r ≠ .host ∧ 0x50000000 ≤
      (0x503FFFF8 : Word).toNat ∧ (0x503FFFF8 : Word).toNat < 0x50400000 ∧ (0x503FFFF8 : Word).toNat % 8 = 0 ∧ bankShut s
      (0x503FFFF8 : Word).toNat = false :=
  by decide

theorem witness_WordIsReadInHalves :
    (∃ r ∈ ([.pair 0] : List (Requester)), ∃ s ∈ [st []], s.sup.parked = 0 ∧ r ≠ .host ∧ 0x50000000 ≤ (0x50000000 : Word).toNat
      ∧ (0x50000000 : Word).toNat < 0x50400000 ∧ (0x50000000 : Word).toNat % 8 = 0 ∧ bankShut s (0x50000000 : Word).toNat =
      false) ∧
    (∃ r ∈ ([.pair 0] : List (Requester)), ∃ s ∈ [st []], s.sup.parked = 0 ∧ r ≠ .host ∧ 0x50000000 ≤ (0x50000000 : Word).toNat
      ∧ (0x50000000 : Word).toNat < 0x50400000 ∧ (0x50000000 : Word).toNat % 8 = 0 ∧ bankShut s (0x50000000 : Word).toNat =
      false ∧ (s.viewOf r).high = none) :=
  by refine ⟨?_, ?_⟩ <;> decide

theorem witness_HostSixtyFourBitAccess :
    (∃ s ∈ [st []], s.hostBlind = true) ∧
    (∃ s ∈ [st [(PWR_START_STAT_STEP, 11)]], s.hostBlind = false ∧ s.allUp = true) ∧
    (∃ s ∈ [st [(PWR_START_STAT_STEP, 11), (PWR_MODE, 1), (HOST_CFG_REG_WR, 1)]], s.hostBlind = false ∧ s.allUp = true ∧ s.ready
      = true ∧ s.mode = 1 ∧ s.flag HOST_CFG_REG_WR = true) ∧
    (∃ s ∈ [st [(PWR_START_STAT_STEP, 11)]], s.hostBlind = false ∧ s.allUp = true ∧ (s.ready && s.mode = 1 && s.flag
      HOST_CFG_REG_WR) = false) :=
  by refine ⟨?_, ?_, ?_, ?_⟩ <;> decide

theorem witness_ModuleTimeReadsAsOneValue :
    ∃ r ∈ ([.pair 0] : List (Requester)), ∃ s ∈ [st []], ((r = .host → s.hostBlind = false)) :=
  by decide

theorem witness_VoltageRequestAndDroop :
    ∃ i ∈ ([0] : List (Fin 42)), ∃ s ∈ [st []], i ≠ 32 ∧ i ≠ 33 ∧ i ≠ 41 :=
  by decide

theorem witness_ClockFaultNeedsTwoWindows :
    (∃ s ∈ [upd (fun t => { t with timeRuns := true }) []], s.quiet = true ∧ s.timeRuns = true ∧ s.sup.parked = 0 ∧ s.clkBad =
      0) ∧
    (∃ i ∈ ([41] : List (Fin 42)), ∃ s ∈ [upd (fun t => { t with timeRuns := true, clkBad := 2 ^ 41 }) [(PWR_ISL_STAT_CLK_FAULT
      i, 0)]], s.quiet = true ∧ s.timeRuns = true ∧ s.sup.parked = 0 ∧ s.clkBad = 2 ^ i.val ∧ (s.flag (PWR_ISL_STAT_CLK_FAULT i)
      = false ∨ (∀ d ∈ s.sag.evts, d.cause ≠ 0x21))) :=
  by refine ⟨?_, ?_⟩ <;> decide

theorem witness_FailedStartIsRetried :
    (∃ s ∈ [st [(PWR_START_STAT_STEP, 11)]], s.starting = false) ∧
    (∃ s ∈ [st [(PWR_START_STAT_STEP, 2), (PWR_START_STAT_KIND, 0)]], s.starting = true ∧ 2 ≤ s.fld PWR_START_STAT_STEP ∧ s.flag
      PWR_START_STAT_KIND = false) ∧
    (∃ s ∈ [st [(PWR_START_STAT_STEP, 2), (PWR_START_STAT_KIND, 1), (PWR_START_CNT_COLD_FAIL, 0)]], s.starting = true ∧ 2 ≤
      s.fld PWR_START_STAT_STEP ∧ s.flag PWR_START_STAT_KIND = true ∧ s.fld PWR_START_CNT_COLD_FAIL = 0) :=
  by refine ⟨?_, ?_, ?_⟩ <;> decide

theorem witness_StartStepsInOrder :
    (∃ s ∈ [st [(PWR_START_STAT_STEP, 1)]], s.quiet = true ∧ s.starting = true ∧ s.fld PWR_START_STAT_STEP = 1 ∧ feedReady s =
      false) ∧
    (∃ s ∈ [upd (fun t => { t with sup := { a := { inRow := 11, since := 1000 } } }) [(PWR_START_STAT_STEP, 1),
      (PWR_START_STAT_KIND, 1), (PWR_FEED_STAT_IN, 1), (PWR_FEED_STAT_HOLD_OK, 1)]], s.quiet = true ∧ s.starting = true ∧ s.fld
      PWR_START_STAT_STEP = 1 ∧ feedReady s = true ∧ s.flag PWR_START_STAT_KIND = true) ∧
    (∃ s ∈ [upd (fun t => { t with sup := { a := { inRow := 11, since := 1000 } } }) [(PWR_START_STAT_STEP, 1),
      (PWR_START_STAT_KIND, 0), (PWR_FEED_STAT_IN, 1), (PWR_FEED_STAT_HOLD_OK, 1)]], s.quiet = true ∧ s.starting = true ∧ s.fld
      PWR_START_STAT_STEP = 1 ∧ feedReady s = true ∧ s.flag PWR_START_STAT_KIND = false) ∧
    (∃ s ∈ [st [(PWR_START_STAT_STEP, 2)]], s.quiet = true ∧ s.starting = true ∧ s.fld PWR_START_STAT_STEP = 2) ∧
    (∃ s ∈ [st [(PWR_START_STAT_STEP, 4)]], s.quiet = true ∧ s.starting = true ∧ s.fld PWR_START_STAT_STEP = 4) ∧
    (∃ s ∈ [st [(PWR_START_STAT_STEP, 8), (PWR_START_STAT_KIND, 0)]], s.quiet = true ∧ s.starting = true ∧ s.fld
      PWR_START_STAT_STEP = 8 ∧ s.flag PWR_START_STAT_KIND = false) ∧
    (∃ s ∈ [st [(PWR_START_STAT_STEP, 8), (FAB_CFG_EN_Q, 1), (FAB_ST_DISC 1, 1)]], s.quiet = true ∧ s.starting = true ∧ s.fld
      PWR_START_STAT_STEP = 8 ∧ discoveryDone s = false) ∧
    (∃ s ∈ [st [(PWR_START_STAT_STEP, 10), (PWR_START_STAT_KIND, 0)]], s.quiet = true ∧ s.starting = true ∧ s.fld
      PWR_START_STAT_STEP = 10 ∧ s.flag PWR_START_STAT_KIND = false) :=
  by refine ⟨?_, ?_, ?_, ?_, ?_, ?_, ?_, ?_⟩ <;> decide

theorem witness_ModeChangeCompletes :
    (∃ s ∈ [st [(PWR_MODE_CHANGING, 1), (PWR_MODE, 1), (PWR_MODE_TARGET, 2)]], s.flag PWR_MODE_CHANGING = true ∧ s.mode = 1 ∧
      s.fld PWR_MODE_TARGET = 2) ∧
    (∃ s ∈ [st [(PWR_MODE_CHANGING, 1), (PWR_MODE, 5), (PWR_MODE_TARGET, 1), (SAF_STAT_DEV_LATCH, 0)]], s.flag PWR_MODE_CHANGING
      = true ∧ s.mode = 5 ∧ s.fld PWR_MODE_TARGET = 1 ∧ s.flag SAF_STAT_DEV_LATCH = false) ∧
    (∃ s ∈ [st [(PWR_MODE_CHANGING, 1), (PWR_MODE, 5), (PWR_MODE_TARGET, 1), (SAF_STAT_DEV_LATCH, 1)]], s.flag PWR_MODE_CHANGING
      = true ∧ s.mode = 5 ∧ s.fld PWR_MODE_TARGET = 1 ∧ s.flag SAF_STAT_DEV_LATCH = true) :=
  by refine ⟨?_, ?_, ?_⟩ <;> decide

theorem witness_GroupStartIsChecked :
    (∃ g ∈ ([0] : List (Fin 12)), ∃ s ∈ [st [(PWM_GRP_STAT_STATE g, 1)]], s.quiet = true ∧ s.stopped g = false) ∧
    (∃ g ∈ ([11] : List (Fin 12)), ∃ s ∈ [st [(PWM_GRP_SYNC_EN 11, 1), (PWM_GRP_SYNC_MASTER 11, 0), (PWM_GRP_STAT_STATE 0, 1)]],
      s.quiet = true ∧ s.stopped g = true ∧ s.follows g = true ∧ s.running (s.masterOf g) = true) ∧
    (∃ g ∈ ([0] : List (Fin 12)), ∃ s ∈ [upd (fun t => { t with leg := [(0, { failed := true })] }) [(PWM_LEG_CFG_GROUP 0, 0)]],
      s.quiet = true ∧ s.stopped g = true ∧ (s.follows g && s.running (s.masterOf g)) = false ∧ s.groupFailed g = true) ∧
    (∃ g ∈ ([0] : List (Fin 12)), ∃ s ∈ [st [(PWM_GRP_STAT_VALID_SET g, 0)]], s.quiet = true ∧ s.stopped g = true ∧ (s.follows g
      && s.running (s.masterOf g)) = false ∧ s.groupFailed g = false ∧ s.flag (PWM_GRP_STAT_VALID_SET g) = false) ∧
    (∃ g ∈ ([0] : List (Fin 12)), ∃ s ∈ [st [(PWM_GRP_STAT_VALID_SET g, 1)]], s.quiet = true ∧ s.stopped g = true ∧ s.follows g
      = false ∧ s.groupFailed g = false ∧ s.flag (PWM_GRP_STAT_VALID_SET g) = true ∧ s.t0Of g < s.mtime + 1000) ∧
    (∃ g ∈ ([11] : List (Fin 12)), ∃ s ∈ [st [(PWM_GRP_STAT_VALID_SET g, 1), (PWM_GRP_T0_LO 11, 1000)]], s.quiet = true ∧
      s.stopped g = true ∧ s.follows g = false ∧ s.groupFailed g = false ∧ s.flag (PWM_GRP_STAT_VALID_SET g) = true ∧ s.mtime +
      1000 ≤ s.t0Of g) ∧
    (∃ g ∈ ([11] : List (Fin 12)), ∃ s ∈ [st [(PWM_GRP_STAT_VALID_SET g, 1), (PWM_GRP_SYNC_EN 11, 1)]], s.quiet = true ∧
      s.stopped g = true ∧ s.follows g = true ∧ s.running (s.masterOf g) = false ∧ s.groupFailed g = false ∧ s.flag
      (PWM_GRP_STAT_VALID_SET g) = true) :=
  by refine ⟨?_, ?_, ?_, ?_, ?_, ?_, ?_⟩ <;> decide

theorem witness_StopAndReload :
    (∃ g ∈ ([0] : List (Fin 12)), ∃ s ∈ [st [(PWM_GRP_STAT_STATE g, 1)]], s.quiet = true ∧ s.running g = true) ∧
    (∃ g ∈ ([0] : List (Fin 12)), ∃ s ∈ [st []], s.quiet = true ∧ s.running g = false) ∧
    (∃ g ∈ ([0] : List (Fin 12)), ∃ s ∈ [upd (fun t => { t with grp := [(0, { stopPending := true, start := 5 })] })
      [(PWM_GRP_STAT_STATE g, 1), (PWM_GRP_STAT_STATE 0, 1)]], s.quiet = true ∧ s.running g = true ∧ (s.grpOf g).ending = false
      ∧ s.tied g = false ∧ ((if (s.grpOf g).first then (s.grpOf g).start else (s.grpOf g).start + s.fld
      (PWM_GRP_PERIOD_ACT_PERIOD g))) = (if (s.grpOf g).first then (s.grpOf g).start else (s.grpOf g).start + s.fld
      (PWM_GRP_PERIOD_ACT_PERIOD g)) ∧ (s.grpOf g).stopPending = true) ∧
    (∃ g ∈ ([0] : List (Fin 12)), ∃ s ∈ [st [(PWM_GRP_STAT_STATE g, 1)]], s.quiet = true ∧ s.running g = true ∧ (s.grpOf
      g).ending = false ∧ s.tied g = false ∧ ((if (s.grpOf g).first then (s.grpOf g).start else (s.grpOf g).start + s.fld
      (PWM_GRP_PERIOD_ACT_PERIOD g))) = (if (s.grpOf g).first then (s.grpOf g).start else (s.grpOf g).start + s.fld
      (PWM_GRP_PERIOD_ACT_PERIOD g)) ∧ (s.grpOf g).stopPending = false) ∧
    (∃ g ∈ ([0] : List (Fin 12)), ∃ s ∈ [st [(PWM_GRP_STAT_STATE g, 1), (PWM_GRP_CTRL_UPD g, 1)]], s.quiet = true ∧ s.running g
      = true ∧ s.fld (PWM_GRP_CTRL_UPD g) = 1) :=
  by refine ⟨?_, ?_, ?_, ?_, ?_⟩ <;> decide

theorem witness_CommitMakesTheSetComplete :
    (∃ g ∈ ([0] : List (Fin 12)), ∃ s ∈ [st []], s.quiet = true ∧ s.follows g = false ∧ s.fld (PWM_GRP_PERIOD_SH_PERIOD g) <
      400) ∧
    (∃ g ∈ ([0] : List (Fin 12)), ∃ s ∈ [st [(PWM_GRP_PERIOD_SH_PERIOD 0, 400)]], s.quiet = true ∧ (400 ≤ s.fld
      (PWM_GRP_PERIOD_SH_PERIOD g) ∨ s.follows g = true) ∧ s.running g = false) ∧
    (∃ e ∈ ([0] : List (Fin 32)), ∃ s ∈ [st []], s.quiet = true ∧ (s.engOf e).flight = []) ∧
    (∃ e ∈ ([0] : List (Fin 32)), ∃ f ∈ [{ group := 0, duties := [2 ^ 20], period := some 400 }], ∃ rest ∈ [[]], ∃ p ∈ [400], ∃
      s ∈ [upd (fun t => { t with eng := [(0, { flight := [{ group := 0, duties := [2 ^ 20], period := some 400 }] })] })
      [(PWM_LEG_CFG_GROUP 0, 0)]], s.quiet = true ∧ (s.engOf e).flight = f :: rest ∧ f.duties.length = (s.members
      f.group).length ∧ f.period = some p ∧ 400 ≤ p ∧ s.running f.group = false) ∧
    (∃ e ∈ ([0] : List (Fin 32)), ∃ f ∈ [{ group := 0 }], ∃ rest ∈ [[]], ∃ s ∈ [upd (fun t =>
      { t with eng := [(0, { flight := [{ group := 0 }] })] }) [(PWM_LEG_CFG_GROUP 0, 0)]], s.quiet = true ∧ (s.engOf e).flight
      = f :: rest ∧ f.duties.length ≠ (s.members f.group).length) ∧
    (∃ e ∈ ([0] : List (Fin 32)), ∃ f ∈ [{ group := 0, duties := [2 ^ 20] }], ∃ rest ∈ [[]], ∃ s ∈ [upd (fun t =>
      { t with eng := [(0, { flight := [{ group := 0, duties := [2 ^ 20] }] })] }) [(PWM_LEG_CFG_GROUP 0, 0)]], s.quiet = true ∧
      (s.engOf e).flight = f :: rest ∧ f.duties.length = (s.members f.group).length ∧ f.period = none ∧ (s.grpOf
      f.group).complete = none) ∧
    (∃ e ∈ ([0] : List (Fin 32)), ∃ f ∈ [{ group := 0, duties := [2 ^ 20], period := some 399 }], ∃ rest ∈ [[]], ∃ p ∈ [399], ∃
      s ∈ [upd (fun t => { t with eng := [(0, { flight := [{ group := 0, duties := [2 ^ 20], period := some 399 }] })] })
      [(PWM_LEG_CFG_GROUP 0, 0)]], s.quiet = true ∧ (s.engOf e).flight = f :: rest ∧ f.duties.length = (s.members
      f.group).length ∧ f.period = some p ∧ p < 400) :=
  by refine ⟨?_, ?_, ?_, ?_, ?_, ?_, ?_⟩ <;> decide

theorem witness_TriggersAndEdges :
    (∃ g ∈ ([0] : List (Fin 12)), ∃ s ∈ [st []], ((if (s.grpOf g).due then (s.grpOf g).oldStart else (s.grpOf g).start)) = (if
      (s.grpOf g).due then (s.grpOf g).oldStart else (s.grpOf g).start) ∧ ((if (s.grpOf g).due then (s.grpOf g).oldPeriod else
      s.fld (PWM_GRP_PERIOD_ACT_PERIOD g))) = (if (s.grpOf g).due then (s.grpOf g).oldPeriod else s.fld
      (PWM_GRP_PERIOD_ACT_PERIOD g))) ∧
    (∃ leg ∈ ([0] : List (Fin 36)), ∃ s ∈ [st []], s.groupOf leg = none) ∧
    (∃ g ∈ ([11] : List (Fin 12)), ∃ leg ∈ ([35] : List (Fin 36)), ∃ s ∈ [st [(PWM_LEG_CFG_GROUP 35, 11)]], s.groupOf leg = some
      g.val ∧ (s.running g = false ∨ withheld s g leg = true)) ∧
    (∃ g ∈ ([11] : List (Fin 12)), ∃ leg ∈ ([23] : List (Fin 36)), ∃ i ∈ ([0] : List (Nat)), ∃ e ∈ ([{ pos := 100 }] : List
      (RefEdge)), ∃ s ∈ [upd (fun t => { t with leg := [(23, { plan := [{ pos := 100 }] })] }) [(PWM_GRP_STAT_STATE g, 1),
      (PWM_LEG_CFG_GROUP 23, 11), (PWM_GRP_STAT_STATE 11, 1), (PWR_START_STAT_STEP, 11), (PWM_GRP_PERIOD_ACT_PERIOD 11, 400)]],
      s.groupOf leg = some g.val ∧ leg.val < 24 ∧ s.legFitted leg = true ∧ s.running g = true ∧ withheld s g leg = false ∧
      (s.legOf leg).plan[i]? = some e ∧ offLeaves s leg (32 * s.fld (PWM_GRP_PERIOD_ACT_PERIOD g)) ((s.grpOf g).start * 32)
      (s.legOf leg).plan i = true) ∧
    (∃ g ∈ ([11] : List (Fin 12)), ∃ leg ∈ ([23] : List (Fin 36)), ∃ i ∈ ([0] : List (Nat)), ∃ e ∈
      ([{ pos := 100, level := true }] : List (RefEdge)), ∃ s ∈ [upd (fun t =>
      { t with leg := [(23, { plan := [{ pos := 100, level := true }] })] }) [(PWM_GRP_STAT_STATE g, 1), (PWM_LEG_CFG_GROUP 23,
      11), (PWM_GRP_STAT_STATE 11, 1), (PWR_START_STAT_STEP, 11), (PWM_GRP_PERIOD_ACT_PERIOD 11, 400)]], s.groupOf leg = some
      g.val ∧ leg.val < 24 ∧ s.legFitted leg = true ∧ s.running g = true ∧ withheld s g leg = false ∧ (s.legOf leg).plan[i]? =
      some e ∧ onLeaves s leg (32 * s.fld (PWM_GRP_PERIOD_ACT_PERIOD g)) (s.legOf leg).plan i = true) :=
  by refine ⟨?_, ?_, ?_, ?_, ?_⟩ <;> decide

theorem witness_LegForces :
    (∃ leg ∈ ([35] : List (Fin 36)), ∃ s ∈ [upd (fun t => { t with variant := .ax48 }) []], s.quiet = true ∧ s.legFitted leg =
      false) ∧
    (∃ leg ∈ ([35] : List (Fin 36)), ∃ s ∈ [st []], s.quiet = true ∧ s.legFitted leg = true ∧ bitsOf (0xA : Word).toNat 0 2 = 2
      ∧ bitsOf (0xA : Word).toNat 2 2 = 2) ∧
    (∃ leg ∈ ([0] : List (Fin 36)), ∃ s ∈ [st [(PWM_LEG_CFG_GROUP 0, 0), (PWM_GRP_STAT_STATE 0, 1)]], s.quiet = true ∧
      s.legFitted leg = true ∧ bitsOf (0x9 : Word).toNat 0 2 < 3 ∧ bitsOf (0x9 : Word).toNat 2 2 < 3 ∧ ((bitsOf (0x9 :
      Word).toNat 0 2 = 2 → bitsOf (0x9 : Word).toNat 2 2 ≠ 2)) ∧ s.legStopped leg = false) ∧
    (∃ leg ∈ ([0] : List (Fin 36)), ∃ s ∈ [st []], s.quiet = true ∧ s.legFitted leg = true ∧ bitsOf (0 : Word).toNat 0 2 < 3 ∧
      bitsOf (0 : Word).toNat 2 2 < 3 ∧ ((bitsOf (0 : Word).toNat 0 2 = 2 → bitsOf (0 : Word).toNat 2 2 ≠ 2)) ∧ s.legStopped leg
      = true) :=
  by refine ⟨?_, ?_, ?_, ?_⟩ <;> decide

theorem witness_TripClear :
    (∃ g ∈ ([0] : List (Fin 12)), ∃ s ∈ [st [(PWM_GRP_TMASK_P_PINS 0, 1), (PWM_TRIP_FILT_FILT 0, 1)]], s.quiet = true ∧
      activeSources s g ≠ []) ∧
    (∃ g ∈ ([0] : List (Fin 12)), ∃ s ∈ [st []], s.quiet = true ∧ activeSources s g = []) :=
  by refine ⟨?_, ?_⟩ <;> decide

theorem witness_TripInputsAndLegMoves :
    (∃ src ∈ ([0] : List (Fin 108)), ∃ s ∈ [st []], src.val < 16) ∧
    (∃ src ∈ ([47] : List (Fin 108)), ∃ s ∈ [st []], 16 ≤ src.val ∧ src.val < 48) ∧
    (∃ src ∈ ([0] : List (Fin 108)), ∃ s ∈ [st [(PWM_TRIP_FILT_RAW src, 1), (PWM_TRIP_FILT_FILT src, 0)]], s.flag
      (PWM_TRIP_FILT_RAW src) = true ∧ s.flag (PWM_TRIP_FILT_FILT src) = false ∧ ((∀ g : Fin 12, s.running g = true → src.val ∉
      enabledSources s g))) ∧
    (∃ src ∈ ([0] : List (Fin 108)), ∃ s ∈ [st []], s.flag (PWM_TRIP_FILT_RAW src) = s.flag (PWM_TRIP_FILT_FILT src)) ∧
    (∃ src ∈ ([0] : List (Fin 108)), ∃ s ∈ [st [(PWM_TRIP_FILT_RAW src, 0), (PWM_TRIP_FILT_FILT src, 1)]], s.flag
      (PWM_TRIP_FILT_RAW src) = false ∧ s.flag (PWM_TRIP_FILT_FILT src) = true) ∧
    (∃ leg ∈ ([0] : List (Fin 36)), ∃ s ∈ [st []], s.quiet = true ∧ s.legFitted leg = true ∧ 12 ≤ bitsOf (14 : Word).toNat 0 4 ∧
      bitsOf (14 : Word).toNat 0 4 < 15) ∧
    (∃ leg ∈ ([0] : List (Fin 36)), ∃ s ∈ [st [(PWM_LEG_CFG_GROUP 0, 0), (PWM_GRP_STAT_STATE 0, 1)]], s.quiet = true ∧
      s.legFitted leg = true ∧ (bitsOf (0 : Word).toNat 0 4 < 12 ∨ bitsOf (0 : Word).toNat 0 4 = 15) ∧ s.legStopped leg = false) ∧
    (∃ leg ∈ ([0] : List (Fin 36)), ∃ s ∈ [st [(PWM_LOCK, 0)]], s.quiet = true ∧ s.legFitted leg = true ∧ (bitsOf (0 :
      Word).toNat 0 4 < 12 ∨ bitsOf (0 : Word).toNat 0 4 = 15) ∧ s.legStopped leg = true ∧ ((bitsOf (0 : Word).toNat 0 4 < 12 →
      s.stopped (bitsOf (0 : Word).toNat 0 4) = true)) ∧ s.flag PWM_LOCK = false) :=
  by refine ⟨?_, ?_, ?_, ?_, ?_, ?_, ?_, ?_⟩ <;> decide +kernel

theorem witness_FramesRoundTrip :
    ∃ ty ∈ ([15] : List (Nat)), ∃ body ∈ ([2 ^ 24 - 1] : List (Nat)), ty < 16 ∧ body < 2 ^ 24 :=
  by decide

theorem witness_DownFramesAtAReceiver :
    (∃ l ∈ ([0] : List (Fin 60)), ∃ s ∈ [st []], (s.rxOf l).state = .reset) ∧
    (∃ l ∈ ([0] : List (Fin 60)), ∃ s ∈ [upd (fun t => { t with rx := [(0, { state := .run })] }) []], (s.rxOf l).state ≠ .reset
      ∧ frameSound (0 : BitVec 40) = false) ∧
    (∃ l ∈ ([59] : List (Fin 60)), ∃ s ∈ [upd (fun t => { t with rx := [(59, { state := .safeOff })] }) []], (s.rxOf l).state ≠
      .reset ∧ (s.rxOf l).state ≠ .orphan) ∧
    (∃ l ∈ ([0] : List (Fin 60)), ∃ s ∈ [upd (fun t => { t with rx := [(0, { state := .armed })] }) []], (s.rxOf l).state ≠
      .reset ∧ (s.rxOf l).state ≠ .orphan ∧ (s.rxOf l).uv = false ∧ (s.rxOf l).vneg = false ∧ (s.rxOf l).drvUv = false) ∧
    (∃ l ∈ ([0] : List (Fin 60)), ∃ s ∈ [upd (fun t =>
      { t with rx := [(0, { state := .run, vneg := true, ch := { latch := true } })] }) []], (s.rxOf l).state ≠ .reset ∧ (s.rxOf
      l).state ≠ .orphan ∧ ((s.rxOf l).uv = true ∨ (s.rxOf l).vneg = true ∨ (s.rxOf l).drvUv = true)) ∧
    (∃ l ∈ ([0] : List (Fin 60)), ∃ body ∈ ([0] : List (Nat)), ∃ s ∈ [upd (fun t => { t with rx := [(0, { state := .run })] })
      []], (s.rxOf l).state ≠ .reset ∧ (s.rxOf l).state ≠ .orphan ∧ (mkFrame 3 0 : BitVec 40) = mkFrame 3 (body / 2 ^ 17 * 2 ^
      17 + Tbl.get 0 (s.rxOf l).cfg (body / 2 ^ 17))) :=
  by refine ⟨?_, ?_, ?_, ?_, ?_, ?_⟩ <;> decide +kernel

theorem witness_TimedFramesAtAReceiver :
    (∃ body ∈ ([2 ^ 24 - 1] : List (Nat)), ∃ l ∈ ([0] : List (Fin 60)), ∃ s ∈ [upd (fun t =>
      { t with rx := [(0, { state := .run })] }) []], body < 2 ^ 24 ∧ (s.rxOf l).state ≠ .reset ∧ (s.rxOf l).state ≠ .orphan) ∧
    (∃ body ∈ ([0] : List (Nat)), ∃ n ∈ ([47] : List (Fin 48)), ∃ s ∈ [upd (fun t => { t with rx := [(47, { state := .run })] })
      []], body < 2 ^ 24 ∧ (s.rxOf n).state = .run ∧ (s.rxOf n).xhold = false) ∧
    (∃ body ∈ ([33 * 32] : List (Nat)), ∃ k ∈ ([11] : List (Fin 12)), ∃ at_ ∈ ([33] : List (Nat)), ∃ s ∈ [upd (fun t =>
      { t with rx := [(59, { state := .run })] }) []], body < 2 ^ 24 ∧ (s.rxOf (48 + k)).state = .run ∧ (s.rxOf (48 + k)).xhold
      = false ∧ (s.rxOf (48 + k)).gapNext = false ∧ body % 32 = (s.rxOf (48 + k)).seq ∧ at_ = shortTime (localTaps s (s.rxOf (48
      + k))) (body / 32 % 2 ^ 17) ∧ localTaps s (s.rxOf (48 + k)) ≤ at_) ∧
    (∃ body ∈ ([0] : List (Nat)), ∃ k ∈ ([11] : List (Fin 12)), ∃ s ∈ [upd (fun t => { t with rx := [(59, { state := .run })] })
      []], body < 2 ^ 24 ∧ (s.rxOf (48 + k)).state ≠ .reset ∧ (s.rxOf (48 + k)).state ≠ .orphan) :=
  by refine ⟨?_, ?_, ?_, ?_⟩ <;> decide

theorem witness_UpFramesAtTheModule :
    (∃ n ∈ ([0] : List (Fin 48)), ∃ s ∈ [st []], s.linkFitted n = true ∧ frameSound (0 : BitVec 40) = false) ∧
    (∃ n ∈ ([47] : List (Fin 48)), ∃ s ∈ [upd (fun t => { t with variant := .ax48 }) []], s.linkFitted n = false) ∧
    (∃ n ∈ ([0] : List (Fin 48)), ∃ s ∈ [st []], s.linkFitted n = true) ∧
    (∃ n ∈ ([0] : List (Fin 48)), ∃ s ∈ [st []], s.linkFitted n = true ∧ s.quiet = true) ∧
    (∃ n ∈ ([0] : List (Fin 48)), ∃ s ∈ [st []], s.linkFitted n = true ∧ (s.lkOf n).rtCnt < 15) ∧
    (∃ n ∈ ([0] : List (Fin 48)), ∃ s ∈ [st []], s.linkFitted n = true ∧ s.quiet = true ∧ (s.lkOf n).restore = false ∧ (s.lkOf
      n).clearWait = false) ∧
    (∃ n ∈ ([0] : List (Fin 48)), ∃ s ∈ [upd (fun t => { t with lk := [(0, { clearWait := true })] }) []], s.linkFitted n = true
      ∧ (s.lkOf n).restore = false ∧ (s.lkOf n).clearWait = true ∧ (s.lkOf n).lost = false) :=
  by refine ⟨?_, ?_, ?_, ?_, ?_, ?_, ?_⟩ <;> decide

theorem witness_LinkTimers :
    (∃ l ∈ ([59] : List (Fin 60)), ∃ s ∈ [upd (fun t => { t with timeRuns := true }) []], s.timeRuns = true ∧ s.linkFitted l =
      true) ∧
    (∃ l ∈ ([0] : List (Fin 60)), ∃ s ∈ [st []], (s.rxOf l).state = .reset) ∧
    (∃ l ∈ ([0] : List (Fin 60)), ∃ s ∈ [upd (fun t => { t with rx := [(0, { state := .orphan })] }) []], (s.rxOf l).state ≠
      .reset ∧ (2 ^ 21 + 3 * 2 ^ 18 : Nat) = (s.rxOf l).state.code * 2 ^ 21 + bit ((s.rxOf l).ch.latch || (isLv l && (s.rxOf
      l).hs.latch)) * 2 ^ 20 + permitCode (s.rxOf l).held * 2 ^ 18 + bit (isLv l && (s.rxOf l).hs.latch) * 2 ^ 17 + bit (isLv l
      && (s.rxOf l).ch.latch) * 2 ^ 16 ∧ (s.rxOf l).upBusy = 0) ∧
    (∃ l ∈ ([0] : List (Fin 60)), ∃ s ∈ [upd (fun t => { t with rx := [(0, { state := .orphan, upBusy := 3 })] }) []], (s.rxOf
      l).state ≠ .reset ∧ (2 ^ 21 + 3 * 2 ^ 18 : Nat) = (s.rxOf l).state.code * 2 ^ 21 + bit ((s.rxOf l).ch.latch || (isLv l &&
      (s.rxOf l).hs.latch)) * 2 ^ 20 + permitCode (s.rxOf l).held * 2 ^ 18 + bit (isLv l && (s.rxOf l).hs.latch) * 2 ^ 17 + bit
      (isLv l && (s.rxOf l).ch.latch) * 2 ^ 16 ∧ (s.rxOf l).upBusy ≠ 0) ∧
    (∃ l ∈ ([0] : List (Fin 60)), ∃ s ∈ [upd (fun t => { t with rx := [(0, { state := .orphan })] }) []], (s.rxOf l).state ≠
      .reset) ∧
    (∃ n ∈ ([0] : List (Fin 48)), ∃ s ∈ [st []], s.linkFitted n = true) :=
  by refine ⟨?_, ?_, ?_, ?_, ?_, ?_⟩ <;> decide

theorem witness_GateProtection :
    (∃ n ∈ ([0] : List (Fin 48)), ∃ mv ∈ ([3001] : List (Nat)), ∃ s ∈ [upd (fun t =>
      { t with rx := [(0, { ch := { gate := .on, blanked := true } })] }) [(GS_CFG_DSAT_EN n, 1), (GS_CFG_DSAT_TH 0, 0)]],
      s.flag (GS_CFG_DSAT_EN n) = true ∧ (s.rxOf n).ch.gate = .on ∧ (s.rxOf n).ch.blanked = true ∧ dsatThreshold s n < mv) ∧
    (∃ n ∈ ([0] : List (Fin 48)), ∃ mv ∈ ([0] : List (Nat)), ∃ s ∈ [st [(GS_CFG_DSAT_EN n, 0)]], (s.flag (GS_CFG_DSAT_EN n) =
      false ∨ (s.rxOf n).ch.gate ≠ .on ∨ (s.rxOf n).ch.blanked = false ∨ mv ≤ dsatThreshold s n)) ∧
    (∃ n ∈ ([0] : List (Fin 48)), ∃ mv ∈ ([101] : List (Nat)), ∃ s ∈ [upd (fun t =>
      { t with rx := [(0, { ch := { gate := .on } })] }) [(GS_CFG_SC_EN n, 1), (GS_CFG_SC_TH 0, 0)]], s.flag (GS_CFG_SC_EN n) =
      true ∧ (s.rxOf n).ch.gate = .on ∧ 100 + 100 * s.fld (GS_CFG_SC_TH n) < mv) ∧
    (∃ n ∈ ([0] : List (Fin 48)), ∃ mv ∈ ([0] : List (Nat)), ∃ s ∈ [st [(GS_CFG_SC_EN n, 0)]], (s.flag (GS_CFG_SC_EN n) = false
      ∨ (s.rxOf n).ch.gate ≠ .on ∨ mv ≤ 100 + 100 * s.fld (GS_CFG_SC_TH n))) ∧
    (∃ n ∈ ([0] : List (Fin 48)), ∃ s ∈ [upd (fun t => { t with rx := [(0, { state := .safeOff, armedUv := true })] }) []],
      (s.rxOf n).state ≠ .reset ∧ (s.rxOf n).armedUv = true) ∧
    (∃ n ∈ ([0] : List (Fin 48)), ∃ s ∈ [st []], (s.rxOf n).armedUv = false) ∧
    (∃ k ∈ ([11] : List (Fin 12)), ∃ s ∈ [upd (fun t => { t with rx := [(59, { state := .armed })] }) []], (s.rxOf (48 +
      k)).state ≠ .reset) ∧
    (∃ k ∈ ([0] : List (Fin 12)), ∃ s ∈ [st []], (s.rxOf (48 + k)).state = .reset) ∧
    (∃ k ∈ ([0] : List (Fin 12)), ∃ mv ∈ ([201] : List (Nat)), ∃ s ∈ [upd (fun t =>
      { t with rx := [(48, { hs := { gate := .on, blanked := true } })] }) [(LD_CFG_VDS_EN k, 1), (LD_CFG_VDS_HS 0, 0)]], s.flag
      (LD_CFG_VDS_EN k) = true ∧ (s.rxOf (48 + k)).hs.gate = .on ∧ (s.rxOf (48 + k)).hs.blanked = true ∧ 200 + 100 * s.fld
      (LD_CFG_VDS_HS k) < mv) ∧
    (∃ k ∈ ([0] : List (Fin 12)), ∃ mv ∈ ([201] : List (Nat)), ∃ s ∈ [upd (fun t =>
      { t with rx := [(48, { ch := { gate := .on, blanked := true } })] }) [(LD_CFG_VDS_EN k, 1), (LD_CFG_VDS_LS 0, 0)]], s.flag
      (LD_CFG_VDS_EN k) = true ∧ (s.rxOf (48 + k)).ch.gate = .on ∧ (s.rxOf (48 + k)).ch.blanked = true ∧ 200 + 100 * s.fld
      (LD_CFG_VDS_LS k) < mv) ∧
    (∃ k ∈ ([0] : List (Fin 12)), ∃ mv ∈ ([0] : List (Nat)), ∃ s ∈ [st [(LD_CFG_VDS_EN k, 0)]], (s.flag (LD_CFG_VDS_EN k) =
      false ∨ (s.rxOf (48 + k)).ch.gate ≠ .on ∨ (s.rxOf (48 + k)).ch.blanked = false ∨ mv ≤ 200 + 100 * s.fld (LD_CFG_VDS_LS
      k))) ∧
    (∃ n ∈ ([0] : List (Fin 48)), ∃ s ∈ [upd (fun t => { t with rx := [(0, { ch := { gate := .on, blanked := true } })] }) []],
      (s.rxOf n).ch.gate = .on ∧ (s.rxOf n).ch.blanked = true ∧ (s.rxOf n).ch.sampled = false) ∧
    (∃ n ∈ ([0] : List (Fin 48)), ∃ s ∈ [st []], ((s.rxOf n).ch.gate ≠ .on ∨ (s.rxOf n).ch.blanked = false ∨ (s.rxOf
      n).ch.sampled = true)) :=
  by refine ⟨?_, ?_, ?_, ?_, ?_, ?_, ?_, ?_, ?_, ?_, ?_, ?_, ?_⟩ <;> decide

theorem witness_PermitsAndCrossLinks :
    (∃ n ∈ ([0] : List (Fin 48)), ∃ s ∈ [upd (fun t => { t with rx := [(0, { state := .run, held := some .permit })] }) []],
      (s.rxOf n).state = .run ∧ (s.rxOf n).held = some .permit) ∧
    (∃ n ∈ ([0] : List (Fin 48)), ∃ s ∈ [st []], (s.rxOf n).state = .reset) ∧
    (∃ n ∈ ([0] : List (Fin 48)), ∃ on ∈ ([false] : List (Bool)), ∃ hold ∈ ([false] : List (Bool)), ∃ s ∈ [st []], ((s.rxOf
      (partnerOf n)).state = .reset ∨ on ≠ decide ((s.rxOf (partnerOf n)).ch.gate = .on) ∨ hold ≠ (s.rxOf (partnerOf
      n)).holdOut)) ∧
    (∃ n ∈ ([0] : List (Fin 48)), ∃ s ∈ [upd (fun t => { t with rx := [(0, { state := .safeOff })] }) []], (s.rxOf n).state ≠
      .reset) ∧
    (∃ n ∈ ([0] : List (Fin 48)), ∃ on ∈ ([false] : List (Bool)), ∃ s ∈ [upd (fun t =>
      { t with rx := [(0, { state := .run }), (1, { state := .run, ch := { gate := .on } })] }) []], (s.rxOf n).state ≠ .reset ∧
      (s.rxOf (partnerOf n)).state ≠ .reset ∧ (s.rxOf (partnerOf n)).holdOut = false) ∧
    (∃ n ∈ ([1] : List (Fin 48)), ∃ on ∈ ([false] : List (Bool)), ∃ s ∈ [upd (fun t =>
      { t with rx := [(0, { state := .run, holdOut := true }), (1, { state := .run, ch := { gate := .on } })] }) []], (s.rxOf
      n).state = .run ∧ (s.rxOf (partnerOf n)).state ≠ .reset ∧ (s.rxOf (partnerOf n)).holdOut = true) ∧
    (∃ n ∈ ([0] : List (Fin 48)), ∃ on ∈ ([false] : List (Bool)), ∃ e ∈ ([{ on := true }] : List (PendEdge)), ∃ q ∈ ([[]] : List
      (List PendEdge)), ∃ s ∈ [upd (fun t =>
      { t with rx := [(0, { state := .run, ch := { gate := .off }, pend := [{ on := true }] })] }) []], (s.rxOf n).state = .run
      ∧ (s.rxOf n).pend = e :: q ∧ e.on = true ∧ e.hs = false ∧ (s.rxOf n).ch.latch = false ∧ (s.rxOf n).holdSeq = false ∧
      (s.rxOf n).xhold = false ∧ (s.rxOf n).partnerOn = false ∧ (s.rxOf n).xSilent = false ∧ n.val % 2 = 0 ∧ (s.rxOf n).ch.gate
      ≠ .pulled) ∧
    (∃ n ∈ ([0] : List (Fin 48)), ∃ on ∈ ([false] : List (Bool)), ∃ e ∈ ([{ on := true }] : List (PendEdge)), ∃ q ∈ ([[]] : List
      (List PendEdge)), ∃ s ∈ [upd (fun t =>
      { t with rx := [(0, { state := .run, xSilent := true, pend := [{ on := true }] })] }) []], (s.rxOf n).state = .run ∧
      (s.rxOf n).pend = e :: q ∧ e.on = true ∧ e.hs = false ∧ (s.rxOf n).ch.latch = false ∧ (s.rxOf n).holdSeq = false ∧ (s.rxOf
      n).xhold = false ∧ ((s.rxOf n).partnerOn = true ∨ (s.rxOf n).xSilent = true ∨ (n.val % 2 = 1 ∧ (⟨e.taps, false, true⟩ :
      PendEdge) ∈ (s.rxOf (partnerOf n)).pend))) ∧
    (∃ n ∈ ([0] : List (Fin 48)), ∃ on ∈ ([false] : List (Bool)), ∃ e ∈ ([{ on := true }] : List (PendEdge)), ∃ q ∈ ([[]] : List
      (List PendEdge)), ∃ s ∈ [upd (fun t =>
      { t with rx := [(0, { state := .run, ch := { latch := true }, pend := [{ on := true }] })] }) []], (s.rxOf n).state = .run
      ∧ (s.rxOf n).pend = e :: q ∧ e.on = true ∧ e.hs = false ∧ (s.rxOf n).ch.latch = true) ∧
    (∃ n ∈ ([0] : List (Fin 48)), ∃ on ∈ ([false] : List (Bool)), ∃ e ∈ ([{}] : List (PendEdge)), ∃ q ∈ ([[]] : List (List
      PendEdge)), ∃ s ∈ [upd (fun t => { t with rx := [(0, { state := .run, ch := { gate := .on }, pend := [{}] })] }) []],
      (s.rxOf n).state = .run ∧ (s.rxOf n).pend = e :: q ∧ e.on = false ∧ e.hs = false ∧ (s.rxOf n).ch.gate = .on) ∧
    (∃ n ∈ ([0] : List (Fin 48)), ∃ s ∈ [st []], (s.rxOf n).pend = []) ∧
    (∃ k ∈ ([0] : List (Fin 12)), ∃ s ∈ [upd (fun t => { t with rx := [(48, { hs := { latch := true, wantOn := true } })] })
      []], ((s.rxOf (48 + k)).hs.latch = true ∨ (s.rxOf (48 + k)).ch.latch = true)) ∧
    (∃ k ∈ ([0] : List (Fin 12)), ∃ s ∈ [upd (fun t => { t with rx := [(48, { hs := { wantOn := true, gate := .off } })] }) []],
      (s.rxOf (48 + k)).hs.latch = false ∧ (s.rxOf (48 + k)).ch.latch = false ∧ (s.rxOf (48 + k)).hs.wantOn = true ∧ (s.rxOf (48
      + k)).ch.gate ≠ .on) ∧
    (∃ n ∈ ([0] : List (Fin 48)), ∃ s ∈ [upd (fun t => { t with rx := [(0, { ch := { wantOn := true } })] }) []], (s.rxOf
      n).ch.wantOn = true ∧ (s.rxOf n).partnerOn = false ∧ (s.rxOf n).xSilent = false) ∧
    (∃ n ∈ ([0] : List (Fin 48)), ∃ s ∈ [upd (fun t => { t with rx := [(0, { partnerOn := true })] }) []], (s.rxOf n).partnerOn
      = true) ∧
    (∃ n ∈ ([0] : List (Fin 48)), ∃ s ∈ [upd (fun t => { t with rx := [(0, { state := .armed })] }) []], (s.rxOf n).state ≠
      .reset ∧ (s.rxOf n).state ≠ .orphan) ∧
    (∃ n ∈ ([47] : List (Fin 48)), ∃ s ∈ [upd (fun t => { t with rx := [(47, { state := .orphan, held := some .permit })] })
      []], (s.rxOf n).state = .orphan ∧ (s.rxOf n).held = some .permit ∧ (s.rxOf n).downSilent = false ∧ (s.rxOf n).needGood =
      0) ∧
    (∃ n ∈ ([0] : List (Fin 48)), ∃ s ∈ [upd (fun t =>
      { t with rx := [(0, { state := .orphan, orphan := 1, ch := { gate := .off } })] }) []], (s.rxOf n).state = .orphan ∧
      (s.rxOf n).held = none ∧ (s.rxOf n).orphan = 1 ∧ (s.rxOf n).ch.latch = false ∧ (s.rxOf n).ch.gate = .off) ∧
    (∃ n ∈ ([0] : List (Fin 48)), ∃ s ∈ [upd (fun t => { t with rx := [(0, { state := .orphan })] }) []], (s.rxOf n).state =
      .orphan ∧ (s.rxOf n).armedUv = false) :=
  by refine ⟨?_, ?_, ?_, ?_, ?_, ?_, ?_, ?_, ?_, ?_, ?_, ?_, ?_, ?_, ?_, ?_, ?_, ?_, ?_⟩ <;> decide

theorem witness_SatelliteRegistersAndReports :
    (∃ n ∈ ([47] : List (Fin 48)), ∃ s ∈ [upd (fun t => { t with variant := .ax48 }) []], s.quiet = true ∧ s.allUp = true ∧
      s.linkFitted n = false) ∧
    (∃ n ∈ ([0] : List (Fin 48)), ∃ s ∈ [st [(PWM_LEG_CFG_GROUP 0, 0), (PWM_GRP_STAT_STATE 0, 1)]], s.quiet = true ∧ s.allUp =
      true ∧ s.linkFitted n = true ∧ s.legStopped (n.val / 2) = false) ∧
    (∃ n ∈ ([0] : List (Fin 48)), ∃ s ∈ [st []], s.quiet = true ∧ s.allUp = true ∧ s.linkFitted n = true ∧ s.legStopped (n.val /
      2) = true ∧ (125 ≤ bitsOf (0 : Word).toNat 6 7 ∨ bitsOf (0 : Word).toNat 14 6 < 5 ∨ 40 < bitsOf (0 : Word).toNat 14 6)) ∧
    (∃ n ∈ ([47] : List (Fin 48)), ∃ s ∈ [st [(GS_LOCK, 0)]], s.quiet = true ∧ s.allUp = true ∧ s.linkFitted n = true ∧
      s.legStopped (n.val / 2) = true ∧ bitsOf (124 * 64 + 5 * 2 ^ 14 : Word).toNat 6 7 < 125 ∧ 5 ≤ bitsOf (124 * 64 + 5 * 2 ^
      14 : Word).toNat 14 6 ∧ bitsOf (124 * 64 + 5 * 2 ^ 14 : Word).toNat 14 6 ≤ 40 ∧ s.flag GS_LOCK = false) ∧
    (∃ n ∈ ([0] : List (Fin 48)), ∃ s ∈ [st [(GS_LOCK, 1), (GS_LOCK, 1), (GS_CFG_DSAT_TH 0, 0)]], s.quiet = true ∧ s.allUp =
      true ∧ s.linkFitted n = true ∧ s.legStopped (n.val / 2) = true ∧ bitsOf (1 + 5 * 2 ^ 14 : Word).toNat 6 7 < 125 ∧ 5 ≤
      bitsOf (1 + 5 * 2 ^ 14 : Word).toNat 14 6 ∧ bitsOf (1 + 5 * 2 ^ 14 : Word).toNat 14 6 ≤ 40 ∧ s.flag GS_LOCK = true ∧ s.fld
      (GS_CFG_DSAT_TH n) ≠ bitsOf (1 + 5 * 2 ^ 14 : Word).toNat 0 6) ∧
    (∃ n ∈ ([0] : List (Fin 48)), ∃ s ∈ [upd (fun t => { t with lk := [(0, { lost := true, goodUp := 3 })] }) []], s.quiet =
      true ∧ s.allUp = true ∧ s.linkFitted n = true ∧ (s.lkOf n).lost = true ∧ (s.lkOf n).goodUp < 4) ∧
    (∃ n ∈ ([0] : List (Fin 48)), ∃ s ∈ [st []], s.quiet = true ∧ s.allUp = true ∧ s.linkFitted n = true ∧ (s.lkOf n).lost =
      false) ∧
    (∃ k ∈ ([0] : List (Fin 12)), ∃ s ∈ [st []], s.quiet = true ∧ s.allUp = true ∧ s.linkFitted (48 + k.val) = true ∧ (s.lkOf
      (48 + k)).lost = false) ∧
    (∃ k ∈ ([11] : List (Fin 12)), ∃ s ∈ [upd (fun t => { t with variant := .ax24 }) []], s.quiet = true ∧ s.allUp = true ∧
      s.linkFitted (48 + k.val) = false) ∧
    (∃ k ∈ ([0] : List (Fin 12)), ∃ s ∈ [upd (fun t => { t with lk := [(48, { lost := true })] }) []], s.quiet = true ∧ s.allUp
      = true ∧ s.linkFitted (48 + k.val) = true ∧ (s.lkOf (48 + k)).lost = true ∧ (s.lkOf (48 + k)).goodUp < 4) ∧
    (∃ k ∈ ([0] : List (Fin 12)), ∃ s ∈ [upd (fun t => { t with lk := [(48, { clearWait := true })] }) []], s.quiet = true ∧
      s.allUp = true ∧ (s.lkOf (48 + k)).clearWait = true) ∧
    (∃ n ∈ ([0] : List (Fin 48)), ∃ s ∈ [st []], s.quiet = true ∧ s.allUp = true ∧ (s.lkOf n).clearWait = false) ∧
    (∃ n ∈ ([0] : List (Fin 48)), ∃ s ∈ [upd (fun t => { t with lk := [(0, { clearWait := true })] }) []], s.quiet = true ∧
      s.allUp = true ∧ (s.lkOf n).clearWait = true) ∧
    (∃ n ∈ ([0] : List (Fin 48)), ∃ s ∈ [upd (fun t => { t with rx := [(0, { state := .safeOff })] }) []], s.quiet = true ∧
      s.allUp = true ∧ (s.rxOf n).state ≠ .reset) ∧
    (∃ k ∈ ([0] : List (Fin 12)), ∃ s ∈ [upd (fun t => { t with rx := [(48, { state := .run })] }) []], s.quiet = true ∧ s.allUp
      = true ∧ (s.rxOf (48 + k)).state ≠ .reset) ∧
    (∃ n ∈ ([0] : List (Fin 48)), ∃ s ∈ [st []], s.quiet = true ∧ s.allUp = true ∧ (s.rxOf n).state = .reset) ∧
    (∃ n ∈ ([0] : List (Fin 48)), ∃ s ∈ [st []], s.quiet = true ∧ s.allUp = true ∧ (s.sensOf (16 + n.val)).last = none) ∧
    (∃ n ∈ ([0] : List (Fin 48)), ∃ s ∈ [st []], s.quiet = true ∧ s.allUp = true ∧ (s.sensOf (64 + n.val)).last = none) ∧
    (∃ n ∈ ([0] : List (Fin 48)), ∃ v ∈ [5], ∃ s ∈ [upd (fun t => { t with thm := { sens := [(16, { last := some 5 })] } }) []],
      s.quiet = true ∧ s.allUp = true ∧ (s.sensOf (16 + n.val)).last = some v) ∧
    (∃ n ∈ ([0] : List (Fin 48)), ∃ s ∈ [st []], s.quiet = true ∧ s.allUp = true ∧ (s.rxOf n).ch.measuring = false) ∧
    (∃ n ∈ ([0] : List (Fin 48)), ∃ s ∈ [upd (fun t => { t with rx := [(0, { ch := { measuring := true } })] }) []], s.quiet =
      true ∧ s.allUp = true ∧ (s.rxOf n).ch.measuring = true) :=
  by refine ⟨?_, ?_, ?_, ?_, ?_, ?_, ?_, ?_, ?_, ?_, ?_, ?_, ?_, ?_, ?_, ?_, ?_, ?_, ?_, ?_, ?_⟩ <;> decide

theorem witness_ConverterStarts :
    (∃ n ∈ ([0] : List (Fin 32)), ∃ s ∈ [st [(ADC_CTRL_EN n, 0)]], s.quiet = true ∧ s.allUp = true ∧ s.flag (ADC_CTRL_EN n) =
      false) ∧
    (∃ n ∈ ([0] : List (Fin 32)), ∃ s ∈ [st [(ADC_CTRL_EN n, 1), (ADC_STAT_BUSY n, 1)]], s.quiet = true ∧ s.allUp = true ∧
      s.flag (ADC_CTRL_EN n) = true ∧ s.flag (ADC_STAT_BUSY n) = true) ∧
    (∃ n ∈ ([0] : List (Fin 32)), ∃ s ∈ [st [(ADC_CTRL_EN n, 1), (ADC_STAT_BUSY n, 1), (ADC_CTRL_OVR_IE n, 0)]], s.quiet = true
      ∧ s.allUp = true ∧ s.flag (ADC_CTRL_EN n) = true ∧ s.flag (ADC_STAT_BUSY n) = true ∧ s.flag (ADC_CTRL_OVR_IE n) = false) ∧
    (∃ n ∈ ([0] : List (Fin 32)), ∃ s ∈ [st [(ADC_CTRL_EN n, 1), (ADC_STAT_BUSY n, 0), (ADC_CTRL_TRG_MODE n, 2), (ADC_CTRL_EN 0,
      1), (ADC_CTRL_TRG_MODE 0, 2)]], s.quiet = true ∧ s.allUp = true ∧ s.flag (ADC_CTRL_EN n) = true ∧ s.flag (ADC_STAT_BUSY n)
      = false ∧ s.fld (ADC_CTRL_TRG_MODE n) = 2) ∧
    (∃ n ∈ ([0] : List (Fin 32)), ∃ s ∈ [st [(ADC_CTRL_TRG_MODE n, 2)]], s.quiet = true ∧ s.allUp = true ∧ s.fld
      (ADC_CTRL_TRG_MODE n) ≠ 1) ∧
    (∃ n ∈ ([0] : List (Fin 32)), ∃ s ∈ [st [(ADC_CTRL_EN n, 1), (ADC_STAT_BUSY n, 0), (ADC_CTRL_TRG_MODE n, 3),
      (ADC_STAT_URG_BUSY n, 1)]], s.quiet = true ∧ s.allUp = true ∧ s.flag (ADC_CTRL_EN n) = true ∧ s.flag (ADC_STAT_BUSY n) =
      false ∧ s.fld (ADC_CTRL_TRG_MODE n) ≠ 2 ∧ s.flag (ADC_STAT_URG_BUSY n) = true ∧ (s.adcOf n).wait = false) ∧
    (∃ n ∈ ([0] : List (Fin 32)), ∃ s ∈ [st [(ADC_CTRL_EN n, 1), (ADC_STAT_BUSY n, 0), (ADC_STAT_URG_BUSY n, 0),
      (ADC_CTRL_TRG_MODE n, 1)]], s.quiet = true ∧ s.allUp = true ∧ s.flag (ADC_CTRL_EN n) = true ∧ s.flag (ADC_STAT_BUSY n) =
      false ∧ s.flag (ADC_STAT_URG_BUSY n) = false ∧ s.fld (ADC_CTRL_TRG_MODE n) = 1) ∧
    (∃ n ∈ ([0] : List (Fin 32)), ∃ s ∈ [st [(ADC_CTRL_EN n, 1), (ADC_STAT_URG_BUSY n, 0), (ADC_STAT_BUSY n, 1),
      (ADC_CTRL_URG_EVT_EN n, 1)]], s.quiet = true ∧ s.allUp = true ∧ s.flag (ADC_CTRL_EN n) = true ∧ s.flag (ADC_STAT_URG_BUSY
      n) = false ∧ s.flag (ADC_STAT_BUSY n) = true ∧ (s.adcOf n).aborts < 4 ∧ s.flag (ADC_CTRL_URG_EVT_EN n) = true) ∧
    (∃ n ∈ ([0] : List (Fin 32)), ∃ s ∈ [st [(ADC_CTRL_EN n, 1), (ADC_STAT_URG_BUSY n, 1), (ADC_STAT_URG_PEND n, 0)]], s.quiet =
      true ∧ s.allUp = true ∧ s.flag (ADC_CTRL_EN n) = true ∧ s.flag (ADC_STAT_URG_BUSY n) = true ∧ s.flag (ADC_STAT_URG_PEND n)
      = false) ∧
    (∃ n ∈ ([0] : List (Fin 32)), ∃ s ∈ [st [(ADC_CTRL_EN n, 1), (ADC_STAT_URG_BUSY n, 1), (ADC_STAT_URG_PEND n, 1)]], s.quiet =
      true ∧ s.allUp = true ∧ s.flag (ADC_CTRL_EN n) = true ∧ s.flag (ADC_STAT_URG_BUSY n) = true ∧ s.flag (ADC_STAT_URG_PEND n)
      = true) ∧
    (∃ s ∈ [st []], s.quiet = true ∧ s.allUp = true ∧ bitsOf (6 : Word).toNat 1 2 = 3) ∧
    (∃ s ∈ [st [(ADC_LOCK, 0)]], s.quiet = true ∧ s.allUp = true ∧ s.flag ADC_LOCK = false ∧ bitsOf (0 : Word).toNat 1 2 ≠ 3 ∧
      bitsOf (0 : Word).toNat 3 7 < 104 ∧ bitsOf (0 : Word).toNat 14 7 < 104 ∧ bitsOf (0 : Word).toNat 22 4 < 12) :=
  by refine ⟨?_, ?_, ?_, ?_, ?_, ?_, ?_, ?_, ?_, ?_, ?_, ?_⟩ <;> decide

theorem witness_ConversionResults :
    (∃ n ∈ ([31] : List (Fin 32)), ∃ e ∈ ([15] : List (Nat)), ∃ c ∈ ([{ input := 0 }] : List (EntryCfg)), ∃ s ∈ [upd (fun t =>
      { t with adc := [(31, { seq := List.replicate 16 {} })] }) [(ADC_STAT_URG_BUSY n, 0), (ADC_STAT_BUSY n, 1), (ADC_CTRL_EN
      n, 1), (ADC_STAT_ENTRY n, e), (ADC_STAT_URG_PEND n, 0), (ADC_STAT_ENTRY 31, 15)]], s.quiet = true ∧ e < 16 ∧ s.flag
      (ADC_STAT_URG_BUSY n) = false ∧ s.flag (ADC_STAT_BUSY n) = true ∧ s.flag (ADC_CTRL_EN n) = true ∧ s.fld (ADC_STAT_ENTRY n)
      = e ∧ (s.adcOf n).seq[e]? = some c ∧ c.input ≠ 5 ∧ c.engine < 32 ∧ c.addr < 4095 ∧ s.flag (ADC_STAT_URG_PEND n) = false ∧
      (s.adcOf n).cut = false) ∧
    (∃ n ∈ ([0] : List (Fin 32)), ∃ s ∈ [st [(ADC_STAT_URG_BUSY n, 0), (ADC_STAT_BUSY n, 0)]], s.quiet = true ∧ s.flag
      (ADC_STAT_URG_BUSY n) = false ∧ s.flag (ADC_STAT_BUSY n) = false) ∧
    (∃ n ∈ ([0] : List (Fin 32)), ∃ s ∈ [st [(ADC_STAT_URG_BUSY n, 0), (ADC_STAT_BUSY n, 1), (ADC_CTRL_EN n, 0), (ADC_STAT_BUSY
      0, 1)]], s.quiet = true ∧ s.flag (ADC_STAT_URG_BUSY n) = false ∧ s.flag (ADC_STAT_BUSY n) = true ∧ s.flag (ADC_CTRL_EN n)
      = false) ∧
    (∃ n ∈ ([0] : List (Fin 32)), ∃ s ∈ [st [(ADC_CMP_CFG_EN n, 1), (ADC_CMP_CFG_WATCH n, 1)]], s.quiet = true ∧ s.flag
      (ADC_CMP_CFG_EN n) = true ∧ s.fld (ADC_CMP_CFG_WATCH n) ≠ 0) ∧
    (∃ n ∈ ([0] : List (Fin 32)), ∃ s ∈ [st [(ADC_CMP_CFG_EN n, 0)]], s.quiet = true ∧ s.flag (ADC_CMP_CFG_EN n) = false) ∧
    (∃ k ∈ ([0] : List (Fin 24)), ∃ s ∈ [st []], s.quiet = true ∧ outputDue s k = false) ∧
    (∃ k ∈ ([0] : List (Fin 24)), ∃ s ∈ [st [(MOD_CFG_EN k, 0)]], s.quiet = true ∧ s.flag (MOD_CFG_EN k) = false) ∧
    (∃ k ∈ ([0] : List (Fin 24)), ∃ s ∈ [upd (fun t => { t with timeRuns := true, mtime := 256 }) [(MOD_DST_DEN k, 0),
      (MOD_CFG_EN 0, 1), (MOD_CFG_DM1 0, 15), (MOD_MCLK_EN 0, 1), (MOD_MCLK_MDIV 0, 16)]], s.quiet = true ∧ outputDue s k = true
      ∧ s.fld (MOD_CFG_DM1 k) + 1 = 2 ^ (4 : Nat) ∧ s.flag (MOD_DST_DEN k) = false ∧ ((sincOutput (s.moduOf k) ((List.range (2 ^
      (4 : Nat))).map fun i => (if s.flag (MOD_CFG_EDGE k) then (0 : BitVec 256).toNat else (0 : BitVec 256).toNat).testBit
      i)).2) = (sincOutput (s.moduOf k) ((List.range (2 ^ (4 : Nat))).map fun i => (if s.flag (MOD_CFG_EDGE k) then (0 : BitVec
      256).toNat else (0 : BitVec 256).toNat).testBit i)).2) ∧
    (∃ k ∈ ([0] : List (Fin 24)), ∃ s ∈ [st [(MOD_CFG_EN k, 1), (MOD_STAT_STUCK k, 0)]], s.quiet = true ∧ s.flag (MOD_CFG_EN k)
      = true ∧ s.flag (MOD_STAT_STUCK k) = false) ∧
    (∃ s ∈ [st []], s.quiet = true ∧ s.allUp = true) :=
  by refine ⟨?_, ?_, ?_, ?_, ?_, ?_, ?_, ?_, ?_, ?_⟩ <;> decide

theorem witness_FeedbackCounts :
    (∃ n ∈ ([0] : List (Fin 8)), ∃ s ∈ [st []], s.quiet = true ∧ s.allUp = true ∧ fbOn s n = false) ∧
    (∃ n ∈ ([0] : List (Fin 8)), ∃ a ∈ ([false] : List (Bool)), ∃ b ∈ ([true] : List (Bool)), ∃ c ∈ [Int.negSucc 0], ∃ s ∈ [st
      [(FB_CFG_EN n, 1), (FB_CFG_MODE n, 0)]], s.quiet = true ∧ s.allUp = true ∧ fbOn s n = true ∧ fbMode s n = 0 ∧ quadCount
      (s.fld (FB_CFG_QMODE n)) (s.fbOf n).a (s.fbOf n).b a b = some c) ∧
    (∃ n ∈ ([0] : List (Fin 8)), ∃ a ∈ ([true] : List (Bool)), ∃ b ∈ ([true] : List (Bool)), ∃ s ∈ [st [(FB_CFG_EN n, 1),
      (FB_CFG_MODE n, 0)]], s.quiet = true ∧ s.allUp = true ∧ fbOn s n = true ∧ fbMode s n = 0 ∧ quadCount (s.fld (FB_CFG_QMODE
      n)) (s.fbOf n).a (s.fbOf n).b a b = none) ∧
    (∃ n ∈ ([0] : List (Fin 8)), ∃ s ∈ [st [(FB_CFG_EN n, 1), (FB_CFG_MODE n, 1)]], s.quiet = true ∧ s.allUp = true ∧ fbOn s n =
      true ∧ fbMode s n = 1 ∧ ((0 : BitVec 3) = 0 ∨ (0 : BitVec 3) = 7)) ∧
    (∃ n ∈ ([0] : List (Fin 8)), ∃ s ∈ [upd (fun t => { t with fb := [(0, { hallLost := false, hall := 1 })] }) [(FB_CFG_EN n,
      1), (FB_CFG_MODE n, 1), (FB_CFG_REV n, 0)]], s.quiet = true ∧ s.allUp = true ∧ fbOn s n = true ∧ fbMode s n = 1 ∧ (s.fbOf
      n).hallLost = false ∧ (s.fbOf n).hall = 1 ∧ (3 : BitVec 3) = 3 ∧ s.flag (FB_CFG_REV n) = false) ∧
    (∃ n ∈ ([0] : List (Fin 8)), ∃ s ∈ [st [(FB_CFG_EN n, 1), (FB_CFG_MODE n, 0), (FB_CFG_IDX_MODE n, 1), (FB_CFG_EN 0, 1),
      (FB_CFG_IDX_MODE 0, 1)]], s.quiet = true ∧ s.allUp = true ∧ fbOn s n = true ∧ fbMode s n = 0 ∧ indexQualified s n = true ∧
      (s.fld (FB_CFG_IDX_MODE n) = 1 ∨ (s.fld (FB_CFG_IDX_MODE n) = 2 ∧ s.flag (FB_STAT_ARMED n) = true ∧ (s.fbOf n).armAt <
      s.mtime))) ∧
    (∃ n ∈ ([0] : List (Fin 8)), ∃ s ∈ [st [(FB_CFG_EN n, 1), (FB_CFG_MODE n, 0), (FB_CFG_IDX_MODE n, 2), (FB_STAT_ARMED n,
      0)]], s.quiet = true ∧ s.allUp = true ∧ fbOn s n = true ∧ fbMode s n = 0 ∧ indexQualified s n = true ∧ s.fld
      (FB_CFG_IDX_MODE n) = 2 ∧ (s.flag (FB_STAT_ARMED n) = false ∨ s.mtime ≤ (s.fbOf n).armAt)) ∧
    (∃ s ∈ [st []], s.quiet = true ∧ s.allUp = true) ∧
    (∃ n ∈ ([0] : List (Fin 8)), ∃ s ∈ [st []], s.quiet = true ∧ s.allUp = true ∧ fbMode s n < 2) ∧
    (∃ n ∈ ([0] : List (Fin 8)), ∃ s ∈ [st [(FB_CFG_EN n, 1), (FB_LAT_CFG_LAT_EVT_EN n, 1)]], s.quiet = true ∧ s.allUp = true ∧
      fbOn s n = true ∧ s.flag (FB_LAT_CFG_LAT_EVT_EN n) = true) ∧
    (∃ n ∈ ([0] : List (Fin 8)), ∃ s ∈ [st [(FB_CFG_EN n, 1), (FB_LAT_CFG_LAT_EDGE n, 1)]], s.quiet = true ∧ s.allUp = true ∧
      fbOn s n = true ∧ s.fld (FB_LAT_CFG_LAT_EDGE n) = 1) ∧
    (∃ n ∈ ([0] : List (Fin 8)), ∃ s ∈ [st [(FB_CFG_EN n, 1)]], s.quiet = true ∧ s.allUp = true ∧ fbOn s n = true ∧ fbMode s n <
      3) ∧
    (∃ n ∈ ([0] : List (Fin 8)), ∃ s ∈ [st [(FB_LOCK, 0), (FB_CFG_EN n, 1)]], s.quiet = true ∧ s.allUp = true ∧ s.flag FB_LOCK =
      false ∧ fbOn s n = true ∧ bitsOf (0 : Word).toNat 1 2 = fbMode s n ∧ bitsOf (0 : Word).toNat 3 2 = s.fld (FB_CFG_QMODE n)
      ∧ bitsOf (0 : Word).toNat 9 5 = 0 ∧ bitsOf (0 : Word).toNat 14 4 < 12) ∧
    (∃ n ∈ ([0] : List (Fin 8)), ∃ s ∈ [st [(FB_LOCK, 0)]], s.quiet = true ∧ s.allUp = true ∧ s.flag FB_LOCK = false ∧ fbOn s n
      = false ∧ bitsOf (0 : Word).toNat 1 2 = 0 ∧ bitsOf (0 : Word).toNat 9 5 = 0 ∧ bitsOf (0 : Word).toNat 14 4 < 12) :=
  by refine ⟨?_, ?_, ?_, ?_, ?_, ?_, ?_, ?_, ?_, ?_, ?_, ?_, ?_, ?_⟩ <;> decide

theorem witness_FeedbackFramesAndSlots :
    (∃ n ∈ ([0] : List (Fin 8)), ∃ s ∈ [upd (fun t => { t with fb := [(0, { ssiBusy := true })] }) [(FB_CFG_EN n, 1),
      (FB_CFG_MODE n, 2), (FB_SSI2_SSI_EVT_EN n, 1)]], s.quiet = true ∧ fbOn s n = true ∧ fbMode s n = 2 ∧ s.flag
      (FB_SSI2_SSI_EVT_EN n) = true ∧ (s.fbOf n).ssiBusy = true) ∧
    (∃ n ∈ ([0] : List (Fin 8)), ∃ s ∈ [st [(FB_CFG_EN n, 1), (FB_CFG_MODE n, 2), (FB_SSI2_SSI_EVT_EN n, 1)]], s.quiet = true ∧
      fbOn s n = true ∧ fbMode s n = 2 ∧ s.flag (FB_SSI2_SSI_EVT_EN n) = true ∧ (s.fbOf n).ssiBusy = false ∧ (s.fbOf n).ssiFree
      ≤ s.mtime) ∧
    (∃ n ∈ ([0] : List (Fin 8)), ∃ s ∈ [st []], s.quiet = true ∧ (fbOn s n = false ∨ fbMode s n ≠ 2)) ∧
    (∃ n ∈ ([0] : List (Fin 8)), ∃ s ∈ [st []], s.quiet = true ∧ (s.fbOf n).ssiBusy = false) ∧
    (∃ n ∈ ([0] : List (Fin 8)), ∃ s ∈ [upd (fun t => { t with fb := [(0, { ssiBusy := true })] }) [(FB_CFG_REV n, 0),
      (FB_SSI_GRAY n, 0)]], s.quiet = true ∧ (s.fbOf n).ssiBusy = true ∧ s.flag (FB_CFG_REV n) = false ∧ s.flag (FB_SSI_GRAY n)
      = false) ∧
    (∃ n ∈ ([0] : List (Fin 8)), ∃ s ∈ [upd (fun t => { t with fb := [(0, { ssiBusy := true, ssiBad := 2 })] }) []], s.quiet =
      true ∧ (s.fbOf n).ssiBusy = true ∧ 2 ≤ (s.fbOf n).ssiBad) ∧
    (∃ n ∈ ([0] : List (Fin 8)), ∃ s ∈ [st [(FB_CFG_EN n, 1), (FB_CFG_MODE n, 3), (FB_EXC_PER 0, 20000), (FB_RSL2_PK_DLY 0,
      0)]], s.quiet = true ∧ fbOn s n = true ∧ fbMode s n = 3 ∧ requestDue s n = true) ∧
    (∃ n ∈ ([0] : List (Fin 8)), ∃ s ∈ [st []], s.quiet = true ∧ (fbOn s n = false ∨ fbMode s n ≠ 3 ∨ requestDue s n = false)) ∧
    (∃ n ∈ ([0] : List (Fin 8)), ∃ s ∈ [st []], s.quiet = true ∧ (s.fbOf n).req = none) ∧
    (∃ n ∈ ([0] : List (Fin 8)), ∃ r ∈ ([0] : List (Nat)), ∃ s ∈ [upd (fun t =>
      { t with fb := [(0, { req := some 0 })], mtime := 900 }) [(FB_CFG_EN n, 1), (FB_CFG_MODE n, 3), (ADC_URG_CFG_ZERO 0, 0),
      (RES_TLO_T_LO (adcMirror 0 16), 801)]], s.quiet = true ∧ fbOn s n = true ∧ fbMode s n = 3 ∧ (s.fbOf n).req = some r ∧
      urgentDone s (s.fld (FB_RSL_SIN_ADC n)) r = true ∧ urgentDone s (s.fld (FB_RSL_COS_ADC n)) r = true ∧ (max (mirrorTime s
      (adcMirror (s.fld (FB_RSL_SIN_ADC n)) 16)) (mirrorTime s (adcMirror (s.fld (FB_RSL_COS_ADC n)) 16))) = max (mirrorTime s
      (adcMirror (s.fld (FB_RSL_SIN_ADC n)) 16)) (mirrorTime s (adcMirror (s.fld (FB_RSL_COS_ADC n)) 16)) ∧ ((s.fld (RES_RAW
      (adcMirror (s.fld (FB_RSL_SIN_ADC n)) 16)) : Int) - s.fld (ADC_URG_CFG_ZERO (s.fld (FB_RSL_SIN_ADC n)))) = (s.fld (RES_RAW
      (adcMirror (s.fld (FB_RSL_SIN_ADC n)) 16)) : Int) - s.fld (ADC_URG_CFG_ZERO (s.fld (FB_RSL_SIN_ADC n))) ∧ ((s.fld (RES_RAW
      (adcMirror (s.fld (FB_RSL_COS_ADC n)) 16)) : Int) - s.fld (ADC_URG_CFG_ZERO (s.fld (FB_RSL_COS_ADC n)))) = (s.fld (RES_RAW
      (adcMirror (s.fld (FB_RSL_COS_ADC n)) 16)) : Int) - s.fld (ADC_URG_CFG_ZERO (s.fld (FB_RSL_COS_ADC n))) ∧ ((s.fld
      (FB_RSL2_AMP_NOM n) : Int)) = (s.fld (FB_RSL2_AMP_NOM n) : Int) ∧ r + 800 < (max (mirrorTime s (adcMirror (s.fld
      (FB_RSL_SIN_ADC n)) 16)) (mirrorTime s (adcMirror (s.fld (FB_RSL_COS_ADC n)) 16)))) ∧
    (∃ n ∈ ([0] : List (Fin 8)), ∃ r ∈ ([0] : List (Nat)), ∃ s ∈ [upd (fun t =>
      { t with fb := [(0, { req := some 0 })], mtime := 900 }) [(FB_CFG_EN n, 1), (FB_CFG_MODE n, 3), (ADC_URG_CFG_ZERO 0, 0),
      (RES_TLO_T_LO (adcMirror 0 16), 800)]], s.quiet = true ∧ fbOn s n = true ∧ fbMode s n = 3 ∧ (s.fbOf n).req = some r ∧
      urgentDone s (s.fld (FB_RSL_SIN_ADC n)) r = true ∧ urgentDone s (s.fld (FB_RSL_COS_ADC n)) r = true ∧ (max (mirrorTime s
      (adcMirror (s.fld (FB_RSL_SIN_ADC n)) 16)) (mirrorTime s (adcMirror (s.fld (FB_RSL_COS_ADC n)) 16))) = max (mirrorTime s
      (adcMirror (s.fld (FB_RSL_SIN_ADC n)) 16)) (mirrorTime s (adcMirror (s.fld (FB_RSL_COS_ADC n)) 16)) ∧ ((s.fld (RES_RAW
      (adcMirror (s.fld (FB_RSL_SIN_ADC n)) 16)) : Int) - s.fld (ADC_URG_CFG_ZERO (s.fld (FB_RSL_SIN_ADC n)))) = (s.fld (RES_RAW
      (adcMirror (s.fld (FB_RSL_SIN_ADC n)) 16)) : Int) - s.fld (ADC_URG_CFG_ZERO (s.fld (FB_RSL_SIN_ADC n))) ∧ ((s.fld (RES_RAW
      (adcMirror (s.fld (FB_RSL_COS_ADC n)) 16)) : Int) - s.fld (ADC_URG_CFG_ZERO (s.fld (FB_RSL_COS_ADC n)))) = (s.fld (RES_RAW
      (adcMirror (s.fld (FB_RSL_COS_ADC n)) 16)) : Int) - s.fld (ADC_URG_CFG_ZERO (s.fld (FB_RSL_COS_ADC n))) ∧ ((s.fld
      (FB_RSL2_AMP_NOM n) : Int)) = (s.fld (FB_RSL2_AMP_NOM n) : Int) ∧ (max (mirrorTime s (adcMirror (s.fld (FB_RSL_SIN_ADC n))
      16)) (mirrorTime s (adcMirror (s.fld (FB_RSL_COS_ADC n)) 16))) ≤ r + 800) ∧
    (∃ n ∈ ([0] : List (Fin 8)), ∃ s ∈ [st []], s.quiet = true ∧ (fbOn s n = false ∨ s.flag (FB_SLOT_SLOT_EN n) = false)) ∧
    (∃ n ∈ ([0] : List (Fin 8)), ∃ s ∈ [st [(FB_CFG_EN n, 1), (FB_SLOT_SLOT_EN n, 1)]], s.quiet = true ∧ fbOn s n = true ∧
      s.flag (FB_SLOT_SLOT_EN n) = true ∧ (bitsOf (s.fld (FB_SLOT_DST n)) 1 5) = bitsOf (s.fld (FB_SLOT_DST n)) 1 5 ∧ (bitsOf
      (s.fld (FB_SLOT_DST n)) 6 12) = bitsOf (s.fld (FB_SLOT_DST n)) 6 12) ∧
    (∃ s ∈ [st []], s.quiet = true ∧ s.allUp = true) ∧
    (∃ m ∈ ([0] : List (Fin 4)), ∃ s ∈ [st [(FB_EMU_CFG_EN m, 0)]], s.quiet = true ∧ s.flag (FB_EMU_CFG_EN m) = false) ∧
    (∃ m ∈ ([0] : List (Fin 4)), ∃ s ∈ [st [(FB_EMU_CFG_EN m, 1)]], s.quiet = true ∧ s.flag (FB_EMU_CFG_EN m) = true ∧ s.flag
      (FB_STAT_POS_VALID (s.fld (FB_EMU_CFG_SRC m))) = false) ∧
    (∃ m ∈ ([0] : List (Fin 4)), ∃ s ∈ [upd (fun t => { t with emu := [(0, { valid := true })] }) [(FB_EMU_CFG_EN m, 1),
      (FB_STAT_POS_VALID 0, 1), (FB_EMU_CFG_LINES 0, 1), (FB_CPR 0, 4), (FB_CNT 0, 1)]], s.quiet = true ∧ s.flag (FB_EMU_CFG_EN
      m) = true ∧ s.flag (FB_STAT_POS_VALID (s.fld (FB_EMU_CFG_SRC m))) = true ∧ (s.emuOf m).valid = true ∧ 0 < edgesTo (4 *
      s.fld (FB_EMU_CFG_LINES m)) (s.emuOf m).count (emuTarget s m) ∧ ((∀ last, (s.emuOf m).last = some last → last + 40 ≤
      s.mtime))) :=
  by refine ⟨?_, ?_, ?_, ?_, ?_, ?_, ?_, ?_, ?_, ?_, ?_, ?_, ?_, ?_, ?_, ?_, ?_⟩ <;> decide

theorem witness_EngineStates :
    (∃ e ∈ ([0] : List (Fin 32)), ∃ s ∈ [st [(LE_STAT_STATE e, 1)]], s.quiet = true ∧ s.allUp = true ∧ bankShut s (0x40014000 +
      0x20000 * e.val) = false ∧ s.fld (LE_STAT_STATE e) ≠ 0) ∧
    (∃ e ∈ ([0] : List (Fin 32)), ∃ s ∈ [st [(LE_STAT_STATE e, 0)]], s.quiet = true ∧ s.allUp = true ∧ bankShut s (0x40014000 +
      0x20000 * e.val) = false ∧ s.fld (LE_STAT_STATE e) = 0 ∧ (s.fld PWR_RET_LOST_LO_BANKS).testBit (24 + e.val / 4) = false) ∧
    (∃ e ∈ ([0] : List (Fin 32)), ∃ s ∈ [st [(LE_STAT_STATE e, 0)]], s.quiet = true ∧ s.allUp = true ∧ bankShut s (0x40014000 +
      0x20000 * e.val) = false ∧ s.fld (LE_STAT_STATE e) = 0) ∧
    (∃ e ∈ ([0] : List (Fin 32)), ∃ s ∈ [st [(LE_STAT_STATE e, 3)]], s.quiet = true ∧ s.allUp = true ∧ bankShut s (0x40014000 +
      0x20000 * e.val) = false ∧ s.fld (LE_STAT_STATE e) = 3) ∧
    (∃ e ∈ ([0] : List (Fin 32)), ∃ s ∈ [st [(LE_STAT_STATE e, 2)]], s.quiet = true ∧ s.allUp = true ∧ bankShut s (0x40014000 +
      0x20000 * e.val) = false ∧ s.fld (LE_STAT_STATE e) ≠ 1) ∧
    (∃ e ∈ ([0] : List (Fin 32)), ∃ s ∈ [st [(LE_STAT_STATE e, 1)]], s.quiet = true ∧ s.allUp = true ∧ bankShut s (0x40014000 +
      0x20000 * e.val) = false ∧ s.fld (LE_STAT_STATE e) = 1 ∧ (checkProg (progOf s e)).code ≠ 0) ∧
    (∃ e ∈ ([0] : List (Fin 32)), ∃ s ∈ [upd (fun t =>
      { t with words := [(progAddr 0 0, 0x4C5010009), (progAddr 0 1, 8 + 2 ^ 12), (progAddr 0 3, 2 ^ 16), (progAddr 0 4, 2 ^ 32), (progAddr 0 5, 2785454898), (progAddr 0 8, 0x27 * 2 ^ 30), (progAddr 1 3, 2 ^ 16)] })
      [(LE_STAT_STATE e, 1), (LE_STAT_STATE 0, 1), (LE_STAT_STATE 1, 3)]], s.quiet = true ∧ s.allUp = true ∧ bankShut s
      (0x40014000 + 0x20000 * e.val) = false ∧ s.fld (LE_STAT_STATE e) = 1 ∧ (checkProg (progOf s e)).code = 0 ∧ groupOwned s e
      (progOf s e).mask = true) ∧
    (∃ e ∈ ([0] : List (Fin 32)), ∃ s ∈ [upd (fun t =>
      { t with words := [(progAddr 0 0, 0x4C5010009), (progAddr 0 1, 8 + 2 ^ 12), (progAddr 0 4, 2 ^ 32), (progAddr 0 5, 2785454898), (progAddr 0 8, 0x27 * 2 ^ 30)] })
      [(LE_STAT_STATE e, 1)]], s.quiet = true ∧ s.allUp = true ∧ bankShut s (0x40014000 + 0x20000 * e.val) = false ∧ s.fld
      (LE_STAT_STATE e) = 1 ∧ (checkProg (progOf s e)).code = 0 ∧ groupOwned s e (progOf s e).mask = false) ∧
    (∃ e ∈ ([0] : List (Fin 32)), ∃ s ∈ [st [(LE_STAT_STATE e, 3), (LE_STAT_STATE e, 4)]], s.quiet = true ∧ s.allUp = true ∧
      bankShut s (0x40014000 + 0x20000 * e.val) = false ∧ s.fld (LE_STAT_STATE e) ≠ 2 ∧ s.fld (LE_STAT_STATE e) ≠ 3) ∧
    (∃ e ∈ ([0] : List (Fin 32)), ∃ ev ∈ ([0] : List (Fin 104)), ∃ s ∈ [st []], s.quiet = true ∧ s.allUp = true ∧ bankShut s
      (0x40014000 + 0x20000 * e.val) = false ∧ trigA s e (setBit (0 : BitVec 104).toNat ev) = false ∧ trigB s e (setBit (0 :
      BitVec 104).toNat ev) = false) ∧
    (∃ e ∈ ([0] : List (Fin 32)), ∃ ev ∈ ([1] : List (Fin 104)), ∃ s ∈ [st [(LE_STAT_STATE e, 2), (LE_STAT_STATE 0, 2),
      (LE_CFG_TRGB_EN 0, 1), (LE_CFG_TRGB_EVT 0, 1)]], s.quiet = true ∧ s.allUp = true ∧ bankShut s (0x40014000 + 0x20000 *
      e.val) = false ∧ s.fld (LE_STAT_STATE e) = 2 ∧ libId s e = none ∧ trigA s e (setBit (0 : BitVec 104).toNat ev) = false ∧
      trigB s e (setBit (0 : BitVec 104).toNat ev) = true) ∧
    (∃ e ∈ ([0] : List (Fin 32)), ∃ ev ∈ ([0] : List (Fin 104)), ∃ s ∈ [st [(LE_STAT_STATE e, 2), (LE_STAT_STATE 0, 2),
      (LE_CFG_TRGA_EN 0, 1)]], s.quiet = true ∧ s.allUp = true ∧ bankShut s (0x40014000 + 0x20000 * e.val) = false ∧ s.fld
      (LE_STAT_STATE e) = 2 ∧ libId s e = none ∧ trigA s e (setBit (0 : BitVec 104).toNat ev) = true) ∧
    (∃ e ∈ ([0] : List (Fin 32)), ∃ ev ∈ ([0] : List (Fin 104)), ∃ s ∈ [st [(LE_STAT_STATE e, 3), (LE_STAT_STATE 0, 3),
      (LE_CFG_TRGA_EN 0, 1)]], s.quiet = true ∧ s.allUp = true ∧ bankShut s (0x40014000 + 0x20000 * e.val) = false ∧ s.fld
      (LE_STAT_STATE e) = 3 ∧ libId s e = none ∧ trigA s e (setBit (0 : BitVec 104).toNat ev) = true ∧ (s.engOf e).disarm =
      false ∧ s.fld (LE_STAT_ORUN_SEQ e) < 2) ∧
    (∃ e ∈ ([0] : List (Fin 32)), ∃ ev ∈ ([0] : List (Fin 104)), ∃ s ∈ [upd (fun t =>
      { t with words := [(progAddr 0 4, 2 ^ 32 + 1)] }) [(LE_STAT_STATE e, 2), (LE_STAT_STATE 0, 2), (LE_CFG_TRGA_EN 0, 1)]],
      s.quiet = true ∧ s.allUp = true ∧ bankShut s (0x40014000 + 0x20000 * e.val) = false ∧ s.fld (LE_STAT_STATE e) = 2 ∧ libId
      s e = some 1 ∧ trigA s e (setBit (0 : BitVec 104).toNat ev) = true ∧ (1 = 1 ∨ 1 = 2)) ∧
    (∃ e ∈ ([0] : List (Fin 32)), ∃ s ∈ [upd (fun t => { t with words := [(progAddr 0 4, 2 ^ 32 + 1)] }) []], s.quiet = true ∧
      s.allUp = true ∧ bankShut s (0x40014000 + 0x20000 * e.val) = false ∧ libId s e = some 1) ∧
    (∃ e ∈ ([0] : List (Fin 32)), ∃ s ∈ [upd (fun t => { t with words := [(progAddr 0 4, 2 ^ 32 + 1)] }) [(LE_STAT_STATE e, 3),
      (LE_STAT_STATE 0, 3)]], s.quiet = true ∧ s.allUp = true ∧ bankShut s (0x40014000 + 0x20000 * e.val) = false ∧ libId s e =
      some 1 ∧ s.fld (LE_STAT_STATE e) = 3 ∧ (s.engOf e).disarm = false) ∧
    (∃ e ∈ ([0] : List (Fin 32)), ∃ s ∈ [upd (fun t => { t with words := [(progAddr 0 0, 0)], eng := [(0, { budget := 64 })] })
      [(LE_STAT_STATE e, 3), (LE_STAT_STATE 0, 3)]], s.quiet = true ∧ s.allUp = true ∧ bankShut s (0x40014000 + 0x20000 * e.val)
      = false ∧ s.fld (LE_STAT_STATE e) = 3 ∧ budgetOut s e = false) ∧
    (∃ e ∈ ([0] : List (Fin 32)), ∃ s ∈ [st [(LE_STAT_STATE e, 3), (LE_STAT_STATE 0, 3)]], s.quiet = true ∧ s.allUp = true ∧
      bankShut s (0x40014000 + 0x20000 * e.val) = false ∧ s.fld (LE_STAT_STATE e) = 3 ∧ libId s e = none ∧ budgetOut s e = true
      ∧ (s.engOf e).disarm = false ∧ s.fld (LE_STAT_ORUN_SEQ e) < 2) ∧
    (∃ e ∈ ([0] : List (Fin 32)), ∃ s ∈ [upd (fun t => { t with words := [(progAddr 0 0, 0)], eng := [(0, { budget := 64 })] })
      [(LE_STAT_STATE 0, 3)]], s.quiet = true ∧ s.allUp = true ∧ bankShut s (0x40014000 + 0x20000 * e.val) = false ∧ (s.fld
      (LE_STAT_STATE e) = 3 ∧ libId s e = none ∧ budgetOut s e = false ∧ leDecode (s.word (progAddr e (s.engOf e).pc)).toNat =
      some .nop)) :=
  by refine ⟨?_, ?_, ?_, ?_, ?_, ?_, ?_, ?_, ?_, ?_, ?_, ?_, ?_, ?_, ?_, ?_, ?_, ?_, ?_⟩ <;> decide +kernel

theorem witness_EngineMantissaInstructions :
    (∃ e ∈ ([0] : List (Fin 32)), ∃ d ∈ ([15] : List (Nat)), ∃ x ∈ ([(.dir 4095)] : List (LeMem)), ∃ s ∈ [upd (fun t =>
      { t with words := [(progAddr 0 0, 0x7c000fff)], eng := [(0, { budget := 64 })] }) [(LE_STAT_STATE 0, 3)]], s.quiet = true
      ∧ (s.fld (LE_STAT_STATE e) = 3 ∧ libId s e = none ∧ budgetOut s e = false ∧ leDecode (s.word (progAddr e (s.engOf
      e).pc)).toNat = some (.ld d x))) ∧
    (∃ e ∈ ([0] : List (Fin 32)), ∃ d ∈ ([14] : List (Nat)), ∃ x ∈ ([(.dir 4094)] : List (LeMem)), ∃ s ∈ [upd (fun t =>
      { t with words := [(progAddr 0 0, 0xb8000ffe)], eng := [(0, { budget := 64 })] }) [(LE_STAT_STATE 0, 3)]], s.quiet = true
      ∧ (s.fld (LE_STAT_STATE e) = 3 ∧ libId s e = none ∧ budgetOut s e = false ∧ leDecode (s.word (progAddr e (s.engOf
      e).pc)).toNat = some (.lds d x))) ∧
    (∃ e ∈ ([0] : List (Fin 32)), ∃ d ∈ ([15] : List (Nat)), ∃ x ∈ ([(.dir 1023)] : List (LeMem)), ∃ s ∈ [upd (fun t =>
      { t with words := [(progAddr 0 0, 0xfc0003ff)], eng := [(0, { budget := 64 })] }) [(LE_STAT_STATE 0, 3)]], s.quiet = true
      ∧ (s.fld (LE_STAT_STATE e) = 3 ∧ libId s e = none ∧ budgetOut s e = false ∧ leDecode (s.word (progAddr e (s.engOf
      e).pc)).toNat = some (.ldc d x))) ∧
    (∃ e ∈ ([0] : List (Fin 32)), ∃ d ∈ ([15] : List (Nat)), ∃ n ∈ ([7] : List (Nat)), ∃ x ∈ ([(.dir 5)] : List (LeMem)), ∃ s ∈
      [upd (fun t =>
      { t with words := [(progAddr 0 0, 0x13dc00005)], eng := [(0, { budget := 64, tbl := [(7, 2 ^ 25 + 3 * 2 ^ 19)] })] })
      [(LE_STAT_STATE 0, 3)]], s.quiet = true ∧ (s.fld (LE_STAT_STATE e) = 3 ∧ libId s e = none ∧ budgetOut s e = false ∧
      leDecode (s.word (progAddr e (s.engOf e).pc)).toNat = some (.ldt d n x)) ∧ (Tbl.get 0 (s.engOf e).tbl n) = Tbl.get 0
      (s.engOf e).tbl n) ∧
    (∃ e ∈ ([0] : List (Fin 32)), ∃ d ∈ ([15] : List (Nat)), ∃ imm ∈ ([(Int.negSucc 0)] : List (Int)), ∃ s ∈ [upd (fun t =>
      { t with words := [(progAddr 0 0, 0x17c03ffff)], eng := [(0, { budget := 64 })] }) [(LE_STAT_STATE 0, 3)]], s.quiet = true
      ∧ (s.fld (LE_STAT_STATE e) = 3 ∧ libId s e = none ∧ budgetOut s e = false ∧ leDecode (s.word (progAddr e (s.engOf
      e).pc)).toNat = some (.ldi d imm))) ∧
    (∃ e ∈ ([0] : List (Fin 32)), ∃ d ∈ ([15] : List (Nat)), ∃ a ∈ ([1] : List (Nat)), ∃ s ∈ [upd (fun t =>
      { t with words := [(progAddr 0 0, 0x23c400000)], eng := [(0, { budget := 64 })] }) [(LE_STAT_STATE 0, 3)]], s.quiet = true
      ∧ (s.fld (LE_STAT_STATE e) = 3 ∧ libId s e = none ∧ budgetOut s e = false ∧ leDecode (s.word (progAddr e (s.engOf
      e).pc)).toNat = some (.mov d a))) ∧
    (∃ e ∈ ([0] : List (Fin 32)), ∃ d ∈ ([15] : List (Nat)), ∃ n ∈ ([3] : List (Nat)), ∃ k ∈ ([(Int.negSucc 31)] : List (Int)),
      ∃ s ∈ [upd (fun t => { t with words := [(progAddr 0 0, 0x27c020c00)], eng := [(0, { budget := 64 })] }) [(LE_STAT_STATE 0,
      3)]], s.quiet = true ∧ (s.fld (LE_STAT_STATE e) = 3 ∧ libId s e = none ∧ budgetOut s e = false ∧ leDecode (s.word
      (progAddr e (s.engOf e).pc)).toNat = some (.lda d n k))) ∧
    (∃ e ∈ ([0] : List (Fin 32)), ∃ d ∈ ([15] : List (Nat)), ∃ a ∈ ([1] : List (Nat)), ∃ b ∈ ([2] : List (Nat)), ∃ s ∈ [upd (fun
      t => { t with words := [(progAddr 0 0, 0x33c480000)], eng := [(0, { budget := 64 })] }) [(LE_STAT_STATE 0, 3)]], s.quiet =
      true ∧ (s.fld (LE_STAT_STATE e) = 3 ∧ libId s e = none ∧ budgetOut s e = false ∧ leDecode (s.word (progAddr e (s.engOf
      e).pc)).toNat = some (.add d a b))) ∧
    (∃ e ∈ ([0] : List (Fin 32)), ∃ d ∈ ([15] : List (Nat)), ∃ a ∈ ([1] : List (Nat)), ∃ b ∈ ([2] : List (Nat)), ∃ s ∈ [upd (fun
      t => { t with words := [(progAddr 0 0, 0x37c480000)], eng := [(0, { budget := 64 })] }) [(LE_STAT_STATE 0, 3)]], s.quiet =
      true ∧ (s.fld (LE_STAT_STATE e) = 3 ∧ libId s e = none ∧ budgetOut s e = false ∧ leDecode (s.word (progAddr e (s.engOf
      e).pc)).toNat = some (.sub d a b))) ∧
    (∃ e ∈ ([0] : List (Fin 32)), ∃ d ∈ ([15] : List (Nat)), ∃ a ∈ ([1] : List (Nat)), ∃ s ∈ [upd (fun t =>
      { t with words := [(progAddr 0 0, 0x3bc400000)], eng := [(0, { budget := 64 })] }) [(LE_STAT_STATE 0, 3)]], s.quiet = true
      ∧ (s.fld (LE_STAT_STATE e) = 3 ∧ libId s e = none ∧ budgetOut s e = false ∧ leDecode (s.word (progAddr e (s.engOf
      e).pc)).toNat = some (.neg d a))) ∧
    (∃ e ∈ ([0] : List (Fin 32)), ∃ d ∈ ([15] : List (Nat)), ∃ a ∈ ([1] : List (Nat)), ∃ s ∈ [upd (fun t =>
      { t with words := [(progAddr 0 0, 0x3fc400000)], eng := [(0, { budget := 64 })] }) [(LE_STAT_STATE 0, 3)]], s.quiet = true
      ∧ (s.fld (LE_STAT_STATE e) = 3 ∧ libId s e = none ∧ budgetOut s e = false ∧ leDecode (s.word (progAddr e (s.engOf
      e).pc)).toNat = some (.abs d a))) ∧
    (∃ e ∈ ([0] : List (Fin 32)), ∃ d ∈ ([15] : List (Nat)), ∃ a ∈ ([1] : List (Nat)), ∃ b ∈ ([2] : List (Nat)), ∃ s ∈ [upd (fun
      t => { t with words := [(progAddr 0 0, 0x43c480000)], eng := [(0, { budget := 64 })] }) [(LE_STAT_STATE 0, 3)]], s.quiet =
      true ∧ (s.fld (LE_STAT_STATE e) = 3 ∧ libId s e = none ∧ budgetOut s e = false ∧ leDecode (s.word (progAddr e (s.engOf
      e).pc)).toNat = some (.addw d a b))) ∧
    (∃ e ∈ ([0] : List (Fin 32)), ∃ d ∈ ([15] : List (Nat)), ∃ a ∈ ([1] : List (Nat)), ∃ b ∈ ([2] : List (Nat)), ∃ k ∈ ([31] :
      List (Int)), ∃ s ∈ [upd (fun t => { t with words := [(progAddr 0 0, 0x47c49f000)], eng := [(0, { budget := 64 })] })
      [(LE_STAT_STATE 0, 3)]], s.quiet = true ∧ (s.fld (LE_STAT_STATE e) = 3 ∧ libId s e = none ∧ budgetOut s e = false ∧
      leDecode (s.word (progAddr e (s.engOf e).pc)).toNat = some (.mul d a b k))) ∧
    (∃ e ∈ ([0] : List (Fin 32)), ∃ d ∈ ([15] : List (Nat)), ∃ a ∈ ([1] : List (Nat)), ∃ k ∈ ([(Int.negSucc 15)] : List (Int)),
      ∃ x ∈ ([(.dir 0)] : List (LeMem)), ∃ s ∈ [upd (fun t =>
      { t with words := [(progAddr 0 0, 0x4bc480000)], eng := [(0, { budget := 64 })] }) [(LE_STAT_STATE 0, 3)]], s.quiet = true
      ∧ (s.fld (LE_STAT_STATE e) = 3 ∧ libId s e = none ∧ budgetOut s e = false ∧ leDecode (s.word (progAddr e (s.engOf
      e).pc)).toNat = some (.mulc d a x k))) ∧
    (∃ e ∈ ([0] : List (Fin 32)), ∃ d ∈ ([15] : List (Nat)), ∃ a ∈ ([1] : List (Nat)), ∃ n ∈ ([63] : List (Nat)), ∃ s ∈ [upd
      (fun t => { t with words := [(progAddr 0 0, 0x4fc43f000)], eng := [(0, { budget := 64 })] }) [(LE_STAT_STATE 0, 3)]],
      s.quiet = true ∧ (s.fld (LE_STAT_STATE e) = 3 ∧ libId s e = none ∧ budgetOut s e = false ∧ leDecode (s.word (progAddr e
      (s.engOf e).pc)).toNat = some (.mulw d a n))) ∧
    (∃ e ∈ ([0] : List (Fin 32)), ∃ d ∈ ([15] : List (Nat)), ∃ a ∈ ([1] : List (Nat)), ∃ b ∈ ([2] : List (Nat)), ∃ s ∈ [upd (fun
      t => { t with words := [(progAddr 0 0, 0x53c480000)], eng := [(0, { budget := 64 })] }) [(LE_STAT_STATE 0, 3)]], s.quiet =
      true ∧ (s.fld (LE_STAT_STATE e) = 3 ∧ libId s e = none ∧ budgetOut s e = false ∧ leDecode (s.word (progAddr e (s.engOf
      e).pc)).toNat = some (.div d a b))) ∧
    (∃ e ∈ ([0] : List (Fin 32)), ∃ d ∈ ([15] : List (Nat)), ∃ a ∈ ([1] : List (Nat)), ∃ k ∈ ([(Int.negSucc 31)] : List (Int)),
      ∃ s ∈ [upd (fun t => { t with words := [(progAddr 0 0, 0x57c420000)], eng := [(0, { budget := 64 })] }) [(LE_STAT_STATE 0,
      3)]], s.quiet = true ∧ (s.fld (LE_STAT_STATE e) = 3 ∧ libId s e = none ∧ budgetOut s e = false ∧ leDecode (s.word
      (progAddr e (s.engOf e).pc)).toNat = some (.ash d a k))) ∧
    (∃ e ∈ ([0] : List (Fin 32)), ∃ d ∈ ([15] : List (Nat)), ∃ a ∈ ([1] : List (Nat)), ∃ b ∈ ([2] : List (Nat)), ∃ s ∈ [upd (fun
      t => { t with words := [(progAddr 0 0, 0x5bc480000)], eng := [(0, { budget := 64 })] }) [(LE_STAT_STATE 0, 3)]], s.quiet =
      true ∧ (s.fld (LE_STAT_STATE e) = 3 ∧ libId s e = none ∧ budgetOut s e = false ∧ leDecode (s.word (progAddr e (s.engOf
      e).pc)).toNat = some (.min d a b))) ∧
    (∃ e ∈ ([0] : List (Fin 32)), ∃ d ∈ ([15] : List (Nat)), ∃ a ∈ ([1] : List (Nat)), ∃ b ∈ ([2] : List (Nat)), ∃ s ∈ [upd (fun
      t => { t with words := [(progAddr 0 0, 0x5fc480000)], eng := [(0, { budget := 64 })] }) [(LE_STAT_STATE 0, 3)]], s.quiet =
      true ∧ (s.fld (LE_STAT_STATE e) = 3 ∧ libId s e = none ∧ budgetOut s e = false ∧ leDecode (s.word (progAddr e (s.engOf
      e).pc)).toNat = some (.max d a b))) ∧
    (∃ e ∈ ([0] : List (Fin 32)), ∃ d ∈ ([15] : List (Nat)), ∃ a ∈ ([1] : List (Nat)), ∃ b ∈ ([2] : List (Nat)), ∃ s ∈ [upd (fun
      t => { t with words := [(progAddr 0 0, 0x63c480000)], eng := [(0, { budget := 64 })] }) [(LE_STAT_STATE 0, 3)]], s.quiet =
      true ∧ (s.fld (LE_STAT_STATE e) = 3 ∧ libId s e = none ∧ budgetOut s e = false ∧ leDecode (s.word (progAddr e (s.engOf
      e).pc)).toNat = some (.clamp d a b))) ∧
    (∃ e ∈ ([0] : List (Fin 32)), ∃ d ∈ ([15] : List (Nat)), ∃ a ∈ ([1] : List (Nat)), ∃ b ∈ ([2] : List (Nat)), ∃ n ∈ ([7] :
      List (Nat)), ∃ s ∈ [upd (fun t => { t with words := [(progAddr 0 0, 0x93c480380)], eng := [(0, { budget := 64 })] })
      [(LE_STAT_STATE 0, 3)]], s.quiet = true ∧ (s.fld (LE_STAT_STATE e) = 3 ∧ libId s e = none ∧ budgetOut s e = false ∧
      leDecode (s.word (progAddr e (s.engOf e).pc)).toNat = some (.sel d a b n))) ∧
    (∃ e ∈ ([0] : List (Fin 32)), ∃ d ∈ ([15] : List (Nat)), ∃ a ∈ ([1] : List (Nat)), ∃ n ∈ ([7] : List (Nat)), ∃ s ∈ [upd (fun
      t => { t with words := [(progAddr 0 0, 0xbfc5c0000)], eng := [(0, { budget := 64 })] }) [(LE_STAT_STATE 0, 3)]], s.quiet =
      true ∧ (s.fld (LE_STAT_STATE e) = 3 ∧ libId s e = none ∧ budgetOut s e = false ∧ leDecode (s.word (progAddr e (s.engOf
      e).pc)).toNat = some (.tbl d a n)) ∧ (Tbl.get 0 (s.engOf e).tbl n) = Tbl.get 0 (s.engOf e).tbl n) :=
  by refine ⟨?_, ?_, ?_, ?_, ?_, ?_, ?_, ?_, ?_, ?_, ?_, ?_, ?_, ?_, ?_, ?_, ?_, ?_, ?_, ?_, ?_, ?_⟩ <;> decide

theorem witness_EngineOtherInstructions :
    (∃ e ∈ ([0] : List (Fin 32)), ∃ s ∈ [upd (fun t =>
      { t with words := [(progAddr 0 0, 0x0)], eng := [(0, { budget := 64 })] }) [(LE_STAT_STATE 0, 3)]], s.quiet = true ∧
      (s.fld (LE_STAT_STATE e) = 3 ∧ libId s e = none ∧ budgetOut s e = false ∧ leDecode (s.word (progAddr e (s.engOf
      e).pc)).toNat = some .nop)) ∧
    (∃ e ∈ ([0] : List (Fin 32)), ∃ d ∈ ([15] : List (Nat)), ∃ x ∈ ([(.dir 4095)] : List (LeMem)), ∃ s ∈ [upd (fun t =>
      { t with words := [(progAddr 0 0, 0x1bc000fff)], eng := [(0, { budget := 64 })] }) [(LE_STAT_STATE 0, 3)]], s.quiet = true
      ∧ (s.fld (LE_STAT_STATE e) = 3 ∧ libId s e = none ∧ budgetOut s e = false ∧ leDecode (s.word (progAddr e (s.engOf
      e).pc)).toNat = some (.st d x))) ∧
    (∃ e ∈ ([0] : List (Fin 32)), ∃ d ∈ ([14] : List (Nat)), ∃ x ∈ ([(.dir 4094)] : List (LeMem)), ∃ s ∈ [upd (fun t =>
      { t with words := [(progAddr 0 0, 0x1f8000ffe)], eng := [(0, { budget := 64 })] }) [(LE_STAT_STATE 0, 3)]], s.quiet = true
      ∧ (s.fld (LE_STAT_STATE e) = 3 ∧ libId s e = none ∧ budgetOut s e = false ∧ leDecode (s.word (progAddr e (s.engOf
      e).pc)).toNat = some (.sts d x))) ∧
    (∃ e ∈ ([0] : List (Fin 32)), ∃ d ∈ ([7] : List (Nat)), ∃ n ∈ ([4095] : List (Nat)), ∃ s ∈ [upd (fun t =>
      { t with words := [(progAddr 0 0, 0x283800fff)], eng := [(0, { budget := 64 })] }) [(LE_STAT_STATE 0, 3)]], s.quiet = true
      ∧ (s.fld (LE_STAT_STATE e) = 3 ∧ libId s e = none ∧ budgetOut s e = false ∧ leDecode (s.word (progAddr e (s.engOf
      e).pc)).toNat = some (.ldp d n))) ∧
    (∃ e ∈ ([0] : List (Fin 32)), ∃ d ∈ ([7] : List (Nat)), ∃ imm ∈ ([(Int.negSucc 0)] : List (Int)), ∃ s ∈ [upd (fun t =>
      { t with words := [(progAddr 0 0, 0x2c3801fff)], eng := [(0, { budget := 64 })] }) [(LE_STAT_STATE 0, 3)]], s.quiet = true
      ∧ (s.fld (LE_STAT_STATE e) = 3 ∧ libId s e = none ∧ budgetOut s e = false ∧ leDecode (s.word (progAddr e (s.engOf
      e).pc)).toNat = some (.addp d imm))) ∧
    (∃ e ∈ ([0] : List (Fin 32)), ∃ a ∈ ([1] : List (Nat)), ∃ b ∈ ([2] : List (Nat)), ∃ n ∈ ([3] : List (Nat)), ∃ k ∈ ([31] :
      List (Int)), ∃ s ∈ [upd (fun t => { t with words := [(progAddr 0 0, 0x68049fc00)], eng := [(0, { budget := 64 })] })
      [(LE_STAT_STATE 0, 3)]], s.quiet = true ∧ (s.fld (LE_STAT_STATE e) = 3 ∧ libId s e = none ∧ budgetOut s e = false ∧
      leDecode (s.word (progAddr e (s.engOf e).pc)).toNat = some (.mac n a b k))) ∧
    (∃ e ∈ ([0] : List (Fin 32)), ∃ a ∈ ([1] : List (Nat)), ∃ n ∈ ([3] : List (Nat)), ∃ k ∈ ([15] : List (Int)), ∃ x ∈ ([(.dir
      5)] : List (LeMem)), ∃ s ∈ [upd (fun t =>
      { t with words := [(progAddr 0 0, 0x6c0778005)], eng := [(0, { budget := 64 })] }) [(LE_STAT_STATE 0, 3)]], s.quiet = true
      ∧ (s.fld (LE_STAT_STATE e) = 3 ∧ libId s e = none ∧ budgetOut s e = false ∧ leDecode (s.word (progAddr e (s.engOf
      e).pc)).toNat = some (.macc n a x k))) ∧
    (∃ e ∈ ([0] : List (Fin 32)), ∃ a ∈ ([1] : List (Nat)), ∃ b ∈ ([2] : List (Nat)), ∃ n ∈ ([3] : List (Nat)), ∃ k ∈ ([31] :
      List (Int)), ∃ s ∈ [upd (fun t => { t with words := [(progAddr 0 0, 0x70049fc00)], eng := [(0, { budget := 64 })] })
      [(LE_STAT_STATE 0, 3)]], s.quiet = true ∧ (s.fld (LE_STAT_STATE e) = 3 ∧ libId s e = none ∧ budgetOut s e = false ∧
      leDecode (s.word (progAddr e (s.engOf e).pc)).toNat = some (.msu n a b k))) ∧
    (∃ e ∈ ([0] : List (Fin 32)), ∃ a ∈ ([1] : List (Nat)), ∃ n ∈ ([3] : List (Nat)), ∃ k ∈ ([15] : List (Int)), ∃ x ∈ ([(.dir
      5)] : List (LeMem)), ∃ s ∈ [upd (fun t =>
      { t with words := [(progAddr 0 0, 0x740778005)], eng := [(0, { budget := 64 })] }) [(LE_STAT_STATE 0, 3)]], s.quiet = true
      ∧ (s.fld (LE_STAT_STATE e) = 3 ∧ libId s e = none ∧ budgetOut s e = false ∧ leDecode (s.word (progAddr e (s.engOf
      e).pc)).toNat = some (.msuc n a x k))) ∧
    (∃ e ∈ ([0] : List (Fin 32)), ∃ n ∈ ([3] : List (Nat)), ∃ s ∈ [upd (fun t =>
      { t with words := [(progAddr 0 0, 0x780000c00)], eng := [(0, { budget := 64 })] }) [(LE_STAT_STATE 0, 3)]], s.quiet = true
      ∧ (s.fld (LE_STAT_STATE e) = 3 ∧ libId s e = none ∧ budgetOut s e = false ∧ leDecode (s.word (progAddr e (s.engOf
      e).pc)).toNat = some (.clra n))) ∧
    (∃ e ∈ ([0] : List (Fin 32)), ∃ a ∈ ([15] : List (Nat)), ∃ n ∈ ([3] : List (Nat)), ∃ s ∈ [upd (fun t =>
      { t with words := [(progAddr 0 0, 0x7c3c00c00)], eng := [(0, { budget := 64 })] }) [(LE_STAT_STATE 0, 3)]], s.quiet = true
      ∧ (s.fld (LE_STAT_STATE e) = 3 ∧ libId s e = none ∧ budgetOut s e = false ∧ leDecode (s.word (progAddr e (s.engOf
      e).pc)).toNat = some (.ldam n a))) ∧
    (∃ e ∈ ([0] : List (Fin 32)), ∃ a ∈ ([15] : List (Nat)), ∃ n ∈ ([3] : List (Nat)), ∃ k ∈ ([31] : List (Int)), ∃ s ∈ [upd
      (fun t => { t with words := [(progAddr 0 0, 0x803c1fc00)], eng := [(0, { budget := 64 })] }) [(LE_STAT_STATE 0, 3)]],
      s.quiet = true ∧ (s.fld (LE_STAT_STATE e) = 3 ∧ libId s e = none ∧ budgetOut s e = false ∧ leDecode (s.word (progAddr e
      (s.engOf e).pc)).toNat = some (.adda n a k))) ∧
    (∃ e ∈ ([0] : List (Fin 32)), ∃ a ∈ ([14] : List (Nat)), ∃ b ∈ ([15] : List (Nat)), ∃ s ∈ [upd (fun t =>
      { t with words := [(progAddr 0 0, 0x843bc0000)], eng := [(0, { budget := 64 })] }) [(LE_STAT_STATE 0, 3)]], s.quiet = true
      ∧ (s.fld (LE_STAT_STATE e) = 3 ∧ libId s e = none ∧ budgetOut s e = false ∧ leDecode (s.word (progAddr e (s.engOf
      e).pc)).toNat = some (.norm a b))) ∧
    (∃ e ∈ ([0] : List (Fin 32)), ∃ imm ∈ ([8] : List (Int)), ∃ m1 ∈ ([false] : List (Bool)), ∃ s ∈ [upd (fun t =>
      { t with words := [(progAddr 0 0, 0x880200003)], eng := [(0, { budget := 64 })] }) [(LE_STAT_STATE 0, 3)]], s.quiet = true
      ∧ (s.fld (LE_STAT_STATE e) = 3 ∧ libId s e = none ∧ budgetOut s e = false ∧ leDecode (s.word (progAddr e (s.engOf
      e).pc)).toNat = some (.stage m1 imm 3)) ∧ (clampInt (-128) 127 (if m1 then (s.engOf e).se - (s.engOf e).nx else imm)) =
      clampInt (-128) 127 (if m1 then (s.engOf e).se - (s.engOf e).nx else imm)) ∧
    (∃ e ∈ ([0] : List (Fin 32)), ∃ a ∈ ([15] : List (Nat)), ∃ b ∈ ([14] : List (Nat)), ∃ s ∈ [upd (fun t =>
      { t with words := [(progAddr 0 0, 0x8c3f80000)], eng := [(0, { budget := 64 })] }) [(LE_STAT_STATE 0, 3)]], s.quiet = true
      ∧ (s.fld (LE_STAT_STATE e) = 3 ∧ libId s e = none ∧ budgetOut s e = false ∧ leDecode (s.word (progAddr e (s.engOf
      e).pc)).toNat = some (.cmp a b))) ∧
    (∃ e ∈ ([0] : List (Fin 32)), ∃ n ∈ ([1] : List (Nat)), ∃ c ∈ ([0] : List (Nat)), ∃ s ∈ [upd (fun t =>
      { t with words := [(progAddr 0 0, 0x940000001)], eng := [(0, { budget := 64 })] }) [(LE_STAT_STATE 0, 3)]], s.quiet = true
      ∧ (s.fld (LE_STAT_STATE e) = 3 ∧ libId s e = none ∧ budgetOut s e = false ∧ leDecode (s.word (progAddr e (s.engOf
      e).pc)).toNat = some (.skip c n))) ∧
    (∃ e ∈ ([0] : List (Fin 32)), ∃ n ∈ ([2] : List (Nat)), ∃ c ∈ ([256] : List (Nat)), ∃ s ∈ [upd (fun t =>
      { t with words := [(progAddr 0 0, 0x98003fc02)], eng := [(0, { budget := 64 })] }) [(LE_STAT_STATE 0, 3)]], s.quiet = true
      ∧ (s.fld (LE_STAT_STATE e) = 3 ∧ libId s e = none ∧ budgetOut s e = false ∧ leDecode (s.word (progAddr e (s.engOf
      e).pc)).toNat = some (.loop c n)) ∧ 0 < n) ∧
    (∃ e ∈ ([0] : List (Fin 32)), ∃ s ∈ [upd (fun t =>
      { t with words := [(progAddr 0 0, 0x9c0000000)], eng := [(0, { budget := 64 })] }) [(LE_STAT_STATE 0, 3)]], s.quiet = true
      ∧ (s.fld (LE_STAT_STATE e) = 3 ∧ libId s e = none ∧ budgetOut s e = false ∧ leDecode (s.word (progAddr e (s.engOf
      e).pc)).toNat = some .fin) ∧ (s.engOf e).disarm = false) ∧
    (∃ e ∈ ([0] : List (Fin 32)), ∃ n ∈ ([255] : List (Nat)), ∃ c ∈ ([0] : List (Nat)), ∃ s ∈ [upd (fun t =>
      { t with words := [(progAddr 0 0, 0xa000000ff)], eng := [(0, { budget := 64 })] }) [(LE_STAT_STATE 0, 3)]], s.quiet = true
      ∧ (s.fld (LE_STAT_STATE e) = 3 ∧ libId s e = none ∧ budgetOut s e = false ∧ leDecode (s.word (progAddr e (s.engOf
      e).pc)).toNat = some (.evt c n)) ∧ (s.engOf e).cond c = true) ∧
    (∃ e ∈ ([0] : List (Fin 32)), ∃ n ∈ ([255] : List (Nat)), ∃ c ∈ ([1] : List (Nat)), ∃ s ∈ [upd (fun t =>
      { t with words := [(progAddr 0 0, 0xa080000ff)], eng := [(0, { budget := 64 })] }) [(LE_STAT_STATE 0, 3)]], s.quiet = true
      ∧ (s.fld (LE_STAT_STATE e) = 3 ∧ libId s e = none ∧ budgetOut s e = false ∧ leDecode (s.word (progAddr e (s.engOf
      e).pc)).toNat = some (.evt c n)) ∧ (s.engOf e).cond c = false) ∧
    (∃ e ∈ ([0] : List (Fin 32)), ∃ a ∈ ([13] : List (Nat)), ∃ b ∈ ([3] : List (Nat)), ∃ n ∈ ([11] : List (Nat)), ∃ ph ∈
      ([false] : List (Bool)), ∃ per ∈ ([none] : List (Option Nat)), ∃ s ∈ [upd (fun t =>
      { t with words := [(progAddr 0 0, 0xc2f480000)], eng := [(0, { budget := 64 })] }) [(LE_STAT_STATE 0, 3)]], s.quiet = true
      ∧ (s.fld (LE_STAT_STATE e) = 3 ∧ libId s e = none ∧ budgetOut s e = false ∧ leDecode (s.word (progAddr e (s.engOf
      e).pc)).toNat = some (.commit n a b ph per))) :=
  by refine ⟨?_, ?_, ?_, ?_, ?_, ?_, ?_, ?_, ?_, ?_, ?_, ?_, ?_, ?_, ?_, ?_, ?_, ?_, ?_, ?_, ?_⟩ <;> decide

theorem witness_EngineVectorInstructions :
    (∃ e ∈ ([0] : List (Fin 32)), ∃ d ∈ ([14] : List (Nat)), ∃ a ∈ ([12] : List (Nat)), ∃ b ∈ ([10] : List (Nat)), ∃ s ∈ [upd
      (fun t => { t with words := [(progAddr 0 0, 0xb3b280000)], eng := [(0, { budget := 64 })] }) [(LE_STAT_STATE 0, 3)]],
      s.quiet = true ∧ (s.fld (LE_STAT_STATE e) = 3 ∧ libId s e = none ∧ budgetOut s e = false ∧ leDecode (s.word (progAddr e
      (s.engOf e).pc)).toNat = some (.park d a b))) ∧
    (∃ e ∈ ([0] : List (Fin 32)), ∃ d ∈ ([14] : List (Nat)), ∃ a ∈ ([12] : List (Nat)), ∃ b ∈ ([10] : List (Nat)), ∃ s ∈ [upd
      (fun t => { t with words := [(progAddr 0 0, 0xb7b280000)], eng := [(0, { budget := 64 })] }) [(LE_STAT_STATE 0, 3)]],
      s.quiet = true ∧ (s.fld (LE_STAT_STATE e) = 3 ∧ libId s e = none ∧ budgetOut s e = false ∧ leDecode (s.word (progAddr e
      (s.engOf e).pc)).toNat = some (.ipark d a b))) ∧
    (∃ e ∈ ([0] : List (Fin 32)), ∃ d ∈ ([14] : List (Nat)), ∃ a ∈ ([12] : List (Nat)), ∃ s ∈ [upd (fun t =>
      { t with words := [(progAddr 0 0, 0xafb000000)], eng := [(0, { budget := 64 })] }) [(LE_STAT_STATE 0, 3)]], s.quiet = true
      ∧ (s.fld (LE_STAT_STATE e) = 3 ∧ libId s e = none ∧ budgetOut s e = false ∧ leDecode (s.word (progAddr e (s.engOf
      e).pc)).toNat = some (.clarke d a false))) ∧
    (∃ e ∈ ([0] : List (Fin 32)), ∃ d ∈ ([14] : List (Nat)), ∃ a ∈ ([12] : List (Nat)), ∃ s ∈ [upd (fun t =>
      { t with words := [(progAddr 0 0, 0xafb001000)], eng := [(0, { budget := 64 })] }) [(LE_STAT_STATE 0, 3)]], s.quiet = true
      ∧ (s.fld (LE_STAT_STATE e) = 3 ∧ libId s e = none ∧ budgetOut s e = false ∧ leDecode (s.word (progAddr e (s.engOf
      e).pc)).toNat = some (.clarke d a true))) ∧
    (∃ e ∈ ([0] : List (Fin 32)), ∃ d ∈ ([14] : List (Nat)), ∃ a ∈ ([2] : List (Nat)), ∃ s ∈ [upd (fun t =>
      { t with words := [(progAddr 0 0, 0x678800000)], eng := [(0, { budget := 64 })] }) [(LE_STAT_STATE 0, 3)]], s.quiet = true
      ∧ (s.fld (LE_STAT_STATE e) = 3 ∧ libId s e = none ∧ budgetOut s e = false ∧ leDecode (s.word (progAddr e (s.engOf
      e).pc)).toNat = some (.vlim d a)) ∧ (s.engOf e).mant d * (s.engOf e).mant d + (s.engOf e).mant (d + 1) * (s.engOf e).mant
      (d + 1) ≤ max ((s.engOf e).mant a) 0 * max ((s.engOf e).mant a) 0) ∧
    (∃ e ∈ ([0] : List (Fin 32)), ∃ d ∈ ([14] : List (Nat)), ∃ a ∈ ([2] : List (Nat)), ∃ s ∈ [upd (fun t =>
      { t with words := [(progAddr 0 0, 0x678800000)], eng := [(0, { budget := 64, m := [(14, 1)] })] }) [(LE_STAT_STATE 0,
      3)]], s.quiet = true ∧ (s.fld (LE_STAT_STATE e) = 3 ∧ libId s e = none ∧ budgetOut s e = false ∧ leDecode (s.word
      (progAddr e (s.engOf e).pc)).toNat = some (.vlim d a)) ∧ max ((s.engOf e).mant a) 0 * max ((s.engOf e).mant a) 0 <
      (s.engOf e).mant d * (s.engOf e).mant d + (s.engOf e).mant (d + 1) * (s.engOf e).mant (d + 1)) ∧
    (∃ e ∈ ([0] : List (Fin 32)), ∃ d ∈ ([14] : List (Nat)), ∃ a ∈ ([15] : List (Nat)), ∃ s ∈ [upd (fun t =>
      { t with words := [(progAddr 0 0, 0xa7bc00000)], eng := [(0, { budget := 64 })] }) [(LE_STAT_STATE 0, 3)]], s.quiet = true
      ∧ (s.fld (LE_STAT_STATE e) = 3 ∧ libId s e = none ∧ budgetOut s e = false ∧ leDecode (s.word (progAddr e (s.engOf
      e).pc)).toNat = some (.sincos d a))) ∧
    (∃ e ∈ ([0] : List (Fin 32)), ∃ d ∈ ([14] : List (Nat)), ∃ a ∈ ([2] : List (Nat)), ∃ s ∈ [upd (fun t =>
      { t with words := [(progAddr 0 0, 0xab8800000)], eng := [(0, { budget := 64, m := [(2, 1)] })] }) [(LE_STAT_STATE 0, 3)]],
      s.quiet = true ∧ (s.fld (LE_STAT_STATE e) = 3 ∧ libId s e = none ∧ budgetOut s e = false ∧ leDecode (s.word (progAddr e
      (s.engOf e).pc)).toNat = some (.polar d a)) ∧ 0 < (s.engOf e).mant a ∧ (s.engOf e).mant (a + 1) = 0) ∧
    (∃ e ∈ ([0] : List (Fin 32)), ∃ d ∈ ([13] : List (Nat)), ∃ a ∈ ([2] : List (Nat)), ∃ s ∈ [upd (fun t =>
      { t with words := [(progAddr 0 0, 0xbb4800000)], eng := [(0, { budget := 64 })] }) [(LE_STAT_STATE 0, 3)]], s.quiet = true
      ∧ (s.fld (LE_STAT_STATE e) = 3 ∧ libId s e = none ∧ budgetOut s e = false ∧ leDecode (s.word (progAddr e (s.engOf
      e).pc)).toNat = some (.svm d a)) ∧ (s.engOf e).mant a = 0 ∧ (s.engOf e).mant (a + 1) = 0) :=
  by refine ⟨?_, ?_, ?_, ?_, ?_, ?_, ?_, ?_, ?_⟩ <;> decide

theorem witness_DcLinkLevels :
    (∃ j ∈ ([0] : List (Fin 2)), ∃ s ∈ [st [(TRC_DL_CFG_EN j, 0)]], s.quiet = true ∧ (s.flag (TRC_DL_CFG_EN j) = false ∨ s.flag
      (RES_FLAGS_VALID (adcMirror (s.fld (TRC_DL_CFG_ADC j)) (s.fld (TRC_DL_CFG_ENTRY j)))) = false ∨ s.flag (RES_FLAGS_FAULT
      (adcMirror (s.fld (TRC_DL_CFG_ADC j)) (s.fld (TRC_DL_CFG_ENTRY j)))) = true)) ∧
    (∃ j ∈ ([0] : List (Fin 2)), ∃ s ∈ [st [(TRC_DL_CFG_EN j, 1), (TRC_DL_CFG_ADC 0, 0), (TRC_DL_CFG_ENTRY 0, 0),
      (RES_FLAGS_VALID (adcMirror 0 0), 1), (RES_FLAGS_FAULT (adcMirror 0 0), 0)]], s.quiet = true ∧ s.flag (TRC_DL_CFG_EN j) =
      true ∧ s.flag (RES_FLAGS_VALID (adcMirror (s.fld (TRC_DL_CFG_ADC j)) (s.fld (TRC_DL_CFG_ENTRY j)))) = true ∧ s.flag
      (RES_FLAGS_FAULT (adcMirror (s.fld (TRC_DL_CFG_ADC j)) (s.fld (TRC_DL_CFG_ENTRY j)))) = false) ∧
    (∃ j ∈ ([0] : List (Fin 2)), ∃ s ∈ [st [(TRC_DL_CFG_EN j, 1), (TRC_DL_CFG_CHOP_EN j, 1), (TRC_DL_STAT_CHOP_AVAIL j, 1),
      (TRC_DL_STAT_OV2 j, 0), (TRC_DL_CFG_EN 0, 1), (TRC_DL_CFG_CHOP_EN 0, 1), (TRC_DL_STAT_CHOP_AVAIL 0, 1), (RES_FLAGS_VALID
      (adcMirror 0 0), 1), (RES_RAW (adcMirror 0 0), 150), (TRC_DL_OV1_ON 0, 100), (TRC_DL_OV2_SET 0, 200), (TRC_DL_OV3_SET 0,
      300), (TRC_DL_CHOP_DMIN 0, 20)]], s.quiet = true ∧ (s.fld (RES_RAW (adcMirror (s.fld (TRC_DL_CFG_ADC j)) (s.fld
      (TRC_DL_CFG_ENTRY j)))) % 2 ^ 12) = s.fld (RES_RAW (adcMirror (s.fld (TRC_DL_CFG_ADC j)) (s.fld (TRC_DL_CFG_ENTRY j)))) %
      2 ^ 12 ∧ (s.fld (TRC_DL_CHOP_DMIN j)) = s.fld (TRC_DL_CHOP_DMIN j) ∧ (s.fld (TRC_DL_OV1_ON j)) = s.fld (TRC_DL_OV1_ON j) ∧
      (s.fld (TRC_DL_OV2_SET j)) = s.fld (TRC_DL_OV2_SET j) ∧ s.flag (TRC_DL_CFG_EN j) = true ∧ s.flag (RES_FLAGS_VALID
      (adcMirror (s.fld (TRC_DL_CFG_ADC j)) (s.fld (TRC_DL_CFG_ENTRY j)))) = true ∧ s.flag (RES_FLAGS_FAULT (adcMirror (s.fld
      (TRC_DL_CFG_ADC j)) (s.fld (TRC_DL_CFG_ENTRY j)))) = false ∧ s.flag (TRC_DL_CFG_CHOP_EN j) = true ∧ s.flag
      (TRC_DL_STAT_CHOP_AVAIL j) = true ∧ chopCause s j = 0 ∧ (s.linkOf j).duty = 0 ∧ 1 ≤ (s.fld (TRC_DL_CHOP_DMIN j)) ∧ (s.fld
      (TRC_DL_OV1_ON j)) ≤ (s.fld (RES_RAW (adcMirror (s.fld (TRC_DL_CFG_ADC j)) (s.fld (TRC_DL_CFG_ENTRY j)))) % 2 ^ 12) ∧
      (s.fld (RES_RAW (adcMirror (s.fld (TRC_DL_CFG_ADC j)) (s.fld (TRC_DL_CFG_ENTRY j)))) % 2 ^ 12) < (s.fld (TRC_DL_OV2_SET
      j)) ∧ (s.fld (RES_RAW (adcMirror (s.fld (TRC_DL_CFG_ADC j)) (s.fld (TRC_DL_CFG_ENTRY j)))) % 2 ^ 12) < s.fld
      (TRC_DL_OV3_SET j) ∧ s.flag (TRC_DL_STAT_OV2 j) = false) ∧
    (∃ j ∈ ([0] : List (Fin 2)), ∃ s ∈ [st [(TRC_DL_CFG_EN j, 0)]], s.quiet = true ∧ s.flag (TRC_DL_CFG_EN j) = false) ∧
    (∃ j ∈ ([0] : List (Fin 2)), ∃ s ∈ [st [(TRC_DL_CFG_EN j, 1)]], s.quiet = true ∧ s.flag (TRC_DL_CFG_EN j) = true) ∧
    (∃ j ∈ ([0] : List (Fin 2)), ∃ s ∈ [st [(TRC_DL_STAT_CHOP_ON j, 0)]], s.quiet = true ∧ (s.flag (TRC_DL_STAT_CHOP_ON j) =
      false ∨ s.fld (TRC_DL_STAT_CODE j) < (s.linkOf j).v0)) ∧
    (∃ j ∈ ([0] : List (Fin 2)), ∃ s ∈ [st [(TRC_DL_STAT_CHOP_ON j, 1)]], s.quiet = true ∧ s.flag (TRC_DL_STAT_CHOP_ON j) = true
      ∧ (s.linkOf j).v0 ≤ s.fld (TRC_DL_STAT_CODE j)) ∧
    (∃ j ∈ ([0] : List (Fin 2)), ∃ s ∈ [st [(TRC_DL_CFG_CHOP_EN j, 0)]], s.quiet = true ∧ s.allUp = true ∧ (s.flag
      (TRC_DL_CFG_CHOP_EN j) = false ∨ s.flag (TRC_DL_STAT_CHOP_AVAIL j) = true)) ∧
    (∃ j ∈ ([0] : List (Fin 2)), ∃ s ∈ [st [(TRC_DL_CFG_CHOP_EN j, 1), (TRC_DL_STAT_CHOP_AVAIL j, 0), (TRC_DL_STAT_CHOP_CAUSE j,
      3), (TRC_DL_CFG_CHOP_LEG 0, 0), (GS_STAT_FAULT 0, 1), (TRC_DL_STAT_CHOP_CAUSE 0, 1)]], s.quiet = true ∧ s.allUp = true ∧
      s.flag (TRC_DL_CFG_CHOP_EN j) = true ∧ s.flag (TRC_DL_STAT_CHOP_AVAIL j) = false ∧ s.fld (TRC_DL_STAT_CHOP_CAUSE j) ≠ 2 ∧
      chopCause s j ≠ 0) ∧
    (∃ j ∈ ([0] : List (Fin 2)), ∃ s ∈ [st [(TRC_DL_CFG_CHOP_EN j, 1), (TRC_DL_STAT_CHOP_AVAIL j, 0), (TRC_DL_CFG_EN j, 1)]],
      s.quiet = true ∧ s.allUp = true ∧ s.flag (TRC_DL_CFG_CHOP_EN j) = true ∧ s.flag (TRC_DL_STAT_CHOP_AVAIL j) = false ∧
      chopCause s j = 0 ∧ s.flag (TRC_DL_CFG_EN j) = true) :=
  by refine ⟨?_, ?_, ?_, ?_, ?_, ?_, ?_, ?_, ?_, ?_⟩ <;> decide

theorem witness_TractionSlots :
    (∃ m ∈ ([0] : List (Fin 4)), ∃ s ∈ [st [(TRC_M_CFG_EN m, 0)]], s.quiet = true ∧ s.allUp = true ∧ s.flag (TRC_M_CFG_EN m) =
      false ∧ 11 < bitsOf (0xC0000 : Word).toNat 16 4) ∧
    (∃ m ∈ ([0] : List (Fin 4)), ∃ s ∈ [st [(TRC_M_CFG_EN m, 0), (TRC_LOCK, 0), (PWM_LEG_CFG_GROUP 0, 11), (PWM_LEG_CFG_GROUP 1,
      11), (PWM_LEG_CFG_GROUP 2, 11)]], s.quiet = true ∧ s.allUp = true ∧ s.flag (TRC_M_CFG_EN m) = false ∧ bitsOf (44 :
      Word).toNat 16 4 ≤ 11 ∧ s.flag TRC_LOCK = false ∧ trcSlotStatus (writeFields s trcErr (0x60038000 + m.val * 0x80) (setBit
      (44 : Word).toNat 0)).1 m = .OK) ∧
    (∃ p ∈ ([0] : List (Fin 12)), ∃ s ∈ [st []], s.quiet = true ∧ s.allUp = true ∧ (s.viewOf (.pair p)).staged = none) ∧
    (∃ m ∈ ([0] : List (Fin 4)), ∃ s ∈ [st [(TRC_M_CFG_EN m, 0)]], s.quiet = true ∧ s.allUp = true ∧ s.flag (TRC_M_CFG_EN m) =
      false) ∧
    (∃ m ∈ ([0] : List (Fin 4)), ∃ s ∈ [st [(TRC_M_CFG_EN m, 1)]], s.quiet = true ∧ s.allUp = true ∧ s.flag (TRC_M_CFG_EN m) =
      true) ∧
    (∃ s ∈ [st []], s.quiet = true ∧ s.allUp = true) ∧
    (∃ s ∈ [st []], s.quiet = true ∧ s.allUp = true ∧ leavingDrive s = false) ∧
    (∃ m ∈ ([0] : List (Fin 4)), ∃ s ∈ [st [(TRC_M_CFG_EN m, 1), (TRC_M_STAT_ZERO_TORQUE m, 1), (PWR_MODE_CHANGING, 1),
      (PWR_MODE, 2), (PWR_MODE_TARGET, 1)]], s.quiet = true ∧ s.allUp = true ∧ leavingDrive s = true ∧ s.flag (TRC_M_CFG_EN m) =
      true ∧ s.flag (TRC_M_STAT_ZERO_TORQUE m) = true ∧ (s.slotOf m).zeros < 3) ∧
    (∃ m ∈ ([0] : List (Fin 4)), ∃ s ∈ [st [(TRC_M_CFG_EN m, 1), (PWR_MODE_CHANGING, 1), (PWR_MODE, 2), (PWR_MODE_TARGET, 1)]],
      s.quiet = true ∧ s.allUp = true ∧ leavingDrive s = true ∧ s.flag (TRC_M_CFG_EN m) = true ∧ (s.slotOf m).zeros < 4) :=
  by refine ⟨?_, ?_, ?_, ?_, ?_, ?_, ?_, ?_, ?_⟩ <;> decide

theorem witness_ActuatorSlots :
    (∃ m ∈ ([0] : List (Fin 4)), ∃ s ∈ [st [(ACT_CFG_EN m, 0)]], s.quiet = true ∧ s.allUp = true ∧ s.flag (ACT_CFG_EN m) = false
      ∧ (0 : Word).toNat.testBit 16 = s.flag (ACT_CFG_DIR m) ∧ bitsOf (0 : Word).toNat 10 6 = 0) ∧
    (∃ m ∈ ([0] : List (Fin 4)), ∃ s ∈ [st [(ACT_CFG_EN m, 0), (ACT_LOCK, 0), (PWM_LEG_CFG_GROUP 24, 11), (PWM_LEG_DTLIM_DT_MAX
      24, 0), (PWM_LEG_CFG_GROUP 25, 11), (PWM_LEG_DTLIM_DT_MAX 25, 0), (PWM_LEG_CFG_GROUP 26, 11), (PWM_LEG_DTLIM_DT_MAX 26,
      0), (PWM_GRP_CTRL_UPD 11, 3), (ADC_CTRL_SEQ_LEN 0, 3), (ADC_CTRL_TRG_MODE 0, 1), (ADC_CTRL_TRG_EVT 0, 44), (ACT_LIM_DMIN
      0, 255), (PWM_GRP_PERIOD_SH_PERIOD 11, 1000)]], s.quiet = true ∧ s.allUp = true ∧ s.flag (ACT_CFG_EN m) = false ∧ s.flag
      ACT_LOCK = false ∧ (0x416 : Word).toNat.testBit 16 = s.flag (ACT_CFG_DIR m) ∧ 1 ≤ bitsOf (0x416 : Word).toNat 10 6 ∧
      bitsOf (0x416 : Word).toNat 10 6 ≤ 32 ∧ bitsOf (0x416 : Word).toNat 17 4 ≤ 11 ∧ bitsOf (0x416 : Word).toNat 1 4 ≤ 11 ∧
      actSlotStatus (writeFields s actErr (0x60040000 + m.val * 0x80) (setBit (0x416 : Word).toNat 0)).1 m = .OK ∧ actLatched
      (writeFields s actErr (0x60040000 + m.val * 0x80) (setBit (0x416 : Word).toNat 0)).1 m = false ∧ s.safe (bitsOf (0x416 :
      Word).toNat 1 4) = false) ∧
    (∃ m ∈ ([0] : List (Fin 4)), ∃ s ∈ [st [(ACT_CFG_EN m, 1), (ACT_CFG_PP 0, 1)]], s.quiet = true ∧ s.allUp = true ∧ s.flag
      (ACT_CFG_EN m) = true ∧ changesRwl s (0x60040000 + m.val * 0x80) (clearBit (0x400 : Word).toNat 0) = false ∧ (0x400 :
      Word).toNat.testBit 16 = s.flag (ACT_CFG_DIR m) ∧ 1 ≤ bitsOf (0x400 : Word).toNat 10 6 ∧ bitsOf (0x400 : Word).toNat 10 6
      ≤ 32 ∧ bitsOf (0x400 : Word).toNat 17 4 ≤ 11 ∧ bitsOf (0x400 : Word).toNat 1 4 ≤ 11) ∧
    (∃ m ∈ ([0] : List (Fin 4)), ∃ s ∈ [st [(ACT_STAT_STATE m, 2)]], s.quiet = true ∧ s.allUp = true ∧ actState s m ≠ 1) ∧
    (∃ m ∈ ([0] : List (Fin 4)), ∃ s ∈ [st [(ACT_STAT_STATE m, 1)]], s.quiet = true ∧ s.allUp = true ∧ actState s m = 1 ∧
      s.running (actGroup s m) = false) ∧
    (∃ m ∈ ([0] : List (Fin 4)), ∃ s ∈ [st [(ACT_STAT_STATE m, 1), (PWM_GRP_STAT_STATE 0, 1), (ACT_CFG_GROUP 0, 0)]], s.quiet =
      true ∧ s.allUp = true ∧ actState s m = 1 ∧ s.running (actGroup s m) = true) ∧
    (∃ m ∈ ([0] : List (Fin 4)), ∃ s ∈ [st [(ACT_STAT_STATE m, 4)]], s.quiet = true ∧ s.allUp = true ∧ actState s m = 4) ∧
    (∃ m ∈ ([0] : List (Fin 4)), ∃ s ∈ [st [(ACT_STAT_STATE m, 0)]], s.quiet = true ∧ s.allUp = true ∧ (actState s m = 0 ∨
      actState s m = 1 ∨ actState s m = 5 ∨ actState s m = 9)) ∧
    (∃ m ∈ ([0] : List (Fin 4)), ∃ s ∈ [st [(ACT_STAT_STATE m, 2)]], s.quiet = true ∧ s.allUp = true ∧ (actState s m = 2 ∨
      actState s m = 3 ∨ actState s m = 6 ∨ actState s m = 7 ∨ actState s m = 8)) ∧
    (∃ m ∈ ([0] : List (Fin 4)), ∃ s ∈ [st [(ACT_STAT_STATE 0, 8)]], s.quiet = true ∧ s.allUp = true ∧ 2 ≤ actState s m ∧
      actState s m ≤ 8) ∧
    (∃ m ∈ ([0] : List (Fin 4)), ∃ s ∈ [st [(ACT_STAT_STATE m, 0)]], s.quiet = true ∧ s.allUp = true ∧ (actState s m = 0 ∨
      actState s m = 1 ∨ actState s m = 9)) ∧
    (∃ m ∈ ([0] : List (Fin 4)), ∃ s ∈ [st [(ACT_STAT_STATE m, 10)]], s.quiet = true ∧ s.allUp = true ∧ actState s m ≠ 9) ∧
    (∃ m ∈ ([0] : List (Fin 4)), ∃ s ∈ [st [(ACT_STAT_STATE m, 9)]], s.quiet = true ∧ s.allUp = true ∧ actState s m = 9 ∧
      (actLatched s m = true ∨ s.running (actGroup s m) = false)) ∧
    (∃ m ∈ ([0] : List (Fin 4)), ∃ s ∈ [st [(ACT_STAT_STATE m, 9), (ACT_STAT_STATE 0, 9), (PWM_GRP_STAT_STATE 0, 1)]], s.quiet =
      true ∧ s.allUp = true ∧ actState s m = 9 ∧ actLatched s m = false ∧ s.running (actGroup s m) = true) ∧
    (∃ m ∈ ([0] : List (Fin 4)), ∃ s ∈ [st [(ACT_STAT_STATE m, 3)]], s.quiet = true ∧ s.allUp = true ∧ actState s m ≠ 2) ∧
    (∃ m ∈ ([0] : List (Fin 4)), ∃ s ∈ [st [(ACT_STAT_STATE m, 2)]], s.quiet = true ∧ s.allUp = true ∧ actState s m = 2 ∧ s.fld
      (ACT_STAT_STEP m) < 6) ∧
    (∃ m ∈ ([0] : List (Fin 4)), ∃ s ∈ [st [(ACT_STAT_STATE m, 4)]], s.quiet = true ∧ s.allUp = true ∧ actState s m ≠ 3) ∧
    (∃ m ∈ ([0] : List (Fin 4)), ∃ s ∈ [st [(ACT_STAT_STATE m, 3)]], s.quiet = true ∧ s.allUp = true ∧ actState s m = 3) ∧
    (∃ m ∈ ([0] : List (Fin 4)), ∃ s ∈ [st [(ACT_STAT_STATE m, 3)]], s.quiet = true ∧ s.allUp = true ∧ actState s m = 3 ∧
      (s.actOf m).tries ≤ s.fld (ACT_START_RETRIES m)) ∧
    (∃ m ∈ ([0] : List (Fin 4)), ∃ s ∈ [upd (fun t => { t with act := [(0, { tries := 1 })] }) [(ACT_STAT_STATE m, 3),
      (ACT_START_RETRIES 0, 0)]], s.quiet = true ∧ s.allUp = true ∧ actState s m = 3 ∧ s.fld (ACT_START_RETRIES m) < (s.actOf
      m).tries) ∧
    (∃ m ∈ ([0] : List (Fin 4)), ∃ s ∈ [st [(ACT_STAT_STATE m, 9)]], s.quiet = true ∧ s.allUp = true ∧ actState s m ≠ 8) ∧
    (∃ m ∈ ([0] : List (Fin 4)), ∃ s ∈ [st [(ACT_STAT_STATE m, 8)]], s.quiet = true ∧ s.allUp = true ∧ actState s m = 8) ∧
    (∃ m ∈ ([0] : List (Fin 4)), ∃ s ∈ [st []], s.quiet = true ∧ s.allUp = true ∧ ((s.actOf m).nextCom = none ∨ (actState s m ≠
      4 ∧ actState s m ≠ 5))) ∧
    (∃ m ∈ ([0] : List (Fin 4)), ∃ t ∈ [(100 : Nat)], ∃ s ∈ [upd (fun t => { t with act := [(0, { nextCom := some 100 })] })
      [(ACT_STAT_STATE m, 4), (ACT_STAT_STATE 0, 5)]], s.quiet = true ∧ s.allUp = true ∧ (s.actOf m).nextCom = some t ∧
      (actState s m = 4 ∨ actState s m = 5)) ∧
    (∃ m ∈ ([0] : List (Fin 4)), ∃ s ∈ [st [(ACT_STAT_STATE m, 5), (ACT_STAT_STATE m, 6)]], s.quiet = true ∧ s.allUp = true ∧
      actState s m ≠ 4 ∧ actState s m ≠ 5) ∧
    (∃ m ∈ ([0] : List (Fin 4)), ∃ s ∈ [st [(ACT_STAT_STATE m, 4)]], s.quiet = true ∧ s.allUp = true ∧ actState s m = 4 ∧ s.fld
      (ACT_LIM_DMIN m) ≤ s.fld (ACT_LIM_DMAX m)) ∧
    (∃ m ∈ ([0] : List (Fin 4)), ∃ s ∈ [upd (fun t => { t with act := [(0, { target := 0 })] }) [(ACT_STAT_STATE m, 5),
      (ACT_RAMP_HANDOFF 0, 1)]], s.quiet = true ∧ s.allUp = true ∧ actState s m = 5 ∧ rampTarget s m (s.actOf m).target 0 < 1000
      * s.fld (ACT_RAMP_HANDOFF m)) ∧
    (∃ m ∈ ([0] : List (Fin 4)), ∃ s ∈ [st [(ACT_STAT_STATE m, 7)]], s.quiet = true ∧ s.allUp = true ∧ actState s m ≠ 6) ∧
    (∃ m ∈ ([0] : List (Fin 4)), ∃ s ∈ [st [(ACT_STAT_STATE m, 6)]], s.quiet = true ∧ s.allUp = true ∧ actState s m = 6) ∧
    (∃ m ∈ ([0] : List (Fin 4)), ∃ s ∈ [st [(ACT_STAT_STATE m, 8)]], s.quiet = true ∧ s.allUp = true ∧ actState s m ≠ 7) ∧
    (∃ m ∈ ([0] : List (Fin 4)), ∃ s ∈ [st [(ACT_STAT_STATE m, 7)]], s.quiet = true ∧ s.allUp = true ∧ actState s m = 7 ∧
      lowLong s m = false) ∧
    (∃ m ∈ ([0] : List (Fin 4)), ∃ t ∈ [1], ∃ s ∈ [upd (fun t => { t with act := [(0, { lowAt := some 1 })], mtime := 4000001 })
      [(ACT_STAT_STATE m, 7), (ACT_STAT_STATE 0, 7)]], s.quiet = true ∧ s.allUp = true ∧ (s.actOf m).lowAt = some t ∧ t +
      4000000 ≤ s.mtime ∧ actState s m = 7) ∧
    (∃ m ∈ ([0] : List (Fin 4)), ∃ s ∈ [st [(ACT_STAT_STATE m, 7), (ACT_STAT_STATE 0, 7), (RES_FLAGS_VALID (adcMirror 0 0), 1),
      (RES_RAW (adcMirror 0 0), 0), (RES_FLAGS_VALID (adcMirror 0 1), 1), (RES_RAW (adcMirror 0 1), 1), (RES_FLAGS_VALID
      (adcMirror 0 2), 1), (RES_RAW (adcMirror 0 2), 2), (RES_FLAGS_VALID (adcMirror 0 3), 1), (RES_RAW (adcMirror 0 3), 3)]],
      s.quiet = true ∧ s.allUp = true ∧ actState s m = 7 ∧ [0, 1, 2, 3].all (fun e => (actEntry s m e).1) = true) ∧
    (∃ m ∈ ([0] : List (Fin 4)), ∃ s ∈ [st [(ACT_STAT_STATE m, 7)]], s.quiet = true ∧ s.allUp = true ∧ actState s m = 7) ∧
    (∃ m ∈ ([0] : List (Fin 4)), ∃ s ∈ [st []], s.quiet = true ∧ s.allUp = true ∧ (actState s m < 3 ∨ 7 < actState s m)) ∧
    (∃ m ∈ ([0] : List (Fin 4)), ∃ s ∈ [st [(ACT_STAT_STATE m, 4)]], s.quiet = true ∧ s.allUp = true ∧ actState s m = 4 ∧
      ((actEntry s m (stepPhases (s.fld (ACT_STAT_STEP m))).2.2).1 && (actEntry s m 3).1) = false ∧ (s.actOf m).bad = 0) ∧
    (∃ m ∈ ([0] : List (Fin 4)), ∃ s ∈ [upd (fun t => { t with act := [(0, { bad := 1 })] }) [(ACT_STAT_STATE m, 4)]], s.quiet =
      true ∧ s.allUp = true ∧ actState s m = 4 ∧ ((actEntry s m (stepPhases (s.fld (ACT_STAT_STEP m))).2.2).1 && (actEntry s m
      3).1) = false ∧ 1 ≤ (s.actOf m).bad) ∧
    (∃ m ∈ ([0] : List (Fin 4)), ∃ t ∈ ([100] : List (Nat)), ∃ e1 ∈ ([(Int.negSucc 0)] : List (Int)), ∃ s ∈ [upd (fun t =>
      { t with act := [(0, { last := some (50, -1), zc := 100 })] }) [(ACT_STAT_STATE m, 4), (ACT_STAT_STEP 0, 1),
      (RES_FLAGS_VALID (adcMirror 0 1), 1), (RES_FLAGS_VALID (adcMirror 0 3), 1), (RES_RAW (adcMirror 0 1), 1), (RES_RAW
      (adcMirror 0 3), 2), (RES_TLO_T_LO (adcMirror 0 1), 100)]], s.quiet = true ∧ s.allUp = true ∧ actState s m = 4 ∧
      (stepPhases (s.fld (ACT_STAT_STEP m))).2.2 = (1 : Nat) ∧ actEntry s m (1 : Nat) = (true, (1 : Nat), t) ∧ actEntry s m 3 =
      (true, 2 * (1 : Nat), (actEntry s m 3).2.2) ∧ (s.actOf m).last = some ((50 : Nat), e1) ∧ e1 < 0 ∧ (50 : Nat) ≤ t ∧
      (s.actOf m).comAt ≤ t ∧ s.fld (ACT_SENSE_BLANK m) * (s.actOf m).tau ≤ 64 * (t - (s.actOf m).comAt) ∧ stepRising (actRev s
      m) (s.fld (ACT_STAT_STEP m)) = true ∧ inWindow s m (2 * t) (2 * ((s.actOf m).zc + (s.actOf m).tau)) (s.actOf m).tau =
      true) ∧
    (∃ m ∈ ([0] : List (Fin 4)), ∃ c ∈ [(7 : Nat)], ∃ a ∈ [(2 : Nat)], ∃ t ∈ [(3 : Nat)], ∃ l ∈ [([] : List (Nat × Nat × Nat))],
      ∃ s ∈ [upd (fun t => { t with act := [(0, { fifo := [(7, 2, 3)] })] }) []], s.quiet = true ∧ s.allUp = true ∧ (s.actOf
      m).fifo = (c, a, t) :: l) :=
  by refine ⟨?_, ?_, ?_, ?_, ?_, ?_, ?_, ?_, ?_, ?_, ?_, ?_, ?_, ?_, ?_, ?_, ?_, ?_, ?_, ?_, ?_, ?_, ?_, ?_, ?_, ?_, ?_, ?_, ?_,
    ?_, ?_, ?_, ?_, ?_, ?_, ?_, ?_, ?_, ?_⟩ <;> decide

theorem witness_ConverterSlots :
    (∃ m ∈ ([0] : List (Fin 4)), ∃ s ∈ [st [(CNV_C_CFG_EN m, 0)]], s.quiet = true ∧ s.allUp = true ∧ s.flag (CNV_C_CFG_EN m) =
      false ∧ (11 < bitsOf (48 * 2 ^ 25 : Word).toNat 20 4 ∨ 11 < bitsOf (48 * 2 ^ 25 : Word).toNat 2 4 ∨ 47 < bitsOf (48 * 2 ^
      25 : Word).toNat 25 6)) ∧
    (∃ m ∈ ([0] : List (Fin 4)), ∃ s ∈ [st [(CNV_C_CFG_EN m, 0), (CNV_LOCK, 0), (PWM_LEG_CFG_GROUP 35, 11), (PWM_GRP_CTRL_MODE
      11, 2), (PWM_GRP_CTRL_UPD 11, 3), (LE_G_GRP_ENGINE 11, 0)]], s.quiet = true ∧ s.allUp = true ∧ s.flag (CNV_C_CFG_EN m) =
      false ∧ s.flag CNV_LOCK = false ∧ bitsOf (46 : Word).toNat 20 4 ≤ 11 ∧ bitsOf (46 : Word).toNat 2 4 ≤ 11 ∧ bitsOf (46 :
      Word).toNat 25 6 ≤ 47 ∧ cnvSlotStatus (writeFields s cnvErr (0x60048000 + m.val * 0x80) (setBit (46 : Word).toNat 0)).1 m
      = .OK ∧ cnvLatched (writeFields s cnvErr (0x60048000 + m.val * 0x80) (setBit (46 : Word).toNat 0)).1 m = false ∧ s.safe
      (bitsOf (46 : Word).toNat 2 4) = false) ∧
    (∃ m ∈ ([0] : List (Fin 4)), ∃ s ∈ [st [(CNV_C_CFG_EN m, 1)]], s.quiet = true ∧ s.allUp = true ∧ s.flag (CNV_C_CFG_EN m) =
      true ∧ changesRwl s (0x60048000 + m.val * 0x80) (clearBit (0 : Word).toNat 0) = false ∧ bitsOf (0 : Word).toNat 20 4 ≤ 11
      ∧ bitsOf (0 : Word).toNat 2 4 ≤ 11 ∧ bitsOf (0 : Word).toNat 25 6 ≤ 47) ∧
    (∃ m ∈ ([0] : List (Fin 4)), ∃ s ∈ [st [(CNV_C_STAT_STATE m, 2)]], s.quiet = true ∧ s.allUp = true ∧ cnvState s m ≠ 1) ∧
    (∃ m ∈ ([0] : List (Fin 4)), ∃ s ∈ [st [(CNV_C_STAT_STATE m, 1)]], s.quiet = true ∧ s.allUp = true ∧ cnvState s m = 1 ∧
      s.running (cnvGroup s m) = false) ∧
    (∃ m ∈ ([0] : List (Fin 4)), ∃ s ∈ [st [(CNV_C_STAT_STATE m, 1), (PWM_GRP_STAT_STATE 0, 1), (CNV_C_CFG_GROUP 0, 0)]],
      s.quiet = true ∧ s.allUp = true ∧ cnvState s m = 1 ∧ s.running (cnvGroup s m) = true) ∧
    (∃ m ∈ ([0] : List (Fin 4)), ∃ s ∈ [st [(CNV_C_STAT_STATE 0, 4)]], s.quiet = true ∧ s.allUp = true ∧ 2 ≤ cnvState s m ∧
      cnvState s m ≤ 4) ∧
    (∃ m ∈ ([0] : List (Fin 4)), ∃ s ∈ [st []], s.quiet = true ∧ s.allUp = true ∧ (cnvState s m < 2 ∨ 4 < cnvState s m)) ∧
    (∃ m ∈ ([0] : List (Fin 4)), ∃ s ∈ [st [(CNV_C_STAT_STATE m, 6)]], s.quiet = true ∧ s.allUp = true ∧ cnvState s m ≠ 5) ∧
    (∃ m ∈ ([0] : List (Fin 4)), ∃ s ∈ [st [(CNV_C_STAT_STATE m, 5)]], s.quiet = true ∧ s.allUp = true ∧ cnvState s m = 5 ∧
      (cnvLatched s m = true ∨ s.running (cnvGroup s m) = false)) ∧
    (∃ m ∈ ([0] : List (Fin 4)), ∃ s ∈ [st [(CNV_C_STAT_STATE m, 5), (CNV_C_STAT_STATE 0, 5), (PWM_GRP_STAT_STATE 0, 1)]],
      s.quiet = true ∧ s.allUp = true ∧ cnvState s m = 5 ∧ cnvLatched s m = false ∧ s.running (cnvGroup s m) = true) ∧
    (∃ m ∈ ([0] : List (Fin 4)), ∃ s ∈ [st [(CNV_C_STAT_STATE m, 3)]], s.quiet = true ∧ s.allUp = true ∧ (cnvState s m ≠ 2 ∨
      (s.cnvOf m).ref = (s.cnvOf m).target)) ∧
    (∃ m ∈ ([0] : List (Fin 4)), ∃ s ∈ [upd (fun t => { t with cnv := [(0, { target := 1 })] }) [(CNV_C_STAT_STATE m, 2)]],
      s.quiet = true ∧ s.allUp = true ∧ cnvState s m = 2 ∧ (s.cnvOf m).ref < (s.cnvOf m).target) ∧
    (∃ m ∈ ([0] : List (Fin 4)), ∃ s ∈ [st [(CNV_C_STAT_STATE m, 3)]], s.quiet = true ∧ s.allUp = true ∧ (cnvState s m ≠ 2 ∨
      (s.cnvOf m).ref ≠ (s.cnvOf m).target)) ∧
    (∃ m ∈ ([0] : List (Fin 4)), ∃ s ∈ [st [(CNV_C_STAT_STATE m, 2)]], s.quiet = true ∧ s.allUp = true ∧ cnvState s m = 2 ∧
      (s.cnvOf m).ref = (s.cnvOf m).target ∧ (s.cnvOf m).target ≤ 131072 * s.fld (CNV_C_VOUT_CODE m)) ∧
    (∃ m ∈ ([0] : List (Fin 4)), ∃ s ∈ [upd (fun t => { t with cnv := [(0, { ref := 1, target := 1 })] }) [(CNV_C_STAT_STATE m,
      2), (CNV_C_STAT_TRY m, 4), (CNV_C_VOUT_CODE 0, 0), (CNV_C_STAT_TRY 0, 2)]], s.quiet = true ∧ s.allUp = true ∧ cnvState s m
      = 2 ∧ (s.cnvOf m).ref = (s.cnvOf m).target ∧ 131072 * s.fld (CNV_C_VOUT_CODE m) < (s.cnvOf m).target ∧ s.fld
      (CNV_C_STAT_TRY m) ≠ 3) ∧
    (∃ m ∈ ([0] : List (Fin 4)), ∃ s ∈ [upd (fun t => { t with cnv := [(0, { ref := 1, target := 1 })] }) [(CNV_C_STAT_STATE m,
      2), (CNV_C_STAT_TRY m, 3), (CNV_C_VOUT_CODE 0, 0), (CNV_C_STAT_TRY 0, 3)]], s.quiet = true ∧ s.allUp = true ∧ cnvState s m
      = 2 ∧ (s.cnvOf m).ref = (s.cnvOf m).target ∧ 131072 * s.fld (CNV_C_VOUT_CODE m) < (s.cnvOf m).target ∧ s.fld
      (CNV_C_STAT_TRY m) = 3) ∧
    (∃ m ∈ ([0] : List (Fin 4)), ∃ s ∈ [st [(CNV_C_STAT_STATE m, 0)]], s.quiet = true ∧ s.allUp = true ∧ cnvState s m = 0) ∧
    (∃ m ∈ ([0] : List (Fin 4)), ∃ s ∈ [st [(CNV_C_STAT_STATE m, 1), (CNV_C_STAT_STATE m, 5)]], s.quiet = true ∧ s.allUp = true
      ∧ (adcMirror (s.fld (CNV_C_CFG_ADC m)) (s.fld (CNV_C_CFG_VOUT_ENTRY m))) = adcMirror (s.fld (CNV_C_CFG_ADC m)) (s.fld
      (CNV_C_CFG_VOUT_ENTRY m)) ∧ cnvState s m ≠ 0 ∧ (s.flag (RES_FLAGS_VALID (adcMirror (s.fld (CNV_C_CFG_ADC m)) (s.fld
      (CNV_C_CFG_VOUT_ENTRY m)))) = false ∨ s.flag (RES_FLAGS_FAULT (adcMirror (s.fld (CNV_C_CFG_ADC m)) (s.fld
      (CNV_C_CFG_VOUT_ENTRY m)))) = true) ∧ cnvState s m = 5) ∧
    (∃ m ∈ ([0] : List (Fin 4)), ∃ b ∈ [(adcMirror 0 0)], ∃ s ∈ [upd (fun t => { t with cnv := [(0, { bad := 1 })] })
      [(CNV_C_STAT_STATE m, 1), (RES_FLAGS_VALID b, 0), (CNV_C_STAT_STATE m, 6), (CNV_C_STAT_STATE 0, 3)]], s.quiet = true ∧
      s.allUp = true ∧ b = adcMirror (s.fld (CNV_C_CFG_ADC m)) (s.fld (CNV_C_CFG_VOUT_ENTRY m)) ∧ cnvState s m ≠ 0 ∧ (s.flag
      (RES_FLAGS_VALID b) = false ∨ s.flag (RES_FLAGS_FAULT b) = true) ∧ cnvState s m ≠ 5 ∧ 1 ≤ (s.cnvOf m).bad) ∧
    (∃ m ∈ ([0] : List (Fin 4)), ∃ b ∈ [(adcMirror 0 0)], ∃ s ∈ [st [(CNV_C_STAT_STATE m, 1), (RES_FLAGS_VALID b, 0),
      (CNV_C_STAT_STATE m, 6), (CNV_C_STAT_STATE 0, 3)]], s.quiet = true ∧ s.allUp = true ∧ b = adcMirror (s.fld (CNV_C_CFG_ADC
      m)) (s.fld (CNV_C_CFG_VOUT_ENTRY m)) ∧ cnvState s m ≠ 0 ∧ (s.flag (RES_FLAGS_VALID b) = false ∨ s.flag (RES_FLAGS_FAULT b)
      = true) ∧ cnvState s m ≠ 5 ∧ (s.cnvOf m).bad = 0) ∧
    (∃ m ∈ ([0] : List (Fin 4)), ∃ b ∈ [(adcMirror 0 0)], ∃ s ∈ [st [(CNV_C_STAT_STATE m, 1), (RES_FLAGS_VALID b, 1),
      (RES_FLAGS_FAULT b, 0), (CNV_C_STAT_STATE 0, 5), (RES_FLAGS_VALID (adcMirror 0 0), 1)]], s.quiet = true ∧ s.allUp = true ∧
      b = adcMirror (s.fld (CNV_C_CFG_ADC m)) (s.fld (CNV_C_CFG_VOUT_ENTRY m)) ∧ cnvState s m ≠ 0 ∧ s.flag (RES_FLAGS_VALID b) =
      true ∧ s.flag (RES_FLAGS_FAULT b) = false) ∧
    (∃ m ∈ ([0] : List (Fin 4)), ∃ c ∈ ([0] : List (Fin 5)), ∃ s ∈ [st [(CNV_C_STAT_STATE m, 0)]], s.quiet = true ∧ s.allUp =
      true ∧ c.val = m.val ∧ cnvState s m = 0) ∧
    (∃ m ∈ ([0] : List (Fin 4)), ∃ c ∈ ([0] : List (Fin 5)), ∃ s ∈ [st [(CNV_C_STAT_STATE m, 1)]], s.quiet = true ∧ s.allUp =
      true ∧ c.val = m.val ∧ cnvState s m ≠ 0 ∧ ((s.grpOf (cnvGroup s m)).prevRan && ((s.grpOf (cnvGroup s m)).prevTrip ||
      (s.cnvOf m).limStart)) = false) ∧
    (∃ m ∈ ([0] : List (Fin 4)), ∃ c ∈ ([0] : List (Fin 5)), ∃ s ∈ [upd (fun t =>
      { t with grp := [(0, { prevRan := true, prevTrip := true })] }) [(CNV_C_STAT_STATE m, 1), (CNV_C_STAT_STATE 0, 3),
      (CNV_C_IOUT_LIM_RUN 0, 62), (CNV_C_CFG_GROUP 0, 0)]], s.quiet = true ∧ s.allUp = true ∧ c.val = m.val ∧ cnvState s m ≠ 0 ∧
      ((s.grpOf (cnvGroup s m)).prevRan && ((s.grpOf (cnvGroup s m)).prevTrip || (s.cnvOf m).limStart)) = true ∧ s.fld
      (CNV_C_IOUT_LIM_RUN m) < 63) ∧
    (∃ m ∈ ([0] : List (Fin 4)), ∃ c ∈ ([0] : List (Fin 5)), ∃ s ∈ [upd (fun t =>
      { t with grp := [(0, { prevRan := true, prevTrip := true })] }) [(CNV_C_STAT_STATE m, 2), (CNV_C_IOUT_LIM_RUN m, 63),
      (CNV_C_STAT_STATE 0, 3), (CNV_C_IOUT_LIM_RUN 0, 63), (CNV_C_CFG_GROUP 0, 0)]], s.quiet = true ∧ s.allUp = true ∧ c.val =
      m.val ∧ (cnvState s m = 2 ∨ cnvState s m = 3) ∧ ((s.grpOf (cnvGroup s m)).prevRan && ((s.grpOf (cnvGroup s m)).prevTrip ||
      (s.cnvOf m).limStart)) = true ∧ 63 ≤ s.fld (CNV_C_IOUT_LIM_RUN m)) ∧
    (∃ m ∈ ([0] : List (Fin 4)), ∃ s ∈ [st [(CNV_C_STAT_STATE m, 5)]], s.quiet = true ∧ s.allUp = true ∧ cnvState s m ≠ 4) ∧
    (∃ m ∈ ([0] : List (Fin 4)), ∃ s ∈ [st [(CNV_C_STAT_STATE m, 4)]], s.quiet = true ∧ s.allUp = true ∧ cnvState s m = 4) ∧
    (∃ s ∈ [st []], s.quiet = true ∧ s.allUp = true) ∧
    (∃ m ∈ ([0] : List (Fin 4)), ∃ s ∈ [st []], s.quiet = true ∧ s.allUp = true ∧ (cnvActive s m = false ∨ s.flag
      (CNV_C_STAT_RELEASE m) = false)) ∧
    (∃ m ∈ ([0] : List (Fin 4)), ∃ s ∈ [st [(CNV_C_STAT_RELEASE m, 1), (CNV_C_STAT_STATE 0, 2)]], s.quiet = true ∧ s.allUp =
      true ∧ cnvActive s m = true ∧ s.flag (CNV_C_STAT_RELEASE m) = true) ∧
    (∃ m ∈ ([0] : List (Fin 4)), ∃ s ∈ [st [(CNV_C_SHED_SHED_EN m, 0)]], s.quiet = true ∧ s.allUp = true ∧ (s.flag
      (CNV_C_SHED_SHED_EN m) = false ∨ s.fld (CNV_C_STAT_NACT m) ≤ s.fld (CNV_C_SHED_NMIN m))) ∧
    (∃ m ∈ ([0] : List (Fin 4)), ∃ s ∈ [st [(CNV_C_STAT_STATE m, 3), (CNV_C_SHED_SHED_EN m, 1), (CNV_C_STAT_RELEASE m, 0),
      (CNV_C_CFG_TYPE 0, 1), (CNV_C_SHED_NMIN 0, 1), (CNV_C_STAT_NACT 0, 2), (CNV_C_SHTH_I_SHED 0, 1)]], s.quiet = true ∧
      s.allUp = true ∧ cnvState s m = 3 ∧ cnvBuck s m = true ∧ s.flag (CNV_C_SHED_SHED_EN m) = true ∧ s.flag (CNV_C_STAT_RELEASE
      m) = false ∧ s.fld (CNV_C_SHED_NMIN m) < s.fld (CNV_C_STAT_NACT m) ∧ s.fld (CNV_C_STAT_NACT m) ≤ 6 ∧ currentBelow s m
      ((s.fld (CNV_C_STAT_NACT m) - 1) * s.fld (CNV_C_SHTH_I_SHED m)) = true) ∧
    (∃ m ∈ ([0] : List (Fin 4)), ∃ s ∈ [st [(CNV_C_CFG_EN m, 0)]], s.quiet = true ∧ s.allUp = true ∧ s.flag (CNV_C_CFG_EN m) =
      false) ∧
    (∃ m ∈ ([0] : List (Fin 4)), ∃ s ∈ [st [(CNV_C_CFG_EN m, 1)]], s.quiet = true ∧ s.allUp = true ∧ s.flag (CNV_C_CFG_EN m) =
      true) :=
  by refine ⟨?_, ?_, ?_, ?_, ?_, ?_, ?_, ?_, ?_, ?_, ?_, ?_, ?_, ?_, ?_, ?_, ?_, ?_, ?_, ?_, ?_, ?_, ?_, ?_, ?_, ?_, ?_, ?_, ?_,
    ?_, ?_, ?_, ?_, ?_, ?_⟩ <;> decide

theorem witness_ChargerInputs :
    (∃ s ∈ [st [(CHG_CFG_EN, 0)]], s.quiet = true ∧ s.allUp = true ∧ s.flag CHG_CFG_EN = false ∧ 11 < bitsOf (12 * 2 ^ 28 :
      Word).toNat 28 4) ∧
    (∃ s ∈ [upd (fun t => { t with words := [(progAddr 0 4, 3), (progAddr 1 4, 5)] }) [(CHG_CFG_EN, 0), (CHG_LOCK, 0),
      (PWM_LEG_CFG_GROUP 0, 11), (PWM_LEG_CFG_GROUP 1, 11), (PWM_LEG_CFG_GROUP 2, 10), (PWM_LEG_CFG_GROUP 3, 10),
      (PWM_LEG_CFG_GROUP 4, 10), (PWM_LEG_CFG_GROUP 5, 10), (PWM_GRP_CTRL_MODE 11, 1), (PWM_GRP_CTRL_UPD 11, 3),
      (PWM_GRP_CTRL_MODE 10, 2), (PWM_GRP_CTRL_UPD 10, 3), (LE_STAT_STATE 0, 2), (LE_STAT_STATE 1, 2), (LE_G_GRP_ENGINE 11,
      0)]], s.quiet = true ∧ s.allUp = true ∧ s.flag CHG_CFG_EN = false ∧ s.flag CHG_LOCK = false ∧ bitsOf (11 * 2 + 10 * 2 ^ 10
      + 2 ^ 14 + 15 * 2 ^ 19 : Word).toNat 28 4 ≤ 11 ∧ bitsOf (11 * 2 + 10 * 2 ^ 10 + 2 ^ 14 + 15 * 2 ^ 19 : Word).toNat 1 4 ≤
      11 ∧ bitsOf (11 * 2 + 10 * 2 ^ 10 + 2 ^ 14 + 15 * 2 ^ 19 : Word).toNat 10 4 ≤ 11 ∧ (bitsOf (11 * 2 + 10 * 2 ^ 10 + 2 ^ 14
      + 15 * 2 ^ 19 : Word).toNat 19 4 ≤ 11 ∨ bitsOf (11 * 2 + 10 * 2 ^ 10 + 2 ^ 14 + 15 * 2 ^ 19 : Word).toNat 19 4 = 15) ∧
      chgStatus (writeFields s chgErr 0x60050000 (setBit (11 * 2 + 10 * 2 ^ 10 + 2 ^ 14 + 15 * 2 ^ 19 : Word).toNat 0)).1 = .OK) ∧
    (∃ s ∈ [st [(CHG_CFG_EN, 0)]], s.quiet = true ∧ s.allUp = true ∧ s.flag CHG_CFG_EN = false) ∧
    (∃ r ∈ [(0 : Nat)], ∃ s ∈ [upd (fun t => { t with chg := { rise := some 0 }, mtime := 1 }) [(CHG_CFG_EN, 1)]], s.quiet =
      true ∧ s.allUp = true ∧ s.flag CHG_CFG_EN = true ∧ s.chg.rise = some r ∧ r < s.mtime) ∧
    (∃ s ∈ [st [(CHG_CFG_EN, 1)]], s.quiet = true ∧ s.allUp = true ∧ s.flag CHG_CFG_EN = true) ∧
    (∃ b ∈ [(adcMirror 0 16)], ∃ s ∈ [st [(RES_FLAGS_VALID b, 0)]], s.quiet = true ∧ s.allUp = true ∧ b = adcMirror (s.fld
      CHG_SENSE_PILOT_ADC) 16 ∧ (s.flag (RES_FLAGS_VALID b) = false ∨ s.flag (RES_FLAGS_FAULT b) = true)) ∧
    (∃ b ∈ [(adcMirror 0 16)], ∃ s ∈ [upd (fun t => { t with chg := { wantLow := true } }) [(CHG_CFG_EN, 1), (RES_FLAGS_VALID b,
      1), (RES_FLAGS_FAULT b, 0), (RES_FLAGS_VALID (adcMirror 0 16), 1)]], s.quiet = true ∧ s.allUp = true ∧ b = adcMirror
      (s.fld CHG_SENSE_PILOT_ADC) 16 ∧ s.flag CHG_CFG_EN = true ∧ s.flag (RES_FLAGS_VALID b) = true ∧ s.flag (RES_FLAGS_FAULT b)
      = false ∧ s.chg.wantLow = true) ∧
    (∃ b ∈ [(adcMirror 0 16)], ∃ l ∈ [(2 : Nat)], ∃ s ∈ [upd (fun t =>
      { t with chg := { cand := 6, period := 400000, lowOk := true } }) [(CHG_CFG_EN, 1), (RES_FLAGS_VALID b, 1),
      (RES_FLAGS_FAULT b, 0), (CHG_PILOT_STEADY, 1), (RES_FLAGS_VALID (adcMirror 0 16), 1), (RES_RAW (adcMirror 0 16), 3030)]],
      s.quiet = true ∧ s.allUp = true ∧ b = adcMirror (s.fld CHG_SENSE_PILOT_ADC) 16 ∧ s.flag CHG_CFG_EN = true ∧ s.flag
      (RES_FLAGS_VALID b) = true ∧ s.flag (RES_FLAGS_FAULT b) = false ∧ s.chg.wantLow = false ∧ (s.flag CHG_PILOT_STEADY = true
      ∨ s.chg.period ≠ 0) ∧ (l = (if s.flag CHG_PILOT_STEADY = false ∧ (s.chg.lowOk = false ∨ pilotFreqOk s.chg.period = false)
      then 6 else pilotLevel (pilotVolts (s.fld (RES_RAW b) % 2 ^ 12)) (s.flag CHG_PILOT_STEADY))) ∧ s.chg.cand ≠ l) ∧
    (∃ b ∈ [(adcMirror 0 16)], ∃ l ∈ [(2 : Nat)], ∃ s ∈ [upd (fun t =>
      { t with chg := { cand := 2, agree := 2, period := 400000, lowOk := true } }) [(CHG_CFG_EN, 1), (RES_FLAGS_VALID b, 1),
      (RES_FLAGS_FAULT b, 0), (CHG_PILOT_STEADY, 1), (RES_FLAGS_VALID (adcMirror 0 16), 1), (RES_RAW (adcMirror 0 16), 3030)]],
      s.quiet = true ∧ s.allUp = true ∧ b = adcMirror (s.fld CHG_SENSE_PILOT_ADC) 16 ∧ s.flag CHG_CFG_EN = true ∧ s.flag
      (RES_FLAGS_VALID b) = true ∧ s.flag (RES_FLAGS_FAULT b) = false ∧ s.chg.wantLow = false ∧ (s.flag CHG_PILOT_STEADY = true
      ∨ s.chg.period ≠ 0) ∧ (l = (if s.flag CHG_PILOT_STEADY = false ∧ (s.chg.lowOk = false ∨ pilotFreqOk s.chg.period = false)
      then 6 else pilotLevel (pilotVolts (s.fld (RES_RAW b) % 2 ^ 12)) (s.flag CHG_PILOT_STEADY))) ∧ s.chg.cand = l ∧ 2 ≤
      s.chg.agree) ∧
    (∃ b ∈ [(adcMirror 0 0)], ∃ s ∈ [st [(CHG_CFG_EN, 1), (RES_FLAGS_VALID b, 0)]], s.quiet = true ∧ s.allUp = true ∧ b =
      adcMirror (s.fld CHG_SENSE_PP_ADC) (s.fld CHG_SENSE_PP_ENTRY) ∧ s.flag CHG_CFG_EN = true ∧ (s.flag (RES_FLAGS_VALID b) =
      false ∨ s.flag (RES_FLAGS_FAULT b) = true)) ∧
    (∃ b ∈ [(adcMirror 0 0)], ∃ s ∈ [st [(CHG_CFG_EN, 1), (RES_FLAGS_VALID b, 1), (RES_FLAGS_FAULT b, 0), (RES_FLAGS_VALID
      (adcMirror 0 0), 1)]], s.quiet = true ∧ s.allUp = true ∧ b = adcMirror (s.fld CHG_SENSE_PP_ADC) (s.fld CHG_SENSE_PP_ENTRY)
      ∧ s.flag CHG_CFG_EN = true ∧ s.flag (RES_FLAGS_VALID b) = true ∧ s.flag (RES_FLAGS_FAULT b) = false) ∧
    (∃ s ∈ [upd (fun t => { t with chg := { band := some 1 } }) [(CHG_CFG_EN, 1)]], s.quiet = true ∧ s.allUp = true ∧ s.flag
      CHG_CFG_EN = true ∧ s.chg.band.isSome = true) ∧
    (∃ s ∈ [st [(CHG_CFG_EN, 1)]], s.quiet = true ∧ s.allUp = true ∧ s.flag CHG_CFG_EN = true ∧ s.chg.band = none) ∧
    (∃ s ∈ [st [(CHG_CFG_EN, 1), (CHG_STAT_STATE, 3), (CHG_STAT_SESSION_OPEN, 1)]], s.quiet = true ∧ s.allUp = true ∧ s.flag
      CHG_CFG_EN = true ∧ (chgState s = 3 ∨ chgState s = 4) ∧ s.flag CHG_STAT_SESSION_OPEN = true) ∧
    (∃ p ∈ ([0] : List (Fin 12)), ∃ s ∈ [st [(CHG_CFG_EN, 1), (CHG_STAT_STATE, 3), (CHG_STAT_SESSION_OPEN, 1),
      (CHG_STAT_SESSION_OPEN, 1), (CHG_STAT_STATE, 3)]], s.quiet = true ∧ s.allUp = true ∧ s.flag CHG_CFG_EN = true ∧ (chgState
      s = 3 ∨ chgState s = 4) ∧ s.flag CHG_STAT_SESSION_OPEN = true ∧ (freqOk s = false ∨ (∃ p : Fin 3, s.chg.lines.testBit p =
      true ∧ rmsOf s p < volts 70))) ∧
    (∃ s ∈ [st []], s.quiet = true ∧ s.allUp = true ∧ (chgState s < 2 ∨ (4 < chgState s ∧ sameEvaluation s = false))) ∧
    (∃ p ∈ ([0] : List (Fin 12)), ∃ s ∈ [upd (fun t =>
      { t with chg := { lines := 1 }, words := [(dataAddr 0 0x86, 50), (dataAddr 0 0x87, 35 * 2 ^ 24), (dataAddr 0 0x80, 230), (dataAddr 0 0x81, 35 * 2 ^ 24)] })
      [(CHG_CFG_EN, 1), (CHG_CFG_EN, 1)]], s.quiet = true ∧ s.allUp = true ∧ s.flag CHG_CFG_EN = true ∧ freqOk s = true ∧
      s.chg.lines ≠ 0 ∧ ((∀ p : Fin 3, s.chg.lines.testBit p = true → volts 70 ≤ rmsOf s p))) ∧
    (∃ s ∈ [st []], s.quiet = true ∧ s.allUp = true ∧ (chgState s ≠ 2 ∨ s.chg.ramping = true)) ∧
    (∃ s ∈ [upd (fun t =>
      { t with words := [(progAddr 0 4, 3), (dataAddr 0 0x80, 230), (dataAddr 0 0x81, 35 * 2 ^ 24), (dataAddr 0 0x86, 50), (dataAddr 0 0x87, 35 * 2 ^ 24)] })
      [(CHG_STAT_STATE, 2), (CHG_PFC_BUS_SET, 4000)]], s.quiet = true ∧ s.allUp = true ∧ chgState s = 2 ∧ s.chg.ramping = false
      ∧ mainsGood s = true ∧ mainsSupported s = true) ∧
    (∃ s ∈ [upd (fun t =>
      { t with words := [(progAddr 0 4, 3), (dataAddr 0 0x80, 230), (dataAddr 0 0x81, 35 * 2 ^ 24), (dataAddr 0 0x86, 50), (dataAddr 0 0x87, 35 * 2 ^ 24)] })
      [(CHG_STAT_STATE, 2), (CHG_PFC_BUS_SET, 300)]], s.quiet = true ∧ s.allUp = true ∧ chgState s = 2 ∧ s.chg.ramping = false ∧
      mainsGood s = true ∧ mainsSupported s = false) ∧
    (∃ s ∈ [st [(CHG_STAT_STATE, 2)]], s.quiet = true ∧ s.allUp = true ∧ chgState s = 2 ∧ s.chg.ramping = false) ∧
    (∃ s ∈ [st []], s.quiet = true ∧ s.allUp = true ∧ (chgState s ≠ 2 ∨ s.chg.ramping = false)) ∧
    (∃ s ∈ [upd (fun t =>
      { t with chg := { ramping := true }, words := [(dataAddr 0 0x40, 70), (dataAddr 0 0x41, 35 * 2 ^ 24)] }) [(CHG_STAT_STATE,
      2), (CHG_STAT_PLUG, 1), (PWR_MODE, 4), (CHG_PFC_BUS_SET, 700), (CHG_PILOT_STATE, 2), (CHG_PILOT_DUTY, 300),
      (CHG_STAT_PLUG, 1)]], s.quiet = true ∧ s.allUp = true ∧ chgState s = 2 ∧ s.chg.ramping = true ∧ within2 s (pfcEng s) 0x040
      (s.fld CHG_PFC_BUS_SET) = true ∧ s.chg.resume = false ∧ pilotAllows s = true ∧ s.flag CHG_STAT_PLUG = true ∧ s.mode ≠ 3) :=
  by refine ⟨?_, ?_, ?_, ?_, ?_, ?_, ?_, ?_, ?_, ?_, ?_, ?_, ?_, ?_, ?_, ?_, ?_, ?_, ?_, ?_, ?_, ?_, ?_⟩ <;> decide

theorem witness_ChargerSession :
    (∃ s ∈ [st []], s.quiet = true ∧ (chgState s ≠ 3 ∨ s.flag CHG_PULSE_PULSE_EN = false)) ∧
    (∃ s ∈ [st [(CHG_STAT_STATE, 3), (CHG_PULSE_PULSE_EN, 1)]], s.quiet = true ∧ chgState s = 3 ∧ s.flag CHG_PULSE_PULSE_EN =
      true) ∧
    (∃ s ∈ [st []], s.quiet = true ∧ chgState s ≠ 4) ∧
    (∃ ocv ∈ ([37000] : List (Nat)), ∃ early ∈ ([36900] : List (Nat)), ∃ s ∈ [st [(CHG_STAT_STATE, 4), (CHG_STAT_STATE, 4)]],
      s.quiet = true ∧ chgState s = 4 ∧ ocv % 10 = 0 ∧ ocv < 655360 ∧ -32768 ≤ (ocv : Int) - early ∧ (ocv : Int) - early <
      32768) ∧
    (∃ s ∈ [st []], s.quiet = true ∧ s.chg.edge = none) ∧
    (∃ ma ∈ ([0] : List (Int)), ∃ t ∈ [(0 : Nat)], ∃ s ∈ [upd (fun t => { t with chg := { edge := some (true, 0) } }) []],
      s.quiet = true ∧ s.chg.edge = some (true, t) ∧ ma.natAbs < 1000) ∧
    (∃ mv ∈ ([0] : List (Int)), ∃ ma ∈ ([1000] : List (Int)), ∃ t ∈ [(0 : Nat)], ∃ s ∈ [upd (fun t =>
      { t with chg := { edge := some (false, 0) } }) [(CHG_SET_I_SET, 100)]], s.quiet = true ∧ s.chg.edge = some (false, t) ∧
      1000 ≤ ma ∧ 10 * effectiveSet s ≤ ma.natAbs * 256 ∧ s.chg.redMoved = false ∧ 0 ≤ mv ∧ mv ≤ ma) ∧
    (∃ s ∈ [st [(CHG_CFG_EN, 0)]], s.quiet = true ∧ s.flag CHG_CFG_EN = false) ∧
    (∃ s ∈ [st [(CHG_CFG_EN, 1)]], s.quiet = true ∧ s.flag CHG_CFG_EN = true) ∧
    (∃ s ∈ [st []], s.quiet = true ∧ ((chgState s ≠ 3 ∧ sameEvaluation s = false) ∨ s.flag CHG_STAT_CV = false ∨ s.fld
      CHG_LIM_I_TERM = 0)) ∧
    (∃ s ∈ [st [(CHG_STAT_STATE, 3), (CHG_STAT_CV, 1), (CHG_LIM_I_TERM, 1)]], s.quiet = true ∧ chgState s = 3 ∧ s.flag
      CHG_STAT_CV = true ∧ s.fld CHG_LIM_I_TERM ≠ 0 ∧ signedOf 16 (s.fld CHG_BAT_I) < s.fld CHG_LIM_I_TERM) ∧
    (∃ s ∈ [st [(CHG_CFG_EN, 1)]], s.quiet = true ∧ s.flag CHG_CFG_EN = true ∧ chgState s ≠ 3 ∧ chgState s ≠ 4 ∧ sameEvaluation
      s = false) ∧
    (∃ s ∈ [st [(CHG_CFG_EN, 1), (CHG_STAT_STATE, 3)]], s.quiet = true ∧ s.flag CHG_CFG_EN = true ∧ chgState s = 3) ∧
    (∃ s ∈ [upd (fun t => { t with chg := { rate := 2 } }) [(CHG_CFG_EN, 1), (CHG_STAT_STATE, 4), (CHG_TMR_CFG_TIMER_MAX, 1)]],
      s.quiet = true ∧ s.flag CHG_CFG_EN = true ∧ chgState s = 4 ∧ s.chg.rate ≤ 2 ∧ s.chg.elapsed + s.chg.rate < 240 * s.fld
      CHG_TMR_CFG_TIMER_MAX) ∧
    (∃ s ∈ [st []], s.quiet = true ∧ chgState s ≠ 5) ∧
    (∃ c ∈ [(3 : Nat)], ∃ s ∈ [upd (fun t => { t with chg := { after := .standby 3 } }) [(CHG_STAT_STATE, 5), (PWR_MODE, 3)]],
      s.quiet = true ∧ chgState s = 5 ∧ s.chg.after = .standby c ∧ (s.mode = 3 ∨ s.mode = 4)) ∧
    (∃ s ∈ [upd (fun t => { t with chg := { after := .unplugged } }) [(CHG_STAT_STATE, 5)]], s.quiet = true ∧ chgState s = 5 ∧
      s.chg.after = .unplugged) ∧
    (∃ s ∈ [upd (fun t => { t with chg := { after := .wait } }) [(CHG_STAT_STATE, 5), (CHG_STAT_PLUG, 1), (CHG_PILOT_STATE,
      1)]], s.quiet = true ∧ chgState s = 5 ∧ s.chg.after = .wait ∧ s.flag CHG_STAT_PLUG = true ∧ s.chg.plugOut = false ∧
      pilotFaulty s = false) ∧
    (∃ s ∈ [upd (fun t => { t with chg := { after := .paused } }) [(CHG_STAT_STATE, 5), (CHG_STAT_PLUG, 1), (CHG_PILOT_STATE,
      1)]], s.quiet = true ∧ chgState s = 5 ∧ s.chg.after = .paused ∧ s.flag CHG_STAT_PLUG = true ∧ pilotFaulty s = false ∧
      pilotAllows s = false) ∧
    (∃ s ∈ [upd (fun t => { t with chg := { after := .refused } }) [(CHG_STAT_STATE, 5)]], s.quiet = true ∧ chgState s = 5 ∧
      s.chg.after = .refused) ∧
    (∃ s ∈ [st []], s.quiet = true ∧ chgState s ≠ 6) ∧
    (∃ s ∈ [upd (fun t =>
      { t with chg := { phases := 1 }, words := [(progAddr 0 4, 3), (dataAddr 0 0x80, 230), (dataAddr 0 0x81, 35 * 2 ^ 24), (dataAddr 0 0x86, 50), (dataAddr 0 0x87, 35 * 2 ^ 24)] })
      [(CHG_STAT_STATE, 6), (CHG_STAT_PLUG, 1), (CHG_STAT_SESSION_OPEN, 1)]], s.quiet = true ∧ chgState s = 6 ∧ s.flag
      CHG_STAT_PLUG = true ∧ mainsGood s = true ∧ s.flag CHG_STAT_SESSION_OPEN = true ∧ s.chg.phases = livePhases s) ∧
    (∃ s ∈ [upd (fun t =>
      { t with words := [(progAddr 0 4, 3), (dataAddr 0 0x80, 230), (dataAddr 0 0x81, 35 * 2 ^ 24), (dataAddr 0 0x86, 50), (dataAddr 0 0x87, 35 * 2 ^ 24)] })
      [(CHG_STAT_STATE, 6), (CHG_STAT_PLUG, 1), (CHG_STAT_SESSION_OPEN, 0), (CHG_PFC_BUS_SET, 4000)]], s.quiet = true ∧ chgState
      s = 6 ∧ s.flag CHG_STAT_PLUG = true ∧ mainsGood s = true ∧ s.flag CHG_STAT_SESSION_OPEN = false ∧ mainsSupported s = true) ∧
    (∃ s ∈ [st [(CHG_STAT_STATE, 6), (PWR_MODE, 3), (CHG_STAT_SESSION_OPEN, 1)]], s.quiet = true ∧ chgState s = 6 ∧ s.mode = 3 ∧
      s.flag CHG_STAT_SESSION_OPEN = true) ∧
    (∃ s ∈ [st []], s.quiet = true ∧ (chgState s ≠ 8 ∨ s.flag CHG_STAT_EXP_READY = true)) ∧
    (∃ s ∈ [st [(CHG_STAT_STATE, 8), (CHG_STAT_EXP_READY, 0)]], s.quiet = true ∧ chgState s = 8 ∧ s.flag CHG_STAT_EXP_READY =
      false ∧ within2 s (dabEng s) 0x040 (s.fld CHG_EXP_EXP_V) = true) ∧
    (∃ s ∈ [st []], s.quiet = true ∧ s.allUp = true) ∧
    (∃ s ∈ [st []], s.quiet = true ∧ chgState s ≠ 8) ∧
    (∃ s ∈ [st [(CHG_STAT_STATE, 8)]], s.quiet = true ∧ chgState s = 8) ∧
    (∃ s ∈ [st []], s.quiet = true ∧ (chgState s ≠ 9 ∨ s.mode = 4)) ∧
    (∃ s ∈ [st [(CHG_STAT_STATE, 9), (PWR_MODE, 5)]], s.quiet = true ∧ chgState s = 9 ∧ s.mode ≠ 4 ∧ within2 s (bstEng s) 0x052
      (s.fld CHG_BST_ACC_V) = true) ∧
    (∃ s ∈ [st []], s.quiet = true ∧ chgState s ≠ 9) ∧
    (∃ s ∈ [upd (fun t => { t with chg := { limRun := 63 }, grp := [(0, { prevRan := true, prevTrip := true })] })
      [(CHG_STAT_STATE, 9), (PWR_MODE, 4), (CHG_CFG_BST_GRP, 0)]], s.quiet = true ∧ chgState s = 9 ∧ s.mode = 4 ∧ 63 ≤
      s.chg.limRun ∧ (s.grpOf (s.fld CHG_CFG_BST_GRP)).prevRan = true ∧ (s.grpOf (s.fld CHG_CFG_BST_GRP)).prevTrip = true) :=
  by refine ⟨?_, ?_, ?_, ?_, ?_, ?_, ?_, ?_, ?_, ?_, ?_, ?_, ?_, ?_, ?_, ?_, ?_, ?_, ?_, ?_, ?_, ?_, ?_, ?_, ?_, ?_, ?_, ?_, ?_,
    ?_, ?_, ?_, ?_⟩ <;> decide

theorem witness_ReleaseNeedsBothKeys :
    (∃ s ∈ [st []], s.quiet = true ∧ s.sag.rel = none) ∧
    (∃ s ∈ [upd (fun t => { t with sag := { rel := some (1, true, 0) } }) []], s.quiet = true ∧ s.sag.rel.isSome = true) ∧
    (∃ dev ∈ ([false] : List (Bool)), ∃ g ∈ [(1 : Nat)], ∃ e ∈ [false], ∃ t ∈ [(0 : Nat)], ∃ s ∈ [upd (fun t =>
      { t with sag := { rel := some (1, false, 0) }, mtime := 40001 }) []], s.quiet = true ∧ s.sag.rel = some (g, e, t) ∧ (g ≠
      (0 : BitVec 12).toNat ∨ e ≠ dev ∨ t + 40000 < s.mtime)) ∧
    (∃ dev ∈ ([false] : List (Bool)), ∃ t ∈ [(0 : Nat)], ∃ s ∈ [upd (fun t =>
      { t with sag := { rel := some (0, false, 0) }, mtime := 40000 }) []], s.quiet = true ∧ s.sag.rel = some ((0 : BitVec
      12).toNat, dev, t) ∧ s.mtime ≤ t + 40000) :=
  by refine ⟨?_, ?_, ?_, ?_⟩ <;> decide

theorem witness_SafetyInputsAndHeartbeat :
    (∃ s ∈ [st []], s.quiet = true) ∧
    (∃ s ∈ [st [(SAF_SIN_CFG_PAIR 14, 0)]], s.quiet = true ∧ s.flag (SAF_SIN_CFG_PAIR (2 * (7 : Fin 8).val)) = false) ∧
    (∃ p ∈ ([7] : List (Fin 8)), ∃ s ∈ [st [(SAF_SIN_CFG_PAIR (2 * p.val), 1), (SAF_SIN_CFG_PAIR 14, 1), (SAF_SIN_STAT_DEMAND, 2
      ^ 15)]], s.quiet = true ∧ s.flag (SAF_SIN_CFG_PAIR (2 * p.val)) = true ∧ (s.fld SAF_SIN_STAT_DEMAND).testBit (2 * p.val) ≠
      (s.fld SAF_SIN_STAT_DEMAND).testBit (2 * p.val + 1)) ∧
    (∃ p ∈ ([0] : List (Fin 8)), ∃ s ∈ [st []], s.quiet = true ∧ s.sag.disc.testBit p = false) ∧
    (∃ p ∈ ([7] : List (Fin 8)), ∃ s ∈ [upd (fun t => { t with sag := { disc := 128 } }) [(SAF_SIN_STAT_DEMAND, 0)]], s.quiet =
      true ∧ s.sag.disc.testBit p = true ∧ (s.fld SAF_SIN_STAT_DEMAND).testBit (2 * p.val) = false ∧ (s.fld
      SAF_SIN_STAT_DEMAND).testBit (2 * p.val + 1) = false) ∧
    (∃ j ∈ ([0] : List (Fin 2)), ∃ s ∈ [st [(SAF_OV3_CFG_EN j, 0)]], s.quiet = true ∧ s.flag (SAF_OV3_CFG_EN j) = false) ∧
    (∃ j ∈ ([0] : List (Fin 2)), ∃ s ∈ [st [(SAF_OV3_CFG_EN j, 1)]], s.quiet = true ∧ s.flag (SAF_OV3_CFG_EN j) = true) ∧
    (∃ s ∈ [st []], s.quiet = true ∧ bitsOf (3 : Word).toNat 0 2 = 3) ∧
    (∃ g ∈ ([0] : List (Fin 12)), ∃ s ∈ [st [(PWM_GRP_STAT_STATE g, 1), (PWM_LEG_CFG_GROUP 0, 0), (PWM_GRP_STAT_STATE 0, 1)]],
      s.quiet = true ∧ bitsOf (2 : Word).toNat 0 2 ≠ 3 ∧ s.members g ≠ [] ∧ (s.stopped g = false ∨ s.latched g = true)) ∧
    (∃ g ∈ ([0] : List (Fin 12)), ∃ s ∈ [st [(SAF_LOCK, 0)]], s.quiet = true ∧ bitsOf (0 : Word).toNat 0 2 ≠ 3 ∧ s.members g =
      [] ∧ s.flag SAF_LOCK = false) ∧
    (∃ g ∈ ([11] : List (Fin 12)), ∃ s ∈ [st [(SAF_LOCK, 0)]], s.quiet = true ∧ bitsOf (1 : Word).toNat 0 16 > bitsOf (1 :
      Word).toNat 16 16 ∧ s.members g = [] ∧ s.flag SAF_LOCK = false) ∧
    (∃ s ∈ [st []], s.quiet = true ∧ s.sag.hbArmed = false) ∧
    (∃ s ∈ [upd (fun t => { t with sag := { hbArmed := true } }) []], s.quiet = true ∧ s.sag.hbArmed = true ∧ s.sag.hbLast =
      none) ∧
    (∃ s ∈ [upd (fun t => { t with sag := { hbArmed := true } }) []], s.quiet = true ∧ s.sag.hbArmed = true) ∧
    (∃ t ∈ [(0 : Nat)], ∃ v ∈ [(0 : Nat)], ∃ s ∈ [upd (fun t => { t with sag := { hbArmed := true, hbLast := some (0, 0) } })
      []], s.quiet = true ∧ s.sag.hbArmed = true ∧ s.sag.hbLast = some (t, v) ∧ (2 : Word).toNat % 256 ≠ (v + 1) % 256) :=
  by refine ⟨?_, ?_, ?_, ?_, ?_, ?_, ?_, ?_, ?_, ?_, ?_, ?_, ?_, ?_, ?_⟩ <;> decide

theorem witness_SafeOutputs :
    (∃ s ∈ [st []], s.quiet = true) ∧
    (∃ n ∈ ([0] : List (Fin 8)), ∃ s ∈ [st [(SAF_SOUT_STAT_ON n, 0)]], s.quiet = true ∧ (s.flag (SAF_SOUT_STAT_ON n) = false ∨
      s.flag (SAF_SOUT_CFG_TEST_EN n) = false)) ∧
    (∃ n ∈ ([0] : List (Fin 8)), ∃ s ∈ [st [(SAF_SOUT_STAT_ON n, 1), (SAF_SOUT_CFG_TEST_EN n, 1)]], s.quiet = true ∧ s.flag
      (SAF_SOUT_STAT_ON n) = true ∧ s.flag (SAF_SOUT_CFG_TEST_EN n) = true ∧ s.sag.pulse = none) ∧
    (∃ s ∈ [st []], s.quiet = true ∧ s.sag.pulse = none) ∧
    (∃ n ∈ ([0] : List (Fin 8)), ∃ s ∈ [upd (fun t => { t with sag := { pulse := some (0, true) } }) []], s.quiet = true ∧
      s.sag.pulse = some (n.val, true)) ∧
    (∃ n ∈ ([0] : List (Fin 8)), ∃ s ∈ [upd (fun t => { t with sag := { pulse := some (0, true) } }) []], s.quiet = true ∧
      s.sag.pulse = some (n.val, true) ∧ s.sag.pulses = []) ∧
    (∃ n ∈ ([0] : List (Fin 8)), ∃ s ∈ [st [(SAF_SOUT_STAT_ON n, 0)]], s.quiet = true ∧ s.flag (SAF_SOUT_STAT_ON n) = false) ∧
    (∃ n ∈ ([0] : List (Fin 8)), ∃ s ∈ [st [(SAF_SOUT_STAT_ON n, 1)]], s.quiet = true ∧ s.flag (SAF_SOUT_STAT_ON n) = true) ∧
    (∃ s ∈ [st []], s.quiet = true ∧ s.sag.funcs.find? (fun f => 3 ≤ f.bit) = none) ∧
    (∃ old ∈ [({ bit := 3, dev := true } : FuncDemand)], ∃ s ∈ [upd (fun t =>
      { t with sag := { funcs := [{ bit := 3, dev := true }] } }) [(SAF_SOUT_CFG_ROLE 0, 1), (SAF_SOUT_STAT_ON 0, 1)]], s.quiet
      = true ∧ s.sag.funcs.find? (fun f => 3 ≤ f.bit) = some old) ∧
    (∃ s ∈ [st [(SAF_GTBL_POLICY 0, 1), (SAF_GSTAT_SPD_OK 0, 0)]], s.quiet = true ∧ parkSlow s = false) ∧
    (∃ s ∈ [st []], s.quiet = true ∧ parkSlow s = true) :=
  by refine ⟨?_, ?_, ?_, ?_, ?_, ?_, ?_, ?_, ?_, ?_, ?_, ?_⟩ <;> decide

theorem witness_FjopConnections :
    (∃ c ∈ ([0] : List (Fin 32)), ∃ payload ∈ ([[]] : List (List Byte)), ∃ seq ∈ ([0] : List (Nat)), ∃ s ∈ [st [(SAF_FJ_CFG_EN
      c, 0)]], s.quiet = true ∧ payload.length ≤ 32 ∧ seq < 2 ^ 16 ∧ ((s.flag (SAF_FJ_CFG_EN c) = false ∨ s.flag (SAF_FJ_CFG_DIR
      c) = true ∨ s.fld (SAF_FJ_STAT_STATE c) = 0 ∨ s.fld (SAF_FJ_STAT_STATE c) = 3))) ∧
    (∃ c ∈ ([0] : List (Fin 32)), ∃ payload ∈ ([[]] : List (List Byte)), ∃ seq ∈ ([0] : List (Nat)), ∃ s ∈ [st [(SAF_FJ_CFG_EN
      c, 1), (SAF_FJ_CFG_DIR c, 0), (SAF_FJ_STAT_STATE c, 1)]], s.quiet = true ∧ payload.length ≤ 32 ∧ seq < 2 ^ 16 ∧ s.flag
      (SAF_FJ_CFG_EN c) = true ∧ s.flag (SAF_FJ_CFG_DIR c) = false ∧ s.fld (SAF_FJ_STAT_STATE c) = 1) ∧
    (∃ c ∈ ([0] : List (Fin 32)), ∃ payload ∈ ([[]] : List (List Byte)), ∃ seq ∈ ([0] : List (Nat)), ∃ s ∈ [st [(SAF_FJ_CFG_EN
      c, 1), (SAF_FJ_CFG_DIR c, 0), (SAF_FJ_STAT_STATE c, 2), (SAF_FJ_STAT_SEQ c, seq)]], s.quiet = true ∧ payload.length ≤ 32 ∧
      seq < 2 ^ 16 ∧ s.flag (SAF_FJ_CFG_EN c) = true ∧ s.flag (SAF_FJ_CFG_DIR c) = false ∧ s.fld (SAF_FJ_STAT_STATE c) = 2 ∧
      s.fld (SAF_FJ_STAT_SEQ c) = seq) ∧
    (∃ c ∈ ([0] : List (Fin 32)), ∃ payload ∈ ([[]] : List (List Byte)), ∃ seq ∈ ([0] : List (Nat)), ∃ s ∈ [st [(SAF_FJ_CFG_EN
      c, 1), (SAF_FJ_STAT_STATE c, 2), (SAF_FJ_CFG_DIR c, 0)]], s.quiet = true ∧ payload.length ≤ 32 ∧ seq < 2 ^ 16 ∧ s.flag
      (SAF_FJ_CFG_EN c) = true ∧ s.fld (SAF_FJ_STAT_STATE c) = 2 ∧ s.flag (SAF_FJ_CFG_DIR c) = false) ∧
    (∃ c ∈ ([0] : List (Fin 32)), ∃ payload ∈ ([[]] : List (List Byte)), ∃ seq ∈ ([0] : List (Nat)), ∃ s ∈ [st [(SAF_FJ_CFG_EN
      c, 1), (SAF_FJ_STAT_STATE c, 2), (SAF_FJ_CFG_DIR c, 1)]], s.quiet = true ∧ payload.length ≤ 32 ∧ seq < 2 ^ 16 ∧ s.flag
      (SAF_FJ_CFG_EN c) = true ∧ s.fld (SAF_FJ_STAT_STATE c) = 2 ∧ s.flag (SAF_FJ_CFG_DIR c) = true) ∧
    (∃ payload ∈ ([[]] : List (List Byte)), ∃ seq ∈ ([0] : List (Nat)), ∃ s ∈ [st []], s.quiet = true ∧ payload.length ≤ 32 ∧
      seq < 2 ^ 16) ∧
    (∃ c ∈ ([0] : List (Fin 32)), ∃ payload ∈ ([[]] : List (List Byte)), ∃ seq ∈ ([0] : List (Nat)), ∃ s ∈ [upd (fun t =>
      { t with fjop := [(0, { tx := some [] })] }) [(SAF_FJ_CFG_EN c, 1), (SAF_FJ_CFG_DIR c, 1)]], s.quiet = true ∧
      payload.length ≤ 32 ∧ seq < 2 ^ 16 ∧ s.flag (SAF_FJ_CFG_EN c) = true ∧ s.flag (SAF_FJ_CFG_DIR c) = true ∧ (s.fjopOf
      c).tx.isSome = true) ∧
    (∃ c ∈ ([0] : List (Fin 32)), ∃ payload ∈ ([[]] : List (List Byte)), ∃ seq ∈ ([0] : List (Nat)), ∃ s ∈ [st [(SAF_FJ_CFG_EN
      c, 1), (SAF_FJ_CFG_DIR c, 1), (SAF_FJ_CFG_CHANNEL c, 10)]], s.quiet = true ∧ payload.length ≤ 32 ∧ seq < 2 ^ 16 ∧ s.flag
      (SAF_FJ_CFG_EN c) = true ∧ s.flag (SAF_FJ_CFG_DIR c) = true ∧ (s.fjopOf c).tx = none ∧ s.fld (SAF_FJ_CFG_CHANNEL c) ≠ 9) :=
  by refine ⟨?_, ?_, ?_, ?_, ?_, ?_, ?_, ?_⟩ <;> decide

theorem witness_CorePairs :
    (∃ n ∈ ([0] : List (Fin 12)), ∃ s ∈ [upd (fun t => { t with pair := [(0, { dead := true })] }) []], s.quiet = true ∧
      (s.pairOf n).dead = true) ∧
    (∃ n ∈ ([0] : List (Fin 12)), ∃ s ∈ [st []], s.quiet = true ∧ (s.pairOf n).dead = false ∧ (s.pairOf n).main = [] ∧ (s.pairOf
      n).chk = []) ∧
    (∃ n ∈ ([0] : List (Fin 12)), ∃ a ∈ ([{ kind := .write }] : List (CopyItem)), ∃ s ∈ [upd (fun t =>
      { t with pair := [(0, { main := [{ kind := .write }] })] }) []], s.quiet = true ∧ (s.pairOf n).dead = false ∧ (s.pairOf
      n).main = [a] ∧ (s.pairOf n).chk = [] ∧ a.kind = .write) ∧
    (∃ n ∈ ([0] : List (Fin 12)), ∃ a ∈ ([{ kind := .counter .time }] : List (CopyItem)), ∃ s ∈ [upd (fun t =>
      { t with pair := [(0, { main := [{ kind := .counter .time }] })] }) []], s.quiet = true ∧ (s.pairOf n).dead = false ∧
      (s.pairOf n).main = [a] ∧ (s.pairOf n).chk = [] ∧ a.kind = .counter .time) ∧
    (∃ n ∈ ([0] : List (Fin 12)), ∃ a ∈ ([{ addr := 1 }] : List (CopyItem)), ∃ b ∈ ([{}] : List (CopyItem)), ∃ s ∈ [upd (fun t
      => { t with pair := [(0, { main := [{ addr := 1 }] })] }) []], s.quiet = true ∧ (s.pairOf n).dead = false ∧ (s.pairOf
      n).main = [a] ∧ (s.pairOf n).chk = [] ∧ a.addr ≠ b.addr) ∧
    (∃ n ∈ ([0] : List (Fin 12)), ∃ s ∈ [upd (fun t => { t with pair := [(0, { sigM := [0] })] }) []], s.quiet = true ∧
      (s.pairOf n).dead = false ∧ (s.pairOf n).sigM = [(0 : Word).toNat] ∧ (s.pairOf n).sigC = []) ∧
    (∃ n ∈ ([0] : List (Fin 12)), ∃ s ∈ [upd (fun t => { t with pair := [(0, { sigM := [0] })] }) []], s.quiet = true ∧
      (s.pairOf n).dead = false ∧ (s.pairOf n).sigM = [(0 : Word).toNat] ∧ (s.pairOf n).sigC = [] ∧ (0 : Word) ≠ (1 : Word)) ∧
    (∃ n ∈ ([0] : List (Fin 12)), ∃ a ∈ ([{ addr := 1 }] : List (CopyItem)), ∃ s ∈ [upd (fun t =>
      { t with pair := [(0, { main := [{ addr := 1 }] })] }) [(LKS_PAIR_STAT_HALTED n, 0)]], s.quiet = true ∧ (s.pairOf n).dead
      = false ∧ s.flag (LKS_PAIR_STAT_HALTED n) = false ∧ (s.pairOf n).main = [a] ∧ (s.pairOf n).chk = []) ∧
    (∃ n ∈ ([0] : List (Fin 12)), ∃ s ∈ [st [(LKS_PAIR_STAT_HALTED n, 1)]], s.quiet = true ∧ s.flag (LKS_PAIR_STAT_HALTED n) =
      true) ∧
    (∃ n ∈ ([0] : List (Fin 12)), ∃ s ∈ [st []], s.quiet = true ∧ (s.pairOf n).dead = false) ∧
    (∃ n ∈ ([0] : List (Fin 12)), ∃ s ∈ [st []], s.quiet = true ∧ (s.pairOf n).dead = false ∧ (s.pairOf n).exch = none) ∧
    (∃ n ∈ ([0] : List (Fin 12)), ∃ s ∈ [st []], s.quiet = true ∧ (s.pairOf n).dead = false ∧ (s.pairOf n).exch = none ∧
      policyOpen s = true ∧ debugDenied s = false) ∧
    (∃ s ∈ [upd (fun t => { t with tap := { policy := 2 } }) []], s.quiet = true ∧ policyOpen s = false) ∧
    (∃ n ∈ ([0] : List (Fin 12)), ∃ s ∈ [st [(LKS_PAIR_STAT_HALTED n, 1)]], s.quiet = true ∧ s.flag (LKS_PAIR_STAT_HALTED n) =
      true ∧ policyOpen s = true ∧ (s.pairOf n).replay.length < 64) ∧
    (∃ n ∈ ([0] : List (Fin 12)), ∃ m ∈ ([6] : List (Nat)), ∃ k ∈ ([7] : List (Nat)), ∃ id ∈ ([5] : List (Nat)), ∃ s ∈ [upd (fun
      t => { t with pair := [(0, { exch := some (.irq 5, 6, 7) })] }) []], s.quiet = true ∧ (s.pairOf n).exch = some (.irq id,
      m, k) ∧ (s.pairOf n).queue = []) ∧
    (∃ n ∈ ([0] : List (Fin 12)), ∃ s ∈ [st []], s.quiet = true ∧ (s.pairOf n).exch = none) ∧
    (∃ n ∈ ([0] : List (Fin 12)), ∃ s ∈ [st []], s.quiet = true ∧ (s.pairOf n).dead = false ∧ (s.pairOf n).value = none) ∧
    (∃ n ∈ ([0] : List (Fin 12)), ∃ s ∈ [st []], s.quiet = true ∧ (s.pairOf n).dead = false ∧ (s.pairOf n).value = none ∧ (0 :
      Word) ≠ (1 : Word)) ∧
    (∃ n ∈ ([0] : List (Fin 12)), ∃ s ∈ [st []], s.quiet = true ∧ (s.pairOf n).value = none) ∧
    (∃ n ∈ ([0] : List (Fin 12)), ∃ s ∈ [upd (fun t => { t with pair := [(0, { value := some (.pending, 3) })] }) []], s.quiet =
      true ∧ (s.pairOf n).value = some (.pending, 3) ∧ (0 : Word) ≠ (1 : Word)) ∧
    (∃ n ∈ ([0] : List (Fin 12)), ∃ s ∈ [upd (fun t => { t with pair := [(0, { value := some (.pending, 0) })] }) []], s.quiet =
      true ∧ (s.pairOf n).value = some (.pending, 0)) ∧
    (∃ n ∈ ([0] : List (Fin 12)), ∃ s ∈ [st [(LKS_PAIR_STAT_HALTED n, 1)]], s.quiet = true ∧ s.flag (LKS_PAIR_STAT_HALTED n) =
      true ∧ (s.pairOf n).replay = []) ∧
    (∃ n ∈ ([0] : List (Fin 12)), ∃ s ∈ [upd (fun t => { t with pair := [(0, { replay := [(.step, 0)] })] })
      [(LKS_PAIR_STAT_HALTED n, 1), (LKS_PAIR_STAT_HALTED 0, 1)]], s.quiet = true ∧ s.flag (LKS_PAIR_STAT_HALTED n) = true ∧
      (s.pairOf n).replay ≠ []) ∧
    (∃ n ∈ ([0] : List (Fin 12)), ∃ s ∈ [upd (fun t => { t with pair := [(0, { replay := [(.step, 0)], resumeWait := true })] })
      [(LKS_PAIR_STAT_HALTED n, 1), (LKS_PAIR_STAT_HALTED 0, 1)]], s.quiet = true ∧ s.flag (LKS_PAIR_STAT_HALTED n) = true ∧
      policyOpen s = true ∧ (s.pairOf n).replay.length = 1 ∧ (s.pairOf n).resumeWait = true) ∧
    (∃ n ∈ ([0] : List (Fin 12)), ∃ s ∈ [st [(LKS_PAIR_STAT_HALTED n, 0)]], s.quiet = true ∧ s.flag (LKS_PAIR_STAT_HALTED n) =
      false) ∧
    (∃ n ∈ ([0] : List (Fin 12)), ∃ s ∈ [upd (fun t => { t with tap := { policy := 2 } }) [(LKS_PAIR_STAT_HALTED n, 0)]],
      s.quiet = true ∧ s.flag (LKS_PAIR_STAT_HALTED n) = false ∧ policyOpen s = false) :=
  by refine ⟨?_, ?_, ?_, ?_, ?_, ?_, ?_, ?_, ?_, ?_, ?_, ?_, ?_, ?_, ?_, ?_, ?_, ?_, ?_, ?_, ?_, ?_, ?_, ?_, ?_, ?_⟩ <;> decide

theorem witness_FeedsAndHoldUp :
    (∃ a ∈ ([0] : List (Fin 2)), ∃ o ∈ ([1] : List (Fin 2)), ∃ s ∈ [upd (fun t => { t with sup := { chosen := true } })
      [(PWR_FEED_CFG_RETURN, 0), (PWR_FEED_STAT_IN, 3)]], s.quiet = true ∧ activeFeed s = a.val ∧ o.val = 1 - a.val ∧
      s.sup.chosen = true ∧ s.sup.drill = none ∧ s.flag PWR_FEED_CFG_RETURN = false ∧ feedIn s 0 = true ∧ feedIn s 1 = true ∧
      400 ≤ (400 : BitVec 12).toNat ∧ (400 : BitVec 12).toNat ≤ 2900 ∧ 400 ≤ (2900 : BitVec 12).toNat ∧ (2900 : BitVec 12).toNat
      ≤ 2900) ∧
    (∃ a ∈ ([0] : List (Fin 2)), ∃ o ∈ ([1] : List (Fin 2)), ∃ s ∈ [upd (fun t =>
      { t with sup := { chosen := true, a := { outRow := 1 } } }) [(PWR_FEED_STAT_IN, 3)]], s.quiet = true ∧ activeFeed s =
      a.val ∧ o.val = 1 - a.val ∧ s.sup.chosen = true ∧ s.sup.drill = none ∧ feedIn s 0 = true ∧ feedIn s 1 = true ∧ (s.feedOf
      a).outRow = 1 ∧ (s.feedOf o).proof ≠ 2 ∧ (if a.val = 0 then (389 : BitVec 12) else (400 : BitVec 12)).toNat < 390 ∧ 400 ≤
      (if a.val = 0 then (400 : BitVec 12) else (389 : BitVec 12)).toNat ∧ (if a.val = 0 then (400 : BitVec 12) else (389 :
      BitVec 12)).toNat ≤ 2900) ∧
    (∃ a ∈ ([0] : List (Fin 2)), ∃ o ∈ ([1] : List (Fin 2)), ∃ s ∈ [upd (fun t => { t with sup := { chosen := true } })
      [(PWR_FEED_STAT_IN, 3)]], s.quiet = true ∧ activeFeed s = a.val ∧ o.val = 1 - a.val ∧ s.sup.chosen = true ∧ s.sup.drill =
      none ∧ s.sup.check = none ∧ feedIn s 0 = true ∧ feedIn s 1 = true ∧ 400 ≤ (400 : BitVec 12).toNat ∧ (400 : BitVec
      12).toNat ≤ 2900 ∧ 400 ≤ (400 : BitVec 12).toNat ∧ (400 : BitVec 12).toNat ≤ 2900) ∧
    (∃ a ∈ ([0] : List (Fin 2)), ∃ o ∈ ([1] : List (Fin 2)), ∃ s ∈ [upd (fun t =>
      { t with sup := { chosen := true, check := some 1 } }) [(PWR_FEED_STAT_IN, 3)]], s.quiet = true ∧ activeFeed s = a.val ∧
      o.val = 1 - a.val ∧ s.sup.chosen = true ∧ s.sup.drill = none ∧ s.sup.check = some o.val ∧ feedIn s 0 = true ∧ feedIn s 1 =
      true ∧ 400 ≤ (400 : BitVec 12).toNat ∧ (400 : BitVec 12).toNat ≤ 2900 ∧ 400 ≤ (400 : BitVec 12).toNat ∧ (400 : BitVec
      12).toNat ≤ 2900) ∧
    (∃ a ∈ ([0] : List (Fin 2)), ∃ o ∈ ([1] : List (Fin 2)), ∃ s ∈ [upd (fun t => { t with sup := { a := { inRow := 10 } } })
      []], s.quiet = true ∧ activeFeed s = a.val ∧ o.val = 1 - a.val ∧ s.sup.chosen = false ∧ feedIn s 0 = false ∧ (s.feedOf
      0).inRow = 10 ∧ 400 ≤ (400 : BitVec 12).toNat ∧ (400 : BitVec 12).toNat ≤ 2900) ∧
    (∃ a ∈ ([0] : List (Fin 2)), ∃ o ∈ ([1] : List (Fin 2)), ∃ s ∈ [st []], s.quiet = true ∧ activeFeed s = a.val ∧ o.val = 1 -
      a.val ∧ s.sup.check = none) ∧
    (∃ a ∈ ([0] : List (Fin 2)), ∃ o ∈ ([1] : List (Fin 2)), ∃ f ∈ [(1 : Nat)], ∃ s ∈ [upd (fun t =>
      { t with sup := { check := some 1 } }) []], s.quiet = true ∧ activeFeed s = a.val ∧ o.val = 1 - a.val ∧ s.sup.check = some
      f) ∧
    (∃ a ∈ ([0] : List (Fin 2)), ∃ o ∈ ([1] : List (Fin 2)), ∃ s ∈ [upd (fun t => { t with sup := { check := some 1 } })
      [(PWR_FEED_STAT_IN, 3)]], s.quiet = true ∧ activeFeed s = a.val ∧ o.val = 1 - a.val ∧ s.sup.check = some o.val ∧
      s.sup.drill = none ∧ feedIn s o = true) ∧
    (∃ a ∈ ([0] : List (Fin 2)), ∃ o ∈ ([1] : List (Fin 2)), ∃ s ∈ [upd (fun t => { t with sup := { check := some 1 } })
      [(PWR_FEED_STAT_IN, 1)]], s.quiet = true ∧ activeFeed s = a.val ∧ o.val = 1 - a.val ∧ s.sup.check = some o.val ∧
      s.sup.drill = none ∧ feedIn s o = false) ∧
    (∃ a ∈ ([0] : List (Fin 2)), ∃ o ∈ ([1] : List (Fin 2)), ∃ s ∈ [upd (fun t =>
      { t with sup := { check := some 1, drill := some 1 } }) []], s.quiet = true ∧ activeFeed s = a.val ∧ o.val = 1 - a.val ∧
      s.sup.check = some o.val ∧ s.sup.drill = some o.val) ∧
    (∃ a ∈ ([0] : List (Fin 2)), ∃ o ∈ ([1] : List (Fin 2)), ∃ s ∈ [st []], s.quiet = true ∧ activeFeed s = a.val ∧ o.val = 1 -
      a.val ∧ feedIn s o = false) ∧
    (∃ a ∈ ([0] : List (Fin 2)), ∃ o ∈ ([1] : List (Fin 2)), ∃ s ∈ [upd (fun t => { t with sup := { drill := some 0 } })
      [(PWR_FEED_STAT_IN, 3)]], s.quiet = true ∧ activeFeed s = a.val ∧ o.val = 1 - a.val ∧ feedIn s o = true ∧
      (s.sup.drill.isSome = true ∨ s.sup.check.isSome = true ∨ s.flag PWR_FEED_STAT_DIP = true ∨ s.flag PWR_PS_STAT_ENTERING =
      true)) ∧
    (∃ a ∈ ([0] : List (Fin 2)), ∃ o ∈ ([1] : List (Fin 2)), ∃ s ∈ [st [(PWR_FEED_STAT_DIP, 0), (PWR_PS_STAT_ENTERING, 0),
      (PWR_FEED_STAT_IN, 3)]], s.quiet = true ∧ activeFeed s = a.val ∧ o.val = 1 - a.val ∧ feedIn s o = true ∧ s.sup.drill =
      none ∧ s.sup.check = none ∧ s.flag PWR_FEED_STAT_DIP = false ∧ s.flag PWR_PS_STAT_ENTERING = false) ∧
    (∃ a ∈ ([0] : List (Fin 2)), ∃ o ∈ ([1] : List (Fin 2)), ∃ s ∈ [st []], s.quiet = true ∧ activeFeed s = a.val ∧ o.val = 1 -
      a.val ∧ s.sup.drill = none) ∧
    (∃ a ∈ ([0] : List (Fin 2)), ∃ o ∈ ([1] : List (Fin 2)), ∃ s ∈ [upd (fun t => { t with sup := { drill := some 1 } }) []],
      s.quiet = true ∧ activeFeed s = a.val ∧ o.val = 1 - a.val ∧ s.sup.drill = some o.val) ∧
    (∃ a ∈ ([0] : List (Fin 2)), ∃ o ∈ ([1] : List (Fin 2)), ∃ s ∈ [st [(PWR_FEED_STAT_DIP, 1)]], s.quiet = true ∧ activeFeed s
      = a.val ∧ o.val = 1 - a.val ∧ s.flag PWR_FEED_STAT_DIP = true) ∧
    (∃ a ∈ ([0] : List (Fin 2)), ∃ o ∈ ([1] : List (Fin 2)), ∃ s ∈ [st [(PWR_FEED_STAT_DIP, 0)]], s.quiet = true ∧ activeFeed s
      = a.val ∧ o.val = 1 - a.val ∧ s.flag PWR_FEED_STAT_DIP = false) ∧
    (∃ a ∈ ([0] : List (Fin 2)), ∃ o ∈ ([1] : List (Fin 2)), ∃ s ∈ [st [(PWR_FEED_STAT_DIP, 1)]], s.quiet = true ∧ activeFeed s
      = a.val ∧ o.val = 1 - a.val ∧ s.flag PWR_FEED_STAT_DIP = true ∧ s.sup.lost = false) ∧
    (∃ a ∈ ([0] : List (Fin 2)), ∃ o ∈ ([1] : List (Fin 2)), ∃ s ∈ [st [(PWR_FEED_STAT_DIP, 0), (PWR_FEED_STAT_HOLD_OK, 1)]],
      s.quiet = true ∧ activeFeed s = a.val ∧ o.val = 1 - a.val ∧ s.flag PWR_FEED_STAT_DIP = false ∧ s.flag
      PWR_FEED_STAT_HOLD_OK = true ∧ s.held 25 = false) ∧
    (∃ a ∈ ([0] : List (Fin 2)), ∃ o ∈ ([1] : List (Fin 2)), ∃ s ∈ [st []], s.quiet = true ∧ activeFeed s = a.val ∧ o.val = 1 -
      a.val) ∧
    (∃ a ∈ ([0] : List (Fin 2)), ∃ o ∈ ([1] : List (Fin 2)), ∃ s ∈ [st []], s.quiet = true ∧ activeFeed s = a.val ∧ o.val = 1 -
      a.val ∧ s.dipHold = false ∧ s.held 25 = false) ∧
    (∃ a ∈ ([0] : List (Fin 2)), ∃ o ∈ ([1] : List (Fin 2)), ∃ s ∈ [st [(PWR_START_STAT_STEP, 0)]], s.quiet = true ∧ activeFeed
      s = a.val ∧ o.val = 1 - a.val ∧ s.fld PWR_START_STAT_STEP = 0) ∧
    (∃ a ∈ ([0] : List (Fin 2)), ∃ o ∈ ([1] : List (Fin 2)), ∃ s ∈ [st [(PWR_START_STAT_STEP, 1), (PWR_START_STAT_STEP, 11)]],
      s.quiet = true ∧ activeFeed s = a.val ∧ o.val = 1 - a.val ∧ s.fld PWR_START_STAT_STEP ≠ 0) ∧
    (∃ a ∈ ([0] : List (Fin 2)), ∃ o ∈ ([1] : List (Fin 2)), ∃ s ∈ [st []], s.quiet = true ∧ activeFeed s = a.val ∧ o.val = 1 -
      a.val ∧ s.sup.lost = false) ∧
    (∃ a ∈ ([0] : List (Fin 2)), ∃ o ∈ ([1] : List (Fin 2)), ∃ s ∈ [upd (fun t =>
      { t with sup := { lost := true, a := { since := 1000 } } }) [(PWR_FEED_STAT_IN, 1)]], s.quiet = true ∧ activeFeed s =
      a.val ∧ o.val = 1 - a.val ∧ s.sup.lost = true ∧ feedIn s a = true ∧ 1000 ≤ (s.feedOf a).since) :=
  by refine ⟨?_, ?_, ?_, ?_, ?_, ?_, ?_, ?_, ?_, ?_, ?_, ?_, ?_, ?_, ?_, ?_, ?_, ?_, ?_, ?_, ?_, ?_, ?_, ?_, ?_⟩ <;> decide

theorem witness_RailAndPowerStates :
    (∃ s ∈ [st [(PWR_PS_STAT_ENTERING, 0), (PWR_CORE_STAT_PENDING, 0)]], s.quiet = true ∧ s.sup.waking = false ∧ s.flag
      PWR_PS_STAT_ENTERING = false ∧ s.flag PWR_CORE_STAT_PENDING = false) ∧
    (∃ s ∈ [st [(PWR_PS_STAT_ENTERING, 0), (PWR_CORE_STAT_PENDING, 1), (PWR_CORE_STAT_PATH_ACT, 0), (PWR_CORE_STAT_PENDING, 1),
      (PWR_CORE_CFG_VMAX, 60)]], s.quiet = true ∧ s.sup.waking = false ∧ s.flag PWR_PS_STAT_ENTERING = false ∧ s.flag
      PWR_CORE_STAT_PENDING = true ∧ s.sup.raise = none ∧ s.sup.raises = [] ∧ max (s.fld PWR_CORE_CFG_VMIN) (min (s.fld
      PWR_CORE_CFG_VMAX) (highest s none)) = s.fld PWR_CORE_STAT_TARGET ∧ (s.waits.any fun x => x.1 = .divider) = false ∧ s.flag
      PWR_CORE_STAT_PATH_ACT = false) ∧
    (∃ s ∈ [st [(PWR_PS_STAT_ENTERING, 0), (PWR_CORE_STAT_PENDING, 1), (PWR_CORE_STAT_PATH_ACT, 1), (PWR_CORE_STAT_PENDING, 1),
      (PWR_CORE_STAT_PATH_ACT, 1), (PWR_CORE_CFG_VMAX, 60)]], s.quiet = true ∧ s.sup.waking = false ∧ s.flag
      PWR_PS_STAT_ENTERING = false ∧ s.flag PWR_CORE_STAT_PENDING = true ∧ s.sup.raise = none ∧ s.sup.raises = [] ∧ max (s.fld
      PWR_CORE_CFG_VMIN) (min (s.fld PWR_CORE_CFG_VMAX) (highest s none)) = s.fld PWR_CORE_STAT_TARGET ∧ (s.waits.any fun x =>
      x.1 = .divider) = false ∧ s.flag PWR_CORE_STAT_PATH_ACT = true) ∧
    (∃ s ∈ [st [(PWR_PS_STAT_ENTERING, 0), (PWR_CORE_STAT_PATH_ACT, 1)]], s.quiet = true ∧ s.sup.waking = false ∧ s.flag
      PWR_PS_STAT_ENTERING = false ∧ s.flag PWR_CORE_STAT_PATH_ACT = true) ∧
    (∃ s ∈ [st [(PWR_PS_STAT_ENTERING, 0), (PWR_CORE_STAT_PATH_ACT, 0)]], s.quiet = true ∧ s.sup.waking = false ∧ s.flag
      PWR_PS_STAT_ENTERING = false ∧ s.flag PWR_CORE_STAT_PATH_ACT = false) ∧
    (∃ k ∈ ([11] : List (Fin 12)), ∃ v ∈ ([2] : List (Fin 3)), ∃ s ∈ [upd (fun t =>
      { t with sup := { raise := some ⟨false, 11, 2⟩ } }) [(PWR_PS_STAT_ENTERING, 0), (PWR_CORE_STAT_PENDING, 1),
      (PWR_CORE_STAT_PATH_ACT, 0), (PWR_CORE_STAT_PENDING, 1)]], s.quiet = true ∧ s.sup.waking = false ∧ s.flag
      PWR_PS_STAT_ENTERING = false ∧ s.flag PWR_CORE_STAT_PENDING = true ∧ s.sup.raise = some ⟨false, k.val, v.val⟩ ∧
      s.sup.raises = [] ∧ s.flag PWR_CORE_STAT_PATH_ACT = false) ∧
    (∃ k ∈ ([11] : List (Fin 12)), ∃ v ∈ ([2] : List (Fin 3)), ∃ s ∈ [upd (fun t =>
      { t with sup := { raise := some ⟨false, 11, 2⟩ } }) [(PWR_PS_STAT_ENTERING, 0), (PWR_CORE_STAT_PENDING, 1),
      (PWR_CORE_STAT_PATH_ACT, 1), (PWR_CORE_STAT_PENDING, 1), (PWR_CORE_STAT_PATH_ACT, 1)]], s.quiet = true ∧ s.sup.waking =
      false ∧ s.flag PWR_PS_STAT_ENTERING = false ∧ s.flag PWR_CORE_STAT_PENDING = true ∧ s.sup.raise = some ⟨false, k.val,
      v.val⟩ ∧ s.sup.raises = [] ∧ s.flag PWR_CORE_STAT_PATH_ACT = true) ∧
    (∃ k ∈ ([9] : List (Fin 17)), ∃ s ∈ [upd (fun t => { t with sup := { vexp := -9 } }) [(PWR_PS_STAT_ENTERING, 0),
      (PWR_CORE_STAT_PENDING, 1), (PWR_CORE_STAT_PATH_ACT, 0), (PWR_CORE_STAT_PENDING, 1)]], s.quiet = true ∧ s.sup.waking =
      false ∧ s.flag PWR_PS_STAT_ENTERING = false ∧ s.flag PWR_CORE_STAT_PENDING = true ∧ s.flag PWR_CORE_STAT_PATH_ACT = false
      ∧ s.sup.resent = false ∧ s.sup.vexp = -(k.val : Int)) ∧
    (∃ s ∈ [upd (fun t => { t with sup := { resent := true } }) [(PWR_PS_STAT_ENTERING, 0), (PWR_CORE_STAT_PENDING, 1),
      (PWR_CORE_STAT_PATH_ACT, 0)]], s.quiet = true ∧ s.sup.waking = false ∧ s.flag PWR_PS_STAT_ENTERING = false ∧ s.flag
      PWR_CORE_STAT_PENDING = true ∧ s.flag PWR_CORE_STAT_PATH_ACT = false ∧ s.sup.resent = true) ∧
    (∃ s ∈ [st []], s.quiet = true ∧ s.sup.waking = false) ∧
    (∃ k ∈ ([11] : List (Fin 12)), ∃ s ∈ [st []], s.quiet = true ∧ s.sup.waking = false ∧ bitsOf (3 * 2 ^ 22 : Word).toNat (2 *
      k.val) 2 = 3) ∧
    (∃ s ∈ [st []], s.quiet = true ∧ s.sup.waking = false ∧ (∀ k : Fin 12, bitsOf (0 : Word).toNat (2 * k.val) 2 ≠ 3) ∧
      s.sup.sends = false) ∧
    (∃ s ∈ [upd (fun t => { t with sup := { sends := true } }) [(PWR_CORE_STAT_PENDING, 1)]], s.quiet = true ∧ s.sup.waking =
      false ∧ ((∀ k : Fin 12, bitsOf (0 : Word).toNat (2 * k.val) 2 ≤ bitsOf (s.fld PWR_DIV_PAIR_DIV) (2 * k.val) 2 ∧ bitsOf (0
      : Word).toNat (2 * k.val) 2 ≠ 3)) ∧ s.sup.sends = true ∧ s.flag PWR_CORE_STAT_PENDING = true) ∧
    (∃ s ∈ [upd (fun t => { t with sup := { sends := true } }) [(PWR_CORE_STAT_PENDING, 0), (PWR_DIV_PAIR_DIV, 9),
      (PWR_CORE_STAT_TARGET, 40)]], s.quiet = true ∧ s.sup.waking = false ∧ ((∀ k : Fin 12, bitsOf (1 : Word).toNat (2 * k.val)
      2 ≤ bitsOf (s.fld PWR_DIV_PAIR_DIV) (2 * k.val) 2 ∧ bitsOf (1 : Word).toNat (2 * k.val) 2 ≠ 3 ∧ (bitsOf (1 : Word).toNat
      (2 * k.val) 2 < bitsOf (s.fld PWR_DIV_PAIR_DIV) (2 * k.val) 2 → min (s.fld PWR_CORE_CFG_VMAX) (highest s (some ⟨false,
      k.val, bitsOf (1 : Word).toNat (2 * k.val) 2⟩)) ≤ s.fld PWR_CORE_STAT_TARGET))) ∧ s.sup.sends = true ∧ s.flag
      PWR_CORE_STAT_PENDING = false ∧ s.sup.raises = []) ∧
    (∃ n ∈ ([1] : List (Fin 12)), ∃ s ∈ [upd (fun t => { t with sup := { sends := true } }) [(PWR_CORE_STAT_PENDING, 0),
      (PWR_DIV_PAIR_DIV, 9), (PWR_CORE_STAT_TARGET, 39), (PWR_CORE_CFG_VMAX, 60)]], s.quiet = true ∧ s.sup.waking = false ∧ ((∀
      k : Fin 12, k ≠ n → bitsOf (1 : Word).toNat (2 * k.val) 2 = bitsOf (s.fld PWR_DIV_PAIR_DIV) (2 * k.val) 2 ∧ bitsOf (1 :
      Word).toNat (2 * k.val) 2 ≠ 3)) ∧ bitsOf (1 : Word).toNat (2 * n.val) 2 < bitsOf (s.fld PWR_DIV_PAIR_DIV) (2 * n.val) 2 ∧
      bitsOf (1 : Word).toNat (2 * n.val) 2 ≠ 3 ∧ s.sup.sends = true ∧ s.flag PWR_CORE_STAT_PENDING = false ∧ s.sup.raises = []
      ∧ s.fld PWR_CORE_STAT_TARGET < min (s.fld PWR_CORE_CFG_VMAX) (highest s (some ⟨false, n.val, bitsOf (1 : Word).toNat (2 *
      n.val) 2⟩))) ∧
    (∃ s ∈ [st []], s.quiet = true ∧ s.sup.waking = false ∧ s.sup.armed = false) ∧
    (∃ s ∈ [upd (fun t => { t with sup := { armed := true } }) []], s.quiet = true ∧ s.sup.waking = false ∧ s.sup.armed = true) ∧
    (∃ s ∈ [st []], s.quiet = true ∧ s.sup.waking = false ∧ ((0 : Word).toNat % 4 = 0 ∨ s.mode ≠ 1)) ∧
    (∃ s ∈ [st [(PWR_MODE, 1), (PWR_PS_STAT_ENTERING, 1)]], s.quiet = true ∧ s.sup.waking = false ∧ (1 : Word).toNat % 4 ≠ 0 ∧
      s.mode = 1 ∧ (s.flag PWR_PS_STAT_ENTERING = true ∨ s.sup.drill.isSome = true ∨ s.sup.check.isSome = true ∨ s.flag
      PWR_FEED_STAT_DIP = true)) ∧
    (∃ s ∈ [st [(PWR_MODE, 1), (PWR_PS_STAT_ENTERING, 0), (PWR_FEED_STAT_DIP, 0)]], s.quiet = true ∧ s.sup.waking = false ∧ (1 :
      Word).toNat % 4 ≠ 0 ∧ s.mode = 1 ∧ s.flag PWR_PS_STAT_ENTERING = false ∧ s.sup.drill = none ∧ s.sup.check = none ∧ s.flag
      PWR_FEED_STAT_DIP = false) ∧
    (∃ q ∈ ([0] : List (Fin 27)), ∃ s ∈ [st []], s.quiet = true ∧ s.sup.waking = false ∧ (q.val < 12 ∨ s.flag
      PWR_PS_STAT_ENTERING = false ∨ Tbl.get 0 s.sup.answers q.val = 1)) ∧
    (∃ q ∈ ([12] : List (Fin 27)), ∃ s ∈ [st [(PWR_PS_STAT_ENTERING, 1), (LE_STAT_STATE 0, 1)]], s.quiet = true ∧ s.sup.waking =
      false ∧ 12 ≤ q.val ∧ s.flag PWR_PS_STAT_ENTERING = true ∧ Tbl.get 0 s.sup.answers q.val ≠ 1 ∧ hwAnswer s q = 2) ∧
    (∃ q ∈ ([12] : List (Fin 27)), ∃ c ∈ ([0] : List (Fin 27)), ∃ s ∈ [st [(PWR_PS_STAT_ENTERING, 1)]], s.quiet = true ∧
      s.sup.waking = false ∧ 12 ≤ q.val ∧ s.flag PWR_PS_STAT_ENTERING = true ∧ Tbl.get 0 s.sup.answers q.val ≠ 1 ∧ hwAnswer s q
      ≠ 2 ∧ c ≠ q ∧ Tbl.get 0 s.sup.answers c.val ≠ 1) ∧
    (∃ q ∈ ([26] : List (Fin 27)), ∃ s ∈ [upd (fun t => { t with sup := { answers := (List.range 26).map fun c => (c, 1) } })
      [(PWR_PS_STAT_ENTERING, 1), (PWR_CORE_STAT_PENDING, 0)]], s.quiet = true ∧ s.sup.waking = false ∧ 12 ≤ q.val ∧ s.flag
      PWR_PS_STAT_ENTERING = true ∧ s.flag PWR_CORE_STAT_PENDING = false ∧ hwAnswer s q = 1 ∧ Tbl.get 0 s.sup.answers q.val ≠ 1
      ∧ ((∀ c : Fin 27, c ≠ q → Tbl.get 0 s.sup.answers c.val = 1))) ∧
    (∃ s ∈ [st []], s.quiet = true ∧ s.sup.waking = false ∧ (3 : Word).toNat % 4 = 3 ∧ (bitsOf (3 : Word).toNat 8 7 = 0 ∨ 100 <
      bitsOf (3 : Word).toNat 8 7)) ∧
    (∃ n ∈ ([0] : List (Fin 12)), ∃ s ∈ [st [(PWR_PS_STAT_ENTERING, 1)]], s.quiet = true ∧ s.sup.waking = false ∧ (2 :
      Word).toNat % 4 = 2 ∧ s.flag PWR_PS_STAT_ENTERING = true ∧ Tbl.get 0 s.sup.answers n.val ≠ 1) ∧
    (∃ n ∈ ([0] : List (Fin 12)), ∃ c ∈ ([26] : List (Fin 27)), ∃ s ∈ [st [(PWR_PS_STAT_ENTERING, 1)]], s.quiet = true ∧
      s.sup.waking = false ∧ (1 : Word).toNat % 4 = 1 ∧ s.flag PWR_PS_STAT_ENTERING = true ∧ Tbl.get 0 s.sup.answers n.val ≠ 1 ∧
      c.val ≠ n.val ∧ Tbl.get 0 s.sup.answers c.val ≠ 1) ∧
    (∃ n ∈ ([0] : List (Fin 12)), ∃ s ∈ [st [(PWR_PS_STAT_ENTERING, 1)]], s.quiet = true ∧ s.sup.waking = false ∧ s.flag
      PWR_PS_STAT_ENTERING = true ∧ Tbl.get 0 s.sup.answers n.val = 0) ∧
    (∃ n ∈ ([0] : List (Fin 12)), ∃ s ∈ [upd (fun t => { t with sup := { answers := [(0, 1)] } }) []], s.quiet = true ∧
      s.sup.waking = false ∧ Tbl.get 0 s.sup.answers n.val ≠ 0) ∧
    (∃ q ∈ ([0] : List (Fin 27)), ∃ s ∈ [st [(PWR_PS_STAT_ENTERING, 0)]], s.quiet = true ∧ s.sup.waking = false ∧ (s.flag
      PWR_PS_STAT_ENTERING = false ∨ Tbl.get 0 s.sup.answers q.val ≠ 3)) ∧
    (∃ q ∈ ([0] : List (Fin 27)), ∃ s ∈ [upd (fun t => { t with sup := { answers := [(0, 3)] } }) [(PWR_PS_STAT_ENTERING, 1)]],
      s.quiet = true ∧ s.sup.waking = false ∧ s.flag PWR_PS_STAT_ENTERING = true ∧ Tbl.get 0 s.sup.answers q.val = 3) ∧
    (∃ k ∈ ([0] : List (Fin 4)), ∃ rise ∈ ([false] : List (Bool)), ∃ s ∈ [st [(PWR_WAKE_CFG_PIN_EN, 1), (PWR_WAKE_CFG_PIN_EDGE,
      1), (PWR_PS_STAT_STATE, 1)]], (s.fld PWR_WAKE_CFG_PIN_EN).testBit k = true ∧ (bitsOf (s.fld PWR_WAKE_CFG_PIN_EDGE) (2 *
      k.val) 2 = (if rise then 0 else 1) ∨ bitsOf (s.fld PWR_WAKE_CFG_PIN_EDGE) (2 * k.val) 2 = 2)) ∧
    (∃ k ∈ ([0] : List (Fin 4)), ∃ rise ∈ ([false] : List (Bool)), ∃ s ∈ [st []], ((s.fld PWR_WAKE_CFG_PIN_EN).testBit k = false
      ∨ bitsOf (s.fld PWR_WAKE_CFG_PIN_EDGE) (2 * k.val) 2 = (if rise then 1 else 0))) ∧
    (∃ m ∈ ([0] : List (Fin 8)), ∃ s ∈ [st [(CAN_CTRL_MODE m, 1), (PWR_WAKE_CFG_CAN_EN, 1), (CAN_CTRL_MODE 0, 1),
      (PWR_PS_STAT_STATE, 2)]], (s.fld PWR_WAKE_CFG_CAN_EN).testBit m = true ∧ s.fld (CAN_CTRL_MODE m) ≠ 0) ∧
    (∃ m ∈ ([0] : List (Fin 8)), ∃ s ∈ [st []], ((s.fld PWR_WAKE_CFG_CAN_EN).testBit m = false ∨ s.fld (CAN_CTRL_MODE m) = 0)) ∧
    (∃ s ∈ [st [(PWR_WAKE_CFG_TMR, 1), (PWR_PS_STAT_STATE, 1)]], s.flag PWR_WAKE_CFG_TMR = true ∧ psState s ≠ 0) ∧
    (∃ s ∈ [st [(PWR_WAKE_CFG_TMR, 0)]], (s.flag PWR_WAKE_CFG_TMR = false ∨ psState s = 0)) ∧
    (∃ s ∈ [st [(PWR_PS_STAT_STATE, 0), (PWR_PS_STAT_ENTERING, 1)]], s.sup.waking = false ∧ psState s = 0 ∧ s.flag
      PWR_PS_STAT_ENTERING = true) ∧
    (∃ s ∈ [st [(PWR_PS_STAT_STATE, 0), (PWR_PS_STAT_ENTERING, 0)]], s.sup.waking = false ∧ psState s = 0 ∧ s.flag
      PWR_PS_STAT_ENTERING = false) ∧
    (∃ s ∈ [st [(PWR_PS_STAT_STATE, 1)]], psState s ≠ 0) ∧
    (∃ s ∈ [upd (fun t => { t with sup := { waking := true } }) [(PWR_PS_STAT_STATE, 2)]], s.sup.waking = true) ∧
    (∃ s ∈ [st [(PWR_PS_STAT_STATE, 1)]], s.sup.waking = false ∧ psState s ≠ 0) ∧
    (∃ s ∈ [st [(PWR_PS_STAT_STATE, 1), (PWR_PS_STAT_STATE, 1)]], s.sup.waking = false ∧ psState s ≠ 0 ∧ psState s = 1) ∧
    (∃ s ∈ [st [(PWR_PS_STAT_STATE, 1), (PWR_PS_STAT_STATE, 2)]], s.sup.waking = false ∧ psState s ≠ 0 ∧ psState s = 2) ∧
    (∃ s ∈ [st [(PWR_PS_STAT_STATE, 1), (PWR_PS_STAT_STATE, 2), (PWR_CORE_STAT_PATH_ACT, 0)]], s.sup.waking = false ∧ psState s
      ≠ 0 ∧ psState s = 2 ∧ s.flag PWR_CORE_STAT_PATH_ACT = false) ∧
    (∃ s ∈ [st [(PWR_PS_STAT_STATE, 1), (PWR_PS_STAT_STATE, 3)]], s.sup.waking = false ∧ psState s ≠ 0 ∧ psState s = 3) ∧
    (∃ s ∈ [upd (fun t => { t with sup := { waking := true } }) [(PWR_CORE_STAT_PATH_ACT, 0), (PWR_PS_STAT_ENTERING, 0)]],
      s.sup.waking = true ∧ s.flag PWR_CORE_STAT_PATH_ACT = false ∧ s.flag PWR_PS_STAT_ENTERING = false) ∧
    (∃ s ∈ [upd (fun t => { t with sup := { waking := true } }) [(PWR_CORE_STAT_PATH_ACT, 0), (PWR_PS_STAT_ENTERING, 0),
      (PWR_CORE_STAT_NO_RAIL, 1)]], s.sup.waking = true ∧ s.flag PWR_CORE_STAT_PATH_ACT = false ∧ s.flag PWR_PS_STAT_ENTERING =
      false ∧ s.flag PWR_CORE_STAT_NO_RAIL = true) ∧
    (∃ s ∈ [upd (fun t => { t with sup := { waking := true, failed := 2 ^ 33 } }) [(PWR_CORE_STAT_PATH_ACT, 0),
      (PWR_PS_STAT_ENTERING, 0)]], s.sup.waking = true ∧ s.flag PWR_CORE_STAT_PATH_ACT = false ∧ s.flag PWR_PS_STAT_ENTERING =
      false ∧ s.sup.failed &&& safetyBanks s ≠ 0) ∧
    (∃ s ∈ [upd (fun t => { t with sup := { waking := true } }) [(PWR_CORE_STAT_PATH_ACT, 0), (PWR_PS_STAT_ENTERING, 0)]],
      s.sup.waking = true ∧ s.flag PWR_CORE_STAT_PATH_ACT = false ∧ s.flag PWR_PS_STAT_ENTERING = false ∧ s.sup.failed &&&
      safetyBanks s = 0) ∧
    (∃ s ∈ [st []], s.sup.waking = false) ∧
    (∃ s ∈ [st []], psState s ≠ 2) ∧
    (∃ s ∈ [st [(PWR_PS_STAT_STATE, 2)]], psState s = 2) ∧
    (∃ s ∈ [st []], s.quiet = true) ∧
    (∃ b ∈ ([0] : List (Fin 36)), ∃ s ∈ [st []], s.sup.zeroing.testBit b = false) ∧
    (∃ b ∈ ([0] : List (Fin 36)), ∃ s ∈ [upd (fun t => { t with sup := { zeroing := 1 } }) []], s.sup.zeroing.testBit b = true) :=
  by refine ⟨?_, ?_, ?_, ?_, ?_, ?_, ?_, ?_, ?_, ?_, ?_, ?_, ?_, ?_, ?_, ?_, ?_, ?_, ?_, ?_, ?_, ?_, ?_, ?_, ?_, ?_, ?_, ?_, ?_,
    ?_, ?_, ?_, ?_, ?_, ?_, ?_, ?_, ?_, ?_, ?_, ?_, ?_, ?_, ?_, ?_, ?_, ?_, ?_, ?_, ?_, ?_, ?_, ?_, ?_, ?_, ?_⟩ <;>
    decide +kernel

theorem witness_ThermalZones :
    (∃ s ∈ [st []], s.quiet = true) ∧
    (∃ z ∈ ([0] : List (Fin 16)), ∃ s ∈ [st []], s.quiet = true ∧ (s.zoneOf z).grace = false) ∧
    (∃ z ∈ ([0] : List (Fin 16)), ∃ s ∈ [upd (fun t => { t with thm := { zones := [(0, { grace := true })] } })
      [(THM_Z_STAT_ACKED z, 1)]], s.quiet = true ∧ (s.zoneOf z).grace = true ∧ s.flag (THM_Z_STAT_ACKED z) = true ∧ zoneTemp s z
      ≤ (s.zoneOf z).treq) ∧
    (∃ z ∈ ([0] : List (Fin 16)), ∃ s ∈ [upd (fun t => { t with thm := { zones := [(0, { grace := true })] } })
      [(THM_Z_STAT_ACKED z, 0)]], s.quiet = true ∧ (s.zoneOf z).grace = true ∧ (s.flag (THM_Z_STAT_ACKED z) = false ∨ (s.zoneOf
      z).treq < zoneTemp s z)) ∧
    (∃ z ∈ ([0] : List (Fin 16)), ∃ s ∈ [st [(THM_Z_STAT_ENFORCED z, 0)]], s.quiet = true ∧ s.flag (THM_Z_STAT_ENFORCED z) =
      false) ∧
    (∃ z ∈ ([0] : List (Fin 16)), ∃ s ∈ [st [(THM_Z_STAT_ENFORCED z, 1)]], s.quiet = true ∧ s.flag (THM_Z_STAT_ENFORCED z) =
      true) :=
  by refine ⟨?_, ?_, ?_, ?_, ?_, ?_⟩ <;> decide

theorem witness_HostRings :
    (∃ s ∈ [st []], s.quiet = true ∧ (s.perst = true ∨ s.hostBlind = true)) ∧
    (∃ s ∈ [upd (fun t => { t with perst := true }) []], s.quiet = true ∧ s.perst = true) ∧
    (∃ r ∈ ([0] : List (Fin 32)), ∃ s ∈ [st [(PWR_START_STAT_STEP, 11), (HOST_R_CTRL_SQ_SIZE 0, 4)]], s.quiet = true ∧ s.perst =
      false ∧ s.hostBlind = false ∧ 2 ^ s.fld (HOST_R_CTRL_SQ_SIZE r) ≤ (16 : BitVec 16).toNat) ∧
    (∃ r ∈ ([0] : List (Fin 32)), ∃ s ∈ [st [(PWR_START_STAT_STEP, 11), (HOST_R_CTRL_SQ_SIZE 0, 4)]], s.quiet = true ∧ s.perst =
      false ∧ s.hostBlind = false ∧ (15 : BitVec 16).toNat < 2 ^ s.fld (HOST_R_CTRL_SQ_SIZE r)) ∧
    (∃ r ∈ ([0] : List (Fin 32)), ∃ s ∈ [st [(PWR_START_STAT_STEP, 11), (HOST_R_CTRL_CQ_SIZE 0, 4)]], s.quiet = true ∧ s.perst =
      false ∧ s.hostBlind = false ∧ hringSize s r ≤ (16 : BitVec 16).toNat) ∧
    (∃ s ∈ [st [(PWR_START_STAT_STEP, 11), (HOST_T_CTRL_SIZE 0, 4)]], s.quiet = true ∧ s.perst = false ∧ s.hostBlind = false ∧
      hringSize s 32 ≤ (16 : BitVec 16).toNat) ∧
    (∃ s ∈ [st [(PWR_START_STAT_STEP, 11), (HOST_T_CTRL_SIZE 1, 4)]], s.quiet = true ∧ s.perst = false ∧ s.hostBlind = false ∧
      hringSize s 33 ≤ (16 : BitVec 16).toNat) ∧
    (∃ r ∈ ([0] : List (Fin 32)), ∃ s ∈ [st [(PWR_START_STAT_STEP, 11), (HOST_R_CTRL_CQ_SIZE 0, 4)]], s.quiet = true ∧ s.perst =
      false ∧ s.hostBlind = false ∧ (15 : BitVec 16).toNat < hringSize s r) ∧
    (∃ s ∈ [st [(PWR_START_STAT_STEP, 11), (HOST_T_CTRL_SIZE 0, 4)]], s.quiet = true ∧ s.perst = false ∧ s.hostBlind = false ∧
      (15 : BitVec 16).toNat < hringSize s 32) ∧
    (∃ s ∈ [st [(PWR_START_STAT_STEP, 11), (HOST_T_CTRL_SIZE 1, 4)]], s.quiet = true ∧ s.perst = false ∧ s.hostBlind = false ∧
      (15 : BitVec 16).toNat < hringSize s 33) ∧
    (∃ r ∈ ([0] : List (Fin 32)), ∃ s ∈ [upd (fun t => { t with busMaster := true }) [(HOST_R_CTRL_EN r, 1),
      (HOST_R_STAT_DMA_ERR r, 0), (HOST_R_CTRL_SEQ_ANY r, 0), (PWR_START_STAT_STEP, 11), (HOST_STAT_LINK_UP, 1)]], s.quiet =
      true ∧ hostRuns s = true ∧ s.hostReach = true ∧ s.flag (HOST_R_CTRL_EN r) = true ∧ s.flag (HOST_R_STAT_DMA_ERR r) = false
      ∧ (waiting (s.hqOf r)).length < 17 ∧ s.flag (HOST_R_CTRL_SEQ_ANY r) = false ∧ s.fld (HOST_R_SQH_HEAD r) = (s.hqOf r).tail) ∧
    (∃ r ∈ ([0] : List (Fin 32)), ∃ s ∈ [upd (fun t => { t with busMaster := true, hq := [(0, { tail := 1 })] })
      [(HOST_R_CTRL_EN r, 1), (HOST_R_STAT_DMA_ERR r, 0), (HOST_R_CTRL_SEQ_ANY r, 0), (PWR_START_STAT_STEP, 11),
      (HOST_STAT_LINK_UP, 1), (HOST_R_NEXTSEQ_SEQ 0, 1)]], s.quiet = true ∧ hostRuns s = true ∧ s.hostReach = true ∧ s.flag
      (HOST_R_CTRL_EN r) = true ∧ s.flag (HOST_R_STAT_DMA_ERR r) = false ∧ (waiting (s.hqOf r)).length < 17 ∧ s.flag
      (HOST_R_CTRL_SEQ_ANY r) = false ∧ s.fld (HOST_R_SQH_HEAD r) ≠ (s.hqOf r).tail ∧ descPart (0 : BitVec 256) 2 4 ≠ s.fld
      (HOST_R_NEXTSEQ_SEQ r)) ∧
    (∃ r ∈ ([0] : List (Fin 32)), ∃ s ∈ [upd (fun t => { t with busMaster := true, hq := [(0, { tail := 1 })] })
      [(HOST_R_CTRL_EN r, 1), (HOST_R_STAT_DMA_ERR r, 0), (HOST_R_CTRL_SEQ_ANY r, 0), (PWR_START_STAT_STEP, 11),
      (HOST_STAT_LINK_UP, 1), (PWR_FEED_STAT_HOLD_OK, 1), (HOST_R_NEXTSEQ_SEQ 0, 0)]], s.quiet = true ∧ hostRuns s = true ∧
      s.hostReach = true ∧ s.flag (HOST_R_CTRL_EN r) = true ∧ s.flag (HOST_R_STAT_DMA_ERR r) = false ∧ (waiting (s.hqOf
      r)).length < 17 ∧ s.flag (HOST_R_CTRL_SEQ_ANY r) = false ∧ s.fld (HOST_R_SQH_HEAD r) ≠ (s.hqOf r).tail ∧ descPart (0 :
      BitVec 256) 2 4 = s.fld (HOST_R_NEXTSEQ_SEQ r) ∧ s.storeHeld = false ∧ opStream (descPart (0 : BitVec 256) 0 1) = false) ∧
    (∃ r ∈ ([0] : List (Fin 32)), ∃ s ∈ [st []], s.quiet = true ∧ (s.storeHeld = true ∨ fetchedCmd (s.hqOf r) = none)) ∧
    (∃ r ∈ ([0] : List (Fin 32)), ∃ c ∈ [({ op := 8 } : HCmd)], ∃ s ∈ [upd (fun t =>
      { t with hq := [(0, { cmds := [{ op := 8 }] })] }) [(PWR_FEED_STAT_HOLD_OK, 1)]], s.quiet = true ∧ s.storeHeld = false ∧
      fetchedCmd (s.hqOf r) = some c ∧ opStream c.op = false) ∧
    (∃ r ∈ ([0] : List (Fin 32)), ∃ c ∈ [({ op := 16 } : HCmd)], ∃ i ∈ [(7 : Nat)], ∃ s ∈ [upd (fun t =>
      { t with hq := [(0, { cmds := [{ op := 16 }] })], jnl := { streams := [{ op := 16, index := 7 }] } })
      [(PWR_FEED_STAT_HOLD_OK, 1)]], s.quiet = true ∧ s.storeHeld = false ∧ fetchedCmd (s.hqOf r) = some c ∧ opStream c.op =
      true ∧ c.fail = .OK ∧ streamOf s r c.op (argNum c.args 0 1) = some i) ∧
    (∃ r ∈ ([0] : List (Fin 32)), ∃ s ∈ [st []], s.quiet = true ∧ waiting (s.hqOf r) = []) ∧
    (∃ r ∈ ([0] : List (Fin 32)), ∃ c ∈ [({ op := 8 } : HCmd)], ∃ s ∈ [upd (fun t =>
      { t with hq := [(0, { cmds := [{ op := 8 }] })] }) []], s.quiet = true ∧ (waiting (s.hqOf r)).head? = some c ∧ (hostRuns s
      = false ∨ c.stage = .fetched ∨ (c.flags.testBit 0 = true ∧ (s.mtime : Int) < c.nb) ∨ (c.flags.testBit 1 = true ∧ c.na ≤
      (s.mtime : Int)) ∨ 16 ≤ openCount (s.hqOf r) ∨ hringFull s r = true)) ∧
    (∃ r ∈ ([0] : List (Fin 32)), ∃ c ∈ [({ op := 8, stage := .accepted } : HCmd)], ∃ s ∈ [upd (fun t =>
      { t with hq := [(0, { cmds := [{ op := 8, stage := .accepted }] })] }) [(PWR_START_STAT_STEP, 11), (HOST_R_CTRL_CQ_SIZE 0,
      4)]], s.quiet = true ∧ (waiting (s.hqOf r)).head? = some c ∧ mayStart s r (s.hqOf r) c = true) ∧
    (∃ s ∈ [st []], s.quiet = true) ∧
    (∃ r ∈ ([0] : List (Fin 32)), ∃ c ∈ [({ op := 8, flags := 2 } : HCmd)], ∃ s ∈ [upd (fun t =>
      { t with hq := [(0, { cmds := [{ op := 8, flags := 2 }] })] }) []], s.quiet = true ∧ waiting (s.hqOf r) = [c] ∧
      c.flags.testBit 1 = true ∧ c.na ≤ (s.mtime : Int)) ∧
    (∃ r ∈ ([0] : List (Fin 32)), ∃ c ∈ [({ op := 8 } : HCmd)], ∃ s ∈ [upd (fun t =>
      { t with hq := [(0, { cmds := [{ op := 8 }] })] }) []], s.quiet = true ∧ waiting (s.hqOf r) = [c] ∧ (c.flags.testBit 1 =
      false ∨ (s.mtime : Int) < c.na)) ∧
    (∃ s ∈ [st []], s.quiet = true ∧ (s.results = [] ∨ s.storeHeld = true)) ∧
    (∃ y ∈ [({} : CmdResult)], ∃ ys ∈ [([] : List CmdResult)], ∃ s ∈ [upd (fun t => { t with results := [{}] })
      [(PWR_FEED_STAT_HOLD_OK, 1)]], s.quiet = true ∧ s.results = y :: ys ∧ s.storeHeld = false ∧ cmdOf s y.ref = none) ∧
    (∃ r ∈ ([0] : List (Fin 32)), ∃ y ∈ [({} : CmdResult)], ∃ ys ∈ [([] : List CmdResult)], ∃ c ∈ [({ op := 8 } : HCmd)], ∃ s ∈
      [upd (fun t => { t with results := [{}], hq := [(0, { cmds := [{ op := 8 }] })] }) [(PWR_FEED_STAT_HOLD_OK, 1)]], s.quiet
      = true ∧ s.results = y :: ys ∧ s.storeHeld = false ∧ cmdOf s y.ref = some c ∧ y.ref.ring = r.val) ∧
    (∃ k ∈ ([0] : List (Fin 34)), ∃ s ∈ [st []], s.quiet = true ∧ (s.hringOf k).irqPend = false) ∧
    (∃ k ∈ ([33] : List (Fin 34)), ∃ s ∈ [upd (fun t => { t with hring := [(33, { irqPend := true })] }) []], s.quiet = true ∧
      (s.hringOf k).irqPend = true ∧ (32 ≤ k.val ∨ s.flag (HOST_R_CTRL_IRQ_EN k) = true) ∧ ((s.hringOf k).lastIrq = none)) ∧
    (∃ r ∈ ([0] : List (Fin 32)), ∃ b ∈ [([1] : List Byte)], ∃ bs ∈ [([] : List (List Byte))], ∃ s ∈ [upd (fun t =>
      { t with hring := [(0, { held := [[1]] })] }) [(HOST_STAT_LINK_UP, 1), (HOST_STAT_LINK_UP, 1), (HOST_R_CTRL_EN 0, 1),
      (HOST_R_CTRL_CQ_SIZE 0, 4)]], s.quiet = true ∧ (s.hringOf r).held = b :: bs ∧ hringEn s r = true ∧ hringFull s r = false ∧
      s.flag HOST_STAT_LINK_UP = true ∧ ((∀ j : Fin 34, j.val ≠ r.val → (s.hringOf j).held = []))) ∧
    (∃ s ∈ [st []], s.quiet = true ∧ s.perst = false) ∧
    (∃ s ∈ [st [(PWR_START_STAT_STEP, 11)]], s.quiet = true ∧ s.perst = false ∧ (s.starting = false ∨ 3 < s.fld
      PWR_START_STAT_STEP)) ∧
    (∃ s ∈ [st [(PWR_MODE, 5), (PWR_MODE_SAFE_CAUSE, 255)]], s.quiet = true ∧ s.perst = false ∧ (s.starting = false ∨ 3 < s.fld
      PWR_START_STAT_STEP) ∧ s.exhausted = true) ∧
    (∃ s ∈ [st [(PWR_START_STAT_STEP, 11)]], s.quiet = true ∧ s.perst = false ∧ (s.starting = false ∨ 3 < s.fld
      PWR_START_STAT_STEP) ∧ s.exhausted = false ∧ s.starting = false) ∧
    (∃ s ∈ [st [(PWR_START_STAT_STEP, 4)]], s.quiet = true ∧ s.perst = false ∧ (s.starting = false ∨ 3 < s.fld
      PWR_START_STAT_STEP) ∧ s.exhausted = false ∧ s.starting = true) ∧
    (∃ n ∈ ([0] : List (Fin 256)), ∃ s ∈ [st [(HOST_TLM_CFG_EN n, 0)]], s.quiet = true ∧ s.fld (HOST_TLM_CFG_EN n) = 0) ∧
    (∃ n ∈ ([0] : List (Fin 256)), ∃ s ∈ [st [(HOST_TLM_CFG_EN n, 1), (HOST_TLM_CFG_KIND n, 1)]], s.quiet = true ∧ s.perst =
      false ∧ s.fld (HOST_TLM_CFG_EN n) = 1 ∧ s.fld (HOST_TLM_CFG_KIND n) = 1) ∧
    (∃ n ∈ ([0] : List (Fin 256)), ∃ s ∈ [upd (fun t => { t with busMaster := true }) [(HOST_TLM_CFG_EN n, 1),
      (HOST_TLM_CFG_KIND n, 0), (PWR_START_STAT_STEP, 11), (HOST_STAT_LINK_UP, 1), (HOST_TLM_ADDR 0, 0x6001A000),
      (HOST_T_CTRL_EN 0, 1), (HOST_T_CTRL_SIZE 0, 4)]], s.quiet = true ∧ s.perst = false ∧ s.fld (HOST_TLM_CFG_EN n) = 1 ∧ s.fld
      (HOST_TLM_CFG_KIND n) = 0 ∧ (mirrorFresh s (s.fld (HOST_TLM_ADDR n))).isSome = true ∧ ((Tbl.get {} s.tlm n).last = none) ∧
      hringOpen s 32 = true) ∧
    (∃ n ∈ ([0] : List (Fin 256)), ∃ s ∈ [upd (fun t => { t with busMaster := true, tlm := [(0, { last := some 0 })] })
      [(HOST_TLM_CFG_EN n, 1), (HOST_TLM_CFG_KIND n, 0), (HOST_TLM_FRESH n, 0), (PWR_START_STAT_STEP, 11), (HOST_STAT_LINK_UP,
      1), (HOST_TLM_ADDR 0, 0x6001A000), (HOST_T_CTRL_EN 0, 1), (HOST_T_CTRL_SIZE 0, 4)]], s.quiet = true ∧ s.perst = false ∧
      s.fld (HOST_TLM_CFG_EN n) = 1 ∧ s.fld (HOST_TLM_CFG_KIND n) = 0 ∧ (mirrorFresh s (s.fld (HOST_TLM_ADDR n))).isSome = true
      ∧ (Tbl.get {} s.tlm n).last = some (mirrorTime s (s.fld (HOST_TLM_ADDR n))) ∧ s.fld (HOST_TLM_FRESH n) = 0) :=
  by refine ⟨?_, ?_, ?_, ?_, ?_, ?_, ?_, ?_, ?_, ?_, ?_, ?_, ?_, ?_, ?_, ?_, ?_, ?_, ?_, ?_, ?_, ?_, ?_, ?_, ?_, ?_, ?_, ?_, ?_,
    ?_, ?_, ?_, ?_, ?_, ?_, ?_, ?_⟩ <;> decide +kernel

theorem witness_HostOpcodesOfControl :
    (∃ s ∈ [st []], s.quiet = true ∧ s.hostReach = false) ∧
    (∃ r ∈ ([0] : List (Fin 32)), ∃ a ∈ ([[]] : List (List Byte)), ∃ s ∈ [upd (fun t =>
      { t with hq := [(0, { cmds := [{ op := 0x00, stage := .started, args := [] }] })] }) [(PWR_START_STAT_STEP, 11)]], s.quiet
      = true ∧ (s.runs = true ∧ (startedCmd s r (0 : Word).toNat 0x00).map HCmd.args = some a)) ∧
    (∃ r ∈ ([0] : List (Fin 32)), ∃ a ∈ ([[]] : List (List Byte)), ∃ s ∈ [upd (fun t =>
      { t with hq := [(0, { cmds := [{ op := 0x07, stage := .started, args := [] }] })] }) [(PWR_START_STAT_STEP, 11)]], s.quiet
      = true ∧ (s.runs = true ∧ (startedCmd s r (0 : Word).toNat 0x07).map HCmd.args = some a)) ∧
    (∃ r ∈ ([0] : List (Fin 32)), ∃ a ∈ ([[0, 0, 0, 0, 9]] : List (List Byte)), ∃ s ∈ [upd (fun t =>
      { t with hq := [(0, { cmds := [{ op := 0x01, stage := .started, args := [0, 0, 0, 0, 9] }] })] }) [(PWR_START_STAT_STEP,
      11)]], s.quiet = true ∧ (s.runs = true ∧ (startedCmd s r (0 : Word).toNat 0x01).map HCmd.args = some a) ∧ (s.hqOf (argNum
      a 0 1)).recent.find? (fun x => x.1 = argNum a 4 4) = none) ∧
    (∃ x ∈ [((5, 0) : Nat × Nat)], ∃ t ∈ [({ seq := 5, op := 8, stage := .accepted } : HCmd)], ∃ s ∈ [upd (fun t =>
      { t with hq := [(0, { cmds := [{ op := 1, stage := .accepted, args := [1, 0, 0, 0, 5, 0, 0, 0] }] }), (1, { recent := [(5, 0)], cmds := [{ seq := 5, op := 8, stage := .accepted }] })] })
      [(PWR_START_STAT_STEP, 11), (HOST_R_CTRL_CQ_SIZE 0, 4)]], s.quiet = true ∧ (s.runs = true ∧ (startedCmd s (0 : Fin 32) (0
      : Word).toNat 0x01).map HCmd.args = some ([1, 0, 0, 0, 5, 0, 0, 0] : List Byte)) ∧ (s.hqOf (argNum ([1, 0, 0, 0, 5, 0, 0,
      0] : List Byte) 0 1)).recent.find? (fun x => x.1 = argNum ([1, 0, 0, 0, 5, 0, 0, 0] : List Byte) 4 4) = some x ∧ x.2 ≠ 1 ∧
      (argNum ([1, 0, 0, 0, 5, 0, 0, 0] : List Byte) 0 1 ≠ (0 : Fin 32).val ∨ argNum ([1, 0, 0, 0, 5, 0, 0, 0] : List Byte) 4 4
      ≠ (0 : Word).toNat) ∧ (s.hqOf (argNum ([1, 0, 0, 0, 5, 0, 0, 0] : List Byte) 0 1)).cmds.find? (fun y => y.seq = argNum
      ([1, 0, 0, 0, 5, 0, 0, 0] : List Byte) 4 4) = some t ∧ t.stage = .accepted ∧ t.fail = .OK ∧ t.op ≠ 0 ∧ t.op ≠ 7) ∧
    (∃ x ∈ [((5, 0) : Nat × Nat)], ∃ t ∈ [({ seq := 5, op := 8, stage := .done } : HCmd)], ∃ s ∈ [upd (fun t =>
      { t with hq := [(0, { cmds := [{ op := 1, stage := .accepted, args := [1, 0, 0, 0, 5, 0, 0, 0] }] }), (1, { recent := [(5, 0)], cmds := [{ seq := 5, op := 8, stage := .done }] })] })
      [(PWR_START_STAT_STEP, 11), (HOST_R_CTRL_CQ_SIZE 0, 4)]], s.quiet = true ∧ (s.runs = true ∧ (startedCmd s (0 : Fin 32) (0
      : Word).toNat 0x01).map HCmd.args = some ([1, 0, 0, 0, 5, 0, 0, 0] : List Byte)) ∧ (s.hqOf (argNum ([1, 0, 0, 0, 5, 0, 0,
      0] : List Byte) 0 1)).recent.find? (fun x => x.1 = argNum ([1, 0, 0, 0, 5, 0, 0, 0] : List Byte) 4 4) = some x ∧ x.2 ≠ 1 ∧
      (argNum ([1, 0, 0, 0, 5, 0, 0, 0] : List Byte) 0 1 ≠ (0 : Fin 32).val ∨ argNum ([1, 0, 0, 0, 5, 0, 0, 0] : List Byte) 4 4
      ≠ (0 : Word).toNat) ∧ (s.hqOf (argNum ([1, 0, 0, 0, 5, 0, 0, 0] : List Byte) 0 1)).cmds.find? (fun y => y.seq = argNum
      ([1, 0, 0, 0, 5, 0, 0, 0] : List Byte) 4 4) = some t ∧ t.stage = .done) ∧
    (∃ x ∈ [((5, 0) : Nat × Nat)], ∃ t ∈ [({ seq := 5, op := 8, stage := .started } : HCmd)], ∃ s ∈ [upd (fun t =>
      { t with hq := [(0, { cmds := [{ op := 1, stage := .accepted, args := [1, 0, 0, 0, 5, 0, 0, 0] }] }), (1, { recent := [(5, 0)], cmds := [{ seq := 5, op := 8, stage := .started }] })] })
      [(PWR_START_STAT_STEP, 11), (HOST_R_CTRL_CQ_SIZE 0, 4)]], s.quiet = true ∧ (s.runs = true ∧ (startedCmd s (0 : Fin 32) (0
      : Word).toNat 0x01).map HCmd.args = some ([1, 0, 0, 0, 5, 0, 0, 0] : List Byte)) ∧ (s.hqOf (argNum ([1, 0, 0, 0, 5, 0, 0,
      0] : List Byte) 0 1)).recent.find? (fun x => x.1 = argNum ([1, 0, 0, 0, 5, 0, 0, 0] : List Byte) 4 4) = some x ∧ x.2 ≠ 1 ∧
      (argNum ([1, 0, 0, 0, 5, 0, 0, 0] : List Byte) 0 1 ≠ (0 : Fin 32).val ∨ argNum ([1, 0, 0, 0, 5, 0, 0, 0] : List Byte) 4 4
      ≠ (0 : Word).toNat) ∧ (s.hqOf (argNum ([1, 0, 0, 0, 5, 0, 0, 0] : List Byte) 0 1)).cmds.find? (fun y => y.seq = argNum
      ([1, 0, 0, 0, 5, 0, 0, 0] : List Byte) 4 4) = some t ∧ (t.stage = .started ∨ t.stage = .running) ∧ opAbortable t.op t.args
      = false ∧ (∀ y ∈ s.results, y.ref ≠ ⟨argNum ([1, 0, 0, 0, 5, 0, 0, 0] : List Byte) 0 1, argNum ([1, 0, 0, 0, 5, 0, 0, 0] :
      List Byte) 4 4⟩)) ∧
    (∃ x ∈ [((5, 0) : Nat × Nat)], ∃ t ∈ [({ seq := 5, op := 2, stage := .started } : HCmd)], ∃ s ∈ [upd (fun t =>
      { t with hq := [(0, { cmds := [{ op := 1, stage := .accepted, args := [1, 0, 0, 0, 5, 0, 0, 0] }] }), (1, { recent := [(5, 0)], cmds := [{ seq := 5, op := 2, stage := .started }] })] })
      [(PWR_START_STAT_STEP, 11), (HOST_R_CTRL_CQ_SIZE 0, 4)]], s.quiet = true ∧ (s.runs = true ∧ (startedCmd s (0 : Fin 32) (0
      : Word).toNat 0x01).map HCmd.args = some ([1, 0, 0, 0, 5, 0, 0, 0] : List Byte)) ∧ (s.hqOf (argNum ([1, 0, 0, 0, 5, 0, 0,
      0] : List Byte) 0 1)).recent.find? (fun x => x.1 = argNum ([1, 0, 0, 0, 5, 0, 0, 0] : List Byte) 4 4) = some x ∧ x.2 ≠ 1 ∧
      (argNum ([1, 0, 0, 0, 5, 0, 0, 0] : List Byte) 0 1 ≠ (0 : Fin 32).val ∨ argNum ([1, 0, 0, 0, 5, 0, 0, 0] : List Byte) 4 4
      ≠ (0 : Word).toNat) ∧ (s.hqOf (argNum ([1, 0, 0, 0, 5, 0, 0, 0] : List Byte) 0 1)).cmds.find? (fun y => y.seq = argNum
      ([1, 0, 0, 0, 5, 0, 0, 0] : List Byte) 4 4) = some t ∧ t.stage = .started ∧ opAbortable t.op t.args = true ∧ t.op ≠ 0x3A ∧
      (∀ y ∈ s.results, y.ref ≠ ⟨argNum ([1, 0, 0, 0, 5, 0, 0, 0] : List Byte) 0 1, argNum ([1, 0, 0, 0, 5, 0, 0, 0] : List
      Byte) 4 4⟩)) ∧
    (∃ r ∈ ([0] : List (Fin 32)), ∃ a ∈ ([[]] : List (List Byte)), ∃ s ∈ [upd (fun t =>
      { t with hq := [(0, { cmds := [{ op := 0x02, stage := .started, args := [] }] })] }) [(PWR_START_STAT_STEP, 11),
      (PWR_MODE_CHANGING, 1), (PWR_MODE_CHANGING, 1)]], s.quiet = true ∧ (s.runs = true ∧ (startedCmd s r (0 : Word).toNat
      0x02).map HCmd.args = some a) ∧ s.flag PWR_MODE_CHANGING = true) ∧
    (∃ r ∈ ([0] : List (Fin 32)), ∃ a ∈ ([[1]] : List (List Byte)), ∃ s ∈ [upd (fun t =>
      { t with hq := [(0, { cmds := [{ op := 0x02, stage := .started, args := [1] }] })] }) [(PWR_START_STAT_STEP, 11),
      (PWR_MODE_CHANGING, 0), (PWR_MODE, 1)]], s.quiet = true ∧ (s.runs = true ∧ (startedCmd s r (0 : Word).toNat 0x02).map
      HCmd.args = some a) ∧ s.flag PWR_MODE_CHANGING = false ∧ argNum a 0 1 = s.mode) ∧
    (∃ r ∈ ([0] : List (Fin 32)), ∃ a ∈ ([[9]] : List (List Byte)), ∃ s ∈ [upd (fun t =>
      { t with hq := [(0, { cmds := [{ op := 0x02, stage := .started, args := [9] }] })] }) [(PWR_START_STAT_STEP, 11),
      (PWR_MODE_CHANGING, 0)]], s.quiet = true ∧ (s.runs = true ∧ (startedCmd s r (0 : Word).toNat 0x02).map HCmd.args = some a)
      ∧ s.flag PWR_MODE_CHANGING = false ∧ argNum a 0 1 ≠ s.mode ∧ modeStatus s (argNum a 0 1) (argNum a 1 1) ≠ .OK) ∧
    (∃ r ∈ ([0] : List (Fin 32)), ∃ a ∈ ([[2]] : List (List Byte)), ∃ s ∈ [upd (fun t =>
      { t with hq := [(0, { cmds := [{ op := 0x02, stage := .started, args := [2] }] })] }) [(PWR_START_STAT_STEP, 11),
      (PWR_MODE_CHANGING, 0), (PWR_MODE, 1), (CHG_STAT_PLUG, 0), (TRC_DL_STAT_CODE 0, 250), (TRC_M_CFG_EN 0, 1), (TRC_DL_CFG_ADC
      0, 0), (TRC_DL_CFG_ENTRY 0, 0), (ADC_SEQ_SCALE 0 0, 12)]], s.quiet = true ∧ (s.runs = true ∧ (startedCmd s r (0 :
      Word).toNat 0x02).map HCmd.args = some a) ∧ s.flag PWR_MODE_CHANGING = false ∧ s.mode = 1 ∧ argNum a 0 1 = 2 ∧
      driveVoltage s = true ∧ s.flag CHG_STAT_PLUG = false ∧ driveLegs s = true) ∧
    (∃ r ∈ ([0] : List (Fin 32)), ∃ a ∈ ([[]] : List (List Byte)), ∃ s ∈ [upd (fun t =>
      { t with hq := [(0, { cmds := [{ op := 0x02, stage := .started, args := [] }] })] }) [(PWR_START_STAT_STEP, 11),
      (PWR_MODE, 1)]], s.quiet = true ∧ (s.runs = true ∧ (startedCmd s r (0 : Word).toNat 0x02).map HCmd.args = some a) ∧ s.mode
      = 1 ∧ driveVoltage s = false) ∧
    (∃ r ∈ ([0] : List (Fin 32)), ∃ a ∈ ([[]] : List (List Byte)), ∃ s ∈ [upd (fun t =>
      { t with hq := [(0, { cmds := [{ op := 0x02, stage := .started, args := [] }] })] }) [(PWR_START_STAT_STEP, 11),
      (PWR_MODE, 2)]], s.quiet = true ∧ (s.runs = true ∧ (startedCmd s r (0 : Word).toNat 0x02).map HCmd.args = some a) ∧ s.mode
      = 2) ∧
    (∃ r ∈ ([0] : List (Fin 32)), ∃ a ∈ ([[]] : List (List Byte)), ∃ s ∈ [upd (fun t =>
      { t with hq := [(0, { cmds := [{ op := 0x02, stage := .started, args := [] }] })] }) [(PWR_START_STAT_STEP, 11),
      (PWR_MODE, 1), (CHG_STAT_PLUG, 0), (PWR_MODE, 1)]], s.quiet = true ∧ (s.runs = true ∧ (startedCmd s r (0 : Word).toNat
      0x02).map HCmd.args = some a) ∧ s.mode = 1 ∧ s.flag CHG_STAT_PLUG = false) ∧
    (∃ r ∈ ([0] : List (Fin 32)), ∃ a ∈ ([[]] : List (List Byte)), ∃ s ∈ [upd (fun t =>
      { t with hq := [(0, { cmds := [{ op := 0x02, stage := .started, args := [] }] })] }) [(PWR_START_STAT_STEP, 11),
      (PWR_MODE, 5), (SAF_STAT_DEV_LATCH, 1), (SAF_STAT_DEV_LATCH, 1)]], s.quiet = true ∧ (s.runs = true ∧ (startedCmd s r (0 :
      Word).toNat 0x02).map HCmd.args = some a) ∧ s.mode = 5 ∧ s.flag SAF_STAT_DEV_LATCH = true) ∧
    (∃ r ∈ ([0] : List (Fin 32)), ∃ a ∈ ([[1]] : List (List Byte)), ∃ s ∈ [upd (fun t =>
      { t with hq := [(0, { cmds := [{ op := 0x03, stage := .started, args := [1] }] })] }) [(PWR_START_STAT_STEP, 11),
      (PWR_FEED_STAT_HOLD_OK, 0)]], s.quiet = true ∧ (s.runs = true ∧ (startedCmd s r (0 : Word).toNat 0x03).map HCmd.args =
      some a) ∧ argNum a 0 1 = 1 ∧ s.storeHeld = true) ∧
    (∃ r ∈ ([0] : List (Fin 32)), ∃ a ∈ ([[1]] : List (List Byte)), ∃ s ∈ [upd (fun t =>
      { t with hq := [(0, { cmds := [{ op := 0x03, stage := .started, args := [1] }] })] }) [(PWR_START_STAT_STEP, 11),
      (PWR_FEED_STAT_HOLD_OK, 1)]], s.quiet = true ∧ (s.runs = true ∧ (startedCmd s r (0 : Word).toNat 0x03).map HCmd.args =
      some a) ∧ s.storeHeld = false ∧ argNum a 0 1 = 1) ∧
    (∃ r ∈ ([0] : List (Fin 32)), ∃ a ∈ ([[2]] : List (List Byte)), ∃ s ∈ [upd (fun t =>
      { t with hq := [(0, { cmds := [{ op := 0x03, stage := .started, args := [2] }] })] }) [(PWR_START_STAT_STEP, 11),
      (PWR_FEED_STAT_HOLD_OK, 1), (PWR_MODE, 5), (PWR_MODE_SAFE_CAUSE, 255)]], s.quiet = true ∧ (s.runs = true ∧ (startedCmd s r
      (0 : Word).toNat 0x03).map HCmd.args = some a) ∧ s.storeHeld = false ∧ argNum a 0 1 = 2 ∧ s.exhausted = true) ∧
    (∃ r ∈ ([0] : List (Fin 32)), ∃ a ∈ ([[2]] : List (List Byte)), ∃ s ∈ [upd (fun t =>
      { t with hq := [(0, { cmds := [{ op := 0x03, stage := .started, args := [2] }] })] }) [(PWR_START_STAT_STEP, 11),
      (PWR_START_STAT_STEP, 11), (PWR_FEED_STAT_HOLD_OK, 1)]], s.quiet = true ∧ (s.runs = true ∧ (startedCmd s r (0 :
      Word).toNat 0x03).map HCmd.args = some a) ∧ s.storeHeld = false ∧ argNum a 0 1 = 2 ∧ s.ready = true ∧ s.exhausted = false) ∧
    (∃ r ∈ ([0] : List (Fin 32)), ∃ a ∈ ([[1]] : List (List Byte)), ∃ s ∈ [upd (fun t =>
      { t with hq := [(0, { cmds := [{ op := 0x04, stage := .started, args := [1] }] })] }) [(PWR_START_STAT_STEP, 11),
      (PWR_MODE, 2)]], s.quiet = true ∧ (s.runs = true ∧ (startedCmd s r (0 : Word).toNat 0x04).map HCmd.args = some a) ∧ argNum
      a 0 1 ≠ 0 ∧ s.mode ≠ 1) ∧
    (∃ r ∈ ([0] : List (Fin 32)), ∃ a ∈ ([[1]] : List (List Byte)), ∃ s ∈ [upd (fun t =>
      { t with hq := [(0, { cmds := [{ op := 0x04, stage := .started, args := [1] }] })] }) [(PWR_START_STAT_STEP, 11),
      (PWR_MODE, 1), (PWR_PS_STAT_ENTERING, 1)]], s.quiet = true ∧ (s.runs = true ∧ (startedCmd s r (0 : Word).toNat 0x04).map
      HCmd.args = some a) ∧ argNum a 0 1 ≠ 0 ∧ s.mode = 1 ∧ (s.flag PWR_PS_STAT_ENTERING = true ∨ s.sup.drill.isSome = true ∨
      s.sup.check.isSome = true ∨ s.flag PWR_FEED_STAT_DIP = true)) ∧
    (∃ r ∈ ([0] : List (Fin 32)), ∃ a ∈ ([[1]] : List (List Byte)), ∃ s ∈ [upd (fun t =>
      { t with hq := [(0, { cmds := [{ op := 0x04, stage := .started, args := [1] }] })] }) [(PWR_START_STAT_STEP, 11),
      (PWR_MODE, 1), (PWR_PS_STAT_ENTERING, 0), (PWR_FEED_STAT_DIP, 0)]], s.quiet = true ∧ (s.runs = true ∧ (startedCmd s r (0 :
      Word).toNat 0x04).map HCmd.args = some a) ∧ argNum a 0 1 ≠ 0 ∧ s.mode = 1 ∧ s.flag PWR_PS_STAT_ENTERING = false ∧
      s.sup.drill = none ∧ s.sup.check = none ∧ s.flag PWR_FEED_STAT_DIP = false) ∧
    (∃ r ∈ ([0] : List (Fin 32)), ∃ a ∈ ([[]] : List (List Byte)), ∃ s ∈ [upd (fun t =>
      { t with hq := [(0, { cmds := [{ op := 0x05, stage := .started, args := [] }] })] }) [(PWR_START_STAT_STEP, 11),
      (PWR_FEED_STAT_IN, 1)]], s.quiet = true ∧ (s.runs = true ∧ (startedCmd s r (0 : Word).toNat 0x05).map HCmd.args = some a)
      ∧ feedIn s (1 - activeFeed s) = false) ∧
    (∃ r ∈ ([0] : List (Fin 32)), ∃ a ∈ ([[]] : List (List Byte)), ∃ s ∈ [upd (fun t =>
      { t with hq := [(0, { cmds := [{ op := 0x05, stage := .started, args := [] }] })] }) [(PWR_START_STAT_STEP, 11),
      (PWR_FEED_STAT_DIP, 0), (PWR_PS_STAT_ENTERING, 0), (PWR_FEED_STAT_IN, 3)]], s.quiet = true ∧ (s.runs = true ∧ (startedCmd
      s r (0 : Word).toNat 0x05).map HCmd.args = some a) ∧ feedIn s (1 - activeFeed s) = true ∧ s.sup.drill = none ∧ s.sup.check
      = none ∧ s.flag PWR_FEED_STAT_DIP = false ∧ s.flag PWR_PS_STAT_ENTERING = false) ∧
    (∃ r ∈ ([0] : List (Fin 32)), ∃ a ∈ ([[]] : List (List Byte)), ∃ s ∈ [upd (fun t =>
      { t with hq := [(0, { cmds := [{ op := 0x06, stage := .started, args := [] }] })] }) [(PWR_START_STAT_STEP, 11)]], s.quiet
      = true ∧ (s.runs = true ∧ (startedCmd s r (0 : Word).toNat 0x06).map HCmd.args = some a)) ∧
    (∃ r ∈ ([0] : List (Fin 32)), ∃ a ∈ ([[0, 128, 5, 96]] : List (List Byte)), ∃ s ∈ [upd (fun t =>
      { t with hq := [(0, { cmds := [{ op := 0x08, stage := .started, args := [0, 128, 5, 96] }] })] }) [(PWR_START_STAT_STEP,
      11)]], s.quiet = true ∧ (s.runs = true ∧ (startedCmd s r (0 : Word).toNat 0x08).map HCmd.args = some a) ∧ blkAt (argNum a
      0 4) = some .saf) ∧
    (∃ r ∈ ([0] : List (Fin 32)), ∃ a ∈ ([[32, 0, 10, 96]] : List (List Byte)), ∃ s ∈ [upd (fun t =>
      { t with hq := [(0, { cmds := [{ op := 0x08, stage := .started, args := [32, 0, 10, 96] }] })] }) [(PWR_START_STAT_STEP,
      11)]], s.quiet = true ∧ (s.runs = true ∧ (startedCmd s r (0 : Word).toNat 0x08).map HCmd.args = some a) ∧ argNum a 0 4 =
      0x600A0020) ∧
    (∃ r ∈ ([0] : List (Fin 32)), ∃ a ∈ ([[32, 0, 10, 96]] : List (List Byte)), ∃ s ∈ [upd (fun t =>
      { t with hq := [(0, { cmds := [{ op := 0x09, stage := .started, args := [32, 0, 10, 96] }] })] }) [(PWR_START_STAT_STEP,
      11)]], s.quiet = true ∧ (s.runs = true ∧ (startedCmd s r (0 : Word).toNat 0x09).map HCmd.args = some a) ∧ argNum a 0 4 =
      0x600A0020) ∧
    (∃ r ∈ ([0] : List (Fin 32)), ∃ a ∈ ([[4]] : List (List Byte)), ∃ s ∈ [upd (fun t =>
      { t with hq := [(0, { cmds := [{ op := 0x0A, stage := .started, args := [4] }] })] }) [(PWR_START_STAT_STEP, 11)]],
      s.quiet = true ∧ (s.runs = true ∧ (startedCmd s r (0 : Word).toNat 0x0A).map HCmd.args = some a) ∧ s.sup.parked = 0 ∧
      isWord s (argNum a 0 4) = false) ∧
    (∃ r ∈ ([0] : List (Fin 32)), ∃ a ∈ ([[248, 255, 63, 80]] : List (List Byte)), ∃ s ∈ [upd (fun t =>
      { t with hq := [(0, { cmds := [{ op := 0x0A, stage := .started, args := [248, 255, 63, 80] }] })] })
      [(PWR_START_STAT_STEP, 11)]], s.quiet = true ∧ (s.runs = true ∧ (startedCmd s r (0 : Word).toNat 0x0A).map HCmd.args =
      some a) ∧ s.sup.parked = 0 ∧ 0x50000000 ≤ argNum a 0 4 ∧ argNum a 0 4 < 0x50400000 ∧ argNum a 0 4 % 8 = 0 ∧ bankShut s
      (argNum a 0 4) = false) ∧
    (∃ r ∈ ([0] : List (Fin 32)), ∃ a ∈ ([[0]] : List (List Byte)), ∃ n ∈ ([0] : List (Fin 256)), ∃ s ∈ [upd (fun t =>
      { t with hq := [(0, { cmds := [{ op := 0x38, stage := .started, args := [0] }] })] }) [(PWR_START_STAT_STEP, 11)]],
      s.quiet = true ∧ (s.runs = true ∧ (startedCmd s r (0 : Word).toNat 0x38).map HCmd.args = some a) ∧ argNum a 0 1 = n.val) ∧
    (∃ r ∈ ([0] : List (Fin 32)), ∃ a ∈ ([[0, 0, 0, 0, 1]] : List (List Byte)), ∃ s ∈ [upd (fun t =>
      { t with hq := [(0, { cmds := [{ op := 0x39, stage := .started, args := [0, 0, 0, 0, 1] }] })], busMaster := true })
      [(PWR_START_STAT_STEP, 11), (JNL_STAT_EMPTY, 1), (HOST_STAT_LINK_UP, 1)]], s.quiet = true ∧ (s.runs = true ∧ (startedCmd s
      r (0 : Word).toNat 0x39).map HCmd.args = some a) ∧ s.hostReach = true ∧ (s.flag JNL_STAT_EMPTY = true ∨ argNum a 0 4 <
      s.fld JNL_OLDEST_INDEX ∨ s.fld JNL_HEAD_INDEX < argNum a 0 4) ∧ 1 ≤ argNum a 4 2) ∧
    (∃ r ∈ ([0] : List (Fin 32)), ∃ a ∈ ([[0, 0, 0, 0, 1]] : List (List Byte)), ∃ s ∈ [upd (fun t =>
      { t with hq := [(0, { cmds := [{ op := 0x39, stage := .started, args := [0, 0, 0, 0, 1] }] })], busMaster := true })
      [(PWR_START_STAT_STEP, 11), (JNL_STAT_EMPTY, 0), (HOST_STAT_LINK_UP, 1), (JNL_STAT_EMPTY, 0), (JNL_HEAD_INDEX, 0),
      (JNL_OLDEST_INDEX, 0)]], s.quiet = true ∧ (s.runs = true ∧ (startedCmd s r (0 : Word).toNat 0x39).map HCmd.args = some a)
      ∧ s.hostReach = true ∧ s.flag JNL_STAT_EMPTY = false ∧ s.fld JNL_OLDEST_INDEX ≤ argNum a 0 4 ∧ 1 ≤ argNum a 4 2 ∧ argNum a
      0 4 + argNum a 4 2 ≤ s.fld JNL_HEAD_INDEX + 1) ∧
    (∃ s ∈ [st []], s.quiet = true ∧ s.storeHeld = true) ∧
    (∃ r ∈ ([0] : List (Fin 32)), ∃ a ∈ ([[0, 0, 0, 0, 0, 0, 0, 0, 0, 0, 0, 0, 0, 0, 0, 0]] : List (List Byte)), ∃ s ∈ [upd (fun
      t =>
      { t with hq := [(0, { cmds := [{ op := 0x3A, stage := .started, args := [0, 0, 0, 0, 0, 0, 0, 0, 0, 0, 0, 0, 0, 0, 0, 0] }] })], busMaster := true })
      [(PWR_START_STAT_STEP, 11), (IMG_STAT_ACTIVE, argNum a 15 1), (PWR_FEED_STAT_HOLD_OK, 1), (HOST_STAT_LINK_UP, 1)]],
      s.quiet = true ∧ (s.runs = true ∧ (startedCmd s r (0 : Word).toNat 0x3A).map HCmd.args = some a) ∧ s.hostReach = true ∧
      s.storeHeld = false ∧ argNum a 15 1 < 2 ∧ s.fld IMG_STAT_ACTIVE = argNum a 15 1) ∧
    (∃ r ∈ ([0] : List (Fin 32)), ∃ a ∈ ([[0, 0, 0, 0, 0, 0, 0, 0, 0, 0, 0, 0, 0, 0, 0, 2]] : List (List Byte)), ∃ s ∈ [upd (fun
      t =>
      { t with hq := [(0, { cmds := [{ op := 0x3A, stage := .started, args := [0, 0, 0, 0, 0, 0, 0, 0, 0, 0, 0, 0, 0, 0, 0, 2] }] })], busMaster := true })
      [(PWR_START_STAT_STEP, 11), (PWR_FEED_STAT_HOLD_OK, 1), (HOST_STAT_LINK_UP, 1)]], s.quiet = true ∧ (s.runs = true ∧
      (startedCmd s r (0 : Word).toNat 0x3A).map HCmd.args = some a) ∧ s.hostReach = true ∧ s.storeHeld = false ∧ argNum a 15 1
      = 2) ∧
    (∃ r ∈ ([0] : List (Fin 32)), ∃ a ∈ ([[0, 0, 0, 0, 0, 0, 0, 0, 0, 0, 0, 0, 0, 0, 0, 2]] : List (List Byte)), ∃ d ∈ [([0] :
      List Byte)], ∃ s ∈ [upd (fun t =>
      { t with hq := [(0, { cmds := [{ op := 0x3A, stage := .started, args := [0, 0, 0, 0, 0, 0, 0, 0, 0, 0, 0, 0, 0, 0, 0, 2] }] })], busMaster := true })
      [(PWR_START_STAT_STEP, 11), (PWR_FEED_STAT_HOLD_OK, 1), (HOST_STAT_LINK_UP, 1)]], s.quiet = true ∧ (s.runs = true ∧
      (startedCmd s r (0 : Word).toNat 0x3A).map HCmd.args = some a) ∧ s.hostReach = true ∧ s.storeHeld = false ∧ argNum a 15 1
      = 2 ∧ argNum a 12 3 ≤ d.length ∧ s.deferred = []) ∧
    (∃ r ∈ ([0] : List (Fin 32)), ∃ a ∈ ([[]] : List (List Byte)), ∃ s ∈ [upd (fun t =>
      { t with hq := [(0, { cmds := [{ op := 0x3B, stage := .started, args := [] }] })] }) [(PWR_START_STAT_STEP, 11),
      (PWR_MODE, 2)]], s.quiet = true ∧ (s.runs = true ∧ (startedCmd s r (0 : Word).toNat 0x3B).map HCmd.args = some a) ∧
      activateStatus s (argNum a 0 1) ≠ .OK) ∧
    (∃ r ∈ ([0] : List (Fin 32)), ∃ a ∈ ([[]] : List (List Byte)), ∃ s ∈ [upd (fun t =>
      { t with hq := [(0, { cmds := [{ op := 0x3B, stage := .started, args := [] }] })] }) [(PWR_START_STAT_STEP, 11),
      (PWR_MODE, 2), (PWR_MODE, 0), (PWR_MODE, 2)]], s.quiet = true ∧ (s.runs = true ∧ (startedCmd s r (0 : Word).toNat
      0x3B).map HCmd.args = some a) ∧ s.mode ≠ 1 ∧ s.mode ≠ 5) ∧
    (∃ r ∈ ([0] : List (Fin 32)), ∃ a ∈ ([[]] : List (List Byte)), ∃ s ∈ [upd (fun t =>
      { t with hq := [(0, { cmds := [{ op := 0x40, stage := .started, args := [] }] })] }) [(PWR_START_STAT_STEP, 11),
      (TST_SST_STAT_BUSY, 1)]], s.quiet = true ∧ (s.runs = true ∧ (startedCmd s r (0 : Word).toNat 0x40).map HCmd.args = some a)
      ∧ s.flag TST_SST_STAT_BUSY = true) ∧
    (∃ r ∈ ([0] : List (Fin 32)), ∃ a ∈ ([[]] : List (List Byte)), ∃ s ∈ [upd (fun t =>
      { t with hq := [(0, { cmds := [{ op := 0x40, stage := .started, args := [] }] })] }) [(PWR_START_STAT_STEP, 11),
      (TST_SST_STAT_BUSY, 0)]], s.quiet = true ∧ (s.runs = true ∧ (startedCmd s r (0 : Word).toNat 0x40).map HCmd.args = some a)
      ∧ s.flag TST_SST_STAT_BUSY = false ∧ ((∀ n : Fin 48, (argNum a 0 6).testBit n = true → sstSkipped s n = true))) ∧
    (∃ r ∈ ([0] : List (Fin 32)), ∃ a ∈ ([[1]] : List (List Byte)), ∃ n ∈ ([0] : List (Fin 48)), ∃ s ∈ [upd (fun t =>
      { t with hq := [(0, { cmds := [{ op := 0x40, stage := .started, args := [1] }] })] }) [(PWR_START_STAT_STEP, 11),
      (TST_SST_STAT_BUSY, 0)]], s.quiet = true ∧ (s.runs = true ∧ (startedCmd s r (0 : Word).toNat 0x40).map HCmd.args = some a)
      ∧ s.flag TST_SST_STAT_BUSY = false ∧ (argNum a 0 6).testBit n = true ∧ sstSkipped s n = false) ∧
    (∃ r ∈ ([0] : List (Fin 32)), ∃ a ∈ ([[]] : List (List Byte)), ∃ s ∈ [upd (fun t =>
      { t with hq := [(0, { cmds := [{ op := 0x30, stage := .started, args := [] }] })], busMaster := true })
      [(PWR_START_STAT_STEP, 11), (HOST_STAT_LINK_UP, 1)]], s.quiet = true ∧ (s.runs = true ∧ (startedCmd s r (0 : Word).toNat
      0x30).map HCmd.args = some a) ∧ s.hostReach = true) ∧
    (∃ r ∈ ([0] : List (Fin 32)), ∃ a ∈ ([[]] : List (List Byte)), ∃ s ∈ [upd (fun t =>
      { t with hq := [(0, { cmds := [{ op := 0x30, stage := .started, args := [] }] })], busMaster := true })
      [(PWR_START_STAT_STEP, 11), (HOST_STAT_LINK_UP, 1)]], s.quiet = true ∧ (s.runs = true ∧ (startedCmd s r (0 : Word).toNat
      0x30).map HCmd.args = some a) ∧ s.hostReach = true ∧ ((∀ c : Fin 32, s.flag (SAF_FJ_CFG_EN c) = false ∨ s.flag
      (SAF_FJ_CFG_DIR c) = true ∨ s.fld (SAF_FJ_CFG_CHANNEL c) ≠ 9 ∨ s.fld (SAF_FJ_ADDR c) ≠ r.val))) :=
  by refine ⟨?_, ?_, ?_, ?_, ?_, ?_, ?_, ?_, ?_, ?_, ?_, ?_, ?_, ?_, ?_, ?_, ?_, ?_, ?_, ?_, ?_, ?_, ?_, ?_, ?_, ?_, ?_, ?_, ?_,
    ?_, ?_, ?_, ?_, ?_, ?_, ?_, ?_, ?_, ?_, ?_, ?_, ?_, ?_, ?_, ?_⟩ <;> decide +kernel

theorem witness_HostOpcodesOfTheFunctions :
    (∃ r ∈ ([0] : List (Fin 32)), ∃ a ∈ ([[0]] : List (List Byte)), ∃ m ∈ ([0] : List (Fin 4)), ∃ s ∈ [upd (fun t =>
      { t with hq := [(0, { cmds := [{ op := 0x10, stage := .started, args := [0] }] })] }) [(PWR_START_STAT_STEP, 11)]],
      s.quiet = true ∧ (s.runs = true ∧ (startedCmd s r (0 : Word).toNat 0x10).map HCmd.args = some a) ∧ argNum a 0 1 = m.val) ∧
    (∃ r ∈ ([0] : List (Fin 32)), ∃ a ∈ ([[0]] : List (List Byte)), ∃ m ∈ ([0] : List (Fin 4)), ∃ s ∈ [upd (fun t =>
      { t with hq := [(0, { cmds := [{ op := 0x11, stage := .started, args := [0] }] })] }) [(PWR_START_STAT_STEP, 11)]],
      s.quiet = true ∧ (s.runs = true ∧ (startedCmd s r (0 : Word).toNat 0x11).map HCmd.args = some a) ∧ argNum a 0 1 = m.val) ∧
    (∃ r ∈ ([0] : List (Fin 32)), ∃ a ∈ ([[0]] : List (List Byte)), ∃ m ∈ ([0] : List (Fin 4)), ∃ s ∈ [upd (fun t =>
      { t with hq := [(0, { cmds := [{ op := 0x12, stage := .started, args := [0] }] })] }) [(PWR_START_STAT_STEP, 11)]],
      s.quiet = true ∧ (s.runs = true ∧ (startedCmd s r (0 : Word).toNat 0x12).map HCmd.args = some a) ∧ argNum a 0 1 = m.val) ∧
    (∃ r ∈ ([0] : List (Fin 32)), ∃ a ∈ ([[0]] : List (List Byte)), ∃ m ∈ ([0] : List (Fin 4)), ∃ s ∈ [upd (fun t =>
      { t with hq := [(0, { cmds := [{ op := 0x13, stage := .started, args := [0] }] })] }) [(PWR_START_STAT_STEP, 11)]],
      s.quiet = true ∧ s.allUp = true ∧ (s.runs = true ∧ (startedCmd s r (0 : Word).toNat 0x13).map HCmd.args = some a) ∧ argNum
      a 0 1 = m.val) ∧
    (∃ r ∈ ([0] : List (Fin 32)), ∃ a ∈ ([[0, 0, 0, 0]] : List (List Byte)), ∃ m ∈ ([0] : List (Fin 4)), ∃ s ∈ [upd (fun t =>
      { t with hq := [(0, { cmds := [{ op := 0x14, stage := .started, args := [0, 0, 0, 0] }] })] }) [(PWR_START_STAT_STEP,
      11)]], s.quiet = true ∧ s.allUp = true ∧ (s.runs = true ∧ (startedCmd s r (0 : Word).toNat 0x14).map HCmd.args = some a) ∧
      argNum a 0 1 = m.val ∧ argNum a 2 2 = 0) ∧
    (∃ r ∈ ([0] : List (Fin 32)), ∃ a ∈ ([[0, 0, 1, 0]] : List (List Byte)), ∃ m ∈ ([0] : List (Fin 4)), ∃ s ∈ [upd (fun t =>
      { t with hq := [(0, { cmds := [{ op := 0x14, stage := .started, args := [0, 0, 1, 0] }] })] }) [(PWR_START_STAT_STEP,
      11)]], s.quiet = true ∧ s.allUp = true ∧ (s.runs = true ∧ (startedCmd s r (0 : Word).toNat 0x14).map HCmd.args = some a) ∧
      argNum a 0 1 = m.val ∧ argNum a 2 2 ≠ 0) ∧
    (∃ r ∈ ([0] : List (Fin 32)), ∃ a ∈ ([[0, 0, 241, 35]] : List (List Byte)), ∃ s ∈ [upd (fun t =>
      { t with hq := [(0, { cmds := [{ op := 0x15, stage := .started, args := [0, 0, 241, 35] }] })] }) [(PWR_START_STAT_STEP,
      11)]], s.quiet = true ∧ s.allUp = true ∧ (s.runs = true ∧ (startedCmd s r (0 : Word).toNat 0x15).map HCmd.args = some a) ∧
      9200 < argNum a 2 2) ∧
    (∃ r ∈ ([0] : List (Fin 32)), ∃ a ∈ ([[0, 0, 240, 35]] : List (List Byte)), ∃ s ∈ [upd (fun t =>
      { t with hq := [(0, { cmds := [{ op := 0x15, stage := .started, args := [0, 0, 240, 35] }] })] }) [(PWR_START_STAT_STEP,
      11)]], s.quiet = true ∧ s.allUp = true ∧ (s.runs = true ∧ (startedCmd s r (0 : Word).toNat 0x15).map HCmd.args = some a) ∧
      argNum a 2 2 ≤ 9200) ∧
    (∃ r ∈ ([0] : List (Fin 32)), ∃ a ∈ ([[]] : List (List Byte)), ∃ s ∈ [upd (fun t =>
      { t with hq := [(0, { cmds := [{ op := 0x16, stage := .started, args := [] }] })] }) [(PWR_START_STAT_STEP, 11)]], s.quiet
      = true ∧ s.allUp = true ∧ (s.runs = true ∧ (startedCmd s r (0 : Word).toNat 0x16).map HCmd.args = some a)) ∧
    (∃ r ∈ ([0] : List (Fin 32)), ∃ a ∈ ([[]] : List (List Byte)), ∃ s ∈ [upd (fun t =>
      { t with hq := [(0, { cmds := [{ op := 0x17, stage := .started, args := [] }] })] }) [(PWR_START_STAT_STEP, 11),
      (CHG_BST_ACC_RAMP, 1)]], s.quiet = true ∧ s.allUp = true ∧ (s.runs = true ∧ (startedCmd s r (0 : Word).toNat 0x17).map
      HCmd.args = some a) ∧ 1 ≤ s.fld CHG_BST_ACC_RAMP ∧ s.fld CHG_BST_ACC_RAMP ≤ 100) ∧
    (∃ r ∈ ([0] : List (Fin 32)), ∃ a ∈ ([[0, 1]] : List (List Byte)), ∃ g ∈ ([0] : List (Fin 12)), ∃ s ∈ [upd (fun t =>
      { t with hq := [(0, { cmds := [{ op := 0x20, stage := .started, args := [0, 1] }] })] }) [(PWR_START_STAT_STEP, 11)]],
      s.quiet = true ∧ (s.runs = true ∧ (startedCmd s r (0 : Word).toNat 0x20).map HCmd.args = some a) ∧ argNum a 0 1 = g.val ∧
      argNum a 1 1 = 1 ∧ startStatus (s.putAll [(PWM_GRP_T0_LO g, argNum a 8 4), (PWM_GRP_T0_HI g, argNum a 12 4)]) g ≠ .OK) ∧
    (∃ r ∈ ([0] : List (Fin 32)), ∃ a ∈ ([[0, 1, 0, 0, 0, 0, 0, 0, 232, 3]] : List (List Byte)), ∃ g ∈ ([0] : List (Fin 12)), ∃
      s ∈ [upd (fun t =>
      { t with hq := [(0, { cmds := [{ op := 0x20, stage := .started, args := [0, 1, 0, 0, 0, 0, 0, 0, 232, 3] }] })] })
      [(PWR_START_STAT_STEP, 11), (PWM_GRP_STAT_VALID_SET 0, 1), (PWM_GRP_SYNC_EN 0, 0)]], s.quiet = true ∧ (s.runs = true ∧
      (startedCmd s r (0 : Word).toNat 0x20).map HCmd.args = some a) ∧ argNum a 0 1 = g.val ∧ argNum a 1 1 = 1 ∧ s.follows g =
      false ∧ startStatus (s.putAll [(PWM_GRP_T0_LO g, argNum a 8 4), (PWM_GRP_T0_HI g, argNum a 12 4)]) g = .OK) ∧
    (∃ r ∈ ([0] : List (Fin 32)), ∃ a ∈ ([[0, 2]] : List (List Byte)), ∃ g ∈ ([0] : List (Fin 12)), ∃ s ∈ [upd (fun t =>
      { t with hq := [(0, { cmds := [{ op := 0x20, stage := .started, args := [0, 2] }] })] }) [(PWR_START_STAT_STEP, 11),
      (PWM_GRP_STAT_STATE g, 1)]], s.quiet = true ∧ (s.runs = true ∧ (startedCmd s r (0 : Word).toNat 0x20).map HCmd.args = some
      a) ∧ argNum a 0 1 = g.val ∧ argNum a 1 1 = 2 ∧ s.running g = true) ∧
    (∃ r ∈ ([0] : List (Fin 32)), ∃ a ∈ ([[0, 2]] : List (List Byte)), ∃ g ∈ ([0] : List (Fin 12)), ∃ s ∈ [upd (fun t =>
      { t with hq := [(0, { cmds := [{ op := 0x20, stage := .started, args := [0, 2] }] })] }) [(PWR_START_STAT_STEP, 11)]],
      s.quiet = true ∧ (s.runs = true ∧ (startedCmd s r (0 : Word).toNat 0x20).map HCmd.args = some a) ∧ argNum a 0 1 = g.val ∧
      argNum a 1 1 = 2 ∧ s.running g = false) ∧
    (∃ r ∈ ([0] : List (Fin 32)), ∃ a ∈ ([[0]] : List (List Byte)), ∃ g ∈ ([0] : List (Fin 12)), ∃ s ∈ [upd (fun t =>
      { t with hq := [(0, { cmds := [{ op := 0x21, stage := .started, args := [0] }] })] }) [(PWR_START_STAT_STEP, 11)]],
      s.quiet = true ∧ (s.runs = true ∧ (startedCmd s r (0 : Word).toNat 0x21).map HCmd.args = some a) ∧ argNum a 0 1 = g.val ∧
      activeSources s g = []) ∧
    (∃ r ∈ ([0] : List (Fin 32)), ∃ a ∈ ([[0]] : List (List Byte)), ∃ g ∈ ([0] : List (Fin 12)), ∃ s ∈ [upd (fun t =>
      { t with hq := [(0, { cmds := [{ op := 0x21, stage := .started, args := [0] }] })] }) [(PWR_START_STAT_STEP, 11),
      (PWM_GRP_TMASK_P_PINS 0, 1), (PWM_TRIP_FILT_FILT 0, 1)]], s.quiet = true ∧ (s.runs = true ∧ (startedCmd s r (0 :
      Word).toNat 0x21).map HCmd.args = some a) ∧ argNum a 0 1 = g.val ∧ activeSources s g ≠ []) ∧
    (∃ r ∈ ([0] : List (Fin 32)), ∃ a ∈ ([[0, 1]] : List (List Byte)), ∃ e ∈ ([0] : List (Fin 32)), ∃ s ∈ [upd (fun t =>
      { t with hq := [(0, { cmds := [{ op := 0x22, stage := .started, args := [0, 1] }] })] }) [(PWR_START_STAT_STEP, 11),
      (LE_STAT_STATE e, 1)]], s.quiet = true ∧ (s.runs = true ∧ (startedCmd s r (0 : Word).toNat 0x22).map HCmd.args = some a) ∧
      argNum a 0 1 = e.val ∧ argNum a 1 1 = 1 ∧ s.fld (LE_STAT_STATE e) ≠ 0) ∧
    (∃ r ∈ ([0] : List (Fin 32)), ∃ a ∈ ([[0, 1]] : List (List Byte)), ∃ e ∈ ([0] : List (Fin 32)), ∃ s ∈ [upd (fun t =>
      { t with hq := [(0, { cmds := [{ op := 0x22, stage := .started, args := [0, 1] }] })] }) [(PWR_START_STAT_STEP, 11),
      (LE_STAT_STATE e, 0)]], s.quiet = true ∧ (s.runs = true ∧ (startedCmd s r (0 : Word).toNat 0x22).map HCmd.args = some a) ∧
      argNum a 0 1 = e.val ∧ argNum a 1 1 = 1 ∧ s.fld (LE_STAT_STATE e) = 0 ∧ (s.fld PWR_RET_LOST_LO_BANKS).testBit (24 + e.val
      / 4) = false) ∧
    (∃ r ∈ ([0] : List (Fin 32)), ∃ a ∈ ([[0, 3]] : List (List Byte)), ∃ e ∈ ([0] : List (Fin 32)), ∃ s ∈ [upd (fun t =>
      { t with hq := [(0, { cmds := [{ op := 0x22, stage := .started, args := [0, 3] }] })] }) [(PWR_START_STAT_STEP, 11),
      (LE_STAT_STATE e, 0)]], s.quiet = true ∧ (s.runs = true ∧ (startedCmd s r (0 : Word).toNat 0x22).map HCmd.args = some a) ∧
      argNum a 0 1 = e.val ∧ (argNum a 1 1 = 2 ∨ argNum a 1 1 = 3) ∧ s.fld (LE_STAT_STATE e) = 0) ∧
    (∃ r ∈ ([0] : List (Fin 32)), ∃ a ∈ ([[0, 2]] : List (List Byte)), ∃ e ∈ ([0] : List (Fin 32)), ∃ s ∈ [upd (fun t =>
      { t with hq := [(0, { cmds := [{ op := 0x22, stage := .started, args := [0, 2] }] })] }) [(PWR_START_STAT_STEP, 11),
      (LE_STAT_STATE e, 3)]], s.quiet = true ∧ (s.runs = true ∧ (startedCmd s r (0 : Word).toNat 0x22).map HCmd.args = some a) ∧
      argNum a 0 1 = e.val ∧ argNum a 1 1 = 2 ∧ s.fld (LE_STAT_STATE e) = 3) ∧
    (∃ r ∈ ([0] : List (Fin 32)), ∃ a ∈ ([[0, 3]] : List (List Byte)), ∃ e ∈ ([0] : List (Fin 32)), ∃ s ∈ [upd (fun t =>
      { t with hq := [(0, { cmds := [{ op := 0x22, stage := .started, args := [0, 3] }] })] }) [(PWR_START_STAT_STEP, 11),
      (LE_STAT_STATE e, 1)]], s.quiet = true ∧ (s.runs = true ∧ (startedCmd s r (0 : Word).toNat 0x22).map HCmd.args = some a) ∧
      argNum a 0 1 = e.val ∧ argNum a 1 1 = 3 ∧ s.fld (LE_STAT_STATE e) ≠ 0) ∧
    (∃ r ∈ ([0] : List (Fin 32)), ∃ a ∈ ([[0, 4]] : List (List Byte)), ∃ e ∈ ([0] : List (Fin 32)), ∃ s ∈ [upd (fun t =>
      { t with hq := [(0, { cmds := [{ op := 0x22, stage := .started, args := [0, 4] }] })] }) [(PWR_START_STAT_STEP, 11),
      (LE_STAT_STATE e, 0), (LE_STAT_SWAP_PEND e, 0)]], s.quiet = true ∧ (s.runs = true ∧ (startedCmd s r (0 : Word).toNat
      0x22).map HCmd.args = some a) ∧ argNum a 0 1 = e.val ∧ argNum a 1 1 = 4 ∧ s.fld (LE_STAT_STATE e) = 0 ∧ s.flag
      (LE_STAT_SWAP_PEND e) = false) ∧
    (∃ r ∈ ([0] : List (Fin 32)), ∃ a ∈ ([[0, 4]] : List (List Byte)), ∃ e ∈ ([0] : List (Fin 32)), ∃ s ∈ [upd (fun t =>
      { t with hq := [(0, { cmds := [{ op := 0x22, stage := .started, args := [0, 4] }] })] }) [(PWR_START_STAT_STEP, 11),
      (LE_STAT_STATE e, 1)]], s.quiet = true ∧ (s.runs = true ∧ (startedCmd s r (0 : Word).toNat 0x22).map HCmd.args = some a) ∧
      argNum a 0 1 = e.val ∧ argNum a 1 1 = 4 ∧ s.fld (LE_STAT_STATE e) ≠ 0) ∧
    (∃ r ∈ ([0] : List (Fin 32)), ∃ a ∈ ([[75]] : List (List Byte)), ∃ l ∈ ([59] : List (Fin 60)), ∃ s ∈ [upd (fun t =>
      { t with hq := [(0, { cmds := [{ op := 0x23, stage := .started, args := [75] }] })], variant := .ax48 })
      [(PWR_START_STAT_STEP, 11)]], s.quiet = true ∧ (s.runs = true ∧ (startedCmd s r (0 : Word).toNat 0x23).map HCmd.args =
      some a) ∧ (if argNum a 0 1 < 48 then argNum a 0 1 else argNum a 0 1 - 16) = l.val ∧ s.linkFitted l = false) ∧
    (∃ r ∈ ([0] : List (Fin 32)), ∃ a ∈ ([[75]] : List (List Byte)), ∃ l ∈ ([59] : List (Fin 60)), ∃ s ∈ [upd (fun t =>
      { t with hq := [(0, { cmds := [{ op := 0x23, stage := .started, args := [75] }] })], lk := [(59, { lost := true, goodUp := 3 })] })
      [(PWR_START_STAT_STEP, 11)]], s.quiet = true ∧ (s.runs = true ∧ (startedCmd s r (0 : Word).toNat 0x23).map HCmd.args =
      some a) ∧ (if argNum a 0 1 < 48 then argNum a 0 1 else argNum a 0 1 - 16) = l.val ∧ s.linkFitted l = true ∧ (s.lkOf
      l).lost = true ∧ (s.lkOf l).goodUp < 4) ∧
    (∃ r ∈ ([0] : List (Fin 32)), ∃ a ∈ ([[75]] : List (List Byte)), ∃ l ∈ ([59] : List (Fin 60)), ∃ s ∈ [upd (fun t =>
      { t with hq := [(0, { cmds := [{ op := 0x23, stage := .started, args := [75] }] })] }) [(PWR_START_STAT_STEP, 11)]],
      s.quiet = true ∧ (s.runs = true ∧ (startedCmd s r (0 : Word).toNat 0x23).map HCmd.args = some a) ∧ (if argNum a 0 1 < 48
      then argNum a 0 1 else argNum a 0 1 - 16) = l.val ∧ s.linkFitted l = true ∧ ((s.lkOf l).lost = false ∨ 4 ≤ (s.lkOf
      l).goodUp)) ∧
    (∃ r ∈ ([0] : List (Fin 32)), ∃ a ∈ ([[0]] : List (List Byte)), ∃ j ∈ ([0] : List (Fin 2)), ∃ s ∈ [upd (fun t =>
      { t with hq := [(0, { cmds := [{ op := 0x24, stage := .started, args := [0] }] })] }) [(PWR_START_STAT_STEP, 11),
      (TRC_DL_CFG_CHOP_EN j, 0)]], s.quiet = true ∧ (s.runs = true ∧ (startedCmd s r (0 : Word).toNat 0x24).map HCmd.args = some
      a) ∧ argNum a 0 1 = j.val ∧ (s.flag (TRC_DL_CFG_CHOP_EN j) = false ∨ s.flag (TRC_DL_STAT_CHOP_AVAIL j) = true)) ∧
    (∃ r ∈ ([0] : List (Fin 32)), ∃ a ∈ ([[0]] : List (List Byte)), ∃ j ∈ ([0] : List (Fin 2)), ∃ s ∈ [upd (fun t =>
      { t with hq := [(0, { cmds := [{ op := 0x24, stage := .started, args := [0] }] })] }) [(PWR_START_STAT_STEP, 11),
      (TRC_DL_CFG_CHOP_EN j, 1), (TRC_DL_STAT_CHOP_AVAIL j, 0), (TRC_DL_STAT_CHOP_CAUSE j, 3), (TRC_DL_CFG_CHOP_LEG 0, 0),
      (GS_STAT_FAULT 0, 1), (TRC_DL_STAT_CHOP_CAUSE 0, 1)]], s.quiet = true ∧ (s.runs = true ∧ (startedCmd s r (0 : Word).toNat
      0x24).map HCmd.args = some a) ∧ argNum a 0 1 = j.val ∧ s.flag (TRC_DL_CFG_CHOP_EN j) = true ∧ s.flag
      (TRC_DL_STAT_CHOP_AVAIL j) = false ∧ s.fld (TRC_DL_STAT_CHOP_CAUSE j) ≠ 2 ∧ chopCause s j ≠ 0) ∧
    (∃ r ∈ ([0] : List (Fin 32)), ∃ a ∈ ([[0, 1]] : List (List Byte)), ∃ m ∈ ([0] : List (Fin 4)), ∃ s ∈ [upd (fun t =>
      { t with hq := [(0, { cmds := [{ op := 0x25, stage := .started, args := [0, 1] }] })] }) [(PWR_START_STAT_STEP, 11),
      (ACT_STAT_STATE m, 2)]], s.quiet = true ∧ (s.runs = true ∧ (startedCmd s r (0 : Word).toNat 0x25).map HCmd.args = some a)
      ∧ argNum a 0 1 = m.val ∧ argNum a 1 1 = 1 ∧ actState s m ≠ 1) ∧
    (∃ r ∈ ([0] : List (Fin 32)), ∃ a ∈ ([[0, 1]] : List (List Byte)), ∃ m ∈ ([0] : List (Fin 4)), ∃ s ∈ [upd (fun t =>
      { t with hq := [(0, { cmds := [{ op := 0x25, stage := .started, args := [0, 1] }] })] }) [(PWR_START_STAT_STEP, 11),
      (ACT_STAT_STATE m, 1)]], s.quiet = true ∧ (s.runs = true ∧ (startedCmd s r (0 : Word).toNat 0x25).map HCmd.args = some a)
      ∧ argNum a 0 1 = m.val ∧ argNum a 1 1 = 1 ∧ actState s m = 1 ∧ s.running (actGroup s m) = false) ∧
    (∃ r ∈ ([0] : List (Fin 32)), ∃ a ∈ ([[0, 1]] : List (List Byte)), ∃ m ∈ ([0] : List (Fin 4)), ∃ s ∈ [upd (fun t =>
      { t with hq := [(0, { cmds := [{ op := 0x25, stage := .started, args := [0, 1] }] })] }) [(PWR_START_STAT_STEP, 11),
      (ACT_STAT_STATE m, 1), (PWM_GRP_STAT_STATE 0, 1), (ACT_CFG_GROUP 0, 0)]], s.quiet = true ∧ (s.runs = true ∧ (startedCmd s
      r (0 : Word).toNat 0x25).map HCmd.args = some a) ∧ argNum a 0 1 = m.val ∧ argNum a 1 1 = 1 ∧ actState s m = 1 ∧ s.running
      (actGroup s m) = true) ∧
    (∃ r ∈ ([0] : List (Fin 32)), ∃ a ∈ ([[0, 2]] : List (List Byte)), ∃ m ∈ ([0] : List (Fin 4)), ∃ s ∈ [upd (fun t =>
      { t with hq := [(0, { cmds := [{ op := 0x25, stage := .started, args := [0, 2] }] })] }) [(PWR_START_STAT_STEP, 11),
      (ACT_STAT_STATE m, 4)]], s.quiet = true ∧ (s.runs = true ∧ (startedCmd s r (0 : Word).toNat 0x25).map HCmd.args = some a)
      ∧ argNum a 0 1 = m.val ∧ argNum a 1 1 = 2 ∧ actState s m = 4) ∧
    (∃ r ∈ ([0] : List (Fin 32)), ∃ a ∈ ([[0, 3]] : List (List Byte)), ∃ m ∈ ([0] : List (Fin 4)), ∃ s ∈ [upd (fun t =>
      { t with hq := [(0, { cmds := [{ op := 0x25, stage := .started, args := [0, 3] }] })] }) [(PWR_START_STAT_STEP, 11),
      (ACT_STAT_STATE m, 1)]], s.quiet = true ∧ (s.runs = true ∧ (startedCmd s r (0 : Word).toNat 0x25).map HCmd.args = some a)
      ∧ argNum a 0 1 = m.val ∧ (argNum a 1 1 = 2 ∨ argNum a 1 1 = 3) ∧ actState s m = 1) ∧
    (∃ r ∈ ([0] : List (Fin 32)), ∃ a ∈ ([[0, 4]] : List (List Byte)), ∃ m ∈ ([0] : List (Fin 4)), ∃ s ∈ [upd (fun t =>
      { t with hq := [(0, { cmds := [{ op := 0x25, stage := .started, args := [0, 4] }] })] }) [(PWR_START_STAT_STEP, 11),
      (ACT_STAT_STATE m, 10)]], s.quiet = true ∧ (s.runs = true ∧ (startedCmd s r (0 : Word).toNat 0x25).map HCmd.args = some a)
      ∧ argNum a 0 1 = m.val ∧ argNum a 1 1 = 4 ∧ actState s m ≠ 9) ∧
    (∃ r ∈ ([0] : List (Fin 32)), ∃ a ∈ ([[0, 1]] : List (List Byte)), ∃ m ∈ ([0] : List (Fin 4)), ∃ s ∈ [upd (fun t =>
      { t with hq := [(0, { cmds := [{ op := 0x26, stage := .started, args := [0, 1] }] })] }) [(PWR_START_STAT_STEP, 11),
      (CNV_C_STAT_STATE m, 2)]], s.quiet = true ∧ (s.runs = true ∧ (startedCmd s r (0 : Word).toNat 0x26).map HCmd.args = some
      a) ∧ argNum a 0 1 = m.val ∧ argNum a 1 1 = 1 ∧ cnvState s m ≠ 1) ∧
    (∃ r ∈ ([0] : List (Fin 32)), ∃ a ∈ ([[0, 1]] : List (List Byte)), ∃ m ∈ ([0] : List (Fin 4)), ∃ s ∈ [upd (fun t =>
      { t with hq := [(0, { cmds := [{ op := 0x26, stage := .started, args := [0, 1] }] })] }) [(PWR_START_STAT_STEP, 11),
      (CNV_C_STAT_STATE m, 1)]], s.quiet = true ∧ (s.runs = true ∧ (startedCmd s r (0 : Word).toNat 0x26).map HCmd.args = some
      a) ∧ argNum a 0 1 = m.val ∧ argNum a 1 1 = 1 ∧ cnvState s m = 1 ∧ s.running (cnvGroup s m) = false) ∧
    (∃ r ∈ ([0] : List (Fin 32)), ∃ a ∈ ([[0, 1]] : List (List Byte)), ∃ m ∈ ([0] : List (Fin 4)), ∃ s ∈ [upd (fun t =>
      { t with hq := [(0, { cmds := [{ op := 0x26, stage := .started, args := [0, 1] }] })] }) [(PWR_START_STAT_STEP, 11),
      (CNV_C_STAT_STATE m, 1), (PWM_GRP_STAT_STATE 0, 1), (CNV_C_CFG_GROUP 0, 0)]], s.quiet = true ∧ (s.runs = true ∧
      (startedCmd s r (0 : Word).toNat 0x26).map HCmd.args = some a) ∧ argNum a 0 1 = m.val ∧ argNum a 1 1 = 1 ∧ cnvState s m =
      1 ∧ s.running (cnvGroup s m) = true) ∧
    (∃ r ∈ ([0] : List (Fin 32)), ∃ a ∈ ([[0, 2]] : List (List Byte)), ∃ m ∈ ([0] : List (Fin 4)), ∃ s ∈ [upd (fun t =>
      { t with hq := [(0, { cmds := [{ op := 0x26, stage := .started, args := [0, 2] }] })] }) [(PWR_START_STAT_STEP, 11),
      (CNV_C_STAT_STATE m, 1)]], s.quiet = true ∧ (s.runs = true ∧ (startedCmd s r (0 : Word).toNat 0x26).map HCmd.args = some
      a) ∧ argNum a 0 1 = m.val ∧ argNum a 1 1 = 2 ∧ cnvState s m = 1) ∧
    (∃ r ∈ ([0] : List (Fin 32)), ∃ a ∈ ([[0, 2]] : List (List Byte)), ∃ m ∈ ([0] : List (Fin 4)), ∃ s ∈ [upd (fun t =>
      { t with hq := [(0, { cmds := [{ op := 0x26, stage := .started, args := [0, 2] }] })] }) [(PWR_START_STAT_STEP, 11),
      (CNV_C_STAT_STATE 0, 4)]], s.quiet = true ∧ (s.runs = true ∧ (startedCmd s r (0 : Word).toNat 0x26).map HCmd.args = some
      a) ∧ argNum a 0 1 = m.val ∧ argNum a 1 1 = 2 ∧ 2 ≤ cnvState s m ∧ cnvState s m ≤ 4) ∧
    (∃ r ∈ ([0] : List (Fin 32)), ∃ a ∈ ([[0, 3]] : List (List Byte)), ∃ m ∈ ([0] : List (Fin 4)), ∃ s ∈ [upd (fun t =>
      { t with hq := [(0, { cmds := [{ op := 0x26, stage := .started, args := [0, 3] }] })] }) [(PWR_START_STAT_STEP, 11),
      (CNV_C_STAT_STATE m, 6)]], s.quiet = true ∧ (s.runs = true ∧ (startedCmd s r (0 : Word).toNat 0x26).map HCmd.args = some
      a) ∧ argNum a 0 1 = m.val ∧ argNum a 1 1 = 3 ∧ cnvState s m ≠ 5) ∧
    (∃ r ∈ ([0] : List (Fin 32)), ∃ a ∈ ([[0, 3]] : List (List Byte)), ∃ m ∈ ([0] : List (Fin 4)), ∃ s ∈ [upd (fun t =>
      { t with hq := [(0, { cmds := [{ op := 0x26, stage := .started, args := [0, 3] }] })] }) [(PWR_START_STAT_STEP, 11),
      (CNV_C_STAT_STATE m, 5), (CNV_C_STAT_STATE 0, 5), (PWM_GRP_STAT_STATE 0, 1)]], s.quiet = true ∧ (s.runs = true ∧
      (startedCmd s r (0 : Word).toNat 0x26).map HCmd.args = some a) ∧ argNum a 0 1 = m.val ∧ argNum a 1 1 = 3 ∧ cnvState s m =
      5 ∧ cnvLatched s m = false ∧ s.running (cnvGroup s m) = true) :=
  by refine ⟨?_, ?_, ?_, ?_, ?_, ?_, ?_, ?_, ?_, ?_, ?_, ?_, ?_, ?_, ?_, ?_, ?_, ?_, ?_, ?_, ?_, ?_, ?_, ?_, ?_, ?_, ?_, ?_, ?_,
    ?_, ?_, ?_, ?_, ?_, ?_, ?_, ?_, ?_, ?_, ?_, ?_⟩ <;> decide +kernel

set_option synthInstance.maxSize 500 in
theorem witness_FabricBehaviour :
    (∃ p ∈ ([0] : List (Fin 4)), ∃ s ∈ [st []], s.quiet = true ∧ p.val / 2 = (0 : Fin 2).val ∧ (1 : Nat) = (if p.val % 2 = 0
      then p.val + 1 else p.val - 1) ∧ (portLive s p = false ∨ portIsUp s p = true)) ∧
    (∃ p ∈ ([0] : List (Fin 4)), ∃ s ∈ [upd (fun t => { t with fab := { live := true } }) [(FAB_CFG_EN_P, 1), (FAB_PORT_STAT_UP
      0, 0)]], s.quiet = true ∧ p.val / 2 = (0 : Fin 2).val ∧ (1 : Nat) = (if p.val % 2 = 0 then p.val + 1 else p.val - 1) ∧
      portLive s p = true ∧ portIsUp s p = false) ∧
    (∃ p ∈ ([0] : List (Fin 4)), ∃ s ∈ [upd (fun t => { t with fab := { live := true } }) [(FAB_PORT_STAT_TRAINING p, 1),
      (FAB_CFG_EN_P, 1), (FAB_PORT_STAT_UP 0, 0)]], s.quiet = true ∧ p.val / 2 = (0 : Fin 2).val ∧ (1 : Nat) = (if p.val % 2 = 0
      then p.val + 1 else p.val - 1) ∧ portLive s p = true ∧ portIsUp s p = false ∧ s.flag (FAB_PORT_STAT_TRAINING p) = true) ∧
    (∃ p ∈ ([0] : List (Fin 4)), ∃ s ∈ [st []], s.quiet = true ∧ p.val / 2 = (0 : Fin 2).val ∧ (1 : Nat) = (if p.val % 2 = 0
      then p.val + 1 else p.val - 1) ∧ portIsUp s p = false) ∧
    (∃ p ∈ ([0] : List (Fin 4)), ∃ s ∈ [st [(FAB_PORT_STAT_UP 0, 1)]], s.quiet = true ∧ p.val / 2 = (0 : Fin 2).val ∧ (1 : Nat)
      = (if p.val % 2 = 0 then p.val + 1 else p.val - 1) ∧ portIsUp s p = true) ∧
    (∃ p ∈ ([0] : List (Fin 4)), ∃ bs ∈ ([[]] : List (List Byte)), ∃ s ∈ [st [(FAB_PORT_STAT_UP 0, 1)]], s.quiet = true ∧ p.val
      / 2 = (0 : Fin 2).val ∧ (1 : Nat) = (if p.val % 2 = 0 then p.val + 1 else p.val - 1) ∧ portIsUp s p = true ∧ hdrSound bs =
      false) ∧
    (∃ p ∈ ([0] : List (Fin 4)), ∃ bs ∈ ([[3, 0, 0, 0, 0, 0, 0, 0, 0, 0, 0, 0, 0, 0, 0, 159]] : List (List Byte)), ∃ s ∈ [st
      [(FAB_PORT_STAT_UP 0, 1), (FAB_ST_ADDR_VALID 0, 1), (FAB_ST_ADDR 0, 0)]], s.quiet = true ∧ p.val / 2 = (0 : Fin 2).val ∧
      (1 : Nat) = (if p.val % 2 = 0 then p.val + 1 else p.val - 1) ∧ portIsUp s p = true ∧ hdrSound bs = true ∧ (FabHdr.read
      bs).ty < 2 ∧ addressed s (0 : Fin 2) = true ∧ (FabHdr.read bs).inj = ownAddr s (0 : Fin 2) % 32 ∧ (FabHdr.read bs).last =
      true) ∧
    (∃ p ∈ ([0] : List (Fin 4)), ∃ bs ∈ ([[3, 32, 0, 0, 0, 4, 0, 0, 0, 0, 0, 0, 0, 0, 0, 5]] : List (List Byte)), ∃ s ∈ [st
      [(FAB_PORT_STAT_UP 0, 1)]], s.quiet = true ∧ p.val / 2 = (0 : Fin 2).val ∧ (1 : Nat) = (if p.val % 2 = 0 then p.val + 1
      else p.val - 1) ∧ portIsUp s p = true ∧ hdrSound bs = true ∧ (FabHdr.read bs).ty < 2 ∧ (addressed s (0 : Fin 2) = false ∨
      (FabHdr.read bs).inj ≠ ownAddr s (0 : Fin 2) % 32) ∧ (FabHdr.read bs).hops = 32) ∧
    (∃ p ∈ ([0] : List (Fin 4)), ∃ bs ∈ ([[0, 0, 0, 0, 0, 4, 0, 0, 0, 0, 0, 0, 0, 0, 0, 214]] : List (List Byte)), ∃ s ∈ [st
      [(FAB_PORT_STAT_UP 0, 1), (FAB_PORT_STAT_UP 1, 1)]], s.quiet = true ∧ p.val / 2 = (0 : Fin 2).val ∧ (1 : Nat) = (if p.val
      % 2 = 0 then p.val + 1 else p.val - 1) ∧ portIsUp s p = true ∧ hdrSound bs = true ∧ (FabHdr.read bs).ty < 2 ∧ (addressed s
      (0 : Fin 2) = false ∨ (FabHdr.read bs).inj ≠ ownAddr s (0 : Fin 2) % 32) ∧ (FabHdr.read bs).hops ≠ 32 ∧ ((FabHdr.read
      bs).last = false ∨ toRoute s (0 : Fin 2) (FabHdr.read bs) = false) ∧ portIsUp s (1 : Nat) = true) ∧
    (∃ p ∈ ([0] : List (Fin 4)), ∃ bs ∈ ([[0, 0, 0, 0, 0, 4, 0, 0, 0, 0, 0, 0, 0, 0, 0, 214]] : List (List Byte)), ∃ s ∈ [st
      [(FAB_PORT_STAT_UP 0, 1)]], s.quiet = true ∧ p.val / 2 = (0 : Fin 2).val ∧ (1 : Nat) = (if p.val % 2 = 0 then p.val + 1
      else p.val - 1) ∧ portIsUp s p = true ∧ hdrSound bs = true ∧ (FabHdr.read bs).ty < 2 ∧ (addressed s (0 : Fin 2) = false ∨
      (FabHdr.read bs).inj ≠ ownAddr s (0 : Fin 2) % 32) ∧ (FabHdr.read bs).hops ≠ 32 ∧ ((FabHdr.read bs).last = false ∨ toRoute
      s (0 : Fin 2) (FabHdr.read bs) = false) ∧ portIsUp s (1 : Nat) = false) ∧
    (∃ p ∈ ([0] : List (Fin 4)), ∃ bs ∈ ([[3, 0, 0, 0, 0, 4, 0, 0, 1, 0, 0, 0, 0, 0, 0, 71, 7, 0, 0, 0, 0]] : List (List Byte)),
      ∃ y ∈ [([7] : List Byte)], ∃ s ∈ [st [(FAB_PORT_STAT_UP 0, 1), (FAB_ST_ADDR_VALID 0, 1), (FAB_ST_ADDR 0, 0)]], s.quiet =
      true ∧ p.val / 2 = (0 : Fin 2).val ∧ (1 : Nat) = (if p.val % 2 = 0 then p.val + 1 else p.val - 1) ∧ portIsUp s p = true ∧
      hdrSound bs = true ∧ (FabHdr.read bs).ty < 2 ∧ (addressed s (0 : Fin 2) = false ∨ (FabHdr.read bs).inj ≠ ownAddr s (0 :
      Fin 2) % 32) ∧ y = (bs.drop 16).take ((bs.drop 16).length - 4) ∧ (FabHdr.read bs).hops ≠ 32 ∧ (FabHdr.read bs).first =
      true ∧ (FabHdr.read bs).last = true ∧ (FabHdr.read bs).frag = 0 ∧ forMe s (0 : Fin 2) (FabHdr.read bs) = true ∧ toRoute s
      (0 : Fin 2) (FabHdr.read bs) = false ∧ (crc32c y ≠ ofBytes ((bs.drop 16).drop ((bs.drop 16).length - 4)) ∨ y.length ≠
      (FabHdr.read bs).len)) ∧
    (∃ p ∈ ([0] : List (Fin 4)), ∃ bs ∈ ([[3, 0, 0, 0, 0, 4, 0, 0, 1, 0, 0, 0, 0, 0, 0, 71, 7, 186, 55, 183, 134]] : List (List
      Byte)), ∃ y ∈ [([7] : List Byte)], ∃ s ∈ [st [(FAB_PORT_STAT_UP 0, 1), (FAB_ST_ADDR_VALID 0, 1), (FAB_ST_ADDR 0, 0)]],
      s.quiet = true ∧ p.val / 2 = (0 : Fin 2).val ∧ (1 : Nat) = (if p.val % 2 = 0 then p.val + 1 else p.val - 1) ∧ portIsUp s p
      = true ∧ hdrSound bs = true ∧ (FabHdr.read bs).ty < 2 ∧ (addressed s (0 : Fin 2) = false ∨ (FabHdr.read bs).inj ≠ ownAddr
      s (0 : Fin 2) % 32) ∧ y = (bs.drop 16).take ((bs.drop 16).length - 4) ∧ (FabHdr.read bs).hops ≠ 32 ∧ (FabHdr.read
      bs).first = true ∧ (FabHdr.read bs).last = true ∧ (FabHdr.read bs).frag = 0 ∧ forMe s (0 : Fin 2) (FabHdr.read bs) = true
      ∧ toRoute s (0 : Fin 2) (FabHdr.read bs) = false ∧ crc32c y = ofBytes ((bs.drop 16).drop ((bs.drop 16).length - 4)) ∧
      y.length = (FabHdr.read bs).len) ∧
    (∃ p ∈ ([0] : List (Fin 4)), ∃ s ∈ [st [(FAB_ST_ANCHOR (0 : Fin 2), 1), (FAB_PORT_STAT_UP 0, 1)]], s.quiet = true ∧ p.val /
      2 = (0 : Fin 2).val ∧ (1 : Nat) = (if p.val % 2 = 0 then p.val + 1 else p.val - 1) ∧ portIsUp s p = true ∧ s.flag
      (FAB_ST_ANCHOR (0 : Fin 2)) = true) ∧
    (∃ p ∈ ([0] : List (Fin 4)), ∃ s ∈ [st [(FAB_ST_ANCHOR (0 : Fin 2), 0), (FAB_PORT_STAT_LINK_DLY p, 0), (FAB_PORT_STAT_UP 0,
      1)]], s.quiet = true ∧ p.val / 2 = (0 : Fin 2).val ∧ (1 : Nat) = (if p.val % 2 = 0 then p.val + 1 else p.val - 1) ∧
      portIsUp s p = true ∧ s.flag (FAB_ST_ANCHOR (0 : Fin 2)) = false ∧ s.fld (FAB_PORT_STAT_LINK_DLY p) = 0 ∧ (s.fabPair (0 :
      Fin 2)).hopsE = none ∧ (s.fabPair (0 : Fin 2)).hopsW = none ∧ (s.fabPair (0 : Fin 2)).ofs = [] ∧ s.mtime < 2 ^ 63 ∧ (0 :
      Time).toNat < 2 ^ 63) ∧
    (∃ p ∈ ([0] : List (Fin 4)), ∃ s ∈ [upd (fun t => { t with fab := { p := { ofs := List.replicate 15 0 } } }) [(FAB_ST_ANCHOR
      (0 : Fin 2), 0), (FAB_PORT_STAT_LINK_DLY p, 0), (FAB_PORT_STAT_UP 0, 1)]], s.quiet = true ∧ p.val / 2 = (0 : Fin 2).val ∧
      (1 : Nat) = (if p.val % 2 = 0 then p.val + 1 else p.val - 1) ∧ portIsUp s p = true ∧ s.flag (FAB_ST_ANCHOR (0 : Fin 2)) =
      false ∧ s.fld (FAB_PORT_STAT_LINK_DLY p) = 0 ∧ (s.fabPair (0 : Fin 2)).hopsE = none ∧ (s.fabPair (0 : Fin 2)).hopsW = none
      ∧ 15 ≤ (s.fabPair (0 : Fin 2)).ofs.length) ∧
    (∃ p ∈ ([0] : List (Fin 4)), ∃ s ∈ [upd (fun t => { t with fab := { p := { withdrawn := true } } }) [(FAB_PORT_STAT_UP 0,
      1)]], s.quiet = true ∧ p.val / 2 = (0 : Fin 2).val ∧ (1 : Nat) = (if p.val % 2 = 0 then p.val + 1 else p.val - 1) ∧
      portIsUp s p = true ∧ (s.fabPair (0 : Fin 2)).withdrawn = true) ∧
    (∃ p ∈ ([0] : List (Fin 4)), ∃ s ∈ [st [(FAB_ST_ANCHOR (0 : Fin 2), 0), (FAB_PORT_STAT_UP 0, 1)]], s.quiet = true ∧ p.val /
      2 = (0 : Fin 2).val ∧ (1 : Nat) = (if p.val % 2 = 0 then p.val + 1 else p.val - 1) ∧ portIsUp s p = true ∧ (s.fabPair (0 :
      Fin 2)).withdrawn = false ∧ s.flag (FAB_ST_ANCHOR (0 : Fin 2)) = false ∧ addressed s (0 : Fin 2) = false ∧ (s.fabPair (0 :
      Fin 2)).stn = none) ∧
    (∃ p ∈ ([0] : List (Fin 4)), ∃ st ∈ [(5 : Nat)], ∃ s ∈ [upd (fun t => { t with fab := { p := { stn := some 5 } } })
      [(FAB_ST_ANCHOR (0 : Fin 2), 0), (FAB_PORT_STAT_UP 0, 1)]], s.quiet = true ∧ p.val / 2 = (0 : Fin 2).val ∧ (1 : Nat) = (if
      p.val % 2 = 0 then p.val + 1 else p.val - 1) ∧ portIsUp s p = true ∧ (s.fabPair (0 : Fin 2)).withdrawn = false ∧ s.flag
      (FAB_ST_ANCHOR (0 : Fin 2)) = false ∧ (s.fabPair (0 : Fin 2)).stn = some st ∧ (32 : BitVec 32).toNat.testBit st = true) ∧
    (∃ p ∈ ([0] : List (Fin 4)), ∃ s ∈ [st [(FAB_ST_ANCHOR (0 : Fin 2), 0)]], s.quiet = true ∧ p.val / 2 = (0 : Fin 2).val ∧ (1
      : Nat) = (if p.val % 2 = 0 then p.val + 1 else p.val - 1) ∧ (s.flag (FAB_ST_ANCHOR (0 : Fin 2)) = false ∨ s.fld
      (FAB_ST_DISC (0 : Fin 2)) ≠ 1)) ∧
    (∃ p ∈ ([0] : List (Fin 4)), ∃ s ∈ [st [(FAB_ST_ANCHOR (0 : Fin 2), 0)]], s.quiet = true ∧ p.val / 2 = (0 : Fin 2).val ∧ (1
      : Nat) = (if p.val % 2 = 0 then p.val + 1 else p.val - 1) ∧ (s.flag (FAB_ST_ANCHOR (0 : Fin 2)) = false ∨ ((s.fld
      (FAB_ST_DISC (0 : Fin 2)) ≠ 1 ∨ ((s.fabPair (0 : Fin 2)).closed = false ∧ (s.fabPair (0 : Fin 2)).west = false)) ∧ (s.fld
      (FAB_ST_DISC (0 : Fin 2)) ≠ 2 ∨ (s.fabPair (0 : Fin 2)).news = false)))) ∧
    (∃ p ∈ ([0] : List (Fin 4)), ∃ s ∈ [upd (fun t => { t with fab := { p := { news := true } } }) [(FAB_ST_ANCHOR (0 : Fin 2),
      1), (FAB_ST_ANCHOR 0, 1), (FAB_ST_DISC 0, 2)]], s.quiet = true ∧ p.val / 2 = (0 : Fin 2).val ∧ (1 : Nat) = (if p.val % 2 =
      0 then p.val + 1 else p.val - 1) ∧ s.flag (FAB_ST_ANCHOR (0 : Fin 2)) = true ∧ ((s.fld (FAB_ST_DISC (0 : Fin 2)) = 1 ∧
      (s.fabPair (0 : Fin 2)).closed = true) ∨ (s.fld (FAB_ST_DISC (0 : Fin 2)) = 2 ∧ (s.fabPair (0 : Fin 2)).news = true))) ∧
    (∃ p ∈ ([0] : List (Fin 4)), ∃ s ∈ [upd (fun t => { t with fab := { p := { closed := true } } }) [(FAB_ST_ANCHOR (0 : Fin
      2), 1), (FAB_ST_DISC (0 : Fin 2), 1)]], s.quiet = true ∧ p.val / 2 = (0 : Fin 2).val ∧ (1 : Nat) = (if p.val % 2 = 0 then
      p.val + 1 else p.val - 1) ∧ s.flag (FAB_ST_ANCHOR (0 : Fin 2)) = true ∧ s.fld (FAB_ST_DISC (0 : Fin 2)) = 1 ∧ (s.fabPair
      (0 : Fin 2)).closed = true) ∧
    (∃ p ∈ ([0] : List (Fin 4)), ∃ s ∈ [st [(FAB_ST_ANCHOR (0 : Fin 2), 1), (FAB_ST_DISC (0 : Fin 2), 1), (FAB_CFG2_EXPECT_P,
      0), (FAB_PORT_STAT_UP 1, 1)]], s.quiet = true ∧ p.val / 2 = (0 : Fin 2).val ∧ (1 : Nat) = (if p.val % 2 = 0 then p.val + 1
      else p.val - 1) ∧ s.flag (FAB_ST_ANCHOR (0 : Fin 2)) = true ∧ s.fld (FAB_ST_DISC (0 : Fin 2)) = 1 ∧ (s.fabPair (0 : Fin
      2)).closed = false ∧ pairExpect s (0 : Fin 2) = 0 ∧ portIsUp s (2 * (0 : Fin 2).val + 1) = true) ∧
    (∃ p ∈ ([0] : List (Fin 4)), ∃ s ∈ [upd (fun t => { t with fab := { p := { west := true } } }) [(FAB_ST_ANCHOR (0 : Fin 2),
      1), (FAB_ST_DISC (0 : Fin 2), 1), (FAB_ST_ANCHOR 0, 1), (FAB_ST_DISC 0, 1)]], s.quiet = true ∧ p.val / 2 = (0 : Fin 2).val
      ∧ (1 : Nat) = (if p.val % 2 = 0 then p.val + 1 else p.val - 1) ∧ s.flag (FAB_ST_ANCHOR (0 : Fin 2)) = true ∧ s.fld
      (FAB_ST_DISC (0 : Fin 2)) = 1 ∧ (s.fabPair (0 : Fin 2)).west = true) ∧
    (∃ p ∈ ([0] : List (Fin 4)), ∃ s ∈ [st []], s.quiet = true ∧ p.val / 2 = (0 : Fin 2).val ∧ (1 : Nat) = (if p.val % 2 = 0
      then p.val + 1 else p.val - 1) ∧ addressed s 0 = false ∧ addressed s 1 = false) ∧
    (∃ p ∈ ([0] : List (Fin 4)), ∃ s ∈ [st [(FAB_PORT_STAT_UP 0, 1), (FAB_ST_ADDR_VALID 0, 1), (FAB_ST_ADDR 0, 0)]], s.quiet =
      true ∧ p.val / 2 = (0 : Fin 2).val ∧ (1 : Nat) = (if p.val % 2 = 0 then p.val + 1 else p.val - 1) ∧ addressed s (0 : Fin
      2) = true ∧ portIsUp s p = true) ∧
    (∃ p ∈ ([0] : List (Fin 4)), ∃ s ∈ [st [(FAB_ST_ANCHOR (0 : Fin 2), 1), (FAB_PORT_STAT_UP 0, 1), (FAB_ST_ADDR_VALID 0, 1),
      (FAB_ST_ADDR 0, 0)]], s.quiet = true ∧ p.val / 2 = (0 : Fin 2).val ∧ (1 : Nat) = (if p.val % 2 = 0 then p.val + 1 else
      p.val - 1) ∧ addressed s (0 : Fin 2) = true ∧ portIsUp s p = true ∧ s.flag (FAB_ST_ANCHOR (0 : Fin 2)) = true) ∧
    (∃ p ∈ ([0] : List (Fin 4)), ∃ s ∈ [st []], s.quiet = true ∧ p.val / 2 = (0 : Fin 2).val ∧ (1 : Nat) = (if p.val % 2 = 0
      then p.val + 1 else p.val - 1)) ∧
    (∃ p ∈ ([0] : List (Fin 4)), ∃ s ∈ [st []], s.quiet = true ∧ p.val / 2 = (0 : Fin 2).val ∧ (1 : Nat) = (if p.val % 2 = 0
      then p.val + 1 else p.val - 1) ∧ ((s.fabPair (0 : Fin 2)).held = [] ∨ admissible s (0 : Fin 2) = false)) ∧
    (∃ p ∈ ([0] : List (Fin 4)), ∃ h ∈ [({} : FabHdr)], ∃ y ∈ [([] : List Byte)], ∃ t ∈ [([] : List (FabHdr × List Byte))], ∃ s
      ∈ [upd (fun t => { t with fab := { p := { held := [({}, [])] } } }) [(FAB_ST_ADDR_VALID 0, 1), (FAB_ST_ADDR 0, 0)]],
      s.quiet = true ∧ p.val / 2 = (0 : Fin 2).val ∧ (1 : Nat) = (if p.val % 2 = 0 then p.val + 1 else p.val - 1) ∧ (s.fabPair
      (0 : Fin 2)).held = (h, y) :: t ∧ admissible s (0 : Fin 2) = true) ∧
    (∃ p ∈ ([0] : List (Fin 4)), ∃ s ∈ [st []], s.quiet = true ∧ p.val / 2 = (0 : Fin 2).val ∧ (1 : Nat) = (if p.val % 2 = 0
      then p.val + 1 else p.val - 1) ∧ (s.fab.rx.find? fun f => f.hdr.ty = 0) = none) ∧
    (∃ p ∈ ([0] : List (Fin 4)), ∃ f ∈ [({} : FabFrame)], ∃ s ∈ [upd (fun t => { t with fab := { rx := [{}] } }) []], s.quiet =
      true ∧ p.val / 2 = (0 : Fin 2).val ∧ (1 : Nat) = (if p.val % 2 = 0 then p.val + 1 else p.val - 1) ∧ (s.fab.rx.find? fun f
      => f.hdr.ty = 0) = some f ∧ f.hdr.cls = 0) ∧
    (∃ p ∈ ([0] : List (Fin 4)), ∃ c ∈ ([2] : List (Fin 3)), ∃ f ∈ [({ hdr := { cls := 3 } } : FabFrame)], ∃ s ∈ [upd (fun t =>
      { t with fab := { rx := [{ hdr := { cls := 3 } }] } }) [(FAB_RXQ_CTRL_EN c, 1)]], s.quiet = true ∧ p.val / 2 = (0 : Fin
      2).val ∧ (1 : Nat) = (if p.val % 2 = 0 then p.val + 1 else p.val - 1) ∧ (s.fab.rx.find? fun f => f.hdr.ty = 0) = some f ∧
      f.hdr.cls = c.val + 1 ∧ s.flag (FAB_RXQ_CTRL_EN c) = true ∧ (s.fabQ c).owned < 2 ^ s.fld (FAB_RXQ_CTRL_SIZE c)) ∧
    (∃ p ∈ ([0] : List (Fin 4)), ∃ s ∈ [st []], s.quiet = true ∧ p.val / 2 = (0 : Fin 2).val ∧ (1 : Nat) = (if p.val % 2 = 0
      then p.val + 1 else p.val - 1) ∧ (s.fab.rx.find? fun f => f.hdr.ty = 1) = none) ∧
    (∃ p ∈ ([0] : List (Fin 4)), ∃ f ∈ [({ hdr := { ty := 1 } } : FabFrame)], ∃ s ∈ [upd (fun t =>
      { t with fab := { rx := [{ hdr := { ty := 1 } }] } }) []], s.quiet = true ∧ p.val / 2 = (0 : Fin 2).val ∧ (1 : Nat) = (if
      p.val % 2 = 0 then p.val + 1 else p.val - 1) ∧ (s.fab.rx.find? fun f => f.hdr.ty = 1) = some f ∧ ((∀ j : Fin 32, s.flag
      (SAF_FJ_CFG_EN j) = false ∨ s.flag (SAF_FJ_CFG_DIR j) = true ∨ s.fld (SAF_FJ_CFG_CHANNEL j) ≠ 8 ∨ s.fld (SAF_FJ_ADDR j) %
      1024 ≠ f.hdr.src))) ∧
    (∃ p ∈ ([0] : List (Fin 4)), ∃ c ∈ ([0] : List (Fin 3)), ∃ s ∈ [st []], s.quiet = true ∧ p.val / 2 = (0 : Fin 2).val ∧ (1 :
      Nat) = (if p.val % 2 = 0 then p.val + 1 else p.val - 1) ∧ (s.fabQ c).now = none) ∧
    (∃ p ∈ ([0] : List (Fin 4)), ∃ c ∈ ([0] : List (Fin 3)), ∃ j ∈ [(3 : Nat)], ∃ a ∈ [(1 : Nat)], ∃ s ∈ [upd (fun t =>
      { t with fab := { queues := [(0, { now := some (.desc 3, 1) })] } }) []], s.quiet = true ∧ p.val / 2 = (0 : Fin 2).val ∧
      (1 : Nat) = (if p.val % 2 = 0 then p.val + 1 else p.val - 1) ∧ (s.fabQ c).now = some (.desc j, a) ∧ (s.fabQ c).items = []) ∧
    (∃ p ∈ ([0] : List (Fin 4)), ∃ c ∈ ([0] : List (Fin 3)), ∃ x ∈ [({ seq := 9 } : CmdRef)], ∃ y ∈ [(5 : Nat)], ∃ a ∈ [([1] :
      List Byte)], ∃ j ∈ [(0 : Nat)], ∃ s ∈ [upd (fun t =>
      { t with fab := { queues := [(0, { now := some (.host { seq := 9 } 5 [1], 0) })] } }) []], s.quiet = true ∧ p.val / 2 = (0
      : Fin 2).val ∧ (1 : Nat) = (if p.val % 2 = 0 then p.val + 1 else p.val - 1) ∧ (s.fabQ c).now = some (.host x y a, j) ∧
      (s.fabQ c).items = []) ∧
    (∃ p ∈ ([0] : List (Fin 4)), ∃ s ∈ [st []], s.quiet = true ∧ p.val / 2 = (0 : Fin 2).val ∧ (1 : Nat) = (if p.val % 2 = 0
      then p.val + 1 else p.val - 1) ∧ s.allUp = true) ∧
    (∃ p ∈ ([0] : List (Fin 4)), ∃ c ∈ ([0] : List (Fin 3)), ∃ s ∈ [st [(FAB_TXQ_CTRL_EN c, 0)]], s.quiet = true ∧ p.val / 2 =
      (0 : Fin 2).val ∧ (1 : Nat) = (if p.val % 2 = 0 then p.val + 1 else p.val - 1) ∧ s.allUp = true ∧ s.flag (FAB_TXQ_CTRL_EN
      c) = false) ∧
    (∃ p ∈ ([0] : List (Fin 4)), ∃ c ∈ ([0] : List (Fin 3)), ∃ s ∈ [st [(FAB_TXQ_CTRL_EN c, 1), (FAB_TXQ_CTRL_SIZE 0, 4)]],
      s.quiet = true ∧ p.val / 2 = (0 : Fin 2).val ∧ (1 : Nat) = (if p.val % 2 = 0 then p.val + 1 else p.val - 1) ∧ s.allUp =
      true ∧ s.flag (FAB_TXQ_CTRL_EN c) = true ∧ 2 ^ s.fld (FAB_TXQ_CTRL_SIZE c) ≤ (16 : Word).toNat % 2 ^ 10) ∧
    (∃ p ∈ ([0] : List (Fin 4)), ∃ c ∈ ([0] : List (Fin 3)), ∃ s ∈ [upd (fun t => { t with bytes := [(0x20000002, 1)] })
      [(FAB_TXQ_CTRL_EN c, 1), (FAB_TXQ_CTRL_SIZE c, 4), (FAB_TXQ_CTRL_EN 0, 1), (FAB_TXQ_CTRL_SIZE 0, 4), (FAB_TXQ_HEAD 0, 0),
      (FAB_TXQ_TAIL 0, 0), (FAB_TXQ_BASE 0, 0x20000000), (FAB_RT_VIA 0, 1), (FAB_PORT_STAT_UP 0, 1), (FAB_ST_ADDR_VALID 0, 1),
      (FAB_ST_ADDR 0, 0)]], ∃ x ∈ [itemSend s c (.desc (s.fld (FAB_TXQ_TAIL c)))], s.quiet = true ∧ p.val / 2 = (0 : Fin 2).val
      ∧ (1 : Nat) = (if p.val % 2 = 0 then p.val + 1 else p.val - 1) ∧ s.allUp = true ∧ s.flag (FAB_TXQ_CTRL_EN c) = true ∧
      s.held 23 = false ∧ (s.fabQ c).now = none ∧ (s.fabQ c).items = [] ∧ s.fld (FAB_TXQ_TAIL c) < 2 ^ s.fld (FAB_TXQ_CTRL_SIZE
      c) ∧ s.fld (FAB_TXQ_HEAD c) = s.fld (FAB_TXQ_TAIL c) ∧ 4 ≤ s.fld (FAB_TXQ_CTRL_SIZE c) ∧ s.fld (FAB_TXQ_CTRL_SIZE c) ≤ 10
      ∧ (1 : Word).toNat = (s.fld (FAB_TXQ_TAIL c) + 1) % 2 ^ s.fld (FAB_TXQ_CTRL_SIZE c) ∧ x = itemSend s c (.desc (s.fld
      (FAB_TXQ_TAIL c))) ∧ sendStatus s x.1 x.2.1 x.2.2.2.1 false = .OK) ∧
    (∃ p ∈ ([0] : List (Fin 4)), ∃ c ∈ ([0] : List (Fin 3)), ∃ s ∈ [st [(FAB_TXQ_CTRL_EN c, 1), (FAB_TXQ_CTRL_SIZE c, 4),
      (FAB_TXQ_CTRL_EN 0, 1), (FAB_TXQ_CTRL_SIZE 0, 4), (FAB_TXQ_HEAD 0, 0), (FAB_TXQ_TAIL 0, 0)]], ∃ x ∈ [itemSend s c (.desc
      (s.fld (FAB_TXQ_TAIL c)))], s.quiet = true ∧ p.val / 2 = (0 : Fin 2).val ∧ (1 : Nat) = (if p.val % 2 = 0 then p.val + 1
      else p.val - 1) ∧ s.allUp = true ∧ s.flag (FAB_TXQ_CTRL_EN c) = true ∧ s.held 23 = false ∧ (s.fabQ c).now = none ∧ (s.fabQ
      c).items = [] ∧ s.fld (FAB_TXQ_TAIL c) < 2 ^ s.fld (FAB_TXQ_CTRL_SIZE c) ∧ s.fld (FAB_TXQ_HEAD c) = s.fld (FAB_TXQ_TAIL c)
      ∧ 4 ≤ s.fld (FAB_TXQ_CTRL_SIZE c) ∧ s.fld (FAB_TXQ_CTRL_SIZE c) ≤ 10 ∧ (1 : Word).toNat = (s.fld (FAB_TXQ_TAIL c) + 1) % 2
      ^ s.fld (FAB_TXQ_CTRL_SIZE c) ∧ x = itemSend s c (.desc (s.fld (FAB_TXQ_TAIL c))) ∧ sendStatus s x.1 x.2.1 x.2.2.2.1 false
      ≠ .OK) ∧
    (∃ p ∈ ([0] : List (Fin 4)), ∃ c ∈ ([0] : List (Fin 3)), ∃ a ∈ [([0, 0, 1, 0] : List Byte)], ∃ s ∈ [upd (fun t =>
      { t with busMaster := true, hq := [(0, { cmds := [{ op := 0x32, stage := .started, args := [0, 0, 1, 0] }] })] })
      [(PWR_START_STAT_STEP, 11), (HOST_STAT_LINK_UP, 1), (HOST_R_CTRL_CLASS 0, 1)]], s.quiet = true ∧ p.val / 2 = (0 : Fin
      2).val ∧ (1 : Nat) = (if p.val % 2 = 0 then p.val + 1 else p.val - 1) ∧ (s.runs = true ∧ (startedCmd s (0 : Fin 32) (0 :
      Word).toNat 0x32).map HCmd.args = some a) ∧ s.hostReach = true ∧ s.fld (HOST_R_CTRL_CLASS (0 : Fin 32)) = c.val + 1) ∧
    (∃ p ∈ ([0] : List (Fin 4)), ∃ c ∈ ([0] : List (Fin 3)), ∃ a ∈ [[0, 0, 1, 0]], ∃ y ∈ [([7] : List Byte)], ∃ s ∈ [upd (fun t
      => { t with busMaster := true, hq := [(0, { cmds := [{ op := 0x32, stage := .started, args := [0, 0, 1, 0] }] })] })
      [(PWR_START_STAT_STEP, 11), (HOST_R_CTRL_CLASS 0, 1), (HOST_STAT_LINK_UP, 1), (FAB_RT_VIA 0, 1), (FAB_PORT_STAT_UP 0, 1),
      (FAB_ST_ADDR_VALID 0, 1), (FAB_ST_ADDR 0, 0)]], s.quiet = true ∧ p.val / 2 = (0 : Fin 2).val ∧ (1 : Nat) = (if p.val % 2 =
      0 then p.val + 1 else p.val - 1) ∧ (s.runs = true ∧ (startedCmd s (0 : Fin 32) (0 : Word).toNat 0x32).map HCmd.args = some
      a) ∧ s.hostReach = true ∧ s.fld (HOST_R_CTRL_CLASS (0 : Fin 32)) = c.val + 1 ∧ (s.fabQ c).now = none ∧ (s.fabQ c).items =
      [] ∧ s.held 23 = false ∧ sendStatus s (s.fld (FAB_RT_VIA (argNum a 0 2 / 32)) - 1) (argNum a 0 2) (y.take (argNum a 2
      2)).length true = .OK) ∧
    (∃ p ∈ ([0] : List (Fin 4)), ∃ c ∈ ([0] : List (Fin 3)), ∃ a ∈ [[0, 0, 1, 0]], ∃ y ∈ [([7] : List Byte)], ∃ s ∈ [upd (fun t
      => { t with busMaster := true, hq := [(0, { cmds := [{ op := 0x32, stage := .started, args := [0, 0, 1, 0] }] })] })
      [(PWR_START_STAT_STEP, 11), (HOST_R_CTRL_CLASS 0, 1), (HOST_STAT_LINK_UP, 1)]], s.quiet = true ∧ p.val / 2 = (0 : Fin
      2).val ∧ (1 : Nat) = (if p.val % 2 = 0 then p.val + 1 else p.val - 1) ∧ (s.runs = true ∧ (startedCmd s (0 : Fin 32) (0 :
      Word).toNat 0x32).map HCmd.args = some a) ∧ s.hostReach = true ∧ s.fld (HOST_R_CTRL_CLASS (0 : Fin 32)) = c.val + 1 ∧
      (s.fabQ c).now = none ∧ (s.fabQ c).items = [] ∧ s.held 23 = false ∧ sendStatus s (s.fld (FAB_RT_VIA (argNum a 0 2 / 32)) -
      1) (argNum a 0 2) (y.take (argNum a 2 2)).length true ≠ .OK) ∧
    (∃ s ∈ [st [(PWR_WAKE_CFG_FAB, 0)]], s.flag PWR_WAKE_CFG_FAB = false) ∧
    (∃ s ∈ [st [(PWR_WAKE_CFG_FAB, 1), (PWR_PS_STAT_STATE, 1)]], s.flag PWR_WAKE_CFG_FAB = true ∧ s.sup.waking = false ∧ psState
      s ≠ 0) :=
  by refine ⟨?_, ?_, ?_, ?_, ?_, ?_, ?_, ?_, ?_, ?_, ?_, ?_, ?_, ?_, ?_, ?_, ?_, ?_, ?_, ?_, ?_, ?_, ?_, ?_, ?_, ?_, ?_, ?_, ?_,
    ?_, ?_, ?_, ?_, ?_, ?_, ?_, ?_, ?_, ?_, ?_, ?_, ?_, ?_, ?_, ?_, ?_, ?_, ?_⟩ <;> decide +kernel

set_option synthInstance.maxSize 500 in
theorem witness_CanControllers :
    (∃ n ∈ ([0] : List (Fin 8)), ∃ s ∈ [st [(CAN_CTRL_MODE n, 0), (CAN_LOCK, 0)]], s.quiet = true ∧ s.allUp = true ∧ s.fld
      (CAN_CTRL_MODE n) = 0 ∧ s.flag CAN_LOCK = false ∧ (bitsOf (0 : Word).toNat 8 8 = 0 ∨ ((0 : Word).toNat % 4 ≠ 0 ∧ timingOk
      s n = false))) ∧
    (∃ n ∈ ([0] : List (Fin 8)), ∃ s ∈ [st [(CAN_CTRL_MODE n, 0), (CAN_LOCK, 0), (CAN_NBT_BRP 0, 0), (CAN_NBT_TSEG1 0, 60),
      (CAN_NBT_TSEG2 0, 17), (CAN_NBT_SJW 0, 17), (CAN_DBT_BRP 0, 0), (CAN_DBT_TSEG1 0, 5), (CAN_DBT_TSEG2 0, 2), (CAN_DBT_SJW
      0, 2)]], s.quiet = true ∧ s.allUp = true ∧ s.fld (CAN_CTRL_MODE n) = 0 ∧ s.flag CAN_LOCK = false ∧ bitsOf (0x100 :
      Word).toNat 8 8 ≠ 0 ∧ timingOk s n = true) ∧
    (∃ n ∈ ([0] : List (Fin 8)), ∃ s ∈ [st [(CAN_CTRL_MODE n, 1), (CAN_LOCK, 0), (CAN_LOCK, 0), (CAN_CTRL_ACK_LIMIT 0, 1),
      (CAN_CTRL_MODE 0, 1)]], s.quiet = true ∧ s.allUp = true ∧ s.fld (CAN_CTRL_MODE n) ≠ 0 ∧ s.flag CAN_LOCK = false ∧ bitsOf
      (0x104 : Word).toNat 2 14 &&& 0x3FCF ≠ bitsOf (readFields s (0x60090000 + 0x400 * n.val)) 2 14) ∧
    (∃ n ∈ ([0] : List (Fin 8)), ∃ s ∈ [st [(CAN_CTRL_MODE n, 1), (CAN_LOCK, 1), (CAN_LOCK, 1), (CAN_CTRL_MODE 0, 1)]], s.quiet
      = true ∧ s.allUp = true ∧ s.fld (CAN_CTRL_MODE n) ≠ 0 ∧ s.flag CAN_LOCK = true ∧ (2 : Word).toNat % 4 ≠ 0) ∧
    (∃ n ∈ ([0] : List (Fin 8)), ∃ s ∈ [st [(CAN_CTRL_MODE n, 1), (CAN_CTRL_ACK_LIMIT 0, 1)]], s.quiet = true ∧ s.allUp = true ∧
      s.fld (CAN_CTRL_MODE n) ≠ 0 ∧ bitsOf (0x100 : Word).toNat 2 14 &&& 0x3FCF = bitsOf (readFields s (0x60090000 + 0x400 *
      n.val)) 2 14 ∧ bitsOf (0x100 : Word).toNat 8 8 ≠ 0 ∧ (0x100 : Word).toNat % 4 = 0 ∧ (s.canOf n).now = none) ∧
    (∃ n ∈ ([0] : List (Fin 8)), ∃ s ∈ [st [(CAN_STAT_ERR n, 3)]], s.quiet = true ∧ s.allUp = true ∧ s.fld (CAN_STAT_ERR n) ≠ 2) ∧
    (∃ n ∈ ([0] : List (Fin 8)), ∃ s ∈ [st [(CAN_STAT_ERR n, 2)]], s.quiet = true ∧ s.allUp = true ∧ s.fld (CAN_STAT_ERR n) = 2) ∧
    (∃ n ∈ ([0] : List (Fin 8)), ∃ s ∈ [st [(CAN_FLT_STD_BASE 0, 4)]], s.quiet = true ∧ s.allUp = true ∧ (4096 < s.fld
      (CAN_FLT_CNT_STD_CNT n) + s.fld (CAN_FLT_CNT_EXT_CNT n) ∨ s.fld (CAN_FLT_STD_BASE n) % 8 ≠ 0 ∨ s.fld (CAN_FLT_EXT_BASE n)
      % 8 ≠ 0)) ∧
    (∃ n ∈ ([0] : List (Fin 8)), ∃ s ∈ [st []], s.quiet = true ∧ s.allUp = true ∧ s.fld (CAN_FLT_CNT_STD_CNT n) + s.fld
      (CAN_FLT_CNT_EXT_CNT n) ≤ 4096 ∧ s.fld (CAN_FLT_STD_BASE n) % 8 = 0 ∧ s.fld (CAN_FLT_EXT_BASE n) % 8 = 0) ∧
    (∃ h2 ∈ ([1] : List (Fin 2)), ∃ bt ∈ ([16] : List (Fin 32)), ∃ e ∈ ([48] : List (Fin 64)), ∃ s ∈ [st []], s.quiet = true ∧
      s.allUp = true ∧ (2 ^ 16 : Word).toNat = 2 ^ bt.val ∧ 32 * h2.val + bt.val = e.val ∧ 48 ≤ e.val) ∧
    (∃ n ∈ ([0] : List (Fin 8)), ∃ h2 ∈ ([1] : List (Fin 2)), ∃ bt ∈ ([15] : List (Fin 32)), ∃ e ∈ ([47] : List (Fin 64)), ∃ s ∈
      [st [(CAN_TX_ST_STATE 0 47, 1)]], ∃ x ∈ [slotFrame s n e], s.quiet = true ∧ s.allUp = true ∧ (2 ^ 15 : Word).toNat = 2 ^
      bt.val ∧ 32 * h2.val + bt.val = e.val ∧ e.val < 48 ∧ x = slotFrame s n e ∧ requestStatus s n e x.1 x.2.1 ≠ .OK) ∧
    (∃ n ∈ ([0] : List (Fin 8)), ∃ h2 ∈ ([1] : List (Fin 2)), ∃ bt ∈ ([15] : List (Fin 32)), ∃ e ∈ ([47] : List (Fin 64)), ∃ s ∈
      [st []], ∃ x ∈ [slotFrame s n e], s.quiet = true ∧ s.allUp = true ∧ (2 ^ 15 : Word).toNat = 2 ^ bt.val ∧ 32 * h2.val +
      bt.val = e.val ∧ e.val < 48 ∧ x = slotFrame s n e ∧ requestStatus s n e x.1 x.2.1 = .OK) ∧
    (∃ n ∈ ([0] : List (Fin 8)), ∃ h2 ∈ ([1] : List (Fin 2)), ∃ bt ∈ ([15] : List (Fin 32)), ∃ e ∈ ([47] : List (Fin 64)), ∃ s ∈
      [st [(CAN_CTRL_MODE n, 1), (CAN_STAT_SYNC n, 1), (CAN_STAT_ERR n, 3)]], ∃ x ∈ [slotFrame s n e], s.quiet = true ∧ s.allUp
      = true ∧ (2 ^ 15 : Word).toNat = 2 ^ bt.val ∧ 32 * h2.val + bt.val = e.val ∧ e.val < 48 ∧ x = slotFrame s n e ∧
      requestStatus s n e x.1 x.2.1 = .OK ∧ s.fld (CAN_CTRL_MODE n) = 1 ∧ s.flag (CAN_STAT_SYNC n) = true ∧ s.fld (CAN_STAT_ERR
      n) ≠ 2 ∧ s.held 22 = false ∧ (s.canOf n).now = none) ∧
    (∃ n ∈ ([0] : List (Fin 8)), ∃ h2 ∈ ([0] : List (Fin 2)), ∃ bt ∈ ([0] : List (Fin 32)), ∃ e ∈ ([0] : List (Fin 64)), ∃ s ∈
      [st [(CAN_TX_ST_STATE 0 0, 1)]], s.quiet = true ∧ s.allUp = true ∧ (1 : Word).toNat = 2 ^ bt.val ∧ 32 * h2.val + bt.val =
      e.val ∧ entryState s n e = 1) ∧
    (∃ n ∈ ([0] : List (Fin 8)), ∃ h2 ∈ ([0] : List (Fin 2)), ∃ bt ∈ ([0] : List (Fin 32)), ∃ e ∈ ([0] : List (Fin 64)), ∃ s ∈
      [st [(CAN_TX_ST_STATE 0 0, 2)]], s.quiet = true ∧ s.allUp = true ∧ (1 : Word).toNat = 2 ^ bt.val ∧ 32 * h2.val + bt.val =
      e.val ∧ entryState s n e = 2) ∧
    (∃ n ∈ ([0] : List (Fin 8)), ∃ h2 ∈ ([0] : List (Fin 2)), ∃ bt ∈ ([0] : List (Fin 32)), ∃ e ∈ ([0] : List (Fin 64)), ∃ s ∈
      [st []], s.quiet = true ∧ s.allUp = true ∧ (1 : Word).toNat = 2 ^ bt.val ∧ 32 * h2.val + bt.val = e.val ∧ entryState s n e
      ≠ 1 ∧ entryState s n e ≠ 2) ∧
    (∃ s ∈ [st []], s.quiet = true ∧ s.allUp = true) ∧
    (∃ n ∈ ([0] : List (Fin 8)), ∃ s ∈ [st [(CAN_CTRL_MODE n, 0)]], s.quiet = true ∧ (s.fld (CAN_CTRL_MODE n) = 0 ∨ s.fld
      (CAN_STAT_ERR n) = 2)) ∧
    (∃ n ∈ ([0] : List (Fin 8)), ∃ s ∈ [st [(CAN_CTRL_MODE n, 1), (CAN_STAT_ERR n, 3)]], s.quiet = true ∧ s.fld (CAN_CTRL_MODE
      n) ≠ 0 ∧ s.fld (CAN_STAT_ERR n) ≠ 2) ∧
    (∃ n ∈ ([0] : List (Fin 8)), ∃ s ∈ [st [(CAN_STAT_SYNC n, 0)]], s.quiet = true ∧ (s.flag (CAN_STAT_SYNC n) = false ∨ s.fld
      (CAN_STAT_ERR n) = 2 ∨ (s.canOf n).now.isSome = true)) ∧
    (∃ n ∈ ([0] : List (Fin 8)), ∃ s ∈ [st [(CAN_CTRL_MODE n, 1), (CAN_STAT_SYNC n, 1), (CAN_STAT_ERR n, 3)]], s.quiet = true ∧
      s.fld (CAN_CTRL_MODE n) = 1 ∧ s.flag (CAN_STAT_SYNC n) = true ∧ s.fld (CAN_STAT_ERR n) ≠ 2 ∧ (s.canOf n).now = none ∧
      (s.canOf n).leaving = false) ∧
    (∃ n ∈ ([0] : List (Fin 8)), ∃ f ∈ ([{}] : List (CanFrame)), ∃ s ∈ [st [(CAN_CTRL_MODE n, 1), (CAN_STAT_SYNC n, 1),
      (CAN_STAT_ERR n, 3)]], s.quiet = true ∧ s.fld (CAN_CTRL_MODE n) = 1 ∧ s.flag (CAN_STAT_SYNC n) = true ∧ s.fld
      (CAN_STAT_ERR n) ≠ 2 ∧ (s.canOf n).now = none ∧ (s.canOf n).leaving = false ∧ fjopOfFrame s n f = none ∧ f.rtr = false) ∧
    (∃ n ∈ ([0] : List (Fin 8)), ∃ s ∈ [st []], s.quiet = true ∧ (s.canOf n).walk = []) ∧
    (∃ n ∈ ([0] : List (Fin 8)), ∃ f ∈ ([{}] : List (CanFrame)), ∃ l ∈ [({ stdBase := 0x20000000, stdCnt := 1 } : CanLists)], ∃
      i ∈ [(0 : Nat)], ∃ act ∈ [(0 : Nat)], ∃ s ∈ [upd (fun t =>
      { t with can := [(0, { walk := [({}, { stdBase := 0x20000000, stdCnt := 1 })] })] }) []], s.quiet = true ∧ (s.canOf
      n).walk = [(f, l)] ∧ f.ide = false ∧ walkList s l.stdBase f.id 11 0 l.stdCnt = some (i, act) ∧ act = 0) ∧
    (∃ n ∈ ([0] : List (Fin 8)), ∃ f ∈ ([{}] : List (CanFrame)), ∃ l ∈ [({ stdBase := 0x20000000, stdCnt := 1 } : CanLists)], ∃
      i ∈ [(0 : Nat)], ∃ act ∈ [(5 : Nat)], ∃ s ∈ [upd (fun t =>
      { t with can := [(0, { walk := [({}, { stdBase := 0x20000000, stdCnt := 1 })] })], bytes := [(0x20000007, 0xA0)] }) []],
      s.quiet = true ∧ (s.canOf n).walk = [(f, l)] ∧ f.ide = false ∧ walkList s l.stdBase f.id 11 0 l.stdCnt = some (i, act) ∧ 5
      ≤ act) ∧
    (∃ n ∈ ([0] : List (Fin 8)), ∃ qu ∈ ([0] : List (Fin 4)), ∃ f ∈ ([{}] : List (CanFrame)), ∃ l ∈
      [({ stdBase := 0x20000000, stdCnt := 1 } : CanLists)], ∃ i ∈ [(0 : Nat)], ∃ act ∈ [(1 : Nat)], ∃ s ∈ [upd (fun t =>
      { t with can := [(0, { walk := [({}, { stdBase := 0x20000000, stdCnt := 1 })] })], bytes := [(0x20000007, 0x20)] })
      [(CAN_RXQ_CTRL_EN n qu, 0)]], s.quiet = true ∧ (s.canOf n).walk = [(f, l)] ∧ f.ide = false ∧ walkList s l.stdBase f.id 11
      0 l.stdCnt = some (i, act) ∧ act = qu.val + 1 ∧ (s.flag (CAN_RXQ_CTRL_EN n qu) = false ∨ 2 ^ s.fld (CAN_RXQ_CTRL_SIZE n
      qu) ≤ Tbl.get 0 (s.canOf n).owned qu)) ∧
    (∃ n ∈ ([0] : List (Fin 8)), ∃ qu ∈ ([0] : List (Fin 4)), ∃ f ∈ ([{}] : List (CanFrame)), ∃ l ∈
      [({ stdBase := 0x20000000, stdCnt := 1 } : CanLists)], ∃ i ∈ [(0 : Nat)], ∃ act ∈ [(1 : Nat)], ∃ s ∈ [upd (fun t =>
      { t with can := [(0, { walk := [({}, { stdBase := 0x20000000, stdCnt := 1 })] })], bytes := [(0x20000007, 0x20)] })
      [(CAN_RXQ_CTRL_EN n qu, 1), (CAN_RXQ_CTRL_SIZE 0 0, 4)]], s.quiet = true ∧ (s.canOf n).walk = [(f, l)] ∧ f.ide = false ∧
      walkList s l.stdBase f.id 11 0 l.stdCnt = some (i, act) ∧ act = qu.val + 1 ∧ s.flag (CAN_RXQ_CTRL_EN n qu) = true ∧
      Tbl.get 0 (s.canOf n).owned qu < 2 ^ s.fld (CAN_RXQ_CTRL_SIZE n qu)) ∧
    (∃ n ∈ ([0] : List (Fin 8)), ∃ f ∈ ([{}] : List (CanFrame)), ∃ l ∈ [({} : CanLists)], ∃ s ∈ [upd (fun t =>
      { t with can := [(0, { walk := [({}, {})] })] }) [(CAN_FLT_POL_NM_STD n, 0)]], s.quiet = true ∧ (s.canOf n).walk = [(f,
      l)] ∧ f.ide = false ∧ walkList s l.stdBase f.id 11 0 l.stdCnt = none ∧ s.fld (CAN_FLT_POL_NM_STD n) = 0) ∧
    (∃ n ∈ ([0] : List (Fin 8)), ∃ s ∈ [st []], s.quiet = true ∧ ((s.canOf n).tec < 256 ∨ s.fld (CAN_STAT_ERR n) = 2)) ∧
    (∃ n ∈ ([0] : List (Fin 8)), ∃ s ∈ [upd (fun t => { t with can := [(0, { tec := 256 })] }) [(CAN_STAT_ERR n, 3)]], s.quiet =
      true ∧ 256 ≤ (s.canOf n).tec ∧ s.fld (CAN_STAT_ERR n) ≠ 2) ∧
    (∃ n ∈ ([0] : List (Fin 8)), ∃ s ∈ [st [(CAN_STAT_RECOVERING n, 0)]], s.quiet = true ∧ (s.fld (CAN_STAT_RECOVERING n) = 0 ∨
      s.fld (CAN_CTRL_MODE n) = 0)) ∧
    (∃ n ∈ ([0] : List (Fin 8)), ∃ s ∈ [upd (fun t => { t with can := [(0, { tec := 256 })] }) [(CAN_STAT_RECOVERING n, 1),
      (CAN_CTRL_MODE n, 1), (CAN_STAT_RECOVERING 0, 1), (CAN_CTRL_MODE 0, 1), (CAN_STAT_ERR 0, 2)]], s.quiet = true ∧ s.fld
      (CAN_STAT_RECOVERING n) = 1 ∧ s.fld (CAN_CTRL_MODE n) ≠ 0) ∧
    (∃ n ∈ ([0] : List (Fin 8)), ∃ s ∈ [st []], s.quiet = true ∧ (s.canOf n).now = none) ∧
    (∃ n ∈ ([0] : List (Fin 8)), ∃ e ∈ ([0] : List (Fin 64)), ∃ t ∈ ([{}] : List (CanTx)), ∃ s ∈ [upd (fun t =>
      { t with can := [(0, { now := some (.entry 0) })] }) []], s.quiet = true ∧ (s.canOf n).now = some (.entry e.val) ∧ Tbl.get
      {} (s.canOf n).tx e = t ∧ t.abort = false ∧ t.oneshot = false) ∧
    (∃ n ∈ ([0] : List (Fin 8)), ∃ e ∈ ([0] : List (Fin 64)), ∃ t ∈ ([{ abort := true }] : List (CanTx)), ∃ s ∈ [upd (fun t =>
      { t with can := [(0, { now := some (.entry 0), tx := [(0, { abort := true })] })] }) []], s.quiet = true ∧ (s.canOf n).now
      = some (.entry e.val) ∧ Tbl.get {} (s.canOf n).tx e = t ∧ t.abort = true) ∧
    (∃ n ∈ ([0] : List (Fin 8)), ∃ e ∈ ([0] : List (Fin 64)), ∃ t ∈ ([{ oneshot := true }] : List (CanTx)), ∃ s ∈ [upd (fun t =>
      { t with can := [(0, { now := some (.entry 0), tx := [(0, { oneshot := true })] })] }) []], s.quiet = true ∧ (s.canOf
      n).now = some (.entry e.val) ∧ Tbl.get {} (s.canOf n).tx e = t ∧ t.abort = false ∧ t.oneshot = true) ∧
    (∃ n ∈ ([0] : List (Fin 8)), ∃ e ∈ ([0] : List (Fin 64)), ∃ er ∈ ([.stuff] : List (CanError)), ∃ t ∈ ([{}] : List (CanTx)),
      ∃ s ∈ [upd (fun t => { t with can := [(0, { now := some (.entry 0) })] }) []], s.quiet = true ∧ (s.canOf n).now = some
      (.entry e.val) ∧ Tbl.get {} (s.canOf n).tx e = t ∧ er ≠ .ack) ∧
    (∃ n ∈ ([0] : List (Fin 8)), ∃ e ∈ ([0] : List (Fin 64)), ∃ t ∈ ([{}] : List (CanTx)), ∃ s ∈ [upd (fun t =>
      { t with can := [(0, { now := some (.entry 0) })] }) [(CAN_TX_ST_ACK_TRIES 0 0, 15), (CAN_CTRL_ACK_LIMIT 0, 16)]], s.quiet
      = true ∧ (s.canOf n).now = some (.entry e.val) ∧ Tbl.get {} (s.canOf n).tx e = t ∧ t.abort = false ∧ t.oneshot = false ∧
      s.fld (CAN_TX_ST_ACK_TRIES n e) < 255 ∧ s.fld (CAN_CTRL_ACK_LIMIT n) ≤ s.fld (CAN_TX_ST_ACK_TRIES n e) + 1) ∧
    (∃ n ∈ ([0] : List (Fin 8)), ∃ e ∈ ([0] : List (Fin 64)), ∃ t ∈ ([{}] : List (CanTx)), ∃ s ∈ [upd (fun t =>
      { t with can := [(0, { now := some (.entry 0) })] }) []], s.quiet = true ∧ (s.canOf n).now = some (.entry e.val) ∧ Tbl.get
      {} (s.canOf n).tx e = t) ∧
    (∃ c ∈ ([0] : List (Fin 32)), ∃ s ∈ [st []], s.quiet = true ∧ ((s.fjopOf c).tx = none ∨ 8 ≤ s.fld (SAF_FJ_CFG_CHANNEL c))) ∧
    (∃ n ∈ ([0] : List (Fin 8)), ∃ c ∈ ([0] : List (Fin 32)), ∃ x ∈ [([] : List Byte)], ∃ s ∈ [upd (fun t =>
      { t with fjop := [(0, { tx := some [] })] }) [(SAF_FJ_CFG_CHANNEL c, n.val), (SAF_FJ_CFG_CHANNEL 0, 0)]], s.quiet = true ∧
      (s.fjopOf c).tx = some x ∧ s.fld (SAF_FJ_CFG_CHANNEL c) = n.val) ∧
    (∃ n ∈ ([0] : List (Fin 8)), ∃ s ∈ [st [(CAN_CTRL_PXE n, 0)]], s.quiet = true ∧ (s.flag (CAN_CTRL_PXE n) = false ∨ s.flag
      (CAN_STAT_SYNC n) = false ∨ s.fld (CAN_CTRL_MODE n) = 0)) ∧
    (∃ n ∈ ([0] : List (Fin 8)), ∃ s ∈ [st [(CAN_CTRL_PXE n, 1), (CAN_STAT_SYNC n, 1), (CAN_CTRL_MODE n, 1)]], s.quiet = true ∧
      s.flag (CAN_CTRL_PXE n) = true ∧ s.flag (CAN_STAT_SYNC n) = true ∧ s.fld (CAN_CTRL_MODE n) ≠ 0) ∧
    (∃ n ∈ ([0] : List (Fin 8)), ∃ c ∈ ([0] : List (Fin 32)), ∃ a ∈ [([0] : List Byte)], ∃ s ∈ [upd (fun t =>
      { t with busMaster := true, hq := [(0, { cmds := [{ op := 0x31, stage := .started, args := [0] }] })] })
      [(PWR_START_STAT_STEP, 11), (HOST_STAT_LINK_UP, 1)]], s.quiet = true ∧ (s.runs = true ∧ (startedCmd s c (0 : Word).toNat
      0x31).map HCmd.args = some a) ∧ s.hostReach = true ∧ argNum a 0 1 = n.val) ∧
    (∃ n ∈ ([0] : List (Fin 8)), ∃ c ∈ ([0] : List (Fin 32)), ∃ a ∈ [([0] : List Byte)], ∃ s ∈ [upd (fun t =>
      { t with busMaster := true, hq := [(0, { cmds := [{ op := 0x31, stage := .started, args := [0] }] })] })
      [(PWR_START_STAT_STEP, 11), (HOST_STAT_LINK_UP, 1), (CAN_TX_ST_STATE 0 48, 1), (CAN_TX_ST_STATE 0 49, 1), (CAN_TX_ST_STATE
      0 50, 1), (CAN_TX_ST_STATE 0 51, 1), (CAN_TX_ST_STATE 0 52, 1), (CAN_TX_ST_STATE 0 53, 1), (CAN_TX_ST_STATE 0 54, 1),
      (CAN_TX_ST_STATE 0 55, 1), (CAN_TX_ST_STATE 0 56, 1), (CAN_TX_ST_STATE 0 57, 1), (CAN_TX_ST_STATE 0 58, 1),
      (CAN_TX_ST_STATE 0 59, 1), (CAN_TX_ST_STATE 0 60, 1), (CAN_TX_ST_STATE 0 61, 1), (CAN_TX_ST_STATE 0 62, 1),
      (CAN_TX_ST_STATE 0 63, 1)]], s.quiet = true ∧ (s.runs = true ∧ (startedCmd s c (0 : Word).toNat 0x31).map HCmd.args = some
      a) ∧ s.hostReach = true ∧ argNum a 0 1 = n.val ∧ ((∀ j : Fin 64, 48 ≤ j.val → entryState s n j = 1 ∨ entryState s n j =
      2))) ∧
    (∃ n ∈ ([0] : List (Fin 8)), ∃ e ∈ ([48] : List (Fin 64)), ∃ c ∈ ([0] : List (Fin 32)), ∃ a ∈ [([0] : List Byte)], ∃ y ∈
      [([] : List Byte)], ∃ x ∈ ([{}] : List (CanFrame)), ∃ s ∈ [upd (fun t =>
      { t with busMaster := true, hq := [(0, { cmds := [{ op := 0x31, stage := .started, args := [0] }] })] })
      [(PWR_START_STAT_STEP, 11), (HOST_STAT_LINK_UP, 1)]], s.quiet = true ∧ (s.runs = true ∧ (startedCmd s c (0 : Word).toNat
      0x31).map HCmd.args = some a) ∧ s.hostReach = true ∧ argNum a 0 1 = n.val ∧ 48 ≤ e.val ∧ entryState s n e ≠ 1 ∧ entryState
      s n e ≠ 2 ∧ ((∀ j : Fin 64, 48 ≤ j.val → j.val < e.val → entryState s n j = 1 ∨ entryState s n j = 2)) ∧ x = ⟨if (argNum a
      1 1).testBit 0 then argNum a 4 4 % 2 ^ 29 else argNum a 4 4 % 2 ^ 11, (argNum a 1 1).testBit 0, false, (argNum a 1
      1).testBit 1, (argNum a 1 1).testBit 2, false, 0, y.take (argNum a 2 1)⟩ ∧ requestStatus s n e x (argNum a 2 1) = .OK) ∧
    (∃ n ∈ ([0] : List (Fin 8)), ∃ e ∈ ([48] : List (Fin 64)), ∃ c ∈ ([0] : List (Fin 32)), ∃ a ∈ [([0, 0, 9] : List Byte)], ∃ y
      ∈ [([] : List Byte)], ∃ x ∈ ([{}] : List (CanFrame)), ∃ s ∈ [upd (fun t =>
      { t with busMaster := true, hq := [(0, { cmds := [{ op := 0x31, stage := .started, args := [0, 0, 9] }] })] })
      [(PWR_START_STAT_STEP, 11), (HOST_STAT_LINK_UP, 1)]], s.quiet = true ∧ (s.runs = true ∧ (startedCmd s c (0 : Word).toNat
      0x31).map HCmd.args = some a) ∧ s.hostReach = true ∧ argNum a 0 1 = n.val ∧ 48 ≤ e.val ∧ entryState s n e ≠ 1 ∧ entryState
      s n e ≠ 2 ∧ ((∀ j : Fin 64, 48 ≤ j.val → j.val < e.val → entryState s n j = 1 ∨ entryState s n j = 2)) ∧ x = ⟨if (argNum a
      1 1).testBit 0 then argNum a 4 4 % 2 ^ 29 else argNum a 4 4 % 2 ^ 11, (argNum a 1 1).testBit 0, false, (argNum a 1
      1).testBit 1, (argNum a 1 1).testBit 2, false, 0, y.take (argNum a 2 1)⟩ ∧ requestStatus s n e x (argNum a 2 1) ≠ .OK) :=
  by refine ⟨?_, ?_, ?_, ?_, ?_, ?_, ?_, ?_, ?_, ?_, ?_, ?_, ?_, ?_, ?_, ?_, ?_, ?_, ?_, ?_, ?_, ?_, ?_, ?_, ?_, ?_, ?_, ?_, ?_,
    ?_, ?_, ?_, ?_, ?_, ?_, ?_, ?_, ?_, ?_, ?_, ?_, ?_, ?_, ?_, ?_, ?_, ?_⟩ <;> decide +kernel

theorem witness_TestAccess :
    (∃ s ∈ [st []], s.quiet = true) ∧
    (∃ s ∈ [st []], s.quiet = true ∧ ((1 : BitVec 5).toNat = 1 ∨ (1 : BitVec 5).toNat = 2 ∨ (1 : BitVec 5).toNat = 8 ∨ (1 :
      BitVec 5).toNat = 31)) ∧
    (∃ s ∈ [upd (fun t => { t with tap := { resetLow := true } }) []], s.quiet = true ∧ 3 ≤ (3 : BitVec 5).toNat ∧ (3 : BitVec
      5).toNat ≤ 6 ∧ policyOpen s = true ∧ s.tap.resetLow = true) ∧
    (∃ s ∈ [st []], s.quiet = true ∧ 3 ≤ (6 : BitVec 5).toNat ∧ (6 : BitVec 5).toNat ≤ 6 ∧ (policyOpen s = false ∨
      s.tap.resetLow = false)) ∧
    (∃ s ∈ [st []], s.quiet = true ∧ ((0x10 : BitVec 5).toNat = 0x10 ∨ (0x10 : BitVec 5).toNat = 0x11) ∧ policyOpen s = true) ∧
    (∃ s ∈ [upd (fun t => { t with tap := { policy := 2 } }) []], s.quiet = true ∧ ((0x10 : BitVec 5).toNat = 0x10 ∨ (0x10 :
      BitVec 5).toNat = 0x11) ∧ policyOpen s = false) ∧
    (∃ s ∈ [st []], s.quiet = true ∧ ((0 : BitVec 5).toNat = 0 ∨ (0 : BitVec 5).toNat = 7 ∨ (9 ≤ (0 : BitVec 5).toNat ∧ (0 :
      BitVec 5).toNat ≤ 15) ∨ (18 ≤ (0 : BitVec 5).toNat ∧ (0 : BitVec 5).toNat ≤ 30))) ∧
    (∃ s ∈ [st []], s.quiet = true ∧ (2 : BitVec 5).toNat = 2) ∧
    (∃ s ∈ [upd (fun t => { t with tap := { resetLow := true } }) []], s.quiet = true ∧ ((3 : BitVec 5).toNat = 3 ∨ (3 : BitVec
      5).toNat = 6) ∧ policyOpen s = true ∧ s.tap.resetLow = true) ∧
    (∃ s ∈ [upd (fun t => { t with tap := { resetLow := true } }) []], s.quiet = true ∧ ((4 : BitVec 5).toNat = 4 ∨ (4 : BitVec
      5).toNat = 5) ∧ policyOpen s = true ∧ s.tap.resetLow = true) ∧
    (∃ s ∈ [st []], s.quiet = true ∧ (1 : BitVec 5).toNat = 1) ∧
    (∃ l ∈ [799], ∃ s ∈ [st []], s.quiet = true ∧ 784 ≤ l ∧ l ≤ 799) ∧
    (∃ l ∈ [821], ∃ s ∈ [upd (fun t => { t with tap := { instr := 3 } }) []], s.quiet = true ∧ 806 ≤ l ∧ l ≤ 821 ∧ (s.tap.instr
      = 3 ∨ s.tap.instr = 4)) ∧
    (∃ l ∈ [821], ∃ s ∈ [upd (fun t => { t with tap := { instr := 5 } }) []], s.quiet = true ∧ 806 ≤ l ∧ l ≤ 821 ∧ s.tap.instr =
      5) ∧
    (∃ l ∈ [821], ∃ s ∈ [upd (fun t => { t with tap := { instr := 6 } }) []], s.quiet = true ∧ 806 ≤ l ∧ l ≤ 821 ∧ s.tap.instr =
      6) ∧
    (∃ l ∈ [821], ∃ s ∈ [st []], s.quiet = true ∧ 806 ≤ l ∧ l ≤ 821) ∧
    (∃ l ∈ [949], ∃ s ∈ [upd (fun t => { t with tap := { instr := 5 } }) []], s.quiet = true ∧ 822 ≤ l ∧ l ≤ 949 ∧ s.tap.instr =
      5) ∧
    (∃ l ∈ [949], ∃ s ∈ [upd (fun t => { t with tap := { instr := 1 } }) []], s.quiet = true ∧ 822 ≤ l ∧ l ≤ 949 ∧ s.tap.instr =
      1) ∧
    (∃ l ∈ [949], ∃ s ∈ [upd (fun t => { t with tap := { instr := 6 } }) []], s.quiet = true ∧ 822 ≤ l ∧ l ≤ 949 ∧ s.tap.instr =
      6) ∧
    (∃ s ∈ [st []], s.quiet = true ∧ s.tap.instr ≠ 8) ∧
    (∃ s ∈ [upd (fun t => { t with tap := { instr := 8 } }) []], s.quiet = true ∧ s.tap.instr = 8) ∧
    (∃ s ∈ [st []], s.quiet = true ∧ (s.tap.challenge = none ∨ s.tap.check.isSome = true)) ∧
    (∃ x ∈ [(7 : Nat)], ∃ s ∈ [upd (fun t => { t with tap := { instr := 8, challenge := some 7 } }) []], s.quiet = true ∧
      s.tap.instr = 8 ∧ s.tap.challenge = some x ∧ s.tap.check = none) ∧
    (∃ s ∈ [st []], s.quiet = true ∧ s.tap.check = none) ∧
    (∃ x ∈ [(1 : Nat)], ∃ k ∈ [(2 : Nat)], ∃ g ∈ [(3 : Nat)], ∃ s ∈ [upd (fun t =>
      { t with tap := { check := some (1, 2, 3) } }) []], s.quiet = true ∧ s.tap.check = some (x, k, g)) ∧
    (∃ s ∈ [st []], s.quiet = true ∧ (0 : Word).toNat % 2 = 0) ∧
    (∃ s ∈ [st []], s.quiet = true ∧ (1 : Word).toNat % 2 = 1) ∧
    (∃ s ∈ [st []], s.quiet = true ∧ (141 ≤ bitsOf (141 : Word).toNat 0 8 ∨ 141 ≤ bitsOf (141 : Word).toNat 8 8)) ∧
    (∃ s ∈ [st [(ADC_CTRL_EN 0, 1)]], s.quiet = true ∧ bitsOf (1 : Word).toNat 0 8 < 141 ∧ bitsOf (1 : Word).toNat 8 8 < 141 ∧
      (atbBusy s (bitsOf (1 : Word).toNat 0 8) = true ∨ atbBusy s (bitsOf (1 : Word).toNat 8 8) = true)) ∧
    (∃ s ∈ [st []], s.quiet = true ∧ bitsOf (0 : Word).toNat 0 8 < 141 ∧ bitsOf (0 : Word).toNat 8 8 < 141 ∧ atbBusy s (bitsOf
      (0 : Word).toNat 0 8) = false ∧ atbBusy s (bitsOf (0 : Word).toNat 8 8) = false) ∧
    (∃ s ∈ [st [(TST_SST_STAT_BUSY, 1)]], s.quiet = true ∧ (1 : Word).toNat % 2 = 1 ∧ s.flag TST_SST_STAT_BUSY = true) ∧
    (∃ n ∈ ([0] : List (Fin 48)), ∃ s ∈ [st [(TST_SST_STAT_BUSY, 0), (TST_SST_MASK_LO_MASK, 1)]], s.quiet = true ∧ (1 :
      Word).toNat % 2 = 1 ∧ s.flag TST_SST_STAT_BUSY = false ∧ (s.fld TST_SST_MASK_LO_MASK + 2 ^ 32 * s.fld
      TST_SST_MASK_HI_MASK).testBit n = true ∧ sstSkipped s n = false) ∧
    (∃ n ∈ ([0] : List (Fin 48)), ∃ s ∈ [st []], s.quiet = true ∧ sstTurn s n = false) ∧
    (∃ n ∈ ([0] : List (Fin 48)), ∃ s ∈ [upd (fun t => { t with sst := { left := 1 } }) []], s.quiet = true ∧ sstTurn s n = true
      ∧ s.sst.left < 2 ^ 48) ∧
    (∃ s ∈ [st [(TST_TRC_CFG_EN, 0)]], s.quiet = true ∧ s.flag TST_TRC_CFG_EN = false) ∧
    (∃ s ∈ [st [(TST_TRC_CFG_EN, 1)]], s.quiet = true ∧ s.flag TST_TRC_CFG_EN = true) :=
  by refine ⟨?_, ?_, ?_, ?_, ?_, ?_, ?_, ?_, ?_, ?_, ?_, ?_, ?_, ?_, ?_, ?_, ?_, ?_, ?_, ?_, ?_, ?_, ?_, ?_, ?_, ?_, ?_, ?_, ?_,
    ?_, ?_, ?_, ?_, ?_, ?_, ?_⟩ <;> decide

/-- The conditions of the device identity order (R452) are met by an identity equal to, above and below the own one. -/
theorem witness_FabricAnchorIdentity (h : 0 < Config.deviceId) :
    (∃ s ∈ [st [(FAB_PORT_STAT_UP 0, 1), (FAB_ST_ANCHOR 0, 1)]], s.quiet = true ∧ portIsUp s 0 = true ∧
      (s.fabPair 0).withdrawn = false ∧ s.flag (FAB_ST_ANCHOR 0) = true) ∧
    (∃ id : Nat, id = Config.deviceId) ∧ (∃ id : Nat, Config.deviceId < id) ∧ ∃ id : Nat, id < Config.deviceId :=
  ⟨by decide, ⟨_, rfl⟩, ⟨_, Nat.lt_succ_self _⟩, ⟨0, h⟩⟩

/-- A calibration moves by at most one tap, or by more (LinkTimers): a round trip for each, on a link whose asymmetry is at most the
fixed delay. -/
theorem witness_LinkCalibration (h : Config.linkAsym 0 ≤ 2048) :
    (st []).quiet = true ∧ (st []).linkFitted 0 = true ∧ (∃ rt : Nat, (st []).fld (GS_CAL_LINK_DLY 0) ≤ downDelay 0 rt + 32 ∧ downDelay 0 rt ≤ (st []).fld (GS_CAL_LINK_DLY 0) + 32) ∧
    ∃ rt : Nat, (st []).fld (GS_CAL_LINK_DLY 0) + 32 < downDelay 0 rt := by
  have z : (st []).fld (GS_CAL_LINK_DLY 0) = 0 := by decide
  rw [z]
  refine ⟨by decide, by decide, ⟨(2048 - Config.linkAsym 0).toNat, ?_⟩, ⟨(2048 - Config.linkAsym 0).toNat + 100, ?_⟩⟩ <;> unfold downDelay <;> omega

/-- A step from a state whose storage is in form. -/
theorem witness_StepKeepsStorage : State.reset.storageWf = true ∧ step State.reset = .next State.reset := by
  exact ⟨by decide, rfl⟩

/-- A demand that names an unlatched group whose leg has a link. -/
theorem witness_DemandTakesThePermitAway :
    (1 : Word).toNat.testBit 0 = true ∧ (st []).latched 0 = false ∧ (st [(SAF_GSTAT_STATE 0, 2)]).latched 0 = true ∧
      (st [(PWM_LEG_CFG_GROUP 0, 0)]).groupOf (legOfLink 0) = some 0 ∧ carrier (st [(PWM_LEG_CFG_GROUP 0, 0), (SAF_GSTAT_STATE 0, 2)]) 0 ≠ some .permit := by decide

/-- No host command is due at reset (HostOpcodesOfControl). -/
theorem witness_HostCommandNotDue : (st []).quiet = true ∧ startedCmd (st []) 0 0 0x00 = none ∧ (st []).runs = false := by decide

/-- A store with a bisque image that holds KEY_HASH and an empty glaze image in region B of generation 1 (R486-R488), and the last
step of a start behind. -/
def stImages : State :=
  upd (fun t => { t with
    bytes := [
      (0x70000000, 49), (0x70000001, 77), (0x70000002, 76), (0x70000003, 75), (0x70000004, 1), (0x70000005, 1),
      (0x7000000C, 1), (0x70000010, 48), (0x70000014, 1), (0x7000001C, 6), (0x7000001D, 216), (0x7000001E, 106),
      (0x7000001F, 43), (0x70000040, 1), (0x70000043, 240), (0x70000044, 32), (0x7000006C, 17), (0x7000006D, 209),
      (0x7000006E, 74), (0x7000006F, 176), (0x70000070, 69), (0x70000071, 22), (0x70000072, 205), (0x70000073, 244),
      (0x700C0000, 49), (0x700C0001, 77), (0x700C0002, 76), (0x700C0003, 75), (0x700C0004, 2), (0x700C0005, 1),
      (0x700C0008, 1), (0x700C0014, 1), (0x700C001C, 19), (0x700C001D, 123), (0x700C001E, 99), (0x700C001F, 14)]
    hq := [(0, { cmds := [{ op := 0x3B, stage := .started, args := [1, 0, 0, 0] }] })] })
    [(PWR_START_STAT_STEP, 11), (PWR_MODE, 1), (PWR_FEED_STAT_HOLD_OK, 1), (HOST_R_CTRL_CQ_SIZE 0, 4)]

theorem stImages_bisque : checkBisque stImages = (0, [{ key := 0xF0000001, len := 32, at_ := 0x70000040 }]) := by decide +kernel

theorem stImages_glaze :
    headerCode stImages 0x700C0000 0x80000 2 128 = 0 ∧ imgRecs stImages 0x700C0000 true = some [] ∧ glazeGen stImages 1 = 1 ∧
      ctlGen stImages = 0 ∧ stImages.num 0x700C000C 4 = 0 ∧ imgRecLen stImages 0x700C0000 = 0 := by
  decide +kernel

/-- IMAGE_ACTIVATE meets its conditions (HostOpcodesOfControl) with an image whose key has the digest KEY_HASH and whose signature
verifies: the two functions of FIPS 180-4 and 186-4 are opaque. -/
theorem witness_ImageActivate (h1 : Config.sha256 (stImages.bytesAt 0x700C0040 64) = stImages.bytesAt 0x70000048 32)
    (h2 : ∀ m, Config.ecdsaHolds (stImages.bytesAt 0x700C0040 64) (stImages.bytesAt 0x700C0080 64) m = true) :
    stImages.quiet = true ∧ stImages.runs = true ∧ (startedCmd stImages 0 0 0x3B).map HCmd.args = some [1, 0, 0, 0] ∧
      activateStatus stImages (argNum [1, 0, 0, 0] 0 1) = .OK ∧ stImages.storeHeld = false := by
  obtain ⟨g1, g2, g3, g0, g4, g5⟩ := stImages_glaze
  have c : checkGlaze stImages (checkBisque stImages).2 1 = (0, []) := by
    rw [stImages_bisque]
    simp [checkGlaze, glazeBase, g1, g2, g3, g4, g5, dupKey, metaRec, metaNum, h1, h2, mergeSet, setSize, insertRec, ImgRec.size,
      recSize]
  have m : stImages.mode = 1 ∧ stImages.flag IMG_LOCK = false ∧ stImages.fld IMG_STAT_ACTIVE = 0 ∧ opRuns stImages 0x3A 15 1 = false := by
    decide
  refine ⟨by decide, by decide, by decide, ?_, by decide⟩
  show activateStatus stImages 1 = .OK
  simp [activateStatus, c, m, g3, g0, firstOf]

end Sys2Proof.Tests
end

section
/-! SUPPORT and PROOFS of the scope: every function of the model that answers a state has one lemma, `Keeps.<function>`, which says
that `Keeps` survives it. The lemmas stand in the order of the model's files; `Keeps.exec` draws them together, command by command,
and O1 and O3 follow from it. O4 stands at the end, refuted.

A lemma follows the branches of its definition: `.ite` for an `if`, `split` for a `match`. Where a definition names its
intermediate states, its proof takes them out with `extract_lets`, since a comparison with the inlined definition would have the
kernel evaluate the conditions that mention addresses; `clear_value` forgets what such a state is once its own lemma is known. -/

namespace Sys2Proof.Machine

/-! ### The relation `Keeps` -/

theorem Keeps.refl (s : State) : Keeps s s := ⟨rfl, rfl, id⟩

theorem Keeps.trans (h : Keeps r s) (k : Keeps s t) : Keeps r t := by
  obtain ⟨queue, variant, storage⟩ := h
  obtain ⟨queue', variant', storage'⟩ := k
  exact ⟨queue'.trans queue, variant'.trans variant, storage' ∘ storage⟩

/-- `Keeps` for an operation that may give no state. -/
def KeepsSome (r : State) (o : Option State) : Prop := ∀ t, o = some t → Keeps r t

theorem KeepsSome.some (h : Keeps r s) : KeepsSome r (some s) := by
  intro t e
  cases e
  exact h

theorem KeepsSome.none : KeepsSome r none := fun _ e => nomatch e

/-! ### Branches and loops -/

theorem Keeps.ite {c : Prop} {_ : Decidable c} (h : Keeps r s) (k : Keeps r t) : Keeps r (if c then s else t) := by
  split <;> assumption

theorem Keeps.ite_fst {c : Prop} {_ : Decidable c} {a b : State × β} (h : Keeps r a.1) (k : Keeps r b.1) :
    Keeps r (if c then a else b).1 := by
  split <;> assumption

theorem Keeps.ite_snd {c : Prop} {_ : Decidable c} {a b : β × State} (h : Keeps r a.2) (k : Keeps r b.2) :
    Keeps r (if c then a else b).2 := by
  split <;> assumption

/-- `Keeps` of the state in a pair, said of the pair: the kernel then compares pairs and not their projections. -/
def KeepsFst (r : State) (x : State × β) : Prop := Keeps r x.1

theorem Keeps.keepsFst {x : State × β} (h : Keeps r x.1) : KeepsFst r x := h

theorem KeepsFst.ite {c : Prop} {_ : Decidable c} {a b : State × β} (h : KeepsFst r a) (k : KeepsFst r b) :
    KeepsFst r (if c then a else b) := by
  split <;> assumption

theorem KeepsSome.ite {c : Prop} {_ : Decidable c} {a b : Option State} (h : KeepsSome r a) (k : KeepsSome r b) :
    KeepsSome r (if c then a else b) := by
  split <;> assumption

theorem Keeps.pair (h : Keeps r s) : Keeps r (s, x).1 := h

theorem Keeps.pair_snd (h : Keeps r s) : Keeps r (x, s).2 := h

theorem Keeps.foldl {f : State → α → State} (h : Keeps r s) (hf : ∀ {s a}, Keeps r s → Keeps r (f s a)) {l : List α} :
    Keeps r (l.foldl f s) := by
  induction l generalizing s with
  | nil => exact h
  | cons a l ih => exact ih (hf h)

/-- A loop that carries something beside the state. -/
theorem Keeps.foldl_fst {f : State × β → α → State × β} {x : State × β} (h : Keeps r x.1)
    (hf : ∀ {x a}, Keeps r x.1 → Keeps r (f x a).1) {l : List α} : Keeps r (l.foldl f x).1 := by
  induction l generalizing x with
  | nil => exact h
  | cons a l ih => exact ih (hf h)

theorem Keeps.each {f : State → α → State} (h : Keeps r s) (hf : ∀ {s a}, Keeps r s → Keeps r (f s a)) : Keeps r (s.each l f) :=
  h.foldl hf

theorem Keeps.when {f : State → State} (h : Keeps r s) (hf : ∀ {s}, Keeps r s → Keeps r (f s)) : Keeps r (s.when c f) :=
  .ite (hf h) h

/-! ### Updates of the state -/

/-- An update of any fields but the queue, the variant, the register file and the memories. -/
theorem Keeps.update (h : Keeps r s) : Keeps r { s with
    mtime := v0, timeRuns := v1, grp := v2, leg := v3, filtAt := v4, roles := v5, rx := v6, lk := v7, adc := v8, modu := v9,
    mirLatch := v10, fb := v11, fbLatch := v12, emu := v13, hring := v14, busMaster := v15, views := v16, trcSlot := v17,
    trcLink := v18, eng := v19, lib := v20, act := v21, cnv := v22, chg := v23, pair := v24, startFault := v25, sag := v26,
    sagGrp := v27, sout := v28, fjop := v29, waits := v30, results := v31, hq := v32, jnl := v33, tlm := v34, dipHold := v35,
    deferred := v36, perst := v37, tripPins := v38, fab := v39, can := v40, sup := v41, thm := v42, tap := v43, sst := v44,
    coldWant := v45, warmWant := v46, clkBad := v47, img := v48, out := v49, free := v50 } :=
  h

theorem Keeps.filterRegs (h : Keeps r s) : Keeps r { s with regs := s.regs.filter p } := by
  refine h.trans ⟨rfl, rfl, fun w => ?_⟩
  obtain ⟨hr, hb, hw⟩ := s.storageWf_iff.1 w
  exact (State.storageWf_iff _).2 ⟨Tbl.rising_filter p _ hr, hb, hw⟩

theorem Keeps.filterBytes (h : Keeps r s) : Keeps r { s with bytes := s.bytes.filter p } := by
  refine h.trans ⟨rfl, rfl, fun w => ?_⟩
  obtain ⟨hr, hb, hw⟩ := s.storageWf_iff.1 w
  exact (State.storageWf_iff _).2 ⟨hr, Tbl.wf_filter _ _ p hb, hw⟩

theorem Keeps.filterWords (h : Keeps r s) : Keeps r { s with words := s.words.filter p } := by
  refine h.trans ⟨rfl, rfl, fun w => ?_⟩
  obtain ⟨hr, hb, hw⟩ := s.storageWf_iff.1 w
  exact (State.storageWf_iff _).2 ⟨hr, hb, Tbl.wf_filter _ _ p hw⟩

theorem Keeps.clearWords (h : Keeps r s) : Keeps r { s with words := [] } := by
  refine h.trans ⟨rfl, rfl, fun w => ?_⟩
  obtain ⟨hr, hb, -⟩ := s.storageWf_iff.1 w
  exact (State.storageWf_iff _).2 ⟨hr, hb, rfl⟩

/-- Entries put back into the register file, each in its place. -/
theorem Keeps.insertRegs {l : List (Nat × Nat)} (h : Keeps r s) :
    Keeps r { s with regs := l.foldl (fun t e => Tbl.insert e.1 e.2 t) s.regs } := by
  refine h.trans ⟨rfl, rfl, fun w => ?_⟩
  obtain ⟨hr, hb, hw⟩ := s.storageWf_iff.1 w
  refine (State.storageWf_iff _).2 ⟨?_, hb, hw⟩
  exact List.foldlRecOn (motive := fun t => Tbl.rising t = true) l _ hr fun t ht e _ => Tbl.rising_insert e.1 e.2 t ht

/-! ### Sys2Proof/Machine/Ops.lean -/

theorem Keeps.put (h : Keeps r s) : Keeps r (s.put f v) := h.trans ⟨rfl, rfl, s.put_storageWf f v⟩

theorem Keeps.putFlag (h : Keeps r s) : Keeps r (State.putFlag s f b) := h.put

theorem Keeps.inc (h : Keeps r s) : Keeps r (State.inc s f) := h.put

theorem Keeps.addSat (h : Keeps r s) : Keeps r (State.addSat s f d) := h.put

theorem Keeps.putAll (h : Keeps r s) : Keeps r (State.putAll s l) := h.foldl fun h => h.put

theorem Keeps.setWord (h : Keeps r s) : Keeps r (s.setWord a w) := h.trans ⟨rfl, rfl, s.setWord_storageWf a w⟩

theorem Keeps.setByte (h : Keeps r s) : Keeps r (s.setByte a b) := h.trans ⟨rfl, rfl, s.setByte_storageWf a b⟩

theorem Keeps.setBytes (h : Keeps r s) : Keeps r (s.setBytes a l) := by
  induction l generalizing s a with
  | nil => exact h
  | cons b l ih => exact ih h.setByte

theorem Keeps.setGrp (h : Keeps r s) : Keeps r (State.setGrp s g v) := h.update

theorem Keeps.setLeg (h : Keeps r s) : Keeps r (State.setLeg s n v) := h.update

theorem Keeps.setRx (h : Keeps r s) : Keeps r (State.setRx s l v) := h.update

theorem Keeps.setLk (h : Keeps r s) : Keeps r (State.setLk s l v) := h.update

theorem Keeps.setFiltTime (h : Keeps r s) : Keeps r (State.setFiltTime s x x1) := h.update

theorem Keeps.emit (h : Keeps r s) : Keeps r (State.emit s o) := h.update

theorem Keeps.irq (h : Keeps r s) : Keeps r (State.irq s p b i c) := h.emit

theorem Keeps.finish (h : Keeps r s) : Keeps r (State.finish s w x x1) := h.update

theorem Keeps.fresh (h : Keeps r s) : Keeps r (State.fresh s).2 := h.update.pair_snd

theorem Keeps.await (h : Keeps r s) : Keeps r (State.await s w c) := h.update

theorem Keeps.refuse (h : Keeps r s) : Keeps r (State.refuse s b x) := h.put.inc

theorem Keeps.recorded {x : State × Status} (h : Keeps r x.1) : Keeps r (recorded b x).1 := .ite_fst h h.refuse

/-! ### Sys2Proof/Machine/Operands.lean -/

theorem Keeps.setView (h : Keeps r s) : Keeps r (State.setView s x v) := h.update

theorem Keeps.stageLow (h : Keeps r s) : Keeps r (stageLow s x a d) := h.setView

theorem Keeps.composeHigh (h : Keeps r s) : Keeps r (composeHigh s x a d).1 := by
  unfold Machine.composeHigh
  split
  · exact .ite_fst h.setView.pair h.pair
  · exact h.pair

theorem Keeps.down (h : Keeps r s) : Keeps r (State.down s l x b) := h.emit

theorem Keeps.up (h : Keeps r s) : Keeps r (State.up s l x b) := .ite h.setRx.emit h.setRx

theorem Keeps.upTick (h : Keeps r s) : Keeps r (upTick s l) := by
  unfold Machine.upTick
  extract_lets
  refine .ite h.setRx ?_
  split
  · exact h.setRx
  · exact h.setRx.emit

theorem Keeps.sendEdge (h : Keeps r s) : Keeps r (State.sendEdge s l o x) := .ite h h.setLk.down

theorem Keeps.sendTransition (h : Keeps r s) : Keeps r (State.sendTransition s l k x) := .ite h h.setLk.down

theorem Keeps.sendCut (h : Keeps r s) : Keeps r (State.sendCut s l) := h.down

theorem Keeps.sendClear (h : Keeps r s) : Keeps r (State.sendClear s l) := h.down

theorem Keeps.sendResume (h : Keeps r s) : Keeps r (State.sendResume s l) := h.down

theorem Keeps.sendDtset (h : Keeps r s) : Keeps r (State.sendDtset s l l1 x) := h.down

theorem Keeps.trace (h : Keeps r s) : Keeps r (State.trace s x c d) := .ite (h.setBytes.put.when fun h => h.putFlag) h

/-! ### Sys2Proof/Machine/HostRing.lean -/

theorem Keeps.setHring (h : Keeps r s) : Keeps r (State.setHring s k v) := h.update

theorem Keeps.announce (h : Keeps r s) : Keeps r (announce s k) := .ite h <| .ite h.setHring h.setHring.emit

theorem Keeps.writeRec (h : Keeps r s) : Keeps r (writeRec s k x) :=
  (Keeps.ite (h.emit.put.when fun h => h.putFlag) h.emit.put).setHring.announce

theorem Keeps.pumpRecs (h : Keeps r s) : Keeps r (pumpRecs s k l) := by
  induction l generalizing s with
  | nil => exact h.setHring
  | cons x l ih => exact .ite (ih h.writeRec) h.setHring

theorem Keeps.pump (h : Keeps r s) : Keeps r (pump s k) := h.pumpRecs

theorem Keeps.postCompletion (h : Keeps r s) : Keeps r (postCompletion s x x1) := h.pumpRecs

theorem Keeps.postEvent (h : Keeps r s) : Keeps r (postEvent s k p) := .ite h.pumpRecs.setHring.inc h.pumpRecs

theorem Keeps.postTelemetry (h : Keeps r s) : Keeps r (postTelemetry s x) := .ite h.writeRec h.setHring.inc

/-! ### Sys2Proof/Machine/Regs.lean -/

theorem Keeps.writeField (h : Keeps r s) : Keeps r (writeField s l a d x) := by
  unfold Machine.writeField
  extract_lets
  split
  · exact h.put
  · exact .ite h h.put
  · exact h.put
  · exact h
  · exact h

theorem Keeps.writeFields (h : Keeps r s) : Keeps r (writeFields s b a d).1 :=
  .ite_fst (h.foldl fun h => h.writeField).refuse.pair (h.foldl fun h => h.writeField).pair

theorem Keeps.checkedWrite (h : Keeps r s) : Keeps r (checkedWrite s b c a d).1 := by
  unfold Machine.checkedWrite
  split
  · exact h.writeFields
  · exact h.refuse.pair

theorem Keeps.writeLock (h : Keeps r s) : Keeps r (writeLock s b d).1 := (h.when fun h => h.putFlag).pair

/-! ### Sys2Proof/Machine/Pwm.lean -/

theorem Keeps.freeFollowers (h : Keeps r s) : Keeps r (freeFollowers s g) := h.each fun h => (Keeps.ite h.setGrp h).putFlag

theorem Keeps.initDeadTimes (h : Keeps r s) : Keeps r (initDeadTimes s n) := (h.putAll.when fun h => h.sendDtset.sendDtset).setLeg

theorem Keeps.clearForce (h : Keeps r s) : Keeps r (clearForce s n) :=
  (Keeps.ite ((h.when fun h => h.sendEdge).when fun h => h.sendEdge) (h.when fun h => h.sendTransition)).putAll

theorem Keeps.beginGroup (h : Keeps r s) : Keeps r (beginGroup s g x b) := by
  unfold Machine.beginGroup
  extract_lets _ _ _ s3
  have k : Keeps r s3 := h.setGrp.putAll.each fun h => h.initDeadTimes.clearForce
  exact (Keeps.ite k (k.each fun h => h.setLeg)).each fun h => h.sendResume

theorem Keeps.followerOffset (h : Keeps r s) : Keeps r (followerOffset s f p).1 := .ite_fst h.putFlag.pair h.pair

theorem Keeps.releaseFollowers (h : Keeps r s) : Keeps r (releaseFollowers k s g x) := by
  induction k generalizing s g x with
  | zero => exact h
  | succ k ih => exact h.each fun h => ih h.followerOffset.beginGroup

theorem Keeps.groupStart (h : Keeps r s) : Keeps r (groupStart s g).1 := by
  unfold Machine.groupStart
  split
  · exact .ite_fst h.putFlag.pair h.beginGroup.releaseFollowers.pair
  · exact h.pair

theorem Keeps.groupStop (h : Keeps r s) : Keeps r (groupStop s g) := .ite h.setGrp h.putFlag

theorem Keeps.dropPeriod (h : Keeps r s) : Keeps r (dropPeriod s g) := h.setGrp.putAll.each fun h => h.setLeg

theorem Keeps.sendOffEdges (h : Keeps r s) : Keeps r (sendOffEdges s g x) :=
  h.each fun h => .ite h.sendEdge.sendEdge h.sendTransition

theorem Keeps.enterStopped (h : Keeps r s) : Keeps r (enterStopped s g) := h.freeFollowers.dropPeriod.putAll.finish

theorem Keeps.enterSafeGroup (h : Keeps r s) : Keeps r (enterSafeGroup s g) := h.freeFollowers.dropPeriod.put.finish

theorem Keeps.releaseGroup (h : Keeps r s) : Keeps r (releaseGroup s g) := .ite h.putAll h

theorem Keeps.acceptSet (h : Keeps r s) : Keeps r (acceptSet s g d) :=
  ((h.when fun h => h.inc.trace).when fun h => h.inc).setGrp.putFlag

theorem Keeps.groupCommit (h : Keeps r s) : Keeps r (groupCommit s g).1 := .ite_fst h.pair h.acceptSet.pair

theorem Keeps.clampLeg (h : Keeps r s) : Keeps r (clampLeg p s n) := h.put.when fun h => h.putFlag

theorem Keeps.planPeriod (h : Keeps r s) : Keeps r (planPeriod s n m p w a) := h.setLeg

theorem Keeps.replanMid (h : Keeps r s) : Keeps r (replanMid s n m p u) := h.setLeg

theorem Keeps.unfloatMid (h : Keeps r s) : Keeps r (unfloatMid s n u) := .ite h.setLeg h

theorem Keeps.loadCompares (h : Keeps r s) : Keeps r (loadCompares s g d) := h.each fun h => h.setLeg

theorem Keeps.stepDeadTimes (h : Keeps r s) : Keeps r (stepDeadTimes s n) :=
  .ite (.ite h.putAll.setLeg h.setLeg.putAll)
    (((Keeps.ite h.putAll.setLeg h.setLeg.putAll).when fun h => h.sendDtset).when fun h => h.sendDtset)

theorem Keeps.captureTrip (h : Keeps r s) : Keeps r (captureTrip s g x) := .ite h h.putAll.trace

theorem Keeps.tripGroup (h : Keeps r s) : Keeps r (tripGroup s g x) :=
  (h.captureTrip.setGrp.when fun h => h.putFlag).each fun h => h.sendCut

theorem Keeps.tripRecheck (h : Keeps r s) : Keeps r (tripRecheck s g) := by
  unfold Machine.tripRecheck
  extract_lets
  split
  · exact h.setGrp
  · exact h.setGrp.tripGroup.put

theorem Keeps.maskWritten (h : Keeps r s) : Keeps r (maskWritten s g b) := by
  unfold Machine.maskWritten
  split
  · exact .ite h.tripGroup h
  · exact h

theorem Keeps.tripClear (h : Keeps r s) : Keeps r (tripClear s g).1 := .ite_fst h.putAll.pair h.put.pair

theorem Keeps.resumeArmed (h : Keeps r s) : Keeps r (resumeArmed s g) := h.each fun h => h.when fun h => h.sendResume

theorem Keeps.resumeChannels (h : Keeps r s) : Keeps r (resumeChannels s g) :=
  h.each fun h => (h.each fun h => h.when fun h => h.sendResume).setLeg

theorem Keeps.sendFloat (h : Keeps r s) : Keeps r (sendFloat s n x) := .ite h.sendEdge.sendEdge h.sendTransition

theorem Keeps.applyFloats (h : Keeps r s) : Keeps r (applyFloats s g x) := h.each fun h => (h.when fun h => h.sendFloat).setLeg

theorem Keeps.noteRan (h : Keeps r s) : Keeps r (noteRan s g b) := h.setGrp

theorem Keeps.periodStart (h : Keeps r s) : Keeps r (periodStart s g) := .ite (.ite h.enterStopped h.setGrp.putFlag) h

theorem Keeps.reloadStop (h : Keeps r s) : Keeps r (reloadStop s g x) := h.sendOffEdges.setGrp.finish

theorem Keeps.reloadRun (h : Keeps r s) : Keeps r (reloadRun s g p x b) := by
  unfold Machine.reloadRun
  dsimp only
  refine Keeps.noteRan ?_
  refine Keeps.applyFloats ?_
  refine Keeps.resumeChannels ?_
  refine Keeps.putFlag ?_
  refine Keeps.each ?_ fun h => h.planPeriod
  refine Keeps.tripRecheck ?_
  refine Keeps.setGrp ?_
  refine Keeps.each ?_ fun h => h.clampLeg
  refine .ite ?_ (h.each fun h => h.setLeg.stepDeadTimes).put
  split
  · exact (h.each fun h => h.setLeg.stepDeadTimes).put.loadCompares
  · exact (h.each fun h => h.setLeg.stepDeadTimes).put

theorem Keeps.reloadPeriod (h : Keeps r s) : Keeps r (reloadPeriod s g) :=
  .ite h (Keeps.ite (Keeps.ite_fst h.followerOffset h.pair).reloadStop
    (Keeps.ite_fst h.followerOffset h.pair).reloadRun).periodStart

theorem Keeps.reloadMid (h : Keeps r s) : Keeps r (reloadMid s g) := by
  unfold Machine.reloadMid
  dsimp only
  refine .ite h ?_
  refine Keeps.noteRan ?_
  refine Keeps.applyFloats ?_
  refine Keeps.resumeArmed ?_
  refine Keeps.each ?_ fun h => h.unfloatMid
  split
  · exact .ite ((h.setGrp.loadCompares.each fun h => h.clampLeg).setGrp.each fun h => h.replanMid) h.setGrp
  · exact h.setGrp

theorem Keeps.reloadGroup (h : Keeps r s) : Keeps r (reloadGroup s g m) := .ite (.ite h.reloadMid h.reloadPeriod) h

theorem Keeps.carriedDeparture (h : Keeps r s) : Keeps r (carriedDeparture s n x) := by
  unfold Machine.carriedDeparture
  split
  · exact .ite ((h.when fun h => by split; exacts [h.inc, h]).when fun h => h.sendEdge) h
  · exact h

theorem Keeps.edgeDeparture (h : Keeps r s) : Keeps r (edgeDeparture s n i x) := by
  unfold Machine.edgeDeparture
  split
  · exact h
  · extract_lets
    refine .ite ?_ h
    split
    · exact .ite h.carriedDeparture h
    · exact .ite (.ite ((h.when fun h => h.inc).when fun h => h.sendEdge) (h.when fun h => h.sendEdge)) <| .ite h <|
        .ite (h.when fun h => h.inc).sendTransition ((h.when fun h => h.inc).when fun h => h.sendTransition)

theorem Keeps.applyForce (h : Keeps r s) : Keeps r (applyForce s n x l) :=
  .ite h.putAll <| .ite ((h.putAll.when fun h => h.sendResume.sendEdge).when fun h => h.sendResume.sendEdge)
    (h.putAll.when fun h => h.sendResume.sendTransition)

theorem Keeps.legForce (h : Keeps r s) : Keeps r (legForce s n d).1 :=
  .ite_fst h.refuse.pair <| .ite_fst h.putFlag.inc.refuse.pair <| .ite_fst h.refuse.pair h.applyForce.pair

theorem Keeps.legGroup (h : Keeps r s) : Keeps r (legGroup s n d).1 := by
  unfold Machine.legGroup
  extract_lets
  split
  · exact .ite_fst h.put.refuse.pair h.put.put.pair
  · exact h.refuse.pair

theorem Keeps.showPin (h : Keeps r s) : Keeps r (showPin s x) := h.putFlag

theorem Keeps.tripSourceChange (h : Keeps r s) : Keeps r (tripSourceChange s x p) := .ite h.update.showPin h.putFlag

theorem Keeps.tripSettled (h : Keeps r s) : Keeps r (tripSettled s x) :=
  .ite h <| .ite (h.putFlag.setFiltTime.each fun h => h.tripGroup) h.putFlag

theorem Keeps.triggerFire (h : Keeps r s) : Keeps r (triggerFire s g k) := .ite h.setGrp.emit h

/-! ### Sys2Proof/Machine/Satellite.lean -/

theorem Keeps.discardDown (h : Keeps r s) : Keeps r (discardDown s l) := .ite h.setRx.inc h.setRx

theorem Keeps.onDown {act : State → State} (h : Keeps r s) (hf : ∀ {s}, Keeps r s → Keeps r (act s)) :
    Keeps r (onDown s l f x act) := by
  unfold Machine.onDown
  split
  · exact h
  · split
    · exact h.discardDown
    · exact h
    · exact hf h.setRx

theorem Keeps.takeTime (h : Keeps r s) : Keeps r (takeTime s l v) := .ite h.setRx <| .ite h.setRx h.setRx

theorem Keeps.countLate (h : Keeps r s) : Keeps r (countLate s l) := .ite h.inc h

theorem Keeps.takeOff (h : Keeps r s) : Keeps r (takeOff s l x x1) := .ite h.setRx h.setRx

theorem Keeps.takeOn (h : Keeps r s) : Keeps r (takeOn s l x x1) := .ite h.setRx.countLate h.setRx

theorem Keeps.takeEdge (h : Keeps r s) : Keeps r (takeEdge s n f) :=
  .ite h.setRx <| .ite (.ite h.setRx.takeOn h.setRx) h.setRx.takeOff

theorem Keeps.takeTransition (h : Keeps r s) : Keeps r (takeTransition s l f) := by
  unfold Machine.takeTransition
  extract_lets
  refine .ite h.setRx ?_
  split
  · exact .ite h.setRx.takeOff.takeOn h.setRx.takeOff
  · exact .ite h.setRx.takeOff.takeOn h.setRx.takeOff
  · exact h.setRx.takeOff.takeOff
  · exact h.setRx

theorem Keeps.takeCut (h : Keeps r s) : Keeps r (takeCut s l) := .ite h.setRx h

theorem Keeps.takeResume (h : Keeps r s) : Keeps r (takeResume s l) := h.setRx

theorem Keeps.sendAlive (h : Keeps r s) : Keeps r (sendAlive s l) := h.up

theorem Keeps.takeClear (h : Keeps r s) : Keeps r (takeClear s l) := (Keeps.ite h h.setRx).sendAlive

theorem Keeps.takeCfgWr (h : Keeps r s) : Keeps r (takeCfgWr s l f) := h.setRx

theorem Keeps.takeCfgRd (h : Keeps r s) : Keeps r (takeCfgRd s l f) := h.up

theorem Keeps.takeDtset (h : Keeps r s) : Keeps r (takeDtset s l f) := h.setRx

theorem Keeps.takeIdentReq (h : Keeps r s) : Keeps r (takeIdentReq s l) := h.up.up

theorem Keeps.raiseFault (h : Keeps r s) : Keeps r (raiseFault s l x c g) := h.setRx.up

theorem Keeps.desatValid (h : Keeps r s) : Keeps r (desatValid s n m) := .ite h.raiseFault h

theorem Keeps.shortCircuit (h : Keeps r s) : Keeps r (shortCircuit s n m) := .ite h.raiseFault h

theorem Keeps.softOffTimer (h : Keeps r s) : Keeps r (softOffTimer s n) := .ite h.setRx h

theorem Keeps.supplyFault (h : Keeps r s) : Keeps r (supplyFault s n v) := .ite h.setRx.raiseFault h

theorem Keeps.vdsFault (h : Keeps r s) : Keeps r (vdsFault s k x m) := .ite h.raiseFault.setRx h

theorem Keeps.driverUv (h : Keeps r s) : Keeps r (driverUv s k) := .ite h h.setRx.raiseFault.raiseFault

theorem Keeps.blankingEnd (h : Keeps r s) : Keeps r (blankingEnd s l x) := .ite (.ite h.setRx h) <| .ite h.setRx h

theorem Keeps.sendMeas (h : Keeps r s) : Keeps r (sendMeas s l k v) := h.up

theorem Keeps.baselineSample (h : Keeps r s) : Keeps r (baselineSample s n m) := .ite h.setRx.sendMeas h

theorem Keeps.permitLoss (h : Keeps r s) : Keeps r (permitLoss s l) := .ite h h.setRx

theorem Keeps.permitTaken (h : Keeps r s) : Keeps r (permitTaken s l c) :=
  .ite h <| .ite h.permitLoss <| .ite h.setRx <| .ite h h.setRx

theorem Keeps.sendXrefuse (h : Keeps r s) : Keeps r (sendXrefuse s l x) := h.up

theorem Keeps.refuseOn (h : Keeps r s) : Keeps r (refuseOn s l) := h.setRx.sendXrefuse

theorem Keeps.crossLink (h : Keeps r s) : Keeps r (crossLink s n p x) := .ite h <| .ite h.setRx.setRx.sendXrefuse h.setRx.setRx

theorem Keeps.partnerOff (h : Keeps r s) : Keeps r (partnerOff s l) :=
  .ite (.ite h <| .ite h.setRx <| .ite h.setRx h) <| .ite h.setRx h

theorem Keeps.edgePlacement (h : Keeps r s) : Keeps r (edgePlacement s l) := by
  unfold Machine.edgePlacement
  extract_lets
  split
  · exact h
  · exact .ite h.setRx <| .ite h.setRx.setRx <| .ite h.setRx.countLate <| .ite h.setRx <| .ite h.setRx <|
      .ite h.setRx.refuseOn h.setRx.setRx

theorem Keeps.transitionMeasured (h : Keeps r s) : Keeps r (transitionMeasured s l x x1) := .ite h.setRx.up h

theorem Keeps.satMeasure (h : Keeps r s) : Keeps r (satMeasure s l n d) := .ite h <| .ite h.sendMeas.sendMeas h.sendMeas

theorem Keeps.measStale (h : Keeps r s) : Keeps r (measStale s l d) := .ite h.putFlag (h.when fun h => h.putFlag)

theorem Keeps.goodUp (h : Keeps r s) : Keeps r (goodUp s l) := .ite h.setLk.putFlag h.setLk.putFlag

theorem Keeps.onUp {act : State → State} (h : Keeps r s) (hf : ∀ {s}, Keeps r s → Keeps r (act s)) :
    Keeps r (onUp s l f x act) := by
  unfold Machine.onUp
  split
  · exact h
  · split
    · exact .ite h.setLk.inc h.setLk
    · exact h
    · exact hf h.goodUp

theorem Keeps.setSummary (h : Keeps r s) : Keeps r (setSummary s l b) := h.setLk

theorem Keeps.raiseSummary (h : Keeps r s) : Keeps r (raiseSummary s l) := .ite h h.setSummary.irq

theorem Keeps.clearAnswer (h : Keeps r s) : Keeps r (clearAnswer s l l1) := by
  unfold Machine.clearAnswer
  extract_lets _ _ _ _ s2
  have k : Keeps r s2 := (Keeps.ite h.put h.put).setLk
  exact .ite k.refuse.finish (Keeps.ite k.setSummary.setLk.putAll k.setSummary.setLk.putAll).finish

theorem Keeps.latchRestore (h : Keeps r s) : Keeps r (latchRestore s l f) :=
  .ite (.ite h.setLk.raiseSummary.putAll h.setLk.raiseSummary.putAll) h.setLk

theorem Keeps.takeAlive (h : Keeps r s) : Keeps r (takeAlive s l f) := by
  unfold Machine.takeAlive
  extract_lets _ _ s1 _ s2
  have k1 : Keeps r s1 := .ite (h.putAll.when fun h => h.putFlag.setRx) h.putAll
  have k2 : Keeps r s2 := .ite k1.latchRestore k1
  exact .ite k2.clearAnswer k2

theorem Keeps.takeTreport (h : Keeps r s) : Keeps r (takeTreport s l f) :=
  .ite (.ite h.putAll h.putAll) (Keeps.ite h.putAll h.putAll).setLeg

theorem Keeps.takeFault (h : Keeps r s) : Keeps r (takeFault s l f) :=
  (Keeps.ite h.raiseSummary.putAll.inc h.raiseSummary.putAll).trace

theorem Keeps.takeMeas (h : Keeps r s) : Keeps r (takeMeas s l f) := by
  unfold Machine.takeMeas
  extract_lets
  split
  · exact .ite h.putAll h
  · exact .ite h.putAll h.putAll
  · exact .ite h.putAll h
  · exact h

theorem Keeps.takeXrefuse (h : Keeps r s) : Keeps r (takeXrefuse s l f) := (h.putFlag.when fun h => h.inc).setLeg

theorem Keeps.applyDelay (h : Keeps r s) : Keeps r (applyDelay s l d) := (Keeps.ite h.put h.put).setRx

theorem Keeps.takeCalEcho (h : Keeps r s) : Keeps r (takeCalEcho s l x) := .ite h.setLk (h.setLk.when fun h => h.applyDelay)

theorem Keeps.takeIdent (h : Keeps r s) : Keeps r (takeIdent s l f) := .ite h.setLk.putAll h.setLk

theorem Keeps.takeCfgData (h : Keeps r s) : Keeps r (takeCfgData s l f) := h.setLk

theorem Keeps.upSilent (h : Keeps r s) : Keeps r (upSilent s l) :=
  .ite h <| .ite h.setLk.raiseSummary.putAll h.setLk.raiseSummary.putAll

theorem Keeps.downSilent (h : Keeps r s) : Keeps r (downSilent s l) := .ite h h.setRx

theorem Keeps.linkCalibration (h : Keeps r s) : Keeps r (linkCalibration s l x) := .ite h <| .ite h.putFlag.irq h.applyDelay

theorem Keeps.satClear (h : Keeps r s) : Keeps r (satClear s l).1 :=
  .ite_fst h.refuse.pair <| .ite_fst (Keeps.ite h.put h.put).refuse.pair h.setLk.sendClear.pair

theorem Keeps.clearTimeout (h : Keeps r s) : Keeps r (clearTimeout s l) := .ite (Keeps.ite h.setLk.put h.setLk.put).refuse.finish h

theorem Keeps.gsCfg (h : Keeps r s) : Keeps r (gsCfg s n d).1 := by
  unfold Machine.gsCfg
  extract_lets
  split
  · exact .ite_fst h.pair h.putAll.emit.pair
  · exact h.refuse.pair

theorem Keeps.ldCfg (h : Keeps r s) : Keeps r (ldCfg s k d).1 := by
  unfold Machine.ldCfg
  extract_lets
  split
  · exact .ite_fst h.pair h.putAll.emit.pair
  · exact h.refuse.pair

theorem Keeps.belowReset (h : Keeps r s) : Keeps r (belowReset s n) := h.setRx

theorem Keeps.leaveReset (h : Keeps r s) : Keeps r (leaveReset s n) := .ite h.setRx h

/-! ### Sys2Proof/Machine/Saggar.lean -/

theorem Keeps.setSagGrp (h : Keeps r s) : Keeps r (State.setSagGrp s g v) := h.update

theorem Keeps.setSout (h : Keeps r s) : Keeps r (State.setSout s n v) := h.update

theorem Keeps.setFjop (h : Keeps r s) : Keeps r (State.setFjop s c v) := h.update

theorem Keeps.evalChoice (h : Keeps r s) : Keeps r (evalChoice s g) := h.putAll

theorem Keeps.evalChoices (h : Keeps r s) : Keeps r (evalChoices s) := h.each fun h => h.evalChoice

theorem Keeps.soutDrive (h : Keeps r s) : Keeps r (soutDrive s n) := h.putAll

theorem Keeps.pulseBegin (h : Keeps r s) : Keeps r (pulseBegin s n) := h.update.setSout.put

theorem Keeps.pulseNext (h : Keeps r s) : Keeps r (pulseNext s l) := by
  induction l generalizing s with
  | nil => exact h.update
  | cons n l ih => exact .ite h.update.pulseBegin (ih h)

theorem Keeps.dropPulse (h : Keeps r s) : Keeps r (dropPulse s) := by
  unfold Machine.dropPulse
  split
  · exact .ite h h.pulseNext
  · exact h

theorem Keeps.soutDriveAll (h : Keeps r s) : Keeps r (soutDriveAll s) := (h.each fun h => h.soutDrive).dropPulse

theorem Keeps.holdFunc (h : Keeps r s) : Keeps r (holdFunc s f) := h.each fun h => .ite h.setSout h

theorem Keeps.latchGroup (h : Keeps r s) : Keeps r (latchGroup s c g) := .ite h h.putAll.enterSafeGroup

theorem Keeps.setMode (h : Keeps r s) : Keeps r (setMode s m) := h.putAll.postEvent.trace

theorem Keeps.enterSafeMode (h : Keeps r s) : Keeps r (enterSafeMode s c) :=
  .ite h <| .ite (.ite h.putAll.finish h) h.put.finish.setMode

theorem Keeps.latchDevice (h : Keeps r s) : Keeps r (latchDevice s c) :=
  .ite h.inc (h.putAll.each fun h => .ite h.setSout h).enterSafeMode

theorem Keeps.demand (h : Keeps r s) : Keeps r (demand s x) :=
  (((h.each fun h => h.latchGroup).when fun h => h.latchDevice).update.when fun h => h.postEvent.trace).evalChoices.soutDriveAll

theorem Keeps.demandEvt (h : Keeps r s) : Keeps r (demandEvt s c g d f) := h.update.demand

theorem Keeps.faultReport (h : Keeps r s) : Keeps r (faultReport s g c x) := .ite h.setSagGrp h.setSagGrp.putAll.demandEvt

theorem Keeps.unlatch (h : Keeps r s) : Keeps r (unlatch s g) := h.putAll.setSagGrp.releaseGroup

theorem Keeps.releaseJudged (h : Keeps r s) : Keeps r (releaseJudged s g d) :=
  (((h.each fun h => h.unlatch).update.when fun h => h.putAll).each fun h => h.setSout).update.putAll.evalChoices.soutDriveAll

theorem Keeps.releaseFirst (h : Keeps r s) : Keeps r (releaseFirst s g d) := (h.when fun h => h.put).update

theorem Keeps.releaseBroken (h : Keeps r s) : Keeps r (releaseBroken s) := h.put.update

theorem Keeps.releaseSecond (h : Keeps r s) : Keeps r (releaseSecond s g d) := by
  unfold Machine.releaseSecond
  split
  · exact .ite h.releaseJudged h.releaseBroken
  · exact h.releaseBroken

theorem Keeps.releaseExpiry (h : Keeps r s) : Keeps r (releaseExpiry s) := .ite h.releaseBroken h

theorem Keeps.speedWord (h : Keeps r s) : Keeps r (speedWord s g x o) := h.putAll.setSagGrp.evalChoice

theorem Keeps.speedLost (h : Keeps r s) : Keeps r (speedLost s g) := h.putFlag.evalChoice

theorem Keeps.dropStanding (h : Keeps r s) : Keeps r (dropStanding s) := h.update

theorem Keeps.safetyInput (h : Keeps r s) : Keeps r (safetyInput s i x) :=
  .ite h.putAll.dropStanding.evalChoices h.putAll.dropStanding.demand

theorem Keeps.discrepancy (h : Keeps r s) : Keeps r (discrepancy s p) := .ite h.put.update.demand h

theorem Keeps.discrepancyEnd (h : Keeps r s) : Keeps r (discrepancyEnd s p) := .ite h.update.evalChoices h

theorem Keeps.ov3Output (h : Keeps r s) : Keeps r (ov3Output s j o) :=
  .ite (Keeps.ite h h.update).put <| .ite (Keeps.ite h h.update).put.demand (Keeps.ite h h.update).put.evalChoices

theorem Keeps.soutRequest (h : Keeps r s) : Keeps r (soutRequest s x) := (h.put.each fun h => .ite h h.setSout).soutDriveAll

theorem Keeps.soutTest (h : Keeps r s) : Keeps r (soutTest s n) := by
  unfold Machine.soutTest
  refine .ite h ?_
  split
  · exact h.pulseBegin
  · exact h.update

theorem Keeps.pulseEnd (h : Keeps r s) : Keeps r (pulseEnd s p) := by
  unfold Machine.pulseEnd
  split
  · exact h
  · exact .ite h.pulseNext.inc h.pulseNext.putFlag.soutDriveAll.demandEvt

theorem Keeps.soutOverload (h : Keeps r s) : Keeps r (soutOverload s n) := .ite h.setSout.putFlag.soutDriveAll h

theorem Keeps.soutOpen (h : Keeps r s) : Keeps r (soutOpen s n) := .ite h.putFlag h

theorem Keeps.contactorDelay (h : Keeps r s) : Keeps r (contactorDelay s) := by
  unfold Machine.contactorDelay
  split
  · exact h
  · exact (h.each fun h => h.holdFunc).update.soutDriveAll

theorem Keeps.parkConfirmed (h : Keeps r s) : Keeps r (parkConfirmed s) := .ite (h.each fun h => h.holdFunc).update.soutDriveAll h

theorem Keeps.heartbeatLost (h : Keeps r s) : Keeps r (heartbeatLost s) := h.update.putFlag.demandEvt

theorem Keeps.heartbeat (h : Keeps r s) : Keeps r (heartbeat s v) := by
  unfold Machine.heartbeat
  refine .ite h ?_
  split
  · exact h.putFlag.update
  · exact .ite h.heartbeatLost h.putFlag.update

theorem Keeps.heartbeatTimeout (h : Keeps r s) : Keeps r (heartbeatTimeout s) := .ite h.heartbeatLost h

theorem Keeps.fjopFail (h : Keeps r s) : Keeps r (fjopFail s c w) := h.putAll.setFjop.demand

theorem Keeps.fjopError (h : Keeps r s) : Keeps r (fjopError s c c1) := .ite h.inc.setFjop.fjopFail h.inc.setFjop

theorem Keeps.fjopAccept (h : Keeps r s) : Keeps r (fjopAccept s c x p) := h.setBytes.putAll.setFjop.evalChoices

theorem Keeps.fjopArrive (h : Keeps r s) : Keeps r (fjopArrive s c f) :=
  .ite h <| .ite h.fjopError <| .ite h.fjopError <| .ite h.fjopAccept <| .ite h <| .ite h.fjopError h.addSat.fjopAccept

theorem Keeps.fjopTimeout (h : Keeps r s) : Keeps r (fjopTimeout s c) := .ite h.fjopFail h

theorem Keeps.fjopReset (h : Keeps r s) : Keeps r (fjopReset s c) := .ite h.putAll h

theorem Keeps.fjopSend (h : Keeps r s) : Keeps r (fjopSend s c).1 :=
  .ite_fst h.pair <| .ite_fst h.refuse.pair <|
    .ite_fst h.putAll.setFjop.postEvent.evalChoices.pair h.putAll.setFjop.evalChoices.pair

theorem Keeps.fjopSendTimeout (h : Keeps r s) : Keeps r (fjopSendTimeout s c) := .ite h.fjopFail h

theorem Keeps.setOrphan (h : Keeps r s) : Keeps r (setOrphan s l v) := .ite h.setRx.emit.putAll h.setRx.emit.putAll

theorem Keeps.sendOrphans (h : Keeps r s) : Keeps r (sendOrphans s g n) := h.each fun h => h.setOrphan

theorem Keeps.validateOrphans (h : Keeps r s) : Keeps r (validateOrphans s n) := .ite (h.each fun h => h.setOrphan.putFlag) h

theorem Keeps.sagTableWrite (h : Keeps r s) : Keeps r (sagTableWrite s g a d b).1 :=
  .ite_fst h.checkedWrite <|
    .ite_fst ((h.checkedWrite.each fun h => h.sendOrphans.validateOrphans).each fun h => h.setLeg.putFlag).evalChoices.pair
    h.checkedWrite.evalChoices.pair

theorem Keeps.newDemands (h : Keeps r t) : Keeps r (newDemands s t) := h.each fun h => h.demand

theorem Keeps.safAfter (h : Keeps r t) : Keeps r (safAfter s t a) := by
  unfold Machine.safAfter
  extract_lets
  exact .ite (h.when fun h => h.put).evalChoices <| .ite (.ite h.put.setFjop <| .ite h.putAll.setFjop.evalChoices h) h.evalChoices

/-- The definition is opened before it is applied: the kernel would evaluate `safChecks` to compare the two applications. -/
theorem Keeps.safRegWrite (h : Keeps r s) : Keeps r (safRegWrite s a d).1 := by
  obtain ⟨f, hf⟩ : ∃ f, f = Machine.safRegWrite := ⟨_, rfl⟩
  rw [← hf]
  delta Machine.safRegWrite at hf
  have e : f s a d = _ := congrFun (congrFun (congrFun hf s) a) d
  rw [e]
  cases safChecks s a d with
  | none => exact h.pair
  | some cs => exact .ite_fst h.checkedWrite.safAfter.newDemands.pair h.checkedWrite

theorem Keeps.safViolation (h : Keeps r s) : Keeps r (safViolation s w) := h.inc.put

theorem Keeps.safBy {act : State → State × Status} (h : Keeps r s) (hf : ∀ {s}, Keeps r s → Keeps r (act s).1) :
    Keeps r (safBy s x a act).1 := .ite_fst (hf h) h.safViolation.emit

/-! ### Sys2Proof/Machine/Measure.lean -/

theorem Keeps.setAdc (h : Keeps r s) : Keeps r (State.setAdc s n v) := h.update

theorem Keeps.setModu (h : Keeps r s) : Keeps r (State.setModu s k v) := h.update

theorem Keeps.writeSlot (h : Keeps r s) : Keeps r (writeSlot s e a x) := h.setWord.setWord

theorem Keeps.writeMirror (h : Keeps r s) : Keeps r (writeMirror s b x) := h.setWord.putAll

theorem Keeps.deliver (h : Keeps r s) : Keeps r (deliver s d e a b x) := (Keeps.ite h.writeSlot h).writeMirror

theorem Keeps.beginSequence (h : Keeps r s) : Keeps r (beginSequence s n) := h.setAdc.putAll

theorem Keeps.startOverrun (h : Keeps r s) : Keeps r (startOverrun s n) := h.inc.when fun h => h.irq

theorem Keeps.adcStart (h : Keeps r s) : Keeps r (adcStart s n) :=
  .ite h <| .ite h.startOverrun <| .ite h <| .ite (.ite h.startOverrun h.setAdc) h.beginSequence

theorem Keeps.adcTrigger (h : Keeps r s) : Keeps r (adcTrigger s n) := .ite h.adcStart h

theorem Keeps.adcUrgent (h : Keeps r s) : Keeps r (adcUrgent s n) :=
  .ite h <| .ite (.ite h.inc h.putFlag) <| .ite (.ite h.setAdc.inc.putFlag <| .ite h.inc h.putFlag) h.putFlag

theorem Keeps.adcUrgentEvt (h : Keeps r s) : Keeps r (adcUrgentEvt s n) := .ite h.adcUrgent h

theorem Keeps.setCmp (h : Keeps r s) : Keeps r (setCmp s n o) := h.putFlag.when fun h => h.inc.putFlag.when fun h => h.irq

theorem Keeps.evalCmp (h : Keeps r s) : Keeps r (evalCmp s n e c) := .ite h.setCmp.putFlag h

theorem Keeps.cmpWatch (h : Keeps r s) : Keeps r (cmpWatch s n) := .ite h.setCmp.putFlag h

theorem Keeps.cmpIdle (h : Keeps r s) : Keeps r (cmpIdle s n) := .ite h h.putFlag

theorem Keeps.checkRef (h : Keeps r s) : Keeps r (checkRef s n e i c) := .ite h (h.when fun h => h.irq).putFlag

theorem Keeps.convert (h : Keeps r s) : Keeps r (convert s n e u c x) := h.fresh.checkRef.deliver.evalCmp

theorem Keeps.sequenceDone (h : Keeps r s) : Keeps r (sequenceDone s n) := h.emit.when fun h => h.irq

theorem Keeps.adcIdle (h : Keeps r s) : Keeps r (adcIdle s n) := h.setAdc.putAll

theorem Keeps.afterUrgent (h : Keeps r s) : Keeps r (afterUrgent s n) := .ite h.putFlag <| .ite h.putFlag.beginSequence h.putFlag

theorem Keeps.afterEntry (h : Keeps r s) : Keeps r (afterEntry s n e) := by
  unfold Machine.afterEntry
  extract_lets _ s1 _ s2
  have k1 : Keeps r s1 := h.when fun h => h.putAll
  refine .ite k1.setAdc.put ?_
  have k2 : Keeps r s2 := k1.setAdc.putAll.sequenceDone
  exact .ite (.ite k2.setAdc k2.beginSequence) k2

theorem Keeps.afterCut (h : Keeps r s) : Keeps r (afterCut s n) :=
  .ite h.adcIdle <| .ite h.adcIdle.setAdc.putFlag <| .ite h.adcIdle.beginSequence h.adcIdle

theorem Keeps.conversionEnd (h : Keeps r s) : Keeps r (conversionEnd s n u) := by
  unfold Machine.conversionEnd
  extract_lets
  refine .ite (.ite h.convert.afterUrgent h.convert.afterCut) <| .ite ?_ h
  split
  · exact .ite h.convert.afterEntry (h.convert.when fun h => h.sequenceDone).afterCut
  · exact h.adcIdle

theorem Keeps.modulatorOutput (h : Keeps r s) : Keeps r (modulatorOutput s k x f) :=
  .ite h ((h.fresh.deliver.setModu.putFlag.when fun h => h.putFlag).emit.when fun h => h.irq)

theorem Keeps.modStuck (h : Keeps r s) : Keeps r (modStuck s k) :=
  .ite (.ite h.setModu (h.setModu.putFlag.inc.when fun h => h.irq)) h

theorem Keeps.settleMod (h : Keeps r s) : Keeps r (settleMod s k) := h.setModu.putFlag

theorem Keeps.settleMods (h : Keeps r s) : Keeps r (settleMods s) := h.each fun h => h.settleMod

theorem Keeps.mirrorRead (h : Keeps r s) : Keeps r (mirrorRead s x b) := by
  unfold Machine.mirrorRead
  split
  · exact h.putFlag.update.emit
  · exact h.emit

theorem Keeps.adcCtrl (h : Keeps r s) : Keeps r (adcCtrl s n d p).1 :=
  .ite_fst h.checkedWrite <| .ite_fst (Keeps.ite h.checkedWrite.cmpIdle.setAdc h.checkedWrite.cmpIdle.beginSequence).pair <|
    .ite_fst h.checkedWrite.cmpIdle.setAdc.putFlag.pair h.checkedWrite.cmpIdle.pair

theorem Keeps.adcSwreq (h : Keeps r s) : Keeps r (adcSwreq s n d) := (h.when fun h => h.adcUrgent).when fun h => h.adcStart

theorem Keeps.adcRegWrite (h : Keeps r s) : Keeps r (adcRegWrite s a d).1 :=
  .ite_fst h.writeLock <| .ite_fst h.writeFields <| .ite_fst h.checkedWrite.cmpIdle.pair <| .ite_fst h.checkedWrite <|
    .ite_fst h.checkedWrite <| .ite_fst h.checkedWrite h.writeFields

theorem Keeps.modRegWrite (h : Keeps r s) : Keeps r (modRegWrite s a d).1 :=
  .ite_fst h.writeLock <| .ite_fst (h.checkedWrite.when fun h => h.each fun h => h.settleMod).pair <|
    .ite_fst (h.checkedWrite.when fun h => h.settleMod).pair <| .ite_fst h.checkedWrite h.writeFields

/-! ### Sys2Proof/Machine/Engine.lean -/

theorem Keeps.setEng (h : Keeps r s) : Keeps r (State.setEng s e v) := h.update

theorem Keeps.setLib (h : Keeps r s) : Keeps r (State.setLib s e v) := h.update

theorem Keeps.leRefuse (h : Keeps r s) : Keeps r (State.leRefuse s e x) := h.refuse.put

theorem Keeps.leIrq (h : Keeps r s) : Keeps r (State.leIrq s e e1 c) := h.when fun h => h.irq

theorem Keeps.leWordWrite (h : Keeps r s) : Keeps r (leWordWrite s a w).1 :=
  .ite_fst (.ite_fst h.setWord.pair h.leRefuse.pair) <| .ite_fst (.ite_fst h.leRefuse.pair h.setWord.pair) h.setWord.pair

theorem Keeps.takeSwap (h : Keeps r s) : Keeps r (takeSwap s e) := .ite h.putAll.finish h

theorem Keeps.engineOff (h : Keeps r s) : Keeps r (engineOff s e) := (h.putAll.setEng.each fun h => .ite h.put h).takeSwap.finish

theorem Keeps.escalate (h : Keeps r s) : Keeps r (escalate s e) := .ite h h.putFlag.demand

theorem Keeps.engineFault (h : Keeps r s) : Keeps r (engineFault s e c) := h.putAll.leIrq.escalate

theorem Keeps.countOverrun (h : Keeps r s) : Keeps r (countOverrun s e k) := by
  unfold Machine.countOverrun
  extract_lets
  exact h.inc.putAll.trace.leIrq.when fun h => h.escalate

theorem Keeps.engineArm (h : Keeps r s) : Keeps r (engineArm s e).1 := .ite_fst h.leRefuse.pair h.putAll.pair

theorem Keeps.abandonCheck (h : Keeps r s) : Keeps r (abandonCheck s e) := .ite h.finish h

theorem Keeps.engineDisarm (h : Keeps r s) : Keeps r (engineDisarm s e) := by
  unfold Machine.engineDisarm
  split
  · exact h
  · exact h.setEng
  · exact h.abandonCheck.engineOff

theorem Keeps.engineStop (h : Keeps r s) : Keeps r (engineStop s e) := .ite h h.abandonCheck.engineOff

theorem Keeps.engineSwap (h : Keeps r s) : Keeps r (engineSwap s e) := .ite h.put h.putFlag

theorem Keeps.checkEnd (h : Keeps r s) : Keeps r (checkEnd s e) := by
  unfold Machine.checkEnd
  extract_lets _ _ _ s2
  refine .ite h ?_
  have k : Keeps r s2 := h.putAll.when fun h => h.putAll
  exact .ite k.leRefuse.finish.engineOff <| .ite k.leRefuse.finish.engineOff (k.each fun h => h.put).put.finish

theorem Keeps.beginRun (h : Keeps r s) : Keeps r (beginRun s e b f) := h.takeSwap.setEng.putAll

theorem Keeps.engineTrigger (h : Keeps r s) : Keeps r (engineTrigger s e e1 f) := by
  unfold Machine.engineTrigger
  extract_lets _ _ _ s1
  refine .ite h ?_
  have k : Keeps r s1 := h.when fun h => h.inc
  exact .ite k.beginRun <| .ite k.countOverrun.engineOff k.countOverrun.beginRun

theorem Keeps.budgetOverrun (h : Keeps r s) : Keeps r (budgetOverrun s e) := by
  unfold Machine.budgetOverrun
  extract_lets
  exact .ite (.ite h.countOverrun.put.engineOff h.countOverrun.put) h

theorem Keeps.markSat (h : Keeps r s) : Keeps r (markSat s e) := (h.when fun h => h.inc).setEng.putFlag

theorem Keeps.markLim (h : Keeps r s) : Keeps r (markLim s e) := h.setEng.putFlag

theorem Keeps.leM (h : Keeps r s) : Keeps r (leM s e d v) := (h.when fun h => h.markSat).setEng

theorem Keeps.leW (h : Keeps r s) : Keeps r (leW s e d v) := h.setEng

theorem Keeps.leA (h : Keeps r s) : Keeps r (leA s e n v) := (h.when fun h => h.markSat).setEng

theorem Keeps.leAddr (h : Keeps r s) : Keeps r (leAddr s e x w x1).1 := by
  unfold Machine.leAddr
  split
  · exact h.pair
  · exact h.setEng.pair

theorem Keeps.leSlotAddr (h : Keeps r s) : Keeps r (leSlotAddr s e x).1 := .ite_fst h.leAddr.putFlag.pair h.leAddr

theorem Keeps.leCoef (h : Keeps r s) : Keeps r (leCoef s e x).1 := h.leAddr.pair

theorem Keeps.tblIndex (h : Keeps r s) : Keeps r (tblIndex s e x x1).1 := by
  unfold Machine.tblIndex
  split
  · exact h.pair
  · exact h.leAddr

theorem Keeps.leStep {sem : State → Nat → LeOp → Option State} (h : Keeps r s) (hf : ∀ {s o}, Keeps r s → KeepsSome r (sem s e o)) :
    Keeps r (leStep s e x sem) := by
  unfold Machine.leStep
  split
  · exact h
  · dsimp only
    split
    · exact h
    · split
      · exact h
      · next t ht =>
        have ht : Keeps r t := hf h.setEng t ht
        split
        · exact h.engineFault
        · exact h.engineFault
        · exact (ht.when fun h => h.inc).setEng

theorem Keeps.leNop (h : Keeps r s) : KeepsSome r (leNop s x x1) := by
  unfold Machine.leNop
  split
  · exact .some h
  · exact .none

theorem Keeps.leLd (h : Keeps r s) : KeepsSome r (leLd s e x) := by
  unfold Machine.leLd
  split
  · exact .some h.leAddr.leM
  · exact .none

theorem Keeps.leLds (h : Keeps r s) : KeepsSome r (leLds s e x) := by
  unfold Machine.leLds
  split
  · exact .some h.leSlotAddr.setEng.leM
  · exact .none

theorem Keeps.leLdc (h : Keeps r s) : KeepsSome r (leLdc s e x) := by
  unfold Machine.leLdc
  split
  · exact .some h.leCoef.leM
  · exact .none

theorem Keeps.leLdt (h : Keeps r s) : KeepsSome r (leLdt s e x) := by
  unfold Machine.leLdt
  split
  · exact .ite (.some h.tblIndex.leM) (.some h.tblIndex.leM.markSat)
  · exact .none

theorem Keeps.leLdi (h : Keeps r s) : KeepsSome r (leLdi s e x) := by
  unfold Machine.leLdi
  split
  · exact .some h.leM
  · exact .none

theorem Keeps.leSt (h : Keeps r s) : KeepsSome r (leSt s e x) := by
  unfold Machine.leSt
  split
  · exact .some h.leAddr.setWord
  · exact .none

theorem Keeps.leSts (h : Keeps r s) : KeepsSome r (leSts s e x) := by
  unfold Machine.leSts
  split
  · exact .some h.leSlotAddr.setWord.setWord
  · exact .none

theorem Keeps.leMov (h : Keeps r s) : KeepsSome r (leMov s e x) := by
  unfold Machine.leMov
  split
  · exact .some h.leM
  · exact .none

theorem Keeps.leLda (h : Keeps r s) : KeepsSome r (leLda s e x) := by
  unfold Machine.leLda
  split
  · exact .some h.leM
  · exact .none

theorem Keeps.leLdp (h : Keeps r s) : KeepsSome r (leLdp s e x) := by
  unfold Machine.leLdp
  split
  · exact .some h.setEng
  · exact .none

theorem Keeps.leAddp (h : Keeps r s) : KeepsSome r (leAddp s e x) := by
  unfold Machine.leAddp
  split
  · exact .some h.setEng
  · exact .none

theorem Keeps.leAdd (h : Keeps r s) : KeepsSome r (leAdd s e x) := by
  unfold Machine.leAdd
  split
  · exact .some h.leM
  · exact .none

theorem Keeps.leSub (h : Keeps r s) : KeepsSome r (leSub s e x) := by
  unfold Machine.leSub
  split
  · exact .some h.leM
  · exact .none

theorem Keeps.leNeg (h : Keeps r s) : KeepsSome r (leNeg s e x) := by
  unfold Machine.leNeg
  split
  · exact .some h.leM
  · exact .none

theorem Keeps.leAbs (h : Keeps r s) : KeepsSome r (leAbs s e x) := by
  unfold Machine.leAbs
  split
  · exact .some h.leM
  · exact .none

theorem Keeps.leAddw (h : Keeps r s) : KeepsSome r (leAddw s e x) := by
  unfold Machine.leAddw
  split
  · exact .some h.leW
  · exact .none

theorem Keeps.leMul (h : Keeps r s) : KeepsSome r (leMul s e x) := by
  unfold Machine.leMul
  split
  · exact .some h.leM
  · exact .none

theorem Keeps.leMulc (h : Keeps r s) : KeepsSome r (leMulc s e x) := by
  unfold Machine.leMulc
  split
  · exact .some h.leCoef.leM
  · exact .none

theorem Keeps.leMulw (h : Keeps r s) : KeepsSome r (leMulw s e x) := by
  unfold Machine.leMulw
  split
  · exact .some h.leW
  · exact .none

theorem Keeps.leDiv (h : Keeps r s) : KeepsSome r (leDiv s e x) := by
  unfold Machine.leDiv
  split
  · exact .ite (.ite (.some h.leM) (.some h.leM.markSat)) (.some h.leM)
  · exact .none

theorem Keeps.leAsh (h : Keeps r s) : KeepsSome r (leAsh s e x) := by
  unfold Machine.leAsh
  split
  · exact .some h.leM
  · exact .none

theorem Keeps.leMin (h : Keeps r s) : KeepsSome r (leMin s e x) := by
  unfold Machine.leMin
  split
  · exact .some h.leM
  · exact .none

theorem Keeps.leMax (h : Keeps r s) : KeepsSome r (leMax s e x) := by
  unfold Machine.leMax
  split
  · exact .some h.leM
  · exact .none

theorem Keeps.leClamp (h : Keeps r s) : KeepsSome r (leClamp s e x) := by
  unfold Machine.leClamp
  split
  · exact .some (h.leM.when fun h => h.markLim)
  · exact .none

theorem Keeps.leVlim (h : Keeps r s) : KeepsSome r (leVlim s e x) := by
  unfold Machine.leVlim
  split
  · exact .ite (.some h.leM.leM.markLim) (.some h)
  · exact .none

theorem Keeps.leMacTo (h : Keeps r s) : Keeps r (leMacTo s e n p k) := h.leA

theorem Keeps.leMac (h : Keeps r s) : KeepsSome r (leMac s e x) := by
  unfold Machine.leMac
  split
  · exact .some h.leMacTo
  · exact .none

theorem Keeps.leMacc (h : Keeps r s) : KeepsSome r (leMacc s e x) := by
  unfold Machine.leMacc
  split
  · exact .some h.leCoef.leMacTo
  · exact .none

theorem Keeps.leMsu (h : Keeps r s) : KeepsSome r (leMsu s e x) := by
  unfold Machine.leMsu
  split
  · exact .some h.leMacTo
  · exact .none

theorem Keeps.leMsuc (h : Keeps r s) : KeepsSome r (leMsuc s e x) := by
  unfold Machine.leMsuc
  split
  · exact .some h.leCoef.leMacTo
  · exact .none

theorem Keeps.leClra (h : Keeps r s) : KeepsSome r (leClra s e x) := by
  unfold Machine.leClra
  split
  · exact .some h.leA
  · exact .none

theorem Keeps.leLdam (h : Keeps r s) : KeepsSome r (leLdam s e x) := by
  unfold Machine.leLdam
  split
  · exact .some h.leA
  · exact .none

theorem Keeps.leAdda (h : Keeps r s) : KeepsSome r (leAdda s e x) := by
  unfold Machine.leAdda
  split
  · exact .some h.leA
  · exact .none

theorem Keeps.leNorm (h : Keeps r s) : KeepsSome r (leNorm s e x) := by
  unfold Machine.leNorm
  split
  · exact .some h.setEng
  · exact .none

theorem Keeps.leStage (h : Keeps r s) : KeepsSome r (leStage s e x) := by
  unfold Machine.leStage
  split
  · exact .some ((h.when fun h => h.markSat).each fun h => h.leM).setEng
  · exact .none

theorem Keeps.leCmp (h : Keeps r s) : KeepsSome r (leCmp s e x) := by
  unfold Machine.leCmp
  split
  · exact .some h.setEng
  · exact .none

theorem Keeps.leSel (h : Keeps r s) : KeepsSome r (leSel s e x) := by
  unfold Machine.leSel
  split
  · exact .some h.leM
  · exact .none

theorem Keeps.leSkip (h : Keeps r s) : KeepsSome r (leSkip s e x) := by
  unfold Machine.leSkip
  split
  · exact .some (.ite h.setEng h)
  · exact .none

theorem Keeps.leLoop (h : Keeps r s) : KeepsSome r (leLoop s e x) := by
  unfold Machine.leLoop
  split
  · exact .some h.setEng
  · exact .none

theorem Keeps.runEnd (h : Keeps r s) : Keeps r (runEnd s e) := .ite h.inc.putAll.leIrq.engineOff h.inc.putAll.leIrq

theorem Keeps.leEnd (h : Keeps r s) : KeepsSome r (leEnd s e x) := by
  unfold Machine.leEnd
  split
  · exact .some h.runEnd
  · exact .none

theorem Keeps.evtRaise (h : Keeps r s) : Keeps r (evtRaise s e c) := h.putAll.leIrq

theorem Keeps.leEvt (h : Keeps r s) : KeepsSome r (leEvt s e x) := by
  unfold Machine.leEvt
  split
  · exact .some (.ite h.evtRaise h)
  · exact .none

theorem Keeps.leSincos (h : Keeps r s) : KeepsSome r (leSincos s e x) := by
  unfold Machine.leSincos
  split
  · exact .some h.fresh.fresh.leM.leM
  · exact .none

theorem Keeps.lePolar (h : Keeps r s) : KeepsSome r (lePolar s e x) := by
  unfold Machine.lePolar
  split
  · exact .some h.leM.leM
  · exact .none

theorem Keeps.leClarke (h : Keeps r s) : KeepsSome r (leClarke s e x) := by
  unfold Machine.leClarke
  split
  · exact .ite (.some h.leM.leM) (.some h.leM.leM)
  · exact .none

theorem Keeps.lePark (h : Keeps r s) : KeepsSome r (lePark s e x) := by
  unfold Machine.lePark
  split
  · exact .some h.leM.leM
  · exact .none

theorem Keeps.leIpark (h : Keeps r s) : KeepsSome r (leIpark s e x) := by
  unfold Machine.leIpark
  split
  · exact .some h.leM.leM
  · exact .none

theorem Keeps.leSvm (h : Keeps r s) : KeepsSome r (leSvm s e x) := by
  unfold Machine.leSvm
  split
  · exact .some (h.leM.leM.leM.when fun h => h.markLim)
  · exact .none

theorem Keeps.leTbl (h : Keeps r s) : KeepsSome r (leTbl s e x) := by
  unfold Machine.leTbl
  split
  · exact .ite (.some h.leM.markSat) (.some h.leM)
  · exact .none

theorem Keeps.leCommit (h : Keeps r s) : KeepsSome r (leCommit s e x) := by
  unfold Machine.leCommit
  split
  · exact .some h.setEng
  · exact .none

theorem Keeps.commitRefused (h : Keeps r s) : Keeps r (commitRefused s e g c) := h.inc.putAll.leIrq

theorem Keeps.commitArrival (h : Keeps r s) : Keeps r (commitArrival s e) := by
  unfold Machine.commitArrival
  extract_lets
  split
  · exact h
  · extract_lets
    refine .ite h.setEng.commitRefused ?_
    split
    · exact h.setEng.commitRefused
    · exact .ite h.setEng.commitRefused h.setEng.acceptSet

theorem Keeps.leRegWrite (h : Keeps r s) : Keeps r (leRegWrite s a d).1 := by
  unfold Machine.leRegWrite
  extract_lets
  exact .ite_fst (.ite_fst (.ite_fst h.checkedWrite h.checkedWrite.put.pair) <|
    .ite_fst (.ite_fst h.checkedWrite h.checkedWrite.put.pair) h.writeFields) <| .ite_fst h.writeLock h.writeFields

/-! ### Sys2Proof/Machine/Feedback.lean -/

theorem Keeps.setFb (h : Keeps r s) : Keeps r (State.setFb s n v) := h.update

theorem Keeps.setEmu (h : Keeps r s) : Keeps r (State.setEmu s m v) := h.update

theorem Keeps.fbIrq (h : Keeps r s) : Keeps r (fbIrq s n i) := h.when fun h => h.irq

theorem Keeps.emuCheck (h : Keeps r s) : Keeps r (emuCheck s m) := .ite h.setEmu.emit h

theorem Keeps.posLost (h : Keeps r s) : Keeps r (posLost s n) := h.putFlag.each fun h => h.emuCheck

theorem Keeps.fbDoubt (h : Keeps r s) : Keeps r (fbDoubt s n) := h.putFlag.posLost

theorem Keeps.setCnt (h : Keeps r s) : Keeps r (setCnt s n v) := h.setFb.put

theorem Keeps.accStep (h : Keeps r s) : Keeps r (accStep s n d) := h.put.when fun h => h.putFlag.fbIrq

theorem Keeps.runStep (h : Keeps r s) : Keeps r (runStep s n d x) := h.setFb.putAll.when fun h => h.putFlag.fbIrq

theorem Keeps.fbStep (h : Keeps r s) : Keeps r (fbStep s n d x) := .ite h h.setFb.setCnt.accStep.runStep

theorem Keeps.quadEdge (h : Keeps r s) : Keeps r (quadEdge s n a b) := by
  unfold Machine.quadEdge
  extract_lets
  refine .ite ?_ h.setFb
  split
  · exact h.setFb.putFlag.fbDoubt.inc.fbIrq
  · exact h.setFb.fbStep

theorem Keeps.hallError (h : Keeps r s) : Keeps r (hallError s n i) := h.putAll.fbDoubt.setFb.fbIrq

theorem Keeps.hallChange (h : Keeps r s) : Keeps r (hallChange s n x) := by
  unfold Machine.hallChange
  extract_lets _ _ _ _ s2
  have k : Keeps r s2 := h.setFb.when fun h => h.put
  refine .ite ?_ k
  split
  · exact k.hallError
  · split
    · exact .ite k.putFlag.fbStep <| .ite k.putFlag.fbStep <| .ite k.putFlag k.putFlag.hallError
    · exact k.putFlag.setFb

theorem Keeps.capture (h : Keeps r s) : Keeps r (capture s n k) := (h.when fun h => h.inc).putAll.fbIrq

theorem Keeps.loadCnt (h : Keeps r s) : Keeps r (loadCnt s n v) := h.setCnt.putFlag.when fun h => h.putFlag

theorem Keeps.fbArm (h : Keeps r s) : Keeps r (fbArm s n) := h.setFb.putFlag

theorem Keeps.indexPulse (h : Keeps r s) : Keeps r (indexPulse s n) := by
  unfold Machine.indexPulse
  extract_lets
  refine .ite ?_ h
  split
  · exact h.capture.putFlag.fbIrq.loadCnt
  · exact .ite h.capture.putFlag.fbIrq.loadCnt.putFlag h.capture.putFlag.fbIrq
  · exact h.capture.putFlag.fbIrq

theorem Keeps.eventLatch (h : Keeps r s) : Keeps r (eventLatch s n) := .ite h.capture h

theorem Keeps.pinLatch (h : Keeps r s) : Keeps r (pinLatch s n x) := .ite h.capture h

theorem Keeps.ssiStart (h : Keeps r s) : Keeps r (ssiStart s n d) := .ite (.ite h.inc <| .ite h.fresh.setFb.emit h) h

theorem Keeps.ssiBadFrame (h : Keeps r s) : Keeps r (ssiBadFrame s n) :=
  .ite (h.setFb.putFlag.inc.putFlag.posLost.when fun h => h.fbIrq) h.setFb.putFlag.inc

theorem Keeps.ssiGoodFrame (h : Keeps r s) : Keeps r (ssiGoodFrame s n b) := by
  unfold Machine.ssiGoodFrame
  dsimp only
  refine Keeps.putAll ?_
  refine Keeps.setCnt ?_
  split
  · exact h.setFb.fbStep
  · exact h.setFb

theorem Keeps.ssiEnd (h : Keeps r s) : Keeps r (ssiEnd s n b c) := .ite (.ite h.setFb.ssiGoodFrame h.setFb.ssiBadFrame) h

theorem Keeps.resolverRequest (h : Keeps r s) : Keeps r (resolverRequest s n) := .ite h.setFb.adcUrgent.adcUrgent h

theorem Keeps.loopUpdate (h : Keeps r s) : Keeps r (loopUpdate s n x c x1) := by
  unfold Machine.loopUpdate
  extract_lets _ _ _ _ _ _ _ _ s2 _ _ _ _ _ _ _ _ _ _ s4 s5 _ _ _ s9
  have k2 : Keeps r s2 := .ite h.fresh.fresh h.fresh
  have k4 : Keeps r s4 := k2.setFb.putAll
  have k5 : Keeps r s5 := .ite k4.putFlag k4.posLost
  have k9 : Keeps r s9 := (k5.setCnt.accStep.when fun h => h.fbIrq).putFlag
  exact .ite k9.putFlag <| .ite k9.putFlag k9

theorem Keeps.resolverUpdate (h : Keeps r s) : Keeps r (resolverUpdate s n) := by
  unfold Machine.resolverUpdate
  extract_lets
  split
  · exact h
  · exact .ite h <| .ite h.setFb.inc h.setFb.loopUpdate

theorem Keeps.excTick (h : Keeps r s) : Keeps r (excTick s) := .ite h (h.each fun h => h.fresh.emit)

theorem Keeps.standstill (h : Keeps r s) : Keeps r (standstill s n) := .ite h.setFb.putFlag h

theorem Keeps.fbSlot (h : Keeps r s) : Keeps r (fbSlot s n a) := .ite (.ite h.fresh.writeSlot.writeSlot h.fresh) h

theorem Keeps.fbLive (h : Keeps r s) : Keeps r (fbLive s n) := h.putAll

theorem Keeps.fbCntRead (h : Keeps r s) : Keeps r (fbCntRead s x n) := h.fbLive.update.emit

theorem Keeps.emulatorEdge (h : Keeps r s) : Keeps r (emulatorEdge s m) :=
  .ite (.ite h.emuCheck <| .ite h.setEmu.putFlag.emit <| .ite h.putAll h.putAll.setEmu.emit) h

theorem Keeps.fbClear (h : Keeps r s) : Keeps r (fbClear s n) := h.setFb.posLost.putAll.each fun h => h.putAll

theorem Keeps.fbBegin (h : Keeps r s) : Keeps r (fbBegin s n) := by
  unfold Machine.fbBegin
  extract_lets
  exact h.setFb.posLost.putAll.when fun h => h.put

theorem Keeps.fbCfg (h : Keeps r s) : Keeps r (fbCfg s n d).1 := by
  unfold Machine.fbCfg
  extract_lets _ _ _ _ _ _ _ s'
  have k : Keeps r s' := h.checkedWrite.when fun h => h.emit
  exact (Keeps.ite k.fbClear <| .ite k.fbBegin k).pair

theorem Keeps.fbRegWrite (h : Keeps r s) : Keeps r (fbRegWrite s a d).1 :=
  .ite_fst h.writeLock <| .ite_fst h.checkedWrite <| .ite_fst (h.checkedWrite.when fun h => h.setEmu).emuCheck.pair <|
    .ite_fst h.writeFields <| .ite_fst h.checkedWrite <| .ite_fst h.checkedWrite <| .ite_fst h.checkedWrite <|
    .ite_fst h.checkedWrite <| .ite_fst h.checkedWrite <| .ite_fst h.checkedWrite <| .ite_fst h.checkedWrite <|
    .ite_fst h.checkedWrite h.writeFields

/-! ### Sys2Proof/Machine/Traction.lean -/

theorem Keeps.setSlot (h : Keeps r s) : Keeps r (State.setSlot s m v) := h.update

theorem Keeps.setLink (h : Keeps r s) : Keeps r (State.setLink s j v) := h.update

theorem Keeps.trcWrite (h : Keeps r s) : Keeps r (trcWrite s m a w e v x) := .ite h.writeSlot h

theorem Keeps.writeFlags (h : Keeps r s) : Keeps r (writeFlags s m) := h.trcWrite

theorem Keeps.writeLimit (h : Keeps r s) : Keeps r (writeLimit s m g) := h.fresh.trcWrite

theorem Keeps.writeInputs (h : Keeps r s) : Keeps r (writeInputs s m) := h.writeLimit.writeLimit.writeFlags

theorem Keeps.trcDerate (h : Keeps r s) : Keeps r (trcDerate s m v) := .ite h h.put.writeLimit.writeLimit

theorem Keeps.torqueCommit (h : Keeps r s) : Keeps r (torqueCommit s m w) := (h.setWord.setSlot.when fun h => h.putFlag).trcWrite

theorem Keeps.speedCommit (h : Keeps r s) : Keeps r (speedCommit s m w) := (h.setWord.setSlot.when fun h => h.putFlag).trcWrite

theorem Keeps.limitCommit (h : Keeps r s) : Keeps r (limitCommit s m g w) := h.setWord.writeLimit

theorem Keeps.setpointTimeout (h : Keeps r s) : Keeps r (setpointTimeout s m) :=
  .ite h <| .ite h.putFlag.inc.trcWrite h.putFlag.inc.trcWrite

theorem Keeps.updateRegen (h : Keeps r s) : Keeps r (updateRegen s j) := h.each fun h => .ite h h.putFlag.writeFlags

theorem Keeps.commitChopper (h : Keeps r s) : Keeps r (commitChopper s j d) := h.fresh.put.putFlag.setLink.groupCommit

theorem Keeps.driveChopper (h : Keeps r s) : Keeps r (driveChopper s j) := .ite h (h.when fun h => h.setLink).commitChopper

theorem Keeps.linkDemand (h : Keeps r s) : Keeps r (linkDemand s j c) := h.inc.demand

theorem Keeps.chopperUnavailable (h : Keeps r s) : Keeps r (chopperUnavailable s j c) :=
  .ite (h.putAll.inc.when fun h => h.commitChopper).updateRegen.linkDemand (h.putAll.inc.when fun h => h.commitChopper).updateRegen

theorem Keeps.chopperWatch (h : Keeps r s) : Keeps r (chopperWatch s j) := .ite h.chopperUnavailable h

theorem Keeps.linkLevels (h : Keeps r s) : Keeps r (linkLevels s j c) := by
  unfold Machine.linkLevels
  extract_lets _ _ _ _ _ _ s2 s3
  have k2 : Keeps r s2 := h.putAll.when fun h => h.inc
  have k3 : Keeps r s3 := .ite k2.linkDemand <| .ite k2.evalChoices k2
  exact (Keeps.ite k3.linkDemand <| .ite k3.evalChoices k3).updateRegen

theorem Keeps.dcLinkResult (h : Keeps r s) : Keeps r (dcLinkResult s j) :=
  .ite h <| .ite h.putAll.linkLevels.chopperWatch.driveChopper h.putAll.linkLevels.chopperWatch

theorem Keeps.dcLinkStale (h : Keeps r s) : Keeps r (dcLinkStale s j) :=
  .ite h (h.putFlag.updateRegen.when fun h => h.commitChopper)

theorem Keeps.chopperCheck (h : Keeps r s) : Keeps r (chopperCheck s j) := .ite h.chopperUnavailable h

theorem Keeps.chopperClear (h : Keeps r s) : Keeps r (chopperClear s j).1 :=
  .ite_fst h.put.pair <| .ite_fst h.put.refuse.pair h.putAll.updateRegen.evalChoices.pair

theorem Keeps.stoppedAtSpeed (h : Keeps r s) : Keeps r (stoppedAtSpeed s m) := .ite h.putFlag.inc.demandEvt h

theorem Keeps.ascHoldStep (h : Keeps r s) : Keeps r (ascHoldStep s m) := .ite h.groupStop.putFlag.writeFlags h

theorem Keeps.slotSpeed (h : Keeps r s) : Keeps r (slotSpeed s m) := h.fresh.putAll.speedWord.stoppedAtSpeed.ascHoldStep

theorem Keeps.speedTimer (h : Keeps r s) : Keeps r (speedTimer s) := (h.each fun h => h.slotSpeed).each fun h => h.chopperWatch

theorem Keeps.beginZeroTorque (h : Keeps r s) : Keeps r (beginZeroTorque s) := h.each fun h => h.setSlot.putFlag.writeFlags

theorem Keeps.clearZeroTorque (h : Keeps r s) : Keeps r (clearZeroTorque s) := h.each fun h => h.putAll.writeFlags

theorem Keeps.zeroTorqueReached (h : Keeps r s) : Keeps r (zeroTorqueReached s m) :=
  .ite h.groupStop <| .ite h.putFlag.writeFlags h.putFlag.inc.demandEvt

theorem Keeps.tractionRead (h : Keeps r s) : Keeps r (tractionRead s m) := .ite (.ite h.setSlot.zeroTorqueReached h.setSlot) h

theorem Keeps.zeroTorqueTimeout (h : Keeps r s) : Keeps r (zeroTorqueTimeout s m) := .ite h.demandEvt h

theorem Keeps.ascTableWrite (h : Keeps r s) : Keeps r (ascTableWrite s g a d b).1 :=
  (h.sagTableWrite.when fun h => h.each fun h => h.writeFlags).pair

theorem Keeps.trcCfgWrite (h : Keeps r s) : Keeps r (trcCfgWrite s m d).1 := by
  unfold Machine.trcCfgWrite
  extract_lets
  exact .ite_fst h.refuse.pair <| .ite_fst (.ite_fst h.refuse.pair h.writeFields.setSlot.updateRegen.writeInputs.pair)
    (Keeps.ite h.writeFields.writeFlags h.writeFields).pair

theorem Keeps.linkEnabled (h : Keeps r s) : Keeps r (linkEnabled s j) :=
  .ite h.putAll.updateRegen.chopperWatch (h.when fun h => h.commitChopper).putAll.updateRegen.evalChoices

theorem Keeps.trcLinkWrite (h : Keeps r s) : Keeps r (trcLinkWrite s j o a d).1 :=
  .ite_fst h.refuse.pair <| .ite_fst h.refuse.pair (Keeps.ite h.writeFields.linkEnabled h.writeFields).pair

theorem Keeps.trcRegWrite (h : Keeps r s) : Keeps r (trcRegWrite s a d).1 := by
  unfold Machine.trcRegWrite
  extract_lets
  exact .ite_fst (.ite_fst h.trcCfgWrite <| .ite_fst h.checkedWrite h.writeFields) <|
    .ite_fst (.ite_fst (.ite_fst h.chopperClear h.pair) h.trcLinkWrite) <| .ite_fst h.checkedWrite <|
    .ite_fst h.writeLock h.writeFields

/-! ### Sys2Proof/Machine/Actuator.lean -/

theorem Keeps.setAct (h : Keeps r s) : Keeps r (State.setAct s m v) := h.update

theorem Keeps.rounded (h : Keeps r s) : Keeps r (State.rounded s n d).2 := h.fresh.pair_snd

theorem Keeps.actEnter (h : Keeps r s) : Keeps r (actEnter s m x) := .ite h.putAll h.putAll.putAll

theorem Keeps.actEvent (h : Keeps r s) : Keeps r (actEvent s m c a) := (h.when fun h => h.inc).setAct.when fun h => h.irq

theorem Keeps.actFloatAll (h : Keeps r s) : Keeps r (actFloatAll s m) := (h.each fun h => h.setLeg).setAct.groupCommit

theorem Keeps.actDrive (h : Keeps r s) : Keeps r (actDrive s m x d) :=
  ((h.rounded.each fun h => h.put.setLeg).setAct.put.when fun h => h.put).groupCommit.when fun h => h.putAll

theorem Keeps.actCommutate (h : Keeps r s) : Keeps r (actCommutate s m x d x1) := h.setAct.actDrive

theorem Keeps.actRunEnds (h : Keeps r s) : Keeps r (actRunEnds s m x) := .ite (h.setAct.finish.when fun h => h.actEvent) h

theorem Keeps.actIdle (h : Keeps r s) : Keeps r (actIdle s m) := h.actRunEnds.actFloatAll.actEnter.actEvent

theorem Keeps.actFault (h : Keeps r s) : Keeps r (actFault s m c) := h.actRunEnds.actFloatAll.actEnter.put.actEvent

theorem Keeps.actWatch (h : Keeps r t) : Keeps r (actWatch s t m) := .ite h <| .ite h.actFault <| .ite h.actFault h

theorem Keeps.actAttempt (h : Keeps r s) : Keeps r (actAttempt s m) :=
  (h.setAct.put.when fun h => h.actEvent).actEnter.put.actEvent.actCommutate

theorem Keeps.actFail (h : Keeps r s) : Keeps r (actFail s m w) := .ite h.inc.actEvent.actFloatAll.actEnter h.inc.actEvent.actFault

theorem Keeps.actForce (h : Keeps r s) : Keeps r (actForce s m) := h.rounded.rounded.setAct.put.actCommutate

theorem Keeps.alignEnd (h : Keeps r s) : Keeps r (alignEnd s m) := .ite h.setAct.actEnter.actEvent.actForce h

theorem Keeps.forcedStep (h : Keeps r s) : Keeps r (forcedStep s m) := .ite h.actForce h

theorem Keeps.rampTimeout (h : Keeps r s) : Keeps r (rampTimeout s m) := .ite h.actFail h

theorem Keeps.retryWaitEnd (h : Keeps r s) : Keeps r (retryWaitEnd s m) := .ite h.actAttempt h

theorem Keeps.actReport (h : Keeps r s) : Keeps r (actReport s m) := .ite h.rounded.put.put h.rounded.put

theorem Keeps.actClose (h : Keeps r s) : Keeps r (actClose s m i) := h.rounded.setAct.put.actEnter.actRunEnds.actReport

theorem Keeps.takeCrossing (h : Keeps r s) : Keeps r (takeCrossing s m z c) := h.put.setAct

theorem Keeps.scheduleCom (h : Keeps r s) : Keeps r (scheduleCom s m z x) := h.rounded.setAct

theorem Keeps.actLost (h : Keeps r s) : Keeps r (actLost s m) :=
  .ite h.setAct.actFloatAll.inc.actEvent.actFault <|
    .ite h.setAct.actFloatAll.inc.actEvent.actIdle h.setAct.actFloatAll.inc.actEvent.actEnter

theorem Keeps.rampCrossing (h : Keeps r s) : Keeps r (rampCrossing s m z) :=
  .ite (.ite h.setAct.takeCrossing.actEvent.actClose.scheduleCom h.setAct.takeCrossing) h.setAct.inc

theorem Keeps.rampReverse (h : Keeps r s) : Keeps r (rampReverse s m) := .ite h.setAct.actFail h.setAct

theorem Keeps.closedCrossing (h : Keeps r s) : Keeps r (closedCrossing s m z) :=
  .ite h.scheduleCom.takeCrossing.actReport h.inc.actLost

theorem Keeps.crossTime (h : Keeps r s) : Keeps r (crossTime s x x1 e e1).2 := by
  unfold Machine.crossTime
  extract_lets
  exact h.rounded.pair_snd

theorem Keeps.stepSample (h : Keeps r s) : Keeps r (stepSample s m x e) := by
  unfold Machine.stepSample
  extract_lets
  refine .ite (.ite h.actLost h) ?_
  split
  · exact .ite h.setAct.actLost h.setAct
  · exact .ite (.ite h.setAct.crossTime.rampCrossing h.setAct.crossTime.closedCrossing) <| .ite h.setAct.rampReverse <|
      .ite h.setAct.actLost h.setAct

theorem Keeps.actCatch (h : Keeps r s) : Keeps r (actCatch s m i u z x) := h.inc.actEvent.actClose.actCommutate.scheduleCom

theorem Keeps.lineCrossing (h : Keeps r s) : Keeps r (lineCrossing s m x c) := by
  unfold Machine.lineCrossing
  dsimp only
  refine .ite h ?_
  split
  · exact .ite h.setAct.actCatch h.setAct
  · exact h.setAct

theorem Keeps.lowSample (h : Keeps r s) : Keeps r (lowSample s m x a b c) := h.setAct

theorem Keeps.listenSample (h : Keeps r s) : Keeps r (listenSample s m t a b c x) := by
  unfold Machine.listenSample
  extract_lets y now top crossed
  have hc : Keeps r crossed.1 := by
    dsimp only [crossed]
    split
    · exact h.pair
    · exact Keeps.foldl_fst h.pair fun h => .ite_fst h.crossTime.pair h
  exact .ite (hc.foldl fun h => h.lineCrossing).setAct (hc.foldl fun h => h.lineCrossing)

theorem Keeps.actSample (h : Keeps r s) : Keeps r (actSample s m) :=
  .ite h <| .ite (.ite h.setAct.stepSample <| .ite h.setAct.lowSample.listenSample h.setAct.lowSample) <|
    .ite h.setAct.actFault h.setAct

theorem Keeps.commutation (h : Keeps r s) : Keeps r (commutation s m) := by
  unfold Machine.commutation
  extract_lets
  split
  · exact .ite h.actCommutate h
  · exact h

theorem Keeps.speedLoop (h : Keeps r s) : Keeps r (speedLoop s m) := h.rounded.rounded.rounded.setAct.actDrive

theorem Keeps.speedLoopTick (h : Keeps r s) : Keeps r (speedLoopTick s m) :=
  .ite h.setAct.speedLoop <| .ite (.ite h.setAct.actIdle h.setAct.speedLoop) h

theorem Keeps.listenTimeout (h : Keeps r s) : Keeps r (listenTimeout s m) := .ite h.actEnter.actEvent h

theorem Keeps.belowRestart (h : Keeps r s) : Keeps r (belowRestart s m) := .ite h.actEvent.setAct.actAttempt h

theorem Keeps.coastTimeout (h : Keeps r s) : Keeps r (coastTimeout s m) := .ite h.actFault h

theorem Keeps.actRefused (h : Keeps r s) : Keeps r (actRefused s x).1 := h.refuse.pair

theorem Keeps.actRun (h : Keeps r s) : Keeps r (actRun s m).1 :=
  .ite_fst h.actRefused <| .ite_fst h.actRefused h.setAct.actAttempt.pair

theorem Keeps.actStop (h : Keeps r s) : Keeps r (actStop s m).1 := .ite_fst h.actEnter.pair <| .ite_fst h.actIdle.pair h.pair

theorem Keeps.actFloat (h : Keeps r s) : Keeps r (actFloat s m).1 := .ite_fst h.actIdle.pair h.pair

theorem Keeps.actClr (h : Keeps r s) : Keeps r (actClr s m).1 :=
  .ite_fst h.put.pair <| .ite_fst h.put.actRefused h.putAll.actIdle.pair

theorem Keeps.actPop (h : Keeps r s) : Keeps r (actPop s m) := by
  unfold Machine.actPop
  extract_lets
  split
  · exact h.setAct.putAll
  · exact h.putAll

theorem Keeps.actCfgWrite (h : Keeps r s) : Keeps r (actCfgWrite s m d).1 :=
  .ite_fst h.actRefused <| .ite_fst (.ite_fst h.actRefused h.writeFields.setAct.put.actFloatAll.actEnter.actEvent.actWatch.pair)
    <| .ite_fst h.writeFields.actRunEnds.actFloatAll.actEnter.pair h.writeFields

theorem Keeps.actCmdWrite (h : Keeps r s) : Keeps r (actCmdWrite s m d).1 :=
  .ite_fst (Keeps.ite_fst h.actRun <| .ite_fst h.actStop <| .ite_fst h.actFloat h.pair).actClr.pair <| .ite_fst h.actRun <|
    .ite_fst h.actStop <| .ite_fst h.actFloat h.pair

theorem Keeps.actRegWrite (h : Keeps r s) : Keeps r (actRegWrite s a d).1 := by
  unfold Machine.actRegWrite
  extract_lets
  exact .ite_fst (.ite_fst h.actCfgWrite <| .ite_fst h.checkedWrite <| .ite_fst h.checkedWrite <| .ite_fst h.checkedWrite <|
    .ite_fst h.checkedWrite <| .ite_fst h.checkedWrite <| .ite_fst h.actCmdWrite h.checkedWrite) <|
    .ite_fst h.writeLock h.writeFields

/-! ### Sys2Proof/Machine/BlockRegs.lean -/

theorem Keeps.groupRun (h : Keeps r s) : Keeps r (groupRun s g d).1 := by
  unfold Machine.groupRun
  split
  · exact h.groupStart.recorded
  · exact h.groupStop.pair
  · exact h.pair

theorem Keeps.groupCtrl (h : Keeps r s) : Keeps r (groupCtrl s g a d).1 := h.checkedWrite

theorem Keeps.groupSync (h : Keeps r s) : Keeps r (groupSync s g a d).1 := h.checkedWrite

theorem Keeps.showDtInit (h : Keeps r s) : Keeps r (showDtInit s n) := h.when fun h => h.putAll

theorem Keeps.legRegWrite (h : Keeps r s) : Keeps r (legRegWrite s n k a d).1 := by
  unfold Machine.legRegWrite
  extract_lets
  split
  · exact h.legGroup
  · exact h.checkedWrite.showDtInit.pair
  · exact h.checkedWrite
  · exact h.legForce
  · exact h.writeFields

theorem Keeps.groupCut (h : Keeps r s) : Keeps r (groupCut s l a d).1 := h.checkedWrite

theorem Keeps.pwmRegWrite (h : Keeps r s) : Keeps r (pwmRegWrite s a d).1 := by
  change KeepsFst r _
  unfold Machine.pwmRegWrite
  refine .ite ?_ (.ite (.ite h.legRegWrite h.refuse.pair) <| .ite (h.writeFields.when fun h => h.showPin).pair <|
    .ite h.checkedWrite <| .ite h.writeLock h.writeFields)
  split
  · exact h.groupCtrl
  · exact h.checkedWrite
  · exact h.groupRun
  · exact .ite_fst h.groupCommit.recorded h.pair
  · exact .ite_fst h.tripClear.recorded h.pair
  · exact h.writeFields.maskWritten.pair
  · exact h.writeFields.maskWritten.pair
  · exact h.groupCut
  · exact h.groupCut
  · exact h.groupSync
  · exact h.writeFields.putFlag.pair

theorem Keeps.gsRegWrite (h : Keeps r s) : Keeps r (gsRegWrite s a d).1 := by
  unfold Machine.gsRegWrite
  extract_lets
  refine .ite_fst ?_ (.ite_fst h.writeLock h.writeFields)
  refine .ite_fst h.refuse.pair ?_
  split
  · exact h.gsCfg
  · exact .ite_fst h.satClear h.pair
  · exact h.writeFields

theorem Keeps.ldRegWrite (h : Keeps r s) : Keeps r (ldRegWrite s a d).1 := by
  unfold Machine.ldRegWrite
  extract_lets
  refine .ite_fst ?_ (.ite_fst h.writeLock h.writeFields)
  refine .ite_fst h.refuse.pair ?_
  split
  · exact h.ldCfg
  · exact .ite_fst h.satClear h.pair
  · exact h.writeFields

/-! ### Sys2Proof/Machine/Journal.lean -/

theorem Keeps.storeWrite (h : Keeps r s) : Keeps r (storeWrite s a l) := .ite h.update h.setBytes

theorem Keeps.storeResume (h : Keeps r s) : Keeps r (storeResume s) := .ite h (h.each fun h => h.setBytes).update

theorem Keeps.showDeferred (h : Keeps r s) : Keeps r (showDeferred s) := h.putFlag

theorem Keeps.recSet (h : Keeps r s) : Keeps r (recSet s i o n v) := h.setBytes.setByte

theorem Keeps.setJnl (h : Keeps r s) : Keeps r (setJnl s j) := h.update.put

theorem Keeps.showHead (h : Keeps r s) : Keeps r (showHead s i e) := h.putAll

theorem Keeps.newRecord (h : Keeps r s) : Keeps r (newRecord s x o x1 a).1 := h.setBytes.showHead.setJnl.pair

theorem Keeps.closeRecord (h : Keeps r s) : Keeps r (closeRecord s i x d) :=
  (Keeps.ite (.ite h h.recSet) (Keeps.ite h h.recSet).recSet).setJnl

theorem Keeps.coalesce (h : Keeps r s) : Keeps r (coalesce s i x a) := (Keeps.ite h h.recSet.recSet).recSet.recSet.inc

theorem Keeps.openStream (h : Keeps r s) : Keeps r (openStream s x o a i) := h.update

theorem Keeps.journalScan (h : Keeps r s) : Keeps r (journalScan s) := .ite h.setJnl.putAll.putAll h.setJnl.putAll.showHead

theorem Keeps.windowSelect (h : Keeps r s) : Keeps r (windowSelect s i) := h.putAll.each fun h => h.put

/-! ### Sys2Proof/Machine/Host.lean -/

theorem Keeps.setHq (h : Keeps r s) : Keeps r (State.setHq s x q) := h.update.putAll

theorem Keeps.mapCmd (h : Keeps r s) : Keeps r (mapCmd s c f) := h.setHq

theorem Keeps.result (h : Keeps r s) : Keeps r (result s c x x1) := .ite h h.mapCmd.update

theorem Keeps.postResult (h : Keeps r s) : Keeps r (postResult s x) := by
  unfold Machine.postResult
  split
  · exact h
  · exact .ite h.closeRecord.setHq h.closeRecord.setHq.postCompletion

theorem Keeps.commandCompletion (h : Keeps r s) : Keeps r (commandCompletion s) := by
  unfold Machine.commandCompletion
  split
  · exact h
  · exact .ite h h.update.postResult

theorem Keeps.completeNow (h : Keeps r s) : Keeps r (completeNow s c x) := h.mapCmd.postResult

theorem Keeps.commit (h : Keeps r s) : Keeps r (commit s x) := by
  unfold Machine.commit
  dsimp only
  split
  · exact h
  · refine .ite ?_ ?_
    · refine Keeps.putFlag ?_
      refine Keeps.setHq ?_
      split
      · exact h.coalesce
      · exact .ite h.newRecord.openStream h.newRecord
    · refine Keeps.result ?_
      refine Keeps.putFlag ?_
      refine Keeps.setHq ?_
      split
      · exact h.coalesce
      · exact .ite h.newRecord.openStream h.newRecord

theorem Keeps.descriptorFetch (h : Keeps r s) : Keeps r (descriptorFetch s x d) :=
  .ite h <| .ite h.put.inc.postCompletion <| .ite h.put.put.setHq.inc <| .ite h.put.put.setHq.commit h.put.put.setHq

theorem Keeps.acceptanceCommitted (h : Keeps r s) : Keeps r (acceptanceCommitted s x) := .ite h h.commit

theorem Keeps.commandStart (h : Keeps r s) : Keeps r (commandStart s x) := by
  unfold Machine.commandStart
  extract_lets
  split
  · exact .ite h.mapCmd h
  · exact h

theorem Keeps.notBefore (h : Keeps r s) : Keeps r (notBefore s x) := h.setHq

theorem Keeps.notAfter (h : Keeps r s) : Keeps r (notAfter s x) := h.foldl fun h => .ite (.ite h.mapCmd.inc.result h.mapCmd.inc) h

theorem Keeps.runOp {f : State → List Byte → State × OpEnd} (h : Keeps r s) (hf : ∀ {s a}, Keeps r s → Keeps r (f s a).1) :
    Keeps r (runOp s k n o f) := by
  unfold Machine.runOp
  split
  · exact h
  · dsimp only
    split
    · exact (hf h.mapCmd).result
    · exact (hf h.mapCmd).await
    · exact hf h.mapCmd

theorem Keeps.atOnce {x : State × Status} (h : Keeps r x.1) : Keeps r (atOnce x).1 := h

theorem Keeps.orAwait {x : State × Status} (h : Keeps r x.1) : Keeps r (orAwait x w).1 := .ite_fst h h

theorem Keeps.doorbell {f : State → State} (h : Keeps r s) (hf : ∀ {s}, Keeps r s → Keeps r (f s)) : Keeps r (doorbell s n v f) :=
  .ite h <| .ite h.refuse (hf h)

theorem Keeps.sqTail (h : Keeps r s) : Keeps r (sqTail s x v) := h.doorbell fun h => h.setHq

theorem Keeps.headDoorbell (h : Keeps r s) : Keeps r (headDoorbell s k v) := h.doorbell fun h => h.setHring.pump

theorem Keeps.irqGapExpiry (h : Keeps r s) : Keeps r (irqGapExpiry s k) := .ite h.announce h

theorem Keeps.dmaError (h : Keeps r s) : Keeps r (dmaError s k x) := (Keeps.ite h.putFlag h.putFlag).postEvent

theorem Keeps.pumpAll (h : Keeps r s) : Keeps r (pumpAll s) := h.each fun h => h.pump

theorem Keeps.setBusMaster (h : Keeps r s) : Keeps r (setBusMaster s o) := .ite h.update.pumpAll h.update

theorem Keeps.linkUp (h : Keeps r s) : Keeps r (linkUp s x w) := h.putAll.pumpAll

theorem Keeps.linkDown (h : Keeps r s) : Keeps r (linkDown s) := h.putAll.update

theorem Keeps.dropFetched (h : Keeps r s) : Keeps r (dropFetched s x) := by
  unfold Machine.dropFetched
  extract_lets
  split
  · exact h
  · exact h.setHq.put

theorem Keeps.ringReset (h : Keeps r s) : Keeps r (ringReset s x) := (h.dropFetched.setHq.foldl fun h => h.result).setHring.putAll

theorem Keeps.perstAssert (h : Keeps r s) : Keeps r (perstAssert s) := by
  unfold Machine.perstAssert
  extract_lets s₁ s₂
  have h₂ : Keeps r s₂ := (h.each fun h => h.ringReset).each fun h => h.setHring
  clear_value s₂
  exact h₂.filterRegs.update.putAll.update.linkDown

theorem Keeps.perstRelease (h : Keeps r s) : Keeps r (perstRelease s) := h.update

theorem Keeps.ringCtrl (h : Keeps r s) : Keeps r (ringCtrl s x a d).1 :=
  .ite_fst h.ringReset.pair <| .ite_fst h.checkedWrite.put.pair h.checkedWrite

theorem Keeps.hostRegWrite (h : Keeps r s) : Keeps r (hostRegWrite s a d).1 := by
  unfold Machine.hostRegWrite
  extract_lets
  refine .ite_fst h.pair <| .ite_fst h.writeLock ?_
  refine .ite_fst ?_ (.ite_fst (.ite_fst h.checkedWrite.setHring.pump.pair h.checkedWrite) <| .ite_fst h.writeFields <|
    .ite_fst h.checkedWrite h.writeFields)
  split
  · exact h.ringCtrl
  · exact h.checkedWrite
  · exact h.writeFields
  · exact h.writeFields
  · exact h.writeFields
  · exact h.writeFields
  · exact h.checkedWrite

theorem Keeps.telemCfg (h : Keeps r s) : Keeps r (telemCfg s a).1 := h.update.putAll.pair

/-! ### Sys2Proof/Machine/Fabric.lean -/

theorem Keeps.setFabPair (h : Keeps r s) : Keeps r (State.setFabPair s k v) := h.update

theorem Keeps.setFabQ (h : Keeps r s) : Keeps r (State.setFabQ s c v) := h.update

theorem Keeps.fabIrq (h : Keeps r s) : Keeps r (fabIrq s b i) := h.when fun h => h.irq

theorem Keeps.sendCtl (h : Keeps r s) : Keeps r (sendCtl s p x v) := .ite h.emit h

theorem Keeps.sendCtlBoth (h : Keeps r s) : Keeps r (sendCtlBoth s k x v) := h.sendCtl.sendCtl

theorem Keeps.showLinks (h : Keeps r s) : Keeps r (showLinks s k) := h.putAll

theorem Keeps.reportPorts (h : Keeps r s) : Keeps r (reportPorts s k x e w) := h.setFabPair.showLinks

theorem Keeps.showBypass (h : Keeps r s) : Keeps r (showBypass s k) := h.putAll

theorem Keeps.announceOwn (h : Keeps r s) : Keeps r (announceOwn s k) := h.setFabPair.sendCtlBoth

theorem Keeps.holdAddress (h : Keeps r s) : Keeps r (holdAddress s k x x1 p) := h.setFabPair.putAll.showBypass

theorem Keeps.sendDisc (h : Keeps r s) : Keeps r (sendDisc s k x n w a) := h.sendCtl

theorem Keeps.walkEast (h : Keeps r s) : Keeps r (walkEast s k) := .ite h.setFabPair.sendDisc h

theorem Keeps.portSignal (h : Keeps r s) : Keeps r (portSignal s p) := .ite h.putFlag h

theorem Keeps.portUp (h : Keeps r s) : Keeps r (portUp s p c d n f e e1 m) :=
  .ite h <| .ite h.putFlag
    (Keeps.ite h.putAll.update.fabIrq.showLinks.showBypass.announceOwn h.putAll.update.fabIrq.showLinks.showBypass).walkEast

theorem Keeps.trainingTimeout (h : Keeps r s) : Keeps r (trainingTimeout s p) := .ite h.putFlag.showLinks h

theorem Keeps.dropAsm (h : Keeps r s) : Keeps r (dropAsm s p) := h.update

theorem Keeps.portDown (h : Keeps r s) : Keeps r (portDown s p v c) :=
  .ite h (h.addSat.putAll.dropAsm.inc.when fun h => h.emit).fabIrq.showLinks

theorem Keeps.fabClose (h : Keeps r s) : Keeps r (fabClose s) := (h.each fun h => h.putAll.dropAsm).update

theorem Keeps.sendFrame (h : Keeps r s) : Keeps r (sendFrame s p x d) := .ite (h.each fun h => h.emit) h

theorem Keeps.sendBoth (h : Keeps r s) : Keeps r (sendBoth s k x d) := h.sendFrame.sendFrame

theorem Keeps.ownHeader (h : Keeps r s) : Keeps r (ownHeader s k c x d b l).2 := h.setFabPair.pair_snd

theorem Keeps.admitFrame (h : Keeps r s) : Keeps r (admitFrame s k x d) :=
  .ite h.setFabPair.ownHeader.sendBoth h.setFabPair.sendBoth

theorem Keeps.class0 (h : Keeps r s) : Keeps r (class0 s k x d) := .ite h.admitFrame <| .ite h.setFabPair.inc h

theorem Keeps.admissionRelease (h : Keeps r s) : Keeps r (admissionRelease s k) := by
  unfold Machine.admissionRelease
  extract_lets
  split
  · exact h
  · exact .ite h.setFabPair.admitFrame h

theorem Keeps.windowAccept (h : Keeps r s) : Keeps r (windowAccept s x q).1 := .ite_fst h.update.pair h.update.inc.pair

theorem Keeps.gatewayRoute (h : Keeps r s) : Keeps r (gatewayRoute s k x d) := .ite h.inc <| .ite h.class0 h.sendBoth

theorem Keeps.takeFrame (h : Keeps r s) : Keeps r (takeFrame s p x d c) :=
  .ite h <| .ite h.inc <| .ite h.windowAccept <| .ite (Keeps.ite h.windowAccept.update h.windowAccept).gatewayRoute <|
    .ite h.windowAccept.update h.windowAccept

theorem Keeps.fragmentReceived (h : Keeps r s) : Keeps r (fragmentReceived s p l b) := by
  unfold Machine.fragmentReceived
  extract_lets _ _ _ _ _ s1
  refine .ite h <| .ite h.update <| .ite h.inc.update <| .ite h <| .ite (h.when fun h => h.inc) <| .ite h.inc ?_
  have k : Keeps r s1 := h.when fun h => h.emit
  exact .ite k <| .ite k.update <| .ite k.update.takeFrame k.update

theorem Keeps.takeRx (h : Keeps r s) (e : takeRx s x = some y) : Keeps r y.2 := by
  unfold Machine.takeRx at e
  split at e
  · cases e
  · cases e
    exact h.update

theorem Keeps.dataFrame (h : Keeps r s) : Keeps r (dataFrame s) := by
  unfold Machine.dataFrame
  split
  · exact h
  · next e =>
    have ht := h.takeRx e
    exact .ite ht.inc ht.setBytes.put.setFabQ.fabIrq

theorem Keeps.rxqAck (h : Keeps r s) : Keeps r (rxqAck s c v) := h.setFabQ

theorem Keeps.fjopFabric (h : Keeps r s) : Keeps r (fjopFabric s) := by
  unfold Machine.fjopFabric
  split
  · exact h
  · next e =>
    have ht := h.takeRx e
    split
    · exact ht.fjopArrive
    · exact ht.inc

theorem Keeps.fabTime (h : Keeps r s) : Keeps r (fabTime s p e x) := by
  unfold Machine.fabTime
  extract_lets _ _ _ _ _ _ _ _ _ _ _ _ _ _ s5
  refine .ite h <| .ite h.setFabPair ?_
  have k : Keeps r s5 := h.setFabPair.rounded.rounded.putAll.when fun h => h.putFlag.fabIrq
  split
  · exact k.setFabPair
  · exact .ite k.setFabPair k.rounded.put.setFabPair

theorem Keeps.ringTimeTimeout (h : Keeps r s) : Keeps r (ringTimeTimeout s k) := h.setFabPair.when fun h => h.putFlag.fabIrq

theorem Keeps.timeTimer (h : Keeps r s) : Keeps r (timeTimer s) := h.each fun h => .ite h <| .ite h.sendCtl <| .ite h.sendCtl h

theorem Keeps.statusTimer (h : Keeps r s) : Keeps r (statusTimer s) := h.each fun h => .ite h.sendCtlBoth h

theorem Keeps.statusFrame (h : Keeps r s) : Keeps r (statusFrame s p x e w) := .ite h.reportPorts h

theorem Keeps.discover (h : Keeps r s) : Keeps r (discover s k) :=
  .ite h <| .ite (Keeps.ite h.holdAddress.announceOwn h).setFabPair.putAll.walkEast (Keeps.ite h.holdAddress.announceOwn h).put

theorem Keeps.discStation (h : Keeps r s) : Keeps r (discStation s k x n w a) :=
  (Keeps.ite h h.setFabPair.put).put.sendDisc.announceOwn

theorem Keeps.anchorWithdraw (h : Keeps r s) : Keeps r (anchorWithdraw s k) := (Keeps.ite h h.setFabPair.putFlag).putAll.fabIrq

theorem Keeps.discFrame (h : Keeps r s) : Keeps r (discFrame s p x n w a) :=
  .ite h <| .ite (.ite h.setFabPair.showLinks <| .ite h.anchorWithdraw.discStation h) h.discStation

theorem Keeps.discoveryTimeout (h : Keeps r s) : Keeps r (discoveryTimeout s k) := .ite h.setFabPair.sendDisc h

theorem Keeps.rosterTimer (h : Keeps r s) : Keeps r (rosterTimer s k) :=
  .ite h h.setFabPair.holdAddress.putAll.showLinks.showBypass.sendCtlBoth

theorem Keeps.rosterFrame (h : Keeps r s) : Keeps r (rosterFrame s p x m p1) := by
  unfold Machine.rosterFrame
  extract_lets
  refine .ite h ?_
  split
  · exact .ite h.putAll.holdAddress.showBypass h.putAll
  · split
    · exact h.putAll.holdAddress.announceOwn
    · exact h.putAll

theorem Keeps.announceFrame (h : Keeps r s) : Keeps r (announceFrame s p x i x1 e w) := by
  unfold Machine.announceFrame
  extract_lets _ _ _ _ _ _ s4
  refine .ite h ?_
  have k : Keeps r s4 := (h.update.setFabPair.when fun h => h.putAll).reportPorts.showBypass
  exact .ite k.setFabPair.putAll.fabIrq k

theorem Keeps.fabDiscovery (h : Keeps r s) : Keeps r (fabDiscovery s) := (h.each fun h => h.discover).update

theorem Keeps.fabReannounce (h : Keeps r s) : Keeps r (fabReannounce s) := h.each fun h => .ite h.announceOwn h

theorem Keeps.itemDone (h : Keeps r s) : Keeps r (itemDone s c i x) := by
  unfold Machine.itemDone
  split
  · exact (h.setBytes.setByte.when fun h => h.put).fabIrq
  · exact h.result

theorem Keeps.startItems (h : Keeps r s) : Keeps r (startItems s c l) := by
  induction l generalizing s with
  | nil => exact h.setFabQ
  | cons x l ih =>
    unfold Machine.startItems
    dsimp only
    split
    · exact h.ownHeader.setFabQ.sendBoth
    · exact ih h.itemDone

theorem Keeps.queueRun (h : Keeps r s) : Keeps r (queueRun s c) := .ite h h.startItems

theorem Keeps.txqTail (h : Keeps r s) : Keeps r (txqTail s c v).1 :=
  .ite_fst h.pair <| .ite_fst h.refuse.pair h.put.setFabQ.queueRun.pair

theorem Keeps.fabSend (h : Keeps r s) : Keeps r (fabSend s x c d d1) := h.setFabQ.queueRun

theorem Keeps.txComplete (h : Keeps r s) : Keeps r (txComplete s c w) := by
  unfold Machine.txComplete
  split
  · exact h
  · exact h.setFabQ.put.itemDone.queueRun

theorem Keeps.fabCancel (h : Keeps r s) : Keeps r (fabCancel s x) := by
  refine h.each fun h => ?_
  dsimp only
  split
  · exact .ite (h.setFabQ.each fun h => h.when fun h => h.emit).queueRun h.setFabQ
  · exact h.setFabQ

theorem Keeps.fabWarm (h : Keeps r s) : Keeps r (fabWarm s) := h.each fun h => h.addSat.setFabQ.putAll

theorem Keeps.fabWake (h : Keeps r s) : Keeps r (fabWake s) := h.each fun h => h.when fun h => h.emit

theorem Keeps.pairOff (h : Keeps r s) : Keeps r (pairOff s) := h.each fun h => .ite h h.putAll.dropAsm

theorem Keeps.fabRegWrite (h : Keeps r s) : Keeps r (fabRegWrite s a d).1 := by
  unfold Machine.fabRegWrite
  extract_lets
  exact .ite_fst h.checkedWrite.pairOff.pair <| .ite_fst h.checkedWrite <| .ite_fst (h.when fun h => h.put).pair <|
    .ite_fst h.writeLock <| .ite_fst (.ite_fst h.pair h.checkedWrite) <|
    .ite_fst (.ite_fst h.checkedWrite <| .ite_fst h.checkedWrite <| .ite_fst h.checkedWrite <|
    .ite_fst h.checkedWrite h.writeFields) h.writeFields

/-! ### Sys2Proof/Machine/CanFd.lean -/

theorem Keeps.setCan (h : Keeps r s) : Keeps r (State.setCan s n v) := h.update

theorem Keeps.canRefuse (h : Keeps r s) : Keeps r (canRefuse s n x) := h.refuse.put

theorem Keeps.canIrq (h : Keeps r s) : Keeps r (canIrq s n b) := by
  unfold Machine.canIrq
  dsimp only
  refine Keeps.when ?_ fun h => h.irq
  split
  · exact h.put
  · exact h.put
  · exact h.put
  · exact h.put
  · exact h.put
  · exact h.put
  · exact h.put

theorem Keeps.setCounters (h : Keeps r s) : Keeps r (setCounters s n x x1) := h.setCan.putAll.when fun h => h.canIrq

theorem Keeps.showReq (h : Keeps r s) : Keeps r (showReq s n) := h.putAll

theorem Keeps.busFree (h : Keeps r s) : Keeps r (busFree s n) := by
  unfold Machine.busFree
  extract_lets
  refine .ite h.setCan <| .ite h ?_
  split
  · exact h
  · exact h.setCan.put.emit
  · exact h.setCan.emit

theorem Keeps.frameEnd (h : Keeps r s) : Keeps r (frameEnd s n f) := .ite h.setCan.put <| .ite h.busFree h

theorem Keeps.entryDone (h : Keeps r s) : Keeps r (entryDone s n e x) := by
  unfold Machine.entryDone
  extract_lets
  split
  · exact h.setCan.putAll.showReq.canIrq.result.finish
  · exact h.setCan.putAll.showReq.canIrq

theorem Keeps.entryWaits (h : Keeps r s) : Keeps r (entryWaits s n e) := h.put

theorem Keeps.request (h : Keeps r s) : Keeps r (request s n e f l o x).1 := by
  unfold Machine.request
  split
  · exact h.setCan.putAll.showReq.pair
  · exact h.canRefuse.put.pair

theorem Keeps.txRequest (h : Keeps r s) : Keeps r (txRequest s n x b i) :=
  .ite (h.each fun h => .ite h.canRefuse h.request).busFree (h.each fun h => .ite h.canRefuse h.request)

theorem Keeps.abortEntry (h : Keeps r s) : Keeps r (abortEntry s n e) := by
  unfold Machine.abortEntry
  split
  · exact h.entryDone.put
  · exact h.setCan
  · exact h.put

theorem Keeps.txAbort (h : Keeps r s) : Keeps r (txAbort s n x b) := h.each fun h => h.abortEntry

theorem Keeps.attemptFailed (h : Keeps r s) : Keeps r (attemptFailed s n e a) := by
  unfold Machine.attemptFailed
  extract_lets _ s1
  have k : Keeps r s1 := h.when fun h => h.inc
  exact .ite k.entryDone.put <| .ite k.entryDone <| .ite k.entryDone k.entryWaits

theorem Keeps.attemptEnd (h : Keeps r s) : Keeps r (attemptEnd s n x) := by
  unfold Machine.attemptEnd
  dsimp only
  split
  · exact h
  · refine .ite ?_ ?_
    · split
      · refine Keeps.attemptFailed ?_
        split
        · exact h.setCan
        · exact h.setCan.put.setCounters
      · refine .ite ?_ ?_
        · split
          · exact h.setCan
          · exact h.setCan.put.setCounters
        · refine Keeps.setCan ?_
          split
          · exact h.setCan
          · exact h.setCan.put.setCounters
    · refine Keeps.frameEnd ?_
      split
      · refine Keeps.attemptFailed ?_
        split
        · exact h.setCan
        · exact h.setCan.put.setCounters
      · refine .ite ?_ ?_
        · split
          · exact h.setCan
          · exact h.setCan.put.setCounters
        · refine Keeps.setCan ?_
          split
          · exact h.setCan
          · exact h.setCan.put.setCounters

theorem Keeps.txEnd (h : Keeps r s) : Keeps r (txEnd s n) := by
  unfold Machine.txEnd
  dsimp only
  split
  · exact h
  · refine Keeps.frameEnd ?_
    split
    · exact h.setCan.put.setCounters.entryDone.when fun h => h.put
    · exact h.setCan.put.setCounters

theorem Keeps.canSend (h : Keeps r s) : Keeps r (canSend s x n f l).1 := by
  unfold Machine.canSend
  split
  · exact h.pair
  · exact h.request

theorem Keeps.safetyBuffer (h : Keeps r s) : Keeps r (safetyBuffer s c i) := by
  unfold Machine.safetyBuffer
  extract_lets
  split
  · exact h
  · exact .ite h <| .ite h.setFjop.setCan.busFree h.setFjop.setCan

theorem Keeps.rxStore (h : Keeps r s) : Keeps r (rxStore s n q f i n1) := .ite h.setCan.inc.canIrq h.setCan.setBytes.put.canIrq

theorem Keeps.applyFilter (h : Keeps r s) : Keeps r (applyFilter s n f l) := by
  unfold Machine.applyFilter
  dsimp only
  split
  · exact .ite h <| .ite h.inc h.rxStore
  · exact .ite h h.fresh.rxStore

theorem Keeps.walkEnd (h : Keeps r s) : Keeps r (walkEnd s n) := by
  unfold Machine.walkEnd
  extract_lets
  split
  · exact h
  · exact h.setCan.applyFilter

theorem Keeps.recGood (h : Keeps r s) : Keeps r (recGood s n).2 := .ite_snd h.pair_snd h.fresh.pair_snd

theorem Keeps.frameReceived (h : Keeps r s) : Keeps r (frameReceived s n f) := by
  unfold Machine.frameReceived
  dsimp only
  refine .ite h ?_
  refine Keeps.frameEnd ?_
  split
  · exact h.recGood.put.setCounters.fjopArrive
  · exact .ite h.recGood.put.setCounters <| .ite h.recGood.put.setCounters.inc.canIrq h.recGood.put.setCounters.setCan

theorem Keeps.receiveError (h : Keeps r s) : Keeps r (receiveError s n e x) := .ite h h.put.setCounters.frameEnd

theorem Keeps.protocolException (h : Keeps r s) : Keeps r (protocolException s n) := .ite h.inc.put.canIrq h

theorem Keeps.filterCommit (h : Keeps r s) : Keeps r (filterCommit s n).1 := .ite_fst h.canRefuse.pair h.setCan.pair

theorem Keeps.canAck (h : Keeps r s) : Keeps r (canAck s n q v) := h.setCan

theorem Keeps.canMode (h : Keeps r s) : Keeps r (canMode s n d b).1 := by
  unfold Machine.canMode
  extract_lets _ _ _ _ _ _ _ s1
  refine .ite_fst h.canRefuse.pair ?_
  have k : Keeps r s1 := .ite h.writeFields h.writeFields.put
  exact .ite_fst (.ite_fst k.setCan.pair k.put.pair) k.pair

theorem Keeps.integrated (h : Keeps r s) : Keeps r (integrated s n) := .ite h h.put.busFree

theorem Keeps.busOff (h : Keeps r s) : Keeps r (busOff s n) := .ite h h.putAll.inc.canIrq.canIrq

theorem Keeps.canRecover (h : Keeps r s) : Keeps r (canRecover s n) := .ite h.put h

theorem Keeps.recovered (h : Keeps r s) : Keeps r (recovered s n) := .ite h h.putAll.setCounters.canIrq.busFree

theorem Keeps.canChecked (h : Keeps r s) : Keeps r (canChecked s n c a d).1 := by
  unfold Machine.canChecked
  split
  · exact (Keeps.ite h.writeFields h.writeFields.put).pair
  · exact h.canRefuse.pair

theorem Keeps.canRegWrite (h : Keeps r s) : Keeps r (canRegWrite s a d).1 := by
  unfold Machine.canRegWrite
  extract_lets
  exact .ite_fst h.writeLock <| .ite_fst h.canChecked <| .ite_fst h.canChecked <| .ite_fst h.canChecked <|
    .ite_fst h.canChecked <|
    .ite_fst (.ite_fst (.ite_fst h.canChecked.setCan.pair h.canChecked) <| .ite_fst h.canChecked h.canChecked) h.canChecked

/-! ### Sys2Proof/Machine/Converter.lean -/

theorem Keeps.setCnv (h : Keeps r s) : Keeps r (State.setCnv s m v) := h.update

theorem Keeps.cnvWrite (h : Keeps r s) : Keeps r (cnvWrite s m a w e) := .ite h.writeSlot h

theorem Keeps.writeRef (h : Keeps r s) : Keeps r (writeRef s m) := h.put.cnvWrite

theorem Keeps.writeIlim (h : Keeps r s) : Keeps r (writeIlim s m) := h.rounded.fresh.cnvWrite

theorem Keeps.cnvFloats (h : Keeps r s) : Keeps r (cnvFloats s m) := h.each fun h => h.setLeg

theorem Keeps.writeCnvFlags (h : Keeps r s) : Keeps r (writeCnvFlags s m) := h.setCnv.writeSlot

theorem Keeps.cnvSync (h : Keeps r s) : Keeps r (cnvSync s m) := .ite h.put.cnvFloats h.put.cnvFloats.writeCnvFlags

theorem Keeps.cnvEnter (h : Keeps r s) : Keeps r (cnvEnter s m x) :=
  (Keeps.ite (.ite h.put h.put.putAll) (Keeps.ite h.put h.put.putAll).putAll).cnvSync

theorem Keeps.cnvStartEnds (h : Keeps r s) : Keeps r (cnvStartEnds s m x) := .ite h.setCnv.finish h

theorem Keeps.cnvFault (h : Keeps r s) : Keeps r (cnvFault s m c) := h.cnvStartEnds.put.cnvEnter

theorem Keeps.cnvTarget (h : Keeps r s) : Keeps r (cnvTarget s m) := h.fresh.setCnv

theorem Keeps.noteLed (h : Keeps r s) : Keeps r (noteLed s m) := h.setCnv

theorem Keeps.softStart (h : Keeps r s) : Keeps r (softStart s m) := h.cnvTarget.setCnv.putAll.noteLed.writeRef.cnvEnter

theorem Keeps.cnvFail (h : Keeps r s) : Keeps r (cnvFail s m w) := .ite h.put.cnvFault h.put.inc.cnvEnter

theorem Keeps.rampStep (h : Keeps r s) : Keeps r (rampStep s m) := .ite h h.rounded.setCnv.writeRef.noteLed.cnvSync

theorem Keeps.startCheck (h : Keeps r s) : Keeps r (startCheck s m) := .ite h <| .ite h.cnvStartEnds.cnvEnter h.cnvFail

theorem Keeps.loadStep (h : Keeps r s) : Keeps r (loadStep s m) := .ite h.putAll.inc.cnvSync h

theorem Keeps.evalOutput (h : Keeps r s) : Keeps r (evalOutput s m) :=
  .ite h <| .ite (h.putFlag.when fun h => h.inc).noteLed.cnvSync.loadStep (h.putFlag.when fun h => h.inc).noteLed.cnvSync

theorem Keeps.outputResult (h : Keeps r s) : Keeps r (outputResult s m) :=
  .ite h <| .ite h.setCnv.putAll.evalOutput <| .ite h <| .ite h.setCnv.cnvFault h.setCnv

theorem Keeps.limitEvaluation (h : Keeps r s) : Keeps r (limitEvaluation s m) :=
  .ite h <| .ite h.setCnv.put.cnvFail <| .ite h.setCnv.put.cnvFail h.setCnv.put

theorem Keeps.hiccupEnd (h : Keeps r s) : Keeps r (hiccupEnd s m) := .ite h.put.softStart h

theorem Keeps.tryReset (h : Keeps r s) : Keeps r (tryReset s m) := .ite h.put h

theorem Keeps.releaseHeld (h : Keeps r s) : Keeps r (releaseHeld s m) := .ite h.cnvFault h

theorem Keeps.phaseShed (h : Keeps r s) : Keeps r (phaseShed s m) := .ite h.putAll.inc.cnvSync h

theorem Keeps.rectifier (h : Keeps r s) : Keeps r (rectifier s m) := .ite (.ite h.putFlag <| .ite h.putFlag h) h

theorem Keeps.converterRead (h : Keeps r s) : Keeps r (converterRead s m) :=
  .ite h <| .ite h.setCnv.rounded.fresh.put.rectifier.cnvSync.loadStep h.setCnv.rounded.fresh.put.rectifier.cnvSync

theorem Keeps.cnvWatch (h : Keeps r t) : Keeps r (cnvWatch s t m) := .ite h <| .ite h.cnvFault <| .ite h.cnvFault h

theorem Keeps.cnvRefused (h : Keeps r s) : Keeps r (cnvRefused s x).1 := h.refuse.pair

theorem Keeps.cnvStart (h : Keeps r s) : Keeps r (cnvStart s m).1 :=
  .ite_fst h.cnvRefused <| .ite_fst h.cnvRefused h.setCnv.put.softStart.pair

theorem Keeps.cnvStop (h : Keeps r s) : Keeps r (cnvStop s m).1 := .ite_fst h.cnvStartEnds.cnvEnter.pair h.pair

theorem Keeps.cnvClr (h : Keeps r s) : Keeps r (cnvClr s m).1 :=
  .ite_fst h.cnvRefused <| .ite_fst h.put.cnvRefused h.putAll.cnvEnter.pair

theorem Keeps.autoDue (h : Keeps r s) : Keeps r (autoDue s) := .ite h (h.each fun h => h.setCnv)

theorem Keeps.autoStart (h : Keeps r s) : Keeps r (autoStart s m) := by
  unfold Machine.autoStart
  split
  · exact h
  · exact .ite h.setCnv <| .ite h.setCnv.cnvStart h

theorem Keeps.cnvRegroup (h : Keeps r s) : Keeps r (cnvRegroup s n) := h.setLeg.each fun h => h.cnvSync

theorem Keeps.cnvCfgWrite (h : Keeps r s) : Keeps r (cnvCfgWrite s m d).1 :=
  .ite_fst h.cnvRefused <|
    .ite_fst (.ite_fst h.cnvRefused
    h.writeFields.setCnv.put.cnvEnter.cnvTarget.setCnv.writeRef.writeIlim.writeCnvFlags.cnvWatch.pair) <|
    .ite_fst h.writeFields.cnvStartEnds.cnvEnter.pair h.writeFields

theorem Keeps.newTarget (h : Keeps r s) : Keeps r (newTarget s m) := (Keeps.ite h.cnvTarget h.cnvTarget.setCnv).writeRef

theorem Keeps.cnvCmdWrite (h : Keeps r s) : Keeps r (cnvCmdWrite s m d).1 :=
  .ite_fst (Keeps.ite_fst h.cnvStart <| .ite_fst h.cnvStop h.pair).cnvClr.pair <| .ite_fst h.cnvStart <| .ite_fst h.cnvStop h.pair

theorem Keeps.shedOff (h : Keeps r s) : Keeps r (shedOff s m) := .ite h.putAll.cnvSync h

theorem Keeps.cnvRegWrite (h : Keeps r s) : Keeps r (cnvRegWrite s a d).1 := by
  unfold Machine.cnvRegWrite
  extract_lets _ _ _ _ checked
  refine .ite_fst ?_ (.ite_fst h.writeLock h.writeFields)
  have k {b f} (hf : ∀ {s}, Keeps r s → Keeps r (f s)) : Keeps r (checked b f).1 :=
    .ite_fst (hf h.checkedWrite).pair h.checkedWrite
  exact .ite_fst h.cnvCfgWrite <| .ite_fst (k fun h => .ite h h.newTarget) <| .ite_fst (k id) <| .ite_fst (k id) <|
    .ite_fst (k fun h => h.writeIlim) <| .ite_fst (k id) <| .ite_fst (.ite_fst h.checkedWrite.shedOff.pair h.checkedWrite) <|
      .ite_fst (k id) <| .ite_fst (k id) <|
    .ite_fst h.cnvCmdWrite (k id)

/-! ### Sys2Proof/Machine/Charger.lean -/

theorem Keeps.setChg (h : Keeps r s) : Keeps r (State.setChg s v) := h.update

theorem Keeps.completeModeAs (h : Keeps r s) : Keeps r (completeModeAs s m x) := (Keeps.ite h.clearZeroTorque h).setMode.finish

theorem Keeps.completeMode (h : Keeps r s) : Keeps r (completeMode s m) := h.completeModeAs

theorem Keeps.abandonMode (h : Keeps r s) : Keeps r (abandonMode s x) := h.putAll.finish

theorem Keeps.rampCurrent (h : Keeps r s) : Keeps r (rampCurrent s g) := h.setChg

theorem Keeps.rampOut (h : Keeps r s) : Keeps r (rampOut s) := h.setChg

theorem Keeps.rampBus (h : Keeps r s) : Keeps r (rampBus s v g) := h.setChg

theorem Keeps.slotWhole (h : Keeps r s) : Keeps r (slotWhole s e a k).2 := h.rounded

theorem Keeps.writeQty (h : Keeps r s) : Keeps r (writeQty s e a n d) := h.rounded.fresh.writeSlot

theorem Keeps.writeChgFlags (h : Keeps r s) : Keeps r (writeChgFlags s e a v) := h.writeSlot

theorem Keeps.putSlots (h : Keeps r s) : Keeps r (putSlots s) :=
  .ite h.writeQty.writeQty.writeChgFlags.writeQty.writeQty.writeQty.writeQty.writeChgFlags
    h.writeQty.writeQty.writeChgFlags.writeQty.writeQty.writeQty.writeQty.writeChgFlags.writeChgFlags.writeQty

theorem Keeps.chgSlots (h : Keeps r s) : Keeps r (chgSlots s) := .ite h.putSlots h

theorem Keeps.floatGroup (h : Keeps r s) : Keeps r (floatGroup s g b) := h.each fun h => h.setLeg

theorem Keeps.chgFloats (h : Keeps r s) : Keeps r (chgFloats s) := by
  unfold Machine.chgFloats
  dsimp only
  refine .ite ?_ ?_
  · refine Keeps.floatGroup ?_
    refine .ite ?_ h.floatGroup
    split
    · exact h.floatGroup.setLeg
    · exact h.floatGroup
  · refine Keeps.floatGroup ?_
    refine Keeps.floatGroup ?_
    refine .ite ?_ h.floatGroup
    split
    · exact h.floatGroup.setLeg
    · exact h.floatGroup

theorem Keeps.applyChgFloats (h : Keeps r s) : Keeps r (applyChgFloats s) := h.each fun h => .ite h.applyFloats h

theorem Keeps.updateRed (h : Keeps r s) : Keeps r (updateRed s) := (Keeps.ite h h.setChg).putAll.setChg.put

theorem Keeps.chgSync (h : Keeps r s) : Keeps r (chgSync s) := h.updateRed.chgFloats.chgSlots

theorem Keeps.chgEnter (h : Keeps r s) : Keeps r (chgEnter s x) := h.put.chgSync

theorem Keeps.closeSession (h : Keeps r s) : Keeps r (closeSession s c) := h.putAll.when fun h => h.inc

theorem Keeps.markChange (h : Keeps r s) : Keeps r (markChange s a) := by
  unfold Machine.markChange
  refine .ite ?_ h
  split
  · exact h.putAll
  · exact h.putAll

theorem Keeps.handOver (h : Keeps r s) : Keeps r (handOver s a) :=
  .ite h.setChg.markChange.chgSync h.setChg.setChg.rampOut.markChange.chgEnter

theorem Keeps.chgIdle (h : Keeps r s) : Keeps r (chgIdle s) := h.setChg.putAll.chgEnter

theorem Keeps.toStandby (h : Keeps r s) : Keeps r (toStandby s x) := .ite h.completeModeAs <| .ite h.abandonMode h

theorem Keeps.chgStandby (h : Keeps r s) : Keeps r (chgStandby s c) := h.closeSession.chgIdle.toStandby

theorem Keeps.beginRamp (h : Keeps r s) : Keeps r (beginRamp s x l) := h.slotWhole.setChg.put.rampBus.chgEnter

theorem Keeps.chgReact (h : Keeps r s) : Keeps r (chgReact s) :=
  .ite (.ite h.handOver <| .ite h.handOver <| .ite h.handOver h) <|
    .ite (.ite h.handOver <| .ite h.handOver <| .ite h.beginRamp h) <| .ite (.ite h.closeSession <| .ite h.chgStandby h) <|
    .ite (.ite h.handOver <| .ite h.handOver h) <| .ite h.handOver h

theorem Keeps.handoverComplete (h : Keeps r s) : Keeps r (handoverComplete s) := by
  unfold Machine.handoverComplete
  extract_lets
  refine .ite h ?_
  split
  · exact h.setChg.chgEnter.applyChgFloats.chgReact
  · exact h.setChg.chgEnter.applyChgFloats.chgReact
  · exact h.setChg.closeSession.chgEnter.applyChgFloats
  · exact h.setChg.chgIdle.applyChgFloats.abandonMode
  · exact h.setChg.closeSession.chgIdle.applyChgFloats.toStandby

theorem Keeps.pilotCurrent (h : Keeps r s) : Keeps r (pilotCurrent s d).2 := by
  unfold Machine.pilotCurrent
  extract_lets
  exact .ite_snd h.pair_snd <| .ite_snd h.pair_snd <| .ite_snd h.rounded.pair_snd <| .ite_snd h.rounded.pair_snd <|
    .ite_snd h.pair_snd h.pair_snd

theorem Keeps.takeDuty (h : Keeps r s) : Keeps r (takeDuty s) := by
  unfold Machine.takeDuty
  extract_lets
  exact .ite h.pilotCurrent.putAll h

theorem Keeps.pilotEdge (h : Keeps r s) : Keeps r (pilotEdge s x) :=
  .ite h <| .ite (.ite h.putFlag.setChg h.putFlag.setChg.rounded.put) h.putFlag.setChg

theorem Keeps.pilotTick (h : Keeps r s) : Keeps r (pilotTick s) := .ite h <| .ite h.setChg.adcUrgent <| .ite h.setChg.adcUrgent h

theorem Keeps.pilotSteady (h : Keeps r s) : Keeps r (pilotSteady s) := .ite h h.setChg.putFlag.adcUrgent

theorem Keeps.pilotResult (h : Keeps r s) : Keeps r (pilotResult s) :=
  .ite h <| .ite h.rounded.setChg.put <| .ite h.rounded.put <|
    .ite h.rounded.put.setChg.put.takeDuty.chgReact.chgSync h.rounded.put.setChg

theorem Keeps.proximityResult (h : Keeps r s) : Keeps r (proximityResult s) := by
  unfold Machine.proximityResult
  dsimp only
  refine .ite h ?_
  split
  · exact h.setChg.put.chgSync
  · exact h.setChg

theorem Keeps.plugDebounce (h : Keeps r s) : Keeps r (plugDebounce s p) :=
  .ite h (Keeps.ite h.putFlag h.putFlag.setChg).chgReact.chgSync

theorem Keeps.mainsLoss (h : Keeps r s) : Keeps r (mainsLoss s) := .ite h <| .ite h.inc.setChg.handOver h

theorem Keeps.mainsReport (h : Keeps r s) : Keeps r (mainsReport s) :=
  .ite h <| .ite h.slotWhole.slotWhole.fresh.putAll.mainsLoss h.slotWhole.slotWhole.fresh.putAll

theorem Keeps.zeroCrossTimeout (h : Keeps r s) : Keeps r (zeroCrossTimeout s) := .ite h.mainsLoss h

theorem Keeps.mainsQualified (h : Keeps r s) : Keeps r (mainsQualified s) := .ite (.ite h.beginRamp h.chgIdle.abandonMode) h

theorem Keeps.qualifyTimeout (h : Keeps r s) : Keeps r (qualifyTimeout s) := .ite h.chgIdle.abandonMode h

theorem Keeps.openSession (h : Keeps r s) : Keeps r (openSession s) := h.setChg.inc.putAll

theorem Keeps.beginPulse (h : Keeps r s) : Keeps r (beginPulse s) := h.setChg.rampCurrent.chgEnter

theorem Keeps.busReady (h : Keeps r s) : Keeps r (busReady s) := by
  unfold Machine.busReady
  extract_lets _ _ _ s2 s3
  refine .ite ?_ h
  have k2 : Keeps r s2 := (Keeps.ite h.openSession h).setChg
  have k3 : Keeps r s3 := .ite k2.beginPulse k2.chgEnter
  exact (Keeps.ite k3.completeMode k3).chgReact

theorem Keeps.chargePulseEnd (h : Keeps r s) : Keeps r (chargePulseEnd s) := .ite h.setChg.rampCurrent.chgEnter h

theorem Keeps.restEnd (h : Keeps r s) : Keeps r (restEnd s o e) := .ite h.rounded.fresh.putAll.beginPulse h

theorem Keeps.impedanceEnd (h : Keeps r s) : Keeps r (impedanceEnd s m m1) := by
  unfold Machine.impedanceEnd
  split
  · exact h
  · exact .ite h.setChg.put.putFlag.inc h.setChg.put.rounded.fresh.putAll

theorem Keeps.dabRead (h : Keeps r s) : Keeps r (dabRead s) := by
  unfold Machine.dabRead
  extract_lets
  exact .ite h.slotWhole.slotWhole.fresh.putAll.setChg.chgSync.handOver h.slotWhole.slotWhole.fresh.putAll.setChg.chgSync

theorem Keeps.chargerRead (h : Keeps r s) : Keeps r (chargerRead s u) := by
  unfold Machine.chargerRead
  extract_lets
  exact .ite h <| .ite h.chgSync <| .ite h.dabRead h.setChg.chgSlots

theorem Keeps.boostLimit (h : Keeps r s) : Keeps r (boostLimit s) := .ite h <| .ite h.setChg.setChg.chgStandby h.setChg

theorem Keeps.chargeTermination (h : Keeps r s) : Keeps r (chargeTermination s) := .ite h.handOver h

theorem Keeps.safetyTimer (h : Keeps r s) : Keeps r (safetyTimer s) :=
  .ite h <| .ite h.chgSync.fresh.setChg.put.handOver h.chgSync.fresh.setChg.put

theorem Keeps.sessionResume (h : Keeps r s) : Keeps r (sessionResume s) :=
  .ite (.ite (Keeps.ite h.closeSession h).inc.beginRamp <| .ite (Keeps.ite h.closeSession h).beginRamp <| .ite h.closeSession h) h

theorem Keeps.waitTimeout (h : Keeps r s) : Keeps r (waitTimeout s) := .ite (Keeps.ite h.closeSession h).chgIdle.toStandby h

theorem Keeps.chgBegin (h : Keeps r s) : Keeps r (chgBegin s).1 := by
  unfold Machine.chgBegin
  extract_lets
  exact .ite_fst h.pair h.setChg.put.chgEnter.pair

theorem Keeps.exportBegin (h : Keeps r s) : Keeps r (exportBegin s b).1 := by
  unfold Machine.exportBegin
  extract_lets
  exact .ite_fst h.pair <| .ite_fst (.ite_fst h.pair h.slotWhole.setChg.put.chgEnter.pair) <|
    .ite_fst h.pair h.slotWhole.rampBus.put.chgEnter.pair

theorem Keeps.chgStop (h : Keeps r s) : Keeps r (chgStop s) := by
  unfold Machine.chgStop
  extract_lets
  refine .ite ?_ (.ite h.chgStandby h.handOver)
  split
  · exact h
  · exact h.setChg

theorem Keeps.chgCancel (h : Keeps r s) : Keeps r (chgCancel s) :=
  .ite h.chgIdle <| .ite h.setChg <| .ite h.rampBus.chgEnter <| .ite h.setChg h

theorem Keeps.chgSafeStop (h : Keeps r s) : Keeps r (chgSafeStop s) := .ite h h.chgStandby

theorem Keeps.chgWatch (h : Keeps r s) : Keeps r (chgWatch s) := .ite h.update.chgSafeStop h.update

theorem Keeps.exportReady (h : Keeps r s) : Keeps r (exportReady s) := .ite h.putFlag.chgSync.completeMode h

theorem Keeps.boostReady (h : Keeps r s) : Keeps r (boostReady s) := .ite h.completeMode.chgSync h

theorem Keeps.exportWrite (h : Keeps r s) : Keeps r (exportWrite s d).1 := by
  unfold Machine.exportWrite
  extract_lets
  exact (Keeps.ite h.putAll.rampBus h.putAll).chgSync.pair

theorem Keeps.exportTimeout (h : Keeps r s) : Keeps r (exportTimeout s) := .ite h.handOver h

theorem Keeps.chgDerate (h : Keeps r s) : Keeps r (chgDerate s) := .ite h <| .ite h.rampCurrent.chgSync h.chgSync

theorem Keeps.chgCfgWrite (h : Keeps r s) : Keeps r (chgCfgWrite s d).1 := by
  unfold Machine.chgCfgWrite
  extract_lets
  exact .ite_fst h.refuse.pair <| .ite_fst (.ite_fst h.refuse.pair h.writeFields.setChg.chgEnter.pair) <|
    .ite_fst (Keeps.ite h.writeFields.putAll.setChg.chgFloats.putSlots.abandonMode <|
    .ite h.writeFields.putAll.setChg.chgFloats.putSlots.completeMode h.writeFields.putAll.setChg.chgFloats.putSlots).pair
    h.writeFields

theorem Keeps.chgRegWrite (h : Keeps r s) : Keeps r (chgRegWrite s a d).1 := by
  unfold Machine.chgRegWrite
  extract_lets _ _ checked
  have k {b f} (hf : ∀ {s}, Keeps r s → Keeps r (f s)) : Keeps r (checked b f).1 :=
    .ite_fst (hf h.checkedWrite).pair h.checkedWrite
  exact .ite_fst h.chgCfgWrite <| .ite_fst (k id) <| .ite_fst (k fun h => h.chgDerate) <| .ite_fst (k fun h => h.chgDerate) <|
    .ite_fst (k id) <| .ite_fst (k id) <| .ite_fst (k id) <| .ite_fst (k id) <| .ite_fst h.exportWrite <| .ite_fst (k id) <|
    .ite_fst (k fun h => h.setChg.chgSlots) <| .ite_fst h.writeLock (k id)

/-! ### Sys2Proof/Machine/Lockstep.lean -/

theorem Keeps.setPair (h : Keeps r s) : Keeps r (State.setPair s n v) := h.update.putAll

theorem Keeps.pairFault (h : Keeps r s) : Keeps r (pairFault s n k l a m c i) :=
  (Keeps.ite h.setPair.putAll.trace.update h.setPair.putAll.trace.update).demandEvt

theorem Keeps.retiredTo (h : Keeps r s) : Keeps r (State.retiredTo s n l) := .ite h h.setPair

theorem Keeps.readCounter (h : Keeps r s) : Keeps r (readCounter s n c) := by
  unfold Machine.readCounter
  extract_lets
  split
  · exact h.emit
  · exact h.emit
  · exact h.fresh.setPair.update.emit
  · exact h.fresh.setPair.update.emit
  · exact h.fresh.setPair.update.emit
  · exact h.fresh.setPair.update.emit

theorem Keeps.missing (h : Keeps r s) : Keeps r (missing s).2 := h.fresh.pair_snd

theorem Keeps.compareOldest (h : Keeps r s) : Keeps r (compareOldest s n i).1 := by
  unfold Machine.compareOldest
  extract_lets
  split
  · split
    · exact h.setPair.pair
    · exact h.pairFault.pair
  · exact h.pair

theorem Keeps.copyItem (h : Keeps r s) : Keeps r (copyItem s n c i i1).1 := .ite_fst h.pair h.setPair.compareOldest

theorem Keeps.retireSignature (h : Keeps r s) : Keeps r (retireSignature s n c c1 i) := by
  unfold Machine.retireSignature
  extract_lets
  refine .ite h ?_
  split
  · exact .ite h.setPair h.missing.pairFault
  · exact h.setPair

theorem Keeps.comparatorTimeout (h : Keeps r s) : Keeps r (comparatorTimeout s n i) := by
  unfold Machine.comparatorTimeout
  extract_lets
  refine .ite h ?_
  split
  · exact h.missing.pairFault
  · exact h.missing.pairFault
  · exact h.missing.missing.pairFault
  · exact h.missing.missing.pairFault
  · exact .ite h.missing.missing.missing.pairFault h

theorem Keeps.localParity (h : Keeps r s) : Keeps r (localParity s n i) := .ite h h.missing.missing.missing.pairFault

theorem Keeps.openNotice (h : Keeps r s) : Keeps r (openNotice s n x m c w) := .ite h <| .ite h.setPair h.setPair

theorem Keeps.agreementReport (h : Keeps r s) : Keeps r (agreementReport s n m c) := by
  unfold Machine.agreementReport
  dsimp only
  split
  · exact h
  · split
    · refine Keeps.openNotice ?_
      refine Keeps.setPair ?_
      split
      · exact h.setPair.inc.emit
      · exact h.setPair.putAll
    · split
      · exact h.setPair.inc.emit
      · exact h.setPair.putAll

theorem Keeps.asyncRead (h : Keeps r s) : Keeps r (asyncRead s n x m c) := .ite h <| .ite h.emit h.setPair

theorem Keeps.valueResample (h : Keeps r s) : Keeps r (valueResample s n m c i) := by
  unfold Machine.valueResample
  extract_lets
  split
  · exact h
  · exact .ite h.setPair.inc.emit <| .ite h.setPair h.missing.pairFault

theorem Keeps.released (h : Keeps r s) : Keeps r (released s n) := h.setPair.putAll

theorem Keeps.debugResume (h : Keeps r s) : Keeps r (debugResume s n) := .ite h <| .ite h.released h.setPair

theorem Keeps.debugReplay (h : Keeps r s) : Keeps r (debugReplay s n a x) :=
  .ite h <| .ite (.ite h.setPair.released h.setPair) <| .ite h h.setPair

theorem Keeps.lksRegWrite (h : Keeps r s) : Keeps r (lksRegWrite s a d).1 :=
  .ite_fst h.checkedWrite <| .ite_fst h.writeLock h.writeFields

/-! ### Sys2Proof/Machine/Supply.lean -/

theorem Keeps.pwrIrq (h : Keeps r s) : Keeps r (pwrIrq s c) := h.irq

theorem Keeps.setFeed (h : Keeps r s) : Keeps r (State.setFeed s f v) := h.update

theorem Keeps.releaseAll (h : Keeps r s) : Keeps r (releaseAll s) :=
  ((h.update.storeResume.showDeferred.each fun h => h.admissionRelease).each fun h => h.queueRun).each fun h => h.setCan.busFree

theorem Keeps.psAbort (h : Keeps r s) : Keeps r (psAbort s p l x x1) := h.putAll.inc.releaseAll.finish

theorem Keeps.pmbus (h : Keeps r s) : Keeps r (pmbus s c d) := h.emit

theorem Keeps.driveVid (h : Keeps r s) : Keeps r (driveVid s l) := h.update.emit

theorem Keeps.railOn (h : Keeps r s) : Keeps r (railOn s) := .ite h.update.driveVid h.update.pmbus

theorem Keeps.wake (h : Keeps r s) : Keeps r (wake s x) := by
  unfold Machine.wake
  extract_lets
  refine .ite h.put ?_
  split
  · exact .ite h.put.psAbort h
  · exact h.put.putAll.put
  · exact h.put.putAll.railOn
  · exact h.put.putAll.update

theorem Keeps.pinWake (h : Keeps r s) : Keeps r (pinWake s w x) := .ite h.wake h

theorem Keeps.canWake (h : Keeps r s) : Keeps r (canWake s n) := .ite h.wake h

theorem Keeps.fabricWake (h : Keeps r s) : Keeps r (fabricWake s) := .ite h.wake h

theorem Keeps.timerWake (h : Keeps r s) : Keeps r (timerWake s) := .ite h.wake h

theorem Keeps.feedWake (h : Keeps r s) : Keeps r (feedWake s) := .ite h.wake h

theorem Keeps.showStandby (h : Keeps r s) : Keeps r (showStandby s) := h.putAll

theorem Keeps.measureFeed (h : Keeps r s) : Keeps r (measureFeed s f v) :=
  .ite h.setFeed.put.feedWake <| .ite h.setFeed.put.feedWake h.setFeed

theorem Keeps.feedSwitch (h : Keeps r s) : Keeps r (feedSwitch s f c c1) :=
  .ite h.update.putAll (h.update.putAll.inc.when fun h => h.pwrIrq)

theorem Keeps.drillDone (h : Keeps r s) : Keeps r (drillDone s x) := h.update.put.finish

theorem Keeps.drillFailed (h : Keeps r s) : Keeps r (drillFailed s o) := h.setFeed.inc.inc.feedSwitch.drillDone

theorem Keeps.carryStep (h : Keeps r s) : Keeps r (carryStep s) := by
  unfold Machine.carryStep
  split
  · exact h
  · exact .ite h.update.setFeed h.update

theorem Keeps.switchFailed (h : Keeps r s) : Keeps r (switchFailed s p) := .ite h.setFeed.inc.update.feedSwitch h.setFeed.inc.update

theorem Keeps.decideFeed (h : Keeps r s) : Keeps r (decideFeed s c) := by
  unfold Machine.decideFeed
  extract_lets
  split
  · exact .ite ((Keeps.ite h.put h).inc.drillDone.when fun h => h.pwrIrq) <| .ite (Keeps.ite h.put h).drillFailed <| .ite h.put h
  · exact .ite (Keeps.ite h.put h).switchFailed <| .ite (.ite (Keeps.ite h.put h).feedSwitch <| .ite h.put h) <|
      .ite (Keeps.ite h.put h).feedSwitch <| .ite h.put h

theorem Keeps.feedMeasure (h : Keeps r s) : Keeps r (feedMeasure s v v1 c) := by
  unfold Machine.feedMeasure
  extract_lets _ s2 _ s3
  have k2 : Keeps r s2 := h.putAll.measureFeed.measureFeed
  have k3 : Keeps r s3 := .ite k2.update k2
  exact .ite k3.decideFeed.carryStep.showStandby <| .ite k3.update.put.showStandby <| .ite k3.update.put.showStandby k3

theorem Keeps.switchCheck (h : Keeps r s) : Keeps r (switchCheck s l) := by
  unfold Machine.switchCheck
  split
  · exact h
  · extract_lets
    refine .ite h.update ?_
    split
    · exact h.update.drillFailed.showStandby
    · exact h.switchFailed.showStandby

theorem Keeps.feedDrill (h : Keeps r s) : Keeps r (feedDrill s).1 :=
  .ite_fst h.pair <| .ite_fst h.refuse.pair h.put.feedSwitch.update.showStandby.pair

theorem Keeps.feedDrillEnd (h : Keeps r s) : Keeps r (feedDrillEnd s) := by
  unfold Machine.feedDrillEnd
  split
  · exact h
  · exact h.setFeed.feedSwitch.drillDone.showStandby

theorem Keeps.dipStart (h : Keeps r s) : Keeps r (dipStart s v) := .ite h h.update.putAll.showDeferred

theorem Keeps.dipEnd (h : Keeps r s) : Keeps r (dipEnd s l) := .ite h <| .ite h.put (h.put.putAll.inc.when fun h => h.pwrIrq)

theorem Keeps.storeWritesResume (h : Keeps r s) : Keeps r (storeWritesResume s) := .ite h h.update.storeResume.showDeferred

theorem Keeps.holdOk (h : Keeps r s) : Keeps r (holdOk s o) := h.putFlag.storeResume.showDeferred

theorem Keeps.voutMantissa (h : Keeps r s) : Keeps r (voutMantissa s x).2 := .ite_snd h.pair_snd h.fresh.pair_snd

theorem Keeps.driveTarget (h : Keeps r s) : Keeps r (driveTarget s x) := .ite (h.driveVid.when fun h => h.put) h.voutMantissa.pmbus

theorem Keeps.changeTarget (h : Keeps r s) : Keeps r (changeTarget s x).1 :=
  .ite_fst (h.when fun h => h.put).pair (h.when fun h => h.put).putAll.inc.update.driveTarget.pair

theorem Keeps.applyDiv (h : Keeps r s) : Keeps r (applyDiv s x) := h.put

theorem Keeps.applyRaise (h : Keeps r s) : Keeps r (applyRaise s x) := h.putAll.applyDiv

theorem Keeps.raisesDone (h : Keeps r s) : Keeps r (raisesDone s) := h.update.finish

theorem Keeps.serveRaises (h : Keeps r s) : Keeps r (serveRaises s l) := by
  induction l generalizing s with
  | nil => exact h.update.raisesDone
  | cons x l ih => exact .ite h.changeTarget.update (ih h.applyRaise)

theorem Keeps.serveRail (h : Keeps r s) : Keeps r (serveRail s) :=
  .ite h <| .ite (.ite h h.serveRaises) (Keeps.ite h h.serveRaises).changeTarget

theorem Keeps.avsRequest (h : Keeps r s) : Keeps r (avsRequest s i x) := .ite h h.update.put.serveRail

theorem Keeps.droopStretch (h : Keeps r s) : Keeps r (droopStretch s i c) := .ite h <| .ite h.inc.put.avsRequest h.inc

theorem Keeps.changeOver (h : Keeps r s) : Keeps r (changeOver s) := by
  unfold Machine.changeOver
  dsimp only
  refine Keeps.serveRail ?_
  refine .ite ?_ ?_
  · refine Keeps.raisesDone ?_
    split
    · exact h.putAll.update.applyRaise
    · exact h.putAll
  · split
    · exact h.putAll.update.applyRaise
    · exact h.putAll

theorem Keeps.markLost (h : Keeps r s) : Keeps r (markLost s m) := h.putAll

theorem Keeps.ringsLost (h : Keeps r s) : Keeps r (ringsLost s) := by
  unfold Machine.ringsLost
  extract_lets s₁
  have h₁ : Keeps r s₁ := h.each fun h => h.ringReset
  clear_value s₁
  exact h₁.filterRegs.update.put

theorem Keeps.retainWake (h : Keeps r s) : Keeps r (retainWake s) := by
  unfold Machine.retainWake
  extract_lets
  exact .ite h.fresh.update (((h.fresh.update.settleMods.putAll.markLost.each fun h => .ite h.put h).when
    fun h => h.ringsLost).when fun h => h.pwrIrq).fabReannounce

theorem Keeps.pmbusAck (h : Keeps r s) : Keeps r (pmbusAck s) := .ite h <| .ite h.retainWake <| .ite h.changeOver h

theorem Keeps.vidSettled (h : Keeps r s) : Keeps r (vidSettled s) := .ite h <| .ite h.retainWake <| .ite h.changeOver h

theorem Keeps.fallBack (h : Keeps r s) : Keeps r (fallBack s) := .ite h.putAll.driveTarget h

theorem Keeps.pmbusMiss (h : Keeps r s) : Keeps r (pmbusMiss s) := h.put.inc.fallBack

theorem Keeps.pmbusTimeout (h : Keeps r s) : Keeps r (pmbusTimeout s) :=
  .ite h <| .ite h.update.driveTarget <|
    .ite h.put.update.pmbusMiss (Keeps.ite h.put.update.pmbusMiss.raisesDone h.put.update.pmbusMiss).serveRail

theorem Keeps.readVoutMode (h : Keeps r s) : Keeps r (readVoutMode s m) := by
  unfold Machine.readVoutMode
  extract_lets
  refine .ite h ?_
  split
  · exact h.pmbus.pmbusMiss
  · exact .ite h.pmbus.update h.pmbus.pmbusMiss

theorem Keeps.pmbusAlert (h : Keeps r s) : Keeps r (pmbusAlert s w) := h.pmbus.put.inc.pmbus

theorem Keeps.dividerWrite (h : Keeps r s) : Keeps r (dividerWrite s c d).1 :=
  .ite_fst h.refuse.pair <|
    .ite_fst (h.each fun h => h.applyDiv).update.serveRail.pair ((h.each fun h => h.applyDiv).each fun h => h.applyDiv).pair

theorem Keeps.railLost (h : Keeps r s) : Keeps r (railLost s) := .ite h.put.demandEvt h.put

theorem Keeps.powerRequest (h : Keeps r s) : Keeps r (powerRequest s x w).1 :=
  .ite_fst h.pair <| .ite_fst h.pair <| .ite_fst h.refuse.pair <| .ite_fst h.psAbort.pair h.update.put.pair

theorem Keeps.psCommit (h : Keeps r s) : Keeps r (psCommit s) := by
  unfold Machine.psCommit
  extract_lets _ _ _ _ _ s3
  have k : Keeps r s3 := h.putAll.update.releaseAll.each fun h => h.completeNow
  exact .ite k (Keeps.ite k.driveVid k.pmbus).linkDown.fabClose.soutDriveAll.put.update

theorem Keeps.psCheck (h : Keeps r s) : Keeps r (psCheck s) := .ite h.psCommit h

theorem Keeps.answer (h : Keeps r s) : Keeps r (answer s p a) := .ite h <| .ite h.psAbort <| .ite h.update.showDeferred.psCheck h

theorem Keeps.participantAnswer (h : Keeps r s) : Keeps r (participantAnswer s p) := .ite h h.answer

theorem Keeps.pairAnswer (h : Keeps r s) : Keeps r (pairAnswer s n d).1 := .ite_fst h.refuse.pair h.answer.pair

theorem Keeps.pairSilent (h : Keeps r s) : Keeps r (pairSilent s n) := .ite h.answer h

theorem Keeps.delayTimeout (h : Keeps r s) : Keeps r (delayTimeout s p) := .ite h.psAbort h

theorem Keeps.railWakeTimeout (h : Keeps r s) : Keeps r (railWakeTimeout s) := .ite h.put h

theorem Keeps.railRetry (h : Keeps r s) : Keeps r (railRetry s) := .ite h.railOn h

theorem Keeps.railDrop (h : Keeps r s) : Keeps r (railDrop s b) := .ite h.update h

theorem Keeps.bankClear (h : Keeps r s) : Keeps r (bankClear s x d) := h.update

theorem Keeps.zeroBank (h : Keeps r s) : Keeps r (zeroBank s b) :=
  (Keeps.ite h.filterBytes.filterWords.filterRegs.put h.filterBytes.filterWords.filterRegs).each fun h => .ite h.update h

theorem Keeps.bankZeroed (h : Keeps r s) : Keeps r (bankZeroed s b) := .ite h h.update.zeroBank.putAll

theorem Keeps.domainUp (h : Keeps r s) : Keeps r (domainUp s d) := h.update

theorem Keeps.pwrRegWrite (h : Keeps r s) : Keeps r (pwrRegWrite s a d).1 :=
  .ite_fst h.checkedWrite <| .ite_fst h.checkedWrite <| .ite_fst h.writeFields <| .ite_fst h.writeLock h.writeFields

/-! ### Sys2Proof/Machine/Lands.lean -/

theorem Keeps.dataScan (h : Keeps r s) : Keeps r (dataScan s d) := .ite h.update.emit <| .ite h.emit <| .ite h h.emit

/-! ### Sys2Proof/Machine/Thermal.lean -/

theorem Keeps.setSens (h : Keeps r s) : Keeps r (State.setSens s k v) := h.update

theorem Keeps.setZone (h : Keeps r s) : Keeps r (State.setZone s z v) := h.update

theorem Keeps.ntcTemp (h : Keeps r s) : Keeps r (ntcTemp s v).2 := h.rounded

theorem Keeps.reading (h : Keeps r s) : Keeps r (reading s k).2 := .ite_snd h.ntcTemp <| .ite_snd h.pair_snd h.pair_snd

theorem Keeps.showBroken (h : Keeps r s) : Keeps r (showBroken s k b) := h.putFlag.put

theorem Keeps.markSensor (h : Keeps r s) : Keeps r (markSensor s k b g) := h.showBroken.putFlag.when fun h => h.irq

theorem Keeps.takeSample (h : Keeps r s) : Keeps r (takeSample s k x v) := h.setSens.put.markSensor

theorem Keeps.sensorSample (h : Keeps r s) : Keeps r (sensorSample s k x) := .ite h h.reading.takeSample

theorem Keeps.sensorStale (h : Keeps r s) : Keeps r (sensorStale s k) := .ite h h.setSens.markSensor

theorem Keeps.measSample (h : Keeps r s) : Keeps r (measSample s l f) := by
  unfold Machine.measSample
  extract_lets
  split
  · exact .ite h.takeMeas.sensorSample h.takeMeas
  · exact h.takeMeas.sensorSample
  · exact h.takeMeas

theorem Keeps.measGone (h : Keeps r s) : Keeps r (measGone s l d) :=
  .ite h.measStale.sensorStale <| .ite h.measStale.sensorStale h.measStale

theorem Keeps.applyFactors (h : Keeps r s) : Keeps r (applyFactors s) := by
  unfold Machine.applyFactors
  extract_lets
  exact .ite (h.each fun h => h.put.trcDerate) (h.each fun h => h.put.trcDerate).put.chgDerate

theorem Keeps.derateRise (h : Keeps r s) : Keeps r (derateRise s z) := h.put.when fun h => h.putFlag

theorem Keeps.derateFall (h : Keeps r s) : Keeps r (derateFall s z) := h.put

theorem Keeps.throttleRequest (h : Keeps r s) : Keeps r (throttleRequest s z) := .ite h.putFlag.setZone h.putFlag.setZone.postEvent

theorem Keeps.coneChange (h : Keeps r s) : Keeps r (coneChange s z c) :=
  ((((h.put.when fun h => h.putFlag.when fun h => h.irq).when fun h => h.throttleRequest).when
    fun h => h.setZone.putAll.irq.irq).when fun h => h.put.setZone).when fun h => h.setZone.putFlag.when fun h => h.derateRise

theorem Keeps.judgeZone (h : Keeps r s) : Keeps r (judgeZone s z) := by
  unfold Machine.judgeZone
  extract_lets
  refine .ite h ?_
  split
  · exact .ite h.put.putFlag h.put.putFlag.coneChange
  · exact h.put.putAll.coneChange

theorem Keeps.thermalRate (h : Keeps r s) : Keeps r (thermalRate s) := by
  unfold Machine.thermalRate
  extract_lets
  refine .ite h.putFlag <| .ite h.update.putFlag ?_
  split
  · exact h.update
  · exact h.when fun h => h.putFlag

theorem Keeps.thermalEvaluation (h : Keeps r s) : Keeps r (thermalEvaluation s x) := by
  unfold Machine.thermalEvaluation
  extract_lets
  exact .ite h ((h.each fun h => h.takeSample).each fun h => h.judgeZone).applyFactors.thermalRate

theorem Keeps.zonePendingEnd (h : Keeps r s) : Keeps r (zonePendingEnd s) := by
  unfold Machine.zonePendingEnd
  extract_lets
  exact (h.update.each fun h => .ite h <| .ite h.putFlag.putFlag.coneChange h.putFlag).applyFactors.thermalRate

theorem Keeps.graceEnd (h : Keeps r s) : Keeps r (graceEnd s z) := by
  unfold Machine.graceEnd
  extract_lets
  exact .ite h <| .ite h.setZone h.setZone.putFlag.derateFall.applyFactors

theorem Keeps.derateStep (h : Keeps r s) : Keeps r (derateStep s z) := by
  unfold Machine.derateStep
  extract_lets
  exact .ite h <| .ite h.setZone (Keeps.ite h.setZone.derateRise <| .ite h.setZone h.setZone.derateFall).applyFactors

theorem Keeps.thmAck (h : Keeps r s) : Keeps r (thmAck s z) := h.each fun h => h.when fun h => h.putFlag

theorem Keeps.thermalRestart (h : Keeps r s) : Keeps r (thermalRestart s) := by
  unfold Machine.thermalRestart
  extract_lets
  exact ((h.update.each fun h => h.putAll.showBroken).each fun h => h.putAll).putFlag.applyFactors

theorem Keeps.zoneOff (h : Keeps r s) : Keeps r (zoneOff s z) := h.setZone.putAll

theorem Keeps.thmRegWrite (h : Keeps r s) : Keeps r (thmRegWrite s a d).1 := by
  change KeepsFst r _
  unfold Machine.thmRegWrite
  refine .ite h.checkedWrite.keepsFst <| .ite h.checkedWrite.keepsFst ?_
  refine .ite ?_ (.ite h.writeLock.keepsFst h.writeFields.keepsFst)
  split
  · exact (h.checkedWrite.when fun h => h.zoneOff).applyFactors.pair
  · exact h.checkedWrite
  · exact h.writeFields
  · exact h.writeFields
  · exact h.checkedWrite

/-! ### Sys2Proof/Machine/TestDebug.lean -/

theorem Keeps.setTap (h : Keeps r s) : Keeps r (State.setTap s v) := h.update

theorem Keeps.tapReset (h : Keeps r s) : Keeps r (tapReset s x) := h.setTap.when fun h => h.putFlag

theorem Keeps.instructionSelect (h : Keeps r s) : Keeps r (instructionSelect s c) :=
  .ite h.setTap <| .ite h.setTap (h.setTap.when fun h => h.putFlag)

theorem Keeps.instructionLoad (h : Keeps r s) : Keeps r (instructionLoad s c x) := by
  unfold Machine.instructionLoad
  extract_lets
  split
  · exact h.emit.instructionSelect.dataScan
  · exact h.emit.instructionSelect

theorem Keeps.authCapture (h : Keeps r s) : Keeps r (authCapture s d) := .ite h <| .ite h.emit h.fresh.setTap.emit

theorem Keeps.authUpdate (h : Keeps r s) : Keeps r (authUpdate s k x) := by
  unfold Machine.authUpdate
  split
  · exact .ite h.setTap h
  · exact h

theorem Keeps.authCheckEnd (h : Keeps r s) : Keeps r (authCheckEnd s) := by
  unfold Machine.authCheckEnd
  split
  · exact h
  · exact .ite h.setTap.putFlag h.setTap.inc

theorem Keeps.tapRelease (h : Keeps r s) : Keeps r (tapRelease s) := .ite h.setTap.setTap h.setTap

theorem Keeps.relock (h : Keeps r s) : Keeps r (relock s d) := h.when fun h => h.putFlag

theorem Keeps.atbSelect (h : Keeps r s) : Keeps r (atbSelect s d).1 := h.checkedWrite

theorem Keeps.atbOpen (h : Keeps r s) : Keeps r (atbOpen s n) := (h.when fun h => h.put).when fun h => h.put

theorem Keeps.setSstRes (h : Keeps r s) : Keeps r (setSstRes s n v) := h.put

theorem Keeps.sstProgress (h : Keeps r s) : Keeps r (sstProgress s) := .ite h.put h.put.putFlag.finish

theorem Keeps.sstResult (h : Keeps r s) : Keeps r (sstResult s n v) := h.setSstRes.update.sstProgress

theorem Keeps.sstStart (h : Keeps r s) : Keeps r (sstStart s m).1 :=
  .ite_fst h.refuse.pair (h.each fun h => h.setSstRes).update.putFlag.sstProgress.pair

theorem Keeps.selftestGo (h : Keeps r s) : Keeps r (selftestGo s d).1 := .ite_fst h.sstStart h.pair

theorem Keeps.sstEnd (h : Keeps r s) : Keeps r (sstEnd s n x) := .ite h.sstResult h

theorem Keeps.sstAbort (h : Keeps r s) : Keeps r (sstAbort s g) := h.each fun h => .ite h.sstResult h

theorem Keeps.debugRefused (h : Keeps r s) : Keeps r (debugRefused s b) := h.setTap.putFlag

theorem Keeps.traceTimeout (h : Keeps r s) : Keeps r (traceTimeout s) := h.when fun h => h.inc

theorem Keeps.tstRegWrite (h : Keeps r s) : Keeps r (tstRegWrite s a d).1 :=
  .ite_fst h.checkedWrite <| .ite_fst h.checkedWrite <| .ite_fst h.writeLock h.writeFields

/-! ### Sys2Proof/Machine/Access.lean -/

theorem Keeps.wantCold (h : Keeps r s) : Keeps r (wantCold s c) := h.update

theorem Keeps.askStart (h : Keeps r s) : Keeps r (askStart s k).1 :=
  .ite_fst h.wantCold.pair <| .ite_fst h.wantCold.pair <| .ite_fst h.pair h.update.pair

theorem Keeps.hostStart (h : Keeps r s) : Keeps r (hostStart s k).1 := .ite_fst h.pair h.askStart.put.pair

theorem Keeps.leCmd (h : Keeps r s) : Keeps r (leCmd s e d).1 := by
  unfold Machine.leCmd
  dsimp only
  refine Keeps.when ?_ fun h => h.engineSwap
  split
  · exact h.engineArm
  · exact h.engineDisarm
  · exact h.engineStop
  · exact h

theorem Keeps.safRelease (h : Keeps r s) : Keeps r (safRelease s d) := by
  unfold Machine.safRelease
  extract_lets
  split
  · exact h.releaseFirst
  · exact h.releaseSecond
  · exact h.releaseBroken

theorem Keeps.safDemand (h : Keeps r s) : Keeps r (safDemand s d) := h.demandEvt

theorem Keeps.fjopCmd (h : Keeps r s) : Keeps r (fjopCmd s c d).1 := by
  unfold Machine.fjopCmd
  extract_lets
  exact .ite_fst (h.when fun h => h.fjopReset).fjopSend (h.when fun h => h.fjopReset).pair

theorem Keeps.safWrite (h : Keeps r s) : Keeps r (safWrite s a d).1 := by
  unfold Machine.safWrite
  extract_lets
  exact .ite_fst h.safDemand.pair <| .ite_fst h.safRelease.pair <| .ite_fst h.heartbeat.pair <| .ite_fst h.soutRequest.pair <|
    .ite_fst h.ascTableWrite <| .ite_fst h.fjopCmd h.safRegWrite

theorem Keeps.pwrWrite (h : Keeps r s) : Keeps r (pwrWrite s x a d).1 := by
  unfold Machine.pwrWrite
  split
  · exact .ite_fst h.feedDrill h.pair
  · exact h.dividerWrite
  · exact h.dividerWrite
  · exact h.powerRequest
  · split
    · exact h.pairAnswer
    · exact h.pair
  · exact h.bankClear.pair
  · exact h.bankClear.pair
  · exact h.pwrRegWrite

theorem Keeps.fabWrite (h : Keeps r s) : Keeps r (fabWrite s a d).1 := by
  unfold Machine.fabWrite
  extract_lets
  exact .ite_fst (h.when fun h => h.fabWake).pair <| .ite_fst h.txqTail <| .ite_fst h.rxqAck.pair h.fabRegWrite

theorem Keeps.canWrite (h : Keeps r s) : Keeps r (canWrite s a d).1 := by
  unfold Machine.canWrite
  extract_lets
  exact .ite_fst h.canRegWrite <| .ite_fst h.canMode <| .ite_fst (h.when fun h => h.canRecover).pair <|
    .ite_fst (.ite_fst h.filterCommit h.pair) <| .ite_fst h.txRequest.pair <| .ite_fst h.txAbort.pair <|
    .ite_fst h.canAck.pair h.canRegWrite

theorem Keeps.tstWrite (h : Keeps r s) : Keeps r (tstWrite s a d).1 := by
  unfold Machine.tstWrite
  split
  · exact h.relock.pair
  · exact h.atbSelect
  · exact h.selftestGo
  · exact h.tstRegWrite

theorem Keeps.adcCtrlWrite (h : Keeps r s) : Keeps r (adcCtrlWrite s n d).1 := (h.adcCtrl.when fun h => h.atbOpen).pair

theorem Keeps.adcWrite (h : Keeps r s) : Keeps r (adcWrite s a d).1 := by
  unfold Machine.adcWrite
  extract_lets
  refine .ite_fst ?_ h.adcRegWrite
  split
  · exact h.adcCtrlWrite
  · exact h.adcSwreq.pair
  · exact h.adcRegWrite

theorem Keeps.fbWrite (h : Keeps r s) : Keeps r (fbWrite s a d).1 := by
  unfold Machine.fbWrite
  extract_lets
  refine .ite_fst ?_ h.fbRegWrite
  split
  · exact h.fbCfg
  · exact (h.when fun h => h.fbArm).pair
  · exact h.loadCnt.pair
  · exact h.fbRegWrite

theorem Keeps.regWrite (h : Keeps r s) : Keeps r (regWrite s x a d).1 := by
  unfold Machine.regWrite
  split
  · exact h.pwmRegWrite
  · exact h.gsRegWrite
  · exact h.ldRegWrite
  · exact h.adcWrite
  · exact h.modRegWrite
  · exact h.fbWrite
  · exact .ite_fst h.leCmd h.leRegWrite
  · exact h.trcRegWrite
  · exact h.actRegWrite
  · exact h.cnvRegWrite
  · exact h.chgRegWrite
  · exact h.safWrite
  · exact h.lksRegWrite
  · exact h.pwrWrite
  · exact .ite_fst h.thmAck.pair h.thmRegWrite
  · exact .ite_fst h.hostStart h.hostRegWrite
  · exact .ite_fst h.windowSelect.pair h.pair
  · exact h.fabWrite
  · exact h.canWrite
  · exact .ite_fst h.writeLock h.pair
  · exact h.tstWrite
  · exact h.pair

theorem Keeps.denied (h : Keeps r s) : Keeps r (denied s x a).1 := h.emit.pair

theorem Keeps.safetyBy {act : State → State × Status} (h : Keeps r s) (hf : ∀ {s}, Keeps r s → Keeps r (act s).1) :
    Keeps r (safetyBy s x a act).1 := .ite_fst (h.safBy hf).refuse (h.safBy hf)

theorem Keeps.touch (h : Keeps r s) : Keeps r (touch s a) := h.foldl fun h => h.domainUp

theorem Keeps.regBy {act : State → State × Status} (h : Keeps r s) (hf : ∀ {s}, Keeps r s → Keeps r (act s).1) :
    Keeps r (regBy s x a act).1 :=
  .ite_fst h <| .ite_fst h.touch.denied <| .ite_fst (h.touch.safetyBy hf) <| .ite_fst h.touch.refuse (hf h.touch)

theorem Keeps.storeBy (h : Keeps r s) : Keeps r (storeBy s x a l).1 := by
  unfold Machine.storeBy
  extract_lets
  split
  · exact .ite_fst h.refuse.denied <| .ite_fst h.refuse.denied <| .ite_fst h.storeWrite.pair h.denied
  · exact .ite_fst h.storeWrite.pair h.denied

theorem Keeps.commitWord (h : Keeps r s) : Keeps r (commitWord s a w).1 := by
  unfold Machine.commitWord
  extract_lets
  refine .ite_fst ?_ (.ite_fst (.ite_fst h.setWord.pair h.pair) h.leWordWrite)
  split
  · exact h.torqueCommit.pair
  · exact h.speedCommit.pair
  · exact h.limitCommit.pair

theorem Keeps.halfWrite (h : Keeps r s) : Keeps r (halfWrite s x a d).1 := .ite_fst h.stageLow.pair h.composeHigh.commitWord

theorem Keeps.halfRead (h : Keeps r s) : Keeps r (halfRead s x a).1 := by
  unfold Machine.halfRead
  extract_lets
  refine .ite_fst h.setView.pair ?_
  split
  · exact .ite_fst h.setView.pair h.pair
  · exact h.pair

theorem Keeps.busWrite (h : Keeps r s) : Keeps r (busWrite s x x1 a d).1 :=
  .ite_fst h.pair <| .ite_fst h.denied <| .ite_fst (.ite_fst h.touch.denied h.touch.setBytes.pair) <| .ite_fst h.storeBy <|
    .ite_fst (h.safetyBy fun h => h.setBytes.pair) <| .ite_fst (.ite_fst (h.safetyBy fun h => h.denied) h.denied) <|
    .ite_fst (.ite_fst h.touch.denied <| .ite_fst h.touch.refuse.pair <| .ite_fst h.touch.pair h.touch.halfWrite) <|
    .ite_fst h.denied (h.regBy fun h => h.regWrite)

theorem Keeps.mtimeRead (h : Keeps r s) : Keeps r (mtimeRead s x x1).1 := .ite_fst h.setView.pair h.setView.pair

theorem Keeps.busRead (h : Keeps r s) : Keeps r (busRead s x x1 a).1 := by
  unfold Machine.busRead
  extract_lets
  refine .ite_fst h.pair <| .ite_fst h.pair <| .ite_fst (.ite_fst h.touch.pair h.touch.pair) <| .ite_fst h.pair ?_
  refine .ite_fst h.pair <| .ite_fst h.pair <| .ite_fst h.touch.pair ?_
  split
  · exact .ite_fst h.touch.mirrorRead.update.pair h.touch.pair
  · exact .ite_fst h.touch.halfRead.pair <| .ite_fst h.touch.pair <| .ite_fst h.touch.mtimeRead.pair <|
      .ite_fst (.ite_fst h.touch.fbCntRead.update.pair h.touch.pair) <| .ite_fst h.touch.actPop.pair h.touch.pair

theorem Keeps.readOut (h : Keeps r s) : Keeps r (readOut s x x1 a) := by
  unfold Machine.readOut
  extract_lets
  refine .ite h ?_
  split
  · exact h.busRead.emit
  · exact h.busRead.emit

theorem Keeps.readEcc {f : State → State} (h : Keeps r s) (hf : ∀ {s}, Keeps r s → Keeps r (f s)) :
    Keeps r (readEcc s x a e f) := by
  unfold Machine.readEcc
  split
  · exact hf h
  · split
    · exact hf h
    · exact (hf h).when fun h => h.inc
    · exact h.touch.emit
    · exact h.touch.emit

theorem Keeps.hostWord (h : Keeps r s) : Keeps r (hostWord s a d).1 :=
  .ite_fst h.pair <| .ite_fst h.denied <| .ite_fst (h.safetyBy fun h => h.pair) <| .ite_fst h.denied <|
    .ite_fst h.refuse.pair <| .ite_fst h.touch.denied <| .ite_fst h.pair h.touch.commitWord

theorem Keeps.hostWordRead (h : Keeps r s) : Keeps r (hostWordRead s a) :=
  .ite h <| .ite h.emit <| .ite h.emit <| .ite h.touch.emit h.touch.emit

/-! ### Sys2Proof/Machine/Image.lean -/

theorem Keeps.storeView (h : Keeps r s) : Keeps r (storeView s) := h.each fun h => h.setBytes

theorem Keeps.ctlWrite (h : Keeps r s) : Keeps r (ctlWrite s c) := h.storeWrite

theorem Keeps.listRec (h : Keeps r s) : Keeps r (listRec s k x x1) := h.update

theorem Keeps.mergeImages (h : Keeps r s) : KeepsSome r (mergeImages s) :=
  .ite .none <| .some
    (((h.putAll.putAll.when fun h => h.putFlag).each fun h => h.listRec).each fun h => h.listRec).filterBytes.setBytes.update

theorem Keeps.raiseFloor (h : Keeps r s) : Keeps r (raiseFloor s d m) := h.putAll

theorem Keeps.applyOwn (h : Keeps r s) : Keeps r (applyOwn s a d m) := .ite h.raiseFloor (h.foldl fun h => h.put)

theorem Keeps.applyHalf (h : Keeps r s) : Keeps r (applyHalf s a d m) := h.halfWrite

theorem Keeps.applyWrite (h : Keeps r s) : Keeps r (applyWrite s a v).1 := .ite_fst h.regWrite.pair h.pair

theorem Keeps.noteCan (h : Keeps r s) : Keeps r (noteCan s a v) := .ite h.update h

theorem Keeps.applyReg (h : Keeps r s) : Keeps r (applyReg s k x).1 := by
  unfold Machine.applyReg
  extract_lets
  refine .ite_fst h.pair ?_
  split
  · exact h.applyHalf.pair
  · exact .ite_fst h.pair <| .ite_fst h.pair <| .ite_fst (Keeps.ite h.applyOwn h).pair <|
      .ite_fst (Keeps.ite h.update h).pair <| .ite_fst h.pair (Keeps.ite h.applyWrite.noteCan h.applyWrite).pair

theorem Keeps.applyRegs (h : Keeps r s) : Keeps r (applyRegs k l s).1 := by
  induction l generalizing s with
  | nil => exact h
  | cons x l ih => exact ih h.applyReg

theorem Keeps.putRow (h : Keeps r s) : Keeps r (putRow s a v) := h.foldl fun h => .ite h.put h

theorem Keeps.judgeReg (h : Keeps r t) : Keeps r (judgeReg s t x).1 :=
  (Keeps.ite h.putRow.applyWrite.noteCan h.putRow.applyWrite).pair

theorem Keeps.judgeRegs (h : Keeps r s) : Keeps r (judgeRegs o l s).1 := by
  induction l generalizing s with
  | nil => exact h
  | cons x l ih =>
    unfold Machine.judgeRegs
    split
    · exact ih h.judgeReg
    · exact ih h

theorem Keeps.enableReg (h : Keeps r s) : Keeps r (enableReg s k x e).1 := .ite_fst h.pair <| .ite_fst h.pair h.applyWrite

theorem Keeps.enableRegs (h : Keeps r s) : Keeps r (enableRegs k l s).1 := by
  induction l generalizing s with
  | nil => exact h
  | cons x l ih => exact ih h.enableReg

theorem Keeps.enableLocked (h : Keeps r s) : Keeps r (enableLocked s) :=
  h.foldl fun h => .ite (by split; exacts [h.putFlag.regWrite.putFlag, h]) h

theorem Keeps.listReg (h : Keeps r s) : Keeps r (listReg k s x) := by
  unfold Machine.listReg
  extract_lets
  split
  · exact (Keeps.ite h.listRec h).listRec
  · exact (Keeps.ite h.listRec h).listRec
  · exact (Keeps.ite h.listRec h).listRec
  · exact (Keeps.ite h.listRec h).listRec
  · exact .ite h.listRec h

theorem Keeps.applyRoles (h : Keeps r s) : Keeps r (applyRoles s l) := h.update

theorem Keeps.writeSlots (h : Keeps r s) : Keeps r (writeSlots s x a n) := h.each fun h => h.setWord

theorem Keeps.applyLoad (h : Keeps r s) : Keeps r (applyLoad l s x) := by
  unfold Machine.applyLoad
  dsimp only
  split
  · exact h.filterWords.listRec
  · split
    · split
      · exact h.writeSlots.writeSlots
      · exact h.writeSlots
    · exact h.writeSlots

theorem Keeps.raiseDead (h : Keeps r s) : Keeps r (raiseDead s n f) := .ite h.put.listRec h

theorem Keeps.raiseDeads (h : Keeps r s) : Keeps r (raiseDeads s) := h.each fun h => h.raiseDead.raiseDead

theorem Keeps.showDeads (h : Keeps r s) : Keeps r (showDeads s) := h.each fun h => h.showDtInit

theorem Keeps.applyRegSet (h : Keeps r s) : Keeps r (applyRegSet s k x) := by
  unfold Machine.applyRegSet
  extract_lets _ _ _ _ loaded _ z
  have k1 : Keeps r loaded := (h.each fun h => h.put).applyRegs.each fun h => h.putRow
  have k2 : Keeps r z.1 := (Keeps.ite k1.judgeRegs k1.judgeRegs.enableLocked).enableRegs
  exact ((k2.each fun h => h.raiseFloor).foldl fun h => h.listReg).raiseDeads.each fun h => h.put

theorem Keeps.applySet (h : Keeps r s) : Keeps r (applySet s k) :=
  (Keeps.ite ((h.update.applyRoles.applyRegSet.each fun h => h.writeSlots).foldl fun h => h.applyLoad)
    h.update.applyRoles.applyRegSet).showDeads

theorem Keeps.showListed (h : Keeps r s) : Keeps r (showListed s) := h.put.when fun h => h.putFlag

theorem Keeps.writeStartRec (h : Keeps r s) : Keeps r (writeStartRec s) := h.storeWrite.ctlWrite.put

/-! ### Sys2Proof/Machine/Start.lean -/

theorem Keeps.restoreLocked (h : Keeps r s) : Keeps r (restoreLocked s) := h.filterRegs.insertRegs

theorem Keeps.coldRings (h : Keeps r s) : Keeps r (coldRings s) :=
  (Keeps.ite h (h.each fun h => by split; exacts [h.closeRecord, h])).linkDown.update

theorem Keeps.warmRings (h : Keeps r s) : Keeps r (warmRings s) := (h.each fun h => .ite h h.dropFetched.put).update

theorem Keeps.startSupply (h : Keeps r s) : Keeps r (startSupply s c) := h.update

theorem Keeps.startBlocks (h : Keeps r s) : Keeps r (startBlocks s) := h.update.update.update

theorem Keeps.coldReset (h : Keeps r s) : Keeps r (coldReset s) := by
  unfold Machine.coldReset
  extract_lets stand s₁ s₂ s₃
  have h₁ : Keeps r s₁ := h.coldRings.fabClose
  clear_value s₁
  have h₃ : Keeps r s₃ := h₁.filterRegs.startSupply.startBlocks.putAll
  clear_value s₃
  exact h₃.filterWords.update

theorem Keeps.warmReset (h : Keeps r s) : Keeps r (warmReset s) := by
  unfold Machine.warmReset
  extract_lets entry s₁ latched s₂
  have h₁ : Keeps r s₁ := h.warmRings.fabWarm
  clear_value s₁
  have h₂ : Keeps r s₂ := h₁.filterRegs.startSupply.startBlocks
  clear_value s₂
  exact (h₂.filterWords.update.each fun h => h.put).each fun h => h.put

theorem Keeps.beginStart (h : Keeps r s) : Keeps r (beginStart s c c1) := by
  unfold Machine.beginStart
  extract_lets
  exact (Keeps.ite h.update.coldReset h.update.warmReset.put).putAll.thermalRestart.inc.update.soutDriveAll.trace

theorem Keeps.failStart (h : Keeps r s) : Keeps r (failStart s x u) := by
  unfold Machine.failStart
  extract_lets
  exact .ite h.putAll.put.writeStartRec.beginStart <|
    .ite h.putAll.putAll.writeStartRec.update.demandEvt.put.setMode h.putAll.putAll.writeStartRec.beginStart

theorem Keeps.toStep (h : Keeps r s) : Keeps r (toStep s k) := h.put

theorem Keeps.moduleTimeStart (h : Keeps r s) : Keeps r (moduleTimeStart s) := h.ctlWrite.put.update.each fun h => h.showPin

theorem Keeps.memoryTest (h : Keeps r s) : Keeps r (memoryTest s c b e) :=
  (Keeps.ite h.filterBytes.filterWords (h.each fun h => h.addSat)).markLost.update

theorem Keeps.injection (h : Keeps r s) : Keeps r (injection s l) := h.each fun h => h.putAll

theorem Keeps.relatch (h : Keeps r s) : Keeps r (relatch s x) := by
  unfold Machine.relatch
  extract_lets
  exact (h.each fun h => h.latchGroup).when fun h => h.latchDevice

theorem Keeps.clearLatches (h : Keeps r s) : Keeps r (clearLatches s) := by
  unfold Machine.clearLatches
  extract_lets
  exact (h.update.putAll.each fun h => h.relatch).each fun h => h.demand

theorem Keeps.imageStep (h : Keeps r s) : KeepsSome r (imageStep s c v) := by
  unfold Machine.imageStep
  extract_lets
  split
  · exact .none
  · next t e =>
    have ht : Keeps r t := KeepsSome.ite (.some h) h.mergeImages t e
    extract_lets s₁ s₂ s₃
    have h₃ : Keeps r s₃ := (Keeps.ite ht ht.restoreLocked).applySet.showListed.put
    clear_value s₃
    exact .some ((Keeps.ite h₃.put.update.readVoutMode h₃).evalChoices.each fun h => h.demand).serveRail

theorem Keeps.failLeg (h : Keeps r s) : Keeps r (failLeg s l) := .ite h.setLeg.putFlag.putFlag h.setLeg.putFlag

theorem Keeps.storeIdent (h : Keeps r s) : Keeps r (storeIdent s l i) := .ite h.setLk.putAll h.setLk

theorem Keeps.enumerate (h : Keeps r s) : Keeps r (enumerate x s l) := by
  unfold Machine.enumerate
  dsimp only
  refine .ite h.refuse.failLeg <| .ite (Keeps.ite h.storeIdent.putFlag h.storeIdent).failLeg <| .ite ?_ ?_
  · refine Keeps.failLeg ?_
    refine Keeps.setOrphan ?_
    refine Keeps.emit ?_
    refine Keeps.emit ?_
    refine Keeps.setRx ?_
    split
    · exact (Keeps.ite h.storeIdent.putFlag h.storeIdent).applyDelay
    · exact .ite h.storeIdent.putFlag h.storeIdent
  · refine Keeps.setOrphan ?_
    refine Keeps.emit ?_
    refine Keeps.emit ?_
    refine Keeps.setRx ?_
    split
    · exact (Keeps.ite h.storeIdent.putFlag h.storeIdent).applyDelay
    · exact .ite h.storeIdent.putFlag h.storeIdent

theorem Keeps.storeIdents (h : Keeps r s) : Keeps r (storeIdents s) := h.ctlWrite

theorem Keeps.satelliteStep (h : Keeps r s) : Keeps r (satelliteStep s c x) := by
  unfold Machine.satelliteStep
  extract_lets _ s2 _ _ _ _ s3
  have k2 : Keeps r s2 := (h.each fun h => h.setLeg).putAll
  have k3 : Keeps r s3 :=
    .ite ((k2.each fun h => h.setLk).each fun h => h.enumerate) ((k2.each fun h => h.failLeg).each fun h => h.enumerate)
  exact (k3.each fun h => h.validateOrphans).storeIdents

theorem Keeps.closeOpenCold (h : Keeps r s) : Keeps r (closeOpenCold s) := h.each fun h => h.fresh.closeRecord

theorem Keeps.closeOpenWarm (h : Keeps r s) : Keeps r (closeOpenWarm s) :=
  (h.each fun h => .ite (h.each fun h => .ite h.closeRecord h.closeRecord.postCompletion)
    (h.each fun h => .ite h.closeRecord h.closeRecord.postCompletion).setHq).each fun h => h.closeRecord

theorem Keeps.readyImage (h : Keeps r s) : Keeps r (readyImage s) :=
  h.each fun h => .ite (by split; exacts [h.putFlag, h]) h.canMode

theorem Keeps.stopGroups (h : Keeps r s) : Keeps r (stopGroups s) := h.each fun h => (h.when fun h => h.enterStopped).setGrp.putFlag

theorem Keeps.modeReady (h : Keeps r s) : Keeps r (modeReady s) := by
  unfold Machine.modeReady
  dsimp only
  refine Keeps.soutDriveAll ?_
  refine Keeps.evalChoices ?_
  refine Keeps.when ?_ fun h => h.emit
  refine Keeps.postEvent ?_
  refine Keeps.update ?_
  refine Keeps.writeStartRec ?_
  split
  · exact h.stopGroups.putAll.readyImage.put.setMode
  · exact h.stopGroups.putAll.readyImage.put.setMode

theorem Keeps.fabricStep (h : Keeps r s) : Keeps r (fabricStep s c) := (Keeps.ite h.fabDiscovery h.fabReannounce).toStep

theorem Keeps.stepEnd (h : Keeps r s) : Keeps r (stepEnd s x) := by
  unfold Machine.stepEnd
  extract_lets
  refine .ite h ?_
  split
  · exact .ite h <| .ite h.toStep h.update.toStep
  · split
    · exact h.failStart
    · exact h.moduleTimeStart.toStep
  · refine .ite h.failStart ?_
    split
    · exact h.failStart
    · exact .ite h.fresh.failStart h.memoryTest.toStep
  · split
    · exact h.injection.failStart
    · exact h.injection.putAll.toStep
  · split
    · exact h.putAll.failStart
    · exact (Keeps.ite h.clearLatches h).putAll.toStep
  · split
    · next t e => exact (h.imageStep t e).toStep
    · exact h.put.failStart
  · exact h.satelliteStep.fabricStep
  · exact .ite h h.putFlag.toStep
  · exact .ite h.failStart h.journalScan.toStep
  · exact (Keeps.ite h.closeOpenCold h.closeOpenWarm).modeReady
  · exact h

theorem Keeps.fabricTimeout (h : Keeps r s) : Keeps r (fabricTimeout s) := .ite (h.putFlag.when fun h => h.putFlag).toStep h

theorem Keeps.startLimit (h : Keeps r s) : Keeps r (startLimit s) := .ite h.failStart h

theorem Keeps.serveStart (h : Keeps r s) : Keeps r (serveStart s) := by
  unfold Machine.serveStart
  split
  · exact (Keeps.ite h.putAll h).beginStart
  · extract_lets
    refine .ite ?_ ?_
    · split
      · exact .ite h.update.failStart h.update
      · exact h.update
    · refine .ite h.update ?_
      split
      · exact h.beginStart
      · exact .ite h.beginStart h

/-! ### Sys2Proof/Machine/Hooks.lean -/

theorem Keeps.regroup (h : Keeps r s) : Keeps r (regroup s n) := .ite h.cnvRegroup.chgFloats h.cnvRegroup

theorem Keeps.dozeWake (h : Keeps r t) : Keeps r (dozeWake s t) := .ite h.wake h

theorem Keeps.blockHooks (h : Keeps r t) : Keeps r (blockHooks s t) := by
  unfold Machine.blockHooks
  extract_lets _ s2 _ s4 s5 _ s7 s8 _ s10 s11 s12
  have k2 : Keeps r s2 := (h.each fun h => h.regroup).each fun h => h.sstAbort
  have k4 : Keeps r s4 := (k2.each fun h => h.each fun h => h.stoppedAtSpeed).each fun h => h.chopperWatch
  have k5 : Keeps r s5 := .ite k4.clearZeroTorque k4
  have k7 : Keeps r s7 := (k5.each fun h => h.actWatch).each fun h => h.cnvWatch
  have k8 : Keeps r s8 := .ite k7.autoDue k7
  have k10 : Keeps r s10 := (k8.each fun h => h.autoStart).chgWatch
  have k11 : Keeps r s11 := .ite (k10.each fun h => h.debugResume) k10
  have k12 : Keeps r s12 := k11.each fun h => h.finish
  exact .ite k12.thermalRestart k12

theorem Keeps.settle (h : Keeps r t) : Keeps r (settle s t) := .ite h.blockHooks.dozeWake.serveStart h

/-! ### Sys2Proof/Machine/HostOps.lean -/

theorem Keeps.changing (h : Keeps r s) : Keeps r (changing s m c) := h.putAll.await

theorem Keeps.setModeOp (h : Keeps r s) : Keeps r (setModeOp s m c c1).1 := by
  unfold Machine.setModeOp
  refine .ite_fst h.pair <| .ite_fst h.pair ?_
  split
  · split
    · exact .ite_fst h.chgBegin.changing.pair h.pair
    · exact .ite_fst h.exportBegin.changing.pair h.pair
    · exact h.changing.beginZeroTorque.pair
    · exact h.changing.chgStop.pair
    · exact h.changing.chgStop.pair
    · exact h.changing.pair
  · exact h.pair

theorem Keeps.modeChangeDone (h : Keeps r s) : Keeps r (modeChangeDone s) := by
  unfold Machine.modeChangeDone
  extract_lets
  refine .ite h ?_
  split
  · exact h.completeMode
  · exact .ite h.completeMode h
  · exact .ite h h.put.completeMode
  · exact h

theorem Keeps.hostReg (h : Keeps r s) : Keeps r (hostReg s a d).1 :=
  .ite_fst h.touch.pair <| .ite_fst h.touch.safViolation.pair h.touch.regWrite

theorem Keeps.hostWordWrite (h : Keeps r s) : Keeps r (hostWordWrite s a w).1 :=
  .ite_fst h.touch.pair <| .ite_fst h.touch.pair <| .ite_fst h.touch.pair h.touch.commitWord

theorem Keeps.deviceRead (h : Keeps r s) : Keeps r (deviceRead s a).1 := h.update.busRead.update.pair

theorem Keeps.opSetMode (h : Keeps r s) : Keeps r (opSetMode c s a).1 := by
  unfold Machine.opSetMode
  extract_lets
  split
  · exact h.setModeOp.pair
  · exact h.setModeOp.pair

theorem Keeps.opSetPower (h : Keeps r s) : Keeps r (opSetPower s a).1 := h.powerRequest.orAwait

theorem Keeps.opFeedDrill (h : Keeps r s) : Keeps r (opFeedDrill s x).1 := h.feedDrill.orAwait

theorem Keeps.opThrottleAck (h : Keeps r s) : Keeps r (opThrottleAck s a).1 := h.thmAck.pair.atOnce

theorem Keeps.opRegWrite (h : Keeps r s) : Keeps r (opRegWrite s a).1 := .ite_fst h.hostReg.orAwait h.hostReg.atOnce

theorem Keeps.opRegRead (h : Keeps r s) : Keeps r (opRegRead s a).1 := by
  unfold Machine.opRegRead
  extract_lets
  split
  · exact h.deviceRead.pair
  · exact h.deviceRead.pair

theorem Keeps.opWordWrite (h : Keeps r s) : Keeps r (opWordWrite s a).1 := h.hostWordWrite.atOnce

theorem Keeps.opTorqueSp (h : Keeps r s) : Keeps r (opTorqueSp s a).1 := h.torqueCommit.pair.atOnce

theorem Keeps.opSpeedSp (h : Keeps r s) : Keeps r (opSpeedSp s a).1 := h.speedCommit.pair.atOnce

theorem Keeps.opTorqueLim (h : Keeps r s) : Keeps r (opTorqueLim s a).1 := h.limitCommit.limitCommit.pair.atOnce

theorem Keeps.opActSpeedSp (h : Keeps r s) : Keeps r (opActSpeedSp s a).1 := h.hostReg.atOnce

theorem Keeps.opVoutSp (h : Keeps r s) : Keeps r (opVoutSp s a).1 := h.hostReg.atOnce

theorem Keeps.opChargeSp (h : Keeps r s) : Keeps r (opChargeSp s a).1 := h.hostReg.atOnce

theorem Keeps.opExportSp (h : Keeps r s) : Keeps r (opExportSp s a).1 := h.hostReg.atOnce

theorem Keeps.opAccessorySp (h : Keeps r s) : Keeps r (opAccessorySp s a).1 := h.hostReg.atOnce

theorem Keeps.opGroupRun (h : Keeps r s) : Keeps r (opGroupRun s a).1 :=
  .ite_fst (.ite_fst h.putAll.groupStart.atOnce h.pair.atOnce) <| .ite_fst h.groupStop.pair h.groupStop.pair.atOnce

theorem Keeps.opTripClear (h : Keeps r s) : Keeps r (opTripClear s a).1 := h.tripClear.atOnce

theorem Keeps.opEngine (h : Keeps r s) : Keeps r (opEngine s a).1 := by
  unfold Machine.opEngine
  extract_lets
  split
  · exact h.engineArm.orAwait
  · exact .ite_fst h.engineSwap.pair h.engineSwap.pair.atOnce
  · exact .ite_fst (Keeps.ite h.engineDisarm h.engineStop).pair.atOnce (Keeps.ite h.engineDisarm h.engineStop).pair

theorem Keeps.opSatClear (h : Keeps r s) : Keeps r (opSatClear s a).1 := h.satClear.orAwait

theorem Keeps.opChopClear (h : Keeps r s) : Keeps r (opChopClear s a).1 := h.chopperClear.atOnce

theorem Keeps.opAct (h : Keeps r s) : Keeps r (opAct s a).1 := by
  unfold Machine.opAct
  extract_lets
  split
  · exact h.actRun.orAwait
  · exact .ite_fst h.actStop.orAwait h.actStop.atOnce
  · exact h.actFloat.atOnce
  · exact h.actClr.atOnce

theorem Keeps.opCnv (h : Keeps r s) : Keeps r (opCnv s a).1 := by
  unfold Machine.opCnv
  extract_lets
  split
  · exact h.cnvStart.orAwait
  · exact h.cnvStop.atOnce
  · exact h.cnvClr.atOnce

theorem Keeps.opFjop (h : Keeps r s) : Keeps r (opFjop x d s a).1 := by
  unfold Machine.opFjop
  split
  · exact h.pair
  · split
    · exact h.fjopArrive.pair.atOnce
    · exact h.pair.atOnce

theorem Keeps.opCan (h : Keeps r s) : Keeps r (opCan c d i s a).1 := by
  unfold Machine.opCan
  split
  · exact h.pair
  · exact .ite_fst (Keeps.ite h.canSend.busFree h.canSend).pair h.canSend.pair

theorem Keeps.opFab (h : Keeps r s) : Keeps r (opFab c d s a).1 := by
  unfold Machine.opFab
  split
  · exact h.pair
  · exact h.fabSend.pair

theorem Keeps.opTelem (h : Keeps r s) : Keeps r (opTelem s a).1 := h.telemCfg.atOnce

theorem Keeps.opJnlRead (h : Keeps r s) : Keeps r (opJnlRead s a).1 := .ite_fst h.pair (h.each fun h => h.emit).pair

theorem Keeps.imgRefused (h : Keeps r s) : Keeps r (imgRefused s x).1 := h.refuse.pair

theorem Keeps.opImageWrite (h : Keeps r s) : Keeps r (opImageWrite d b s a).1 := by
  unfold Machine.opImageWrite
  extract_lets
  refine .ite_fst h.imgRefused <| .ite_fst h.imgRefused <| .ite_fst h.imgRefused ?_
  split
  · exact h.pair
  · refine .ite_fst h.pair ?_
    split
    · exact .ite_fst h.storeWrite.pair h.storeWrite.imgRefused
    · exact h.storeWrite.pair

theorem Keeps.cancelImageWrite (h : Keeps r s) : Keeps r (cancelImageWrite s a) := .ite h h.update.storeWrite

theorem Keeps.opSelftest (h : Keeps r s) : Keeps r (opSelftest s a).1 := .ite_fst h.sstStart.pair h.sstStart.orAwait

theorem Keeps.startOp (h : Keeps r s) : Keeps r (startOp s x x1) := by
  unfold Machine.startOp
  split
  · exact h
  · exact .ite h.result <| .ite h h.completeNow.askStart

theorem Keeps.activateOp (h : Keeps r s) : Keeps r (activateOp s x x1) := by
  unfold Machine.activateOp
  split
  · exact h
  · exact .ite h.refuse.result <| .ite h h.ctlWrite.completeNow.update

theorem Keeps.withHost {f : State → State} (h : Keeps r s) (hf : ∀ {s}, Keeps r s → Keeps r (f s)) : Keeps r (withHost s f) :=
  .ite (hf h) h

theorem Keeps.cancelOp (h : Keeps r s) : Keeps r (cancelOp s c o a) := by
  unfold Machine.cancelOp
  extract_lets
  split
  · exact h.update.putAll.chgCancel
  · exact h.update.psAbort
  · exact h.update.setGrp
  · exact h.update.actFloat
  · exact h.update.cnvStop
  · exact h.update.fabCancel
  · exact h.update

theorem Keeps.abortStarted (h : Keeps r s) : Keeps r (abortStarted s c x).1 := by
  unfold Machine.abortStarted
  refine .ite_fst h.pair <| .ite_fst h.pair <| .ite_fst (Keeps.ite h.cancelImageWrite h).result.pair ?_
  split
  · exact .ite_fst h.abortEntry.pair h.abortEntry.pair
  · exact h.result.cancelOp.pair

theorem Keeps.abortOf (h : Keeps r s) : Keeps r (abortOf s m c).1 := by
  unfold Machine.abortOf
  extract_lets
  split
  · exact h.pair
  · refine .ite_fst h.pair ?_
    split
    · exact h.pair
    · exact .ite_fst (.ite_fst h.pair h.mapCmd.result.pair) <| .ite_fst h.pair h.abortStarted

theorem Keeps.opAbort (h : Keeps r s) : Keeps r (opAbort m s a).1 := by
  unfold Machine.opAbort
  extract_lets
  split
  · exact h.abortOf.pair
  · exact h.abortOf.pair

theorem Keeps.tlmSource (h : Keeps r s) : Keeps r (tlmSource s i).1 := by
  unfold Machine.tlmSource
  extract_lets
  split
  · exact .ite_fst h.pair h.pair
  · split
    · exact h.deviceRead.deviceRead.pair
    · exact h.deviceRead.deviceRead.pair
  · exact .ite_fst h.pair h.pair
  · exact h.deviceRead.pair

theorem Keeps.telemetryRead (h : Keeps r s) : Keeps r (telemetryRead s i x) := by
  unfold Machine.telemetryRead
  extract_lets
  refine .ite h <| .ite h.inc ?_
  split
  · exact h.tlmSource
  · exact .ite h.tlmSource.update.postTelemetry <| .ite h.tlmSource.update.postTelemetry h.tlmSource

/-! ### Sys2Proof/Machine/System.lean -/

theorem Keeps.clockWindow (h : Keeps r s) : Keeps r (clockWindow s b) :=
  .ite h (h.update.each fun h => .ite h (Keeps.ite h.putFlag.update h.putFlag).demandEvt)

theorem Keeps.powerOn (h : Keeps r s) : Keeps r (powerOn s) := .ite h (h.each fun h => h.setRx).wantCold

theorem Keeps.sysReset (h : Keeps r s) : Keeps r (sysReset s) := .ite h.setTap h.setTap.wantCold

theorem Keeps.perst (h : Keeps r s) : Keeps r (perst s) := by
  unfold Machine.perst
  exact h.perstAssert.putAll

theorem Keeps.powerLoss (h : Keeps r s) : Keeps r (powerLoss s) := by
  unfold Machine.powerLoss
  extract_lets
  exact .ite h h.coldReset.putAll.update.soutDriveAll

theorem Keeps.supplyRestored (h : Keeps r s) : Keeps r (supplyRestored s) := .ite h.wantCold h

theorem Keeps.islandPowerLoss (h : Keeps r s) : Keeps r (islandPowerLoss s) :=
  h.clearWords.filterRegs.filterBytes.update

theorem Keeps.releasedAccess (h : Keeps r s) : Keeps r (releasedAccess s n x e) := by
  unfold Machine.releasedAccess
  split
  · exact h.readEcc fun h => h.readOut
  · exact h.busWrite
  · exact h
  · exact h.readCounter

theorem Keeps.copyTransaction (h : Keeps r s) : Keeps r (copyTransaction s n c i i1 e) := by
  unfold Machine.copyTransaction
  extract_lets
  split
  · exact h.retiredTo.copyItem.releasedAccess
  · exact h.retiredTo.copyItem

theorem Keeps.byDebug {f : State → State} (h : Keeps r s) (hf : ∀ {s}, Keeps r s → Keeps r (f s)) : Keeps r (byDebug s f) :=
  .ite (hf h.putFlag) h

theorem Keeps.debugHalt (h : Keeps r s) : Keeps r (debugHalt s n m c w) := h.byDebug fun h => .ite h.debugRefused h.openNotice

theorem Keeps.debugAction (h : Keeps r s) : Keeps r (debugAction s n a x) :=
  h.byDebug fun h => by
    split
    · exact .ite h.debugRefused h.busWrite
    · exact h.readOut
    · exact .ite h.debugRefused h.debugReplay
    · exact h.debugReplay
    · exact h.debugReplay

theorem Keeps.bellWake (h : Keeps r s) : Keeps r (bellWake s) := .ite h.wake h

theorem Keeps.periodStarts (h : Keeps r s) : Keeps r (periodStarts s) := h.each fun h => h.periodStart

theorem Keeps.upTicks (h : Keeps r s) : Keeps r (upTicks s) := h.each fun h => h.upTick

theorem Keeps.idleTick (h : Keeps r s) : Keeps r (idleTick s) :=
  .ite h.upTicks.update <| .ite h.upTicks.update.periodStarts.excTick.pilotTick.settle h.upTicks

/-! ### Sys2Proof/Machine/Rows.lean -/

theorem Keeps.regWr {act : State → State × Status} (h : Keeps r s) (hf : ∀ {s}, Keeps r s → Keeps r (act s).1) :
    Keeps r (regWr s x a act) := h.regBy hf

theorem Keeps.ifFitted {act : State → State × Status} (h : Keeps r s) (hf : ∀ {s}, Keeps r s → Keeps r (act s).1) :
    Keeps r (ifFitted s l act).1 := .ite_fst (hf h) h.refuse

theorem Keeps.faultArrives (h : Keeps r s) : Keeps r (faultArrives s l f) := by
  unfold Machine.faultArrives
  extract_lets
  split
  · exact h.takeFault.faultReport
  · exact h.takeFault

theorem Keeps.downIdle (h : Keeps r s) : Keeps r (downIdle s l) := .ite h.down h

theorem Keeps.ifPowered {act : State → State} (h : Keeps r s) (hf : ∀ {s}, Keeps r s → Keeps r (act s)) :
    Keeps r (ifPowered s l act) :=
  .ite h (hf h)

theorem Keeps.upIdle (h : Keeps r s) : Keeps r (upIdle s l) := h.ifPowered fun h => h.sendAlive

theorem Keeps.armSupply (h : Keeps r s) : Keeps r (armSupply s n) := h.ifPowered fun h => h.setRx

theorem Keeps.crossSilent (h : Keeps r s) : Keeps r (crossSilent s n) := h.ifPowered fun h => h.setRx

/-! ### Sys2Proof/Machine/Library.lean -/

theorem Keeps.libStore (h : Keeps r s) : Keeps r (libStore s e x e1 o) := h.setWord.setWord

theorem Keeps.libEvents (h : Keeps r s) : Keeps r (libEvents s e o n) := h.each fun h => h.evtRaise

theorem Keeps.freshFrom (h : Keeps r s) : Keeps r (State.freshFrom s c).2 := h.update.pair_snd

theorem Keeps.libWork (h : Keeps r s) : Keeps r (libWork s e i e1) :=
  ((h.freshFrom.setEng.each fun h => h.libStore).when fun h => h.each fun h => h.setWord).setLib.libEvents

theorem Keeps.triggerRun (h : Keeps r s) : Keeps r (triggerRun s e e1 f) := by
  unfold Machine.triggerRun
  extract_lets
  split
  · exact h.engineTrigger
  · exact .ite h.engineTrigger.libWork h.engineTrigger

theorem Keeps.endRun (h : Keeps r s) : Keeps r (endRun s e e1) := by
  unfold Machine.endRun
  refine .ite (h.leStep fun h => h.leEnd) <| .ite h ?_
  split
  · exact h.engineFault
  · exact h.engineFault
  · exact (h.when fun h => h.inc).runEnd

/-! ### Every command -/

/-- The command answers a next state, which keeps what `Keeps` names. -/
def AnswersKept (r : State) (o : Host.Outcome State Fault Refusal) : Prop :=
  ∃ t, o = .next t ∧ Keeps r t

theorem Keeps.next (h : Keeps r t) : AnswersKept r (.next t) := ⟨t, rfl, h⟩

/-- The step lemma: no command stops, and none touches the queue, the variant or the form of the storage. -/
theorem Keeps.exec (h : Keeps r s) (c : Instr) : AnswersKept r (exec c s) := by
  cases c with
  | registerWrite => exact h.busWrite.settle.next
  | droopStretch => exact h.droopStretch.next
  | avsRequestChange => exact h.avsRequest.next
  | clockMonitorWindowEnd => exact h.clockWindow.settle.next
  | mtimeLoRead => exact h.readOut.next
  | mtimeHiRead => exact h.readOut.next
  | wordLowHalfWrite => exact h.busWrite.settle.next
  | wordHighHalfWrite => exact h.busWrite.settle.next
  | wordLowHalfRead => exact (h.readEcc fun h => h.readOut).next
  | wordHighHalfRead => exact (h.readEcc fun h => h.readOut).next
  | host64bitWordWrite => exact h.hostWord.next
  | host64bitWordRead => exact (h.readEcc fun h => h.hostWordRead).next
  | powerOn => exact h.powerOn.settle.next
  | sysResetAssert => exact h.sysReset.settle.next
  | sysResetRelease => exact h.tapRelease.next
  | perstAssert => exact h.perst.next
  | startStepEnd => exact h.stepEnd.settle.next
  | startLimitExpiry => exact h.startLimit.settle.next
  | fabricStepTimeout => exact h.fabricTimeout.next
  | modeChangeComplete => exact h.modeChangeDone.settle.next
  | legGroupWrite => exact ((h.regWr fun h => h.ifFitted fun h => h.legGroup).settle).next
  | groupStart => exact ((h.regWr fun h => h.groupRun).settle).next
  | groupStop => exact ((h.regWr fun h => h.groupRun).settle).next
  | groupCommit => exact ((h.regWr fun h => h.groupCommit.recorded).settle).next
  | commitSetArrival => exact h.commitArrival.dozeWake.next
  | reloadInstant => exact h.reloadGroup.settle.next
  | triggerFire => exact h.triggerFire.next
  | edgeCommandDeparture => exact h.edgeDeparture.next
  | legForceWrite => exact ((h.regWr fun h => h.ifFitted fun h => h.legForce).settle).next
  | tripSourceChange => exact h.tripSourceChange.next
  | tripFilterSettled => exact h.tripSettled.next
  | tripClearRequest => exact ((h.regWr fun h => h.tripClear.recorded).settle).next
  | timeFrame => exact (h.onDown fun h => h.takeTime).next
  | edgeFrame => exact (h.onDown fun h => h.takeEdge).next
  | transitionFrame => exact (h.onDown fun h => h.takeTransition).next
  | cutFrame => exact (h.onDown fun h => h.takeCut).next
  | dtsetFrame => exact (h.onDown fun h => h.takeDtset).next
  | cfgWrFrame => exact (h.onDown fun h => h.takeCfgWr).next
  | cfgRdFrame => exact (h.onDown fun h => h.takeCfgRd).next
  | clearFrame => exact (h.onDown fun h => h.takeClear).next
  | calFrame => exact (h.onDown fun h => h.up).next
  | resumeFrame => exact (h.onDown fun h => h.takeResume).next
  | identReqFrame => exact (h.onDown fun h => h.takeIdentReq).next
  | aliveFrame => exact ((h.onUp fun h => h.takeAlive).settle).next
  | treportFrame => exact (h.onUp fun h => h.takeTreport).next
  | faultFrame => exact ((h.onUp fun h => h.faultArrives).settle).next
  | cfgDataFrame => exact (h.onUp fun h => h.takeCfgData).next
  | measFrame => exact ((h.onUp fun h => h.measSample).dozeWake).next
  | xrefuseFrame => exact (h.onUp fun h => h.takeXrefuse).next
  | calEchoFrame => exact (h.onUp fun h => h.takeCalEcho).next
  | identFrame => exact (h.onUp fun h => h.takeIdent).next
  | downLinkIdle => exact h.downIdle.next
  | upLinkIdle => exact h.upIdle.next
  | downLinkSilent => exact h.downSilent.next
  | upLinkSilent => exact h.upSilent.next
  | linkCalibration => exact h.linkCalibration.dozeWake.next
  | gsCfgWrite => exact ((h.regWr fun h => h.gsCfg).settle).next
  | gsClear => exact ((h.regWr fun h => h.satClear).settle).next
  | ldClear => exact ((h.regWr fun h => h.satClear).settle).next
  | clearAnswerTimeout => exact h.clearTimeout.next
  | vposUv => exact h.supplyFault.next
  | vnegRange => exact h.supplyFault.next
  | vposBelowReset => exact h.belowReset.next
  | vposArmed => exact h.armSupply.next
  | blankingEnd => exact h.blankingEnd.next
  | baselineSample => exact h.baselineSample.next
  | desatValid => exact h.desatValid.next
  | shortCircuitTrip => exact h.shortCircuit.next
  | softOffTimer => exact h.softOffTimer.next
  | vdsValid => exact h.vdsFault.next
  | drvUv => exact h.driverUv.next
  | permitCodeTaken => exact h.permitTaken.next
  | permitLoss => exact h.permitLoss.next
  | crossLinkState => exact h.crossLink.next
  | crossLinkSilent => exact h.crossSilent.next
  | edgePlacement => exact h.edgePlacement.next
  | partnerOffTurnOn => exact h.partnerOff.next
  | transitionMeasured => exact h.transitionMeasured.next
  | satelliteMeasurement => exact h.satMeasure.next
  | measurementStale => exact h.measGone.dozeWake.next
  | adcEnable => exact ((h.regWr fun h => h.adcCtrlWrite).settle).next
  | adcDisable => exact ((h.regWr fun h => h.adcCtrlWrite).settle).next
  | adcSwStart => exact ((h.regWr fun h => h.adcSwreq.pair).settle).next
  | adcTriggerEvent => exact h.adcTrigger.dozeWake.next
  | adcSwUrgent => exact ((h.regWr fun h => h.adcSwreq.pair).settle).next
  | adcUrgentEvent => exact h.adcUrgentEvt.next
  | conversionEnd => exact h.conversionEnd.dozeWake.next
  | comparatorWatchExpiry => exact h.cmpWatch.dozeWake.next
  | modulatorOutput => exact h.modulatorOutput.settle.next
  | modStuck => exact h.modStuck.dozeWake.next
  | mirrorRecordRead => exact h.readOut.next
  | fbEnable => exact ((h.regWr fun h => h.fbCfg).settle).next
  | fbDisable => exact ((h.regWr fun h => h.fbCfg).settle).next
  | quadratureEdge => exact h.quadEdge.dozeWake.next
  | hallStateChange => exact h.hallChange.dozeWake.next
  | indexPulse => exact h.indexPulse.dozeWake.next
  | fbArm => exact ((h.regWr fun h => h.fbArm.pair).settle).next
  | fbSet => exact ((h.regWr fun h => h.loadCnt.pair).settle).next
  | ssiFrameStart => exact h.ssiStart.next
  | ssiFrameEnd => exact h.ssiEnd.dozeWake.next
  | resolverRequest => exact h.resolverRequest.next
  | resolverUpdate => exact h.resolverUpdate.dozeWake.next
  | eventLatch => exact h.eventLatch.dozeWake.next
  | pinLatch => exact h.pinLatch.dozeWake.next
  | standstillTimeout => exact h.standstill.next
  | feedbackSlotWrite => exact h.fbSlot.next
  | fbCntRead => exact h.readOut.next
  | emulatorEdge => exact h.emulatorEdge.next
  | engineArm => exact ((h.regWr fun h => h.engineArm).settle).next
  | engineDisarm => exact ((h.regWr fun h => h.engineDisarm.pair).settle).next
  | engineStop => exact ((h.regWr fun h => h.engineStop.pair).settle).next
  | engineSwap => exact ((h.regWr fun h => h.engineSwap.pair).settle).next
  | checkEnd => exact h.checkEnd.next
  | engineTrigger => exact h.triggerRun.settle.next
  | budgetOverrun => exact h.budgetOverrun.settle.next
  | leNop => exact ((h.leStep fun h => h.leNop).settle).next
  | leLd => exact ((h.leStep fun h => h.leLd).settle).next
  | leLds => exact ((h.leStep fun h => h.leLds).settle).next
  | leLdc => exact ((h.leStep fun h => h.leLdc).settle).next
  | leLdt => exact ((h.leStep fun h => h.leLdt).settle).next
  | leLdi => exact ((h.leStep fun h => h.leLdi).settle).next
  | leSt => exact ((h.leStep fun h => h.leSt).settle).next
  | leSts => exact ((h.leStep fun h => h.leSts).settle).next
  | leMov => exact ((h.leStep fun h => h.leMov).settle).next
  | leLda => exact ((h.leStep fun h => h.leLda).settle).next
  | leLdp => exact ((h.leStep fun h => h.leLdp).settle).next
  | leAddp => exact ((h.leStep fun h => h.leAddp).settle).next
  | leAdd => exact ((h.leStep fun h => h.leAdd).settle).next
  | leSub => exact ((h.leStep fun h => h.leSub).settle).next
  | leNeg => exact ((h.leStep fun h => h.leNeg).settle).next
  | leAbs => exact ((h.leStep fun h => h.leAbs).settle).next
  | leAddw => exact ((h.leStep fun h => h.leAddw).settle).next
  | leMul => exact ((h.leStep fun h => h.leMul).settle).next
  | leMulc => exact ((h.leStep fun h => h.leMulc).settle).next
  | leMulw => exact ((h.leStep fun h => h.leMulw).settle).next
  | leDiv => exact ((h.leStep fun h => h.leDiv).settle).next
  | leAsh => exact ((h.leStep fun h => h.leAsh).settle).next
  | leMin => exact ((h.leStep fun h => h.leMin).settle).next
  | leMax => exact ((h.leStep fun h => h.leMax).settle).next
  | leClamp => exact ((h.leStep fun h => h.leClamp).settle).next
  | leVlim => exact ((h.leStep fun h => h.leVlim).settle).next
  | leMac => exact ((h.leStep fun h => h.leMac).settle).next
  | leMacc => exact ((h.leStep fun h => h.leMacc).settle).next
  | leMsu => exact ((h.leStep fun h => h.leMsu).settle).next
  | leMsuc => exact ((h.leStep fun h => h.leMsuc).settle).next
  | leClra => exact ((h.leStep fun h => h.leClra).settle).next
  | leLdam => exact ((h.leStep fun h => h.leLdam).settle).next
  | leAdda => exact ((h.leStep fun h => h.leAdda).settle).next
  | leNorm => exact ((h.leStep fun h => h.leNorm).settle).next
  | leStage => exact ((h.leStep fun h => h.leStage).settle).next
  | leCmp => exact ((h.leStep fun h => h.leCmp).settle).next
  | leSel => exact ((h.leStep fun h => h.leSel).settle).next
  | leSkip => exact ((h.leStep fun h => h.leSkip).settle).next
  | leLoop => exact ((h.leStep fun h => h.leLoop).settle).next
  | leEnd => exact h.endRun.settle.next
  | leEvt => exact ((h.leStep fun h => h.leEvt).settle).next
  | leSincos => exact ((h.leStep fun h => h.leSincos).settle).next
  | lePolar => exact ((h.leStep fun h => h.lePolar).settle).next
  | leClarke => exact ((h.leStep fun h => h.leClarke).settle).next
  | lePark => exact ((h.leStep fun h => h.lePark).settle).next
  | leIpark => exact ((h.leStep fun h => h.leIpark).settle).next
  | leSvm => exact ((h.leStep fun h => h.leSvm).settle).next
  | leTbl => exact ((h.leStep fun h => h.leTbl).settle).next
  | leCommit => exact ((h.leStep fun h => h.leCommit).settle).next
  | tractionSlotEnable => exact ((h.regWr fun h => h.trcCfgWrite).settle).next
  | dcLinkResult => exact h.dcLinkResult.settle.next
  | dcLinkWatchExpiry => exact h.dcLinkStale.next
  | chopperCheck => exact h.chopperCheck.settle.next
  | chopperClearWrite => exact ((h.regWr fun h => h.chopperClear).settle).next
  | speedWordTimer => exact h.speedTimer.settle.next
  | speedWordTimeout => exact h.speedLost.next
  | torqueSetpointCommit => exact h.busWrite.settle.next
  | speedSetpointCommit => exact h.busWrite.settle.next
  | torqueLimitCommit => exact h.busWrite.settle.next
  | setpointTimeout => exact h.setpointTimeout.next
  | tractionOutputRead => exact h.tractionRead.settle.next
  | zeroTorqueTimeout => exact h.zeroTorqueTimeout.settle.next
  | actuatorEnable => exact ((h.regWr fun h => h.actCfgWrite).settle).next
  | actuatorDisable => exact ((h.regWr fun h => h.actCfgWrite).settle).next
  | actuatorSample => exact h.actSample.settle.next
  | commutation => exact h.commutation.next
  | actRun => exact ((h.regWr fun h => h.actCmdWrite).settle).next
  | actStop => exact ((h.regWr fun h => h.actCmdWrite).settle).next
  | actFloat => exact ((h.regWr fun h => h.actCmdWrite).settle).next
  | actClr => exact ((h.regWr fun h => h.actCmdWrite).settle).next
  | alignEnd => exact h.alignEnd.settle.next
  | forcedStep => exact h.forcedStep.next
  | rampTimeout => exact h.rampTimeout.settle.next
  | retryWaitEnd => exact h.retryWaitEnd.settle.next
  | speedLoopTick => exact h.speedLoopTick.settle.next
  | listenTimeout => exact h.listenTimeout.settle.next
  | belowRestart => exact h.belowRestart.settle.next
  | coastTimeout => exact h.coastTimeout.settle.next
  | actEventPop => exact h.readOut.next
  | converterEnable => exact ((h.regWr fun h => h.cnvCfgWrite).settle).next
  | converterDisable => exact ((h.regWr fun h => h.cnvCfgWrite).settle).next
  | cnvStart => exact ((h.regWr fun h => h.cnvCmdWrite).settle).next
  | cnvStop => exact ((h.regWr fun h => h.cnvCmdWrite).settle).next
  | cnvClr => exact ((h.regWr fun h => h.cnvCmdWrite).settle).next
  | softStartRampStep => exact h.rampStep.next
  | startCheck => exact h.startCheck.next
  | outputVoltageResult => exact h.outputResult.next
  | currentLimitEvaluation => exact ((Keeps.ite h.boostLimit h.limitEvaluation).settle).next
  | hiccupEnd => exact h.hiccupEnd.next
  | tryReset => exact h.tryReset.next
  | releaseHeldTimeout => exact h.releaseHeld.next
  | phaseShed => exact h.phaseShed.next
  | converterOutputRead => exact h.converterRead.next
  | chargerEnable => exact ((h.regWr fun h => h.chgCfgWrite).settle).next
  | pilotEdge => exact h.pilotEdge.next
  | pilotSteady => exact h.pilotSteady.next
  | pilotResult => exact h.pilotResult.settle.next
  | proximityResult => exact h.proximityResult.next
  | plugDebounce => exact h.plugDebounce.settle.next
  | mainsReport => exact h.mainsReport.settle.next
  | mainsZeroCrossTimeout => exact h.zeroCrossTimeout.settle.next
  | mainsQualified => exact h.mainsQualified.settle.next
  | qualifyTimeout => exact h.qualifyTimeout.settle.next
  | busReady => exact h.busReady.settle.next
  | pulseEnd => exact h.chargePulseEnd.next
  | restEnd => exact h.restEnd.next
  | impedanceWindowEnd => exact h.impedanceEnd.next
  | chargerOutputRead => exact h.chargerRead.settle.next
  | chargeTermination => exact h.chargeTermination.settle.next
  | safetyTimerEvaluation => exact h.safetyTimer.settle.next
  | handoverComplete => exact h.handoverComplete.settle.next
  | sessionResume => exact h.sessionResume.next
  | waitTimeout => exact h.waitTimeout.settle.next
  | exportReady => exact h.exportReady.settle.next
  | exportSetpointWrite => exact ((h.regWr fun h => h.exportWrite).settle).next
  | exportSetpointTimeout => exact h.exportTimeout.settle.next
  | boostReady => exact h.boostReady.settle.next
  | safetyInputFiltered => exact h.safetyInput.settle.next
  | discrepancyTimeout => exact h.discrepancy.settle.next
  | ov3Comparator => exact h.ov3Output.settle.next
  | saggarTableWrite => exact ((h.regWr fun h => h.ascTableWrite).settle).next
  | safeOutputRequest => exact ((h.regWr fun h => h.soutRequest.pair).settle).next
  | safeOutputTest => exact h.soutTest.next
  | testPulseEnd => exact h.pulseEnd.settle.next
  | safeOutputOverload => exact h.soutOverload.next
  | safeOutputOpen => exact h.soutOpen.next
  | contactorDelayExpiry => exact h.contactorDelay.next
  | parkSpeedConfirmed => exact h.parkConfirmed.next
  | heartbeatWrite => exact ((h.regWr fun h => h.heartbeat.pair).settle).next
  | heartbeatTimeout => exact h.heartbeatTimeout.settle.next
  | safetyCoreDemand => exact ((h.regWr fun h => h.safDemand.pair).settle).next
  | releaseFirstKey => exact ((h.regWr fun h => h.releaseFirst.pair).settle).next
  | releaseSecondKey => exact ((h.regWr fun h => h.releaseSecond.pair).settle).next
  | releaseWindowExpiry => exact h.releaseExpiry.next
  | fjopFrameArrival => exact h.fjopArrive.settle.next
  | fjopReceiveTimeout => exact h.fjopTimeout.settle.next
  | fjopReset => exact ((h.regWr fun h => h.fjopCmd).settle).next
  | fjopSend => exact ((h.regWr fun h => h.fjopCmd).settle).next
  | fjopSendTimeout => exact h.fjopSendTimeout.settle.next
  | copyTransaction => exact h.copyTransaction.settle.next
  | retireSignature => exact h.retiredTo.retireSignature.settle.next
  | comparatorTimeout => exact h.comparatorTimeout.settle.next
  | interruptNotice => exact h.openNotice.dozeWake.next
  | agreementReport => exact h.agreementReport.dozeWake.next
  | asyncValueRead => exact h.asyncRead.next
  | valueResample => exact h.valueResample.settle.next
  | localParityError => exact h.localParity.settle.next
  | debugHaltRequest => exact h.debugHalt.next
  | debugAction => exact h.debugAction.settle.next
  | debugResume => exact h.debugResume.next
  | feedMeasurement => exact h.feedMeasure.settle.next
  | switchOverCheck => exact h.switchCheck.dozeWake.next
  | pwrFeedDrill => exact ((h.regWr fun h => h.feedDrill).settle).next
  | feedDrillEnd => exact h.feedDrillEnd.dozeWake.next
  | dipStart => exact h.dipStart.next
  | dipEnd => exact h.dipEnd.dozeWake.next
  | storeWritesResume => exact h.storeWritesResume.next
  | powerLossSequence => exact h.powerLoss.settle.next
  | supplyRestoredStart => exact h.supplyRestored.settle.next
  | island41PowerLoss => exact h.islandPowerLoss.next
  | holdOkChange => exact h.holdOk.next
  | pmbusAcknowledge => exact h.pmbusAck.psCheck.settle.next
  | pmbusAckTimeout => exact h.pmbusTimeout.psCheck.settle.next
  | pmbusAlert => exact h.pmbusAlert.next
  | vidSettled => exact h.vidSettled.psCheck.settle.next
  | clockDividerWrite => exact ((h.regWr fun h => h.dividerWrite).settle).next
  | railLost => exact h.railLost.settle.next
  | powerStateRequest => exact ((h.regWr fun h => h.powerRequest).settle).next
  | participantAnswer => exact h.participantAnswer.settle.next
  | pairAnswer => exact ((h.regWr fun h => h.pairAnswer).settle).next
  | pairAnswerTimeout => exact h.pairSilent.settle.next
  | delayTimeout => exact h.delayTimeout.next
  | wakePinEdge => exact h.pinWake.settle.next
  | canActivityWake => exact h.canWake.settle.next
  | wakeTimerExpiry => exact h.timerWake.settle.next
  | railWakeTimeout => exact h.railWakeTimeout.next
  | railRetry => exact h.railRetry.next
  | retentionRailDrop => exact h.railDrop.next
  | retentionBankClear => exact ((h.regWr fun h => h.bankClear.pair).settle).next
  | bankZeroed => exact h.bankZeroed.next
  | domainPowerUp => exact h.domainUp.next
  | thermalEvaluation => exact h.thermalEvaluation.dozeWake.next
  | zonePendingEnd => exact h.zonePendingEnd.dozeWake.next
  | graceEnd => exact h.graceEnd.next
  | derateStep => exact h.derateStep.next
  | thmAckWrite => exact ((h.regWr fun h => h.thmAck.pair).settle).next
  | sqTailDoorbell => exact h.sqTail.bellWake.settle.next
  | cqHeadDoorbell => exact h.headDoorbell.bellWake.settle.next
  | tlmHeadDoorbell => exact h.headDoorbell.bellWake.settle.next
  | evtHeadDoorbell => exact h.headDoorbell.bellWake.settle.next
  | descriptorFetch => exact h.descriptorFetch.next
  | acceptanceCommitted => exact h.acceptanceCommitted.next
  | commandStart => exact h.commandStart.next
  | notBeforeReached => exact h.notBefore.next
  | notAfterExpiry => exact h.notAfter.next
  | commandCompletion => exact h.commandCompletion.next
  | irqGapExpiry => exact h.irqGapExpiry.next
  | dmaError => exact h.dmaError.next
  | busMasterDisable => exact h.setBusMaster.next
  | ringResetWrite => exact ((h.regWr fun h => .ite_fst h.pair h.ringReset.pair).settle).next
  | hostStartCold => exact ((h.regWr fun h => h.hostStart).settle).next
  | hostStartWarm => exact ((h.regWr fun h => h.hostStart).settle).next
  | telemetryRead => exact h.telemetryRead.next
  | jnlWindowSelect => exact ((h.regWr fun h => h.windowSelect.pair).settle).next
  | nop => exact (h.runOp fun h => h.pair.atOnce).next
  | abort => exact ((h.runOp fun h => h.opAbort).settle).next
  | setMode => exact ((h.runOp fun h => h.opSetMode).settle).next
  | start => exact h.startOp.settle.next
  | setPower => exact (h.runOp fun h => h.opSetPower).next
  | feedDrill => exact ((h.runOp fun h => h.opFeedDrill).dozeWake).next
  | throttleAck => exact (h.runOp fun h => h.opThrottleAck).next
  | jnlMark => exact (h.runOp fun h => h.pair.atOnce).next
  | regWrite => exact ((h.runOp fun h => h.opRegWrite).settle).next
  | regRead => exact (h.runOp fun h => h.opRegRead).next
  | wordWrite => exact (h.runOp fun h => h.opWordWrite).next
  | torqueSp => exact (h.runOp fun h => h.opTorqueSp).next
  | speedSp => exact (h.runOp fun h => h.opSpeedSp).next
  | torqueLim => exact (h.runOp fun h => h.opTorqueLim).next
  | actSpeedSp => exact ((h.runOp fun h => h.opActSpeedSp).settle).next
  | voutSp => exact ((h.runOp fun h => h.opVoutSp).settle).next
  | chargeSp => exact ((h.runOp fun h => h.opChargeSp).settle).next
  | exportSp => exact ((h.runOp fun h => h.opExportSp).settle).next
  | accessorySp => exact ((h.runOp fun h => h.opAccessorySp).settle).next
  | groupRun => exact ((h.runOp fun h => h.opGroupRun).settle).next
  | tripClear => exact (h.runOp fun h => h.opTripClear).next
  | engineCmd => exact (h.runOp fun h => h.opEngine).next
  | satClear => exact (h.runOp fun h => h.opSatClear).next
  | chopClear => exact (h.runOp fun h => h.opChopClear).next
  | actCmd => exact ((h.runOp fun h => h.opAct).settle).next
  | cnvCmd => exact (h.runOp fun h => h.opCnv).next
  | fjopFrame => exact ((h.withHost fun h => h.runOp fun h => h.opFjop).settle).next
  | canSend => exact (h.withHost fun h => h.runOp fun h => h.opCan).next
  | fabSend => exact ((h.withHost fun h => h.runOp fun h => h.opFab).dozeWake).next
  | telemCfg => exact (h.runOp fun h => h.opTelem).next
  | jnlRead => exact (h.withHost fun h => h.runOp fun h => h.opJnlRead).next
  | imageWrite => exact (Keeps.ite h (h.withHost fun h => h.runOp fun h => h.opImageWrite)).next
  | imageActivate => exact h.activateOp.settle.next
  | satSelftest => exact (h.runOp fun h => h.opSelftest).next
  | portSignalDetected => exact h.portSignal.next
  | portUp => exact h.portUp.dozeWake.next
  | trainingTimeout => exact h.trainingTimeout.next
  | portDown => exact h.portDown.dozeWake.next
  | fragmentReceived => exact h.fragmentReceived.next
  | dataFrame => exact h.dataFrame.dozeWake.next
  | fjopFabricFrame => exact h.fjopFabric.settle.next
  | fabricTimeFrame => exact h.fabTime.dozeWake.next
  | discFrame => exact h.discFrame.dozeWake.next
  | rosterFrame => exact h.rosterFrame.next
  | announceFrame => exact h.announceFrame.dozeWake.next
  | statusFrame => exact h.statusFrame.next
  | discoveryTimeout => exact h.discoveryTimeout.next
  | rosterTimer => exact h.rosterTimer.next
  | timeFrameTimer => exact h.timeTimer.next
  | ringTimeTimeout => exact h.ringTimeTimeout.dozeWake.next
  | statusFrameTimer => exact h.statusTimer.next
  | admissionRelease => exact h.admissionRelease.next
  | fabTxqTail => exact ((h.regWr fun h => h.txqTail).settle).next
  | fabricTxComplete => exact h.txComplete.dozeWake.next
  | fabRxqAck => exact ((h.regWr fun h => h.rxqAck.pair).settle).next
  | fabWakeCommand => exact ((h.regWr fun h => h.fabWake.pair).settle).next
  | fabricWakeBurst => exact h.fabricWake.settle.next
  | canModeWrite => exact ((h.regWr fun h => h.canMode).settle).next
  | busIntegrationEnd => exact h.integrated.next
  | canFrameReceived => exact h.frameReceived.settle.next
  | filterWalkEnd => exact h.walkEnd.dozeWake.next
  | canBusOff => exact h.busOff.dozeWake.next
  | canRecover => exact ((h.regWr fun h => h.canRecover.pair).settle).next
  | busOffRecoveryEnd => exact h.recovered.dozeWake.next
  | filterCommit => exact ((h.regWr fun h => h.filterCommit).settle).next
  | canTxRequest => exact ((h.regWr fun h => h.txRequest.pair).settle).next
  | canTxAbort => exact ((h.regWr fun h => h.txAbort.pair).settle).next
  | canAttemptEnd => exact h.attemptEnd.dozeWake.next
  | canTxCompletion => exact h.txEnd.dozeWake.next
  | canRxqAck => exact ((h.regWr fun h => h.canAck.pair).settle).next
  | safetyBufferWrite => exact h.safetyBuffer.next
  | canReceiveError => exact h.receiveError.dozeWake.next
  | canProtocolException => exact h.protocolException.dozeWake.next
  | tapReset => exact h.tapReset.next
  | instructionLoad => exact h.instructionLoad.next
  | authCapture => exact h.authCapture.next
  | authUpdate => exact h.authUpdate.next
  | authCheckEnd => exact h.authCheckEnd.next
  | relock => exact ((h.regWr fun h => h.relock.pair).settle).next
  | atbSelect => exact ((h.regWr fun h => h.atbSelect).settle).next
  | selftestGo => exact ((h.regWr fun h => h.selftestGo).settle).next
  | satelliteSelftestResult => exact h.sstEnd.next
  | traceWriteTimeout => exact h.traceTimeout.next
  | discrepancyHoldEnd => exact h.discrepancyEnd.next
  | leavingReset => exact h.leaveReset.next
  | vposUvCleared => exact h.setRx.next
  | vnegRangeCleared => exact h.setRx.next
  | drvUvCleared => exact h.setRx.next
  | perstRelease => exact h.perstRelease.next
  | busMasterEnable => exact h.setBusMaster.next
  | pcieLinkUp => exact h.linkUp.next

/-! ### A step -/

/-- The queue is no part of the storage. -/
theorem storageWf_pending {q : List Instr} {s : State} : ({ s with pending := q } : State).storageWf = s.storageWf := rfl

/-- Settles O3. The front command leaves the queue it finds, which lacks that command already; an idle step has no command. -/
theorem stepKeepsStorage : Obligations.StepKeepsStorage := by
  intro s t wf e
  unfold step at e
  split at e
  next hq =>
    cases e
    obtain ⟨queue, variant, storage⟩ := (Keeps.refl s).idleTick
    exact ⟨storage wf, variant, by rw [queue, hq]; rfl⟩
  next c rest hq =>
    obtain ⟨u, hu, queue, variant, storage⟩ := (Keeps.refl { s with pending := rest }).exec c
    cases hu.symm.trans e
    exact ⟨storage (storageWf_pending.trans wf), variant, by rw [queue, hq]; rfl⟩

/-- Settles O1: `step` takes the front command off the queue, and by `Keeps.exec` every command answers a next state. -/
theorem stepRunsFrontCommand : Obligations.StepRunsFrontCommand := by
  intro c q s
  obtain ⟨t, answer, -⟩ := (Keeps.refl s).exec c
  exact ⟨rfl, t, answer⟩

/-! ### The reset state -/

/-- Before anything is written, a field reads the bits of its cold-start column that it has room for. -/
theorem fld_reset (f : Fld) : State.reset.fld f = f.cold % 2 ^ f.width := rfl

/-- The cold-start value of every row of the register tables fits the row's width. -/
theorem rows_cold_fit (b : Blk) : ∀ r ∈ b.rows, r.cold < 2 ^ r.width := by
  cases b <;> decide

/-- What O4 means and what holds: the fields of the register tables, unlike an arbitrary `Fld`, read their cold-start column. -/
theorem fld_reset_of_mem_rows {b : Blk} {r : Row} (hr : r ∈ b.rows) (a : Nat) : State.reset.fld (r.fld a) = r.cold :=
  Nat.mod_eq_of_lt (rows_cold_fit b r hr)

/-- The clauses of O4 that name no field. -/
theorem reset_storageWf_and_idle :
    State.reset.storageWf = true ∧ State.reset.pending = [] ∧ State.reset.mode = 0 ∧
      (∀ a : Nat, State.reset.word a = 0) ∧ (∀ a : Nat, State.reset.byte a = State.memDefault) :=
  ⟨rfl, rfl, rfl, fun _ => rfl, fun _ => rfl⟩

/-- Refutes O4: it speaks of every `Fld`, and one of width 0 whose cold-start value is 1 reads 0. -/
theorem not_resetIsSound : ¬ Obligations.ResetIsSound := by
  rintro ⟨-, -, -, fields, -, -⟩
  have reads : State.reset.fld ⟨0, 0, 0, 1⟩ = 1 := fields ⟨0, 0, 0, 1⟩
  rw [fld_reset] at reads
  exact absurd reads (by decide)

end Sys2Proof.Machine
end

section
/-! SUPPORT and PROOFS of the architecture (chapter 01, with the link timers of chapter 04 and the retention banks of chapter 14). Each
group gives first what the model's functions come to in the cases that its statement names, as an equation or a frame, and ends with
the statement. -/

namespace Sys2Proof.Machine

/-! ### Loops over one index -/

theorem filter_range_singleton {n i : Nat} {p : Nat → Bool} (hi : i < n) (h : ∀ j < n, p j = true ↔ j = i) :
    (List.range n).filter p = [i] := by
  have same : (List.range n).filter p = (List.range n).filter (· == i) :=
    List.filter_congr fun j hj => Bool.eq_iff_iff.2 ((h j (List.mem_range.1 hj)).trans beq_iff_eq.symm)
  rw [same, List.filter_beq, List.count_eq_one_of_mem List.nodup_range (List.mem_range.2 hi), List.replicate_one]

theorem State.each_filter_none {s : State} {n : Nat} {p : Nat → Bool} {f : State → Nat → State} (h : ∀ i : Fin n, p i = false) :
    s.each ((List.range n).filter p) f = s := by
  have none : (List.range n).filter p = [] := List.filter_eq_nil_iff.2 fun i hi => by simp [h ⟨i, List.mem_range.1 hi⟩]
  rw [none]
  rfl

theorem State.each_filter_one {s : State} {n i : Nat} {p : Nat → Bool} {f : State → Nat → State} (hi : i < n)
    (h : ∀ j < n, p j = true ↔ j = i) : s.each ((List.range n).filter p) f = f s i := by
  rw [filter_range_singleton hi h]
  rfl

/-! ### The idle tick (R26, R28) -/

theorem upTicks_idle {s : State} (h : ∀ l : Fin 60, (s.rxOf l).upBusy = 0) : upTicks s = s :=
  State.each_filter_none fun l => by simp [h l]

theorem upTicks_one {s : State} (l : Fin 60) (busy : 0 < (s.rxOf l).upBusy) (idle : ∀ k : Fin 60, k ≠ l → (s.rxOf k).upBusy = 0) :
    upTicks s = upTick s l := by
  refine State.each_filter_one l.isLt fun j hj => ?_
  by_cases e : j = l
  · simp [e, busy]
  · simp [e, idle ⟨j, hj⟩ fun k => e (congrArg Fin.val k)]

/-- An up link's tick touches neither the register file nor island 32's clock. -/
theorem upTick_frame (s : State) (l : Nat) : (upTick s l).regs = s.regs ∧ (upTick s l).timeRuns = s.timeRuns := by
  simp only [upTick]
  split
  · exact ⟨rfl, rfl⟩
  · split <;> exact ⟨rfl, rfl⟩

theorem periodStarts_none {s : State} (due : ∀ g : Fin 12, (s.grpOf g).due = false) : periodStarts s = s := State.each_filter_none due

theorem excTick_none {s : State} (h : s.mtime % 40 ≠ 0 ∨ ∀ c : Fin 4, s.flag (FB_EXC_EN c) = false) : excTick s = s := by
  unfold excTick
  rcases h with notDue | off
  · rw [if_pos notDue]
  · rw [State.each_filter_none off, ite_self]

theorem pilotTick_off {s : State} (off : s.flag CHG_CFG_EN = false) : pilotTick s = s := by simp [pilotTick, off]

/-- With no period start, code or conversion due, a tick sets nothing off. -/
theorem tickWork_none {s : State} (due : ∀ g : Fin 12, (s.grpOf g).due = false)
    (exc : s.mtime % 40 ≠ 0 ∨ ∀ c : Fin 4, s.flag (FB_EXC_EN c) = false) (chg : s.flag CHG_CFG_EN = false) :
    pilotTick (excTick (periodStarts s)) = s := by
  rw [periodStarts_none due, excTick_none exc, pilotTick_off chg]

theorem psState_quiet {s : State} (quiet : s.quiet = true) : psState s = 0 := by
  simp only [State.quiet, Bool.and_eq_true, decide_eq_true_eq] at quiet
  obtain ⟨⟨⟨run, -⟩, -⟩, -⟩ := quiet
  exact run

theorem idleTick_retain {s : State} (idle : ∀ l : Fin 60, (s.rxOf l).upBusy = 0) (retain : psState s = 2) :
    idleTick s = { s with sup := { s.sup with asleep := s.sup.asleep + 1 } } := by
  simp only [idleTick, upTicks_idle idle]
  rw [if_pos retain]

theorem idleTick_stands {s : State} (awake : psState (upTicks s) ≠ 2) (stands : (upTicks s).timeRuns = false) :
    idleTick s = upTicks s := by simp [idleTick, awake, stands]

/-- With nothing due on a quiet device, a tick of module time is no more than that. -/
theorem idleTick_time {s : State} (idle : ∀ l : Fin 60, (s.rxOf l).upBusy = 0) (quiet : s.quiet = true) (runs : s.timeRuns = true)
    (due : ∀ g : Fin 12, (s.grpOf g).due = false) (exc : (s.mtime + 1) % 2 ^ 64 % 40 ≠ 0 ∨ ∀ c : Fin 4, s.flag (FB_EXC_EN c) = false)
    (chg : s.flag CHG_CFG_EN = false) : idleTick s = { s with mtime := (s.mtime + 1) % 2 ^ 64 } := by
  have awake : psState s ≠ 2 := by simp [psState_quiet quiet]
  simp only [idleTick, upTicks_idle idle]
  rw [if_neg awake, if_pos runs, tickWork_none (s := { s with mtime := (s.mtime + 1) % 2 ^ 64 }) due exc chg]
  exact settle_quiet quiet (SameWatch.of_regs rfl rfl rfl)

/-- Settles O2: a step on an empty queue is `idleTick`, which `upTicks` leaves to RETAIN, to a standing clock or to module time. -/
theorem idleStepIsOneTick : Obligations.IdleStepIsOneTick := by
  intro s empty
  have tick : step s = .next (idleTick s) := by simp [step, empty]
  rw [tick]
  refine ⟨fun idle => ⟨fun retain => ?_, fun awake stands => ?_, fun quiet runs due exc chg => ?_⟩, fun l busy others awake stands => ?_⟩
  · rw [idleTick_retain idle retain]
  · rw [idleTick_stands, upTicks_idle idle] <;> rwa [upTicks_idle idle]
  · rw [idleTick_time idle quiet runs due exc chg]
  · obtain ⟨regs, runs⟩ := upTick_frame s l
    rw [idleTick_stands] <;> rw [upTicks_one l busy others]
    · simpa [psState, State.fld, regs] using awake
    · rw [runs, stands]

/-! ### Module time as one value (R31) -/

theorem touch_ungated {s : State} {a : Nat} (hd : domainsOf a = []) : touch s a = s := by simp [touch, hd]

theorem bankShut_unbanked {s : State} {a : Nat} (hb : bankOf a = none) : bankShut s a = false := by simp [bankShut, bankLost, hb]

theorem busRead_mtimeLo (s : State) (r : Requester) :
    busRead s r 4 0x60007F00 = ((mtimeRead s r false).1, some (mtimeRead s r false).2) := by
  have rows : rowsAt 0x60007F00 ≠ [] := by decide
  simp [busRead, inFjopBuf, mirrorOf, mirrorFresh, isWord, wordMem, wordTrc, rows,
    show touch s 0x60007F00 = s from touch_ungated (by decide), show bankShut s 0x60007F00 = false from bankShut_unbanked (by decide)]

theorem busRead_mtimeHi (s : State) (r : Requester) :
    busRead s r 4 0x60007F04 = ((mtimeRead s r true).1, some (mtimeRead s r true).2) := by
  have rows : rowsAt 0x60007F04 ≠ [] := by decide
  simp [busRead, inFjopBuf, mirrorOf, mirrorFresh, isWord, wordMem, wordTrc, rows,
    show touch s 0x60007F04 = s from touch_ungated (by decide), show bankShut s 0x60007F04 = false from bankShut_unbanked (by decide)]

/-- A requester that is not the blinded host gets the answer of its read. -/
theorem readOut_data {s t : State} {r : Requester} {size a v : Nat} (sees : r = .host → s.hostBlind = false)
    (h : busRead s r size a = (t, some v)) : readOut s r size a = t.emit (.data r a v) := by
  have sees : ¬ ((r = .host && s.hostBlind) = true) := by simpa using sees
  simp only [readOut]
  rw [if_neg sees, h]

theorem exec_mtimeLoRead {s : State} {r : Requester} (sees : r = .host → s.hostBlind = false) :
    exec (.mtimeLoRead r) s = .next ((s.setView r { s.viewOf r with mtime := some (s.mtime / 2 ^ 32) }).emit
      (.data r 0x60007F00 (s.mtime % 2 ^ 32))) :=
  congrArg Host.Outcome.next (readOut_data sees (busRead_mtimeLo s r))

theorem exec_mtimeHiRead {s : State} {r : Requester} (sees : r = .host → s.hostBlind = false) :
    exec (.mtimeHiRead r) s = .next ((s.setView r { s.viewOf r with mtime := none }).emit
      (.data r 0x60007F04 ((s.viewOf r).mtime.getD (s.mtime / 2 ^ 32)))) :=
  congrArg Host.Outcome.next (readOut_data sees (busRead_mtimeHi s r))

/-- Settles O10: the LO read fills the latch, the first HI read takes and empties it, the second finds none. -/
theorem moduleTimeReadsAsOneValue : Obligations.ModuleTimeReadsAsOneValue := by
  intro s r later sees
  refine ⟨_, _, _, exec_mtimeLoRead sees, rfl, exec_mtimeHiRead sees, ?_, exec_mtimeHiRead sees, ?_⟩
  · have latched := State.viewOf_setView s r { s.viewOf r with mtime := some (s.mtime / 2 ^ 32) }
    exact congrArg (fun v : WordView => _ ++ [Out.data r _ (v.mtime.getD _)]) latched
  · have emptied := State.viewOf_setView ({ (s.setView r { s.viewOf r with mtime := some (s.mtime / 2 ^ 32) }).emit
      (.data r 0x60007F00 (s.mtime % 2 ^ 32)) with mtime := later }) r
    exact congrArg (fun v : WordView => _ ++ [Out.data r _ (v.mtime.getD _)]) (emptied _)

/-! ### Voltage requests (R22, R23) -/

theorem onCoreRail_iff : ∀ i : Fin 42, onCoreRail i = true ↔ ¬ (i = 32 ∨ i = 33 ∨ i = 41) := by decide

/-- The request that the stretch count and CAP_EXCEEDED leave alone. -/
theorem fld_avsReq_stretched (s : State) (i : Nat) :
    ((s.inc (PWR_ISL_STAT_STRETCH_CNT i)).fld (PWR_ISL_STAT_AVS_REQ i)) = s.fld (PWR_ISL_STAT_AVS_REQ i) :=
  State.fld_put_other s _ _ _ (by simp [Fld.key, PWR_ISL_STAT_STRETCH_CNT, PWR_ISL_STAT_AVS_REQ])

theorem avsRequest_eq (s : State) (i : Fin 42) (req : Byte) : avsRequest s i req.toNat =
    if i = 32 ∨ i = 33 ∨ i = 41 then s else
      serveRail ({ s with sup := { s.sup with lastReq := Tbl.set 0x28 s.sup.lastReq (4 * i.val + dividerOf s i.val) req.toNat } }.put
        (PWR_ISL_STAT_AVS_REQ i) req.toNat) := by
  have whole : req.toNat % 256 = req.toNat := Nat.mod_eq_of_lt req.isLt
  by_cases h : i = 32 ∨ i = 33 ∨ i = 41
  · have off : onCoreRail i = false := by simpa [h] using onCoreRail_iff i
    rw [if_pos h]
    simp only [avsRequest, off, Bool.not_false, if_true]
  · have on : onCoreRail i = true := (onCoreRail_iff i).2 h
    rw [if_neg h]
    simp only [avsRequest, on, Bool.not_true, Bool.false_eq_true, if_false, whole]

theorem droopStretch_eq (s : State) (i : Fin 42) (cap : Bool) : droopStretch s i cap =
    if i = 32 ∨ i = 33 ∨ i = 41 then s else if cap then
      avsRequest ((s.inc (PWR_ISL_STAT_STRETCH_CNT i)).put (PWR_ISL_STAT_CAP_EXCEEDED i) 1) i (min 255 (s.fld (PWR_ISL_STAT_AVS_REQ i) + 4))
    else s.inc (PWR_ISL_STAT_STRETCH_CNT i) := by
  by_cases h : i = 32 ∨ i = 33 ∨ i = 41
  · have off : onCoreRail i = false := by simpa [h] using onCoreRail_iff i
    rw [if_pos h]
    simp only [droopStretch, off, Bool.not_false, if_true]
  · have on : onCoreRail i = true := (onCoreRail_iff i).2 h
    rw [if_neg h]
    simp only [droopStretch, on, Bool.not_true, Bool.false_eq_true, if_false, fld_avsReq_stretched]

/-- Settles O11, by the equations of `avsRequest` and `droopStretch` at an island. -/
theorem voltageRequestAndDroop : Obligations.VoltageRequestAndDroop := by
  intro s i req
  refine ⟨congrArg Host.Outcome.next (avsRequest_eq s i req), congrArg Host.Outcome.next (droopStretch_eq s i false), fun h32 h33 h41 => ?_⟩
  have on : ¬ (i = 32 ∨ i = 33 ∨ i = 41) := by simp [h32, h33, h41]
  refine congrArg Host.Outcome.next ((droopStretch_eq s i true).trans ?_)
  rw [if_neg on, if_pos rfl]

/-! ### Clock windows (R24, R311) -/

/-- A window in which only island `i` is out of tolerance, with every domain powered, is noted as bit `i`. -/
theorem badIslands_one (i : Fin 42) :
    ((List.range 42).filter fun j => (BitVec.ofNat 42 (2 ^ i.val)).toNat.testBit j && !(0 : Nat).testBit j).foldl setBit 0 = 2 ^ i.val := by
  have one : (BitVec.ofNat 42 (2 ^ i.val)).toNat = 2 ^ i.val :=
    (BitVec.toNat_ofNat _ _).trans (Nat.mod_eq_of_lt (Nat.pow_lt_pow_right (by decide) i.isLt))
  have only : ∀ j < 42, ((BitVec.ofNat 42 (2 ^ i.val)).toNat.testBit j && !(0 : Nat).testBit j) = true ↔ j = i := by
    intro j _
    rw [one, Nat.testBit_two_pow]
    simp [eq_comm]
  rw [filter_range_singleton i.isLt only]
  simp [setBit]

theorem bitsSet_two_pow (i : Fin 42) : bitsSet 42 (2 ^ i.val) = [i.val] :=
  filter_range_singleton i.isLt fun j _ => by simp [Nat.testBit_two_pow, eq_comm]

/-- What a clock fault of island `i` is: its flag, island 33's stop of the permit carriers, the demand CLOCK_FAULT. -/
def clockFault (s : State) (i : Nat) : State :=
  demandEvt (if i = 33 then { s.put (PWR_ISL_STAT_CLK_FAULT i) 1 with sag := { s.sag with dead := true } }
    else s.put (PWR_ISL_STAT_CLK_FAULT i) 1) 0x21 0 true 1

/-- What a second bad window in a row comes to: a fault that the Saggar has is not delivered again. -/
def judgeClock (s : State) (i : Nat) : State :=
  if s.flag (PWR_ISL_STAT_CLK_FAULT i) && s.sag.evts.any fun d => d.cause = 0x21 then s else clockFault s i

theorem clockWindow_one {s : State} (i : Fin 42) (runs : s.timeRuns = true) (powered : s.sup.parked = 0) :
    clockWindow s (BitVec.ofNat 42 (2 ^ i.val)).toNat =
      ({ s with clkBad := 2 ^ i.val } : State).each (bitsSet 42 (2 ^ i.val &&& s.clkBad)) judgeClock := by
  unfold clockWindow
  rw [if_neg (by simp [runs])]
  simp only [powered, badIslands_one]
  rfl

theorem judgeClock_fresh {s : State} {i : Nat}
    (fresh : s.flag (PWR_ISL_STAT_CLK_FAULT i) = false ∨ ∀ d ∈ s.sag.evts, d.cause ≠ 0x21) : judgeClock s i = clockFault s i := by
  refine if_neg ?_
  rcases fresh with unset | gone
  · simp [unset]
  · simpa using fun _ d hd => gone d hd

theorem clockWindow_first {s : State} (i : Fin 42) (runs : s.timeRuns = true) (powered : s.sup.parked = 0) (good : s.clkBad = 0) :
    clockWindow s (BitVec.ofNat 42 (2 ^ i.val)).toNat = { s with clkBad := 2 ^ i.val } := by
  rw [clockWindow_one i runs powered, good, Nat.and_zero]
  rfl

theorem clockWindow_second {s : State} (i : Fin 42) (runs : s.timeRuns = true) (powered : s.sup.parked = 0) (bad : s.clkBad = 2 ^ i.val)
    (fresh : s.flag (PWR_ISL_STAT_CLK_FAULT i) = false ∨ ∀ d ∈ s.sag.evts, d.cause ≠ 0x21) :
    clockWindow s (BitVec.ofNat 42 (2 ^ i.val)).toNat = clockFault s i := by
  have noted : ({ s with clkBad := 2 ^ i.val } : State) = s := by rw [← bad]
  rw [clockWindow_one i runs powered, noted, bad, Nat.and_self, bitsSet_two_pow]
  exact judgeClock_fresh fresh

/-- Settles O12, by what the window does with one island: the first time it is noted, the second time it is a clock fault. -/
theorem clockFaultNeedsTwoWindows : Obligations.ClockFaultNeedsTwoWindows := by
  intro s i quiet runs powered
  refine ⟨fun good => ?_, fun bad fresh => ?_⟩
  · refine congrArg Host.Outcome.next ((congrArg (settle s) (clockWindow_first i runs powered good)).trans ?_)
    exact settle_quiet quiet (SameWatch.of_regs rfl rfl rfl)
  · have island : i = 33 ↔ i.val = 33 := ⟨fun h => congrArg Fin.val h, fun h => Fin.ext h⟩
    simp only [island]
    exact congrArg (fun t => Host.Outcome.next (settle s t)) (clockWindow_second i runs powered bad fresh)

/-! ### Registers of pair 11 (R38) -/

theorem blkAt_saf {a : Nat} (h : blkAt a = some .saf) : 0x60058000 ≤ a ∧ a < 0x60060000 := by
  unfold blkAt at h
  split at h
  next range =>
    simp only [Bool.and_eq_true, decide_eq_true_eq] at range
    have place : ∀ k : Fin 21, blkOrder[k.val]? = some .saf → k = 11 := by decide
    have index : (a - 0x60000000) / 0x8000 = 11 := congrArg Fin.val (place ⟨(a - 0x60000000) / 0x8000, by omega⟩ h)
    omega
  next =>
    split at h <;> cases h

theorem RegAt.of_saf {s : State} {a : Nat} (h : blkAt a = some .saf) (rows : (rowsAt a).isEmpty = false) (align : a % 4 = 0)
    (buf : inFjopBuf a = false) : RegAt s a := by
  obtain ⟨low, high⟩ := blkAt_saf h
  refine ⟨by omega, by omega, align, rows, ?_, buf⟩
  have g1 : ¬ (a - a % 8 < 0x40400000) := by omega
  have g2 : ¬ (a - a % 8 < 0x50400000) := by omega
  have g3 : ¬ (a - a % 8 < 0x60038200) := by omega
  have g4 : ¬ (a - a % 8 < 0x6001E000) := by omega
  have g5 : ¬ (a - a % 8 < 0x6001F400) := by omega
  have g6 : ¬ (a - a % 8 < 0x60021300) := by omega
  simp [isWord, wordMem, wordTrc, mirrorFresh, g1, g2, g3, g4, g5, g6]

/-- A 32-bit write to a SAF_ register that the host can see is left to `safetyBy`. -/
theorem busWrite_saf {s : State} {r : Requester} {a : Nat} (d : Nat) (up : s.allUp = true) (sees : r = .host → s.hostBlind = false)
    (h : blkAt a = some .saf) (rows : (rowsAt a).isEmpty = false) (align : a % 4 = 0) (buf : inFjopBuf a = false) :
    busWrite s r 4 a d = safetyBy s r a fun s => safWrite s a d := by
  have seen : ¬ ((r = .host && s.hostBlind) = true) := by simpa using sees
  have only : safetyOnly a = true := by simp [safetyOnly, h]
  have low := (blkAt_saf h).1
  rw [busWrite_reg r d (RegAt.of_saf h rows align buf)]
  simp only [regBy]
  rw [if_neg seen, touch_allUp a up, bankShut_allUp up (by omega), if_neg (by simp), if_pos only]
  simp only [regWrite, h]

/-- Of a requester other than pair 11 a write leaves only its trace in SAF_WVIOL, and a bus error. -/
theorem safBy_other {s : State} {r : Requester} {a : Nat} {act : State → State × Status} (h : r ≠ .pair 11) :
    safBy s r a act = ((safViolation s (requesterNumber r)).emit (.busError r a), .OK) := by
  have stranger : requesterSafety r = false := by
    cases r with
    | pair n => simpa [requesterSafety, Fin.ext_iff] using h
    | host => rfl
    | debug => rfl
  simp [safBy, stranger]

theorem safViolation_watch (s : State) (n : Nat) (o : Out) : SameWatch s ((safViolation s n).emit o) :=
  ((SameWatch.inc s SAF_WVIOL_COUNT (by decide)).trans (SameWatch.put _ SAF_WVIOL_LAST n (by decide))).trans
    (SameWatch.of_regs rfl rfl rfl)

/-- Settles O6: `safetyBy` turns every requester but pair 11 away, whose write reaches the block. -/
theorem safetyRegistersOnlyByPair11 : Obligations.SafetyRegistersOnlyByPair11 := by
  intro s r a d quiet up saf rows align buf
  refine ⟨fun other notHost => ?_, fun host sees => ?_, fun safety => ?_⟩
  · have write : busWrite s r 4 a.toNat d.toNat = ((safViolation s (requesterNumber r)).emit (.busError r a.toNat), .OK) := by
      rw [busWrite_saf _ up (fun h => absurd h notHost) saf rows align buf, safetyBy, if_neg notHost, safBy_other other]
    refine congrArg Host.Outcome.next ((congrArg (fun x : State × Status => settle s x.1) write).trans ?_)
    rw [settle_quiet quiet (safViolation_watch _ _ _)]
    cases r <;> rfl
  · subst host
    have write : busWrite s .host 4 a.toNat d.toNat =
        (((safViolation s 12).emit (.busError .host a.toNat)).refuse hostErr .HOST_WR_DENIED, .HOST_WR_DENIED) := by
      rw [busWrite_saf _ up (fun _ => sees) saf rows align buf, safetyBy, if_pos rfl, safBy_other (by simp)]
      rfl
    refine congrArg Host.Outcome.next ((congrArg (fun x : State × Status => settle s x.1) write).trans ?_)
    exact settle_quiet quiet ((safViolation_watch _ _ _).trans (SameWatch.refuse _ _ _ (by decide) (by decide)))
  · subst safety
    have write : busWrite s (.pair 11) 4 a.toNat d.toNat = safWrite s a.toNat d.toNat := by
      rw [busWrite_saf _ up (by simp) saf rows align buf, safetyBy, if_neg (by simp), safBy, if_pos (by decide)]
    exact congrArg (fun x : State × Status => Host.Outcome.next (settle s x.1)) write

/-! ### Halves of the words of table RAM (R40, R41) -/

/-- `a` is a word of table RAM that the requester, a core or the debug module, reaches: its domain is powered, its bank not shut. -/
structure TableWord (s : State) (r : Requester) (a : Nat) : Prop where
  powered : s.sup.parked = 0
  core : r ≠ .host
  low : 0x50000000 ≤ a
  high : a < 0x50400000
  align : a % 8 = 0
  bank : bankShut s a = false

/-- A read of a low half: its answer, and the latch of the high one. -/
def lowHalfRead (s : State) (r : Requester) (a : Nat) : State :=
  (s.setView r { s.viewOf r with high := some (a, highHalf (s.word a)) }).emit (.data r a ((s.word a).toNat % 2 ^ 32))

theorem lowHalfRead_latch (s : State) (r : Requester) (a : Nat) :
    ((lowHalfRead s r a).viewOf r).high = some (a, highHalf (s.word a)) :=
  congrArg WordView.high (State.viewOf_setView s r { s.viewOf r with high := some (a, highHalf (s.word a)) })

section
variable {s t : State} {r : Requester} {a : Nat} (h : TableWord s r a)
include h

/-- Whether the word is reached depends on the register file and the power controller alone. -/
theorem TableWord.congr (regs : t.regs = s.regs) (sup : t.sup = s.sup) : TableWord t r a where
  powered := by rw [sup, h.powered]
  core := h.core
  low := h.low
  high := h.high
  align := h.align
  bank := by rw [bankShut_congr a regs sup, h.bank]

/-- The high half of a reached word is in table RAM and in the same bank. -/
theorem TableWord.highHalf_reached : 0x50000000 ≤ a + 4 ∧ a + 4 < 0x50400000 ∧ (a + 4) % 4 = 0 ∧ bankShut s (a + 4) = false := by
  have low := h.low
  have high := h.high
  have align := h.align
  refine ⟨by omega, by omega, by omega, ?_⟩
  rw [bankShut_same s (b := a), h.bank]
  rw [bankOf_table low high, bankOf_table (by omega) (by omega)]

theorem TableWord.busWrite_low (d : Nat) : busWrite s r 4 a d = (stageLow s r a d, .OK) := by
  have align := h.align
  rw [busWrite_table d h.powered h.core h.low h.high h.bank (by omega), halfWrite_low s r d align]

theorem TableWord.busWrite_high (d : Nat) :
    busWrite s r 4 (a + 4) d = ((composeHigh s r a d).1.setWord a (composeHigh s r a d).2, .OK) := by
  obtain ⟨low, high, align, bank⟩ := h.highHalf_reached
  rw [busWrite_table d h.powered h.core low high bank align, halfWrite_high s r d h.align, commitWord_table _ _ h.low h.high]

theorem TableWord.readOut_low : readOut s r 4 a = lowHalfRead s r a := by
  have align := h.align
  refine readOut_data (fun e => absurd e h.core) ?_
  rw [busRead_table h.powered h.core h.low h.high h.bank (by omega)]
  simp only [halfRead]
  rw [if_pos align]

theorem TableWord.readOut_high :
    readOut s r 4 (a + 4) = (halfRead s r (a + 4)).1.emit (.data r (a + 4) (halfRead s r (a + 4)).2) := by
  obtain ⟨low, high, align, bank⟩ := h.highHalf_reached
  exact readOut_data (fun e => absurd e h.core) (busRead_table h.powered h.core low high bank align)

theorem TableWord.wordMem : wordMem a = true := by simp [Machine.wordMem, h.low, h.high]

theorem TableWord.wordMem_high : Machine.wordMem (a + 4) = true := by
  obtain ⟨low, high, -, -⟩ := h.highHalf_reached
  simp [Machine.wordMem, low, high]

end

theorem halfRead_latched {s : State} {r : Requester} {a v : Nat} (align : a % 8 = 0) (latch : (s.viewOf r).high = some (a, v)) :
    halfRead s r (a + 4) = (s.setView r { s.viewOf r with high := none }, v) := by
  have odd : ¬ ((a + 4) % 8 = 0) := by omega
  simp [halfRead, odd, latch]

theorem halfRead_live {s : State} {r : Requester} {a : Nat} (align : a % 8 = 0) (latch : (s.viewOf r).high = none) :
    halfRead s r (a + 4) = (s, highHalf (s.word a)) := by
  have odd : ¬ ((a + 4) % 8 = 0) := by omega
  simp [halfRead, odd, latch]

theorem readEcc_clean (s : State) (r : Requester) (a : Nat) (read : State → State) : readEcc s r a .clean read = read s := by
  simp [readEcc]

/-- A high half that comes from the latch reads no word, so that no error of the word shows. -/
theorem readEcc_latched {s : State} {r : Requester} {a v : Nat} (ecc : Ecc) (read : State → State) (align : a % 8 = 0)
    (latch : (s.viewOf r).high = some (a, v)) : readEcc s r (a + 4) ecc read = read s := by
  have odd : ¬ ((a + 4) % 8 = 0) := by omega
  simp [readEcc, readsLeWord, latch, odd]

/-- The composed word when the low half of this very word is staged, and when nothing is. -/
theorem composeHigh_staged {s : State} {r : Requester} {a v : Nat} (d : Nat) (h : (s.viewOf r).staged = some (a, v)) :
    (composeHigh s r a d).2 = BitVec.ofNat 36 (v + d % 16 * 2 ^ 32) := by simp [composeHigh, h]

theorem composeHigh_unstaged {s : State} {r : Requester} {a : Nat} (d : Nat) (h : (s.viewOf r).staged = none) :
    (composeHigh s r a d).2 = BitVec.ofNat 36 ((s.word a).toNat % 2 ^ 32 + d % 16 * 2 ^ 32) := by simp [composeHigh, h]

section
variable {s : State} {r : Requester} {a : Word} (quiet : s.quiet = true) (h : TableWord s r a.toNat)
include quiet h

theorem exec_wordLowHalfWrite_table (d : Word) : exec (.wordLowHalfWrite r a d) s = .next (stageLow s r a.toNat d.toNat) := by
  show execWordLowHalfWrite r a d s = _
  rw [execWordLowHalfWrite, h.align, Nat.sub_zero, h.busWrite_low]
  exact congrArg Host.Outcome.next (settle_quiet quiet (SameWatch.of_regs rfl rfl rfl))

theorem exec_wordHighHalfWrite_table (d : Word) : exec (.wordHighHalfWrite r a d) s =
    .next ((composeHigh s r a.toNat d.toNat).1.setWord a.toNat (composeHigh s r a.toNat d.toNat).2) := by
  show execWordHighHalfWrite r a d s = _
  rw [execWordHighHalfWrite, h.align, Nat.sub_zero, h.busWrite_high]
  exact congrArg Host.Outcome.next (settle_quiet quiet ((composeHigh_watch s r _ _).trans (SameWatch.of_regs rfl rfl rfl)))

end

/-- What a committed high half leaves of the words: its own, composed, and all the others. -/
theorem word_committed (s : State) (r : Requester) (a d b : Nat) (w : Word36) :
    ((composeHigh s r a d).1.setWord a w).word b = if b = a then w else s.word b := by
  split
  next e => rw [e, State.word_setWord_same]
  next e =>
    rw [State.word_setWord_other _ e]
    simp only [State.word, composeHigh_words]

/-- Settles O7: the low half stages, `composeHigh` forms the word of the commit from the staged half or from the stored one. -/
theorem wordIsWrittenInHalves : Obligations.WordIsWrittenInHalves := by
  intro s r a lo hi quiet powered core low high align bank
  have reached : TableWord s r a.toNat := ⟨powered, core, low, high, align, bank⟩
  have staged := State.viewOf_setView s r { s.viewOf r with staged := some (a.toNat, lo.toNat % 2 ^ 32) }
  have staging : ((stageLow s r a.toNat lo.toNat).viewOf r).staged = some (a.toNat, lo.toNat % 2 ^ 32) := congrArg WordView.staged staged
  have quiet' : (stageLow s r a.toNat lo.toNat).quiet = true := quiet
  refine ⟨_, _, exec_wordLowHalfWrite_table quiet reached lo, exec_wordHighHalfWrite_table quiet' (reached.congr rfl rfl) hi,
    fun _ => rfl, ?_, fun b other => ?_, fun none => ⟨_, exec_wordHighHalfWrite_table quiet reached hi, ?_⟩⟩
  · rw [word_committed, if_pos rfl, composeHigh_staged _ staging, Nat.mod_eq_of_lt lo.isLt]
  · rw [word_committed, if_neg other]
    rfl
  · rw [word_committed, if_pos rfl, composeHigh_unstaged _ none]

/-- The slot of a word as 64 bits: its low half and `highHalf` (R39). -/
theorem slot_halves (w : Word36) : w.toNat % 2 ^ 32 = (w.signExtend 64).toNat % 2 ^ 32 ∧ highHalf w = (w.signExtend 64).toNat / 2 ^ 32 := by
  have bound := w.isLt
  have value : (w.signExtend 64).toNat = w.toNat + if w.msb then 2 ^ 64 - 2 ^ 36 else 0 := by
    rw [BitVec.toNat_signExtend, BitVec.toNat_setWidth, Nat.mod_eq_of_lt (by omega)]
  have sign : w.msb = decide (2 ^ 35 ≤ w.toNat) := BitVec.msb_eq_decide w
  rw [value, sign]
  simp only [highHalf, decide_eq_true_eq]
  split <;> split <;> omega

section
variable {s : State} {r : Requester} {a : Word} (h : TableWord s r a.toNat)
include h

theorem exec_wordLowHalfRead_table : exec (.wordLowHalfRead r ⟨a, .clean⟩) s = .next (lowHalfRead s r a.toNat) := by
  show execWordLowHalfRead r ⟨a, .clean⟩ s = _
  rw [execWordLowHalfRead, readEcc_clean, h.align, Nat.sub_zero, h.readOut_low]

theorem exec_wordHighHalfRead_latched {v : Nat} (ecc : Ecc) (latch : (s.viewOf r).high = some (a.toNat, v)) :
    exec (.wordHighHalfRead r ⟨a, ecc⟩) s = .next ((s.setView r { s.viewOf r with high := none }).emit (.data r (a.toNat + 4) v)) := by
  show execWordHighHalfRead r ⟨a, ecc⟩ s = _
  rw [execWordHighHalfRead, h.align, Nat.sub_zero, readEcc_latched ecc _ h.align latch, h.readOut_high, halfRead_latched h.align latch]

theorem exec_wordHighHalfRead_live (live : (s.viewOf r).high = none) :
    exec (.wordHighHalfRead r ⟨a, .clean⟩) s = .next (s.emit (.data r (a.toNat + 4) (highHalf (s.word a.toNat)))) := by
  show execWordHighHalfRead r ⟨a, .clean⟩ s = _
  rw [execWordHighHalfRead, readEcc_clean, h.align, Nat.sub_zero, h.readOut_high, halfRead_live h.align live]

theorem exec_wordLowHalfRead_lost : exec (.wordLowHalfRead r ⟨a, .lostTable⟩) s = .next (s.emit (.busError r a.toNat)) := by
  show execWordLowHalfRead r ⟨a, .lostTable⟩ s = _
  rw [execWordLowHalfRead, h.align, Nat.sub_zero]
  simp [readEcc, readsLeWord, h.wordMem, h.align, touch_parked _ h.powered, h.core]

end

/-- Settles O8: the low half's read latches the high half, which the next read takes from the latch, whatever the word has become. -/
theorem wordIsReadInHalves : Obligations.WordIsReadInHalves := by
  intro s r a w powered core low high align bank
  have reached : TableWord s r a.toNat := ⟨powered, core, low, high, align, bank⟩
  obtain ⟨-, slot⟩ := slot_halves (s.word a.toNat)
  refine ⟨fun ecc => ?_, fun live => ?_, exec_wordLowHalfRead_lost reached⟩
  · have reached' : TableWord ((lowHalfRead s r a.toNat).setWord a.toNat w) r a.toNat := reached.congr rfl rfl
    refine ⟨_, _, exec_wordLowHalfRead_table reached, rfl, rfl,
      exec_wordHighHalfRead_latched reached' ecc (lowHalfRead_latch s r a.toNat), ?_⟩
    rw [slot]
    rfl
  · rw [exec_wordHighHalfRead_live reached live, slot]

/-! ### 64-bit accesses of the host to the traction block (R40, R41, R401) -/

section
variable (m : Fin 4)

theorem trcTsp_toNat : (BitVec.ofNat 32 (trcTsp m)).toNat = trcTsp m := by
  refine (BitVec.toNat_ofNat _ _).trans (Nat.mod_eq_of_lt ?_)
  have := m.isLt
  simp only [trcTsp]
  omega

theorem trcTsp_place : wordTrc (trcTsp m) = true ∧ wordMem (trcTsp m) = false ∧ safetyOnly (trcTsp m - trcTsp m % 4) = false ∧
    blkAt (trcTsp m) = some .trc ∧ 0x60000000 ≤ trcTsp m ∧ trcTsp m < 0x60100000 ∧ trcTsp m ≠ 0x60007F00 := by
  revert m
  decide

theorem mirrorFresh_trcTsp (s : State) : mirrorFresh s (trcTsp m) = none := by
  have low : 0x60038000 ≤ trcTsp m := by simp only [trcTsp]; omega
  have g1 : ¬ (trcTsp m < 0x6001E000) := by omega
  have g2 : ¬ (trcTsp m < 0x6001F400) := by omega
  have g3 : ¬ (trcTsp m < 0x60021300) := by omega
  simp [mirrorFresh, g1, g2, g3]

theorem isWord_trcTsp (s : State) : isWord s (trcTsp m) = true := by
  obtain ⟨trc, -⟩ := trcTsp_place m
  have align : trcTsp m % 8 = 0 := by simp only [trcTsp]; omega
  simp [isWord, trc, align]

theorem commitWord_trcTsp (s : State) (w : Word36) : commitWord s (trcTsp m) w = (torqueCommit s m w, .OK) := by
  obtain ⟨trc, -⟩ := trcTsp_place m
  have slot : (trcTsp m - 0x60038000) / 0x80 = m := by simp only [trcTsp]; omega
  have which : trcTsp m % 0x80 = 0x08 := by simp only [trcTsp]; omega
  simp only [commitWord, which, slot]
  rw [if_pos trc]

theorem hostMayWrite_trcTsp (s : State) : hostMayWrite s (trcTsp m) = (s.ready && s.mode = 1 && s.flag HOST_CFG_REG_WR) := by
  obtain ⟨-, -, -, blk, -⟩ := trcTsp_place m
  simp only [hostMayWrite, blk]

end

theorem hostWord_blind {s : State} (blind : s.hostBlind = true) (a d : Nat) : hostWord s a d = (s, .OK) := by simp [hostWord, blind]

theorem hostWordRead_blind {s : State} (blind : s.hostBlind = true) (a : Nat) : hostWordRead s a = s := by simp [hostWordRead, blind]

theorem hostWord_trcTsp {s : State} (m : Fin 4) (d : Nat) (sees : s.hostBlind = false) (up : s.allUp = true) : hostWord s (trcTsp m) d =
    if s.ready && s.mode = 1 && s.flag HOST_CFG_REG_WR then (torqueCommit s m (BitVec.ofNat 36 d), .OK)
    else (s.refuse hostErr .HOST_WR_DENIED, .HOST_WR_DENIED) := by
  obtain ⟨-, -, notSafety, -, low, high, -⟩ := trcTsp_place m
  have range : (decide (trcTsp m < 0x60000000) || decide (0x60100000 ≤ trcTsp m)) = false := by simp [low, high]
  simp only [hostWord, sees, range, notSafety, isWord_trcTsp, hostMayWrite_trcTsp, bankShut_allUp up low, mirrorFresh_trcTsp,
    touch_allUp _ up, commitWord_trcTsp]
  cases (s.ready && s.mode = 1 && s.flag HOST_CFG_REG_WR) <;> rfl

theorem hostWordRead_trcTsp {s : State} (m : Fin 4) (sees : s.hostBlind = false) (up : s.allUp = true) :
    hostWordRead s (trcTsp m) = s.emit (.data .host (trcTsp m) ((s.word (trcTsp m)).signExtend 64).toNat) := by
  obtain ⟨-, -, -, -, low, high, notTime⟩ := trcTsp_place m
  obtain ⟨lo, hi⟩ := slot_halves (s.word (trcTsp m))
  have range : (decide (trcTsp m < 0x60000000) || decide (0x60100000 ≤ trcTsp m)) = false := by simp [low, high]
  have value : (s.word (trcTsp m)).toNat % 2 ^ 32 + highHalf (s.word (trcTsp m)) * 2 ^ 32 =
      ((s.word (trcTsp m)).signExtend 64).toNat := by
    rw [lo, hi, Nat.mul_comm]
    exact Nat.mod_add_div _ _
  simp only [hostWordRead, sees, range, notTime, isWord_trcTsp, touch_allUp _ up, bankShut_allUp up low, value]
  rfl

/-- No word of the traction block has an error correction of its own. -/
theorem readEcc_trcTsp (s : State) (m : Fin 4) (ecc : Ecc) (read : State → State) : readEcc s .host (trcTsp m) ecc read = read s := by
  obtain ⟨-, notMem, -⟩ := trcTsp_place m
  simp [readEcc, readsLeWord, notMem]

theorem exec_host64bitWordRead_trcTsp (s : State) (m : Fin 4) (ecc : Ecc) :
    exec (.host64bitWordRead ⟨BitVec.ofNat 32 (trcTsp m), ecc⟩) s = .next (hostWordRead s (trcTsp m)) := by
  show execHost64bitWordRead ⟨BitVec.ofNat 32 (trcTsp m), ecc⟩ s = _
  rw [execHost64bitWordRead, trcTsp_toNat, readEcc_trcTsp]

theorem exec_host64bitWordWrite_trcTsp (s : State) (m : Fin 4) (d : BitVec 64) :
    exec (.host64bitWordWrite (BitVec.ofNat 32 (trcTsp m)) d) s = .next (hostWord s (trcTsp m) d.toNat).1 := by
  show execHost64bitWordWrite (BitVec.ofNat 32 (trcTsp m)) d s = _
  rw [execHost64bitWordWrite, trcTsp_toNat]

/-- Settles O9: what the host's window leaves of a write is `hostWord_trcTsp`, a read is of the whole slot. -/
theorem hostSixtyFourBitAccess : Obligations.HostSixtyFourBitAccess := by
  intro s m d ecc
  rw [exec_host64bitWordRead_trcTsp, exec_host64bitWordWrite_trcTsp]
  refine ⟨fun blind => ?_, fun sees up => ⟨?_, fun ready standby window => ?_, fun shut => ?_⟩⟩
  · rw [hostWordRead_blind blind, hostWord_blind blind]
    exact ⟨rfl, rfl⟩
  · rw [hostWordRead_trcTsp m sees up]
  · rw [hostWord_trcTsp m _ sees up, if_pos (by simp [ready, standby, window])]
    rfl
  · rw [hostWord_trcTsp m _ sees up, if_neg (by simp only [shut]; exact Bool.false_ne_true)]

/-! ### Idle and silent links, calibration (R111, R116) -/

theorem downIdle_runs {s : State} {l : Nat} (runs : s.timeRuns = true) (fitted : s.linkFitted l = true) :
    downIdle s l = s.emit (.down l (mkFrame 0 (s.mtime % 2 ^ 24))) := by
  simp only [downIdle, runs, fitted]
  rfl

theorem upIdle_reset {s : State} {l : Nat} (h : (s.rxOf l).state = .reset) : upIdle s l = s := by simp [upIdle, ifPowered, h]

theorem upIdle_powered {s : State} {l : Nat} (h : (s.rxOf l).state ≠ .reset) : upIdle s l = sendAlive s l := by simp [upIdle, ifPowered, h]

/-- A frame leaves an idle up link at once and waits on a busy one. -/
theorem State.up_idle {s : State} {l : Nat} (ty body : Nat) (h : (s.rxOf l).upBusy = 0) :
    s.up l ty body = (s.setRx l { s.rxOf l with upBusy := 64 }).emit (.up l (mkFrame ty body)) := if_pos h

theorem State.up_busy {s : State} {l : Nat} (ty body : Nat) (h : (s.rxOf l).upBusy ≠ 0) :
    s.up l ty body = s.setRx l { s.rxOf l with upq := insertUp (mkFrame ty body) (s.rxOf l).upq } := if_neg h

theorem State.rxOf_setRx_same (s : State) (l : Nat) (r : Rx) : (s.setRx l r).rxOf l = r := Tbl.get_set_same _ _ _ _

theorem State.lkOf_setLk_same (s : State) (l : Nat) (k : Lk) : (s.setLk l k).lkOf l = k := Tbl.get_set_same _ _ _ _

theorem Chan.turnOff_gate (c : Chan) : c.turnOff.gate ≠ .on := by
  simp only [Chan.turnOff]
  split
  · exact nofun
  · assumption

/-- The orphan policy leaves a receiver in ORPHAN with nothing pending, and says nothing of its down link. -/
theorem Rx.applyOrphan_orphan (r : Rx) (lv : Bool) :
    (r.applyOrphan lv).state = .orphan ∧ (r.applyOrphan lv).pend = [] ∧ (r.applyOrphan lv).downSilent = r.downSilent := by
  simp only [Rx.applyOrphan]
  split
  · exact ⟨rfl, rfl, rfl⟩
  · split <;> exact ⟨rfl, rfl, rfl⟩
  · exact ⟨rfl, rfl, rfl⟩

/-- Under the policy OFF both channels are off. -/
theorem Rx.applyOrphan_off {r : Rx} (lv : Bool) (h : r.orphan = 0) :
    (r.applyOrphan lv).ch.gate ≠ .on ∧ (r.applyOrphan lv).hs.gate ≠ .on := by
  simp only [Rx.applyOrphan, h, ite_self]
  exact ⟨r.ch.turnOff_gate, r.hs.turnOff_gate⟩

theorem downSilent_reset {s : State} {l : Nat} (h : (s.rxOf l).state = .reset) : downSilent s l = s := if_pos h

theorem downSilent_powered {s : State} {l : Nat} (h : (s.rxOf l).state ≠ .reset) :
    downSilent s l = s.setRx l ({ s.rxOf l with downSilent := true }.applyOrphan (isLv l)) := if_neg h

/-- What a fault summary raised anew changes: the summary of the link, and one interrupt to the Safety role. -/
theorem raiseSummary_frame (s : State) (l : Nat) : (raiseSummary s l).lkOf l = { s.lkOf l with summary := true } ∧
    (raiseSummary s l).regs = s.regs ∧ (raiseSummary s l).rx = s.rx ∧ (raiseSummary s l).words = s.words ∧
    (raiseSummary s l).out = if (s.lkOf l).summary then s.out else s.out ++ [.irq (rolePair s 6) .gs l 0] := by
  unfold raiseSummary
  split
  next active => exact ⟨by rw [← active], rfl, rfl, rfl, rfl⟩
  next => exact ⟨State.lkOf_setLk_same s l { s.lkOf l with summary := true }, rfl, rfl, rfl, rfl⟩

theorem upSilent_satellite {s : State} (n : Fin 48) (fitted : s.linkFitted n = true) : upSilent s n =
    (raiseSummary (s.setLk n { s.lkOf n with lost := true, goodUp := 0 }) n).putAll [(GS_STAT_UP_OK n, 0), (GS_STAT_CAUSE n, 7)] := by
  have unfitted : ¬ ((!s.linkFitted n) = true) := by simp [fitted]
  unfold upSilent
  rw [if_neg unfitted]
  exact if_pos n.isLt

/-- The silence of a satellite's up link. -/
theorem upSilent_frame {s : State} (n : Fin 48) (fitted : s.linkFitted n = true) :
    ((upSilent s n).lkOf n).summary = true ∧ ((upSilent s n).lkOf n).lost = true ∧ (upSilent s n).fld (GS_STAT_UP_OK n) = 0 ∧
      (upSilent s n).fld (GS_STAT_CAUSE n) = 7 ∧ (upSilent s n).fld (GS_STAT_FAULT n) = s.fld (GS_STAT_FAULT n) ∧
      (upSilent s n).rx = s.rx ∧ (upSilent s n).words = s.words ∧
      (upSilent s n).out = if (s.lkOf n).summary then s.out else s.out ++ [.irq (rolePair s 6) .gs n.val 0] := by
  rw [upSilent_satellite n fitted]
  have marked := State.lkOf_setLk_same s n { s.lkOf n with lost := true, goodUp := 0 }
  generalize shown : s.setLk n { s.lkOf n with lost := true, goodUp := 0 } = t at marked ⊢
  obtain ⟨link, regs, rx, words, out⟩ := raiseSummary_frame t n
  generalize raiseSummary t n = u at link regs rx words out ⊢
  have ok : (GS_STAT_UP_OK n).key ≠ (GS_STAT_CAUSE n).key := by simp [Fld.key, GS_STAT_UP_OK, GS_STAT_CAUSE]
  have fault : (GS_STAT_FAULT n).key ≠ (GS_STAT_UP_OK n).key := by simp [Fld.key, GS_STAT_FAULT, GS_STAT_UP_OK]
  have fault' : (GS_STAT_FAULT n).key ≠ (GS_STAT_CAUSE n).key := by simp [Fld.key, GS_STAT_FAULT, GS_STAT_CAUSE]
  simp only [State.putAll, List.foldl_cons, List.foldl_nil]
  refine ⟨congrArg Lk.summary link, (congrArg Lk.lost link).trans (congrArg Lk.lost marked), ?_, ?_, ?_, ?_, ?_, ?_⟩
  · rw [State.fld_put_other _ _ _ _ ok, State.fld_put_same, Nat.zero_mod]
  · rw [State.fld_put_same]
    rfl
  · rw [State.fld_put_other _ _ _ _ fault', State.fld_put_other _ _ _ _ fault]
    simp only [State.fld, regs, ← shown, State.setLk_regs]
  · rw [State.put_rx, State.put_rx, rx, ← shown]
    rfl
  · rw [State.put_words, State.put_words, words, ← shown]
    rfl
  · rw [State.put_out, State.put_out, out, congrArg Lk.summary marked, ← shown]
    rfl

/-- The calibration of a satellite's link: one tap toward the measured delay, or a notice of a jump of more than 32 taps. -/
theorem linkCalibration_satellite {s : State} (n : Fin 48) (rt : Nat) (fitted : s.linkFitted n = true) : linkCalibration s n rt =
    if s.fld (GS_CAL_LINK_DLY n) ≤ downDelay n rt + 32 ∧ downDelay n rt ≤ s.fld (GS_CAL_LINK_DLY n) + 32 then
      applyDelay s n (oneTap (s.fld (GS_CAL_LINK_DLY n)) (downDelay n rt))
    else (s.put (GS_STAT_CAL_JUMP n) 1).emit (.irq (legOwner (s.put (GS_STAT_CAL_JUMP n) 1) (n.val / 2)) .gs n 1) := by
  have unfitted : ¬ ((!s.linkFitted n) = true) := by simp [fitted]
  have sat := n.isLt
  unfold linkCalibration
  rw [if_neg unfitted]
  simp only [sat, if_true, legOfLink, gt_iff_lt, Bool.or_eq_true, decide_eq_true_eq]
  split <;> split
  · omega
  · rfl
  · rfl
  · omega

/-- Settles O28, timer by timer. -/
theorem linkTimers : Obligations.LinkTimers := by
  intro s l n rt
  refine ⟨fun runs fitted => ?_, fun reset => ⟨?_, ?_⟩, fun body powered value => ⟨fun idle => ?_, fun busy => ?_⟩, fun powered => ?_,
    fun fitted => ⟨_, rfl, upSilent_frame n fitted⟩, fun quiet fitted near near' => ?_, fun quiet fitted far => ?_⟩
  · exact congrArg Host.Outcome.next (downIdle_runs runs fitted)
  · exact congrArg Host.Outcome.next (upIdle_reset reset)
  · exact congrArg Host.Outcome.next (downSilent_reset reset)
  · subst value
    exact congrArg Host.Outcome.next ((upIdle_powered powered).trans (State.up_idle 0 _ idle))
  · subst value
    exact congrArg Host.Outcome.next ((upIdle_powered powered).trans (State.up_busy 0 _ busy))
  · refine ⟨_, congrArg Host.Outcome.next (downSilent_powered powered), ?_⟩
    rw [State.rxOf_setRx_same]
    obtain ⟨state, pend, silent⟩ := Rx.applyOrphan_orphan { s.rxOf l with downSilent := true } (isLv l)
    exact ⟨state, pend, silent, fun off => Rx.applyOrphan_off _ off, rfl, rfl, rfl⟩
  · refine congrArg Host.Outcome.next ((dozeWake_quiet _ quiet).trans ?_)
    exact (linkCalibration_satellite n rt fitted).trans (if_pos ⟨near, near'⟩)
  · refine congrArg Host.Outcome.next ((dozeWake_quiet _ quiet).trans ?_)
    exact (linkCalibration_satellite n rt fitted).trans (if_neg (by omega))

/-! ### A zeroed bank (R383) -/

/-- A key that a filter drops reads as the default. -/
theorem Tbl.get_filter_dropped {α : Type} (d : α) {k : Nat} {p : Nat × α → Bool} (h : ∀ v, p (k, v) = false) (t : Tbl α) :
    Tbl.get d (t.filter p) k = d := by
  induction t with
  | nil => rfl
  | cons e t ih =>
    obtain ⟨k', v⟩ := e
    by_cases hk : k = k'
    · subst hk
      simp [h, ih]
    · by_cases hp : p (k', v) = true
      · simp [hp, Tbl.get, hk, ih]
      · simp [hp, ih]

theorem State.each_regs {α : Type} {f : State → α → State} (h : ∀ s a, (f s a).regs = s.regs) (l : List α) (s : State) :
    (s.each l f).regs = s.regs := by
  induction l generalizing s with
  | nil => rfl
  | cons a l ih => exact (ih (f s a)).trans (h s a)

/-- A field of a zeroed bank reads as a field that nothing has written; the pilot's state is written anew. -/
theorem fld_zeroBank (s : State) {b : Nat} {f : Fld} (bank : bankOf (f.key / 32) = some b) (pilot : f.key ≠ CHG_PILOT_STATE.key) :
    (zeroBank s b).fld f = f.cold % 2 ^ f.width := by
  unfold zeroBank
  extract_lets dropped shown
  have cleared : dropped.fld f = f.cold % 2 ^ f.width := by
    have out := Tbl.get_filter_dropped f.cold (k := f.key) (p := fun e : Nat × Nat => bankOf (e.1 / 32) ≠ some b) (fun _ => by simp [bank]) s.regs
    exact congrArg (· % 2 ^ f.width) out
  have kept : shown.fld f = dropped.fld f := by
    show (if b = 34 then dropped.put CHG_PILOT_STATE 0 else dropped).fld f = _
    split
    · exact State.fld_put_other _ _ _ _ pilot
    · rfl
  refine Eq.trans ?_ (kept.trans cleared)
  simp only [State.fld]
  rw [State.each_regs]
  intro t e
  split <;> rfl

/-- What the clause of O53 on a cleared bank means and what holds: the bank's fields go back to their cold-start column (R9). -/
theorem fld_bankZeroed {s : State} {b : Nat} {f : Fld} (zeroing : s.sup.zeroing.testBit b = true) (bank : bankOf (f.key / 32) = some b)
    (pilot : f.key ≠ CHG_PILOT_STATE.key) : (bankZeroed s b).fld f = f.cold % 2 ^ f.width := by
  have away {g : Fld} (h : bankOf (g.key / 32) = none) : f.key ≠ g.key := fun e => by simp [e, h] at bank
  have runs : ¬ ((!s.sup.zeroing.testBit b) = true) := by simp [zeroing]
  unfold bankZeroed
  rw [if_neg runs]
  simp only [State.putAll, List.foldl_cons, List.foldl_nil]
  rw [State.fld_put_other _ _ _ _ (away (by decide)), State.fld_put_other _ _ _ _ (away (by decide)), fld_zeroBank _ bank pilot]

/-- Refutes O53: it has every register of a cleared bank read 0. DERATE of traction slot 0, in bank 34, reads its cold-start value 256. -/
theorem not_railAndPowerStates : ¬ Obligations.RailAndPowerStates := by
  rintro ⟨-, -, -, banks⟩
  obtain ⟨-, -, -, -, -, cleared, -⟩ := banks { sup := { zeroing := 2 ^ 34 } } 34 0 0 false 0
  obtain ⟨u, answer, -, -, zero, -⟩ := cleared (by decide)
  have after : bankZeroed { sup := { zeroing := 2 ^ 34 } } 34 = u := Host.Outcome.next.inj answer
  have derate : (bankZeroed { sup := { zeroing := 2 ^ 34 } } 34).fld (TRC_M_STAT_DERATE 0) = 256 :=
    fld_bankZeroed (by decide) (by decide) (by decide)
  have reads : u.fld (TRC_M_STAT_DERATE 0) = 0 := zero _ (by decide) (by decide)
  rw [← after, derate] at reads
  exact absurd reads (by decide)

end Sys2Proof.Machine
end

section
/-! SUPPORT and PROOFS of the modes and starts (chapter 02): the reset pins, power-on, failed starts, the order of the start steps and
the completion of mode changes. -/

namespace Sys2Proof.Machine

/-! ### What a loop leaves alone and what it reaches -/

/-- A loop whose every turn leaves `p` alone leaves it alone. -/
theorem State.foldl_frame {p : State → β} {f : State → α → State} (h : ∀ s a, p (f s a) = p s) (l : List α) (s : State) :
    p (l.foldl f s) = p s := by
  induction l generalizing s with
  | nil => rfl
  | cons a l ih => exact (ih (f s a)).trans (h s a)

theorem State.each_frame {p : State → β} {f : State → α → State} (h : ∀ s a, p (f s a) = p s) (l : List α) (s : State) :
    p (s.each l f) = p s :=
  State.foldl_frame h l s

/-- What a turn of a loop reaches, and no turn undoes, holds after it. -/
theorem State.each_reaches {P : State → Prop} {f : State → α → State} {l : List α} {a : α} (s : State) (turn : a ∈ l)
    (reach : ∀ t, P (f t a)) (keep : ∀ t, ∀ b ∈ l, P t → P (f t b)) : P (s.each l f) := by
  have kept : ∀ (k : List α) (t : State), (∀ b ∈ k, b ∈ l) → P t → P (t.each k f) := by
    intro k
    induction k with
    | nil => exact fun _ _ h => h
    | cons b k ih => exact fun t sub h => ih _ (fun c hc => sub c (.tail b hc)) (keep t b (sub b (.head k)) h)
  obtain ⟨before, after, rfl⟩ := List.append_of_mem turn
  have split : s.each (before ++ a :: after) f = (f (s.each before f) a).each after f := by simp [State.each]
  rw [split]
  exact kept after _ (fun b hb => List.mem_append_right _ (.tail a hb)) (reach _)

theorem State.each_frame_mem {p : State → β} {f : State → α → State} {l : List α} (h : ∀ s, ∀ a ∈ l, p (f s a) = p s) (s : State) :
    p (s.each l f) = p s := by
  induction l generalizing s with
  | nil => rfl
  | cons a l ih => exact (ih (fun t b hb => h t b (.tail a hb)) (f s a)).trans (h s a (.head l))

theorem SameWatch.each {f : State → α → State} {l : List α} (h : ∀ s, ∀ a ∈ l, SameWatch s (f s a)) (s : State) :
    SameWatch s (s.each l f) := by
  induction l generalizing s with
  | nil => exact SameWatch.refl s
  | cons a l ih => exact (h s a (.head l)).trans (ih (fun t b hb => h t b (.tail a hb)) (f s a))

/-- Fields written one after the other leave alone whatever does not read the register file. -/
theorem State.putAll_frame {p : State → β} (h : ∀ s f v, p (State.put s f v) = p s) (l : List (Fld × Nat)) (s : State) :
    p (s.putAll l) = p s :=
  State.foldl_frame (f := fun s e => s.put e.1 e.2) (fun s e => h s e.1 e.2) l s

/-! ### Reset pins (R53, R402, R503) -/

/-- SYS_RESET_N is noted, and its release takes an intrusive instruction off the port. -/
theorem tapRelease_eq (s : State) : tapRelease s =
    { s with tap := { s.tap with resetLow := false, instr := if intrusive s.tap.instr then 31 else s.tap.instr } } := by
  unfold tapRelease
  dsimp only [State.setTap]
  split <;> rfl

theorem sysReset_eq (s : State) : sysReset s =
    if s.fld PWR_START_STAT_STEP = 0 then { s with tap := { s.tap with resetLow := true } }
    else { s with tap := { s.tap with resetLow := true }, coldWant := some 1 } := by
  have held : heldOff (s.setTap { s.tap with resetLow := true }) = decide (s.fld PWR_START_STAT_STEP = 0) := rfl
  unfold sysReset
  dsimp only
  rw [held]
  by_cases off : s.fld PWR_START_STAT_STEP = 0 <;> simp [off, State.setTap, wantCold]

/-- What stands outside island 37: module time, words, groups, legs, satellites and drivers, the Saggar, and starts called for. -/
def beyondHost (s : State) : Nat × Bool × Tbl Word36 × Tbl Grp × Tbl Leg × Tbl Rx × Saggar × Option Nat × Option Nat :=
  (s.mtime, s.timeRuns, s.words, s.grp, s.leg, s.rx, s.sag, s.coldWant, s.warmWant)

theorem beyondHost_putAll (s : State) (l : List (Fld × Nat)) : beyondHost (s.putAll l) = beyondHost s :=
  State.putAll_frame (fun _ _ _ => rfl) l s

theorem beyondHost_setHq (s : State) (r : Nat) (q : HQueue) : beyondHost (s.setHq r q) = beyondHost s := beyondHost_putAll _ _

theorem beyondHost_setHring (s : State) (k : Nat) (v : HRing) : beyondHost (s.setHring k v) = beyondHost s := rfl

theorem beyondHost_mapCmd (s : State) (c : CmdRef) (f : HCmd → HCmd) : beyondHost (mapCmd s c f) = beyondHost s :=
  beyondHost_setHq s c.ring _

theorem beyondHost_result (s : State) (c : CmdRef) (st : Status) (res : Option Nat) :
    beyondHost (result s c st res) = beyondHost s := by
  unfold result
  split
  · rfl
  · exact beyondHost_mapCmd s c fun x => { x with stage := .done }

theorem beyondHost_dropFetched (s : State) (r : Nat) : beyondHost (dropFetched s r) = beyondHost s := by
  unfold dropFetched
  extract_lets q
  split
  · rfl
  · generalize ({ q with cmds := _, any := false } : HQueue) = left
    exact beyondHost_setHq s r left

theorem beyondHost_ringReset (s : State) (r : Nat) : beyondHost (ringReset s r) = beyondHost s := by
  unfold ringReset
  extract_lets dropped q ended closed quiet
  calc beyondHost ((quiet.setHring r {}).putAll _) = beyondHost quiet := beyondHost_putAll _ _
    _ = beyondHost closed := State.foldl_frame (fun _ _ => beyondHost_result _ _ _ _) _ _
    _ = beyondHost dropped := beyondHost_setHq _ _ _
    _ = beyondHost s := beyondHost_dropFetched s r

theorem beyondHost_linkDown (s : State) : beyondHost (linkDown s) = beyondHost s :=
  beyondHost_putAll s [(HOST_STAT_LINK_UP, 0), (HOST_STAT_SPEED, 0), (HOST_STAT_WIDTH, 0)]

/-- An update of the register file, the telemetry items and the hold of island 37. -/
theorem beyondHost_update (s : State) (regs : Tbl Nat) (tlm : Tbl Tlm) (perst : Bool) :
    beyondHost { s with regs := regs, tlm := tlm, perst := perst } = beyondHost s := rfl

theorem beyondHost_perst (s : State) : beyondHost (perst s) = beyondHost s := by
  unfold perst perstAssert
  extract_lets reset empty kept cold
  have resets : beyondHost empty = beyondHost s :=
    (State.each_frame (fun s k => beyondHost_setHring s k {}) _ reset).trans (State.each_frame beyondHost_ringReset _ s)
  have cleared : beyondHost cold = beyondHost empty := beyondHost_update empty _ _ empty.perst
  clear_value cold kept
  rw [beyondHost_putAll, beyondHost_linkDown, ← resets, ← cleared, ← beyondHost_putAll cold kept]
  exact beyondHost_update _ _ _ true

theorem State.putAll_perst (s : State) (l : List (Fld × Nat)) : (s.putAll l).perst = s.perst :=
  State.putAll_frame (p := State.perst) (fun _ _ _ => rfl) l s

theorem State.putAll_busMaster (s : State) (l : List (Fld × Nat)) : (s.putAll l).busMaster = s.busMaster :=
  State.putAll_frame (p := State.busMaster) (fun _ _ _ => rfl) l s

theorem linkDown_perst (s : State) : (linkDown s).perst = s.perst := State.putAll_perst s _

theorem linkDown_busMaster (s : State) : (linkDown s).busMaster = false := rfl

/-- PERST_N holds island 37 in reset, off the bus. -/
theorem perst_holds (s : State) : (perst s).perst = true ∧ (perst s).busMaster = false := by
  simp only [perst, perstAssert, State.putAll_perst, State.putAll_busMaster, linkDown_perst, linkDown_busMaster, and_self]

/-- Settles O13, by what each pin's command comes to; PERST_N reaches nothing outside island 37. -/
theorem resetPins : Obligations.ResetPins := by
  intro s
  refine ⟨congrArg (fun t => Host.Outcome.next (settle s t)) (sysReset_eq s), congrArg Host.Outcome.next (tapRelease_eq s), ?_⟩
  have units := beyondHost_perst s
  simp only [beyondHost, Prod.mk.injEq] at units
  obtain ⟨held, off⟩ := perst_holds s
  exact ⟨perst s, rfl, held, off, units⟩


/-! ### Power-on (R53) -/

/-- An LV leg driver gets power and applies its orphan policy. -/
def driverPowered (s : State) (k : Nat) : State :=
  s.setRx (48 + k) ({ s.rxOf (48 + k) with ch := { gate := .off }, hs := { gate := .off } }.applyOrphan true)

theorem powerOn_eq {s : State} (off : s.fld PWR_START_STAT_STEP = 0) (kept : s.sup.lost = false) :
    powerOn s = wantCold (s.each ((List.range 12).filter fun k => s.linkFitted (48 + k)) driverPowered) 0 := by
  have held : heldOff s = true := by simp [heldOff, off]
  unfold powerOn
  rw [if_neg (by simp [held, kept])]
  rfl

theorem powerOn_idle {s : State} (h : s.fld PWR_START_STAT_STEP ≠ 0 ∨ s.sup.lost = true) : powerOn s = s :=
  if_pos (by simpa [heldOff] using h)

/-- The receiver of a powered driver is in ORPHAN. -/
theorem driverPowered_orphan (s : State) (k : Nat) : ((driverPowered s k).rxOf (48 + k)).state = .orphan := by
  unfold driverPowered State.rxOf State.setRx
  rw [Tbl.get_set_same]
  exact (Rx.applyOrphan_orphan _ true).1

theorem driverPowered_rxOf_other {s : State} {k l : Nat} (h : l ≠ 48 + k) : (driverPowered s k).rxOf l = s.rxOf l := by
  unfold driverPowered State.rxOf State.setRx
  exact Tbl.get_set_other {} {} s.rx h _

theorem driverPowered_frame (s : State) (k : Nat) : (driverPowered s k).regs = s.regs ∧ (driverPowered s k).sup = s.sup := ⟨rfl, rfl⟩

/-- Every driver that the loop names ends in ORPHAN. -/
theorem driversPowered_orphan (s : State) {l : List Nat} {k : Nat} (named : k ∈ l) :
    ((s.each l driverPowered).rxOf (48 + k)).state = .orphan := by
  refine State.each_reaches (P := fun t => (t.rxOf (48 + k)).state = .orphan) s named (fun t => driverPowered_orphan t k)
    fun t j _ orphan => ?_
  by_cases same : j = k
  · exact same ▸ driverPowered_orphan t j
  · rw [driverPowered_rxOf_other (by omega)]
    exact orphan

/-- Settles O5: the first two clauses by the branches of POWER_ON, the third by running it at the reset state. -/
theorem powerOnBeginsColdStart : Obligations.PowerOnBeginsColdStart := by
  refine ⟨fun s off kept => ?_, fun s busy => ?_, _, rfl, ?_⟩
  · refine ⟨powerOn s, rfl, ?_⟩
    rw [powerOn_eq off kept]
    refine ⟨rfl, State.each_frame (fun t k => (driverPowered_frame t k).1) _ s,
      State.each_frame (fun t k => (driverPowered_frame t k).2) _ s, fun k fitted => ?_, fun l => ?_⟩
    · exact driversPowered_orphan s (List.mem_filter.2 ⟨List.mem_range.2 k.isLt, fitted⟩)
    · exact State.each_frame (p := fun t => t.rxOf l) (fun t k => driverPowered_rxOf_other (by omega)) _ s
  · exact congrArg (fun t => Host.Outcome.next (settle s t)) (powerOn_idle busy)
  · decide +kernel


/-! ### Failed starts (R57, R64) -/

theorem State.setBytes_regs (s : State) (a : Nat) (l : List Byte) : (s.setBytes a l).regs = s.regs := by
  induction l generalizing s a with
  | nil => rfl
  | cons b l ih => exact ih (s.setByte a b) (a + 1)

theorem storeWrite_regs (s : State) (a : Nat) (l : List Byte) : (storeWrite s a l).regs = s.regs := by
  unfold storeWrite
  split
  · rfl
  · exact State.setBytes_regs s a l

theorem ctlWrite_regs (s : State) (l : List (Nat × Nat × Nat)) : (ctlWrite s l).regs = s.regs := storeWrite_regs s _ _

theorem State.fld_congr {s t : State} (h : t.regs = s.regs) (f : Fld) : t.fld f = s.fld f := by simp only [State.fld, h]

/-- The start record stands in the store; of the registers it moves START_IDX alone. -/
theorem writeStartRec_fld (s : State) {f : Fld} (h : f.key ≠ IMG_START_IDX_INDEX.key) : (writeStartRec s).fld f = s.fld f :=
  (State.fld_put_other _ _ _ _ h).trans (State.fld_congr ((ctlWrite_regs _ _).trans (storeWrite_regs s _ _)) f)

/-- The step and the unit that failed are noted. -/
def noteFailure (s : State) (step unit : Nat) : State := (s.put PWR_START_STAT_FAIL_STEP step).put PWR_START_STAT_FAIL_UNIT unit

theorem noteFailure_fld (s : State) (step unit : Nat) {f : Fld} (h₁ : f.key ≠ PWR_START_STAT_FAIL_STEP.key)
    (h₂ : f.key ≠ PWR_START_STAT_FAIL_UNIT.key) : (noteFailure s step unit).fld f = s.fld f :=
  (State.fld_put_other _ _ _ _ h₂).trans (State.fld_put_other _ _ _ _ h₁)

theorem noteFailure_kind (s : State) (step unit : Nat) :
    (noteFailure s step unit).flag PWR_START_STAT_KIND = s.flag PWR_START_STAT_KIND := by
  simp only [State.flag, noteFailure_fld s step unit (f := PWR_START_STAT_KIND) (by decide) (by decide)]

/-- What a failed warm start counts and writes before the next start. -/
def warmFailed (s : State) (step unit : Nat) : State :=
  writeStartRec ((noteFailure s step unit).put PWR_START_CNT_WARM_FAIL (min 3 (s.fld PWR_START_CNT_WARM_FAIL + 1)))

theorem failStart_warm {s : State} (step unit : Nat) (warm : s.flag PWR_START_STAT_KIND = false) :
    failStart s step unit =
      beginStart (warmFailed s step unit) (decide (3 ≤ (warmFailed s step unit).fld PWR_START_CNT_WARM_FAIL)) 9 := by
  have kind := (noteFailure_kind s step unit).trans warm
  have count := noteFailure_fld s step unit (f := PWR_START_CNT_WARM_FAIL) (by decide) (by decide)
  unfold warmFailed
  rw [← count]
  exact if_pos (congrArg not kind)

/-- What a failed cold start counts and writes. -/
def coldFailed (s : State) (step unit : Nat) : State :=
  writeStartRec (((noteFailure s step unit).put PWR_START_CNT_COLD_FAIL (min 2 (s.fld PWR_START_CNT_COLD_FAIL + 1))).put
    PWR_START_CNT_WARM_FAIL 0)

theorem coldFailed_count (s : State) (step unit : Nat) :
    (coldFailed s step unit).fld PWR_START_CNT_COLD_FAIL = min 2 (s.fld PWR_START_CNT_COLD_FAIL + 1) := by
  have width : min 2 (s.fld PWR_START_CNT_COLD_FAIL + 1) < 2 ^ PWR_START_CNT_COLD_FAIL.width := lt_of_le_of_lt (Nat.min_le_left _ _) (by decide)
  unfold coldFailed
  rw [writeStartRec_fld _ (by decide), State.fld_put_other _ _ _ _ (by decide), State.fld_put_same, Nat.mod_eq_of_lt width]

/-- The first cold start in a row that fails is followed by another. -/
theorem failStart_cold_first {s : State} (step unit : Nat) (cold : s.flag PWR_START_STAT_KIND = true)
    (first : s.fld PWR_START_CNT_COLD_FAIL = 0) : failStart s step unit = beginStart (coldFailed s step unit) true 9 := by
  have kind : ¬ ((!(noteFailure s step unit).flag PWR_START_STAT_KIND) = true) := by simp [noteFailure_kind, cold]
  have few : ¬ 2 ≤ (coldFailed s step unit).fld PWR_START_CNT_COLD_FAIL := by rw [coldFailed_count, first]; decide
  have count := noteFailure_fld s step unit (f := PWR_START_CNT_COLD_FAIL) (by decide) (by decide)
  unfold coldFailed at few ⊢
  rw [← count] at few ⊢
  exact (if_neg kind).trans (if_neg few)

theorem startLimit_running {s : State} (running : s.starting = true) (step : 2 ≤ s.fld PWR_START_STAT_STEP) :
    startLimit s = failStart s 12 0 := if_pos (by simp [running, step])

/-- Settles O14, by the branches of a failed start. -/
theorem failedStartIsRetried : Obligations.FailedStartIsRetried := by
  intro s
  refine ⟨fun idle => ?_, fun running step warm => ?_, fun running step cold first => ?_⟩
  · exact congrArg (fun t => Host.Outcome.next (settle s t)) (if_neg (by simp [idle]))
  · exact congrArg (fun t => Host.Outcome.next (settle s t)) ((startLimit_running running step).trans (failStart_warm 12 0 warm))
  · have next := (startLimit_running running step).trans (failStart_cold_first 12 0 cold first)
    rw [coldFailed, first] at next
    exact congrArg (fun t => Host.Outcome.next (settle s t)) next

/-! ### The completion of mode changes (R48, R49) -/

/-- Settles O16, by the cases of MODE_CHANGE_COMPLETE. -/
theorem modeChangeCompletes : Obligations.ModeChangeCompletes := by
  intro s changing
  have cases : modeChangeDone s = match s.mode, s.fld PWR_MODE_TARGET with
      | 1, 2 => completeMode s 2
      | 2, 1 => if driveLeft s then completeMode s 1 else s
      | 5, 1 => if s.flag SAF_STAT_DEV_LATCH then s else completeMode (s.put PWR_MODE_SAFE_CAUSE 0) 1
      | _, _ => s := if_neg (by simp [changing])
  refine ⟨fun mode target => ?_, fun mode target free => ?_, fun mode target latched => ?_⟩
  · rw [mode, target] at cases
    exact congrArg (fun t => Host.Outcome.next (settle s t)) cases
  · rw [mode, target] at cases
    exact congrArg (fun t => Host.Outcome.next (settle s t)) (cases.trans (if_neg (by simp [free])))
  · rw [mode, target] at cases
    exact congrArg (fun t => Host.Outcome.next (settle s t)) (cases.trans (if_pos latched))


/-! ### The order of the start steps (R56, R57, R61, R63) -/

/-- The step register is nobody's but the start's. -/
theorem SameWatch.toStep (s : State) (k : Nat) : SameWatch s (toStep s k) := SameWatch.put s _ _ (by decide)

/-! #### Step 1 -/

theorem stepEnd_waits {s : State} (running : s.starting = true) (step : s.fld PWR_START_STAT_STEP = 1) (feed : feedReady s = false)
    (rep : StepReport) : stepEnd s rep = s := by
  unfold stepEnd
  rw [if_neg (by simp [running]), step]
  exact if_pos (by simp [feed])

theorem stepEnd_feed {s : State} (running : s.starting = true) (step : s.fld PWR_START_STAT_STEP = 1) (feed : feedReady s = true)
    (rep : StepReport) : stepEnd s rep =
      if s.flag PWR_START_STAT_KIND then toStep s 2 else toStep { s with img := { s.img with startAt := s.mtime } } 3 := by
  unfold stepEnd
  rw [if_neg (by simp [running]), step]
  exact if_neg (by simp [feed])

/-! #### Step 2 -/

theorem State.setBytes_frame {p : State → β} (h : ∀ s b, p { s with bytes := b } = p s) (s : State) (a : Nat) (l : List Byte) :
    p (s.setBytes a l) = p s := by
  induction l generalizing s a with
  | nil => rfl
  | cons b l ih => exact (ih (s.setByte a b) (a + 1)).trans (h s _)

theorem storeWrite_frame {p : State → β} (h : ∀ s b d, p { s with bytes := b, deferred := d } = p s) (s : State) (a : Nat) (l : List Byte) :
    p (storeWrite s a l) = p s := by
  unfold storeWrite
  split
  · exact h s s.bytes _
  · exact State.setBytes_frame (fun t b => h t b t.deferred) s a l

theorem ctlWrite_watch (s : State) (l : List (Nat × Nat × Nat)) : SameWatch s (ctlWrite s l) :=
  SameWatch.of_regs (ctlWrite_regs s l) (storeWrite_frame (p := State.waits) (fun _ _ _ => rfl) s _ _)
    (storeWrite_frame (p := called) (fun _ _ _ => rfl) s _ _)

/-- PWM_EPOCH as the step leaves it, before module time starts. -/
def epochCounted (s : State) : State := (ctlWrite s [(12, 4, (ctlEpoch s + 1) % 2 ^ 32)]).put PWM_EPOCH ((ctlEpoch s + 1) % 2 ^ 32)

/-- Module time starts from 0. -/
def clockStarted (s : State) : State := { s with mtime := 0, timeRuns := true, img := { s.img with startAt := 0 } }

theorem moduleTimeStart_eq (s : State) : moduleTimeStart s = (clockStarted (epochCounted s)).each (List.range 16) showPin := rfl

theorem epochCounted_watch (s : State) : SameWatch s (epochCounted s) := by
  unfold epochCounted
  exact (ctlWrite_watch s _).trans (SameWatch.put _ PWM_EPOCH _ (by decide))

theorem epochCounted_epoch (s : State) : (epochCounted s).fld PWM_EPOCH = (ctlEpoch s + 1) % 2 ^ 32 := by
  unfold epochCounted
  exact (State.fld_put_same _ _ _).trans (Nat.mod_mod _ _)

theorem clockStarted_fld (s : State) (f : Fld) : (clockStarted s).fld f = s.fld f := rfl

theorem clockStarted_watch (s : State) : SameWatch s (clockStarted s) := SameWatch.of_regs rfl rfl rfl

theorem pinKey_free : ∀ n : Fin 16, watchedKey (PWM_TRIP_FILT_RAW n).key = false ∧ PWM_EPOCH.key ≠ (PWM_TRIP_FILT_RAW n).key := by
  decide

theorem showPin_watch (s : State) {n : Nat} (h : n ∈ List.range 16) : SameWatch s (showPin s n) :=
  SameWatch.put s _ _ (pinKey_free ⟨n, List.mem_range.1 h⟩).1

theorem showPin_epoch (s : State) {n : Nat} (h : n ∈ List.range 16) : (showPin s n).fld PWM_EPOCH = s.fld PWM_EPOCH :=
  State.fld_put_other s _ _ _ (pinKey_free ⟨n, List.mem_range.1 h⟩).2

theorem showPin_clock (s : State) (n : Nat) : (showPin s n).mtime = s.mtime ∧ (showPin s n).timeRuns = s.timeRuns := ⟨rfl, rfl⟩

theorem moduleTimeStart_watch (s : State) : SameWatch s (moduleTimeStart s) := by
  rw [moduleTimeStart_eq]
  exact ((epochCounted_watch s).trans (clockStarted_watch _)).trans (SameWatch.each (fun t _ => showPin_watch t) _)

theorem moduleTimeStart_clock (s : State) : (moduleTimeStart s).mtime = 0 ∧ (moduleTimeStart s).timeRuns = true := by
  rw [moduleTimeStart_eq]
  exact ⟨State.each_frame (fun t n => (showPin_clock t n).1) _ _, State.each_frame (fun t n => (showPin_clock t n).2) _ _⟩

theorem showPins_epoch (s : State) : (s.each (List.range 16) showPin).fld PWM_EPOCH = s.fld PWM_EPOCH :=
  State.each_frame_mem (p := fun t => t.fld PWM_EPOCH) (fun t _ => showPin_epoch t) s

theorem moduleTimeStart_epoch (s : State) : (moduleTimeStart s).fld PWM_EPOCH = (ctlEpoch s + 1) % 2 ^ 32 := by
  rw [moduleTimeStart_eq, showPins_epoch, clockStarted_fld, epochCounted_epoch]

theorem stepEnd_clock {s : State} (running : s.starting = true) (step : s.fld PWR_START_STAT_STEP = 2) :
    stepEnd s {} = toStep (moduleTimeStart s) 3 := by
  unfold stepEnd
  rw [if_neg (by simp [running]), step]
  rfl

/-! #### Step 4 -/

/-- What the injection writes of a pair whose five lanes have passed. -/
def lanesPassed (s : State) (n : Nat) : State :=
  s.putAll [(LKS_INJ_PASS n, 31 - bitsOf 0 (5 * n) 5), (LKS_INJ_PAR_PASS n, bit (!(bitsOf 0 (5 * n) 5).testBit 4)),
    (LKS_INJ_FIRST_FAIL n, (lowest 5 (bitsOf 0 (5 * n) 5)).getD 7)]

/-- A pair runs. -/
def pairRuns (s : State) (n : Nat) : State := s.put (LKS_PAIR_STAT_RUN n) 1

/-- The lanes of every pair have passed, and the pairs run. -/
def lanesChecked (s : State) : State := (s.each (List.range 12) lanesPassed).each (List.range 12) pairRuns

theorem stepEnd_lanes {s : State} (running : s.starting = true) (step : s.fld PWR_START_STAT_STEP = 4) :
    stepEnd s {} = toStep (lanesChecked s) 5 := by
  unfold stepEnd
  rw [if_neg (by simp [running]), step]
  rfl

theorem lanesPassed_pass (s : State) (n : Nat) : (lanesPassed s n).fld (LKS_INJ_PASS n) = 31 := by
  have none : bitsOf 0 (5 * n) 5 = 0 := by simp [bitsOf]
  have parity : (LKS_INJ_PASS n).key ≠ (LKS_INJ_PAR_PASS n).key := by simp [Fld.key, LKS_INJ_PASS, LKS_INJ_PAR_PASS]
  have first : (LKS_INJ_PASS n).key ≠ (LKS_INJ_FIRST_FAIL n).key := by simp [Fld.key, LKS_INJ_PASS, LKS_INJ_FIRST_FAIL]
  unfold lanesPassed
  rw [none]
  exact (State.fld_put_other _ _ _ _ first).trans ((State.fld_put_other _ _ _ _ parity).trans (State.fld_put_same _ _ _))

theorem lanesPassed_other (s : State) {m n : Nat} (h : m ≠ n) : (lanesPassed s n).fld (LKS_INJ_PASS m) = s.fld (LKS_INJ_PASS m) := by
  have keys : ∀ f ∈ [LKS_INJ_PASS n, LKS_INJ_PAR_PASS n, LKS_INJ_FIRST_FAIL n], (LKS_INJ_PASS m).key ≠ f.key := by
    simp only [List.forall_mem_cons, Fld.key, LKS_INJ_PASS, LKS_INJ_PAR_PASS, LKS_INJ_FIRST_FAIL]
    refine ⟨by omega, by omega, by omega, nofun⟩
  simp only [List.forall_mem_cons] at keys
  obtain ⟨pass, parity, first, -⟩ := keys
  exact (State.fld_put_other _ _ _ _ first).trans ((State.fld_put_other _ _ _ _ parity).trans (State.fld_put_other _ _ _ _ pass))

theorem lanesPassed_watch (s : State) {n : Nat} (h : n ∈ List.range 12) : SameWatch s (lanesPassed s n) := by
  have unwatched : ∀ k : Fin 12, ∀ f ∈ [LKS_INJ_PASS k, LKS_INJ_PAR_PASS k, LKS_INJ_FIRST_FAIL k], watchedKey f.key = false := by decide
  have free := unwatched ⟨n, List.mem_range.1 h⟩
  simp only [List.forall_mem_cons] at free
  obtain ⟨pass, parity, first, -⟩ := free
  exact ((SameWatch.put _ _ _ pass).trans (SameWatch.put _ _ _ parity)).trans (SameWatch.put _ _ _ first)

theorem pairRuns_watch (s : State) {n : Nat} (h : n ∈ List.range 12) : SameWatch s (pairRuns s n) := by
  have unwatched : ∀ k : Fin 12, watchedKey (LKS_PAIR_STAT_RUN k).key = false := by decide
  exact SameWatch.put s _ _ (unwatched ⟨n, List.mem_range.1 h⟩)

theorem pairRuns_run (s : State) (m n : Nat) (h : m = n ∨ s.fld (LKS_PAIR_STAT_RUN m) = 1) :
    (pairRuns s n).fld (LKS_PAIR_STAT_RUN m) = 1 := by
  by_cases same : m = n
  · subst same
    exact State.fld_put_same _ _ _
  · refine (State.fld_put_other _ _ _ _ ?_).trans (h.resolve_left same)
    simp only [Fld.key, LKS_PAIR_STAT_RUN]
    omega

theorem pairRuns_pass (s : State) (m : Fin 12) (n : Nat) : (pairRuns s n).fld (LKS_INJ_PASS m) = s.fld (LKS_INJ_PASS m) := by
  refine State.fld_put_other _ _ _ _ ?_
  simp only [Fld.key, LKS_INJ_PASS, LKS_PAIR_STAT_RUN]
  omega

theorem lanesChecked_watch (s : State) : SameWatch s (lanesChecked s) :=
  (SameWatch.each (fun t _ => lanesPassed_watch t) s).trans (SameWatch.each (fun t _ => pairRuns_watch t) _)

theorem lanesChecked_run (s : State) (m : Fin 12) : (lanesChecked s).fld (LKS_PAIR_STAT_RUN m) = 1 :=
  State.each_reaches (P := fun t => t.fld (LKS_PAIR_STAT_RUN m) = 1) _ (List.mem_range.2 m.isLt)
    (fun t => pairRuns_run t m m (.inl rfl)) fun t n _ h => pairRuns_run t m n (.inr h)

theorem lanesChecked_pass (s : State) (m : Fin 12) : (lanesChecked s).fld (LKS_INJ_PASS m) = 31 := by
  refine (State.each_frame (p := fun t => t.fld (LKS_INJ_PASS m)) (fun t n => pairRuns_pass t m n) _ _).trans ?_
  refine State.each_reaches (P := fun t => t.fld (LKS_INJ_PASS m) = 31) s (List.mem_range.2 m.isLt) (fun t => lanesPassed_pass t m)
    fun t n _ h => ?_
  by_cases same : m.val = n
  · exact same ▸ lanesPassed_pass t m
  · exact (lanesPassed_other t same).trans h

/-! #### Steps 8 and 10 -/

theorem stepEnd_fabric_warm {s : State} (running : s.starting = true) (step : s.fld PWR_START_STAT_STEP = 8)
    (warm : s.flag PWR_START_STAT_KIND = false) : stepEnd s {} = toStep (s.put JNL_STAT_SCAN_DONE 0) 9 := by
  unfold stepEnd
  rw [if_neg (by simp [running]), step]
  exact if_neg (by simp [warm])

theorem fabricTimeout_pending {s : State} (running : s.starting = true) (step : s.fld PWR_START_STAT_STEP = 8)
    (open_ : discoveryDone s = false) :
    fabricTimeout s = toStep ((s.put JNL_STAT_SCAN_DONE 0).put PWR_START_STAT_FABRIC_PENDING 1) 9 := by
  unfold fabricTimeout
  rw [if_pos (by simp [running, step]), open_]
  rfl

theorem stepEnd_ready_warm {s : State} (running : s.starting = true) (step : s.fld PWR_START_STAT_STEP = 10)
    (warm : s.flag PWR_START_STAT_KIND = false) : stepEnd s {} = modeReady (closeOpenWarm s) := by
  unfold stepEnd
  rw [if_neg (by simp [running]), step]
  exact congrArg modeReady (if_neg (by simp [warm]))

/-- A step whose end other blocks do not look at. -/
theorem exec_startStepEnd_quiet {s t : State} (quiet : s.quiet = true) (ends : stepEnd s {} = t) (same : SameWatch s t) :
    exec (.startStepEnd {}) s = .next t :=
  congrArg Host.Outcome.next (ends ▸ settle_quiet quiet (ends ▸ same))

theorem toStep_step (s : State) {k : Nat} (h : k < 16) : (toStep s k).fld PWR_START_STAT_STEP = k :=
  (State.fld_put_same _ _ _).trans (Nat.mod_eq_of_lt h)

theorem toStep_fld (s : State) (k : Nat) {f : Fld} (h : f.key ≠ PWR_START_STAT_STEP.key) : (toStep s k).fld f = s.fld f :=
  State.fld_put_other s _ _ _ h

theorem toStep_clock (s : State) (k : Nat) : (toStep s k).mtime = s.mtime ∧ (toStep s k).timeRuns = s.timeRuns := ⟨rfl, rfl⟩

theorem toStep_lanes (s : State) (k : Nat) (n : Fin 12) : (toStep s k).fld (LKS_PAIR_STAT_RUN n) = s.fld (LKS_PAIR_STAT_RUN n) ∧
    (toStep s k).fld (LKS_INJ_PASS n) = s.fld (LKS_INJ_PASS n) := by
  have keys : ∀ n : Fin 12, (LKS_PAIR_STAT_RUN n).key ≠ PWR_START_STAT_STEP.key ∧ (LKS_INJ_PASS n).key ≠ PWR_START_STAT_STEP.key := by
    decide
  exact ⟨toStep_fld s k (keys n).1, toStep_fld s k (keys n).2⟩

/-- Settles O15, step by step. -/
theorem startStepsInOrder : Obligations.StartStepsInOrder := by
  intro s quiet running
  refine ⟨fun step feed => ?_, fun step feed cold => ?_, fun step feed warm => ?_, fun step => ?_, fun step => ?_,
    fun step warm => ?_, fun step open_ => ?_, fun step warm => ?_⟩
  · exact exec_startStepEnd_quiet quiet (stepEnd_waits running step feed {}) (SameWatch.refl s)
  · exact exec_startStepEnd_quiet quiet ((stepEnd_feed running step feed {}).trans (if_pos cold)) (SameWatch.toStep s 2)
  · have noted : SameWatch s { s with img := { s.img with startAt := s.mtime } } := SameWatch.of_regs rfl rfl rfl
    exact exec_startStepEnd_quiet quiet ((stepEnd_feed running step feed {}).trans (if_neg (by simp [warm])))
      (noted.trans (SameWatch.toStep _ 3))
  · obtain ⟨zero, runs⟩ := moduleTimeStart_clock s
    obtain ⟨time, on⟩ := toStep_clock (moduleTimeStart s) 3
    exact ⟨toStep (moduleTimeStart s) 3,
      exec_startStepEnd_quiet quiet (stepEnd_clock running step) ((moduleTimeStart_watch s).trans (SameWatch.toStep _ 3)),
      toStep_step _ (by decide), time.trans zero, on.trans runs, (toStep_fld _ 3 (by decide)).trans (moduleTimeStart_epoch s)⟩
  · refine ⟨toStep (lanesChecked s) 5,
      exec_startStepEnd_quiet quiet (stepEnd_lanes running step) ((lanesChecked_watch s).trans (SameWatch.toStep _ 5)),
      toStep_step _ (by decide), fun n => ?_⟩
    obtain ⟨runs, pass⟩ := toStep_lanes (lanesChecked s) 5 n
    exact ⟨runs.trans (lanesChecked_run s n), pass.trans (lanesChecked_pass s n)⟩
  · refine exec_startStepEnd_quiet quiet (stepEnd_fabric_warm running step warm) ?_
    exact (SameWatch.put s _ _ (by decide)).trans (SameWatch.toStep _ 9)
  · exact congrArg Host.Outcome.next (fabricTimeout_pending running step open_)
  · exact congrArg (fun t => Host.Outcome.next (settle s t)) (stepEnd_ready_warm running step warm)


/-! ### What the end of a step leaves of the results

A command's result is recorded before the step ends; what other blocks do then, and the start that is served, only adds results, unless
a cold start begins, which stops module time. `ResultsStand` says so of a pair of states, and each function that `settle` reaches has
one lemma, along the branches of its definition. -/

/-- If module time runs in `s`, it ran in `r`, and the results of `r` stand first among those of `s`. -/
def ResultsStand (r s : State) : Prop := s.timeRuns = true → r.timeRuns = true ∧ r.results <+: s.results

theorem ResultsStand.refl (s : State) : ResultsStand s s := fun runs => ⟨runs, List.prefix_refl _⟩

theorem ResultsStand.trans (h : ResultsStand r s) (k : ResultsStand s t) : ResultsStand r t := fun runs =>
  ⟨(h (k runs).1).1, (h (k runs).1).2.trans (k runs).2⟩

theorem ResultsStand.ite {c : Prop} {_ : Decidable c} (h : ResultsStand r s) (k : ResultsStand r t) :
    ResultsStand r (if c then s else t) := by
  split <;> assumption

theorem ResultsStand.ite_fst {c : Prop} {_ : Decidable c} {a b : State × β} (h : ResultsStand r a.1) (k : ResultsStand r b.1) :
    ResultsStand r (if c then a else b).1 := by
  split <;> assumption

theorem ResultsStand.pair (h : ResultsStand r s) : ResultsStand r (s, x).1 := h

theorem ResultsStand.pair_snd (h : ResultsStand r s) : ResultsStand r (x, s).2 := h

theorem ResultsStand.foldl {f : State → α → State} (h : ResultsStand r s) (hf : ∀ {s a}, ResultsStand r s → ResultsStand r (f s a))
    {l : List α} : ResultsStand r (l.foldl f s) := by
  induction l generalizing s with
  | nil => exact h
  | cons a l ih => exact ih (hf h)

theorem ResultsStand.each {f : State → α → State} (h : ResultsStand r s)
    (hf : ∀ {s a}, ResultsStand r s → ResultsStand r (f s a)) : ResultsStand r (s.each l f) := h.foldl hf

theorem ResultsStand.when {f : State → State} (h : ResultsStand r s) (hf : ∀ {s}, ResultsStand r s → ResultsStand r (f s)) :
    ResultsStand r (s.when c f) := .ite (hf h) h

/-- An update of any fields but module time's running and the results. -/
theorem ResultsStand.update (h : ResultsStand r s) : ResultsStand r { s with
    pending := w0, variant := w1, regs := w2, words := w3, bytes := w4,
    mtime := v0, grp := v2, leg := v3, filtAt := v4, roles := v5, rx := v6, lk := v7, adc := v8, modu := v9,
    mirLatch := v10, fb := v11, fbLatch := v12, emu := v13, hring := v14, busMaster := v15, views := v16, trcSlot := v17,
    trcLink := v18, eng := v19, lib := v20, act := v21, cnv := v22, chg := v23, pair := v24, startFault := v25, sag := v26,
    sagGrp := v27, sout := v28, fjop := v29, waits := v30, hq := v32, jnl := v33, tlm := v34, dipHold := v35,
    deferred := v36, perst := v37, tripPins := v38, fab := v39, can := v40, sup := v41, thm := v42, tap := v43, sst := v44,
    coldWant := v45, warmWant := v46, clkBad := v47, img := v48, out := v49, free := v50 } :=
  h

theorem ResultsStand.put (h : ResultsStand r s) : ResultsStand r (s.put f v) := h.update

theorem ResultsStand.setWord (h : ResultsStand r s) : ResultsStand r (s.setWord a w) := h.update

theorem ResultsStand.setBytes (h : ResultsStand r s) : ResultsStand r (s.setBytes a l) := by
  induction l generalizing s a with
  | nil => exact h
  | cons b l ih => exact ih h.update

/-- A completion point adds the results of the commands that wait for it. -/
theorem ResultsStand.finish (h : ResultsStand r s) : ResultsStand r (State.finish s w x x1) :=
  h.trans fun runs => ⟨runs, List.prefix_append _ _⟩

/-- A cold start stops module time. -/
theorem ResultsStand.coldReset : ResultsStand r (coldReset s) := fun runs => nomatch runs

theorem ResultsStand.putFlag (h : ResultsStand r s) : ResultsStand r (State.putFlag s f b) := h.put

theorem ResultsStand.inc (h : ResultsStand r s) : ResultsStand r (State.inc s f) := h.put

theorem ResultsStand.addSat (h : ResultsStand r s) : ResultsStand r (State.addSat s f d) := h.put

theorem ResultsStand.putAll (h : ResultsStand r s) : ResultsStand r (State.putAll s l) := h.foldl fun h => h.put

theorem ResultsStand.setGrp (h : ResultsStand r s) : ResultsStand r (State.setGrp s g v) := h.update

theorem ResultsStand.setLeg (h : ResultsStand r s) : ResultsStand r (State.setLeg s n v) := h.update

theorem ResultsStand.emit (h : ResultsStand r s) : ResultsStand r (State.emit s o) := h.update

theorem ResultsStand.irq (h : ResultsStand r s) : ResultsStand r (State.irq s p b i c) := h.emit

theorem ResultsStand.fresh (h : ResultsStand r s) : ResultsStand r (State.fresh s).2 := h.update.pair_snd

theorem ResultsStand.refuse (h : ResultsStand r s) : ResultsStand r (State.refuse s b x) := h.put.inc

theorem ResultsStand.trace (h : ResultsStand r s) : ResultsStand r (State.trace s x c d) := .ite (h.setBytes.put.when fun h => h.putFlag) h

theorem ResultsStand.setHring (h : ResultsStand r s) : ResultsStand r (State.setHring s k v) := h.update

theorem ResultsStand.announce (h : ResultsStand r s) : ResultsStand r (announce s k) := .ite h <| .ite h.setHring h.setHring.emit

theorem ResultsStand.writeRec (h : ResultsStand r s) : ResultsStand r (writeRec s k x) :=
  (ResultsStand.ite (h.emit.put.when fun h => h.putFlag) h.emit.put).setHring.announce

theorem ResultsStand.pumpRecs (h : ResultsStand r s) : ResultsStand r (pumpRecs s k l) := by
  induction l generalizing s with
  | nil => exact h.setHring
  | cons x l ih => exact .ite (ih h.writeRec) h.setHring

theorem ResultsStand.postEvent (h : ResultsStand r s) : ResultsStand r (postEvent s k p) := .ite h.pumpRecs.setHring.inc h.pumpRecs

theorem ResultsStand.freeFollowers (h : ResultsStand r s) : ResultsStand r (freeFollowers s g) := h.each fun h => (ResultsStand.ite h.setGrp h).putFlag

theorem ResultsStand.dropPeriod (h : ResultsStand r s) : ResultsStand r (dropPeriod s g) := h.setGrp.putAll.each fun h => h.setLeg

theorem ResultsStand.enterSafeGroup (h : ResultsStand r s) : ResultsStand r (enterSafeGroup s g) := h.freeFollowers.dropPeriod.put.finish

theorem ResultsStand.acceptSet (h : ResultsStand r s) : ResultsStand r (acceptSet s g d) :=
  ((h.when fun h => h.inc.trace).when fun h => h.inc).setGrp.putFlag

theorem ResultsStand.groupCommit (h : ResultsStand r s) : ResultsStand r (groupCommit s g).1 := .ite_fst h.pair h.acceptSet.pair

theorem ResultsStand.setSout (h : ResultsStand r s) : ResultsStand r (State.setSout s n v) := h.update

theorem ResultsStand.evalChoice (h : ResultsStand r s) : ResultsStand r (evalChoice s g) := h.putAll

theorem ResultsStand.evalChoices (h : ResultsStand r s) : ResultsStand r (evalChoices s) := h.each fun h => h.evalChoice

theorem ResultsStand.soutDrive (h : ResultsStand r s) : ResultsStand r (soutDrive s n) := h.putAll

theorem ResultsStand.pulseBegin (h : ResultsStand r s) : ResultsStand r (pulseBegin s n) := h.update.setSout.put

theorem ResultsStand.pulseNext (h : ResultsStand r s) : ResultsStand r (pulseNext s l) := by
  induction l generalizing s with
  | nil => exact h.update
  | cons n l ih => exact .ite h.update.pulseBegin (ih h)

theorem ResultsStand.dropPulse (h : ResultsStand r s) : ResultsStand r (dropPulse s) := by
  unfold Machine.dropPulse
  split
  · exact .ite h h.pulseNext
  · exact h

theorem ResultsStand.soutDriveAll (h : ResultsStand r s) : ResultsStand r (soutDriveAll s) := (h.each fun h => h.soutDrive).dropPulse

theorem ResultsStand.latchGroup (h : ResultsStand r s) : ResultsStand r (latchGroup s c g) := .ite h h.putAll.enterSafeGroup

theorem ResultsStand.setMode (h : ResultsStand r s) : ResultsStand r (setMode s m) := h.putAll.postEvent.trace

theorem ResultsStand.enterSafeMode (h : ResultsStand r s) : ResultsStand r (enterSafeMode s c) :=
  .ite h <| .ite (.ite h.putAll.finish h) h.put.finish.setMode

theorem ResultsStand.latchDevice (h : ResultsStand r s) : ResultsStand r (latchDevice s c) :=
  .ite h.inc (h.putAll.each fun h => .ite h.setSout h).enterSafeMode

theorem ResultsStand.demand (h : ResultsStand r s) : ResultsStand r (demand s x) :=
  (((h.each fun h => h.latchGroup).when fun h => h.latchDevice).update.when fun h => h.postEvent.trace).evalChoices.soutDriveAll

theorem ResultsStand.demandEvt (h : ResultsStand r s) : ResultsStand r (demandEvt s c g d f) := h.update.demand

theorem ResultsStand.writeSlot (h : ResultsStand r s) : ResultsStand r (writeSlot s e a x) := h.setWord.setWord

theorem ResultsStand.setLink (h : ResultsStand r s) : ResultsStand r (State.setLink s j v) := h.update

theorem ResultsStand.trcWrite (h : ResultsStand r s) : ResultsStand r (trcWrite s m a w e v x) := .ite h.writeSlot h

theorem ResultsStand.writeFlags (h : ResultsStand r s) : ResultsStand r (writeFlags s m) := h.trcWrite

theorem ResultsStand.writeLimit (h : ResultsStand r s) : ResultsStand r (writeLimit s m g) := h.fresh.trcWrite

theorem ResultsStand.trcDerate (h : ResultsStand r s) : ResultsStand r (trcDerate s m v) := .ite h h.put.writeLimit.writeLimit

theorem ResultsStand.updateRegen (h : ResultsStand r s) : ResultsStand r (updateRegen s j) := h.each fun h => .ite h h.putFlag.writeFlags

theorem ResultsStand.commitChopper (h : ResultsStand r s) : ResultsStand r (commitChopper s j d) := h.fresh.put.putFlag.setLink.groupCommit

theorem ResultsStand.linkDemand (h : ResultsStand r s) : ResultsStand r (linkDemand s j c) := h.inc.demand

theorem ResultsStand.chopperUnavailable (h : ResultsStand r s) : ResultsStand r (chopperUnavailable s j c) :=
  .ite (h.putAll.inc.when fun h => h.commitChopper).updateRegen.linkDemand (h.putAll.inc.when fun h => h.commitChopper).updateRegen

theorem ResultsStand.chopperWatch (h : ResultsStand r s) : ResultsStand r (chopperWatch s j) := .ite h.chopperUnavailable h

theorem ResultsStand.stoppedAtSpeed (h : ResultsStand r s) : ResultsStand r (stoppedAtSpeed s m) := .ite h.putFlag.inc.demandEvt h

theorem ResultsStand.clearZeroTorque (h : ResultsStand r s) : ResultsStand r (clearZeroTorque s) := h.each fun h => h.putAll.writeFlags

theorem ResultsStand.setAct (h : ResultsStand r s) : ResultsStand r (State.setAct s m v) := h.update

theorem ResultsStand.rounded (h : ResultsStand r s) : ResultsStand r (State.rounded s n d).2 := h.fresh.pair_snd

theorem ResultsStand.actEnter (h : ResultsStand r s) : ResultsStand r (actEnter s m x) := .ite h.putAll h.putAll.putAll

theorem ResultsStand.actEvent (h : ResultsStand r s) : ResultsStand r (actEvent s m c a) := (h.when fun h => h.inc).setAct.when fun h => h.irq

theorem ResultsStand.actFloatAll (h : ResultsStand r s) : ResultsStand r (actFloatAll s m) := (h.each fun h => h.setLeg).setAct.groupCommit

theorem ResultsStand.actRunEnds (h : ResultsStand r s) : ResultsStand r (actRunEnds s m x) := .ite (h.setAct.finish.when fun h => h.actEvent) h

theorem ResultsStand.actFault (h : ResultsStand r s) : ResultsStand r (actFault s m c) := h.actRunEnds.actFloatAll.actEnter.put.actEvent

theorem ResultsStand.actWatch (h : ResultsStand r t) : ResultsStand r (actWatch s t m) := .ite h <| .ite h.actFault <| .ite h.actFault h

theorem ResultsStand.storeWrite (h : ResultsStand r s) : ResultsStand r (storeWrite s a l) := .ite h.update h.setBytes

theorem ResultsStand.setHq (h : ResultsStand r s) : ResultsStand r (State.setHq s x q) := h.update.putAll

theorem ResultsStand.dropFetched (h : ResultsStand r s) : ResultsStand r (dropFetched s x) := by
  unfold Machine.dropFetched
  extract_lets
  split
  · exact h
  · exact h.setHq.put

theorem ResultsStand.setFabQ (h : ResultsStand r s) : ResultsStand r (State.setFabQ s c v) := h.update

theorem ResultsStand.fabWarm (h : ResultsStand r s) : ResultsStand r (fabWarm s) := h.each fun h => h.addSat.setFabQ.putAll

theorem ResultsStand.setCnv (h : ResultsStand r s) : ResultsStand r (State.setCnv s m v) := h.update

theorem ResultsStand.cnvWrite (h : ResultsStand r s) : ResultsStand r (cnvWrite s m a w e) := .ite h.writeSlot h

theorem ResultsStand.writeRef (h : ResultsStand r s) : ResultsStand r (writeRef s m) := h.put.cnvWrite

theorem ResultsStand.cnvFloats (h : ResultsStand r s) : ResultsStand r (cnvFloats s m) := h.each fun h => h.setLeg

theorem ResultsStand.writeCnvFlags (h : ResultsStand r s) : ResultsStand r (writeCnvFlags s m) := h.setCnv.writeSlot

theorem ResultsStand.cnvSync (h : ResultsStand r s) : ResultsStand r (cnvSync s m) := .ite h.put.cnvFloats h.put.cnvFloats.writeCnvFlags

theorem ResultsStand.cnvEnter (h : ResultsStand r s) : ResultsStand r (cnvEnter s m x) :=
  (ResultsStand.ite (.ite h.put h.put.putAll) (ResultsStand.ite h.put h.put.putAll).putAll).cnvSync

theorem ResultsStand.cnvStartEnds (h : ResultsStand r s) : ResultsStand r (cnvStartEnds s m x) := .ite h.setCnv.finish h

theorem ResultsStand.cnvFault (h : ResultsStand r s) : ResultsStand r (cnvFault s m c) := h.cnvStartEnds.put.cnvEnter

theorem ResultsStand.cnvTarget (h : ResultsStand r s) : ResultsStand r (cnvTarget s m) := h.fresh.setCnv

theorem ResultsStand.noteLed (h : ResultsStand r s) : ResultsStand r (noteLed s m) := h.setCnv

theorem ResultsStand.softStart (h : ResultsStand r s) : ResultsStand r (softStart s m) := h.cnvTarget.setCnv.putAll.noteLed.writeRef.cnvEnter

theorem ResultsStand.cnvWatch (h : ResultsStand r t) : ResultsStand r (cnvWatch s t m) := .ite h <| .ite h.cnvFault <| .ite h.cnvFault h

theorem ResultsStand.cnvRefused (h : ResultsStand r s) : ResultsStand r (cnvRefused s x).1 := h.refuse.pair

theorem ResultsStand.cnvStart (h : ResultsStand r s) : ResultsStand r (cnvStart s m).1 :=
  .ite_fst h.cnvRefused <| .ite_fst h.cnvRefused h.setCnv.put.softStart.pair

theorem ResultsStand.autoDue (h : ResultsStand r s) : ResultsStand r (autoDue s) := .ite h (h.each fun h => h.setCnv)

theorem ResultsStand.autoStart (h : ResultsStand r s) : ResultsStand r (autoStart s m) := by
  unfold Machine.autoStart
  split
  · exact h
  · exact .ite h.setCnv <| .ite h.setCnv.cnvStart h

theorem ResultsStand.cnvRegroup (h : ResultsStand r s) : ResultsStand r (cnvRegroup s n) := h.setLeg.each fun h => h.cnvSync

theorem ResultsStand.setChg (h : ResultsStand r s) : ResultsStand r (State.setChg s v) := h.update

theorem ResultsStand.completeModeAs (h : ResultsStand r s) : ResultsStand r (completeModeAs s m x) := (ResultsStand.ite h.clearZeroTorque h).setMode.finish

theorem ResultsStand.abandonMode (h : ResultsStand r s) : ResultsStand r (abandonMode s x) := h.putAll.finish

theorem ResultsStand.rampCurrent (h : ResultsStand r s) : ResultsStand r (rampCurrent s g) := h.setChg

theorem ResultsStand.writeQty (h : ResultsStand r s) : ResultsStand r (writeQty s e a n d) := h.rounded.fresh.writeSlot

theorem ResultsStand.writeChgFlags (h : ResultsStand r s) : ResultsStand r (writeChgFlags s e a v) := h.writeSlot

theorem ResultsStand.putSlots (h : ResultsStand r s) : ResultsStand r (putSlots s) :=
  .ite h.writeQty.writeQty.writeChgFlags.writeQty.writeQty.writeQty.writeQty.writeChgFlags
    h.writeQty.writeQty.writeChgFlags.writeQty.writeQty.writeQty.writeQty.writeChgFlags.writeChgFlags.writeQty

theorem ResultsStand.chgSlots (h : ResultsStand r s) : ResultsStand r (chgSlots s) := .ite h.putSlots h

theorem ResultsStand.floatGroup (h : ResultsStand r s) : ResultsStand r (floatGroup s g b) := h.each fun h => h.setLeg

theorem ResultsStand.chgFloats (h : ResultsStand r s) : ResultsStand r (chgFloats s) := by
  unfold Machine.chgFloats
  dsimp only
  refine .ite ?_ ?_
  · refine ResultsStand.floatGroup ?_
    refine .ite ?_ h.floatGroup
    split
    · exact h.floatGroup.setLeg
    · exact h.floatGroup
  · refine ResultsStand.floatGroup ?_
    refine ResultsStand.floatGroup ?_
    refine .ite ?_ h.floatGroup
    split
    · exact h.floatGroup.setLeg
    · exact h.floatGroup

theorem ResultsStand.updateRed (h : ResultsStand r s) : ResultsStand r (updateRed s) := (ResultsStand.ite h h.setChg).putAll.setChg.put

theorem ResultsStand.chgSync (h : ResultsStand r s) : ResultsStand r (chgSync s) := h.updateRed.chgFloats.chgSlots

theorem ResultsStand.chgEnter (h : ResultsStand r s) : ResultsStand r (chgEnter s x) := h.put.chgSync

theorem ResultsStand.closeSession (h : ResultsStand r s) : ResultsStand r (closeSession s c) := h.putAll.when fun h => h.inc

theorem ResultsStand.chgIdle (h : ResultsStand r s) : ResultsStand r (chgIdle s) := h.setChg.putAll.chgEnter

theorem ResultsStand.toStandby (h : ResultsStand r s) : ResultsStand r (toStandby s x) := .ite h.completeModeAs <| .ite h.abandonMode h

theorem ResultsStand.chgStandby (h : ResultsStand r s) : ResultsStand r (chgStandby s c) := h.closeSession.chgIdle.toStandby

theorem ResultsStand.chgSafeStop (h : ResultsStand r s) : ResultsStand r (chgSafeStop s) := .ite h h.chgStandby

theorem ResultsStand.chgWatch (h : ResultsStand r s) : ResultsStand r (chgWatch s) := .ite h.update.chgSafeStop h.update

theorem ResultsStand.chgDerate (h : ResultsStand r s) : ResultsStand r (chgDerate s) := .ite h <| .ite h.rampCurrent.chgSync h.chgSync

theorem ResultsStand.setPair (h : ResultsStand r s) : ResultsStand r (State.setPair s n v) := h.update.putAll

theorem ResultsStand.released (h : ResultsStand r s) : ResultsStand r (released s n) := h.setPair.putAll

theorem ResultsStand.debugResume (h : ResultsStand r s) : ResultsStand r (debugResume s n) := .ite h <| .ite h.released h.setPair

theorem ResultsStand.showBroken (h : ResultsStand r s) : ResultsStand r (showBroken s k b) := h.putFlag.put

theorem ResultsStand.applyFactors (h : ResultsStand r s) : ResultsStand r (applyFactors s) := by
  unfold Machine.applyFactors
  extract_lets
  exact .ite (h.each fun h => h.put.trcDerate) (h.each fun h => h.put.trcDerate).put.chgDerate

theorem ResultsStand.thermalRestart (h : ResultsStand r s) : ResultsStand r (thermalRestart s) := by
  unfold Machine.thermalRestart
  extract_lets
  exact ((h.update.each fun h => h.putAll.showBroken).each fun h => h.putAll).putFlag.applyFactors

theorem ResultsStand.setSstRes (h : ResultsStand r s) : ResultsStand r (setSstRes s n v) := h.put

theorem ResultsStand.sstProgress (h : ResultsStand r s) : ResultsStand r (sstProgress s) := .ite h.put h.put.putFlag.finish

theorem ResultsStand.sstResult (h : ResultsStand r s) : ResultsStand r (sstResult s n v) := h.setSstRes.update.sstProgress

theorem ResultsStand.sstAbort (h : ResultsStand r s) : ResultsStand r (sstAbort s g) := h.each fun h => .ite h.sstResult h

theorem ResultsStand.ctlWrite (h : ResultsStand r s) : ResultsStand r (ctlWrite s c) := h.storeWrite

theorem ResultsStand.writeStartRec (h : ResultsStand r s) : ResultsStand r (writeStartRec s) := h.storeWrite.ctlWrite.put

theorem ResultsStand.warmRings (h : ResultsStand r s) : ResultsStand r (warmRings s) := (h.each fun h => .ite h h.dropFetched.put).update

theorem ResultsStand.startSupply (h : ResultsStand r s) : ResultsStand r (startSupply s c) := h.update

theorem ResultsStand.startBlocks (h : ResultsStand r s) : ResultsStand r (startBlocks s) := h.update.update.update

theorem ResultsStand.warmReset (h : ResultsStand r s) : ResultsStand r (warmReset s) := by
  unfold Machine.warmReset
  extract_lets entry s₁ latched s₂
  have h₁ : ResultsStand r s₁ := h.warmRings.fabWarm
  clear_value s₁
  have h₂ : ResultsStand r s₂ := h₁.update.startSupply.startBlocks
  clear_value s₂
  exact (h₂.update.update.each fun h => h.put).each fun h => h.put

theorem ResultsStand.beginStart (h : ResultsStand r s) : ResultsStand r (beginStart s c c1) := by
  unfold Machine.beginStart
  extract_lets
  exact (ResultsStand.ite .coldReset h.update.warmReset.put).putAll.thermalRestart.inc.update.soutDriveAll.trace

theorem ResultsStand.failStart (h : ResultsStand r s) : ResultsStand r (failStart s x u) := by
  unfold Machine.failStart
  extract_lets
  exact .ite h.putAll.put.writeStartRec.beginStart <|
    .ite h.putAll.putAll.writeStartRec.update.demandEvt.put.setMode h.putAll.putAll.writeStartRec.beginStart

theorem ResultsStand.serveStart (h : ResultsStand r s) : ResultsStand r (serveStart s) := by
  unfold Machine.serveStart
  split
  · exact (ResultsStand.ite h.putAll h).beginStart
  · extract_lets
    refine .ite ?_ ?_
    · split
      · exact .ite h.update.failStart h.update
      · exact h.update
    · refine .ite h.update ?_
      split
      · exact h.beginStart
      · exact .ite h.beginStart h

theorem ResultsStand.regroup (h : ResultsStand r s) : ResultsStand r (regroup s n) := .ite h.cnvRegroup.chgFloats h.cnvRegroup

theorem ResultsStand.blockHooks (h : ResultsStand r t) : ResultsStand r (blockHooks s t) := by
  unfold Machine.blockHooks
  extract_lets _ s2 _ s4 s5 _ s7 s8 _ s10 s11 s12
  have k2 : ResultsStand r s2 := (h.each fun h => h.regroup).each fun h => h.sstAbort
  have k4 : ResultsStand r s4 := (k2.each fun h => h.each fun h => h.stoppedAtSpeed).each fun h => h.chopperWatch
  have k5 : ResultsStand r s5 := .ite k4.clearZeroTorque k4
  have k7 : ResultsStand r s7 := (k5.each fun h => h.actWatch).each fun h => h.cnvWatch
  have k8 : ResultsStand r s8 := .ite k7.autoDue k7
  have k10 : ResultsStand r s10 := (k8.each fun h => h.autoStart).chgWatch
  have k11 : ResultsStand r s11 := .ite (k10.each fun h => h.debugResume) k10
  have k12 : ResultsStand r s12 := k11.each fun h => h.finish
  exact .ite k12.thermalRestart k12

theorem ResultsStand.settle (quiet : s.quiet = true) (h : ResultsStand r t) : ResultsStand r (settle s t) := by
  unfold Machine.settle
  rw [dozeWake_quiet _ quiet]
  exact .ite h.blockHooks.serveStart h


/-! ### Host opcodes of control: a frame that ends the exhausted state of the device that took it

FJOP_FRAME is started in a SAFE mode of cause 0xFF while a mode change is in progress and no device latch stands. The frame has a bad
header, the connection's error limit is reached, and its demand for the whole device enters SAFE mode again: the change is ended and the
cause of SAFE mode is now 38. The device is then neither ready nor exhausted, and such a device records no result. -/

/-- A device after the last of its failed starts, with a mode change in progress: link 9 carries connection 0, which fails with its
first error and demands for the whole device, and FJOP_FRAME is started on ring 0. -/
def exhaustedMidChange : State :=
  { State.reset.putAll [(PWR_MODE, 5), (PWR_MODE_SAFE_CAUSE, 0xFF), (PWR_MODE_CHANGING, 1), (HOST_STAT_LINK_UP, 1), (SAF_FJ_CFG_EN 0, 1),
      (SAF_FJ_CFG_CHANNEL 0, 9), (SAF_FJ_CFG_ERR_MAX 0, 1), (SAF_FJ_STAT_STATE 0, 1), (SAF_FJ_MAP_DEV 0, 1)] with
    busMaster := true, timeRuns := true, hq := [(0, { cmds := [{ op := 0x30, stage := .started }] })] }

/-- What FJOP_FRAME with an empty frame makes of it. -/
def exhaustedAfterFrame : State :=
  settle exhaustedMidChange (withHost exhaustedMidChange fun s => runOp s 0 0 0x30 (opFjop 0 (some [])))

theorem fjopFrame_exhaustedMidChange : exec (.fjopFrame 0 0 (some [])) exhaustedMidChange = .next exhaustedAfterFrame := rfl

theorem quiet_exhaustedMidChange : exhaustedMidChange.quiet = true ∧ exhaustedMidChange.hostReach = true := by decide +kernel

theorem hostCmd_exhaustedMidChange : exhaustedMidChange.hostCmd 0 0 0x30 [] :=
  ⟨by decide +kernel, { op := 0x30, stage := .started }, by decide +kernel, rfl⟩

theorem exhaustedAfterFrame_no_result : exhaustedAfterFrame.results = [] ∧ exhaustedAfterFrame.timeRuns = true := by decide +kernel

/-- No result was recorded before the end of the step, since the end of a step adds results only. -/
theorem results_before_exhaustedAfterFrame (h : settle exhaustedMidChange u = exhaustedAfterFrame) : u.results = [] := by
  obtain ⟨none_after, runs⟩ := exhaustedAfterFrame_no_result
  have stand : ResultsStand u exhaustedAfterFrame := h ▸ (ResultsStand.refl u).settle quiet_exhaustedMidChange.1
  exact List.prefix_nil.mp (none_after ▸ (stand runs).2)

/-- Refutes O56: the last clause of FJOP_FRAME says that every frame of a started command ends it with OK; in the state
`exhaustedMidChange` the frame fails its connection, the demand for the device ends the exhausted state, and no result is recorded. -/
theorem not_hostOpcodesOfControl : ¬ Obligations.HostOpcodesOfControl := by
  unfold Obligations.HostOpcodesOfControl
  intro h
  obtain ⟨-, -, -, -, -, -, -, -, -, -, -, -, -, -, -, -, -, -, -, -, fjopFrame⟩ :=
    h exhaustedMidChange 0 0 [] none none false quiet_exhaustedMidChange.1
  obtain ⟨-, -, frame_ends⟩ := fjopFrame hostCmd_exhaustedMidChange quiet_exhaustedMidChange.2
  obtain ⟨u, t, step, ended⟩ := frame_ends []
  have last : settle exhaustedMidChange u = exhaustedAfterFrame :=
    (Host.Outcome.next.inj (fjopFrame_exhaustedMidChange.symm.trans step)).symm
  rw [State.ended, results_before_exhaustedAfterFrame last] at ended
  exact absurd ended (by simp)

end Sys2Proof.Machine
end

section

/-! SUPPORT and PROOFS of the PWM groups and the host opcodes of the functions (chapter 03) -/

namespace Sys2Proof.Machine

/-! ### Writes to the PWM_ block (R103-R107) -/

theorem blkAt_pwm {a : Nat} (low : 0x60000000 ≤ a) (high : a < 0x60008000) : blkAt a = some .pwm := by
  have first : (a - 0x60000000) / 0x8000 = 0 := by omega
  have inBlocks : a < 0x600A8000 := by omega
  simp [blkAt, low, inBlocks, first, blkOrder]

/-- Island 32 is always powered: a core pair's write reaches the block in every state. -/
theorem regWr_pwm {s : State} (n : Fin 12) {a : Nat} (act : State → State × Status) (low : 0x60000000 ≤ a) (high : a < 0x60008000) :
    regWr s (.pair n) a act = (act s).1 := by
  have blk := blkAt_pwm low high
  refine regWr_ungated n a act ?_ ?_ ?_
  · simp [domainsOf, blk]
  · have bank : inBank34 a = false := by simp [inBank34, blk]
    have g1 : ¬ a < 0x10C00000 := by omega
    have g2 : ¬ a < 0x40400000 := by omega
    have g3 : ¬ a < 0x50400000 := by omega
    simp [bankOf, bank, g1, g2, g3]
  · have g1 : a ≠ 0x60060400 := by omega
    have g2 : a ≠ 0x60068090 := by omega
    have g3 : a ≠ 0x60068094 := by omega
    simp [safetyOnly, blk, g1, g2, g3]

section
variable {s : State} (n g : Fin 12)

theorem exec_groupStart : exec (.groupStart (.pair n) g) s = .next (settle s (recorded pwmErr (groupStart s g)).1) :=
  congrArg (fun t => Host.Outcome.next (settle s t)) (regWr_pwm n _ (by omega) (by omega))

theorem exec_groupStop : exec (.groupStop (.pair n) g) s = .next (settle s (groupStop s g)) :=
  congrArg (fun t => Host.Outcome.next (settle s t)) (regWr_pwm n _ (by omega) (by omega))

theorem exec_groupCommit : exec (.groupCommit (.pair n) g) s = .next (settle s (recorded pwmErr (groupCommit s g)).1) :=
  congrArg (fun t => Host.Outcome.next (settle s t)) (regWr_pwm n _ (by omega) (by omega))

theorem exec_tripClearRequest : exec (.tripClearRequest (.pair n) g) s = .next (settle s (recorded pwmErr (tripClear s g)).1) :=
  congrArg (fun t => Host.Outcome.next (settle s t)) (regWr_pwm n _ (by omega) (by omega))

end

theorem recorded_refused {x : State × Status} {st : Status} (b : BlockErr) (h : x.2 = st) (refusal : st ≠ .OK) :
    (recorded b x).1 = x.1.refuse b st := by
  subst h
  simp [recorded, refusal]

theorem recorded_ok {x : State × Status} (b : BlockErr) (h : x.2 = .OK) : recorded b x = x := if_pos h

theorem firstOf_cons (c : Bool) (st : Status) (l : List (Bool × Status)) : firstOf ((c, st) :: l) = if c then st else firstOf l := by
  cases c <;> rfl

theorem firstOf_nil : firstOf [] = .OK := rfl

theorem SameWatch.refusePwm (s : State) (st : Status) : SameWatch s (s.refuse pwmErr st) :=
  SameWatch.refuse s pwmErr st (by decide) (by decide)

/-! ### Clearing a trip record (R101) -/

theorem tripClear_inactive {s : State} {g : Nat} (h : activeSources s g = []) : tripClear s g =
    (s.putAll [(PWM_GRP_TRIP_TRIP_EVT g, 0), (PWM_GRP_TRIP_FIRST_SRC g, 0), (PWM_GRP_TRIP_FIRST_TIME g, 0),
      (PWM_GRP_STAT_CLR_RESULT g, 1)], .OK) :=
  if_pos (by simp [h])

theorem tripClear_asserted {s : State} {g : Nat} (h : activeSources s g ≠ []) :
    tripClear s g = (s.put (PWM_GRP_STAT_CLR_RESULT g) 2, .TRIP_ASSERTED) :=
  if_neg (by simp [h])

theorem tripRecord_unwatched : ∀ g : Fin 12, watchedKey (PWM_GRP_TRIP_TRIP_EVT g).key = false ∧
    watchedKey (PWM_GRP_TRIP_FIRST_SRC g).key = false ∧ watchedKey (PWM_GRP_TRIP_FIRST_TIME g).key = false ∧
    watchedKey (PWM_GRP_STAT_CLR_RESULT g).key = false := by
  decide

/-- Settles O22, by the two branches of the request. -/
theorem tripClear_obligation : Obligations.TripClear := by
  intro s n g quiet
  obtain ⟨evt, src, time, result⟩ := tripRecord_unwatched g
  refine ⟨fun active => ?_, fun inactive => ?_⟩
  · rw [exec_tripClearRequest, tripClear_asserted active, recorded_refused (st := .TRIP_ASSERTED) _ rfl (by decide)]
    exact congrArg Host.Outcome.next (settle_quiet quiet ((SameWatch.put s _ _ result).trans (SameWatch.refusePwm _ _)))
  · rw [exec_tripClearRequest, tripClear_inactive inactive, recorded_ok _ rfl]
    exact congrArg Host.Outcome.next (settle_quiet quiet (SameWatch.putAll s _ (by simp [evt, src, time, result])))

/-! ### START and STOP of a group (R73-R75, R77) -/

theorem heldKey_unwatched : ∀ g : Fin 12, watchedKey (PWM_GRP_STAT_HELD g).key = false := by decide

/-- The checks of a START, in order. -/
theorem startStatus_eq (s : State) (g : Nat) : startStatus s g =
    if s.stopped g = false then .GROUP_RUNNING
    else if s.follows g = true ∧ s.running (s.masterOf g) = true then .GROUP_RUNNING
    else if s.groupFailed g = true then .LEG_FAILED
    else if s.flag (PWM_GRP_STAT_VALID_SET g) = false then .NO_DUTY_SET
    else if s.follows g = false ∧ s.t0Of g < s.mtime + 1000 then .START_LATE
    else .OK := by
  simp only [startStatus, firstOf_cons, firstOf_nil, Bool.not_eq_true', Bool.and_eq_true, decide_eq_true_eq]

theorem groupStart_refused {s : State} {g : Nat} {st : Status} (h : startStatus s g = st) (refusal : st ≠ .OK) :
    groupStart s g = (s, st) := by
  subst h
  unfold groupStart
  split
  · contradiction
  · rfl

theorem groupStart_held {s : State} {g : Nat} (h : startStatus s g = .OK) (follows : s.follows g = true) :
    groupStart s g = (s.put (PWM_GRP_STAT_HELD g) 1, .OK) := by
  simp [groupStart, h, follows, State.putFlag, bit]

theorem groupStart_begins {s : State} {g : Nat} (h : startStatus s g = .OK) (master : s.follows g = false) :
    groupStart s g = (releaseFollowers 12 (beginGroup s g (s.t0Of g) 0) g (s.t0Of g), .OK) := by
  simp [groupStart, h, master]

theorem exec_groupStart_refused {s : State} {n g : Fin 12} {st : Status} (quiet : s.quiet = true) (h : startStatus s g = st)
    (refusal : st ≠ .OK) : exec (.groupStart (.pair n) g) s = .next (s.refuse pwmErr st) := by
  rw [exec_groupStart, groupStart_refused h refusal, recorded_refused _ rfl refusal]
  exact congrArg Host.Outcome.next (settle_quiet quiet (SameWatch.refusePwm _ _))

/-- Settles O17: each clause names the first of the checks of `startStatus_eq` that fails, or none. -/
theorem groupStartIsChecked : Obligations.GroupStartIsChecked := by
  intro s n g quiet
  have order := startStatus_eq s g
  refine ⟨fun moving => ?_, fun stopped follows master => ?_, fun stopped free failed => ?_, fun stopped free sound none => ?_,
    fun stopped master sound valid late => ?_, fun stopped master sound valid early => ?_, fun stopped follows free sound valid => ?_⟩
  · exact exec_groupStart_refused quiet (by simpa [moving] using order) (by decide)
  · exact exec_groupStart_refused quiet (by simpa [stopped, follows, master] using order) (by decide)
  · exact exec_groupStart_refused quiet (by simpa [stopped, ← Bool.and_eq_true, free, failed] using order) (by decide)
  · exact exec_groupStart_refused quiet (by simpa [stopped, ← Bool.and_eq_true, free, sound, none] using order) (by decide)
  · exact exec_groupStart_refused quiet (by simpa [stopped, master, sound, valid, late] using order) (by decide)
  · have accepted : startStatus s g = .OK := by simpa [stopped, master, sound, valid, Nat.not_lt.2 early] using order
    rw [exec_groupStart, groupStart_begins accepted master, recorded_ok _ rfl]
  · have accepted : startStatus s g = .OK := by simpa [stopped, follows, free, sound, valid] using order
    rw [exec_groupStart, groupStart_held accepted follows, recorded_ok _ rfl]
    exact congrArg Host.Outcome.next (settle_quiet quiet (SameWatch.put s _ _ (heldKey_unwatched g)))

/-! ### Forces of a leg (R93) -/

theorem exec_legForceWrite {s : State} (n : Fin 12) (leg : Fin 36) (d : Word) : exec (.legForceWrite (.pair n) leg d) s =
    .next (settle s (if s.legFitted leg then legForce s leg d.toNat else (s.refuse pwmErr .LEG_ABSENT, .LEG_ABSENT)).1) :=
  congrArg (fun t => Host.Outcome.next (settle s t)) (regWr_pwm n _ (by omega) (by omega))

section
variable {s : State} {leg d : Nat}

theorem legForce_bothOn (fitted : s.legFitted leg = true) (hs : bitsOf d 0 2 = 2) (ls : bitsOf d 2 2 = 2) : (legForce s leg d).1 =
    ((s.put (PWM_LEG_STAT_FORCE_REJ leg) 1).inc (PWM_LEG_STAT_FORCE_REJ_CNT leg)).refuse pwmErr .FORCE_BOTH_ON := by
  simp [legForce, fitted, hs, ls, State.putFlag, bit]

/-- A write that turns at most one channel on goes by the state of the group. -/
theorem legForce_one (fitted : s.legFitted leg = true) (hs : bitsOf d 0 2 < 3) (ls : bitsOf d 2 2 < 3)
    (one : bitsOf d 0 2 = 2 → bitsOf d 2 2 ≠ 2) : (legForce s leg d).1 =
      if s.legStopped leg then applyForce s leg (bitsOf d 0 2) (bitsOf d 2 2) else s.refuse pwmErr .GROUP_RUNNING := by
  have hs3 : bitsOf d 0 2 ≠ 3 := by omega
  have ls3 : bitsOf d 2 2 ≠ 3 := by omega
  have both : ¬ (bitsOf d 0 2 = 2 ∧ bitsOf d 2 2 = 2) := fun ⟨h, l⟩ => one h l
  cases stopped : s.legStopped leg <;> simp [legForce, fitted, hs3, ls3, both, stopped]

end

/-- Both force fields written. -/
def forceSet (s : State) (leg hs ls : Nat) : State := s.putAll [(PWM_LEG_FORCE_HS leg, hs), (PWM_LEG_FORCE_LS leg, ls)]

theorem forceSet_fld (s : State) (leg : Nat) {hs ls : Nat} (h : hs < 3) (l : ls < 3) : (forceSet s leg hs ls).fld (PWM_LEG_FORCE_HS leg) = hs ∧
    (forceSet s leg hs ls).fld (PWM_LEG_FORCE_LS leg) = ls := by
  have apart : (PWM_LEG_FORCE_HS leg).key ≠ (PWM_LEG_FORCE_LS leg).key := by simp [Fld.key, PWM_LEG_FORCE_HS, PWM_LEG_FORCE_LS]
  refine ⟨(State.fld_put_other _ _ _ _ apart).trans ((State.fld_put_same _ _ _).trans (Nat.mod_eq_of_lt ?_)),
    (State.fld_put_same _ _ _).trans (Nat.mod_eq_of_lt ?_)⟩ <;> simp only [PWM_LEG_FORCE_HS, PWM_LEG_FORCE_LS] <;> omega

theorem forceSet_fld_other (s : State) (leg hs ls : Nat) {f : Fld} (h : f.key ≠ (PWM_LEG_FORCE_HS leg).key)
    (l : f.key ≠ (PWM_LEG_FORCE_LS leg).key) : (forceSet s leg hs ls).fld f = s.fld f :=
  (State.fld_put_other _ _ _ _ l).trans (State.fld_put_other _ _ _ _ h)

/-- What an edge link's frames leave alone: all but the sequence numbers and the output. -/
structure FramesOnly (s t : State) : Prop where
  regs : t.regs = s.regs
  waits : t.waits = s.waits
  called : called t = called s
  mtime : t.mtime = s.mtime
  words : t.words = s.words
  bytes : t.bytes = s.bytes
  grp : t.grp = s.grp
  leg : t.leg = s.leg

theorem FramesOnly.refl (s : State) : FramesOnly s s := ⟨rfl, rfl, rfl, rfl, rfl, rfl, rfl, rfl⟩

theorem FramesOnly.trans {r s t : State} (h : FramesOnly r s) (k : FramesOnly s t) : FramesOnly r t where
  regs := k.regs.trans h.regs
  waits := k.waits.trans h.waits
  called := k.called.trans h.called
  mtime := k.mtime.trans h.mtime
  words := k.words.trans h.words
  bytes := k.bytes.trans h.bytes
  grp := k.grp.trans h.grp
  leg := k.leg.trans h.leg

theorem FramesOnly.when {r s : State} {c : Bool} {f : State → State} (h : FramesOnly r s) (k : ∀ t, FramesOnly t (f t)) :
    FramesOnly r (s.when c f) := by
  cases c
  · exact h
  · exact h.trans (k s)

theorem FramesOnly.sendEdge (s : State) (l : Nat) (on : Bool) (taps : Nat) : FramesOnly s (s.sendEdge l on taps) := by
  unfold State.sendEdge
  split <;> exact ⟨rfl, rfl, rfl, rfl, rfl, rfl, rfl, rfl⟩

theorem FramesOnly.sendTransition (s : State) (l kind taps : Nat) : FramesOnly s (s.sendTransition l kind taps) := by
  unfold State.sendTransition
  split <;> exact ⟨rfl, rfl, rfl, rfl, rfl, rfl, rfl, rfl⟩

theorem FramesOnly.sendResume (s : State) (l : Nat) : FramesOnly s (s.sendResume l) :=
  ⟨rfl, rfl, rfl, rfl, rfl, rfl, rfl, rfl⟩

theorem applyForce_frames (s : State) (leg hs ls : Nat) : FramesOnly (forceSet s leg hs ls) (applyForce s leg hs ls) := by
  unfold applyForce
  extract_lets taps hs0 ls0 written low
  refine (?_ : FramesOnly written _)
  split
  · exact .refl written
  split
  · refine (FramesOnly.refl written).when (fun t => ?_) |>.when fun t => ?_ <;>
      exact (FramesOnly.sendResume t _).trans (FramesOnly.sendEdge _ _ _ _)
  · exact (FramesOnly.refl written).when fun t => (FramesOnly.sendResume t _).trans (FramesOnly.sendTransition _ _ _ _)

theorem FramesOnly.watch {s t : State} (h : FramesOnly s t) : SameWatch s t := SameWatch.of_regs h.regs h.waits h.called

theorem forceSet_groupOf (s : State) (leg hs ls : Nat) : (forceSet s leg hs ls).groupOf leg = s.groupOf leg := by
  unfold State.groupOf
  rw [forceSet_fld_other] <;> simp only [Fld.key, PWM_LEG_CFG_GROUP, PWM_LEG_FORCE_HS, PWM_LEG_FORCE_LS] <;> omega

theorem applyForce_unassigned {s : State} {leg : Nat} (hs ls : Nat) (h : s.groupOf leg = none) :
    applyForce s leg hs ls = forceSet s leg hs ls :=
  if_pos (by rw [← forceSet, forceSet_groupOf, h]; rfl)

/-- Of an HV leg of a group, each channel whose state changes gets RESUME and its edge. -/
theorem applyForce_hv {s : State} {leg : Nat} (hs ls : Nat) (assigned : s.groupOf leg ≠ none) (hv : leg < 24) :
    applyForce s leg hs ls =
      ((forceSet s leg hs ls).when (ls ≠ s.fld (PWM_LEG_FORCE_LS leg)) fun t =>
        (t.sendResume (2 * leg)).sendEdge (2 * leg) (ls = 2) ((s.mtime + 161) * 32)).when (hs ≠ s.fld (PWM_LEG_FORCE_HS leg)) fun t =>
        (t.sendResume (2 * leg + 1)).sendEdge (2 * leg + 1) (hs = 2) ((s.mtime + 161) * 32) := by
  have some : ¬ ((forceSet s leg hs ls).groupOf leg).isNone = true := by simpa [forceSet_groupOf] using assigned
  exact (if_neg some).trans (if_pos hv)

theorem applyForce_unchanged {s : State} {leg hs ls : Nat} (h : hs = s.fld (PWM_LEG_FORCE_HS leg)) (l : ls = s.fld (PWM_LEG_FORCE_LS leg)) :
    applyForce s leg hs ls = forceSet s leg hs ls := by
  by_cases unassigned : s.groupOf leg = none
  · exact applyForce_unassigned hs ls unassigned
  · unfold applyForce
    simp [← h, ← l, State.when, forceSet]

theorem forceKeys_unwatched : ∀ leg : Fin 36, watchedKey (PWM_LEG_FORCE_HS leg).key = false ∧
    watchedKey (PWM_LEG_FORCE_LS leg).key = false ∧ watchedKey (PWM_LEG_STAT_FORCE_REJ leg).key = false ∧
    watchedKey (PWM_LEG_STAT_FORCE_REJ_CNT leg).key = false := by
  decide

theorem applyForce_watch (s : State) (leg : Fin 36) (hs ls : Nat) : SameWatch s (applyForce s leg hs ls) := by
  obtain ⟨high, low, -⟩ := forceKeys_unwatched leg
  exact (SameWatch.putAll s _ (by simp [high, low])).trans (applyForce_frames s leg hs ls).watch

/-- Settles O21: the refusals by `legForce_bothOn` and `legForce_one`, an accepted write by what `applyForce` sends. -/
theorem legForces : Obligations.LegForces := by
  intro s n leg d quiet
  obtain ⟨-, -, rejected, count⟩ := forceKeys_unwatched leg
  rw [exec_legForceWrite]
  refine ⟨fun absent => ?_, fun fitted hs ls => ?_, fun fitted hs ls one moving => ?_, fun fitted hs ls one stopped => ?_⟩
  · rw [if_neg (by simp [absent])]
    exact congrArg Host.Outcome.next (settle_quiet quiet (SameWatch.refusePwm _ _))
  · rw [if_pos fitted, legForce_bothOn fitted hs ls]
    exact congrArg Host.Outcome.next (settle_quiet quiet
      (((SameWatch.put s _ _ rejected).trans (SameWatch.inc _ _ count)).trans (SameWatch.refusePwm _ _)))
  · rw [if_pos fitted, legForce_one fitted hs ls one, if_neg (by simp [moving])]
    exact congrArg Host.Outcome.next (settle_quiet quiet (SameWatch.refusePwm _ _))
  · rw [if_pos fitted, legForce_one fitted hs ls one, if_pos stopped, settle_quiet quiet (applyForce_watch s leg _ _)]
    obtain ⟨high, low⟩ := forceSet_fld s leg hs ls
    have frames := applyForce_frames s leg (bitsOf d.toNat 0 2) (bitsOf d.toNat 2 2)
    refine ⟨_, rfl, (State.fld_congr frames.regs _).trans high, (State.fld_congr frames.regs _).trans low, frames.words, frames.bytes,
      frames.grp, frames.leg, fun f h l => (State.fld_congr frames.regs f).trans (forceSet_fld_other s leg _ _ h l), fun h l => ?_,
      fun none => ?_, fun some hv h l => ?_, fun some hv h l => ?_⟩
    · rw [applyForce_unchanged h l]
      rfl
    · rw [applyForce_unassigned _ _ none]
      rfl
    · rw [applyForce_hv _ _ some hv]
      simp [State.when, h, l, forceSet]
    · rw [applyForce_hv _ _ some hv]
      simp [State.when, h, l, forceSet]

/-! ### Commits of duty sets (R82, R84, R209, R210) -/

/-- The set that a commit of an engine forms: compares as fractions of its period, phases as committed or as kept. -/
def flightSet (s : State) (f : Flight) (p : Nat) : DutySet where
  period := p
  legs := (s.members f.group).zip ((f.duties.map (fracTaps p)).zip (match f.phases with
    | some l => l.map (fracTaps p)
    | none => (s.members f.group).map (keptPhase (s.grpOf f.group))))

/-- The complete set of a group becomes `d`. -/
def completed (s : State) (g : Nat) (d : DutySet) : State :=
  (s.setGrp g { s.grpOf g with complete := some d, fresh := true }).put (PWM_GRP_STAT_VALID_SET g) 1

theorem acceptSet_idle {s : State} {g : Nat} (idle : s.running g = false) (d : DutySet) : acceptSet s g d = completed s g d := by
  simp [acceptSet, idle, State.when, completed, State.putFlag, bit]

theorem groupCommit_short {s : State} {g : Nat} (master : s.follows g = false) (short : s.fld (PWM_GRP_PERIOD_SH_PERIOD g) < 400) :
    groupCommit s g = (s, .PERIOD_RANGE) :=
  if_pos (by simp [master, short])

theorem groupCommit_accepted {s : State} {g : Nat} (h : 400 ≤ s.fld (PWM_GRP_PERIOD_SH_PERIOD g) ∨ s.follows g = true) :
    groupCommit s g = (acceptSet s g (shadowSet s g), .OK) :=
  if_neg (by rcases h with long | follows <;> simp_all)

theorem validSet_unwatched : ∀ g : Fin 12, watchedKey (PWM_GRP_STAT_VALID_SET g).key = false := by decide

theorem completed_watch (s : State) (g : Fin 12) (d : DutySet) : SameWatch s (completed s g d) :=
  by
  have held : SameWatch s (s.setGrp g { s.grpOf g with complete := some d, fresh := true }) := SameWatch.of_regs rfl rfl rfl
  exact held.trans (SameWatch.put _ _ _ (validSet_unwatched g))

section
variable {s : State} {e : Nat} {f : Flight} {rest : List Flight} (oldest : (s.engOf e).flight = f :: rest)

/-- The oldest commit has left the engine. -/
def departed (s : State) (e : Nat) (rest : List Flight) : State := s.setEng e { s.engOf e with flight := rest }

theorem departed_flight (s : State) (e : Nat) (rest : List Flight) : ((departed s e rest).engOf e).flight = rest :=
  congrArg Eng.flight (Tbl.get_set_same _ _ _ _)

theorem commitArrival_none (empty : (s.engOf e).flight = []) : commitArrival s e = s := by simp [commitArrival, empty]

include oldest

/-- What the arrival makes of a commit, in the order of R210. -/
theorem commitArrival_eq : commitArrival s e =
    if f.duties.length ≠ (s.members f.group).length then commitRefused (departed s e rest) e f.group 1
    else if f.period = none ∧ (s.grpOf f.group).complete = none then commitRefused (departed s e rest) e f.group 2
    else
      let p := f.period.getD (((s.grpOf f.group).complete.map (·.period)).getD 0)
      if f.period.isSome && p < 400 then commitRefused (departed s e rest) e f.group 3
      else acceptSet (departed s e rest) f.group (flightSet s f p) := by
  unfold commitArrival
  dsimp only
  rw [oldest]
  refine ite_congr rfl (fun _ => rfl) fun _ => ?_
  have kept (x : Eng) : (s.setEng e x).grpOf f.group = s.grpOf f.group := rfl
  simp only [kept]
  symm
  cases period : f.period <;> cases complete : (s.grpOf f.group).complete
  · exact if_pos ⟨rfl, rfl⟩
  all_goals exact if_neg (by simp)

theorem commitArrival_mismatch (short : f.duties.length ≠ (s.members f.group).length) :
    commitArrival s e = commitRefused (departed s e rest) e f.group 1 :=
  (commitArrival_eq oldest).trans (if_pos short)

variable (fits : f.duties.length = (s.members f.group).length)
include fits

theorem commitArrival_noPeriod (open_ : f.period = none) (first : (s.grpOf f.group).complete = none) :
    commitArrival s e = commitRefused (departed s e rest) e f.group 2 := by
  rw [commitArrival_eq oldest, if_neg (by simp [fits]), if_pos ⟨open_, first⟩]

theorem commitArrival_period {p : Nat} (period : f.period = some p) : commitArrival s e =
    if p < 400 then commitRefused (departed s e rest) e f.group 3 else acceptSet (departed s e rest) f.group (flightSet s f p) := by
  rw [commitArrival_eq oldest, if_neg (by simp [fits]), if_neg (by simp [period])]
  simp [period]

end

/-- A refused commit shows its code and leaves the groups and the engines as they are. -/
theorem commitRefused_frame (s : State) (e g : Nat) {code : Nat} (h : code < 4) :
    (commitRefused s e g code).fld (LE_COMMIT_STAT_LAST_REJ e) = code ∧ (commitRefused s e g code).grp = s.grp ∧
      (commitRefused s e g code).eng = s.eng := by
  have apart : (LE_COMMIT_STAT_LAST_REJ e).key ≠ (LE_COMMIT_STAT_GROUP e).key := by
    simp [Fld.key, LE_COMMIT_STAT_LAST_REJ, LE_COMMIT_STAT_GROUP]
  have irq (t : State) : (t.leIrq e (LE_CFG_FLT_IE e) 3).regs = t.regs ∧ (t.leIrq e (LE_CFG_FLT_IE e) 3).grp = t.grp ∧
      (t.leIrq e (LE_CFG_FLT_IE e) 3).eng = t.eng := by
    unfold State.leIrq State.when
    split <;> exact ⟨rfl, rfl, rfl⟩
  unfold commitRefused
  extract_lets shown
  obtain ⟨regs, grp, eng⟩ := irq shown
  refine ⟨(State.fld_congr regs _).trans ?_, grp, eng⟩
  exact (State.fld_put_other _ _ _ _ apart).trans ((State.fld_put_same _ _ _).trans (Nat.mod_eq_of_lt h))

theorem commitRefused_departed {s : State} {e : Nat} {f : Flight} {rest : List Flight} {code : Nat} (h : code < 4)
    (refused : commitArrival s e = commitRefused (departed s e rest) e f.group code) :
    (commitArrival s e).fld (LE_COMMIT_STAT_LAST_REJ e) = code ∧ (commitArrival s e).grp = s.grp ∧
      ((commitArrival s e).engOf e).flight = rest := by
  obtain ⟨shown, grp, eng⟩ := commitRefused_frame (departed s e rest) e f.group h
  rw [refused]
  refine ⟨shown, grp, ?_⟩
  unfold State.engOf
  rw [eng]
  exact departed_flight s e rest

theorem exec_commitSetArrival {s : State} (quiet : s.quiet = true) (e : Fin 32) :
    exec (.commitSetArrival e) s = .next (commitArrival s e) :=
  congrArg Host.Outcome.next (dozeWake_quiet _ quiet)

/-- Settles O19, by the branches of both kinds of commit. -/
theorem commitMakesTheSetComplete : Obligations.CommitMakesTheSetComplete := by
  intro s n g e quiet
  rw [exec_groupCommit, exec_commitSetArrival quiet]
  refine ⟨fun master short => ?_, fun long idle => ?_, fun empty => ?_, fun f rest oldest => ⟨fun p fits period long idle => ?_,
    fun short => ?_, fun fits open_ first => ?_, fun p fits period short => ?_⟩⟩
  · rw [groupCommit_short master short, recorded_refused (st := .PERIOD_RANGE) _ rfl (by decide)]
    exact congrArg Host.Outcome.next (settle_quiet quiet (SameWatch.refusePwm _ _))
  · rw [groupCommit_accepted long, recorded_ok _ rfl, acceptSet_idle idle]
    exact congrArg Host.Outcome.next (settle_quiet quiet (completed_watch s g _))
  · rw [commitArrival_none empty]
  · rw [commitArrival_period oldest fits period, if_neg (Nat.not_lt.2 long), acceptSet_idle (s := departed s e rest) idle]
    rfl
  · exact ⟨_, rfl, commitRefused_departed (by decide) (commitArrival_mismatch oldest short)⟩
  · exact ⟨_, rfl, commitRefused_departed (by decide) (commitArrival_noPeriod oldest fits open_ first)⟩
  · exact ⟨_, rfl, commitRefused_departed (by decide) ((commitArrival_period oldest fits period).trans (if_pos short))⟩

/-! ### Trip sources (R96-R98) -/

theorem testBit_setBit (v i : Nat) : (setBit v i).testBit i = true := by simp [setBit, Nat.testBit_or]

theorem testBit_clearBit (v i : Nat) : (clearBit v i).testBit i = false := by
  unfold clearBit
  split
  next set =>
    rw [Nat.testBit_eq_decide_div_mod_eq, decide_eq_true_eq] at set
    have pos : 0 < 2 ^ i := Nat.two_pow_pos i
    have le : 2 ^ i ≤ v := by
      by_contra small
      simp [Nat.div_eq_of_lt (Nat.not_le.1 small)] at set
    have less : (v - 2 ^ i) / 2 ^ i + 1 = v / 2 ^ i := by rw [← Nat.add_div_right _ pos, Nat.sub_add_cancel le]
    rw [Nat.testBit_eq_decide_div_mod_eq, decide_eq_false_iff_not]
    omega
  next clear => simpa using clear

/-- A pin's level is noted; its filter samples it against POL. -/
theorem tripSourceChange_pin (s : State) {src : Nat} (h : src < 16) (pin : Bool) : tripSourceChange s src pin =
    ({ s with tripPins := if pin then setBit s.tripPins src else clearBit s.tripPins src } : State).put (PWM_TRIP_FILT_RAW src)
      (bit (pin = s.flag (PWM_TRIP_FILT_POL src))) := by
  have level : (if pin then setBit s.tripPins src else clearBit s.tripPins src).testBit src = pin := by
    cases pin <;> simp [testBit_setBit, testBit_clearBit]
  unfold tripSourceChange showPin sourceActive State.putFlag
  rw [if_pos h, if_pos h, level]
  rfl

theorem tripSourceChange_comparator (s : State) {src : Nat} (h : 16 ≤ src) (h' : src < 48) (pin : Bool) :
    tripSourceChange s src pin = s.put (PWM_TRIP_FILT_RAW src) (bit (s.flag (ADC_CMP_STAT_OUT (src - 16)))) := by
  unfold tripSourceChange sourceActive State.putFlag
  rw [if_neg (by omega), if_neg (by omega), if_pos h']

theorem tripSettled_agreed {s : State} {src : Nat} (h : s.flag (PWM_TRIP_FILT_RAW src) = s.flag (PWM_TRIP_FILT_FILT src)) :
    tripSettled s src = s := if_pos h

theorem tripSettled_inactive {s : State} {src : Nat} (raw : s.flag (PWM_TRIP_FILT_RAW src) = false)
    (filt : s.flag (PWM_TRIP_FILT_FILT src) = true) : tripSettled s src = s.put (PWM_TRIP_FILT_FILT src) 0 := by
  simp [tripSettled, raw, filt, State.putFlag, bit]

/-- The trip masks of a group and the groups of the legs stand apart from the filters' outputs. -/
theorem filtKey_apart (src : Fin 108) (g : Fin 12) : (PWM_GRP_STAT_STATE g).key ≠ (PWM_TRIP_FILT_FILT src).key ∧
    (PWM_GRP_TMASK_P_PINS g).key ≠ (PWM_TRIP_FILT_FILT src).key ∧ (PWM_GRP_TMASK_C_CMPS g).key ≠ (PWM_TRIP_FILT_FILT src).key ∧
    (PWM_GRP_TMASK_P_LEGFLT g).key ≠ (PWM_TRIP_FILT_FILT src).key ∧
    ∀ n < 36, (PWM_LEG_CFG_GROUP n).key ≠ (PWM_TRIP_FILT_FILT src).key := by
  simp only [Fld.key, PWM_GRP_STAT_STATE, PWM_TRIP_FILT_FILT, PWM_GRP_TMASK_P_PINS, PWM_GRP_TMASK_C_CMPS, PWM_GRP_TMASK_P_LEGFLT,
    PWM_LEG_CFG_GROUP]
  refine ⟨?_, ?_, ?_, ?_, fun n hn => ?_⟩ <;> omega

theorem State.members_congr {s t : State} (variant : t.variant = s.variant)
    (h : ∀ n < 36, t.fld (PWM_LEG_CFG_GROUP n) = s.fld (PWM_LEG_CFG_GROUP n)) (g : Nat) : t.members g = s.members g := by
  refine List.filter_congr fun n hn => ?_
  simp only [State.legFitted, variant, h n (List.mem_range.1 hn)]

/-- Whether a group runs and which sources it enables does not hang on the filters' outputs. -/
theorem enabledSources_filt (s : State) (src : Fin 108) (v t : Nat) (g : Fin 12) :
    ((s.put (PWM_TRIP_FILT_FILT src) v).setFiltTime src t).running g = s.running g ∧
      enabledSources ((s.put (PWM_TRIP_FILT_FILT src) v).setFiltTime src t) g = enabledSources s g := by
  obtain ⟨state, pins, cmps, legs, groups⟩ := filtKey_apart src g
  have kept {f : Fld} (h : f.key ≠ (PWM_TRIP_FILT_FILT src).key) :
      ((s.put (PWM_TRIP_FILT_FILT src) v).setFiltTime src t).fld f = s.fld f := State.fld_put_other s _ _ _ h
  have members := State.members_congr (s := s) (t := (s.put (PWM_TRIP_FILT_FILT src) v).setFiltTime src t) rfl
    (fun n hn => kept (groups n hn)) g
  refine ⟨?_, ?_⟩
  · unfold State.running
    rw [kept state]
  · unfold enabledSources State.groupLinks State.flag
    rw [members, kept pins, kept cmps, kept legs]

/-- A source that goes active without a running group that enables it trips none. -/
theorem tripSettled_active {s : State} {src : Fin 108} (raw : s.flag (PWM_TRIP_FILT_RAW src) = true)
    (filt : s.flag (PWM_TRIP_FILT_FILT src) = false) (free : ∀ g : Fin 12, s.running g = true → src.val ∉ enabledSources s g) :
    tripSettled s src = (s.put (PWM_TRIP_FILT_FILT src) 1).setFiltTime src s.mtime := by
  have none : ∀ g : Fin 12, (((s.put (PWM_TRIP_FILT_FILT src) 1).setFiltTime src s.mtime).running g &&
      (enabledSources ((s.put (PWM_TRIP_FILT_FILT src) 1).setFiltTime src s.mtime) g).contains src.val) = false := by
    intro g
    obtain ⟨running, sources⟩ := enabledSources_filt s src 1 s.mtime g
    rw [running, sources]
    simpa using free g
  unfold tripSettled
  dsimp only
  rw [if_neg (by simp [raw, filt]), if_pos raw, raw]
  exact State.each_filter_none none

/-! ### Moving a leg between groups (R71) -/

/-- A leg of that group may be moved: it is no group, or it is STOPPED. -/
def groupFree (s : State) (g : Nat) : Bool := 12 ≤ g || s.stopped g

/-- The leg's present group, if it has one, is STOPPED. -/
theorem groupFree_legStopped (s : State) (leg : Nat) : groupFree s (s.fld (PWM_LEG_CFG_GROUP leg)) = s.legStopped leg := by
  unfold groupFree State.legStopped State.groupOf
  by_cases assigned : s.fld (PWM_LEG_CFG_GROUP leg) < 12
  · simp [assigned, Nat.not_le.2 assigned]
  · simp [assigned, Nat.not_lt.1 assigned]

/-- The checks of a write of PWM_LEG_CFG, in order. -/
def legMoveStatus (s : State) (leg d : Nat) : Status :=
  firstOf [(!s.legFitted leg, .LEG_ABSENT), (12 ≤ bitsOf d 0 4 && bitsOf d 0 4 < 15, .GROUP_RANGE),
    (!(groupFree s (bitsOf d 0 4) && groupFree s (s.fld (PWM_LEG_CFG_GROUP leg))), .GROUP_RUNNING)]

section
variable {s : State} {leg d : Nat}

theorem legMoveStatus_fitted (fitted : s.legFitted leg = true) : legMoveStatus s leg d =
    if 12 ≤ bitsOf d 0 4 ∧ bitsOf d 0 4 < 15 then .GROUP_RANGE
    else if groupFree s (bitsOf d 0 4) = true ∧ s.legStopped leg = true then .OK else .GROUP_RUNNING := by
  unfold legMoveStatus
  simp only [firstOf_cons, firstOf_nil, fitted, groupFree_legStopped, Bool.not_true, Bool.and_eq_true, decide_eq_true_eq,
    Bool.not_eq_true', Bool.false_eq_true, if_false, ← Bool.not_eq_true, ite_not]

theorem legGroup_refused {st : Status} (h : legMoveStatus s leg d = st) (refusal : st ≠ .OK) :
    (legGroup s leg d).1 = s.refuse pwmErr st := by
  subst h
  unfold legGroup
  dsimp only
  split
  next ok => exact absurd ok refusal
  next => rfl

theorem legGroup_accepted (h : legMoveStatus s leg d = .OK) (open_ : s.flag PWM_LOCK = false) : (legGroup s leg d).1 =
    (s.put (PWM_LEG_CFG_GROUP leg) (bitsOf d 0 4)).put (PWM_LEG_CFG_DTMODE leg) (bitsOf d 4 1) := by
  have apart : PWM_LOCK.key ≠ (PWM_LEG_CFG_GROUP leg).key := by
    simp only [Fld.key, PWM_LOCK, PWM_LEG_CFG_GROUP]
    omega
  have free : (s.put (PWM_LEG_CFG_GROUP leg) (bitsOf d 0 4)).flag PWM_LOCK = false := by
    rw [State.flag, State.fld_put_other _ _ _ _ apart]
    exact open_
  unfold legGroup
  dsimp only
  split
  next => rw [if_neg (by simp [free])]
  next refused => exact absurd h refused

end

theorem exec_legGroupWrite {s : State} (n : Fin 12) {leg : Fin 36} (d : Word) (fitted : s.legFitted leg = true) :
    exec (.legGroupWrite (.pair n) leg d) s = .next (settle s (legGroup s leg d.toNat).1) := by
  refine congrArg (fun t => Host.Outcome.next (settle s t)) ((regWr_pwm n _ (by omega) (by omega)).trans ?_)
  exact congrArg Prod.fst (if_pos fitted)

theorem exec_legGroupWrite_refused {s : State} {n : Fin 12} {leg : Fin 36} {d : Word} {st : Status} (quiet : s.quiet = true)
    (fitted : s.legFitted leg = true) (h : legMoveStatus s leg d.toNat = st) (refusal : st ≠ .OK) :
    exec (.legGroupWrite (.pair n) leg d) s = .next (s.refuse pwmErr st) := by
  rw [exec_legGroupWrite n d fitted, legGroup_refused h refusal]
  exact congrArg Host.Outcome.next (settle_quiet quiet (SameWatch.refusePwm _ _))

/-- Settles O23, by the cases of a filter's input and output and by `legMoveStatus`. -/
theorem tripInputsAndLegMoves : Obligations.TripInputsAndLegMoves := by
  intro s n leg d src pin
  refine ⟨fun isPin => ?_, fun low high => ?_, fun raw filt free => ?_, fun agreed => ?_, fun raw filt => ?_,
    fun quiet fitted low high => ?_, fun quiet fitted range moving => ?_, fun quiet fitted range stopped new open_ => ?_⟩
  · exact congrArg Host.Outcome.next (tripSourceChange_pin s isPin pin)
  · refine congrArg Host.Outcome.next ((tripSourceChange_comparator s low high pin).trans ?_)
    congr
  · exact congrArg Host.Outcome.next (tripSettled_active raw filt free)
  · exact congrArg Host.Outcome.next (tripSettled_agreed agreed)
  · exact congrArg Host.Outcome.next (tripSettled_inactive raw filt)
  · exact exec_legGroupWrite_refused quiet fitted ((legMoveStatus_fitted fitted).trans (if_pos ⟨low, high⟩)) (by decide)
  · refine exec_legGroupWrite_refused quiet fitted ((legMoveStatus_fitted fitted).trans ?_) (by decide)
    rw [if_neg (by omega), if_neg (by simp [moving])]
  · have accepted : legMoveStatus s leg d.toNat = .OK := by
      have free : groupFree s (bitsOf d.toNat 0 4) = true := by
        rcases range with group | unassigned
        · simp [groupFree, new group]
        · simp [groupFree, unassigned]
      rw [legMoveStatus_fitted fitted, if_neg (by omega), if_pos ⟨free, stopped⟩]
    rw [exec_legGroupWrite n d fitted, legGroup_accepted accepted open_]

/-! ### Triggers and edge commands (R81, R85-R88, R98) -/

theorem triggerFire_eq (s : State) (g k : Nat) : triggerFire s g k =
    if s.running g = true ∧ s.flag (PWM_GRP_TRG_EN g k) = true ∧
        s.fld (PWM_GRP_TRG_TIME g k) < (if (s.grpOf g).due then (s.grpOf g).oldPeriod else s.fld (PWM_GRP_PERIOD_ACT_PERIOD g)) ∧
        (s.grpOf g).fired.testBit k = false ∧
        s.mtime = (if (s.grpOf g).due then (s.grpOf g).oldStart else (s.grpOf g).start) + s.fld (PWM_GRP_TRG_TIME g k) then
      (s.setGrp g { s.grpOf g with fired := setBit (s.grpOf g).fired k }).emit (.event (4 * g + k) s.mtime)
    else s := by
  simp only [triggerFire, Bool.and_eq_true, decide_eq_true_eq, Bool.not_eq_true', and_assoc]

theorem edgeDeparture_unassigned {s : State} {n : Nat} (h : s.groupOf n = none) (i : Nat) (second : Bool) :
    edgeDeparture s n i second = s := by
  simp [edgeDeparture, h]

theorem edgeDeparture_withheld {s : State} {n g : Nat} (h : s.groupOf n = some g) (off : s.running g = false ∨ withheld s g n = true)
    (i : Nat) (second : Bool) : edgeDeparture s n i second = s := by
  unfold edgeDeparture
  rw [h]
  exact if_neg (by rcases off with idle | held <;> simp_all)

/-- Leg `n`, an HV leg of the running group `g` that nothing withholds, has the transition `e` at place `i` of its plan. -/
structure HvTransition (s : State) (n g i : Nat) (e : RefEdge) : Prop where
  group : s.groupOf n = some g
  hv : n < 24
  fitted : s.legFitted n = true
  running : s.running g = true
  free : withheld s g n = false
  edge : (s.legOf n).plan[i]? = some e

section
variable {s : State} {n g i : Nat} {e : RefEdge} (h : HvTransition s n g i e)
include h

theorem edgeDeparture_first (leaves : offLeaves s n (32 * s.fld (PWM_GRP_PERIOD_ACT_PERIOD g)) ((s.grpOf g).start * 32) (s.legOf n).plan i = true) :
    edgeDeparture s n i false = s.sendEdge (offLink n e.level) false ((s.grpOf g).start * 32 + e.pos) := by
  obtain ⟨group, hv, fitted, running, free, edge⟩ := h
  unfold edgeDeparture
  rw [group]
  dsimp only
  rw [if_pos (by simp [running, fitted, free]), edge]
  simp [hv, leaves, State.when]

theorem edgeDeparture_second (leaves : onLeaves s n (32 * s.fld (PWM_GRP_PERIOD_ACT_PERIOD g)) (s.legOf n).plan i = true) :
    edgeDeparture s n i true = s.sendEdge (onLink n e.level) true ((s.grpOf g).start * 32 + e.pos + dtAfter s n e.level) := by
  obtain ⟨group, hv, fitted, running, free, edge⟩ := h
  have long : onDropped s n (32 * s.fld (PWM_GRP_PERIOD_ACT_PERIOD g)) (s.legOf n).plan i = false := by
    simp only [onLeaves, Bool.and_eq_true, Bool.not_eq_true'] at leaves
    exact leaves.1
  unfold edgeDeparture
  rw [group]
  dsimp only
  rw [if_pos (by simp [running, fitted, free]), edge]
  simp [hv, leaves, long, State.when]

end

/-- Settles O20, by the equations of `triggerFire` and `edgeDeparture`. -/
theorem triggersAndEdges : Obligations.TriggersAndEdges := by
  intro s g k leg i second
  refine ⟨fun start p starts lasts => ?_, fun none => ?_, fun some off => ?_, fun e some hv fitted running free edge => ?_⟩
  · rw [starts, lasts]
    exact congrArg Host.Outcome.next (triggerFire_eq s g k)
  · exact congrArg Host.Outcome.next (edgeDeparture_unassigned none i second)
  · exact congrArg Host.Outcome.next (edgeDeparture_withheld some off i second)
  · have transition : HvTransition s leg g i e := ⟨some, hv, fitted, running, free, edge⟩
    exact ⟨fun leaves => congrArg Host.Outcome.next (edgeDeparture_first transition leaves),
      fun leaves => congrArg Host.Outcome.next (edgeDeparture_second transition leaves)⟩

/-! ### STOP and the reload instants (R74, R75, R83) -/

theorem groupStop_running {s : State} {g : Nat} (h : s.running g = true) :
    groupStop s g = s.setGrp g { s.grpOf g with stopPending := true } := if_pos h

theorem groupStop_idle {s : State} {g : Nat} (h : s.running g = false) : groupStop s g = s.put (PWM_GRP_STAT_HELD g) 0 :=
  if_neg (by simp [h])

theorem State.grpOf_setGrp_same (s : State) (g : Nat) (v : Grp) : (s.setGrp g v).grpOf g = v := Tbl.get_set_same _ _ _ _

/-- The next period start of a group that hangs on no master. -/
def ownStart (s : State) (g : Nat) : Nat :=
  if (s.grpOf g).first then (s.grpOf g).start else (s.grpOf g).start + s.fld (PWM_GRP_PERIOD_ACT_PERIOD g)

theorem nextStart_own {s : State} {g : Nat} (free : s.tied g = false) (p o : Nat) : (nextStart s g p o).1 = ownStart s g := by
  unfold nextStart ownStart
  cases first : (s.grpOf g).first <;> simp [first, free]

theorem reloadPeriod_own {s : State} {g : Nat} (goes : (s.grpOf g).ending = false) (free : s.tied g = false) : ∃ p b,
    reloadPeriod s g = periodStart (if (s.grpOf g).stopPending then reloadStop s g (ownStart s g) else reloadRun s g p (ownStart s g) b) g := by
  refine ⟨nextPeriod 12 s g, (nextStart s g (nextPeriod 12 s g) 0).2, ?_⟩
  simp [reloadPeriod, goes, free, nextStart_own free]

/-! #### A period start -/

theorem periodStart_ahead {s : State} {g : Nat} (h : s.mtime < (s.grpOf g).start) : periodStart s g = s :=
  if_neg (by simp [h])

theorem periodStart_ends {s : State} {g : Nat} (running : s.running g = true) (due : (s.grpOf g).due = true)
    (first : (s.grpOf g).first = false) (come : (s.grpOf g).start ≤ s.mtime) (ending : (s.grpOf g).ending = true) :
    periodStart s g = enterStopped s g := by
  simp [periodStart, running, due, first, come, ending]

/-! #### The reload instant at which a group stops -/

theorem FramesOnly.each {α : Type} {f : State → α → State} (h : ∀ t a, FramesOnly t (f t a)) (l : List α) (s : State) :
    FramesOnly s (s.each l f) := by
  induction l generalizing s with
  | nil => exact .refl s
  | cons a l ih => exact (h s a).trans (ih (f s a))

theorem sendOffEdges_frames (s : State) (g t : Nat) : FramesOnly s (sendOffEdges s g t) := by
  refine FramesOnly.each (fun s n => ?_) _ s
  split
  · exact (FramesOnly.sendEdge _ _ _ _).trans (FramesOnly.sendEdge _ _ _ _)
  · exact FramesOnly.sendTransition _ _ _ _

theorem State.finish_waits (s : State) (w : WaitOn) (st : Status) (c : CmdRef) : (w, c) ∉ (s.finish w st).waits := by
  simp [State.finish]

/-- The record of a group whose last period ends at `t`, as the reload instant of a STOP leaves it. -/
def endingAt (h : Grp) (t old : Nat) : Grp :=
  { h with stopPending := false, ending := true, first := false, due := true, oldStart := h.start, start := t, oldPeriod := old }

theorem reloadStop_eq (s : State) (g t : Nat) : ∃ old,
    reloadStop s g t = ((sendOffEdges s g t).setGrp g (endingAt (s.grpOf g) t old)).finish (.groupStop g) .OK := ⟨_, rfl⟩

/-- What the reload instant of the last period start leaves. -/
theorem reloadStop_frame (s : State) (g t : Nat) : (reloadStop s g t).regs = s.regs ∧ (reloadStop s g t).mtime = s.mtime ∧
    (reloadStop s g t).words = s.words ∧ (∀ c, (WaitOn.groupStop g, c) ∉ (reloadStop s g t).waits) ∧
    ((reloadStop s g t).grpOf g).start = t ∧ ((reloadStop s g t).grpOf g).ending = true ∧ ((reloadStop s g t).grpOf g).due = true ∧
    ((reloadStop s g t).grpOf g).first = false := by
  have frames := sendOffEdges_frames s g t
  obtain ⟨old, stops⟩ := reloadStop_eq s g t
  have own : (reloadStop s g t).grpOf g = endingAt (s.grpOf g) t old := stops ▸ State.grpOf_setGrp_same _ g _
  rw [own, stops]
  exact ⟨frames.regs, frames.mtime, frames.words, State.finish_waits _ _ _, rfl, rfl, rfl, rfl⟩

/-- Module time and the words, which no reload touches. -/
def timeAndWords (s : State) : Nat × Tbl Word36 := (s.mtime, s.words)

theorem timeAndWords_dropPeriod (s : State) (g : Nat) : timeAndWords (dropPeriod s g) = timeAndWords s := by
  unfold dropPeriod
  refine (State.each_frame (p := timeAndWords) (fun t n => ?_) _ _).trans ?_
  · rfl
  · rfl

theorem enterStopped_frame (s : State) (g : Nat) : timeAndWords (enterStopped s g) = timeAndWords s ∧
    (∀ c, (WaitOn.groupStop g, c) ∉ (enterStopped s g).waits) ∧ (enterStopped s g).fld (PWM_GRP_STAT_STATE g) = 0 ∧
    (enterStopped s g).fld (PWM_GRP_PERIOD_ACT_PERIOD g) = 0 := by
  have apart : (PWM_GRP_STAT_STATE g).key ≠ (PWM_GRP_PERIOD_ACT_PERIOD g).key := by
    simp only [Fld.key, PWM_GRP_STAT_STATE, PWM_GRP_PERIOD_ACT_PERIOD]
    omega
  have freed : timeAndWords (freeFollowers s g) = timeAndWords s := by
    refine State.each_frame (fun t f => ?_) _ s
    dsimp only
    split <;> rfl
  unfold enterStopped
  generalize freeFollowers s g = freedState at freed ⊢
  have kept := (timeAndWords_dropPeriod freedState g).trans freed
  generalize dropPeriod freedState g = dropped at kept ⊢
  exact ⟨kept, State.finish_waits _ _ _, (State.fld_put_other (dropped.put _ 0) _ _ 0 apart).trans (State.fld_put_same dropped _ 0),
    State.fld_put_same (dropped.put _ 0) _ 0⟩

/-- The reload instant that stops a running group: before the start it only prepares it, from it on the group is STOPPED. -/
theorem periodStart_reloadStop {s : State} {g : Nat} (running : s.running g = true) (t : Nat) :
    (∀ c, (WaitOn.groupStop g, c) ∉ (periodStart (reloadStop s g t) g).waits) ∧
      timeAndWords (periodStart (reloadStop s g t) g) = timeAndWords s ∧
      (s.mtime < t → periodStart (reloadStop s g t) g = reloadStop s g t) ∧
      (t ≤ s.mtime → (periodStart (reloadStop s g t) g).fld (PWM_GRP_STAT_STATE g) = 0 ∧
        (periodStart (reloadStop s g t) g).fld (PWM_GRP_PERIOD_ACT_PERIOD g) = 0) := by
  obtain ⟨regs, mtime, words, gone, start, ending, due, first⟩ := reloadStop_frame s g t
  have kept : timeAndWords (reloadStop s g t) = timeAndWords s := congrArg₂ Prod.mk mtime words
  have runs : (reloadStop s g t).running g = true := (congrArg (fun v => decide (v = 1)) (State.fld_congr regs _)).trans running
  generalize reloadStop s g t = r at mtime gone start ending due first kept runs ⊢
  rcases Nat.lt_or_ge s.mtime t with ahead | come
  · rw [periodStart_ahead (by omega)]
    exact ⟨gone, kept, fun _ => rfl, fun come => absurd ahead (Nat.not_lt.2 come)⟩
  · obtain ⟨same, left, state, period⟩ := enterStopped_frame r g
    rw [periodStart_ends runs due first (by omega) ending]
    exact ⟨left, same.trans kept, fun ahead => absurd come (Nat.not_le.2 ahead), fun _ => ⟨state, period⟩⟩

/-! #### The reload instant at which a group goes on -/

/-- What the parts of a reload that concern the legs leave alone. -/
def beyondLegs (s : State) : Nat × Tbl Word36 × Tbl Grp := (s.mtime, s.words, s.grp)

/-- The period a group has begun or takes next, with module time and the words. -/
structure SetPeriod where
  first : Bool
  start : Nat
  ending : Bool
  mtime : Nat
  words : Tbl Word36

/-- The period of group `g` that a reload sets up, with module time and the words. -/
def periodOf (s : State) (g : Nat) : SetPeriod :=
  ⟨(s.grpOf g).first, (s.grpOf g).start, (s.grpOf g).ending, s.mtime, s.words⟩

theorem periodOf_congr {s t : State} (h : beyondLegs t = beyondLegs s) (g : Nat) : periodOf t g = periodOf s g :=
  congrArg (fun x : Nat × Tbl Word36 × Tbl Grp => let h : Grp := Tbl.get {} x.2.2 g; (⟨h.first, h.start, h.ending, x.1, x.2.1⟩ : SetPeriod)) h

theorem beyondLegs_when {s : State} {c : Bool} {f : State → State} (h : ∀ t, beyondLegs (f t) = beyondLegs t) :
    beyondLegs (s.when c f) = beyondLegs s := by
  cases c
  · rfl
  · exact h s

theorem beyondLegs_put (s : State) (f : Fld) (v : Nat) : beyondLegs (s.put f v) = beyondLegs s := rfl

theorem beyondLegs_putFlag (s : State) (f : Fld) (b : Bool) : beyondLegs (s.putFlag f b) = beyondLegs s := rfl

theorem FramesOnly.beyondLegs {s t : State} (h : FramesOnly s t) : beyondLegs t = beyondLegs s := by
  simp only [Machine.beyondLegs, h.mtime, h.words, h.grp]

theorem beyondLegs_stepDeadTimes (s : State) (n : Nat) : beyondLegs (stepDeadTimes s n) = beyondLegs s := by
  unfold stepDeadTimes
  extract_lets lh hl l a b stored d held next
  have kept : beyondLegs next = beyondLegs s := by
    show beyondLegs (if _ then _ else _) = _
    split <;> rfl
  clear_value next
  split
  · exact kept
  next lh' hl' sent _ =>
    have first : beyondLegs sent = beyondLegs next := beyondLegs_when (f := fun s => s.sendDtset (n + 24) true lh') fun _ => rfl
    have second := beyondLegs_when (s := sent) (c := hl' ≠ hl) (f := fun s => s.sendDtset (n + 24) false hl') fun _ => rfl
    exact second.trans (first.trans kept)

theorem beyondLegs_loadCompares (s : State) (g : Nat) (d : DutySet) : beyondLegs (loadCompares s g d) = beyondLegs s := by
  unfold loadCompares
  refine State.each_frame (p := beyondLegs) ?_ _ s
  exact fun _ _ => rfl

theorem beyondLegs_clampLeg (p : Nat) (s : State) (n : Nat) : beyondLegs (clampLeg p s n) = beyondLegs s :=
  beyondLegs_when fun _ => rfl

theorem beyondLegs_planPeriod (s : State) (n m p : Nat) (cut anew : Bool) : beyondLegs (planPeriod s n m p cut anew) = beyondLegs s := rfl

theorem beyondLegs_resumeChannels (s : State) (g : Nat) : beyondLegs (resumeChannels s g) = beyondLegs s := by
  unfold resumeChannels
  refine State.each_frame (p := beyondLegs) (fun t n => ?_) _ s
  refine State.each_frame (p := beyondLegs) (fun u k => ?_) (linksOfLeg n) t
  exact beyondLegs_when (f := fun s => s.sendResume k) fun _ => rfl

theorem beyondLegs_sendFloat (s : State) (n t : Nat) : beyondLegs (sendFloat s n t) = beyondLegs s := by
  unfold sendFloat
  split
  · exact ((FramesOnly.sendEdge _ _ _ _).trans (FramesOnly.sendEdge _ _ _ _)).beyondLegs
  · exact (FramesOnly.sendTransition _ _ _ _).beyondLegs

theorem beyondLegs_applyFloats (s : State) (g t : Nat) : beyondLegs (applyFloats s g t) = beyondLegs s := by
  unfold applyFloats
  refine State.each_frame (p := beyondLegs) (fun s n => ?_) _ s
  exact beyondLegs_when (f := fun s => sendFloat s n (t * 32)) fun s => beyondLegs_sendFloat s n (t * 32)

theorem beyondLegs_trace (s : State) (src code : Nat) (data : List Nat) : beyondLegs (s.trace src code data) = beyondLegs s := by
  unfold State.trace
  extract_lets size pos padded bytes stored moved
  split
  · have kept : beyondLegs stored = beyondLegs s := State.setBytes_frame (p := beyondLegs) (fun _ _ => rfl) s _ _
    clear_value stored
    have full := beyondLegs_when (s := moved) (c := size ≤ pos + 16) (f := fun s => s.putFlag TST_TRC_WPTR_WRAPPED true)
      fun _ => beyondLegs_putFlag _ _ _
    exact (full.trans (beyondLegs_put stored _ _)).trans kept
  · rfl

theorem periodOf_tripGroup (s : State) (g src : Nat) : periodOf (tripGroup s g src) g = periodOf s g := by
  have captured : beyondLegs (captureTrip s g src) = beyondLegs s := by
    unfold captureTrip
    split
    · rfl
    · exact beyondLegs_trace _ _ _ _
  unfold tripGroup
  extract_lets t h legs fresh cut shown
  have noted : periodOf cut g = periodOf t g := by
    have own : cut.grpOf g = { h with cut := legs.foldl setBit h.cut } := State.grpOf_setGrp_same t g _
    unfold periodOf
    rw [own]
    rfl
  have sent : beyondLegs (shown.each (fresh.flatMap linksOfLeg) fun s l => s.sendCut l) = beyondLegs cut :=
    (State.each_frame (f := State.sendCut) (fun _ _ => rfl) _ shown).trans
      (beyondLegs_when fun _ => beyondLegs_putFlag _ _ _)
  exact ((periodOf_congr sent g).trans noted).trans (periodOf_congr captured g)

theorem periodOf_tripRecheck (s : State) (g : Nat) : periodOf (tripRecheck s g) g = periodOf s g := by
  unfold tripRecheck
  extract_lets now next t
  have cleared : periodOf t g = periodOf s g := by
    have own : t.grpOf g = { s.grpOf g with cut := 0 } := State.grpOf_setGrp_same s g _
    unfold periodOf
    rw [own]
    rfl
  split
  · exact cleared
  · exact (periodOf_tripGroup t g _).trans cleared

theorem periodOf_noteRan (s : State) (g : Nat) (before : Bool) : periodOf (noteRan s g before) g = periodOf s g := by
  unfold noteRan periodOf
  rw [State.grpOf_setGrp_same]
  rfl

/-- A group that goes on takes the start `t` for its next period. -/
theorem periodOf_reloadRun {s : State} {g : Nat} (p t b : Nat) (goes : (s.grpOf g).ending = false) :
    periodOf (reloadRun s g p t b) g = ⟨false, t, false, s.mtime, s.words⟩ := by
  unfold reloadRun
  extract_lets h load upd old stepped counted loaded clamped last next rechecked cut mode planned shown
  have legs : beyondLegs clamped = beyondLegs s := by
    have k1 : beyondLegs stepped = beyondLegs s :=
      State.each_frame (p := beyondLegs) (fun t n => beyondLegs_stepDeadTimes (t.setLeg n _) n) _ s
    have k2 : beyondLegs loaded = beyondLegs stepped := by
      show beyondLegs (if _ then _ else _) = _
      split
      · split
        · exact beyondLegs_loadCompares _ _ _
        · rfl
      · rfl
    exact (State.each_frame (beyondLegs_clampLeg _) _ loaded).trans (k2.trans k1)
  have begun : periodOf (clamped.setGrp g next) g = ⟨false, t, false, s.mtime, s.words⟩ := by
    have own : (clamped.setGrp g next).grpOf g = next := State.grpOf_setGrp_same clamped g next
    have ending : next.ending = false := (congrArg SetPeriod.ending (periodOf_congr legs g)).trans goes
    unfold periodOf
    rw [own, ending]
    exact congrArg (fun x => SetPeriod.mk false t false x.1 x.2.1) legs
  have plans : beyondLegs planned = beyondLegs rechecked := by
    refine State.each_frame (p := beyondLegs) (fun _ _ => ?_) _ rechecked
    exact beyondLegs_planPeriod _ _ _ _ _ _
  have sent : beyondLegs (applyFloats (resumeChannels shown g) g t) = beyondLegs rechecked :=
    (beyondLegs_applyFloats _ _ _).trans ((beyondLegs_resumeChannels _ _).trans ((beyondLegs_putFlag _ _ _).trans plans))
  calc periodOf (noteRan (applyFloats (resumeChannels shown g) g t) g false) g
      _ = periodOf (applyFloats (resumeChannels shown g) g t) g := periodOf_noteRan _ _ _
      _ = periodOf rechecked g := periodOf_congr sent g
      _ = periodOf (clamped.setGrp g next) g := periodOf_tripRecheck _ _
      _ = ⟨false, t, false, s.mtime, s.words⟩ := begun

/-- At a period start a group that goes on keeps its period. -/
theorem periodOf_periodStart {s : State} {g : Nat} (goes : (s.grpOf g).ending = false) :
    periodOf (periodStart s g) g = periodOf s g := by
  unfold periodStart
  extract_lets h
  split
  · rw [if_neg (by simp [h, goes])]
    have own : ((s.setGrp g { h with due := false, fired := 0 }).putFlag (PWM_GRP_STAT_TRIP_NOW g) (h.cut ≠ 0)).grpOf g =
        { h with due := false, fired := 0 } := State.grpOf_setGrp_same s g _
    unfold periodOf
    rw [own]
    rfl
  · rfl

/-! #### The obligation -/

theorem reloadMid_unset {s : State} {g : Nat} (unset : s.fld (PWM_GRP_CTRL_UPD g) = 1) : reloadMid s g = s :=
  if_pos (by simp [unset])

theorem reloadGroup_idle {s : State} {g : Nat} (idle : s.running g = false) (mid : Bool) : reloadGroup s g mid = s :=
  if_neg (by simp [idle])

theorem reloadGroup_running {s : State} {g : Nat} (runs : s.running g = true) (mid : Bool) :
    reloadGroup s g mid = if mid then reloadMid s g else reloadPeriod s g := if_pos runs

theorem exec_reloadInstant (s : State) (g : Fin 12) (mid : Bool) :
    exec (.reloadInstant g mid) s = .next (settle s (reloadGroup s g mid)) := rfl

/-- Settles O18: GROUP_STOP by the state of the group, the period-start reload by the two forms of `reloadPeriod`. -/
theorem stopAndReload : Obligations.StopAndReload := by
  unfold Obligations.StopAndReload
  intro s n g quiet
  refine ⟨fun runs => ?_, fun idle => ?_, fun mid idle => ?_, fun t runs goes free start => ?_, fun runs unset => ?_⟩
  · rw [exec_groupStop, groupStop_running runs]
    exact congrArg Host.Outcome.next (settle_quiet quiet (SameWatch.of_regs rfl rfl rfl))
  · rw [exec_groupStop, groupStop_idle idle]
    exact congrArg Host.Outcome.next (settle_quiet quiet (SameWatch.put s _ _ (heldKey_unwatched g)))
  · rw [exec_reloadInstant, reloadGroup_idle idle]
    exact congrArg Host.Outcome.next (settle_quiet quiet (.refl s))
  · obtain ⟨p, b, reloads⟩ := reloadPeriod_own goes free
    rw [exec_reloadInstant, reloadGroup_running runs, if_neg Bool.false_ne_true, reloads, start]
    refine ⟨fun pending => ?_, fun pending => ?_⟩
    · rw [if_pos pending]
      obtain ⟨regs, -, -, -, starts, ending, -⟩ := reloadStop_frame s g (ownStart s g)
      obtain ⟨gone, kept, ahead, come⟩ := periodStart_reloadStop runs (ownStart s g)
      refine ⟨_, rfl, gone, congrArg Prod.fst kept, congrArg Prod.snd kept, fun early => ?_, come⟩
      exact (ahead early).symm ▸ ⟨regs, ending, starts⟩
    · rw [if_neg (by simp [pending])]
      have taken := periodOf_reloadRun p (ownStart s g) b goes
      have kept := (periodOf_periodStart (congrArg SetPeriod.ending taken)).trans taken
      generalize periodStart (reloadRun s g p (ownStart s g) b) g = u at kept ⊢
      exact ⟨u, rfl, congrArg SetPeriod.first kept, congrArg SetPeriod.start kept, congrArg SetPeriod.mtime kept,
        congrArg SetPeriod.words kept⟩
  · rw [exec_reloadInstant, reloadGroup_running runs, if_pos rfl, reloadMid_unset unset]
    exact congrArg Host.Outcome.next (settle_quiet quiet (.refl s))

/-! ### Fields that an operation leaves alone -/

/-- From `s` to `t` module time and every field whose key is one of `K` stand. -/
structure Spares (K : Nat → Prop) (s t : State) : Prop where
  mtime : t.mtime = s.mtime
  fld : ∀ f : Fld, K f.key → t.fld f = s.fld f

section
variable {K : Nat → Prop} {r s t : State}

theorem Spares.refl (s : State) : Spares K s s := ⟨rfl, fun _ _ => rfl⟩

theorem Spares.trans (h : Spares K r s) (k : Spares K s t) : Spares K r t :=
  ⟨k.mtime.trans h.mtime, fun f hf => (k.fld f hf).trans (h.fld f hf)⟩

theorem Spares.mono {L : Nat → Prop} (h : Spares K s t) (sub : ∀ k, L k → K k) : Spares L s t :=
  ⟨h.mtime, fun f hf => h.fld f (sub _ hf)⟩

theorem Spares.flag (h : Spares K s t) {f : Fld} (kept : K f.key) : t.flag f = s.flag f :=
  congrArg (fun v => decide (v ≠ 0)) (h.fld f kept)

/-- A step that writes no register. -/
theorem Spares.of_regs (h : Spares K r s) (regs : t.regs = s.regs) (mtime : t.mtime = s.mtime) : Spares K r t :=
  h.trans ⟨mtime, fun f _ => State.fld_congr regs f⟩

theorem Spares.put {f : Fld} {v : Nat} (h : Spares K r s) (free : ¬ K f.key) : Spares K r (s.put f v) :=
  h.trans ⟨rfl, fun _ kept => State.fld_put_other _ _ _ _ fun same => free (same ▸ kept)⟩

theorem Spares.putAll {l : List (Fld × Nat)} (h : Spares K r s) (free : ∀ e ∈ l, ¬ K e.1.key) : Spares K r (s.putAll l) := by
  induction l generalizing s with
  | nil => exact h
  | cons e l ih => exact ih (h.put (free e (.head l))) fun e' he => free e' (.tail e he)

theorem Spares.refuse {b : BlockErr} {st : Status} (h : Spares K r s) (last : ¬ K b.last.key) (cnt : ¬ K b.cnt.key) :
    Spares K r (s.refuse b st) := (h.put last).put cnt

theorem Spares.each {α : Type} {f : State → α → State} {l : List α} (h : Spares K r s) (turn : ∀ t, ∀ a ∈ l, Spares K t (f t a)) :
    Spares K r (s.each l f) := by
  induction l generalizing s with
  | nil => exact h
  | cons a l ih => exact ih (h.trans (turn s a (.head l))) fun t b hb => turn t b (.tail a hb)

theorem Spares.when {c : Bool} {f : State → State} (h : Spares K r s) (act : ∀ t, Spares K r t → Spares K r (f t)) :
    Spares K r (s.when c f) := by
  cases c
  · exact h
  · exact act s h

theorem Spares.ite {c : Prop} [Decidable c] (h : Spares K r s) (k : Spares K r t) : Spares K r (if c then s else t) := by
  split <;> assumption

theorem Spares.trace {src code : Nat} {data : List Nat} (h : Spares K r s) (wptr : ¬ K TST_TRC_WPTR.key)
    (wrapped : ¬ K TST_TRC_WPTR_WRAPPED.key) : Spares K r (s.trace src code data) := by
  unfold State.trace
  extract_lets size pos padded bytes stored moved
  split
  · have kept : (stored.regs, stored.mtime) = (s.regs, s.mtime) :=
      State.setBytes_frame (p := fun s => (s.regs, s.mtime)) (fun _ _ => rfl) s _ _
    clear_value stored
    exact ((h.of_regs (congrArg Prod.fst kept) (congrArg Prod.snd kept)).put wptr).when fun t ht => ht.put wrapped
  · exact h

end

/-! ### The operation of a started host command (R402-R411) -/

/-- The keys of the fields that tell whether host commands run: those of PWR_MODE and PWR_START_STAT. -/
def startKey (k : Nat) : Prop := 0x60068000 * 32 ≤ k ∧ k < 0x60068008 * 32

/-- The keys of `startKey` and one more. -/
def startOr (x k : Nat) : Prop := startKey k ∨ k = x

theorem not_startOr {x k : Nat} (free : ¬ startKey k) (apart : k ≠ x) : ¬ startOr x k := fun h => h.elim free apart

theorem Spares.runs {s t : State} (h : Spares startKey s t) : t.runs = s.runs := by
  have ready : t.ready = s.ready := congrArg (fun v => decide (v = 11)) (h.fld PWR_START_STAT_STEP ⟨by decide, by decide⟩)
  have exhausted : t.exhausted = s.exhausted := congrArg₂ (fun v c => decide (v = 5) && decide (c = 0xFF))
    (h.fld PWR_MODE ⟨by decide, by decide⟩) (h.fld PWR_MODE_SAFE_CAUSE ⟨by decide, by decide⟩)
  rw [State.runs, State.runs, ready, exhausted]

/-- From `s` to `t` only the host block's queues, their register fields, the results and the waits change. -/
structure HostOnly (s t : State) : Prop where
  fld : ∀ f : Fld, f.key < 0x60078000 * 32 → t.fld f = s.fld f
  rest : { t with regs := s.regs, hq := s.hq, results := s.results, waits := s.waits } = s

section
variable {s t u : State}

theorem HostOnly.refl (s : State) : HostOnly s s := ⟨fun _ _ => rfl, rfl⟩

theorem HostOnly.part {β : Type} {p : State → β} (h : HostOnly s t)
    (blind : ∀ s regs hq results waits, p { s with regs := regs, hq := hq, results := results, waits := waits } = p s) : p t = p s :=
  (blind t s.regs s.hq s.results s.waits).symm.trans (congrArg p h.rest)

theorem HostOnly.mtime (h : HostOnly s t) : t.mtime = s.mtime := h.part fun _ _ _ _ _ => rfl

theorem HostOnly.flag (h : HostOnly s t) {f : Fld} (low : f.key < 0x60078000 * 32) : t.flag f = s.flag f :=
  congrArg (fun v => decide (v ≠ 0)) (h.fld f low)

theorem HostOnly.spares {K : Nat → Prop} (h : HostOnly s t) (low : ∀ k, K k → k < 0x60078000 * 32) : Spares K s t :=
  ⟨h.mtime, fun f hf => h.fld f (low _ hf)⟩

theorem HostOnly.runs (h : HostOnly s t) : t.runs = s.runs := Spares.runs (h.spares fun k hk => by unfold startKey at hk; omega)

theorem mapCmd_hostOnly (s : State) (c : CmdRef) (f : HCmd → HCmd) : HostOnly s (mapCmd s c f) := by
  refine ⟨fun g low => ?_, rfl⟩
  have apart : (HOST_R_STAT_OPEN c.ring).key ≠ g.key ∧ (HOST_R_STAT_WAITING c.ring).key ≠ g.key := by
    simp only [Fld.key, HOST_R_STAT_OPEN, HOST_R_STAT_WAITING] at low ⊢
    omega
  exact (State.fld_put_other _ _ _ _ apart.2.symm).trans (State.fld_put_other _ _ _ _ apart.1.symm)

theorem result_hostOnly (s : State) (c : CmdRef) (st : Status) (res : Option Nat) : HostOnly s (result s c st res) := by
  have marked := mapCmd_hostOnly s c fun x => { x with stage := .done }
  unfold result
  split
  · exact .refl s
  · exact ⟨marked.fld, marked.rest⟩

theorem await_hostOnly (s : State) (w : WaitOn) (c : CmdRef) : HostOnly s (s.await w c) := ⟨fun _ _ => rfl, rfl⟩

end

/-- The state in which the operation of the command `q` of ring `r` begins: the command is marked as running. -/
def taken (s : State) (r q : Nat) : State := mapCmd s ⟨r, q⟩ fun x => { x with stage := .running }

theorem taken_hostOnly (s : State) (r q : Nat) : HostOnly s (taken s r q) := mapCmd_hostOnly s _ _

/-- What becomes of a command whose operation ended as `x` says. -/
def closed (x : State × OpEnd) (c : CmdRef) : State :=
  match x.2 with
  | .done st res => result x.1 c st res
  | .await w => x.1.await w c
  | .hold => x.1

theorem runOp_closed {s : State} {r q o : Nat} {a : List Byte} (f : HostOp) (cmd : s.hostCmd r q o a) :
    runOp s r q o f = closed (f (taken s r q) a) ⟨r, q⟩ := by
  obtain ⟨runs, c, found, rfl⟩ := cmd
  unfold runOp
  rw [show (s.ready || s.exhausted) = true from runs, if_pos rfl, found]
  rfl

section
variable {s t : State} {r q o : Nat} {a : List Byte} {f : HostOp} {st : Status} {w : WaitOn}

/-- An operation that ends at once leaves its result; the host's records apart, its state stands. -/
theorem runOp_ended (cmd : s.hostCmd r q o a) (op : f (taken s r q) a = (t, .done st none)) (kept : Spares startKey (taken s r q) t) :
    (runOp s r q o f).ended r q s.mtime st none ∧ HostOnly t (runOp s r q o f) := by
  have run : runOp s r q o f = result t ⟨r, q⟩ st none := by rw [runOp_closed f cmd, op, closed]
  have time : t.mtime = s.mtime := kept.mtime.trans (taken_hostOnly s r q).mtime
  have still : t.runs = true := kept.runs.trans ((taken_hostOnly s r q).runs.trans cmd.1)
  refine ⟨?_, run ▸ result_hostOnly t _ _ _⟩
  rw [run, State.ended, result, if_neg (by simp only [State.runs, Bool.or_eq_true] at still; simpa using still.resolve_left), ← time]
  exact List.getLast?_concat ..

/-- An operation that ends at once and leaves the field `x` alone. -/
theorem runOp_ended_kept (x : Fld) (low : x.key < 0x60078000 * 32) (cmd : s.hostCmd r q o a) (op : f (taken s r q) a = (t, .done st none))
    (kept : Spares (startOr x.key) (taken s r q) t) : (runOp s r q o f).ended r q s.mtime st none ∧ (runOp s r q o f).fld x = s.fld x := by
  obtain ⟨ended, only⟩ := runOp_ended cmd op (kept.mono fun k hk => .inl hk)
  exact ⟨ended, (only.fld x low).trans ((kept.fld x (.inr rfl)).trans ((taken_hostOnly s r q).fld x low))⟩

/-- An operation that waits is noted with its completion point. -/
theorem runOp_awaits (cmd : s.hostCmd r q o a) (op : f (taken s r q) a = (t, .await w)) :
    (runOp s r q o f).awaits w r q ∧ HostOnly t (runOp s r q o f) := by
  have run : runOp s r q o f = t.await w ⟨r, q⟩ := by rw [runOp_closed f cmd, op, closed]
  refine ⟨?_, run ▸ await_hostOnly t _ _⟩
  rw [run, State.awaits]
  exact List.mem_append_right _ (.head _)

end

/-! ### Setpoints and limits of a traction slot (R231, R232) -/

/-- From `s` to `t` no register, no slot and no word of a register block changes; an engine's data may. -/
structure EngineDataOnly (s t : State) : Prop where
  regs : t.regs = s.regs
  mtime : t.mtime = s.mtime
  slots : t.trcSlot = s.trcSlot
  word : ∀ a, 0x60000000 ≤ a → t.word a = s.word a

theorem EngineDataOnly.setWord {s t : State} {a : Nat} {w : Word36} (h : EngineDataOnly s t) (low : a < 0x60000000) :
    EngineDataOnly s (t.setWord a w) :=
  ⟨h.regs, h.mtime, h.slots, fun b high => (State.word_setWord_other t (by omega) w).trans (h.word b high)⟩

theorem dataAddr_low {e a : Nat} (engine : e < 32) (slot : a ≤ 0x100) : dataAddr e a < 0x60000000 := by
  unfold dataAddr
  omega

theorem writeSlot_dataOnly (s : State) {e a : Nat} (engine : e < 32) (slot : a < 0x100) (x : Sample) :
    EngineDataOnly s (writeSlot s e a x) :=
  (EngineDataOnly.setWord ⟨rfl, rfl, rfl, fun _ _ => rfl⟩ (dataAddr_low engine (by omega))).setWord (dataAddr_low engine slot)

theorem trcWrite_dataOnly (s : State) (m : Nat) {a : Nat} (slot : a < 0x100) (w : Word36) (e : Nat) (valid : Bool) (t : Nat) :
    EngineDataOnly s (trcWrite s m a w e valid t) := by
  unfold trcWrite
  split
  · exact writeSlot_dataOnly s (State.fld_lt s (TRC_M_CFG_ENGINE m)) slot _
  · exact ⟨rfl, rfl, rfl, fun _ _ => rfl⟩

theorem writeLimit_dataOnly (s : State) (m : Nat) (gen : Bool) : EngineDataOnly s (writeLimit s m gen) := by
  have written := trcWrite_dataOnly s.fresh.2 m (a := if gen then 0x066 else 0x064) (by split <;> decide)
  exact ⟨(written _ _ _ _).regs, (written _ _ _ _).mtime, (written _ _ _ _).slots, (written _ _ _ _).word⟩

theorem EngineDataOnly.spares {K : Nat → Prop} {s t : State} (h : EngineDataOnly s t) : Spares K s t :=
  (Spares.refl s).of_regs h.regs h.mtime

/-- A state in which a setpoint of slot `m` is committed, before the engine's copy is written. -/
def spNoted (s : State) (m a : Nat) (w : Word36) (v : TrcSlot) (clears : Bool) : State :=
  ((s.setWord a w).setSlot m v).when clears fun s => s.putFlag (TRC_M_STAT_SP_STALE m) false

section
variable (s : State) (m : Nat) (a : Nat) (w : Word36) (v : TrcSlot) (clears : Bool)

theorem spNoted_words : (spNoted s m a w v clears).words = (s.setWord a w).words := by cases clears <;> rfl

theorem spNoted_slotOf : (spNoted s m a w v clears).slotOf m = v := by
  cases clears <;> exact Tbl.get_set_same _ _ m v

theorem spNoted_spares : Spares startKey s (spNoted s m a w v clears) := by
  refine Spares.when ((Spares.refl s).of_regs rfl rfl) fun t h => h.put ?_
  simp only [startKey, Fld.key, TRC_M_STAT_SP_STALE]
  omega

theorem spNoted_word : (spNoted s m a w v clears).word a = w :=
  (congrArg (Tbl.get 0 · a) (spNoted_words s m a w v clears)).trans (State.word_setWord_same s a w)

theorem spNoted_word_other {b : Nat} (apart : b ≠ a) : (spNoted s m a w v clears).word b = s.word b :=
  (congrArg (Tbl.get 0 · b) (spNoted_words s m a w v clears)).trans (State.word_setWord_other s apart w)

end

theorem trcAddr_high (m : Nat) : 0x60000000 ≤ trcTsp m ∧ 0x60000000 ≤ trcSsp m ∧ 0x60000000 ≤ trcTmot m ∧ 0x60000000 ≤ trcTgen m := by
  unfold trcTsp trcSsp trcTmot trcTgen
  omega

theorem torqueCommit_noted (s : State) (m : Nat) (w : Word36) :
    EngineDataOnly (spNoted s m (trcTsp m) w { s.slotOf m with tspAt := s.mtime } (!s.flag (TRC_M_CFG_SPEED_MODE m))) (torqueCommit s m w) :=
  trcWrite_dataOnly _ m (by decide) w _ true _

theorem speedCommit_noted (s : State) (m : Nat) (w : Word36) :
    EngineDataOnly (spNoted s m (trcSsp m) w { s.slotOf m with sspAt := s.mtime } (s.flag (TRC_M_CFG_SPEED_MODE m))) (speedCommit s m w) :=
  trcWrite_dataOnly _ m (by decide) w _ true _

theorem limitCommit_noted (s : State) (m : Nat) (gen : Bool) (w : Word36) :
    EngineDataOnly (s.setWord (if gen then trcTgen m else trcTmot m) w) (limitCommit s m gen w) :=
  writeLimit_dataOnly _ m gen

theorem limitCommit_spares {K : Nat → Prop} (s : State) (m : Nat) (gen : Bool) (w : Word36) : Spares K s (limitCommit s m gen w) := by
  have word : Spares K s (s.setWord (if gen then trcTgen m else trcTmot m) w) := (Spares.refl s).of_regs rfl rfl
  exact word.trans (limitCommit_noted s m gen w).spares

theorem EngineDataOnly.slotOf {s t : State} (h : EngineDataOnly s t) (m : Nat) : t.slotOf m = s.slotOf m :=
  congrArg (Tbl.get ({} : TrcSlot) · m) h.slots

/-- A command that commits the setpoint `w` at `adr` ends OK; the words of other addresses stand. -/
theorem setpoint_ends {s t : State} {r q o m adr : Nat} {a : List Byte} {f : HostOp} {w : Word36} {v : TrcSlot} {clears : Bool}
    (cmd : s.hostCmd r q o a) (op : f (taken s r q) a = (t, .done .OK none)) (high : 0x60000000 ≤ adr)
    (noted : EngineDataOnly (spNoted (taken s r q) m adr w v clears) t) :
    (runOp s r q o f).ended r q s.mtime .OK none ∧ (runOp s r q o f).word adr = w ∧ (runOp s r q o f).slotOf m = v ∧
      ∀ b, 0x60000000 ≤ b → b ≠ adr → (runOp s r q o f).word b = s.word b := by
  obtain ⟨ended, only⟩ := runOp_ended cmd op ((spNoted_spares _ _ _ _ _ _).trans noted.spares)
  have words (b : Nat) : (runOp s r q o f).word b = t.word b := only.part (p := fun s => s.word b) fun _ _ _ _ _ => rfl
  have slots : (runOp s r q o f).slotOf m = t.slotOf m := only.part (p := fun s => s.slotOf m) fun _ _ _ _ _ => rfl
  refine ⟨ended, ?_, ?_, fun b highB apart => ?_⟩
  · rw [words, noted.word adr high, spNoted_word]
  · rw [slots, noted.slotOf, spNoted_slotOf]
  · rw [words, noted.word b highB, spNoted_word_other _ _ _ _ _ _ apart]
    exact (taken_hostOnly s r q).part (p := fun s => s.word b) fun _ _ _ _ _ => rfl

section
variable {s : State} {r q m : Nat} {a : List Byte}

theorem torqueSp_ends (cmd : s.hostCmd r q 0x10 a) (slot : argNum a 0 1 = m) :
    let u := runOp s r q 0x10 opTorqueSp
    u.ended r q s.mtime .OK none ∧ u.word (trcTsp m) = BitVec.ofNat 36 (argNum a 4 5) ∧ (u.slotOf m).tspAt = s.mtime ∧
      u.word (trcSsp m) = s.word (trcSsp m) := by
  subst slot
  obtain ⟨tsp, ssp, -⟩ := trcAddr_high (argNum a 0 1)
  obtain ⟨ended, word, slot, others⟩ := setpoint_ends (f := opTorqueSp) cmd rfl tsp (torqueCommit_noted _ _ _)
  refine ⟨ended, word, ?_, others _ ssp (by unfold trcSsp trcTsp; omega)⟩
  rw [slot]
  exact (taken_hostOnly s r q).mtime

theorem speedSp_ends (cmd : s.hostCmd r q 0x11 a) (slot : argNum a 0 1 = m) :
    let u := runOp s r q 0x11 opSpeedSp
    u.ended r q s.mtime .OK none ∧ u.word (trcSsp m) = BitVec.ofNat 36 (argNum a 4 5) ∧ (u.slotOf m).sspAt = s.mtime ∧
      u.word (trcTsp m) = s.word (trcTsp m) := by
  subst slot
  obtain ⟨tsp, ssp, -⟩ := trcAddr_high (argNum a 0 1)
  obtain ⟨ended, word, slot, others⟩ := setpoint_ends (f := opSpeedSp) cmd rfl ssp (speedCommit_noted _ _ _)
  refine ⟨ended, word, ?_, others _ tsp (by unfold trcSsp trcTsp; omega)⟩
  rw [slot]
  exact (taken_hostOnly s r q).mtime

theorem torqueLim_ends (cmd : s.hostCmd r q 0x12 a) (slot : argNum a 0 1 = m) :
    let u := runOp s r q 0x12 opTorqueLim
    u.ended r q s.mtime .OK none ∧ u.word (trcTmot m) = BitVec.ofNat 36 (argNum a 4 5) ∧
      u.word (trcTgen m) = BitVec.ofNat 36 (argNum a 9 5) := by
  subst slot
  obtain ⟨-, -, tmot, tgen⟩ := trcAddr_high (argNum a 0 1)
  have apart : trcTmot (argNum a 0 1) ≠ trcTgen (argNum a 0 1) := by
    unfold trcTmot trcTgen
    omega
  have motor := limitCommit_noted (taken s r q) (argNum a 0 1) false (BitVec.ofNat 36 (argNum a 4 5))
  have both := limitCommit_noted (limitCommit (taken s r q) (argNum a 0 1) false (BitVec.ofNat 36 (argNum a 4 5))) (argNum a 0 1) true
    (BitVec.ofNat 36 (argNum a 9 5))
  obtain ⟨ended, only⟩ := runOp_ended (f := opTorqueLim) cmd rfl ((limitCommit_spares _ _ _ _).trans (limitCommit_spares _ _ _ _))
  have words (b : Nat) := only.part (p := fun s => s.word b) fun _ _ _ _ _ => rfl
  refine ⟨ended, ?_, ?_⟩
  · exact (words _).trans ((both.word _ tmot).trans ((State.word_setWord_other _ apart _).trans ((motor.word _ tmot).trans
      (State.word_setWord_same _ _ _))))
  · exact (words _).trans ((both.word _ tgen).trans (State.word_setWord_same _ _ _))

end

/-! ### Setpoints written through registers (R253, R268, R283, R401, R411) -/

/-! #### A register write by the host while every domain is powered -/

theorem HostOnly.allUp {s t : State} (h : HostOnly s t) : t.allUp = s.allUp := by
  have low := h.fld PWR_RET_LOST_LO_BANKS (by decide)
  have high := h.fld PWR_RET_LOST_HI_BANKS (by decide)
  have sup : t.sup = s.sup := h.part fun _ _ _ _ _ => rfl
  unfold State.allUp lostBanks
  rw [low, high, sup]

theorem hostReg_allUp {s : State} {a : Nat} (up : s.allUp = true) (reg : 0x60000000 ≤ a) (open' : safetyOnly a = false) (d : Nat) :
    hostReg s a d = regWrite s .host a d := by
  unfold hostReg
  simp only [touch_allUp a up, bankShut_allUp up reg, open', Bool.false_eq_true, if_false]

theorem checkedWrite_passed {s : State} {b : BlockErr} {checks : List (Bool × Status)} (pass : firstOf checks = .OK) (a d : Nat) :
    checkedWrite s b checks a d = writeFields s b a d := by
  unfold checkedWrite
  rw [pass]

theorem checkedWrite_refused {s : State} {b : BlockErr} {checks : List (Bool × Status)} {st : Status} (fails : firstOf checks = st)
    (refusal : st ≠ .OK) (a d : Nat) : checkedWrite s b checks a d = (s.refuse b st, st) := by
  subst fails
  unfold checkedWrite
  split
  · contradiction
  · rfl

/-- A register without locked fields takes a write field by field. -/
theorem writeFields_unlocked {s : State} {a : Nat} {rows : List Row} (at_ : rowsAt a = rows) (d : Nat)
    (same : changesLocked s a d rows = false) (b : BlockErr) :
    writeFields s b a d = (rows.foldl (fun t r => writeField t (s.flag b.lock) a d r) s, .OK) := by
  unfold writeFields
  simp only [at_, same, Bool.and_false, Bool.false_eq_true, if_false]

/-- A checked write that touches no locked field, and whose range check passes. -/
theorem checkedWrite_unlocked {s : State} {b : BlockErr} {a d : Nat} {rows : List Row} {en range : Bool} {busy st : Status}
    (at_ : rowsAt a = rows) (same : changesLocked s a d rows = false) (fits : range = false) :
    checkedWrite s b [(en && changesRwl s a d, busy), (range, st)] a d =
      (rows.foldl (fun t r => writeField t (s.flag b.lock) a d r) s, .OK) := by
  have kept : changesRwl s a d = false := (congrArg (changesLocked s a d) at_).trans same
  rw [checkedWrite_passed (by simp [firstOf_cons, firstOf_nil, kept, fits]), writeFields_unlocked at_ d same]

/-- A checked write that touches no locked field, and whose range check fails. -/
theorem checkedWrite_outOfRange {s : State} {b : BlockErr} {a d : Nat} {rows : List Row} {en range : Bool} {busy st : Status}
    (at_ : rowsAt a = rows) (same : changesLocked s a d rows = false) (fails : range = true) (refusal : st ≠ .OK) :
    checkedWrite s b [(en && changesRwl s a d, busy), (range, st)] a d = (s.refuse b st, st) := by
  have kept : changesRwl s a d = false := (congrArg (changesLocked s a d) at_).trans same
  exact checkedWrite_refused (by simp [firstOf_cons, kept, fails]) refusal a d

/-! #### Bytes of an argument -/

theorem ofBytes_lt (l : List Byte) : ofBytes l < 256 ^ l.length := by
  induction l with
  | nil => exact Nat.one_pos
  | cons b l ih =>
    have byte := b.isLt
    rw [ofBytes, List.length_cons, pow_succ]
    omega

theorem ofBytes_append (l m : List Byte) : ofBytes (l ++ m) = ofBytes l + 256 ^ l.length * ofBytes m := by
  induction l with
  | nil => simp [ofBytes]
  | cons b l ih =>
    rw [List.cons_append, ofBytes, ofBytes, ih, List.length_cons, pow_succ]
    ring

theorem argNum_lt (a : List Byte) (o n : Nat) : argNum a o n < 256 ^ n :=
  (ofBytes_lt _).trans_le (Nat.pow_le_pow_right (by decide) (List.length_take_le _ _))

theorem argNum_split (a : List Byte) (o m n : Nat) : argNum a o (m + n) = argNum a o m + 256 ^ m * argNum a (o + m) n := by
  unfold argNum
  rw [List.take_add, ofBytes_append, List.drop_drop]
  rcases Nat.le_total m (a.drop o).length with long | short
  · rw [List.length_take_of_le long]
  · have none_left : a.drop (o + m) = [] := by simpa using (List.drop_eq_nil_of_le short)
    simp [none_left, ofBytes]

theorem bitsOf_low {n w : Nat} (small : n < 2 ^ w) : bitsOf n 0 w = n := Nat.mod_eq_of_lt small

/-- The two half words of a four-byte argument. -/
theorem bitsOf_halves (a : List Byte) : bitsOf (argNum a 0 4) 0 16 = argNum a 0 2 ∧ bitsOf (argNum a 0 4) 16 16 = argNum a 2 2 := by
  have low := argNum_lt a 0 2
  have high := argNum_lt a 2 2
  have whole : argNum a 0 4 = argNum a 0 2 + 256 ^ 2 * argNum a 2 2 := argNum_split a 0 2 2
  simp only [bitsOf, Nat.shiftRight_eq_div_pow, whole]
  omega

/-! #### The speed setpoint of an actuator slot -/

theorem rowsAt_actSp : ∀ m : Fin 4, rowsAt (0x60040020 + 0x80 * m) = [⟨.act, 0x60040020, [(4, 0x80)], 0, 16, .rw, 0, .image, false⟩] := by
  decide +kernel

theorem actSp_block : ∀ m : Fin 4, blkAt (0x60040020 + 0x80 * m) = some .act ∧ safetyOnly (0x60040020 + 0x80 * m) = false := by decide

theorem actRegWrite_sp (s : State) (m : Fin 4) (d : Nat) :
    actRegWrite s (0x60040020 + 0x80 * m) d = (s.put (ACT_SP_SPEED m) (bitsOf d 0 16), .OK) := by
  have slot : 0x60040020 + 0x80 * m.val - 0x60040000 = 0x20 + 0x80 * m.val := by omega
  have inSlots : 0x20 + 0x80 * m.val < 0x200 := by omega
  have place : (0x20 + 0x80 * m.val) % 0x80 = 0x20 := by omega
  unfold actRegWrite
  simp only [slot, inSlots, place, if_true, reduceIte, Nat.reduceEqDiff, OfNat.ofNat_ne_zero]
  rw [checkedWrite_unlocked (rowsAt_actSp m) rfl rfl]
  rfl

/-- ACT_SPEED_SP writes the speed setpoint. -/
theorem actSpeedSp_ends {s : State} {r q : Nat} {m : Fin 4} {a : List Byte} (up : s.allUp = true) (cmd : s.hostCmd r q 0x13 a)
    (slot : argNum a 0 1 = m) :
    let u := runOp s r q 0x13 opActSpeedSp
    u.ended r q s.mtime .OK none ∧ u.fld (ACT_SP_SPEED m) = argNum a 2 2 := by
  have reach : (taken s r q).allUp = true := (taken_hostOnly s r q).allUp.trans up
  have place := actSp_block m
  have op : opActSpeedSp (taken s r q) a = ((taken s r q).put (ACT_SP_SPEED m) (argNum a 2 2), .done .OK none) := by
    unfold opActSpeedSp
    rw [slot, hostReg_allUp reach (by omega) place.2, regWrite, place.1]
    show atOnce (actRegWrite _ _ _) = _
    rw [actRegWrite_sp, bitsOf_low (argNum_lt a 2 2)]
    rfl
  have free : ¬ startKey (ACT_SP_SPEED m).key := by
    simp only [startKey, Fld.key, ACT_SP_SPEED]
    omega
  obtain ⟨ended, only⟩ := runOp_ended cmd op ((Spares.refl _).put free)
  refine ⟨ended, (only.fld _ ?_).trans ?_⟩
  · simp only [Fld.key, ACT_SP_SPEED]
    omega
  · exact (State.fld_put_same _ _ _).trans (Nat.mod_eq_of_lt (argNum_lt a 2 2))

/-! #### The output setpoint of a converter slot -/

section
variable {K : Nat → Prop} {r s : State}

theorem Spares.setWord {a : Nat} {w : Word36} (h : Spares K r s) : Spares K r (s.setWord a w) := h.of_regs rfl rfl

theorem Spares.writeSlot {e a : Nat} {x : Sample} (h : Spares K r s) : Spares K r (writeSlot s e a x) := h.setWord.setWord

theorem Spares.setCnv {m : Nat} {v : Cnv} (h : Spares K r s) : Spares K r (s.setCnv m v) := h.of_regs rfl rfl

theorem Spares.setLeg {n : Nat} {v : Leg} (h : Spares K r s) : Spares K r (s.setLeg n v) := h.of_regs rfl rfl

theorem Spares.fresh (h : Spares K r s) : Spares K r s.fresh.2 := h.of_regs rfl rfl

theorem Spares.cnvTarget {m : Nat} (h : Spares K r s) : Spares K r (cnvTarget s m) := h.fresh.setCnv

theorem Spares.writeRef {m : Nat} (h : Spares K r s) (free : ¬ K (CNV_C_VOUT_REF m).key) : Spares K r (writeRef s m) := by
  have shown : Spares K r (s.put (CNV_C_VOUT_REF m) ((s.cnvOf m).ref / 65536)) := h.put free
  exact .ite shown.writeSlot shown

theorem Spares.newTarget {m : Nat} (h : Spares K r s) (free : ¬ K (CNV_C_VOUT_REF m).key) : Spares K r (newTarget s m) :=
  (Spares.ite h.cnvTarget h.cnvTarget.setCnv).writeRef free

end

theorem rowsAt_cnvVset : ∀ m : Fin 4, rowsAt (0x60048004 + 0x80 * m) = [⟨.cnv, 0x60048004, [(4, 0x80)], 0, 16, .rw, 0, .image, false⟩] := by
  decide +kernel

theorem cnvVset_block : ∀ m : Fin 4, blkAt (0x60048004 + 0x80 * m) = some .cnv ∧ safetyOnly (0x60048004 + 0x80 * m) = false := by decide

theorem maskedValue_cnvVset (s : State) (m : Fin 4) {d : Nat} (small : d < 2 ^ 16) :
    maskedValue s (0x60048004 + 0x80 * m) d (2 ^ 16 - 1) = d := by
  have now := State.fld_lt s (CNV_C_VSET_VOUT_SET m)
  have masks (n : Nat) (h : n < 2 ^ 16) : n &&& (2 ^ 16 - 1) = n := (Nat.and_two_pow_sub_one_eq_mod n 16).trans (Nat.mod_eq_of_lt h)
  unfold maskedValue
  rw [rowsAt_cnvVset m]
  show 0 + (s.fld (CNV_C_VSET_VOUT_SET m) - (s.fld (CNV_C_VSET_VOUT_SET m) &&& bitsOf (2 ^ 16 - 1) 0 16) +
    (bitsOf d 0 16 &&& bitsOf (2 ^ 16 - 1) 0 16)) * 2 ^ 0 = d
  rw [bitsOf_low small, bitsOf_low (by decide : 2 ^ 16 - 1 < 2 ^ 16), masks _ now, masks _ small]
  omega

/-- What a write of C_VSET does: a setpoint of 0 is out of range, any other is taken and makes a new target where it differs. -/
theorem cnvRegWrite_vset (s : State) (m : Fin 4) (d : Nat) :
    cnvRegWrite s (0x60048004 + 0x80 * m) d =
      if bitsOf d 0 16 = 0 then (s.refuse cnvErr .CNV_RANGE, .CNV_RANGE)
      else
        let t := s.put (CNV_C_VSET_VOUT_SET m) (bitsOf d 0 16)
        (if t.fld (CNV_C_VSET_VOUT_SET m) = s.fld (CNV_C_VSET_VOUT_SET m) then t else newTarget t m, .OK) := by
  have slot : 0x60048004 + 0x80 * m.val - 0x60048000 = 4 + 0x80 * m.val := by omega
  have inSlots : 4 + 0x80 * m.val < 0x200 := by omega
  have place : (4 + 0x80 * m.val) % 0x80 = 4 := by omega
  have number : (4 + 0x80 * m.val) / 0x80 = m.val := by omega
  unfold cnvRegWrite
  simp only [slot, inSlots, place, number, if_true, reduceIte, Nat.reduceEqDiff, OfNat.ofNat_ne_zero]
  by_cases zero : bitsOf d 0 16 = 0
  · rw [if_pos zero, checkedWrite_outOfRange (st := .CNV_RANGE) (rowsAt_cnvVset m) rfl (decide_eq_true zero) (by decide)]
    rfl
  · rw [if_neg zero, checkedWrite_unlocked (rowsAt_cnvVset m) rfl (decide_eq_false zero)]
    rfl

theorem cnvKeys_apart (m : Fin 4) : ¬ startKey (CNV_C_VSET_VOUT_SET m).key ∧ ¬ startKey (CNV_C_VOUT_REF m).key ∧
    (CNV_C_VOUT_REF m).key ≠ (CNV_C_VSET_VOUT_SET m).key ∧ (CNV_C_VSET_VOUT_SET m).key < 0x60078000 * 32 := by
  simp only [startKey, Fld.key, CNV_C_VSET_VOUT_SET, CNV_C_VOUT_REF]
  omega

section
variable {s : State} {r q : Nat} {m : Fin 4} {a : List Byte} (up : s.allUp = true) (slot : argNum a 0 1 = m)
include up slot

theorem opVoutSp_eq : opVoutSp (taken s r q) a = atOnce (cnvRegWrite (taken s r q) (0x60048004 + 0x80 * m) (argNum a 2 2)) := by
  have reach : (taken s r q).allUp = true := (taken_hostOnly s r q).allUp.trans up
  have place := cnvVset_block m
  unfold opVoutSp
  simp only [slot, maskedValue_cnvVset _ m (argNum_lt a 2 2)]
  rw [hostReg_allUp reach (by omega) place.2, regWrite, place.1]

variable (cmd : s.hostCmd r q 0x14 a)
include cmd

/-- VOUT_SP of 0 is refused and leaves the setpoint. -/
theorem voutSp_refused (zero : argNum a 2 2 = 0) :
    let u := runOp s r q 0x14 opVoutSp
    u.ended r q s.mtime .CNV_RANGE none ∧ u.fld (CNV_C_VSET_VOUT_SET m) = s.fld (CNV_C_VSET_VOUT_SET m) := by
  obtain ⟨-, -, -, low⟩ := cnvKeys_apart m
  have op : opVoutSp (taken s r q) a = ((taken s r q).refuse cnvErr .CNV_RANGE, .done .CNV_RANGE none) := by
    rw [opVoutSp_eq up slot, cnvRegWrite_vset, if_pos (by rw [zero]; rfl)]
    rfl
  refine runOp_ended_kept _ low cmd op ((Spares.refl _).refuse ?_ ?_) <;>
    · simp only [startOr, startKey, Fld.key, cnvErr, CNV_ERR_LAST_ERR, CNV_ERR_ERR_CNT, CNV_C_VSET_VOUT_SET]
      omega

/-- VOUT_SP writes another setpoint. -/
theorem voutSp_ends (some : argNum a 2 2 ≠ 0) :
    let u := runOp s r q 0x14 opVoutSp
    u.ended r q s.mtime .OK none ∧ u.fld (CNV_C_VSET_VOUT_SET m) = argNum a 2 2 := by
  obtain ⟨vset, vref, apart, low⟩ := cnvKeys_apart m
  have number := bitsOf_low (w := 16) (argNum_lt a 2 2)
  have op : opVoutSp (taken s r q) a = (let t := (taken s r q).put (CNV_C_VSET_VOUT_SET m) (argNum a 2 2)
      if t.fld (CNV_C_VSET_VOUT_SET m) = (taken s r q).fld (CNV_C_VSET_VOUT_SET m) then t else newTarget t m, .done .OK none) := by
    rw [opVoutSp_eq up slot, cnvRegWrite_vset, number, if_neg some]
    rfl
  have written : Spares startKey (taken s r q) ((taken s r q).put (CNV_C_VSET_VOUT_SET m) (argNum a 2 2)) := (Spares.refl _).put vset
  have value := (State.fld_put_same (taken s r q) (CNV_C_VSET_VOUT_SET m) (argNum a 2 2)).trans (Nat.mod_eq_of_lt (argNum_lt a 2 2))
  obtain ⟨ended, only⟩ := runOp_ended cmd op (.ite written (written.newTarget vref))
  have kept := Spares.newTarget (K := (· = (CNV_C_VSET_VOUT_SET m).key)) (m := m)
    (Spares.refl ((taken s r q).put (CNV_C_VSET_VOUT_SET m) (argNum a 2 2))) apart
  exact ⟨ended, (only.fld _ low).trans (((Spares.ite (Spares.refl _) kept).fld _ rfl).trans value)⟩

end

/-! #### The setpoints of the charger -/

/-- Keys outside CHG_STAT and CHG_TIMER, where the charger shows what it does. -/
def offChgStatus (k : Nat) : Prop := k < 0x60050030 * 32 ∨ 0x60050060 * 32 ≤ k

section
variable {K : Nat → Prop} {r s : State}

theorem Spares.setChg {v : Chg} (h : Spares K r s) : Spares K r (s.setChg v) := h.of_regs rfl rfl

theorem Spares.floatGroup {g : Nat} {b : Bool} (h : Spares K r s) : Spares K r (floatGroup s g b) :=
  h.each fun t _ _ => (Spares.refl t).setLeg

theorem Spares.writeQty {e addr num den : Nat} (h : Spares K r s) : Spares K r (writeQty s e addr num den) := h.fresh.fresh.writeSlot

theorem Spares.writeChgFlags {e addr v : Nat} (h : Spares K r s) : Spares K r (writeChgFlags s e addr v) := h.writeSlot

theorem Spares.putSlots (h : Spares K r s) : Spares K r (putSlots s) :=
  .ite h.writeQty.writeQty.writeChgFlags.writeQty.writeQty.writeQty.writeQty.writeChgFlags
    h.writeQty.writeQty.writeChgFlags.writeQty.writeQty.writeQty.writeQty.writeChgFlags.writeChgFlags.writeQty

theorem Spares.chgSlots (h : Spares K r s) : Spares K r (chgSlots s) := .ite h.putSlots h

theorem Spares.chgFloats (h : Spares K r s) : Spares K r (chgFloats s) := by
  unfold Machine.chgFloats
  extract_lets p pfc shed dab
  have shedKept : Spares K r shed := by
    refine .ite ?_ h.floatGroup
    split
    · exact h.floatGroup.setLeg
    · exact h.floatGroup
  exact .ite shedKept.floatGroup shedKept.floatGroup.floatGroup

end

theorem chgStatusKeys : ∀ f ∈ [CHG_STAT_RED, CHG_STAT_CV, CHG_TIMER_RATE], ¬ offChgStatus f.key := by
  unfold offChgStatus
  decide

section
variable {r s : State}

theorem Spares.updateRed (h : Spares offChgStatus r s) : Spares offChgStatus r (updateRed s) := by
  refine ((Spares.ite h h.setChg).putAll ?_).setChg.put (chgStatusKeys _ (by simp))
  simp [chgStatusKeys]

theorem Spares.chgSync (h : Spares offChgStatus r s) : Spares offChgStatus r (chgSync s) := h.updateRed.chgFloats.chgSlots

theorem Spares.chgDerate (h : Spares offChgStatus r s) : Spares offChgStatus r (chgDerate s) := .ite h (.ite h.setChg.chgSync h.chgSync)

end

theorem startKey_offChgStatus {k : Nat} (h : startKey k) : offChgStatus k := by
  unfold startKey offChgStatus at *
  omega

/-! The rows of the setpoint registers, and what a write does. -/

theorem rowsAt_chgSet : rowsAt 0x60050008 =
    [⟨.chg, 0x60050008, [], 0, 16, .rw, 0, .image, false⟩, ⟨.chg, 0x60050008, [], 16, 16, .rw, 0, .image, false⟩] := by
  decide +kernel

theorem rowsAt_chgAcc : rowsAt 0x60050068 =
    [⟨.chg, 0x60050068, [], 0, 14, .rw, 0, .image, false⟩, ⟨.chg, 0x60050068, [], 14, 7, .rwl, 0, .image, false⟩] := by
  decide +kernel

theorem regWrite_chg {a : Nat} (reg : blkAt a = some .chg) (s : State) (d : Nat) : regWrite s .host a d = chgRegWrite s a d := by
  unfold regWrite
  rw [reg]

theorem chgRegWrite_set (s : State) (d : Nat) :
    chgRegWrite s 0x60050008 d =
      if 9200 < bitsOf d 16 16 then (s.refuse chgErr .CHG_RANGE, .CHG_RANGE)
      else (chgDerate ((s.put CHG_SET_I_SET (bitsOf d 0 16)).put CHG_SET_V_LIM (bitsOf d 16 16)), .OK) := by
  unfold chgRegWrite
  simp only [Nat.reduceSub, reduceIte, Nat.reduceEqDiff, OfNat.ofNat_ne_zero]
  by_cases high : 9200 < bitsOf d 16 16
  · rw [if_pos high, checkedWrite_outOfRange (st := .CHG_RANGE) rowsAt_chgSet rfl (decide_eq_true high) (by decide)]
    rfl
  · rw [if_neg high, checkedWrite_unlocked rowsAt_chgSet rfl (decide_eq_false high)]
    rfl

/-- The setpoints of an EXPORT_SP as they are written. -/
def exportWritten (s : State) (v i : Nat) : State := (s.put CHG_EXP_EXP_V v).put CHG_EXP_EXP_I i

theorem exportWritten_fields (s : State) {v i : Nat} (smallV : v < 2 ^ 16) (smallI : i < 2 ^ 16) :
    Spares startKey s (exportWritten s v i) ∧ (exportWritten s v i).fld CHG_EXP_EXP_V = v ∧ (exportWritten s v i).fld CHG_EXP_EXP_I = i := by
  refine ⟨((Spares.refl s).put ?_).put ?_, ?_, ?_⟩
  · unfold startKey
    decide
  · unfold startKey
    decide
  · exact (State.fld_put_other _ _ _ _ (by decide)).trans ((State.fld_put_same _ _ _).trans (Nat.mod_eq_of_lt smallV))
  · exact (State.fld_put_same _ _ _).trans (Nat.mod_eq_of_lt smallI)

theorem exportWrite_shows (s : State) (d : Nat) : ∃ t, exportWrite s d = (t, .OK) ∧
    Spares offChgStatus (exportWritten s (bitsOf d 0 16) (bitsOf d 16 16)) t := by
  have same : exportWritten s (bitsOf d 0 16) (bitsOf d 16 16) =
      s.putAll [(CHG_EXP_EXP_V, bitsOf d 0 16), (CHG_EXP_EXP_I, bitsOf d 16 16)] := rfl
  rw [same]
  unfold exportWrite
  generalize s.putAll [(CHG_EXP_EXP_V, bitsOf d 0 16), (CHG_EXP_EXP_I, bitsOf d 16 16)] = t
  exact ⟨_, rfl, (Spares.ite (Spares.refl t).setChg (Spares.refl t)).chgSync⟩

theorem exportRegWrite (s : State) (d : Nat) : chgRegWrite s 0x60050060 d = exportWrite s d := by
  simp only [chgRegWrite, Nat.reduceSub, reduceIte, Nat.reduceEqDiff, OfNat.ofNat_ne_zero]
  exact if_neg (by decide)

/-- What a write of BST takes: ACC_RAMP keeps its value. -/
theorem maskedValue_chgAcc (s : State) (d : Nat) : ∃ v, maskedValue s 0x60050068 d (2 ^ 14 - 1) = v ∧
    bitsOf v 0 14 = d % 2 ^ 14 ∧ bitsOf v 14 7 = s.fld CHG_BST_ACC_RAMP := by
  have ramp := State.fld_lt s CHG_BST_ACC_RAMP
  have volts := State.fld_lt s CHG_BST_ACC_V
  have value : maskedValue s 0x60050068 d (2 ^ 14 - 1) = d % 2 ^ 14 + s.fld CHG_BST_ACC_RAMP * 2 ^ 14 := by
    have mask (n : Nat) : n &&& (2 ^ 14 - 1) = n % 2 ^ 14 := Nat.and_two_pow_sub_one_eq_mod n 14
    unfold maskedValue
    rw [rowsAt_chgAcc]
    show 0 + (s.fld CHG_BST_ACC_V - (s.fld CHG_BST_ACC_V &&& (2 ^ 14 - 1)) + (d % 2 ^ 14 &&& (2 ^ 14 - 1))) * 2 ^ 0 +
      (s.fld CHG_BST_ACC_RAMP - (s.fld CHG_BST_ACC_RAMP &&& 0) + (bitsOf d 14 7 &&& 0)) * 2 ^ 14 = _
    have whole : s.fld CHG_BST_ACC_V % 2 ^ 14 = s.fld CHG_BST_ACC_V := Nat.mod_eq_of_lt volts
    rw [mask, mask, Nat.mod_mod, whole]
    simp
  have small : s.fld CHG_BST_ACC_RAMP < 2 ^ 7 := ramp
  refine ⟨_, value, ?_, ?_⟩ <;> simp only [bitsOf, Nat.shiftRight_eq_div_pow] <;> omega

/-- The fields of BST after a write: ACC_RAMP takes it unless CHG_LOCK is set. -/
def accWritten (s : State) (d : Nat) : State :=
  let t := s.put CHG_BST_ACC_V (bitsOf d 0 14)
  if s.flag CHG_LOCK then t else t.put CHG_BST_ACC_RAMP (bitsOf d 14 7)

theorem chgRegWrite_acc {s : State} {d : Nat} (same : bitsOf d 14 7 = s.fld CHG_BST_ACC_RAMP) (least : 1 ≤ s.fld CHG_BST_ACC_RAMP)
    (most : s.fld CHG_BST_ACC_RAMP ≤ 100) : ∃ v, chgRegWrite s 0x60050068 d = (chgSlots ((accWritten s d).setChg v), .OK) := by
  have unlocked : changesLocked s 0x60050068 d [⟨.chg, 0x60050068, [], 0, 14, .rw, 0, .image, false⟩,
      ⟨.chg, 0x60050068, [], 14, 7, .rwl, 0, .image, false⟩] = false := by
    show (false || (decide (s.fld CHG_BST_ACC_RAMP ≠ bitsOf d 14 7) || false)) = false
    simp [same]
  have inRange : (decide (bitsOf d 14 7 < 1) || decide (100 < bitsOf d 14 7)) = false := by
    rw [same, Bool.or_eq_false_iff, decide_eq_false_iff_not, decide_eq_false_iff_not]
    omega
  unfold chgRegWrite
  simp only [Nat.reduceSub, reduceIte, Nat.reduceEqDiff, OfNat.ofNat_ne_zero]
  rw [if_neg (by decide), checkedWrite_unlocked rowsAt_chgAcc unlocked inRange]
  exact ⟨_, rfl⟩

theorem accWritten_fields {s : State} {d : Nat} (same : bitsOf d 14 7 = s.fld CHG_BST_ACC_RAMP) :
    Spares startKey s (accWritten s d) ∧ (accWritten s d).fld CHG_BST_ACC_V = bitsOf d 0 14 ∧
      (accWritten s d).fld CHG_BST_ACC_RAMP = s.fld CHG_BST_ACC_RAMP := by
  have volts : Spares startKey s (s.put CHG_BST_ACC_V (bitsOf d 0 14)) := (Spares.refl s).put (by unfold startKey; decide)
  have small : bitsOf d 0 14 % 2 ^ 14 = bitsOf d 0 14 := Nat.mod_mod _ _
  have value := (State.fld_put_same s CHG_BST_ACC_V (bitsOf d 0 14)).trans small
  have ramp := State.fld_put_other s CHG_BST_ACC_V CHG_BST_ACC_RAMP (bitsOf d 0 14) (by decide)
  unfold accWritten
  split
  · exact ⟨volts, value, ramp⟩
  · refine ⟨volts.put (by unfold startKey; decide), (State.fld_put_other _ _ _ _ (by decide)).trans value, ?_⟩
    rw [same]
    exact (State.fld_put_same _ _ _).trans (Nat.mod_eq_of_lt (State.fld_lt s CHG_BST_ACC_RAMP))

section
variable {s : State} {r q : Nat} {a : List Byte} (up : s.allUp = true)
include up

theorem hostReg_chg {b : Nat} (reg : blkAt b = some .chg) (free : safetyOnly b = false) (high : 0x60000000 ≤ b) (d : Nat) :
    hostReg (taken s r q) b d = chgRegWrite (taken s r q) b d := by
  rw [hostReg_allUp ((taken_hostOnly s r q).allUp.trans up) high free, regWrite_chg reg]

theorem opChargeSp_eq : opChargeSp (taken s r q) a = atOnce (chgRegWrite (taken s r q) 0x60050008 (argNum a 0 4)) :=
  congrArg atOnce (hostReg_chg up (by decide) (by decide) (by decide) _)

/-- CHARGE_SP above the range leaves both setpoints. -/
theorem chargeSp_refused (cmd : s.hostCmd r q 0x15 a) (high : 9200 < argNum a 2 2) :
    let u := runOp s r q 0x15 opChargeSp
    u.ended r q s.mtime .CHG_RANGE none ∧ u.fld CHG_SET_I_SET = s.fld CHG_SET_I_SET ∧ u.fld CHG_SET_V_LIM = s.fld CHG_SET_V_LIM := by
  have op : opChargeSp (taken s r q) a = ((taken s r q).refuse chgErr .CHG_RANGE, .done .CHG_RANGE none) := by
    rw [opChargeSp_eq up, chgRegWrite_set, if_pos (by rw [(bitsOf_halves a).2]; exact high)]
    rfl
  have kept (x : Fld) (apart : x.key ≠ CHG_ERR_LAST_ERR.key ∧ x.key ≠ CHG_ERR_ERR_CNT.key) :
      Spares (startOr x.key) (taken s r q) ((taken s r q).refuse chgErr .CHG_RANGE) := by
    refine (Spares.refl _).refuse (not_startOr ?_ apart.1.symm) (not_startOr ?_ apart.2.symm) <;>
      · unfold startKey
        decide
  obtain ⟨ended, current⟩ := runOp_ended_kept CHG_SET_I_SET (by decide) cmd op (kept _ (by decide))
  exact ⟨ended, current, (runOp_ended_kept CHG_SET_V_LIM (by decide) cmd op (kept _ (by decide))).2⟩

/-- CHARGE_SP in range writes both setpoints. -/
theorem chargeSp_ends (cmd : s.hostCmd r q 0x15 a) (fits : argNum a 2 2 ≤ 9200) :
    let u := runOp s r q 0x15 opChargeSp
    u.ended r q s.mtime .OK none ∧ u.fld CHG_SET_I_SET = argNum a 0 2 ∧ u.fld CHG_SET_V_LIM = argNum a 2 2 := by
  obtain ⟨low, high⟩ := bitsOf_halves a
  have op : opChargeSp (taken s r q) a =
      (chgDerate (((taken s r q).put CHG_SET_I_SET (argNum a 0 2)).put CHG_SET_V_LIM (argNum a 2 2)), .done .OK none) := by
    rw [opChargeSp_eq up, chgRegWrite_set, high, low, if_neg (by omega)]
    rfl
  have written : Spares startKey (taken s r q) (((taken s r q).put CHG_SET_I_SET (argNum a 0 2)).put CHG_SET_V_LIM (argNum a 2 2)) := by
    refine ((Spares.refl _).put ?_).put ?_ <;>
      · unfold startKey
        decide
  generalize noted : ((taken s r q).put CHG_SET_I_SET (argNum a 0 2)).put CHG_SET_V_LIM (argNum a 2 2) = t at op written
  have derated : Spares offChgStatus t (chgDerate t) := (Spares.refl t).chgDerate
  obtain ⟨ended, only⟩ := runOp_ended cmd op (written.trans (derated.mono fun _ => startKey_offChgStatus))
  have field (x : Fld) (low : x.key < 0x60050030 * 32) := (only.fld x (by omega)).trans (derated.fld x (.inl low))
  refine ⟨ended, (field _ (by decide)).trans ?_, (field _ (by decide)).trans ?_⟩
  · rw [← noted, State.fld_put_other _ _ _ _ (by decide), State.fld_put_same]
    exact Nat.mod_eq_of_lt (argNum_lt a 0 2)
  · rw [← noted, State.fld_put_same]
    exact Nat.mod_eq_of_lt (argNum_lt a 2 2)

/-- EXPORT_SP writes both setpoints. -/
theorem exportSp_ends (cmd : s.hostCmd r q 0x16 a) :
    let u := runOp s r q 0x16 opExportSp
    u.ended r q s.mtime .OK none ∧ u.fld CHG_EXP_EXP_V = argNum a 0 2 ∧ u.fld CHG_EXP_EXP_I = argNum a 2 2 := by
  obtain ⟨low, high⟩ := bitsOf_halves a
  obtain ⟨t, write, kept⟩ := exportWrite_shows (taken s r q) (argNum a 0 4)
  rw [low, high] at kept
  obtain ⟨written, volts, amps⟩ := exportWritten_fields (taken s r q) (argNum_lt a 0 2) (argNum_lt a 2 2)
  have op : opExportSp (taken s r q) a = (t, .done .OK none) := by
    unfold opExportSp
    rw [hostReg_chg up (by decide) (by decide) (by decide), exportRegWrite, write]
    rfl
  obtain ⟨ended, only⟩ := runOp_ended cmd op (written.trans (kept.mono fun _ => startKey_offChgStatus))
  have field (x : Fld) (high : 0x60050060 * 32 ≤ x.key) (low : x.key < 0x60078000 * 32) := (only.fld x low).trans (kept.fld x (.inr high))
  exact ⟨ended, (field _ (by decide) (by decide)).trans volts, (field _ (by decide) (by decide)).trans amps⟩

/-- ACCESSORY_SP writes ACC_V and keeps the ramp. -/
theorem accessorySp_ends (cmd : s.hostCmd r q 0x17 a) (least : 1 ≤ s.fld CHG_BST_ACC_RAMP) (most : s.fld CHG_BST_ACC_RAMP ≤ 100) :
    let u := runOp s r q 0x17 opAccessorySp
    u.ended r q s.mtime .OK none ∧ u.fld CHG_BST_ACC_V = argNum a 0 2 % 2 ^ 14 ∧ u.fld CHG_BST_ACC_RAMP = s.fld CHG_BST_ACC_RAMP := by
  have ramp := (taken_hostOnly s r q).fld CHG_BST_ACC_RAMP (by decide)
  obtain ⟨d, masked, volts, same⟩ := maskedValue_chgAcc (taken s r q) (argNum a 0 2)
  obtain ⟨v, write⟩ := chgRegWrite_acc same (ramp ▸ least) (ramp ▸ most)
  have op : opAccessorySp (taken s r q) a = (chgSlots ((accWritten (taken s r q) d).setChg v), .done .OK none) := by
    unfold opAccessorySp
    rw [masked, hostReg_chg up (by decide) (by decide) (by decide), write]
    rfl
  obtain ⟨written, value, kept⟩ := accWritten_fields same
  have slots {K : Nat → Prop} : Spares K (accWritten (taken s r q) d) (chgSlots ((accWritten (taken s r q) d).setChg v)) :=
    (Spares.refl _).setChg.chgSlots
  obtain ⟨ended, only⟩ := runOp_ended cmd op (written.trans slots)
  have field (x : Fld) (low : x.key < 0x60078000 * 32) := (only.fld x low).trans ((slots (K := fun _ => True)).fld x trivial)
  exact ⟨ended, (field _ (by decide)).trans (value.trans volts), (field _ (by decide)).trans (kept.trans ramp)⟩

end

/-! ### GROUP_RUN and TRIP_CLEAR (R73, R74, R101) -/

/-! #### What a start and a clear look at does not hang on the host's records -/

theorem Tbl.get_set_key {α : Type} [DecidableEq α] (d d' : α) (t : Tbl α) (k : Nat) (v : α) :
    Tbl.get d' (Tbl.set d t k v) k = if v = d then d' else v := by
  unfold Tbl.set
  split
  · exact Tbl.get_erase_same d' k t
  · exact Tbl.get_insert_same d' k v t

section
variable {s t : State}

theorem HostOnly.put (h : HostOnly s t) (f : Fld) (v : Nat) : HostOnly (s.put f v) (t.put f v) := by
  refine ⟨fun g low => ?_, congrArg (fun u => { u with regs := (s.put f v).regs }) h.rest⟩
  by_cases same : g.key = f.key
  · simp only [State.fld, State.put, same, Tbl.get_set_key]
  · rw [State.fld_put_other _ _ _ _ same, State.fld_put_other _ _ _ _ same, h.fld g low]

theorem HostOnly.putAll (h : HostOnly s t) (l : List (Fld × Nat)) : HostOnly (s.putAll l) (t.putAll l) := by
  induction l generalizing s t with
  | nil => exact h
  | cons e l ih => exact ih (h.put e.1 e.2)

/-- The registers of a group lie low. -/
theorem HostOnly.running (h : HostOnly s t) {g : Nat} (small : g < 16) : t.running g = s.running g :=
  congrArg (fun v => decide (v = 1)) (h.fld _ (by simp only [Fld.key, PWM_GRP_STAT_STATE]; omega))

theorem HostOnly.members (h : HostOnly s t) (g : Nat) : t.members g = s.members g :=
  State.members_congr (h.part fun _ _ _ _ _ => rfl) (fun n small => h.fld _ (by simp only [Fld.key, PWM_LEG_CFG_GROUP]; omega)) g

theorem HostOnly.legOf (h : HostOnly s t) (n : Nat) : t.legOf n = s.legOf n := h.part (p := fun s => s.legOf n) fun _ _ _ _ _ => rfl

theorem HostOnly.startStatus (h : HostOnly s t) {g : Nat} (small : g < 12) : startStatus t g = startStatus s g := by
  have stopped : t.stopped g = s.stopped g :=
    congrArg (fun v => decide (v = 0)) (h.fld _ (by simp only [Fld.key, PWM_GRP_STAT_STATE]; omega))
  have valid : t.flag (PWM_GRP_STAT_VALID_SET g) = s.flag (PWM_GRP_STAT_VALID_SET g) :=
    h.flag (by simp only [Fld.key, PWM_GRP_STAT_VALID_SET]; omega)
  have follows : t.follows g = s.follows g := h.flag (by simp only [Fld.key, PWM_GRP_SYNC_EN]; omega)
  have master : t.masterOf g = s.masterOf g := h.fld _ (by simp only [Fld.key, PWM_GRP_SYNC_MASTER]; omega)
  have runs : t.running (s.masterOf g) = s.running (s.masterOf g) := h.running (State.fld_lt s (PWM_GRP_SYNC_MASTER g))
  have failed : t.groupFailed g = s.groupFailed g := by simp only [State.groupFailed, h.members, h.legOf]
  have t0 : t.t0Of g = s.t0Of g := by
    rw [State.t0Of, State.t0Of, h.fld (PWM_GRP_T0_HI g) (by simp only [Fld.key, PWM_GRP_T0_HI]; omega),
      h.fld (PWM_GRP_T0_LO g) (by simp only [Fld.key, PWM_GRP_T0_LO]; omega)]
  simp only [startStatus_eq, stopped, valid, follows, master, runs, failed, t0, h.mtime]

theorem State.member_lt {s : State} {g n : Nat} (mem : n ∈ s.members g) : n < 36 := List.mem_range.1 (List.mem_filter.1 mem).1

theorem linksOfLeg_lt {n l : Nat} (h : n < 36) (mem : l ∈ linksOfLeg n) : l < 60 := by
  unfold linksOfLeg at mem
  split at mem <;> simp at mem <;> omega

theorem enabledSources_lt {s : State} {g x : Nat} (h : x ∈ enabledSources s g) : x < 108 := by
  have bits {k n y : Nat} (mem : y ∈ bitsSet k n) : y < k := List.mem_range.1 (List.mem_filter.1 mem).1
  simp only [enabledSources, List.mem_append, List.mem_map] at h
  obtain (pin | ⟨y, cmp, rfl⟩) | leg := h
  · have := bits pin
    omega
  · have := bits cmp
    omega
  · split at leg
    · obtain ⟨l, link, rfl⟩ := List.mem_map.1 leg
      obtain ⟨n, member, link⟩ := List.mem_flatMap.1 link
      have := linksOfLeg_lt (State.member_lt member) link
      omega
    · cases leg

theorem HostOnly.activeSources (h : HostOnly s t) {g : Nat} (small : g < 12) : activeSources t g = activeSources s g := by
  have pins := h.fld (PWM_GRP_TMASK_P_PINS g) (by simp only [Fld.key, PWM_GRP_TMASK_P_PINS]; omega)
  have cmps := h.fld (PWM_GRP_TMASK_C_CMPS g) (by simp only [Fld.key, PWM_GRP_TMASK_C_CMPS]; omega)
  have legs := h.flag (f := PWM_GRP_TMASK_P_LEGFLT g) (by simp only [Fld.key, PWM_GRP_TMASK_P_LEGFLT]; omega)
  have enabled : enabledSources t g = enabledSources s g := by simp only [enabledSources, pins, cmps, legs, State.groupLinks, h.members]
  unfold Machine.activeSources
  rw [enabled]
  refine List.filter_congr fun x mem => h.flag ?_
  have small := enabledSources_lt mem
  simp only [Fld.key, PWM_TRIP_FILT_FILT]
  omega

end

/-! #### What the begin of a group writes -/

/-- Keys outside the registers of the legs. -/
def offLegs (k : Nat) : Prop := k < 0x60001000 * 32 ∨ 0x60002000 * 32 ≤ k

section
variable {K : Nat → Prop} {r s : State}

theorem Spares.frames {t : State} (h : Spares K r s) (f : FramesOnly s t) : Spares K r t := h.of_regs f.regs f.mtime

theorem Spares.sendDtset {l : Nat} {up : Bool} {v : Nat} (h : Spares K r s) : Spares K r (s.sendDtset l up v) := h.of_regs rfl rfl

theorem Spares.initDeadTimes {n : Nat} (h : Spares offLegs r s) (leg : n < 36) : Spares offLegs r (initDeadTimes s n) := by
  have shown : Spares offLegs r (s.putAll [(PWM_LEG_DTLH_ACT_DT n, s.fld (PWM_LEG_DTCFG_DT_INIT n)),
      (PWM_LEG_DTHL_ACT_DT n, s.fld (PWM_LEG_DTCFG_DT_INIT n)), (PWM_LEG_DTLH_ACT_HOLDING n, 0), (PWM_LEG_DTHL_ACT_HOLDING n, 0)]) := by
    refine h.putAll ?_
    simp only [List.forall_mem_cons, List.not_mem_nil, IsEmpty.forall_iff, implies_true, and_true, offLegs, Fld.key,
      PWM_LEG_DTLH_ACT_DT, PWM_LEG_DTHL_ACT_DT, PWM_LEG_DTLH_ACT_HOLDING, PWM_LEG_DTHL_ACT_HOLDING]
    omega
  exact (shown.when fun t ht => ht.sendDtset.sendDtset).setLeg

theorem Spares.clearForce {n : Nat} (h : Spares offLegs r s) (leg : n < 36) : Spares offLegs r (clearForce s n) := by
  unfold Machine.clearForce
  extract_lets taps hs ls off
  have frames : FramesOnly s off := by
    show FramesOnly s (if _ then _ else _)
    split
    · exact ((FramesOnly.refl s).when fun t => .sendEdge t _ _ _).when fun t => .sendEdge t _ _ _
    · exact (FramesOnly.refl s).when fun t => .sendTransition t _ _ _
  refine (h.frames frames).putAll ?_
  simp only [List.forall_mem_cons, List.not_mem_nil, IsEmpty.forall_iff, implies_true, and_true, offLegs, Fld.key,
    PWM_LEG_FORCE_HS, PWM_LEG_FORCE_LS]
  omega

end

/-- The register fields that tell that a group has begun. -/
def groupBegun (s : State) (g : Nat) : State :=
  s.putAll [(PWM_GRP_STAT_STATE g, 1), (PWM_GRP_STAT_FREE g, 0), (PWM_GRP_STAT_HELD g, 0), (PWM_GRP_STAT_TRIP_NOW g, 0)]

theorem beginGroup_spares (s : State) (g t0 base : Nat) : Spares offLegs (groupBegun s g) (beginGroup s g t0 base) := by
  unfold beginGroup
  extract_lets h noted shown armed floats
  have shownKept : Spares offLegs (groupBegun s g) shown := (Spares.refl _).of_regs rfl rfl
  have armedKept : Spares offLegs shown armed :=
    (Spares.refl shown).each fun t n mem => ((Spares.refl t).initDeadTimes (State.member_lt mem)).clearForce (State.member_lt mem)
  have floatsKept : Spares offLegs armed floats :=
    .ite (.refl armed) ((Spares.refl armed).each fun t n _ => (Spares.refl t).setLeg)
  exact ((shownKept.trans armedKept).trans floatsKept).each fun t l _ => (Spares.refl t).frames (.sendResume t l)

/-- Keys that no start writes: neither the STAT register of a group nor a register of a leg. -/
def offGroupStat (k : Nat) : Prop := offLegs k ∧ ∀ g < 12, ∀ lo < 32, k ≠ (0x6000001C + 0x100 * g) * 32 + lo

theorem startKey_offGroupStat {k : Nat} (h : startKey k) : offGroupStat k := by
  unfold startKey at h
  refine ⟨?_, fun g hg lo hlo => ?_⟩
  · unfold offLegs
    omega
  · omega

section
variable {K : Nat → Prop} {r s : State}

theorem groupBegun_spares {g : Nat} (group : g < 12) (h : Spares offGroupStat r s) : Spares offGroupStat r (groupBegun s g) := by
  refine h.putAll ?_
  simp only [List.forall_mem_cons, List.not_mem_nil, IsEmpty.forall_iff, implies_true, and_true]
  exact ⟨fun off => off.2 g group 0 (by decide) rfl, fun off => off.2 g group 8 (by decide) rfl,
    fun off => off.2 g group 9 (by decide) rfl, fun off => off.2 g group 3 (by decide) rfl⟩

theorem Spares.beginGroup {g t0 base : Nat} (h : Spares offGroupStat r s) (group : g < 12) :
    Spares offGroupStat r (beginGroup s g t0 base) :=
  (groupBegun_spares group h).trans ((beginGroup_spares s g t0 base).mono fun _ off => off.1)

theorem stateKey_offLegs {g : Nat} (group : g < 12) : offLegs (PWM_GRP_STAT_STATE g).key := by
  simp only [offLegs, Fld.key, PWM_GRP_STAT_STATE]
  omega

theorem beginGroup_running (s : State) {g : Nat} (group : g < 12) (t0 base : Nat) : (beginGroup s g t0 base).running g = true := by
  have apart : (PWM_GRP_STAT_STATE g).key ≠ (PWM_GRP_STAT_FREE g).key ∧ (PWM_GRP_STAT_STATE g).key ≠ (PWM_GRP_STAT_HELD g).key ∧
      (PWM_GRP_STAT_STATE g).key ≠ (PWM_GRP_STAT_TRIP_NOW g).key := by
    simp only [Fld.key, PWM_GRP_STAT_STATE, PWM_GRP_STAT_FREE, PWM_GRP_STAT_HELD, PWM_GRP_STAT_TRIP_NOW]
    omega
  have begun : (groupBegun s g).fld (PWM_GRP_STAT_STATE g) = 1 :=
    (State.fld_put_other _ _ _ _ apart.2.2).trans ((State.fld_put_other _ _ _ _ apart.2.1).trans
      ((State.fld_put_other _ _ _ _ apart.1).trans (State.fld_put_same s _ 1)))
  exact decide_eq_true (((beginGroup_spares s g t0 base).fld _ (stateKey_offLegs group)).trans begun)

/-- The begin of a group stops no other. -/
theorem beginGroup_keeps_running {f g : Nat} (follower : f < 12) (group : g < 12) (t0 base : Nat) (runs : s.running g = true) :
    (beginGroup s f t0 base).running g = true := by
  by_cases same : f = g
  · exact same ▸ beginGroup_running s follower t0 base
  · have begun : Spares (· = (PWM_GRP_STAT_STATE g).key) s (groupBegun s f) := by
      refine (Spares.refl s).putAll ?_
      simp only [List.forall_mem_cons, List.not_mem_nil, IsEmpty.forall_iff, implies_true, and_true, Fld.key, PWM_GRP_STAT_STATE,
        PWM_GRP_STAT_FREE, PWM_GRP_STAT_HELD, PWM_GRP_STAT_TRIP_NOW]
      omega
    have state := ((beginGroup_spares s f t0 base).fld _ (stateKey_offLegs group)).trans (begun.fld _ rfl)
    exact (congrArg (fun v => decide (v = 1)) state).trans runs

theorem State.follower_lt {s : State} {g f : Nat} (mem : f ∈ s.followersOf g) : f < 12 := List.mem_range.1 (List.mem_filter.1 mem).1

theorem followerOffset_spares (h : Spares offGroupStat r s) {f : Nat} (follower : f < 12) (p : Nat) :
    Spares offGroupStat r (followerOffset s f p).1 := by
  unfold followerOffset
  extract_lets o
  split
  · exact h.put fun off => off.2 f follower 5 (by decide) rfl
  · exact h

theorem followerOffset_running {f g : Nat} (p : Nat) (runs : s.running g = true) : (followerOffset s f p).1.running g = true := by
  unfold followerOffset
  extract_lets o
  split
  · have apart : (PWM_GRP_STAT_STATE g).key ≠ (PWM_GRP_STAT_CMP_CLAMP f).key := by
      simp only [Fld.key, PWM_GRP_STAT_STATE, PWM_GRP_STAT_CMP_CLAMP]
      omega
    exact (congrArg (fun v => decide (v = 1)) (State.fld_put_other s _ _ _ apart)).trans runs
  · exact runs

/-- What every turn of a loop keeps holds after it. -/
theorem State.each_invariant {α : Type} {P : State → Prop} {f : State → α → State} {l : List α}
    (turn : ∀ t, ∀ a ∈ l, P t → P (f t a)) (s : State) (h : P s) : P (s.each l f) := by
  induction l generalizing s with
  | nil => exact h
  | cons a l ih => exact ih (fun t b mem => turn t b (.tail a mem)) (f s a) (turn s a (.head l) h)

/-- The release of held followers writes STAT registers of groups and registers of legs, and stops no group. -/
theorem releaseFollowers_spares (k : Nat) (s : State) (g t0 : Nat) : Spares offGroupStat s (releaseFollowers k s g t0) := by
  induction k generalizing s g t0 with
  | zero => exact .refl s
  | succ k ih =>
    refine (Spares.refl s).each fun t f mem => ?_
    have follower := State.follower_lt (List.mem_filter.1 mem).1
    exact ((followerOffset_spares (.refl t) follower _).beginGroup follower).trans (ih _ _ _)

theorem releaseFollowers_running (k : Nat) {f : Nat} (group : f < 12) (s : State) (g t0 : Nat) (runs : s.running f = true) :
    (releaseFollowers k s g t0).running f = true := by
  induction k generalizing s g t0 with
  | zero => exact runs
  | succ k ih =>
    refine State.each_invariant (P := fun t => t.running f = true) (fun t h mem runs => ?_) s runs
    have follower := State.follower_lt (List.mem_filter.1 mem).1
    exact ih _ _ _ (beginGroup_keeps_running follower group _ _ (followerOffset_running _ runs))

end

/-! #### Commands after which no other block has anything to do -/

theorem watchedKey_low {k : Nat} (h : watchedKey k = true) : k < 0x60078000 * 32 := by
  simp only [watchedKey, Bool.or_eq_true, Bool.and_eq_true, decide_eq_true_eq] at h
  omega

theorem HostOnly.watch {s t : State} (h : HostOnly s t) (stops : stopsWait t = stopsWait s) : SameWatch s t where
  grp _ small := (h.fld _ (watchedKey_low (watchedKey_grp small))).symm
  mode := (h.fld _ (by decide)).symm
  changing := (h.fld _ (by decide)).symm
  legs _ small := (h.fld _ (watchedKey_low (watchedKey_leg small))).symm
  gs _ small := (h.fld _ (watchedKey_low (watchedKey_gs small))).symm
  hs _ small := (h.fld _ (watchedKey_low (watchedKey_hs small))).symm
  ls _ small := (h.fld _ (watchedKey_low (watchedKey_ls small))).symm
  starts := (h.part (p := called) fun _ _ _ _ _ => rfl).symm
  stops := stops.symm

theorem result_stopsWait (s : State) (c : CmdRef) (st : Status) (res : Option Nat) : stopsWait (result s c st res) = stopsWait s := by
  unfold result
  split <;> rfl

section
variable {s t : State} {r q o : Nat} {a : List Byte} {f : HostOp} {st : Status} {w : WaitOn}

/-- A command that ends at once, after an operation that no other block looks at, is the whole step. -/
theorem settle_runOp_ended (quiet : s.quiet = true) (cmd : s.hostCmd r q o a) (op : f (taken s r q) a = (t, .done st none))
    (same : SameWatch (taken s r q) t) : settle s (runOp s r q o f) = runOp s r q o f := by
  have run : runOp s r q o f = result t ⟨r, q⟩ st none := by rw [runOp_closed f cmd, op, closed]
  have ends := (result_hostOnly t ⟨r, q⟩ st none).watch (result_stopsWait _ _ _ _)
  exact settle_quiet quiet (run ▸ (((taken_hostOnly s r q).watch rfl).trans same).trans ends)

/-- The same of a command that waits, but for an actuator STOP. -/
theorem settle_runOp_awaits (quiet : s.quiet = true) (cmd : s.hostCmd r q o a) (op : f (taken s r q) a = (t, .await w))
    (same : SameWatch (taken s r q) t) (other : ∀ m, w ≠ .actIdle m) : settle s (runOp s r q o f) = runOp s r q o f := by
  have run : runOp s r q o f = t.await w ⟨r, q⟩ := by rw [runOp_closed f cmd, op, closed]
  have noted : stopsWait (t.await w ⟨r, q⟩) = stopsWait t := by
    unfold stopsWait State.await
    rw [List.any_append]
    cases w <;> simp_all
  exact settle_quiet quiet (run ▸ (((taken_hostOnly s r q).watch rfl).trans same).trans ((await_hostOnly t w ⟨r, q⟩).watch noted))

end

/-! #### GROUP_RUN -/

theorem t0Keys (g : Fin 12) : offGroupStat (PWM_GRP_T0_HI g).key ∧ offGroupStat (PWM_GRP_T0_LO g).key := by
  simp only [offGroupStat, offLegs, Fld.key, PWM_GRP_T0_LO, PWM_GRP_T0_HI]
  exact ⟨⟨.inl (by omega), fun f _ lo _ => by omega⟩, ⟨.inl (by omega), fun f _ lo _ => by omega⟩⟩

/-- The state in which a GROUP_RUN START makes its checks: T0 is written. -/
def t0Written (s : State) (g : Nat) (a : List Byte) : State := s.putAll [(PWM_GRP_T0_LO g, argNum a 8 4), (PWM_GRP_T0_HI g, argNum a 12 4)]

theorem opGroupRun_start {s : State} {g : Nat} {a : List Byte} (group : argNum a 0 1 = g) (start : argNum a 1 1 = 1) :
    opGroupRun s a = if (groupStart (t0Written s g a) g).2 = .OK then atOnce (groupStart (t0Written s g a) g)
      else atOnce (s, (groupStart (t0Written s g a) g).2) := by
  unfold opGroupRun
  rw [group, start]
  rfl

theorem opGroupRun_stop {s : State} {g : Nat} {a : List Byte} (group : argNum a 0 1 = g) (stop : argNum a 1 1 = 2) :
    opGroupRun s a = if s.running g then (groupStop s g, .await (.groupStop g)) else atOnce (groupStop s g, .OK) := by
  unfold opGroupRun
  rw [group, stop]
  rfl

theorem t0Written_t0Of (s : State) (g : Nat) (a : List Byte) : (t0Written s g a).t0Of g = argNum a 12 4 * 2 ^ 32 + argNum a 8 4 := by
  have apart : (PWM_GRP_T0_LO g).key ≠ (PWM_GRP_T0_HI g).key := by
    simp only [Fld.key, PWM_GRP_T0_LO, PWM_GRP_T0_HI]
    omega
  have high : (t0Written s g a).fld (PWM_GRP_T0_HI g) = argNum a 12 4 :=
    (State.fld_put_same (s.put (PWM_GRP_T0_LO g) _) _ _).trans (Nat.mod_eq_of_lt (argNum_lt a 12 4))
  have low : (t0Written s g a).fld (PWM_GRP_T0_LO g) = argNum a 8 4 :=
    (State.fld_put_other _ _ _ _ apart).trans ((State.fld_put_same s _ _).trans (Nat.mod_eq_of_lt (argNum_lt a 8 4)))
  rw [State.t0Of, high, low]

section
variable {s : State} {r q : Nat} {g : Fin 12} {a : List Byte} (group : argNum a 0 1 = g)
include group

/-- A START that is refused ends with the reason and leaves T0. -/
theorem groupRun_refused (quiet : s.quiet = true) (cmd : s.hostCmd r q 0x20 a) (start : argNum a 1 1 = 1)
    (refused : startStatus (t0Written s g a) g ≠ .OK) :
    let u := runOp s r q 0x20 opGroupRun
    settle s u = u ∧ u.t0Of g = s.t0Of g ∧ u.fld (PWM_GRP_STAT_STATE g) = s.fld (PWM_GRP_STAT_STATE g) ∧
      u.ended r q s.mtime (startStatus (t0Written s g a) g) none := by
  have checks : startStatus (t0Written (taken s r q) g a) g = startStatus (t0Written s g a) g :=
    ((taken_hostOnly s r q).putAll _).startStatus g.isLt
  have op : opGroupRun (taken s r q) a = (taken s r q, .done (startStatus (t0Written s g a) g) none) := by
    rw [opGroupRun_start group start, groupStart_refused checks refused, if_neg refused]
    rfl
  obtain ⟨ended, only⟩ := runOp_ended cmd op (.refl _)
  have field (x : Fld) (low : x.key < 0x60078000 * 32) := (only.fld x low).trans ((taken_hostOnly s r q).fld x low)
  refine ⟨settle_runOp_ended quiet cmd op (.refl _), ?_, field _ ?_, ended⟩
  · rw [State.t0Of, State.t0Of, field (PWM_GRP_T0_HI g), field (PWM_GRP_T0_LO g)] <;>
      · simp only [Fld.key, PWM_GRP_T0_LO, PWM_GRP_T0_HI]
        omega
  · simp only [Fld.key, PWM_GRP_STAT_STATE]
    omega

/-- A START that is accepted writes T0 and begins the group. -/
theorem groupRun_started (cmd : s.hostCmd r q 0x20 a) (start : argNum a 1 1 = 1) (master : s.follows g = false)
    (accepted : startStatus (t0Written s g a) g = .OK) :
    let u := runOp s r q 0x20 opGroupRun
    u.ended r q s.mtime .OK none ∧ u.t0Of g = argNum a 12 4 * 2 ^ 32 + argNum a 8 4 ∧ u.stopped g = false := by
  have took := taken_hostOnly s r q
  have noted := took.putAll [(PWM_GRP_T0_LO g, argNum a 8 4), (PWM_GRP_T0_HI g, argNum a 12 4)]
  have checks : startStatus (t0Written (taken s r q) g a) g = .OK := (noted.startStatus g.isLt).trans accepted
  have free : (t0Written (taken s r q) g a).follows g = false := by
    have kept : Spares (· = (PWM_GRP_SYNC_EN g).key) (taken s r q) (t0Written (taken s r q) g a) := by
      refine (Spares.refl _).putAll ?_
      simp only [List.forall_mem_cons, List.not_mem_nil, IsEmpty.forall_iff, implies_true, and_true, Fld.key, PWM_GRP_SYNC_EN,
        PWM_GRP_T0_LO, PWM_GRP_T0_HI]
      omega
    exact (kept.flag rfl).trans ((took.flag (by simp only [Fld.key, PWM_GRP_SYNC_EN]; omega)).trans master)
  have written : Spares startKey (taken s r q) (t0Written (taken s r q) g a) := by
    refine (Spares.refl _).putAll ?_
    simp only [List.forall_mem_cons, List.not_mem_nil, IsEmpty.forall_iff, implies_true, and_true, startKey, Fld.key,
      PWM_GRP_T0_LO, PWM_GRP_T0_HI]
    omega
  have value := t0Written_t0Of (taken s r q) g a
  have op : opGroupRun (taken s r q) a = atOnce (groupStart (t0Written (taken s r q) g a) g) := by
    rw [opGroupRun_start group start, groupStart_begins checks free, if_pos rfl]
  generalize t0Written (taken s r q) g a = w at checks free written value op
  rw [groupStart_begins checks free] at op
  have begun := Spares.beginGroup (t0 := w.t0Of g) (base := 0) (Spares.refl w) g.isLt
  have kept := begun.trans (releaseFollowers_spares 12 _ g (w.t0Of g))
  have runs := releaseFollowers_running 12 g.isLt _ g (w.t0Of g) (beginGroup_running w g.isLt (w.t0Of g) 0)
  generalize releaseFollowers 12 (beginGroup w g (w.t0Of g) 0) g (w.t0Of g) = z at op kept runs
  obtain ⟨ended, only⟩ := runOp_ended (t := z) cmd op (written.trans (kept.mono fun _ => startKey_offGroupStat))
  refine ⟨ended, ?_, ?_⟩
  · rw [← value, State.t0Of, State.t0Of, ← kept.fld _ (t0Keys g).1, ← kept.fld _ (t0Keys g).2,
      only.fld (PWM_GRP_T0_HI g), only.fld (PWM_GRP_T0_LO g)] <;>
      · simp only [Fld.key, PWM_GRP_T0_LO, PWM_GRP_T0_HI]
        omega
  · have state := (only.running (g := g) (by omega)).trans runs
    simp only [State.running, State.stopped, decide_eq_true_eq, decide_eq_false_iff_not] at state ⊢
    omega

/-- STOP of a running group waits for its reload. -/
theorem groupRun_stops (quiet : s.quiet = true) (cmd : s.hostCmd r q 0x20 a) (stop : argNum a 1 1 = 2) (runs : s.running g = true) :
    let u := runOp s r q 0x20 opGroupRun
    settle s u = u ∧ (u.grpOf g).stopPending = true ∧ u.running g = true ∧ u.awaits (.groupStop g) r q := by
  have still : (taken s r q).running g = true := ((taken_hostOnly s r q).running (by omega)).trans runs
  have op : opGroupRun (taken s r q) a =
      ((taken s r q).setGrp g { (taken s r q).grpOf g with stopPending := true }, .await (.groupStop g)) := by
    rw [opGroupRun_stop group stop, if_pos still, groupStop_running still]
  obtain ⟨awaits, only⟩ := runOp_awaits cmd op
  refine ⟨settle_runOp_awaits quiet cmd op (.of_regs rfl rfl rfl) (fun _ => by simp), ?_, ?_, awaits⟩
  · have grp := only.part (p := fun s => s.grpOf g) fun _ _ _ _ _ => rfl
    rw [grp, State.grpOf_setGrp_same]
  · exact (only.running (by omega)).trans still

/-- STOP of any other group cancels a held START and ends. -/
theorem groupRun_stopped (quiet : s.quiet = true) (cmd : s.hostCmd r q 0x20 a) (stop : argNum a 1 1 = 2) (idle : s.running g = false) :
    let u := runOp s r q 0x20 opGroupRun
    settle s u = u ∧ u.ended r q s.mtime .OK none ∧ u.fld (PWM_GRP_STAT_HELD g) = 0 ∧
      u.fld (PWM_GRP_STAT_STATE g) = s.fld (PWM_GRP_STAT_STATE g) := by
  have still : (taken s r q).running g = false := ((taken_hostOnly s r q).running (by omega)).trans idle
  have op : opGroupRun (taken s r q) a = ((taken s r q).put (PWM_GRP_STAT_HELD g) 0, .done .OK none) := by
    rw [opGroupRun_stop group stop, if_neg (by simp [still]), groupStop_idle still]
    rfl
  have low : (PWM_GRP_STAT_HELD g).key < 0x60078000 * 32 ∧ (PWM_GRP_STAT_STATE g).key < 0x60078000 * 32 := by
    simp only [Fld.key, PWM_GRP_STAT_HELD, PWM_GRP_STAT_STATE]
    omega
  have free : ¬ startOr (PWM_GRP_STAT_STATE g).key (PWM_GRP_STAT_HELD g).key := by
    simp only [startOr, startKey, Fld.key, PWM_GRP_STAT_HELD, PWM_GRP_STAT_STATE]
    omega
  have kept := (Spares.refl (taken s r q)).put (v := 0) free
  obtain ⟨ended, state⟩ := runOp_ended_kept _ low.2 cmd op kept
  obtain ⟨-, only⟩ := runOp_ended cmd op (kept.mono fun _ => .inl)
  exact ⟨settle_runOp_ended quiet cmd op (SameWatch.put _ _ _ (heldKey_unwatched g)), ended,
    (only.fld _ low.1).trans (State.fld_put_same _ _ _), state⟩

end

/-! #### TRIP_CLEAR -/

theorem tripKeys (g : Fin 12) : ¬ startKey (PWM_GRP_TRIP_TRIP_EVT g).key ∧ ¬ startKey (PWM_GRP_TRIP_FIRST_SRC g).key ∧
    ¬ startKey (PWM_GRP_TRIP_FIRST_TIME g).key ∧ ¬ startKey (PWM_GRP_STAT_CLR_RESULT g).key ∧
    (PWM_GRP_TRIP_TRIP_EVT g).key < 0x60078000 * 32 ∧ (PWM_GRP_STAT_CLR_RESULT g).key < 0x60078000 * 32 := by
  simp only [startKey, Fld.key, PWM_GRP_TRIP_TRIP_EVT, PWM_GRP_TRIP_FIRST_SRC, PWM_GRP_TRIP_FIRST_TIME, PWM_GRP_STAT_CLR_RESULT]
  omega

theorem tripEvt_apart (g : Fin 12) : (PWM_GRP_TRIP_TRIP_EVT g).key ≠ (PWM_GRP_TRIP_FIRST_SRC g).key ∧
    (PWM_GRP_TRIP_TRIP_EVT g).key ≠ (PWM_GRP_TRIP_FIRST_TIME g).key ∧ (PWM_GRP_TRIP_TRIP_EVT g).key ≠ (PWM_GRP_STAT_CLR_RESULT g).key := by
  simp only [Fld.key, PWM_GRP_TRIP_TRIP_EVT, PWM_GRP_TRIP_FIRST_SRC, PWM_GRP_TRIP_FIRST_TIME, PWM_GRP_STAT_CLR_RESULT]
  omega

section
variable {s : State} {r q : Nat} {g : Fin 12} {a : List Byte} (cmd : s.hostCmd r q 0x21 a) (group : argNum a 0 1 = g)
include cmd group

/-- TRIP_CLEAR clears the record of a group without an active source. -/
theorem tripClearCmd_ends (inactive : activeSources s g = []) :
    let u := runOp s r q 0x21 opTripClear
    u.ended r q s.mtime .OK none ∧ u.fld (PWM_GRP_TRIP_TRIP_EVT g) = 0 ∧ u.fld (PWM_GRP_STAT_CLR_RESULT g) = 1 := by
  obtain ⟨evt, src, time, clr, lowEvt, lowClr⟩ := tripKeys g
  obtain ⟨apartSrc, apartTime, apartClr⟩ := tripEvt_apart g
  have same := ((taken_hostOnly s r q).activeSources g.isLt).trans inactive
  have op : opTripClear (taken s r q) a = (((((taken s r q).put (PWM_GRP_TRIP_TRIP_EVT g) 0).put (PWM_GRP_TRIP_FIRST_SRC g) 0).put
      (PWM_GRP_TRIP_FIRST_TIME g) 0).put (PWM_GRP_STAT_CLR_RESULT g) 1, .done .OK none) := by
    unfold opTripClear
    rw [group, tripClear_inactive same]
    rfl
  obtain ⟨ended, only⟩ := runOp_ended cmd op (((((Spares.refl _).put evt).put src).put time).put clr)
  refine ⟨ended, (only.fld _ lowEvt).trans ?_, (only.fld _ lowClr).trans (State.fld_put_same _ _ _)⟩
  rw [State.fld_put_other _ _ _ _ apartClr, State.fld_put_other _ _ _ _ apartTime, State.fld_put_other _ _ _ _ apartSrc]
  exact State.fld_put_same _ _ _

/-- TRIP_CLEAR of a group with an active source ends TRIP_ASSERTED. -/
theorem tripClearCmd_refused (active : activeSources s g ≠ []) :
    let u := runOp s r q 0x21 opTripClear
    u.ended r q s.mtime .TRIP_ASSERTED none ∧ u.fld (PWM_GRP_TRIP_TRIP_EVT g) = s.fld (PWM_GRP_TRIP_TRIP_EVT g) ∧
      u.fld (PWM_GRP_STAT_CLR_RESULT g) = 2 := by
  obtain ⟨-, -, -, clr, lowEvt, lowClr⟩ := tripKeys g
  obtain ⟨-, -, apart⟩ := tripEvt_apart g
  have same : Machine.activeSources (taken s r q) g ≠ [] := ((taken_hostOnly s r q).activeSources g.isLt).symm ▸ active
  have op : opTripClear (taken s r q) a = ((taken s r q).put (PWM_GRP_STAT_CLR_RESULT g) 2, .done .TRIP_ASSERTED none) := by
    unfold opTripClear
    rw [group, tripClear_asserted same]
    rfl
  have kept := (Spares.refl (taken s r q)).put (v := 2) (not_startOr clr apart.symm)
  obtain ⟨ended, evt⟩ := runOp_ended_kept _ lowEvt cmd op kept
  obtain ⟨-, only⟩ := runOp_ended cmd op (kept.mono fun _ => .inl)
  exact ⟨ended, evt, (only.fld _ lowClr).trans (State.fld_put_same _ _ _)⟩

end

/-! ### ENGINE_CMD (R193, R208) -/

section
variable {s : State} {e : Nat}

theorem engineArm_busy (busy : s.fld (LE_STAT_STATE e) ≠ 0) : engineArm s e = (s.leRefuse e .LE_BUSY, .LE_BUSY) := if_pos (by simp [busy])

theorem engineArm_off (off : s.fld (LE_STAT_STATE e) = 0) (bank : (s.fld PWR_RET_LOST_LO_BANKS).testBit (24 + e / 4) = false) :
    engineArm s e = ((s.put (LE_STAT_STATE e) 1).put (LE_CYC_MAX e) 0, .OK) := if_neg (by simp [off, bank])

theorem engineDisarm_off (off : s.fld (LE_STAT_STATE e) = 0) : engineDisarm s e = s := by
  unfold engineDisarm
  rw [off]
  rfl

theorem engineDisarm_run (run : s.fld (LE_STAT_STATE e) = 3) : engineDisarm s e = s.setEng e { s.engOf e with disarm := true } := by
  unfold engineDisarm
  rw [run]
  rfl

theorem engineStop_off (off : s.fld (LE_STAT_STATE e) = 0) : engineStop s e = s := if_pos off

theorem engineStop_on (on : s.fld (LE_STAT_STATE e) ≠ 0) : engineStop s e = engineOff (abandonCheck s e) e := if_neg on

theorem engineSwap_off (off : s.fld (LE_STAT_STATE e) = 0) : engineSwap s e = s.put (LE_STAT_BANK e) (1 - s.fld (LE_STAT_BANK e)) := if_pos off

theorem engineSwap_on (on : s.fld (LE_STAT_STATE e) ≠ 0) : engineSwap s e = s.putFlag (LE_STAT_SWAP_PEND e) true := if_neg on

end

/-- Where the status fields of engine `e` stand: apart from those that tell whether commands run, from one another, and below the host block. -/
structure LeStatKeys (e : Nat) : Prop where
  state : ¬ startKey (LE_STAT_STATE e).key
  bank : ¬ startKey (LE_STAT_BANK e).key
  pend : ¬ startKey (LE_STAT_SWAP_PEND e).key
  escalated : ¬ startKey (LE_STAT_ESCALATED e).key
  orun : ¬ startKey (LE_STAT_ORUN_SEQ e).key
  bank_state : (LE_STAT_BANK e).key ≠ (LE_STAT_STATE e).key
  pend_state : (LE_STAT_SWAP_PEND e).key ≠ (LE_STAT_STATE e).key
  state_escalated : (LE_STAT_STATE e).key ≠ (LE_STAT_ESCALATED e).key
  state_orun : (LE_STAT_STATE e).key ≠ (LE_STAT_ORUN_SEQ e).key
  state_cycles : (LE_STAT_STATE e).key ≠ (LE_CYC_MAX e).key
  pend_bank : (LE_STAT_SWAP_PEND e).key ≠ (LE_STAT_BANK e).key
  lowState : (LE_STAT_STATE e).key < 0x60078000 * 32
  lowBank : (LE_STAT_BANK e).key < 0x60078000 * 32
  lowPend : (LE_STAT_SWAP_PEND e).key < 0x60078000 * 32

theorem leStatKeys (e : Fin 32) : LeStatKeys e := by
  constructor <;>
    · simp only [startKey, Fld.key, LE_STAT_STATE, LE_STAT_BANK, LE_STAT_SWAP_PEND, LE_STAT_ESCALATED, LE_STAT_ORUN_SEQ, LE_CYC_MAX]
      omega

section
variable {K : Nat → Prop} {r s : State}

theorem Spares.finish {w : WaitOn} {st : Status} (h : Spares K r s) : Spares K r (s.finish w st) := h.of_regs rfl rfl

theorem Spares.setEng {e : Nat} {v : Eng} (h : Spares K r s) : Spares K r (s.setEng e v) := h.of_regs rfl rfl

theorem Spares.abandonCheck {e : Nat} (h : Spares K r s) : Spares K r (abandonCheck s e) := .ite h.finish h

theorem Spares.takeSwap {e : Nat} (h : Spares K r s) (bank : ¬ K (LE_STAT_BANK e).key) (pend : ¬ K (LE_STAT_SWAP_PEND e).key) :
    Spares K r (takeSwap s e) := by
  refine .ite (Spares.finish (h.putAll ?_)) h
  simp only [List.forall_mem_cons, List.not_mem_nil, IsEmpty.forall_iff, implies_true, and_true]
  exact ⟨bank, pend⟩

end

/-- The status fields of an engine that goes OFF. -/
def offWritten (s : State) (e : Nat) : State := s.putAll [(LE_STAT_STATE e, 0), (LE_STAT_ESCALATED e, 0), (LE_STAT_ORUN_SEQ e, 0)]

/-- The groups of an engine that goes OFF become free. -/
def groupsFreed (s : State) (e : Nat) : State :=
  s.each (List.range 12) fun s g => if s.fld (LE_G_GRP_ENGINE g) = e then s.put (LE_G_GRP_ENGINE g) 63 else s

theorem engineOff_eq (s : State) (e : Nat) : ∃ v,
    engineOff s e = (takeSwap (groupsFreed ((offWritten s e).setEng e v) e) e).finish (.engineOff e) .OK := ⟨_, rfl⟩

theorem offWritten_state (s : State) (e : Fin 32) : Spares startKey s (offWritten s e) ∧ (offWritten s e).fld (LE_STAT_STATE e) = 0 := by
  have keys := leStatKeys e
  exact ⟨(((Spares.refl s).put keys.state).put keys.escalated).put keys.orun, (State.fld_put_other _ _ _ _ keys.state_orun).trans
    ((State.fld_put_other _ _ _ _ keys.state_escalated).trans (State.fld_put_same s _ 0))⟩

theorem Spares.groupsFreed {s : State} {e : Nat} : Spares (startOr (LE_STAT_STATE e).key) s (groupsFreed s e) := by
  refine Spares.each (.refl s) fun t g mem => .ite ((Spares.refl t).put ?_) (.refl t)
  have group := List.mem_range.1 mem
  simp only [startOr, startKey, Fld.key, LE_STAT_STATE, LE_G_GRP_ENGINE]
  omega

/-- An engine that goes OFF reads so, and no field that tells whether commands run is written. -/
theorem engineOff_state (s : State) (e : Fin 32) : Spares startKey s (engineOff s e) ∧ (engineOff s e).fld (LE_STAT_STATE e) = 0 := by
  have keys := leStatKeys e
  obtain ⟨shown, zero⟩ := offWritten_state s e
  obtain ⟨v, shape⟩ := engineOff_eq s e
  have freed : Spares (startOr (LE_STAT_STATE e).key) (offWritten s e) (Machine.groupsFreed ((offWritten s e).setEng e v) e) :=
    (Spares.refl _).setEng.trans .groupsFreed
  have rest := (freed.takeSwap (e := e) (not_startOr keys.bank keys.bank_state) (not_startOr keys.pend keys.pend_state)).finish (w := .engineOff e) (st := .OK)
  rw [shape]
  exact ⟨shown.trans (rest.mono fun _ => .inl), (rest.fld _ (.inr rfl)).trans zero⟩

section
variable {s : State} {r q : Nat} {e : Fin 32} {a : List Byte} (cmd : s.hostCmd r q 0x22 a) (engine : argNum a 0 1 = e)

theorem taken_leState (s : State) (r q : Nat) (e : Fin 32) : (taken s r q).fld (LE_STAT_STATE e) = s.fld (LE_STAT_STATE e) :=
  (taken_hostOnly s r q).fld _ (leStatKeys e).lowState

theorem opEngine_arm {s : State} {e : Nat} (engine : argNum a 0 1 = e) (arm : argNum a 1 1 = 1) :
    opEngine s a = orAwait (engineArm s e) (.engineArm e) := by
  unfold opEngine
  rw [engine, arm]
  rfl

theorem opEngine_off {s : State} {e k : Nat} (engine : argNum a 0 1 = e) (number : argNum a 1 1 = k) (stop : k = 2 ∨ k = 3) :
    opEngine s a = let t := if k = 2 then engineDisarm s e else engineStop s e
      if t.fld (LE_STAT_STATE e) = 0 then atOnce (t, .OK) else (t, .await (.engineOff e)) := by
  unfold opEngine
  rw [engine, number]
  rcases stop with rfl | rfl <;> rfl

theorem opEngine_swap {s : State} {e : Nat} (engine : argNum a 0 1 = e) (swap : argNum a 1 1 = 4) :
    opEngine s a = let t := engineSwap s e
      if t.flag (LE_STAT_SWAP_PEND e) then (t, .await (.engineSwap e)) else atOnce (t, .OK) := by
  unfold opEngine
  rw [engine, swap]
  rfl

include cmd engine

/-- ARM of an engine that is not OFF is refused. -/
theorem engineArm_refused (arm : argNum a 1 1 = 1) (busy : s.fld (LE_STAT_STATE e) ≠ 0) :
    let u := runOp s r q 0x22 opEngine
    u.ended r q s.mtime .LE_BUSY none ∧ u.fld (LE_STAT_STATE e) = s.fld (LE_STAT_STATE e) := by
  have still : (taken s r q).fld (LE_STAT_STATE e) ≠ 0 := taken_leState s r q e ▸ busy
  have op : opEngine (taken s r q) a = ((taken s r q).leRefuse e .LE_BUSY, .done .LE_BUSY none) := by
    rw [opEngine_arm engine arm, engineArm_busy still]
    rfl
  have free : ¬ startOr (LE_STAT_STATE e).key leErr.last.key ∧ ¬ startOr (LE_STAT_STATE e).key leErr.cnt.key ∧
      ¬ startOr (LE_STAT_STATE e).key LE_ERR_ENGINE.key := by
    simp only [startOr, startKey, Fld.key, LE_STAT_STATE, leErr, LE_ERR_LAST_ERR, LE_ERR_ERR_CNT, LE_ERR_ENGINE]
    omega
  exact runOp_ended_kept _ (leStatKeys e).lowState cmd op (((Spares.refl _).refuse free.1 free.2.1).put free.2.2)

/-- ARM of an engine in OFF starts the check and waits. -/
theorem engineArm_checks (arm : argNum a 1 1 = 1) (off : s.fld (LE_STAT_STATE e) = 0)
    (bank : (s.fld PWR_RET_LOST_LO_BANKS).testBit (24 + e.val / 4) = false) :
    let u := runOp s r q 0x22 opEngine
    u.fld (LE_STAT_STATE e) = 1 ∧ u.awaits (.engineArm e) r q := by
  have keys := leStatKeys e
  have lost := (taken_hostOnly s r q).fld PWR_RET_LOST_LO_BANKS (by decide)
  have op : opEngine (taken s r q) a = (((taken s r q).put (LE_STAT_STATE e) 1).put (LE_CYC_MAX e) 0, .await (.engineArm e)) := by
    rw [opEngine_arm engine arm, engineArm_off ((taken_leState s r q e).trans off) (lost ▸ bank)]
    rfl
  obtain ⟨awaits, only⟩ := runOp_awaits cmd op
  exact ⟨(only.fld _ keys.lowState).trans ((State.fld_put_other _ _ _ _ keys.state_cycles).trans (State.fld_put_same _ _ _)), awaits⟩

/-- DISARM and STOP of an engine in OFF end at once. -/
theorem engineOff_stays {k : Nat} (number : argNum a 1 1 = k) (stop : k = 2 ∨ k = 3) (off : s.fld (LE_STAT_STATE e) = 0) :
    let u := runOp s r q 0x22 opEngine
    u.ended r q s.mtime .OK none ∧ u.fld (LE_STAT_STATE e) = 0 ∧ u.eng = s.eng := by
  have still := (taken_leState s r q e).trans off
  have op : opEngine (taken s r q) a = (taken s r q, .done .OK none) := by
    rw [opEngine_off engine number stop, engineDisarm_off still, engineStop_off still, ite_self, if_pos still]
    rfl
  obtain ⟨ended, only⟩ := runOp_ended cmd op (.refl _)
  have eng : (runOp s r q 0x22 opEngine).eng = (taken s r q).eng := only.part fun _ _ _ _ _ => rfl
  exact ⟨ended, (only.fld _ (leStatKeys e).lowState).trans still, eng.trans ((taken_hostOnly s r q).part fun _ _ _ _ _ => rfl)⟩

/-- DISARM of an engine in RUN waits for the end of its pass. -/
theorem engineDisarm_waits (disarm : argNum a 1 1 = 2) (run : s.fld (LE_STAT_STATE e) = 3) :
    let u := runOp s r q 0x22 opEngine
    (u.engOf e).disarm = true ∧ u.fld (LE_STAT_STATE e) = 3 ∧ u.awaits (.engineOff e) r q := by
  have still := (taken_leState s r q e).trans run
  have op : opEngine (taken s r q) a =
      ((taken s r q).setEng e { (taken s r q).engOf e with disarm := true }, .await (.engineOff e)) := by
    rw [opEngine_off engine disarm (.inl rfl), if_pos rfl, engineDisarm_run still]
    exact if_neg (show (taken s r q).fld (LE_STAT_STATE e) ≠ 0 by omega)
  obtain ⟨awaits, only⟩ := runOp_awaits cmd op
  have eng := only.part (p := fun s => s.engOf e) fun _ _ _ _ _ => rfl
  have own := Tbl.get_set_same {} (taken s r q).eng e { (taken s r q).engOf e with disarm := true }
  exact ⟨congrArg Eng.disarm (eng.trans own), (only.fld _ (leStatKeys e).lowState).trans still, awaits⟩

/-- STOP of an engine that is not OFF ends with it OFF. -/
theorem engineStop_ends (stop : argNum a 1 1 = 3) (on : s.fld (LE_STAT_STATE e) ≠ 0) :
    let u := runOp s r q 0x22 opEngine
    u.ended r q s.mtime .OK none ∧ u.fld (LE_STAT_STATE e) = 0 := by
  have still : (taken s r q).fld (LE_STAT_STATE e) ≠ 0 := taken_leState s r q e ▸ on
  obtain ⟨kept, zero⟩ := engineOff_state (abandonCheck (taken s r q) e) e
  have stopped := engineStop_on still
  have op : opEngine (taken s r q) a = (engineOff (abandonCheck (taken s r q) e) e, .done .OK none) := by
    generalize engineOff (abandonCheck (taken s r q) e) e = t at stopped zero
    rw [opEngine_off engine stop (.inr rfl)]
    simp only [Nat.reduceEqDiff, if_false, stopped, zero, if_true]
    rfl
  obtain ⟨ended, only⟩ := runOp_ended cmd op ((Spares.refl _).abandonCheck.trans kept)
  exact ⟨ended, (only.fld _ (leStatKeys e).lowState).trans zero⟩

/-- SWAP of an engine in OFF changes the bank at once. -/
theorem engineSwap_ends (swap : argNum a 1 1 = 4) (off : s.fld (LE_STAT_STATE e) = 0) (single : s.flag (LE_STAT_SWAP_PEND e) = false) :
    let u := runOp s r q 0x22 opEngine
    u.ended r q s.mtime .OK none ∧ u.fld (LE_STAT_BANK e) = 1 - s.fld (LE_STAT_BANK e) := by
  have keys := leStatKeys e
  have took := taken_hostOnly s r q
  have number := took.fld _ keys.lowBank
  have pend : ((taken s r q).put (LE_STAT_BANK e) (1 - s.fld (LE_STAT_BANK e))).flag (LE_STAT_SWAP_PEND e) = false :=
    (congrArg (fun v => decide (v ≠ 0)) (State.fld_put_other _ _ _ _ keys.pend_bank)).trans ((took.flag keys.lowPend).trans single)
  have op : opEngine (taken s r q) a = ((taken s r q).put (LE_STAT_BANK e) (1 - s.fld (LE_STAT_BANK e)), .done .OK none) := by
    rw [opEngine_swap engine swap, engineSwap_off ((taken_leState s r q e).trans off), number]
    exact if_neg (by simp [pend])
  obtain ⟨ended, only⟩ := runOp_ended cmd op ((Spares.refl _).put keys.bank)
  refine ⟨ended, (only.fld _ keys.lowBank).trans ((State.fld_put_same _ _ _).trans (Nat.mod_eq_of_lt ?_))⟩
  exact (Nat.sub_le _ _).trans_lt (by decide : 1 < 2 ^ 1)

/-- SWAP of any other engine is noted and waits. -/
theorem engineSwap_waits (swap : argNum a 1 1 = 4) (on : s.fld (LE_STAT_STATE e) ≠ 0) :
    let u := runOp s r q 0x22 opEngine
    u.fld (LE_STAT_SWAP_PEND e) = 1 ∧ u.fld (LE_STAT_BANK e) = s.fld (LE_STAT_BANK e) ∧ u.awaits (.engineSwap e) r q := by
  have keys := leStatKeys e
  have still : (taken s r q).fld (LE_STAT_STATE e) ≠ 0 := taken_leState s r q e ▸ on
  have pend : ((taken s r q).put (LE_STAT_SWAP_PEND e) 1).fld (LE_STAT_SWAP_PEND e) = 1 := State.fld_put_same _ _ _
  have op : opEngine (taken s r q) a = ((taken s r q).put (LE_STAT_SWAP_PEND e) 1, .await (.engineSwap e)) := by
    rw [opEngine_swap engine swap, engineSwap_on still]
    exact if_pos (congrArg (fun v => decide (v ≠ 0)) pend)
  obtain ⟨awaits, only⟩ := runOp_awaits cmd op
  exact ⟨(only.fld _ keys.lowPend).trans pend, (only.fld _ keys.lowBank).trans ((State.fld_put_other _ _ _ _ keys.pend_bank.symm).trans
    ((taken_hostOnly s r q).fld _ keys.lowBank)), awaits⟩

end

/-! ### SAT_CLEAR (R121) -/

section
variable {s : State} {r q l : Nat} {a : List Byte}

theorem satClear_absent (absent : s.linkFitted l = false) : satClear s l = (s.refuse (linkErr l) .LEG_ABSENT, .LEG_ABSENT) :=
  if_pos (by simp [absent])

/-- A link whose CLEAR is refused because it is lost. -/
def satRefused (s : State) (l : Nat) : State :=
  (if l < 48 then s.put (GS_STAT_CLR_RESULT l) 2 else s.put (LD_STAT_CLR_RESULT (l - 48)) 2).refuse (linkErr l) .FAULT_PERSISTS

theorem satRefused_frame (s : State) (l : Nat) : (satRefused s l).lk = s.lk ∧ (satRefused s l).out = s.out := by
  unfold satRefused
  split <;> exact ⟨rfl, rfl⟩

theorem satClear_lost (fitted : s.linkFitted l = true) (lost : (s.lkOf l).lost = true) (few : (s.lkOf l).goodUp < 4) :
    satClear s l = (satRefused s l, .FAULT_PERSISTS) := by
  simp [satClear, satRefused, fitted, lost, few]

theorem satClear_sends (fitted : s.linkFitted l = true) (alive : (s.lkOf l).lost = false ∨ 4 ≤ (s.lkOf l).goodUp) :
    satClear s l = ((s.setLk l { s.lkOf l with clearWait := true }).sendClear l, .OK) := by
  have goes : ((s.lkOf l).lost && decide ((s.lkOf l).goodUp < 4)) = false := by
    rcases alive with h | h <;> simp [h]
  simp [satClear, fitted, goes]

theorem opSatClear_link {s : State} (link : (if argNum a 0 1 < 48 then argNum a 0 1 else argNum a 0 1 - 16) = l) :
    opSatClear s a = orAwait (satClear s l) (.satClear l) := by
  subst link
  rfl

theorem linkErrKeys (l : Nat) : ¬ startKey (linkErr l).last.key ∧ ¬ startKey (linkErr l).cnt.key := by
  unfold linkErr startKey
  split <;> decide

theorem satRefused_spares (s : State) {l : Nat} (small : l < 60) : Spares startKey s (satRefused s l) := by
  refine Spares.refuse ?_ (linkErrKeys l).1 (linkErrKeys l).2
  refine .ite ((Spares.refl s).put ?_) ((Spares.refl s).put ?_) <;>
    · simp only [startKey, Fld.key, GS_STAT_CLR_RESULT, LD_STAT_CLR_RESULT]
      omega

variable (cmd : s.hostCmd r q 0x23 a) (link : (if argNum a 0 1 < 48 then argNum a 0 1 else argNum a 0 1 - 16) = l)
include cmd link

/-- SAT_CLEAR of a link that is not fitted is refused. -/
theorem satClearCmd_absent (absent : s.linkFitted l = false) :
    let u := runOp s r q 0x23 opSatClear
    u.ended r q s.mtime .LEG_ABSENT none ∧ u.lk = s.lk ∧ u.out = s.out := by
  have op : opSatClear (taken s r q) a = ((taken s r q).refuse (linkErr l) .LEG_ABSENT, .done .LEG_ABSENT none) := by
    rw [opSatClear_link link, satClear_absent (((taken_hostOnly s r q).part (p := fun s => s.linkFitted l) fun _ _ _ _ _ => rfl).trans absent)]
    rfl
  obtain ⟨ended, only⟩ := runOp_ended cmd op ((Spares.refl _).refuse (linkErrKeys l).1 (linkErrKeys l).2)
  have lk : (runOp s r q 0x23 opSatClear).lk = (taken s r q).lk := only.part (p := State.lk) fun _ _ _ _ _ => rfl
  have out : (runOp s r q 0x23 opSatClear).out = (taken s r q).out := only.part (p := State.out) fun _ _ _ _ _ => rfl
  exact ⟨ended, lk, out⟩

/-- SAT_CLEAR of a link that is lost, with fewer than four good frames since, ends FAULT_PERSISTS. -/
theorem satClearCmd_lost (small : l < 60) (fitted : s.linkFitted l = true) (lost : (s.lkOf l).lost = true) (few : (s.lkOf l).goodUp < 4) :
    let u := runOp s r q 0x23 opSatClear
    u.ended r q s.mtime .FAULT_PERSISTS none ∧ u.lk = s.lk ∧ u.out = s.out := by
  have took := taken_hostOnly s r q
  have same : (taken s r q).linkFitted l = true := (took.part (p := fun s => s.linkFitted l) fun _ _ _ _ _ => rfl).trans fitted
  have op : opSatClear (taken s r q) a = (satRefused (taken s r q) l, .done .FAULT_PERSISTS none) := by
    rw [opSatClear_link link, satClear_lost same lost few]
    rfl
  obtain ⟨ended, only⟩ := runOp_ended cmd op (satRefused_spares _ small)
  have lk : (runOp s r q 0x23 opSatClear).lk = (satRefused (taken s r q) l).lk := only.part (p := State.lk) fun _ _ _ _ _ => rfl
  have out : (runOp s r q 0x23 opSatClear).out = (satRefused (taken s r q) l).out := only.part (p := State.out) fun _ _ _ _ _ => rfl
  exact ⟨ended, lk.trans (satRefused_frame _ _).1, out.trans (satRefused_frame _ _).2⟩

/-- SAT_CLEAR of any other link sends CLEAR and waits for the answer. -/
theorem satClearCmd_waits (fitted : s.linkFitted l = true) (alive : (s.lkOf l).lost = false ∨ 4 ≤ (s.lkOf l).goodUp) :
    let u := runOp s r q 0x23 opSatClear
    (u.lkOf l).clearWait = true ∧ u.awaits (.satClear l) r q := by
  have took := taken_hostOnly s r q
  have same : (taken s r q).linkFitted l = true := (took.part (p := fun s => s.linkFitted l) fun _ _ _ _ _ => rfl).trans fitted
  have op : opSatClear (taken s r q) a =
      (((taken s r q).setLk l { (taken s r q).lkOf l with clearWait := true }).sendClear l, .await (.satClear l)) := by
    rw [opSatClear_link link, satClear_sends same alive]
    rfl
  obtain ⟨awaits, only⟩ := runOp_awaits cmd op
  have lk := only.part (p := fun s => s.lkOf l) fun _ _ _ _ _ => rfl
  have own := Tbl.get_set_same {} (taken s r q).lk l { (taken s r q).lkOf l with clearWait := true }
  exact ⟨congrArg Lk.clearWait (lk.trans own), awaits⟩

end

/-! ### CHOP_CLEAR (R227) -/

theorem chopperClear_free {s : State} {j : Nat} (free : s.flag (TRC_DL_CFG_CHOP_EN j) = false ∨ s.flag (TRC_DL_STAT_CHOP_AVAIL j) = true) :
    chopperClear s j = (s.put (TRC_DL_STAT_CLR_RESULT j) 1, .OK) := if_pos (by rcases free with h | h <;> simp [h])

theorem chopperClear_stands {s : State} {j : Nat} (enabled : s.flag (TRC_DL_CFG_CHOP_EN j) = true)
    (gone : s.flag (TRC_DL_STAT_CHOP_AVAIL j) = false) (cause : s.fld (TRC_DL_STAT_CHOP_CAUSE j) ≠ 2) (stands : chopCause s j ≠ 0) :
    chopperClear s j = ((s.put (TRC_DL_STAT_CLR_RESULT j) 2).refuse trcErr .CHOP_FAULT_PERSISTS, .CHOP_FAULT_PERSISTS) := by
  simp [chopperClear, enabled, gone, cause, stands]

/-- Where the fields of DC link `j` stand that CHOP_CLEAR reads and writes. -/
structure ChopKeys (j : Nat) : Prop where
  lowResult : (TRC_DL_STAT_CLR_RESULT j).key < 0x60078000 * 32
  lowAvail : (TRC_DL_STAT_CHOP_AVAIL j).key < 0x60078000 * 32
  lowCause : (TRC_DL_STAT_CHOP_CAUSE j).key < 0x60078000 * 32
  lowEnable : (TRC_DL_CFG_CHOP_EN j).key < 0x60078000 * 32
  lowLeg : (TRC_DL_CFG_CHOP_LEG j).key < 0x60078000 * 32
  lowGroup : (TRC_DL_CFG_CHOP_GRP j).key < 0x60078000 * 32
  result : ¬ startOr (TRC_DL_STAT_CHOP_AVAIL j).key (TRC_DL_STAT_CLR_RESULT j).key
  last : ¬ startOr (TRC_DL_STAT_CHOP_AVAIL j).key trcErr.last.key
  cnt : ¬ startOr (TRC_DL_STAT_CHOP_AVAIL j).key trcErr.cnt.key
  result_last : (TRC_DL_STAT_CLR_RESULT j).key ≠ trcErr.last.key
  result_cnt : (TRC_DL_STAT_CLR_RESULT j).key ≠ trcErr.cnt.key

theorem chopKeys (j : Fin 2) : ChopKeys j := by
  constructor <;>
    · simp only [startOr, startKey, Fld.key, trcErr, TRC_DL_STAT_CLR_RESULT, TRC_DL_STAT_CHOP_AVAIL, TRC_DL_STAT_CHOP_CAUSE,
        TRC_DL_CFG_CHOP_EN, TRC_DL_CFG_CHOP_LEG, TRC_DL_CFG_CHOP_GRP, TRC_ERR_LAST_ERR, TRC_ERR_ERR_CNT]
      omega

/-- What stands against a chopper does not hang on the host's records. -/
theorem HostOnly.chopCause {s t : State} (h : HostOnly s t) (j : Fin 2) : chopCause t j = chopCause s j := by
  have leg := h.fld _ (chopKeys j).lowLeg
  have group := h.fld _ (chopKeys j).lowGroup
  have fault (l : Nat) (small : l < 64) : t.flag (GS_STAT_FAULT l) = s.flag (GS_STAT_FAULT l) :=
    h.flag (by simp only [Fld.key, GS_STAT_FAULT]; omega)
  have mode : t.mode = s.mode := h.fld PWR_MODE (by decide)
  have runs := h.running (g := s.fld (TRC_DL_CFG_CHOP_GRP j)) (State.fld_lt s (TRC_DL_CFG_CHOP_GRP j))
  have small : s.fld (TRC_DL_CFG_CHOP_LEG j) < 32 := State.fld_lt s _
  unfold Machine.chopCause
  rw [leg, group, mode, runs]
  dsimp only
  rw [h.legOf, fault _ (by omega), fault _ (by omega)]

section
variable {s : State} {r q : Nat} {j : Fin 2} {a : List Byte} (cmd : s.hostCmd r q 0x24 a) (chopper : argNum a 0 1 = j)
include cmd chopper

/-- CHOP_CLEAR of an available chopper, or without one, ends OK. -/
theorem chopClearCmd_ends (free : s.flag (TRC_DL_CFG_CHOP_EN j) = false ∨ s.flag (TRC_DL_STAT_CHOP_AVAIL j) = true) :
    let u := runOp s r q 0x24 opChopClear
    u.ended r q s.mtime .OK none ∧ u.fld (TRC_DL_STAT_CLR_RESULT j) = 1 := by
  have keys := chopKeys j
  have took := taken_hostOnly s r q
  have op : opChopClear (taken s r q) a = ((taken s r q).put (TRC_DL_STAT_CLR_RESULT j) 1, .done .OK none) := by
    unfold opChopClear
    rw [chopper, chopperClear_free (by rwa [took.flag keys.lowEnable, took.flag keys.lowAvail])]
    rfl
  obtain ⟨ended, only⟩ := runOp_ended cmd op ((Spares.refl _).put fun start => keys.result (.inl start))
  exact ⟨ended, (only.fld _ keys.lowResult).trans (State.fld_put_same _ _ _)⟩

/-- CHOP_CLEAR of a chopper whose cause stands ends CHOP_FAULT_PERSISTS. -/
theorem chopClearCmd_refused (enabled : s.flag (TRC_DL_CFG_CHOP_EN j) = true) (gone : s.flag (TRC_DL_STAT_CHOP_AVAIL j) = false)
    (cause : s.fld (TRC_DL_STAT_CHOP_CAUSE j) ≠ 2) (stands : chopCause s j ≠ 0) :
    let u := runOp s r q 0x24 opChopClear
    u.ended r q s.mtime .CHOP_FAULT_PERSISTS none ∧ u.fld (TRC_DL_STAT_CLR_RESULT j) = 2 ∧ u.flag (TRC_DL_STAT_CHOP_AVAIL j) = false := by
  have keys := chopKeys j
  have took := taken_hostOnly s r q
  have op : opChopClear (taken s r q) a =
      (((taken s r q).put (TRC_DL_STAT_CLR_RESULT j) 2).refuse trcErr .CHOP_FAULT_PERSISTS, .done .CHOP_FAULT_PERSISTS none) := by
    unfold opChopClear
    rw [chopper, chopperClear_stands ((took.flag keys.lowEnable).trans enabled) ((took.flag keys.lowAvail).trans gone) (took.fld _ keys.lowCause ▸ cause)
      (took.chopCause j ▸ stands)]
    rfl
  have kept := ((Spares.refl (taken s r q)).put (v := 2) keys.result).refuse (st := .CHOP_FAULT_PERSISTS) keys.last keys.cnt
  obtain ⟨ended, avail⟩ := runOp_ended_kept _ keys.lowAvail cmd op kept
  obtain ⟨-, only⟩ := runOp_ended cmd op (kept.mono fun _ => .inl)
  refine ⟨ended, (only.fld _ keys.lowResult).trans ?_, (congrArg (fun v => decide (v ≠ 0)) avail).trans gone⟩
  exact (State.fld_put_other _ _ _ _ keys.result_cnt).trans ((State.fld_put_other _ _ _ _ keys.result_last).trans (State.fld_put_same _ _ _))

end

/-! ### ACT_CMD (R253, R255) -/

/-- Where the fields of actuator slot `m` stand that its commands read and write. -/
structure ActKeys (m : Nat) : Prop where
  lowState : (ACT_STAT_STATE m).key < 0x60078000 * 32
  lowResult : (ACT_STAT_CLR_RESULT m).key < 0x60078000 * 32
  lowGroup : (ACT_CFG_GROUP m).key < 0x60078000 * 32
  result : ¬ startOr (ACT_STAT_STATE m).key (ACT_STAT_CLR_RESULT m).key
  last : ¬ startOr (ACT_STAT_STATE m).key actErr.last.key
  cnt : ¬ startOr (ACT_STAT_STATE m).key actErr.cnt.key
  valid : (ACT_STAT_SPD_VALID m).key ≠ (ACT_STAT_STATE m).key
  forced : (ACT_STAT_FORCED m).key ≠ (ACT_STAT_STATE m).key
  rpm : (ACT_SPD_RPM m).key ≠ (ACT_STAT_STATE m).key
  duty : (ACT_SPD_DUTY m).key ≠ (ACT_STAT_STATE m).key
  step : (ACT_STAT_STEP m).key ≠ (ACT_STAT_STATE m).key
  overflow : (ACT_EVT_OVF m).key ≠ (ACT_STAT_STATE m).key

theorem actKeys (m : Fin 4) : ActKeys m := by
  constructor <;>
    · simp only [startOr, startKey, Fld.key, actErr, ACT_STAT_STATE, ACT_STAT_CLR_RESULT, ACT_CFG_GROUP, ACT_STAT_SPD_VALID,
        ACT_STAT_FORCED, ACT_SPD_RPM, ACT_SPD_DUTY, ACT_STAT_STEP, ACT_EVT_OVF, ACT_ERR_LAST_ERR, ACT_ERR_ERR_CNT]
      omega

section
variable {K : Nat → Prop} {r s : State}

theorem Spares.setAct {m : Nat} {v : Act} (h : Spares K r s) : Spares K r (s.setAct m v) := h.of_regs rfl rfl

theorem Spares.rounded {n d : Int} (h : Spares K r s) : Spares K r (s.rounded n d).2 := h.of_regs rfl rfl

theorem Spares.setGrp {g : Nat} {v : Grp} (h : Spares K r s) : Spares K r (s.setGrp g v) := h.of_regs rfl rfl

theorem Spares.irq {p i c : Nat} {b : Blk} (h : Spares K r s) : Spares K r (s.irq p b i c) := h.of_regs rfl rfl

theorem Spares.inc {f : Fld} (h : Spares K r s) (free : ¬ K f.key) : Spares K r (s.inc f) := h.put free

theorem Spares.putFlag {f : Fld} {b : Bool} (h : Spares K r s) (free : ¬ K f.key) : Spares K r (s.putFlag f b) := h.put free

/-- None of the fields that a commit to group `g` writes is one of `K`. -/
structure CommitFree (K : Nat → Prop) (g : Nat) : Prop where
  late : ¬ K (PWM_GRP_CNT_LATE_CNT g).key
  superseded : ¬ K (PWM_GRP_CNT_SUPERSEDED_CNT g).key
  valid : ¬ K (PWM_GRP_STAT_VALID_SET g).key
  wptr : ¬ K TST_TRC_WPTR.key
  wrapped : ¬ K TST_TRC_WPTR_WRAPPED.key

theorem Spares.acceptSet {g : Nat} {d : DutySet} (h : Spares K r s) (free : CommitFree K g) : Spares K r (acceptSet s g d) :=
  ((h.when fun _ h => (h.inc free.late).trace free.wptr free.wrapped).when fun _ h => h.inc free.superseded).setGrp.putFlag free.valid

theorem Spares.groupCommit {g : Nat} (h : Spares K r s) (free : CommitFree K g) : Spares K r (groupCommit s g).1 := by
  unfold Machine.groupCommit
  split
  · exact h
  · exact h.acceptSet free

end

/-- The key of the field that shows the state of actuator slot `m`. -/
def actStateKey (m : Nat) (k : Nat) : Prop := k = (ACT_STAT_STATE m).key

theorem commitFree_actState (m : Fin 4) (g : Nat) : CommitFree (actStateKey m) g := by
  constructor <;>
    · simp only [actStateKey, Fld.key, PWM_GRP_CNT_LATE_CNT, PWM_GRP_CNT_SUPERSEDED_CNT, PWM_GRP_STAT_VALID_SET, TST_TRC_WPTR,
        TST_TRC_WPTR_WRAPPED, ACT_STAT_STATE]
      omega

section
variable {r s : State} {m : Fin 4}

theorem actEvent_spares {code arg : Nat} (h : Spares (actStateKey m) r s) : Spares (actStateKey m) r (actEvent s m code arg) := by
  exact ((h.when fun _ h => h.inc (actKeys m).overflow).setAct).when fun _ h => h.irq

theorem actDrive_spares {st d : Nat} (h : Spares (actStateKey m) r s) : Spares (actStateKey m) r (actDrive s m st d) := by
  have keys := actKeys m
  have free := commitFree_actState m (actGroup s m)
  have compare (n : Nat) : ¬ actStateKey m (PWM_LEG_CMP_SH_C n).key := by
    simp only [actStateKey, Fld.key, PWM_LEG_CMP_SH_C, ACT_STAT_STATE]
    omega
  have counts (a b : Nat) : ∀ x ∈ [(PWM_GRP_CNT_LATE_CNT (actGroup s m), a), (PWM_GRP_CNT_SUPERSEDED_CNT (actGroup s m), b)],
      ¬ actStateKey m x.1.key := by simp [free.late, free.superseded]
  exact (((((h.rounded.each fun t x _ => ((Spares.refl t).put (compare x.1)).setLeg).setAct.put keys.step).when fun _ h => h.put keys.duty).groupCommit
    free)).when fun _ h => h.putAll (counts _ _)

theorem actCommutate_spares {st d t : Nat} (h : Spares (actStateKey m) r s) : Spares (actStateKey m) r (actCommutate s m st d t) :=
  actDrive_spares h.setAct

/-- A slot that enters a state shows it. -/
theorem actEnter_state {st : Nat} (small : st < 16) : actState (actEnter s m st) m = st := by
  have keys := actKeys m
  have shown : (s.putAll [(ACT_STAT_STATE m, st), (ACT_STAT_SPD_VALID m, bit (st = 4)), (ACT_STAT_FORCED m, bit (st = 2 || st = 3))]).fld
      (ACT_STAT_STATE m) = st :=
    (State.fld_put_other _ _ _ _ keys.forced.symm).trans ((State.fld_put_other _ _ _ _ keys.valid.symm).trans
      ((State.fld_put_same s _ _).trans (Nat.mod_eq_of_lt small)))
  unfold actState actEnter
  extract_lets entered
  split
  · exact shown
  · exact (State.fld_put_other _ _ _ _ keys.duty.symm).trans ((State.fld_put_other _ _ _ _ keys.rpm.symm).trans shown)

theorem actAttempt_state : actState (actAttempt s m) m = 2 := by
  unfold actAttempt
  extract_lets n slot tried noted begun
  have kept : Spares (actStateKey m) (actEnter noted m 2) begun := actEvent_spares ((Spares.refl _).put (actKeys m).rpm)
  exact ((actCommutate_spares kept).fld _ rfl).trans (actEnter_state (by decide))

theorem actRun_busy (busy : actState s m ≠ 1) : actRun s m = (s.refuse actErr .ACT_BUSY, .ACT_BUSY) := if_pos busy

theorem actRun_stopped (idle : actState s m = 1) (stopped : s.running (actGroup s m) = false) :
    actRun s m = (s.refuse actErr .ACT_GROUP_STOPPED, .ACT_GROUP_STOPPED) := by
  simp [actRun, idle, stopped, actRefused]

theorem actRun_starts (idle : actState s m = 1) (runs : s.running (actGroup s m) = true) :
    actRun s m = (actAttempt (s.setAct m { s.actOf m with starting := true, tries := 0 }) m, .OK) := by
  simp [actRun, idle, runs]

theorem actStop_closed (closed : actState s m = 4) : actStop s m = (actEnter s m 5, .OK) := by
  simp [actStop, closed]

theorem actStop_idle (idle : actState s m = 1) : actStop s m = (s, .OK) := by
  simp [actStop, idle]

theorem actFloat_idle (idle : actState s m = 1) : actFloat s m = (s, .OK) := by
  simp [actFloat, idle]

theorem actClr_sound (sound : actState s m ≠ 9) : actClr s m = (s.put (ACT_STAT_CLR_RESULT m) 1, .OK) := if_pos sound

end

section
variable {s : State} {r q : Nat} {m : Fin 4} {a : List Byte}

theorem taken_actState (s : State) (r q : Nat) (m : Fin 4) : actState (taken s r q) m = actState s m :=
  (taken_hostOnly s r q).fld _ (actKeys m).lowState

theorem taken_actRunning (s : State) (r q : Nat) (m : Fin 4) :
    (taken s r q).running (actGroup (taken s r q) m) = s.running (actGroup s m) := by
  have group : actGroup (taken s r q) m = actGroup s m := (taken_hostOnly s r q).fld _ (actKeys m).lowGroup
  rw [group]
  exact (taken_hostOnly s r q).running (State.fld_lt s (ACT_CFG_GROUP m))

theorem actErr_unwatched : watchedKey actErr.last.key = false ∧ watchedKey actErr.cnt.key = false := by decide

theorem actClrKey_unwatched : ∀ m : Fin 4, watchedKey (ACT_STAT_CLR_RESULT m).key = false := by decide

theorem opAct_run (slot : argNum a 0 1 = m) (run : argNum a 1 1 = 1) : opAct s a = orAwait (actRun s m) (.actRun m) := by
  unfold opAct
  rw [slot, run]
  rfl

theorem opAct_stop (slot : argNum a 0 1 = m) (stop : argNum a 1 1 = 2) :
    opAct s a = if actState (actStop s m).1 m = 5 then orAwait (actStop s m) (.actIdle m) else atOnce (actStop s m) := by
  unfold opAct
  rw [slot, stop]
  rfl

theorem opAct_float (slot : argNum a 0 1 = m) (float : argNum a 1 1 = 3) : opAct s a = atOnce (actFloat s m) := by
  unfold opAct
  rw [slot, float]
  rfl

theorem opAct_clr (slot : argNum a 0 1 = m) (clr : argNum a 1 1 = 4) : opAct s a = atOnce (actClr s m) := by
  unfold opAct
  rw [slot, clr]
  rfl

variable (cmd : s.hostCmd r q 0x25 a) (slot : argNum a 0 1 = m)
include cmd slot

/-- A refused RUN changes nothing but ACT_ERR. -/
theorem actRun_refused {st : Status} (quiet : s.quiet = true) (run : argNum a 1 1 = 1) (refusal : st ≠ .OK)
    (refused : actRun (taken s r q) m = ((taken s r q).refuse actErr st, st)) :
    let u := runOp s r q 0x25 opAct
    settle s u = u ∧ u.ended r q s.mtime st none ∧ actState u m = actState s m := by
  have keys := actKeys m
  have op : opAct (taken s r q) a = ((taken s r q).refuse actErr st, .done st none) := by
    rw [opAct_run slot run, refused]
    exact if_neg refusal
  exact ⟨settle_runOp_ended quiet cmd op (SameWatch.refuse _ _ _ actErr_unwatched.1 actErr_unwatched.2),
    runOp_ended_kept _ keys.lowState cmd op ((Spares.refl _).refuse keys.last keys.cnt)⟩

/-- An accepted RUN starts the first attempt and waits. -/
theorem actRun_waits (run : argNum a 1 1 = 1) (idle : actState s m = 1) (runs : s.running (actGroup s m) = true) :
    let u := runOp s r q 0x25 opAct
    actState u m = 2 ∧ u.awaits (.actRun m) r q := by
  have starts := actRun_starts ((taken_actState s r q m).trans idle) ((taken_actRunning s r q m).trans runs)
  generalize begun : (taken s r q).setAct m { (taken s r q).actOf m with starting := true, tries := 0 } = t at starts
  have op : opAct (taken s r q) a = (actAttempt t m, .await (.actRun m)) := by
    rw [opAct_run slot run, starts]
    rfl
  obtain ⟨awaits, only⟩ := runOp_awaits cmd op
  exact ⟨(only.fld _ (actKeys m).lowState).trans actAttempt_state, awaits⟩

/-- A STOP in CLOSED waits for the end of STOPPING. -/
theorem actStop_waits (stop : argNum a 1 1 = 2) (closed : actState s m = 4) :
    let u := runOp s r q 0x25 opAct
    actState u m = 5 ∧ u.awaits (.actIdle m) r q := by
  have entered := actEnter_state (s := taken s r q) (m := m) (by decide : 5 < 16)
  have op : opAct (taken s r q) a = (actEnter (taken s r q) m 5, .await (.actIdle m)) := by
    rw [opAct_stop slot stop, actStop_closed ((taken_actState s r q m).trans closed), if_pos entered]
    rfl
  obtain ⟨awaits, only⟩ := runOp_awaits cmd op
  exact ⟨(only.fld _ (actKeys m).lowState).trans entered, awaits⟩

/-- STOP and FLOAT of an idle slot end at once. -/
theorem actStop_ends (quiet : s.quiet = true) (stop : argNum a 1 1 = 2 ∨ argNum a 1 1 = 3) (idle : actState s m = 1) :
    let u := runOp s r q 0x25 opAct
    settle s u = u ∧ u.ended r q s.mtime .OK none ∧ actState u m = 1 := by
  have still := (taken_actState s r q m).trans idle
  have op : opAct (taken s r q) a = (taken s r q, .done .OK none) := by
    rcases stop with stop | float
    · rw [opAct_stop slot stop, actStop_idle still, if_neg (by rw [still]; decide)]
      rfl
    · rw [opAct_float slot float, actFloat_idle still]
      rfl
  obtain ⟨ended, only⟩ := runOp_ended cmd op (.refl _)
  exact ⟨settle_runOp_ended quiet cmd op (.refl _), ended, (only.fld _ (actKeys m).lowState).trans still⟩

/-- CLR of a slot outside FAULT ends OK. -/
theorem actClr_ends (quiet : s.quiet = true) (clr : argNum a 1 1 = 4) (sound : actState s m ≠ 9) :
    let u := runOp s r q 0x25 opAct
    settle s u = u ∧ u.ended r q s.mtime .OK none ∧ u.fld (ACT_STAT_CLR_RESULT m) = 1 ∧ actState u m = actState s m := by
  have keys := actKeys m
  have op : opAct (taken s r q) a = ((taken s r q).put (ACT_STAT_CLR_RESULT m) 1, .done .OK none) := by
    rw [opAct_clr slot clr, actClr_sound (taken_actState s r q m ▸ sound)]
    rfl
  have kept := (Spares.refl (taken s r q)).put (v := 1) keys.result
  obtain ⟨ended, state⟩ := runOp_ended_kept _ keys.lowState cmd op kept
  obtain ⟨-, only⟩ := runOp_ended cmd op (kept.mono fun _ => .inl)
  exact ⟨settle_runOp_ended quiet cmd op (SameWatch.put _ _ _ (actClrKey_unwatched m)), ended,
    (only.fld _ keys.lowResult).trans (State.fld_put_same _ _ _), state⟩

end

/-! ### CNV_CMD (R268, R270) -/

/-- None of the fields that a converter slot shows beside its state is one of `K`. -/
structure CnvFree (K : Nat → Prop) (m : Nat) : Prop where
  release : ¬ K (CNV_C_STAT_RELEASE m).key
  rectify : ¬ K (CNV_C_STAT_SR_EN m).key
  shedding : ¬ K (CNV_C_STAT_SHEDDING m).key
  phases : ¬ K (CNV_C_STAT_NACT m).key
  float : ¬ K (CNV_C_STAT_FLOAT m).key

section
variable {K : Nat → Prop} {r s : State} {m : Nat}

theorem Spares.cnvSync (h : Spares K r s) (free : CnvFree K m) : Spares K r (cnvSync s m) := by
  have floated : Spares K r (cnvFloats (s.put (CNV_C_STAT_FLOAT m) (cnvMask s m)) m) :=
    (h.put free.float).each fun t _ _ => (Spares.refl t).setLeg
  exact .ite floated floated.setCnv.writeSlot

/-- A slot that enters a state writes, after STATE, only what it shows beside it. -/
theorem cnvEnter_spares (s : State) {st : Nat} (free : CnvFree K m) : Spares K (s.put (CNV_C_STAT_STATE m) st) (cnvEnter s m st) := by
  have released {t : State} (h : Spares K (s.put (CNV_C_STAT_STATE m) st) t) :
      Spares K (s.put (CNV_C_STAT_STATE m) st) (t.putAll [(CNV_C_STAT_RELEASE m, 0), (CNV_C_STAT_SR_EN m, 0)]) :=
    h.putAll (by simp [free.release, free.rectify])
  have shed {t : State} (n : Nat) (h : Spares K (s.put (CNV_C_STAT_STATE m) st) t) :
      Spares K (s.put (CNV_C_STAT_STATE m) st) (t.putAll [(CNV_C_STAT_SHEDDING m, 0), (CNV_C_STAT_NACT m, n)]) :=
    h.putAll (by simp [free.shedding, free.phases])
  unfold cnvEnter
  extract_lets entered plain quiet
  have quietKept : Spares K entered plain := .ite (.refl _) (released (.refl _))
  have shownKept : Spares K entered quiet := .ite quietKept (shed _ quietKept)
  exact shownKept.cnvSync free

theorem Spares.cnvStartEnds {st : Status} (h : Spares K r s) : Spares K r (cnvStartEnds s m st) := .ite h.setCnv.finish h

end

/-- Where the fields of converter slot `m` stand that its commands read and write. -/
structure CnvKeys (m : Nat) : Prop where
  lowState : (CNV_C_STAT_STATE m).key < 0x60078000 * 32
  lowResult : (CNV_C_STAT_CLR_RESULT m).key < 0x60078000 * 32
  lowGroup : (CNV_C_CFG_GROUP m).key < 0x60078000 * 32
  state : ¬ startKey (CNV_C_STAT_STATE m).key
  result : ¬ startKey (CNV_C_STAT_CLR_RESULT m).key
  cause : ¬ startKey (CNV_C_STAT_CAUSE m).key
  last : ¬ startKey cnvErr.last.key
  cnt : ¬ startKey cnvErr.cnt.key
  state_result : (CNV_C_STAT_STATE m).key ≠ (CNV_C_STAT_CLR_RESULT m).key
  result_cause : (CNV_C_STAT_CLR_RESULT m).key ≠ (CNV_C_STAT_CAUSE m).key
  last_state : cnvErr.last.key ≠ (CNV_C_STAT_STATE m).key
  cnt_state : cnvErr.cnt.key ≠ (CNV_C_STAT_STATE m).key
  last_result : cnvErr.last.key ≠ (CNV_C_STAT_CLR_RESULT m).key
  cnt_result : cnvErr.cnt.key ≠ (CNV_C_STAT_CLR_RESULT m).key

theorem cnvKeys (m : Fin 4) : CnvKeys m := by
  constructor <;>
    · simp only [startKey, Fld.key, cnvErr, CNV_C_STAT_STATE, CNV_C_STAT_CLR_RESULT, CNV_C_CFG_GROUP, CNV_C_STAT_CAUSE,
        CNV_ERR_LAST_ERR, CNV_ERR_ERR_CNT]
      omega

theorem cnvFree_state (m : Fin 4) : CnvFree (· = (CNV_C_STAT_STATE m).key) m := by
  constructor <;>
    · simp only [Fld.key, CNV_C_STAT_RELEASE, CNV_C_STAT_SR_EN, CNV_C_STAT_SHEDDING, CNV_C_STAT_NACT, CNV_C_STAT_FLOAT, CNV_C_STAT_STATE]
      omega

theorem cnvFree_clrResult (m : Fin 4) : CnvFree (startOr (CNV_C_STAT_CLR_RESULT m).key) m := by
  constructor <;>
    · simp only [startOr, startKey, Fld.key, CNV_C_STAT_RELEASE, CNV_C_STAT_SR_EN, CNV_C_STAT_SHEDDING, CNV_C_STAT_NACT, CNV_C_STAT_FLOAT,
        CNV_C_STAT_CLR_RESULT]
      omega

/-- A slot that enters a state shows it; what tells whether commands run, and CLR_RESULT, stand. -/
theorem cnvEnter_state (s : State) (m : Fin 4) {st : Nat} (small : st < 8) : cnvState (cnvEnter s m st) m = st ∧
    Spares (startOr (CNV_C_STAT_CLR_RESULT m).key) s (cnvEnter s m st) := by
  refine ⟨((cnvEnter_spares s (cnvFree_state m)).fld _ rfl).trans ((State.fld_put_same s _ _).trans (Nat.mod_eq_of_lt small)), ?_⟩
  exact ((Spares.refl s).put (not_startOr (cnvKeys m).state (cnvKeys m).state_result)).trans (cnvEnter_spares s (cnvFree_clrResult m))

section
variable {s : State} {m : Nat}

theorem cnvStart_busy (busy : cnvState s m ≠ 1) : cnvStart s m = (s.refuse cnvErr .CNV_BUSY, .CNV_BUSY) := if_pos busy

theorem cnvStart_stopped (idle : cnvState s m = 1) (stopped : s.running (cnvGroup s m) = false) :
    cnvStart s m = (s.refuse cnvErr .CNV_GROUP_STOPPED, .CNV_GROUP_STOPPED) := by
  simp [cnvStart, idle, stopped, cnvRefused]

theorem cnvStart_starts (idle : cnvState s m = 1) (runs : s.running (cnvGroup s m) = true) : ∃ t, cnvStart s m = (cnvEnter t m 2, .OK) := by
  simp only [cnvStart, idle, runs]
  exact ⟨_, rfl⟩

theorem cnvStop_idle (idle : cnvState s m = 1) : cnvStop s m = (s, .OK) := by
  simp [cnvStop, idle]

theorem cnvStop_running (least : 2 ≤ cnvState s m) (most : cnvState s m ≤ 4) :
    cnvStop s m = (cnvEnter (cnvStartEnds s m .CNV_CANCELLED) m 1, .OK) := by
  simp [cnvStop, least, most]

theorem cnvClr_busy (sound : cnvState s m ≠ 5) : cnvClr s m = (s.refuse cnvErr .CNV_BUSY, .CNV_BUSY) := if_pos sound

theorem cnvClr_clears (fault : cnvState s m = 5) (sound : cnvLatched s m = false) (runs : s.running (cnvGroup s m) = true) :
    cnvClr s m = (cnvEnter ((s.put (CNV_C_STAT_CLR_RESULT m) 1).put (CNV_C_STAT_CAUSE m) 0) m 1, .OK) := by
  simp only [cnvClr, fault, sound, runs]
  rfl

end

section
variable {s : State} {r q : Nat} {m : Fin 4} {a : List Byte}

theorem taken_cnvState (s : State) (r q : Nat) (m : Fin 4) : cnvState (taken s r q) m = cnvState s m :=
  (taken_hostOnly s r q).fld _ (cnvKeys m).lowState

theorem taken_cnvGroup (s : State) (r q : Nat) (m : Fin 4) : cnvGroup (taken s r q) m = cnvGroup s m :=
  (taken_hostOnly s r q).fld _ (cnvKeys m).lowGroup

theorem taken_cnvRunning (s : State) (r q : Nat) (m : Fin 4) :
    (taken s r q).running (cnvGroup (taken s r q) m) = s.running (cnvGroup s m) := by
  rw [taken_cnvGroup]
  exact (taken_hostOnly s r q).running (State.fld_lt s (CNV_C_CFG_GROUP m))

/-- The fault latches of a slot's legs do not hang on the host's records. -/
theorem taken_cnvLatched (s : State) (r q : Nat) (m : Fin 4) : cnvLatched (taken s r q) m = cnvLatched s m := by
  have took := taken_hostOnly s r q
  unfold cnvLatched
  rw [taken_cnvGroup, took.members]
  rw [Bool.eq_iff_iff, List.any_eq_true, List.any_eq_true]
  refine exists_congr fun n => and_congr_right fun mem => ?_
  have small := State.member_lt mem
  have gate (l : Nat) (fits : l < 48) : (taken s r q).flag (GS_STAT_FAULT l) = s.flag (GS_STAT_FAULT l) :=
    took.flag (by simp only [Fld.key, GS_STAT_FAULT]; omega)
  have high : (taken s r q).flag (LD_STAT_FAULT_HS (n - 24)) = s.flag (LD_STAT_FAULT_HS (n - 24)) :=
    took.flag (by simp only [Fld.key, LD_STAT_FAULT_HS]; omega)
  have low : (taken s r q).flag (LD_STAT_FAULT_LS (n - 24)) = s.flag (LD_STAT_FAULT_LS (n - 24)) :=
    took.flag (by simp only [Fld.key, LD_STAT_FAULT_LS]; omega)
  split
  · rw [gate _ (by omega), gate _ (by omega)]
  · rw [high, low]

theorem opCnv_start (slot : argNum a 0 1 = m) (start : argNum a 1 1 = 1) : opCnv s a = orAwait (cnvStart s m) (.cnvStart m) := by
  unfold opCnv
  rw [slot, start]
  rfl

theorem opCnv_stop (slot : argNum a 0 1 = m) (stop : argNum a 1 1 = 2) : opCnv s a = atOnce (cnvStop s m) := by
  unfold opCnv
  rw [slot, stop]
  rfl

theorem opCnv_clr (slot : argNum a 0 1 = m) (clr : argNum a 1 1 = 3) : opCnv s a = atOnce (cnvClr s m) := by
  unfold opCnv
  rw [slot, clr]
  rfl

variable (cmd : s.hostCmd r q 0x26 a) (slot : argNum a 0 1 = m)
include cmd

/-- A refused command leaves the slot's state and CLR_RESULT. -/
theorem cnvCmd_refused {st : Status} (op : opCnv (taken s r q) a = ((taken s r q).refuse cnvErr st, .done st none)) :
    let u := runOp s r q 0x26 opCnv
    u.ended r q s.mtime st none ∧ u.fld (CNV_C_STAT_CLR_RESULT m) = s.fld (CNV_C_STAT_CLR_RESULT m) ∧ cnvState u m = cnvState s m := by
  have keys := cnvKeys m
  obtain ⟨ended, clr⟩ := runOp_ended_kept (CNV_C_STAT_CLR_RESULT m) keys.lowResult cmd op
    ((Spares.refl _).refuse (not_startOr keys.last keys.last_result) (not_startOr keys.cnt keys.cnt_result))
  exact ⟨ended, clr, (runOp_ended_kept (CNV_C_STAT_STATE m) keys.lowState cmd op
    ((Spares.refl _).refuse (not_startOr keys.last keys.last_state) (not_startOr keys.cnt keys.cnt_state))).2⟩

include slot

theorem cnvStart_refused {st : Status} (start : argNum a 1 1 = 1) (refusal : st ≠ .OK)
    (refused : cnvStart (taken s r q) m = ((taken s r q).refuse cnvErr st, st)) :
    let u := runOp s r q 0x26 opCnv
    u.ended r q s.mtime st none ∧ cnvState u m = cnvState s m := by
  have op : opCnv (taken s r q) a = ((taken s r q).refuse cnvErr st, .done st none) := by
    rw [opCnv_start slot start, refused]
    exact if_neg refusal
  obtain ⟨ended, -, state⟩ := cnvCmd_refused (m := m) cmd op
  exact ⟨ended, state⟩

/-- An accepted START enters SOFTSTART and waits. -/
theorem cnvStart_waits (start : argNum a 1 1 = 1) (idle : cnvState s m = 1) (runs : s.running (cnvGroup s m) = true) :
    let u := runOp s r q 0x26 opCnv
    cnvState u m = 2 ∧ u.awaits (.cnvStart m) r q := by
  obtain ⟨t, starts⟩ := cnvStart_starts ((taken_cnvState s r q m).trans idle) ((taken_cnvRunning s r q m).trans runs)
  have op : opCnv (taken s r q) a = (cnvEnter t m 2, .await (.cnvStart m)) := by
    rw [opCnv_start slot start, starts]
    rfl
  obtain ⟨awaits, only⟩ := runOp_awaits cmd op
  exact ⟨(only.fld _ (cnvKeys m).lowState).trans (cnvEnter_state t m (by decide)).1, awaits⟩

/-- STOP of an idle slot ends at once. -/
theorem cnvStop_stays (stop : argNum a 1 1 = 2) (idle : cnvState s m = 1) :
    let u := runOp s r q 0x26 opCnv
    u.ended r q s.mtime .OK none ∧ cnvState u m = 1 := by
  have still := (taken_cnvState s r q m).trans idle
  have op : opCnv (taken s r q) a = (taken s r q, .done .OK none) := by
    rw [opCnv_stop slot stop, cnvStop_idle still]
    rfl
  obtain ⟨ended, only⟩ := runOp_ended cmd op (.refl _)
  exact ⟨ended, (only.fld _ (cnvKeys m).lowState).trans still⟩

/-- STOP of a slot that starts, runs or is limited ends with it idle. -/
theorem cnvStop_ends (stop : argNum a 1 1 = 2) (least : 2 ≤ cnvState s m) (most : cnvState s m ≤ 4) :
    let u := runOp s r q 0x26 opCnv
    u.ended r q s.mtime .OK none ∧ cnvState u m = 1 := by
  have same := taken_cnvState s r q m
  have op : opCnv (taken s r q) a = (cnvEnter (cnvStartEnds (taken s r q) m .CNV_CANCELLED) m 1, .done .OK none) := by
    rw [opCnv_stop slot stop, cnvStop_running (same ▸ least) (same ▸ most)]
    rfl
  obtain ⟨state, kept⟩ := cnvEnter_state (cnvStartEnds (taken s r q) m .CNV_CANCELLED) m (by decide : 1 < 8)
  obtain ⟨ended, only⟩ := runOp_ended cmd op ((Spares.refl _).cnvStartEnds.trans (kept.mono fun _ => .inl))
  exact ⟨ended, (only.fld _ (cnvKeys m).lowState).trans state⟩

/-- CLR outside FAULT is busy. -/
theorem cnvClr_refused (clr : argNum a 1 1 = 3) (sound : cnvState s m ≠ 5) :
    let u := runOp s r q 0x26 opCnv
    u.ended r q s.mtime .CNV_BUSY none ∧ u.fld (CNV_C_STAT_CLR_RESULT m) = s.fld (CNV_C_STAT_CLR_RESULT m) ∧ cnvState u m = cnvState s m := by
  refine cnvCmd_refused cmd ?_
  rw [opCnv_clr slot clr, cnvClr_busy (taken_cnvState s r q m ▸ sound)]
  rfl

/-- CLR in FAULT, with no latched leg and its group running, ends with the slot idle. -/
theorem cnvClr_ends (clr : argNum a 1 1 = 3) (fault : cnvState s m = 5) (sound : cnvLatched s m = false)
    (runs : s.running (cnvGroup s m) = true) :
    let u := runOp s r q 0x26 opCnv
    u.ended r q s.mtime .OK none ∧ u.fld (CNV_C_STAT_CLR_RESULT m) = 1 ∧ cnvState u m = 1 := by
  have keys := cnvKeys m
  have op : opCnv (taken s r q) a =
      (cnvEnter (((taken s r q).put (CNV_C_STAT_CLR_RESULT m) 1).put (CNV_C_STAT_CAUSE m) 0) m 1, .done .OK none) := by
    rw [opCnv_clr slot clr, cnvClr_clears ((taken_cnvState s r q m).trans fault) ((taken_cnvLatched s r q m).trans sound)
      ((taken_cnvRunning s r q m).trans runs)]
    rfl
  have written : Spares startKey (taken s r q) (((taken s r q).put (CNV_C_STAT_CLR_RESULT m) 1).put (CNV_C_STAT_CAUSE m) 0) :=
    ((Spares.refl _).put keys.result).put keys.cause
  have value : (((taken s r q).put (CNV_C_STAT_CLR_RESULT m) 1).put (CNV_C_STAT_CAUSE m) 0).fld (CNV_C_STAT_CLR_RESULT m) = 1 :=
    (State.fld_put_other _ _ _ _ keys.result_cause).trans (State.fld_put_same _ _ _)
  obtain ⟨state, kept⟩ := cnvEnter_state (((taken s r q).put (CNV_C_STAT_CLR_RESULT m) 1).put (CNV_C_STAT_CAUSE m) 0) m (by decide : 1 < 8)
  obtain ⟨ended, only⟩ := runOp_ended cmd op (written.trans (kept.mono fun _ => .inl))
  exact ⟨ended, (only.fld _ keys.lowResult).trans ((kept.fld _ (.inr rfl)).trans value), (only.fld _ keys.lowState).trans state⟩

end

/-! ### The obligation -/

/-- Settles O57: one lemma for each way in which a command of R411 ends or waits. -/
theorem hostOpcodesOfTheFunctions : Obligations.HostOpcodesOfTheFunctions := by
  unfold Obligations.HostOpcodesOfTheFunctions
  intro s r q a m g e j quiet
  refine ⟨fun cmd slot => ⟨_, rfl, torqueSp_ends cmd slot⟩, fun cmd slot => ⟨_, rfl, speedSp_ends cmd slot⟩,
    fun cmd slot => ⟨_, rfl, torqueLim_ends cmd slot⟩, fun up => ⟨?_, ?_, ?_, ?_, ?_⟩, fun cmd group => ⟨?_, ?_, ?_, ?_⟩,
    fun cmd group => ⟨?_, ?_⟩, fun cmd engine => ⟨?_, ?_, ?_, ?_, ?_, ?_, ?_⟩, fun l cmd link => ⟨?_, ?_, ?_⟩,
    fun cmd chopper => ⟨?_, ?_⟩, fun cmd slot => ⟨?_, ?_, ?_, ?_, ?_, ?_⟩, fun cmd slot => ⟨?_, ?_, ?_, ?_, ?_, ?_, ?_⟩⟩
  · exact fun cmd slot => ⟨_, rfl, actSpeedSp_ends up cmd slot⟩
  · exact fun cmd slot => ⟨fun zero => ⟨_, rfl, voutSp_refused up slot cmd zero⟩, fun some => ⟨_, rfl, voutSp_ends up slot cmd some⟩⟩
  · exact fun cmd => ⟨fun high => ⟨_, rfl, chargeSp_refused up cmd high⟩, fun fits => ⟨_, rfl, chargeSp_ends up cmd fits⟩⟩
  · exact fun cmd => ⟨_, rfl, exportSp_ends up cmd⟩
  · exact fun cmd least most => ⟨_, rfl, accessorySp_ends up cmd least most⟩
  · intro start refused
    obtain ⟨alone, ends⟩ := groupRun_refused group quiet cmd start refused
    exact ⟨_, congrArg Host.Outcome.next alone, ends⟩
  · exact fun start master accepted => ⟨_, rfl, groupRun_started group cmd start master accepted⟩
  · intro stop runs
    obtain ⟨alone, waits⟩ := groupRun_stops group quiet cmd stop runs
    exact ⟨_, congrArg Host.Outcome.next alone, waits⟩
  · intro stop idle
    obtain ⟨alone, ends⟩ := groupRun_stopped group quiet cmd stop idle
    exact ⟨_, congrArg Host.Outcome.next alone, ends⟩
  · exact fun inactive => ⟨_, rfl, tripClearCmd_ends cmd group inactive⟩
  · exact fun active => ⟨_, rfl, tripClearCmd_refused cmd group active⟩
  · exact fun arm busy => ⟨_, rfl, engineArm_refused cmd engine arm busy⟩
  · exact fun arm off bank => ⟨_, rfl, engineArm_checks cmd engine arm off bank⟩
  · exact fun stop off => ⟨_, rfl, engineOff_stays cmd engine rfl stop off⟩
  · exact fun disarm run => ⟨_, rfl, engineDisarm_waits cmd engine disarm run⟩
  · exact fun stop on => ⟨_, rfl, engineStop_ends cmd engine stop on⟩
  · exact fun swap off single => ⟨_, rfl, engineSwap_ends cmd engine swap off single⟩
  · exact fun swap on => ⟨_, rfl, engineSwap_waits cmd engine swap on⟩
  · exact fun absent => ⟨_, rfl, satClearCmd_absent cmd link absent⟩
  · exact fun fitted lost few => ⟨_, rfl, satClearCmd_lost cmd link l.isLt fitted lost few⟩
  · exact fun fitted alive => ⟨_, rfl, satClearCmd_waits cmd link fitted alive⟩
  · exact fun free => ⟨_, rfl, chopClearCmd_ends cmd chopper free⟩
  · exact fun enabled gone cause stands => ⟨_, rfl, chopClearCmd_refused cmd chopper enabled gone cause stands⟩
  · intro run busy
    obtain ⟨alone, ends⟩ := actRun_refused cmd slot quiet run (by decide) (actRun_busy (taken_actState s r q.toNat m ▸ busy))
    exact ⟨_, congrArg Host.Outcome.next alone, ends⟩
  · intro run idle stopped
    obtain ⟨alone, ended, state⟩ := actRun_refused cmd slot quiet run (by decide)
      (actRun_stopped ((taken_actState s r q.toNat m).trans idle) ((taken_actRunning s r q.toNat m).trans stopped))
    exact ⟨_, congrArg Host.Outcome.next alone, ended, state.trans idle⟩
  · exact fun run idle runs => ⟨_, rfl, actRun_waits cmd slot run idle runs⟩
  · exact fun stop closed => ⟨_, rfl, actStop_waits cmd slot stop closed⟩
  · intro stop idle
    obtain ⟨alone, ends⟩ := actStop_ends cmd slot quiet stop idle
    exact ⟨_, congrArg Host.Outcome.next alone, ends⟩
  · intro clr sound
    obtain ⟨alone, ends⟩ := actClr_ends cmd slot quiet clr sound
    exact ⟨_, congrArg Host.Outcome.next alone, ends⟩
  · exact fun start busy => ⟨_, rfl, cnvStart_refused cmd slot start (by decide) (cnvStart_busy (taken_cnvState s r q.toNat m ▸ busy))⟩
  · intro start idle stopped
    obtain ⟨ended, state⟩ := cnvStart_refused cmd slot start (by decide)
      (cnvStart_stopped ((taken_cnvState s r q.toNat m).trans idle) ((taken_cnvRunning s r q.toNat m).trans stopped))
    exact ⟨_, rfl, ended, state.trans idle⟩
  · exact fun start idle runs => ⟨_, rfl, cnvStart_waits cmd slot start idle runs⟩
  · exact fun stop idle => ⟨_, rfl, cnvStop_stays cmd slot stop idle⟩
  · exact fun stop least most => ⟨_, rfl, cnvStop_ends cmd slot stop least most⟩
  · exact fun clr sound => ⟨_, rfl, cnvClr_refused cmd slot clr sound⟩
  · exact fun clr fault sound runs => ⟨_, rfl, cnvClr_ends cmd slot clr fault sound runs⟩

end Sys2Proof.Machine
end

section
/-! SUPPORT and PROOFS of the edge-link frames (chapter 04): the fields of a frame, and the linearity of its CRC, by which every error of
one bit shows. -/

namespace Sys2Proof.Machine

/-! ### Bits of a number -/

theorem bitsOf_xor (a b lo w : Nat) : bitsOf (a ^^^ b) lo w = bitsOf a lo w ^^^ bitsOf b lo w := by
  simp only [bitsOf, Nat.shiftRight_xor_distrib, Nat.xor_mod_two_pow]

/-- A field within a field. -/
theorem bitsOf_bitsOf (n lo w : Nat) {lo' w' : Nat} (within : lo' + w' ≤ w) : bitsOf (bitsOf n lo w) lo' w' = bitsOf n (lo + lo') w' := by
  refine Nat.eq_of_testBit_eq fun i => ?_
  by_cases low : i < w'
  · have inner : lo' + i < w := by omega
    simp [bitsOf, Nat.testBit_shiftRight, Nat.testBit_mod_two_pow, low, inner, Nat.add_assoc]
  · simp [bitsOf, Nat.testBit_mod_two_pow, low]

theorem bitsOf_eq (n lo w : Nat) : bitsOf n lo w = n / 2 ^ lo % 2 ^ w := by rw [bitsOf, Nat.shiftRight_eq_div_pow]

/-! ### Edge-link frames (R108-R110) -/

theorem crc8Step_lt (c : Nat) (b : Bool) : crc8Step c b < 2 ^ 8 := by
  have doubled : 2 * c % 256 < 2 ^ 8 := Nat.mod_lt _ (by decide)
  simp only [crc8Step]
  split
  · exact Nat.xor_lt_two_pow doubled (by decide)
  · exact doubled

theorem crc8_lt {c : Nat} (h : c < 2 ^ 8) (v n : Nat) : crc8 c v n < 2 ^ 8 := by
  induction n generalizing c with
  | zero => exact h
  | succ n ih => exact ih (crc8Step_lt c _)

/-- A step of the CRC is linear in the register and the bit. -/
theorem crc8Step_xor (c d : Nat) (a b : Bool) : crc8Step (c ^^^ d) (a ^^ b) = crc8Step c a ^^^ crc8Step d b := by
  have doubled : 2 * (c ^^^ d) % 256 = 2 * c % 256 ^^^ 2 * d % 256 := by
    have twice (x : Nat) : 2 * x = x <<< 1 := by rw [Nat.shiftLeft_eq, Nat.pow_one, Nat.mul_comm]
    rw [twice, twice, twice, Nat.shiftLeft_xor_distrib, Nat.xor_mod_two_pow (n := 8)]
  simp only [crc8Step, doubled, Nat.testBit_xor]
  generalize 2 * c % 256 = x
  generalize 2 * d % 256 = y
  cases c.testBit 7 <;> cases d.testBit 7 <;> cases a <;> cases b <;>
    simp [Nat.xor_assoc, Nat.xor_comm, Nat.xor_left_comm]

/-- The CRC is linear. -/
theorem crc8_xor (c d v w n : Nat) : crc8 (c ^^^ d) (v ^^^ w) n = crc8 c v n ^^^ crc8 d w n := by
  induction n generalizing c d with
  | zero => rfl
  | succ n ih => simp only [crc8, Nat.testBit_xor, crc8Step_xor, ih]

/-- The fields of a frame: framing bits, TYPE and BODY together, CRC. -/
theorem mkFrame_fields {ty body : Nat} (type : ty < 16) (small : body < 2 ^ 24) :
    bitsOf (mkFrame ty body).toNat 36 4 = 0b1011 ∧ bitsOf (mkFrame ty body).toNat 8 28 = ty * 2 ^ 24 + body ∧
      bitsOf (mkFrame ty body).toNat 0 8 = crc8 0xFF (ty * 2 ^ 24 + body) 28 := by
  have code := crc8_lt (c := 0xFF) (by decide) (ty * 2 ^ 24 + body) 28
  have number : (mkFrame ty body).toNat =
      0b1011 * 2 ^ 36 + (ty * 2 ^ 24 + body) * 2 ^ 8 + crc8 0xFF (ty * 2 ^ 24 + body) 28 := by
    simp only [mkFrame, Nat.mod_eq_of_lt type, Nat.mod_eq_of_lt small, BitVec.toNat_ofNat]
    omega
  simp only [bitsOf_eq, number]
  omega

/-- A frame reads back as its TYPE and BODY. -/
theorem frame_mkFrame {ty body : Nat} (type : ty < 16) (small : body < 2 ^ 24) :
    frameType (mkFrame ty body) = ty ∧ frameBody (mkFrame ty body) = body := by
  obtain ⟨-, payload, -⟩ := mkFrame_fields type small
  constructor
  · rw [frameType, show 32 = 8 + 24 from rfl, ← bitsOf_bitsOf _ 8 28 (by decide), payload, bitsOf_eq]
    omega
  · rw [frameBody, show 8 = 8 + 0 from rfl, ← bitsOf_bitsOf _ 8 28 (by decide), payload, bitsOf_eq]
    omega

theorem frameSound_iff (f : BitVec 40) :
    frameSound f = true ↔ bitsOf f.toNat 36 4 = 0b1011 ∧ crc8 0xFF (bitsOf f.toNat 8 28) 28 = bitsOf f.toNat 0 8 := by
  simp only [frameSound, Bool.and_eq_true, decide_eq_true_eq]

theorem frameSound_mkFrame {ty body : Nat} (type : ty < 16) (small : body < 2 ^ 24) : frameSound (mkFrame ty body) = true := by
  obtain ⟨framing, payload, code⟩ := mkFrame_fields type small
  rw [frameSound_iff, framing, payload, code]
  exact ⟨rfl, rfl⟩

/-- An error that a sound frame does not show: it spares the framing bits and is itself a code word of the CRC. -/
def hiddenError (e : Nat) : Bool := bitsOf e 36 4 = 0 && crc8 0 (bitsOf e 8 28) 28 = bitsOf e 0 8

/-- By the CRC's linearity, whether a sound frame stays sound is a property of the error alone. -/
theorem frameSound_xor {f : BitVec 40} (sound : frameSound f = true) (e : BitVec 40) :
    frameSound (f ^^^ e) = true ↔ hiddenError e.toNat = true := by
  obtain ⟨framing, code⟩ := (frameSound_iff f).1 sound
  have split := crc8_xor 0xFF 0 (bitsOf f.toNat 8 28) (bitsOf e.toNat 8 28) 28
  rw [Nat.xor_zero, code] at split
  simp only [frameSound_iff, hiddenError, BitVec.toNat_xor, bitsOf_xor, framing, split, Bool.and_eq_true, decide_eq_true_eq,
    Nat.xor_right_inj]
  refine and_congr_left fun _ => ⟨fun h => ?_, fun h => by rw [h]; rfl⟩
  exact Nat.xor_right_inj.1 h

/-- Every error of one bit shows. -/
theorem hiddenError_one_bit : ∀ i : Fin 40, hiddenError (2 ^ i.val) = false := by decide +kernel

/-- Settles O24: a sound frame's CRC agrees by construction, and `frameSound_xor` reduces a flipped bit to the 40 errors of one bit. -/
theorem framesRoundTrip : Obligations.FramesRoundTrip := by
  intro ty body type small
  have sound := frameSound_mkFrame type small
  obtain ⟨typeRead, bodyRead⟩ := frame_mkFrame type small
  refine ⟨sound, typeRead, bodyRead, fun i => ?_⟩
  have flip : (BitVec.ofNat 40 (2 ^ i.val)).toNat = 2 ^ i.val :=
    (BitVec.toNat_ofNat _ _).trans (Nat.mod_eq_of_lt (Nat.pow_lt_pow_right (by decide) i.isLt))
  rw [Bool.eq_false_iff, Ne, frameSound_xor sound, flip, hiddenError_one_bit i]
  exact Bool.false_ne_true

end Sys2Proof.Machine
end

section
/-! SUPPORT and PROOFS of the down frames at a satellite or driver (chapter 04): what a receiver does with a frame before its body acts,
its answers on the up link, and the frames one by one. -/

namespace Sys2Proof.Machine

/-! ### The state of a receiver -/

theorem State.rxOf_setRx_other (s : State) {l k : Nat} (h : k ≠ l) (r : Rx) : (s.setRx l r).rxOf k = s.rxOf k :=
  Tbl.get_set_other _ _ _ h _

/-- What an act on receivers alone leaves alone. -/
structure RxOnly (s t : State) : Prop where
  regs : t.regs = s.regs
  out : t.out = s.out
  words : t.words = s.words
  bytes : t.bytes = s.bytes
  mtime : t.mtime = s.mtime

section
variable {r s t : State}

theorem RxOnly.refl (s : State) : RxOnly s s := ⟨rfl, rfl, rfl, rfl, rfl⟩

theorem RxOnly.trans (h : RxOnly r s) (k : RxOnly s t) : RxOnly r t :=
  ⟨k.regs.trans h.regs, k.out.trans h.out, k.words.trans h.words, k.bytes.trans h.bytes, k.mtime.trans h.mtime⟩

theorem RxOnly.setRx {l : Nat} {v : Rx} (h : RxOnly r s) : RxOnly r (s.setRx l v) := ⟨h.regs, h.out, h.words, h.bytes, h.mtime⟩

theorem RxOnly.ite {c : Prop} [Decidable c] (h : RxOnly r s) (k : RxOnly r t) : RxOnly r (if c then s else t) := by
  split <;> assumption

/-- The receiver's copy of module time. -/
theorem RxOnly.localTaps (h : RxOnly s t) {x y : Rx} (ofs : y.ofs = x.ofs) : localTaps t y = localTaps s x := by
  simp only [Machine.localTaps, h.mtime, ofs]

end

/-! ### The up link (R110) -/

section
variable (s : State) (l ty body : Nat)

@[simp] theorem State.up_regs : (s.up l ty body).regs = s.regs := by unfold State.up; dsimp only; split <;> rfl

@[simp] theorem State.up_mtime : (s.up l ty body).mtime = s.mtime := by unfold State.up; dsimp only; split <;> rfl

/-- A frame that becomes ready changes nothing of its sender but the up link. -/
theorem State.up_part {p : Rx → β} (apart : ∀ r busy queue, p { r with upBusy := busy, upq := queue } = p r) :
    p ((s.up l ty body).rxOf l) = p (s.rxOf l) := by
  by_cases idle : (s.rxOf l).upBusy = 0
  · rw [State.up_idle ty body idle]
    exact (congrArg p (State.rxOf_setRx_same _ _ _)).trans (apart _ _ _)
  · rw [State.up_busy ty body idle, State.rxOf_setRx_same]
    exact apart _ _ _

theorem State.rxOf_up_other {k : Nat} (h : k ≠ l) : (s.up l ty body).rxOf k = s.rxOf k := by
  unfold State.up
  dsimp only
  split <;> exact State.rxOf_setRx_other _ h _

variable {s l}

/-- On an idle link the frame leaves at once and keeps the link for 64 ticks. -/
theorem State.up_leaves (idle : (s.rxOf l).upBusy = 0) : (s.up l ty body).out = s.out ++ [.up l (mkFrame ty body)] ∧
    ((s.up l ty body).rxOf l).upBusy = 64 ∧ ((s.up l ty body).rxOf l).upq = (s.rxOf l).upq := by
  have sender : (s.up l ty body).rxOf l = { s.rxOf l with upBusy := 64 } := by
    rw [State.up_idle ty body idle]
    exact State.rxOf_setRx_same _ _ _
  refine ⟨?_, (congrArg Rx.upBusy sender :), (congrArg Rx.upq sender :)⟩
  rw [State.up_idle ty body idle]
  rfl

/-- On a busy link it waits in the order of R110. -/
theorem State.up_waits (busy : (s.rxOf l).upBusy ≠ 0) : (s.up l ty body).out = s.out ∧
    ((s.up l ty body).rxOf l).upq = insertUp (mkFrame ty body) (s.rxOf l).upq := by
  rw [State.up_busy ty body busy]
  exact ⟨rfl, congrArg Rx.upq (State.rxOf_setRx_same _ _ _)⟩

end

theorem insertUp_length (f : BitVec 40) (q : List (BitVec 40)) : (insertUp f q).length = q.length + 1 := by
  induction q with
  | nil => rfl
  | cons a q ih =>
    unfold insertUp
    split
    · rfl
    · exact congrArg (· + 1) ih

/-! ### Off by a sequence event (R113) -/

theorem Rx.seqOff_run {r : Rx} (run : r.state = .run) :
    r.seqOff = { r with ch := r.ch.turnOff, hs := r.hs.turnOff, pend := r.pend.filter fun e => !e.on, holdSeq := true } := if_pos run

theorem Rx.seqOff_other {r : Rx} (h : r.state ≠ .run) : r.seqOff = r := if_neg h

/-- What a sequence event leaves of a receiver in RUN: channels off and held, no on-edge to come. -/
def Rx.HeldOff (r : Rx) : Prop := r.ch.gate ≠ .on ∧ r.hs.gate ≠ .on ∧ r.holdSeq = true ∧ ∀ e ∈ r.pend, e.on = false

theorem PendEdge.off_of_mem_filter {q : List PendEdge} : ∀ e ∈ q.filter (fun e => !e.on), e.on = false :=
  fun _ mem => by simpa using (List.mem_filter.1 mem).2

theorem Rx.seqOff_heldOff {r : Rx} (run : r.state = .run) : r.seqOff.HeldOff := by
  rw [Rx.seqOff_run run]
  exact ⟨r.ch.turnOff_gate, r.hs.turnOff_gate, rfl, PendEdge.off_of_mem_filter⟩

/-! ### A frame before its body acts (R108, R109) -/

theorem bodyBits_mkFrame {ty body hi lo : Nat} (type : ty < 16) (small : body < 2 ^ 24) (low : 8 ≤ lo) (order : lo ≤ hi) (high : hi ≤ 31) :
    bodyBits (mkFrame ty body) hi lo = body / 2 ^ (lo - 8) % 2 ^ (hi + 1 - lo) := by
  have within (f : BitVec 40) : bodyBits f hi lo = bitsOf (frameBody f) (lo - 8) (hi + 1 - lo) := by
    rw [frameBody, bitsOf_bitsOf _ _ _ (by omega), Nat.add_sub_cancel' low, bodyBits]
  rw [within, (frame_mkFrame type small).2, bitsOf_eq]

theorem onDown_reset {s : State} {l : Nat} (f : BitVec 40) (ty : Nat) (act : State → State) (reset : (s.rxOf l).state = .reset) :
    onDown s l f ty act = s := if_pos reset

theorem onDown_discard {s : State} {l : Nat} {f : BitVec 40} (ty : Nat) (act : State → State) (powered : (s.rxOf l).state ≠ .reset)
    (broken : frameSound f = false) : onDown s l f ty act = discardDown s l := by
  simp [onDown, powered, readFrame, broken]

/-- A receiver whose down link is heard. -/
def heard (s : State) (l : Nat) : State := s.setRx l { s.rxOf l with downSilent := false }

theorem heard_rxOf (s : State) (l : Nat) : (heard s l).rxOf l = { s.rxOf l with downSilent := false } := State.rxOf_setRx_same _ _ _

/-- A sound frame of the expected TYPE hands its body on; outside ORPHAN nothing else changes but the end of a silence. -/
theorem onDown_body {s : State} {l ty body : Nat} (act : State → State) (type : ty ≤ 9) (small : body < 2 ^ 24)
    (powered : (s.rxOf l).state ≠ .reset) (led : (s.rxOf l).state ≠ .orphan) :
    onDown s l (mkFrame ty body) ty act = act (heard s l) := by
  have nibble : ty < 16 := by omega
  have read : readFrame (mkFrame ty body) ty 9 = .body := by
    simp [readFrame, frameSound_mkFrame nibble small, (frame_mkFrame nibble small).1, Nat.not_lt.2 type]
  have stays : (s.rxOf l).gotFrame (isLv l) = { s.rxOf l with downSilent := false } := by simp [Rx.gotFrame, led]
  simp only [onDown, powered, if_false, read, stays]
  rfl

/-- FRAME_DISCARD: the receiver, and what it leaves alone. -/
theorem discardDown_rxOf (s : State) (l : Nat) : (discardDown s l).rxOf l = { (s.rxOf l).seqOff with gapNext := true } := by
  unfold discardDown
  dsimp only
  split <;> exact State.rxOf_setRx_same _ _ _

theorem discardDown_frame (s : State) (l : Nat) : (discardDown s l).out = s.out ∧ (discardDown s l).words = s.words ∧
    (discardDown s l).bytes = s.bytes ∧ (48 ≤ l → (discardDown s l).regs = s.regs) := by
  unfold discardDown
  dsimp only
  split
  · exact ⟨rfl, rfl, rfl, fun _ => by omega⟩
  · exact ⟨rfl, rfl, rfl, fun _ => rfl⟩

/-! ### CUT and RESUME (R109, R124) -/

theorem takeCut_only (s : State) (l : Nat) : RxOnly s (takeCut s l) := .ite (RxOnly.refl s).setRx (RxOnly.refl s)

/-- CUT turns a channel in RUN off and cancels its on-edges; in another state it leaves the channels. -/
theorem takeCut_frame (s : State) (l : Nat) :
    ((s.rxOf l).state = .run → ((takeCut s l).rxOf l).ch.gate ≠ .on ∧ ((takeCut s l).rxOf l).hs.gate ≠ .on ∧
      ∀ e ∈ ((takeCut s l).rxOf l).pend, e.on = false) ∧
    ((s.rxOf l).state ≠ .run → ((takeCut s l).rxOf l).ch = (s.rxOf l).ch ∧ ((takeCut s l).rxOf l).hs = (s.rxOf l).hs) ∧
    ((takeCut s l).rxOf l).state = (s.rxOf l).state := by
  unfold takeCut
  dsimp only
  split
  next run =>
    rw [State.rxOf_setRx_same]
    exact ⟨fun _ => ⟨(s.rxOf l).ch.turnOff_gate, (s.rxOf l).hs.turnOff_gate, PendEdge.off_of_mem_filter⟩,
      fun other => absurd run other, rfl⟩
  next other => exact ⟨fun run => absurd run other, fun _ => ⟨rfl, rfl⟩, rfl⟩

theorem takeResume_only (s : State) (l : Nat) : RxOnly s (takeResume s l) := (RxOnly.refl s).setRx

theorem takeResume_rxOf (s : State) (l : Nat) : ((takeResume s l).rxOf l).xhold = false ∧
    ((takeResume s l).rxOf l).state = if (s.rxOf l).state = .armed then .run else (s.rxOf l).state := by
  unfold takeResume
  dsimp only
  rw [State.rxOf_setRx_same]
  split <;> exact ⟨rfl, rfl⟩

/-! ### CLEAR (R121) -/

theorem Chan.want_latch (c : Chan) : c.want.latch = c.latch := by
  unfold Chan.want
  split <;> rfl

/-- The latches of a receiver and its up link, which no permit and no policy touches. -/
def Rx.latchesAndLink (r : Rx) : Bool × Bool × Nat × List (BitVec 40) := (r.ch.latch, r.hs.latch, r.upBusy, r.upq)

theorem Rx.enterHeld_latchesAndLink (r : Rx) (lv : Bool) : (r.enterHeld lv).latchesAndLink = r.latchesAndLink := by
  unfold Rx.enterHeld Rx.safeOn
  cases lv <;> split <;> simp [Rx.latchesAndLink, Rx.allOff, Chan.turnOff, Chan.want_latch]

theorem Rx.applyOrphan_latchesAndLink (r : Rx) (lv : Bool) : (r.applyOrphan lv).latchesAndLink = r.latchesAndLink := by
  unfold Rx.applyOrphan
  dsimp only
  cases lv <;> split <;> simp [Rx.latchesAndLink, Rx.allOff, Chan.turnOff, Chan.want_latch]

theorem Rx.rejoin_latchesAndLink (r : Rx) (lv : Bool) : (r.rejoin lv).latchesAndLink = r.latchesAndLink := by
  unfold Rx.rejoin
  split
  · exact r.enterHeld_latchesAndLink lv
  · exact r.applyOrphan_latchesAndLink lv
  · rfl

/-- The receiver when a CLEAR is answered. -/
def cleared (s : State) (l : Nat) : State :=
  if (s.rxOf l).uv || (s.rxOf l).vneg || (s.rxOf l).drvUv then s
  else s.setRx l (Rx.rejoin { s.rxOf l with ch := (s.rxOf l).ch.clear, hs := (s.rxOf l).hs.clear } (isLv l))

theorem cleared_only (s : State) (l : Nat) : RxOnly s (cleared s l) := .ite (RxOnly.refl s) (RxOnly.refl s).setRx

/-- A supply fault keeps both latches; without one both are cleared. -/
theorem cleared_latchesAndLink (s : State) (l : Nat) : ((cleared s l).rxOf l).latchesAndLink =
    if (s.rxOf l).uv || (s.rxOf l).vneg || (s.rxOf l).drvUv then (s.rxOf l).latchesAndLink
    else (false, false, (s.rxOf l).upBusy, (s.rxOf l).upq) := by
  unfold cleared
  split
  · rfl
  · rw [State.rxOf_setRx_same, Rx.rejoin_latchesAndLink]
    rfl

/-- The answer to CLEAR is one frame of TYPE 0. -/
theorem takeClear_eq (s : State) (l : Nat) : ∃ body, takeClear s l = (cleared s l).up l 0 body := ⟨_, rfl⟩

theorem takeClear_regs (s : State) (l : Nat) : (takeClear s l).regs = s.regs := by
  obtain ⟨body, answer⟩ := takeClear_eq s l
  rw [answer, State.up_regs, (cleared_only s l).regs]

theorem takeClear_latches (s : State) (l : Nat) :
    ((takeClear s l).rxOf l).ch.latch = ((cleared s l).rxOf l).ch.latch ∧
    ((takeClear s l).rxOf l).hs.latch = ((cleared s l).rxOf l).hs.latch := by
  obtain ⟨body, answer⟩ := takeClear_eq s l
  rw [answer]
  exact ⟨State.up_part (p := fun r => r.ch.latch) _ _ _ _ fun _ _ _ => rfl,
    State.up_part (p := fun r => r.hs.latch) _ _ _ _ fun _ _ _ => rfl⟩

theorem takeClear_accepts {s : State} {l : Nat} (uv : (s.rxOf l).uv = false) (vneg : (s.rxOf l).vneg = false)
    (drvUv : (s.rxOf l).drvUv = false) : ((takeClear s l).rxOf l).ch.latch = false ∧ ((takeClear s l).rxOf l).hs.latch = false := by
  have latches := cleared_latchesAndLink s l
  rw [uv, vneg, drvUv] at latches
  obtain ⟨ch, hs⟩ := takeClear_latches s l
  exact ⟨ch.trans (congrArg Prod.fst latches), hs.trans (congrArg (fun x => x.2.1) latches)⟩

theorem takeClear_refuses {s : State} {l : Nat} (supply : (s.rxOf l).uv = true ∨ (s.rxOf l).vneg = true ∨ (s.rxOf l).drvUv = true) :
    ((takeClear s l).rxOf l).ch.latch = (s.rxOf l).ch.latch ∧ ((takeClear s l).rxOf l).hs.latch = (s.rxOf l).hs.latch := by
  have latches := cleared_latchesAndLink s l
  rw [if_pos (by simpa [or_assoc] using supply)] at latches
  obtain ⟨ch, hs⟩ := takeClear_latches s l
  exact ⟨ch.trans (congrArg Prod.fst latches), hs.trans (congrArg (fun x => x.2.1) latches)⟩

/-- The answer leaves or waits as any frame does. -/
theorem takeClear_answers (s : State) (l : Nat) :
    ((s.rxOf l).upBusy = 0 → (takeClear s l).out.length = s.out.length + 1) ∧
    ((s.rxOf l).upBusy ≠ 0 → (takeClear s l).out = s.out ∧ ((takeClear s l).rxOf l).upq.length = (s.rxOf l).upq.length + 1) := by
  obtain ⟨body, answer⟩ := takeClear_eq s l
  have link : ((cleared s l).rxOf l).upBusy = (s.rxOf l).upBusy ∧ ((cleared s l).rxOf l).upq = (s.rxOf l).upq := by
    have kept := cleared_latchesAndLink s l
    split at kept <;> simp only [Rx.latchesAndLink, Prod.mk.injEq] at kept <;> exact kept.2.2
  rw [answer, ← link.1, ← link.2, ← (cleared_only s l).out]
  refine ⟨fun idle => ?_, fun busy => ?_⟩
  · rw [(State.up_leaves 0 body idle).1, List.length_append, List.length_singleton]
  · obtain ⟨out, queue⟩ := State.up_waits 0 body busy
    exact ⟨out, by rw [queue, insertUp_length]⟩

/-! ### Answers (R109, R110) -/

/-- The answer of a receiver that has been heard. -/
theorem heard_answers (s : State) (l ty body : Nat) : ((heard s l).up l ty body).regs = s.regs ∧
    ((s.rxOf l).upBusy = 0 → ((heard s l).up l ty body).out = s.out ++ [.up l (mkFrame ty body)] ∧
      (((heard s l).up l ty body).rxOf l).upBusy = 64) ∧
    ((s.rxOf l).upBusy ≠ 0 → ((heard s l).up l ty body).out = s.out ∧
      (((heard s l).up l ty body).rxOf l).upq = insertUp (mkFrame ty body) (s.rxOf l).upq) := by
  have link : ((heard s l).rxOf l).upBusy = (s.rxOf l).upBusy ∧ ((heard s l).rxOf l).upq = (s.rxOf l).upq := by
    rw [heard_rxOf]
    exact ⟨rfl, rfl⟩
  refine ⟨State.up_regs _ _ _ _, fun idle => ?_, fun busy => ?_⟩
  · obtain ⟨out, sends, -⟩ := State.up_leaves ty body (link.1.trans idle)
    exact ⟨out, sends⟩
  · rw [← link.2]
    exact State.up_waits ty body (link.1.symm ▸ busy)

/-- IDENT_REQ: the two halves of the identity, the second behind the first. -/
theorem takeIdentReq_answers {s : State} {l : Nat} (idle : (s.rxOf l).upBusy = 0) :
    (takeIdentReq s l).out = s.out ++ [.up l (mkFrame 7 (Config.identity l % 2 ^ 23))] ∧
    ((takeIdentReq s l).rxOf l).upq = insertUp (mkFrame 7 (2 ^ 23 + Config.identity l / 2 ^ 23 % 2 ^ 23)) (s.rxOf l).upq := by
  have low : Config.identity l % 2 ^ 46 % 2 ^ 23 = Config.identity l % 2 ^ 23 := by omega
  have high : Config.identity l % 2 ^ 46 / 2 ^ 23 = Config.identity l / 2 ^ 23 % 2 ^ 23 := by omega
  simp only [takeIdentReq, low, high]
  obtain ⟨out, busy, queue⟩ := State.up_leaves 7 (Config.identity l % 2 ^ 23) idle
  obtain ⟨same, waits⟩ := State.up_waits (s := s.up l 7 (Config.identity l % 2 ^ 23)) (l := l) 7
    (2 ^ 23 + Config.identity l / 2 ^ 23 % 2 ^ 23) (by rw [busy]; decide)
  exact ⟨same.trans out, waits.trans (by rw [queue])⟩

theorem takeCfgWr_cfg {s : State} {l body : Nat} (small : body < 2 ^ 24) :
    Tbl.get 0 ((takeCfgWr s l (mkFrame 4 body)).rxOf l).cfg (body / 2 ^ 17) = body % 2 ^ 17 := by
  have addr : body / 2 ^ 17 % 2 ^ 7 = body / 2 ^ 17 := by omega
  simp only [takeCfgWr, State.rxOf_setRx_same, bodyBits_mkFrame (ty := 4) (by decide) small, Nat.le_refl, Nat.reduceLeDiff, Nat.reduceSub,
    Nat.reduceAdd, Nat.pow_zero, Nat.div_one, addr, Tbl.get_set_same]

theorem takeCfgRd_eq {s : State} {l body : Nat} (small : body < 2 ^ 24) :
    takeCfgRd s l (mkFrame 5 body) = s.up l 3 (body / 2 ^ 17 * 2 ^ 17 + Tbl.get 0 (s.rxOf l).cfg (body / 2 ^ 17)) := by
  have addr : bodyBits (mkFrame 5 body) 31 25 = body / 2 ^ 17 := by
    rw [bodyBits_mkFrame (by decide) small (by decide) (by decide) (by decide)]
    omega
  simp only [takeCfgRd, addr]

/-- Settles O25, frame by frame. -/
theorem downFramesAtAReceiver : Obligations.DownFramesAtAReceiver := by
  intro s l f
  refine ⟨fun reset => ?_, fun powered broken => ?_, fun powered led body small => ?_⟩
  · have ignored (ty : Nat) (act : State → State) : (Host.Outcome.next (onDown s l f ty act) : Host.Outcome State Fault Refusal) = .next s :=
      congrArg _ (onDown_reset f ty act reset)
    exact ⟨ignored _ _, ignored _ _, ignored _ _, ignored _ _, ignored _ _⟩
  · have dropped (ty : Nat) (act : State → State) :
        (Host.Outcome.next (onDown s l f ty act) : Host.Outcome State Fault Refusal) = .next (discardDown s l) :=
      congrArg _ (onDown_discard ty act powered broken)
    refine ⟨discardDown s l, dropped _ _, dropped _ _, dropped _ _, dropped _ _, dropped _ _, ?_⟩
    rw [discardDown_rxOf]
    exact ⟨rfl, fun run => Rx.seqOff_heldOff run, fun other => by rw [Rx.seqOff_other other]; exact ⟨rfl, rfl⟩,
      discardDown_frame s l⟩
  have taken {ty : Nat} (type : ty ≤ 9) (act : State → State) :
      (Host.Outcome.next (onDown s l (mkFrame ty body) ty act) : Host.Outcome State Fault Refusal) = .next (act (heard s l)) :=
    congrArg _ (onDown_body act type small powered led)
  have rx := heard_rxOf s l
  refine ⟨⟨_, taken (by decide) _, ?_⟩, ⟨_, taken (by decide) _, ?_⟩, fun uv vneg drvUv => ⟨_, taken (by decide) _, ?_⟩,
    fun supply => ⟨_, taken (by decide) _, ?_⟩, ⟨_, taken (by decide) _, ?_⟩, ?_, ⟨_, taken (by decide) _, heard_answers s l 6 0⟩,
    ⟨_, taken (by decide) _, ?_⟩⟩
  · have frame := takeCut_frame (heard s l) l
    rw [rx] at frame
    have only := takeCut_only (heard s l) l
    exact ⟨frame.1, frame.2.1, frame.2.2, only.regs, only.out, only.words⟩
  · have frame := takeResume_rxOf (heard s l) l
    rw [rx] at frame
    have only := takeResume_only (heard s l) l
    exact ⟨frame.1, frame.2, only.regs, only.out, only.words⟩
  · obtain ⟨ch, hs⟩ := takeClear_accepts (s := heard s l) (l := l) (by rw [rx]; exact uv) (by rw [rx]; exact vneg) (by rw [rx]; exact drvUv)
    have answers := takeClear_answers (heard s l) l
    rw [rx] at answers
    exact ⟨ch, hs, takeClear_regs _ _, answers⟩
  · obtain ⟨ch, hs⟩ := takeClear_refuses (s := heard s l) (l := l) (by rw [rx]; exact supply)
    have answers := takeClear_answers (heard s l) l
    rw [rx] at ch hs answers
    exact ⟨ch, hs, takeClear_regs _ _, answers.1⟩
  · exact ⟨takeCfgWr_cfg small, rfl, rfl⟩
  · intro answer value
    subst value
    refine ⟨_, taken (by decide) _, ?_⟩
    rw [takeCfgRd_eq small, rx]
    exact heard_answers s l 3 _
  · have answers := takeIdentReq_answers (s := heard s l) (l := l)
    rw [rx] at answers
    exact ⟨by simp only [takeIdentReq, State.up_regs]; rfl, fun idle => answers idle⟩

end Sys2Proof.Machine
end

section
/-! SUPPORT and PROOFS of the timed down frames (chapter 04): TIME, EDGE, TRANSITION and DTSET. -/

namespace Sys2Proof.Machine

@[simp] theorem localTaps_setRx (s : State) (l : Nat) (v r : Rx) : localTaps (s.setRx l v) r = localTaps s r := rfl

/-! ### TIME (R112) -/

theorem Rx.applyOrphan_timing (r : Rx) (lv : Bool) : (r.applyOrphan lv).ofs = r.ofs ∧ (r.applyOrphan lv).needGood = r.needGood := by
  simp only [Rx.applyOrphan]
  split
  · exact ⟨rfl, rfl⟩
  · split <;> exact ⟨rfl, rfl⟩
  · exact ⟨rfl, rfl⟩

section
variable {s : State} {l v : Nat} (led : (s.rxOf l).state ≠ .orphan)

theorem takeTime_only (s : State) (l v : Nat) : RxOnly s (takeTime s l v) :=
  .ite (RxOnly.refl s).setRx <| .ite (RxOnly.refl s).setRx (RxOnly.refl s).setRx

include led in
/-- A difference of at most one tick ends the run of slips. -/
theorem takeTime_near (near : (timeDiff s (s.rxOf l) v).natAbs ≤ 32) : (takeTime s l v).rxOf l =
    { s.rxOf l with ofs := (s.rxOf l).ofs + timeDiff s (s.rxOf l) v, slips := 0, needGood := (s.rxOf l).needGood - 1, downSilent := false } := by
  simp only [takeTime, near, if_true, State.rxOf_setRx_same, Rx.gotFrame]
  simp [led]

/-- A larger one counts. -/
theorem takeTime_slip (far : 32 < (timeDiff s (s.rxOf l) v).natAbs) (few : (s.rxOf l).slips < 2) (good : (s.rxOf l).needGood = 0) :
    (takeTime s l v).rxOf l = { s.rxOf l with ofs := (s.rxOf l).ofs + timeDiff s (s.rxOf l) v, slips := (s.rxOf l).slips + 1 } := by
  have second : ¬ (3 ≤ (s.rxOf l).slips + 1) := by omega
  simp [takeTime, Nat.not_le.2 far, second, good, State.rxOf_setRx_same]

/-- The third in a row, and any while good TIME frames are awaited, leads to ORPHAN until four of them have come. -/
theorem takeTime_orphan (far : 32 < (timeDiff s (s.rxOf l) v).natAbs) (late : 2 ≤ (s.rxOf l).slips ∨ 0 < (s.rxOf l).needGood) :
    ((takeTime s l v).rxOf l).state = .orphan ∧ ((takeTime s l v).rxOf l).needGood = 4 ∧
      ((takeTime s l v).rxOf l).ofs = (s.rxOf l).ofs + timeDiff s (s.rxOf l) v := by
  have third : 3 ≤ (s.rxOf l).slips + 1 ∨ 0 < (s.rxOf l).needGood := by omega
  simp only [takeTime, Nat.not_le.2 far, if_false, Bool.or_eq_true, decide_eq_true_eq, third, if_true, State.rxOf_setRx_same]
  exact ⟨(Rx.applyOrphan_orphan _ _).1, (Rx.applyOrphan_timing _ _).2, (Rx.applyOrphan_timing _ _).1⟩

include led in
/-- Whatever the difference, the copy takes it. -/
theorem takeTime_ofs : ((takeTime s l v).rxOf l).ofs = (s.rxOf l).ofs + timeDiff s (s.rxOf l) v := by
  rcases Nat.lt_or_ge 32 (timeDiff s (s.rxOf l) v).natAbs with far | near
  · by_cases late : 2 ≤ (s.rxOf l).slips ∨ 0 < (s.rxOf l).needGood
    · exact (takeTime_orphan far late).2.2
    · rw [takeTime_slip far (by omega) (by omega)]
  · rw [takeTime_near led near]

end

/-! ### Edges one by one (R113) -/

theorem PendEdge.off_insert {q : List PendEdge} {t : Nat} {hs : Bool} (h : ∀ e ∈ q, e.on = false) :
    ∀ e ∈ insertPend ⟨t, hs, false⟩ q, e.on = false := by
  induction q with
  | nil => simp [insertPend]
  | cons a q ih =>
    simp only [List.mem_cons, forall_eq_or_imp] at h
    unfold insertPend
    split
    · simpa using h
    · simpa using ⟨h.1, ih h.2⟩

section
variable {s : State} {l t : Nat} {hs : Bool}

theorem takeOff_only (s : State) (l : Nat) (hs : Bool) (t : Nat) : RxOnly s (takeOff s l hs t) :=
  .ite (RxOnly.refl s).setRx (RxOnly.refl s).setRx

theorem takeOff_scheduled (early : localTaps s (s.rxOf l) ≤ t) :
    (takeOff s l hs t).rxOf l = { s.rxOf l with pend := insertPend ⟨t, hs, false⟩ (s.rxOf l).pend } := by
  simp [takeOff, Nat.not_lt.2 early, State.rxOf_setRx_same]

theorem takeOff_late (late : t < localTaps s (s.rxOf l)) : (takeOff s l hs t).rxOf l = ((s.rxOf l).plainOff hs).seqOff := by
  simp [takeOff, late, State.rxOf_setRx_same]

theorem takeOn_scheduled (early : localTaps s (s.rxOf l) ≤ t) :
    RxOnly s (takeOn s l hs t) ∧
      (takeOn s l hs t).rxOf l = { s.rxOf l with holdSeq := false, pend := insertPend ⟨t, hs, true⟩ (s.rxOf l).pend } := by
  have schedules : takeOn s l hs t = s.setRx l { s.rxOf l with holdSeq := false, pend := insertPend ⟨t, hs, true⟩ (s.rxOf l).pend } :=
    if_neg (Nat.not_lt.2 early)
  rw [schedules]
  exact ⟨(RxOnly.refl s).setRx, State.rxOf_setRx_same _ _ _⟩

theorem takeOn_late (late : t < localTaps s (s.rxOf l)) : takeOn s l hs t = countLate (s.setRx l { s.rxOf l with holdSeq := false }) l :=
  if_pos late

end

/-! ### The sequence of edge frames (R113) -/

theorem Rx.seqOff_timing (r : Rx) : r.seqOff.seq = r.seq ∧ r.seqOff.ofs = r.ofs ∧ r.seqOff.state = r.state := by
  unfold Rx.seqOff
  split <;> exact ⟨rfl, rfl, rfl⟩

/-- A receiver that takes the number of a frame as its reference. -/
def Rx.follow (r : Rx) (num modulus : Nat) : Rx := { r with seq := (num + 1) % modulus, gapNext := false }

section
variable {r : Rx} {num modulus : Nat}

theorem takeSeq_timing (r : Rx) (num modulus : Nat) :
    (takeSeq r num modulus).2.seq = (num + 1) % modulus ∧ (takeSeq r num modulus).2.ofs = r.ofs := by
  simp only [takeSeq]
  split
  · exact ⟨rfl, rfl⟩
  · obtain ⟨seq, ofs, -⟩ := Rx.seqOff_timing (r.follow num modulus)
    exact ⟨seq, ofs⟩

theorem takeSeq_in (sound : r.gapNext = false) (next : num = r.seq) : takeSeq r num modulus = (true, r.follow num modulus) := by
  simp [takeSeq, sound, next, Rx.follow]

theorem takeSeq_out (gap : num ≠ r.seq) : takeSeq r num modulus = (false, (r.follow num modulus).seqOff) := by
  simp [takeSeq, gap, Rx.follow]

end

/-! ### EDGE (R113) -/

theorem countLate_only_counts (s : State) (l : Nat) : (countLate s l).out = s.out ∧ (countLate s l).words = s.words ∧
    (countLate s l).rx = s.rx := by
  unfold countLate
  split <;> exact ⟨rfl, rfl, rfl⟩

/-- An event counter of a satellite saturates. -/
theorem countLate_satellite (s : State) (n : Fin 48) : (countLate s n).fld (GS_CNT_EDGE_LATE n) =
    min (s.fld (GS_CNT_EDGE_LATE n) + 1) (2 ^ (GS_CNT_EDGE_LATE n).width - 1) := by
  have sat : countLate s n = s.inc (GS_CNT_EDGE_LATE n) := if_pos n.isLt
  rw [sat, State.inc, State.fld_put_same, satInc]
  exact Nat.mod_eq_of_lt (by have := Nat.two_pow_pos (GS_CNT_EDGE_LATE n).width; omega)

section
variable (s : State) (l : Nat) (hs : Bool) (t : Nat)

theorem takeOff_seq : ((takeOff s l hs t).rxOf l).seq = (s.rxOf l).seq := by
  rcases Nat.lt_or_ge t (localTaps s (s.rxOf l)) with late | early
  · rw [takeOff_late late, (Rx.seqOff_timing _).1]
    cases hs <;> rfl
  · rw [takeOff_scheduled early]

theorem takeOn_frame : (takeOn s l hs t).out = s.out ∧ (takeOn s l hs t).words = s.words ∧
    ((takeOn s l hs t).rxOf l).seq = (s.rxOf l).seq := by
  rcases Nat.lt_or_ge t (localTaps s (s.rxOf l)) with late | early
  · rw [takeOn_late late]
    obtain ⟨out, words, rx⟩ := countLate_only_counts (s.setRx l { s.rxOf l with holdSeq := false }) l
    refine ⟨out, words, ?_⟩
    rw [State.rxOf, rx]
    exact (congrArg Rx.seq (State.rxOf_setRx_same s l _) :)
  · obtain ⟨only, rx⟩ := takeOn_scheduled (hs := hs) early
    exact ⟨only.out, only.words, (congrArg Rx.seq rx :)⟩

end

/-- The time an EDGE frame names for its receiver. -/
def edgeTime (s : State) (n body : Nat) : Nat := shortTime (localTaps s (s.rxOf n)) (body / 64 % 2 ^ 17)

section
variable {s : State} {n : Fin 48} {body : Nat} (small : body < 2 ^ 24) (run : (s.rxOf n).state = .run) (free : (s.rxOf n).xhold = false)
include small run free

/-- What an EDGE frame comes to at a satellite in RUN without a hold. -/
theorem takeEdge_run : takeEdge s n (mkFrame 1 body) =
    let q := takeSeq (s.rxOf n) (body % 64) 64
    if 2 ^ 23 ≤ body then (if q.1 then takeOn (s.setRx n q.2) n false (edgeTime s n body) else s.setRx n q.2)
    else takeOff (s.setRx n q.2) n false (edgeTime s n body) := by
  have seq : bodyBits (mkFrame 1 body) 13 8 = body % 64 := by
    rw [bodyBits_mkFrame (by decide) small (by decide) (by decide) (by decide)]
    omega
  have time : bodyBits (mkFrame 1 body) 30 14 = body / 64 % 2 ^ 17 := by
    exact bodyBits_mkFrame (by decide) small (by decide) (by decide) (by decide)
  have on : bodyBits (mkFrame 1 body) 31 31 = 1 ↔ 2 ^ 23 ≤ body := by
    rw [bodyBits_mkFrame (by decide) small (by decide) (by decide) (by decide)]
    omega
  simp [takeEdge, seq, time, on, run, free, edgeTime]

theorem takeEdge_frame : (takeEdge s n (mkFrame 1 body)).out = s.out ∧ (takeEdge s n (mkFrame 1 body)).words = s.words ∧
    ((takeEdge s n (mkFrame 1 body)).rxOf n).seq = (body % 64 + 1) % 64 := by
  obtain ⟨seq, -⟩ := takeSeq_timing (s.rxOf n) (body % 64) 64
  rw [takeEdge_run small run free]
  dsimp only
  generalize takeSeq (s.rxOf n) (body % 64) 64 = q at seq
  have took : ((s.setRx n q.2).rxOf n).seq = (body % 64 + 1) % 64 := (congrArg Rx.seq (State.rxOf_setRx_same s n q.2)).trans seq
  split
  · split
    · obtain ⟨out, words, same⟩ := takeOn_frame (s.setRx n q.2) n false (edgeTime s n body)
      exact ⟨out, words, same.trans took⟩
    · exact ⟨rfl, rfl, took⟩
  · have only := takeOff_only (s.setRx n q.2) n false (edgeTime s n body)
    exact ⟨only.out, only.words, (takeOff_seq _ _ _ _).trans took⟩

/-- An on-edge in sequence goes to `takeOn`. -/
theorem takeEdge_on (sound : (s.rxOf n).gapNext = false) (next : body % 64 = (s.rxOf n).seq) (on : 2 ^ 23 ≤ body) :
    takeEdge s n (mkFrame 1 body) = takeOn (s.setRx n ((s.rxOf n).follow (body % 64) 64)) n false (edgeTime s n body) := by
  rw [takeEdge_run small run free, takeSeq_in sound next]
  exact if_pos on

/-- A frame out of sequence leaves the channel off and held. -/
theorem takeEdge_gap (gap : body % 64 ≠ (s.rxOf n).seq) : ((takeEdge s n (mkFrame 1 body)).rxOf n).HeldOff := by
  have held : ((s.rxOf n).follow (body % 64) 64).seqOff.HeldOff := Rx.seqOff_heldOff run
  have still : ((s.rxOf n).follow (body % 64) 64).seqOff.state = .run := (Rx.seqOff_timing _).2.2.trans run
  rw [takeEdge_run small run free, takeSeq_out gap]
  dsimp only
  generalize ((s.rxOf n).follow (body % 64) 64).seqOff = r at held still
  have there := State.rxOf_setRx_same s n r
  split
  · simp only [Bool.false_eq_true, if_false, there]
    exact held
  · rcases Nat.lt_or_ge (edgeTime s n body) (localTaps (s.setRx n r) ((s.setRx n r).rxOf n)) with late | early
    · rw [takeOff_late late, there]
      exact Rx.seqOff_heldOff still
    · rw [takeOff_scheduled early, there]
      obtain ⟨ch, hs, hold, off⟩ := held
      exact ⟨ch, hs, hold, PendEdge.off_insert off⟩

/-- An on-edge in sequence whose time has not passed is scheduled. -/
theorem takeEdge_scheduled (sound : (s.rxOf n).gapNext = false) (next : body % 64 = (s.rxOf n).seq) (on : 2 ^ 23 ≤ body)
    (early : localTaps s (s.rxOf n) ≤ edgeTime s n body) :
    (takeEdge s n (mkFrame 1 body)).regs = s.regs ∧ ((takeEdge s n (mkFrame 1 body)).rxOf n).holdSeq = false ∧
      ((takeEdge s n (mkFrame 1 body)).rxOf n).pend = insertPend ⟨edgeTime s n body, false, true⟩ (s.rxOf n).pend := by
  have there := State.rxOf_setRx_same s n ((s.rxOf n).follow (body % 64) 64)
  obtain ⟨only, rx⟩ := takeOn_scheduled (s := s.setRx n ((s.rxOf n).follow (body % 64) 64)) (l := n) (t := edgeTime s n body) (hs := false)
    (by rw [there]; exact early)
  rw [takeEdge_on small run free sound next on, rx, there]
  exact ⟨only.regs, rfl, rfl⟩

/-- One whose time has passed is discarded and counted. -/
theorem takeEdge_late (sound : (s.rxOf n).gapNext = false) (next : body % 64 = (s.rxOf n).seq) (on : 2 ^ 23 ≤ body)
    (late : edgeTime s n body < localTaps s (s.rxOf n)) :
    ((takeEdge s n (mkFrame 1 body)).rxOf n).pend = (s.rxOf n).pend ∧ (takeEdge s n (mkFrame 1 body)).fld (GS_CNT_EDGE_LATE n) =
      min (s.fld (GS_CNT_EDGE_LATE n) + 1) (2 ^ (GS_CNT_EDGE_LATE n).width - 1) := by
  have there := State.rxOf_setRx_same s n ((s.rxOf n).follow (body % 64) 64)
  rw [takeEdge_on small run free sound next on, takeOn_late (by rw [there]; exact late), countLate_satellite]
  refine ⟨?_, rfl⟩
  rw [State.rxOf, (countLate_only_counts _ _).2.2]
  exact (congrArg Rx.pend (State.rxOf_setRx_same _ _ _)).trans (congrArg Rx.pend there :)

end

/-! ### TRANSITION and DTSET (R132) -/

/-- At an LV leg driver nothing counts late edges. -/
theorem takeOn_only {l : Nat} (lv : 48 ≤ l) (s : State) (hs : Bool) (t : Nat) : RxOnly s (takeOn s l hs t) := by
  have uncounted (u : State) : countLate u l = u := if_neg (by omega)
  simp only [takeOn, uncounted]
  exact .ite (RxOnly.refl s).setRx (RxOnly.refl s).setRx

theorem takeTransition_only {l : Nat} (lv : 48 ≤ l) (s : State) (f : BitVec 40) : RxOnly s (takeTransition s l f) := by
  unfold takeTransition
  extract_lets r q u t
  have took : RxOnly s u := (RxOnly.refl s).setRx
  clear_value u
  split
  · exact took
  split
  · exact .ite ((took.trans (takeOff_only _ _ _ _)).trans (takeOn_only lv _ _ _)) (took.trans (takeOff_only _ _ _ _))
  · exact .ite ((took.trans (takeOff_only _ _ _ _)).trans (takeOn_only lv _ _ _)) (took.trans (takeOff_only _ _ _ _))
  · exact (took.trans (takeOff_only _ _ _ _)).trans (takeOff_only _ _ _ _)
  · exact took

section
variable {s : State} {l body at_ : Nat} (small : body < 2 ^ 24) (run : (s.rxOf l).state = .run) (free : (s.rxOf l).xhold = false)
  (sound : (s.rxOf l).gapNext = false) (next : body % 32 = (s.rxOf l).seq)
  (named : at_ = shortTime (localTaps s (s.rxOf l)) (body / 32 % 2 ^ 17)) (early : localTaps s (s.rxOf l) ≤ at_)
include early

theorem takeOff_copy (hs : Bool) : localTaps (takeOff s l hs at_) ((takeOff s l hs at_).rxOf l) = localTaps s (s.rxOf l) :=
  (takeOff_only s l hs at_).localTaps (by rw [takeOff_scheduled early])

/-- Two edges scheduled one after the other, the second no earlier than the first. -/
theorem scheduled_off_off (first second : Bool) :
    ((takeOff (takeOff s l first at_) l second at_).rxOf l).pend =
      insertPend ⟨at_, second, false⟩ (insertPend ⟨at_, first, false⟩ (s.rxOf l).pend) := by
  rw [takeOff_scheduled (takeOff_copy early first ▸ early), takeOff_scheduled early]

theorem scheduled_off_on (first second : Bool) (delay : Nat) :
    ((takeOn (takeOff s l first at_) l second (at_ + delay)).rxOf l).pend =
      insertPend ⟨at_ + delay, second, true⟩ (insertPend ⟨at_, first, false⟩ (s.rxOf l).pend) := by
  rw [(takeOn_scheduled (takeOff_copy early first ▸ Nat.le_add_right_of_le early)).2, takeOff_scheduled early]

include small run free sound next named

/-- What a TRANSITION frame in sequence schedules, by its kind: an off-edge and the other channel's on-edge a dead time later, or two
off-edges. -/
theorem takeTransition_pend :
    (body / 2 ^ 22 = 0 → ((takeTransition s l (mkFrame 1 body)).rxOf l).pend =
      insertPend ⟨at_ + (s.rxOf l).dtHL, false, true⟩ (insertPend ⟨at_, true, false⟩ (s.rxOf l).pend)) ∧
    (body / 2 ^ 22 = 1 → ((takeTransition s l (mkFrame 1 body)).rxOf l).pend =
      insertPend ⟨at_ + (s.rxOf l).dtLH, true, true⟩ (insertPend ⟨at_, false, false⟩ (s.rxOf l).pend)) ∧
    (body / 2 ^ 22 = 2 → ((takeTransition s l (mkFrame 1 body)).rxOf l).pend =
      insertPend ⟨at_, false, false⟩ (insertPend ⟨at_, true, false⟩ (s.rxOf l).pend)) := by
  have seq : bodyBits (mkFrame 1 body) 12 8 = body % 32 := by
    rw [bodyBits_mkFrame (by decide) small (by decide) (by decide) (by decide)]
    omega
  have time : bodyBits (mkFrame 1 body) 29 13 = body / 32 % 2 ^ 17 :=
    bodyBits_mkFrame (by decide) small (by decide) (by decide) (by decide)
  have kind : bodyBits (mkFrame 1 body) 31 30 = body / 2 ^ 22 := by
    rw [bodyBits_mkFrame (by decide) small (by decide) (by decide) (by decide)]
    omega
  have there := State.rxOf_setRx_same s l ((s.rxOf l).follow (body % 32) 32)
  have before : localTaps (s.setRx l ((s.rxOf l).follow (body % 32) 32)) ((s.setRx l ((s.rxOf l).follow (body % 32) 32)).rxOf l) ≤ at_ := by
    rw [there]
    exact early
  have copy (hs : Bool) : localTaps (takeOff (s.setRx l ((s.rxOf l).follow (body % 32) 32)) l hs at_) (s.rxOf l) ≤ at_ := by
    rw [(takeOff_only _ l hs at_).localTaps rfl]
    exact early
  simp only [takeTransition, seq, time, kind, takeSeq_in sound next, run, free, localTaps_setRx, ← named, ne_eq, not_true_eq_false,
    decide_false, Bool.or_false, Bool.false_eq_true, if_false]
  refine ⟨fun lsOn => ?_, fun hsOn => ?_, fun off => ?_⟩
  · simp only [lsOn, copy, decide_true, Bool.and_true, if_true]
    rw [scheduled_off_on before, there]
    rfl
  · simp only [hsOn, copy, decide_true, Bool.and_true, if_true]
    rw [scheduled_off_on before, there]
    rfl
  · simp only [off]
    rw [scheduled_off_off before, there]
    rfl

end

/-- DTSET writes the dead time of its direction. -/
theorem takeDtset_rxOf {s : State} {l body : Nat} (small : body < 2 ^ 24) :
    ((takeDtset s l (mkFrame 3 body)).rxOf l).dtLH = (if 2 ^ 23 ≤ body then body / 64 % 2 ^ 17 else (s.rxOf l).dtLH) ∧
    ((takeDtset s l (mkFrame 3 body)).rxOf l).dtHL = (if 2 ^ 23 ≤ body then (s.rxOf l).dtHL else body / 64 % 2 ^ 17) := by
  have value : bodyBits (mkFrame 3 body) 30 14 = body / 64 % 2 ^ 17 :=
    bodyBits_mkFrame (by decide) small (by decide) (by decide) (by decide)
  have lh : bodyBits (mkFrame 3 body) 31 31 = 1 ↔ 2 ^ 23 ≤ body := by
    rw [bodyBits_mkFrame (by decide) small (by decide) (by decide) (by decide)]
    omega
  simp only [takeDtset, value, lh, State.rxOf_setRx_same]
  split <;> exact ⟨rfl, rfl⟩

/-- Settles O26, frame by frame. -/
theorem timedFramesAtAReceiver : Obligations.TimedFramesAtAReceiver := by
  intro s body small
  have taken {l ty : Nat} (type : ty ≤ 9) (act : State → State) (powered : (s.rxOf l).state ≠ .reset) (led : (s.rxOf l).state ≠ .orphan) :
      (Host.Outcome.next (onDown s l (mkFrame ty body) ty act) : Host.Outcome State Fault Refusal) = .next (act (heard s l)) :=
    congrArg _ (onDown_body act type small powered led)
  refine ⟨fun l powered led => ?_, fun n run free => ?_, fun k at_ run free sound next named early => ?_, fun k powered led => ?_⟩
  · have value : bodyBits (mkFrame 0 body) 31 8 = body := by
      rw [bodyBits_mkFrame (by decide) small (by decide) (by decide) (by decide)]
      omega
    have rx := heard_rxOf s l
    have only := takeTime_only (heard s l) l body
    refine ⟨_, taken (by decide) _ powered led, ?_⟩
    rw [value]
    have ofs := takeTime_ofs (s := heard s l) (l := l) (v := body) (by rw [rx]; exact led)
    have near := takeTime_near (s := heard s l) (l := l) (v := body) (by rw [rx]; exact led)
    have slip := takeTime_slip (s := heard s l) (l := l) (v := body)
    have orphan := takeTime_orphan (s := heard s l) (l := l) (v := body)
    rw [rx] at ofs near slip orphan
    refine ⟨ofs, only.regs, only.out, fun small => ?_, fun far few good => ?_, fun far late => ?_⟩
    · rw [near small]
      exact ⟨rfl, rfl⟩
    · rw [slip far few good]
      exact ⟨rfl, rfl⟩
    · obtain ⟨state, needs, -⟩ := orphan far (.inl late)
      exact ⟨state, needs⟩
  · have rx := heard_rxOf s n
    have runs : ((heard s n).rxOf n).state = .run := by rw [rx]; exact run
    have frees : ((heard s n).rxOf n).xhold = false := by rw [rx]; exact free
    obtain ⟨out, words, seq⟩ := takeEdge_frame small runs frees
    have scheduled := takeEdge_scheduled small runs frees
    have late := takeEdge_late small runs frees
    have gap := takeEdge_gap small runs frees
    unfold edgeTime at scheduled late
    rw [rx] at scheduled late gap
    refine ⟨_, taken (by decide) _ (by simp [run]) (by simp [run]), out, words, seq, scheduled, late, fun h => ?_⟩
    obtain ⟨ch, -, hold, off⟩ := gap h
    exact ⟨ch, hold, off⟩
  · have rx := heard_rxOf s (48 + k)
    have only := takeTransition_only (l := 48 + k) (by omega) (heard s (48 + k)) (mkFrame 1 body)
    have pend := takeTransition_pend (s := heard s (48 + k)) (l := 48 + k) (at_ := at_) small (by rw [rx]; exact run) (by rw [rx]; exact free)
      (by rw [rx]; exact sound) (by rw [rx]; exact next) (by rw [rx]; exact named) (by rw [rx]; exact early)
    rw [rx] at pend
    exact ⟨_, taken (by decide) _ (by simp [run]) (by simp [run]), only.regs, only.out, pend⟩
  · have rx := heard_rxOf s (48 + k)
    have times := takeDtset_rxOf (s := heard s (48 + k)) (l := 48 + k) small
    rw [rx] at times
    exact ⟨_, taken (by decide) _ powered led, rfl, rfl, times⟩

end Sys2Proof.Machine
end

section
/-! SUPPORT and PROOFS of the protection at the gate (chapter 04): a fault that is raised, and the conditions that raise it. -/

namespace Sys2Proof.Machine

/-! ### A fault is raised (R121) -/

/-- A channel that turns off with its latch set. -/
def Chan.fault (c : Chan) (cause : Nat) (gate : Gate → Gate) : Chan :=
  { c.turnOff with latch := true, cause := cause, gate := gate c.gate }

/-- A receiver one of whose channels has a fault. -/
def Rx.fault (r : Rx) (hs : Bool) (cause : Nat) (gate : Gate → Gate) : Rx :=
  if hs then { r with hs := r.hs.fault cause gate } else { r with ch := r.ch.fault cause gate }

section
variable (s : State) (l : Nat) (hs : Bool) (cause : Nat) (gate : Gate → Gate)

theorem raiseFault_eq : raiseFault s l hs cause gate = (s.setRx l ((s.rxOf l).fault hs cause gate)).up l 2
    (cause % 16 * 2 ^ 20 + bit (isLv l && !hs) * 2 ^ 19 + s.mtime % 2 ^ 19) := by
  cases hs <;> rfl

@[simp] theorem raiseFault_regs : (raiseFault s l hs cause gate).regs = s.regs := by rw [raiseFault_eq, State.up_regs, State.setRx_regs]

@[simp] theorem raiseFault_mtime : (raiseFault s l hs cause gate).mtime = s.mtime := by
  rw [raiseFault_eq, State.up_mtime, State.setRx_mtime]

/-- Beside the fault, only the up link of the receiver changes. -/
theorem raiseFault_part {p : Rx → β} (apart : ∀ r busy queue, p { r with upBusy := busy, upq := queue } = p r) :
    p ((raiseFault s l hs cause gate).rxOf l) = p ((s.rxOf l).fault hs cause gate) := by
  rw [raiseFault_eq, State.up_part _ _ _ _ apart, State.rxOf_setRx_same]

theorem Rx.fault_link (r : Rx) : (r.fault hs cause gate).upBusy = r.upBusy ∧ (r.fault hs cause gate).upq = r.upq := by
  cases hs <;> exact ⟨rfl, rfl⟩

variable {s l}

theorem raiseFault_leaves (idle : (s.rxOf l).upBusy = 0) : (raiseFault s l hs cause gate).out =
      s.out ++ [.up l (mkFrame 2 (cause % 16 * 2 ^ 20 + bit (isLv l && !hs) * 2 ^ 19 + s.mtime % 2 ^ 19))] ∧
    ((raiseFault s l hs cause gate).rxOf l).upBusy = 64 ∧ ((raiseFault s l hs cause gate).rxOf l).upq = (s.rxOf l).upq := by
  have link := Rx.fault_link hs cause gate (s.rxOf l)
  have same := State.rxOf_setRx_same s l ((s.rxOf l).fault hs cause gate)
  rw [raiseFault_eq]
  obtain ⟨out, busy, queue⟩ := State.up_leaves (s := s.setRx l ((s.rxOf l).fault hs cause gate)) (l := l) 2
    (cause % 16 * 2 ^ 20 + bit (isLv l && !hs) * 2 ^ 19 + s.mtime % 2 ^ 19) (by rw [same, link.1, idle])
  exact ⟨out, busy, queue.trans (by rw [same, link.2])⟩

theorem raiseFault_waits (busy : (s.rxOf l).upBusy ≠ 0) : (raiseFault s l hs cause gate).out = s.out ∧
    ((raiseFault s l hs cause gate).rxOf l).upq =
      insertUp (mkFrame 2 (cause % 16 * 2 ^ 20 + bit (isLv l && !hs) * 2 ^ 19 + s.mtime % 2 ^ 19)) (s.rxOf l).upq := by
  have link := Rx.fault_link hs cause gate (s.rxOf l)
  have same := State.rxOf_setRx_same s l ((s.rxOf l).fault hs cause gate)
  rw [raiseFault_eq]
  obtain ⟨out, queue⟩ := State.up_waits (s := s.setRx l ((s.rxOf l).fault hs cause gate)) (l := l) 2
    (cause % 16 * 2 ^ 20 + bit (isLv l && !hs) * 2 ^ 19 + s.mtime % 2 ^ 19) (by rwa [same, link.1])
  exact ⟨out, queue.trans (by rw [same, link.2])⟩

end

/-- The fault is its own channel's. -/
theorem raiseFault_hs (s : State) (l cause : Nat) (gate : Gate → Gate) :
    ((raiseFault s l true cause gate).rxOf l).hs = (s.rxOf l).hs.fault cause gate ∧
    ((raiseFault s l true cause gate).rxOf l).ch = (s.rxOf l).ch :=
  ⟨raiseFault_part (p := Rx.hs) _ _ _ _ _ fun _ _ _ => rfl, raiseFault_part (p := Rx.ch) _ _ _ _ _ fun _ _ _ => rfl⟩

theorem raiseFault_ch (s : State) (l cause : Nat) (gate : Gate → Gate) :
    ((raiseFault s l false cause gate).rxOf l).ch = (s.rxOf l).ch.fault cause gate ∧
    ((raiseFault s l false cause gate).rxOf l).hs = (s.rxOf l).hs :=
  ⟨raiseFault_part (p := Rx.ch) _ _ _ _ _ fun _ _ _ => rfl, raiseFault_part (p := Rx.hs) _ _ _ _ _ fun _ _ _ => rfl⟩

theorem isLv_satellite (n : Fin 48) : isLv n = false := decide_eq_false (by omega)

theorem isLv_driver (k : Nat) : isLv (48 + k) = true := decide_eq_true (by omega)

/-- A fault of a satellite. -/
theorem raiseFault_satellite (s : State) (n : Fin 48) {cause : Nat} (small : cause < 16) (gate : Gate → Gate) :
    ((raiseFault s n false cause gate).rxOf n).ch = (s.rxOf n).ch.fault cause gate ∧
    ((raiseFault s n false cause gate).rxOf n).pend = (s.rxOf n).pend ∧
    ((s.rxOf n).upBusy = 0 → (raiseFault s n false cause gate).out =
      s.out ++ [.up n (mkFrame 2 (cause * 2 ^ 20 + s.mtime % 2 ^ 19))]) := by
  refine ⟨(raiseFault_ch s n cause gate).1, raiseFault_part (p := Rx.pend) _ _ _ _ _ fun _ _ _ => rfl, fun idle => ?_⟩
  rw [(raiseFault_leaves _ _ _ idle).1]
  simp [isLv_satellite, Nat.mod_eq_of_lt small, bit]

theorem plainGate_off (g : Gate) : plainGate g ≠ .on := by
  unfold plainGate
  split
  · exact nofun
  · assumption

/-! ### Desaturation and short circuit (R120) -/

section
variable {s : State} {n mv : Nat}

theorem desatValid_trips (enabled : s.flag (GS_CFG_DSAT_EN n) = true) (on : (s.rxOf n).ch.gate = .on) (armed : (s.rxOf n).ch.blanked = true)
    (high : dsatThreshold s n < mv) : desatValid s n mv = raiseFault s n false 1 softGate := by
  simp [desatValid, enabled, on, armed, high]

theorem desatValid_stays (h : s.flag (GS_CFG_DSAT_EN n) = false ∨ (s.rxOf n).ch.gate ≠ .on ∨ (s.rxOf n).ch.blanked = false ∨
    mv ≤ dsatThreshold s n) : desatValid s n mv = s := by
  rcases h with h | h | h | h <;> simp [desatValid, h]

theorem shortCircuit_trips (enabled : s.flag (GS_CFG_SC_EN n) = true) (on : (s.rxOf n).ch.gate = .on)
    (high : 100 + 100 * s.fld (GS_CFG_SC_TH n) < mv) : shortCircuit s n mv = raiseFault s n false 2 softGate := by
  simp [shortCircuit, enabled, on, high]

theorem shortCircuit_stays (h : s.flag (GS_CFG_SC_EN n) = false ∨ (s.rxOf n).ch.gate ≠ .on ∨ mv ≤ 100 + 100 * s.fld (GS_CFG_SC_TH n)) :
    shortCircuit s n mv = s := by
  rcases h with h | h | h <;> simp [shortCircuit, h]

end

/-- A fault with a soft-off of a channel that is on. -/
theorem softFault (s : State) (n : Fin 48) {cause : Nat} (small : cause < 16) (on : (s.rxOf n).ch.gate = .on) :
    ((raiseFault s n false cause softGate).rxOf n).ch.latch = true ∧ ((raiseFault s n false cause softGate).rxOf n).ch.cause = cause ∧
    ((raiseFault s n false cause softGate).rxOf n).ch.gate = .soft := by
  rw [(raiseFault_satellite s n small softGate).1]
  refine ⟨rfl, rfl, ?_⟩
  simp [Chan.fault, softGate, on]

/-! ### Supplies (R118, R119) -/

theorem supplyFault_armed {s : State} {n : Nat} {vneg : Bool} (powered : (s.rxOf n).state ≠ .reset) (armed : (s.rxOf n).armedUv = true) :
    supplyFault s n vneg = raiseFault (s.setRx n (if vneg then { s.rxOf n with vneg := true } else { s.rxOf n with uv := true })) n false
      (if vneg then 4 else 3) plainGate := by
  simp [supplyFault, powered, armed]

theorem supplyFault_unarmed {s : State} {n : Nat} (vneg : Bool) (unarmed : (s.rxOf n).armedUv = false) : supplyFault s n vneg = s := by
  simp [supplyFault, unarmed]

/-- A supply fault of a satellite whose checks have armed. -/
theorem supplyFault_frame {s : State} (n : Fin 48) (vneg : Bool) (powered : (s.rxOf n).state ≠ .reset) (armed : (s.rxOf n).armedUv = true) :
    ((supplyFault s n vneg).rxOf n).ch.latch = true ∧ ((supplyFault s n vneg).rxOf n).ch.cause = (if vneg then 4 else 3) ∧
    ((supplyFault s n vneg).rxOf n).ch.gate ≠ .on ∧
    (if vneg then ((supplyFault s n vneg).rxOf n).vneg else ((supplyFault s n vneg).rxOf n).uv) ∧
    (supplyFault s n vneg).regs = s.regs := by
  rw [supplyFault_armed powered armed, raiseFault_regs, raiseFault_part (p := Rx.ch) _ _ _ _ _ fun _ _ _ => rfl,
    raiseFault_part (p := Rx.vneg) _ _ _ _ _ fun _ _ _ => rfl, raiseFault_part (p := Rx.uv) _ _ _ _ _ fun _ _ _ => rfl,
    State.rxOf_setRx_same]
  cases vneg <;> exact ⟨rfl, rfl, plainGate_off _, rfl, rfl⟩

theorem driverUv_reset {s : State} {k : Nat} (reset : (s.rxOf (48 + k)).state = .reset) : driverUv s k = s := by
  rw [Nat.add_comm] at reset
  exact if_pos reset

theorem driverUv_powered {s : State} {k : Nat} (powered : (s.rxOf (48 + k)).state ≠ .reset) : driverUv s k =
    raiseFault (raiseFault (s.setRx (48 + k) { s.rxOf (48 + k) with drvUv := true }) (48 + k) true 6 plainGate) (48 + k) false 6 plainGate := by
  rw [Nat.add_comm] at powered ⊢
  exact if_neg powered

/-- The fault of an LV leg driver's supply latches both channels. -/
theorem driverUv_channels {s : State} {k : Nat} (powered : (s.rxOf (48 + k)).state ≠ .reset) :
    ((driverUv s k).rxOf (48 + k)).ch = (s.rxOf (48 + k)).ch.fault 6 plainGate ∧
    ((driverUv s k).rxOf (48 + k)).hs = (s.rxOf (48 + k)).hs.fault 6 plainGate := by
  have same := State.rxOf_setRx_same s (48 + k) { s.rxOf (48 + k) with drvUv := true }
  obtain ⟨hs, ch⟩ := raiseFault_hs (s.setRx (48 + k) { s.rxOf (48 + k) with drvUv := true }) (48 + k) 6 plainGate
  obtain ⟨ch', hs'⟩ := raiseFault_ch (raiseFault (s.setRx (48 + k) { s.rxOf (48 + k) with drvUv := true }) (48 + k) true 6 plainGate)
    (48 + k) 6 plainGate
  rw [driverUv_powered powered, ch', hs', hs, ch, same]
  exact ⟨rfl, rfl⟩

/-- Its two frames: the high side's leaves an idle link first, the low side's waits. -/
theorem driverUv_frames {s : State} {k : Nat} (powered : (s.rxOf (48 + k)).state ≠ .reset) (idle : (s.rxOf (48 + k)).upBusy = 0) :
    (driverUv s k).out = s.out ++ [.up (48 + k) (mkFrame 2 (6 * 2 ^ 20 + s.mtime % 2 ^ 19))] ∧
    ((driverUv s k).rxOf (48 + k)).upq = insertUp (mkFrame 2 (6 * 2 ^ 20 + 2 ^ 19 + s.mtime % 2 ^ 19)) (s.rxOf (48 + k)).upq := by
  have same := State.rxOf_setRx_same s (48 + k) { s.rxOf (48 + k) with drvUv := true }
  obtain ⟨out, busy, queue⟩ := raiseFault_leaves (s := s.setRx (48 + k) { s.rxOf (48 + k) with drvUv := true }) (l := 48 + k) true 6 plainGate
    (by rw [same]; exact idle)
  rw [same] at queue
  obtain ⟨out', queue'⟩ := raiseFault_waits (l := 48 + k) false 6 plainGate (by rw [busy]; decide)
  rw [queue, raiseFault_mtime, isLv_driver] at queue'
  rw [out, isLv_driver] at out'
  rw [driverUv_powered powered]
  exact ⟨out'.trans (by simp [bit]), queue'.trans (by simp [bit])⟩

/-! ### Drain-source voltage of an LV channel (R131) -/

section
variable {s : State} {k mv : Nat} {hs : Bool}

theorem vdsFault_eq : vdsFault s k hs mv =
    let c := if hs then (s.rxOf (48 + k)).hs else (s.rxOf (48 + k)).ch
    if s.flag (LD_CFG_VDS_EN k) && c.gate = .on && c.blanked &&
        decide (200 + 100 * (if hs then s.fld (LD_CFG_VDS_HS k) else s.fld (LD_CFG_VDS_LS k)) < mv) then
      (raiseFault s (48 + k) hs 5 plainGate).setRx (48 + k) (((raiseFault s (48 + k) hs 5 plainGate).rxOf (48 + k)).plainOff (!hs))
    else s := by
  rw [Nat.add_comm 48 k]
  rfl

theorem vdsFault_stays (h : s.flag (LD_CFG_VDS_EN k) = false ∨ (s.rxOf (48 + k)).ch.gate ≠ .on ∨ (s.rxOf (48 + k)).ch.blanked = false ∨
    mv ≤ 200 + 100 * s.fld (LD_CFG_VDS_LS k)) : vdsFault s k false mv = s := by
  rw [vdsFault_eq]
  rcases h with h | h | h | h <;> simp [h]

variable (enabled : s.flag (LD_CFG_VDS_EN k) = true)
include enabled

/-- The faulty channel turns off and latches, the other one stays off. -/
theorem vdsFault_hs (on : (s.rxOf (48 + k)).hs.gate = .on) (armed : (s.rxOf (48 + k)).hs.blanked = true)
    (high : 200 + 100 * s.fld (LD_CFG_VDS_HS k) < mv) : (vdsFault s k true mv).regs = s.regs ∧
      ((vdsFault s k true mv).rxOf (48 + k)).hs = (s.rxOf (48 + k)).hs.fault 5 plainGate ∧
      ((vdsFault s k true mv).rxOf (48 + k)).ch = (s.rxOf (48 + k)).ch.turnOff := by
  obtain ⟨hs, ch⟩ := raiseFault_hs s (48 + k) 5 plainGate
  rw [vdsFault_eq]
  simp only [if_true, enabled, on, armed, high, decide_true, Bool.and_self, State.setRx_regs, raiseFault_regs, State.rxOf_setRx_same,
    Rx.plainOff, Bool.not_true, Bool.false_eq_true, if_false, hs, ch, and_self]

theorem vdsFault_ls (on : (s.rxOf (48 + k)).ch.gate = .on) (armed : (s.rxOf (48 + k)).ch.blanked = true)
    (high : 200 + 100 * s.fld (LD_CFG_VDS_LS k) < mv) : (vdsFault s k false mv).regs = s.regs ∧
      ((vdsFault s k false mv).rxOf (48 + k)).ch = (s.rxOf (48 + k)).ch.fault 5 plainGate ∧
      ((vdsFault s k false mv).rxOf (48 + k)).hs = (s.rxOf (48 + k)).hs.turnOff := by
  obtain ⟨ch, hs⟩ := raiseFault_ch s (48 + k) 5 plainGate
  rw [vdsFault_eq]
  simp only [Bool.false_eq_true, if_false, enabled, on, armed, high, decide_true, Bool.and_self, if_true, State.setRx_regs, raiseFault_regs,
    State.rxOf_setRx_same, Rx.plainOff, Bool.not_false, hs, ch, and_self]

end

/-! ### Blanking and the tracking baseline (R120) -/

theorem blankingEnd_driver (s : State) (k : Fin 12) : blankingEnd s (48 + k) true = if (s.rxOf (48 + k)).hs.gate = .on then
    s.setRx (48 + k) { s.rxOf (48 + k) with hs := { (s.rxOf (48 + k)).hs with blanked := true } } else s :=
  if_pos (by simp [isLv_driver])

theorem blankingEnd_satellite (s : State) (n : Nat) : blankingEnd s n false = if (s.rxOf n).ch.gate = .on then
    s.setRx n { s.rxOf n with ch := { (s.rxOf n).ch with blanked := true } } else s :=
  if_neg (by simp)

section
variable {s : State} {n mv : Nat}

theorem baselineSample_stays (h : (s.rxOf n).ch.gate ≠ .on ∨ (s.rxOf n).ch.blanked = false ∨ (s.rxOf n).ch.sampled = true) :
    baselineSample s n mv = s := by
  rcases h with h | h | h <;> simp [baselineSample, h]

/-- The first sample of an on-interval moves the baseline and is reported. -/
theorem baselineSample_moves (on : (s.rxOf n).ch.gate = .on) (armed : (s.rxOf n).ch.blanked = true) (first : (s.rxOf n).ch.sampled = false) :
    let base := nextBaseline (s.rxOf n).samples (s.rxOf n).baseMv mv
    ((baselineSample s n mv).rxOf n).baseMv = base ∧ ((baselineSample s n mv).rxOf n).ch.sampled = true ∧
    (baselineSample s n mv).regs = s.regs ∧
    ((s.rxOf n).upBusy = 0 → (baselineSample s n mv).out =
      s.out ++ [.up n (mkFrame 4 (2 ^ 23 + base / 100 % 2 ^ 12 * 2 ^ 10 + s.mtime % 2 ^ 10))]) := by
  intro base
  have moved : baselineSample s n mv = sendMeas (s.setRx n { s.rxOf n with
      baseMv := base, samples := min ((s.rxOf n).samples + 1) 16, ch := { (s.rxOf n).ch with sampled := true } }) n 2 (base / 100) := by
    simp only [baselineSample, on, armed, first]
    rfl
  clear_value base
  rw [moved, sendMeas, State.up_regs, State.up_part (p := Rx.baseMv) _ _ _ _ fun _ _ _ => rfl,
    State.up_part (p := Rx.ch) _ _ _ _ fun _ _ _ => rfl, State.rxOf_setRx_same]
  refine ⟨rfl, rfl, rfl, fun idle => ?_⟩
  rw [(State.up_leaves _ _ (by rw [State.rxOf_setRx_same]; exact idle)).1]
  rfl

end

/-- Settles O29, condition by condition. -/
theorem gateProtection : Obligations.GateProtection := by
  intro s n k mv
  refine ⟨fun enabled on armed high => ?_, fun h => congrArg Host.Outcome.next (desatValid_stays h), fun enabled on high => ?_,
    fun h => congrArg Host.Outcome.next (shortCircuit_stays h), rfl,
    fun powered armed => ⟨_, rfl, supplyFault_frame n false powered armed⟩,
    fun powered armed => ⟨_, rfl, supplyFault_frame n true powered armed⟩,
    fun unarmed => ⟨congrArg Host.Outcome.next (supplyFault_unarmed false unarmed),
      congrArg Host.Outcome.next (supplyFault_unarmed true unarmed)⟩,
    fun powered => ⟨_, rfl, ?_⟩, fun reset => congrArg Host.Outcome.next (driverUv_reset reset), fun enabled on armed high => ⟨_, rfl, ?_⟩,
    fun enabled on armed high => ⟨_, rfl, ?_⟩, fun h => congrArg Host.Outcome.next (vdsFault_stays h),
    congrArg Host.Outcome.next (blankingEnd_driver s k), congrArg Host.Outcome.next (blankingEnd_satellite s n),
    fun on armed first => ⟨_, rfl, baselineSample_moves on armed first⟩, fun h => congrArg Host.Outcome.next (baselineSample_stays h)⟩
  · obtain ⟨latch, cause, gate⟩ := softFault s n (cause := 1) (by decide) on
    obtain ⟨-, pend, out⟩ := raiseFault_satellite s n (cause := 1) (by decide) softGate
    exact ⟨_, congrArg Host.Outcome.next (desatValid_trips enabled on armed high), latch, cause, gate, pend, raiseFault_regs _ _ _ _ _, out⟩
  · obtain ⟨latch, cause, gate⟩ := softFault s n (cause := 2) (by decide) on
    obtain ⟨-, -, out⟩ := raiseFault_satellite s n (cause := 2) (by decide) softGate
    exact ⟨_, congrArg Host.Outcome.next (shortCircuit_trips enabled on high), latch, cause, gate, raiseFault_regs _ _ _ _ _, out⟩
  · obtain ⟨ch, hs⟩ := driverUv_channels powered
    rw [ch, hs, driverUv_powered powered, raiseFault_regs, raiseFault_regs, ← driverUv_powered powered]
    exact ⟨rfl, rfl, rfl, plainGate_off _, plainGate_off _, rfl, driverUv_frames powered⟩
  · obtain ⟨regs, hs, ch⟩ := vdsFault_hs enabled on armed high
    rw [hs, ch]
    exact ⟨rfl, rfl, by simp [Chan.fault, plainGate, on], Chan.turnOff_gate _, regs⟩
  · obtain ⟨regs, ch, hs⟩ := vdsFault_ls enabled on armed high
    rw [hs, ch]
    exact ⟨rfl, rfl, by simp [Chan.fault, plainGate, on], Chan.turnOff_gate _, regs⟩

end Sys2Proof.Machine
end

section
/-! SUPPORT and PROOFS of what lets a channel conduct (chapter 04): permit codes, the cross-link, edge placement, and the ways into and
out of RESET and ORPHAN. -/

namespace Sys2Proof.Machine

/-! ### Permit codes (R123, R124) -/

section
variable {s : State} {l : Nat} {c : Permit}

theorem permitTaken_reset (reset : (s.rxOf l).state = .reset) : permitTaken s l c = s := if_pos reset

theorem permitLoss_powered (powered : (s.rxOf l).state ≠ .reset) :
    permitLoss s l = s.setRx l ({ s.rxOf l with held := none }.applyOrphan (isLv l)) := if_neg powered

/-- The code of SAFE_LS has no meaning at a satellite. -/
theorem permitTaken_safeLs (powered : (s.rxOf l).state ≠ .reset) (satellite : l < 48) : permitTaken s l .safeLs = permitLoss s l := by
  simp [permitTaken, powered, satellite]

variable (sound : c = .safeLs → 48 ≤ l)
include sound

/-- Outside ORPHAN the code that is held changes nothing, and another leads to its state. -/
theorem permitTaken_same (powered : (s.rxOf l).state ≠ .reset) (led : (s.rxOf l).state ≠ .orphan) (same : (s.rxOf l).held = some c) :
    permitTaken s l c = s := by
  have valid : ¬ (l < 48 ∧ c = .safeLs) := fun h => absurd (sound h.2) (Nat.not_le.2 h.1)
  simp [permitTaken, powered, valid, led, same]

theorem permitTaken_other (powered : (s.rxOf l).state ≠ .reset) (led : (s.rxOf l).state ≠ .orphan) (other : (s.rxOf l).held ≠ some c) :
    permitTaken s l c = s.setRx l ({ s.rxOf l with held := some c }.enterHeld (isLv l)) := by
  have valid : ¬ (l < 48 ∧ c = .safeLs) := fun h => absurd (sound h.2) (Nat.not_le.2 h.1)
  simp [permitTaken, powered, valid, led, other]

/-- In ORPHAN the code is held; the receiver leaves once it may. -/
theorem permitTaken_orphan (orphan : (s.rxOf l).state = .orphan) : permitTaken s l c =
    s.setRx l (if { s.rxOf l with held := some c }.mayLeave (isLv l) then { s.rxOf l with held := some c }.enterHeld (isLv l)
      else { s.rxOf l with held := some c }) := by
  have valid : ¬ (l < 48 ∧ c = .safeLs) := fun h => absurd (sound h.2) (Nat.not_le.2 h.1)
  simp [permitTaken, valid, orphan]

end

theorem Rx.applyOrphan_held (r : Rx) (lv : Bool) : (r.applyOrphan lv).held = r.held := by
  simp only [Rx.applyOrphan]
  split
  · rfl
  · split <;> rfl
  · rfl

/-! ### The cross-link (R127) -/

section
variable (s : State) (l : Nat) (v : Rx) (refused : Bool)

theorem sendXrefuse_regs : (sendXrefuse s l refused).regs = s.regs := State.up_regs _ _ _ _

theorem sendXrefuse_part {p : Rx → β} (apart : ∀ r busy queue, p { r with upBusy := busy, upq := queue } = p r) :
    p ((sendXrefuse (s.setRx l v) l refused).rxOf l) = p v := by
  rw [sendXrefuse, State.up_part _ _ _ _ apart, State.rxOf_setRx_same]

variable {s l v}

theorem sendXrefuse_leaves (idle : v.upBusy = 0) :
    (sendXrefuse (s.setRx l v) l refused).out = s.out ++ [.up l (mkFrame 5 (bit refused * 2 ^ 23))] :=
  (State.up_leaves _ _ (by rw [State.rxOf_setRx_same]; exact idle)).1

end

theorem partnerOf_ne (n : Nat) : partnerOf n ≠ n := by
  unfold partnerOf
  split <;> omega

section
variable {s : State} {n : Nat} {on hold : Bool}

/-- Nothing arrives at or from a satellite in RESET, nor what the partner does not send. -/
theorem crossLink_unsent (h : (s.rxOf n).state = .reset ∨ (s.rxOf (partnerOf n)).state = .reset ∨
    on ≠ decide ((s.rxOf (partnerOf n)).ch.gate = .on) ∨ hold ≠ (s.rxOf (partnerOf n)).holdOut) : crossLink s n on hold = s :=
  if_pos (by simpa [or_assoc] using h)

/-- A satellite that sees its partner's gate. -/
def Rx.sees (r : Rx) (on : Bool) : Rx := { r with partnerOn := on, xSilent := false }

variable (powered : (s.rxOf n).state ≠ .reset) (sender : (s.rxOf (partnerOf n)).state ≠ .reset)
  (gate : on = decide ((s.rxOf (partnerOf n)).ch.gate = .on))
include sender gate


include powered in
/-- What arrives without a hold. -/
theorem crossLink_free (free : (s.rxOf (partnerOf n)).holdOut = false) : crossLink s n on false =
    (s.setRx (partnerOf n) { s.rxOf (partnerOf n) with holdOut := false }).setRx n ((s.rxOf n).sees on) := by
  simp [crossLink, powered, sender, gate, free, Rx.sees]

/-- What the hold of a refusal brings. -/
theorem crossLink_hold (held : (s.rxOf (partnerOf n)).holdOut = true) (run : (s.rxOf n).state = .run) : crossLink s n on true =
    sendXrefuse ((s.setRx (partnerOf n) { s.rxOf (partnerOf n) with holdOut := false }).setRx n
      { ((s.rxOf n).sees on).allOff with xhold := true }) n false := by
  simp [crossLink, run, sender, gate, held, Rx.sees]

/-- It takes the channel off, and is taken from the partner. -/
theorem crossLink_hold_frame (held : (s.rxOf (partnerOf n)).holdOut = true) (run : (s.rxOf n).state = .run) :
    ((crossLink s n on true).rxOf n).xhold = true ∧ ((crossLink s n on true).rxOf n).ch.gate ≠ .on ∧
    ((crossLink s n on true).rxOf n).pend = [] ∧ ((crossLink s n on true).rxOf (partnerOf n)).holdOut = false ∧
    (crossLink s n on true).regs = s.regs ∧
    ((s.rxOf n).upBusy = 0 → (crossLink s n on true).out = s.out ++ [.up n (mkFrame 5 0)]) := by
  rw [crossLink_hold sender gate held run, sendXrefuse_part (p := Rx.xhold) _ _ _ _ fun _ _ _ => rfl,
    sendXrefuse_part (p := Rx.ch) _ _ _ _ fun _ _ _ => rfl, sendXrefuse_part (p := Rx.pend) _ _ _ _ fun _ _ _ => rfl, sendXrefuse_regs]
  refine ⟨rfl, Chan.turnOff_gate _, rfl, ?_, rfl, fun idle => ?_⟩
  · rw [sendXrefuse, State.rxOf_up_other _ _ _ _ (partnerOf_ne n), State.rxOf_setRx_other _ (partnerOf_ne n), State.rxOf_setRx_same]
  · rw [sendXrefuse_leaves (v := { ((s.rxOf n).sees on).allOff with xhold := true }) _ idle]
    rfl

end

theorem crossSilent_reset {s : State} {n : Nat} (reset : (s.rxOf n).state = .reset) : crossSilent s n = s := if_pos reset

theorem crossSilent_powered {s : State} {n : Nat} (powered : (s.rxOf n).state ≠ .reset) :
    crossSilent s n = s.setRx n { s.rxOf n with xSilent := true } := if_neg powered

/-- A refusal: the channel off and held, a hold to the partner, and XREFUSE. -/
theorem refuseOn_frame (s : State) (l : Nat) : (refuseOn s l).regs = s.regs ∧ ((refuseOn s l).rxOf l).ch.gate ≠ .on ∧
    ((refuseOn s l).rxOf l).xhold = true ∧ ((refuseOn s l).rxOf l).pend = [] ∧ ((refuseOn s l).rxOf l).holdOut = true ∧
    ((s.rxOf l).upBusy = 0 → (refuseOn s l).out = s.out ++ [.up l (mkFrame 5 (2 ^ 23))]) := by
  unfold refuseOn
  rw [sendXrefuse_part (p := Rx.ch) _ _ _ _ fun _ _ _ => rfl, sendXrefuse_part (p := Rx.xhold) _ _ _ _ fun _ _ _ => rfl,
    sendXrefuse_part (p := Rx.pend) _ _ _ _ fun _ _ _ => rfl, sendXrefuse_part (p := Rx.holdOut) _ _ _ _ fun _ _ _ => rfl]
  exact ⟨sendXrefuse_regs _ _ _, Chan.turnOff_gate _, rfl, rfl, rfl, fun idle => sendXrefuse_leaves (v := { (s.rxOf l).allOff with
    xhold := true, holdOut := true }) _ idle⟩

/-! ### Edge placement (R87, R113, R121, R127) -/

/-- A receiver whose first scheduled edge has come. -/
def due (s : State) (l : Nat) (rest : List PendEdge) : State := s.setRx l { s.rxOf l with pend := rest }

theorem due_rxOf (s : State) (l : Nat) (rest : List PendEdge) : (due s l rest).rxOf l = { s.rxOf l with pend := rest } :=
  State.rxOf_setRx_same _ _ _

theorem edgePlacement_idle {s : State} {l : Nat} (none : (s.rxOf l).pend = []) : edgePlacement s l = s := by
  simp only [edgePlacement, none]

section
variable {s : State} {l : Nat} {e : PendEdge} {q : List PendEdge} (run : (s.rxOf l).state = .run) (first : (s.rxOf l).pend = e :: q)
  (low : e.hs = false)
include run first low

/-- An off-edge turns the channel off and begins the measurement of its transition. -/
theorem edgePlacement_off (off : e.on = false) (on : (s.rxOf l).ch.gate = .on) : edgePlacement s l = (due s l q).setRx l
    { s.rxOf l with pend := q, ch := { (s.rxOf l).ch.turnOff with measuring := true } } := by
  simp [edgePlacement, first, State.rxOf_setRx_same, run, off, low, Rx.offEdge, on, due]

variable (on : e.on = true)
include on

/-- An on-edge under a latch is counted. -/
theorem edgePlacement_latched (latched : (s.rxOf l).ch.latch = true) : edgePlacement s l = countLate (due s l q) l := by
  simp [edgePlacement, first, State.rxOf_setRx_same, run, on, low, latched, due]

variable (satellite : isLv l = false) (sound : (s.rxOf l).ch.latch = false) (inSeq : (s.rxOf l).holdSeq = false)
  (free : (s.rxOf l).xhold = false)
include satellite sound inSeq free

/-- Any other on-edge of a satellite that is not held is refused or turns the channel on. -/
theorem edgePlacement_on : edgePlacement s l = if onRefused (due s l q) l e then refuseOn (due s l q) l
    else (due s l q).setRx l { s.rxOf l with pend := q, ch := (s.rxOf l).ch.turnOn, lastOn := some e.taps } := by
  simp [edgePlacement, first, State.rxOf_setRx_same, run, on, low, satellite, sound, inSeq, free, due]

end

section
variable {s : State} {n : Nat} {e : PendEdge} {q : List PendEdge} (satellite : isLv n = false)
include satellite

/-- A satellite refuses an on-edge against a partner that conducts or is silent, and the high side's in the same tap as the low side's. -/
theorem onRefused_partner (h : (s.rxOf n).partnerOn = true ∨ (s.rxOf n).xSilent = true ∨
    (n % 2 = 1 ∧ (⟨e.taps, false, true⟩ : PendEdge) ∈ (s.rxOf (partnerOf n)).pend)) : onRefused (due s n q) n e = true := by
  have partner : (due s n q).rxOf (partnerOf n) = s.rxOf (partnerOf n) := State.rxOf_setRx_other _ (partnerOf_ne n) _
  simp only [onRefused, satellite, Bool.false_eq_true, if_false, due_rxOf, partner, Bool.or_eq_true, Bool.and_eq_true, decide_eq_true_eq,
    List.any_eq_true]
  rcases h with conducts | silent | ⟨odd, both⟩
  · exact .inl (.inl conducts)
  · exact .inl (.inr silent)
  · exact .inr ⟨odd, .inl ⟨_, both, rfl, rfl⟩⟩

/-- The low side obeys one against a partner that is seen to be off. -/
theorem onRefused_low (off : (s.rxOf n).partnerOn = false) (seen : (s.rxOf n).xSilent = false) (even : n % 2 = 0) :
    onRefused (due s n q) n e = false := by
  simp [onRefused, satellite, due_rxOf, off, seen, even]

end

theorem Chan.turnOn_on {c : Chan} (sound : c.latch = false) (powered : c.gate ≠ .pulled) : c.turnOn.gate = .on := by
  simp [Chan.turnOn, sound, powered]

/-! ### Conduction by the permit or the policy (R127, R131) -/

section
variable {s : State} {k n : Nat}

theorem partnerOff_latched (latched : (s.rxOf (48 + k)).hs.latch = true ∨ (s.rxOf (48 + k)).ch.latch = true) : partnerOff s (48 + k) = s := by
  rcases latched with h | h <;> simp [partnerOff, isLv_driver, h]

theorem partnerOff_hs (hs : (s.rxOf (48 + k)).hs.latch = false) (ch : (s.rxOf (48 + k)).ch.latch = false)
    (want : (s.rxOf (48 + k)).hs.wantOn = true) (off : (s.rxOf (48 + k)).ch.gate ≠ .on) :
    partnerOff s (48 + k) = s.setRx (48 + k) { s.rxOf (48 + k) with hs := (s.rxOf (48 + k)).hs.turnOn } := by
  simp [partnerOff, isLv_driver, hs, ch, want, off]

theorem partnerOff_satellite (satellite : isLv n = false) (want : (s.rxOf n).ch.wantOn = true) (off : (s.rxOf n).partnerOn = false)
    (seen : (s.rxOf n).xSilent = false) : partnerOff s n = s.setRx n { s.rxOf n with ch := (s.rxOf n).ch.turnOn } := by
  simp [partnerOff, satellite, want, off, seen]

theorem partnerOff_conducts (satellite : isLv n = false) (on : (s.rxOf n).partnerOn = true) : partnerOff s n = s := by
  simp [partnerOff, satellite, on]

end

/-! ### Out of RESET and ORPHAN (R118, R124) -/

section
variable {s : State} {n : Nat}

theorem leaveReset_orphan (reset : (s.rxOf n).state = .reset) : leaveReset s n =
    s.setRx n { s.rxOf n with state := .orphan, orphan := 0, ch := { gate := .off }, hs := { gate := .off } } := if_pos reset

theorem armSupply_reset (reset : (s.rxOf n).state = .reset) : armSupply s n = s := if_pos reset

theorem armSupply_led (powered : (s.rxOf n).state ≠ .reset) (led : (s.rxOf n).state ≠ .orphan) :
    armSupply s n = s.setRx n { s.rxOf n with armedUv := true } := by
  simp [armSupply, ifPowered, powered, led]

/-- A satellite in ORPHAN that holds a code leaves over a valid down link. -/
theorem armSupply_leaves (orphan : (s.rxOf n).state = .orphan) (held : (s.rxOf n).held.isSome = true) (heard : (s.rxOf n).downSilent = false)
    (good : (s.rxOf n).needGood = 0) : armSupply s n = s.setRx n ({ s.rxOf n with armedUv := true }.enterHeld false) := by
  simp [armSupply, ifPowered, orphan, held, Rx.mayLeave, Rx.downValid, heard, good]

/-- Without a code it takes its policy. -/
theorem armSupply_policy (orphan : (s.rxOf n).state = .orphan) (none : (s.rxOf n).held = none) :
    armSupply s n = s.setRx n ({ s.rxOf n with armedUv := true }.applyOrphan false) := by
  simp [armSupply, ifPowered, orphan, none]

end

/-- Settles O30, event by event. -/
theorem permitsAndCrossLinks : Obligations.PermitsAndCrossLinks := by
  intro s n k on hold
  have satellite := isLv_satellite n
  have sound {c : Permit} (h : c ≠ .safeLs) : c = .safeLs → 48 ≤ n.val := fun e => absurd e h
  refine ⟨fun run held => ⟨?_, ?_, ?_⟩, fun reset => ⟨congrArg Host.Outcome.next (permitTaken_reset reset),
      congrArg Host.Outcome.next (crossLink_unsent (.inl reset)), congrArg Host.Outcome.next (crossSilent_reset reset),
      congrArg Host.Outcome.next (armSupply_reset reset)⟩,
    fun h => congrArg Host.Outcome.next (crossLink_unsent (.inr h)), fun powered => congrArg Host.Outcome.next (crossSilent_powered powered),
    fun powered sender free => ?_, fun run sender holds => ?_, fun e q run first onEdge low => ⟨?_, ?_, ?_⟩,
    fun e q run first off low gate => ?_,
    fun none => congrArg Host.Outcome.next (edgePlacement_idle none), fun latched => congrArg Host.Outcome.next (partnerOff_latched latched),
    fun hs ch want off => congrArg Host.Outcome.next (partnerOff_hs hs ch want off),
    fun want off seen => congrArg Host.Outcome.next (partnerOff_satellite satellite want off seen),
    fun conducts => congrArg Host.Outcome.next (partnerOff_conducts satellite conducts), rfl, fun reset => ?_, rfl, rfl, rfl,
    fun powered led => congrArg Host.Outcome.next (armSupply_led powered led), fun orphan held heard good => ?_,
    fun orphan none policy unlatched off => ?_, fun orphan unarmed => ?_⟩
  · refine ⟨_, congrArg Host.Outcome.next
      (permitTaken_other (c := .safeOff) (sound (by decide)) (by simp [run]) (by simp [run]) (by simp [held])), ?_⟩
    dsimp only [Fin.val_castLE]
    rw [State.rxOf_setRx_same]
    exact ⟨rfl, Chan.turnOff_gate _, rfl, rfl, rfl⟩
  · exact congrArg Host.Outcome.next (permitTaken_same (sound (by decide)) (by simp [run]) (by simp [run]) held)
  · have powered : (s.rxOf n).state ≠ .reset := by simp [run]
    have lost := permitLoss_powered powered
    refine ⟨_, congrArg Host.Outcome.next ((permitTaken_safeLs powered n.isLt).trans lost), congrArg Host.Outcome.next lost, ?_⟩
    dsimp only [Fin.val_castLE]
    rw [State.rxOf_setRx_same]
    obtain ⟨state, pend, -⟩ := Rx.applyOrphan_orphan { s.rxOf n with held := none } (isLv n)
    exact ⟨state, Rx.applyOrphan_held _ _, pend, rfl, rfl⟩
  · refine ⟨_, congrArg Host.Outcome.next (crossLink_free powered sender rfl free), rfl, rfl, ?_⟩
    rw [State.rxOf_setRx_same, State.rxOf_setRx_other _ (partnerOf_ne n), State.rxOf_setRx_same]
    exact ⟨rfl, rfl, rfl, rfl, rfl⟩
  · exact ⟨_, rfl, crossLink_hold_frame sender rfl holds run⟩
  · intro unlatched inSeq free off seen even powered
    refine ⟨_, congrArg Host.Outcome.next ((edgePlacement_on run first low onEdge satellite unlatched inSeq free).trans
      (if_neg (by simp [onRefused_low satellite off seen even]))), ?_⟩
    dsimp only [Fin.val_castLE]
    rw [State.rxOf_setRx_same]
    exact ⟨Chan.turnOn_on unlatched powered, rfl, rfl, rfl⟩
  · intro unlatched inSeq free conducts
    have rx := due_rxOf s n q
    obtain ⟨regs, gate, held, pend, hold, out⟩ := refuseOn_frame (due s n q) n
    rw [rx] at out
    exact ⟨_, congrArg Host.Outcome.next ((edgePlacement_on run first low onEdge satellite unlatched inSeq free).trans
      (if_pos (onRefused_partner satellite conducts))), gate, held, pend, hold, regs, out⟩
  · intro latched
    obtain ⟨out, -, rx⟩ := countLate_only_counts (due s n q) n
    refine ⟨_, congrArg Host.Outcome.next (edgePlacement_latched run first low onEdge latched), ?_, countLate_satellite _ n, out⟩
    dsimp only [Fin.val_castLE]
    rw [State.rxOf, rx]
    exact (congrArg Rx.ch (due_rxOf s n q) :)
  · refine ⟨_, congrArg Host.Outcome.next (edgePlacement_off run first low off gate), ?_⟩
    dsimp only [Fin.val_castLE]
    rw [State.rxOf_setRx_same]
    exact ⟨by simp [Chan.turnOff, gate], rfl, rfl, rfl, rfl⟩
  · refine ⟨_, congrArg Host.Outcome.next (leaveReset_orphan reset), ?_⟩
    rw [State.rxOf_setRx_same]
    exact ⟨rfl, rfl, rfl, rfl, rfl⟩
  · refine ⟨_, congrArg Host.Outcome.next (armSupply_leaves orphan (by simp [held]) heard good), ?_⟩
    rw [State.rxOf_setRx_same]
    simp [Rx.enterHeld, held, Rx.allOff]
  · refine ⟨_, congrArg Host.Outcome.next (armSupply_policy orphan none), ?_⟩
    rw [State.rxOf_setRx_same]
    simp [Rx.applyOrphan, policy, Chan.want, unlatched, off]
  · refine congrArg Host.Outcome.next ((permitTaken_orphan (sound (by decide)) orphan).trans ?_)
    rw [if_neg (by simp [Rx.mayLeave, unarmed, satellite])]

end Sys2Proof.Machine
end

section
/-! SUPPORT and PROOFS of the registers and reports of satellites and drivers (chapter 04): GS_CFG, the clears and their answer that does
not come, measurements and transition reports. -/

namespace Sys2Proof.Machine

/-! ### Register writes of the GS_ and LD_ blocks (R134, R135) -/

theorem safetyOnly_link {a : Nat} (low : 0x60008000 ≤ a) (high : a < 0x60018000) : safetyOnly a = false := by
  have block : (a - 0x60000000) / 0x8000 = 1 ∨ (a - 0x60000000) / 0x8000 = 2 := by omega
  have g1 : 0x60000000 ≤ a := by omega
  have g2 : a < 0x600A8000 := by omega
  have g3 : a ≠ 0x60060400 := by omega
  have g4 : a ≠ 0x60068090 := by omega
  have g5 : a ≠ 0x60068094 := by omega
  rcases block with h | h <;> simp [safetyOnly, blkAt, g1, g2, g3, g4, g5, h, blkOrder]

section
variable {s : State} (p : Fin 12) (up : s.allUp = true)
include up

theorem exec_gsCfgWrite (n : Fin 48) (d : Word) :
    exec (.gsCfgWrite (.pair p) n d) s = .next (settle s (gsCfg s n d.toNat).1) :=
  congrArg (fun t => Host.Outcome.next (settle s t)) (regWr_pair p _ _ up (by omega) (safetyOnly_link (by omega) (by omega)))

theorem exec_gsClear (n : Fin 48) : exec (.gsClear (.pair p) n) s = .next (settle s (satClear s n).1) :=
  congrArg (fun t => Host.Outcome.next (settle s t)) (regWr_pair p _ _ up (by omega) (safetyOnly_link (by omega) (by omega)))

theorem exec_ldClear (k : Fin 12) : exec (.ldClear (.pair p) k) s = .next (settle s (satClear s (48 + k)).1) :=
  congrArg (fun t => Host.Outcome.next (settle s t)) (regWr_pair p _ _ up (by omega) (safetyOnly_link (by omega) (by omega)))

end

theorem SameWatch.refuseLink (s : State) (l : Nat) (st : Status) : SameWatch s (s.refuse (linkErr l) st) := by
  unfold linkErr
  split
  · exact SameWatch.refuse s gsErr st (by decide) (by decide)
  · exact SameWatch.refuse s ldErr st (by decide) (by decide)

theorem linkErr_satellite (n : Fin 48) : linkErr n = gsErr := if_pos n.isLt

theorem linkErr_driver (k : Nat) : linkErr (48 + k) = ldErr := if_neg (by omega)

/-! ### GS_CFG (R134) -/

/-- The fields of GS_CFG in a word. -/
def gsCfgFields (n d : Nat) : List (Fld × Nat) :=
  [(GS_CFG_DSAT_TH n, bitsOf d 0 6), (GS_CFG_DSAT_BLANK n, bitsOf d 6 7), (GS_CFG_TRACK n, bitsOf d 13 1),
    (GS_CFG_TRACK_MARGIN n, bitsOf d 14 6), (GS_CFG_SC_TH n, bitsOf d 20 4), (GS_CFG_SC_EN n, bitsOf d 24 1), (GS_CFG_DSAT_EN n, bitsOf d 25 1)]

theorem gsCfgFields_unwatched (d : Nat) : ∀ n : Fin 48, ∀ e ∈ gsCfgFields n d, watchedKey e.1.key = false := by
  have fields : ∀ n : Fin 48, ∀ f ∈ [GS_CFG_DSAT_TH n, GS_CFG_DSAT_BLANK n, GS_CFG_TRACK n, GS_CFG_TRACK_MARGIN n, GS_CFG_SC_TH n,
      GS_CFG_SC_EN n, GS_CFG_DSAT_EN n], watchedKey f.key = false := by decide +kernel
  exact fun n e mem => fields n e.1 (List.mem_map_of_mem (f := Prod.fst) mem)

/-- The checks of a write of GS_CFG, in order. -/
def gsCfgStatus (s : State) (n d : Nat) : Status :=
  firstOf [(!s.linkFitted n, .LEG_ABSENT), (!s.legStopped (n / 2), .GROUP_RUNNING),
    (125 ≤ bitsOf d 6 7 || bitsOf d 14 6 < 5 || 40 < bitsOf d 14 6, .GS_RANGE),
    (s.flag GS_LOCK && (gsCfgFields n d).any (fun e => s.fld e.1 ≠ e.2), .GS_LOCKED)]

section
variable {s : State} {n d : Nat}

theorem gsCfgStatus_eq : gsCfgStatus s n d =
    if s.linkFitted n = false then .LEG_ABSENT
    else if s.legStopped (n / 2) = false then .GROUP_RUNNING
    else if 125 ≤ bitsOf d 6 7 ∨ bitsOf d 14 6 < 5 ∨ 40 < bitsOf d 14 6 then .GS_RANGE
    else if s.flag GS_LOCK = true ∧ (gsCfgFields n d).any (fun e => s.fld e.1 ≠ e.2) = true then .GS_LOCKED
    else .OK := by
  simp only [gsCfgStatus, firstOf_cons, firstOf_nil, Bool.not_eq_true', Bool.or_eq_true, Bool.and_eq_true, decide_eq_true_eq, or_assoc]

theorem gsCfg_refused {st : Status} (h : gsCfgStatus s n d = st) (refusal : st ≠ .OK) : (gsCfg s n d).1 = s.refuse gsErr st := by
  subst h
  unfold gsCfg
  dsimp only
  split
  next ok => exact absurd ok refusal
  next => rfl

theorem gsCfg_accepted (h : gsCfgStatus s n d = .OK) (open_ : s.flag GS_LOCK = false) :
    (gsCfg s n d).1 = (s.putAll (gsCfgFields n d)).emit (.cfgWr n (d % 2 ^ 26)) := by
  unfold gsCfg
  dsimp only
  split
  next => rw [if_neg (by simp [open_])]; rfl
  next refused => exact absurd h refused

end

theorem exec_gsCfgWrite_refused {s : State} (p : Fin 12) {n : Fin 48} {d : Word} {st : Status} (quiet : s.quiet = true) (up : s.allUp = true)
    (h : gsCfgStatus s n d.toNat = st) (refusal : st ≠ .OK) : exec (.gsCfgWrite (.pair p) n d) s = .next (s.refuse gsErr st) := by
  rw [exec_gsCfgWrite p up, gsCfg_refused h refusal]
  exact congrArg Host.Outcome.next (settle_quiet quiet (linkErr_satellite n ▸ SameWatch.refuseLink s n st))

theorem exec_gsCfgWrite_accepted {s : State} (p : Fin 12) {n : Fin 48} {d : Word} (quiet : s.quiet = true) (up : s.allUp = true)
    (h : gsCfgStatus s n d.toNat = .OK) (open_ : s.flag GS_LOCK = false) : exec (.gsCfgWrite (.pair p) n d) s =
      .next ((s.putAll (gsCfgFields n d.toNat)).emit (.cfgWr n (d.toNat % 2 ^ 26))) := by
  rw [exec_gsCfgWrite p up, gsCfg_accepted h open_]
  have written := SameWatch.putAll s _ (gsCfgFields_unwatched d.toNat n)
  exact congrArg Host.Outcome.next (settle_quiet quiet (written.trans (SameWatch.of_regs rfl rfl rfl)))

/-! ### Clears (R111, R121) -/

section
variable {s : State} {l : Nat} (quiet : s.quiet = true)
include quiet

theorem settle_satClear_absent (absent : s.linkFitted l = false) : settle s (satClear s l).1 = s.refuse (linkErr l) .LEG_ABSENT := by
  rw [satClear_absent absent]
  exact settle_quiet quiet (SameWatch.refuseLink s l _)

theorem settle_satClear_lost (small : l < 60) (fitted : s.linkFitted l = true) (lost : (s.lkOf l).lost = true) (few : (s.lkOf l).goodUp < 4) :
    settle s (satClear s l).1 = satRefused s l := by
  have gs : ∀ n : Fin 48, watchedKey (GS_STAT_CLR_RESULT n).key = false := by decide
  have ld : ∀ k : Fin 12, watchedKey (LD_STAT_CLR_RESULT k).key = false := by decide
  rw [satClear_lost fitted lost few]
  refine settle_quiet quiet (SameWatch.trans ?_ (SameWatch.refuseLink _ l _))
  split
  next satellite => exact SameWatch.put s _ _ (gs ⟨l, satellite⟩)
  next driver => exact SameWatch.put s _ _ (ld ⟨l - 48, by omega⟩)

theorem settle_satClear_sends (fitted : s.linkFitted l = true) (alive : (s.lkOf l).lost = false) :
    settle s (satClear s l).1 = (s.setLk l { s.lkOf l with clearWait := true }).emit (.down l (mkFrame 6 0)) := by
  rw [satClear_sends fitted (.inl alive)]
  exact settle_quiet quiet (SameWatch.of_regs rfl rfl rfl)

end

theorem satRefused_satellite (s : State) (n : Fin 48) : satRefused s n = (s.put (GS_STAT_CLR_RESULT n) 2).refuse gsErr .FAULT_PERSISTS := by
  rw [satRefused, if_pos n.isLt, linkErr_satellite]

theorem satRefused_driver (s : State) (k : Nat) : satRefused s (48 + k) = (s.put (LD_STAT_CLR_RESULT k) 2).refuse ldErr .FAULT_PERSISTS := by
  rw [satRefused, if_neg (by omega), linkErr_driver, Nat.add_sub_cancel_left]

section
variable {s : State}

theorem clearTimeout_idle {l : Nat} (idle : (s.lkOf l).clearWait = false) : clearTimeout s l = s := if_neg (by simp [idle])

theorem clearTimeout_satellite (n : Fin 48) (waits : (s.lkOf n).clearWait = true) : clearTimeout s n =
    (((s.setLk n { s.lkOf n with clearWait := false }).put (GS_STAT_CLR_RESULT n) 3).refuse gsErr .SAT_SILENT).finish
      (.satClear n) .SAT_SILENT := by
  unfold clearTimeout
  dsimp only
  rw [if_pos waits, if_pos n.isLt, linkErr_satellite]

theorem clearTimeout_driver (k : Nat) (waits : (s.lkOf (48 + k)).clearWait = true) : clearTimeout s (48 + k) =
    (((s.setLk (48 + k) { s.lkOf (48 + k) with clearWait := false }).put (LD_STAT_CLR_RESULT k) 3).refuse ldErr .SAT_SILENT).finish
      (.satClear (48 + k)) .SAT_SILENT := by
  unfold clearTimeout
  dsimp only
  rw [if_pos waits, if_neg (by omega), linkErr_driver, Nat.add_sub_cancel_left]

end

/-! ### Measurements (R129, R390) -/

section
variable {s : State}

theorem satMeasure_reset {l ntc die : Nat} (reset : (s.rxOf l).state = .reset) : satMeasure s l ntc die = s := if_pos reset

theorem satMeasure_satellite (n : Fin 48) (ntc die : Nat) (powered : (s.rxOf n).state ≠ .reset) :
    satMeasure s n ntc die = sendMeas (sendMeas s n 0 ntc) n 1 die := (if_neg powered).trans (if_pos n.isLt)

theorem satMeasure_driver (k ntc die : Nat) (powered : (s.rxOf (48 + k)).state ≠ .reset) :
    satMeasure s (48 + k) ntc die = sendMeas s (48 + k) 1 die := (if_neg powered).trans (if_neg (by omega))

end

section
variable {s : State} {k : Nat}

theorem sensorStale_unsampled (none : (s.sensOf k).last = none) : sensorStale s k = s := if_pos (by simp [none])

theorem sensorStale_breaks {v : Int} (awake : psState s = 0) (sampled : (s.sensOf k).last = some v) :
    sensorStale s k = markSensor (s.setSens k { s.sensOf k with good := 0 }) k true 0 := if_neg (by simp [awake, sampled])

/-- A sensor that is marked broken. -/
theorem markSensor_broken (s : State) (k good : Nat) : (markSensor s k true good).fld (THM_SENS_BROKEN k) = 1 ∧
    (markSensor s k true good).fld (THM_SENS_VALID k) = 0 ∧ (markSensor s k true good).words = s.words ∧
    ∀ f : Fld, f.key < (THM_BROKEN_BITS 0).key → (markSensor s k true good).fld f = s.fld f := by
  have broken : (THM_SENS_BROKEN k).key ≠ (THM_SENS_VALID k).key := by simp [Fld.key, THM_SENS_BROKEN, THM_SENS_VALID]
  have bits : (THM_SENS_BROKEN k).key ≠ (THM_BROKEN_BITS (k / 32)).key := by
    simp only [Fld.key, THM_SENS_BROKEN, THM_BROKEN_BITS]
    omega
  have shown : (markSensor s k true good).regs = (((s.put (THM_SENS_BROKEN k) 1).put (THM_BROKEN_BITS (k / 32))
      (setBit (s.fld (THM_BROKEN_BITS (k / 32))) (k % 32))).put (THM_SENS_VALID k) 0).regs ∧ (markSensor s k true good).words = s.words := by
    unfold markSensor State.when
    dsimp only
    split <;> exact ⟨rfl, rfl⟩
  obtain ⟨regs, words⟩ := shown
  generalize setBit (s.fld (THM_BROKEN_BITS (k / 32))) (k % 32) = v at regs
  have same (f : Fld) : (markSensor s k true good).fld f =
      (((s.put (THM_SENS_BROKEN k) 1).put (THM_BROKEN_BITS (k / 32)) v).put (THM_SENS_VALID k) 0).fld f := by
    rw [State.fld, regs, ← State.fld]
  refine ⟨?_, ?_, words, fun f low => ?_⟩
  · rw [same, State.fld_put_other _ _ _ _ broken, State.fld_put_other _ _ _ _ bits, State.fld_put_same]
    rfl
  · rw [same, State.fld_put_same]
    rfl
  · simp only [Fld.key, THM_BROKEN_BITS] at low
    rw [same, State.fld_put_other, State.fld_put_other, State.fld_put_other] <;>
      · simp only [Fld.key, THM_SENS_BROKEN, THM_SENS_VALID, THM_BROKEN_BITS]
        omega

end

section
variable {s : State} (n : Fin 48) (die : Bool)

theorem measGone_satellite : measGone s n die =
    sensorStale (s.put (if die then GS_DIE_STALE n else GS_NTC_STALE n) 1) (if die then 64 + n.val else 16 + n.val) := by
  have satellite := n.isLt
  simp only [measGone, measStale, satellite, if_true]
  rfl

theorem measGone_unsampled (none : (s.sensOf (if die then 64 + n.val else 16 + n.val)).last = none) :
    measGone s n die = s.put (if die then GS_DIE_STALE n else GS_NTC_STALE n) 1 :=
  (measGone_satellite n die).trans (sensorStale_unsampled none)

/-- A stale NTC that had a sample breaks its sensor. -/
theorem measGone_breaks {v : Int} (quiet : s.quiet = true) (sampled : (s.sensOf (16 + n.val)).last = some v) :
    (measGone s n false).fld (GS_NTC_STALE n) = 1 ∧ (measGone s n false).fld (THM_SENS_BROKEN (16 + n.val)) = 1 ∧
    (measGone s n false).fld (THM_SENS_VALID (16 + n.val)) = 0 ∧ (measGone s n false).words = s.words := by
  have apart : PWR_PS_STAT_STATE.key ≠ (GS_NTC_STALE n).key := by
    simp only [Fld.key, PWR_PS_STAT_STATE, GS_NTC_STALE]
    omega
  have awake : psState (s.put (GS_NTC_STALE n) 1) = 0 := (State.fld_put_other _ _ _ _ apart).trans (psState_quiet quiet)
  have low : (GS_NTC_STALE n).key < (THM_BROKEN_BITS 0).key := by
    simp only [Fld.key, THM_BROKEN_BITS, GS_NTC_STALE]
    omega
  have gone : measGone s n false = markSensor ((s.put (GS_NTC_STALE n) 1).setSens (16 + n.val) { s.sensOf (16 + n.val) with good := 0 })
      (16 + n.val) true 0 := (measGone_satellite n false).trans (sensorStale_breaks awake sampled)
  rw [gone]
  obtain ⟨broken, valid, words, others⟩ := markSensor_broken
    ((s.put (GS_NTC_STALE n) 1).setSens (16 + n.val) { s.sensOf (16 + n.val) with good := 0 }) (16 + n.val) 0
  exact ⟨(others _ low).trans (State.fld_put_same s (GS_NTC_STALE n) 1), broken, valid, words⟩

end

/-! ### Transition reports (R128) -/

section
variable {s : State} (n : Fin 48) (taps : Nat)

theorem transitionMeasured_idle (idle : (s.rxOf n).ch.measuring = false) : transitionMeasured s n false taps = s := by
  simp [transitionMeasured, idle]

theorem transitionMeasured_reports (measuring : (s.rxOf n).ch.measuring = true) : transitionMeasured s n false taps =
    (s.setRx n { s.rxOf n with ch := { (s.rxOf n).ch with measuring := false } }).up n 1
      (bit (s.fld (PWM_LEG_DTLIM_DT_MAX (n.val / 2)) < taps) * 2 ^ 23 + min taps (s.fld (PWM_LEG_DTLIM_DT_MAX (n.val / 2))) % 2 ^ 17 * 2 ^ 5) := by
  have leg : legOfLink n = n.val / 2 := if_pos n.isLt
  simp [transitionMeasured, measuring, isLv_satellite, leg, bit]

end

/-- Settles O31, register by register and report by report. -/
theorem satelliteRegistersAndReports : Obligations.SatelliteRegistersAndReports := by
  intro s p n k d ntc die taps quiet up
  have order := gsCfgStatus_eq (s := s) (n := n) (d := d.toNat)
  refine ⟨fun absent => ⟨?_, ?_⟩, fun fitted moving => ?_, fun fitted stopped range => ?_, fun fitted stopped blank low high open_ => ?_,
    fun fitted stopped blank low high locked differs => ?_, fun fitted lost few => ?_, fun fitted alive => ?_, fun fitted alive => ?_,
    fun absent => ?_, fun fitted lost few => ?_, fun waits => congrArg Host.Outcome.next (clearTimeout_driver k waits),
    fun idle => congrArg Host.Outcome.next (clearTimeout_idle idle), fun waits => congrArg Host.Outcome.next (clearTimeout_satellite n waits),
    fun powered => congrArg Host.Outcome.next (satMeasure_satellite n _ _ powered),
    fun powered => congrArg Host.Outcome.next (satMeasure_driver k _ _ powered), fun reset => congrArg Host.Outcome.next (satMeasure_reset reset),
    fun none => ?_, fun none => ?_, fun v sampled => ?_, fun idle => congrArg Host.Outcome.next (transitionMeasured_idle n taps idle),
    fun measuring => congrArg Host.Outcome.next (transitionMeasured_reports n taps measuring)⟩
  · exact exec_gsCfgWrite_refused p quiet up (by simpa [absent] using order) (by decide)
  · rw [exec_gsClear p up, settle_satClear_absent quiet absent, linkErr_satellite]
  · exact exec_gsCfgWrite_refused p quiet up (by simpa [fitted, moving] using order) (by decide)
  · exact exec_gsCfgWrite_refused p quiet up (by simpa [fitted, stopped, range] using order) (by decide)
  · have inRange : ¬ (125 ≤ bitsOf d.toNat 6 7 ∨ bitsOf d.toNat 14 6 < 5 ∨ 40 < bitsOf d.toNat 14 6) := by omega
    exact exec_gsCfgWrite_accepted p quiet up (by simpa [fitted, stopped, inRange, open_] using order) open_
  · have inRange : ¬ (125 ≤ bitsOf d.toNat 6 7 ∨ bitsOf d.toNat 14 6 < 5 ∨ 40 < bitsOf d.toNat 14 6) := by omega
    have change : (gsCfgFields n d.toNat).any (fun e => s.fld e.1 ≠ e.2) = true :=
      List.any_eq_true.2 ⟨_, List.mem_cons_self, by simpa using differs⟩
    rw [if_neg (by simp [fitted]), if_neg (by simp [stopped]), if_neg inRange, if_pos ⟨locked, change⟩] at order
    exact exec_gsCfgWrite_refused p quiet up order (by decide)
  · rw [exec_gsClear p up, settle_satClear_lost quiet (by omega) fitted lost few, satRefused_satellite]
  · rw [exec_gsClear p up, settle_satClear_sends quiet fitted alive]
  · rw [exec_ldClear p up, settle_satClear_sends quiet fitted alive]
  · rw [exec_ldClear p up, settle_satClear_absent quiet absent, linkErr_driver]
  · rw [exec_ldClear p up, settle_satClear_lost quiet (by omega) fitted lost few, satRefused_driver]
  · exact congrArg Host.Outcome.next ((dozeWake_quiet _ quiet).trans (measGone_unsampled n false none))
  · exact congrArg Host.Outcome.next ((dozeWake_quiet _ quiet).trans (measGone_unsampled n true none))
  · exact ⟨_, congrArg Host.Outcome.next (dozeWake_quiet _ quiet), measGone_breaks n quiet sampled⟩

end Sys2Proof.Machine
end

section

/-! SUPPORT and PROOFS of the converters, modulator inputs and sample slots (chapter 05). What a step of island 34 leaves alone is said by
`MeasureStep`; the status registers of a converter and the mirror records are ranges of keys, named once, so that each write states the
range it falls into. -/

namespace Sys2Proof.Machine

/-! ### What a step of island 34 leaves alone -/

/-- From `s` to `t` stand: what other blocks look at, every word, and every field whose key is one of `K`. -/
structure MeasureStep (K : Nat → Prop) (s t : State) : Prop where
  watch : SameWatch s t
  spares : Spares K s t
  words : t.words = s.words

section
variable {K : Nat → Prop} {r s t : State}

theorem MeasureStep.refl (s : State) : MeasureStep K s s := ⟨.refl s, .refl s, rfl⟩

theorem MeasureStep.trans (h : MeasureStep K r s) (k : MeasureStep K s t) : MeasureStep K r t :=
  ⟨h.watch.trans k.watch, h.spares.trans k.spares, k.words.trans h.words⟩

theorem MeasureStep.put {f : Fld} {v : Nat} (h : MeasureStep K r s) (unwatched : watchedKey f.key = false) (free : ¬ K f.key) :
    MeasureStep K r (s.put f v) :=
  ⟨h.watch.trans (SameWatch.put s f v unwatched), h.spares.put free, h.words⟩

/-- A change beside the registers and the words. -/
theorem MeasureStep.beside (h : MeasureStep K r s) (regs : t.regs = s.regs) (waits : t.waits = s.waits) (calls : called t = called s)
    (mtime : t.mtime = s.mtime) (words : t.words = s.words) : MeasureStep K r t :=
  h.trans ⟨.of_regs regs waits calls, (Spares.refl s).of_regs regs mtime, words⟩

theorem MeasureStep.emit (h : MeasureStep K r s) (o : Out) : MeasureStep K r (s.emit o) := h.beside rfl rfl rfl rfl rfl

theorem MeasureStep.irq (h : MeasureStep K r s) (p : Nat) (b : Blk) (i c : Nat) : MeasureStep K r (s.irq p b i c) := h.emit _

theorem MeasureStep.setAdc (h : MeasureStep K r s) (n : Nat) (v : Adc) : MeasureStep K r (s.setAdc n v) := h.beside rfl rfl rfl rfl rfl

theorem MeasureStep.setModu (h : MeasureStep K r s) (k : Nat) (v : Modu) : MeasureStep K r (s.setModu k v) := h.beside rfl rfl rfl rfl rfl

theorem MeasureStep.when {c : Bool} {f : State → State} (h : MeasureStep K r s) (act : ∀ t, MeasureStep K r t → MeasureStep K r (f t)) :
    MeasureStep K r (s.when c f) := by
  cases c
  · exact h
  · exact act s h

theorem MeasureStep.ite {c : Prop} [Decidable c] (h : MeasureStep K r s) (k : MeasureStep K r t) :
    MeasureStep K r (if c then s else t) := by
  split <;> assumption

end

/-! ### Where the registers of island 34 stand -/

/-- The keys of ADC_CTRL of converter `n`. -/
def ctrlKey (n k : Nat) : Prop := (0x60018000 + 0x100 * n) * 32 ≤ k ∧ k < (0x60018004 + 0x100 * n) * 32

/-- The keys of ADC_STAT and ADC_CNT of converter `n`. -/
def statKey (n k : Nat) : Prop := (0x60018004 + 0x100 * n) * 32 ≤ k ∧ k < (0x6001800C + 0x100 * n) * 32

/-- The keys of ADC_CMP_STAT of converter `n`. -/
def cmpKey (n k : Nat) : Prop := (0x60018014 + 0x100 * n) * 32 ≤ k ∧ k < (0x60018018 + 0x100 * n) * 32

/-- The keys of the mirror record at `base`. -/
def recordKey (base k : Nat) : Prop := (base + 8) * 32 ≤ k ∧ k < (base + 0x18) * 32

/-- The registers of island 34's converters and modulator channels lie apart from those that other blocks look at. -/
theorem watchedKey_measure {k : Nat} (low : 0x60018000 * 32 ≤ k) (high : k < 0x60028000 * 32) : watchedKey k = false := by
  simp only [watchedKey, Bool.or_eq_false_iff, Bool.and_eq_false_iff, decide_eq_false_iff_not]
  omega

theorem watchedKey_ctrl {n k : Nat} (small : n < 32) (h : ctrlKey n k) : watchedKey k = false := by
  simp only [ctrlKey] at h
  exact watchedKey_measure (by omega) (by omega)

theorem watchedKey_stat {n k : Nat} (small : n < 32) (h : statKey n k) : watchedKey k = false := by
  simp only [statKey] at h
  exact watchedKey_measure (by omega) (by omega)

theorem watchedKey_cmp {n k : Nat} (small : n < 32) (h : cmpKey n k) : watchedKey k = false := by
  simp only [cmpKey] at h
  exact watchedKey_measure (by omega) (by omega)

theorem busy_stat (n : Nat) : statKey n (ADC_STAT_BUSY n).key := by simp only [statKey, Fld.key, ADC_STAT_BUSY]; omega
theorem entry_stat (n : Nat) : statKey n (ADC_STAT_ENTRY n).key := by simp only [statKey, Fld.key, ADC_STAT_ENTRY]; omega
theorem urgBusy_stat (n : Nat) : statKey n (ADC_STAT_URG_BUSY n).key := by simp only [statKey, Fld.key, ADC_STAT_URG_BUSY]; omega
theorem urgPend_stat (n : Nat) : statKey n (ADC_STAT_URG_PEND n).key := by simp only [statKey, Fld.key, ADC_STAT_URG_PEND]; omega
theorem trgOvr_stat (n : Nat) : statKey n (ADC_CNT_TRG_OVR n).key := by simp only [statKey, Fld.key, ADC_CNT_TRG_OVR]; omega
theorem abortCnt_stat (n : Nat) : statKey n (ADC_CNT_ABORT_CNT n).key := by simp only [statKey, Fld.key, ADC_CNT_ABORT_CNT]; omega
theorem urgMerged_stat (n : Nat) : statKey n (ADC_CNT_URG_MERGED n).key := by simp only [statKey, Fld.key, ADC_CNT_URG_MERGED]; omega
theorem out_cmp (n : Nat) : cmpKey n (ADC_CMP_STAT_OUT n).key := by simp only [cmpKey, Fld.key, ADC_CMP_STAT_OUT]; omega
theorem watchExp_cmp (n : Nat) : cmpKey n (ADC_CMP_STAT_WATCH_EXP n).key := by simp only [cmpKey, Fld.key, ADC_CMP_STAT_WATCH_EXP]; omega
theorem evt_cmp (n : Nat) : cmpKey n (ADC_CMP_STAT_EVT n).key := by simp only [cmpKey, Fld.key, ADC_CMP_STAT_EVT]; omega
theorem cnt_cmp (n : Nat) : cmpKey n (ADC_CMP_STAT_CNT n).key := by simp only [cmpKey, Fld.key, ADC_CMP_STAT_CNT]; omega

/-- A list of fields with different keys, written first to last: each reads as its value. -/
theorem State.fld_putAll_mem {l : List (Fld × Nat)} (apart : l.Pairwise fun a b => a.1.key ≠ b.1.key) {f : Fld} {v : Nat} (mem : (f, v) ∈ l)
    (s : State) : (s.putAll l).fld f = v % 2 ^ f.width := by
  induction l generalizing s with
  | nil => cases mem
  | cons e l ih =>
    obtain ⟨others, apart⟩ := List.pairwise_cons.1 apart
    rcases List.mem_cons.1 mem with rfl | mem
    · have kept : Spares (fun k => k = f.key) (s.put f v) ((s.put f v).putAll l) := (Spares.refl _).putAll fun e he => (others e he).symm
      exact (kept.fld f rfl).trans (State.fld_put_same s f v)
    · exact ih apart mem (s.put e.1 e.2)

theorem State.adcOf_setAdc_same (s : State) (n : Nat) (a : Adc) : (s.setAdc n a).adcOf n = a := Tbl.get_set_same _ _ _ _

/-! ### Register writes of the ADC_ block (R160) -/

theorem safetyOnly_adc {a : Nat} (low : 0x60018000 ≤ a) (high : a < 0x60020000) : safetyOnly a = false := by
  have block : (a - 0x60000000) / 0x8000 = 3 := by omega
  have g1 : 0x60000000 ≤ a := by omega
  have g2 : a < 0x600A8000 := by omega
  have g3 : a ≠ 0x60060400 := by omega
  have g4 : a ≠ 0x60068090 := by omega
  have g5 : a ≠ 0x60068094 := by omega
  simp [safetyOnly, blkAt, g1, g2, g3, g4, g5, block, blkOrder]

section
variable {s : State} (p : Fin 12) (n : Fin 32) (up : s.allUp = true)
include up

theorem exec_adcSwStart : exec (.adcSwStart (.pair p) n) s = .next (settle s (adcStart s n)) :=
  congrArg (fun t => Host.Outcome.next (settle s t)) (regWr_pair p _ _ up (by omega) (safetyOnly_adc (by omega) (by omega)))

theorem exec_adcSwUrgent : exec (.adcSwUrgent (.pair p) n) s = .next (settle s (adcUrgent s n)) :=
  congrArg (fun t => Host.Outcome.next (settle s t)) (regWr_pair p _ _ up (by omega) (safetyOnly_adc (by omega) (by omega)))

theorem exec_adcEnable (d : Word) :
    exec (.adcEnable (.pair p) n d) s = .next (settle s (adcCtrlWrite s n (setBit d.toNat 0)).1) :=
  congrArg (fun t => Host.Outcome.next (settle s t)) (regWr_pair p _ _ up (by omega) (safetyOnly_adc (by omega) (by omega)))

theorem exec_adcDisable (d : Word) :
    exec (.adcDisable (.pair p) n d) s = .next (settle s (adcCtrlWrite s n (clearBit d.toNat 0)).1) :=
  congrArg (fun t => Host.Outcome.next (settle s t)) (regWr_pair p _ _ up (by omega) (safetyOnly_adc (by omega) (by omega)))

end

/-! ### Starts and urgent requests (R141-R146) -/

section
variable {s : State} {n : Nat}

theorem adcStart_disabled (off : s.flag (ADC_CTRL_EN n) = false) : adcStart s n = s := by simp [adcStart, off]

theorem adcStart_running (on : s.flag (ADC_CTRL_EN n) = true) (busy : s.flag (ADC_STAT_BUSY n) = true) : adcStart s n = startOverrun s n := by
  simp [adcStart, on, busy]

theorem adcStart_continuous (on : s.flag (ADC_CTRL_EN n) = true) (idle : s.flag (ADC_STAT_BUSY n) = false)
    (mode : s.fld (ADC_CTRL_TRG_MODE n) = 2) : adcStart s n = s := by
  simp [adcStart, on, idle, mode]

theorem adcStart_waits (on : s.flag (ADC_CTRL_EN n) = true) (idle : s.flag (ADC_STAT_BUSY n) = false)
    (mode : s.fld (ADC_CTRL_TRG_MODE n) ≠ 2) (urgent : s.flag (ADC_STAT_URG_BUSY n) = true) (first : (s.adcOf n).wait = false) :
    adcStart s n = s.setAdc n { s.adcOf n with wait := true } := by
  simp [adcStart, on, idle, mode, urgent, first]

theorem adcStart_begins (on : s.flag (ADC_CTRL_EN n) = true) (idle : s.flag (ADC_STAT_BUSY n) = false)
    (mode : s.fld (ADC_CTRL_TRG_MODE n) ≠ 2) (calm : s.flag (ADC_STAT_URG_BUSY n) = false) : adcStart s n = beginSequence s n := by
  simp [adcStart, on, idle, mode, calm]

theorem startOverrun_silent (silent : s.flag (ADC_CTRL_OVR_IE n) = false) : startOverrun s n = s.inc (ADC_CNT_TRG_OVR n) := by
  simp [startOverrun, silent, State.when]

theorem adcTrigger_start (mode : s.fld (ADC_CTRL_TRG_MODE n) = 1) : adcTrigger s n = adcStart s n := if_pos mode

theorem adcTrigger_other (mode : s.fld (ADC_CTRL_TRG_MODE n) ≠ 1) : adcTrigger s n = s := if_neg mode

theorem adcTrigger_disabled (off : s.flag (ADC_CTRL_EN n) = false) : adcTrigger s n = s := by simp [adcTrigger, adcStart_disabled off]

theorem adcUrgent_disabled (off : s.flag (ADC_CTRL_EN n) = false) : adcUrgent s n = s := by simp [adcUrgent, off]

/-- An urgent request aborts the running entry. -/
theorem adcUrgent_aborts (on : s.flag (ADC_CTRL_EN n) = true) (calm : s.flag (ADC_STAT_URG_BUSY n) = false)
    (busy : s.flag (ADC_STAT_BUSY n) = true) (few : (s.adcOf n).aborts < 4) : adcUrgent s n =
      ((s.setAdc n { s.adcOf n with aborts := (s.adcOf n).aborts + 1, retaken := true }).inc (ADC_CNT_ABORT_CNT n)).put
        (ADC_STAT_URG_BUSY n) 1 := by
  simp [adcUrgent, on, calm, busy, few, State.putFlag, bit]

theorem adcUrgent_pends (on : s.flag (ADC_CTRL_EN n) = true) (urgent : s.flag (ADC_STAT_URG_BUSY n) = true)
    (free : s.flag (ADC_STAT_URG_PEND n) = false) : adcUrgent s n = s.put (ADC_STAT_URG_PEND n) 1 := by
  simp [adcUrgent, on, urgent, free, State.putFlag, bit]

theorem adcUrgent_merges (on : s.flag (ADC_CTRL_EN n) = true) (urgent : s.flag (ADC_STAT_URG_BUSY n) = true)
    (pending : s.flag (ADC_STAT_URG_PEND n) = true) : adcUrgent s n = s.inc (ADC_CNT_URG_MERGED n) := by
  simp [adcUrgent, on, urgent, pending]

theorem adcUrgentEvt_on (enabled : s.flag (ADC_CTRL_URG_EVT_EN n) = true) : adcUrgentEvt s n = adcUrgent s n := if_pos enabled

theorem adcUrgentEvt_disabled (off : s.flag (ADC_CTRL_EN n) = false) : adcUrgentEvt s n = s := by
  simp [adcUrgentEvt, adcUrgent_disabled off]

/-- A sequence that begins stands at entry 0 of its snapshot. -/
theorem beginSequence_shows (s : State) (n : Nat) : (beginSequence s n).fld (ADC_STAT_BUSY n) = 1 ∧
    (beginSequence s n).fld (ADC_STAT_ENTRY n) = 0 ∧
    ((beginSequence s n).adcOf n).seq.length = s.fld (ADC_CTRL_SEQ_LEN n) + 1 ∧ (beginSequence s n).out = s.out := by
  have apart : (ADC_STAT_BUSY n).key ≠ (ADC_STAT_ENTRY n).key := by simp [Fld.key, ADC_STAT_BUSY, ADC_STAT_ENTRY]
  refine ⟨(State.fld_put_other _ _ _ _ apart).trans (State.fld_put_same _ _ _), State.fld_put_same _ _ _, ?_, rfl⟩
  show (State.adcOf (State.setAdc s n _) n).seq.length = _
  rw [State.adcOf_setAdc_same, List.length_map, List.length_range]

/-- The aborted entry waits for the urgent conversion. -/
theorem adcUrgent_aborts_shows (on : s.flag (ADC_CTRL_EN n) = true) (calm : s.flag (ADC_STAT_URG_BUSY n) = false)
    (busy : s.flag (ADC_STAT_BUSY n) = true) (few : (s.adcOf n).aborts < 4) : (adcUrgent s n).fld (ADC_STAT_URG_BUSY n) = 1 ∧
      ((adcUrgent s n).adcOf n).aborts = (s.adcOf n).aborts + 1 ∧ ((adcUrgent s n).adcOf n).retaken = true ∧
      (adcUrgent s n).words = s.words := by
  rw [adcUrgent_aborts on calm busy few]
  have kept : State.adcOf (((s.setAdc n { s.adcOf n with aborts := (s.adcOf n).aborts + 1, retaken := true }).inc
      (ADC_CNT_ABORT_CNT n)).put (ADC_STAT_URG_BUSY n) 1) n = { s.adcOf n with aborts := (s.adcOf n).aborts + 1, retaken := true } :=
    State.adcOf_setAdc_same _ _ _
  exact ⟨State.fld_put_same _ _ _, congrArg Adc.aborts kept, congrArg Adc.retaken kept, rfl⟩

end

section
variable {K : Nat → Prop} {r s : State} {n : Nat} (small : n < 32) (free : ∀ k, statKey n k → ¬ K k)
include small free

/-- A write of ADC_STAT or ADC_CNT. -/
theorem MeasureStep.putStat {f : Fld} {v : Nat} (h : MeasureStep K r s) (own : statKey n f.key) : MeasureStep K r (s.put f v) :=
  h.put (watchedKey_stat small own) (free _ own)

theorem MeasureStep.beginSequence (h : MeasureStep K r s) : MeasureStep K r (beginSequence s n) :=
  ((h.setAdc n _).putStat small free (busy_stat n)).putStat small free (entry_stat n)

theorem MeasureStep.startOverrun (h : MeasureStep K r s) : MeasureStep K r (startOverrun s n) :=
  (h.putStat small free (trgOvr_stat n)).when fun _ h => h.irq _ _ _ _

theorem MeasureStep.adcStart (h : MeasureStep K r s) : MeasureStep K r (adcStart s n) :=
  .ite h <| .ite (h.startOverrun small free) <| .ite h <|
    .ite (.ite (h.startOverrun small free) (h.setAdc n _)) (h.beginSequence small free)

theorem MeasureStep.adcUrgent (h : MeasureStep K r s) : MeasureStep K r (adcUrgent s n) := by
  have pend : MeasureStep K r (if s.flag (ADC_STAT_URG_PEND n) then s.inc (ADC_CNT_URG_MERGED n) else s.putFlag (ADC_STAT_URG_PEND n) true) :=
    .ite (h.putStat small free (urgMerged_stat n)) (h.putStat small free (urgPend_stat n))
  exact .ite h <| .ite pend <| .ite
    (.ite (((h.setAdc n _).putStat small free (abortCnt_stat n)).putStat small free (urgBusy_stat n)) pend)
    (h.putStat small free (urgBusy_stat n))

end

section
variable {s : State} (p : Fin 12) (n : Fin 32) (quiet : s.quiet = true)
include quiet

theorem exec_adcSwStart_quiet (up : s.allUp = true) : exec (.adcSwStart (.pair p) n) s = .next (adcStart s n) :=
  (exec_adcSwStart p n up).trans (congrArg Host.Outcome.next (settle_quiet quiet
    (MeasureStep.adcStart (K := fun _ => False) n.isLt (fun _ _ => id) (.refl s)).watch))

theorem exec_adcSwUrgent_quiet (up : s.allUp = true) : exec (.adcSwUrgent (.pair p) n) s = .next (adcUrgent s n) :=
  (exec_adcSwUrgent p n up).trans (congrArg Host.Outcome.next (settle_quiet quiet
    (MeasureStep.adcUrgent (K := fun _ => False) n.isLt (fun _ _ => id) (.refl s)).watch))

theorem exec_adcTriggerEvent_quiet : exec (.adcTriggerEvent n) s = .next (adcTrigger s n) :=
  congrArg Host.Outcome.next (dozeWake_quiet _ quiet)

end

/-! ### ADC_CTRL (R142, R145, R160) -/

/-- The fields of ADC_CTRL in a word. -/
def adcCtrlFields (n d : Nat) : List (Fld × Nat) :=
  [(ADC_CTRL_EN n, bitsOf d 0 1), (ADC_CTRL_TRG_MODE n, bitsOf d 1 2), (ADC_CTRL_TRG_EVT n, bitsOf d 3 7),
    (ADC_CTRL_SEQ_LEN n, bitsOf d 10 4), (ADC_CTRL_URG_EVT n, bitsOf d 14 7), (ADC_CTRL_URG_EVT_EN n, bitsOf d 21 1),
    (ADC_CTRL_OWNER n, bitsOf d 22 4), (ADC_CTRL_DONE_IE n, bitsOf d 26 1), (ADC_CTRL_CMP_IE n, bitsOf d 27 1),
    (ADC_CTRL_FLT_IE n, bitsOf d 28 1), (ADC_CTRL_OVR_IE n, bitsOf d 29 1)]

theorem adcCtrlFields_apart (n d : Nat) : (adcCtrlFields n d).Pairwise fun a b => a.1.key ≠ b.1.key := by
  simp [adcCtrlFields, Fld.key, ADC_CTRL_EN, ADC_CTRL_TRG_MODE, ADC_CTRL_TRG_EVT, ADC_CTRL_SEQ_LEN, ADC_CTRL_URG_EVT,
    ADC_CTRL_URG_EVT_EN, ADC_CTRL_OWNER, ADC_CTRL_DONE_IE, ADC_CTRL_CMP_IE, ADC_CTRL_FLT_IE, ADC_CTRL_OVR_IE]

theorem adcCtrlFields_ctrl (n d : Nat) : ∀ e ∈ adcCtrlFields n d, ctrlKey n e.1.key := by
  simp only [adcCtrlFields, List.forall_mem_cons, ctrlKey, Fld.key, ADC_CTRL_EN, ADC_CTRL_TRG_MODE, ADC_CTRL_TRG_EVT, ADC_CTRL_SEQ_LEN,
    ADC_CTRL_URG_EVT, ADC_CTRL_URG_EVT_EN, ADC_CTRL_OWNER, ADC_CTRL_DONE_IE, ADC_CTRL_CMP_IE, ADC_CTRL_FLT_IE, ADC_CTRL_OVR_IE]
  refine ⟨?_, ?_, ?_, ?_, ?_, ?_, ?_, ?_, ?_, ?_, ?_, fun _ h => nomatch h⟩ <;> omega

theorem rowsAt_adcCtrl : ∀ n : Fin 32, rowsAt (0x60018000 + n * 0x100) = rowsAdc0.take 11 := by decide +kernel

theorem writeFields_adcCtrl (s : State) (n : Fin 32) (d : Nat) :
    writeFields s adcErr (0x60018000 + n * 0x100) d = (s.putAll (adcCtrlFields n d), .OK) := by
  rw [writeFields_unlocked (rowsAt_adcCtrl n) d rfl, Nat.mul_comm]
  rfl

/-- The write sets EN as its bit 0 says. -/
theorem adcCtrlFields_en (s : State) (n d : Nat) : (s.putAll (adcCtrlFields n d)).fld (ADC_CTRL_EN n) = bitsOf d 0 1 :=
  (State.fld_putAll_mem (adcCtrlFields_apart n d) (.head _) s).trans (Nat.mod_mod _ _)

theorem adcCtrlFields_mode (s : State) (n d : Nat) : (s.putAll (adcCtrlFields n d)).fld (ADC_CTRL_TRG_MODE n) = bitsOf d 1 2 :=
  (State.fld_putAll_mem (adcCtrlFields_apart n d) (.tail _ (.head _)) s).trans (Nat.mod_mod _ _)

theorem MeasureStep.adcCtrlFields {K : Nat → Prop} (s : State) {n : Nat} (small : n < 32) (free : ∀ k, ctrlKey n k → ¬ K k) (d : Nat) :
    MeasureStep K s (s.putAll (adcCtrlFields n d)) where
  watch := SameWatch.putAll s _ fun e he => watchedKey_ctrl small (adcCtrlFields_ctrl n d e he)
  spares := (Spares.refl s).putAll fun e he => free _ (adcCtrlFields_ctrl n d e he)
  words := State.putAll_frame (p := State.words) (fun _ _ _ => rfl) _ s

/-- The state after an accepted write of ADC_CTRL, before what EN brings about. -/
def ctrlTaken (s : State) (n d : Nat) : State := cmpIdle (s.putAll (adcCtrlFields n d)) n

theorem MeasureStep.cmpIdle {K : Nat → Prop} {r s : State} {n : Nat} (h : MeasureStep K r s) (small : n < 32)
    (free : ∀ k, cmpKey n k → ¬ K k) : MeasureStep K r (cmpIdle s n) :=
  .ite h (h.put (watchedKey_cmp small (out_cmp n)) (free _ (out_cmp n)))

/-- The state after an accepted write of ADC_CTRL with EN clear: a running conversion is marked as cut short. -/
def ctrlStopped (s : State) (n d : Nat) : State :=
  ((ctrlTaken s n d).setAdc n { (ctrlTaken s n d).adcOf n with
    wait := false, cut := (ctrlTaken s n d).flag (ADC_STAT_BUSY n) || (ctrlTaken s n d).flag (ADC_STAT_URG_BUSY n) }).put
      (ADC_STAT_URG_PEND n) 0

/-- The state after an accepted write of ADC_CTRL with EN set, where EN was `was`: in continuous mode the first sequence begins, or waits
for the running conversion. -/
def ctrlEnabled (s : State) (n d : Nat) (was : Bool) : State :=
  if was = false ∧ (ctrlTaken s n d).fld (ADC_CTRL_TRG_MODE n) = 2 then
    if (ctrlTaken s n d).flag (ADC_STAT_BUSY n) || (ctrlTaken s n d).flag (ADC_STAT_URG_BUSY n) then
      (ctrlTaken s n d).setAdc n { (ctrlTaken s n d).adcOf n with wait := true }
    else beginSequence (ctrlTaken s n d) n
  else ctrlTaken s n d

/-- The range of an accepted write of ADC_CTRL (R142, R143, R160). -/
structure CtrlInRange (d : Nat) : Prop where
  mode : bitsOf d 1 2 ≠ 3
  trg : bitsOf d 3 7 < 104
  urg : bitsOf d 14 7 < 104
  owner : bitsOf d 22 4 < 12

section
variable {s : State} {n : Fin 32} {d : Nat}

theorem adcCtrl_refused (mode : bitsOf d 1 2 = 3) : adcCtrl s n d [] = (s.refuse adcErr .ADC_RANGE, .ADC_RANGE) := by
  have fails : firstOf ([] ++ [(decide (bitsOf d 1 2 = 3) || decide (104 ≤ bitsOf d 3 7) || decide (104 ≤ bitsOf d 14 7)
      || decide (12 ≤ bitsOf d 22 4), Status.ADC_RANGE)]) = .ADC_RANGE := by simp [firstOf_cons, mode]
  unfold adcCtrl
  rw [checkedWrite_refused fails (by decide)]
  rfl

theorem adcCtrl_accepted (fits : CtrlInRange d) : (adcCtrl s n d []).1 =
    if bitsOf d 0 1 = 0 then ctrlStopped s n d else ctrlEnabled s n d (s.flag (ADC_CTRL_EN n)) := by
  have pass : firstOf ([] ++ [(decide (bitsOf d 1 2 = 3) || decide (104 ≤ bitsOf d 3 7) || decide (104 ≤ bitsOf d 14 7)
      || decide (12 ≤ bitsOf d 22 4), Status.ADC_RANGE)]) = .OK := by
    simp [firstOf_cons, firstOf_nil, fits.mode, Nat.not_le.2 fits.trg, Nat.not_le.2 fits.urg, Nat.not_le.2 fits.owner]
  have en : (s.putAll (adcCtrlFields n d)).flag (ADC_CTRL_EN n) = !decide (bitsOf d 0 1 = 0) := by
    rw [State.flag, adcCtrlFields_en, ← decide_not]
  unfold adcCtrl
  rw [checkedWrite_passed pass, writeFields_adcCtrl]
  extract_lets was r now u runs
  have set : now = !decide (bitsOf d 0 1 = 0) := en
  have taken : u = ctrlTaken s n d := rfl
  rw [if_neg (show ¬ r.2 ≠ .OK from fun refused => refused rfl), set]
  by_cases off : bitsOf d 0 1 = 0
  · simp only [off, decide_true, Bool.not_true, Bool.false_and, Bool.false_eq_true, if_false, if_true]
    rfl
  · simp only [off, decide_false, Bool.not_false, Bool.true_and, if_false, Bool.and_eq_true, Bool.not_eq_true', decide_eq_true_eq]
    unfold ctrlEnabled
    rw [← taken]
    split <;> rfl

theorem adcCtrlWrite_refused (mode : bitsOf d 1 2 = 3) : (adcCtrlWrite s n d).1 = s.refuse adcErr .ADC_RANGE := by
  have en : (s.refuse adcErr .ADC_RANGE).flag (ADC_CTRL_EN n) = s.flag (ADC_CTRL_EN n) := by
    refine Spares.flag (K := ctrlKey n) ((Spares.refl s).refuse ?_ ?_) ?_ <;>
      · simp only [ctrlKey, Fld.key, adcErr, ADC_ERR_LAST_ERR, ADC_ERR_ERR_CNT, ADC_CTRL_EN]
        omega
  simp only [adcCtrlWrite, adcCtrl_refused mode, en, Bool.and_not_self]
  rfl

theorem ctrlTaken_step {K : Nat → Prop} (ctrl : ∀ k, ctrlKey n k → ¬ K k) (cmp : ∀ k, cmpKey n k → ¬ K k) :
    MeasureStep K s (ctrlTaken s n d) := (MeasureStep.adcCtrlFields s n.isLt ctrl d).cmpIdle n.isLt cmp

theorem ctrlStopped_step {K : Nat → Prop} (ctrl : ∀ k, ctrlKey n k → ¬ K k) (cmp : ∀ k, cmpKey n k → ¬ K k)
    (pend : ¬ K (ADC_STAT_URG_PEND n).key) : MeasureStep K s (ctrlStopped s n d) :=
  ((ctrlTaken_step ctrl cmp).setAdc n _).put (watchedKey_stat n.isLt (urgPend_stat n)) pend

/-- What EN brings about leaves the fields of the write alone. -/
theorem ctrlEnabled_step (was : Bool) : MeasureStep (ctrlKey n) (s.putAll (adcCtrlFields n d)) (ctrlEnabled s n d was) := by
  have taken : MeasureStep (ctrlKey n) _ (ctrlTaken s n d) := (MeasureStep.refl (s.putAll (adcCtrlFields n d))).cmpIdle n.isLt
    fun k => by simp only [cmpKey, ctrlKey]; omega
  exact .ite (.ite (taken.setAdc n _) (taken.beginSequence n.isLt fun k => by simp only [statKey, ctrlKey]; omega)) taken

theorem MeasureStep.atbOpen {r : State} (h : MeasureStep (ctrlKey n) r s) : MeasureStep (ctrlKey n) r (atbOpen s n) := by
  have apart : ∀ f : Fld, f.addr = 0x600A0010 → ¬ ctrlKey n f.key := fun f at_ => by
    simp only [ctrlKey, Fld.key, at_]
    omega
  exact (h.when fun _ h => h.put (by decide) (apart _ rfl)).when fun _ h => h.put (by decide) (apart _ rfl)

theorem ctrlStopped_en (off : bitsOf d 0 1 = 0) : (ctrlStopped s n d).fld (ADC_CTRL_EN n) = 0 := by
  have taken : MeasureStep (ctrlKey n) (s.putAll (adcCtrlFields n d)) (ctrlStopped s n d) :=
    (((MeasureStep.refl _).cmpIdle n.isLt fun k => by simp only [cmpKey, ctrlKey]; omega).setAdc n _).putStat n.isLt
      (fun k => by simp only [statKey, ctrlKey]; omega) (urgPend_stat n)
  exact (taken.spares.fld _ (adcCtrlFields_ctrl n d _ (.head _))).trans
    ((adcCtrlFields_en s n d).trans off)

theorem adcCtrlWrite_stops (fits : CtrlInRange d) (off : bitsOf d 0 1 = 0) : (adcCtrlWrite s n d).1 = ctrlStopped s n d := by
  have en : (ctrlStopped s n d).flag (ADC_CTRL_EN n) = false := by simp [State.flag, ctrlStopped_en off]
  simp only [adcCtrlWrite, adcCtrl_accepted fits, off, if_true, en, Bool.false_and]
  rfl

theorem adcCtrlWrite_enables (fits : CtrlInRange d) (on : bitsOf d 0 1 = 1) :
    MeasureStep (ctrlKey n) (s.putAll (adcCtrlFields n d)) (adcCtrlWrite s n d).1 := by
  have set : ¬ bitsOf d 0 1 = 0 := by omega
  simp only [adcCtrlWrite, adcCtrl_accepted fits, set, if_false]
  exact (ctrlEnabled_step _).when fun _ h => h.atbOpen

/-- An enabled converter has the fields of the write. -/
theorem adcCtrlWrite_enables_shows (fits : CtrlInRange d) (on : bitsOf d 0 1 = 1) : SameWatch s (adcCtrlWrite s n d).1 ∧
    (adcCtrlWrite s n d).1.fld (ADC_CTRL_EN n) = 1 ∧ (adcCtrlWrite s n d).1.fld (ADC_CTRL_TRG_MODE n) = bitsOf d 1 2 ∧
    (adcCtrlWrite s n d).1.words = s.words := by
  have write := MeasureStep.adcCtrlFields (K := fun _ => False) s n.isLt (fun _ _ => id) d
  have kept := adcCtrlWrite_enables (s := s) (n := n) fits on
  exact ⟨write.watch.trans kept.watch,
    (kept.spares.fld _ (adcCtrlFields_ctrl n d _ (.head _))).trans ((adcCtrlFields_en s n d).trans on),
    (kept.spares.fld _ (adcCtrlFields_ctrl n d _ (.tail _ (.head _)))).trans (adcCtrlFields_mode s n d),
    kept.words.trans write.words⟩

/-- A disable leaves the running sequence and drops what waits. -/
theorem ctrlStopped_shows (off : bitsOf d 0 1 = 0) : SameWatch s (ctrlStopped s n d) ∧ (ctrlStopped s n d).fld (ADC_CTRL_EN n) = 0 ∧
    ((ctrlStopped s n d).adcOf n).wait = false ∧ (ctrlStopped s n d).fld (ADC_STAT_URG_PEND n) = 0 ∧
    ((ctrlStopped s n d).adcOf n).seq = (s.adcOf n).seq ∧ (ctrlStopped s n d).fld (ADC_STAT_BUSY n) = s.fld (ADC_STAT_BUSY n) ∧
    (ctrlStopped s n d).words = s.words := by
  have step : MeasureStep (fun k => k = (ADC_STAT_BUSY n).key) s (ctrlStopped s n d) := ctrlStopped_step
    (fun k => by simp only [ctrlKey, Fld.key, ADC_STAT_BUSY]; omega) (fun k => by simp only [cmpKey, Fld.key, ADC_STAT_BUSY]; omega)
    (by simp [Fld.key, ADC_STAT_BUSY, ADC_STAT_URG_PEND])
  have adc : (ctrlTaken s n d).adc = s.adc := by
    refine Eq.trans ?_ (State.putAll_frame (p := State.adc) (fun _ _ _ => rfl) (adcCtrlFields n d) s)
    unfold ctrlTaken cmpIdle
    split <;> rfl
  have own : (ctrlStopped s n d).adcOf n = { (ctrlTaken s n d).adcOf n with
      wait := false, cut := (ctrlTaken s n d).flag (ADC_STAT_BUSY n) || (ctrlTaken s n d).flag (ADC_STAT_URG_BUSY n) } :=
    State.adcOf_setAdc_same _ _ _
  have seq : ((ctrlTaken s n d).adcOf n).seq = (s.adcOf n).seq := by rw [State.adcOf, adc, State.adcOf]
  exact ⟨step.watch, ctrlStopped_en off, congrArg Adc.wait own, State.fld_put_same _ _ _, (congrArg Adc.seq own).trans seq,
    step.spares.fld _ rfl, step.words⟩

end

/-! #### EN in the word written -/

theorem bitsOf_half {m k : Nat} (h : m / 2 = k / 2) {lo : Nat} (pos : 0 < lo) (w : Nat) : bitsOf m lo w = bitsOf k lo w := by
  obtain ⟨i, rfl⟩ := Nat.exists_eq_add_of_lt pos
  simp only [bitsOf, Nat.shiftRight_eq_div_pow, Nat.zero_add, pow_succ', ← Nat.div_div_eq_div_mul, h]

theorem setBit_zero_half (d : Nat) : setBit d 0 / 2 = d / 2 := by
  rw [setBit, ← Nat.shiftRight_one, ← Nat.shiftRight_one, Nat.shiftRight_or_distrib]
  simp

theorem clearBit_zero_half (d : Nat) : clearBit d 0 / 2 = d / 2 := by
  unfold clearBit
  split
  next set =>
    simp only [Nat.testBit_zero, decide_eq_true_eq] at set
    omega
  next => rfl

theorem bitsOf_zero_one (d : Nat) : bitsOf d 0 1 = bit (d.testBit 0) := by
  simp only [bitsOf, Nat.shiftRight_zero, Nat.testBit_zero, bit]
  split <;> simp_all

theorem CtrlInRange.congr {m k : Nat} (fits : CtrlInRange k) (h : m / 2 = k / 2) : CtrlInRange m where
  mode := by rw [bitsOf_half h (by decide)]; exact fits.mode
  trg := by rw [bitsOf_half h (by decide)]; exact fits.trg
  urg := by rw [bitsOf_half h (by decide)]; exact fits.urg
  owner := by rw [bitsOf_half h (by decide)]; exact fits.owner

/-- Settles O32: each start and request is one branch of `adcStart` or `adcUrgent`; the writes of ADC_CTRL by `adcCtrl_accepted`. -/
theorem converterStarts : Obligations.ConverterStarts := by
  unfold Obligations.ConverterStarts
  intro s p n d quiet up
  have start := exec_adcSwStart_quiet p n quiet up
  have event := exec_adcTriggerEvent_quiet n quiet
  have urgent := exec_adcSwUrgent_quiet p n quiet up
  refine ⟨fun off => ⟨?_, ?_, ?_, ?_⟩, fun on busy => ?_, fun on busy silent => startOverrun_silent silent, fun on idle mode => ?_,
    fun mode => ?_, fun on idle mode urg first => ?_, fun on idle calm mode => ?_, fun on calm busy few enabled => ?_,
    fun on urg free => ?_, fun on urg pending => ?_, fun mode => ?_, fun _ mode trg urg owner => ?_⟩
  · rw [start, adcStart_disabled off]
  · rw [event, adcTrigger_disabled off]
  · rw [urgent, adcUrgent_disabled off]
  · exact congrArg Host.Outcome.next (adcUrgentEvt_disabled off)
  · rw [start, adcStart_running on busy]
  · rw [start, adcStart_continuous on idle mode]
  · rw [event, adcTrigger_other mode]
  · rw [start, adcStart_waits on idle mode urg first]
  · have begins := adcStart_begins on idle (by omega) calm
    obtain ⟨busy, entry, length, out⟩ := beginSequence_shows s n
    exact ⟨_, start.trans (congrArg _ begins), event.trans (congrArg _ ((adcTrigger_start mode).trans begins)), busy, entry, length,
      (MeasureStep.beginSequence (K := fun _ => False) n.isLt (fun _ _ => id) (.refl s)).words, out⟩
  · exact ⟨_, urgent, congrArg Host.Outcome.next (adcUrgentEvt_on enabled), adcUrgent_aborts_shows on calm busy few⟩
  · rw [urgent, adcUrgent_pends on urg free]
  · rw [urgent, adcUrgent_merges on urg pending]
  · rw [exec_adcEnable p n up, adcCtrlWrite_refused ((bitsOf_half (setBit_zero_half _) (by decide) 2).trans mode)]
    exact congrArg Host.Outcome.next (settle_quiet quiet (SameWatch.refuse s adcErr _ (by decide) (by decide)))
  · have fits : CtrlInRange d.toNat := ⟨mode, trg, urg, owner⟩
    obtain ⟨watch, en, asked, words⟩ := adcCtrlWrite_enables_shows (s := s) (n := n) (fits.congr (setBit_zero_half _))
      ((bitsOf_zero_one _).trans (congrArg bit (testBit_setBit _ 0)))
    have off : bitsOf (clearBit d.toNat 0) 0 1 = 0 := (bitsOf_zero_one _).trans (congrArg bit (testBit_clearBit _ 0))
    have stops := adcCtrlWrite_stops (s := s) (n := n) (fits.congr (clearBit_zero_half _)) off
    obtain ⟨stillWatch, rest⟩ := ctrlStopped_shows (s := s) (n := n) off
    refine ⟨_, _, (exec_adcEnable p n up d).trans (congrArg Host.Outcome.next (settle_quiet quiet watch)),
      (exec_adcDisable p n up d).trans (congrArg Host.Outcome.next ?_), en,
      asked.trans (bitsOf_half (setBit_zero_half _) (by decide) 2), words, rest⟩
    rw [stops, settle_quiet quiet stillWatch]

/-! ### Result records (R156-R158) -/

/-- The register fields of the mirror record of a result. -/
def recordFields (base : Nat) (x : Sample) : List (Fld × Nat) :=
  [(RES_TLO_T_LO base, x.time), (RES_THI_T_HI base, x.time / 2 ^ 32), (RES_FLAGS_VALID base, bit x.valid), (RES_FLAGS_OVR base, bit x.ovr),
    (RES_FLAGS_FAULT base, bit x.fault), (RES_FLAGS_RETAKEN base, bit x.retaken), (RES_FLAGS_E base, x.e), (RES_RAW base, x.raw)]

theorem recordFields_apart (base : Nat) (x : Sample) : (recordFields base x).Pairwise fun a b => a.1.key ≠ b.1.key := by
  simp only [recordFields, List.pairwise_cons, List.forall_mem_cons, Fld.key, RES_TLO_T_LO, RES_THI_T_HI, RES_FLAGS_VALID, RES_FLAGS_OVR,
    RES_FLAGS_FAULT, RES_FLAGS_RETAKEN, RES_FLAGS_E, RES_RAW]
  simp
  omega

theorem recordFields_record (base : Nat) (x : Sample) : ∀ e ∈ recordFields base x, recordKey base e.1.key := by
  simp only [recordFields, List.forall_mem_cons, recordKey, Fld.key, RES_TLO_T_LO, RES_THI_T_HI, RES_FLAGS_VALID, RES_FLAGS_OVR,
    RES_FLAGS_FAULT, RES_FLAGS_RETAKEN, RES_FLAGS_E, RES_RAW]
  refine ⟨?_, ?_, ?_, ?_, ?_, ?_, ?_, ?_, fun _ h => nomatch h⟩ <;> omega

theorem bit_mod_two (b : Bool) : bit b % 2 ^ 1 = bit b := by cases b <;> rfl

section
variable (s : State) (base : Nat) (x : Sample)

theorem writeMirror_words : (writeMirror s base x).words = (s.setWord base x.m).words :=
  State.putAll_frame (p := State.words) (fun _ _ _ => rfl) _ _

theorem writeMirror_adc : (writeMirror s base x).adc = s.adc := State.putAll_frame (p := State.adc) (fun _ _ _ => rfl) _ _

theorem writeMirror_word_same : (writeMirror s base x).word base = x.m := by
  rw [State.word, writeMirror_words]
  exact State.word_setWord_same s base x.m

theorem writeMirror_word_other {a : Nat} (apart : a ≠ base) : (writeMirror s base x).word a = s.word a := by
  rw [State.word, writeMirror_words]
  exact State.word_setWord_other s apart x.m

theorem writeMirror_fld {f : Fld} {v : Nat} (mem : (f, v) ∈ recordFields base x) : (writeMirror s base x).fld f = v % 2 ^ f.width :=
  State.fld_putAll_mem (recordFields_apart base x) mem _

theorem writeMirror_spares {K : Nat → Prop} (free : ∀ k, recordKey base k → ¬ K k) : Spares K s (writeMirror s base x) :=
  ((Spares.refl s).of_regs (t := s.setWord base x.m) rfl rfl).putAll fun e he => free _ (recordFields_record base x e he)

theorem writeMirror_watch (low : 0x60018000 ≤ base) (high : base < 0x60027000) : SameWatch s (writeMirror s base x) := by
  have word : SameWatch s (s.setWord base x.m) := SameWatch.of_regs rfl rfl rfl
  refine word.trans (SameWatch.putAll _ (recordFields base x) fun e he => ?_)
  have place := recordFields_record base x e he
  simp only [recordKey] at place
  exact watchedKey_measure (by omega) (by omega)

end

section
variable (s : State) (den : Bool) (engine addr base : Nat) (x : Sample)

/-- A slot holds no register. -/
theorem writeSlot_frame : (writeSlot s engine addr x).regs = s.regs ∧ (writeSlot s engine addr x).mtime = s.mtime ∧
    (writeSlot s engine addr x).adc = s.adc := by
  refine ⟨?_, ?_, ?_⟩
  · rw [writeSlot, State.setWord_regs, State.setWord_regs]
  · rw [writeSlot, State.setWord_mtime, State.setWord_mtime]
  · rw [writeSlot, State.setWord_adc, State.setWord_adc]

theorem deliver_spares {K : Nat → Prop} (free : ∀ k, recordKey base k → ¬ K k) : Spares K s (deliver s den engine addr base x) := by
  have slot : Spares K s (if den then writeSlot s engine addr x else s) := by
    obtain ⟨regs, mtime, -⟩ := writeSlot_frame s engine addr x
    exact .ite ((Spares.refl s).of_regs regs mtime) (.refl s)
  exact slot.trans (writeMirror_spares _ base x free)

theorem deliver_adc : (deliver s den engine addr base x).adc = s.adc := by
  refine (writeMirror_adc _ base x).trans ?_
  split
  · exact (writeSlot_frame s engine addr x).2.2
  · rfl

theorem deliver_word_mirror : (deliver s den engine addr base x).word base = x.m := writeMirror_word_same _ base x

theorem deliver_word_slot (on : den = true) (apart : dataAddr engine addr ≠ base) :
    (deliver s den engine addr base x).word (dataAddr engine addr) = x.m := by
  have next : dataAddr engine addr ≠ dataAddr engine (addr + 1) := by simp only [dataAddr]; omega
  rw [deliver, if_pos on, writeMirror_word_other _ base x apart, writeSlot, State.word_setWord_other _ next, State.word_setWord_same]

theorem deliver_word_other {a : Nat} (mirror : a ≠ base) (first : a ≠ dataAddr engine addr) (second : a ≠ dataAddr engine (addr + 1)) :
    (deliver s den engine addr base x).word a = s.word a := by
  rw [deliver, writeMirror_word_other _ base x mirror]
  split
  · rw [writeSlot, State.word_setWord_other _ second, State.word_setWord_other _ first]
  · rfl

end

/-! ### Limit comparators (R147-R149) -/

theorem State.when_frame {β : Type} {p : State → β} {f : State → State} {c : Bool} {s : State} (h : ∀ t, p (f t) = p t) :
    p (s.when c f) = p s := by
  cases c
  · rfl
  · exact h s

section
variable {K : Nat → Prop} {r s : State} {n : Nat} (small : n < 32) (free : ∀ k, cmpKey n k → ¬ K k)
include small free

/-- A write of ADC_CMP_STAT. -/
theorem MeasureStep.putCmp {f : Fld} {v : Nat} (h : MeasureStep K r s) (own : cmpKey n f.key) : MeasureStep K r (s.put f v) :=
  h.put (watchedKey_cmp small own) (free _ own)

theorem MeasureStep.setCmp (h : MeasureStep K r s) (out : Bool) : MeasureStep K r (setCmp s n out) :=
  (h.putCmp small free (out_cmp n)).when fun _ h =>
    ((h.putCmp small free (cnt_cmp n)).putCmp small free (evt_cmp n)).when fun _ h => h.irq _ _ _ _

theorem MeasureStep.evalCmp (h : MeasureStep K r s) (e code : Nat) : MeasureStep K r (evalCmp s n e code) :=
  .ite ((h.setCmp small free _).putCmp small free (watchExp_cmp n)) h

end

section
variable {s : State} {n : Nat}

theorem setCmp_out (s : State) (n : Nat) (out : Bool) : (setCmp s n out).fld (ADC_CMP_STAT_OUT n) = bit out := by
  have cnt : ¬ (ADC_CMP_STAT_CNT n).key = (ADC_CMP_STAT_OUT n).key := by simp [Fld.key, ADC_CMP_STAT_CNT, ADC_CMP_STAT_OUT]
  have evt : ¬ (ADC_CMP_STAT_EVT n).key = (ADC_CMP_STAT_OUT n).key := by simp [Fld.key, ADC_CMP_STAT_EVT, ADC_CMP_STAT_OUT]
  have driven : Spares (fun k => k = (ADC_CMP_STAT_OUT n).key) (s.putFlag (ADC_CMP_STAT_OUT n) out) (setCmp s n out) := by
    unfold setCmp
    refine (Spares.refl (s.putFlag (ADC_CMP_STAT_OUT n) out)).when fun _ h => ?_
    exact ((h.put cnt).put evt).when fun _ h => h.of_regs rfl rfl
  exact (driven.fld _ rfl).trans ((State.fld_put_same _ _ _).trans (bit_mod_two out))

theorem setCmp_adc (s : State) (n : Nat) (out : Bool) : (setCmp s n out).adc = s.adc := by
  have notice : ∀ (t : State) (c : Bool), (t.when c fun t => t.irq (adcOwner t n) .adc n 1).adc = t.adc :=
    fun t c => State.when_frame fun _ => rfl
  unfold setCmp
  refine (State.when_frame fun t => ?_).trans (State.putFlag_adc s _ _)
  exact (notice _ _).trans (by rw [State.putFlag_adc, State.inc_adc])

theorem evalCmp_adc (s : State) (n e code : Nat) : (evalCmp s n e code).adc = s.adc := by
  unfold evalCmp
  split
  · exact (State.putFlag_adc _ _ _).trans (setCmp_adc s n _)
  · rfl

theorem cmpWatch_disabled (off : s.flag (ADC_CMP_CFG_EN n) = false) : cmpWatch s n = s := by simp [cmpWatch, off]

theorem cmpWatch_expires (on : s.flag (ADC_CMP_CFG_EN n) = true) (watch : s.fld (ADC_CMP_CFG_WATCH n) ≠ 0) :
    cmpWatch s n = (setCmp s n true).put (ADC_CMP_STAT_WATCH_EXP n) 1 := by
  simp [cmpWatch, on, watch, State.putFlag, bit]

/-- An expired watch drives the output. -/
theorem cmpWatch_shows (small : n < 32) (on : s.flag (ADC_CMP_CFG_EN n) = true) (watch : s.fld (ADC_CMP_CFG_WATCH n) ≠ 0) :
    (cmpWatch s n).fld (ADC_CMP_STAT_OUT n) = 1 ∧ (cmpWatch s n).fld (ADC_CMP_STAT_WATCH_EXP n) = 1 ∧ (cmpWatch s n).words = s.words := by
  have apart : (ADC_CMP_STAT_OUT n).key ≠ (ADC_CMP_STAT_WATCH_EXP n).key := by simp [Fld.key, ADC_CMP_STAT_OUT, ADC_CMP_STAT_WATCH_EXP]
  have driven : MeasureStep (fun _ => False) s (setCmp s n true) := (MeasureStep.refl s).setCmp small (fun _ _ => id) true
  rw [cmpWatch_expires on watch]
  exact ⟨(State.fld_put_other _ _ _ _ apart).trans (setCmp_out s n true), State.fld_put_same _ _ _, driven.words⟩

end

/-! ### Conversions (R139-R146) -/

/-- The result of a conversion whose input is not the reference (R139, R156, R157). -/
def entrySample (s : State) (n uv : Nat) (c : EntryCfg) (retaken : Bool) : Sample where
  m := sarMantissa (rawCode (gainOf c.gain) uv (Config.freeValue s.free)) c.zero
  e := sarExponent c.scale c.gain
  valid := !s.flag (ADC_STAT_REF_FAULT n)
  ovr := rawCode (gainOf c.gain) uv (Config.freeValue s.free) = 0 || rawCode (gainOf c.gain) uv (Config.freeValue s.free) = 4095
  fault := s.flag (ADC_STAT_REF_FAULT n)
  retaken := retaken
  time := s.mtime - 320
  raw := rawCode (gainOf c.gain) uv (Config.freeValue s.free)

/-- The result of a conversion in its slot and its mirror record. -/
def entryDelivered (s : State) (n e uv : Nat) (c : EntryCfg) (retaken : Bool) : State :=
  deliver s.fresh.2 c.den c.engine c.addr (adcMirror n e) (entrySample s n uv c retaken)

theorem rawCode_le (gain uv half : Nat) : rawCode gain uv half ≤ 4095 := by
  simp only [rawCode, clampInt]
  omega

theorem adcMirror_low (n e : Nat) : 0x6001A000 ≤ adcMirror n e := by
  unfold adcMirror
  split <;> omega

/-- The registers of a converter lie below the mirror records. -/
theorem recordKey_low {n e k : Nat} (small : n < 32) (h : recordKey (adcMirror n e) k) : (0x60018018 + 0x100 * n) * 32 ≤ k := by
  have low := adcMirror_low n e
  simp only [recordKey] at h
  omega

section
variable {s : State} {n e uv : Nat} {c : EntryCfg} {retaken : Bool}

theorem convert_entry (plain : c.input ≠ 5) : convert s n e uv c retaken =
    evalCmp (entryDelivered s n e uv c retaken) n e (rawCode (gainOf c.gain) uv (Config.freeValue s.free)) := by
  have unchecked : ∀ code, checkRef s.fresh.2 n e c.input code = s.fresh.2 := fun code => by simp [checkRef, plain]
  unfold convert
  simp only [unchecked]
  rfl

theorem convert_entry_spares {K : Nat → Prop} (small : n < 32) (below : ∀ k, K k → k < (0x60018014 + 0x100 * n) * 32)
    (plain : c.input ≠ 5) : Spares K s (convert s n e uv c retaken) := by
  rw [convert_entry plain]
  have taken : Spares K s s.fresh.2 := (Spares.refl s).of_regs rfl rfl
  have written : Spares K s (entryDelivered s n e uv c retaken) := taken.trans (deliver_spares _ _ _ _ _ _ fun k own kept => by
    have := below k kept
    have := recordKey_low small own
    omega)
  refine written.trans ((MeasureStep.refl _).evalCmp small (fun k own kept => ?_) e _).spares
  have := below k kept
  simp only [cmpKey] at own
  omega

theorem convert_entry_adc (plain : c.input ≠ 5) : (convert s n e uv c retaken).adc = s.adc := by
  rw [convert_entry plain, evalCmp_adc]
  exact deliver_adc _ _ _ _ _ _

/-- Of any input, a conversion leaves ADC_CTRL alone. -/
theorem convert_ctrl (small : n < 32) : Spares (ctrlKey n) s (convert s n e uv c retaken) := by
  have cmp : ∀ k, cmpKey n k → ¬ ctrlKey n k := fun k => by simp only [cmpKey, ctrlKey]; omega
  have taken : Spares (ctrlKey n) s s.fresh.2 := (Spares.refl s).of_regs rfl rfl
  unfold convert
  extract_lets f u code v fault x
  have checked : Spares (ctrlKey n) s v := by
    have ref : ¬ ctrlKey n (ADC_STAT_REF_FAULT n).key := by simp only [ctrlKey, Fld.key, ADC_STAT_REF_FAULT]; omega
    refine .ite taken (Spares.put ?_ ref)
    exact taken.when fun _ h => h.of_regs rfl rfl
  have written : Spares (ctrlKey n) s (deliver v c.den c.engine c.addr (adcMirror n e) x) :=
    checked.trans (deliver_spares _ _ _ _ _ _ fun k own => by
      have := recordKey_low small own
      simp only [ctrlKey]
      omega)
  exact written.trans ((MeasureStep.refl _).evalCmp small cmp e code).spares

end

section
variable {K : Nat → Prop} {r s : State} {n : Nat} (small : n < 32) (free : ∀ k, statKey n k → ¬ K k)

theorem MeasureStep.sequenceDone (h : MeasureStep K r s) (n : Nat) : MeasureStep K r (sequenceDone s n) :=
  (h.emit _).when fun _ h => h.irq _ _ _ _

include small free

theorem MeasureStep.afterEntry (h : MeasureStep K r s) (e : Nat) : MeasureStep K r (afterEntry s n e) := by
  unfold Machine.afterEntry
  extract_lets a u a' v
  have urgent : MeasureStep K r u := h.when fun _ h => (h.putStat small free (urgPend_stat n)).putStat small free (urgBusy_stat n)
  have done : MeasureStep K r v :=
    (((urgent.setAdc n _).putStat small free (busy_stat n)).putStat small free (entry_stat n)).sequenceDone n
  exact .ite ((urgent.setAdc n _).putStat small free (entry_stat n)) <| .ite (.ite (done.setAdc n _) (done.beginSequence small free)) done

end

section
variable {s : State} {n e uv : Nat} {c : EntryCfg}

theorem afterEntry_next (calm : s.flag (ADC_STAT_URG_PEND n) = false) (more : e + 1 < (s.adcOf n).seq.length) :
    afterEntry s n e = (s.setAdc n { s.adcOf n with aborts := 0, retaken := false }).put (ADC_STAT_ENTRY n) (e + 1) := by
  simp [afterEntry, calm, more, State.when]

theorem adcIdle_shows (s : State) (n : Nat) : (adcIdle s n).fld (ADC_STAT_BUSY n) = 0 ∧ (adcIdle s n).fld (ADC_STAT_ENTRY n) = 0 := by
  have apart : [(ADC_STAT_BUSY n, 0), (ADC_STAT_ENTRY n, 0), (ADC_STAT_URG_BUSY n, 0), (ADC_STAT_URG_PEND n, 0)].Pairwise
      fun a b : Fld × Nat => a.1.key ≠ b.1.key := by
    simp [Fld.key, ADC_STAT_BUSY, ADC_STAT_ENTRY, ADC_STAT_URG_BUSY, ADC_STAT_URG_PEND]
  exact ⟨(State.fld_putAll_mem apart (v := 0) (by simp) _).trans rfl, (State.fld_putAll_mem apart (v := 0) (by simp) _).trans rfl⟩

theorem adcIdle_ctrl (s : State) (n : Nat) : Spares (ctrlKey n) s (adcIdle s n) := by
  refine ((Spares.refl s).of_regs (t := s.setAdc n {}) rfl rfl).putAll ?_
  simp only [List.forall_mem_cons, ctrlKey, Fld.key, ADC_STAT_BUSY, ADC_STAT_ENTRY, ADC_STAT_URG_BUSY, ADC_STAT_URG_PEND]
  refine ⟨?_, ?_, ?_, ?_, fun _ h => nomatch h⟩ <;> omega

/-- A disabled converter stops. -/
theorem afterCut_disabled (off : s.flag (ADC_CTRL_EN n) = false) : afterCut s n = adcIdle s n := by
  have still : (adcIdle s n).flag (ADC_CTRL_EN n) = false :=
    ((adcIdle_ctrl s n).flag (f := ADC_CTRL_EN n) (by simp only [ctrlKey, Fld.key, ADC_CTRL_EN]; omega)).trans off
  simp [afterCut, still]

theorem conversionEnd_idle (calm : s.flag (ADC_STAT_URG_BUSY n) = false) (idle : s.flag (ADC_STAT_BUSY n) = false) :
    conversionEnd s n uv = s := by
  simp [conversionEnd, calm, idle]

/-- The completion point of an entry. -/
theorem conversionEnd_entry (calm : s.flag (ADC_STAT_URG_BUSY n) = false) (busy : s.flag (ADC_STAT_BUSY n) = true)
    (entry : (s.adcOf n).seq[s.fld (ADC_STAT_ENTRY n)]? = some c) : conversionEnd s n uv =
      if (convert s n (s.fld (ADC_STAT_ENTRY n)) uv c (s.adcOf n).retaken).flag (ADC_CTRL_EN n) && !(s.adcOf n).cut then
        afterEntry (convert s n (s.fld (ADC_STAT_ENTRY n)) uv c (s.adcOf n).retaken) n (s.fld (ADC_STAT_ENTRY n))
      else afterCut ((convert s n (s.fld (ADC_STAT_ENTRY n)) uv c (s.adcOf n).retaken).when
        ((s.adcOf n).seq.length ≤ s.fld (ADC_STAT_ENTRY n) + 1) fun s => sequenceDone s n) n := by
  simp [conversionEnd, calm, busy, entry]

theorem conversionEnd_noEntry (calm : s.flag (ADC_STAT_URG_BUSY n) = false) (busy : s.flag (ADC_STAT_BUSY n) = true)
    (entry : (s.adcOf n).seq[s.fld (ADC_STAT_ENTRY n)]? = none) : conversionEnd s n uv = adcIdle s n := by
  simp only [conversionEnd, calm, busy, entry, if_true, Bool.false_eq_true, if_false]

/-- Of a disabled converter the sequence ends with the conversion. -/
theorem conversionEnd_disabled (small : n < 32) (calm : s.flag (ADC_STAT_URG_BUSY n) = false) (busy : s.flag (ADC_STAT_BUSY n) = true)
    (off : s.flag (ADC_CTRL_EN n) = false) : ∃ u, conversionEnd s n uv = adcIdle u n := by
  have en : ctrlKey n (ADC_CTRL_EN n).key := by simp only [ctrlKey, Fld.key, ADC_CTRL_EN]; omega
  cases entry : (s.adcOf n).seq[s.fld (ADC_STAT_ENTRY n)]? with
  | none => exact ⟨s, conversionEnd_noEntry calm busy entry⟩
  | some c =>
    have converted := convert_ctrl (s := s) (e := s.fld (ADC_STAT_ENTRY n)) (uv := uv) (c := c) (retaken := (s.adcOf n).retaken) small
    have done := converted.when (c := (s.adcOf n).seq.length ≤ s.fld (ADC_STAT_ENTRY n) + 1) (f := fun s => sequenceDone s n)
      fun t h => h.trans ((MeasureStep.refl t).sequenceDone n).spares
    rw [conversionEnd_entry calm busy entry, converted.flag en, off, afterCut_disabled ((done.flag en).trans off)]
    exact ⟨_, rfl⟩

theorem conversionEnd_enabled (small : n < 32) (calm : s.flag (ADC_STAT_URG_BUSY n) = false) (busy : s.flag (ADC_STAT_BUSY n) = true)
    (on : s.flag (ADC_CTRL_EN n) = true) (uncut : (s.adcOf n).cut = false) (at_ : s.fld (ADC_STAT_ENTRY n) = e)
    (entry : (s.adcOf n).seq[e]? = some c) :
    conversionEnd s n uv = afterEntry (convert s n e uv c (s.adcOf n).retaken) n e := by
  subst at_
  have en : ctrlKey n (ADC_CTRL_EN n).key := by simp only [ctrlKey, Fld.key, ADC_CTRL_EN]; omega
  rw [conversionEnd_entry calm busy entry, (convert_ctrl small).flag en, on, uncut]
  rfl

/-- What follows the result leaves the words and the mirror record as the result set them. -/
theorem afterEntry_convert_step (small : n < 32) (plain : c.input ≠ 5) (retaken : Bool) :
    MeasureStep (recordKey (adcMirror n e)) (entryDelivered s n e uv c retaken) (afterEntry (convert s n e uv c retaken) n e) := by
  rw [convert_entry plain]
  refine (MeasureStep.evalCmp small (fun k own kept => ?_) (.refl _) e _).afterEntry small (fun k own kept => ?_) e
  · have := recordKey_low small kept
    simp only [cmpKey] at own
    omega
  · have := recordKey_low small kept
    simp only [statKey] at own
    omega

/-- The next entry of the sequence becomes the running one. -/
theorem afterEntry_convert_next (small : n < 32) (plain : c.input ≠ 5) (retaken : Bool) (busy : s.flag (ADC_STAT_BUSY n) = true)
    (free : s.flag (ADC_STAT_URG_PEND n) = false) (more : e + 1 < (s.adcOf n).seq.length) (low : e < 15) :
    (afterEntry (convert s n e uv c retaken) n e).fld (ADC_STAT_ENTRY n) = e + 1 ∧
      (afterEntry (convert s n e uv c retaken) n e).flag (ADC_STAT_BUSY n) = true := by
  have kept : Spares (statKey n) s (convert s n e uv c retaken) :=
    convert_entry_spares small (fun k => by simp only [statKey]; omega) plain
  have own : (convert s n e uv c retaken).adcOf n = s.adcOf n := by rw [State.adcOf, convert_entry_adc plain, State.adcOf]
  have apart : ¬ (ADC_STAT_ENTRY n).key = (ADC_STAT_BUSY n).key := by simp [Fld.key, ADC_STAT_ENTRY, ADC_STAT_BUSY]
  rw [afterEntry_next ((kept.flag (urgPend_stat n)).trans free) (own ▸ more)]
  have next : Spares (fun k => k = (ADC_STAT_BUSY n).key) (convert s n e uv c retaken) (((convert s n e uv c retaken).setAdc n
      { (convert s n e uv c retaken).adcOf n with aborts := 0, retaken := false }).put (ADC_STAT_ENTRY n) (e + 1)) := by
    refine Spares.put ?_ apart
    exact (Spares.refl _).of_regs rfl rfl
  exact ⟨(State.fld_put_same _ _ _).trans (Nat.mod_eq_of_lt (show e + 1 < 16 by omega)),
    (next.flag rfl).trans ((kept.flag (busy_stat n)).trans busy)⟩

end

/-! ### Modulator channels (R150-R155) -/

theorem log2Up_two_pow (i : Nat) : log2Up (2 ^ i) = i := by
  unfold log2Up
  cases i with
  | zero => rfl
  | succ i =>
    have pos : 0 < 2 ^ i := Nat.two_pow_pos i
    have log : Nat.log2 (2 ^ (i + 1) - 1) = i := (Nat.log2_eq_iff (by omega)).2 ⟨by omega, by omega⟩
    rw [if_neg (by omega), log]

theorem eitherWay_exact {n d : Int} (q : Int) (nonzero : d ≠ 0) (h : n = q * d) (f : Nat) : eitherWay n d f = q := by
  subst h
  simp [eitherWay, nonzero]

/-- Where the cube of the decimation is a power of two that 2^35 holds, the mantissa is exact (R152). -/
theorem sincMantissa_exact {j : Nat} (small : j ≤ 8) (out err : Nat) :
    sincMantissa (2 ^ j) out err = (2 * (out : Int) - (2 ^ j) ^ 3) * 2 ^ 35 / (2 ^ j) ^ 3 := by
  have cube : ((2 : Int) ^ j) ^ 3 = 2 ^ (3 * j) := by rw [← pow_mul, Nat.mul_comm]
  have cubeNat : (2 ^ j) ^ 3 = 2 ^ (3 * j) := by rw [← pow_mul, Nat.mul_comm]
  have scale : (2 : Int) ^ 35 = 2 ^ (35 - 3 * j) * 2 ^ (3 * j) := by rw [← pow_add]; congr 1; omega
  have reciprocal : eitherWay (2 ^ (39 + 3 * j)) ((2 : Int) ^ (3 * j)) err = 2 ^ 39 :=
    eitherWay_exact _ (by positivity) (pow_add _ _ _) err
  unfold sincMantissa
  dsimp only
  rw [cubeNat, log2Up_two_pow, cube]
  simp only [Nat.cast_pow, Nat.cast_ofNat]
  rw [reciprocal, scale, ← mul_assoc, Int.mul_ediv_cancel _ (by positivity)]
  refine eitherWay_exact _ (by positivity) ?_ _
  rw [pow_add]
  ring

section
variable {s : State} {k rising falling : Nat}

theorem modulatorOutput_early (early : outputDue s k = false) : modulatorOutput s k rising falling = s := if_pos (by simp [early])

end

/-- The levels of the pin of a channel at its selected clock edges since the last output. -/
def pinLevels (s : State) (k rising falling : Nat) : List Bool :=
  (List.range (s.fld (MOD_CFG_DM1 k) + 1)).map fun i => (if s.flag (MOD_CFG_EDGE k) then falling else rising).testBit i

/-- The output of the filter of a channel. -/
def filterOutput (s : State) (k rising falling : Nat) : Nat := (sincOutput (s.moduOf k) (pinLevels s k rising falling)).2

/-- The mantissa of that output before it is limited. -/
def outputMantissa (s : State) (k rising falling : Nat) : Int :=
  sincMantissa (s.fld (MOD_CFG_DM1 k) + 1) (filterOutput s k rising falling) (Config.freeValue s.free)

/-- The keys of the registers of channel `k`. -/
def modKey (k i : Nat) : Prop := (0x60020000 + 0x40 * k) * 32 ≤ i ∧ i < (0x60020040 + 0x40 * k) * 32

theorem watchedKey_mod {k i : Nat} (small : k < 24) (h : modKey k i) : watchedKey i = false := by
  simp only [modKey] at h
  exact watchedKey_measure (by omega) (by omega)

theorem stuck_mod (k : Nat) : modKey k (MOD_STAT_STUCK k).key := by simp only [modKey, Fld.key, MOD_STAT_STUCK]; omega
theorem settling_mod (k : Nat) : modKey k (MOD_STAT_SETTLING k).key := by simp only [modKey, Fld.key, MOD_STAT_SETTLING]; omega
theorem stuckCnt_mod (k : Nat) : modKey k (MOD_CNT_STUCK_CNT k).key := by simp only [modKey, Fld.key, MOD_CNT_STUCK_CNT]; omega

theorem recordKey_modMirror {k i : Nat} (small : k < 24) (own : modKey k i) : ¬ recordKey (modMirror k) i := by
  simp only [modKey] at own
  simp only [recordKey, modMirror]
  omega

theorem State.mem_out_when_irq {s : State} {o : Out} (sent : o ∈ s.out) (c : Bool) (p : State → Nat) (b : Blk) (i n : Nat) :
    o ∈ (s.when c fun t => t.irq (p t) b i n).out := by
  cases c
  · exact sent
  · exact List.mem_append_left _ sent

section
variable {s : State} {k rising falling : Nat} (small : k < 24)
include small

/-- An output that is due, of a channel without a slot: the result of the filter in the mirror record, then the event. -/
theorem modulatorOutput_due (due : outputDue s k = true) (slotless : s.flag (MOD_DST_DEN k) = false) : ∃ x : Sample,
    x.m = BitVec.ofInt 36 (min (outputMantissa s k rising falling) (2 ^ 35 - 1)) ∧ x.raw = filterOutput s k rising falling ∧
    x.valid = ((s.moduOf k).settle = 0 && !s.flag (MOD_STAT_STUCK k)) ∧
    MeasureStep (recordKey (modMirror k)) (writeMirror s.fresh.2 (modMirror k) x) (modulatorOutput s k rising falling) ∧
    .event (80 + k) s.mtime ∈ (modulatorOutput s k rising falling).out := by
  have own : ∀ {r t : State} {f : Fld} {v : Nat}, MeasureStep (recordKey (modMirror k)) r t → modKey k f.key →
      MeasureStep (recordKey (modMirror k)) r (t.put f v) :=
    fun h key => h.put (watchedKey_mod small key) (recordKey_modMirror small key)
  generalize ends : modulatorOutput s k rising falling = t
  unfold modulatorOutput at ends
  rw [if_neg (by simp [due])] at ends
  extract_lets d pins l h moved y f u m ovr stuck left x written filter kept settling unstuck sent at ends
  subst ends
  have delivered : written = writeMirror u (modMirror k) x := by
    simp only [written, deliver, show u.flag (MOD_DST_DEN k) = false from slotless, Bool.false_eq_true, if_false]
  have limited : (if ovr then 2 ^ 35 - 1 else m) = min m (2 ^ 35 - 1) := by
    simp only [ovr, decide_eq_true_eq]
    omega
  have result : MeasureStep (recordKey (modMirror k)) (writeMirror u (modMirror k) x) written := by
    rw [delivered]
    exact .refl _
  have filtered : MeasureStep (recordKey (modMirror k)) (writeMirror u (modMirror k) x) kept := result.setModu k _
  have settled : MeasureStep (recordKey (modMirror k)) (writeMirror u (modMirror k) x) settling := own filtered (settling_mod k)
  have cleared : MeasureStep (recordKey (modMirror k)) (writeMirror u (modMirror k) x) unstuck :=
    settled.when fun _ h => own h (stuck_mod k)
  have mtime : unstuck.mtime = s.mtime :=
    cleared.spares.mtime.trans (writeMirror_spares (K := fun _ => False) u (modMirror k) x fun _ _ => id).mtime
  have levels : l = pinLevels s k rising falling := rfl
  have raw : y.2 = filterOutput s k rising falling := by rw [filterOutput, ← levels]
  have mantissa : m = outputMantissa s k rising falling := by rw [outputMantissa, ← raw]; rfl
  have word : x.m = BitVec.ofInt 36 (min (outputMantissa s k rising falling) (2 ^ 35 - 1)) := by
    rw [← mantissa, ← limited]
  have valid : x.valid = ((s.moduOf k).settle = 0 && !s.flag (MOD_STAT_STUCK k)) := rfl
  refine ⟨x, word, raw, valid, ?_, ?_⟩
  · exact (cleared.emit _).when fun _ h => h.irq _ _ _ _
  · refine State.mem_out_when_irq ?_ _ (fun t => t.fld (MOD_CFG_OWNER k)) _ _ _
    rw [← mtime]
    exact List.mem_append_right _ (.head _)

theorem modStuck_shows (on : s.flag (MOD_CFG_EN k) = true) (moving : s.flag (MOD_STAT_STUCK k) = false) :
    (modStuck s k).fld (MOD_STAT_STUCK k) = 1 ∧ (modStuck s k).words = s.words := by
  have set : modStuck s k = (((s.setModu k { s.moduOf k with unstick := 0 }).put (MOD_STAT_STUCK k) 1).inc (MOD_CNT_STUCK_CNT k)).when
      ((((s.setModu k { s.moduOf k with unstick := 0 }).put (MOD_STAT_STUCK k) 1).inc (MOD_CNT_STUCK_CNT k)).flag (MOD_IRQ_FLT_IE k))
        fun t => t.irq (t.fld (MOD_CFG_OWNER k)) .mod k 1 := by
    have still : (s.setModu k { s.moduOf k with unstick := 0 }).flag (MOD_STAT_STUCK k) = false := moving
    simp only [modStuck, on, if_true, still, Bool.false_eq_true, if_false, State.putFlag, bit]
  have apart : (MOD_CNT_STUCK_CNT k).key ≠ (MOD_STAT_STUCK k).key := by simp [Fld.key, MOD_CNT_STUCK_CNT, MOD_STAT_STUCK]
  have step : MeasureStep (fun i => i = (MOD_STAT_STUCK k).key) ((s.setModu k { s.moduOf k with unstick := 0 }).put (MOD_STAT_STUCK k) 1)
      (modStuck s k) := by
    rw [set]
    exact ((MeasureStep.refl _).put (watchedKey_mod small (stuckCnt_mod k)) apart).when fun _ h => h.irq _ _ _ _
  exact ⟨(step.spares.fld _ rfl).trans (State.fld_put_same _ _ _), step.words⟩

end

theorem modStuck_disabled {s : State} {k : Nat} (off : s.flag (MOD_CFG_EN k) = false) : modStuck s k = s := by simp [modStuck, off]

/-! ### Mirror reads (R158) -/

section
variable {s : State} (p : Fin 12) (n : Fin 32) (e : Fin 16)

theorem adcMirror_entry : adcMirror n e = 0x6001A000 + n * 0x200 + e * 0x20 := if_pos e.isLt

theorem mirrorFresh_adcMirror (s : State) : mirrorFresh s (adcMirror n e) = some (s.fld (ADC_FRESH_LIMIT n)) := by
  have place : 0x6001A000 ≤ adcMirror n e ∧ adcMirror n e < 0x6001E000 ∧ adcMirror n e % 0x20 = 0 ∧ (adcMirror n e - 0x6001A000) / 0x200 = n := by
    rw [adcMirror_entry]
    omega
  obtain ⟨low, high, align, index⟩ := place
  simp only [mirrorFresh, low, high, align, index, decide_true, Bool.and_self, if_true]

theorem mirrorRead_adcMirror (s : State) (r : Requester) : (mirrorRead s r (adcMirror n e)).words = s.words ∧
    (mirrorRead s r (adcMirror n e)).fld (RES_FLAGS_STALE (adcMirror n e)) =
      bit (mirrorStale s (adcMirror n e) (s.fld (ADC_FRESH_LIMIT n))) := by
  unfold mirrorRead
  rw [mirrorFresh_adcMirror]
  exact ⟨rfl, (State.fld_put_same _ _ _).trans (bit_mod_two _)⟩

/-- A low-half read of a mantissa by a core pair reads the record's word. -/
theorem busRead_adcMirror (up : s.allUp = true) : busRead s (.pair p) 4 (adcMirror n e) =
    ({ mirrorRead s (.pair p) (adcMirror n e) with out := s.out }, some ((s.word (adcMirror n e)).toNat % 2 ^ 32)) := by
  have low := adcMirror_low n e
  have high : adcMirror n e < 0x6001E000 := by rw [adcMirror_entry]; omega
  have align : adcMirror n e % 0x20 = 0 := by rw [adcMirror_entry]; omega
  have fresh := mirrorFresh_adcMirror n e s
  have reached : touch s (adcMirror n e) = s ∧ bankShut s (adcMirror n e) = false := ⟨touch_allUp _ up, bankShut_allUp up (by omega)⟩
  obtain ⟨touched, open_⟩ := reached
  generalize adcMirror n e = a at low high align fresh touched open_ ⊢
  have record : mirrorOf s a = some a := by simp [mirrorOf, align, fresh]
  have g1 : ¬ a + 4 ≤ 0x40000 := by omega
  have g2 : ¬ a + 4 ≤ 0x10C00000 := by omega
  have g3 : ¬ 0x70000000 ≤ a := by omega
  have g4 : inFjopBuf a = false := by
    simp only [inFjopBuf, Bool.and_eq_false_iff, decide_eq_false_iff_not]
    omega
  have g5 : a % 4 = 0 := by omega
  simp [busRead, g1, g2, g3, g4, g5, touched, open_, record]

end

theorem MeasureStep.word {K : Nat → Prop} {s t : State} (h : MeasureStep K s t) (a : Nat) : t.word a = s.word a :=
  congrArg (fun w => Tbl.get 0 w a) h.words

/-! ### What the results show -/

section
variable (base : Nat) (x : Sample)

theorem recordFields_time : (RES_TLO_T_LO base, x.time) ∈ recordFields base x := List.mem_of_getElem? (i := 0) rfl

theorem recordFields_valid : (RES_FLAGS_VALID base, bit x.valid) ∈ recordFields base x := List.mem_of_getElem? (i := 2) rfl

theorem recordFields_raw : (RES_RAW base, x.raw) ∈ recordFields base x := List.mem_of_getElem? (i := 7) rfl

/-- The field of a record that a later step leaves alone. -/
theorem MeasureStep.record {base : Nat} {x : Sample} {s t : State} (h : MeasureStep (recordKey base) (writeMirror s base x) t)
    {f : Fld} {v : Nat} (mem : (f, v) ∈ recordFields base x) : t.fld f = v % 2 ^ f.width :=
  (h.spares.fld f (recordFields_record base x (f, v) mem)).trans (writeMirror_fld s base x mem)

theorem MeasureStep.delivered {base engine addr : Nat} {den : Bool} {x : Sample} {s t : State}
    (h : MeasureStep (recordKey base) (deliver s den engine addr base x) t) {f : Fld} {v : Nat}
    (mem : (f, v) ∈ recordFields base x) : t.fld f = v % 2 ^ f.width := by
  rw [deliver] at h
  exact h.record mem

end

section
variable {s : State} {n e uv : Nat} {c : EntryCfg}

/-- The result of an entry in its mirror record and its slot, when the sequence has gone on. -/
theorem afterEntry_convert_shows (small : n < 32) (plain : c.input ≠ 5) (engine : c.engine < 32) (addr : c.addr < 4095) (retaken : Bool)
    {t : State} (ends : afterEntry (convert s n e uv c retaken) n e = t) :
    t.word (adcMirror n e) = sarMantissa (rawCode (gainOf c.gain) uv (Config.freeValue s.free)) c.zero ∧
    t.fld (RES_RAW (adcMirror n e)) = rawCode (gainOf c.gain) uv (Config.freeValue s.free) ∧
    t.fld (RES_TLO_T_LO (adcMirror n e)) = (s.mtime - 320) % 2 ^ 32 ∧
    t.fld (RES_FLAGS_VALID (adcMirror n e)) = bit (!s.flag (ADC_STAT_REF_FAULT n)) ∧
    (c.den = true → t.word (dataAddr c.engine c.addr) = t.word (adcMirror n e)) ∧
    (∀ a, a ≠ adcMirror n e → a ≠ dataAddr c.engine c.addr → a ≠ dataAddr c.engine (c.addr + 1) → t.word a = s.word a) := by
  have step := afterEntry_convert_step (s := s) (e := e) (uv := uv) small plain retaken
  rw [ends, entryDelivered] at step
  have apart : dataAddr c.engine c.addr ≠ adcMirror n e := by
    have low := adcMirror_low n e
    simp only [dataAddr]
    omega
  have mirror : t.word (adcMirror n e) = (entrySample s n uv c retaken).m := (step.word _).trans (deliver_word_mirror _ _ _ _ _ _)
  have fits : (entrySample s n uv c retaken).raw < 2 ^ (RES_RAW (adcMirror n e)).width :=
    Nat.lt_of_le_of_lt (rawCode_le _ _ _) (show 4095 < 2 ^ 25 by decide)
  have raw := (step.delivered (recordFields_raw _ _)).trans (Nat.mod_eq_of_lt fits)
  have time := step.delivered (recordFields_time _ _)
  have valid := (step.delivered (recordFields_valid _ _)).trans (bit_mod_two _)
  exact ⟨mirror, raw, time, valid,
    fun den => ((step.word _).trans (deliver_word_slot _ _ _ _ _ _ den apart)).trans mirror.symm,
    fun a other first second => (step.word a).trans (deliver_word_other _ _ _ _ _ _ other first second)⟩

end

section
variable {s : State} (quiet : s.quiet = true)
include quiet

theorem exec_conversionEnd_quiet (n : Fin 32) (uv : Nat) : exec (.conversionEnd n uv) s = .next (conversionEnd s n uv) :=
  congrArg Host.Outcome.next (dozeWake_quiet _ quiet)

theorem exec_comparatorWatchExpiry_quiet (n : Fin 32) : exec (.comparatorWatchExpiry n) s = .next (cmpWatch s n) :=
  congrArg Host.Outcome.next (dozeWake_quiet _ quiet)

theorem exec_modStuck_quiet (k : Fin 24) : exec (.modStuck k) s = .next (modStuck s k) :=
  congrArg Host.Outcome.next (dozeWake_quiet _ quiet)

theorem exec_modulatorOutput_early {k : Fin 24} (early : outputDue s k = false) (rising falling : BitVec 256) :
    exec (.modulatorOutput k rising falling) s = .next s :=
  congrArg Host.Outcome.next ((congrArg (settle s) (modulatorOutput_early early)).trans (settle_quiet quiet (.refl s)))

/-- An output whose decimation is a power of two: exact in the mirror record, then the event. -/
theorem exec_modulatorOutput_due {k : Fin 24} {j out : Nat} {rising falling : BitVec 256} (due : outputDue s k = true)
    (power : s.fld (MOD_CFG_DM1 k) + 1 = 2 ^ j) (slotless : s.flag (MOD_DST_DEN k) = false)
    (filtered : out = (sincOutput (s.moduOf k) ((List.range (2 ^ j)).map fun i =>
      (if s.flag (MOD_CFG_EDGE k) then falling.toNat else rising.toNat).testBit i)).2) :
    ∃ t, exec (.modulatorOutput k rising falling) s = .next t ∧
      t.word (modMirror k) = BitVec.ofInt 36 (min ((2 * (out : Int) - (2 ^ j) ^ 3) * 2 ^ 35 / (2 ^ j) ^ 3) (2 ^ 35 - 1)) ∧
      t.fld (RES_RAW (modMirror k)) = out % 2 ^ (RES_RAW (modMirror k)).width ∧
      t.fld (RES_FLAGS_VALID (modMirror k)) = bit ((s.moduOf k).settle = 0 && !s.flag (MOD_STAT_STUCK k)) ∧
      (.event (80 + k.val) s.mtime) ∈ t.out ∧ (∀ a, a ≠ modMirror k → t.word a = s.word a) := by
  have place : 0x60018000 ≤ modMirror k ∧ modMirror k < 0x60027000 := by
    simp only [modMirror]
    omega
  have decimation : 2 ^ j ≤ 2 ^ 8 := power ▸ State.fld_lt s (MOD_CFG_DM1 k)
  have exponent : j ≤ 8 := (Nat.pow_le_pow_iff_right (by decide)).1 decimation
  have output : filterOutput s k rising.toNat falling.toNat = out := by rw [filterOutput, pinLevels, power, filtered]
  have mantissa : outputMantissa s k rising.toNat falling.toNat = (2 * (out : Int) - (2 ^ j) ^ 3) * 2 ^ 35 / (2 ^ j) ^ 3 := by
    rw [outputMantissa, output, power, sincMantissa_exact exponent]
  obtain ⟨x, m, raw, valid, step, event⟩ :=
    modulatorOutput_due (rising := rising.toNat) (falling := falling.toNat) k.isLt due slotless
  rw [mantissa] at m
  have taken : SameWatch s s.fresh.2 := SameWatch.of_regs rfl rfl rfl
  have watch := (taken.trans (writeMirror_watch _ (modMirror k) x place.1 place.2)).trans step.watch
  exact ⟨_, congrArg Host.Outcome.next (settle_quiet quiet watch), (step.word _).trans ((writeMirror_word_same _ _ x).trans m),
    (step.record (recordFields_raw _ x)).trans (by rw [raw, output]),
    (step.record (recordFields_valid _ x)).trans ((bit_mod_two _).trans (congrArg bit valid)), event,
    fun a other => (step.word a).trans (writeMirror_word_other _ _ x other)⟩

end

/-- A core pair's read of a mantissa in the mirror records. -/
theorem exec_mirrorRecordRead {s : State} (p : Fin 12) (n : Fin 32) (e : Fin 16) (up : s.allUp = true) :
    exec (.mirrorRecordRead (.pair p) (BitVec.ofNat 32 (adcMirror n e))) s =
      .next ({ mirrorRead s (.pair p) (adcMirror n e) with out := s.out }.emit
        (.data (.pair p) (adcMirror n e) ((s.word (adcMirror n e)).toNat % 2 ^ 32))) := by
  have address : (BitVec.ofNat 32 (adcMirror n e)).toNat = adcMirror n e := by
    refine (BitVec.toNat_ofNat _ _).trans (Nat.mod_eq_of_lt ?_)
    rw [adcMirror_entry]
    omega
  refine congrArg Host.Outcome.next ((congrArg (readOut s _ 4) address).trans ?_)
  exact readOut_data (fun host => nomatch host) (busRead_adcMirror p n e up)

/-- Settles O33: a completion point by `conversionEnd_enabled` and what its result shows, a modulator output by `modulatorOutput_due` and
the exact mantissa, a mirror read by `busRead_adcMirror`. -/
theorem conversionResults : Obligations.ConversionResults := by
  unfold Obligations.ConversionResults
  intro s n k uv rising falling quiet
  refine ⟨fun e c _ calm busy on at_ entry plain engine addr free uncut => ?_, fun calm idle => ?_, fun calm busy off => ?_,
    fun on watch => ⟨_, exec_comparatorWatchExpiry_quiet quiet n, cmpWatch_shows n.isLt on watch⟩, fun off => ?_,
    fun early => exec_modulatorOutput_early quiet early rising falling, fun off => ?_,
    fun j out due power slotless filtered => exec_modulatorOutput_due quiet due power slotless filtered,
    fun on moving => ⟨_, exec_modStuck_quiet quiet k, modStuck_shows k.isLt on moving⟩, fun p e up => ?_⟩
  · have ends := conversionEnd_enabled (uv := uv) n.isLt calm busy on uncut at_ entry
    obtain ⟨word, raw, time, valid, slot, others⟩ := afterEntry_convert_shows n.isLt plain engine addr _ ends.symm
    exact ⟨_, exec_conversionEnd_quiet quiet n uv, word, raw, time, valid, slot, others, fun more low =>
      ends ▸ afterEntry_convert_next n.isLt plain _ busy free more low⟩
  · rw [exec_conversionEnd_quiet quiet, conversionEnd_idle calm idle]
  · obtain ⟨u, ends⟩ := conversionEnd_disabled (uv := uv) n.isLt calm busy off
    exact ⟨_, (exec_conversionEnd_quiet quiet n uv).trans (congrArg _ ends), adcIdle_shows u n⟩
  · rw [exec_comparatorWatchExpiry_quiet quiet, cmpWatch_disabled off]
  · rw [exec_modStuck_quiet quiet, modStuck_disabled off]
  · obtain ⟨words, stale⟩ := mirrorRead_adcMirror n e s (.pair p)
    exact ⟨_, exec_mirrorRecordRead p n e up, rfl, words, stale⟩

end Sys2Proof.Machine
end

section

/-! SUPPORT and PROOFS of position and speed feedback (chapter 06). What a step of an interface leaves alone is said by `MeasureStep`; each
field it writes has its key counted from the interface's first, so that two fields are told apart by their numbers. -/

namespace Sys2Proof.Machine

/-! ### Where the registers of an interface stand -/

/-- The first key of interface `n`. -/
def fbBase (n : Nat) : Nat := (0x60028000 + 0x100 * n) * 32

/-- The keys of the registers of interface `n`. -/
def fbKey (n k : Nat) : Prop := fbBase n ≤ k ∧ k < fbBase n + 0x2000

theorem watchedKey_fb {n k : Nat} (small : n < 8) (own : fbKey n k) : watchedKey k = false := by
  simp only [fbKey, fbBase] at own
  simp only [watchedKey, Bool.or_eq_false_iff, Bool.and_eq_false_iff, decide_eq_false_iff_not]
  omega

/-- The emulators' registers lie above. -/
theorem fbKey_emulator {n k : Nat} (small : n < 8) (own : fbKey n k) (m : Nat) : k ≠ (FB_EMU_CFG_EN m).key := by
  simp only [fbKey, fbBase] at own
  simp only [Fld.key, FB_EMU_CFG_EN]
  omega

theorem fbBase_add {n : Nat} {f : Fld} (o : Nat) (at_ : f.addr = 0x60028000 + o + 0x100 * n) : f.key = fbBase n + (o * 32 + f.lo) := by
  simp only [Fld.key, at_, fbBase]
  omega

section
variable (n k : Nat)

@[simp] theorem key_cfgEn : (FB_CFG_EN n).key = fbBase n + 0 := fbBase_add 0 rfl
@[simp] theorem key_cfgMode : (FB_CFG_MODE n).key = fbBase n + 1 := fbBase_add 0 rfl
@[simp] theorem key_cfgQmode : (FB_CFG_QMODE n).key = fbBase n + 3 := fbBase_add 0 rfl
@[simp] theorem key_cfgFilt : (FB_CFG_FILT n).key = fbBase n + 5 := fbBase_add 0 rfl
@[simp] theorem key_cfgIdxMode : (FB_CFG_IDX_MODE n).key = fbBase n + 9 := fbBase_add 0 rfl
@[simp] theorem key_cfgZq : (FB_CFG_ZQ n).key = fbBase n + 11 := fbBase_add 0 rfl
@[simp] theorem key_cfgOwner : (FB_CFG_OWNER n).key = fbBase n + 14 := fbBase_add 0 rfl
@[simp] theorem key_cfgRev : (FB_CFG_REV n).key = fbBase n + 18 := fbBase_add 0 rfl
@[simp] theorem key_cfgIe : (FB_CFG_IE n).key = fbBase n + 19 := fbBase_add 0 rfl
@[simp] theorem key_idxval : (FB_IDXVAL_VAL n).key = fbBase n + 256 := fbBase_add 0x08 rfl
@[simp] theorem key_cnt : (FB_CNT n).key = fbBase n + 640 := fbBase_add 0x14 rfl
@[simp] theorem key_acc : (FB_ACC n).key = fbBase n + 768 := fbBase_add 0x18 rfl
@[simp] theorem key_timeLo : (FB_PTLO_T_LO n).key = fbBase n + 896 := fbBase_add 0x1C rfl
@[simp] theorem key_timeHi : (FB_PTHI_T_HI n).key = fbBase n + 1024 := fbBase_add 0x20 rfl
@[simp] theorem key_spd : (FB_SPD n).key = fbBase n + 1152 := fbBase_add 0x24 rfl
@[simp] theorem key_dir : (FB_STAT_DIR n).key = fbBase n + 1280 := fbBase_add 0x28 rfl
@[simp] theorem key_still : (FB_STAT_STILL n).key = fbBase n + 1281 := fbBase_add 0x28 rfl
@[simp] theorem key_posValid : (FB_STAT_POS_VALID n).key = fbBase n + 1282 := fbBase_add 0x28 rfl
@[simp] theorem key_posDoubt : (FB_STAT_POS_DOUBT n).key = fbBase n + 1283 := fbBase_add 0x28 rfl
@[simp] theorem key_fault : (FB_STAT_FAULT n).key = fbBase n + 1284 := fbBase_add 0x28 rfl
@[simp] theorem key_stale : (FB_STAT_STALE n).key = fbBase n + 1285 := fbBase_add 0x28 rfl
@[simp] theorem key_armed : (FB_STAT_ARMED n).key = fbBase n + 1286 := fbBase_add 0x28 rfl
@[simp] theorem key_hallState : (FB_STAT_HALL_STATE n).key = fbBase n + 1287 := fbBase_add 0x28 rfl
@[simp] theorem key_dirEvt : (FB_STAT_DIR_EVT n).key = fbBase n + 1290 := fbBase_add 0x28 rfl
@[simp] theorem key_idxEvt : (FB_STAT_IDX_EVT n).key = fbBase n + 1291 := fbBase_add 0x28 rfl
@[simp] theorem key_wrapEvt : (FB_STAT_WRAP_EVT n).key = fbBase n + 1292 := fbBase_add 0x28 rfl
@[simp] theorem key_qerr : (FB_STAT_QERR n).key = fbBase n + 1293 := fbBase_add 0x28 rfl
@[simp] theorem key_hallErr : (FB_STAT_HALL_ERR n).key = fbBase n + 1294 := fbBase_add 0x28 rfl
@[simp] theorem key_ssiErr : (FB_STAT_SSI_ERR n).key = fbBase n + 1295 := fbBase_add 0x28 rfl
@[simp] theorem key_los : (FB_STAT_LOS n).key = fbBase n + 1296 := fbBase_add 0x28 rfl
@[simp] theorem key_trackErr : (FB_STAT_TRACK_ERR n).key = fbBase n + 1297 := fbBase_add 0x28 rfl
@[simp] theorem key_qerrCnt : (FB_ERRCNT_QERR_CNT n).key = fbBase n + 1408 := fbBase_add 0x2C rfl
@[simp] theorem key_ssiErrCnt : (FB_ERRCNT_SSI_ERR_CNT n).key = fbBase n + 1424 := fbBase_add 0x2C rfl
@[simp] theorem key_ssiRawLo : (FB_SSI_RAW_LO_RAW n).key = fbBase n + 2304 := fbBase_add 0x48 rfl
@[simp] theorem key_ssiRawHi : (FB_SSI_RAW_HI_RAW n).key = fbBase n + 2432 := fbBase_add 0x4C rfl

/-- The same of a field of latch set `k`. -/
theorem fbBase_add_latch {n k : Nat} {f : Fld} (o : Nat) (at_ : f.addr = 0x60028000 + o + 0x100 * n + 0x14 * k) :
    f.key = fbBase n + (o * 32 + f.lo + 640 * k) := by
  simp only [Fld.key, at_, fbBase]
  omega

@[simp] theorem key_latchCnt : (FB_L_CNT n k).key = fbBase n + (4096 + 640 * k) := fbBase_add_latch 0x80 rfl
@[simp] theorem key_latchAcc : (FB_L_ACC n k).key = fbBase n + (4224 + 640 * k) := fbBase_add_latch 0x84 rfl
@[simp] theorem key_latchLo : (FB_L_TLO_T_LO n k).key = fbBase n + (4352 + 640 * k) := fbBase_add_latch 0x88 rfl
@[simp] theorem key_latchHi : (FB_L_THI_T_HI n k).key = fbBase n + (4480 + 640 * k) := fbBase_add_latch 0x8C rfl
@[simp] theorem key_latchValid : (FB_L_STAT_L_VALID n k).key = fbBase n + (4608 + 640 * k) := fbBase_add_latch 0x90 rfl
@[simp] theorem key_latchOvwr : (FB_L_STAT_OVWR_CNT n k).key = fbBase n + (4616 + 640 * k) := fbBase_add_latch 0x90 rfl

end

/-! ### What an interface holds beside its registers -/

section
variable {s t : State} {n : Nat}

theorem State.fbOf_setFb_same (s : State) (n : Nat) (f : Feedback) : (s.setFb n f).fbOf n = f := Tbl.get_set_same _ _ _ _

@[simp] theorem State.fld_setFb (s : State) (n : Nat) (f : Feedback) (g : Fld) : (s.setFb n f).fld g = s.fld g := rfl
@[simp] theorem fbOn_setFb (s : State) (n m : Nat) (f : Feedback) : fbOn (s.setFb m f) n = fbOn s n := rfl
@[simp] theorem fbMode_setFb (s : State) (n m : Nat) (f : Feedback) : fbMode (s.setFb m f) n = fbMode s n := rfl

/-- What an interface holds beside the history of its counting. -/
def State.fbHeld (s : State) (n : Nat) : Feedback := { s.fbOf n with hist := [], stepAt := 0, stepSum := 0, run := [] }

theorem State.fbOf_congr (h : t.fb = s.fb) : t.fbOf n = s.fbOf n := by simp only [State.fbOf, h]

theorem State.fbHeld_congr (h : t.fb = s.fb) : t.fbHeld n = s.fbHeld n := by rw [State.fbHeld, State.fbOf_congr h, State.fbHeld]

theorem tickSteps_congr (fb : t.fb = s.fb) (mtime : t.mtime = s.mtime) : tickSteps t n = tickSteps s n := by
  unfold tickSteps
  rw [State.fbOf_congr fb, mtime]

end

theorem codeOf_mod (w : Nat) (i : Int) : codeOf w i % 2 ^ w = codeOf w i := by
  refine Nat.mod_eq_of_lt ?_
  have bound := Int.emod_lt_of_pos i (show (0 : Int) < 2 ^ w by positivity)
  have cast : ((2 ^ w : Nat) : Int) = 2 ^ w := by push_cast; rfl
  simp only [codeOf]
  omega

/-! ### What the operations of an interface leave alone -/

section
variable {K : Nat → Prop} {r s : State} {n : Nat}

theorem MeasureStep.setFb (h : MeasureStep K r s) (f : Feedback) : MeasureStep K r (s.setFb n f) := h.beside rfl rfl rfl rfl rfl

theorem MeasureStep.fbIrq (h : MeasureStep K r s) (i : Nat) : MeasureStep K r (fbIrq s n i) := h.when fun _ h => h.irq _ _ _ _

theorem MeasureStep.emuCheck (h : MeasureStep K r s) (m : Nat) : MeasureStep K r (emuCheck s m) := .ite (h.beside rfl rfl rfl rfl rfl) h

theorem MeasureStep.each {α : Type} {f : State → α → State} {l : List α} (h : MeasureStep K r s)
    (turn : ∀ t a, MeasureStep K r t → MeasureStep K r (f t a)) : MeasureStep K r (s.each l f) := by
  induction l generalizing s with
  | nil => exact h
  | cons a l ih => exact ih (turn s a h)

/-- The fields that a step of the counters writes. -/
def stepFields (n : Nat) : List Fld := [FB_CNT n, FB_ACC n, FB_STAT_WRAP_EVT n, FB_STAT_STILL n, FB_STAT_DIR n, FB_STAT_DIR_EVT n]

/-- The fields of latch set `k`. -/
def latchFields (n k : Nat) : List Fld :=
  [FB_L_CNT n k, FB_L_ACC n k, FB_L_TLO_T_LO n k, FB_L_THI_T_HI n k, FB_L_STAT_L_VALID n k, FB_L_STAT_OVWR_CNT n k]

variable (small : n < 8)
include small

/-- A write of a register of the interface. -/
theorem MeasureStep.putFb {f : Fld} {v : Nat} (h : MeasureStep K r s) (free : ¬ K f.key) (own : fbKey n f.key := by simp [fbKey]) :
    MeasureStep K r (s.put f v) := h.put (watchedKey_fb small own) free

theorem MeasureStep.putAllFb {l : List (Fld × Nat)} (h : MeasureStep K r s) (own : ∀ e ∈ l, fbKey n e.1.key)
    (free : ∀ e ∈ l, ¬ K e.1.key) : MeasureStep K r (s.putAll l) := by
  induction l generalizing s with
  | nil => exact h
  | cons e l ih =>
    exact ih (h.putFb small (free e (.head l)) (own e (.head l))) (fun a ha => own a (.tail e ha)) fun a ha => free a (.tail e ha)

theorem MeasureStep.posLost (h : MeasureStep K r s) (valid : ¬ K (FB_STAT_POS_VALID n).key) : MeasureStep K r (posLost s n) :=
  (h.putFb small valid).each fun _ m h => h.emuCheck m

theorem MeasureStep.fbDoubt (h : MeasureStep K r s) (doubt : ¬ K (FB_STAT_POS_DOUBT n).key) (valid : ¬ K (FB_STAT_POS_VALID n).key) :
    MeasureStep K r (fbDoubt s n) := (h.putFb small doubt).posLost small valid

theorem MeasureStep.setCnt (h : MeasureStep K r s) (cnt : ¬ K (FB_CNT n).key) (v : Nat) : MeasureStep K r (setCnt s n v) :=
  (h.setFb _).putFb small cnt

theorem MeasureStep.accStep (h : MeasureStep K r s) (acc : ¬ K (FB_ACC n).key) (wrap : ¬ K (FB_STAT_WRAP_EVT n).key) (d : Int) :
    MeasureStep K r (accStep s n d) := (h.putFb small acc).when fun _ h => (h.putFb small wrap).fbIrq 3

theorem MeasureStep.runStep (h : MeasureStep K r s) (still : ¬ K (FB_STAT_STILL n).key) (dir : ¬ K (FB_STAT_DIR n).key)
    (turned : ¬ K (FB_STAT_DIR_EVT n).key) (d : Int) (t : Nat) : MeasureStep K r (runStep s n d t) :=
  (((h.setFb _).putFb small still).putFb small dir).when fun _ h => (h.putFb small turned).fbIrq 0

theorem MeasureStep.fbStep (h : MeasureStep K r s) (free : ∀ f ∈ stepFields n, ¬ K f.key) (d : Int) (t : Nat) :
    MeasureStep K r (fbStep s n d t) := by
  obtain ⟨cnt, acc, wrap, still, dir, turned, -⟩ := by simpa only [stepFields, List.forall_mem_cons] using free
  exact .ite h ((((h.setFb _).setCnt small cnt _).accStep small acc wrap d).runStep small still dir turned d t)

theorem MeasureStep.capture {k : Nat} (h : MeasureStep K r s) (set : k < 3) (free : ∀ f ∈ latchFields n k, ¬ K f.key) :
    MeasureStep K r (capture s n k) := by
  obtain ⟨cnt, acc, lo, hi, valid, ovwr, -⟩ := by simpa only [latchFields, List.forall_mem_cons] using free
  have own : ∀ {o : Nat}, o < 5120 → fbKey n (fbBase n + (o + 640 * k)) := fun _ => ⟨by omega, by omega⟩
  refine MeasureStep.fbIrq (.putAllFb small (h.when fun _ h => h.putFb small ovwr ?_) ?_ ?_) 4
  · exact key_latchOvwr n k ▸ own (by decide)
  · simp only [List.forall_mem_cons, key_latchCnt, key_latchAcc, key_latchLo, key_latchHi, key_latchValid]
    exact ⟨own (by decide), own (by decide), own (by decide), own (by decide), own (by decide), fun _ h => nomatch h⟩
  · exact List.forall_mem_cons.2 ⟨cnt, List.forall_mem_cons.2 ⟨acc, List.forall_mem_cons.2 ⟨lo, List.forall_mem_cons.2 ⟨hi,
      List.forall_mem_cons.2 ⟨valid, fun _ h => nomatch h⟩⟩⟩⟩⟩

theorem MeasureStep.loadCnt (h : MeasureStep K r s) (cnt : ¬ K (FB_CNT n).key) (doubt : ¬ K (FB_STAT_POS_DOUBT n).key)
    (valid : ¬ K (FB_STAT_POS_VALID n).key) (v : Nat) : MeasureStep K r (loadCnt s n v) :=
  ((h.setCnt small cnt _).putFb small doubt).when fun _ h => h.putFb small valid

end

/-! ### What the operations of an interface write -/

section
variable (s : State) (n i : Nat)

theorem fbIrq_regs : (fbIrq s n i).regs = s.regs := State.when_frame (p := State.regs) fun _ => rfl

theorem fbIrq_fb : (fbIrq s n i).fb = s.fb := State.when_frame (p := State.fb) fun _ => rfl

theorem emuCheck_regs (m : Nat) : (emuCheck s m).regs = s.regs := by unfold emuCheck; dsimp only; split <;> rfl

theorem emuCheck_fb (m : Nat) : (emuCheck s m).fb = s.fb := by unfold emuCheck; dsimp only; split <;> rfl

theorem posLost_regs : (posLost s n).regs = (s.put (FB_STAT_POS_VALID n) 0).regs := State.each_frame (p := State.regs) emuCheck_regs _ _

theorem posLost_valid : (posLost s n).fld (FB_STAT_POS_VALID n) = 0 :=
  (State.fld_congr (posLost_regs s n) _).trans (State.fld_put_same _ _ _)

theorem posLost_fb : (posLost s n).fb = s.fb := State.each_frame (p := State.fb) emuCheck_fb _ _

theorem fbDoubt_shows : (fbDoubt s n).fld (FB_STAT_POS_DOUBT n) = 1 ∧ (fbDoubt s n).fld (FB_STAT_POS_VALID n) = 0 := by
  refine ⟨(State.fld_congr (posLost_regs _ n) _).trans ?_, posLost_valid _ n⟩
  exact (State.fld_put_other _ _ _ _ (by simp)).trans (State.fld_put_same _ _ _)

theorem setCnt_cnt (v : Nat) : (setCnt s n v).fld (FB_CNT n) = v % 2 ^ 32 := State.fld_put_same _ _ _

theorem setCnt_fbHeld (v : Nat) : (setCnt s n v).fbHeld n = s.fbHeld n := by
  rw [State.fbHeld, show (setCnt s n v).fbOf n = _ from State.fbOf_setFb_same s n _]
  rfl

theorem accStep_fb (d : Int) : (accStep s n d).fb = s.fb := State.when_frame (p := State.fb) fun _ => fbIrq_fb _ _ _

theorem runStep_fbHeld (d : Int) (t : Nat) : (runStep s n d t).fbHeld n = s.fbHeld n := by
  unfold runStep
  extract_lets f back turn fresh u v
  have fb : v.fb = u.fb := State.putAll_frame (p := State.fb) (fun _ _ _ => rfl) _ u
  have sent : (v.when turn fun s => fbIrq (s.putFlag (FB_STAT_DIR_EVT n) true) n 0).fb = v.fb :=
    State.when_frame (p := State.fb) fun _ => fbIrq_fb _ _ _
  rw [State.fbHeld_congr (sent.trans fb), State.fbHeld, State.fbOf_setFb_same]
  rfl

theorem fbStep_fbHeld (d : Int) (t : Nat) : (fbStep s n d t).fbHeld n = s.fbHeld n := by
  unfold fbStep
  dsimp only
  split
  · rfl
  · refine (runStep_fbHeld _ n d t).trans ((State.fbHeld_congr (accStep_fb _ n d)).trans ((setCnt_fbHeld _ n _).trans ?_))
    rw [State.fbHeld, State.fbOf_setFb_same]
    rfl

/-- A step moves the count by its own counts (R166). -/
theorem fbStep_cnt {n : Nat} (small : n < 8) (d : Int) (t : Nat) :
    (fbStep s n d t).fld (FB_CNT n) = if d = 0 then s.fld (FB_CNT n) else codeOf 32 ((s.fld (FB_CNT n) : Int) + d) := by
  unfold fbStep
  dsimp only
  split
  · rfl
  · have kept : ∀ u, MeasureStep (· = (FB_CNT n).key) u (runStep (accStep u n d) n d t) := fun u =>
      ((MeasureStep.refl u).accStep small (by simp) (by simp) d).runStep small (by simp) (by simp) (by simp) d t
    exact ((kept _).spares.fld _ rfl).trans ((setCnt_cnt _ n _).trans (codeOf_mod 32 _))

end

/-! ### Changes of A and B (R170) -/

section
variable {s : State} {n : Nat} {a b : Bool}

theorem quadEdge_off (off : fbOn s n = false) : quadEdge s n a b = s.setFb n { s.fbOf n with a := a, b := b } := by simp [quadEdge, off]

theorem quadEdge_counts (on : fbOn s n = true) (mode : fbMode s n = 0) {c : Int}
    (count : quadCount (s.fld (FB_CFG_QMODE n)) (s.fbOf n).a (s.fbOf n).b a b = some c) : quadEdge s n a b =
      fbStep (s.setFb n { s.fbOf n with a := a, b := b }) n (revd s n c) (s.mtime - 2 * s.fld (FB_CFG_FILT n)) := by
  simp only [quadEdge, fbOn_setFb, fbMode_setFb, on, mode, State.fld_setFb, count, decide_true, Bool.and_self, if_true]
  rfl

theorem quadEdge_illegal (on : fbOn s n = true) (mode : fbMode s n = 0)
    (illegal : quadCount (s.fld (FB_CFG_QMODE n)) (s.fbOf n).a (s.fbOf n).b a b = none) : quadEdge s n a b =
      fbIrq ((fbDoubt ((s.setFb n { s.fbOf n with a := a, b := b }).put (FB_STAT_QERR n) 1) n).inc (FB_ERRCNT_QERR_CNT n)) n 1 := by
  simp only [quadEdge, fbOn_setFb, fbMode_setFb, on, mode, State.fld_setFb, illegal, decide_true, Bool.and_self, if_true]
  rfl

theorem revd_eq_zero (s : State) (n : Nat) (c : Int) : revd s n c = 0 ↔ c = 0 := by
  unfold revd
  split
  · exact neg_eq_zero
  · rfl

variable (small : n < 8)
include small

/-- An accepted change moves the count and leaves the position valid or not. -/
theorem quadEdge_counts_shows (on : fbOn s n = true) (mode : fbMode s n = 0) {c : Int}
    (count : quadCount (s.fld (FB_CFG_QMODE n)) (s.fbOf n).a (s.fbOf n).b a b = some c) :
    (quadEdge s n a b).fld (FB_CNT n) = (if c = 0 then s.fld (FB_CNT n) else codeOf 32 ((s.fld (FB_CNT n) : Int) + revd s n c)) ∧
      ((quadEdge s n a b).fbOf n).a = a ∧ ((quadEdge s n a b).fbOf n).b = b ∧ (quadEdge s n a b).words = s.words ∧
      (quadEdge s n a b).fld (FB_STAT_POS_VALID n) = s.fld (FB_STAT_POS_VALID n) := by
  rw [quadEdge_counts on mode count]
  generalize moved : s.setFb n { s.fbOf n with a := a, b := b } = u
  generalize s.mtime - 2 * s.fld (FB_CFG_FILT n) = t
  have kept : MeasureStep (· = (FB_STAT_POS_VALID n).key) u (fbStep u n (revd s n c) t) :=
    (MeasureStep.refl u).fbStep small (by simp [stepFields]) _ _
  have pins : u.fbOf n = { s.fbOf n with a := a, b := b } := moved ▸ State.fbOf_setFb_same _ _ _
  have held := fbStep_fbHeld u n (revd s n c) t
  have cnt := fbStep_cnt u small (revd s n c) t
  have before : ∀ f, u.fld f = s.fld f := fun f => by rw [← moved]; rfl
  simp only [revd_eq_zero, before] at cnt
  exact ⟨cnt, (congrArg Feedback.a held).trans (congrArg Feedback.a pins), (congrArg Feedback.b held).trans (congrArg Feedback.b pins),
    kept.words.trans (by rw [← moved]; rfl), (kept.spares.fld _ rfl).trans (before _)⟩

/-- An illegal change leaves the count and takes away the position's validity. -/
theorem quadEdge_illegal_shows (on : fbOn s n = true) (mode : fbMode s n = 0)
    (illegal : quadCount (s.fld (FB_CFG_QMODE n)) (s.fbOf n).a (s.fbOf n).b a b = none) :
    (quadEdge s n a b).fld (FB_CNT n) = s.fld (FB_CNT n) ∧ (quadEdge s n a b).fld (FB_STAT_QERR n) = 1 ∧
      (quadEdge s n a b).fld (FB_STAT_POS_DOUBT n) = 1 ∧ (quadEdge s n a b).fld (FB_STAT_POS_VALID n) = 0 ∧
      (quadEdge s n a b).words = s.words := by
  rw [quadEdge_illegal on mode illegal]
  have flagged : MeasureStep (· = (FB_CNT n).key) s ((s.setFb n { s.fbOf n with a := a, b := b }).put (FB_STAT_QERR n) 1) :=
    ((MeasureStep.refl s).setFb _).putFb small (by simp)
  have set : ((s.setFb n { s.fbOf n with a := a, b := b }).put (FB_STAT_QERR n) 1).fld (FB_STAT_QERR n) = 1 := State.fld_put_same _ _ _
  generalize (s.setFb n { s.fbOf n with a := a, b := b }).put (FB_STAT_QERR n) 1 = u at flagged set ⊢
  have doubted : MeasureStep (fun k => k = (FB_CNT n).key ∨ k = (FB_STAT_QERR n).key) u (fbDoubt u n) :=
    (MeasureStep.refl u).fbDoubt small (by simp) (by simp)
  have counted : MeasureStep (· ≠ (FB_ERRCNT_QERR_CNT n).key) (fbDoubt u n) (fbIrq ((fbDoubt u n).inc (FB_ERRCNT_QERR_CNT n)) n 1) :=
    ((MeasureStep.refl _).putFb small (by simp)).fbIrq 1
  obtain ⟨doubt, valid⟩ := fbDoubt_shows u n
  refine ⟨(counted.spares.fld _ (by simp)).trans ((doubted.spares.fld _ (.inl rfl)).trans (flagged.spares.fld _ rfl)),
    (counted.spares.fld _ (by simp)).trans ((doubted.spares.fld _ (.inr rfl)).trans set), (counted.spares.fld _ (by simp)).trans doubt,
    (counted.spares.fld _ (by simp)).trans valid, counted.words.trans (doubted.words.trans flagged.words)⟩

end

/-! ### Hall states (R171) -/

section
variable {s : State} {n h : Nat}

/-- The state after a Hall state is noted, before it is judged. -/
def hallNoted (s : State) (n h : Nat) : State :=
  (s.setFb n { s.fbOf n with hall := h }).when (fbMode s n = 1) fun s => s.put (FB_STAT_HALL_STATE n) h

theorem hallNoted_kept (small : n < 8) : MeasureStep (· ≠ (FB_STAT_HALL_STATE n).key) s (hallNoted s n h) :=
  ((MeasureStep.refl s).setFb _).when fun _ k => k.putFb small (by simp)

theorem hallNoted_fbOf (s : State) (n h : Nat) : (hallNoted s n h).fbOf n = { s.fbOf n with hall := h } := by
  have fb : (hallNoted s n h).fb = (s.setFb n { s.fbOf n with hall := h }).fb := State.when_frame (p := State.fb) fun _ => rfl
  exact (State.fbOf_congr fb).trans (State.fbOf_setFb_same _ _ _)

theorem hallNoted_out (s : State) (n h : Nat) : (hallNoted s n h).out = s.out :=
  State.when_frame (p := State.out) fun _ => rfl

section
variable (small : n < 8)
include small

theorem hallNoted_on : fbOn (hallNoted s n h) n = fbOn s n := (hallNoted_kept small).spares.flag (by simp)

theorem hallNoted_mode : fbMode (hallNoted s n h) n = fbMode s n := (hallNoted_kept small).spares.fld _ (by simp)

theorem hallChange_off (off : fbOn s n = false) : hallChange s n h = hallNoted s n h := by
  unfold hallChange
  extract_lets old before f moved noted
  have idle : fbOn noted n = false := (hallNoted_on (h := h) small).trans off
  rw [if_neg (by simp [idle])]
  rfl

theorem hallChange_invalid (on : fbOn s n = true) (mode : fbMode s n = 1) (invalid : hallPlace h = none) :
    hallChange s n h = hallError (hallNoted s n h) n true := by
  unfold hallChange
  extract_lets old before f moved noted
  have runs : fbOn noted n = true := (hallNoted_on (h := h) small).trans on
  have hall : fbMode noted n = 1 := (hallNoted_mode (h := h) small).trans mode
  rw [if_pos (by simp [runs, hall]), invalid]
  rfl

/-- The state 3 after the state 1 is one step forward. -/
theorem hallChange_forward (on : fbOn s n = true) (mode : fbMode s n = 1) (known : (s.fbOf n).hallLost = false)
    (one : (s.fbOf n).hall = 1) {u : State} (ends : (hallNoted s n 3).put (FB_STAT_FAULT n) 0 = u) :
    hallChange s n 3 = fbStep u n (revd u n 1) (u.mtime - 400 * u.fld (FB_CFG_FILT n)) := by
  unfold hallChange
  extract_lets old before f moved noted cleared time
  have runs : fbOn noted n = true := (hallNoted_on (h := 3) small).trans on
  have hall : fbMode noted n = 1 := (hallNoted_mode (h := 3) small).trans mode
  have first : hallPlace old = some 0 := congrArg hallPlace one
  have sure : f.hallLost = false := known
  have fault : cleared = u := ends
  have instant : time = u.mtime - 400 * u.fld (FB_CFG_FILT n) := by rw [← fault]
  rw [if_pos (by simp [runs, hall]), show hallPlace 3 = some 1 from rfl, first, sure, fault, instant]
  rfl

end

theorem hallError_regs (s : State) (n : Nat) (invalid : Bool) : (hallError s n invalid).regs =
    (fbDoubt (s.putAll [(FB_STAT_HALL_ERR n, 1), (FB_STAT_FAULT n, bit invalid)]) n).regs := by
  unfold hallError
  extract_lets u held
  exact (fbIrq_regs _ n 1).trans (State.setFb_regs _ _ _)

/-- A Hall state that is none of the six leaves the count and takes away the position's validity. -/
theorem hallChange_invalid_shows (small : n < 8) (on : fbOn s n = true) (mode : fbMode s n = 1) (invalid : hallPlace h = none) :
    (hallChange s n h).fld (FB_CNT n) = s.fld (FB_CNT n) ∧ (hallChange s n h).fld (FB_STAT_HALL_ERR n) = 1 ∧
      (hallChange s n h).fld (FB_STAT_FAULT n) = 1 ∧ (hallChange s n h).fld (FB_STAT_POS_DOUBT n) = 1 := by
  rw [hallChange_invalid small on mode invalid]
  have noted := (hallNoted_kept (s := s) (h := h) small).spares.fld (FB_CNT n) (by simp)
  generalize hallNoted s n h = u at noted ⊢
  have flags : [(FB_STAT_HALL_ERR n, 1), (FB_STAT_FAULT n, bit true)].Pairwise fun a b => a.1.key ≠ b.1.key := by simp
  have marked : MeasureStep (· = (FB_CNT n).key) u (u.putAll [(FB_STAT_HALL_ERR n, 1), (FB_STAT_FAULT n, bit true)]) :=
    (MeasureStep.refl u).putAllFb small (by simp [fbKey]) (by simp)
  have err := State.fld_putAll_mem flags (.head _) u
  have fault := State.fld_putAll_mem flags (.tail _ (.head _)) u
  generalize made : u.putAll [(FB_STAT_HALL_ERR n, 1), (FB_STAT_FAULT n, bit true)] = v at marked err fault
  have doubted : MeasureStep (fun k => k ∉ [(FB_STAT_POS_DOUBT n).key, (FB_STAT_POS_VALID n).key]) v (fbDoubt v n) :=
    (MeasureStep.refl v).fbDoubt small (by simp) (by simp)
  have ends : ∀ f, (hallError u n true).fld f = (fbDoubt v n).fld f := State.fld_congr ((hallError_regs u n true).trans (by rw [made]))
  simp only [ends]
  exact ⟨(doubted.spares.fld _ (by simp)).trans ((marked.spares.fld _ rfl).trans noted), (doubted.spares.fld _ (by simp)).trans err,
    (doubted.spares.fld _ (by simp)).trans fault, (fbDoubt_shows v n).1⟩

/-- The next state in the forward order counts one. -/
theorem hallChange_forward_shows (small : n < 8) (on : fbOn s n = true) (mode : fbMode s n = 1) (known : (s.fbOf n).hallLost = false)
    (one : (s.fbOf n).hall = 1) (forward : s.flag (FB_CFG_REV n) = false) :
    (hallChange s n 3).fld (FB_CNT n) = codeOf 32 ((s.fld (FB_CNT n) : Int) + 1) ∧ (hallChange s n 3).fld (FB_STAT_HALL_STATE n) = 3 := by
  have noted := hallNoted_kept (s := s) (h := 3) small
  have shown : (hallNoted s n 3).fld (FB_STAT_HALL_STATE n) = 3 := by
    simp only [hallNoted, mode, decide_true, State.when, if_true]
    exact State.fld_put_same _ _ _
  have cleared : MeasureStep (· ≠ (FB_STAT_FAULT n).key) (hallNoted s n 3) ((hallNoted s n 3).put (FB_STAT_FAULT n) 0) :=
    (MeasureStep.refl _).putFb small (by simp)
  generalize ends : (hallNoted s n 3).put (FB_STAT_FAULT n) 0 = u at cleared
  rw [hallChange_forward small on mode known one ends]
  have sense : revd u n 1 = 1 := by
    rw [revd, cleared.spares.flag (by simp), noted.spares.flag (by simp), forward]
    rfl
  have before : u.fld (FB_CNT n) = s.fld (FB_CNT n) := (cleared.spares.fld _ (by simp)).trans (noted.spares.fld _ (by simp))
  have stepped : MeasureStep (· = (FB_STAT_HALL_STATE n).key) u (fbStep u n (revd u n 1) (u.mtime - 400 * u.fld (FB_CFG_FILT n))) :=
    (MeasureStep.refl u).fbStep small (by simp [stepFields]) _ _
  refine ⟨?_, (stepped.spares.fld _ rfl).trans ((cleared.spares.fld _ (by simp)).trans shown)⟩
  rw [fbStep_cnt u small, sense, before, if_neg (by decide)]

end

/-! ### Latches and the index (R167, R168, R175) -/

/-- A latch set shows CNT, an index's as it stood before the tick. -/
theorem capture_shows (s : State) (n k : Nat) : (capture s n k).fld (FB_L_CNT n k) =
      (if k = 2 then cntBefore s n s.mtime else s.fld (FB_CNT n)) % 2 ^ 32 ∧ (capture s n k).fld (FB_L_STAT_L_VALID n k) = 1 := by
  unfold capture
  extract_lets cnt acc t u
  have apart : [(FB_L_CNT n k, cnt), (FB_L_ACC n k, acc), (FB_L_TLO_T_LO n k, t), (FB_L_THI_T_HI n k, t / 2 ^ 32),
      (FB_L_STAT_L_VALID n k, 1)].Pairwise fun a b => a.1.key ≠ b.1.key := by simp
  exact ⟨(State.fld_congr (fbIrq_regs _ n 4) _).trans (State.fld_putAll_mem apart (.head _) u),
    (State.fld_congr (fbIrq_regs _ n 4) _).trans (State.fld_putAll_mem apart (.tail _ (.tail _ (.tail _ (.tail _ (.head _))))) u)⟩

theorem capture_fb (s : State) (n k : Nat) : (capture s n k).fb = s.fb := by
  unfold capture
  extract_lets cnt acc t u
  have counted : u.fb = s.fb := State.when_frame (p := State.fb) fun _ => rfl
  exact (fbIrq_fb _ n 4).trans ((State.putAll_frame (p := State.fb) (fun _ _ _ => rfl) _ u).trans counted)

/-- The state after a qualified index is captured, before it loads. -/
def indexTaken (s : State) (n : Nat) : State := fbIrq ((capture s n 2).put (FB_STAT_IDX_EVT n) 1) n 2

theorem indexTaken_shows (s : State) (n : Nat) : (indexTaken s n).fld (FB_STAT_IDX_EVT n) = 1 ∧
    (indexTaken s n).fld (FB_L_CNT n 2) = cntBefore s n s.mtime % 2 ^ 32 :=
  ⟨(State.fld_congr (fbIrq_regs _ n 2) _).trans (State.fld_put_same _ _ _),
    (State.fld_congr (fbIrq_regs _ n 2) _).trans ((State.fld_put_other _ _ _ _ (by simp)).trans (capture_shows s n 2).1)⟩

theorem indexTaken_fb (s : State) (n : Nat) : (indexTaken s n).fb = s.fb := (fbIrq_fb _ n 2).trans (capture_fb s n 2)

section
variable {s : State} {n : Nat} (small : n < 8)
include small

theorem indexTaken_kept : MeasureStep (fun k => k ∉ (FB_STAT_IDX_EVT n).key :: (latchFields n 2).map Fld.key) s (indexTaken s n) :=
  (((MeasureStep.refl s).capture small (by decide) fun f mem kept => kept (.tail _ (List.mem_map_of_mem mem))).putFb small
    (by simp)).fbIrq 2

theorem indexTaken_tickSteps : tickSteps (indexTaken s n) n = tickSteps s n :=
  tickSteps_congr (indexTaken_fb s n) (indexTaken_kept small).spares.mtime

section
variable (on : fbOn s n = true) (mode : fbMode s n = 0) (qualified : indexQualified s n = true)
include on mode qualified

theorem indexPulse_always (always : s.fld (FB_CFG_IDX_MODE n) = 1) :
    indexPulse s n = loadCnt (indexTaken s n) n (s.fld (FB_IDXVAL_VAL n)) := by
  have kept := (indexTaken_kept (s := s) small).spares
  have load : (indexTaken s n).fld (FB_CFG_IDX_MODE n) = 1 := (kept.fld _ (by simp [latchFields])).trans always
  unfold indexPulse
  extract_lets latched taken
  rw [if_pos (by simp [on, mode, qualified]), show taken.fld (FB_CFG_IDX_MODE n) = 1 from load,
    ← kept.fld (FB_IDXVAL_VAL n) (by simp [latchFields])]
  rfl

theorem indexPulse_armed (single : s.fld (FB_CFG_IDX_MODE n) = 2) : indexPulse s n =
    if s.flag (FB_STAT_ARMED n) && decide ((s.fbOf n).armAt < s.mtime) then
      (loadCnt (indexTaken s n) n (s.fld (FB_IDXVAL_VAL n))).put (FB_STAT_ARMED n) 0
    else indexTaken s n := by
  have kept := (indexTaken_kept (s := s) small).spares
  have load : (indexTaken s n).fld (FB_CFG_IDX_MODE n) = 2 := (kept.fld _ (by simp [latchFields])).trans single
  have own : (indexTaken s n).fbOf n = s.fbOf n := State.fbOf_congr (indexTaken_fb s n)
  rw [← kept.fld (FB_IDXVAL_VAL n) (by simp [latchFields]), ← kept.flag (f := FB_STAT_ARMED n) (by simp [latchFields]), ← own, ← kept.mtime]
  unfold indexPulse
  extract_lets latched taken
  rw [if_pos (by simp [on, mode, qualified]), show taken.fld (FB_CFG_IDX_MODE n) = 2 from load]
  rfl

end

end

/-! ### Loads of CNT (R168, R169) -/

section
variable {s : State} {n : Nat} (small : n < 8)
include small

theorem loadCnt_eq (incremental : fbMode s n < 2) (v : Nat) : loadCnt s n v =
    ((setCnt s n (codeOf 32 ((v : Int) + tickSteps s n))).put (FB_STAT_POS_DOUBT n) 0).put (FB_STAT_POS_VALID n) 1 := by
  have kept : MeasureStep (· = (FB_CFG_MODE n).key) s ((setCnt s n (codeOf 32 ((v : Int) + tickSteps s n))).put (FB_STAT_POS_DOUBT n) 0) :=
    ((MeasureStep.refl s).setCnt small (by simp) _).putFb small (by simp)
  have mode : fbMode ((setCnt s n (codeOf 32 ((v : Int) + tickSteps s n))).put (FB_STAT_POS_DOUBT n) 0) n = fbMode s n :=
    kept.spares.fld _ rfl
  exact if_pos (by rw [decide_eq_true_eq]; exact mode ▸ incremental)

theorem loadCnt_shows (incremental : fbMode s n < 2) (v : Nat) : (loadCnt s n v).fld (FB_CNT n) = codeOf 32 ((v : Int) + tickSteps s n) ∧
    (loadCnt s n v).fld (FB_STAT_POS_VALID n) = 1 := by
  rw [loadCnt_eq small incremental]
  refine ⟨?_, State.fld_put_same _ _ _⟩
  rw [State.fld_put_other _ _ _ _ (by simp), State.fld_put_other _ _ _ _ (by simp), setCnt_cnt, codeOf_mod]

/-- What a qualified index that loads CNT leaves. -/
theorem indexPulse_loads (on : fbOn s n = true) (mode : fbMode s n = 0) (qualified : indexQualified s n = true)
    (load : s.fld (FB_CFG_IDX_MODE n) = 1 ∨
      (s.fld (FB_CFG_IDX_MODE n) = 2 ∧ s.flag (FB_STAT_ARMED n) = true ∧ (s.fbOf n).armAt < s.mtime)) :
    (indexPulse s n).fld (FB_STAT_IDX_EVT n) = 1 ∧ (indexPulse s n).fld (FB_L_CNT n 2) = cntBefore s n s.mtime % 2 ^ 32 ∧
      (indexPulse s n).fld (FB_CNT n) = codeOf 32 ((s.fld (FB_IDXVAL_VAL n) : Int) + tickSteps s n) ∧
      (indexPulse s n).fld (FB_STAT_POS_VALID n) = 1 ∧
      (s.fld (FB_CFG_IDX_MODE n) = 2 → (indexPulse s n).fld (FB_STAT_ARMED n) = 0) ∧ (indexPulse s n).words = s.words := by
  have taken := indexTaken_kept (s := s) small
  obtain ⟨event, latched⟩ := indexTaken_shows s n
  have incremental : fbMode (indexTaken s n) n < 2 := by
    rw [fbMode, taken.spares.fld _ (by simp [latchFields]), ← fbMode, mode]
    decide
  have loaded : MeasureStep (fun k => k ∉ [(FB_CNT n).key, (FB_STAT_POS_DOUBT n).key, (FB_STAT_POS_VALID n).key]) (indexTaken s n)
      (loadCnt (indexTaken s n) n (s.fld (FB_IDXVAL_VAL n))) :=
    (MeasureStep.refl _).loadCnt small (by simp) (by simp) (by simp) _
  obtain ⟨cnt, valid⟩ := loadCnt_shows small incremental (s.fld (FB_IDXVAL_VAL n))
  rw [indexTaken_tickSteps small] at cnt
  have disarmed : MeasureStep (· ≠ (FB_STAT_ARMED n).key) (loadCnt (indexTaken s n) n (s.fld (FB_IDXVAL_VAL n))) (indexPulse s n) ∧
      (s.fld (FB_CFG_IDX_MODE n) = 2 → (indexPulse s n).fld (FB_STAT_ARMED n) = 0) := by
    rcases load with always | ⟨single, armed, earlier⟩
    · rw [indexPulse_always small on mode qualified always]
      exact ⟨.refl _, fun single => nomatch always.symm.trans single⟩
    · rw [indexPulse_armed small on mode qualified single, if_pos (by simp [armed, earlier])]
      exact ⟨(MeasureStep.refl _).putFb small (by simp), fun _ => State.fld_put_same _ _ _⟩
  obtain ⟨last, off⟩ := disarmed
  exact ⟨(last.spares.fld _ (by simp)).trans ((loaded.spares.fld _ (by simp)).trans event),
    (last.spares.fld _ (by simp)).trans ((loaded.spares.fld _ (by simp)).trans latched), (last.spares.fld _ (by simp)).trans cnt,
    (last.spares.fld _ (by simp)).trans valid, off, last.words.trans (loaded.words.trans taken.words)⟩

end

section
variable {s : State} {n : Nat}

theorem indexPulse_off (off : fbOn s n = false) : indexPulse s n = s := if_neg (by simp [off])

theorem indexPulse_unarmed (small : n < 8) (on : fbOn s n = true) (mode : fbMode s n = 0) (qualified : indexQualified s n = true)
    (single : s.fld (FB_CFG_IDX_MODE n) = 2) (unarmed : s.flag (FB_STAT_ARMED n) = false ∨ s.mtime ≤ (s.fbOf n).armAt) :
    indexPulse s n = indexTaken s n := by
  rw [indexPulse_armed small on mode qualified single, if_neg]
  rcases unarmed with off | late
  · simp [off]
  · simp [Nat.not_lt.2 late]

theorem eventLatch_off (off : fbOn s n = false) : eventLatch s n = s := if_neg (by simp [off])

theorem eventLatch_on (on : fbOn s n = true) (enabled : s.flag (FB_LAT_CFG_LAT_EVT_EN n) = true) : eventLatch s n = capture s n 0 :=
  if_pos (by simp [on, enabled])

theorem pinLatch_off (off : fbOn s n = false) (rising : Bool) : pinLatch s n rising = s := if_neg (by simp [off])

theorem pinLatch_rising (on : fbOn s n = true) (edge : s.fld (FB_LAT_CFG_LAT_EDGE n) = 1) : pinLatch s n true = capture s n 1 := by
  refine if_pos ?_
  rw [on, edge]
  rfl

theorem pinLatch_falling (edge : s.fld (FB_LAT_CFG_LAT_EDGE n) = 1) : pinLatch s n false = s := by
  refine if_neg ?_
  rw [edge, show bitAt 1 1 = false from rfl]
  simp

theorem standstill_off (off : fbOn s n = false) : standstill s n = s := if_neg (by simp [off])

theorem standstill_on (on : fbOn s n = true) (mode : fbMode s n < 3) :
    standstill s n = (s.setFb n { s.fbOf n with run := [] }).put (FB_STAT_STILL n) 1 := if_pos (by simp [on, mode])

end

/-! ### FB_CFG (R164, R165, R182) -/

/-- The fields of FB_CFG in a word. -/
def fbCfgFields (n d : Nat) : List (Fld × Nat) :=
  [(FB_CFG_EN n, bitsOf d 0 1), (FB_CFG_MODE n, bitsOf d 1 2), (FB_CFG_QMODE n, bitsOf d 3 2), (FB_CFG_FILT n, bitsOf d 5 4),
    (FB_CFG_IDX_MODE n, bitsOf d 9 2), (FB_CFG_ZQ n, bitsOf d 11 3), (FB_CFG_OWNER n, bitsOf d 14 4), (FB_CFG_REV n, bitsOf d 18 1),
    (FB_CFG_IE n, bitsOf d 19 5)]

theorem fbCfgFields_apart (n d : Nat) : (fbCfgFields n d).Pairwise fun a b => a.1.key ≠ b.1.key := by simp [fbCfgFields]

theorem rowsAt_fbCfg : ∀ n : Fin 8, rowsAt (0x60028000 + n * 0x100) = rowsFb0.take 9 := by decide +kernel

/-- A register of a block that is not locked takes a write field by field. -/
theorem writeFields_unlock {s : State} {a : Nat} {rows : List Row} (at_ : rowsAt a = rows) (d : Nat) {b : BlockErr}
    (unlocked : s.flag b.lock = false) : writeFields s b a d = (rows.foldl (fun t r => writeField t false a d r) s, .OK) := by
  unfold writeFields
  simp only [at_, unlocked, Bool.false_and, Bool.false_eq_true, if_false]

theorem writeFields_fbCfg {s : State} (n : Fin 8) (d : Nat) (unlocked : s.flag FB_LOCK = false) :
    writeFields s fbErr (0x60028000 + n * 0x100) d = (s.putAll (fbCfgFields n d), .OK) := by
  rw [writeFields_unlock (rowsAt_fbCfg n) d unlocked, Nat.mul_comm]
  rfl

theorem fbCfgFields_own (n d : Nat) : ∀ e ∈ fbCfgFields n d, fbKey n e.1.key := by simp [fbCfgFields, fbKey]

theorem MeasureStep.fbCfgFields {K : Nat → Prop} (s : State) {n : Nat} (small : n < 8) (d : Nat)
    (free : ∀ e ∈ fbCfgFields n d, ¬ K e.1.key) : MeasureStep K s (s.putAll (fbCfgFields n d)) :=
  (MeasureStep.refl s).putAllFb small (fbCfgFields_own n d) free

theorem fbCfgFields_en (s : State) (n d : Nat) : (s.putAll (fbCfgFields n d)).fld (FB_CFG_EN n) = bitsOf d 0 1 :=
  (State.fld_putAll_mem (fbCfgFields_apart n d) (.head _) s).trans (Nat.mod_mod _ _)

theorem fbCfgFields_mode (s : State) (n d : Nat) : fbMode (s.putAll (fbCfgFields n d)) n = bitsOf d 1 2 :=
  (State.fld_putAll_mem (fbCfgFields_apart n d) (.tail _ (.head _)) s).trans (Nat.mod_mod _ _)

/-- A word that FB_CFG takes: no index load, no ZQ, an owner that exists. -/
structure FbCfgInRange (d : Nat) : Prop where
  index : bitsOf d 9 5 = 0
  owner : bitsOf d 14 4 < 12

theorem FbCfgInRange.congr {m k : Nat} (fits : FbCfgInRange k) (h : m / 2 = k / 2) : FbCfgInRange m where
  index := (bitsOf_half h (by decide) 5).trans fits.index
  owner := by rw [bitsOf_half h (by decide)]; exact fits.owner

theorem FbCfgInRange.idxMode {d : Nat} (fits : FbCfgInRange d) : bitsOf d 9 2 = 0 := by
  rw [← bitsOf_bitsOf d 9 5 (lo' := 0) (by decide), fits.index]
  rfl

theorem FbCfgInRange.zq {d : Nat} (fits : FbCfgInRange d) : bitsOf d 11 3 = 0 := by
  rw [← bitsOf_bitsOf d 9 5 (lo' := 2) (by decide), fits.index]
  rfl

section
variable {s : State} {n : Fin 8} {d : Nat} (unlocked : s.flag FB_LOCK = false) (fits : FbCfgInRange d)
include unlocked fits

/-- A write with EN clear clears a running interface; the clock pin stands as MODE stands. -/
theorem fbCfg_disables (on : fbOn s n = true) (mode : bitsOf d 1 2 = fbMode s n) (qmode : bitsOf d 3 2 = s.fld (FB_CFG_QMODE n))
    (off : bitsOf d 0 1 = 0) : (fbCfg s n d).1 = fbClear (s.putAll (fbCfgFields n d)) n := by
  unfold fbCfg
  extract_lets was m z held r now level u
  have pass : r = (s.putAll (fbCfgFields n d), .OK) := by
    refine (checkedWrite_passed ?_ _ _).trans (writeFields_fbCfg n d unlocked)
    simp [firstOf_cons, firstOf_nil, fits.idxMode, fits.zq, Nat.not_le.2 fits.owner, m, z, mode, qmode, was, on]
  have cleared : now = false := by
    simp only [now, pass, fbOn, State.flag, fbCfgFields_en, off]
    rfl
  have rests : (level ≠ fbClkRest s n : Bool) = false := by
    simp only [level, fbClkRest, pass, fbCfgFields_mode, mode, ne_eq, not_true_eq_false, decide_false]
  have taken : u = s.putAll (fbCfgFields n d) := by
    simp only [u, rests, pass]
    rfl
  simp only [cleared, show was = true from on, taken, Bool.not_false, Bool.and_self, if_true]

/-- A write with EN set begins a mode 0 interface; the clock pin rests low. -/
theorem fbCfg_enables (idle : fbOn s n = false) (mode : bitsOf d 1 2 = 0) (on : bitsOf d 0 1 = 1) : (fbCfg s n d).1 =
    fbBegin ((s.putAll (fbCfgFields n d)).when (fbClkRest s n) fun s => s.emit (.fbClk n false)) n := by
  unfold fbCfg
  extract_lets was m z held r now level u
  have free : held = 0 := by simp [held, unlocked, m, mode]
  have pass : r = (s.putAll (fbCfgFields n d), .OK) := by
    refine (checkedWrite_passed ?_ _ _).trans (writeFields_fbCfg n d unlocked)
    simp [firstOf_cons, firstOf_nil, fits.idxMode, fits.zq, Nat.not_le.2 fits.owner, m, z, mode, was, idle, free]
  have set : now = true := by
    simp only [now, pass, fbOn, State.flag, fbCfgFields_en, on]
    rfl
  have low : level = false := by
    simp only [level, fbClkRest, pass, fbCfgFields_mode, mode]
    rfl
  have taken : u = (s.putAll (fbCfgFields n d)).when (fbClkRest s n) fun s => s.emit (.fbClk n false) := by
    simp only [u, low, pass]
    cases fbClkRest s n <;> rfl
  simp only [set, show was = false from idle, taken, Bool.false_and, Bool.not_false, Bool.and_self, Bool.false_eq_true, if_false, if_true]

end

theorem State.putAll_append (s : State) (l k : List (Fld × Nat)) : s.putAll (l ++ k) = (s.putAll l).putAll k := List.foldl_append

/-- The fields of latch set `k`, cleared. -/
def latchCleared (n k : Nat) : List (Fld × Nat) :=
  [(FB_L_CNT n k, 0), (FB_L_ACC n k, 0), (FB_L_TLO_T_LO n k, 0), (FB_L_THI_T_HI n k, 0), (FB_L_STAT_L_VALID n k, 0)]

/-- The fields that clearing EN clears, POS_VALID aside (R182). -/
def clearedFields (n : Nat) : List (Fld × Nat) :=
  [(FB_CNT n, 0), (FB_ACC n, 0), (FB_STAT_STILL n, 1), (FB_STAT_ARMED n, 0)] ++ (latchCleared n 0 ++ (latchCleared n 1 ++ latchCleared n 2))

theorem clearedFields_apart (n : Nat) : (clearedFields n).Pairwise fun a b => a.1.key ≠ b.1.key := by simp [clearedFields, latchCleared]

theorem fbClear_eq (s : State) (n : Nat) : fbClear s n = (posLost (s.setFb n (fbKeep s (s.fbOf n) n)) n).putAll (clearedFields n) := by
  simp only [fbClear, State.each, List.foldl_cons, List.foldl_nil, clearedFields, State.putAll_append, latchCleared]

theorem fbClear_kept {K : Nat → Prop} {s : State} {n : Nat} (small : n < 8) (valid : ¬ K (FB_STAT_POS_VALID n).key)
    (free : ∀ e ∈ clearedFields n, ¬ K e.1.key) : MeasureStep K s (fbClear s n) :=
  fbClear_eq s n ▸ (((MeasureStep.refl s).setFb _).posLost small valid).putAllFb small (by simp [clearedFields, latchCleared, fbKey]) free

theorem State.each_fixed {α : Type} {f : State → α → State} {l : List α} {s : State} (still : ∀ a ∈ l, f s a = s) : s.each l f = s := by
  induction l with
  | nil => rfl
  | cons a l ih => exact (congrArg (State.each · l f) (still a (.head l))).trans (ih fun b hb => still b (.tail a hb))

/-- While no emulator runs, the loss of a position is seen in POS_VALID alone. -/
theorem posLost_unseen {s : State} {n : Nat} (small : n < 8) (off : ∀ m : Fin 4, s.flag (FB_EMU_CFG_EN m) = false) :
    posLost s n = s.put (FB_STAT_POS_VALID n) 0 := by
  have still : ∀ m ∈ List.range 4, emuCheck (s.put (FB_STAT_POS_VALID n) 0) m = s.put (FB_STAT_POS_VALID n) 0 := fun m mem => by
    have idle : (s.put (FB_STAT_POS_VALID n) 0).flag (FB_EMU_CFG_EN m) = false := by
      rw [State.flag, State.fld_put_other _ _ _ _ (fbKey_emulator small (by simp [fbKey]) m).symm]
      exact off ⟨m, List.mem_range.1 mem⟩
    exact if_neg (by simp [idle])
  exact State.each_fixed still

theorem fbClear_shows {s : State} {n : Nat} (small : n < 8) : (fbClear s n).fld (FB_CFG_EN n) = s.fld (FB_CFG_EN n) ∧
    (fbClear s n).fld (FB_CNT n) = 0 ∧ (fbClear s n).fld (FB_ACC n) = 0 ∧ (fbClear s n).fld (FB_L_STAT_L_VALID n 0) = 0 ∧
    ((fbClear s n).fbOf n).run = [] ∧ (fbClear s n).fld (FB_STAT_POS_VALID n) = 0 := by
  have en : MeasureStep (· = (FB_CFG_EN n).key) s (fbClear s n) := fbClear_kept small (by simp) (by simp [clearedFields, latchCleared])
  rw [fbClear_eq] at en ⊢
  have fb : ((posLost (s.setFb n (fbKeep s (s.fbOf n) n)) n).putAll (clearedFields n)).fb = (s.setFb n (fbKeep s (s.fbOf n) n)).fb :=
    (State.putAll_frame (p := State.fb) (fun _ _ _ => rfl) _ _).trans (posLost_fb _ n)
  have valid := posLost_valid (s.setFb n (fbKeep s (s.fbOf n) n)) n
  generalize posLost (s.setFb n (fbKeep s (s.fbOf n) n)) n = u at en fb valid ⊢
  have write : ∀ {f : Fld} {v : Nat}, (f, v) ∈ clearedFields n → (u.putAll (clearedFields n)).fld f = v % 2 ^ f.width :=
    fun mem => State.fld_putAll_mem (clearedFields_apart n) mem u
  have spared : Spares (· = (FB_STAT_POS_VALID n).key) u (u.putAll (clearedFields n)) :=
    (Spares.refl u).putAll (by simp [clearedFields, latchCleared])
  refine ⟨en.spares.fld _ rfl, ?_, ?_, ?_, ?_, (spared.fld _ rfl).trans valid⟩
  · exact write (v := 0) (.head _)
  · exact write (v := 0) (List.mem_of_getElem? (i := 1) rfl)
  · exact write (v := 0) (List.mem_of_getElem? (i := 8) rfl)
  · rw [(State.fbOf_congr fb).trans (State.fbOf_setFb_same _ _ _)]
    rfl

theorem fbClear_unseen {s : State} {n : Nat} (small : n < 8) (off : ∀ m : Fin 4, s.flag (FB_EMU_CFG_EN m) = false) :
    (fbClear s n).out = s.out := by
  rw [fbClear_eq, posLost_unseen (s := s.setFb n _) small off]
  exact State.putAll_frame (p := State.out) (fun _ _ _ => rfl) _ _

/-- The fields that setting EN clears, POS_VALID aside (R169). -/
def begunFields (n : Nat) : List (Fld × Nat) := [(FB_STAT_FAULT n, 0), (FB_STAT_LOS n, 0), (FB_STAT_TRACK_ERR n, 0)]

theorem fbBegin_step {K : Nat → Prop} {s : State} {n : Nat} (small : n < 8) (free : ∀ e ∈ begunFields n, ¬ K e.1.key)
    (hall : ¬ K (FB_STAT_HALL_STATE n).key) : MeasureStep K (posLost (s.setFb n (fbKeep s (s.fbOf n) n)) n) (fbBegin s n) := by
  unfold fbBegin
  extract_lets u
  exact ((MeasureStep.refl u).putAllFb small (l := begunFields n) (by simp [begunFields, fbKey]) free).when fun _ h => h.putFb small hall

theorem fbBegin_shows {s : State} {n : Nat} (small : n < 8) : MeasureStep (fun _ => False) s (fbBegin s n) ∧
    (fbBegin s n).fld (FB_CFG_EN n) = s.fld (FB_CFG_EN n) ∧ (fbBegin s n).fld (FB_STAT_POS_VALID n) = 0 ∧
    (fbBegin s n).fld (FB_CNT n) = s.fld (FB_CNT n) := by
  have lost : MeasureStep (fun k => k = (FB_CFG_EN n).key ∨ k = (FB_CNT n).key) s (posLost (s.setFb n (fbKeep s (s.fbOf n) n)) n) :=
    ((MeasureStep.refl s).setFb _).posLost small (by simp)
  have begun : MeasureStep (fun k => k ∈ [(FB_CFG_EN n).key, (FB_CNT n).key, (FB_STAT_POS_VALID n).key])
      (posLost (s.setFb n (fbKeep s (s.fbOf n) n)) n) (fbBegin s n) := fbBegin_step small (by simp [begunFields]) (by simp)
  have valid := posLost_valid (s.setFb n (fbKeep s (s.fbOf n) n)) n
  have mtime := begun.spares.mtime.trans lost.spares.mtime
  exact ⟨⟨lost.watch.trans begun.watch, ⟨mtime, fun _ none => none.elim⟩, begun.words.trans lost.words⟩,
    (begun.spares.fld _ (by simp)).trans (lost.spares.fld _ (.inl rfl)), (begun.spares.fld _ (by simp)).trans valid,
    (begun.spares.fld _ (by simp)).trans (lost.spares.fld _ (.inr rfl))⟩

/-! ### Register writes of the FB_ block -/

theorem safetyOnly_fb {a : Nat} (low : 0x60028000 ≤ a) (high : a < 0x60030000) : safetyOnly a = false := by
  have block : (a - 0x60000000) / 0x8000 = 5 := by omega
  have g1 : 0x60000000 ≤ a := by omega
  have g2 : a < 0x600A8000 := by omega
  have g3 : a ≠ 0x60060400 := by omega
  have g4 : a ≠ 0x60068090 := by omega
  have g5 : a ≠ 0x60068094 := by omega
  simp [safetyOnly, blkAt, g1, g2, g3, g4, g5, block, blkOrder]

section
variable {s : State} (p : Fin 12) (n : Fin 8) (quiet : s.quiet = true) (up : s.allUp = true)
include quiet up

/-- A register write of an interface by a core pair that stays within the block. -/
theorem settle_fbWrite {a : Nat} (low : 0x60028000 ≤ a) (high : a < 0x60030000) {act : State → State × Status}
    (own : SameWatch s (act s).1) : settle s (regWr s (.pair p) a act) = (act s).1 := by
  rw [regWr_pair p a act up (by omega) (safetyOnly_fb low high), settle_quiet quiet own]

theorem exec_fbArm : exec (.fbArm (.pair p) n) s = .next ((s.setFb n { s.fbOf n with armAt := s.mtime }).put (FB_STAT_ARMED n) 1) := by
  have step : MeasureStep (fun _ => False) s (fbArm s n) := ((MeasureStep.refl s).setFb _).putFb n.isLt id
  exact congrArg Host.Outcome.next (settle_fbWrite p quiet up (by omega) (by omega) step.watch)

theorem exec_fbSet (d : Word) : exec (.fbSet (.pair p) n d) s = .next (loadCnt s n d.toNat) := by
  have step : MeasureStep (fun _ => False) s (loadCnt s n d.toNat) := (MeasureStep.refl s).loadCnt n.isLt id id id _
  exact congrArg Host.Outcome.next (settle_fbWrite p quiet up (by omega) (by omega) step.watch)

theorem exec_fbDisable (d : Word) (own : SameWatch s (fbCfg s n (clearBit d.toNat 0)).1) :
    exec (.fbDisable (.pair p) n d) s = .next (fbCfg s n (clearBit d.toNat 0)).1 :=
  congrArg Host.Outcome.next (settle_fbWrite p quiet up (by omega) (by omega) own)

theorem exec_fbEnable (d : Word) (own : SameWatch s (fbCfg s n (setBit d.toNat 0)).1) :
    exec (.fbEnable (.pair p) n d) s = .next (fbCfg s n (setBit d.toNat 0)).1 :=
  congrArg Host.Outcome.next (settle_fbWrite p quiet up (by omega) (by omega) own)

variable (d : Word) (unlocked : s.flag FB_LOCK = false) (fits : FbCfgInRange d.toNat)
include unlocked fits

theorem exec_fbDisable_shows (on : fbOn s n = true) (mode : bitsOf d.toNat 1 2 = fbMode s n)
    (qmode : bitsOf d.toNat 3 2 = s.fld (FB_CFG_QMODE n)) :
    ∃ t, exec (.fbDisable (.pair p) n d) s = .next t ∧ t.fld (FB_CFG_EN n) = 0 ∧ t.fld (FB_CNT n) = 0 ∧ t.fld (FB_ACC n) = 0 ∧
      t.fld (FB_L_STAT_L_VALID n 0) = 0 ∧ (t.fbOf n).run = [] ∧ t.fld (FB_STAT_POS_VALID n) = 0 ∧ t.words = s.words ∧
      ((∀ m : Fin 4, s.flag (FB_EMU_CFG_EN m) = false) → t.out = s.out) := by
  have half := clearBit_zero_half d.toNat
  have off : bitsOf (clearBit d.toNat 0) 0 1 = 0 := (bitsOf_zero_one _).trans (congrArg bit (testBit_clearBit _ 0))
  have ends := fbCfg_disables unlocked (fits.congr half) on ((bitsOf_half half (by decide) 2).trans mode)
    ((bitsOf_half half (by decide) 2).trans qmode) off
  have written : MeasureStep (fun k => ∃ m : Fin 4, k = (FB_EMU_CFG_EN m).key) s (s.putAll (fbCfgFields n (clearBit d.toNat 0))) :=
    .fbCfgFields s n.isLt _ fun e mem ⟨m, same⟩ => fbKey_emulator n.isLt (fbCfgFields_own n _ e mem) m same
  have cleared : MeasureStep (fun _ => False) (s.putAll (fbCfgFields n (clearBit d.toNat 0))) _ :=
    fbClear_kept n.isLt id fun _ _ => id
  obtain ⟨en, cnt, acc, latch, run, valid⟩ := fbClear_shows (s := s.putAll (fbCfgFields n (clearBit d.toNat 0))) n.isLt
  rw [← ends] at cleared
  refine ⟨_, exec_fbDisable p n quiet up d (written.watch.trans cleared.watch), ?_⟩
  rw [ends] at cleared ⊢
  refine ⟨en.trans ((fbCfgFields_en s n _).trans off), cnt, acc, latch, run, valid, cleared.words.trans written.words, fun idle => ?_⟩
  refine (fbClear_unseen n.isLt fun m => ?_).trans (State.putAll_frame (p := State.out) (fun _ _ _ => rfl) _ s)
  exact (written.spares.flag ⟨m, rfl⟩).trans (idle m)

theorem exec_fbEnable_shows (idle : fbOn s n = false) (mode : bitsOf d.toNat 1 2 = 0) :
    ∃ t, exec (.fbEnable (.pair p) n d) s = .next t ∧ t.fld (FB_CFG_EN n) = 1 ∧ t.fld (FB_STAT_POS_VALID n) = 0 ∧
      t.fld (FB_CNT n) = s.fld (FB_CNT n) ∧ t.words = s.words := by
  have half := setBit_zero_half d.toNat
  have set : bitsOf (setBit d.toNat 0) 0 1 = 1 := (bitsOf_zero_one _).trans (congrArg bit (testBit_setBit _ 0))
  have ends := fbCfg_enables unlocked (fits.congr half) idle ((bitsOf_half half (by decide) 2).trans mode) set
  have written : MeasureStep (· = (FB_CNT n).key) s (s.putAll (fbCfgFields n (setBit d.toNat 0))) :=
    .fbCfgFields s n.isLt _ (by simp [fbCfgFields])
  have en := fbCfgFields_en s n (setBit d.toNat 0)
  generalize s.putAll (fbCfgFields n (setBit d.toNat 0)) = u at ends written en
  have rests : MeasureStep (fun _ => True) u (u.when (fbClkRest s n) fun s => s.emit (.fbClk n false)) :=
    (MeasureStep.refl u).when fun _ h => h.emit _
  obtain ⟨begun, enKept, valid, cnt⟩ := fbBegin_shows (s := u.when (fbClkRest s n) fun s => s.emit (.fbClk n false)) n.isLt
  rw [← ends] at begun
  refine ⟨_, exec_fbEnable p n quiet up d (written.watch.trans (rests.watch.trans begun.watch)), ?_⟩
  rw [ends] at begun ⊢
  exact ⟨enKept.trans ((rests.spares.fld _ trivial).trans (en.trans set)), valid,
    cnt.trans ((rests.spares.fld _ trivial).trans (written.spares.fld _ rfl)), begun.words.trans (rests.words.trans written.words)⟩

end

section
variable {s : State} (n : Fin 8) (quiet : s.quiet = true)
include quiet

theorem exec_quadratureEdge_quiet (a b : Bool) : exec (.quadratureEdge n a b) s = .next (quadEdge s n a b) :=
  congrArg Host.Outcome.next (dozeWake_quiet _ quiet)

theorem exec_hallStateChange_quiet (h : BitVec 3) : exec (.hallStateChange n h) s = .next (hallChange s n h.toNat) :=
  congrArg Host.Outcome.next (dozeWake_quiet _ quiet)

theorem exec_indexPulse_quiet : exec (.indexPulse n) s = .next (indexPulse s n) := congrArg Host.Outcome.next (dozeWake_quiet _ quiet)

theorem exec_eventLatch_quiet : exec (.eventLatch n) s = .next (eventLatch s n) := congrArg Host.Outcome.next (dozeWake_quiet _ quiet)

theorem exec_pinLatch_quiet (rising : Bool) : exec (.pinLatch n rising) s = .next (pinLatch s n rising) :=
  congrArg Host.Outcome.next (dozeWake_quiet _ quiet)

end

/-- Settles O34: each change, latch and write is one branch of its operation; the count moves by `fbStep_cnt`, an index by
`indexPulse_loads`, the writes of FB_CFG by `fbCfg_disables` and `fbCfg_enables`. -/
theorem feedbackCounts : Obligations.FeedbackCounts := by
  unfold Obligations.FeedbackCounts
  intro s p n a b rising h d quiet up
  have edge := exec_quadratureEdge_quiet n quiet a b
  have hall := exec_hallStateChange_quiet n quiet h
  have index := exec_indexPulse_quiet n quiet
  refine ⟨fun off => ⟨?_, ?_, ?_, ?_, ?_⟩, fun on mode c count => ⟨_, edge, quadEdge_counts_shows n.isLt on mode count⟩,
    fun on mode illegal => ⟨_, edge, quadEdge_illegal_shows n.isLt on mode illegal⟩, fun off => ?_, fun on mode invalid => ?_,
    fun on mode known one three forward => ?_,
    fun on mode qualified load => ⟨_, index, indexPulse_loads n.isLt on mode qualified load⟩,
    fun on mode qualified single unarmed => ?_, exec_fbArm p n quiet up, fun mode => ?_, fun on enabled => ?_, fun on rises => ?_,
    fun on mode => congrArg Host.Outcome.next (standstill_on on mode),
    fun unlocked on mode qmode index owner => exec_fbDisable_shows p n quiet up d unlocked ⟨index, owner⟩ on mode qmode,
    fun unlocked idle mode index owner => exec_fbEnable_shows p n quiet up d unlocked ⟨index, owner⟩ idle mode⟩
  · rw [edge, quadEdge_off off]
  · rw [index, indexPulse_off off]
  · rw [exec_eventLatch_quiet n quiet, eventLatch_off off]
  · rw [exec_pinLatch_quiet n quiet, pinLatch_off off]
  · exact congrArg Host.Outcome.next (standstill_off off)
  · rw [hall, hallChange_off n.isLt off]
    have kept := hallNoted_kept (s := s) (h := h.toNat) n.isLt
    exact ⟨_, rfl, congrArg Feedback.hall (hallNoted_fbOf s n _), kept.spares.fld _ (by simp), kept.spares.fld _ (by simp), kept.words,
      hallNoted_out s n _⟩
  · have place : hallPlace h.toNat = none := by rcases invalid with rfl | rfl <;> rfl
    exact ⟨_, hall, hallChange_invalid_shows n.isLt on mode place⟩
  · subst three
    exact ⟨_, hall, hallChange_forward_shows n.isLt on mode known one forward⟩
  · rw [index, indexPulse_unarmed n.isLt on mode qualified single unarmed]
    have kept := (indexTaken_kept (s := s) n.isLt).spares
    exact ⟨_, rfl, (indexTaken_shows s n).1, kept.fld _ (by simp [latchFields]), kept.fld _ (by simp [latchFields])⟩
  · rw [exec_fbSet p n quiet up, loadCnt_eq n.isLt mode]
  · rw [exec_eventLatch_quiet n quiet, eventLatch_on on enabled]
    obtain ⟨latched, valid⟩ := capture_shows s n 0
    have kept : MeasureStep (· = (FB_CNT n).key) s (capture s n 0) :=
      (MeasureStep.refl s).capture n.isLt (by decide) (by simp [latchFields])
    exact ⟨_, rfl, latched, valid, kept.spares.fld _ rfl⟩
  · rw [exec_pinLatch_quiet n quiet, exec_pinLatch_quiet n quiet, pinLatch_rising on rises, pinLatch_falling rises]
    exact ⟨_, rfl, (capture_shows s n 1).1, rfl⟩

end Sys2Proof.Machine
end

section

/-! PROOFS of what the frames, the resolver, the slots and the encoder emulation bring (chapter 06). -/

namespace Sys2Proof.Machine

/-! ### SSI frames (R172, R173) -/

section
variable {s : State} {n : Nat}

theorem ssiStart_idle (idle : fbOn s n = false ∨ fbMode s n ≠ 2) (high : Bool) : ssiStart s n high = s := by
  refine if_neg ?_
  rcases idle with off | other
  · simp [off]
  · simp [other]

section
variable (on : fbOn s n = true) (mode : fbMode s n = 2) (enabled : s.flag (FB_SSI2_SSI_EVT_EN n) = true)
include on mode enabled

theorem ssiStart_overrun (busy : (s.fbOf n).ssiBusy = true) (high : Bool) : ssiStart s n high = s.inc (FB_ERRCNT_OVR_CNT n) := by
  simp [ssiStart, on, mode, enabled, busy]

variable (still : (s.fbOf n).ssiBusy = false) (free : (s.fbOf n).ssiFree ≤ s.mtime)
include still free

theorem ssiStart_low : ssiStart s n false = s := by simp [ssiStart, on, mode, enabled, still, Nat.not_lt.2 free]

theorem ssiStart_high : ssiStart s n true =
    (s.fresh.2.setFb n { s.fbOf n with ssiBusy := true, ssiTime := s.mtime + 4 + s.fresh.1 % 5 }).emit
      (.ssiClock n (2 * (s.fld (FB_SSI_CDIV n) + 1)) (s.fld (FB_SSI_FRAME_LEN n) + 1)) := by
  simp [ssiStart, on, mode, enabled, still, Nat.not_lt.2 free]

/-- A frame starts: its sample time lies 4 to 8 ticks after the event, its clock leaves. -/
theorem ssiStart_high_shows : ((ssiStart s n true).fbOf n).ssiBusy = true ∧ s.mtime + 4 ≤ ((ssiStart s n true).fbOf n).ssiTime ∧
    ((ssiStart s n true).fbOf n).ssiTime ≤ s.mtime + 8 ∧ (ssiStart s n true).regs = s.regs ∧ (ssiStart s n true).out =
      s.out ++ [.ssiClock n (2 * (s.fld (FB_SSI_CDIV n) + 1)) (s.fld (FB_SSI_FRAME_LEN n) + 1)] := by
  rw [ssiStart_high on mode enabled still free]
  generalize s.fresh.1 = v
  have own := State.fbOf_setFb_same s.fresh.2 n { s.fbOf n with ssiBusy := true, ssiTime := s.mtime + 4 + v % 5 }
  have time := congrArg Feedback.ssiTime own
  have spread : v % 5 < 5 := Nat.mod_lt _ (by decide)
  refine ⟨congrArg Feedback.ssiBusy own, ?_, ?_, rfl, rfl⟩
  · exact time ▸ (by omega : s.mtime + 4 ≤ s.mtime + 4 + v % 5)
  · exact time ▸ (by omega : s.mtime + 4 + v % 5 ≤ s.mtime + 8)

end

/-- The state after the last edge of a frame, before it is judged. -/
def ssiEnded (s : State) (n : Nat) : State :=
  s.setFb n { s.fbOf n with ssiBusy := false, ssiFree := s.mtime + 400 * s.fld (FB_SSI2_MONO n) }

theorem ssiEnd_idle (idle : (s.fbOf n).ssiBusy = false) (bits : Nat) (low : Bool) : ssiEnd s n bits low = s := if_neg (by simp [idle])

theorem ssiEnd_good (busy : (s.fbOf n).ssiBusy = true) (bits : Nat) :
    ssiEnd s n bits true = ssiGoodFrame (ssiEnded s n) n (bits % 2 ^ s.fld (FB_SSI_FRAME_LEN n)) := (if_pos busy).trans (if_pos rfl)

theorem ssiEnd_bad (busy : (s.fbOf n).ssiBusy = true) (bits : Nat) : ssiEnd s n bits false = ssiBadFrame (ssiEnded s n) n :=
  (if_pos busy).trans (if_neg Bool.false_ne_true)

/-- The fields that a good frame writes beside CNT (R173). -/
def ssiGoodFields (n bits : Nat) : List (Fld × Nat) :=
  [(FB_STAT_POS_VALID n, 1), (FB_STAT_POS_DOUBT n, 0), (FB_STAT_FAULT n, 0), (FB_SSI_RAW_LO_RAW n, bits),
    (FB_SSI_RAW_HI_RAW n, bits / 2 ^ 32)]

/-- A good frame gives CNT its position field and makes the position valid. -/
theorem ssiGoodFrame_shows (small : n < 8) (forward : s.flag (FB_CFG_REV n) = false) (plain : s.flag (FB_SSI_GRAY n) = false) (bits : Nat) :
    (ssiGoodFrame s n bits).fld (FB_CNT n) = bitsOf bits (s.fld (FB_SSI_POS_LSB n)) (s.fld (FB_SSI_POS_BITS n) + 1) % 2 ^ 32 ∧
      (ssiGoodFrame s n bits).fld (FB_STAT_POS_VALID n) = 1 ∧ (ssiGoodFrame s n bits).fld (FB_STAT_POS_DOUBT n) = 0 ∧
      (ssiGoodFrame s n bits).fld (FB_STAT_FAULT n) = 0 ∧ ((ssiGoodFrame s n bits).fbOf n).ssiBusy = (s.fbOf n).ssiBusy ∧
      (ssiGoodFrame s n bits).words = s.words := by
  unfold ssiGoodFrame
  extract_lets f w field v u stepped
  have value : v = bitsOf bits (s.fld (FB_SSI_POS_LSB n)) (s.fld (FB_SSI_POS_BITS n) + 1) := by
    simp only [v, field, forward, Bool.false_eq_true, if_false, ssiField, plain]
  have moved : MeasureStep (fun _ => False) u stepped ∧ stepped.fbHeld n = u.fbHeld n := by
    simp only [stepped]
    split
    · exact ⟨(MeasureStep.refl u).fbStep small (fun _ _ => id) _ _, fbStep_fbHeld u n _ _⟩
    · exact ⟨.refl u, rfl⟩
  obtain ⟨step, held⟩ := moved
  rw [← value]
  generalize stepped = x at step held
  have apart : (ssiGoodFields n bits).Pairwise fun a b => a.1.key ≠ b.1.key := by simp [ssiGoodFields]
  have spared : Spares (· = (FB_CNT n).key) (setCnt x n v) ((setCnt x n v).putAll (ssiGoodFields n bits)) :=
    (Spares.refl _).putAll (by simp [ssiGoodFields])
  have fb : ((setCnt x n v).putAll (ssiGoodFields n bits)).fb = (setCnt x n v).fb :=
    State.putAll_frame (p := State.fb) (fun _ _ _ => rfl) _ _
  have words : ((setCnt x n v).putAll (ssiGoodFields n bits)).words = x.words :=
    State.putAll_frame (p := State.words) (fun _ _ _ => rfl) _ (setCnt x n v)
  have kept := (State.fbHeld_congr fb).trans ((setCnt_fbHeld x n v).trans held)
  have own : u.fbOf n = _ := State.fbOf_setFb_same s n _
  have busy := congrArg Feedback.ssiBusy own
  exact ⟨(spared.fld _ rfl).trans (setCnt_cnt x n v), State.fld_putAll_mem apart (.head _) _,
    State.fld_putAll_mem apart (.tail _ (.head _)) _, State.fld_putAll_mem apart (.tail _ (.tail _ (.head _))) _,
    (congrArg Feedback.ssiBusy kept).trans busy, words.trans step.words⟩

/-- The third bad frame in a row is a fault. -/
theorem ssiBadFrame_shows (small : n < 8) (two : 2 ≤ (s.fbOf n).ssiBad) : (ssiBadFrame s n).fld (FB_STAT_FAULT n) = 1 ∧
    (ssiBadFrame s n).fld (FB_STAT_POS_VALID n) = 0 ∧ (ssiBadFrame s n).fld (FB_STAT_SSI_ERR n) = 1 ∧
    (ssiBadFrame s n).fld (FB_CNT n) = s.fld (FB_CNT n) ∧ (ssiBadFrame s n).words = s.words := by
  unfold ssiBadFrame
  extract_lets f bad u was lost
  have third : bad = 3 := Nat.min_eq_right (Nat.succ_le_succ two)
  rw [if_pos third]
  have step : MeasureStep (· = (FB_CNT n).key) s u := (((MeasureStep.refl s).setFb _).putFb small (by simp)).putFb small (by simp)
  have err : u.fld (FB_STAT_SSI_ERR n) = 1 := (State.fld_put_other _ _ _ _ (by simp)).trans (State.fld_put_same _ _ _)
  have fault : (u.put (FB_STAT_FAULT n) 1).fld (FB_STAT_FAULT n) = 1 := State.fld_put_same _ _ _
  have marked : MeasureStep (· ≠ (FB_STAT_FAULT n).key) u (u.put (FB_STAT_FAULT n) 1) := (MeasureStep.refl u).putFb small (by simp)
  have ends : MeasureStep (· ≠ (FB_STAT_POS_VALID n).key) (u.put (FB_STAT_FAULT n) 1) (lost.when (!was) fun s => fbIrq s n 1) :=
    ((MeasureStep.refl _).posLost small (by simp)).when fun _ h => h.fbIrq 1
  have valid : (lost.when (!was) fun s => fbIrq s n 1).fld (FB_STAT_POS_VALID n) = 0 :=
    (State.fld_congr (State.when_frame (p := State.regs) fun _ => fbIrq_regs _ n 1) _).trans (posLost_valid _ n)
  exact ⟨(ends.spares.fld _ (by simp)).trans fault, valid,
    (ends.spares.fld _ (by simp)).trans ((marked.spares.fld _ (by simp)).trans err),
    (ends.spares.fld _ (by simp)).trans ((marked.spares.fld _ (by simp)).trans (step.spares.fld _ rfl)),
    ends.words.trans (marked.words.trans step.words)⟩

end

/-! ### The resolver (R174) -/

section
variable {s : State} {n : Nat}

theorem resolverRequest_idle (idle : fbOn s n = false ∨ fbMode s n ≠ 3 ∨ requestDue s n = false) : resolverRequest s n = s := by
  refine if_neg ?_
  rcases idle with off | other | early
  · simp [off]
  · simp [other]
  · simp [early]

theorem resolverRequest_due (on : fbOn s n = true) (mode : fbMode s n = 3) (due : requestDue s n = true) : resolverRequest s n =
    adcUrgent (adcUrgent (s.setFb n { s.fbOf n with req := some s.mtime }) (s.fld (FB_RSL_SIN_ADC n))) (s.fld (FB_RSL_COS_ADC n)) :=
  if_pos (by simp [on, mode, due])

theorem resolverUpdate_none (calm : (s.fbOf n).req = none) : resolverUpdate s n = s := by
  unfold resolverUpdate
  rw [calm]

/-- The later of the two sample times of a request. -/
def resolverTime (s : State) (n : Nat) : Nat :=
  max (mirrorTime s (adcMirror (s.fld (FB_RSL_SIN_ADC n)) 16)) (mirrorTime s (adcMirror (s.fld (FB_RSL_COS_ADC n)) 16))

/-- The signed codes of the two converters. -/
def resolverSin (s : State) (n : Nat) : Int :=
  (s.fld (RES_RAW (adcMirror (s.fld (FB_RSL_SIN_ADC n)) 16)) : Int) - s.fld (ADC_URG_CFG_ZERO (s.fld (FB_RSL_SIN_ADC n)))

def resolverCos (s : State) (n : Nat) : Int :=
  (s.fld (RES_RAW (adcMirror (s.fld (FB_RSL_COS_ADC n)) 16)) : Int) - s.fld (ADC_URG_CFG_ZERO (s.fld (FB_RSL_COS_ADC n)))

/-- A request whose two conversions are in is judged by their sample time. -/
theorem resolverUpdate_done {r : Nat} (on : fbOn s n = true) (mode : fbMode s n = 3) (req : (s.fbOf n).req = some r)
    (sin : urgentDone s (s.fld (FB_RSL_SIN_ADC n)) r = true) (cos : urgentDone s (s.fld (FB_RSL_COS_ADC n)) r = true) :
    resolverUpdate s n =
      if r + 800 < resolverTime s n then (s.setFb n { s.fbOf n with req := none }).inc (FB_ERRCNT_OVR_CNT n)
      else loopUpdate (s.setFb n { s.fbOf n with req := none }) n (resolverSin s n) (resolverCos s n) (resolverTime s n) := by
  unfold resolverUpdate
  extract_lets a b
  have done : (!(fbOn s n && fbMode s n = 3 && urgentDone s a r && urgentDone s b r)) = false := by simp [on, mode, a, b, sin, cos]
  simp only [req, done, Bool.false_eq_true, if_false]
  rfl

/-- The amplitude of an update lies out of its bounds (R174). -/
def amplitudeLost (sn cs amp : Int) : Bool := 4 * (sn * sn + cs * cs) < amp * amp || 9 * amp * amp < 4 * (sn * sn + cs * cs)

/-- The end of an update: the count moves, a new fault is told, STILL and DIR follow the speed (R174). -/
def loopCounted (s : State) (n : Nat) (step omega : Int) (fault : Bool) : State :=
  let counted := (accStep (setCnt s n (codeOf 32 ((s.fld (FB_CNT n) : Int) + step))) n step).when fault fun s => fbIrq s n 1
  let still := counted.putFlag (FB_STAT_STILL n) (omega = 0)
  if (2 : Int) ^ 16 < omega then still.putFlag (FB_STAT_DIR n) false
  else if omega < -(2 : Int) ^ 16 then still.putFlag (FB_STAT_DIR n) true else still

theorem loopCounted_kept (small : n < 8) (step omega : Int) (fault : Bool) :
    MeasureStep (fun k => k ∈ [(FB_STAT_LOS n).key, (FB_STAT_FAULT n).key, (FB_STAT_POS_VALID n).key]) s
      (loopCounted s n step omega fault) := by
  unfold loopCounted
  extract_lets counted still
  have stood : MeasureStep (fun k => k ∈ [(FB_STAT_LOS n).key, (FB_STAT_FAULT n).key, (FB_STAT_POS_VALID n).key]) s still :=
    ((((MeasureStep.refl s).setCnt small (by simp) _).accStep small (by simp) (by simp) step).when fun _ h => h.fbIrq 1).putFb
      small (by simp)
  exact .ite (stood.putFb small (by simp)) (.ite (stood.putFb small (by simp)) stood)

theorem loopCounted_fbHeld (s : State) (n : Nat) (step omega : Int) (fault : Bool) :
    (loopCounted s n step omega fault).fbHeld n = s.fbHeld n := by
  unfold loopCounted
  extract_lets counted still
  have told : counted.fb = (accStep (setCnt s n (codeOf 32 ((s.fld (FB_CNT n) : Int) + step))) n step).fb :=
    State.when_frame (p := State.fb) fun _ => fbIrq_fb _ n 1
  have held := (State.fbHeld_congr (told.trans (accStep_fb _ n step))).trans (setCnt_fbHeld s n _)
  split_ifs <;> exact held

/-- An update judges LOS by the amplitude; a lost signal is a fault and takes the position's validity away. -/
theorem loopUpdate_shows (small : n < 8) (sn cs : Int) (time : Nat) :
    ((loopUpdate s n sn cs time).fbOf n).req = (s.fbOf n).req ∧ ((loopUpdate s n sn cs time).fbOf n).posTime = time ∧
      (loopUpdate s n sn cs time).fld (FB_STAT_LOS n) = bit (amplitudeLost sn cs (s.fld (FB_RSL2_AMP_NOM n))) ∧
      ((loopUpdate s n sn cs time).fld (FB_STAT_LOS n) = 1 → (loopUpdate s n sn cs time).fld (FB_STAT_FAULT n) = 1 ∧
        (loopUpdate s n sn cs time).fld (FB_STAT_POS_VALID n) = 0) ∧ (loopUpdate s n sn cs time).words = s.words := by
  unfold loopUpdate
  extract_lets f taken u amp a2 los err e v omega theta step wide narrow terr bad good was w judged valid counted summed sent still
  have ends : (if (2 : Int) ^ 16 < omega then still.putFlag (FB_STAT_DIR n) false
    else if omega < -(2 : Int) ^ 16 then still.putFlag (FB_STAT_DIR n) true else still) =
      loopCounted valid n step omega (bad && !was) := rfl
  rw [ends]
  have own : w.fbOf n = _ := State.fbOf_setFb_same v n _
  have req := congrArg Feedback.req own
  have posTime := congrArg Feedback.posTime own
  have free : v.words = s.words := by
    simp only [v]
    split <;> rfl
  have write : ∀ {g : Fld} {x : Nat}, (g, x) ∈ [(FB_STAT_LOS n, bit los), (FB_STAT_TRACK_ERR n, bit terr), (FB_STAT_FAULT n, bit bad)] →
      judged.fld g = x % 2 ^ g.width := fun mem => State.fld_putAll_mem (by simp) mem w
  have flagged : judged.fld (FB_STAT_LOS n) = bit los := (write (.head _)).trans (bit_mod_two los)
  have fault : judged.fld (FB_STAT_FAULT n) = bit bad := (write (.tail _ (.tail _ (.head _)))).trans (bit_mod_two bad)
  have words : judged.words = s.words := (State.putAll_frame (p := State.words) (fun _ _ _ => rfl) _ w).trans free
  have fb : valid.fb = w.fb := by
    have beside : judged.fb = w.fb := State.putAll_frame (p := State.fb) (fun _ _ _ => rfl) _ w
    refine Eq.trans ?_ beside
    simp only [valid]
    split
    · rfl
    · exact posLost_fb judged n
  have shown : MeasureStep (· ≠ (FB_STAT_POS_VALID n).key) judged valid :=
    .ite ((MeasureStep.refl judged).putFb small (by simp)) ((MeasureStep.refl judged).posLost small (by simp))
  have invalid : los = true → valid.fld (FB_STAT_POS_VALID n) = 0 := fun lost => by
    have restarts : good = 0 := if_pos (by simp [bad, lost])
    simp only [valid, restarts]
    exact posLost_valid judged n
  clear_value judged
  have tail := loopCounted_kept (s := valid) small step omega (bad && !was)
  have held := (loopCounted_fbHeld valid n step omega (bad && !was)).trans (State.fbHeld_congr fb)
  generalize loopCounted valid n step omega (bad && !was) = t at tail held ⊢
  have judgedLos : t.fld (FB_STAT_LOS n) = bit los := (tail.spares.fld _ (by simp)).trans ((shown.spares.fld _ (by simp)).trans flagged)
  refine ⟨(congrArg Feedback.req held).trans req, (congrArg Feedback.posTime held).trans posTime, judgedLos, fun lost => ?_,
    tail.words.trans (shown.words.trans words)⟩
  have lost : los = true := by
    cases h : los with
    | false => rw [judgedLos, h] at lost; exact nomatch lost
    | true => rfl
  refine ⟨(tail.spares.fld _ (by simp)).trans ((shown.spares.fld _ (by simp)).trans (fault.trans ?_)),
    (tail.spares.fld _ (by simp)).trans (invalid lost)⟩
  simp [bad, lost, bit]

end

/-! ### Slots (R178) -/

/-- The mantissa of an angle is exact where CPR is a power of two that 2^36 holds. -/
theorem angleMantissa_exact {j : Nat} (small : j ≤ 36) (a err : Nat) : angleMantissa a (2 ^ j) err = (a : Int) * 2 ^ 36 / 2 ^ j := by
  have least : max 1 (2 ^ j) = 2 ^ j := Nat.max_eq_right Nat.one_le_two_pow
  have scale : (2 : Int) ^ 36 = 2 ^ (36 - j) * 2 ^ j := by rw [← pow_add]; congr 1; omega
  have reciprocal : eitherWay (2 ^ (39 + j)) ((2 : Int) ^ j) err = 2 ^ 39 := eitherWay_exact _ (by positivity) (pow_add _ _ _) err
  unfold angleMantissa
  dsimp only
  rw [log2Up_two_pow, least]
  simp only [Nat.cast_mul, Nat.cast_pow, Nat.cast_ofNat]
  rw [reciprocal, scale, ← mul_assoc, Int.mul_ediv_cancel _ (by positivity)]
  refine eitherWay_exact _ (by positivity) ?_ _
  rw [pow_add]
  ring

section
variable {s : State} {n : Nat}

theorem fbSlot_off (off : fbOn s n = false ∨ s.flag (FB_SLOT_SLOT_EN n) = false) (ago : Nat) : fbSlot s n ago = s := by
  refine if_neg ?_
  rcases off with idle | slotless
  · simp [idle]
  · simp [slotless]

/-- The count that a slot write takes, `ago` ticks after its event. -/
def slotCount (s : State) (n ago : Nat) : Nat := if fbMode s n < 2 then cntBefore s n (s.mtime - ago + 1) else s.fld (FB_CNT n)

/-- A slot write of a running interface writes the two slots at its destination, or nothing. -/
theorem fbSlot_on (on : fbOn s n = true) (enabled : s.flag (FB_SLOT_SLOT_EN n) = true) (ago : Nat) : ∃ pos spd : Sample,
    pos.m = BitVec.ofInt 36 (angleMantissa (angleCount s n (slotCount s n ago)) (s.fld (FB_CPR n)) s.fresh.1) ∧
    fbSlot s n ago = if bitAt (s.fld (FB_SLOT_DST n)) 0 then
      writeSlot (writeSlot s.fresh.2 (bitsOf (s.fld (FB_SLOT_DST n)) 1 5) (bitsOf (s.fld (FB_SLOT_DST n)) 6 12) pos)
        (bitsOf (s.fld (FB_SLOT_DST n)) 1 5) (bitsOf (s.fld (FB_SLOT_DST n)) 6 12 + 2) spd
      else s.fresh.2 := by
  unfold fbSlot
  rw [if_pos (by simp [on, enabled])]
  extract_lets fr u at0 m t flt ev q v lim dst eng adr pos spd
  exact ⟨pos, spd, rfl, rfl⟩

theorem writeSlot_word_other (s : State) {a engine addr : Nat} (x : Sample) (first : a ≠ dataAddr engine addr)
    (second : a ≠ dataAddr engine (addr + 1)) : (writeSlot s engine addr x).word a = s.word a := by
  rw [writeSlot, State.word_setWord_other _ second, State.word_setWord_other _ first]

theorem writeSlot_word_first (s : State) (engine addr : Nat) (x : Sample) :
    (writeSlot s engine addr x).word (dataAddr engine addr) = x.m := by
  have next : dataAddr engine addr ≠ dataAddr engine (addr + 1) := by simp only [dataAddr]; omega
  rw [writeSlot, State.word_setWord_other _ next, State.word_setWord_same]

theorem writeSlot_out (s : State) (engine addr : Nat) (x : Sample) : (writeSlot s engine addr x).out = s.out := by
  rw [writeSlot, State.setWord_out, State.setWord_out]

theorem fbSlot_shows (on : fbOn s n = true) (enabled : s.flag (FB_SLOT_SLOT_EN n) = true) (ago : Nat) {eng adr : Nat}
    (engine : eng = bitsOf (s.fld (FB_SLOT_DST n)) 1 5) (address : adr = bitsOf (s.fld (FB_SLOT_DST n)) 6 12) :
    (fbSlot s n ago).regs = s.regs ∧ (fbSlot s n ago).out = s.out ∧
      (∀ a, (∀ i < 4, a ≠ dataAddr eng (adr + i)) → (fbSlot s n ago).word a = s.word a) ∧
      ∀ j : Nat, bitAt (s.fld (FB_SLOT_DST n)) 0 = true → s.fld (FB_CPR n) = 2 ^ j → (fbSlot s n ago).word (dataAddr eng adr) =
        BitVec.ofInt 36 ((angleCount s n (slotCount s n ago) : Int) * 2 ^ 36 / 2 ^ j) := by
  obtain ⟨pos, spd, mantissa, ends⟩ := fbSlot_on on enabled ago
  rw [ends, ← engine, ← address]
  cases written : bitAt (s.fld (FB_SLOT_DST n)) 0 with
  | false => exact ⟨rfl, rfl, fun _ _ => rfl, fun _ impossible => nomatch impossible⟩
  | true =>
    rw [if_pos rfl]
    refine ⟨?_, ?_, fun a other => ?_, fun j _ power => ?_⟩
    · exact (writeSlot_frame _ eng (adr + 2) spd).1.trans (writeSlot_frame _ eng adr pos).1
    · exact (writeSlot_out _ eng (adr + 2) spd).trans (writeSlot_out _ eng adr pos)
    · exact (writeSlot_word_other _ spd (other 2 (by decide)) (other 3 (by decide))).trans
        (writeSlot_word_other _ pos (other 0 (by decide)) (other 1 (by decide)))
    · have apart : ∀ i, dataAddr eng adr ≠ dataAddr eng (adr + 2 + i) := fun i => by simp only [dataAddr]; omega
      have bound : j ≤ 36 := by
        have cpr : 2 ^ j < 2 ^ 32 := power ▸ State.fld_lt s (FB_CPR n)
        exact ((Nat.pow_lt_pow_iff_right (by decide)).1 cpr).le.trans (by decide)
      rw [writeSlot_word_other _ spd (apart 0) (apart 1), writeSlot_word_first, mantissa, power, angleMantissa_exact bound]

end

/-! ### Reads of FB_CNT (R179) -/

theorem rowsAt_fbCnt : ∀ n : Fin 8, rowsAt (0x60028014 + 0x100 * n) = [⟨.fb, 0x60028014, [(8, 0x100)], 0, 32, .ro, 0, .zero, false⟩] := by
  decide +kernel

section
variable (s : State) (n : Fin 8)

theorem fbLive_shows : (fbLive s n).fld (FB_STAT_STALE n) = bit (fbStale s n) ∧ (fbLive s n).fld (FB_CNT n) = s.fld (FB_CNT n) ∧
    (fbLive s n).words = s.words := by
  unfold fbLive
  extract_lets t
  have apart : [(FB_STAT_STALE n, bit (fbStale s n)), (FB_STAT_STILL n, bit (s.flag (FB_STAT_STILL n) || runOver s n)),
      (FB_PTLO_T_LO n, t), (FB_PTHI_T_HI n, t / 2 ^ 32), (FB_SPD n, spdReg s n s.mtime)].Pairwise fun a b => a.1.key ≠ b.1.key := by simp
  have spared : Spares (· = (FB_CNT n).key) s (s.putAll [(FB_STAT_STALE n, bit (fbStale s n)),
      (FB_STAT_STILL n, bit (s.flag (FB_STAT_STILL n) || runOver s n)), (FB_PTLO_T_LO n, t), (FB_PTHI_T_HI n, t / 2 ^ 32),
      (FB_SPD n, spdReg s n s.mtime)]) := (Spares.refl s).putAll (by simp)
  exact ⟨(State.fld_putAll_mem apart (.head _) s).trans (bit_mod_two _), spared.fld _ rfl,
    State.putAll_frame (p := State.words) (fun _ _ _ => rfl) _ s⟩

/-- The latch that a read takes holds no register. -/
theorem fbCntRead_frame (r : Requester) : (fbCntRead s r n).regs = (fbLive s n).regs ∧ (fbCntRead s r n).words = (fbLive s n).words := by
  unfold fbCntRead
  extract_lets t u l
  exact ⟨rfl, rfl⟩

/-- FB_CNT reads as the field that it holds. -/
theorem regValue_fbCnt : regValue s (0x60028014 + 0x100 * n) = s.fld (FB_CNT n) := by
  have place : 0x60028014 ≤ 0x60028014 + 0x100 * n.val ∧ 0x60028014 + 0x100 * n.val < 0x60028800 := by omega
  have rows := rowsAt_fbCnt n
  have own : FB_CNT n = ⟨0x60028014 + 0x100 * n, 0, 32, 0⟩ := rfl
  rw [own]
  generalize 0x60028014 + 0x100 * n.val = a at place rows
  have fitted : unfittedAt s a = false := by
    have g1 : ¬ a < 0x60001900 := by omega
    have g2 : ¬ a < 0x60009800 := by omega
    have g3 : ¬ a < 0x60010300 := by omega
    simp [unfittedAt, g1, g2, g3]
  have plain : overlay s a = [] := by
    have g1 : ¬ a < 0x60001900 := by omega
    have g2 : ¬ 0x60030000 ≤ a := by omega
    have g3 : ¬ 0x60038000 ≤ a := by omega
    have g4 : ¬ 0x60058100 ≤ a := by omega
    have g5 : a ≠ 0x60058288 ∧ a ≠ 0x6005828C ∧ a ≠ 0x60068094 ∧ a ≠ 0x60007F00 ∧ a ≠ 0x60007F04 ∧ a ≠ 0x60098000 ∧
      a ≠ 0x600A0000 := by omega
    simp [overlay, g1, g2, g3, g4, g5]
  simp only [regValue, fitted, plain, readFields, rows, List.filter_nil, List.foldl_cons, List.foldl_nil, Bool.false_eq_true, if_false]
  simp [Row.fld, State.putAll]

/-- A core pair's read of FB_CNT. -/
theorem busRead_fbCnt (p : Fin 12) (up : s.allUp = true) : busRead s (.pair p) 4 (0x60028014 + 0x100 * n) =
    ({ fbCntRead s (.pair p) n with out := s.out }, some (s.fld (FB_CNT n))) := by
  have value : regValue (fbCntRead s (.pair p) n) (0x60028014 + 0x100 * n) = s.fld (FB_CNT n) :=
    (regValue_fbCnt _ n).trans ((State.fld_congr (fbCntRead_frame s n (.pair p)).1 _).trans (fbLive_shows s n).2.1)
  have rows := rowsAt_fbCnt n
  have place : 0x60028014 ≤ 0x60028014 + 0x100 * n.val ∧ 0x60028014 + 0x100 * n.val < 0x60028800 ∧
      (0x60028014 + 0x100 * n.val) % 0x100 = 0x14 ∧ (0x60028014 + 0x100 * n.val - 0x60028000) / 0x100 = n := by omega
  generalize 0x60028014 + 0x100 * n.val = a at value rows place ⊢
  obtain ⟨low, high, offset, index⟩ := place
  have touched : touch s a = s := touch_allUp a up
  have open_ : bankShut s a = false := bankShut_allUp up (by omega)
  have g1 : ¬ a + 4 ≤ 0x40000 := by omega
  have g2 : ¬ a + 4 ≤ 0x10C00000 := by omega
  have g3 : ¬ 0x70000000 ≤ a := by omega
  have g4 : inFjopBuf a = false := by
    simp only [inFjopBuf, Bool.and_eq_false_iff, decide_eq_false_iff_not]
    omega
  have g5 : a % 4 = 0 := by omega
  have unmirrored : ∀ b, 0x60028000 ≤ b → mirrorFresh s b = none := fun b above => by
    have m1 : ¬ b < 0x6001E000 := by omega
    have m2 : ¬ b < 0x6001F400 := by omega
    have m3 : ¬ b < 0x60021300 := by omega
    simp [mirrorFresh, m1, m2, m3]
  have noRecord : mirrorOf s a = none := by simp [mirrorOf, unmirrored (a - a % 0x20) (by omega)]
  have noWord : isWord s (a - a % 8) = false := by
    have w1 : ¬ a - a % 8 < 0x40400000 := by omega
    have w2 : ¬ a - a % 8 < 0x50400000 := by omega
    have w3 : ¬ 0x60038000 ≤ a - a % 8 := by omega
    simp [isWord, wordMem, wordTrc, w1, w2, w3, unmirrored (a - a % 8) (by omega)]
  have listed : (rowsAt a).isEmpty = false := by rw [rows]; rfl
  have g6 : a ≠ 0x60007F00 ∧ a ≠ 0x60007F04 ∧ 0x60028000 ≤ a := by omega
  simp only [busRead, touched, open_, noRecord, noWord, listed, g1, g2, g3, g4, g5, g6, high, offset, index, value]
  simp

theorem exec_fbCntRead_shows (p : Fin 12) (up : s.allUp = true) : ∃ t, exec (.fbCntRead (.pair p) n) s = .next t ∧ t.words = s.words ∧
    t.out = s.out ++ [.data (.pair p) (0x60028014 + 0x100 * n.val) (s.fld (FB_CNT n))] ∧ t.fld (FB_STAT_STALE n) = bit (fbStale s n) := by
  obtain ⟨stale, -, words⟩ := fbLive_shows s n
  obtain ⟨regs, latchWords⟩ := fbCntRead_frame s n (.pair p)
  have read := readOut_data (r := .pair p) (fun host => nomatch host) (busRead_fbCnt s n p up)
  generalize fbCntRead s (.pair p) n = u at regs latchWords read
  exact ⟨_, congrArg Host.Outcome.next read, latchWords.trans words, rfl, (State.fld_congr regs _).trans stale⟩

end

/-! ### Encoder emulation (R180) -/

section
variable {s : State} {m : Nat}

theorem emulatorEdge_off (off : s.flag (FB_EMU_CFG_EN m) = false) : emulatorEdge s m = s := if_neg (by simp [off])

section
variable (on : s.flag (FB_EMU_CFG_EN m) = true)
include on

theorem emulatorEdge_invalid (invalid : s.flag (FB_STAT_POS_VALID (s.fld (FB_EMU_CFG_SRC m))) = false) :
    emulatorEdge s m = emuCheck s m := by simp [emulatorEdge, on, invalid]

/-- One edge toward a target ahead, 100 ns or more after the last one. -/
theorem emulatorEdge_forward (valid : s.flag (FB_STAT_POS_VALID (s.fld (FB_EMU_CFG_SRC m))) = true) (synced : (s.emuOf m).valid = true)
    (ahead : 0 < edgesTo (4 * s.fld (FB_EMU_CFG_LINES m)) (s.emuOf m).count (emuTarget s m))
    (spaced : ∀ last, (s.emuOf m).last = some last → last + 40 ≤ s.mtime) :
    ((emulatorEdge s m).emuOf m).count = ((s.emuOf m).count + 1) % max 1 (4 * s.fld (FB_EMU_CFG_LINES m)) ∧
      (emulatorEdge s m).words = s.words := by
  unfold emulatorEdge
  rw [if_pos on]
  extract_lets src e full c d u moved
  have pending : ¬ (d = 0 || e.last.any (fun t => decide (u.mtime < t + 40))) = true := by
    have time : u.mtime = s.mtime := State.putAll_frame (p := State.mtime) (fun _ _ _ => rfl) _ s
    have far : e.last.any (fun t => decide (u.mtime < t + 40)) = false := by
      rw [time]
      cases last : e.last with
      | none => rfl
      | some t => exact decide_eq_false (Nat.not_lt.2 (spaced t last))
    have moving : d ≠ 0 := ne_of_gt ahead
    simp [far, moving]
  have next : moved = (e.count + 1) % max 1 full := if_pos ahead
  have words : u.words = s.words := State.putAll_frame (p := State.words) (fun _ _ _ => rfl) _ s
  rw [if_neg (by simp [src, valid]), if_neg (by simp [e, synced]), if_neg pending]
  exact ⟨(congrArg Emu.count (Tbl.get_set_same _ _ _ _)).trans next, words⟩

end

end

section
variable {s : State} (n : Fin 8) (quiet : s.quiet = true)
include quiet

theorem exec_ssiFrameEnd_quiet (bits : BitVec 48) (low : Bool) : exec (.ssiFrameEnd n bits low) s = .next (ssiEnd s n bits.toNat low) :=
  congrArg Host.Outcome.next (dozeWake_quiet _ quiet)

theorem exec_resolverUpdate_quiet : exec (.resolverUpdate n) s = .next (resolverUpdate s n) :=
  congrArg Host.Outcome.next (dozeWake_quiet _ quiet)

end

/-- Settles O35: an SSI frame by `ssiStart_high_shows`, `ssiGoodFrame_shows` and `ssiBadFrame_shows`, an update of the resolver by
`loopUpdate_shows`, a slot by `fbSlot_shows` and the exact mantissa, a read by `busRead_fbCnt`, an emulated edge by
`emulatorEdge_forward`. -/
theorem feedbackFramesAndSlots : Obligations.FeedbackFramesAndSlots := by
  unfold Obligations.FeedbackFramesAndSlots
  intro s n m hi lowOk bits ago quiet
  have frame := exec_ssiFrameEnd_quiet n quiet bits
  have update := exec_resolverUpdate_quiet n quiet
  refine ⟨fun on mode enabled busy => congrArg Host.Outcome.next (ssiStart_overrun on mode enabled busy hi),
    fun on mode enabled still free => ⟨congrArg Host.Outcome.next (ssiStart_low on mode enabled still free), _, rfl,
      ssiStart_high_shows on mode enabled still free⟩,
    fun idle => congrArg Host.Outcome.next (ssiStart_idle idle hi), fun idle => ?_, fun busy forward plain => ?_, fun busy two => ?_,
    fun on mode due => congrArg Host.Outcome.next (resolverRequest_due on mode due),
    fun idle => congrArg Host.Outcome.next (resolverRequest_idle idle), fun calm => ?_,
    fun r time sn cs amp on mode req sin cos timeIs sinIs cosIs ampIs => ?_,
    fun off => congrArg Host.Outcome.next (fbSlot_off off ago), fun eng adr on enabled engine address => ?_,
    fun p up => exec_fbCntRead_shows s n p up, fun off => congrArg Host.Outcome.next (emulatorEdge_off off),
    fun on invalid => congrArg Host.Outcome.next (emulatorEdge_invalid on invalid),
    fun on valid synced ahead spaced => ⟨_, rfl, emulatorEdge_forward on valid synced ahead spaced⟩⟩
  · rw [frame, ssiEnd_idle idle]
  · rw [frame, ssiEnd_good busy]
    obtain ⟨cnt, valid, doubt, fault, stopped, words⟩ := ssiGoodFrame_shows (s := ssiEnded s n) n.isLt forward plain
      (bits.toNat % 2 ^ s.fld (FB_SSI_FRAME_LEN n))
    exact ⟨_, rfl, cnt, valid, doubt, fault, stopped.trans (congrArg Feedback.ssiBusy (State.fbOf_setFb_same _ _ _)), words⟩
  · rw [frame, ssiEnd_bad busy]
    have third : 2 ≤ ((ssiEnded s n).fbOf n).ssiBad := by rw [ssiEnded, State.fbOf_setFb_same]; exact two
    exact ⟨_, rfl, ssiBadFrame_shows n.isLt third⟩
  · rw [update, resolverUpdate_none calm]
  · rw [update, resolverUpdate_done on mode req sin cos, show resolverTime s n = time from timeIs.symm,
      show resolverSin s n = sn from sinIs.symm, show resolverCos s n = cs from cosIs.symm]
    refine ⟨fun late => by rw [if_pos late], fun prompt => ?_⟩
    rw [if_neg (Nat.not_lt.2 prompt)]
    obtain ⟨kept, sampled, los, fault, words⟩ :=
      loopUpdate_shows (s := s.setFb n { s.fbOf n with req := none }) n.isLt sn cs time
    exact ⟨_, rfl, kept.trans (congrArg Feedback.req (State.fbOf_setFb_same s n _)), sampled, los.trans (by rw [ampIs]; rfl), fault, words⟩
  · obtain ⟨regs, out, others, angle⟩ := fbSlot_shows on enabled ago engine address
    exact ⟨_, rfl, regs, out, others, fun j cnt written power count => count ▸ angle j written power⟩

end Sys2Proof.Machine
end

section

/-! SUPPORT of the instructions of a loop engine (chapter 07): the state in which the meaning of an instruction acts, what it leaves alone
outside its engine, and what the named writes of an engine change within it. -/

namespace Sys2Proof.Machine

/-! ### What stands above the engines' registers -/

/-- A step that leaves the registers above the engines' own, the waits and the calls for a start alone stirs no other block. -/
theorem SameWatch.of_high {s t : State} (fld : ∀ f : Fld, 0x60000000 * 32 ≤ f.key → t.fld f = s.fld f) (waits : t.waits = s.waits)
    (calls : called t = called s) : SameWatch s t where
  grp g _ := (fld _ (by simp only [Fld.key, PWM_GRP_STAT_STATE]; omega)).symm
  mode := (fld _ (by decide)).symm
  changing := (fld _ (by decide)).symm
  legs n _ := (fld _ (by simp only [Fld.key, PWM_LEG_CFG_GROUP]; omega)).symm
  gs l _ := (fld _ (by simp only [Fld.key, GS_STAT_FAULT]; omega)).symm
  hs k _ := (fld _ (by simp only [Fld.key, LD_STAT_FAULT_HS]; omega)).symm
  ls k _ := (fld _ (by simp only [Fld.key, LD_STAT_FAULT_LS]; omega)).symm
  starts := calls.symm
  stops := by simp only [stopsWait, waits]

/-! ### The state of an engine -/

section
variable (s : State) (e : Nat) (x : Eng) (f : Fld) (v : Nat)

@[simp] theorem State.engOf_setEng_same : (s.setEng e x).engOf e = x := Tbl.get_set_same _ _ _ _
theorem State.engOf_setEng_other {k : Nat} (other : k ≠ e) : (s.setEng e x).engOf k = s.engOf k := Tbl.get_set_other _ _ _ other _
@[simp] theorem State.fld_setWord (g : Fld) (a : Nat) (w : Word36) : (s.setWord a w).fld g = s.fld g := rfl
theorem State.word_congr {s t : State} (words : t.words = s.words) (a : Nat) : t.word a = s.word a := by simp only [State.word, words]

end

/-- Where a run of an engine stands: pc, charged cycles, open loops. -/
def Eng.course (x : Eng) : Nat × Nat × List (Nat × Nat × Nat) := (x.pc, x.cycles, x.loops)

section
variable (x : Eng) (d r : Nat)

theorem Eng.mant_setM (w : BitVec 36) : (x.setM d w).mant r = if r = d then w.toInt else x.mant r := by
  unfold Eng.mant Eng.setM
  split
  next same => rw [same, Tbl.get_set_same]
  next other => rw [Tbl.get_set_other _ _ _ other]

theorem Eng.accu_setA (w : BitVec 80) : (x.setA d w).accu r = if r = d then w.toInt else x.accu r := by
  unfold Eng.accu Eng.setA
  split
  next same => rw [same, Tbl.get_set_same]
  next other => rw [Tbl.get_set_other _ _ _ other]

theorem Eng.ptr_setP_same (v : Nat) : (x.setP d v).ptr d = v % 4096 := by
  simp [Eng.ptr, Eng.setP]

end

/-! ### Values of registers (R194, R195) -/

theorem satM_range (v : Int) : minM ≤ satM v ∧ satM v ≤ maxM := by simp only [satM, clampInt, minM, maxM]; omega

theorem satA_range (v : Int) : minA ≤ satA v ∧ satA v ≤ maxA := by simp only [satA, clampInt, minA, maxA]; omega

theorem satM_eq {v : Int} (low : minM ≤ v) (high : v ≤ maxM) : satM v = v := by simp only [satM, clampInt]; omega

theorem satA_eq {v : Int} (low : minA ≤ v) (high : v ≤ maxA) : satA v = v := by simp only [satA, clampInt]; omega

/-- A value in the range of a mantissa is the value of the mantissa it is written as. -/
theorem toInt_ofInt_mantissa {v : Int} (low : minM ≤ v) (high : v ≤ maxM) : (BitVec.ofInt 36 v).toInt = v := by
  rw [BitVec.toInt_ofInt]
  exact Int.bmod_eq_of_le (by simp only [minM] at low; omega) (by simp only [maxM] at high; omega)

theorem toInt_ofInt_accumulator {v : Int} (low : minA ≤ v) (high : v ≤ maxA) : (BitVec.ofInt 80 v).toInt = v := by
  rw [BitVec.toInt_ofInt]
  exact Int.bmod_eq_of_le (by simp only [minA] at low; omega) (by simp only [maxA] at high; omega)

theorem Eng.mant_range (x : Eng) (r : Nat) : minM ≤ x.mant r ∧ x.mant r ≤ maxM := by
  have low := BitVec.le_toInt (Tbl.get 0 x.m r)
  have high := BitVec.toInt_lt (x := Tbl.get 0 x.m r)
  simp only [Eng.mant, minM, maxM]
  omega

theorem satM_zero : satM 0 = 0 := by decide

theorem satM_mant (x : Eng) (r : Nat) : satM (x.mant r) = x.mant r := satM_eq (x.mant_range r).1 (x.mant_range r).2

/-! ### What an instruction leaves alone -/

/-- What is neither a register, an engine nor a word: what no instruction reaches. -/
def State.besideEngines (s : State) : Mem × List Out × Tbl Grp × List (WaitOn × CmdRef) × Bool :=
  (s.bytes, s.out, s.grp, s.waits, called s)

/-- From `s` to `t` nothing outside engine `e` has changed but the engine's flags and words. -/
structure EngineStep (e : Nat) (s t : State) : Prop where
  fld : ∀ f : Fld, f.key ∉ leFlagKeys e → t.fld f = s.fld f
  others : ∀ k, k ≠ e → t.engOf k = s.engOf k
  beside : t.besideEngines = s.besideEngines

/-- From `s` to `t` nothing outside engine `e` has changed but its flags, and its run stands where it stood. -/
structure Proceeds (e : Nat) (s t : State) : Prop extends EngineStep e s t where
  words : t.words = s.words
  course : (t.engOf e).course = (s.engOf e).course

/-- From `s` to `t` engine `e` has fetched an operand: only its pointers, its flags and those of a sample have changed. -/
structure Fetches (e : Nat) (s t : State) : Prop extends EngineStep e s t where
  words : t.words = s.words
  eng : t.engOf e = { s.engOf e with p := (t.engOf e).p, sv := (t.engOf e).sv, so := (t.engOf e).so }

section
variable {e : Nat} {r s t : State}

theorem EngineStep.refl (s : State) : EngineStep e s s := ⟨fun _ _ => rfl, fun _ _ => rfl, rfl⟩

theorem EngineStep.trans (h : EngineStep e r s) (k : EngineStep e s t) : EngineStep e r t :=
  ⟨fun f free => (k.fld f free).trans (h.fld f free), fun i other => (k.others i other).trans (h.others i other), k.beside.trans h.beside⟩

theorem EngineStep.setEng (h : EngineStep e r s) (x : Eng) : EngineStep e r (s.setEng e x) :=
  h.trans ⟨fun _ _ => rfl, fun _ other => State.engOf_setEng_other s e x other, rfl⟩

theorem EngineStep.setWord (h : EngineStep e r s) (a : Nat) (w : Word36) : EngineStep e r (s.setWord a w) :=
  h.trans ⟨fun _ _ => rfl, fun _ _ => rfl, rfl⟩

theorem EngineStep.put {f : Fld} (h : EngineStep e r s) (flag : f.key ∈ leFlagKeys e) (v : Nat) : EngineStep e r (s.put f v) :=
  h.trans ⟨fun _ free => State.fld_put_other _ _ _ _ fun same => free (same ▸ flag), fun _ _ => rfl, rfl⟩

theorem flagKeys_low (small : e < 32) {k : Nat} (flag : k ∈ leFlagKeys e) : k < 0x60000000 * 32 := by
  simp only [leFlagKeys, List.mem_cons, List.not_mem_nil, or_false, Fld.key, LE_STAT_SAT, LE_STAT_LIM, LE_STAT_ALIGN,
    LE_CNT_MISC_SAT_RUNS] at flag
  omega

theorem EngineStep.watch (h : EngineStep e s t) (small : e < 32) : SameWatch s t :=
  .of_high (fun f high => h.fld f fun flag => (flagKeys_low small flag).not_ge high)
    (congrArg (fun b => b.2.2.2.1) h.beside) (congrArg (fun b => b.2.2.2.2) h.beside)

theorem Proceeds.refl (s : State) : Proceeds e s s := ⟨.refl s, rfl, rfl⟩

theorem Proceeds.trans (h : Proceeds e r s) (k : Proceeds e s t) : Proceeds e r t :=
  ⟨h.toEngineStep.trans k.toEngineStep, k.words.trans h.words, k.course.trans h.course⟩

theorem Proceeds.setEng (h : Proceeds e r s) {x : Eng} (course : x.course = (s.engOf e).course) : Proceeds e r (s.setEng e x) :=
  h.trans ⟨(EngineStep.refl s).setEng x, rfl, (congrArg Eng.course (State.engOf_setEng_same s e x)).trans course⟩

theorem Proceeds.put {f : Fld} (h : Proceeds e r s) (flag : f.key ∈ leFlagKeys e) (v : Nat) : Proceeds e r (s.put f v) :=
  h.trans ⟨(EngineStep.refl s).put flag v, rfl, rfl⟩

theorem Fetches.refl (s : State) : Fetches e s s := ⟨.refl s, rfl, rfl⟩

theorem Fetches.proceeds (h : Fetches e s t) : Proceeds e s t := ⟨h.toEngineStep, h.words, (congrArg Eng.course h.eng).trans rfl⟩

theorem Fetches.setSample (h : Fetches e s t) (valid old : Bool) :
    Fetches e s (t.setEng e { t.engOf e with sv := valid, so := old }) :=
  ⟨h.toEngineStep.setEng _, h.words, by rw [State.engOf_setEng_same, h.eng]⟩

theorem Fetches.mant (h : Fetches e s t) (r : Nat) : (t.engOf e).mant r = (s.engOf e).mant r := (congrArg (fun x => Eng.mant x r) h.eng).trans rfl
theorem Fetches.accu (h : Fetches e s t) (n : Nat) : (t.engOf e).accu n = (s.engOf e).accu n := (congrArg (fun x => Eng.accu x n) h.eng).trans rfl

end

/-! ### The writes of an instruction -/

section
variable {e : Nat} {r s : State}

theorem sat_flag (e : Nat) : (LE_STAT_SAT e).key ∈ leFlagKeys e := .head _
theorem lim_flag (e : Nat) : (LE_STAT_LIM e).key ∈ leFlagKeys e := .tail _ (.head _)
theorem align_flag (e : Nat) : (LE_STAT_ALIGN e).key ∈ leFlagKeys e := .tail _ (.tail _ (.head _))
theorem satRuns_flag (e : Nat) : (LE_CNT_MISC_SAT_RUNS e).key ∈ leFlagKeys e := .tail _ (.tail _ (.tail _ (.head _)))

theorem engOf_markSat (s : State) (e : Nat) : (markSat s e).engOf e = { s.engOf e with sat := true } := State.engOf_setEng_same _ _ _

theorem markSat_flag (s : State) (e : Nat) : (markSat s e).fld (LE_STAT_SAT e) = 1 := State.fld_put_same _ _ _

theorem engOf_markLim (s : State) (e : Nat) : (markLim s e).engOf e = { s.engOf e with lim := true } := State.engOf_setEng_same _ _ _

theorem markLim_flag (s : State) (e : Nat) : (markLim s e).fld (LE_STAT_LIM e) = 1 := State.fld_put_same _ _ _

theorem Proceeds.markSat (h : Proceeds e r s) : Proceeds e r (markSat s e) := by
  refine h.trans ?_
  have counted : Proceeds e s (s.when (!(s.engOf e).sat) fun s => s.inc (LE_CNT_MISC_SAT_RUNS e)) := by
    cases (s.engOf e).sat
    · exact (Proceeds.refl s).put (satRuns_flag e) _
    · exact .refl s
  exact (counted.setEng (x := { s.engOf e with sat := true }) counted.course.symm).put (sat_flag e) _

theorem Proceeds.markLim (h : Proceeds e r s) : Proceeds e r (markLim s e) :=
  (h.setEng (x := { s.engOf e with lim := true }) rfl).put (lim_flag e) _

/-- What a saturated write of a register begins with: the mark of a saturation, if there is one. -/
def satNoted (s : State) (e : Nat) (past : Bool) : State := s.when past fun s => markSat s e

theorem Proceeds.satNoted (h : Proceeds e r s) (past : Bool) : Proceeds e r (satNoted s e past) := by
  cases past
  · exact h
  · exact h.markSat

theorem engOf_satNoted (s : State) (e : Nat) (past : Bool) :
    (satNoted s e past).engOf e = { s.engOf e with sat := ((satNoted s e past).engOf e).sat } := by
  cases past
  · rfl
  · exact (engOf_markSat s e).trans (by simp only [satNoted, State.when, if_true, engOf_markSat])

theorem leM_eq (s : State) (e d : Nat) (v : Int) : leM s e d v =
    (satNoted s e (v < minM || maxM < v)).setEng e (((satNoted s e (v < minM || maxM < v)).engOf e).setM d (BitVec.ofInt 36 (satM v))) := rfl

theorem leA_eq (s : State) (e n : Nat) (v : Int) : leA s e n v =
    (satNoted s e (v < minA || maxA < v)).setEng e (((satNoted s e (v < minA || maxA < v)).engOf e).setA n (BitVec.ofInt 80 (satA v))) := rfl

theorem Proceeds.leM (h : Proceeds e r s) (d : Nat) (v : Int) : Proceeds e r (leM s e d v) := (h.satNoted _).setEng rfl

theorem Proceeds.leW (h : Proceeds e r s) (d : Nat) (v : Int) : Proceeds e r (leW s e d v) := h.setEng rfl

theorem Proceeds.leA (h : Proceeds e r s) (n : Nat) (v : Int) : Proceeds e r (leA s e n v) := (h.satNoted _).setEng rfl

/-- What a saturated write of mantissa `d` makes of the engine. -/
theorem engOf_leM (s : State) (e d : Nat) (v : Int) :
    (leM s e d v).engOf e = { (s.engOf e).setM d (BitVec.ofInt 36 (satM v)) with sat := ((leM s e d v).engOf e).sat } := by
  rw [leM_eq, State.engOf_setEng_same, engOf_satNoted]
  rfl

theorem engOf_leW (s : State) (e d : Nat) (v : Int) : (leW s e d v).engOf e = (s.engOf e).setM d (BitVec.ofInt 36 v) :=
  State.engOf_setEng_same _ _ _

theorem engOf_leA (s : State) (e n : Nat) (v : Int) :
    (leA s e n v).engOf e = { (s.engOf e).setA n (BitVec.ofInt 80 (satA v)) with sat := ((leA s e n v).engOf e).sat } := by
  rw [leA_eq, State.engOf_setEng_same, engOf_satNoted]
  rfl

theorem mant_leM (s : State) (e d : Nat) (v : Int) (r : Nat) :
    ((leM s e d v).engOf e).mant r = if r = d then satM v else (s.engOf e).mant r := by
  rw [engOf_leM]
  exact (Eng.mant_setM _ _ _ _).trans (by rw [toInt_ofInt_mantissa (satM_range v).1 (satM_range v).2])

theorem leM_leSet (s : State) (e d : Nat) (v : Int) : leSet s (leM s e d v) e d (satM v) (s.engOf e).p :=
  ⟨(mant_leM s e d v d).trans (if_pos rfl), fun r other => (mant_leM s e d v r).trans (if_neg other),
    (congrArg Eng.a (engOf_leM s e d v)).trans rfl, (congrArg Eng.p (engOf_leM s e d v)).trans rfl⟩

theorem leW_leSet (s : State) (e d : Nat) (v : Int) : leSet s (leW s e d v) e d (BitVec.ofInt 36 v).toInt (s.engOf e).p := by
  simp only [leSet, engOf_leW]
  exact ⟨(Eng.mant_setM _ _ _ _).trans (if_pos rfl), fun r other => (Eng.mant_setM _ _ _ _).trans (if_neg other), rfl, rfl⟩

theorem leA_leSetA (s : State) (e n : Nat) (v : Int) : leSetA s (leA s e n v) e n (satA v) := by
  have accu (r : Nat) := (congrArg (fun x => Eng.accu x r) (engOf_leA s e n v)).trans (Eng.accu_setA _ _ _ _)
  refine ⟨?_, fun r other => (accu r).trans (if_neg other), (congrArg Eng.m (engOf_leA s e n v)).trans rfl⟩
  exact (accu n).trans ((if_pos rfl).trans (toInt_ofInt_accumulator (satA_range v).1 (satA_range v).2))

/-- The marks of a run keep a register that was set. -/
theorem leSet_markSat {t : State} {d : Nat} {v : Int} {p : Tbl (BitVec 12)} (set : leSet s t e d v p) : leSet s (markSat t e) e d v p := by
  rw [leSet, engOf_markSat]
  exact set

theorem leSet_markLim {t : State} {d : Nat} {v : Int} {p : Tbl (BitVec 12)} (set : leSet s t e d v p) : leSet s (markLim t e) e d v p := by
  rw [leSet, engOf_markLim]
  exact set

end

/-! ### Operands in memory (R200) -/

section
variable {e : Nat} {s t : State} (size wrap : Nat) (x : LeMem)

theorem leAddr_fetches (s : State) (e : Nat) : Fetches e s (leAddr s e size wrap x).1 := by
  cases x with
  | dir a => exact .refl s
  | ptr p o i =>
    refine ⟨(EngineStep.refl s).setEng _, rfl, ?_⟩
    simp only [leAddr, State.engOf_setEng_same, Eng.setP]

/-- The address and the pointers after it depend on the pointers alone. -/
theorem leAddr_congr (ptrs : (t.engOf e).p = (s.engOf e).p) : (leAddr t e size wrap x).2 = (leAddr s e size wrap x).2 ∧
    ((leAddr t e size wrap x).1.engOf e).p = ((leAddr s e size wrap x).1.engOf e).p := by
  cases x with
  | dir a => exact ⟨rfl, ptrs⟩
  | ptr p o i => simp only [leAddr, State.engOf_setEng_same, Eng.setP, Eng.ptr, ptrs, and_self]

theorem leSlotAddr_fetches (s : State) (e : Nat) : Fetches e s (leSlotAddr s e x).1 := by
  have fetched := leAddr_fetches 4096 4096 x s e
  unfold leSlotAddr
  dsimp only
  split
  · exact ⟨fetched.toEngineStep.put (align_flag e) _, fetched.words, fetched.eng⟩
  · exact fetched

theorem leSlotAddr_congr (ptrs : (t.engOf e).p = (s.engOf e).p) : (leSlotAddr t e x).2 = (leSlotAddr s e x).2 ∧
    ((leSlotAddr t e x).1.engOf e).p = ((leSlotAddr s e x).1.engOf e).p := by
  obtain ⟨addr, after⟩ := leAddr_congr 4096 4096 x ptrs
  unfold leSlotAddr
  dsimp only
  rw [addr]
  split
  · exact ⟨rfl, after⟩
  · exact ⟨addr, after⟩

theorem leCoef_fetches (s : State) (e : Nat) : Fetches e s (leCoef s e x).1 := leAddr_fetches 1024 1024 x s e

theorem leCoef_congr (ptrs : (t.engOf e).p = (s.engOf e).p) (words : t.words = s.words)
    (bank : t.fld (LE_STAT_BANK e) = s.fld (LE_STAT_BANK e)) : (leCoef t e x).2 = (leCoef s e x).2 ∧
    ((leCoef t e x).1.engOf e).p = ((leCoef s e x).1.engOf e).p := by
  obtain ⟨addr, after⟩ := leAddr_congr 1024 1024 x ptrs
  have fetched := (leAddr_fetches 1024 1024 x t e).words.trans (words.trans (leAddr_fetches 1024 1024 x s e).words.symm)
  refine ⟨?_, after⟩
  simp only [leCoef, bank, addr, State.word_congr fetched]

theorem tblIndex_fetches (s : State) (e raw : Nat) : Fetches e s (tblIndex s e raw x).1 := by
  cases x with
  | dir a => exact .refl s
  | ptr p o i => exact leAddr_fetches _ _ _ s e

theorem tblIndex_congr (raw : Nat) (ptrs : (t.engOf e).p = (s.engOf e).p) : (tblIndex t e raw x).2 = (tblIndex s e raw x).2 ∧
    ((tblIndex t e raw x).1.engOf e).p = ((tblIndex s e raw x).1.engOf e).p := by
  cases x with
  | dir a => exact ⟨rfl, ptrs⟩
  | ptr p o i => exact leAddr_congr _ _ _ ptrs

end

/-! ### One instruction (R191, R196) -/

/-- The state in which the meaning of `op` acts: the pc has moved past the word, the charge is counted. -/
def advanced (s : State) (e : Nat) (op : LeOp) : State :=
  s.setEng e { s.engOf e with pc := (s.engOf e).pc + 1, cycles := (s.engOf e).cycles + op.charge }

/-- An instruction ends: a loop body that ends at the pc starts again or is left. -/
def looped (u : State) (e : Nat) : State := u.setEng e (loopStep (loopStep (u.engOf e)))

section
variable (x : Eng)

theorem loopStep_eq : loopStep x = { x with pc := (loopStep x).pc, loops := (loopStep x).loops } := by
  unfold loopStep
  split
  · split
    · split <;> rfl
    · rfl
  · rfl

theorem loopStep_open (h : x.loops = []) : loopStep x = x := by
  unfold loopStep
  rw [h]

/-- The end of an instruction changes the pc and the open loops alone. -/
theorem loopStep_twice : loopStep (loopStep x) = { x with pc := (loopStep (loopStep x)).pc, loops := (loopStep (loopStep x)).loops } :=
  (loopStep_eq (loopStep x)).trans (congrArg (fun y => { y with pc := (loopStep (loopStep x)).pc, loops := (loopStep (loopStep x)).loops })
    (loopStep_eq x))

end

section
variable {s u : State} {e : Nat} {op : LeOp}

theorem engOf_advanced (s : State) (e : Nat) (op : LeOp) : (advanced s e op).engOf e =
    { s.engOf e with pc := (s.engOf e).pc + 1, cycles := (s.engOf e).cycles + op.charge } := State.engOf_setEng_same _ _ _

@[simp] theorem mant_advanced (r : Nat) : ((advanced s e op).engOf e).mant r = (s.engOf e).mant r := by rw [engOf_advanced]; rfl
@[simp] theorem accu_advanced (n : Nat) : ((advanced s e op).engOf e).accu n = (s.engOf e).accu n := by rw [engOf_advanced]; rfl
@[simp] theorem ptr_advanced (n : Nat) : ((advanced s e op).engOf e).ptr n = (s.engOf e).ptr n := by rw [engOf_advanced]; rfl
@[simp] theorem m_advanced : ((advanced s e op).engOf e).m = (s.engOf e).m := by rw [engOf_advanced]
@[simp] theorem a_advanced : ((advanced s e op).engOf e).a = (s.engOf e).a := by rw [engOf_advanced]
@[simp] theorem p_advanced : ((advanced s e op).engOf e).p = (s.engOf e).p := by rw [engOf_advanced]
@[simp] theorem se_advanced : ((advanced s e op).engOf e).se = (s.engOf e).se := by rw [engOf_advanced]
@[simp] theorem nx_advanced : ((advanced s e op).engOf e).nx = (s.engOf e).nx := by rw [engOf_advanced]
@[simp] theorem tbl_advanced : ((advanced s e op).engOf e).tbl = (s.engOf e).tbl := by rw [engOf_advanced]
@[simp] theorem flight_advanced : ((advanced s e op).engOf e).flight = (s.engOf e).flight := by rw [engOf_advanced]
@[simp] theorem loops_advanced : ((advanced s e op).engOf e).loops = (s.engOf e).loops := by rw [engOf_advanced]
@[simp] theorem pc_advanced : ((advanced s e op).engOf e).pc = (s.engOf e).pc + 1 := by rw [engOf_advanced]
@[simp] theorem disarm_advanced : ((advanced s e op).engOf e).disarm = (s.engOf e).disarm := by rw [engOf_advanced]
@[simp] theorem cycles_advanced : ((advanced s e op).engOf e).cycles = (s.engOf e).cycles + op.charge := by rw [engOf_advanced]

@[simp] theorem cond_advanced (c : Nat) : ((advanced s e op).engOf e).cond c = (s.engOf e).cond c := by
  rw [engOf_advanced]
  rfl

theorem engOf_looped (u : State) (e : Nat) : (looped u e).engOf e = loopStep (loopStep (u.engOf e)) := State.engOf_setEng_same _ _ _

/-- What the end of an instruction keeps of its engine. -/
theorem looped_keeps {β : Type} {q : Eng → β} (blind : ∀ x pc loops, q { x with pc := pc, loops := loops } = q x) (u : State) (e : Nat) :
    q ((looped u e).engOf e) = q (u.engOf e) := by
  rw [engOf_looped, loopStep_twice]
  exact blind _ _ _

@[simp] theorem mant_looped (r : Nat) : ((looped u e).engOf e).mant r = (u.engOf e).mant r :=
  looped_keeps (q := fun x => x.mant r) (fun _ _ _ => rfl) u e
@[simp] theorem accu_looped (n : Nat) : ((looped u e).engOf e).accu n = (u.engOf e).accu n :=
  looped_keeps (q := fun x => x.accu n) (fun _ _ _ => rfl) u e
@[simp] theorem ptr_looped (n : Nat) : ((looped u e).engOf e).ptr n = (u.engOf e).ptr n := looped_keeps (q := fun x => x.ptr n) (fun _ _ _ => rfl) u e
@[simp] theorem m_looped : ((looped u e).engOf e).m = (u.engOf e).m := looped_keeps (q := Eng.m) (fun _ _ _ => rfl) u e
@[simp] theorem a_looped : ((looped u e).engOf e).a = (u.engOf e).a := looped_keeps (q := Eng.a) (fun _ _ _ => rfl) u e
@[simp] theorem p_looped : ((looped u e).engOf e).p = (u.engOf e).p := looped_keeps (q := Eng.p) (fun _ _ _ => rfl) u e
@[simp] theorem se_looped : ((looped u e).engOf e).se = (u.engOf e).se := looped_keeps (q := Eng.se) (fun _ _ _ => rfl) u e
@[simp] theorem nx_looped : ((looped u e).engOf e).nx = (u.engOf e).nx := looped_keeps (q := Eng.nx) (fun _ _ _ => rfl) u e
@[simp] theorem lt_looped : ((looped u e).engOf e).lt = (u.engOf e).lt := looped_keeps (q := Eng.lt) (fun _ _ _ => rfl) u e
@[simp] theorem eq_looped : ((looped u e).engOf e).eq = (u.engOf e).eq := looped_keeps (q := Eng.eq) (fun _ _ _ => rfl) u e
@[simp] theorem sv_looped : ((looped u e).engOf e).sv = (u.engOf e).sv := looped_keeps (q := Eng.sv) (fun _ _ _ => rfl) u e
@[simp] theorem lim_looped : ((looped u e).engOf e).lim = (u.engOf e).lim := looped_keeps (q := Eng.lim) (fun _ _ _ => rfl) u e
@[simp] theorem flight_looped : ((looped u e).engOf e).flight = (u.engOf e).flight := looped_keeps (q := Eng.flight) (fun _ _ _ => rfl) u e
@[simp] theorem cycles_looped : ((looped u e).engOf e).cycles = (u.engOf e).cycles := looped_keeps (q := Eng.cycles) (fun _ _ _ => rfl) u e

@[simp] theorem fld_looped (f : Fld) : (looped u e).fld f = u.fld f := rfl
@[simp] theorem word_looped (a : Nat) : (looped u e).word a = u.word a := rfl
@[simp] theorem out_looped : (looped u e).out = u.out := rfl

theorem EngineStep.advanced (s : State) (e : Nat) (op : LeOp) : EngineStep e s (advanced s e op) := (EngineStep.refl s).setEng _

theorem EngineStep.looped {r : State} (h : EngineStep e r u) : EngineStep e r (looped u e) := h.setEng _

section
variable {sem : State → Nat → LeOp → Option State} (at_ : s.atOp e op) (sem_ : sem (advanced s e op) e op = some u)
include at_ sem_

theorem leStep_clean : leStep s e .clean sem = looped u e := by
  obtain ⟨run, lib, budget, word⟩ := at_
  unfold advanced at sem_
  simp [leStep, run, lib, budget, word, sem_, looped, State.when]

theorem leStep_corrected : leStep s e .corrected sem = looped (u.inc (LE_CNT_ECC_CORR e)) e := by
  obtain ⟨run, lib, budget, word⟩ := at_
  unfold advanced at sem_
  simp [leStep, run, lib, budget, word, sem_, looped, State.when]

theorem leStep_lostPrivate : leStep s e .lostPrivate sem = engineFault s e 1 := by
  obtain ⟨run, lib, budget, word⟩ := at_
  unfold advanced at sem_
  simp [leStep, run, lib, budget, word, sem_]

theorem leStep_lostTable : leStep s e .lostTable sem = engineFault s e 2 := by
  obtain ⟨run, lib, budget, word⟩ := at_
  unfold advanced at sem_
  simp [leStep, run, lib, budget, word, sem_]

variable (quiet : s.quiet = true) (small : e < 32)
include quiet small

/-- An instruction that reaches nothing outside its engine is the whole step. -/
theorem settle_leStep (step : EngineStep e (advanced s e op) u) : settle s (leStep s e .clean sem) = looped u e := by
  rw [leStep_clean at_ sem_]
  exact settle_quiet quiet ((((EngineStep.advanced s e op).trans step).looped).watch small)

end

/-- An instruction that proceeds has run. -/
theorem Proceeds.leRan (h : Proceeds e (Machine.advanced s e op) u) : leRan s (Machine.looped u e) e op := by
  have step := ((EngineStep.advanced s e op).trans h.toEngineStep).looped
  have course := h.course.trans (congrArg Eng.course (engOf_advanced s e op))
  refine ⟨step.fld, step.others, h.words, congrArg Prod.fst step.beside, congrArg (fun b => b.2.1) step.beside,
    congrArg (fun b => b.2.2.1) step.beside, cycles_looped.trans (congrArg (fun c => c.2.1) course), fun none => ?_⟩
  have out : (u.engOf e).loops = [] := (congrArg (fun c => c.2.2) course).trans none
  rw [engOf_looped, loopStep_open _ out, loopStep_open _ out]
  exact congrArg Prod.fst course

theorem leSet_ran {d : Nat} {v : Int} {p : Tbl (BitVec 12)} (set : leSet (advanced s e op) u e d v p) : leSet s (looped u e) e d v p := by
  simpa only [leSet, mant_advanced, a_advanced, mant_looped, a_looped, p_looped] using set

theorem leSetA_ran {n : Nat} {v : Int} (set : leSetA (advanced s e op) u e n v) : leSetA s (looped u e) e n v := by
  simpa only [leSetA, accu_advanced, m_advanced, accu_looped, m_looped] using set

end

/-- What a command does that runs one instruction without an error of the memories. -/
abbrev leOutcome (s : State) (e : Nat) (sem : State → Nat → LeOp → Option State) : Host.Outcome State Fault Refusal :=
  .next (settle s (leStep s e .clean sem))

section
variable {s u : State} {e : Fin 32} {op : LeOp} {sem : State → Nat → LeOp → Option State} (quiet : s.quiet = true) (at_ : s.atOp e op)
include quiet at_

/-- An instruction that proceeds: the state after it. -/
theorem ran (on : Proceeds e (advanced s e op) u) (sem_ : sem (advanced s e op) e op = some u) :
    leOutcome s e sem = .next (looped u e) ∧ leRan s (looped u e) e op :=
  ⟨congrArg _ (settle_leStep at_ sem_ quiet e.isLt on.toEngineStep), on.leRan⟩

/-- An instruction that writes mantissa `d` after its operands are fetched, saturated: the state after it. -/
theorem ran_leM_at {v : Int} {d : Nat} (fetch : Fetches e (advanced s e op) u)
    (sem_ : sem (advanced s e op) e op = some (leM u e d v)) :
    leOutcome s e sem = .next (looped (leM u e d v) e) ∧
      leRan s (looped (leM u e d v) e) e op ∧ leSet s (looped (leM u e d v) e) e d (satM v) (u.engOf e).p := by
  obtain ⟨after, ran⟩ := ran quiet at_ (fetch.proceeds.leM d v) sem_
  obtain ⟨own, others, accs, ptrs⟩ := leM_leSet u e d v
  exact ⟨after, ran, leSet_ran ⟨own, fun r other => (others r other).trans (fetch.mant r),
    accs.trans ((congrArg Eng.a fetch.eng).trans rfl), ptrs⟩⟩

theorem ran_leM {v : Int} {d : Nat} (fetch : Fetches e (advanced s e op) u)
    (sem_ : sem (advanced s e op) e op = some (leM u e d v)) : ∃ t, leOutcome s e sem = .next t ∧
      leRan s t e op ∧ leSet s t e d (satM v) (u.engOf e).p := ⟨_, ran_leM_at quiet at_ fetch sem_⟩

end

end Sys2Proof.Machine
end

section

/-! PROOFS of the instructions that write one mantissa (chapter 07, R202). -/

namespace Sys2Proof.Machine

/-! ### Instructions that write one mantissa (R202) -/

/-- A fetch leaves the data memory as it was. -/
theorem Fetches.data {s t : State} {e : Nat} {op : LeOp} (fetch : Fetches e (advanced s e op) t) {a b : Nat} (same : a = b) :
    t.word (dataAddr e a) = s.word (dataAddr e b) := same ▸ State.word_congr fetch.words _

theorem tblEntry_congr {s t : State} (words : t.words = s.words) (raw i : Nat) : tblEntry t raw i = tblEntry s raw i :=
  congrArg BitVec.toInt (State.word_congr words _)

section
variable {s : State} {e : Fin 32} {op : LeOp} {sem : State → Nat → LeOp → Option State} {d : Nat} {v : Int} (quiet : s.quiet = true)
include quiet

/-- An instruction that writes mantissa `d` from the engine's registers, saturated. -/
theorem ran_leM_registers (at_ : s.atOp e op) (sem_ : sem (advanced s e op) e op = some (leM (advanced s e op) e d v)) :
    ∃ t, leOutcome s e sem = .next t ∧
      leRan s t e op ∧ leSet s t e d (satM v) (s.engOf e).p :=
  p_advanced (s := s) (op := op) ▸ ran_leM quiet at_ (.refl _) sem_

/-- The same of a value that is in range. -/
theorem ran_leM_kept (at_ : s.atOp e op) (range : minM ≤ v ∧ v ≤ maxM)
    (sem_ : sem (advanced s e op) e op = some (leM (advanced s e op) e d v)) :
    ∃ t, leOutcome s e sem = .next t ∧
      leRan s t e op ∧ leSet s t e d v (s.engOf e).p := by
  simpa only [satM_eq range.1 range.2] using ran_leM_registers quiet at_ sem_

/-- The same modulo 2^36. -/
theorem ran_leW (at_ : s.atOp e op) (sem_ : sem (advanced s e op) e op = some (leW (advanced s e op) e d v)) :
    ∃ t, leOutcome s e sem = .next t ∧
      leRan s t e op ∧ leSet s t e d (BitVec.ofInt 36 v).toInt (s.engOf e).p := by
  obtain ⟨after, ran⟩ := ran quiet at_ ((Proceeds.refl _).leW d v) sem_
  exact ⟨_, after, ran, leSet_ran (p_advanced (s := s) (op := op) ▸ leW_leSet _ _ _ _)⟩

theorem exec_leLd {x : LeMem} (at_ : s.atOp e (.ld d x)) : ∃ t, exec (.leLd e .clean) s = .next t ∧ leRan s t e (.ld d x) ∧
    leSet s t e d (satM (s.word (dataAddr e (leAddr s e 4096 4096 x).2)).toInt) ((leAddr s e 4096 4096 x).1.engOf e).p := by
  have fetch := leAddr_fetches 4096 4096 x (advanced s e (.ld d x)) e
  obtain ⟨addr, ptrs⟩ := leAddr_congr 4096 4096 x (p_advanced (s := s) (e := e) (op := .ld d x))
  rw [← ptrs, ← fetch.data addr]
  exact ran_leM quiet at_ fetch rfl

theorem exec_leLdc {x : LeMem} (at_ : s.atOp e (.ldc d x)) : ∃ t, exec (.leLdc e .clean) s = .next t ∧ leRan s t e (.ldc d x) ∧
    leSet s t e d (satM (leCoef s e x).2) ((leCoef s e x).1.engOf e).p := by
  obtain ⟨value, ptrs⟩ := leCoef_congr x (p_advanced (s := s) (e := e) (op := .ldc d x)) rfl rfl
  rw [← value, ← ptrs]
  exact ran_leM quiet at_ (leCoef_fetches x _ e) rfl

theorem exec_leMulc {x : LeMem} {a : Nat} {k : Int} (at_ : s.atOp e (.mulc d a x k)) :
    ∃ t, exec (.leMulc e .clean) s = .next t ∧ leRan s t e (.mulc d a x k) ∧
      leSet s t e d (satM (scaleRound ((s.engOf e).mant a * (leCoef s e x).2) (k - 35))) ((leCoef s e x).1.engOf e).p := by
  have fetch := leCoef_fetches x (advanced s e (.mulc d a x k)) e
  obtain ⟨value, ptrs⟩ := leCoef_congr x (p_advanced (s := s) (e := e) (op := .mulc d a x k)) rfl rfl
  rw [← value, ← ptrs, ← mant_advanced (op := .mulc d a x k), ← fetch.mant a]
  exact ran_leM quiet at_ fetch rfl

theorem exec_leLds {x : LeMem} (at_ : s.atOp e (.lds d x)) : ∃ t, exec (.leLds e .clean) s = .next t ∧ leRan s t e (.lds d x) ∧
    leSet s t e d (satM (scaleRound (s.word (dataAddr e (leSlotAddr s e x).2)).toInt
      (signedOf 8 (bitsOf (s.word (dataAddr e ((leSlotAddr s e x).2 + 1))).toNat 24 8) - (s.engOf e).se))) ((leSlotAddr s e x).1.engOf e).p ∧
    (t.engOf e).sv = ((s.word (dataAddr e ((leSlotAddr s e x).2 + 1))).toNat.testBit 35 &&
      !(s.word (dataAddr e ((leSlotAddr s e x).2 + 1))).toNat.testBit 33) := by
  have fetch := leSlotAddr_fetches x (advanced s e (.lds d x)) e
  obtain ⟨addr, ptrs⟩ := leSlotAddr_congr x (p_advanced (s := s) (e := e) (op := .lds d x))
  have stage : ((leSlotAddr (advanced s e (.lds d x)) e x).1.engOf e).se = (s.engOf e).se :=
    (congrArg Eng.se fetch.eng).trans (se_advanced (s := s))
  rw [← ptrs, ← fetch.data addr, ← fetch.data (congrArg (· + 1) addr), ← stage]
  obtain ⟨after, ran, set⟩ := ran_leM_at quiet at_ (fetch.setSample _ _) (sem := leLds) rfl
  refine ⟨_, after, ran, ?_, ?_⟩
  · rwa [State.engOf_setEng_same] at set
  · rw [sv_looped, engOf_leM]
    exact (congrArg Eng.sv (State.engOf_setEng_same _ _ _)).trans rfl

/-- An instruction that writes mantissa `d` after its operands are fetched, and marks a saturation whatever the value. -/
theorem ran_leM_marked {u : State} (at_ : s.atOp e op) (fetch : Fetches e (advanced s e op) u)
    (sem_ : sem (advanced s e op) e op = some (markSat (leM u e d v) e)) :
    ∃ t, leOutcome s e sem = .next t ∧
      leRan s t e op ∧ leSet s t e d (satM v) (u.engOf e).p ∧ t.fld (LE_STAT_SAT e) = 1 := by
  obtain ⟨after, ran⟩ := ran quiet at_ (fetch.proceeds.leM d v).markSat sem_
  obtain ⟨own, others, accs, ptrs⟩ := leSet_markSat (leM_leSet u e d v)
  exact ⟨_, after, ran, leSet_ran ⟨own, fun r other => (others r other).trans (fetch.mant r),
    accs.trans ((congrArg Eng.a fetch.eng).trans rfl), ptrs⟩, markSat_flag _ e⟩

theorem exec_leLdt {x : LeMem} {n raw : Nat} (at_ : s.atOp e (.ldt d n x)) (desc : raw = Tbl.get 0 (s.engOf e).tbl n) :
    ∃ t, exec (.leLdt e .clean) s = .next t ∧ leRan s t e (.ldt d n x) ∧
      leSet s t e d (if tblValid raw then satM (tblEntry s raw (tblIndex s e raw x).2) else 0) ((tblIndex s e raw x).1.engOf e).p ∧
      (tblValid raw = false → t.fld (LE_STAT_SAT e) = 1) := by
  have own : raw = Tbl.get 0 ((advanced s e (.ldt d n x)).engOf e).tbl n := by rw [tbl_advanced]; exact desc
  have fetch := tblIndex_fetches x (advanced s e (.ldt d n x)) e raw
  obtain ⟨index, ptrs⟩ := tblIndex_congr x raw (p_advanced (s := s) (e := e) (op := .ldt d n x))
  cases valid : tblValid raw with
  | true =>
    have sem_ : leLdt (advanced s e (.ldt d n x)) e (.ldt d n x) = some (leM (tblIndex (advanced s e (.ldt d n x)) e raw x).1 e d
        (tblEntry s raw (tblIndex s e raw x).2)) := by
      simp only [leLdt, ← own, valid, if_true, index, tblEntry_congr fetch.words]
      rfl
    obtain ⟨t, after, ran, set⟩ := ran_leM quiet at_ fetch sem_
    exact ⟨t, after, ran, ptrs ▸ set, nofun⟩
  | false =>
    have sem_ : leLdt (advanced s e (.ldt d n x)) e (.ldt d n x) =
        some (markSat (leM (tblIndex (advanced s e (.ldt d n x)) e raw x).1 e d 0) e) := by
      simp only [leLdt, ← own, valid, Bool.false_eq_true, if_false]
    obtain ⟨t, after, ran, set, flag⟩ := ran_leM_marked quiet at_ fetch sem_
    exact ⟨t, after, ran, ptrs ▸ satM_zero ▸ set, fun _ => flag⟩

theorem exec_leTbl {a n raw : Nat} (at_ : s.atOp e (.tbl d a n)) (desc : raw = Tbl.get 0 (s.engOf e).tbl n) :
    ∃ t, exec (.leTbl e .clean) s = .next t ∧ leRan s t e (.tbl d a n) ∧
      leSet s t e d (if tblValid raw then satM (tblValue s raw ((s.engOf e).mant a)) else 0) (s.engOf e).p ∧
      (tblValid raw = false → t.fld (LE_STAT_SAT e) = 1) := by
  have own : raw = Tbl.get 0 ((advanced s e (.tbl d a n)).engOf e).tbl n := by rw [tbl_advanced]; exact desc
  cases valid : tblValid raw with
  | true =>
    have sem_ : leTbl (advanced s e (.tbl d a n)) e (.tbl d a n) =
        some (leM (advanced s e (.tbl d a n)) e d (tblValue s raw ((s.engOf e).mant a))) := by
      simp only [leTbl, ← own, valid, mant_advanced]
      rfl
    obtain ⟨t, after, ran, set⟩ := ran_leM_registers quiet at_ sem_
    exact ⟨t, after, ran, set, nofun⟩
  | false =>
    have sem_ : leTbl (advanced s e (.tbl d a n)) e (.tbl d a n) = some (markSat (leM (advanced s e (.tbl d a n)) e d 0) e) := by
      simp only [leTbl, ← own, valid, Bool.not_false, if_true]
    obtain ⟨t, after, ran, set, flag⟩ := ran_leM_marked quiet at_ (.refl _) sem_
    rw [p_advanced, satM_zero] at set
    exact ⟨t, after, ran, set, fun _ => flag⟩

theorem exec_leDiv {a b : Nat} (at_ : s.atOp e (.div d a b)) : ∃ t, exec (.leDiv e .clean) s = .next t ∧ leRan s t e (.div d a b) ∧
    (0 < (s.engOf e).mant b → leSet s t e d (satM (divRound ((s.engOf e).mant a * 2 ^ 35) ((s.engOf e).mant b))) (s.engOf e).p) ∧
    ((s.engOf e).mant b < 0 → leSet s t e d (satM (divRound (-(s.engOf e).mant a * 2 ^ 35) (-(s.engOf e).mant b))) (s.engOf e).p) ∧
    ((s.engOf e).mant b = 0 →
      leSet s t e d (if (s.engOf e).mant a = 0 then 0 else if 0 < (s.engOf e).mant a then maxM else minM) (s.engOf e).p) := by
  rcases Int.lt_trichotomy ((s.engOf e).mant b) 0 with neg | zero | pos
  · obtain ⟨t, after, ran, set⟩ := ran_leM_registers quiet at_ (sem := leDiv) (d := d)
      (v := divRound (-(s.engOf e).mant a * 2 ^ 35) (-(s.engOf e).mant b))
      (by simp only [leDiv, mant_advanced, if_neg neg.ne, if_neg neg.not_gt])
    exact ⟨t, after, ran, fun pos => absurd pos neg.not_gt, fun _ => set, fun zero => absurd zero neg.ne⟩
  · refine (em ((s.engOf e).mant a = 0)).elim (fun none => ?_) fun some => ?_
    · obtain ⟨t, after, ran, set⟩ := ran_leM_kept quiet at_ (sem := leDiv) (d := d) (v := 0) (by decide)
        (by simp only [leDiv, mant_advanced, if_pos zero, if_pos none])
      exact ⟨t, after, ran, fun pos => absurd zero pos.ne', fun neg => absurd zero neg.ne, fun _ => by rwa [if_pos none]⟩
    · obtain ⟨t, after, ran, set, -⟩ := ran_leM_marked quiet at_ (.refl _) (sem := leDiv) (d := d)
        (v := if 0 < (s.engOf e).mant a then maxM else minM) (by simp only [leDiv, mant_advanced, if_pos zero, if_neg some])
      rw [p_advanced, satM_eq (by split <;> decide) (by split <;> decide)] at set
      exact ⟨t, after, ran, fun pos => absurd zero pos.ne', fun neg => absurd zero neg.ne, fun _ => by rwa [if_neg some]⟩
  · obtain ⟨t, after, ran, set⟩ := ran_leM_registers quiet at_ (sem := leDiv) (d := d)
      (v := divRound ((s.engOf e).mant a * 2 ^ 35) ((s.engOf e).mant b))
      (by simp only [leDiv, mant_advanced, if_neg pos.ne', if_pos pos])
    exact ⟨t, after, ran, fun _ => set, fun neg => absurd neg pos.not_gt, fun zero => absurd zero pos.ne'⟩

theorem exec_leClamp {a b : Nat} (at_ : s.atOp e (.clamp d a b)) : ∃ t, exec (.leClamp e .clean) s = .next t ∧ leRan s t e (.clamp d a b) ∧
    leSet s t e d (min (max ((s.engOf e).mant d) ((s.engOf e).mant a)) ((s.engOf e).mant b)) (s.engOf e).p ∧
    ((t.engOf e).mant d ≠ (s.engOf e).mant d → t.fld (LE_STAT_LIM e) = 1 ∧ (t.engOf e).lim = true) := by
  have own := (s.engOf e).mant_range d
  have low := (s.engOf e).mant_range a
  have high := (s.engOf e).mant_range b
  have range : minM ≤ min (max ((s.engOf e).mant d) ((s.engOf e).mant a)) ((s.engOf e).mant b) ∧
    min (max ((s.engOf e).mant d) ((s.engOf e).mant a)) ((s.engOf e).mant b) ≤ maxM := by omega
  have sem_ : leClamp (advanced s e (.clamp d a b)) e (.clamp d a b) =
      some ((leM (advanced s e (.clamp d a b)) e d (min (max ((s.engOf e).mant d) ((s.engOf e).mant a)) ((s.engOf e).mant b))).when
        (min (max ((s.engOf e).mant d) ((s.engOf e).mant a)) ((s.engOf e).mant b) ≠ (s.engOf e).mant d) fun s => markLim s e) := by
    simp only [leClamp, mant_advanced]
  generalize min (max ((s.engOf e).mant d) ((s.engOf e).mant a)) ((s.engOf e).mant b) = v at *
  by_cases same : v = (s.engOf e).mant d
  · rw [decide_eq_false (not_not.2 same)] at sem_
    obtain ⟨t, after, ran, set⟩ := ran_leM_kept quiet at_ range sem_
    exact ⟨t, after, ran, set, fun moved => absurd (set.1.trans same) moved⟩
  · rw [decide_eq_true same] at sem_
    obtain ⟨after, ran⟩ := ran quiet at_ ((Proceeds.refl _).leM d v).markLim sem_
    have set := leSet_markLim (leM_leSet (advanced s e (.clamp d a b)) e d v)
    rw [satM_eq range.1 range.2, p_advanced] at set
    exact ⟨_, after, ran, leSet_ran set, fun _ => ⟨markLim_flag _ e, lim_looped.trans (congrArg Eng.lim (engOf_markLim _ _))⟩⟩

end

theorem tblIndex_direct (s : State) (e : Nat) {raw i : Nat} {x : LeMem} (direct : x = .dir i) (within : i ≤ 2 ^ tblL raw)
    (whole : tblWrap raw = false) : (tblIndex s e raw x).2 = i := by
  subst direct
  exact if_neg (by simp [whole, within])

/-- Settles O37: each instruction is a saturated or a modular write of its mantissa, after its operands are fetched. -/
theorem engineMantissaInstructions : Obligations.EngineMantissaInstructions := by
  intro s e quiet d a b n imm k x
  have range (r : Nat) := (s.engOf e).mant_range r
  refine ⟨exec_leLd quiet, exec_leLds quiet, exec_leLdc quiet, fun raw at_ desc => ?_, fun at_ => ?_, fun at_ => ?_, fun at_ => ?_,
    fun at_ => ?_, fun at_ => ?_, fun at_ => ?_, fun at_ => ?_, fun at_ => ?_, fun at_ => ?_, exec_leMulc quiet, fun at_ => ?_,
    exec_leDiv quiet, fun at_ => ?_, fun at_ => ?_, fun at_ => ?_, exec_leClamp quiet, fun at_ => ?_, fun raw => exec_leTbl quiet⟩
  · obtain ⟨t, after, ran, set, flag⟩ := exec_leLdt quiet at_ desc
    exact ⟨t, after, ran, set, flag, fun i => tblIndex_direct s e⟩
  · exact ran_leM_registers quiet at_ rfl
  · exact ran_leM_kept quiet at_ (range a) (by simp only [leMov, mant_advanced])
  · exact ran_leM_registers quiet at_ (by simp only [leLda, accu_advanced])
  · exact ran_leM_registers quiet at_ (by simp only [leAdd, mant_advanced])
  · exact ran_leM_registers quiet at_ (by simp only [leSub, mant_advanced])
  · exact ran_leM_registers quiet at_ (by simp only [leNeg, mant_advanced])
  · exact ran_leM_registers quiet at_ (by simp only [leAbs, mant_advanced])
  · exact ran_leW quiet at_ (by simp only [leAddw, mant_advanced])
  · exact ran_leM_registers quiet at_ (by simp only [leMul, mant_advanced])
  · exact ran_leW quiet at_ (by simp only [leMulw, mant_advanced])
  · exact ran_leM_registers quiet at_ (by simp only [leAsh, mant_advanced])
  · exact ran_leM_kept quiet at_ ⟨le_min (range a).1 (range b).1, min_le_of_left_le (range a).2⟩ (by simp only [leMin, mant_advanced])
  · exact ran_leM_kept quiet at_ ⟨le_max_of_le_left (range a).1, max_le (range a).2 (range b).2⟩ (by simp only [leMax, mant_advanced])
  · exact ran_leM_kept quiet at_ (range _) (by simp only [leSel, mant_advanced, cond_advanced])

end Sys2Proof.Machine
end

section

/-! SUPPORT and PROOFS of the other scalar instructions (chapter 07, R198-R202): what a turn of a loop over registers does, where the
registers of an engine stand, and how a run ends. -/

namespace Sys2Proof.Machine

/-! ### A loop in which each turn has its own place -/

/-- Where the turn of `a` alone bears on `q`, the loop does to `q` what that turn does. -/
theorem State.each_own {α β : Type} {q : State → β} {f : State → α → State} {h : β → β} {l : List α} {a : α}
    (turn : a ∈ l) (once : l.Nodup)
    (own : ∀ t, q (f t a) = h (q t)) (others : ∀ t, ∀ b ∈ l, b ≠ a → q (f t b) = q t) (s : State) : q (s.each l f) = h (q s) := by
  obtain ⟨before, after, rfl⟩ := List.append_of_mem turn
  obtain ⟨-, tail, apart⟩ := List.nodup_append.1 once
  have split : s.each (before ++ a :: after) f = (f (s.each before f) a).each after f := by simp [State.each]
  have first : q (s.each before f) = q s :=
    State.each_frame_mem (fun t b mem => others t b (List.mem_append_left _ mem) (apart b mem a (.head _))) s
  have last : q ((f (s.each before f) a).each after f) = q (f (s.each before f) a) :=
    State.each_frame_mem (fun t b mem => others t b (List.mem_append_right _ (.tail _ mem))
      fun same => (List.nodup_cons.1 tail).1 (same ▸ mem)) _
  rw [split, last, own, first]

/-! ### Stores and pointers (R197, R202) -/

theorem testBit_slotWord (ovr fault retaken : Bool) (x t : Nat) : (slotWord true ovr fault retaken x t).toNat.testBit 35 = true := by
  have low : bit ovr ≤ 1 ∧ bit fault ≤ 1 ∧ bit retaken ≤ 1 := by cases ovr <;> cases fault <;> cases retaken <;> decide
  have code : x % 256 < 256 ∧ t % 2 ^ 24 < 2 ^ 24 := ⟨Nat.mod_lt _ (by decide), Nat.mod_lt _ (by decide)⟩
  rw [slotWord, BitVec.toNat_ofNat, Nat.testBit_eq_decide_div_mod_eq]
  simp only [bit, if_true, decide_eq_true_eq] at low ⊢
  omega

section
variable {s u : State} {e : Fin 32} {op : LeOp} {sem : State → Nat → LeOp → Option State} (quiet : s.quiet = true) (at_ : s.atOp e op)
include quiet at_

/-- An instruction that reaches nothing outside its engine but the engine's words. -/
theorem ran_store (step : EngineStep e (advanced s e op) u) (sem_ : sem (advanced s e op) e op = some u) :
    leOutcome s e sem = .next (looped u e) := congrArg _ (settle_leStep at_ sem_ quiet e.isLt step)

/-- An instruction that writes accumulator `n` after its operands are fetched, saturated. -/
theorem ran_leA {v : Int} {n : Nat} (fetch : Fetches e (advanced s e op) u) (sem_ : sem (advanced s e op) e op = some (leA u e n v)) :
    ∃ t, leOutcome s e sem = .next t ∧ leRan s t e op ∧ leSetA s t e n (satA v) := by
  obtain ⟨after, ran⟩ := ran quiet at_ (fetch.proceeds.leA n v) sem_
  obtain ⟨own, others, m⟩ := leA_leSetA u e n v
  exact ⟨_, after, ran, leSetA_ran ⟨own, fun r other => (others r other).trans (fetch.accu r),
    m.trans ((congrArg Eng.m fetch.eng).trans rfl)⟩⟩

/-- The same of a value that is in range. -/
theorem ran_leA_kept {v : Int} {n : Nat} (range : minA ≤ v ∧ v ≤ maxA)
    (sem_ : sem (advanced s e op) e op = some (leA (advanced s e op) e n v)) :
    ∃ t, leOutcome s e sem = .next t ∧ leRan s t e op ∧ leSetA s t e n v := by
  simpa only [satA_eq range.1 range.2] using ran_leA quiet at_ (.refl _) sem_

/-- A product with a coefficient, as `term` forms it, is added to an accumulator. -/
theorem ran_leA_coef {term : Int → Int → Int} {n a : Nat} {x : LeMem} {k : Int} (sem_ : sem (advanced s e op) e op =
      some (leMacTo (leCoef (advanced s e op) e x).1 e n
        (term (((leCoef (advanced s e op) e x).1.engOf e).mant a) (leCoef (advanced s e op) e x).2) k)) :
    ∃ t, leOutcome s e sem = .next t ∧ leRan s t e op ∧
      leSetA s t e n (satA ((s.engOf e).accu n + scaleRound (term ((s.engOf e).mant a) (leCoef s e x).2) k)) := by
  have fetch := leCoef_fetches x (advanced s e op) e
  obtain ⟨value, -⟩ := leCoef_congr x (p_advanced (s := s) (e := e) (op := op)) rfl rfl
  rw [← value, ← mant_advanced (op := op), ← accu_advanced (op := op), ← fetch.mant a, ← fetch.accu n]
  exact ran_leA quiet at_ fetch sem_

end

theorem leSts_eq (s : State) (e d : Nat) (x : LeMem) : leSts s e (.sts d x) = some (((leSlotAddr s e x).1.setWord
    (dataAddr e (leSlotAddr s e x).2) (BitVec.ofInt 36 (((leSlotAddr s e x).1.engOf e).mant d))).setWord
    (dataAddr e ((leSlotAddr s e x).2 + 1)) (slotWord true ((leSlotAddr s e x).1.engOf e).sat false false
      (codeOf 8 ((leSlotAddr s e x).1.engOf e).se) ((leSlotAddr s e x).1.engOf e).trig)) := rfl

section
variable {s : State} {e : Fin 32} (quiet : s.quiet = true)
include quiet

theorem exec_leSt {d : Nat} {x : LeMem} (at_ : s.atOp e (.st d x)) : ∃ t, exec (.leSt e .clean) s = .next t ∧
    (t.word (dataAddr e (leAddr s e 4096 4096 x).2)).toInt = (s.engOf e).mant d ∧
    (∀ w, w ≠ dataAddr e (leAddr s e 4096 4096 x).2 → t.word w = s.word w) ∧ t.regs = s.regs ∧ (t.engOf e).m = (s.engOf e).m ∧
    t.out = s.out := by
  have fetch := leAddr_fetches 4096 4096 x (advanced s e (.st d x)) e
  obtain ⟨addr, -⟩ := leAddr_congr 4096 4096 x (p_advanced (s := s) (e := e) (op := .st d x))
  have regs : (leAddr (advanced s e (.st d x)) e 4096 4096 x).1.regs = s.regs := by cases x <;> rfl
  rw [← addr]
  refine ⟨_, ran_store quiet at_ (fetch.toEngineStep.setWord _ _) rfl, ?_, fun w other => ?_, regs, ?_, ?_⟩
  · rw [word_looped, State.word_setWord_same, fetch.mant, mant_advanced]
    exact toInt_ofInt_mantissa ((s.engOf e).mant_range d).1 ((s.engOf e).mant_range d).2
  · rw [word_looped, State.word_setWord_other _ other]
    exact State.word_congr fetch.words w
  · exact m_looped.trans (((congrArg Eng.m fetch.eng).trans rfl).trans m_advanced)
  · exact congrArg (fun b => b.2.1) fetch.beside

theorem exec_leSts {d : Nat} {x : LeMem} (at_ : s.atOp e (.sts d x)) : ∃ t, exec (.leSts e .clean) s = .next t ∧
    (t.word (dataAddr e (leSlotAddr s e x).2)).toInt = (s.engOf e).mant d ∧
    (t.word (dataAddr e ((leSlotAddr s e x).2 + 1))).toNat.testBit 35 = true ∧
    (∀ w, w ≠ dataAddr e (leSlotAddr s e x).2 → w ≠ dataAddr e ((leSlotAddr s e x).2 + 1) → t.word w = s.word w) ∧
    (∀ f : Fld, f.key ≠ (LE_STAT_ALIGN e).key → t.fld f = s.fld f) ∧ t.out = s.out := by
  have fetch := leSlotAddr_fetches x (advanced s e (.sts d x)) e
  obtain ⟨addr, -⟩ := leSlotAddr_congr x (p_advanced (s := s) (e := e) (op := .sts d x))
  have aligned (f : Fld) (other : f.key ≠ (LE_STAT_ALIGN e).key) : (leSlotAddr (advanced s e (.sts d x)) e x).1.fld f = s.fld f := by
    have read : (leAddr (advanced s e (.sts d x)) e 4096 4096 x).1.fld f = s.fld f := by cases x <;> rfl
    unfold leSlotAddr
    dsimp only
    split
    · exact (State.fld_put_other _ _ _ _ other).trans read
    · exact read
  have sem_ := leSts_eq (advanced s e (.sts d x)) e d x
  rw [← addr]
  generalize leSlotAddr (advanced s e (.sts d x)) e x = r at *
  have next : dataAddr e r.2 ≠ dataAddr e (r.2 + 1) := by simp only [dataAddr]; omega
  refine ⟨_, ran_store quiet at_ ((fetch.toEngineStep.setWord _ _).setWord _ _) sem_, ?_, ?_, fun w first second => ?_,
    fun f other => ?_, ?_⟩
  · rw [word_looped, State.word_setWord_other _ next, State.word_setWord_same, fetch.mant, mant_advanced]
    exact toInt_ofInt_mantissa ((s.engOf e).mant_range d).1 ((s.engOf e).mant_range d).2
  · rw [word_looped, State.word_setWord_same]
    exact testBit_slotWord ..
  · rw [word_looped, State.word_setWord_other _ second, State.word_setWord_other _ first]
    exact State.word_congr fetch.words w
  · rw [fld_looped, State.fld_setWord, State.fld_setWord, aligned f other]
  · rw [out_looped, State.setWord_out, State.setWord_out]
    exact congrArg (fun b => b.2.1) fetch.beside

end

/-! ### NORM and STAGE (R198) -/

/-- The bits of a mantissa that tell it from its sign. -/
def magnitude (m : Int) : Nat := (if m < 0 then -m - 1 else m).natAbs

/-- No bit above that at which the shift of a mantissa stops is set. -/
theorem testBit_magnitude {m : Int} {j : Nat} (before : j < normShift m) (low : j < 35) : (magnitude m).testBit (34 - j) = false := by
  unfold normShift at before
  dsimp only at before
  split at before
  next i found =>
    obtain ⟨-, -, clear⟩ := List.find?_range_eq_some.1 found
    simpa [magnitude] using clear j before
  next none => simpa [magnitude] using List.find?_range_eq_none.1 none j low

/-- A mantissa stays in range when it is shifted by no more than its own shift. -/
theorem shifted_range {m : Int} (range : minM ≤ m ∧ m ≤ maxM) {i : Nat} (least : i ≤ normShift m) :
    -2 ^ 35 ≤ m * 2 ^ (min 34 i) ∧ m * 2 ^ (min 34 i) < 2 ^ 35 := by
  simp only [minM, maxM] at range
  have small : magnitude m < 2 ^ (35 - min 34 i) := by
    refine Nat.lt_pow_two_of_testBit _ fun b high => ?_
    rcases Nat.lt_or_ge b 35 with inside | outside
    · have clear := testBit_magnitude (m := m) (j := 34 - b) (by omega) (by omega)
      rwa [show 34 - (34 - b) = b by omega] at clear
    · refine Nat.testBit_eq_false_of_lt (lt_of_lt_of_le ?_ (Nat.pow_le_pow_right (by decide) outside))
      simp only [magnitude]
      omega
  have scale : (2 : Int) ^ (35 - min 34 i) * 2 ^ (min 34 i) = 2 ^ 35 := by rw [← pow_add]; congr 1; omega
  have bounds : -(2 : Int) ^ (35 - min 34 i) ≤ m ∧ m < 2 ^ (35 - min 34 i) := by
    have cast : ((2 ^ (35 - min 34 i) : Nat) : Int) = 2 ^ (35 - min 34 i) := by push_cast; rfl
    simp only [magnitude] at small
    omega
  have pos : (0 : Int) < 2 ^ (min 34 i) := by positivity
  rw [← scale]
  exact ⟨by rw [← neg_mul]; exact mul_le_mul_of_nonneg_right bounds.1 pos.le, mul_lt_mul_of_pos_right bounds.2 pos⟩

theorem foldl_min_le (l : List Nat) (a : Nat) : l.foldl min a ≤ a ∧ ∀ x ∈ l, l.foldl min a ≤ x := by
  induction l generalizing a with
  | nil => exact ⟨le_rfl, nofun⟩
  | cons b l ih =>
    obtain ⟨start, members⟩ := ih (min a b)
    exact ⟨start.trans (min_le_left a b), List.forall_mem_cons.2 ⟨start.trans (min_le_right a b), members⟩⟩

/-- The count that NORM of registers `a` to `b` gives. -/
def normCount (x : Eng) (a b : Nat) : Nat := ((List.range (b + 1 - a)).map fun i => normShift (x.mant (a + i))).foldl min 35

theorem leNorm_eq (s : State) (e a b : Nat) :
    leNorm s e (.norm a b) = some (s.setEng e { s.engOf e with nx := normCount (s.engOf e) a b }) := rfl

section
variable {s : State} {e : Fin 32} (quiet : s.quiet = true)
include quiet

theorem exec_leNorm {a b : Nat} (at_ : s.atOp e (.norm a b)) : ∃ t, exec (.leNorm e .clean) s = .next t ∧ leRan s t e (.norm a b) ∧
    (t.engOf e).m = (s.engOf e).m ∧ (t.engOf e).nx ≤ 35 ∧ (∀ r, a ≤ r → r ≤ b →
      -2 ^ 35 ≤ (s.engOf e).mant r * 2 ^ (min 34 (t.engOf e).nx) ∧ (s.engOf e).mant r * 2 ^ (min 34 (t.engOf e).nx) < 2 ^ 35) := by
  obtain ⟨after, ran⟩ := ran quiet at_ (by exact (Proceeds.refl _).setEng rfl) (leNorm_eq _ e a b)
  refine ⟨_, after, ran, ?_, ?_, fun r first last => ?_⟩
  · rw [m_looped, State.engOf_setEng_same]
    exact m_advanced
  · rw [nx_looped, State.engOf_setEng_same]
    exact (foldl_min_le _ _).1
  · rw [nx_looped, State.engOf_setEng_same]
    refine shifted_range ((s.engOf e).mant_range r) ((foldl_min_le _ _).2 _ (List.mem_map.2 ⟨r - a, List.mem_range.2 (by omega), ?_⟩))
    rw [mant_advanced, Nat.add_sub_cancel' first]

end

theorem Proceeds.each {α : Type} {e : Nat} {r s : State} {f : State → α → State} {l : List α} (h : Proceeds e r s)
    (turn : ∀ t a, Proceeds e t (f t a)) : Proceeds e r (s.each l f) := by
  induction l generalizing s with
  | nil => exact h
  | cons a l ih => exact ih (h.trans (turn s a))

/-- STAGE rescales a register of its mask. -/
def rescaled (s : State) (e : Nat) (sh : Int) (j : Nat) : State := leM s e j (scaleRound ((s.engOf e).mant j) sh)

theorem rescaled_each (s : State) (e : Nat) (sh : Int) (mask r : Nat) : ((s.each (bitsSet 16 mask) fun s j => rescaled s e sh j).engOf e).mant r =
    if r < 16 ∧ mask.testBit r = true then satM (scaleRound ((s.engOf e).mant r) sh) else (s.engOf e).mant r := by
  have other (t : State) (b : Nat) (apart : b ≠ r) : ((rescaled t e sh b).engOf e).mant r = (t.engOf e).mant r := by
    rw [rescaled, mant_leM, if_neg apart.symm]
  split
  next named =>
    have turn : r ∈ bitsSet 16 mask := by simpa [bitsSet] using named
    exact State.each_own (q := fun t => (t.engOf e).mant r) (h := fun m => satM (scaleRound m sh)) turn (List.nodup_range.filter _)
      (fun t => by rw [rescaled, mant_leM, if_pos rfl]) (fun t b _ => other t b) s
  next unnamed =>
    refine State.each_frame_mem (p := fun t => (t.engOf e).mant r) (fun t b mem => other t b fun same => unnamed ?_) s
    simpa [bitsSet, same] using mem

section
variable {s : State} {e : Fin 32} (quiet : s.quiet = true)
include quiet

theorem exec_leStage {m1 : Bool} {imm nse : Int} {mask : Nat} (at_ : s.atOp e (.stage m1 imm mask))
    (wanted : nse = clampInt (-128) 127 (if m1 then (s.engOf e).se - (s.engOf e).nx else imm)) :
    ∃ t, exec (.leStage e .clean) s = .next t ∧ leRan s t e (.stage m1 imm mask) ∧ (t.engOf e).se = nse ∧ (∀ r, (t.engOf e).mant r =
      if r < 16 ∧ mask.testBit r = true then satM (scaleRound ((s.engOf e).mant r) ((s.engOf e).se - nse)) else (s.engOf e).mant r) := by
  obtain ⟨past, noted⟩ : ∃ past : Bool, past = decide ((if m1 then (s.engOf e).se - (s.engOf e).nx else imm) ≠ nse) := ⟨_, rfl⟩
  obtain ⟨u, rounded⟩ : ∃ u, u = (satNoted (advanced s e (.stage m1 imm mask)) e past).each (bitsSet 16 mask)
    fun t j => rescaled t e ((s.engOf e).se - nse) j := ⟨_, rfl⟩
  have sem_ : leStage (advanced s e (.stage m1 imm mask)) e (.stage m1 imm mask) = some (u.setEng e { u.engOf e with se := nse }) := by
    simp only [leStage, se_advanced, nx_advanced, ← wanted, rounded, noted]
    rfl
  have proceeds : Proceeds e (advanced s e (.stage m1 imm mask)) u :=
    rounded ▸ ((Proceeds.refl _).satNoted past).each fun t j => (Proceeds.refl t).leM j _
  obtain ⟨after, ran⟩ := ran quiet at_ (by exact proceeds.setEng rfl) sem_
  refine ⟨_, after, ran, ?_, fun r => ?_⟩
  · rw [se_looped, State.engOf_setEng_same]
  · have marked : ((satNoted (advanced s e (.stage m1 imm mask)) e past).engOf e).mant r = (s.engOf e).mant r :=
      (congrArg (fun x => Eng.mant x r) (engOf_satNoted _ e past)).trans (mant_advanced r)
    rw [mant_looped, State.engOf_setEng_same, ← marked, ← rescaled_each, ← rounded]
    rfl

end

/-! ### Where the registers of an engine stand -/

/-- The first key of engine `e`. -/
def leBase (e : Nat) : Nat := (0x40014000 + 0x20000 * e) * 32

theorem leBase_add {e : Nat} {f : Fld} (o : Nat) (at_ : f.addr = 0x40014000 + o + 0x20000 * e) : f.key = leBase e + (o * 32 + f.lo) := by
  simp only [Fld.key, at_, leBase]
  omega

section
variable (e : Nat)

@[simp] theorem key_leState : (LE_STAT_STATE e).key = leBase e + 384 := leBase_add 0x0C rfl
@[simp] theorem key_leBank : (LE_STAT_BANK e).key = leBase e + 387 := leBase_add 0x0C rfl
@[simp] theorem key_lePend : (LE_STAT_SWAP_PEND e).key = leBase e + 388 := leBase_add 0x0C rfl
@[simp] theorem key_leEscalated : (LE_STAT_ESCALATED e).key = leBase e + 392 := leBase_add 0x0C rfl
@[simp] theorem key_leOrun : (LE_STAT_ORUN_SEQ e).key = leBase e + 393 := leBase_add 0x0C rfl
@[simp] theorem key_leLastOvr : (LE_STAT_LAST_OVR e).key = leBase e + 395 := leBase_add 0x0C rfl
@[simp] theorem key_leCheckCode : (LE_STAT_CHECK_CODE e).key = leBase e + 400 := leBase_add 0x0C rfl
@[simp] theorem key_leCheckAddr : (LE_CHECK_ADDR e).key = leBase e + 512 := leBase_add 0x10 rfl
@[simp] theorem key_leWcetA : (LE_WCET_A_CYCLES e).key = leBase e + 640 := leBase_add 0x14 rfl
@[simp] theorem key_leWcetB : (LE_WCET_B_CYCLES e).key = leBase e + 768 := leBase_add 0x18 rfl
@[simp] theorem key_leCycLast : (LE_CYC_LAST e).key = leBase e + 896 := leBase_add 0x1C rfl
@[simp] theorem key_leCycMax : (LE_CYC_MAX e).key = leBase e + 1024 := leBase_add 0x20 rfl
@[simp] theorem key_leTrgTime : (LE_TRG_TIME_T e).key = leBase e + 1152 := leBase_add 0x24 rfl
@[simp] theorem key_leRuns : (LE_CNT_RUN_RUNS e).key = leBase e + 1280 := leBase_add 0x28 rfl
@[simp] theorem key_leLate : (LE_CNT_OVR_LATE_CNT e).key = leBase e + 1408 := leBase_add 0x2C rfl
@[simp] theorem key_leBudget : (LE_CNT_OVR_BUDGET_CNT e).key = leBase e + 1424 := leBase_add 0x2C rfl
@[simp] theorem key_leCollide : (LE_CNT_MISC_COLLIDE e).key = leBase e + 1560 := leBase_add 0x30 rfl
@[simp] theorem key_leEcc : (LE_CNT_ECC_CORR e).key = leBase e + 1664 := leBase_add 0x34 rfl
@[simp] theorem key_leEvtCode : (LE_EVT_CODE e).key = leBase e + 1792 := leBase_add 0x38 rfl
@[simp] theorem key_leEvtFlag : (LE_EVT_EVT_FLAG e).key = leBase e + 1800 := leBase_add 0x38 rfl

end

/-- The keys of the registers of engine `e`. -/
def leKey (e k : Nat) : Prop := leBase e ≤ k ∧ k < leBase e + 0x20000

theorem leKey_low {e k : Nat} (small : e < 32) (own : leKey e k) : k < 0x60000000 * 32 := by
  simp only [leKey, leBase] at own
  omega

section
variable {K : Nat → Prop} {r s : State} {e : Nat}

/-- A write of a register of an engine stirs no other block. -/
theorem MeasureStep.putLe {f : Fld} {v : Nat} (small : e < 32) (h : MeasureStep K r s) (free : ¬ K f.key)
    (own : leKey e f.key := by simp [leKey]) : MeasureStep K r (s.put f v) := by
  have low := leKey_low small own
  refine h.trans ⟨.of_high (fun g high => State.fld_put_other _ _ _ _ ?_) rfl rfl, (Spares.refl s).put free, rfl⟩
  exact (low.trans_le high).ne'

theorem MeasureStep.putAllLe {l : List (Fld × Nat)} (small : e < 32) (h : MeasureStep K r s) (own : ∀ x ∈ l, leKey e x.1.key)
    (free : ∀ x ∈ l, ¬ K x.1.key) : MeasureStep K r (s.putAll l) := by
  induction l generalizing s with
  | nil => exact h
  | cons x l ih =>
    exact ih (h.putLe small (free x (.head l)) (own x (.head l))) (fun a ha => own a (.tail x ha)) fun a ha => free a (.tail x ha)

theorem MeasureStep.leIrq (h : MeasureStep K r s) (en : Fld) (cause : Nat) : MeasureStep K r (s.leIrq e en cause) :=
  h.when fun _ h => h.irq _ _ _ _

theorem leIrq_regs (s : State) (e : Nat) (en : Fld) (cause : Nat) : (s.leIrq e en cause).regs = s.regs :=
  State.when_frame (p := State.regs) fun _ => rfl

theorem leIrq_eng (s : State) (e : Nat) (en : Fld) (cause : Nat) : (s.leIrq e en cause).eng = s.eng :=
  State.when_frame (p := State.eng) fun _ => rfl

theorem State.engOf_congr {s t : State} (eng : t.eng = s.eng) (e : Nat) : t.engOf e = s.engOf e := by simp only [State.engOf, eng]

end

/-! ### The end of a run, and EVT (R190, R214) -/

/-- The fields that the completion point of a run writes. -/
def endFields (s : State) (e : Nat) : List (Fld × Nat) :=
  [(LE_CYC_LAST e, (s.engOf e).cycles), (LE_CYC_MAX e, max (s.engOf e).cycles (s.fld (LE_CYC_MAX e))), (LE_STAT_ORUN_SEQ e, 0),
    (LE_STAT_STATE e, 2)]

section
variable {s : State} {e : Nat} (small : e < 32)

theorem endFields_apart (s : State) (e : Nat) : (endFields s e).Pairwise fun a b => a.1.key ≠ b.1.key := by simp [endFields]

theorem runEnd_stays (stays : (s.engOf e).disarm = false) :
    runEnd s e = ((s.inc (LE_CNT_RUN_RUNS e)).putAll (endFields (s.inc (LE_CNT_RUN_RUNS e)) e)).leIrq e (LE_CFG_DONE_IE e) 0 := by
  have cycMax : (s.inc (LE_CNT_RUN_RUNS e)).fld (LE_CYC_MAX e) = s.fld (LE_CYC_MAX e) := State.fld_put_other _ _ _ _ (by simp)
  unfold runEnd
  dsimp only
  rw [if_neg (by simp [stays]), endFields, cycMax]
  rfl

/-- What a run shows at its completion point when no DISARM waits. -/
theorem runEnd_shows (small : e < 32) (stays : (s.engOf e).disarm = false) : MeasureStep (fun _ => False) s (runEnd s e) ∧
    (runEnd s e).fld (LE_STAT_STATE e) = 2 ∧ (runEnd s e).fld (LE_STAT_ORUN_SEQ e) = 0 ∧
    (runEnd s e).fld (LE_CYC_LAST e) = (s.engOf e).cycles % 2 ^ (LE_CYC_LAST e).width ∧ (runEnd s e).eng = s.eng := by
  rw [runEnd_stays stays]
  generalize counted : s.inc (LE_CNT_RUN_RUNS e) = t
  have engines : t.eng = s.eng := counted ▸ rfl
  have shown {f : Fld} {v : Nat} (mem : (f, v) ∈ endFields t e) :
      ((t.putAll (endFields t e)).leIrq e (LE_CFG_DONE_IE e) 0).fld f = v % 2 ^ f.width :=
    (State.fld_congr (leIrq_regs ..) f).trans (State.fld_putAll_mem (endFields_apart t e) mem t)
  have step : MeasureStep (fun _ => False) s t := counted ▸ (MeasureStep.refl s).putLe small not_false
  refine ⟨(step.putAllLe small ?_ fun _ _ => not_false).leIrq _ _, shown (.tail _ (.tail _ (.tail _ (.head _)))),
    shown (.tail _ (.tail _ (.head _))), ?_, ?_⟩
  · simp [endFields, leKey]
  · rw [← State.engOf_congr engines e]
    exact shown (.head _)
  · exact (leIrq_eng ..).trans ((State.putAll_frame (p := State.eng) (fun _ _ _ => rfl) _ t).trans engines)

/-- What EVT shows; no field but its own two is written. -/
theorem evtRaise_shows (small : e < 32) (s : State) (code : Nat) : MeasureStep (fun k => k = (LE_STAT_STATE e).key) s (evtRaise s e code) ∧
    (evtRaise s e code).fld (LE_EVT_CODE e) = code % 2 ^ (LE_EVT_CODE e).width ∧ (evtRaise s e code).fld (LE_EVT_EVT_FLAG e) = 1 ∧
    (evtRaise s e code).eng = s.eng := by
  have apart : [(LE_EVT_CODE e, code), (LE_EVT_EVT_FLAG e, 1)].Pairwise fun a b => a.1.key ≠ b.1.key := by simp
  have shown {f : Fld} {v : Nat} (mem : (f, v) ∈ [(LE_EVT_CODE e, code), (LE_EVT_EVT_FLAG e, 1)]) : (evtRaise s e code).fld f = v % 2 ^ f.width :=
    (State.fld_congr (leIrq_regs ..) f).trans (State.fld_putAll_mem apart mem s)
  refine ⟨((MeasureStep.refl s).putAllLe small ?_ ?_).leIrq _ _, shown (.head _), shown (.tail _ (.head _)), ?_⟩
  · simp [leKey]
  · simp
  · exact (leIrq_eng ..).trans (State.putAll_frame (p := State.eng) (fun _ _ _ => rfl) _ s)

end

/-- The set that COMMIT of `k` duties from register `first` sends for group `g`. -/
def Eng.sent (x : Eng) (g first k : Nat) (ph : Bool) (per : Option Nat) : Flight where
  group := g
  duties := (List.range k).map fun i => x.mant (first + i)
  phases := if ph then some ((List.range k).map fun i => x.mant (first + k + i)) else none
  period := per.map fun r => (Tbl.get 0 x.m r).toNat % 2 ^ 24

theorem Eng.sent_shows (x : Eng) (g first k : Nat) (ph : Bool) (per : Option Nat) :
    ((x.sent g first k ph per).group, (x.sent g first k ph per).duties, (x.sent g first k ph per).phases.isSome,
      (x.sent g first k ph per).period.isSome) = (g, (List.range k).map (fun i => x.mant (first + i)), ph, per.isSome) := by
  cases ph <;> cases per <;> rfl

theorem leCommit_eq (s : State) (e g first k : Nat) (ph : Bool) (per : Option Nat) : leCommit s e (.commit g first k ph per) =
    some (s.setEng e { s.engOf e with flight := (s.engOf e).flight ++ [(s.engOf e).sent g first k ph per] }) := rfl

/-! ### Control, EVT and COMMIT (R190, R201, R202, R209, R214) -/

section
variable {s : State} {e : Fin 32} (quiet : s.quiet = true)
include quiet

theorem exec_leSkip {c n : Nat} (at_ : s.atOp e (.skip c n)) :
    ∃ t, exec (.leSkip e .clean) s = .next t ∧ t.regs = s.regs ∧ t.words = s.words ∧
    (t.engOf e).m = (s.engOf e).m ∧
    t.engOf e = loopStep (loopStep { s.engOf e with pc := (s.engOf e).pc + 1 + (if (s.engOf e).cond c then n else 0),
                                                    cycles := (s.engOf e).cycles + (LeOp.skip c n).charge }) ∧
    ((s.engOf e).loops = [] → (t.engOf e).pc = (s.engOf e).pc + 1 + (if (s.engOf e).cond c then n else 0)) := by
  have skipped : ∃ u, leSkip (advanced s e (.skip c n)) e (.skip c n) = some u ∧ EngineStep e (advanced s e (.skip c n)) u ∧
      u.regs = s.regs ∧ u.words = s.words ∧
      u.engOf e = { s.engOf e with pc := (s.engOf e).pc + 1 + (if (s.engOf e).cond c then n else 0),
                                   cycles := (s.engOf e).cycles + (LeOp.skip c n).charge } := by
    simp only [leSkip, cond_advanced]
    cases (s.engOf e).cond c with
    | true => exact ⟨_, rfl, (EngineStep.refl _).setEng _, rfl, rfl, by simp [engOf_advanced]⟩
    | false => exact ⟨_, rfl, .refl _, rfl, rfl, engOf_advanced ..⟩
  obtain ⟨u, sem_, step, regs, words, eng⟩ := skipped
  refine ⟨_, ran_store quiet at_ step sem_, regs, words, ?_, (engOf_looped u e).trans (congrArg (fun x => loopStep (loopStep x)) eng),
    fun none => ?_⟩
  · exact m_looped.trans ((congrArg Eng.m eng).trans rfl)
  · have left : (u.engOf e).loops = [] := ((congrArg Eng.loops eng).trans rfl).trans none
    rw [engOf_looped, loopStep_open _ left, loopStep_open _ left]
    exact congrArg Eng.pc eng

theorem exec_leLoop {c n : Nat} (at_ : s.atOp e (.loop c n)) (body : 0 < n) : ∃ t, exec (.leLoop e .clean) s = .next t ∧
    t.regs = s.regs ∧ t.words = s.words ∧ (t.engOf e).pc = (s.engOf e).pc + 1 ∧
    (t.engOf e).loops = ((s.engOf e).pc + 1, (s.engOf e).pc + 1 + n, c) :: (s.engOf e).loops := by
  obtain ⟨x, opened⟩ : ∃ x, x = { (advanced s e (.loop c n)).engOf e with
    loops := ((s.engOf e).pc + 1, (s.engOf e).pc + 1 + n, c) :: (s.engOf e).loops } := ⟨_, rfl⟩
  have sem_ : leLoop (advanced s e (.loop c n)) e (.loop c n) = some ((advanced s e (.loop c n)).setEng e x) := by
    simp only [leLoop, pc_advanced, loops_advanced, opened]
  have stays : loopStep x = x := by
    have inside : x.pc ≠ (s.engOf e).pc + 1 + n := by rw [opened, pc_advanced]; omega
    simp only [loopStep, opened] at inside ⊢
    rw [if_neg inside]
  refine ⟨_, ran_store quiet at_ ((EngineStep.refl _).setEng _) sem_, rfl, rfl, ?_, ?_⟩
  · rw [engOf_looped, State.engOf_setEng_same, stays, stays, opened, pc_advanced]
  · rw [engOf_looped, State.engOf_setEng_same, stays, stays, opened]

theorem exec_leEnd (at_ : s.atOp e .fin) (stays : (s.engOf e).disarm = false) : ∃ t, exec (.leEnd e .clean) s = .next t ∧
    t.fld (LE_STAT_STATE e) = 2 ∧ t.fld (LE_STAT_ORUN_SEQ e) = 0 ∧
    t.fld (LE_CYC_LAST e) = ((s.engOf e).cycles + 1) % 2 ^ (LE_CYC_LAST e).width ∧ t.words = s.words ∧ (t.engOf e).m = (s.engOf e).m := by
  have own : (libId s e).isNone = true := by rw [at_.2.1]; rfl
  obtain ⟨step, state, orun, cycles, eng⟩ := runEnd_shows e.isLt (s := advanced s e .fin) (disarm_advanced.trans stays)
  have watch := ((EngineStep.advanced s e .fin).watch e.isLt).trans (step.watch.trans ((EngineStep.refl _).looped.watch e.isLt))
  have after : endRun s e .clean = looped (runEnd (advanced s e .fin) e) e := (if_pos own).trans (leStep_clean at_ rfl)
  rw [cycles_advanced] at cycles
  refine ⟨_, congrArg Host.Outcome.next ((congrArg (settle s) after).trans (settle_quiet quiet watch)), state, orun, cycles, step.words, ?_⟩
  exact m_looped.trans ((congrArg Eng.m (State.engOf_congr eng e)).trans m_advanced)

theorem exec_leEvt_holds {c n : Nat} (at_ : s.atOp e (.evt c n)) (holds : (s.engOf e).cond c = true) : ∃ t, exec (.leEvt e .clean) s = .next t ∧
    t.fld (LE_EVT_CODE e) = n % 2 ^ (LE_EVT_CODE e).width ∧ t.fld (LE_EVT_EVT_FLAG e) = 1 ∧ t.words = s.words ∧
    (t.engOf e).m = (s.engOf e).m := by
  have sem_ : leEvt (advanced s e (.evt c n)) e (.evt c n) = some (evtRaise (advanced s e (.evt c n)) e n) := by
    simp only [leEvt, cond_advanced, holds, if_true]
  obtain ⟨step, code, flag, eng⟩ := evtRaise_shows e.isLt (advanced s e (.evt c n)) n
  have watch := ((EngineStep.advanced s e (.evt c n)).watch e.isLt).trans (step.watch.trans ((EngineStep.refl _).looped.watch e.isLt))
  refine ⟨_, congrArg Host.Outcome.next ((congrArg (settle s) (leStep_clean at_ sem_)).trans (settle_quiet quiet watch)), code, flag,
    step.words, ?_⟩
  exact m_looped.trans ((congrArg Eng.m (State.engOf_congr eng e)).trans m_advanced)

theorem exec_leCommit {g a b : Nat} {ph : Bool} {per : Option Nat} (at_ : s.atOp e (.commit g a b ph per)) :
    ∃ t, exec (.leCommit e .clean) s = .next t ∧ leRan s t e (.commit g a b ph per) ∧ (t.engOf e).m = (s.engOf e).m ∧
      (t.engOf e).flight.dropLast = (s.engOf e).flight ∧
      (t.engOf e).flight.getLast?.map (fun f => (f.group, f.duties, f.phases.isSome, f.period.isSome)) =
        some (g, (List.range b).map (fun i => (s.engOf e).mant (a + i)), ph, per.isSome) := by
  obtain ⟨after, ran⟩ := ran quiet at_ (by exact (Proceeds.refl _).setEng rfl) (leCommit_eq _ e g a b ph per)
  refine ⟨_, after, ran, ?_, ?_, ?_⟩
  · rw [m_looped, State.engOf_setEng_same]
    exact m_advanced
  · rw [flight_looped, State.engOf_setEng_same, List.dropLast_concat, flight_advanced]
  · rw [flight_looped, State.engOf_setEng_same, List.getLast?_concat, Option.map_some, Eng.sent_shows]
    simp only [mant_advanced]

end

/-! ### The obligation -/

/-- Settles O38, by one lemma per kind of instruction. -/
theorem engineOtherInstructions : Obligations.EngineOtherInstructions := by
  intro s e quiet d a b n c imm k x m1 ph per
  refine ⟨fun at_ => ?_, exec_leSt quiet, exec_leSts quiet, fun at_ => ?_, fun at_ => ?_, fun at_ => ?_, fun at_ => ?_, fun at_ => ?_,
    fun at_ => ?_, fun at_ => ?_, fun at_ => ?_, fun at_ => ?_, exec_leNorm quiet, fun mask nse => exec_leStage quiet, fun at_ => ?_,
    exec_leSkip quiet, exec_leLoop quiet, exec_leEnd quiet, exec_leEvt_holds quiet, fun at_ fails => ?_, exec_leCommit quiet⟩
  · obtain ⟨after, ran⟩ := ran quiet at_ (.refl _) (sem := leNop) rfl
    exact ⟨_, after, ran, m_looped.trans m_advanced, a_looped.trans a_advanced⟩
  · obtain ⟨after, ran⟩ := ran quiet at_ (by exact (Proceeds.refl _).setEng rfl) (sem := leLdp) rfl
    refine ⟨_, after, ran, ?_, m_looped.trans ?_⟩
    · rw [ptr_looped, State.engOf_setEng_same, Eng.ptr_setP_same]
    · exact (congrArg Eng.m (State.engOf_setEng_same ..)).trans m_advanced
  · obtain ⟨after, ran⟩ := ran quiet at_ (by exact (Proceeds.refl _).setEng rfl) (sem := leAddp) rfl
    refine ⟨_, after, ran, ?_, m_looped.trans ?_⟩
    · rw [ptr_looped, State.engOf_setEng_same, Eng.ptr_setP_same, ptr_advanced]
      omega
    · exact (congrArg Eng.m (State.engOf_setEng_same ..)).trans m_advanced
  · exact ran_leA quiet at_ (.refl _) (by simp only [leMac, leMacTo, mant_advanced, accu_advanced])
  · exact ran_leA_coef quiet at_ (term := fun m c => m * c) rfl
  · exact ran_leA quiet at_ (.refl _) (by simp only [leMsu, leMacTo, mant_advanced, accu_advanced])
  · exact ran_leA_coef quiet at_ (term := fun m c => -(m * c)) rfl
  · exact ran_leA_kept quiet at_ (by decide) rfl
  · have range := (s.engOf e).mant_range a
    exact ran_leA_kept quiet at_ (by simp only [minM, maxM, minA, maxA] at range ⊢; omega) (by simp only [leLdam, mant_advanced])
  · exact ran_leA quiet at_ (.refl _) (by simp only [leAdda, mant_advanced, accu_advanced])
  · obtain ⟨after, ran⟩ := ran quiet at_ (by exact (Proceeds.refl _).setEng rfl) (sem := leCmp) rfl
    refine ⟨_, after, ran, ?_, ?_, ?_⟩
    · rw [m_looped, State.engOf_setEng_same]
      exact m_advanced
    · rw [lt_looped, State.engOf_setEng_same]
      simp
    · rw [eq_looped, State.engOf_setEng_same]
      simp
  · have sem_ : leEvt (advanced s e (.evt c n)) e (.evt c n) = some (advanced s e (.evt c n)) := by
      simp only [leEvt, cond_advanced, fails, Bool.false_eq_true, if_false]
    obtain ⟨after, ran⟩ := ran quiet at_ (.refl _) sem_
    exact ⟨_, after, ran, rfl⟩

end Sys2Proof.Machine
end

section

/-! SUPPORT and PROOFS of the vector instructions (chapter 07, R202, R203). -/

namespace Sys2Proof.Machine

/-! ### Rotations (R202) -/

section
variable {s u : State} {e : Fin 32} {op : LeOp} {sem : State → Nat → LeOp → Option State} (quiet : s.quiet = true) (at_ : s.atOp e op)
include quiet at_

/-- An instruction that writes mantissas `d` and `d + 1`, saturated. -/
theorem ran_pair {v w : Int} {d : Nat} (sem_ : sem (advanced s e op) e op = some (leM (leM (advanced s e op) e d v) e (d + 1) w)) :
    ∃ t, leOutcome s e sem = .next t ∧ leRan s t e op ∧ (t.engOf e).mant d = satM v ∧ (t.engOf e).mant (d + 1) = satM w ∧
      ∀ r, r ≠ d → r ≠ d + 1 → (t.engOf e).mant r = (s.engOf e).mant r := by
  obtain ⟨after, ran⟩ := ran quiet at_ (((Proceeds.refl _).leM d v).leM (d + 1) w) sem_
  refine ⟨_, after, ran, ?_, ?_, fun r first second => ?_⟩
  · rw [mant_looped, mant_leM, if_neg (by omega), mant_leM, if_pos rfl]
  · rw [mant_looped, mant_leM, if_pos rfl]
  · rw [mant_looped, mant_leM, if_neg second, mant_leM, if_neg first, mant_advanced]

end

/-! ### Roots and angles (R195, R202) -/

/-- The root found bit by bit: from `r` on, with `k` bits left, the result's square is the largest within `n`. -/
theorem sqrtBits_bounds (n : Nat) : ∀ k r : Nat, r * r ≤ n → n < (r + 2 ^ k) * (r + 2 ^ k) →
    sqrtBits n k r * sqrtBits n k r ≤ n ∧ n < (sqrtBits n k r + 1) * (sqrtBits n k r + 1)
  | 0, r, low, high => ⟨low, high⟩
  | k + 1, r, low, high => by
    unfold sqrtBits
    dsimp only
    split
    next fits => exact sqrtBits_bounds n k _ fits (by rw [add_assoc, ← two_mul, ← pow_succ']; exact high)
    next past => exact sqrtBits_bounds n k r low (by omega)

/-- The root of a square is exact. -/
theorem isqrt_square {bits m : Nat} (small : m < 2 ^ bits) : isqrt bits (m * m) = m := by
  obtain ⟨low, high⟩ := sqrtBits_bounds (m * m) bits 0 (Nat.zero_le _) (by rw [zero_add]; exact Nat.mul_self_lt_mul_self small)
  have below : isqrt bits (m * m) ≤ m := Nat.mul_self_le_mul_self_iff.1 low
  have above : m < isqrt bits (m * m) + 1 := Nat.mul_self_lt_mul_self_iff.1 high
  omega

theorem rootRound_zero (n : Int) (q : Nat) : rootRound n 0 q = 0 := by
  have root : isqrt 128 0 = 0 := isqrt_square (m := 0) (by decide)
  simp only [rootRound, mul_zero, zero_mul, Int.natAbs_zero, Nat.zero_div, root, if_true]
  split <;> rfl

/-- Every angle of half a code to a quarter of a turn lies above the axis. -/
theorem sin_halving_pos : ∀ n < 36, 0 < (sinCosTurn 37 (2 ^ n)).1 := by decide +kernel

theorem angleBits_axis {x : Int} (pos : 0 < x) : ∀ n ≤ 36, angleBits x 0 n 0 = 0
  | 0, _ => rfl
  | n + 1, le => by
    have above := sin_halving_pos n (by omega)
    unfold angleBits
    dsimp only
    rw [zero_add, zero_mul, if_neg (not_le.2 (mul_pos pos above))]
    exact angleBits_axis pos n (by omega)

theorem atanCode_axis {x : Int} (pos : 0 < x) : atanCode x 0 = 0 := by
  have abs : ((x.natAbs : Nat) : Int) = x := by omega
  have bits := angleBits_axis pos 36 le_rfl
  simp only [atanCode, abs, bits, Int.natAbs_zero, Nat.cast_zero, pos.ne', pos.not_gt, decide_false, Bool.false_and, if_false,
    lt_irrefl]
  decide

/-! ### SINCOS (R202) -/

/-- The mantissa that SINCOS gives lies within 2^-32 of the value, limited to one. -/
theorem nearMant_bound (t : Int) (f : Nat) : minM ≤ nearMant t f ∧ nearMant t f ≤ maxM ∧
    (nearMant t f * 2 ^ 29 - clampInt (-2 ^ 64) (2 ^ 64) t).natAbs ≤ 2 ^ 32 := by
  unfold nearMant
  split
  next one => subst one; decide
  next other =>
    split
    next minus => subst minus; decide
    next inner =>
      dsimp only
      have pos : 0 < (t + 2 ^ 32) / 2 ^ 29 - -((-(t - 2 ^ 32)) / 2 ^ 29) + 1 := by omega
      have least := Int.emod_nonneg (f : Int) pos.ne'
      have most := Int.emod_lt_of_pos (f : Int) pos
      generalize (f : Int) % ((t + 2 ^ 32) / 2 ^ 29 - -((-(t - 2 ^ 32)) / 2 ^ 29) + 1) = pick at *
      simp only [clampInt, minM, maxM]
      omega

/-- The duty of no voltage is one half. -/
theorem half_duty {one : Int} (pos : 0 < one) : clampInt 0 maxM (divRound (one * 2 ^ 35) (2 * one)) = 2 ^ 34 := by
  have quotient : divRound (one * 2 ^ 35) (2 * one) = 2 ^ 34 := by
    rw [divRound, show 2 * (one * 2 ^ 35) + 2 * one = one * (2 ^ 36 + 2) by ring, show 2 * (2 * one) = one * 4 by ring,
      Int.mul_ediv_mul_of_pos _ _ pos]
    decide
  rw [quotient]
  decide

section
variable {s : State} {e : Fin 32} (quiet : s.quiet = true)
include quiet

theorem exec_leSincos {d a : Nat} (at_ : s.atOp e (.sincos d a)) : ∃ t, exec (.leSincos e .clean) s = .next t ∧ leRan s t e (.sincos d a) ∧
    ((t.engOf e).mant d * 2 ^ 29 - clampInt (-2 ^ 64) (2 ^ 64) (sinCosTurn 36 ((s.engOf e).mant a)).2).natAbs ≤ 2 ^ 32 ∧
    ((t.engOf e).mant (d + 1) * 2 ^ 29 - clampInt (-2 ^ 64) (2 ^ 64) (sinCosTurn 36 ((s.engOf e).mant a)).1).natAbs ≤ 2 ^ 32 := by
  obtain ⟨u, f, g, drawn, sem_⟩ : ∃ u f g, Proceeds e (advanced s e (.sincos d a)) u ∧
      leSincos (advanced s e (.sincos d a)) e (.sincos d a) = some (leM (leM u e d (nearMant (sinCosTurn 36 ((s.engOf e).mant a)).2 f)) e (d + 1)
        (nearMant (sinCosTurn 36 ((s.engOf e).mant a)).1 g)) :=
    ⟨(advanced s e (.sincos d a)).fresh.2.fresh.2, (advanced s e (.sincos d a)).fresh.1, (advanced s e (.sincos d a)).fresh.2.fresh.1,
      ⟨⟨fun _ _ => rfl, fun _ _ => rfl, rfl⟩, rfl, rfl⟩, by simp only [leSincos, mant_advanced]⟩
  obtain ⟨after, ran⟩ := ran quiet at_ ((drawn.leM d _).leM (d + 1) _) sem_
  obtain ⟨cosLow, cosHigh, cosNear⟩ := nearMant_bound (sinCosTurn 36 ((s.engOf e).mant a)).2 f
  obtain ⟨sinLow, sinHigh, sinNear⟩ := nearMant_bound (sinCosTurn 36 ((s.engOf e).mant a)).1 g
  refine ⟨_, after, ran, ?_, ?_⟩
  · rwa [mant_looped, mant_leM, if_neg (by omega), mant_leM, if_pos rfl, satM_eq cosLow cosHigh]
  · rwa [mant_looped, mant_leM, if_pos rfl, satM_eq sinLow sinHigh]

/-! ### VLIM, POLAR and SVM (R202, R203) -/

theorem exec_leVlim_within {d a : Nat} (at_ : s.atOp e (.vlim d a))
    (within : (s.engOf e).mant d * (s.engOf e).mant d + (s.engOf e).mant (d + 1) * (s.engOf e).mant (d + 1) ≤
      max ((s.engOf e).mant a) 0 * max ((s.engOf e).mant a) 0) :
    ∃ t, exec (.leVlim e .clean) s = .next t ∧ leRan s t e (.vlim d a) ∧ t.regs = s.regs ∧ (t.engOf e).m = (s.engOf e).m := by
  have square := add_nonneg (mul_self_nonneg ((s.engOf e).mant d)) (mul_self_nonneg ((s.engOf e).mant (d + 1)))
  have sem_ : leVlim (advanced s e (.vlim d a)) e (.vlim d a) = some (advanced s e (.vlim d a)) := by
    simp only [leVlim, mant_advanced, Int.natAbs_of_nonneg square, if_neg within.not_gt]
  obtain ⟨after, ran⟩ := ran quiet at_ (.refl _) sem_
  exact ⟨_, after, ran, rfl, m_looped.trans m_advanced⟩

theorem exec_leVlim_beyond {d a : Nat} (at_ : s.atOp e (.vlim d a)) (beyond : max ((s.engOf e).mant a) 0 * max ((s.engOf e).mant a) 0 <
      (s.engOf e).mant d * (s.engOf e).mant d + (s.engOf e).mant (d + 1) * (s.engOf e).mant (d + 1)) :
    ∃ t, exec (.leVlim e .clean) s = .next t ∧ leRan s t e (.vlim d a) ∧ t.fld (LE_STAT_LIM e) = 1 ∧ (t.engOf e).lim = true ∧
      ((s.engOf e).mant a ≤ 0 → (t.engOf e).mant d = 0 ∧ (t.engOf e).mant (d + 1) = 0) := by
  have square := add_nonneg (mul_self_nonneg ((s.engOf e).mant d)) (mul_self_nonneg ((s.engOf e).mant (d + 1)))
  obtain ⟨q, root⟩ : ∃ q : Nat, q = ((s.engOf e).mant d * (s.engOf e).mant d + (s.engOf e).mant (d + 1) * (s.engOf e).mant (d + 1)).natAbs :=
    ⟨_, rfl⟩
  obtain ⟨u, v, scaled, sem_⟩ : ∃ u v, ((s.engOf e).mant a ≤ 0 → u = 0 ∧ v = 0) ∧ leVlim (advanced s e (.vlim d a)) e (.vlim d a) =
      some (markLim (leM (leM (advanced s e (.vlim d a)) e d u) e (d + 1) v) e) := by
    refine ⟨rootRound ((s.engOf e).mant d) (max ((s.engOf e).mant a) 0) q, rootRound ((s.engOf e).mant (d + 1)) (max ((s.engOf e).mant a) 0) q,
      fun none => by rw [max_eq_right none, rootRound_zero, rootRound_zero]; exact ⟨rfl, rfl⟩, ?_⟩
    simp only [leVlim, mant_advanced, root]
    rw [if_pos (by rw [Int.natAbs_of_nonneg square]; exact beyond)]
  obtain ⟨after, ran⟩ := ran quiet at_ (((Proceeds.refl _).leM d u).leM (d + 1) v).markLim sem_
  have limited := engOf_markLim (leM (leM (advanced s e (.vlim d a)) e d u) e (d + 1) v) e
  have mant (r : Nat) := (congrArg (fun x => Eng.mant x r) limited).trans (mant_leM ..)
  refine ⟨_, after, ran, markLim_flag _ e, lim_looped.trans (congrArg Eng.lim limited), fun none => ?_⟩
  obtain ⟨first, second⟩ := scaled none
  refine ⟨?_, ?_⟩
  · rw [mant_looped, mant, if_neg (by omega), mant_leM, if_pos rfl, first, satM_zero]
  · rw [mant_looped, mant, if_pos rfl, second, satM_zero]

theorem exec_lePolar_axis {d a : Nat} (at_ : s.atOp e (.polar d a)) (pos : 0 < (s.engOf e).mant a) (axis : (s.engOf e).mant (a + 1) = 0) :
    ∃ t, exec (.lePolar e .clean) s = .next t ∧ leRan s t e (.polar d a) ∧ (t.engOf e).mant d = (s.engOf e).mant a ∧
      (t.engOf e).mant (d + 1) = 0 := by
  obtain ⟨m, value⟩ : ∃ m : Nat, (s.engOf e).mant a = m := ⟨((s.engOf e).mant a).toNat, by omega⟩
  have range := (s.engOf e).mant_range a
  have length : isqrt 40 (4 * (m * m)) = 2 * m := by
    rw [show 4 * (m * m) = 2 * m * (2 * m) by ring]
    exact isqrt_square (by simp only [maxM] at range; omega)
  have sem_ : lePolar (advanced s e (.polar d a)) e (.polar d a) =
      some (leM (leM (advanced s e (.polar d a)) e d ((s.engOf e).mant a)) e (d + 1) 0) := by
    have half : (2 * m + 1) / 2 = m := by omega
    have square : ((m : Int) * m).natAbs = m * m := by rw [Int.natAbs_mul, Int.natAbs_natCast]
    simp only [lePolar, mant_advanced, axis, atanCode_axis pos, mul_zero, add_zero]
    rw [value, square, length, half]
  obtain ⟨t, after, ran, first, second, -⟩ := ran_pair quiet at_ sem_
  exact ⟨t, after, ran, first.trans (satM_mant _ a), second.trans satM_zero⟩

theorem exec_leSvm_zero {d a : Nat} (at_ : s.atOp e (.svm d a)) (alpha : (s.engOf e).mant a = 0) (beta : (s.engOf e).mant (a + 1) = 0) :
    ∃ t, exec (.leSvm e .clean) s = .next t ∧ leRan s t e (.svm d a) ∧ (t.engOf e).mant d = 2 ^ 34 ∧ (t.engOf e).mant (d + 1) = 2 ^ 34 ∧
      (t.engOf e).mant (d + 2) = 2 ^ 34 ∧ ∀ r, r ≠ d → r ≠ d + 1 → r ≠ d + 2 → (t.engOf e).mant r = (s.engOf e).mant r := by
  have sem_ : leSvm (advanced s e (.svm d a)) e (.svm d a) =
      some (leM (leM (leM (advanced s e (.svm d a)) e d (2 ^ 34)) e (d + 1) (2 ^ 34)) e (d + 2) (2 ^ 34)) := by
    have one : (0 : Int) < 2 ^ (35 + 128 + (-(s.engOf e).se).toNat) := by positivity
    simp only [leSvm, mant_advanced, se_advanced, alpha, beta, zero_mul, Int.zero_ediv, neg_zero, add_zero, sub_zero, max_self, min_self,
      mul_zero, zero_add, if_neg one.not_gt, half_duty one, decide_eq_false one.not_gt]
    rfl
  obtain ⟨after, ran⟩ := ran quiet at_ ((((Proceeds.refl _).leM d _).leM (d + 1) _).leM (d + 2) _) sem_
  have half : satM (2 ^ 34) = 2 ^ 34 := by decide
  refine ⟨_, after, ran, ?_, ?_, ?_, fun r first second third => ?_⟩
  · rw [mant_looped, mant_leM, if_neg (by omega), mant_leM, if_neg (by omega), mant_leM, if_pos rfl, half]
  · rw [mant_looped, mant_leM, if_neg (by omega), mant_leM, if_pos rfl, half]
  · rw [mant_looped, mant_leM, if_pos rfl, half]
  · rw [mant_looped, mant_leM, if_neg third, mant_leM, if_neg second, mant_leM, if_neg first, mant_advanced]

end

/-! ### The obligation -/

/-- Settles O39: rotations and CLARKE write a pair of registers, SINCOS by `nearMant_bound`, POLAR by `isqrt_square` and `atanCode_axis`. -/
theorem engineVectorInstructions : Obligations.EngineVectorInstructions := by
  intro s e quiet d a b
  refine ⟨fun at_ => ?_, fun at_ => ?_, fun at_ => ?_, fun at_ => ?_, exec_leVlim_within quiet, exec_leVlim_beyond quiet, exec_leSincos quiet,
    exec_lePolar_axis quiet, exec_leSvm_zero quiet⟩
  · exact ran_pair quiet at_ (by simp only [lePark, mant_advanced])
  · exact ran_pair quiet at_ (by simp only [leIpark, mant_advanced])
  · exact ran_pair quiet at_ (by simp only [leClarke, mant_advanced, Bool.false_eq_true, if_false])
  · obtain ⟨t, after, ran, first, second, others⟩ := ran_pair quiet at_ (sem := leClarke) (d := d) (v := (s.engOf e).mant a)
      (w := rootRound ((s.engOf e).mant a + 2 * (s.engOf e).mant (a + 1)) 1 3) (by simp only [leClarke, mant_advanced, if_true])
    exact ⟨t, after, ran, first.trans (satM_mant _ a), second, others⟩

end Sys2Proof.Machine
end

section

/-! SUPPORT of the states of a loop engine (chapter 07): what its steps leave alone, its commands, and the entry into OFF. -/

namespace Sys2Proof.Machine

/-! ### What the steps of an engine leave alone -/

section
variable {K : Nat → Prop} {r s : State} {e : Nat}

theorem stopsWait_finish (s : State) {w : WaitOn} (other : ∀ m, w ≠ .actIdle m) (st : Status) (res : Option Nat) :
    stopsWait (s.finish w st res) = stopsWait s := by
  simp only [stopsWait, State.finish, List.any_filter]
  congr 1
  funext x
  cases x.1 <;> simp [(other _).symm]

@[simp] theorem State.fld_finish (s : State) (w : WaitOn) (st : Status) (res : Option Nat) (f : Fld) :
    (s.finish w st res).fld f = s.fld f := rfl

theorem MeasureStep.finish (h : MeasureStep K r s) {w : WaitOn} (other : ∀ m, w ≠ .actIdle m) (st : Status) (res : Option Nat) :
    MeasureStep K r (s.finish w st res) := by
  have stops := stopsWait_finish s other st res
  exact h.trans ⟨⟨fun _ _ => rfl, rfl, rfl, fun _ _ => rfl, fun _ _ => rfl, fun _ _ => rfl, fun _ _ => rfl, rfl, stops.symm⟩,
    (Spares.refl s).of_regs rfl rfl, rfl⟩

theorem MeasureStep.setEng (h : MeasureStep K r s) (x : Eng) : MeasureStep K r (s.setEng e x) := h.beside rfl rfl rfl rfl rfl

theorem MeasureStep.each_mem {α : Type} {f : State → α → State} {l : List α} (h : MeasureStep K r s)
    (turn : ∀ t, ∀ a ∈ l, MeasureStep K t (f t a)) : MeasureStep K r (s.each l f) := by
  induction l generalizing s with
  | nil => exact h
  | cons a l ih => exact ih (h.trans (turn s a (.head l))) fun t b mem => turn t b (.tail a mem)

theorem MeasureStep.leRefuse (h : MeasureStep K r s) (st : Status) (last : ¬ K LE_ERR_LAST_ERR.key) (count : ¬ K LE_ERR_ERR_CNT.key)
    (engine : ¬ K LE_ERR_ENGINE.key) : MeasureStep K r (s.leRefuse e st) :=
  ((h.put (f := LE_ERR_LAST_ERR) (by decide) last).put (f := LE_ERR_ERR_CNT) (by decide) count).put (by decide) engine

theorem MeasureStep.abandonCheck (h : MeasureStep K r s) : MeasureStep K r (abandonCheck s e) :=
  .ite (h.finish (w := .engineArm e) (fun _ => nofun) _ _) h

theorem MeasureStep.takeSwap (small : e < 32) (h : MeasureStep K r s) (bank : ¬ K (LE_STAT_BANK e).key)
    (pend : ¬ K (LE_STAT_SWAP_PEND e).key) : MeasureStep K r (takeSwap s e) :=
  .ite (((h.putLe small bank).putLe small pend).finish (w := .engineSwap e) (fun _ => nofun) _ _) h

theorem watchedKey_leGroup {g : Nat} (group : g < 12) : watchedKey (LE_G_GRP_ENGINE g).key = false := by
  interval_cases g <;> decide

theorem MeasureStep.groupsFreed (h : MeasureStep K r s) (groups : ∀ g < 12, ¬ K (LE_G_GRP_ENGINE g).key) :
    MeasureStep K r (groupsFreed s e) :=
  h.each_mem fun t g mem => .ite ((MeasureStep.refl t).put (watchedKey_leGroup (List.mem_range.1 mem)) (groups g (List.mem_range.1 mem))) (.refl t)

end

/-! ### Commands (R193, R208) -/

theorem safetyOnly_le (e : Fin 32) : safetyOnly (0x40014000 + 0x20000 * e.val) = false := by
  have g1 : ¬ 0x60000000 ≤ 0x40014000 + 0x20000 * e.val := by omega
  have g2 : 0x40014000 + 0x20000 * e.val ≠ 0x60060400 := by omega
  have g3 : 0x40014000 + 0x20000 * e.val ≠ 0x60068090 := by omega
  have g4 : 0x40014000 + 0x20000 * e.val ≠ 0x60068094 := by omega
  simp only [safetyOnly, blkAt, g1, g2, g3, g4, decide_false, Bool.false_and, Bool.false_eq_true, if_false, Bool.or_false,
    decide_eq_false_iff_not]
  split <;> simp

section
variable {s : State} (p : Fin 12) {e : Fin 32} (up : s.allUp = true) (open_ : bankShut s (0x40014000 + 0x20000 * e.val) = false)
include up open_

theorem regWr_le (act : State → State × Status) : regWr s (.pair p) (0x40014000 + 0x20000 * e.val) act = (act s).1 := by
  simp [regWr, regBy, touch_allUp _ up, open_, safetyOnly_le]

theorem exec_engineArm : exec (.engineArm (.pair p) e) s = .next (settle s (engineArm s e).1) :=
  congrArg (fun t => Host.Outcome.next (settle s t)) (regWr_le p up open_ _)

theorem exec_engineDisarm : exec (.engineDisarm (.pair p) e) s = .next (settle s (engineDisarm s e)) :=
  congrArg (fun t => Host.Outcome.next (settle s t)) (regWr_le p up open_ _)

theorem exec_engineStop : exec (.engineStop (.pair p) e) s = .next (settle s (engineStop s e)) :=
  congrArg (fun t => Host.Outcome.next (settle s t)) (regWr_le p up open_ _)

theorem exec_engineSwap : exec (.engineSwap (.pair p) e) s = .next (settle s (engineSwap s e)) :=
  congrArg (fun t => Host.Outcome.next (settle s t)) (regWr_le p up open_ _)

end

theorem engineDisarm_stops {s : State} {e : Nat} (on : s.fld (LE_STAT_STATE e) ≠ 0) (idle : s.fld (LE_STAT_STATE e) ≠ 3) :
    engineDisarm s e = engineStop s e := by
  rw [engineStop_on on]
  unfold engineDisarm
  split
  next off => exact absurd off on
  next run => exact absurd run idle
  next => rfl

/-! ### Entering OFF (R193, R208) -/

/-- The keys that an engine writes when it enters OFF: of its status, and the owners of the groups. -/
def offKey (e k : Nat) : Prop := (leBase e + 384 ≤ k ∧ k < leBase e + 394) ∨ (0x60030100 * 32 ≤ k ∧ k < 0x60030130 * 32)

theorem group_offKey (e : Nat) {g : Nat} (group : g < 12) : offKey e (LE_G_GRP_ENGINE g).key := by
  simp only [offKey, Fld.key, LE_G_GRP_ENGINE]
  omega

theorem offWritten_fld {s : State} {e : Nat} {f : Fld} {v : Nat}
    (mem : (f, v) ∈ [(LE_STAT_STATE e, 0), (LE_STAT_ESCALATED e, 0), (LE_STAT_ORUN_SEQ e, 0)]) : (offWritten s e).fld f = v % 2 ^ f.width :=
  State.fld_putAll_mem (by simp) mem s

section
variable {K : Nat → Prop} {r s : State} {e : Nat} (small : e < 32)
include small

theorem MeasureStep.offWritten (h : MeasureStep K r s) (state : ¬ K (LE_STAT_STATE e).key) (escalated : ¬ K (LE_STAT_ESCALATED e).key)
    (orun : ¬ K (LE_STAT_ORUN_SEQ e).key) : MeasureStep K r (offWritten s e) :=
  ((h.putLe small state).putLe small escalated).putLe small orun

/-- What stands when an engine enters OFF. -/
theorem MeasureStep.engineOff (h : MeasureStep K r s) (free : ∀ k, offKey e k → ¬ K k) : MeasureStep K r (engineOff s e) := by
  obtain ⟨v, shape⟩ := engineOff_eq s e
  rw [shape]
  have written := h.offWritten small (free _ (by simp [offKey])) (free _ (by simp [offKey])) (free _ (by simp [offKey]))
  have freed := (written.setEng (e := e) v).groupsFreed (e := e) fun g group => free _ (group_offKey e group)
  exact (freed.takeSwap small (free _ (by simp [offKey])) (free _ (by simp [offKey]))).finish (w := .engineOff e) (fun _ => nofun) _ _

end

theorem takeSwap_out (s : State) (e : Nat) : (takeSwap s e).out = s.out := by
  unfold takeSwap
  split <;> rfl

theorem takeSwap_pend (s : State) (e : Nat) : (takeSwap s e).fld (LE_STAT_SWAP_PEND e) = 0 := by
  unfold takeSwap
  split
  · rw [State.fld_finish]
    exact State.fld_put_same _ _ 0
  next none => simpa [State.flag] using none

theorem engineOff_out (s : State) (e : Nat) : (engineOff s e).out = s.out := by
  obtain ⟨v, shape⟩ := engineOff_eq s e
  rw [shape, State.finish_out, takeSwap_out]
  exact State.each_frame (p := State.out) (fun t g => by split <;> rfl) _ _

theorem engineOff_pend (s : State) (e : Nat) : (engineOff s e).fld (LE_STAT_SWAP_PEND e) = 0 := by
  obtain ⟨v, shape⟩ := engineOff_eq s e
  rw [shape, State.fld_finish, takeSwap_pend]

theorem engineOff_escalated (s : State) (e : Fin 32) : (engineOff s e).fld (LE_STAT_ESCALATED e) = 0 := by
  obtain ⟨v, shape⟩ := engineOff_eq s e
  have rest : MeasureStep (fun k => k = (LE_STAT_ESCALATED e).key) (offWritten s e) (takeSwap (groupsFreed ((offWritten s e).setEng e v) e) e) := by
    refine (((MeasureStep.refl _).setEng v).groupsFreed fun g group => ?_).takeSwap e.isLt (by simp) (by simp)
    simp only [Fld.key, LE_G_GRP_ENGINE, LE_STAT_ESCALATED]
    omega
  rw [shape, State.fld_finish, rest.spares.fld _ rfl]
  exact offWritten_fld (.tail _ (.head _))

/-- The groups of an engine that enters OFF become free; those of others stay. -/
theorem engineOff_groups (s : State) (e : Fin 32) (g : Fin 12) : (engineOff s e).fld (LE_G_GRP_ENGINE g) =
    if s.fld (LE_G_GRP_ENGINE g) = e.val then 63 else s.fld (LE_G_GRP_ENGINE g) := by
  obtain ⟨v, shape⟩ := engineOff_eq s e
  have low {k : Nat} (own : leKey e k) : k ≠ (LE_G_GRP_ENGINE g).key := by
    have := leKey_low e.isLt own
    simp only [Fld.key, LE_G_GRP_ENGINE]
    omega
  have written : MeasureStep (fun k => k = (LE_G_GRP_ENGINE g).key) s ((offWritten s e).setEng e v) :=
    ((MeasureStep.refl s).offWritten e.isLt (low (by simp [leKey])) (low (by simp [leKey])) (low (by simp [leKey]))).setEng v
  have swapped (t : State) : MeasureStep (fun k => k = (LE_G_GRP_ENGINE g).key) t (takeSwap t e) :=
    (MeasureStep.refl t).takeSwap e.isLt (low (by simp [leKey])) (low (by simp [leKey]))
  rw [shape, State.fld_finish, (swapped _).spares.fld _ rfl, ← written.spares.fld (LE_G_GRP_ENGINE g) rfl]
  refine State.each_own (q := fun t => t.fld (LE_G_GRP_ENGINE g)) (h := fun v => if v = e.val then 63 else v) (List.mem_range.2 g.isLt)
    List.nodup_range (fun t => ?_) (fun t b _ other => ?_) _
  · split
    · exact State.fld_put_same _ _ _
    · rfl
  · have apart : (LE_G_GRP_ENGINE g).key ≠ (LE_G_GRP_ENGINE b).key := by
      simp only [Fld.key, LE_G_GRP_ENGINE]
      omega
    split
    · exact State.fld_put_other _ _ _ _ apart
    · rfl

end Sys2Proof.Machine
end

section

/-! SUPPORT of the check of a loop engine (chapter 07, R206): what it shows when a program fails, passes, or declares a group of another
engine. -/

namespace Sys2Proof.Machine

/-! ### The check (R206) -/

/-- The result of the check as the status shows it. -/
def judged (s : State) (e : Nat) (r : CheckResult) : State := s.putAll [(LE_STAT_CHECK_CODE e, r.code), (LE_CHECK_ADDR e, r.at_)]

/-- The worst cases of a program that passes. -/
def passed (s : State) (e : Nat) (r : CheckResult) : State :=
  (judged s e r).putAll [(LE_WCET_A_CYCLES e, r.wcetA), (LE_WCET_B_CYCLES e, r.wcetB)]

/-- The groups of the mask are those of the engine. -/
def groupsTaken (s : State) (e mask : Nat) : State :=
  s.each ((List.range 12).filter fun g => mask.testBit g) fun s g => s.put (LE_G_GRP_ENGINE g) e

section
variable {s : State} {e : Nat} {r : CheckResult} (checking : s.fld (LE_STAT_STATE e) = 1) (result : checkProg (progOf s e) = r)

theorem checkEnd_other (other : s.fld (LE_STAT_STATE e) ≠ 1) : checkEnd s e = s := if_pos other

include checking result

theorem checkEnd_fails (bad : r.code ≠ 0) : checkEnd s e =
    engineOff (((judged s e r).leRefuse e .LE_CHECK_FAIL).finish (.engineArm e) .LE_CHECK_FAIL (some r.code)) e := by
  unfold checkEnd
  rw [if_neg (not_not.2 checking)]
  dsimp only
  rw [result, if_pos bad, decide_eq_false bad]
  rfl

theorem checkEnd_good (good : r.code = 0) : checkEnd s e = if groupOwned (passed s e r) e (progOf s e).mask then
    engineOff (((passed s e r).leRefuse e .LE_GROUP_OWNED).finish (.engineArm e) .LE_GROUP_OWNED (some 0)) e
  else ((groupsTaken (passed s e r) e (progOf s e).mask).put (LE_STAT_STATE e) 2).finish (.engineArm e) .OK (some 0) := by
  unfold checkEnd
  rw [if_neg (not_not.2 checking)]
  dsimp only
  rw [result, if_neg (not_not.2 good), decide_eq_true good]
  rfl

end

/-- Who owns a group depends on the words and on the states of the engines. -/
theorem groupOwned_congr {s t : State} (words : t.words = s.words) (states : ∀ k < 32, t.fld (LE_STAT_STATE k) = s.fld (LE_STAT_STATE k))
    (e mask : Nat) : groupOwned t e mask = groupOwned s e mask := by
  have masks (k : Nat) : (progOf t k).mask = (progOf s k).mask := by simp only [LeProg.mask, progOf, State.word_congr words]
  rw [Bool.eq_iff_iff]
  simp only [groupOwned, List.any_eq_true, List.mem_range]
  exact exists_congr fun k => and_congr_right fun small => by rw [states k small, masks k]

section
variable {s : State} {e : Fin 32} {r : CheckResult}

theorem passed_step {K : Nat → Prop} (code : ¬ K (LE_STAT_CHECK_CODE e).key) (addr : ¬ K (LE_CHECK_ADDR e).key)
    (a : ¬ K (LE_WCET_A_CYCLES e).key) (b : ¬ K (LE_WCET_B_CYCLES e).key) : MeasureStep K s (passed s e r) :=
  ((((MeasureStep.refl s).putLe e.isLt code).putLe e.isLt addr).putLe e.isLt a).putLe e.isLt b

theorem judged_step {K : Nat → Prop} (code : ¬ K (LE_STAT_CHECK_CODE e).key) (addr : ¬ K (LE_CHECK_ADDR e).key) :
    MeasureStep K s (judged s e r) := ((MeasureStep.refl s).putLe e.isLt code).putLe e.isLt addr

theorem judged_code (s : State) (e : Nat) (r : CheckResult) :
    (judged s e r).fld (LE_STAT_CHECK_CODE e) = r.code % 2 ^ (LE_STAT_CHECK_CODE e).width :=
  State.fld_putAll_mem (by simp) (.head _) s

theorem passed_code (s : State) (e : Nat) (r : CheckResult) :
    (passed s e r).fld (LE_STAT_CHECK_CODE e) = r.code % 2 ^ (LE_STAT_CHECK_CODE e).width :=
  (State.fld_put_other _ _ _ _ (by simp)).trans ((State.fld_put_other _ _ _ _ (by simp)).trans (judged_code s e r))

theorem passed_wcetA (s : State) (e : Nat) (r : CheckResult) :
    (passed s e r).fld (LE_WCET_A_CYCLES e) = r.wcetA % 2 ^ (LE_WCET_A_CYCLES e).width := State.fld_putAll_mem (by simp) (.head _) _

/-- The check does not bear on who owns a group. -/
theorem groupOwned_passed (s : State) (e : Fin 32) (r : CheckResult) (mask : Nat) :
    groupOwned (passed s e r) e mask = groupOwned s e mask := by
  have states (k : Nat) (small : k < 32) : (passed s e r).fld (LE_STAT_STATE k) = s.fld (LE_STAT_STATE k) := by
    refine (passed_step (K := fun q => q = (LE_STAT_STATE k).key) ?_ ?_ ?_ ?_).spares.fld _ rfl <;>
      (simp only [key_leCheckCode, key_leCheckAddr, key_leWcetA, key_leWcetB, key_leState, leBase]; omega)
  exact groupOwned_congr (passed_step (K := fun _ => False) id id id id).words states e mask

/-- The keys that a refusal of an engine writes. -/
theorem leRefuse_shows (s : State) (e : Fin 32) {st : Status} {n : Nat} (code : leErr.codeOf st = n) (small : n < 256) :
    (s.leRefuse e st).fld LE_ERR_LAST_ERR = n ∧ (s.leRefuse e st).fld LE_ERR_ENGINE = e.val := by
  refine ⟨?_, (State.fld_put_same _ _ _).trans (Nat.mod_eq_of_lt e.isLt)⟩
  have last : (s.put leErr.last (leErr.codeOf st)).fld LE_ERR_LAST_ERR = n := by
    rw [code]
    exact (State.fld_put_same s LE_ERR_LAST_ERR n).trans (Nat.mod_eq_of_lt small)
  exact (State.fld_put_other _ _ _ _ (by decide)).trans ((State.fld_put_other _ _ _ _ (by decide)).trans last)

/-- What an engine spares that enters OFF after a refusal of its ARM. -/
theorem refusedOff_step {K : Nat → Prop} (t : State) (e : Fin 32) (st : Status) (n : Nat) (free : ∀ k, offKey e k → ¬ K k)
    (last : ¬ K LE_ERR_LAST_ERR.key) (count : ¬ K LE_ERR_ERR_CNT.key) (engine : ¬ K LE_ERR_ENGINE.key) :
    MeasureStep K t (engineOff ((t.leRefuse e st).finish (.engineArm e) st (some n)) e) :=
  (((MeasureStep.refl t).leRefuse st last count engine).finish (w := .engineArm e) (fun _ => nofun) st (some n)).engineOff e.isLt free

/-- The refusal stands when the engine has entered OFF. -/
theorem refusedOff_error (t : State) (e : Fin 32) {st : Status} {c : Nat} (n : Nat) (code : leErr.codeOf st = c) (small : c < 256) :
    let u := engineOff ((t.leRefuse e st).finish (.engineArm e) st (some n)) e
    u.fld LE_ERR_LAST_ERR = c ∧ u.fld LE_ERR_ENGINE = e.val := by
  have stands : MeasureStep (fun k => 0x60030200 * 32 ≤ k) ((t.leRefuse e st).finish (.engineArm e) st (some n))
      (engineOff ((t.leRefuse e st).finish (.engineArm e) st (some n)) e) := by
    refine (MeasureStep.refl _).engineOff e.isLt fun k own => ?_
    simp only [offKey, leBase] at own
    omega
  obtain ⟨last, engine⟩ := leRefuse_shows t e code small
  exact ⟨(stands.spares.fld _ (by decide)).trans last, (stands.spares.fld _ (by decide)).trans engine⟩

/-- The keys of the result of the check, above those of the status that an engine writes when it enters OFF. -/
def resultKey (e k : Nat) : Prop := leBase e + 400 ≤ k ∧ k < leBase e + 800

theorem resultKey_free {e : Fin 32} {k : Nat} (own : resultKey e k) : ¬ offKey e k ∧ k < 0x60000000 * 32 := by
  simp only [resultKey, offKey, leBase] at own ⊢
  omega

theorem refusedOff_result (t : State) (e : Fin 32) (st : Status) (n : Nat) :
    MeasureStep (resultKey e) t (engineOff ((t.leRefuse e st).finish (.engineArm e) st (some n)) e) :=
  refusedOff_step t e st n (fun _ off own => (resultKey_free own).1 off) (fun own => absurd (resultKey_free own).2 (by decide))
    (fun own => absurd (resultKey_free own).2 (by decide)) fun own => absurd (resultKey_free own).2 (by decide)

/-- A program that fails: OFF with the code of the failure. -/
theorem checkEnd_fails_shows (checking : s.fld (LE_STAT_STATE e) = 1) (bad : (checkProg (progOf s e)).code ≠ 0) :
    (checkEnd s e).fld (LE_STAT_STATE e) = 0 ∧
    (checkEnd s e).fld (LE_STAT_CHECK_CODE e) = (checkProg (progOf s e)).code % 2 ^ (LE_STAT_CHECK_CODE e).width ∧
    (checkEnd s e).words = s.words ∧ (checkEnd s e).fld (LE_WCET_A_CYCLES e) = s.fld (LE_WCET_A_CYCLES e) ∧
    (checkEnd s e).fld (LE_WCET_B_CYCLES e) = s.fld (LE_WCET_B_CYCLES e) ∧ (checkEnd s e).fld LE_ERR_LAST_ERR = 5 := by
  generalize result : checkProg (progOf s e) = r at *
  have off := refusedOff_result (judged s e r) e .LE_CHECK_FAIL r.code
  have worst : MeasureStep (fun k => leBase e + 640 ≤ k) s (judged s e r) := judged_step (by simp) (by simp)
  rw [checkEnd_fails checking result bad]
  exact ⟨(engineOff_state _ e).2, (off.spares.fld _ (by simp [resultKey])).trans (judged_code s e r), off.words.trans worst.words,
    (off.spares.fld _ (by simp [resultKey])).trans (worst.spares.fld _ (by simp)),
    (off.spares.fld _ (by simp [resultKey])).trans (worst.spares.fld _ (by simp)), (refusedOff_error _ e r.code (by decide) (by decide)).1⟩

/-- A program that passes but declares a group of another engine: OFF with LE_GROUP_OWNED. -/
theorem checkEnd_owned_shows (checking : s.fld (LE_STAT_STATE e) = 1) (good : (checkProg (progOf s e)).code = 0)
    (owned : groupOwned s e (progOf s e).mask = true) : (checkEnd s e).fld (LE_STAT_STATE e) = 0 ∧ (checkEnd s e).fld LE_ERR_LAST_ERR = 6 ∧
    (checkEnd s e).fld LE_ERR_ENGINE = e.val ∧ (checkEnd s e).words = s.words := by
  generalize result : checkProg (progOf s e) = r at *
  rw [checkEnd_good checking result good, if_pos ((groupOwned_passed s e r _).trans owned)]
  obtain ⟨last, engine⟩ := refusedOff_error (passed s e r) e (st := .LE_GROUP_OWNED) 0 rfl (by decide)
  exact ⟨(engineOff_state _ e).2, last, engine, (refusedOff_result (passed s e r) e .LE_GROUP_OWNED 0).words.trans
    (passed_step (K := fun _ => False) id id id id).words⟩

theorem groupsTaken_step {K : Nat → Prop} (s : State) (e mask : Nat) (groups : ∀ g < 12, ¬ K (LE_G_GRP_ENGINE g).key) :
    MeasureStep K s (groupsTaken s e mask) :=
  (MeasureStep.refl s).each_mem fun t g mem =>
    have group := List.mem_range.1 (List.mem_filter.1 mem).1
    (MeasureStep.refl t).put (watchedKey_leGroup group) (groups g group)

theorem groupsTaken_owner (s : State) (e : Fin 32) {mask : Nat} {g : Fin 12} (named : mask.testBit g = true) :
    (groupsTaken s e mask).fld (LE_G_GRP_ENGINE g) = e.val := by
  have own (t : State) : (t.put (LE_G_GRP_ENGINE g) e).fld (LE_G_GRP_ENGINE g) = e.val :=
    (State.fld_put_same _ _ _).trans (Nat.mod_eq_of_lt (e.isLt.trans (show 32 < 2 ^ 6 by decide)))
  refine State.each_reaches (P := fun t => t.fld (LE_G_GRP_ENGINE g) = e.val) s (List.mem_filter.2 ⟨List.mem_range.2 g.isLt, named⟩) own
    fun t b _ kept => ?_
  by_cases same : b = g.val
  · rw [same, own]
  · refine (State.fld_put_other _ _ _ _ ?_).trans kept
    simp only [Fld.key, LE_G_GRP_ENGINE]
    omega

/-- A program that passes: IDLE with its worst case, its groups the engine's. -/
theorem checkEnd_passes_shows (checking : s.fld (LE_STAT_STATE e) = 1) (good : (checkProg (progOf s e)).code = 0)
    (free : groupOwned s e (progOf s e).mask = false) : (checkEnd s e).fld (LE_STAT_STATE e) = 2 ∧
    (checkEnd s e).fld (LE_STAT_CHECK_CODE e) = 0 ∧ (checkEnd s e).words = s.words ∧
    (checkEnd s e).fld (LE_WCET_A_CYCLES e) = (checkProg (progOf s e)).wcetA % 2 ^ (LE_WCET_A_CYCLES e).width ∧
    ∀ g : Fin 12, (progOf s e).mask.testBit g = true → (checkEnd s e).fld (LE_G_GRP_ENGINE g) = e.val := by
  generalize result : checkProg (progOf s e) = r at *
  rw [checkEnd_good checking result good, if_neg (by rw [groupOwned_passed, free]; decide)]
  have taken : MeasureStep (fun k => k < 0x60000000 * 32) (passed s e r) (groupsTaken (passed s e r) e (progOf s e).mask) :=
    groupsTaken_step _ _ _ fun g _ => by simp only [Fld.key, LE_G_GRP_ENGINE]; omega
  have low {f : Fld} (own : leKey e f.key) (other : f.key ≠ (LE_STAT_STATE e).key) :
      ((groupsTaken (passed s e r) e (progOf s e).mask).put (LE_STAT_STATE e) 2).fld f = (passed s e r).fld f :=
    (State.fld_put_other _ _ _ _ other).trans (taken.spares.fld _ (leKey_low e.isLt own))
  simp only [State.fld_finish, State.finish_words, State.put_words]
  refine ⟨State.fld_put_same _ _ _, ?_, taken.words.trans (passed_step (K := fun _ => False) id id id id).words, ?_, fun g named => ?_⟩
  · rw [low (by simp [leKey]) (by simp), passed_code, good]
    rfl
  · rw [low (by simp [leKey]) (by simp), passed_wcetA]
  · refine (State.fld_put_other _ _ _ _ ?_).trans (groupsTaken_owner _ e named)
    simp only [Fld.key, LE_G_GRP_ENGINE, LE_STAT_STATE]
    omega

end

end Sys2Proof.Machine
end

section

/-! SUPPORT of the runs of a loop engine (chapter 07, R189-R193): their begin, their triggers and their overruns. -/

namespace Sys2Proof.Machine

/-! ### Tracing (R511) -/

theorem State.trace_frame {β : Type} {q : State → β} (bytes : ∀ s b, q { s with bytes := b } = q s)
    (put : ∀ s f v, q (State.put s f v) = q s)
    (s : State) (src code : Nat) (data : List Nat) : q (s.trace src code data) = q s := by
  unfold State.trace
  extract_lets size pos padded bytes_ stored moved
  split
  · have kept : q stored = q s := State.setBytes_frame (p := q) bytes s _ _
    clear_value stored
    exact ((State.when_frame (p := q) fun t => put t _ _).trans (put stored _ _)).trans kept
  · rfl

theorem MeasureStep.trace {K : Nat → Prop} {r s : State} (h : MeasureStep K r s) (src code : Nat) (data : List Nat)
    (wptr : ¬ K TST_TRC_WPTR.key) (wrapped : ¬ K TST_TRC_WPTR_WRAPPED.key) : MeasureStep K r (s.trace src code data) := by
  have watch : SameWatch s (s.trace src code data) := by
    unfold State.trace
    extract_lets size pos padded bytes_ stored moved
    split
    · have kept : (stored.regs, stored.waits, called stored) = (s.regs, s.waits, called s) :=
        State.setBytes_frame (p := fun t => (t.regs, t.waits, called t)) (fun _ _ => rfl) s _ _
      clear_value stored
      have same := SameWatch.of_regs (congrArg Prod.fst kept) (congrArg (fun p => p.2.1) kept) (congrArg (fun p => p.2.2) kept)
      have moves : SameWatch stored moved := .put stored TST_TRC_WPTR _ (by decide)
      have wraps : SameWatch moved (moved.when (decide (size ≤ pos + 16)) fun t => t.putFlag TST_TRC_WPTR_WRAPPED true) :=
        .ite (.put moved TST_TRC_WPTR_WRAPPED _ (by decide)) (.refl moved)
      exact same.trans (moves.trans wraps)
    · exact .refl s
  exact h.trans ⟨watch, (Spares.refl s).trace wptr wrapped,
    State.trace_frame (q := State.words) (fun _ _ => rfl) (fun _ _ _ => rfl) s src code data⟩

/-! ### The begin of a run (R189) -/

/-- The engine as its run begins. -/
def runStarted (s : State) (e : Nat) (b : Bool) (fired : Nat) : Eng :=
  { se := (progOf s e).initSe b, pc := (progOf s e).entry b, budget := (progOf s e).declared b, trig := fired, tbl := tblNow s e,
    flight := (s.engOf e).flight }

/-- The fields that the begin of a run writes. -/
def startFields (e fired : Nat) : List (Fld × Nat) := [(LE_STAT_STATE e, 3), (LE_TRG_TIME_T e, fired)]

section
variable {s t : State} (words : t.words = s.words)
include words

theorem entry_congr (e : Nat) (b : Bool) : (progOf t e).entry b = (progOf s e).entry b := by
  simp only [LeProg.entry, progOf, State.word_congr words]

theorem declared_congr (e : Nat) (b : Bool) : (progOf t e).declared b = (progOf s e).declared b := by
  simp only [LeProg.declared, progOf, State.word_congr words]

end

theorem takeSwap_eng (s : State) (e : Nat) : (takeSwap s e).eng = s.eng := by
  unfold takeSwap
  split <;> rfl

section
variable (s : State) (e : Fin 32) (b : Bool) (fired : Nat)

/-- What stands when a run begins. -/
theorem beginRun_step {K : Nat → Prop} (state : ¬ K (LE_STAT_STATE e).key) (bank : ¬ K (LE_STAT_BANK e).key)
    (pend : ¬ K (LE_STAT_SWAP_PEND e).key) (time : ¬ K (LE_TRG_TIME_T e).key) : MeasureStep K s (beginRun s e b fired) :=
  ((((MeasureStep.refl s).takeSwap e.isLt bank pend).setEng _).putLe e.isLt state).putLe e.isLt time

theorem beginRun_out : (beginRun s e b fired).out = s.out := takeSwap_out s e

theorem beginRun_state : (beginRun s e b fired).fld (LE_STAT_STATE e) = 3 :=
  State.fld_putAll_mem (l := startFields e fired) (by simp [startFields]) (.head _) _

/-- The engine as its run has begun. -/
theorem beginRun_engine : let x := (beginRun s e b fired).engOf e
    x.pc = (progOf s e).entry b ∧ x.budget = (progOf s e).declared b ∧ x.trig = fired ∧ x.cycles = 0 ∧ x.flight = (s.engOf e).flight := by
  have swapped := (MeasureStep.takeSwap (K := fun _ => False) e.isLt (.refl s) id id).words
  have own : (beginRun s e b fired).engOf e = runStarted (takeSwap s e) e b fired := State.engOf_setEng_same _ _ _
  have flight : (runStarted (takeSwap s e) e b fired).flight = (s.engOf e).flight := by
    rw [runStarted, State.engOf_congr (takeSwap_eng s e) e]
  rw [own]
  exact ⟨entry_congr swapped e b, declared_congr swapped e b, rfl, rfl, flight⟩

end

/-! ### Triggers (R189-R191) -/

/-- Two triggers at once are counted. -/
def collided (s : State) (e : Nat) (both : Bool) : State := s.when both fun s => s.inc (LE_CNT_MISC_COLLIDE e)

section
variable {s : State} {e events fired : Nat}

theorem engineTrigger_none (a : trigA s e events = false) (b : trigB s e events = false) : engineTrigger s e events fired = s :=
  if_pos (by simp [a, b])

theorem engineTrigger_other (idle : s.fld (LE_STAT_STATE e) ≠ 2) (run : s.fld (LE_STAT_STATE e) ≠ 3) : engineTrigger s e events fired = s :=
  if_pos (by simp [idle, run])

theorem engineTrigger_idle (idle : s.fld (LE_STAT_STATE e) = 2) (some : (trigA s e events || trigB s e events) = true) :
    engineTrigger s e events fired =
      beginRun (collided s e (trigA s e events && trigB s e events)) e (!trigA s e events) fired := by
  unfold engineTrigger
  dsimp only
  have taken : ¬ (!trigA s e events && !trigB s e events ||
      decide (s.fld (LE_STAT_STATE e) ≠ 2) && decide (s.fld (LE_STAT_STATE e) ≠ 3)) = true := by
    cases a : trigA s e events <;> simp_all
  rw [if_neg taken, if_pos idle]
  rfl

theorem collided_eng (s : State) (e : Nat) (both : Bool) : (collided s e both).eng = s.eng := State.when_frame (p := State.eng) fun _ => rfl

theorem engineTrigger_late (run : s.fld (LE_STAT_STATE e) = 3) (first : trigA s e events = true) (stays : (s.engOf e).disarm = false) :
    engineTrigger s e events fired = beginRun (countOverrun (collided s e (trigB s e events)) e 1) e false fired := by
  have kept : ¬ ((collided s e (trigB s e events)).engOf e).disarm = true := by rw [State.engOf_congr (collided_eng ..), stays]; decide
  unfold engineTrigger
  dsimp only
  rw [if_neg (by simp [run, first]), if_neg (by rw [run]; decide), first, Bool.true_and]
  exact if_neg kept

end

/-! ### Overruns (R191, R192) -/

/-- The fields that an overrun writes beside its counter. -/
def overrunFields (s : State) (e kind : Nat) : List (Fld × Nat) :=
  [(LE_STAT_LAST_OVR e, kind), (LE_STAT_ORUN_SEQ e, s.fld (LE_STAT_ORUN_SEQ e) + 1)]

theorem countOverrun_few {s : State} {e kind : Nat} (few : s.fld (LE_STAT_ORUN_SEQ e) < 2) : countOverrun s e kind =
    (((s.inc (if kind = 1 then LE_CNT_OVR_LATE_CNT e else LE_CNT_OVR_BUDGET_CNT e)).putAll (overrunFields s e kind)).trace 2 0 [e, kind]).leIrq e
      (LE_CFG_OVR_IE e) 1 := by
  have orun : (s.inc (if kind = 1 then LE_CNT_OVR_LATE_CNT e else LE_CNT_OVR_BUDGET_CNT e)).fld (LE_STAT_ORUN_SEQ e) = s.fld (LE_STAT_ORUN_SEQ e) :=
    State.fld_put_other _ _ _ _ (by split <;> simp)
  have third : ¬ min 3 (s.fld (LE_STAT_ORUN_SEQ e) + 1) = 3 := by omega
  unfold countOverrun
  dsimp only
  rw [orun, decide_eq_false third, Nat.min_eq_right (by omega)]
  rfl

/-- An overrun that is not the third in a row: it is counted and named. -/
theorem countOverrun_shows (s : State) (e : Fin 32) {kind : Nat} (kinds : kind < 4) (few : s.fld (LE_STAT_ORUN_SEQ e) < 2) :
    MeasureStep (fun _ => False) s (countOverrun s e kind) ∧ (countOverrun s e kind).fld (LE_STAT_LAST_OVR e) = kind ∧
    (countOverrun s e kind).fld (LE_STAT_ORUN_SEQ e) = s.fld (LE_STAT_ORUN_SEQ e) + 1 ∧ (countOverrun s e kind).eng = s.eng := by
  rw [countOverrun_few few]
  generalize counted : s.inc (if kind = 1 then LE_CNT_OVR_LATE_CNT e else LE_CNT_OVR_BUDGET_CNT e) = t
  have step : MeasureStep (fun _ => False) s t := by
    rw [← counted]
    split <;> exact (MeasureStep.refl s).putLe e.isLt not_false
  have told {f : Fld} {v : Nat} (mem : (f, v) ∈ overrunFields s e kind) (kept : leKey e f.key) :
      (((t.putAll (overrunFields s e kind)).trace 2 0 [e, kind]).leIrq e (LE_CFG_OVR_IE e) 1).fld f = v % 2 ^ f.width := by
    have traced : MeasureStep (fun k => k < 0x60000000 * 32) (t.putAll (overrunFields s e kind))
        ((t.putAll (overrunFields s e kind)).trace 2 0 [e, kind]) :=
      (MeasureStep.refl _).trace 2 0 [e.val, kind] (by decide) (by decide)
    exact (State.fld_congr (leIrq_regs ..) f).trans ((traced.spares.fld f (leKey_low e.isLt kept)).trans
      (State.fld_putAll_mem (by simp [overrunFields]) mem t))
  refine ⟨((step.putAllLe e.isLt (by simp [overrunFields, leKey]) fun _ _ => not_false).trace _ _ _ not_false not_false).leIrq _ _,
    (told (.head _) (by simp [leKey])).trans (Nat.mod_eq_of_lt kinds),
    (told (.tail _ (.head _)) (by simp [leKey])).trans (Nat.mod_eq_of_lt (show _ < 4 by omega)), ?_⟩
  rw [leIrq_eng, State.trace_frame (q := State.eng) (fun _ _ => rfl) (fun _ _ _ => rfl),
    State.putAll_frame (p := State.eng) (fun _ _ _ => rfl), ← counted]
  rfl

/-- An overrun of the budget that is not the third in a row leads to IDLE. -/
theorem budgetOverrun_shows {s : State} {e : Fin 32} (run : s.fld (LE_STAT_STATE e) = 3) (out : budgetOut s e = true) (none : libId s e = none)
    (stays : (s.engOf e).disarm = false) (few : s.fld (LE_STAT_ORUN_SEQ e) < 2) :
    MeasureStep (fun _ => False) s (budgetOverrun s e) ∧ (budgetOverrun s e).fld (LE_STAT_STATE e) = 2 ∧
    (budgetOverrun s e).fld (LE_STAT_LAST_OVR e) = 2 ∧
    (budgetOverrun s e).fld (LE_STAT_ORUN_SEQ e) = s.fld (LE_STAT_ORUN_SEQ e) + 1 := by
  have shape : budgetOverrun s e = (countOverrun s e 2).put (LE_STAT_STATE e) 2 := by simp [budgetOverrun, run, out, none, stays]
  obtain ⟨step, last, orun, -⟩ := countOverrun_shows s e (kind := 2) (by decide) few
  rw [shape]
  exact ⟨step.putLe e.isLt not_false, State.fld_put_same _ _ _, (State.fld_put_other _ _ _ _ (by simp)).trans last,
    (State.fld_put_other _ _ _ _ (by simp)).trans orun⟩

theorem budgetOverrun_none {s : State} {e : Nat} (within : budgetOut s e = false ∨ ∃ id, libId s e = some id) : budgetOverrun s e = s := by
  refine if_neg ?_
  obtain inside | ⟨id, library⟩ := within
  · simp [inside]
  · simp [library]

/-! ### A trigger that begins a run -/

theorem collided_step {K : Nat → Prop} (s : State) (e : Fin 32) (both : Bool) (free : ¬ K (LE_CNT_MISC_COLLIDE e).key) :
    MeasureStep K s (collided s e both) := (MeasureStep.refl s).when fun _ h => h.putLe e.isLt free

theorem collided_out (s : State) (e : Nat) (both : Bool) : (collided s e both).out = s.out := State.when_frame (p := State.out) fun _ => rfl

section
variable {s : State} {e : Fin 32} {events fired : Nat}

/-- In IDLE: the run of the entry of the trigger taken. -/
theorem engineTrigger_idle_shows (idle : s.fld (LE_STAT_STATE e) = 2) {b : Bool} (taken : trigA s e events = !b)
    (other : b = true → trigB s e events = true) :
    let t := engineTrigger s e events fired
    MeasureStep (fun _ => False) s t ∧ t.fld (LE_STAT_STATE e) = 3 ∧ (t.engOf e).pc = (progOf s e).entry b ∧
    (t.engOf e).budget = (progOf s e).declared b ∧ (t.engOf e).trig = fired ∧ (t.engOf e).cycles = 0 ∧
    (t.engOf e).flight = (s.engOf e).flight ∧ t.out = s.out := by
  have some : (trigA s e events || trigB s e events) = true := by cases b <;> simp_all
  have before := collided_step (K := fun _ => False) s e (trigA s e events && trigB s e events) id
  obtain ⟨pc, budget, trig, cycles, flight⟩ := beginRun_engine (collided s e (trigA s e events && trigB s e events)) e b fired
  rw [engineTrigger_idle idle some, show (!trigA s e events) = b by rw [taken, Bool.not_not]]
  exact ⟨before.trans (beginRun_step _ e b fired id id id id), beginRun_state .., pc.trans (entry_congr before.words ..),
    budget.trans (declared_congr before.words ..), trig, cycles, flight.trans (by rw [State.engOf_congr (collided_eng ..)]),
    (beginRun_out ..).trans (collided_out ..)⟩

/-- In RUN: a LATE overrun that is not the third in a row, and the run of entry A. -/
theorem engineTrigger_late_shows (run : s.fld (LE_STAT_STATE e) = 3) (first : trigA s e events = true) (stays : (s.engOf e).disarm = false)
    (few : s.fld (LE_STAT_ORUN_SEQ e) < 2) : let t := engineTrigger s e events fired
    MeasureStep (fun _ => False) s t ∧ t.fld (LE_STAT_STATE e) = 3 ∧ t.fld (LE_STAT_LAST_OVR e) = 1 ∧
    t.fld (LE_STAT_ORUN_SEQ e) = s.fld (LE_STAT_ORUN_SEQ e) + 1 ∧ (t.engOf e).pc = (progOf s e).entry false := by
  have before := collided_step (K := fun k => k = (LE_STAT_ORUN_SEQ e).key) s e (trigB s e events) (by simp)
  have same := before.spares.fld _ rfl
  obtain ⟨step, last, orun, -⟩ := countOverrun_shows (collided s e (trigB s e events)) e (kind := 1) (by decide) (same ▸ few)
  obtain ⟨pc, -⟩ := beginRun_engine (countOverrun (collided s e (trigB s e events)) e 1) e false fired
  have begun := beginRun_step (countOverrun (collided s e (trigB s e events)) e 1) e false fired
    (K := fun k => k = (LE_STAT_LAST_OVR e).key ∨ k = (LE_STAT_ORUN_SEQ e).key) (by simp) (by simp) (by simp) (by simp)
  have all := (collided_step (K := fun _ => False) s e (trigB s e events) id).trans step
  rw [engineTrigger_late run first stays]
  exact ⟨all.trans (beginRun_step _ e false fired id id id id), beginRun_state .., (begun.spares.fld _ (.inl rfl)).trans last,
    (begun.spares.fld _ (.inr rfl)).trans (orun.trans (by rw [same])), pc.trans (entry_congr all.words ..)⟩

end

end Sys2Proof.Machine
end

section

/-! SUPPORT of the library programs in a loop engine (R212, R234-R237): what the work of a run commits and leaves alone. -/

namespace Sys2Proof.Machine

/-! ### The duties of field-oriented control -/

theorem svmDuties_length (al be : Int) (err : Nat) : (svmDuties al be err).length = 3 := by simp [svmDuties]

/-- Three duties of each set; in ASC_HOLD all of them full or 0. -/
theorem focRun_duties (s : State) (e : Nat) (dual : Bool) (open_ err : Nat) :
    (focRun s e dual open_ err).duties.length = 3 * (if dual then 2 else 1) ∧
    ((s.word (dataAddr e 0x068)).toNat.testBit 2 = true → (focRun s e dual open_ err).duties =
      List.replicate (3 * (if dual then 2 else 1)) (if (s.word (dataAddr e 0x068)).toNat.testBit 3 then maxM else 0)) := by
  unfold focRun
  extract_lets _ flags _ _ zero _ _ _ _ vdc _ _ th th2 _ _ _ _ _ _ _ _ _ _ _ _ _ _ _ vd vq duties
  have hold (angle : Int) (held : flags.testBit 2 = true) : duties angle = List.replicate 3 (if flags.testBit 3 then maxM else 0) := if_pos held
  have three (angle : Int) : (duties angle).length = 3 := by
    unfold duties
    split
    · exact List.length_replicate
    · split
      · exact List.length_replicate
      · exact svmDuties_length ..
  refine ⟨?_, fun held => ?_⟩
  · cases dual <;> simp [three]
  · rw [hold _ held, hold _ held]
    cases dual <;> rfl

/-! ### What the work of a run leaves alone -/

/-- From `s` to `t` stand: what other blocks look at, the state of engine `e`, and the engines. -/
structure LibStep (e : Nat) (s t : State) : Prop where
  watch : SameWatch s t
  state : t.fld (LE_STAT_STATE e) = s.fld (LE_STAT_STATE e)
  eng : t.eng = s.eng

section
variable {e : Nat} {r s t : State}

theorem LibStep.refl (s : State) : LibStep e s s := ⟨.refl s, rfl, rfl⟩

theorem LibStep.trans (h : LibStep e r s) (k : LibStep e s t) : LibStep e r t :=
  ⟨h.watch.trans k.watch, k.state.trans h.state, k.eng.trans h.eng⟩

theorem LibStep.setWord (h : LibStep e r s) (a : Nat) (w : Word36) : LibStep e r (s.setWord a w) :=
  h.trans ⟨.of_regs rfl rfl rfl, rfl, rfl⟩

theorem LibStep.setLib (h : LibStep e r s) (l : Lib) : LibStep e r (s.setLib e l) := h.trans ⟨.of_regs rfl rfl rfl, rfl, rfl⟩

theorem LibStep.libStore (h : LibStep e r s) (trig err : Nat) (o : Nat × Int × Int) : LibStep e r (libStore s e trig err o) :=
  (h.setWord _ _).setWord _ _

theorem LibStep.evtRaise (small : e < 32) (h : LibStep e r s) (code : Nat) : LibStep e r (evtRaise s e code) :=
  have ⟨step, _, _, eng⟩ := evtRaise_shows small s code
  h.trans ⟨step.watch, step.spares.fld _ rfl, eng⟩

theorem LibStep.each {α : Type} {f : State → α → State} {l : List α} (h : LibStep e r s)
    (turn : ∀ t a, LibStep e r t → LibStep e r (f t a)) :
    LibStep e r (s.each l f) := by
  induction l generalizing s with
  | nil => exact h
  | cons a l ih => exact ih (turn s a h)

theorem LibStep.when {c : Bool} {f : State → State} (h : LibStep e r s) (act : ∀ t, LibStep e r t → LibStep e r (f t)) :
    LibStep e r (s.when c f) := by
  cases c
  · exact h
  · exact act s h

theorem LibStep.libEvents (small : e < 32) (h : LibStep e r s) (old new : Nat) : LibStep e r (libEvents s e old new) :=
  h.each fun _ c k => k.evtRaise small c

/-- The run of program 0x0001 or 0x0002 commits its duties in one set without PER; the rest of its work touches neither the engines nor
their states. -/
theorem libWork_foc (small : e < 32) (s : State) {id : Nat} (foc : id ≤ 2) (entryB : Bool) : ∃ x d,
    LibStep e ((s.freshFrom 1024).2.setEng e x) (libWork s e id entryB) ∧ x.flight = (s.engOf e).flight ++ [d] ∧ d.period = none ∧
    d.duties = (focRun (s.freshFrom 1024).2 e (id = 2) ((s.freshFrom 1024).1 0) ((s.freshFrom 1024).1 1)).duties := by
  unfold libWork
  dsimp only
  rw [if_pos foc]
  exact ⟨_, _, ((((LibStep.refl _).each fun _ o h => h.libStore _ _ o).when fun _ h => h.each fun _ _ k => k.setWord _ _).setLib _).libEvents
    small _ _, rfl, rfl, rfl⟩

end

/-! ### The trigger of a library program -/

section
variable {s : State} {e : Fin 32} {events fired : Nat}

theorem triggerRun_none (own : libId s e = none) : triggerRun s e events fired = engineTrigger s e events fired := by
  unfold triggerRun
  rw [own]

/-- Events that begin no run. -/
theorem triggerRun_unmoved (none : runTaken s e events = false) (same : engineTrigger s e events fired = s) :
    triggerRun s e events fired = s := by
  unfold triggerRun
  cases libId s e with
  | none => exact same
  | some id => rw [none, same]; rfl

theorem triggerRun_untriggered (a : trigA s e events = false) (b : trigB s e events = false) : triggerRun s e events fired = s :=
  triggerRun_unmoved (by simp [runTaken, a, b]) (engineTrigger_none a b)

theorem triggerRun_other (idle : s.fld (LE_STAT_STATE e) ≠ 2) (run : s.fld (LE_STAT_STATE e) ≠ 3) : triggerRun s e events fired = s :=
  triggerRun_unmoved (by simp [runTaken, idle, run]) (engineTrigger_other idle run)

theorem triggerRun_library {id : Nat} (idle : s.fld (LE_STAT_STATE e) = 2) (library : libId s e = some id) (a : trigA s e events = true) :
    triggerRun s e events fired = libWork (engineTrigger s e events fired) e id false := by
  unfold triggerRun
  rw [library]
  dsimp only
  rw [if_pos (by simp [runTaken, a, idle]), a]
  rfl

/-- A run of program 0x0001 or 0x0002 commits one set of three or six duties. -/
theorem triggerRun_foc {id : Nat} (idle : s.fld (LE_STAT_STATE e) = 2) (library : libId s e = some id) (a : trigA s e events = true)
    (foc : id = 1 ∨ id = 2) : let t := triggerRun s e events fired
    SameWatch s t ∧ t.fld (LE_STAT_STATE e) = 3 ∧ (t.engOf e).flight.dropLast = (s.engOf e).flight ∧
    (t.engOf e).flight.getLast?.map (fun f => (f.duties.length, f.period)) = some (3 * id, none) ∧
    ((s.word (dataAddr e 0x068)).toNat.testBit 2 = true → (t.engOf e).flight.getLast?.map (·.duties) =
      some (List.replicate (3 * id) (if (s.word (dataAddr e 0x068)).toNat.testBit 3 then maxM else 0))) := by
  obtain ⟨step, state, -, -, -, -, flight, -⟩ := engineTrigger_idle_shows (b := false) (fired := fired) idle a nofun
  rw [triggerRun_library idle library a]
  generalize engineTrigger s e events fired = u at *
  obtain ⟨x, d, work, sent, period, duties⟩ := libWork_foc e.isLt u (show id ≤ 2 by omega) false
  have sets : (if decide (id = 2) = true then 2 else 1) = id := by obtain rfl | rfl := foc <;> rfl
  obtain ⟨three, hold⟩ := focRun_duties (u.freshFrom 1024).2 e (id = 2) ((u.freshFrom 1024).1 0) ((u.freshFrom 1024).1 1)
  have flags : (u.freshFrom 1024).2.word (dataAddr e 0x068) = s.word (dataAddr e 0x068) := step.word _
  have fresh : SameWatch u ((u.freshFrom 1024).2.setEng e x) := .of_regs rfl rfl rfl
  have line : ((libWork u e id false).engOf e).flight = (s.engOf e).flight ++ [d] := by
    rw [State.engOf_congr work.eng, State.engOf_setEng_same, sent, flight]
  rw [sets, ← duties] at three hold
  rw [flags] at hold
  refine ⟨step.watch.trans (fresh.trans work.watch), work.state.trans state, ?_, ?_, fun held => ?_⟩
  · rw [line, List.dropLast_concat]
  · rw [line, List.getLast?_concat, Option.map_some, three, period]
  · rw [line, List.getLast?_concat, Option.map_some, hold held]

end

end Sys2Proof.Machine
end

section

/-! SUPPORT and PROOF of O36 (chapter 07): the commands, the triggers and the words of a loop engine as the model executes them. -/

namespace Sys2Proof.Machine

section
variable {s : State} {e : Fin 32} (quiet : s.quiet = true)
include quiet

/-! ### Commands -/

section
variable (p : Fin 12) (up : s.allUp = true) (open_ : bankShut s (0x40014000 + 0x20000 * e.val) = false)
include up open_

theorem exec_engineArm_busy (busy : s.fld (LE_STAT_STATE e) ≠ 0) : exec (.engineArm (.pair p) e) s = .next (s.leRefuse e .LE_BUSY) := by
  rw [exec_engineArm p up open_, engineArm_busy busy, settle_quiet quiet ((MeasureStep.refl s).leRefuse (K := fun _ => False) _ id id id).watch]

theorem exec_engineArm_off (off : s.fld (LE_STAT_STATE e) = 0) (bank : (s.fld PWR_RET_LOST_LO_BANKS).testBit (24 + e.val / 4) = false) :
    exec (.engineArm (.pair p) e) s = .next ((s.put (LE_STAT_STATE e) 1).put (LE_CYC_MAX e) 0) := by
  have step : MeasureStep (fun _ => False) s ((s.put (LE_STAT_STATE e) 1).put (LE_CYC_MAX e) 0) :=
    ((MeasureStep.refl s).putLe e.isLt id).putLe e.isLt id
  rw [exec_engineArm p up open_, engineArm_off off bank, settle_quiet quiet step.watch]

theorem exec_commands_off (off : s.fld (LE_STAT_STATE e) = 0) : exec (.engineDisarm (.pair p) e) s = .next s ∧
    exec (.engineStop (.pair p) e) s = .next s ∧
    exec (.engineSwap (.pair p) e) s = .next (s.put (LE_STAT_BANK e) (1 - s.fld (LE_STAT_BANK e))) := by
  have swapped : MeasureStep (fun _ => False) s (s.put (LE_STAT_BANK e) (1 - s.fld (LE_STAT_BANK e))) := (MeasureStep.refl s).putLe e.isLt id
  rw [exec_engineDisarm p up open_, exec_engineStop p up open_, exec_engineSwap p up open_, engineDisarm_off off, engineStop_off off,
    engineSwap_off off, settle_quiet quiet (.refl s), settle_quiet quiet swapped.watch]
  exact ⟨rfl, rfl, rfl⟩

theorem exec_engineDisarm_run (run : s.fld (LE_STAT_STATE e) = 3) :
    exec (.engineDisarm (.pair p) e) s = .next (s.setEng e { s.engOf e with disarm := true }) := by
  rw [exec_engineDisarm p up open_, engineDisarm_run run]
  exact congrArg _ (settle_quiet quiet (.of_regs rfl rfl rfl))

theorem exec_engineSwap_on (on : s.fld (LE_STAT_STATE e) ≠ 0) :
    exec (.engineSwap (.pair p) e) s = .next (s.put (LE_STAT_SWAP_PEND e) 1) := by
  have pending : MeasureStep (fun _ => False) s (s.put (LE_STAT_SWAP_PEND e) 1) := (MeasureStep.refl s).putLe e.isLt id
  rw [exec_engineSwap p up open_, engineSwap_on on]
  exact congrArg _ (settle_quiet quiet pending.watch)

/-- STOP, and DISARM outside RUN, of an engine that is on. -/
theorem exec_engineStop_on (on : s.fld (LE_STAT_STATE e) ≠ 0) : ∃ t, exec (.engineStop (.pair p) e) s = .next t ∧
    (s.fld (LE_STAT_STATE e) ≠ 3 → exec (.engineDisarm (.pair p) e) s = .next t) ∧ t.fld (LE_STAT_STATE e) = 0 ∧
    t.fld (LE_STAT_ESCALATED e) = 0 ∧ t.fld (LE_STAT_SWAP_PEND e) = 0 ∧ t.words = s.words ∧ t.out = s.out ∧
    ∀ g : Fin 12, t.fld (LE_G_GRP_ENGINE g) = (if s.fld (LE_G_GRP_ENGINE g) = e.val then 63 else s.fld (LE_G_GRP_ENGINE g)) := by
  have abandoned : MeasureStep (fun _ => True) s (abandonCheck s e) := (MeasureStep.refl s).abandonCheck
  have off : MeasureStep (fun _ => False) (abandonCheck s e) (engineOff (abandonCheck s e) e) :=
    (MeasureStep.refl _).engineOff e.isLt fun _ _ => id
  have out : (abandonCheck s e).out = s.out := by unfold abandonCheck; split <;> rfl
  have settled := settle_quiet quiet (abandoned.watch.trans off.watch)
  refine ⟨engineOff (abandonCheck s e) e, ?_, fun idle => ?_, (engineOff_state _ e).2, engineOff_escalated .., engineOff_pend ..,
    off.words.trans abandoned.words, (engineOff_out ..).trans out, fun g => ?_⟩
  · rw [exec_engineStop p up open_, engineStop_on on, settled]
  · rw [exec_engineDisarm p up open_, engineDisarm_stops on idle, engineStop_on on, settled]
  · rw [engineOff_groups, abandoned.spares.fld _ trivial]

end

/-! ### Triggers and ends -/

theorem exec_engineTrigger (ev : Fin 104) (others : BitVec 104) (fired : Time)
    (same : SameWatch s (triggerRun s e (setBit others.toNat ev) fired.toNat)) :
    exec (.engineTrigger e ev others fired) s = .next (triggerRun s e (setBit others.toNat ev) fired.toNat) :=
  congrArg Host.Outcome.next (settle_quiet quiet same)

theorem exec_engineTrigger_unmoved (ev : Fin 104) (others : BitVec 104) (fired : Time)
    (unmoved : triggerRun s e (setBit others.toNat ev) fired.toNat = s) : exec (.engineTrigger e ev others fired) s = .next s :=
  congrArg Host.Outcome.next ((congrArg (settle s) unmoved).trans (settle_quiet quiet (.refl s)))

theorem exec_budgetOverrun (same : SameWatch s (budgetOverrun s e)) : exec (.budgetOverrun e) s = .next (budgetOverrun s e) :=
  congrArg Host.Outcome.next (settle_quiet quiet same)

theorem exec_budgetOverrun_none (within : budgetOut s e = false ∨ ∃ id, libId s e = some id) : exec (.budgetOverrun e) s = .next s :=
  congrArg Host.Outcome.next ((congrArg (settle s) (budgetOverrun_none within)).trans (settle_quiet quiet (.refl s)))

/-- The END of a library program. -/
theorem exec_leEnd_library {id : Nat} (library : libId s e = some id) (run : s.fld (LE_STAT_STATE e) = 3)
    (stays : (s.engOf e).disarm = false) : ∃ t, exec (.leEnd e .clean) s = .next t ∧ t.fld (LE_STAT_STATE e) = 2 ∧
    t.fld (LE_STAT_ORUN_SEQ e) = 0 ∧ t.words = s.words := by
  have ends : endRun s e .clean = runEnd s e := by simp [endRun, library, run, State.when]
  obtain ⟨step, state, orun, -, -⟩ := runEnd_shows e.isLt stays
  exact ⟨_, congrArg Host.Outcome.next ((congrArg (settle s) ends).trans (settle_quiet quiet step.watch)), state, orun, step.words⟩

/-- A corrected word is counted. -/
theorem exec_leNop_corrected (at_ : s.atOp e .nop) : ∃ t, exec (.leNop e .corrected) s = .next t ∧
    t.fld (LE_CNT_ECC_CORR e) = min (s.fld (LE_CNT_ECC_CORR e) + 1) (2 ^ (LE_CNT_ECC_CORR e).width - 1) ∧ t.words = s.words := by
  have counted : MeasureStep (fun _ => False) (advanced s e .nop) ((advanced s e .nop).inc (LE_CNT_ECC_CORR e)) :=
    (MeasureStep.refl _).putLe e.isLt id
  have same := ((EngineStep.advanced s e .nop).watch e.isLt).trans (counted.watch.trans ((EngineStep.refl _).looped.watch e.isLt))
  have after := leStep_corrected at_ (sem := leNop) rfl
  refine ⟨_, congrArg Host.Outcome.next ((congrArg (settle s) after).trans (settle_quiet quiet same)), ?_, rfl⟩
  exact (State.fld_put_same _ _ _).trans (Nat.mod_eq_of_lt (Nat.lt_of_le_of_lt (Nat.min_le_right ..) (by simp [LE_CNT_ECC_CORR])))

end

/-- Settles O36, each command through what the model executes for it: the entry into OFF, the check, the begin of a run, an overrun. -/
theorem engineStates : Obligations.EngineStates := by
  intro s p e ev others fired quiet up open_
  refine ⟨exec_engineArm_busy quiet p up open_, exec_engineArm_off quiet p up open_, exec_commands_off quiet p up open_,
    exec_engineDisarm_run quiet p up open_, fun on => ⟨exec_engineSwap_on quiet p up open_ on, exec_engineStop_on quiet p up open_ on⟩,
    fun other => congrArg Host.Outcome.next (checkEnd_other other), fun checking bad => ⟨_, rfl, checkEnd_fails_shows checking bad⟩,
    fun checking good owned => ⟨_, rfl, checkEnd_owned_shows checking good owned⟩,
    fun checking good free => ⟨_, rfl, checkEnd_passes_shows checking good free⟩,
    fun idle run => exec_engineTrigger_unmoved quiet ev others fired (triggerRun_other idle run),
    fun a b => exec_engineTrigger_unmoved quiet ev others fired (triggerRun_untriggered a b),
    fun idle own a b => ?_, fun idle own a => ?_, fun run own a stays few => ?_, fun id idle library a foc => ?_,
    fun id library => exec_budgetOverrun_none quiet (.inr ⟨id, library⟩),
    fun _ library run stays => exec_leEnd_library quiet library run stays,
    fun _ inside => exec_budgetOverrun_none quiet (.inl inside), fun run own out stays few => ?_,
    fun at_ => ⟨exec_leNop_corrected quiet at_, congrArg (fun t => Host.Outcome.next (settle s t)) (leStep_lostPrivate at_ rfl),
      congrArg (fun t => Host.Outcome.next (settle s t)) (leStep_lostTable at_ rfl)⟩⟩
  · obtain ⟨step, state, pc, budget, -, -, -, out⟩ := engineTrigger_idle_shows (b := true) (fired := fired.toNat) idle a fun _ => b
    rw [← triggerRun_none own] at *
    exact ⟨_, exec_engineTrigger quiet ev others fired step.watch, state, pc, budget, step.words, out⟩
  · obtain ⟨step, state, pc, budget, trig, cycles, -, out⟩ := engineTrigger_idle_shows (b := false) (fired := fired.toNat) idle a nofun
    rw [← triggerRun_none own] at *
    exact ⟨_, exec_engineTrigger quiet ev others fired step.watch, state, pc, trig, cycles, budget, step.words, out⟩
  · obtain ⟨step, state, last, orun, pc⟩ := engineTrigger_late_shows (fired := fired.toNat) run a stays few
    rw [← triggerRun_none own] at *
    exact ⟨_, exec_engineTrigger quiet ev others fired step.watch, state, last, orun, pc, step.words⟩
  · obtain ⟨same, shown⟩ := triggerRun_foc (fired := fired.toNat) idle library a foc
    exact ⟨_, exec_engineTrigger quiet ev others fired same, shown⟩
  · obtain ⟨step, state, last, orun⟩ := budgetOverrun_shows run out own stays few
    exact ⟨_, exec_budgetOverrun quiet step.watch, state, last, orun, step.words⟩

end Sys2Proof.Machine
end
